-- ==== Sys2Proof/Word.lean ====
section
/-! DEFINITION. The word types of the part and their plainest arithmetic (spec 00 R5, 05 "Operands and notation"). -/

namespace Sys2Proof

abbrev Byte := BitVec 8
abbrev Word := BitVec 64
abbrev VWord := BitVec 128

/-- sext of a 16-bit immediate to 64 bits (spec 05, "Operands and notation"). -/
def sext16 (x : BitVec 16) : Word := x.signExtend 64

/-- zext of a 16-bit immediate to 64 bits. -/
def zext16 (x : BitVec 16) : Word := x.zeroExtend 64

/-- Sign-extension of a 32-bit result (spec 05 R93). -/
def sext32 (x : BitVec 32) : Word := x.signExtend 64

/-- Bits [31:0] of a word. -/
def lo32 (x : Word) : BitVec 32 := x.truncate 32

end Sys2Proof
end

