-- ==== Sys2Proof/Syntax.lean ====
section
/-! DEFINITION. The commands of the block: one constructor for each row of the operation table, with its operands.
An operand is what the row's text leaves to the outside: who writes and what, which unit, which outcome of a check
that hardware outside this model makes (a signature, a flit's CRC), and what a pin, sensor or packet brings. -/

namespace Sys2Proof

/-- A processor that executes Herok instructions: the cores execute all of Herok, the Infusers and the Caddy
Herok-I (spec 04, 16 R342, 20 R414). -/
inductive Proc where
  | core (c : Fin 16)
  | infuser (i : Fin 32)
  | caddy
  deriving DecidableEq, Repr

/-- A processor's place in State: cores 0 to 15, Infusers 16 to 47, the Caddy 48. -/
def Proc.ix : Proc → Nat
  | .core c => c.val
  | .infuser i => 16 + i.val
  | .caddy => 48

/-- Register number field of an instruction (spec 06 R127). -/
abbrev RegNo := Fin 32

/-- FP formats (spec 06 R131, 07 R151). -/
inductive Fmt where
  | h | w | d
  deriving DecidableEq, Repr

/-- SIMD element sizes (spec 06 R132). -/
inductive Esz where
  | b | h | w | d
  deriving DecidableEq, Repr

/-- Who makes an access to a register block, coded as R491 codes requester classes. -/
inductive Requester where
  | core (c : Fin 16)
  | fabric (link : Fin 34) (src : BitVec 18) (cmd : BitVec 4) (part : BitVec 6)
  | infuser (i : Fin 32)
  | engine (cls : Fin 8)
  | debugPort
  | caddy
  deriving DecidableEq, Repr

/-- A command packet (spec 13 R275, R276). `err`: its trailer as it is, xor the CRC-64 that it should hold (R283): 0 in a
packet that is whole. -/
structure Packet where
  cmd : BitVec 4
  sub : BitVec 4
  authpath : Bool
  path : Bool
  noack : Bool
  reserved : Bool
  hops : BitVec 8
  part : BitVec 6
  dst : BitVec 18
  src : BitVec 18
  rbudget : BitVec 28
  tag : BitVec 16
  len : BitVec 13
  addr : BitVec 36
  deadline : BitVec 64
  payload : List Byte
  err : BitVec 64
  deriving DecidableEq, Repr

/-- Types of flit (spec 12 R244, byte 73). -/
inductive FlitType where
  | data | idle | frame | replay | rekey
  deriving DecidableEq, Repr

/-- A flit as the receiver sees it after FEC: its type, sequence number, credit return, whether FEC corrected a
symbol, whether it could be corrected at all and its CRC-32 passed (spec 12 R244, R245). -/
structure Flit where
  seq : BitVec 12
  ftype : FlitType
  credit : BitVec 16
  corrected : Bool
  good : Bool
  deriving DecidableEq, Repr

/-- The content of a HELLO link frame (spec 12 R253, R254; for a mirror port 15 R316, R320, R341).
Versions are coded major in the upper four bits, minor in the lower four. -/
structure Hello where
  verLo : BitVec 8
  verHi : BitVec 8
  cap : BitVec 32
  serial : BitVec 64
  node : BitVec 18
  link : BitVec 5
  bond : BitVec 4
  digestSame : Bool
  deriving DecidableEq, Repr

/-- What the partner presents in the authentication of R258, and what its signatures verify against: the certificate
carries the owner's signature, or that of Evoeno's manufacturing key; the partner's device key signed the transcript; the
certificate is within its validity period; its serial number and roles. -/
structure AuthOutcome where
  ownerSigned : Bool
  makerSigned : Bool
  transcript : Bool
  inValidity : Bool
  serial : BitVec 64
  manager : Bool
  mirrorRole : Bool
  deriving DecidableEq, Repr

/-- The owner's signed policy, which travels in the Caddy firmware (spec 16, "Boot from slot A or slot B"; R350,
R357, R359; 12 NG_POLICY and NG_MGMTAUTH). -/
structure Policy where
  /-- channel, EN, PART, MINRING, mask of Strainers it may set -/
  channels : List (Nat × Nat × Nat × Nat × Nat)
  /-- source, PRIO, TARGETS, EDGE -/
  secure : List (Nat × Nat × Nat × Nat)
  legacyTrust : BitVec 32
  legacyTmo : BitVec 16
  /-- its measurement (R347) -/
  measure : Nat := 0
  /-- node IDs allowed to send MGMT writes, at most four -/
  mgmt : List (BitVec 18)
  deriving DecidableEq, Repr

/-- A Strainer region or window as STRAINER_SET carries it: index s, region, and the values of the control, range
and rate registers (spec 16 R355, R357; 13 ST_WINCTL, ST_WINRANGE, ST_WINRATE). -/
structure RegionBody where
  strainer : Fin 72
  region : Fin 64
  ctl : BitVec 64
  range : BitVec 64
  rate : BitVec 64
  deriving DecidableEq, Repr

/-- A debug certificate's fields (spec 23 R468). -/
structure Cert where
  version : BitVec 16
  level : BitVec 8
  lc : BitVec 8
  serial : BitVec 64
  pmask : BitVec 64
  notBefore : BitVec 64
  expiry : BitVec 64
  scope : BitVec 8
  reserved : BitVec 24
  sig : List Byte
  deriving DecidableEq, Repr

/-- What a scan measures where something lies on the panel (spec 21 R442 to R446): a number by which the same thing is
known in other scans, its position in 1/64 of the line pitch, the nodes it covers, its peak mutual signal in counts at
plain gain, and the greatest self signals of the drive lines and of the sense lines under it. -/
structure Contact where
  mark : Nat
  x : Fin 2560
  y : Fin 1792
  size : BitVec 8
  signal : BitVec 12
  selfDrive : BitVec 12
  selfSense : BitVec 12
  deriving DecidableEq, Repr

/-- The speeds of a USB port (R465): USB 2.0 full and high speed, USB 3.2 Gen 1×1. -/
inductive UsbSpeed where
  | full
  | high
  | gen1
  deriving DecidableEq, Repr

/-- An event on the bus of a USB port, which acts as a device (R465; the operands: log 97): a bus reset at a speed; the
host selects the one configuration, with `bulk` endpoints, or none; the host sends to or takes from a bulk endpoint whose
buffer is at a local offset; another event. -/
inductive UsbEvent where
  | reset (speed : UsbSpeed)
  | configure (bulk : Fin 9)
  | deconfigure
  | bulkOut (ep : Fin 8) (addr : BitVec 36) (bytes : List Byte)
  | bulkIn (ep : Fin 8) (addr : BitVec 36) (len : Nat)
  | other
  deriving DecidableEq, Repr

/-- The kinds of CSI-2 packet (spec 22 R452, R453). -/
inductive CsiKind where
  | line | other
  deriving DecidableEq, Repr

end Sys2Proof

namespace Sys2Proof

/-- The 415 commands: one constructor for each row of the operation table, in the table's order. -/
inductive Instr where
  /-- AON_MAIN_LOSS (R34). -/
  | aonMainLoss
  /-- COMPUTE_DOMAIN_ISOLATION (R41). -/
  | computeDomainIsolation
  /-- MIRROR_PORT_REDUCED_RETRAIN (R332). -/
  | mirrorPortReducedRetrain
  /-- MIRROR_CARRIED_REPORT (R332). -/
  | mirrorCarriedReport
  /-- AON_MAIN_RETURN (R43). -/
  | aonMainReturn (dramHeld : Bool)
  /-- BOR_ASSERT (R35). -/
  | borAssert
  /-- BOR_RELEASE (R36). -/
  | borRelease (straps : BitVec 4) (stuck : BitVec 80) (temps : List Byte)
  /-- POR_ASSERT (R36). -/
  | porAssert
  /-- POR_RELEASE (R36). -/
  | porRelease (straps : BitVec 4) (stuck : BitVec 80) (temps : List Byte)
  /-- AON_INPUT_GOOD (R36). -/
  | aonInputGood (main : Bool)
  /-- BOARD_RAIL_ENABLE (R38). -/
  | boardRailEnable
  /-- PG_RISE (R38). -/
  | pgRise (r : Fin 8)
  /-- PG_TIMEOUT (R39). -/
  | pgTimeout (r : Fin 8)
  /-- PG_DROP (R40). -/
  | pgDrop (r : Fin 8) (mainLost dramHeld : Bool)
  /-- CLOCK_MONITOR_WINDOW (R50). -/
  | clockMonitorWindow (k : Fin 22) (failed : Bool)
  /-- KCLK_MISSING_PULSE (R50). -/
  | kclkMissingPulse
  /-- XREF_GOOD (R53). -/
  | xrefGood
  /-- SPLL_LOCK (R53). -/
  | spllLock
  /-- CK_CLUSTER_WRITE (R60). -/
  | ckClusterWrite (q : Requester) (n : Fin 4) (v : Word)
  /-- CPLL_LOCK (R60). -/
  | cpllLock (n : Fin 4)
  /-- CLUSTER_SOURCE_SWITCH_DONE (R60). -/
  | clusterSourceSwitchDone (n : Fin 4)
  /-- CADDY_RESET_RELEASE (R52). -/
  | caddyResetRelease
  /-- MANIFEST_READ (R54). -/
  | manifestRead
  /-- SIGNATURE_VERIFY (R347). -/
  | signatureVerify (ok : Bool) (measure : Nat)
  /-- FIRMWARE_READ (R54). -/
  | firmwareRead (hashOk : Bool) (measure : Nat) (policy : Policy)
  /-- LOADER_READ (R54). -/
  | loaderRead (hashOk : Bool) (measure : Nat) (bytes : List Byte)
  /-- CORE_RELEASE (R52). -/
  | coreRelease
  /-- READY_BIT_SET (R57). -/
  | readyBitSet (u : Fin 256)
  /-- READINESS_TIMEOUT (R58). -/
  | readinessTimeout (u : Fin 256)
  /-- CADDY_READINESS_TIMEOUT (R59). -/
  | caddyReadinessTimeout
  /-- KT_RSTCTL_SWR (R62). -/
  | ktRstctlSwr (q : Requester) (v : Word)
  /-- WARM_RESET_HOLD (R62). -/
  | warmResetHold
  /-- WARM_RESET_CADDY_START (R62). -/
  | warmResetCaddyStart
  /-- ADD (R95). -/
  | add (p : Proc) (d : RegNo) (a : RegNo) (b : RegNo)
  /-- ADDW (R95). -/
  | addw (p : Proc) (d : RegNo) (a : RegNo) (b : RegNo)
  /-- ADDI (R95). -/
  | addi (p : Proc) (d : RegNo) (a : RegNo) (imm : BitVec 16)
  /-- SUB (R95). -/
  | sub (p : Proc) (d : RegNo) (a : RegNo) (b : RegNo)
  /-- SUBW (R95). -/
  | subw (p : Proc) (d : RegNo) (a : RegNo) (b : RegNo)
  /-- NEG (R95). -/
  | neg (p : Proc) (d : RegNo) (a : RegNo)
  /-- NEGW (R95). -/
  | negw (p : Proc) (d : RegNo) (a : RegNo)
  /-- MUL (R95). -/
  | mul (p : Proc) (d : RegNo) (a : RegNo) (b : RegNo)
  /-- MULW (R95). -/
  | mulw (p : Proc) (d : RegNo) (a : RegNo) (b : RegNo)
  /-- MULH (R95). -/
  | mulh (p : Proc) (d : RegNo) (a : RegNo) (b : RegNo)
  /-- MULHU (R95). -/
  | mulhu (p : Proc) (d : RegNo) (a : RegNo) (b : RegNo)
  /-- DIV (R99). -/
  | div (p : Proc) (d : RegNo) (a : RegNo) (b : RegNo)
  /-- DIVW (R99). -/
  | divw (p : Proc) (d : RegNo) (a : RegNo) (b : RegNo)
  /-- DIVU (R99). -/
  | divu (p : Proc) (d : RegNo) (a : RegNo) (b : RegNo)
  /-- DIVUW (R99). -/
  | divuw (p : Proc) (d : RegNo) (a : RegNo) (b : RegNo)
  /-- REM (R99). -/
  | rem (p : Proc) (d : RegNo) (a : RegNo) (b : RegNo)
  /-- REMW (R99). -/
  | remw (p : Proc) (d : RegNo) (a : RegNo) (b : RegNo)
  /-- REMU (R99). -/
  | remu (p : Proc) (d : RegNo) (a : RegNo) (b : RegNo)
  /-- REMUW (R99). -/
  | remuw (p : Proc) (d : RegNo) (a : RegNo) (b : RegNo)
  /-- AND (R95). -/
  | and (p : Proc) (d : RegNo) (a : RegNo) (b : RegNo)
  /-- OR (R95). -/
  | or (p : Proc) (d : RegNo) (a : RegNo) (b : RegNo)
  /-- XOR (R95). -/
  | xor (p : Proc) (d : RegNo) (a : RegNo) (b : RegNo)
  /-- ANDI (R95). -/
  | andi (p : Proc) (d : RegNo) (a : RegNo) (imm : BitVec 16)
  /-- ORI (R95). -/
  | ori (p : Proc) (d : RegNo) (a : RegNo) (imm : BitVec 16)
  /-- XORI (R95). -/
  | xori (p : Proc) (d : RegNo) (a : RegNo) (imm : BitVec 16)
  /-- LUI (R95). -/
  | lui (p : Proc) (d : RegNo) (imm : BitVec 16)
  /-- SLT (R95). -/
  | slt (p : Proc) (d : RegNo) (a : RegNo) (b : RegNo)
  /-- SLTU (R95). -/
  | sltu (p : Proc) (d : RegNo) (a : RegNo) (b : RegNo)
  /-- SLTI (R95). -/
  | slti (p : Proc) (d : RegNo) (a : RegNo) (imm : BitVec 16)
  /-- SLTIU (R95). -/
  | sltiu (p : Proc) (d : RegNo) (a : RegNo) (imm : BitVec 16)
  /-- SHL (R98). -/
  | shl (p : Proc) (d : RegNo) (a : RegNo) (b : RegNo)
  /-- SHR (R98). -/
  | shr (p : Proc) (d : RegNo) (a : RegNo) (b : RegNo)
  /-- SAR (R98). -/
  | sar (p : Proc) (d : RegNo) (a : RegNo) (b : RegNo)
  /-- SHLW (R98). -/
  | shlw (p : Proc) (d : RegNo) (a : RegNo) (b : RegNo)
  /-- SHRW (R98). -/
  | shrw (p : Proc) (d : RegNo) (a : RegNo) (b : RegNo)
  /-- SARW (R98). -/
  | sarw (p : Proc) (d : RegNo) (a : RegNo) (b : RegNo)
  /-- SHLI (R98). -/
  | shli (p : Proc) (d : RegNo) (a : RegNo) (imm : BitVec 16)
  /-- SHRI (R98). -/
  | shri (p : Proc) (d : RegNo) (a : RegNo) (imm : BitVec 16)
  /-- SARI (R98). -/
  | sari (p : Proc) (d : RegNo) (a : RegNo) (imm : BitVec 16)
  /-- CLZ (R95). -/
  | clz (p : Proc) (d : RegNo) (a : RegNo)
  /-- CTZ (R95). -/
  | ctz (p : Proc) (d : RegNo) (a : RegNo)
  /-- POPC (R95). -/
  | popc (p : Proc) (d : RegNo) (a : RegNo)
  /-- LB (R100). -/
  | lb (p : Proc) (d : RegNo) (a : RegNo) (imm : BitVec 16)
  /-- LH (R100). -/
  | lh (p : Proc) (d : RegNo) (a : RegNo) (imm : BitVec 16)
  /-- LW (R100). -/
  | lw (p : Proc) (d : RegNo) (a : RegNo) (imm : BitVec 16)
  /-- LD (R100). -/
  | ld (p : Proc) (d : RegNo) (a : RegNo) (imm : BitVec 16)
  /-- LBU (R100). -/
  | lbu (p : Proc) (d : RegNo) (a : RegNo) (imm : BitVec 16)
  /-- LHU (R100). -/
  | lhu (p : Proc) (d : RegNo) (a : RegNo) (imm : BitVec 16)
  /-- LWU (R100). -/
  | lwu (p : Proc) (d : RegNo) (a : RegNo) (imm : BitVec 16)
  /-- SB (R100). -/
  | sb (p : Proc) (src : RegNo) (a : RegNo) (imm : BitVec 16)
  /-- SH (R100). -/
  | sh (p : Proc) (src : RegNo) (a : RegNo) (imm : BitVec 16)
  /-- SW (R100). -/
  | sw (p : Proc) (src : RegNo) (a : RegNo) (imm : BitVec 16)
  /-- SD (R100). -/
  | sd (p : Proc) (src : RegNo) (a : RegNo) (imm : BitVec 16)
  /-- CAS (R105). -/
  | cas (p : Proc) (d : RegNo) (a : RegNo) (b : RegNo)
  /-- CASW (R105). -/
  | casw (p : Proc) (d : RegNo) (a : RegNo) (b : RegNo)
  /-- AMOADD (R105). -/
  | amoadd (p : Proc) (d : RegNo) (a : RegNo) (b : RegNo)
  /-- AMOADDW (R105). -/
  | amoaddw (p : Proc) (d : RegNo) (a : RegNo) (b : RegNo)
  /-- AMOSWP (R105). -/
  | amoswp (p : Proc) (d : RegNo) (a : RegNo) (b : RegNo)
  /-- AMOSWPW (R105). -/
  | amoswpw (p : Proc) (d : RegNo) (a : RegNo) (b : RegNo)
  /-- BEQ (R107). -/
  | beq (p : Proc) (a : RegNo) (b : RegNo) (off : BitVec 16)
  /-- BNE (R107). -/
  | bne (p : Proc) (a : RegNo) (b : RegNo) (off : BitVec 16)
  /-- BLT (R107). -/
  | blt (p : Proc) (a : RegNo) (b : RegNo) (off : BitVec 16)
  /-- BGE (R107). -/
  | bge (p : Proc) (a : RegNo) (b : RegNo) (off : BitVec 16)
  /-- BLTU (R107). -/
  | bltu (p : Proc) (a : RegNo) (b : RegNo) (off : BitVec 16)
  /-- BGEU (R107). -/
  | bgeu (p : Proc) (a : RegNo) (b : RegNo) (off : BitVec 16)
  /-- J (R107). -/
  | j (p : Proc) (off : BitVec 26)
  /-- JAL (R107). -/
  | jal (p : Proc) (off : BitVec 26)
  /-- JR (R108). -/
  | jr (p : Proc) (a : RegNo) (imm : BitVec 16)
  /-- JALR (R108). -/
  | jalr (p : Proc) (a : RegNo) (imm : BitVec 16)
  /-- LOOP (R109). -/
  | loop (p : Proc) (k : RegNo) (a : RegNo) (off : BitVec 16)
  /-- FENCE (R113). -/
  | fence (p : Proc)
  /-- FENCE_C (R114). -/
  | fenceC (p : Proc)
  /-- IFLUSH (R115). -/
  | iflush (p : Proc) (a : RegNo) (imm : BitVec 16)
  /-- CACHE_C (R116). -/
  | cacheC (p : Proc) (a : RegNo) (imm : BitVec 16)
  /-- CACHE_I (R116). -/
  | cacheI (p : Proc) (a : RegNo) (imm : BitVec 16)
  /-- CACHE_CI (R116). -/
  | cacheCi (p : Proc) (a : RegNo) (imm : BitVec 16)
  /-- CACHE_CSW (R240). -/
  | cacheCsw (p : Proc) (a : RegNo)
  /-- CACHE_ISW (R240). -/
  | cacheIsw (p : Proc) (a : RegNo)
  /-- CACHE_CISW (R240). -/
  | cacheCisw (p : Proc) (a : RegNo)
  /-- TLBI_ALL (R117). -/
  | tlbiAll (p : Proc)
  /-- TLBI_ASID (R117). -/
  | tlbiAsid (p : Proc) (a : RegNo)
  /-- TLBI_VA (R117). -/
  | tlbiVa (p : Proc) (a : RegNo) (b : RegNo)
  /-- TLBI_VAA (R117). -/
  | tlbiVaa (p : Proc) (a : RegNo)
  /-- TLBI_ALL_B (R211). -/
  | tlbiAllB (p : Proc)
  /-- TLBI_ASID_B (R211). -/
  | tlbiAsidB (p : Proc) (a : RegNo)
  /-- TLBI_VA_B (R211). -/
  | tlbiVaB (p : Proc) (a : RegNo) (b : RegNo)
  /-- TLBI_VAA_B (R211). -/
  | tlbiVaaB (p : Proc) (a : RegNo)
  /-- SEND (R118). -/
  | send (p : Proc) (d : RegNo) (a : RegNo) (b : RegNo)
  /-- RECV (R120). -/
  | recv (p : Proc) (d : RegNo) (a : RegNo) (b : RegNo)
  /-- POUR_WAIT (R121). -/
  | pourWait (p : Proc) (d : RegNo) (a : RegNo)
  /-- WAIT (R122). -/
  | wait (p : Proc) (d : RegNo)
  /-- CORE_WAKE (R393). -/
  | coreWake (c : Fin 16)
  /-- MFC (R124). -/
  | mfc (p : Proc) (d : RegNo) (n : BitVec 12)
  /-- MTC (R124). -/
  | mtc (p : Proc) (n : BitVec 12) (a : RegNo)
  /-- TRAP (R82). -/
  | trap (p : Proc) (n : BitVec 12)
  /-- TRET (R84). -/
  | tret (p : Proc)
  /-- MCALL (R85). -/
  | mcall (p : Proc)
  /-- EACK (R125). -/
  | eack (p : Proc)
  /-- BRK (R126). -/
  | brk (p : Proc)
  /-- FADD (R155). -/
  | fadd (p : Proc) (f : Fmt) (packed : Bool) (d : RegNo) (a : RegNo) (b : RegNo)
  /-- FSUB (R155). -/
  | fsub (p : Proc) (f : Fmt) (packed : Bool) (d : RegNo) (a : RegNo) (b : RegNo)
  /-- FMUL (R155). -/
  | fmul (p : Proc) (f : Fmt) (packed : Bool) (d : RegNo) (a : RegNo) (b : RegNo)
  /-- FDIV (R155). -/
  | fdiv (p : Proc) (f : Fmt) (packed : Bool) (d : RegNo) (a : RegNo) (b : RegNo)
  /-- FSQRT (R155). -/
  | fsqrt (p : Proc) (f : Fmt) (packed : Bool) (d : RegNo) (a : RegNo)
  /-- FMIN (R155). -/
  | fmin (p : Proc) (f : Fmt) (packed : Bool) (d : RegNo) (a : RegNo) (b : RegNo)
  /-- FMAX (R155). -/
  | fmax (p : Proc) (f : Fmt) (packed : Bool) (d : RegNo) (a : RegNo) (b : RegNo)
  /-- FMADD (R155). -/
  | fmadd (p : Proc) (f : Fmt) (packed : Bool) (d : RegNo) (a : RegNo) (b : RegNo)
  /-- FEQ (R157). -/
  | feq (p : Proc) (f : Fmt) (packed : Bool) (d : RegNo) (a : RegNo) (b : RegNo)
  /-- FLT (R157). -/
  | flt (p : Proc) (f : Fmt) (packed : Bool) (d : RegNo) (a : RegNo) (b : RegNo)
  /-- FLE (R157). -/
  | fle (p : Proc) (f : Fmt) (packed : Bool) (d : RegNo) (a : RegNo) (b : RegNo)
  /-- FCVT (R155). -/
  | fcvt (p : Proc) (f : Fmt) (d : RegNo) (a : RegNo) (src : Fmt)
  /-- FCVTI (R157). -/
  | fcvti (p : Proc) (f : Fmt) (d : RegNo) (a : RegNo)
  /-- ICVTF (R155). -/
  | icvtf (p : Proc) (f : Fmt) (d : RegNo) (a : RegNo)
  /-- FMVG (R155). -/
  | fmvg (p : Proc) (d : RegNo) (a : RegNo)
  /-- FMVV (R155). -/
  | fmvv (p : Proc) (d : RegNo) (a : RegNo)
  /-- VADD (R163). -/
  | vadd (p : Proc) (e : Esz) (d : RegNo) (a : RegNo) (b : RegNo)
  /-- VSUB (R163). -/
  | vsub (p : Proc) (e : Esz) (d : RegNo) (a : RegNo) (b : RegNo)
  /-- VMUL (R163). -/
  | vmul (p : Proc) (e : Esz) (d : RegNo) (a : RegNo) (b : RegNo)
  /-- VMIN (R163). -/
  | vmin (p : Proc) (e : Esz) (d : RegNo) (a : RegNo) (b : RegNo)
  /-- VMINU (R163). -/
  | vminu (p : Proc) (e : Esz) (d : RegNo) (a : RegNo) (b : RegNo)
  /-- VMAX (R163). -/
  | vmax (p : Proc) (e : Esz) (d : RegNo) (a : RegNo) (b : RegNo)
  /-- VMAXU (R163). -/
  | vmaxu (p : Proc) (e : Esz) (d : RegNo) (a : RegNo) (b : RegNo)
  /-- VAND (R163). -/
  | vand (p : Proc) (d : RegNo) (a : RegNo) (b : RegNo)
  /-- VOR (R163). -/
  | vor (p : Proc) (d : RegNo) (a : RegNo) (b : RegNo)
  /-- VXOR (R163). -/
  | vxor (p : Proc) (d : RegNo) (a : RegNo) (b : RegNo)
  /-- VSHL (R164). -/
  | vshl (p : Proc) (e : Esz) (d : RegNo) (a : RegNo) (b : RegNo)
  /-- VSHR (R164). -/
  | vshr (p : Proc) (e : Esz) (d : RegNo) (a : RegNo) (b : RegNo)
  /-- VSAR (R164). -/
  | vsar (p : Proc) (e : Esz) (d : RegNo) (a : RegNo) (b : RegNo)
  /-- VDOT (R163). -/
  | vdot (p : Proc) (d : RegNo) (a : RegNo) (b : RegNo)
  /-- VDOTU (R163). -/
  | vdotu (p : Proc) (d : RegNo) (a : RegNo) (b : RegNo)
  /-- VSPLAT (R163). -/
  | vsplat (p : Proc) (e : Esz) (d : RegNo) (a : RegNo)
  /-- VEXTR (R165). -/
  | vextr (p : Proc) (e : Esz) (d : RegNo) (a : RegNo) (lane : RegNo)
  /-- VL_B (R166). -/
  | vlB (p : Proc) (d : RegNo) (a : RegNo) (imm : BitVec 16)
  /-- VL_H (R166). -/
  | vlH (p : Proc) (d : RegNo) (a : RegNo) (imm : BitVec 16)
  /-- VL_W (R166). -/
  | vlW (p : Proc) (d : RegNo) (a : RegNo) (imm : BitVec 16)
  /-- VL_D (R166). -/
  | vlD (p : Proc) (d : RegNo) (a : RegNo) (imm : BitVec 16)
  /-- VS_B (R166). -/
  | vsB (p : Proc) (src : RegNo) (a : RegNo) (imm : BitVec 16)
  /-- VS_H (R166). -/
  | vsH (p : Proc) (src : RegNo) (a : RegNo) (imm : BitVec 16)
  /-- VS_W (R166). -/
  | vsW (p : Proc) (src : RegNo) (a : RegNo) (imm : BitVec 16)
  /-- VS_D (R166). -/
  | vsD (p : Proc) (src : RegNo) (a : RegNo) (imm : BitVec 16)
  /-- FL_H (R166). -/
  | flH (p : Proc) (d : RegNo) (a : RegNo) (imm : BitVec 16)
  /-- FL_W (R166). -/
  | flW (p : Proc) (d : RegNo) (a : RegNo) (imm : BitVec 16)
  /-- FL_D (R166). -/
  | flD (p : Proc) (d : RegNo) (a : RegNo) (imm : BitVec 16)
  /-- FS_H (R166). -/
  | fsH (p : Proc) (src : RegNo) (a : RegNo) (imm : BitVec 16)
  /-- FS_W (R166). -/
  | fsW (p : Proc) (src : RegNo) (a : RegNo) (imm : BitVec 16)
  /-- FS_D (R166). -/
  | fsD (p : Proc) (src : RegNo) (a : RegNo) (imm : BitVec 16)
  /-- PORT_RD (R420). -/
  | portRd (p : Proc) (d : RegNo) (a : RegNo)
  /-- PORT_WR (R420). -/
  | portWr (p : Proc) (a : RegNo) (b : RegNo)
  /-- PKT_HDR (R422). -/
  | pktHdr (p : Proc) (a : RegNo) (b : RegNo)
  /-- PKT_APP (R422). -/
  | pktApp (p : Proc) (a : RegNo) (b : RegNo)
  /-- PKT_SEND (R422). -/
  | pktSend (p : Proc) (d : RegNo) (a : RegNo)
  /-- EVT_WAIT (R421). -/
  | evtWait (p : Proc) (d : RegNo) (a : RegNo)
  /-- EVT_WAIT_TIMEOUT (R421). -/
  | evtWaitTimeout (i : Fin 32)
  /-- INFUSER_EVENT (R421). -/
  | infuserEvent (i : Fin 32) (e : Fin 15)
  /-- PORT_SIGNAL (R420). -/
  | portSignal (i : Fin 32) (v : Word)
  /-- PORT_TIMER_START (R420). -/
  | portTimerStart (i : Fin 32) (v : Word)
  /-- INFUSER_TIMER_EXPIRY (R421). -/
  | infuserTimerExpiry (i : Fin 32)
  /-- PORT_RRREL (R420). -/
  | portRrrel (i : Fin 32) (v : Word)
  /-- PORT_RXSTAT_READ (R450). -/
  | portRxstatRead (g : Fin 56)
  /-- PORT_RXFIFO_READ (R450). -/
  | portRxfifoRead (g : Fin 56)
  /-- PORT_STAT_READ (R449). -/
  | portStatRead (g : Fin 56)
  /-- PORT_TXLEN_WRITE (R450). -/
  | portTxlenWrite (g : Fin 56) (v : Word)
  /-- PORT_TXFIFO_WRITE (R450). -/
  | portTxfifoWrite (g : Fin 56) (v : Word)
  /-- PORT_TXEND (R450). -/
  | portTxend (g : Fin 56) (v : Word)
  /-- PORT_TXTS_READ (R449). -/
  | portTxtsRead (g : Fin 56)
  /-- PORT_CTRL_WRITE (R449). -/
  | portCtrlWrite (g : Fin 56) (v : Word)
  /-- INTERRUPT_ENTRY (R178). -/
  | interruptEntry (c : Fin 16)
  /-- SECURE_INTERRUPT_ENTRY (R172). -/
  | secureInterruptEntry (c : Fin 16)
  /-- SUPERVISORY_EVENT_ENTRY (R172). -/
  | supervisoryEventEntry (c : Fin 16)
  /-- DEBUG_REQUEST_ENTRY (R473). -/
  | debugRequestEntry (c : Fin 16)
  /-- IC_SOURCE_CHANGE (R190). -/
  | icSourceChange (n : Fin 1024) (level : Bool)
  /-- IC_SRC_WRITE (R189). -/
  | icSrcWrite (q : Requester) (n : Fin 1024) (v : Word)
  /-- IC_SWTRIG (R188). -/
  | icSwtrig (q : Requester) (v : Word)
  /-- REMOTE_READ_TAG_TIMEOUT (R282). -/
  | remoteReadTagTimeout (c : Fin 16) (t : Fin 8)
  /-- REMOTE_WRITE_TIMEOUT (R226). -/
  | remoteWriteTimeout (c : Fin 16) (t : Fin 64)
  /-- STORE_DRAIN (R146). -/
  | storeDrain (p : Proc)
  /-- L3_WAYMASK_WRITE (R236). -/
  | l3WaymaskWrite (q : Requester) (n : Fin 64) (v : Word)
  /-- L3_LOCK_WRITE (R236). -/
  | l3LockWrite (q : Requester) (v : Word)
  /-- L3_CCTL_ENABLE (R237). -/
  | l3CctlEnable (q : Requester) (c : Fin 16) (v : Word)
  /-- ICINV (R237). -/
  | icinv (q : Requester) (c : Fin 16)
  /-- L3_L2CTL_WRITE (R237). -/
  | l3L2ctlWrite (q : Requester) (n : Fin 4) (v : Word)
  /-- L3_SLCTL_WRITE (R237). -/
  | l3SlctlWrite (q : Requester) (n : Fin 8) (v : Word)
  /-- NG_LINKCFG_WRITE (R253). -/
  | ngLinkcfgWrite (q : Requester) (n : Fin 32) (v : Word)
  /-- TRAINING_SYMBOLS_DETECTED (R253). -/
  | trainingSymbolsDetected (l : Fin 34)
  /-- LINK_ABSENT (R263). -/
  | linkAbsent (l : Fin 34)
  /-- CODEWORD_LOCK (R253). -/
  | codewordLock (l : Fin 34) (delay : BitVec 20) (skew : Nat) (wrongPort : Bool)
  /-- LINK_HELLO (R254). -/
  | linkHello (l : Fin 34) (hello : Hello)
  /-- HELLO_TIMEOUT (R253). -/
  | helloTimeout (l : Fin 34)
  /-- LINK_AUTHENTICATION (R258). -/
  | linkAuthentication (l : Fin 34) (outcome : AuthOutcome)
  /-- KEYCONFIRM (R253). -/
  | keyconfirm (l : Fin 34)
  /-- BOND_MEMBER_JOIN (R260). -/
  | bondMemberJoin (l : Fin 32)
  /-- BOND_MEMBER_LEAVE (R251). -/
  | bondMemberLeave (l : Fin 32)
  /-- CODEWORD_LOCK_LOSS (R263). -/
  | codewordLockLoss (l : Fin 34)
  /-- FLIT_RECEIVE (R245). -/
  | flitReceive (l : Fin 34) (f : Flit)
  /-- REPLAY_REQUEST (R245). -/
  | replayRequest (l : Fin 34) (seq : BitVec 12)
  /-- CREDIT_TIMEOUT (R264). -/
  | creditTimeout (l : Fin 34)
  /-- STALL_RETRAIN (R264). -/
  | stallRetrain (l : Fin 34)
  /-- PACKET_FORWARD (R247). -/
  | packetForward (l : Fin 32) (k : Packet)
  /-- PACKET_TAIL_ARRIVAL (R248). -/
  | packetTailArrival (l : Fin 34) (k : Packet) (tagOk : Bool)
  /-- PACKET_TRANSMIT_START (R288). -/
  | packetTransmitStart (port : Fin 43)
  /-- LEGACY_TIMEOUT (R256). -/
  | legacyTimeout (l : Fin 32)
  /-- LINK_FAILURE_TIMEOUT (R269). -/
  | linkFailureTimeout (l : Fin 32)
  /-- REKEY (R261). -/
  | rekey (l : Fin 34)
  /-- REKEY_MARKER (R261). -/
  | rekeyMarker (l : Fin 34)
  /-- REKEY_FAIL (R261). -/
  | rekeyFail (l : Fin 34)
  /-- LINKCTL_RETRAIN (R253). -/
  | linkctlRetrain (q : Requester) (n : Fin 32) (v : Word)
  /-- LINKCTL_QUARANTINE (R268). -/
  | linkctlQuarantine (q : Requester) (n : Fin 32) (v : Word)
  /-- LINKCTL_RELEASE (R268). -/
  | linkctlRelease (q : Requester) (n : Fin 32) (v : Word)
  /-- LINKCTL_CLRERR (R265). -/
  | linkctlClrerr (q : Requester) (n : Fin 32) (v : Word)
  /-- NG_NODEID_WRITE (R271). -/
  | ngNodeidWrite (q : Requester) (v : Word)
  /-- READ (R289). -/
  | read (l : Fin 34) (k : Packet)
  /-- READ_RESP (R278). -/
  | readResp (l : Fin 34) (k : Packet)
  /-- WRITE (R278). -/
  | write (l : Fin 34) (k : Packet)
  /-- WRITE_ACK (R225). -/
  | writeAck (l : Fin 34) (k : Packet)
  /-- ATOMIC (R279). -/
  | atomic (l : Fin 34) (k : Packet)
  /-- ATOMIC_RESP (R278). -/
  | atomicResp (l : Fin 34) (k : Packet)
  /-- MESSAGE (R296). -/
  | message (l : Fin 34) (k : Packet)
  /-- EVENT (R278). -/
  | event (l : Fin 34) (k : Packet)
  /-- MIRROR_FABRIC_HEARTBEAT (R331). -/
  | mirrorFabricHeartbeat (l : Fin 34) (k : Packet)
  /-- NACK (R282). -/
  | nack (l : Fin 34) (k : Packet)
  /-- TIME_SYNC (R299). -/
  | timeSync (l : Fin 32) (src : BitVec 18) (offset : BitVec 64) (stamp : BitVec 64)
  /-- TIME_DELAY_REQ (R299). -/
  | timeDelayReq (l : Fin 32) (src : BitVec 18)
  /-- TIME_DELAY_RESP (R299). -/
  | timeDelayResp (l : Fin 32) (src : BitVec 18) (oneWay : BitVec 20)
  /-- TIME_ANNOUNCE (R301). -/
  | timeAnnounce (l : Fin 32) (src : BitVec 18) (gm : BitVec 18) (prio : BitVec 8) (steps : BitVec 8) (imports : Bool)
  /-- SYNC_INTERVAL (R299). -/
  | syncInterval
  /-- ANNOUNCE_INTERVAL (R299). -/
  | announceInterval
  /-- GRANDMASTER_LOSS (R301). -/
  | grandmasterLoss
  /-- EP_TCFG_WRITE (R301). -/
  | epTcfgWrite (q : Requester) (v : Word)
  /-- GPTP_PEER_LOSS (R304). -/
  | gptpPeerLoss
  /-- MGMT_ENUMERATE (R274). -/
  | mgmtEnumerate (l : Fin 34) (k : Packet)
  /-- MGMT_ASSIGN (R273). -/
  | mgmtAssign (l : Fin 34) (k : Packet)
  /-- MGMT_ROUTE_WRITE (R273). -/
  | mgmtRouteWrite (l : Fin 34) (k : Packet)
  /-- MGMT_ROUTE_READ (R273). -/
  | mgmtRouteRead (l : Fin 34) (k : Packet)
  /-- MGMT_STATUS_READ (R273). -/
  | mgmtStatusRead (l : Fin 34) (k : Packet)
  /-- MGMT_QUARANTINE (R273). -/
  | mgmtQuarantine (l : Fin 34) (k : Packet)
  /-- MGMT_RELEASE (R268). -/
  | mgmtRelease (l : Fin 34) (k : Packet)
  /-- MGMT_RETRAIN (R273). -/
  | mgmtRetrain (l : Fin 34) (k : Packet)
  /-- MGMT_REPLY (R278). -/
  | mgmtReply (l : Fin 34) (k : Packet)
  /-- QUEUE_ENGINE_SEND (R295). -/
  | queueEngineSend (n : Fin 16)
  /-- NG_SQCFG_WRITE (R295). -/
  | ngSqcfgWrite (q : Requester) (n : Fin 16) (v : Word)
  /-- NG_RQCFG_WRITE (R296). -/
  | ngRqcfgWrite (q : Requester) (n : Fin 16) (v : Word)
  /-- EP_CFG_WRITE (R305). -/
  | epCfgWrite (q : Requester) (v : Word)
  /-- EPOCH_TICK (R305). -/
  | epochTick
  /-- EPOCH_GUARD (R313). -/
  | epochGuard
  /-- EDW_DEADLINE (R315). -/
  | edwDeadline (n : Fin 8)
  /-- KT_EDWSTAT_KICK (R314). -/
  | ktEdwstatKick (q : Requester) (v : Word)
  /-- MIRROR_LINE_READ (R321). -/
  | mirrorLineRead
  /-- MIRROR_COMMIT_SEND (R324). -/
  | mirrorCommitSend (late : Bool)
  /-- MIRROR_LINES (R327). -/
  | mirrorLines (k : Packet)
  /-- MIRROR_COPY (R327). -/
  | mirrorCopy (k : Packet)
  /-- MIRROR_CKPT (R327). -/
  | mirrorCkpt (k : Packet)
  /-- MIRROR_COMMIT (R327). -/
  | mirrorCommit (k : Packet)
  /-- MIRROR_COMMIT_ACK (R327). -/
  | mirrorCommitAck (k : Packet)
  /-- MIRROR_HEARTBEAT (R333). -/
  | mirrorHeartbeat (k : Packet)
  /-- MIRROR_OFFER (R340). -/
  | mirrorOffer (k : Packet)
  /-- MIRROR_HANDOVER_ACK (R338). -/
  | mirrorHandoverAck (k : Packet)
  /-- HEARTBEAT_BOUNDARY (R333). -/
  | heartbeatBoundary
  /-- KETTLE_DEGRADED_HEARTBEAT (R332). -/
  | kettleDegradedHeartbeat
  /-- ROLLBACK_COMPLETE (R335). -/
  | rollbackComplete
  /-- COMMIT_MISSING (R330). -/
  | commitMissing
  /-- HANDOVER_ACK_TIMEOUT (R338). -/
  | handoverAckTimeout
  /-- MR_CFG_WRITE (R320). -/
  | mrCfgWrite (q : Requester) (v : Word)
  /-- MR_CTL_CLAIM (R334). -/
  | mrCtlClaim (q : Requester) (v : Word)
  /-- MR_CTL_OFFER (R340). -/
  | mrCtlOffer (q : Requester) (v : Word)
  /-- MR_CTL_HANDOVER (R338). -/
  | mrCtlHandover (q : Requester) (v : Word)
  /-- MR_CTL_ALONE (R336). -/
  | mrCtlAlone (q : Requester) (v : Word)
  /-- COPY_COMPLETE (R340). -/
  | copyComplete
  /-- MB_GO (R351). -/
  | mbGo (q : Requester) (n : Fin 8)
  /-- MB_ACK (R351). -/
  | mbAck (q : Requester) (n : Fin 8)
  /-- CADDY_TAKE_MESSAGE (R351). -/
  | caddyTakeMessage
  /-- MB_RESPONSE (R351). -/
  | mbResponse (n : Fin 8) (status : BitVec 16) (body : List Byte)
  /-- MB_HELLO (R353). -/
  | mbHello (n : Fin 8) (nonce : List Byte)
  /-- STRAINER_SET (R357). -/
  | strainerSet (n : Fin 8) (body : RegionBody)
  /-- STRAINER_CLEAR (R358). -/
  | strainerClear (n : Fin 8) (s : Fin 72)
  /-- COUNTERSIGN (R361). -/
  | countersign (n : Fin 8) (i : Fin 32) (base : BitVec 16) (size : Nat)
  /-- COUNTERSIGN_COMPLETE (R361). -/
  | countersignComplete (n : Fin 8) (i : Fin 32) (ok : Bool)
  /-- DEBUG_GRANT (R469). -/
  | debugGrant (n : Fin 8) (sigOk : Bool)
  /-- LC_TRANSITION (R354). -/
  | lcTransition (n : Fin 8) (target : BitVec 3) (serial : BitVec 64) (nonceOk : Bool) (ownerSig : Bool) (makerSig : Bool) (rmaSig : Bool) (keyHash : Nat)
  /-- LC_ROW_PROGRAMMED (R69). -/
  | lcRowProgrammed (row : Fin 5) (stuck : BitVec 80)
  /-- SIGN (R353). -/
  | sign (n : Fin 8) (signature : List Byte)
  /-- MEASURE_READ (R347). -/
  | measureRead (n : Fin 8) (signature : List Byte)
  /-- RECOVERY (R348). -/
  | recovery (n : Fin 8) (last ok : Bool) (loader manifest measure : Nat) (policy : Policy)
  /-- CADDY_WATCHDOG_EXPIRY (R362). -/
  | caddyWatchdogExpiry
  /-- KT_SAFEREL_ARM (R371). -/
  | ktSaferelArm (q : Requester) (v : Word)
  /-- KT_SAFEREL_RELEASE (R371). -/
  | ktSaferelRelease (q : Requester) (v : Word)
  /-- ARM_COUNT_EXPIRY (R371). -/
  | armCountExpiry
  /-- KT_SOVAL_WRITE (R367). -/
  | ktSovalWrite (q : Requester) (v : Word)
  /-- KT_SAFELVL_WRITE (R365). -/
  | ktSafelvlWrite (q : Requester) (v : Word)
  /-- SAFE_INPUT_CHANGE (R372). -/
  | safeInputChange (n : Fin 16) (a : Bool) (b : Bool)
  /-- SAFE_INPUT_DISCREPANCY (R372). -/
  | safeInputDiscrepancy (n : Fin 16)
  /-- JOYSTICK_SAMPLE (R373). -/
  | joystickSample (samples : List (BitVec 12 × BitVec 12))
  /-- WATCHDOG_KICK (R375). -/
  | watchdogKick (q : Requester) (v : Word)
  /-- WATCHDOG_EXPIRY (R375). -/
  | watchdogExpiry
  /-- WATCHDOG_WARNING (R375). -/
  | watchdogWarning
  /-- TEMPERATURE_SAMPLE (R369). -/
  | temperatureSample (temps : List Byte)
  /-- DREGS_EVENT_TAKE (R378). -/
  | dregsEventTake
  /-- DREGS_RELEASE (R379). -/
  | dregsRelease (q : Requester) (v : Word)
  /-- DREGS_SUBMIT (R382). -/
  | dregsSubmit (q : Requester) (v : Word)
  /-- DOMAIN_OFFER_ANSWER (R387). -/
  | domainOfferAnswer
  /-- DOMAIN_ANSWER_TIMEOUT (R387). -/
  | domainAnswerTimeout
  /-- PW_DOMREQ_WAKE (R394). -/
  | pwDomreqWake (q : Requester) (v : Word)
  /-- PW_DOMREQ_RET (R391). -/
  | pwDomreqRet (q : Requester) (v : Word)
  /-- PW_DOMREQ_OFF (R391). -/
  | pwDomreqOff (q : Requester) (v : Word)
  /-- DOMAIN_WAKE_TIMEOUT (R392). -/
  | domainWakeTimeout (dom : Fin 47)
  /-- DOMAIN_RETURN (R395). -/
  | domainReturn (dom : Fin 47)
  /-- PW_VCMD_WRITE (R396). -/
  | pwVcmdWrite (q : Requester) (n : Fin 4) (v : Word)
  /-- VOLTAGE_COMMAND_COMPLETE (R397). -/
  | voltageCommandComplete (n : Fin 4)
  /-- VOLTAGE_COMMAND_FAIL (R397). -/
  | voltageCommandFail (n : Fin 4)
  /-- PW_CORECLK_WRITE (R396). -/
  | pwCoreclkWrite (q : Requester) (v : Word)
  /-- KT_STEEPCTL_START (R400). -/
  | ktSteepctlStart (q : Requester) (v : Word)
  /-- KT_STEEPCTL_ACK (R400). -/
  | ktSteepctlAck (q : Requester) (v : Word)
  /-- STEEP_END (R398). -/
  | steepEnd
  /-- STEEP_WAKE (R398). -/
  | steepWake
  /-- STEEP_WAKE_DONE (R398). -/
  | steepWakeDone
  /-- STEEP_SAMPLE (R398). -/
  | steepSample
  /-- STEEP_COMPARE (R398). -/
  | steepCompare
  /-- STEEP_ACT_CONTINUE (R399). -/
  | steepActContinue
  /-- STEEP_ACT_SIGNAL (R398). -/
  | steepActSignal
  /-- STEEP_ACT_RECORD (R398). -/
  | steepActRecord
  /-- STEEP_SLEEP (R398). -/
  | steepSleep
  /-- STEEP_SLEEP_EXPIRY (R398). -/
  | steepSleepExpiry
  /-- STEEP_JUMP (R398). -/
  | steepJump
  /-- MC_CTL_INIT (R413). -/
  | mcCtlInit (q : Requester) (v : Word)
  /-- MC_CTL_FILL (R407). -/
  | mcCtlFill (q : Requester) (v : Word)
  /-- CHANNEL_TRAINED (R413). -/
  | channelTrained (n : Fin 4)
  /-- FILL_COMPLETE (R407). -/
  | fillComplete (n : Fin 4)
  /-- SCRUB_READ (R407). -/
  | scrubRead (n : Fin 4) (addr : BitVec 36) (upset : Fin 3)
  /-- REFRESH (R412). -/
  | refresh (n : Fin 4) (bank : Fin 32) (postpone : Bool)
  /-- IF_CTL_START (R427). -/
  | ifCtlStart (q : Requester) (i : Fin 32) (v : Word)
  /-- IF_CTL_STOP (R427). -/
  | ifCtlStop (q : Requester) (i : Fin 32) (v : Word)
  /-- IF_PGRP_WRITE (R419). -/
  | ifPgrpWrite (q : Requester) (g : Fin 56) (v : Word)
  /-- IF_DOORBELL (R421). -/
  | ifDoorbell (q : Requester) (i : Fin 32) (v : Word)
  /-- PACKET_BUILT (R421). -/
  | packetBuilt (i : Fin 32) (b : Fin 2)
  /-- FRAME_RECEIVED (R450). -/
  | frameReceived (g : Fin 56) (start : BitVec 32) (node : Byte) (bytes : List Byte) (err : Bool)
  /-- FRAME_TRANSMITTED (R451). -/
  | frameTransmitted (g : Fin 56) (failed : Bool)
  /-- GATE_CYCLE_START (R459). -/
  | gateCycleStart (n : Fin 8)
  /-- CAN_SLOT_QUEUE (R462). -/
  | canSlotQueue (c : Fin 8) (n : Fin 8)
  /-- CAN_BUS_OFF_RECOVERY (R461). -/
  | canBusOffRecovery (c : Fin 8)
  /-- PORT_LINK_CHANGE (R466). -/
  | portLinkChange (g : Fin 56) (up : Bool)
  /-- CSI_PACKET (R453). -/
  | csiPacket (k : Fin 32) (start : BitVec 32) (vc : BitVec 2) (dt : BitVec 6) (kind : CsiKind) (headerOk : Bool) (crcOk : Bool) (bytes : List Byte)
  /-- CAMERA_FRAME_START (R454). -/
  | cameraFrameStart (k : Fin 32)
  /-- CAMERA_FRAME_END (R454). -/
  | cameraFrameEnd (k : Fin 32)
  /-- CM_CQTAIL_WRITE (R456). -/
  | cmCqtailWrite (q : Requester) (v : Word)
  /-- CODEC_JOB_COMPLETE (R455). -/
  | codecJobComplete (ok : Bool) (status : BitVec 32)
  /-- CODEC_SLICE_READY (R457). -/
  | codecSliceReady
  /-- PCIE_INBOUND_REQUEST (R464). -/
  | pcieInboundRequest (n : Fin 2) (addr : BitVec 64) (isWrite : Bool) (bytes : List Byte)
  /-- PCIE_MSI (R464). -/
  | pcieMsi (n : Fin 2)
  /-- PCIE_LINK_CHANGE (R466). -/
  | pcieLinkChange (n : Fin 2)
  /-- USB_BUS_EVENT (R465): what happened on the bus of the port (log 97). -/
  | usbBusEvent (n : Fin 2) (e : UsbEvent)
  /-- DP_OCFG_ENABLE (R434). -/
  | dpOcfgEnable (q : Requester) (o : Fin 6) (v : Word)
  /-- DISPLAY_LINK_TRAINING_DONE (R434). -/
  | displayLinkTrainingDone (o : Fin 6) (ok : Bool) (edid : List Byte)
  /-- HPD_CHANGE (R434). -/
  | hpdChange (o : Fin 6) (level : Bool)
  /-- HPD_LOSS (R434). -/
  | hpdLoss (o : Fin 6)
  /-- DISPLAY_FRAME_BOUNDARY (R439). -/
  | displayFrameBoundary (o : Fin 6)
  /-- DISPLAY_LINE (R439). -/
  | displayLine (o : Fin 6)
  /-- LAYER_UNDERRUN (R437). -/
  | layerUnderrun (o : Fin 6) (l : Fin 8) (line : BitVec 12)
  /-- DP_AMB_WRITE (R440). -/
  | dpAmbWrite (q : Requester) (o : Fin 6) (v : Word)
  /-- TC_CFG_ENABLE (R442). -/
  | tcCfgEnable (q : Requester) (t : Fin 2) (v : Word)
  /-- TOUCH_SCAN_START (R442). -/
  | touchScanStart (t : Fin 2)
  /-- TOUCH_SCAN_END (R442). -/
  | touchScanEnd (t : Fin 2) (contacts : List Contact) (noises : List Nat)
  /-- TOUCH_REPORT (R446). -/
  | touchReport (t : Fin 2)
  /-- BYPASS (R471). -/
  | bypass
  /-- IDCODE (R471). -/
  | idcode
  /-- SAMPLE_PRELOAD (R471). -/
  | samplePreload
  /-- EXTEST (R471). -/
  | extest
  /-- KSTAT (R471). -/
  | kstat (addr : BitVec 36)
  /-- CERT (R469). -/
  | cert (bytes : List Byte) (sigOk : Bool)
  /-- ACCESS (R471). -/
  | access (addr : BitVec 36) (isWrite : Bool) (data : Word)
  /-- GRANT_EXPIRY (R470). -/
  | grantExpiry
  /-- DB_GRANT_REVOKE (R470). -/
  | dbGrantRevoke (q : Requester)
  /-- DB_CATCH_RELEASE (R474). -/
  | dbCatchRelease (q : Requester) (v : Word)
  /-- DB_CATCH_DBR (R61). -/
  | dbCatchDbr (q : Requester) (v : Word)
  /-- DB_CORECTL_STEP (R475). -/
  | dbCorectlStep (q : Requester) (c : Fin 16) (v : Word)
  /-- DB_CORECTL_SKIP (R475). -/
  | dbCorectlSkip (q : Requester) (c : Fin 16) (v : Word)
  /-- DB_CORECTL_REQUEST (R473). -/
  | dbCorectlRequest (q : Requester) (c : Fin 16) (v : Word)
  /-- PC_CNT_WRITE (R486). -/
  | pcCntWrite (q : Requester) (n : Fin 32) (v : Word)
  /-- REGISTER_WRITE (R8). -/
  | registerWrite (q : Requester) (addr : BitVec 36) (size : Fin 2) (v : Word)
  /-- ILLEGAL_INSTRUCTION (R136). -/
  | illegalInstruction (p : Proc) (w : BitVec 32)
  /-- INSTRUCTION_FETCH_FAULT (R173). -/
  | instructionFetchFault (p : Proc)
  /-- AON_BKP_LOSS (R37). -/
  | aonBkpLoss (good : Bool)
  /-- VOLTAGE_MONITOR_CAP (R45). -/
  | voltageMonitorCap (n : Fin 4) (mv : BitVec 12)
  /-- REFRESH_RATE_READ (R412). -/
  | refreshRateRead (n : Fin 4) (rate : BitVec 5)
  deriving DecidableEq, Repr

end Sys2Proof
end

