-- ==== Sys2Proof/Decode.lean ====
section
/-! DEFINITION. The words of Herok (spec 06 R127 to R136): what command a processor's instruction word stands for. The
block's commands themselves come from outside: the operation table gives no row bits, so no word spells a command. -/

namespace Sys2Proof

/-- The command that a word spells by the table's bits: no row of the table has bits. -/
def decodeTableWord (_nbits _w : Nat) : Option Instr := none

/-! ### Formats (R127) -/

/-- The `n` bits of an instruction word from bit `lo` up. -/
def wordField (w : BitVec 32) (lo n : Nat) : BitVec n := w.extractLsb' lo n

/-- A register field, by its lowest bit. -/
def wordReg (w : BitVec 32) (lo : Nat) : RegNo := (wordField w lo 5).toFin

/-- The fields d, a and b of formats A and I; format B holds a and b one place higher. -/
def wordD (w : BitVec 32) : RegNo := wordReg w 21
def wordA (w : BitVec 32) : RegNo := wordReg w 16
def wordB (w : BitVec 32) : RegNo := wordReg w 11

/-- imm16 of format I and off of format B. -/
def wordImm (w : BitVec 32) : BitVec 16 := wordField w 0 16

/-- An instruction of format A with three registers. -/
def formDAB (w : BitVec 32) (f : RegNo → RegNo → RegNo → Instr) : Option Instr := some (f (wordD w) (wordA w) (wordB w))

/-- One without b: the unused field must be 0 (R136). -/
def formDA (w : BitVec 32) (f : RegNo → RegNo → Instr) : Option Instr :=
  if wordB w = 0 then some (f (wordD w) (wordA w)) else none

/-- One without d. -/
def formAB (w : BitVec 32) (f : RegNo → RegNo → Instr) : Option Instr :=
  if wordD w = 0 then some (f (wordA w) (wordB w)) else none

/-- An instruction of format I. -/
def formI (w : BitVec 32) (f : RegNo → RegNo → BitVec 16 → Instr) : Option Instr :=
  some (f (wordD w) (wordA w) (wordImm w))

/-- One of format I without d. -/
def formIA (w : BitVec 32) (f : RegNo → BitVec 16 → Instr) : Option Instr :=
  if wordD w = 0 then some (f (wordA w) (wordImm w)) else none

/-- A branch, format B. -/
def formBranch (w : BitVec 32) (f : RegNo → RegNo → BitVec 16 → Instr) : Option Instr :=
  some (f (wordD w) (wordA w) (wordImm w))

/-! ### Majors of format A (R129, R131 to R133) -/

/-- Major 0x01, integer register operations (R129). -/
def decodeInteger (p : Proc) (w : BitVec 32) : Option Instr :=
  match (wordField w 0 11).toNat with
  | 0x000 => formDAB w (.add p)
  | 0x001 => formDAB w (.sub p)
  | 0x002 => formDA w (.neg p)
  | 0x004 => formDAB w (.and p)
  | 0x005 => formDAB w (.or p)
  | 0x006 => formDAB w (.xor p)
  | 0x008 => formDAB w (.slt p)
  | 0x009 => formDAB w (.sltu p)
  | 0x00C => formDAB w (.shl p)
  | 0x00D => formDAB w (.shr p)
  | 0x00E => formDAB w (.sar p)
  | 0x010 => formDA w (.clz p)
  | 0x011 => formDA w (.ctz p)
  | 0x012 => formDA w (.popc p)
  | 0x080 => formDAB w (.addw p)
  | 0x081 => formDAB w (.subw p)
  | 0x082 => formDA w (.negw p)
  | 0x08C => formDAB w (.shlw p)
  | 0x08D => formDAB w (.shrw p)
  | 0x08E => formDAB w (.sarw p)
  | _ => none

/-- Major 0x02, multiply and divide (R129). -/
def decodeMultiply (p : Proc) (w : BitVec 32) : Option Instr :=
  match (wordField w 0 11).toNat with
  | 0x000 => formDAB w (.mul p)
  | 0x001 => formDAB w (.mulh p)
  | 0x002 => formDAB w (.mulhu p)
  | 0x004 => formDAB w (.div p)
  | 0x005 => formDAB w (.divu p)
  | 0x006 => formDAB w (.rem p)
  | 0x007 => formDAB w (.remu p)
  | 0x080 => formDAB w (.mulw p)
  | 0x084 => formDAB w (.divw p)
  | 0x085 => formDAB w (.divuw p)
  | 0x086 => formDAB w (.remw p)
  | 0x087 => formDAB w (.remuw p)
  | _ => none

/-- Major 0x03, atomic operations (R129). -/
def decodeAtomic (p : Proc) (w : BitVec 32) : Option Instr :=
  match (wordField w 0 11).toNat with
  | 0x000 => formDAB w (.cas p)
  | 0x001 => formDAB w (.amoadd p)
  | 0x002 => formDAB w (.amoswp p)
  | 0x080 => formDAB w (.casw p)
  | 0x081 => formDAB w (.amoaddw p)
  | 0x082 => formDAB w (.amoswpw p)
  | _ => none

/-- Major 0x0F: the CACHE operation that the d field selects. The set-and-way forms need imm16 = 0 (R130). -/
def decodeCache (p : Proc) (w : BitVec 32) : Option Instr :=
  let a := wordA w
  let imm := wordImm w
  match (wordD w).val with
  | 0 => some (.cacheC p a imm)
  | 1 => some (.cacheI p a imm)
  | 2 => some (.cacheCi p a imm)
  | 4 => if imm = 0 then some (.cacheCsw p a) else none
  | 5 => if imm = 0 then some (.cacheIsw p a) else none
  | 6 => if imm = 0 then some (.cacheCisw p a) else none
  | _ => none

/-- The FP format of a code (R131). -/
def fmtOfCode : Nat → Option Fmt
  | 0 => some .h
  | 1 => some .w
  | 2 => some .d
  | _ => none

/-- Major 0x3C, floating point (R131): fmt [10:9], P [8], op [7:0]. -/
def decodeFp (p : Proc) (w : BitVec 32) : Option Instr :=
  (fmtOfCode (wordField w 9 2).toNat).bind fun f =>
    let packed := w.getLsbD 8
    match (wordField w 0 8).toNat with
    | 0x00 => formDAB w (.fadd p f packed)
    | 0x01 => formDAB w (.fsub p f packed)
    | 0x02 => formDAB w (.fmul p f packed)
    | 0x03 => formDAB w (.fdiv p f packed)
    | 0x04 => formDA w (.fsqrt p f packed)
    | 0x05 => formDAB w (.fmin p f packed)
    | 0x06 => formDAB w (.fmax p f packed)
    | 0x07 => formDAB w (.fmadd p f packed)
    | 0x10 => formDAB w (.feq p f packed)
    | 0x11 => formDAB w (.flt p f packed)
    | 0x12 => formDAB w (.fle p f packed)
    | 0x18 => if packed then none else (fmtOfCode (wordB w).val).map fun src => .fcvt p f (wordD w) (wordA w) src
    | 0x19 => if packed then none else formDA w (.fcvti p f)
    | 0x1A => if packed then none else formDA w (.icvtf p f)
    | 0x1C => if packed || f != .d then none else formDA w (.fmvg p)
    | 0x1D => if packed || f != .d then none else formDA w (.fmvv p)
    | _ => none

/-- The element size of a code (R132). -/
def eszOfCode : Nat → Esz
  | 0 => .b
  | 1 => .h
  | 2 => .w
  | _ => .d

/-- Major 0x3D, integer SIMD (R132): e [10:9], op [8:0]. -/
def decodeSimd (p : Proc) (w : BitVec 32) : Option Instr :=
  let e := eszOfCode (wordField w 9 2).toNat
  match (wordField w 0 9).toNat with
  | 0x000 => formDAB w (.vadd p e)
  | 0x001 => formDAB w (.vsub p e)
  | 0x002 => formDAB w (.vmul p e)
  | 0x003 => formDAB w (.vmin p e)
  | 0x004 => formDAB w (.vminu p e)
  | 0x005 => formDAB w (.vmax p e)
  | 0x006 => formDAB w (.vmaxu p e)
  | 0x008 => if e = .b then formDAB w (.vand p) else none
  | 0x009 => if e = .b then formDAB w (.vor p) else none
  | 0x00A => if e = .b then formDAB w (.vxor p) else none
  | 0x00C => formDAB w (.vshl p e)
  | 0x00D => formDAB w (.vshr p e)
  | 0x00E => formDAB w (.vsar p e)
  | 0x010 => if e = .b then formDAB w (.vdot p) else none
  | 0x011 => if e = .b then formDAB w (.vdotu p) else none
  | 0x018 => formDA w (.vsplat p e)
  | 0x019 => formDAB w (.vextr p e)
  | _ => none

/-- Major 0x3E of an Infuser (R133). -/
def decodePort (p : Proc) (w : BitVec 32) : Option Instr :=
  match (wordField w 0 11).toNat with
  | 0x000 => formDA w (.portRd p)
  | 0x001 => formAB w (.portWr p)
  | 0x008 => formAB w (.pktHdr p)
  | 0x009 => formAB w (.pktApp p)
  | 0x00A => formDA w (.pktSend p)
  | 0x010 => formDA w (.evtWait p)
  | _ => none

/-! ### System operations (R134) -/

/-- The operand bits that a system operation does not use, given by a mask, are 0. -/
def unusedZero (w : BitVec 32) (mask : BitVec 32) (i : Instr) : Option Instr := if w &&& mask = 0 then some i else none

/-- Major 0x3F, format S: sysop [25:20], D [19:15], A [14:10], B [9:5], [4:1] reserved, X [0]. -/
def decodeSystem (p : Proc) (w : BitVec 32) : Option Instr :=
  let d := wordReg w 15
  let a := wordReg w 10
  let b := wordReg w 5
  let x := w.getLsbD 0
  let c : BitVec 12 := wordField w 0 12
  match (wordField w 20 6).toNat with
  | 0x00 => unusedZero w 0xFF000 (.trap p c)
  | 0x01 => unusedZero w 0xFFFFF (.tret p)
  | 0x02 => unusedZero w 0xFFFFF (.mcall p)
  | 0x03 => unusedZero w 0xFFFFF (.eack p)
  | 0x04 => unusedZero w 0xFFFFF (.brk p)
  | 0x08 => unusedZero w 0x07000 (.mfc p d c)
  | 0x09 => unusedZero w 0x07000 (.mtc p c d)
  | 0x10 => unusedZero w 0xFFFFF (.fence p)
  | 0x11 => unusedZero w 0xFFFFF (.fenceC p)
  | 0x12 => unusedZero w 0x07FFF (.wait p d)
  | 0x13 => unusedZero w 0x003FF (.pourWait p d a)
  | 0x18 => unusedZero w 0x0001F (.send p d a b)
  | 0x19 => unusedZero w 0x0001F (.recv p d a b)
  | 0x20 => unusedZero w 0xFFFFE (if x then .tlbiAllB p else .tlbiAll p)
  | 0x21 => unusedZero w 0xF83FE (if x then .tlbiAsidB p a else .tlbiAsid p a)
  | 0x22 => unusedZero w 0xF801E (if x then .tlbiVaB p a b else .tlbiVa p a b)
  | 0x23 => unusedZero w 0xF83FE (if x then .tlbiVaaB p a else .tlbiVaa p a)
  | _ => none

/-! ### The word -/

/-- The processor executes all of Herok: an application core (R128). -/
def Proc.isCore : Proc → Bool
  | .core _ => true
  | _ => false

/-- The processor is an Infuser. -/
def Proc.isInfuser : Proc → Bool
  | .infuser _ => true
  | _ => false

/-- Majors 0x20 to 0x2E, 0x3C and 0x3D: FP and SIMD, which the application cores decode (R128). -/
def decodeVector (p : Proc) (w : BitVec 32) : Option Instr :=
  match (wordField w 26 6).toNat with
  | 0x20 => formI w (.vlB p)
  | 0x21 => formI w (.vlH p)
  | 0x22 => formI w (.vlW p)
  | 0x23 => formI w (.vlD p)
  | 0x24 => formI w (.vsB p)
  | 0x25 => formI w (.vsH p)
  | 0x26 => formI w (.vsW p)
  | 0x27 => formI w (.vsD p)
  | 0x28 => formI w (.flH p)
  | 0x29 => formI w (.flW p)
  | 0x2A => formI w (.flD p)
  | 0x2C => formI w (.fsH p)
  | 0x2D => formI w (.fsW p)
  | 0x2E => formI w (.fsD p)
  | 0x3C => decodeFp p w
  | 0x3D => decodeSimd p w
  | _ => none

/-- The instruction that the word `w` is on processor `p`; none for a word that names no instruction there, which raises
ILLEGAL (R128, R136). -/
def decodeHerok (p : Proc) (w : BitVec 32) : Option Instr :=
  match (wordField w 26 6).toNat with
  | 0x01 => decodeInteger p w
  | 0x02 => decodeMultiply p w
  | 0x03 => decodeAtomic p w
  | 0x04 => formI w (.addi p)
  | 0x05 => formI w (.andi p)
  | 0x06 => formI w (.ori p)
  | 0x07 => formI w (.xori p)
  | 0x08 => if wordA w = 0 then some (.lui p (wordD w) (wordImm w)) else none
  | 0x09 => formI w (.slti p)
  | 0x0A => formI w (.sltiu p)
  | 0x0B => formI w (.shli p)
  | 0x0C => formI w (.shri p)
  | 0x0D => formI w (.sari p)
  | 0x0E => formIA w (.iflush p)
  | 0x0F => decodeCache p w
  | 0x10 => formI w (.lb p)
  | 0x11 => formI w (.lh p)
  | 0x12 => formI w (.lw p)
  | 0x13 => formI w (.ld p)
  | 0x14 => formI w (.lbu p)
  | 0x15 => formI w (.lhu p)
  | 0x16 => formI w (.lwu p)
  | 0x18 => formI w (.sb p)
  | 0x19 => formI w (.sh p)
  | 0x1A => formI w (.sw p)
  | 0x1B => formI w (.sd p)
  | 0x30 => formBranch w (.beq p)
  | 0x31 => formBranch w (.bne p)
  | 0x32 => formBranch w (.blt p)
  | 0x33 => formBranch w (.bge p)
  | 0x34 => formBranch w (.bltu p)
  | 0x35 => formBranch w (.bgeu p)
  | 0x36 => formBranch w fun a k off => .loop p k a off
  | 0x38 => some (.j p (wordField w 0 26))
  | 0x39 => some (.jal p (wordField w 0 26))
  | 0x3A => formIA w (.jr p)
  | 0x3B => formIA w (.jalr p)
  | 0x3E => if p.isInfuser then decodePort p w else none
  | 0x3F => decodeSystem p w
  | _ => if p.isCore then decodeVector p w else none

end Sys2Proof
end

