-- ==== Sys2Proof/Config.lean ====
section
/-! DEFINITION. What the spec leaves open: constants with no body. Each is applied to State's plain counter of free
values (or to operands), so a statement about one holds whatever it is (log 8). -/

namespace Sys2Proof.Config

/-- An open natural number: a cycle count, a time, a converter's code. -/
opaque freeNat : Nat → Nat

/-- An open 64-bit value. -/
opaque freeWord : Nat → BitVec 64

/-- An open bit. -/
opaque freeBool : Nat → Bool

/-- Undefined contents: a byte read while the spec calls the contents undefined. -/
opaque freeByte : Nat → BitVec 8

/-- A display component of `bits` bits as one of 10 bits; the 30-bit RGB of a BT.709 Y, U and V; the luminance of a 30-bit
colour (spec 21 R436, R441). -/
opaque widen : (bits v : Nat) → Nat
opaque bt709 : (y u v : Nat) → Nat
opaque luminance : Nat → Nat

/-- Whether a quotient of the compositor that is not whole is rounded up; where pixel `x` of `dst` falls among `src` source
pixels, in units of 1/256 (spec 21 R436). -/
opaque roundsUp : (n d : Nat) → Bool
opaque samplePoint : (src dst x : Nat) → Nat

/-- shadow_lift_curve of a histogram, with its gain limit in units of 1/256 (spec 21 R441). -/
opaque shadowLift : List Nat → Nat → List Nat

/-- The value of a curve at a component of 10 bits (spec 21 R441). -/
opaque curveValue : List Nat → Nat → Nat

/-- The bank in which a DRAM line lies, which the spec does not give (spec 19 R411, R412). -/
opaque bankOf : (line : Nat) → Nat

/-- The device's serial number (spec 16, 23): fixed for one device, of no value that the spec states. -/
opaque serial : BitVec 64

end Sys2Proof.Config
end

