-- ==== Sys2Proof/Machine/Fields.lean ====
section
/-! DEFINITION. The register fields of the local map, one definition a field, from the register tables of spec 02 to 23
(Bits, Access, Reset, Kept by), in the order of the chapters. A field of a counted register group is one definition;
its place in the group is the second argument of State.fl. A field whose reset the table gives as Sensed or X has 0
here (log 2). -/

namespace Sys2Proof

/-- Access codes (spec 00 R8). -/
inductive Acc where
  | rw | ro | wo | w1c | w1s | rwp | rwl
  deriving DecidableEq, Repr

/-- The pour source of a shadowed field (spec 01 R18). -/
inductive PourSource where
  | none | epoch | display | touch | camera
  deriving DecidableEq, Repr

/-- One field of a register group. `kept` holds the Kept by column as bits: 0 POR, 1 BOR, 2 SWR, 3 WDR, 4 TFR,
5 DBR, 6 DOFF, 7 RET (spec 00 R13). -/
structure Fld where
  id : Nat
  hi : Nat
  lo : Nat
  acc : Acc
  reset : Nat
  kept : Nat
  pour : PourSource
  deriving DecidableEq, Repr

/-- Width of a field in bits. -/
def Fld.width (f : Fld) : Nat := f.hi + 1 - f.lo

namespace F

def KT_SUPPLY_MAIN_OK : Fld := ⟨1, 0, 0, .ro, 0, 0, .none⟩
def KT_SUPPLY_BKP_OK : Fld := ⟨2, 1, 1, .ro, 0, 0, .none⟩
def KT_SUPPLY_SRC : Fld := ⟨3, 2, 2, .ro, 0, 0, .none⟩
def KT_SUPPLY_CARRIED : Fld := ⟨4, 3, 3, .ro, 0, 0, .none⟩
def KT_SUPPLY_PG : Fld := ⟨5, 11, 4, .ro, 0, 0, .none⟩
def KT_SUPPLY_BKP_ABSENT : Fld := ⟨6, 12, 12, .w1c, 0, 252, .none⟩
def KT_SUPPLY_CHG_COUNT : Fld := ⟨7, 31, 16, .ro, 0, 254, .none⟩
def KT_SUPPLY_PG_DROP : Fld := ⟨8, 39, 32, .w1c, 0, 252, .none⟩
def CK_MONSTAT_KCLK : Fld := ⟨9, 0, 0, .w1c, 0, 128, .none⟩
def CK_MONSTAT_FIRC : Fld := ⟨10, 1, 1, .w1c, 0, 128, .none⟩
def CK_MONSTAT_XREF : Fld := ⟨11, 2, 2, .w1c, 0, 128, .none⟩
def CK_MONSTAT_FREF : Fld := ⟨12, 3, 3, .w1c, 0, 128, .none⟩
def CK_MONSTAT_EREF : Fld := ⟨13, 4, 4, .w1c, 0, 128, .none⟩
def CK_MONSTAT_CPLL : Fld := ⟨14, 8, 5, .w1c, 0, 128, .none⟩
def CK_MONSTAT_SPLL : Fld := ⟨15, 9, 9, .w1c, 0, 128, .none⟩
def CK_MONSTAT_FPLL : Fld := ⟨16, 10, 10, .w1c, 0, 128, .none⟩
def CK_MONSTAT_DPLL : Fld := ⟨17, 11, 11, .w1c, 0, 128, .none⟩
def CK_MONSTAT_PPLL : Fld := ⟨18, 17, 12, .w1c, 0, 128, .none⟩
def CK_MONSTAT_CAPLL : Fld := ⟨19, 18, 18, .w1c, 0, 128, .none⟩
def CK_MONSTAT_MPLL : Fld := ⟨20, 19, 19, .w1c, 0, 128, .none⟩
def CK_MONSTAT_CANPLL : Fld := ⟨21, 20, 20, .w1c, 0, 128, .none⟩
def CK_MONSTAT_NETPLL : Fld := ⟨22, 21, 21, .w1c, 0, 128, .none⟩
def KT_READY_READY : Fld := ⟨23, 63, 0, .ro, 0, 128, .none⟩
def CK_CLUSTER_FREQ : Fld := ⟨24, 4, 0, .rw, 6, 128, .none⟩
def CK_CLUSTER_PLL_EN : Fld := ⟨25, 8, 8, .rw, 0, 128, .none⟩
def CK_CLUSTER_LOCK : Fld := ⟨26, 9, 9, .ro, 0, 128, .none⟩
def CK_CLUSTER_SEL : Fld := ⟨27, 10, 10, .rw, 0, 128, .none⟩
def CK_CLUSTER_SWITCHING : Fld := ⟨28, 11, 11, .ro, 0, 128, .none⟩
def KT_RSTCAUSE_POR : Fld := ⟨29, 0, 0, .w1c, 1, 254, .none⟩
def KT_RSTCAUSE_BOR : Fld := ⟨30, 1, 1, .w1c, 0, 254, .none⟩
def KT_RSTCAUSE_SWR : Fld := ⟨31, 2, 2, .w1c, 0, 254, .none⟩
def KT_RSTCAUSE_WDR : Fld := ⟨32, 3, 3, .w1c, 0, 254, .none⟩
def KT_RSTCAUSE_TFR : Fld := ⟨33, 4, 4, .w1c, 0, 254, .none⟩
def KT_RSTCAUSE_DBR : Fld := ⟨34, 5, 5, .w1c, 0, 254, .none⟩
def KT_RSTCAUSE_LAST : Fld := ⟨35, 10, 8, .ro, 0, 192, .none⟩
def KT_RSTCAUSE_COUNT : Fld := ⟨36, 31, 16, .ro, 0, 254, .none⟩
def KT_RSTCAUSE_TFR_CORE : Fld := ⟨37, 35, 32, .ro, 0, 254, .none⟩
def KT_RSTCTL_KEY : Fld := ⟨38, 15, 0, .wo, 0, 0, .none⟩
def LC_STATE_STATE : Fld := ⟨39, 2, 0, .ro, 0, 255, .none⟩
def LC_STATE_TORN : Fld := ⟨40, 12, 8, .ro, 0, 252, .none⟩
def IC_SRC_PRIO : Fld := ⟨41, 2, 0, .rwl, 0, 128, .none⟩
def IC_SRC_EDGE : Fld := ⟨42, 3, 3, .rwl, 0, 128, .none⟩
def IC_SRC_SECURE : Fld := ⟨43, 4, 4, .ro, 0, 128, .none⟩
def IC_SRC_TARGETS : Fld := ⟨44, 23, 8, .rwl, 0, 128, .none⟩
def IC_SRC_CORE : Fld := ⟨45, 27, 24, .ro, 0, 0, .none⟩
def IC_SRC_PENDING : Fld := ⟨46, 28, 28, .ro, 0, 0, .none⟩
def IC_SRC_ACTIVE : Fld := ⟨47, 29, 29, .ro, 0, 0, .none⟩
def IC_SRC_LINE : Fld := ⟨48, 30, 30, .ro, 0, 0, .none⟩
def IC_SWTRIG_SOURCE : Fld := ⟨49, 6, 0, .wo, 0, 0, .none⟩
def L3_WAYMASK_MASK : Fld := ⟨50, 15, 0, .rw, 65535, 128, .none⟩
def L3_LOCK_LOCK : Fld := ⟨51, 15, 0, .rw, 0, 128, .none⟩
def L3_CCTL_DCEN : Fld := ⟨52, 0, 0, .rw, 0, 128, .none⟩
def L3_CCTL_ICEN : Fld := ⟨53, 1, 1, .rw, 0, 128, .none⟩
def L3_CCTL_ICINV : Fld := ⟨54, 2, 2, .wo, 0, 0, .none⟩
def L3_CCTL_DSWEPT : Fld := ⟨55, 4, 4, .ro, 0, 0, .none⟩
def L3_CCTL_ISWEPT : Fld := ⟨56, 5, 5, .ro, 0, 0, .none⟩
def L3_CCTL_ORPHAN : Fld := ⟨57, 6, 6, .ro, 0, 0, .none⟩
def L3_L2CTL_EN : Fld := ⟨58, 0, 0, .rw, 0, 128, .none⟩
def L3_L2CTL_SWEPT : Fld := ⟨59, 1, 1, .ro, 0, 0, .none⟩
def L3_L2CTL_ORPHAN : Fld := ⟨60, 2, 2, .ro, 0, 0, .none⟩
def L3_SLCTL_EN : Fld := ⟨61, 0, 0, .rw, 0, 128, .none⟩
def L3_SLCTL_SWEPT : Fld := ⟨62, 1, 1, .ro, 0, 0, .none⟩
def L3_SLCTL_ORPHAN : Fld := ⟨63, 2, 2, .ro, 0, 0, .none⟩
def NG_NODEID_ID : Fld := ⟨64, 17, 0, .rw, 262142, 128, .none⟩
def NG_POLICY_LEGACY_TRUST : Fld := ⟨65, 31, 0, .ro, 0, 128, .none⟩
def NG_POLICY_LEGACY_TMO : Fld := ⟨66, 47, 32, .ro, 50, 128, .none⟩
def NG_MGMTAUTH_NODE : Fld := ⟨67, 17, 0, .ro, 262142, 128, .none⟩
def NG_MGMTAUTH_VALID : Fld := ⟨68, 18, 18, .ro, 0, 128, .none⟩
def NG_LINKCFG_EN : Fld := ⟨69, 0, 0, .rw, 0, 128, .none⟩
def NG_LINKCFG_BOND : Fld := ⟨70, 4, 1, .rw, 0, 128, .none⟩
def NG_LINKCFG_RPF : Fld := ⟨71, 5, 5, .rw, 0, 128, .none⟩
def NG_LINKCFG_VERLIM : Fld := ⟨72, 7, 6, .rw, 0, 128, .none⟩
def NG_LINKCFG_CREDIT_TMO : Fld := ⟨73, 31, 16, .rw, 200, 128, .none⟩
def NG_LINKCFG_RETRAIN_THR : Fld := ⟨74, 39, 32, .rw, 16, 128, .none⟩
def NG_LINKCFG_QUAR_THR : Fld := ⟨75, 43, 40, .rw, 4, 128, .none⟩
def NG_LINKCFG_TAG_THR : Fld := ⟨76, 51, 44, .rw, 8, 128, .none⟩
def NG_LINKCFG_DENY_THR : Fld := ⟨77, 63, 52, .rw, 256, 128, .none⟩
def NG_LINKSTAT_STATE : Fld := ⟨78, 3, 0, .ro, 0, 0, .none⟩
def NG_LINKSTAT_REASON : Fld := ⟨79, 7, 4, .ro, 0, 0, .none⟩
def NG_LINKSTAT_VERSION : Fld := ⟨80, 15, 8, .ro, 0, 0, .none⟩
def NG_LINKSTAT_CAP : Fld := ⟨81, 25, 16, .ro, 0, 0, .none⟩
def NG_LINKSTAT_UNTIMED : Fld := ⟨82, 26, 26, .ro, 0, 0, .none⟩
def NG_LINKSTAT_BONDED : Fld := ⟨83, 27, 27, .ro, 0, 0, .none⟩
def NG_LINKSTAT_DELAY : Fld := ⟨84, 47, 28, .ro, 0, 0, .none⟩
def NG_LINKSTAT_PARTNER_LINK : Fld := ⟨85, 52, 48, .ro, 0, 0, .none⟩
def NG_LINKERR_CORRECTED : Fld := ⟨86, 15, 0, .ro, 0, 0, .none⟩
def NG_LINKERR_UNCORR : Fld := ⟨87, 31, 16, .ro, 0, 0, .none⟩
def NG_LINKERR_RETRAINS : Fld := ⟨88, 39, 32, .ro, 0, 0, .none⟩
def NG_LINKERR_TAGFAIL : Fld := ⟨89, 47, 40, .ro, 0, 0, .none⟩
def NG_LINKERR_DENIED : Fld := ⟨90, 63, 48, .ro, 0, 0, .none⟩
def NG_LINKCTL_RETRAIN : Fld := ⟨91, 0, 0, .wo, 0, 0, .none⟩
def NG_LINKCTL_QUARANTINE : Fld := ⟨92, 1, 1, .wo, 0, 0, .none⟩
def NG_LINKCTL_RELEASE : Fld := ⟨93, 2, 2, .wo, 0, 0, .none⟩
def NG_LINKCTL_CLRERR : Fld := ⟨94, 3, 3, .wo, 0, 0, .none⟩
def NG_LINKCTL_KEY : Fld := ⟨95, 31, 16, .wo, 0, 0, .none⟩
def NG_STRROUTE_PORT : Fld := ⟨96, 5, 0, .rw, 63, 128, .none⟩
def NG_STRROUTE_ALT : Fld := ⟨97, 11, 6, .rw, 63, 128, .none⟩
def NG_STRROUTE_REMAIN : Fld := ⟨98, 39, 16, .rw, 0, 128, .none⟩
def NG_STRROUTE_HOPS : Fld := ⟨99, 47, 40, .rw, 0, 128, .none⟩
def NG_POSROUTE_PORT : Fld := ⟨100, 5, 0, .rw, 63, 128, .none⟩
def NG_POSROUTE_ALT : Fld := ⟨101, 11, 6, .rw, 63, 128, .none⟩
def NG_POSROUTE_REMAIN : Fld := ⟨102, 39, 16, .rw, 0, 128, .none⟩
def NG_POSROUTE_HOPS : Fld := ⟨103, 47, 40, .rw, 0, 128, .none⟩
def NG_DLBUDGET_REQ : Fld := ⟨104, 27, 0, .rw, 100000, 128, .none⟩
def NG_DLBUDGET_RESP : Fld := ⟨105, 55, 28, .rw, 100000, 128, .none⟩
def ST_WINCTL_VALID : Fld := ⟨106, 0, 0, .ro, 0, 128, .epoch⟩
def ST_WINCTL_PERM : Fld := ⟨107, 5, 1, .ro, 0, 128, .epoch⟩
def ST_WINCTL_TYPE : Fld := ⟨108, 7, 6, .ro, 0, 128, .epoch⟩
def ST_WINCTL_PTAG : Fld := ⟨109, 13, 8, .ro, 0, 128, .epoch⟩
def ST_WINCTL_SNODE : Fld := ⟨110, 33, 16, .ro, 0, 128, .epoch⟩
def ST_WINCTL_SMASK : Fld := ⟨111, 51, 34, .ro, 0, 128, .epoch⟩
def ST_WINRANGE_BASE : Fld := ⟨112, 23, 0, .ro, 0, 128, .epoch⟩
def ST_WINRANGE_LIMIT : Fld := ⟨113, 47, 24, .ro, 0, 128, .epoch⟩
def ST_WINRATE_RATE : Fld := ⟨114, 15, 0, .ro, 0, 128, .epoch⟩
def ST_WINRATE_BURST : Fld := ⟨115, 31, 16, .ro, 0, 128, .epoch⟩
def NG_SQCFG_EN : Fld := ⟨116, 0, 0, .rw, 0, 128, .none⟩
def NG_SQCFG_PART : Fld := ⟨117, 6, 1, .rw, 0, 128, .none⟩
def NG_SQCFG_MINRING : Fld := ⟨118, 8, 7, .rw, 0, 128, .none⟩
def NG_SQCFG_DEPTH : Fld := ⟨119, 12, 9, .rw, 0, 128, .none⟩
def NG_SQCFG_IRQ : Fld := ⟨120, 13, 13, .rw, 0, 128, .none⟩
def NG_SQCFG_RQ : Fld := ⟨121, 17, 14, .rw, 0, 128, .none⟩
def NG_SQCFG_MGMT : Fld := ⟨122, 18, 18, .rw, 0, 128, .none⟩
def NG_SQCFG_SENT : Fld := ⟨123, 63, 32, .ro, 0, 0, .none⟩
def NG_SQADDR_CPLADDR : Fld := ⟨124, 35, 3, .rw, 0, 128, .none⟩
def NG_RQCFG_EN : Fld := ⟨125, 0, 0, .rw, 0, 128, .none⟩
def NG_RQCFG_PART : Fld := ⟨126, 6, 1, .rw, 0, 128, .none⟩
def NG_RQCFG_MINRING : Fld := ⟨127, 8, 7, .rw, 0, 128, .none⟩
def NG_RQCFG_STRIDE : Fld := ⟨128, 11, 9, .rw, 0, 128, .none⟩
def NG_RQCFG_SLOTS : Fld := ⟨129, 15, 12, .rw, 0, 128, .none⟩
def NG_RQCFG_IRQ : Fld := ⟨130, 16, 16, .rw, 0, 128, .none⟩
def NG_RQCFG_OVERRUN : Fld := ⟨131, 17, 17, .w1c, 0, 0, .none⟩
def NG_RQADDR_BASE : Fld := ⟨132, 35, 12, .rw, 0, 128, .none⟩
def NG_EVTPEND_EVT : Fld := ⟨133, 63, 0, .w1c, 0, 0, .none⟩
def NG_REFCNT_DROPPED : Fld := ⟨134, 7, 0, .rw, 0, 0, .none⟩
def NG_REFCNT_CODE1 : Fld := ⟨135, 15, 8, .rw, 0, 0, .none⟩
def NG_REFCNT_CODE2 : Fld := ⟨136, 23, 16, .rw, 0, 0, .none⟩
def NG_REFCNT_CODE3 : Fld := ⟨137, 31, 24, .rw, 0, 0, .none⟩
def NG_REFCNT_CODE4 : Fld := ⟨138, 39, 32, .rw, 0, 0, .none⟩
def NG_REFCNT_CODE5 : Fld := ⟨139, 47, 40, .rw, 0, 0, .none⟩
def NG_REFCNT_CODE6 : Fld := ⟨140, 55, 48, .rw, 0, 0, .none⟩
def NG_REFCNT_CODE7 : Fld := ⟨141, 63, 56, .rw, 0, 0, .none⟩
def EP_CFG_EN : Fld := ⟨142, 0, 0, .rw, 0, 128, .none⟩
def EP_CFG_PERIOD : Fld := ⟨143, 15, 1, .rwp, 31, 128, .epoch⟩
def EP_CFG_GUARD : Fld := ⟨144, 31, 16, .rw, 0, 128, .none⟩
def EP_ORIGIN_ORIGIN : Fld := ⟨145, 63, 0, .rwl, 0, 128, .none⟩
def EP_NOW_VALUE : Fld := ⟨146, 63, 0, .ro, 0, 128, .none⟩
def EP_EPOCH_VALUE : Fld := ⟨147, 63, 0, .ro, 0, 128, .none⟩
def EP_TSTAT_STATE : Fld := ⟨148, 2, 0, .ro, 0, 0, .none⟩
def EP_TSTAT_UPLINK : Fld := ⟨149, 7, 3, .ro, 0, 0, .none⟩
def EP_TSTAT_STEPS : Fld := ⟨150, 15, 8, .ro, 0, 0, .none⟩
def EP_TSTAT_GMNODE : Fld := ⟨151, 33, 16, .ro, 262142, 0, .none⟩
def EP_TSTAT_OFFSET : Fld := ⟨152, 57, 34, .ro, 0, 0, .none⟩
def EP_TCFG_GMPRIO : Fld := ⟨153, 7, 0, .rw, 255, 128, .none⟩
def EP_TCFG_SYNCINT : Fld := ⟨154, 10, 8, .rw, 5, 128, .none⟩
def EP_TCFG_STEPLIM : Fld := ⟨155, 31, 16, .rw, 1, 128, .none⟩
def EP_ASCFG_PORT : Fld := ⟨156, 2, 0, .rw, 0, 128, .none⟩
def EP_ASCFG_MODE : Fld := ⟨157, 4, 3, .rw, 0, 128, .none⟩
def EP_ASOFS_OFS : Fld := ⟨158, 63, 0, .rw, 0, 128, .none⟩
def KT_EDWCFG_EN : Fld := ⟨159, 0, 0, .rw, 0, 192, .none⟩
def KT_EDWCFG_SAFETY : Fld := ⟨160, 1, 1, .rw, 0, 192, .none⟩
def KT_EDWCFG_MODE : Fld := ⟨161, 2, 2, .rw, 0, 192, .none⟩
def KT_EDWCFG_CORE : Fld := ⟨162, 6, 3, .rw, 0, 192, .none⟩
def KT_EDWCFG_DLOFS : Fld := ⟨163, 31, 8, .rw, 0, 192, .none⟩
def KT_EDWSTAT_KICK : Fld := ⟨164, 7, 0, .w1s, 0, 0, .none⟩
def KT_EDWSTAT_MISS : Fld := ⟨165, 15, 8, .w1c, 0, 0, .none⟩
def KT_EDWSTAT_LATECNT : Fld := ⟨166, 31, 16, .ro, 0, 0, .none⟩
def MR_CFG_EN : Fld := ⟨167, 0, 0, .rw, 0, 128, .none⟩
def MR_CFG_ACCEPT : Fld := ⟨168, 1, 1, .rw, 0, 128, .none⟩
def MR_CFG_FABHB : Fld := ⟨169, 2, 2, .rw, 0, 128, .none⟩
def MR_CFG_PARTNER : Fld := ⟨170, 20, 3, .rw, 262142, 128, .none⟩
def MR_CFG_PART : Fld := ⟨171, 26, 21, .rw, 0, 128, .none⟩
def MR_CFG_VERLIM : Fld := ⟨172, 28, 27, .rw, 0, 128, .none⟩
def MR_CTL_CLAIM : Fld := ⟨173, 0, 0, .wo, 0, 0, .none⟩
def MR_CTL_OFFER : Fld := ⟨174, 1, 1, .wo, 0, 0, .none⟩
def MR_CTL_HANDOVER : Fld := ⟨175, 2, 2, .wo, 0, 0, .none⟩
def MR_CTL_ALONE : Fld := ⟨176, 3, 3, .wo, 0, 0, .none⟩
def MR_CTL_KEY : Fld := ⟨177, 31, 16, .wo, 0, 0, .none⟩
def MR_STAT_ROLE : Fld := ⟨178, 2, 0, .ro, 0, 128, .none⟩
def MR_STAT_PROLE : Fld := ⟨179, 5, 3, .ro, 0, 0, .none⟩
def MR_STAT_MISSES : Fld := ⟨180, 7, 6, .ro, 0, 0, .none⟩
def MR_STAT_ISOLATED : Fld := ⟨181, 8, 8, .ro, 0, 0, .none⟩
def MR_STAT_SELFCHECK : Fld := ⟨182, 9, 9, .ro, 0, 0, .none⟩
def MR_STAT_ROLLBACK : Fld := ⟨183, 10, 10, .ro, 0, 0, .none⟩
def MR_STAT_COPYING : Fld := ⟨184, 11, 11, .ro, 0, 0, .none⟩
def MR_STAT_PORT0 : Fld := ⟨185, 13, 12, .ro, 0, 0, .none⟩
def MR_STAT_PORT1 : Fld := ⟨186, 15, 14, .ro, 0, 0, .none⟩
def MR_STAT_GEN : Fld := ⟨187, 31, 16, .ro, 0, 128, .none⟩
def MR_STAT_PENDING : Fld := ⟨188, 44, 32, .ro, 0, 0, .none⟩
def MR_STAT_CFGERR : Fld := ⟨189, 45, 45, .w1c, 0, 0, .none⟩
def MR_STAT_ALONE : Fld := ⟨190, 46, 46, .ro, 0, 0, .none⟩
def MR_STAT_LATECNT : Fld := ⟨191, 55, 48, .ro, 0, 0, .none⟩
def MR_COMMIT_SENT : Fld := ⟨192, 31, 0, .ro, 0, 128, .none⟩
def MR_COMMIT_ACKED : Fld := ⟨193, 63, 32, .ro, 0, 128, .none⟩
def MR_VER_NATIVE : Fld := ⟨194, 7, 0, .ro, 18, 255, .none⟩
def MR_VER_LOW : Fld := ⟨195, 15, 8, .ro, 16, 128, .none⟩
def MR_VER_AGREED : Fld := ⟨196, 23, 16, .ro, 0, 0, .none⟩
def MR_PORTSTAT_STATE : Fld := ⟨197, 3, 0, .ro, 0, 0, .none⟩
def MR_PORTSTAT_REASON : Fld := ⟨198, 7, 4, .ro, 0, 0, .none⟩
def MR_PORTSTAT_UNTIMED : Fld := ⟨199, 8, 8, .ro, 0, 0, .none⟩
def MR_PORTSTAT_REDUCED : Fld := ⟨200, 9, 9, .ro, 0, 0, .none⟩
def MR_PORTSTAT_DELAY : Fld := ⟨201, 47, 28, .ro, 0, 0, .none⟩
def MR_PORTSTAT_PARTNER_PORT : Fld := ⟨202, 48, 48, .ro, 0, 0, .none⟩
def MR_JOURNAL_BASE : Fld := ⟨203, 35, 21, .rwl, 0, 128, .none⟩
def MR_JOURNAL_SIZE : Fld := ⟨204, 43, 36, .rwl, 0, 128, .none⟩
def MR_JFILL_RECORDS : Fld := ⟨205, 21, 0, .ro, 0, 0, .none⟩
def MR_REGION_VALID : Fld := ⟨206, 0, 0, .rwl, 0, 128, .none⟩
def MR_REGION_BASE : Fld := ⟨207, 35, 21, .rwl, 0, 128, .none⟩
def MR_REGION_SIZE : Fld := ⟨208, 48, 36, .rwl, 0, 128, .none⟩
def MR_CKPT_VALID : Fld := ⟨209, 0, 0, .rwp, 0, 128, .epoch⟩
def MR_CKPT_OFFSET : Fld := ⟨210, 21, 6, .rwp, 0, 128, .epoch⟩
def MR_CKPT_LINES : Fld := ⟨211, 29, 22, .rwp, 0, 128, .epoch⟩
def KT_CADDYRST_SLOT : Fld := ⟨212, 0, 0, .ro, 0, 0, .none⟩
def KT_CADDYRST_FAILED : Fld := ⟨213, 1, 1, .ro, 0, 0, .none⟩
def KT_CADDYRST_HELD : Fld := ⟨214, 2, 2, .ro, 0, 0, .none⟩
def KT_CADDYRST_RESTARTS : Fld := ⟨215, 15, 8, .ro, 0, 0, .none⟩
def KT_CADDYRST_LASTCAUSE : Fld := ⟨216, 19, 16, .ro, 0, 0, .none⟩
def MB_CTL_GO : Fld := ⟨217, 0, 0, .w1s, 0, 0, .none⟩
def MB_CTL_ACK : Fld := ⟨218, 1, 1, .w1s, 0, 0, .none⟩
def MB_CTL_IRQ : Fld := ⟨219, 2, 2, .rw, 0, 128, .none⟩
def MB_STAT_STATE : Fld := ⟨220, 1, 0, .ro, 0, 0, .none⟩
def MB_STAT_CADDY_UP : Fld := ⟨221, 2, 2, .ro, 0, 0, .none⟩
def MB_STAT_RESTART : Fld := ⟨222, 3, 3, .w1c, 0, 0, .none⟩
def MB_STAT_RESTARTS : Fld := ⟨223, 15, 8, .ro, 0, 0, .none⟩
def MB_STAT_EN : Fld := ⟨224, 16, 16, .ro, 0, 128, .none⟩
def MB_STAT_PART : Fld := ⟨225, 22, 17, .ro, 0, 128, .none⟩
def MB_STAT_MINRING : Fld := ⟨226, 24, 23, .ro, 0, 128, .none⟩
def MB_VER_NATIVE : Fld := ⟨227, 15, 0, .ro, 512, 255, .none⟩
def MB_VER_LOW : Fld := ⟨228, 31, 16, .ro, 512, 255, .none⟩
def ST_DRCTL_VALID : Fld := ⟨229, 0, 0, .ro, 0, 128, .epoch⟩
def ST_DRCTL_RD : Fld := ⟨230, 1, 1, .ro, 0, 128, .epoch⟩
def ST_DRCTL_WR : Fld := ⟨231, 2, 2, .ro, 0, 128, .epoch⟩
def ST_DRCTL_EX : Fld := ⟨232, 3, 3, .ro, 0, 128, .epoch⟩
def ST_DRCTL_SAFETY : Fld := ⟨233, 4, 4, .ro, 0, 128, .epoch⟩
def ST_DRCTL_PART : Fld := ⟨234, 10, 5, .ro, 0, 128, .epoch⟩
def ST_DRCTL_PANY : Fld := ⟨235, 11, 11, .ro, 0, 128, .epoch⟩
def ST_DRCTL_CLASS : Fld := ⟨236, 19, 12, .ro, 0, 128, .epoch⟩
def ST_SRCTL_VALID : Fld := ⟨237, 0, 0, .ro, 0, 128, .epoch⟩
def ST_SRCTL_RD : Fld := ⟨238, 1, 1, .ro, 0, 128, .epoch⟩
def ST_SRCTL_WR : Fld := ⟨239, 2, 2, .ro, 0, 128, .epoch⟩
def ST_SRCTL_EX : Fld := ⟨240, 3, 3, .ro, 0, 128, .epoch⟩
def ST_SRCTL_SAFETY : Fld := ⟨241, 4, 4, .ro, 0, 128, .epoch⟩
def ST_SRCTL_PART : Fld := ⟨242, 10, 5, .ro, 0, 128, .epoch⟩
def ST_SRCTL_PANY : Fld := ⟨243, 11, 11, .ro, 0, 128, .epoch⟩
def ST_SRCTL_CLASS : Fld := ⟨244, 19, 12, .ro, 0, 128, .epoch⟩
def ST_IRCTL_VALID : Fld := ⟨245, 0, 0, .ro, 0, 128, .epoch⟩
def ST_IRCTL_RD : Fld := ⟨246, 1, 1, .ro, 0, 128, .epoch⟩
def ST_IRCTL_WR : Fld := ⟨247, 2, 2, .ro, 0, 128, .epoch⟩
def ST_IRCTL_EX : Fld := ⟨248, 3, 3, .ro, 0, 128, .epoch⟩
def ST_IRCTL_SAFETY : Fld := ⟨249, 4, 4, .ro, 0, 128, .epoch⟩
def ST_IRCTL_PART : Fld := ⟨250, 10, 5, .ro, 0, 128, .epoch⟩
def ST_IRCTL_PANY : Fld := ⟨251, 11, 11, .ro, 0, 128, .epoch⟩
def ST_IRCTL_CLASS : Fld := ⟨252, 19, 12, .ro, 0, 128, .epoch⟩
def ST_VSTAT_COUNT : Fld := ⟨253, 15, 0, .ro, 0, 0, .none⟩
def ST_VSTAT_CLASS : Fld := ⟨254, 18, 16, .ro, 0, 0, .none⟩
def ST_VSTAT_PART : Fld := ⟨255, 24, 19, .ro, 0, 0, .none⟩
def ST_VSTAT_KIND : Fld := ⟨256, 26, 25, .ro, 0, 0, .none⟩
def ST_VSTAT_SAFETY : Fld := ⟨257, 27, 27, .ro, 0, 0, .none⟩
def ST_VSTAT_NOMATCH : Fld := ⟨258, 28, 28, .ro, 0, 0, .none⟩
def ST_VSTAT_REGION : Fld := ⟨259, 34, 29, .ro, 0, 0, .none⟩
def ST_VADDR_ADDR : Fld := ⟨260, 35, 0, .ro, 0, 0, .none⟩
def KT_SAFELVL_LVL : Fld := ⟨261, 63, 0, .rwl, 12297829382473034410, 252, .none⟩
def KT_SOVAL_VALUE : Fld := ⟨262, 31, 0, .rwp, 0, 0, .epoch⟩
def KT_SOVAL_OE : Fld := ⟨263, 63, 32, .rwp, 0, 0, .epoch⟩
def KT_SAFECTL_HELD : Fld := ⟨264, 0, 0, .ro, 1, 192, .none⟩
def KT_SAFECTL_ARMED : Fld := ⟨265, 1, 1, .ro, 0, 0, .none⟩
def KT_SAFECTL_LOCK : Fld := ⟨266, 2, 2, .w1s, 0, 252, .none⟩
def KT_SAFECTL_ARMCORE : Fld := ⟨267, 6, 3, .ro, 0, 0, .none⟩
def KT_SAFEREL_KEY : Fld := ⟨268, 15, 0, .wo, 0, 0, .none⟩
def KT_TRIGSTAT_RAISED : Fld := ⟨269, 10, 0, .ro, 0, 0, .none⟩
def KT_TRIGSTAT_HIST : Fld := ⟨270, 42, 32, .w1c, 0, 252, .none⟩
def KT_SINCFG_EN : Fld := ⟨271, 0, 0, .rwl, 0, 252, .none⟩
def KT_SINCFG_ANTI : Fld := ⟨272, 1, 1, .rwl, 0, 252, .none⟩
def KT_SINCFG_FILT : Fld := ⟨273, 15, 8, .rwl, 0, 252, .none⟩
def KT_SINCFG_DISC : Fld := ⟨274, 31, 16, .rwl, 1, 252, .none⟩
def KT_SINSTAT_A : Fld := ⟨275, 15, 0, .ro, 0, 0, .none⟩
def KT_SINSTAT_B : Fld := ⟨276, 31, 16, .ro, 0, 0, .none⟩
def KT_SINSTAT_DISC : Fld := ⟨277, 47, 32, .ro, 0, 0, .none⟩
def KT_SINSTAT_RAISED : Fld := ⟨278, 63, 48, .ro, 0, 0, .none⟩
def KT_JOYCFG_EN : Fld := ⟨279, 0, 0, .rwl, 0, 252, .none⟩
def KT_JOYCFG_MIRROR : Fld := ⟨280, 1, 1, .rwl, 0, 252, .none⟩
def KT_JOYCFG_WIN : Fld := ⟨281, 19, 8, .rwl, 0, 252, .none⟩
def KT_JOYCFG_LO : Fld := ⟨282, 31, 20, .rwl, 0, 252, .none⟩
def KT_JOYCFG_HI : Fld := ⟨283, 43, 32, .rwl, 4095, 252, .none⟩
def KT_JOYCFG_FILT : Fld := ⟨284, 51, 44, .rwl, 1, 252, .none⟩
def KT_JOYVAL_A : Fld := ⟨285, 11, 0, .ro, 0, 0, .none⟩
def KT_JOYVAL_B : Fld := ⟨286, 27, 16, .ro, 0, 0, .none⟩
def KT_JOYVAL_POS : Fld := ⟨287, 43, 32, .ro, 0, 0, .none⟩
def KT_JOYVAL_VALID : Fld := ⟨288, 48, 48, .ro, 0, 0, .none⟩
def KT_JOYVAL_RAISED : Fld := ⟨289, 49, 49, .ro, 0, 0, .none⟩
def KT_WDCFG_EN : Fld := ⟨290, 0, 0, .rwl, 0, 192, .none⟩
def KT_WDCFG_RSTEN : Fld := ⟨291, 1, 1, .rwl, 0, 192, .none⟩
def KT_WDCFG_LOCK : Fld := ⟨292, 2, 2, .w1s, 0, 192, .none⟩
def KT_WDCFG_TMO : Fld := ⟨293, 27, 4, .rwl, 1000, 192, .none⟩
def KT_WDCFG_WMIN : Fld := ⟨294, 51, 28, .rwl, 0, 192, .none⟩
def KT_WDKICK_KEY : Fld := ⟨295, 15, 0, .wo, 0, 0, .none⟩
def KT_WDKICK_ELAPSED : Fld := ⟨296, 39, 16, .ro, 0, 0, .none⟩
def KT_WDKICK_EXPIRED : Fld := ⟨297, 40, 40, .w1c, 0, 0, .none⟩
def KT_TEMP_TRIP : Fld := ⟨298, 7, 0, .rwl, 125, 252, .none⟩
def KT_TEMP_HOT : Fld := ⟨299, 15, 8, .ro, 0, 0, .none⟩
def DREGS_STAT_HEAD : Fld := ⟨300, 9, 0, .ro, 0, 254, .none⟩
def DREGS_STAT_FILL : Fld := ⟨301, 26, 16, .ro, 0, 254, .none⟩
def DREGS_STAT_QLOST : Fld := ⟨302, 47, 32, .w1c, 0, 254, .none⟩
def DREGS_RELEASE_N : Fld := ⟨303, 10, 0, .wo, 0, 0, .none⟩
def DREGS_SUBMIT_CODE : Fld := ⟨304, 15, 0, .wo, 0, 0, .none⟩
def DREGS_SUBMIT_CLASS : Fld := ⟨305, 18, 16, .wo, 0, 0, .none⟩
def DREGS_SUBMIT_DETAIL : Fld := ⟨306, 63, 32, .wo, 0, 0, .none⟩
def DREGS_LOST_COUNT : Fld := ⟨307, 31, 0, .w1c, 0, 254, .none⟩
def DREGS_LOSTF_FIRST : Fld := ⟨308, 63, 0, .ro, 0, 254, .none⟩
def DREGS_LOSTL_LAST : Fld := ⟨309, 63, 0, .ro, 0, 254, .none⟩
def PW_DOMREQ_DOMAIN : Fld := ⟨310, 5, 0, .wo, 0, 0, .none⟩
def PW_DOMREQ_STATE : Fld := ⟨311, 7, 6, .wo, 0, 0, .none⟩
def PW_LASTREQ_RESULT : Fld := ⟨312, 1, 0, .ro, 0, 0, .none⟩
def PW_LASTREQ_CORE : Fld := ⟨313, 5, 2, .ro, 0, 0, .none⟩
def PW_LASTREQ_STEEP : Fld := ⟨314, 6, 6, .ro, 0, 0, .none⟩
def PW_LASTREQ_REFDOM : Fld := ⟨315, 12, 7, .ro, 0, 0, .none⟩
def PW_LASTREQ_REASON : Fld := ⟨316, 15, 13, .ro, 0, 0, .none⟩
def PW_CORECLK_SEL : Fld := ⟨317, 15, 0, .rw, 65535, 0, .none⟩
def PW_VCMD_TARGET : Fld := ⟨318, 3, 0, .rw, 10, 0, .none⟩
def PW_VCMD_SEQ : Fld := ⟨319, 15, 8, .ro, 0, 0, .none⟩
def PW_VCMD_DONESEQ : Fld := ⟨320, 23, 16, .ro, 0, 0, .none⟩
def PW_VCMD_BUSY : Fld := ⟨321, 24, 24, .ro, 0, 0, .none⟩
def PW_VCMD_FAIL : Fld := ⟨322, 25, 25, .w1c, 0, 0, .none⟩
def PW_VCMD_MV : Fld := ⟨323, 43, 32, .ro, 0, 0, .none⟩
def KT_STEEP_OP : Fld := ⟨324, 3, 0, .rw, 0, 252, .none⟩
def KT_STEEP_A : Fld := ⟨325, 8, 4, .rw, 0, 252, .none⟩
def KT_STEEP_B : Fld := ⟨326, 13, 9, .rw, 0, 252, .none⟩
def KT_STEEP_ARG : Fld := ⟨327, 31, 16, .rw, 0, 252, .none⟩
def KT_STEEP_LO : Fld := ⟨328, 47, 32, .rw, 0, 252, .none⟩
def KT_STEEP_HI : Fld := ⟨329, 63, 48, .rw, 0, 252, .none⟩
def KT_STEEPCTL_COLD : Fld := ⟨330, 0, 0, .rw, 0, 252, .none⟩
def KT_STEEPCTL_RECOV : Fld := ⟨331, 1, 1, .rw, 0, 252, .none⟩
def KT_STEEPCTL_CSTEP : Fld := ⟨332, 6, 2, .rw, 0, 252, .none⟩
def KT_STEEPCTL_RSTEP : Fld := ⟨333, 11, 7, .rw, 0, 252, .none⟩
def KT_STEEPCTL_TSTEP : Fld := ⟨334, 16, 12, .rw, 0, 252, .none⟩
def KT_STEEPCTL_START : Fld := ⟨335, 17, 17, .wo, 0, 0, .none⟩
def KT_STEEPCTL_ACK : Fld := ⟨336, 18, 18, .wo, 0, 0, .none⟩
def KT_STEEPSTAT_STATE : Fld := ⟨337, 2, 0, .ro, 0, 0, .none⟩
def KT_STEEPSTAT_STEP : Fld := ⟨338, 7, 3, .ro, 0, 0, .none⟩
def KT_STEEPSTAT_ACC : Fld := ⟨339, 23, 8, .ro, 0, 0, .none⟩
def MC_CFG_RATE : Fld := ⟨340, 1, 0, .rw, 0, 128, .none⟩
def MC_CFG_CAP : Fld := ⟨341, 4, 2, .rw, 0, 128, .none⟩
def MC_CFG_RANKS2 : Fld := ⟨342, 5, 5, .rw, 0, 128, .none⟩
def MC_CFG_SRMAIN : Fld := ⟨343, 6, 6, .rw, 0, 128, .none⟩
def MC_CTL_INIT : Fld := ⟨344, 3, 0, .w1s, 0, 0, .none⟩
def MC_CTL_KEEP : Fld := ⟨345, 4, 4, .wo, 0, 0, .none⟩
def MC_CTL_FILL : Fld := ⟨346, 8, 5, .w1s, 0, 0, .none⟩
def MC_STAT_TRAINED : Fld := ⟨347, 3, 0, .ro, 0, 0, .none⟩
def MC_STAT_FILLING : Fld := ⟨348, 7, 4, .ro, 0, 0, .none⟩
def MC_STAT_OVERCOMMIT : Fld := ⟨349, 8, 8, .ro, 0, 0, .none⟩
def MC_CLASSPART_PART0 : Fld := ⟨350, 5, 0, .rw, 0, 128, .none⟩
def MC_CLASSPART_PART1 : Fld := ⟨351, 11, 6, .rw, 0, 128, .none⟩
def MC_CLASSPART_PART2 : Fld := ⟨352, 17, 12, .rw, 0, 128, .none⟩
def MC_CLASSPART_PART3 : Fld := ⟨353, 23, 18, .rw, 0, 128, .none⟩
def MC_CLASSPART_PART4 : Fld := ⟨354, 29, 24, .rw, 0, 128, .none⟩
def MC_CLASSPART_PART5 : Fld := ⟨355, 35, 30, .rw, 0, 128, .none⟩
def MC_CLASSPART_CADDY : Fld := ⟨356, 41, 36, .rw, 0, 128, .none⟩
def MC_SCRUB_PERIOD : Fld := ⟨357, 15, 0, .rw, 24, 128, .none⟩
def MC_ECCSTAT_CE : Fld := ⟨358, 15, 0, .w1c, 0, 0, .none⟩
def MC_ECCSTAT_UE : Fld := ⟨359, 31, 16, .w1c, 0, 0, .none⟩
def MC_ECCSTAT_CETHR : Fld := ⟨360, 47, 32, .rw, 256, 128, .none⟩
def MC_ECCADDR_ADDR : Fld := ⟨361, 35, 0, .ro, 0, 0, .none⟩
def MC_ECCADDR_VALID : Fld := ⟨362, 36, 36, .w1c, 0, 0, .none⟩
def MC_BUDGET_RATE : Fld := ⟨363, 7, 0, .rwp, 0, 128, .epoch⟩
def MC_BUDGET_BURST : Fld := ⟨364, 13, 8, .rwp, 0, 128, .epoch⟩
def IF_PGRP_OWNER : Fld := ⟨365, 4, 0, .rw, 0, 128, .none⟩
def IF_PGRP_VALID : Fld := ⟨366, 5, 5, .rw, 0, 128, .none⟩
def IF_PGRP_EVT : Fld := ⟨367, 8, 6, .rw, 0, 128, .none⟩
def IF_CTL_START : Fld := ⟨368, 0, 0, .wo, 0, 0, .none⟩
def IF_CTL_STOP : Fld := ⟨369, 1, 1, .wo, 0, 0, .none⟩
def IF_CTL_CLASS : Fld := ⟨370, 2, 2, .wo, 0, 0, .none⟩
def IF_STAT_STATE : Fld := ⟨371, 2, 0, .ro, 0, 0, .none⟩
def IF_STAT_SAFETY : Fld := ⟨372, 3, 3, .ro, 0, 0, .none⟩
def IF_STAT_HASHV : Fld := ⟨373, 4, 4, .ro, 0, 0, .none⟩
def IF_STAT_CSIGN : Fld := ⟨374, 5, 5, .ro, 0, 0, .none⟩
def IF_STAT_IFRESH : Fld := ⟨375, 6, 6, .ro, 0, 0, .none⟩
def IF_STAT_CAUSE : Fld := ⟨376, 15, 8, .ro, 0, 0, .none⟩
def IF_STAT_PC : Fld := ⟨377, 31, 16, .ro, 0, 0, .none⟩
def IF_ENTRY_ENTRY : Fld := ⟨378, 15, 0, .rw, 0, 128, .none⟩
def IF_ENTRY_VEC : Fld := ⟨379, 31, 16, .rw, 0, 128, .none⟩
def IF_CFG_PPART : Fld := ⟨380, 5, 0, .rw, 0, 128, .none⟩
def IF_DOORBELL_RING : Fld := ⟨381, 0, 0, .w1s, 0, 0, .none⟩
def IF_PARAM_DATA : Fld := ⟨382, 63, 0, .rwp, 0, 128, .epoch⟩
def IF_IMGOUT_DATA : Fld := ⟨383, 63, 0, .rwp, 0, 128, .epoch⟩
def IF_IMGIN_DATA : Fld := ⟨384, 63, 0, .ro, 0, 128, .epoch⟩
def DP_OCFG_EN : Fld := ⟨385, 0, 0, .rw, 0, 128, .none⟩
def DP_OCFG_MODE : Fld := ⟨386, 1, 1, .rw, 0, 128, .none⟩
def DP_OCFG_BPC : Fld := ⟨387, 3, 2, .rw, 1, 128, .none⟩
def DP_OCFG_LINE : Fld := ⟨388, 15, 4, .rwp, 0, 128, .display⟩
def DP_OCFG_BG : Fld := ⟨389, 45, 16, .rwp, 0, 128, .display⟩
def DP_OTIM_HACT : Fld := ⟨390, 11, 0, .rw, 0, 128, .none⟩
def DP_OTIM_HBLANK : Fld := ⟨391, 23, 12, .rw, 0, 128, .none⟩
def DP_OTIM_VACT : Fld := ⟨392, 35, 24, .rw, 0, 128, .none⟩
def DP_OTIM_VBLANK : Fld := ⟨393, 47, 36, .rw, 0, 128, .none⟩
def DP_OTIM_PCLK : Fld := ⟨394, 60, 48, .rw, 0, 128, .none⟩
def DP_OSTAT_STATE : Fld := ⟨395, 1, 0, .ro, 0, 0, .none⟩
def DP_OSTAT_HPD : Fld := ⟨396, 2, 2, .ro, 0, 0, .none⟩
def DP_OSTAT_BADCFG : Fld := ⟨397, 3, 3, .ro, 0, 0, .none⟩
def DP_OSTAT_AMBSTALE : Fld := ⟨398, 4, 4, .ro, 0, 0, .none⟩
def DP_OSTAT_UNDERRUN : Fld := ⟨399, 15, 8, .w1c, 0, 0, .none⟩
def DP_OSTAT_BL : Fld := ⟨400, 27, 16, .ro, 0, 0, .none⟩
def DP_SUN_SUNEN : Fld := ⟨401, 0, 0, .rwp, 0, 128, .display⟩
def DP_SUN_GAINMAX : Fld := ⟨402, 3, 1, .rwp, 2, 128, .display⟩
def DP_SUN_BLMIN : Fld := ⟨403, 15, 4, .rwp, 0, 128, .display⟩
def DP_SUN_BLMAX : Fld := ⟨404, 27, 16, .rwp, 4095, 128, .display⟩
def DP_SUN_LUXLO : Fld := ⟨405, 45, 28, .rwp, 1000, 128, .display⟩
def DP_SUN_LUXHI : Fld := ⟨406, 63, 46, .rwp, 50000, 128, .display⟩
def DP_AMB_LUX : Fld := ⟨407, 19, 0, .rw, 0, 128, .none⟩
def DP_AMB_AMBTMO : Fld := ⟨408, 27, 20, .rw, 60, 128, .none⟩
def DP_CRC_CRC : Fld := ⟨409, 31, 0, .ro, 0, 0, .none⟩
def DP_CRC_FRAME : Fld := ⟨410, 63, 32, .ro, 0, 0, .none⟩
def DP_LADDR_ADDR : Fld := ⟨411, 35, 0, .rwp, 0, 128, .display⟩
def DP_LADDR_STRIDE : Fld := ⟨412, 51, 36, .rwp, 0, 128, .display⟩
def DP_LGEOM_SRC : Fld := ⟨413, 15, 0, .rwp, 0, 128, .display⟩
def DP_LGEOM_DST : Fld := ⟨414, 63, 16, .rwp, 0, 128, .display⟩
def DP_LCTL_LEN : Fld := ⟨415, 0, 0, .rwp, 0, 128, .display⟩
def DP_LCTL_FMT : Fld := ⟨416, 3, 1, .rwp, 0, 128, .display⟩
def DP_LCTL_LALPHA : Fld := ⟨417, 11, 4, .rwp, 255, 128, .display⟩
def DP_LCTL_LFILL : Fld := ⟨418, 41, 12, .rwp, 0, 128, .display⟩
def TC_CFG_EN : Fld := ⟨419, 0, 0, .rw, 0, 128, .none⟩
def TC_CFG_RATE : Fld := ⟨420, 8, 1, .rwp, 120, 128, .touch⟩
def TC_CFG_CYC : Fld := ⟨421, 14, 9, .rwp, 8, 128, .touch⟩
def TC_CFG_SELF : Fld := ⟨422, 15, 15, .rwp, 1, 128, .touch⟩
def TC_CFG_GLOVE : Fld := ⟨423, 16, 16, .rwp, 0, 128, .touch⟩
def TC_CFG_WATER : Fld := ⟨424, 17, 17, .rwp, 1, 128, .touch⟩
def TC_CFG_HOP : Fld := ⟨425, 18, 18, .rwp, 1, 128, .touch⟩
def TC_CFG_THR : Fld := ⟨426, 30, 19, .rwp, 200, 128, .touch⟩
def TC_CFG_SELFTHR : Fld := ⟨427, 42, 31, .rwp, 150, 128, .touch⟩
def TC_CFG_NOISETHR : Fld := ⟨428, 54, 43, .rwp, 80, 128, .touch⟩
def TC_HOP_F0 : Fld := ⟨429, 7, 0, .rwp, 25, 128, .touch⟩
def TC_HOP_F1 : Fld := ⟨430, 15, 8, .rwp, 50, 128, .touch⟩
def TC_HOP_F2 : Fld := ⟨431, 23, 16, .rwp, 75, 128, .touch⟩
def TC_HOP_F3 : Fld := ⟨432, 31, 24, .rwp, 100, 128, .touch⟩
def TC_HOP_F4 : Fld := ⟨433, 39, 32, .rwp, 125, 128, .touch⟩
def TC_HOP_F5 : Fld := ⟨434, 47, 40, .rwp, 150, 128, .touch⟩
def TC_HOP_F6 : Fld := ⟨435, 55, 48, .rwp, 175, 128, .touch⟩
def TC_HOP_F7 : Fld := ⟨436, 63, 56, .rwp, 200, 128, .touch⟩
def TC_STAT_SEQ : Fld := ⟨437, 31, 0, .ro, 0, 0, .none⟩
def TC_STAT_FIDX : Fld := ⟨438, 34, 32, .ro, 0, 0, .none⟩
def TC_STAT_WETFLAG : Fld := ⟨439, 35, 35, .ro, 0, 0, .none⟩
def TC_STAT_OVERFLOW : Fld := ⟨440, 36, 36, .ro, 0, 0, .none⟩
def TC_STAT_CFGERR : Fld := ⟨441, 37, 37, .w1c, 0, 0, .none⟩
def TC_STAT_PERIOD : Fld := ⟨442, 51, 38, .ro, 0, 0, .none⟩
def TC_REP_X : Fld := ⟨443, 11, 0, .ro, 0, 0, .none⟩
def TC_REP_Y : Fld := ⟨444, 27, 16, .ro, 0, 0, .none⟩
def TC_REP_ID : Fld := ⟨445, 35, 32, .ro, 0, 0, .none⟩
def TC_REP_SIZE : Fld := ⟨446, 47, 40, .ro, 0, 0, .none⟩
def TC_REP_SIGNAL : Fld := ⟨447, 59, 48, .ro, 0, 0, .none⟩
def TC_REP_VALID : Fld := ⟨448, 60, 60, .ro, 0, 0, .none⟩
def TC_REP_GLOVED : Fld := ⟨449, 61, 61, .ro, 0, 0, .none⟩
def TC_REP_NEW : Fld := ⟨450, 62, 62, .ro, 0, 0, .none⟩
def TC_REP_LIFT : Fld := ⟨451, 63, 63, .ro, 0, 0, .none⟩
def CM_INCFG_EN : Fld := ⟨452, 0, 0, .rw, 0, 128, .none⟩
def CM_INCFG_SPLIT : Fld := ⟨453, 1, 1, .rw, 0, 128, .none⟩
def CM_INCFG_LANES : Fld := ⟨454, 3, 2, .rw, 0, 128, .none⟩
def CM_INCFG_WRITE : Fld := ⟨455, 4, 4, .rwp, 0, 128, .camera⟩
def CM_INCFG_TAP : Fld := ⟨456, 5, 5, .rwp, 0, 128, .camera⟩
def CM_INCFG_VC : Fld := ⟨457, 7, 6, .rwp, 0, 128, .camera⟩
def CM_INCFG_DT : Fld := ⟨458, 13, 8, .rwp, 0, 128, .camera⟩
def CM_INCFG_NBUF : Fld := ⟨459, 16, 14, .rwp, 0, 128, .camera⟩
def CM_INBUF_BASE : Fld := ⟨460, 35, 12, .rwp, 0, 128, .camera⟩
def CM_INBUF_STRIDE : Fld := ⟨461, 47, 36, .rwp, 0, 128, .camera⟩
def CM_INBUF_BUFSZ : Fld := ⟨462, 63, 48, .rwp, 0, 128, .camera⟩
def CM_INSTAT_CUR : Fld := ⟨463, 2, 0, .ro, 0, 0, .none⟩
def CM_INSTAT_CRCERR : Fld := ⟨464, 15, 8, .w1c, 0, 0, .none⟩
def CM_INSTAT_DROPPED : Fld := ⟨465, 23, 16, .w1c, 0, 0, .none⟩
def CM_INSTAT_FRAMES : Fld := ⟨466, 63, 32, .ro, 0, 0, .none⟩
def CM_CQBASE_BASE : Fld := ⟨467, 35, 11, .rw, 0, 128, .none⟩
def CM_CQTAIL_TAIL : Fld := ⟨468, 5, 0, .rw, 0, 128, .none⟩
def CM_CQTAIL_HEAD : Fld := ⟨469, 13, 8, .ro, 0, 0, .none⟩
def NW_GCL_GATES : Fld := ⟨470, 7, 0, .rwp, 0, 128, .epoch⟩
def NW_GCL_INTERVAL : Fld := ⟨471, 31, 8, .rwp, 0, 128, .epoch⟩
def NW_GCL_VALID : Fld := ⟨472, 32, 32, .rwp, 0, 128, .epoch⟩
def NW_GCLBASE_BASE : Fld := ⟨473, 63, 0, .rwp, 0, 128, .epoch⟩
def NW_CANSLOT_HEADER : Fld := ⟨474, 31, 0, .rwp, 0, 128, .epoch⟩
def NW_CANSLOT_OFFSET : Fld := ⟨475, 51, 32, .rwp, 0, 128, .epoch⟩
def NW_CANSLOT_VALID : Fld := ⟨476, 52, 52, .rwp, 0, 128, .epoch⟩
def NW_CANSLOT_LEN : Fld := ⟨477, 59, 56, .rwp, 0, 128, .epoch⟩
def NW_CANSLOTD_DATA : Fld := ⟨478, 63, 0, .rwp, 0, 128, .epoch⟩
def NW_CANSTAT_TEC : Fld := ⟨479, 7, 0, .ro, 0, 0, .none⟩
def NW_CANSTAT_REC : Fld := ⟨480, 15, 8, .ro, 0, 0, .none⟩
def NW_CANSTAT_ESTATE : Fld := ⟨481, 17, 16, .ro, 0, 0, .none⟩
def NW_CANSTAT_MISSED : Fld := ⟨482, 31, 24, .w1c, 0, 0, .none⟩
def NW_PCIBAR_BASE : Fld := ⟨483, 63, 20, .rw, 0, 128, .none⟩
def DB_GRANT_LEVEL : Fld := ⟨484, 1, 0, .ro, 0, 160, .none⟩
def DB_GRANT_PORT : Fld := ⟨485, 2, 2, .ro, 0, 160, .none⟩
def DB_GRANT_ONCHIP : Fld := ⟨486, 3, 3, .ro, 0, 160, .none⟩
def DB_GRANT_UNTIMED : Fld := ⟨487, 4, 4, .ro, 0, 160, .none⟩
def DB_GRANT_STATUS : Fld := ⟨488, 7, 5, .ro, 0, 0, .none⟩
def DB_GRANT_REVOKE : Fld := ⟨489, 8, 8, .w1s, 0, 0, .none⟩
def DB_GRANTMASK_PMASK : Fld := ⟨490, 63, 0, .ro, 0, 160, .none⟩
def DB_CATCH_CORES : Fld := ⟨491, 15, 0, .rw, 0, 160, .none⟩
def DB_CATCH_HELD : Fld := ⟨492, 31, 16, .ro, 0, 0, .none⟩
def DB_CATCH_RELEASE : Fld := ⟨493, 32, 32, .w1s, 0, 0, .none⟩
def DB_CATCH_KEY : Fld := ⟨494, 63, 48, .wo, 0, 0, .none⟩
def DB_CORECTL_STEP : Fld := ⟨495, 0, 0, .rw, 0, 0, .none⟩
def DB_CORECTL_SKIP : Fld := ⟨496, 1, 1, .rw, 0, 0, .none⟩
def DB_CORECTL_REQUEST : Fld := ⟨497, 2, 2, .w1s, 0, 0, .none⟩
def DB_CORECTL_ARMED : Fld := ⟨498, 6, 3, .ro, 0, 0, .none⟩
def DB_CMPCTL_EN : Fld := ⟨499, 0, 0, .rw, 0, 128, .none⟩
def DB_CMPCTL_KIND : Fld := ⟨500, 2, 1, .rw, 0, 128, .none⟩
def DB_CMPCTL_PAIR : Fld := ⟨501, 4, 3, .rw, 0, 128, .none⟩
def DB_CMPCTL_ACTION : Fld := ⟨502, 6, 5, .rw, 0, 128, .none⟩
def DB_CMPCTL_RINGS : Fld := ⟨503, 10, 7, .rw, 0, 128, .none⟩
def DB_CMPCTL_ASIDEN : Fld := ⟨504, 11, 11, .rw, 0, 128, .none⟩
def DB_CMPCTL_ASID : Fld := ⟨505, 27, 12, .rw, 0, 128, .none⟩
def DB_CMPCTL_PARTEN : Fld := ⟨506, 28, 28, .rw, 0, 128, .none⟩
def DB_CMPCTL_PART : Fld := ⟨507, 34, 29, .rw, 0, 128, .none⟩
def DB_CMPADDR_ADDR : Fld := ⟨508, 47, 0, .rw, 0, 128, .none⟩
def TR_CFG_EN : Fld := ⟨509, 0, 0, .rw, 0, 128, .none⟩
def TR_CFG_GATED : Fld := ⟨510, 1, 1, .rw, 0, 128, .none⟩
def TR_CFG_POURSYNC : Fld := ⟨511, 2, 2, .rw, 0, 128, .none⟩
def TR_CFG_FABRIC : Fld := ⟨512, 3, 3, .rw, 0, 128, .none⟩
def TR_CFG_DRAM : Fld := ⟨513, 7, 4, .rw, 0, 128, .none⟩
def TR_CFG_CORES : Fld := ⟨514, 23, 8, .rw, 0, 128, .none⟩
def TR_SINK_KIND : Fld := ⟨515, 1, 0, .rw, 0, 128, .none⟩
def TR_SINK_WRAP : Fld := ⟨516, 2, 2, .rw, 0, 128, .none⟩
def TR_SINK_STALL : Fld := ⟨517, 3, 3, .rw, 0, 128, .none⟩
def TR_SINK_SIZE : Fld := ⟨518, 7, 4, .rw, 0, 128, .none⟩
def TR_SINK_EPART : Fld := ⟨519, 13, 8, .rw, 0, 128, .none⟩
def TR_SINK_BASE : Fld := ⟨520, 35, 16, .rw, 0, 128, .none⟩
def TR_SINK_ENODE : Fld := ⟨521, 53, 36, .rw, 262142, 128, .none⟩
def TR_PTR_WRPTR : Fld := ⟨522, 31, 0, .ro, 0, 188, .none⟩
def TR_PTR_RDPTR : Fld := ⟨523, 63, 32, .rw, 0, 128, .none⟩
def TR_STAT_ACTIVE : Fld := ⟨524, 0, 0, .ro, 0, 0, .none⟩
def TR_STAT_FULL : Fld := ⟨525, 1, 1, .ro, 0, 0, .none⟩
def TR_STAT_LOST : Fld := ⟨526, 31, 16, .w1c, 0, 0, .none⟩
def TR_STAT_EXPNACK : Fld := ⟨527, 47, 32, .w1c, 0, 0, .none⟩
def TR_PMASK_PMASK : Fld := ⟨528, 63, 0, .rw, 0, 128, .none⟩
def PC_EVT_EVENT : Fld := ⟨529, 7, 0, .rwp, 0, 128, .epoch⟩
def PC_EVT_UNIT : Fld := ⟨530, 14, 8, .rwp, 0, 128, .epoch⟩
def PC_EVT_PART : Fld := ⟨531, 20, 15, .rwp, 0, 128, .epoch⟩
def PC_EVT_PANY : Fld := ⟨532, 21, 21, .rwp, 0, 128, .epoch⟩
def PC_EVT_EN : Fld := ⟨533, 22, 22, .rwp, 0, 128, .epoch⟩
def PC_EVT_IRQ : Fld := ⟨534, 23, 23, .rwp, 0, 128, .epoch⟩
def PC_CNT_COUNT : Fld := ⟨535, 47, 0, .rw, 0, 128, .none⟩
def PC_CNT_OVF : Fld := ⟨536, 48, 48, .w1c, 0, 0, .none⟩
def PC_SNAP_COUNT : Fld := ⟨537, 47, 0, .ro, 0, 128, .none⟩
def ST_DRRANGE_BASE : Fld := ⟨538, 23, 0, .ro, 0, 128, .epoch⟩
def ST_DRRANGE_LIMIT : Fld := ⟨539, 47, 24, .ro, 0, 128, .epoch⟩
def ST_SRRANGE_BASE : Fld := ⟨540, 23, 0, .ro, 0, 128, .epoch⟩
def ST_SRRANGE_LIMIT : Fld := ⟨541, 47, 24, .ro, 0, 128, .epoch⟩
def ST_IRRANGE_BASE : Fld := ⟨542, 23, 0, .ro, 0, 128, .epoch⟩
def ST_IRRANGE_LIMIT : Fld := ⟨543, 47, 24, .ro, 0, 128, .epoch⟩
def DP_EDID_DATA : Fld := ⟨544, 63, 0, .ro, 0, 0, .none⟩
def PW_DOM_STATE : Fld := ⟨545, 1, 0, .ro, 0, 0, .none⟩

end F

end Sys2Proof
end

