-- ==== Sys2Proof/Machine/RegTable.lean ====
section
/-! DEFINITION. The register groups of the local map: name, offset of element 0, counts and strides, and the fields
(spec 02 to 23, register tables; 01 R27). -/

namespace Sys2Proof

/-- A register group: `n1` × `n2` registers at base + i * s1 + j * s2; element (i, j) is number i * n2 + j. -/
structure RegGroup where
  base : Nat
  n1 : Nat
  s1 : Nat
  n2 : Nat
  s2 : Nat
  fields : List Fld
  deriving DecidableEq, Repr

namespace G

/-- KT_SUPPLY (02). -/
def KT_SUPPLY : RegGroup := ⟨0xE00000100, 1, 8, 1, 8,
  [F.KT_SUPPLY_MAIN_OK, F.KT_SUPPLY_BKP_OK, F.KT_SUPPLY_SRC, F.KT_SUPPLY_CARRIED, F.KT_SUPPLY_PG, F.KT_SUPPLY_BKP_ABSENT, F.KT_SUPPLY_CHG_COUNT, F.KT_SUPPLY_PG_DROP]⟩
/-- CK_MONSTAT (02). -/
def CK_MONSTAT : RegGroup := ⟨0xE00100040, 1, 8, 1, 8,
  [F.CK_MONSTAT_KCLK, F.CK_MONSTAT_FIRC, F.CK_MONSTAT_XREF, F.CK_MONSTAT_FREF, F.CK_MONSTAT_EREF, F.CK_MONSTAT_CPLL, F.CK_MONSTAT_SPLL, F.CK_MONSTAT_FPLL, F.CK_MONSTAT_DPLL, F.CK_MONSTAT_PPLL, F.CK_MONSTAT_CAPLL, F.CK_MONSTAT_MPLL, F.CK_MONSTAT_CANPLL, F.CK_MONSTAT_NETPLL]⟩
/-- KT_READY (03). -/
def KT_READY : RegGroup := ⟨0xE00000020, 4, 8, 1, 8,
  [F.KT_READY_READY]⟩
/-- CK_CLUSTER (03). -/
def CK_CLUSTER : RegGroup := ⟨0xE00100080, 4, 8, 1, 8,
  [F.CK_CLUSTER_FREQ, F.CK_CLUSTER_PLL_EN, F.CK_CLUSTER_LOCK, F.CK_CLUSTER_SEL, F.CK_CLUSTER_SWITCHING]⟩
/-- KT_RSTCAUSE (03). -/
def KT_RSTCAUSE : RegGroup := ⟨0xE00000008, 1, 8, 1, 8,
  [F.KT_RSTCAUSE_POR, F.KT_RSTCAUSE_BOR, F.KT_RSTCAUSE_SWR, F.KT_RSTCAUSE_WDR, F.KT_RSTCAUSE_TFR, F.KT_RSTCAUSE_DBR, F.KT_RSTCAUSE_LAST, F.KT_RSTCAUSE_COUNT, F.KT_RSTCAUSE_TFR_CORE]⟩
/-- KT_RSTCTL (03). -/
def KT_RSTCTL : RegGroup := ⟨0xE00000010, 1, 8, 1, 8,
  [F.KT_RSTCTL_KEY]⟩
/-- LC_STATE (03). -/
def LC_STATE : RegGroup := ⟨0xE00000200, 1, 8, 1, 8,
  [F.LC_STATE_STATE, F.LC_STATE_TORN]⟩
/-- IC_SRC (08). -/
def IC_SRC : RegGroup := ⟨0xE00201000, 1024, 8, 1, 8,
  [F.IC_SRC_PRIO, F.IC_SRC_EDGE, F.IC_SRC_SECURE, F.IC_SRC_TARGETS, F.IC_SRC_CORE, F.IC_SRC_PENDING, F.IC_SRC_ACTIVE, F.IC_SRC_LINE]⟩
/-- IC_SWTRIG (08). -/
def IC_SWTRIG : RegGroup := ⟨0xE00200010, 1, 8, 1, 8,
  [F.IC_SWTRIG_SOURCE]⟩
/-- L3_WAYMASK (11). -/
def L3_WAYMASK : RegGroup := ⟨0xE00700200, 64, 8, 1, 8,
  [F.L3_WAYMASK_MASK]⟩
/-- L3_LOCK (11). -/
def L3_LOCK : RegGroup := ⟨0xE00700100, 1, 8, 1, 8,
  [F.L3_LOCK_LOCK]⟩
/-- L3_CCTL (11). -/
def L3_CCTL : RegGroup := ⟨0xE00700800, 16, 8, 1, 8,
  [F.L3_CCTL_DCEN, F.L3_CCTL_ICEN, F.L3_CCTL_ICINV, F.L3_CCTL_DSWEPT, F.L3_CCTL_ISWEPT, F.L3_CCTL_ORPHAN]⟩
/-- L3_L2CTL (11). -/
def L3_L2CTL : RegGroup := ⟨0xE00700900, 4, 8, 1, 8,
  [F.L3_L2CTL_EN, F.L3_L2CTL_SWEPT, F.L3_L2CTL_ORPHAN]⟩
/-- L3_SLCTL (11). -/
def L3_SLCTL : RegGroup := ⟨0xE00700940, 8, 8, 1, 8,
  [F.L3_SLCTL_EN, F.L3_SLCTL_SWEPT, F.L3_SLCTL_ORPHAN]⟩
/-- NG_NODEID (12). -/
def NG_NODEID : RegGroup := ⟨0xE01000000, 1, 8, 1, 8,
  [F.NG_NODEID_ID]⟩
/-- NG_POLICY (12). -/
def NG_POLICY : RegGroup := ⟨0xE01000010, 1, 8, 1, 8,
  [F.NG_POLICY_LEGACY_TRUST, F.NG_POLICY_LEGACY_TMO]⟩
/-- NG_MGMTAUTH (12). -/
def NG_MGMTAUTH : RegGroup := ⟨0xE01000020, 4, 8, 1, 8,
  [F.NG_MGMTAUTH_NODE, F.NG_MGMTAUTH_VALID]⟩
/-- NG_LINKCFG (12). -/
def NG_LINKCFG : RegGroup := ⟨0xE01001000, 32, 64, 1, 8,
  [F.NG_LINKCFG_EN, F.NG_LINKCFG_BOND, F.NG_LINKCFG_RPF, F.NG_LINKCFG_VERLIM, F.NG_LINKCFG_CREDIT_TMO, F.NG_LINKCFG_RETRAIN_THR, F.NG_LINKCFG_QUAR_THR, F.NG_LINKCFG_TAG_THR, F.NG_LINKCFG_DENY_THR]⟩
/-- NG_LINKSTAT (12). -/
def NG_LINKSTAT : RegGroup := ⟨0xE01001008, 32, 64, 1, 8,
  [F.NG_LINKSTAT_STATE, F.NG_LINKSTAT_REASON, F.NG_LINKSTAT_VERSION, F.NG_LINKSTAT_CAP, F.NG_LINKSTAT_UNTIMED, F.NG_LINKSTAT_BONDED, F.NG_LINKSTAT_DELAY, F.NG_LINKSTAT_PARTNER_LINK]⟩
/-- NG_LINKERR (12). -/
def NG_LINKERR : RegGroup := ⟨0xE01001010, 32, 64, 1, 8,
  [F.NG_LINKERR_CORRECTED, F.NG_LINKERR_UNCORR, F.NG_LINKERR_RETRAINS, F.NG_LINKERR_TAGFAIL, F.NG_LINKERR_DENIED]⟩
/-- NG_LINKCTL (12). -/
def NG_LINKCTL : RegGroup := ⟨0xE01001018, 32, 64, 1, 8,
  [F.NG_LINKCTL_RETRAIN, F.NG_LINKCTL_QUARANTINE, F.NG_LINKCTL_RELEASE, F.NG_LINKCTL_CLRERR, F.NG_LINKCTL_KEY]⟩
/-- NG_STRROUTE (12). -/
def NG_STRROUTE : RegGroup := ⟨0xE01010000, 1024, 8, 1, 8,
  [F.NG_STRROUTE_PORT, F.NG_STRROUTE_ALT, F.NG_STRROUTE_REMAIN, F.NG_STRROUTE_HOPS]⟩
/-- NG_POSROUTE (12). -/
def NG_POSROUTE : RegGroup := ⟨0xE01012000, 256, 8, 1, 8,
  [F.NG_POSROUTE_PORT, F.NG_POSROUTE_ALT, F.NG_POSROUTE_REMAIN, F.NG_POSROUTE_HOPS]⟩
/-- NG_DLBUDGET (13). -/
def NG_DLBUDGET : RegGroup := ⟨0xE01003000, 64, 8, 1, 8,
  [F.NG_DLBUDGET_REQ, F.NG_DLBUDGET_RESP]⟩
/-- ST_WINCTL (13). -/
def ST_WINCTL : RegGroup := ⟨0xE00408000, 32, 512, 16, 32,
  [F.ST_WINCTL_VALID, F.ST_WINCTL_PERM, F.ST_WINCTL_TYPE, F.ST_WINCTL_PTAG, F.ST_WINCTL_SNODE, F.ST_WINCTL_SMASK]⟩
/-- ST_WINRANGE (13). -/
def ST_WINRANGE : RegGroup := ⟨0xE00408008, 32, 512, 16, 32,
  [F.ST_WINRANGE_BASE, F.ST_WINRANGE_LIMIT]⟩
/-- ST_WINRATE (13). -/
def ST_WINRATE : RegGroup := ⟨0xE00408010, 32, 512, 16, 32,
  [F.ST_WINRATE_RATE, F.ST_WINRATE_BURST]⟩
/-- NG_SQCFG (13). -/
def NG_SQCFG : RegGroup := ⟨0xE01014000, 16, 16, 1, 8,
  [F.NG_SQCFG_EN, F.NG_SQCFG_PART, F.NG_SQCFG_MINRING, F.NG_SQCFG_DEPTH, F.NG_SQCFG_IRQ, F.NG_SQCFG_RQ, F.NG_SQCFG_MGMT, F.NG_SQCFG_SENT]⟩
/-- NG_SQADDR (13). -/
def NG_SQADDR : RegGroup := ⟨0xE01014008, 16, 16, 1, 8,
  [F.NG_SQADDR_CPLADDR]⟩
/-- NG_RQCFG (13). -/
def NG_RQCFG : RegGroup := ⟨0xE01014100, 16, 16, 1, 8,
  [F.NG_RQCFG_EN, F.NG_RQCFG_PART, F.NG_RQCFG_MINRING, F.NG_RQCFG_STRIDE, F.NG_RQCFG_SLOTS, F.NG_RQCFG_IRQ, F.NG_RQCFG_OVERRUN]⟩
/-- NG_RQADDR (13). -/
def NG_RQADDR : RegGroup := ⟨0xE01014108, 16, 16, 1, 8,
  [F.NG_RQADDR_BASE]⟩
/-- NG_EVTPEND (13). -/
def NG_EVTPEND : RegGroup := ⟨0xE01000108, 1, 8, 1, 8,
  [F.NG_EVTPEND_EVT]⟩
/-- NG_REFCNT (13). -/
def NG_REFCNT : RegGroup := ⟨0xE01000100, 1, 8, 1, 8,
  [F.NG_REFCNT_DROPPED, F.NG_REFCNT_CODE1, F.NG_REFCNT_CODE2, F.NG_REFCNT_CODE3, F.NG_REFCNT_CODE4, F.NG_REFCNT_CODE5, F.NG_REFCNT_CODE6, F.NG_REFCNT_CODE7]⟩
/-- EP_CFG (14). -/
def EP_CFG : RegGroup := ⟨0xE00500000, 1, 8, 1, 8,
  [F.EP_CFG_EN, F.EP_CFG_PERIOD, F.EP_CFG_GUARD]⟩
/-- EP_ORIGIN (14). -/
def EP_ORIGIN : RegGroup := ⟨0xE00500008, 1, 8, 1, 8,
  [F.EP_ORIGIN_ORIGIN]⟩
/-- EP_NOW (14). -/
def EP_NOW : RegGroup := ⟨0xE00500010, 1, 8, 1, 8,
  [F.EP_NOW_VALUE]⟩
/-- EP_EPOCH (14). -/
def EP_EPOCH : RegGroup := ⟨0xE00500018, 1, 8, 1, 8,
  [F.EP_EPOCH_VALUE]⟩
/-- EP_TSTAT (14). -/
def EP_TSTAT : RegGroup := ⟨0xE00500020, 1, 8, 1, 8,
  [F.EP_TSTAT_STATE, F.EP_TSTAT_UPLINK, F.EP_TSTAT_STEPS, F.EP_TSTAT_GMNODE, F.EP_TSTAT_OFFSET]⟩
/-- EP_TCFG (14). -/
def EP_TCFG : RegGroup := ⟨0xE00500028, 1, 8, 1, 8,
  [F.EP_TCFG_GMPRIO, F.EP_TCFG_SYNCINT, F.EP_TCFG_STEPLIM]⟩
/-- EP_ASCFG (14). -/
def EP_ASCFG : RegGroup := ⟨0xE00500030, 1, 8, 1, 8,
  [F.EP_ASCFG_PORT, F.EP_ASCFG_MODE]⟩
/-- EP_ASOFS (14). -/
def EP_ASOFS : RegGroup := ⟨0xE00500038, 1, 8, 1, 8,
  [F.EP_ASOFS_OFS]⟩
/-- KT_EDWCFG (14). -/
def KT_EDWCFG : RegGroup := ⟨0xE00000400, 8, 8, 1, 8,
  [F.KT_EDWCFG_EN, F.KT_EDWCFG_SAFETY, F.KT_EDWCFG_MODE, F.KT_EDWCFG_CORE, F.KT_EDWCFG_DLOFS]⟩
/-- KT_EDWSTAT (14). -/
def KT_EDWSTAT : RegGroup := ⟨0xE00000440, 1, 8, 1, 8,
  [F.KT_EDWSTAT_KICK, F.KT_EDWSTAT_MISS, F.KT_EDWSTAT_LATECNT]⟩
/-- MR_CFG (15). -/
def MR_CFG : RegGroup := ⟨0xE00600000, 1, 8, 1, 8,
  [F.MR_CFG_EN, F.MR_CFG_ACCEPT, F.MR_CFG_FABHB, F.MR_CFG_PARTNER, F.MR_CFG_PART, F.MR_CFG_VERLIM]⟩
/-- MR_CTL (15). -/
def MR_CTL : RegGroup := ⟨0xE00600008, 1, 8, 1, 8,
  [F.MR_CTL_CLAIM, F.MR_CTL_OFFER, F.MR_CTL_HANDOVER, F.MR_CTL_ALONE, F.MR_CTL_KEY]⟩
/-- MR_STAT (15). -/
def MR_STAT : RegGroup := ⟨0xE00600010, 1, 8, 1, 8,
  [F.MR_STAT_ROLE, F.MR_STAT_PROLE, F.MR_STAT_MISSES, F.MR_STAT_ISOLATED, F.MR_STAT_SELFCHECK, F.MR_STAT_ROLLBACK, F.MR_STAT_COPYING, F.MR_STAT_PORT0, F.MR_STAT_PORT1, F.MR_STAT_GEN, F.MR_STAT_PENDING, F.MR_STAT_CFGERR, F.MR_STAT_ALONE, F.MR_STAT_LATECNT]⟩
/-- MR_COMMIT (15). -/
def MR_COMMIT : RegGroup := ⟨0xE00600018, 1, 8, 1, 8,
  [F.MR_COMMIT_SENT, F.MR_COMMIT_ACKED]⟩
/-- MR_VER (15). -/
def MR_VER : RegGroup := ⟨0xE00600020, 1, 8, 1, 8,
  [F.MR_VER_NATIVE, F.MR_VER_LOW, F.MR_VER_AGREED]⟩
/-- MR_PORTSTAT (15). -/
def MR_PORTSTAT : RegGroup := ⟨0xE00600028, 2, 8, 1, 8,
  [F.MR_PORTSTAT_STATE, F.MR_PORTSTAT_REASON, F.MR_PORTSTAT_UNTIMED, F.MR_PORTSTAT_REDUCED, F.MR_PORTSTAT_DELAY, F.MR_PORTSTAT_PARTNER_PORT]⟩
/-- MR_JOURNAL (15). -/
def MR_JOURNAL : RegGroup := ⟨0xE00600040, 1, 8, 1, 8,
  [F.MR_JOURNAL_BASE, F.MR_JOURNAL_SIZE]⟩
/-- MR_JFILL (15). -/
def MR_JFILL : RegGroup := ⟨0xE00600048, 1, 8, 1, 8,
  [F.MR_JFILL_RECORDS]⟩
/-- MR_REGION (15). -/
def MR_REGION : RegGroup := ⟨0xE00600100, 8, 8, 1, 8,
  [F.MR_REGION_VALID, F.MR_REGION_BASE, F.MR_REGION_SIZE]⟩
/-- MR_CKPT (15). -/
def MR_CKPT : RegGroup := ⟨0xE00600200, 4, 8, 1, 8,
  [F.MR_CKPT_VALID, F.MR_CKPT_OFFSET, F.MR_CKPT_LINES]⟩
/-- KT_CADDYRST (16). -/
def KT_CADDYRST : RegGroup := ⟨0xE00000300, 1, 8, 1, 8,
  [F.KT_CADDYRST_SLOT, F.KT_CADDYRST_FAILED, F.KT_CADDYRST_HELD, F.KT_CADDYRST_RESTARTS, F.KT_CADDYRST_LASTCAUSE]⟩
/-- MB_CTL (16). -/
def MB_CTL : RegGroup := ⟨0xE00300000, 8, 64, 1, 8,
  [F.MB_CTL_GO, F.MB_CTL_ACK, F.MB_CTL_IRQ]⟩
/-- MB_STAT (16). -/
def MB_STAT : RegGroup := ⟨0xE00300008, 8, 64, 1, 8,
  [F.MB_STAT_STATE, F.MB_STAT_CADDY_UP, F.MB_STAT_RESTART, F.MB_STAT_RESTARTS, F.MB_STAT_EN, F.MB_STAT_PART, F.MB_STAT_MINRING]⟩
/-- MB_VER (16). -/
def MB_VER : RegGroup := ⟨0xE00300400, 1, 8, 1, 8,
  [F.MB_VER_NATIVE, F.MB_VER_LOW]⟩
/-- ST_DRCTL (16). -/
def ST_DRCTL : RegGroup := ⟨0xE00401000, 4, 1024, 64, 16,
  [F.ST_DRCTL_VALID, F.ST_DRCTL_RD, F.ST_DRCTL_WR, F.ST_DRCTL_EX, F.ST_DRCTL_SAFETY, F.ST_DRCTL_PART, F.ST_DRCTL_PANY, F.ST_DRCTL_CLASS]⟩
/-- ST_SRCTL (16). -/
def ST_SRCTL : RegGroup := ⟨0xE00402000, 16, 16, 1, 8,
  [F.ST_SRCTL_VALID, F.ST_SRCTL_RD, F.ST_SRCTL_WR, F.ST_SRCTL_EX, F.ST_SRCTL_SAFETY, F.ST_SRCTL_PART, F.ST_SRCTL_PANY, F.ST_SRCTL_CLASS]⟩
/-- ST_IRCTL (16). -/
def ST_IRCTL : RegGroup := ⟨0xE00403000, 32, 64, 4, 16,
  [F.ST_IRCTL_VALID, F.ST_IRCTL_RD, F.ST_IRCTL_WR, F.ST_IRCTL_EX, F.ST_IRCTL_SAFETY, F.ST_IRCTL_PART, F.ST_IRCTL_PANY, F.ST_IRCTL_CLASS]⟩
/-- ST_VSTAT (16). -/
def ST_VSTAT : RegGroup := ⟨0xE00400100, 72, 16, 1, 8,
  [F.ST_VSTAT_COUNT, F.ST_VSTAT_CLASS, F.ST_VSTAT_PART, F.ST_VSTAT_KIND, F.ST_VSTAT_SAFETY, F.ST_VSTAT_NOMATCH, F.ST_VSTAT_REGION]⟩
/-- ST_VADDR (16). -/
def ST_VADDR : RegGroup := ⟨0xE00400108, 72, 16, 1, 8,
  [F.ST_VADDR_ADDR]⟩
/-- KT_SAFELVL (17). -/
def KT_SAFELVL : RegGroup := ⟨0xE00000500, 1, 8, 1, 8,
  [F.KT_SAFELVL_LVL]⟩
/-- KT_SOVAL (17). -/
def KT_SOVAL : RegGroup := ⟨0xE00000508, 1, 8, 1, 8,
  [F.KT_SOVAL_VALUE, F.KT_SOVAL_OE]⟩
/-- KT_SAFECTL (17). -/
def KT_SAFECTL : RegGroup := ⟨0xE00000510, 1, 8, 1, 8,
  [F.KT_SAFECTL_HELD, F.KT_SAFECTL_ARMED, F.KT_SAFECTL_LOCK, F.KT_SAFECTL_ARMCORE]⟩
/-- KT_SAFEREL (17). -/
def KT_SAFEREL : RegGroup := ⟨0xE00000518, 1, 8, 1, 8,
  [F.KT_SAFEREL_KEY]⟩
/-- KT_TRIGSTAT (17). -/
def KT_TRIGSTAT : RegGroup := ⟨0xE00000528, 1, 8, 1, 8,
  [F.KT_TRIGSTAT_RAISED, F.KT_TRIGSTAT_HIST]⟩
/-- KT_SINCFG (17). -/
def KT_SINCFG : RegGroup := ⟨0xE00000600, 16, 8, 1, 8,
  [F.KT_SINCFG_EN, F.KT_SINCFG_ANTI, F.KT_SINCFG_FILT, F.KT_SINCFG_DISC]⟩
/-- KT_SINSTAT (17). -/
def KT_SINSTAT : RegGroup := ⟨0xE00000680, 1, 8, 1, 8,
  [F.KT_SINSTAT_A, F.KT_SINSTAT_B, F.KT_SINSTAT_DISC, F.KT_SINSTAT_RAISED]⟩
/-- KT_JOYCFG (17). -/
def KT_JOYCFG : RegGroup := ⟨0xE00000700, 8, 8, 1, 8,
  [F.KT_JOYCFG_EN, F.KT_JOYCFG_MIRROR, F.KT_JOYCFG_WIN, F.KT_JOYCFG_LO, F.KT_JOYCFG_HI, F.KT_JOYCFG_FILT]⟩
/-- KT_JOYVAL (17). -/
def KT_JOYVAL : RegGroup := ⟨0xE00000740, 8, 8, 1, 8,
  [F.KT_JOYVAL_A, F.KT_JOYVAL_B, F.KT_JOYVAL_POS, F.KT_JOYVAL_VALID, F.KT_JOYVAL_RAISED]⟩
/-- KT_WDCFG (17). -/
def KT_WDCFG : RegGroup := ⟨0xE00000800, 1, 8, 1, 8,
  [F.KT_WDCFG_EN, F.KT_WDCFG_RSTEN, F.KT_WDCFG_LOCK, F.KT_WDCFG_TMO, F.KT_WDCFG_WMIN]⟩
/-- KT_WDKICK (17). -/
def KT_WDKICK : RegGroup := ⟨0xE00000808, 1, 8, 1, 8,
  [F.KT_WDKICK_KEY, F.KT_WDKICK_ELAPSED, F.KT_WDKICK_EXPIRED]⟩
/-- KT_TEMP (17). -/
def KT_TEMP : RegGroup := ⟨0xE00000820, 1, 8, 1, 8,
  [F.KT_TEMP_TRIP, F.KT_TEMP_HOT]⟩
/-- DREGS_STAT (17). -/
def DREGS_STAT : RegGroup := ⟨0xE00001000, 1, 8, 1, 8,
  [F.DREGS_STAT_HEAD, F.DREGS_STAT_FILL, F.DREGS_STAT_QLOST]⟩
/-- DREGS_RELEASE (17). -/
def DREGS_RELEASE : RegGroup := ⟨0xE00001008, 1, 8, 1, 8,
  [F.DREGS_RELEASE_N]⟩
/-- DREGS_SUBMIT (17). -/
def DREGS_SUBMIT : RegGroup := ⟨0xE00001010, 1, 8, 1, 8,
  [F.DREGS_SUBMIT_CODE, F.DREGS_SUBMIT_CLASS, F.DREGS_SUBMIT_DETAIL]⟩
/-- DREGS_LOST (17). -/
def DREGS_LOST : RegGroup := ⟨0xE00001100, 5, 24, 1, 8,
  [F.DREGS_LOST_COUNT]⟩
/-- DREGS_LOSTF (17). -/
def DREGS_LOSTF : RegGroup := ⟨0xE00001108, 5, 24, 1, 8,
  [F.DREGS_LOSTF_FIRST]⟩
/-- DREGS_LOSTL (17). -/
def DREGS_LOSTL : RegGroup := ⟨0xE00001110, 5, 24, 1, 8,
  [F.DREGS_LOSTL_LAST]⟩
/-- PW_DOMREQ (18). -/
def PW_DOMREQ : RegGroup := ⟨0xE00002010, 1, 8, 1, 8,
  [F.PW_DOMREQ_DOMAIN, F.PW_DOMREQ_STATE]⟩
/-- PW_LASTREQ (18). -/
def PW_LASTREQ : RegGroup := ⟨0xE00002018, 1, 8, 1, 8,
  [F.PW_LASTREQ_RESULT, F.PW_LASTREQ_CORE, F.PW_LASTREQ_STEEP, F.PW_LASTREQ_REFDOM, F.PW_LASTREQ_REASON]⟩
/-- PW_CORECLK (18). -/
def PW_CORECLK : RegGroup := ⟨0xE00002020, 1, 8, 1, 8,
  [F.PW_CORECLK_SEL]⟩
/-- PW_VCMD (18). -/
def PW_VCMD : RegGroup := ⟨0xE00002040, 4, 8, 1, 8,
  [F.PW_VCMD_TARGET, F.PW_VCMD_SEQ, F.PW_VCMD_DONESEQ, F.PW_VCMD_BUSY, F.PW_VCMD_FAIL, F.PW_VCMD_MV]⟩
/-- KT_STEEP (18). -/
def KT_STEEP : RegGroup := ⟨0xE00003100, 32, 8, 1, 8,
  [F.KT_STEEP_OP, F.KT_STEEP_A, F.KT_STEEP_B, F.KT_STEEP_ARG, F.KT_STEEP_LO, F.KT_STEEP_HI]⟩
/-- KT_STEEPCTL (18). -/
def KT_STEEPCTL : RegGroup := ⟨0xE00003000, 1, 8, 1, 8,
  [F.KT_STEEPCTL_COLD, F.KT_STEEPCTL_RECOV, F.KT_STEEPCTL_CSTEP, F.KT_STEEPCTL_RSTEP, F.KT_STEEPCTL_TSTEP, F.KT_STEEPCTL_START, F.KT_STEEPCTL_ACK]⟩
/-- KT_STEEPSTAT (18). -/
def KT_STEEPSTAT : RegGroup := ⟨0xE00003008, 1, 8, 1, 8,
  [F.KT_STEEPSTAT_STATE, F.KT_STEEPSTAT_STEP, F.KT_STEEPSTAT_ACC]⟩
/-- MC_CFG (19). -/
def MC_CFG : RegGroup := ⟨0xE00800000, 1, 8, 1, 8,
  [F.MC_CFG_RATE, F.MC_CFG_CAP, F.MC_CFG_RANKS2, F.MC_CFG_SRMAIN]⟩
/-- MC_CTL (19). -/
def MC_CTL : RegGroup := ⟨0xE00800008, 1, 8, 1, 8,
  [F.MC_CTL_INIT, F.MC_CTL_KEEP, F.MC_CTL_FILL]⟩
/-- MC_STAT (19). -/
def MC_STAT : RegGroup := ⟨0xE00800010, 1, 8, 1, 8,
  [F.MC_STAT_TRAINED, F.MC_STAT_FILLING, F.MC_STAT_OVERCOMMIT]⟩
/-- MC_CLASSPART (19). -/
def MC_CLASSPART : RegGroup := ⟨0xE00800018, 1, 8, 1, 8,
  [F.MC_CLASSPART_PART0, F.MC_CLASSPART_PART1, F.MC_CLASSPART_PART2, F.MC_CLASSPART_PART3, F.MC_CLASSPART_PART4, F.MC_CLASSPART_PART5, F.MC_CLASSPART_CADDY]⟩
/-- MC_SCRUB (19). -/
def MC_SCRUB : RegGroup := ⟨0xE00800020, 1, 8, 1, 8,
  [F.MC_SCRUB_PERIOD]⟩
/-- MC_ECCSTAT (19). -/
def MC_ECCSTAT : RegGroup := ⟨0xE00800100, 4, 16, 1, 8,
  [F.MC_ECCSTAT_CE, F.MC_ECCSTAT_UE, F.MC_ECCSTAT_CETHR]⟩
/-- MC_ECCADDR (19). -/
def MC_ECCADDR : RegGroup := ⟨0xE00800108, 4, 16, 1, 8,
  [F.MC_ECCADDR_ADDR, F.MC_ECCADDR_VALID]⟩
/-- MC_BUDGET (19). -/
def MC_BUDGET : RegGroup := ⟨0xE00801000, 64, 8, 1, 8,
  [F.MC_BUDGET_RATE, F.MC_BUDGET_BURST]⟩
/-- IF_PGRP (20). -/
def IF_PGRP : RegGroup := ⟨0xE02000000, 56, 8, 1, 8,
  [F.IF_PGRP_OWNER, F.IF_PGRP_VALID, F.IF_PGRP_EVT]⟩
/-- IF_CTL (20). -/
def IF_CTL : RegGroup := ⟨0xE02010000, 32, 4096, 1, 8,
  [F.IF_CTL_START, F.IF_CTL_STOP, F.IF_CTL_CLASS]⟩
/-- IF_STAT (20). -/
def IF_STAT : RegGroup := ⟨0xE02010008, 32, 4096, 1, 8,
  [F.IF_STAT_STATE, F.IF_STAT_SAFETY, F.IF_STAT_HASHV, F.IF_STAT_CSIGN, F.IF_STAT_IFRESH, F.IF_STAT_CAUSE, F.IF_STAT_PC]⟩
/-- IF_ENTRY (20). -/
def IF_ENTRY : RegGroup := ⟨0xE02010010, 32, 4096, 1, 8,
  [F.IF_ENTRY_ENTRY, F.IF_ENTRY_VEC]⟩
/-- IF_CFG (20). -/
def IF_CFG : RegGroup := ⟨0xE02010018, 32, 4096, 1, 8,
  [F.IF_CFG_PPART]⟩
/-- IF_DOORBELL (20). -/
def IF_DOORBELL : RegGroup := ⟨0xE02010020, 32, 4096, 1, 8,
  [F.IF_DOORBELL_RING]⟩
/-- IF_PARAM (20). -/
def IF_PARAM : RegGroup := ⟨0xE02010100, 32, 4096, 32, 8,
  [F.IF_PARAM_DATA]⟩
/-- IF_IMGOUT (20). -/
def IF_IMGOUT : RegGroup := ⟨0xE02010400, 32, 4096, 128, 8,
  [F.IF_IMGOUT_DATA]⟩
/-- IF_IMGIN (20). -/
def IF_IMGIN : RegGroup := ⟨0xE02010800, 32, 4096, 128, 8,
  [F.IF_IMGIN_DATA]⟩
/-- DP_OCFG (21). -/
def DP_OCFG : RegGroup := ⟨0xE03000000, 6, 4096, 1, 8,
  [F.DP_OCFG_EN, F.DP_OCFG_MODE, F.DP_OCFG_BPC, F.DP_OCFG_LINE, F.DP_OCFG_BG]⟩
/-- DP_OTIM (21). -/
def DP_OTIM : RegGroup := ⟨0xE03000008, 6, 4096, 1, 8,
  [F.DP_OTIM_HACT, F.DP_OTIM_HBLANK, F.DP_OTIM_VACT, F.DP_OTIM_VBLANK, F.DP_OTIM_PCLK]⟩
/-- DP_OSTAT (21). -/
def DP_OSTAT : RegGroup := ⟨0xE03000010, 6, 4096, 1, 8,
  [F.DP_OSTAT_STATE, F.DP_OSTAT_HPD, F.DP_OSTAT_BADCFG, F.DP_OSTAT_AMBSTALE, F.DP_OSTAT_UNDERRUN, F.DP_OSTAT_BL]⟩
/-- DP_SUN (21). -/
def DP_SUN : RegGroup := ⟨0xE03000018, 6, 4096, 1, 8,
  [F.DP_SUN_SUNEN, F.DP_SUN_GAINMAX, F.DP_SUN_BLMIN, F.DP_SUN_BLMAX, F.DP_SUN_LUXLO, F.DP_SUN_LUXHI]⟩
/-- DP_AMB (21). -/
def DP_AMB : RegGroup := ⟨0xE03000020, 6, 4096, 1, 8,
  [F.DP_AMB_LUX, F.DP_AMB_AMBTMO]⟩
/-- DP_CRC (21). -/
def DP_CRC : RegGroup := ⟨0xE03000028, 6, 4096, 1, 8,
  [F.DP_CRC_CRC, F.DP_CRC_FRAME]⟩
/-- DP_LADDR (21). -/
def DP_LADDR : RegGroup := ⟨0xE03000100, 6, 4096, 8, 32,
  [F.DP_LADDR_ADDR, F.DP_LADDR_STRIDE]⟩
/-- DP_LGEOM (21). -/
def DP_LGEOM : RegGroup := ⟨0xE03000108, 6, 4096, 8, 32,
  [F.DP_LGEOM_SRC, F.DP_LGEOM_DST]⟩
/-- DP_LCTL (21). -/
def DP_LCTL : RegGroup := ⟨0xE03000110, 6, 4096, 8, 32,
  [F.DP_LCTL_LEN, F.DP_LCTL_FMT, F.DP_LCTL_LALPHA, F.DP_LCTL_LFILL]⟩
/-- TC_CFG (21). -/
def TC_CFG : RegGroup := ⟨0xE03100000, 2, 4096, 1, 8,
  [F.TC_CFG_EN, F.TC_CFG_RATE, F.TC_CFG_CYC, F.TC_CFG_SELF, F.TC_CFG_GLOVE, F.TC_CFG_WATER, F.TC_CFG_HOP, F.TC_CFG_THR, F.TC_CFG_SELFTHR, F.TC_CFG_NOISETHR]⟩
/-- TC_HOP (21). -/
def TC_HOP : RegGroup := ⟨0xE03100008, 2, 4096, 1, 8,
  [F.TC_HOP_F0, F.TC_HOP_F1, F.TC_HOP_F2, F.TC_HOP_F3, F.TC_HOP_F4, F.TC_HOP_F5, F.TC_HOP_F6, F.TC_HOP_F7]⟩
/-- TC_STAT (21). -/
def TC_STAT : RegGroup := ⟨0xE03100010, 2, 4096, 1, 8,
  [F.TC_STAT_SEQ, F.TC_STAT_FIDX, F.TC_STAT_WETFLAG, F.TC_STAT_OVERFLOW, F.TC_STAT_CFGERR, F.TC_STAT_PERIOD]⟩
/-- TC_REP (21). -/
def TC_REP : RegGroup := ⟨0xE03100100, 2, 4096, 10, 8,
  [F.TC_REP_X, F.TC_REP_Y, F.TC_REP_ID, F.TC_REP_SIZE, F.TC_REP_SIGNAL, F.TC_REP_VALID, F.TC_REP_GLOVED, F.TC_REP_NEW, F.TC_REP_LIFT]⟩
/-- CM_INCFG (22). -/
def CM_INCFG : RegGroup := ⟨0xE03201000, 32, 64, 1, 8,
  [F.CM_INCFG_EN, F.CM_INCFG_SPLIT, F.CM_INCFG_LANES, F.CM_INCFG_WRITE, F.CM_INCFG_TAP, F.CM_INCFG_VC, F.CM_INCFG_DT, F.CM_INCFG_NBUF]⟩
/-- CM_INBUF (22). -/
def CM_INBUF : RegGroup := ⟨0xE03201008, 32, 64, 1, 8,
  [F.CM_INBUF_BASE, F.CM_INBUF_STRIDE, F.CM_INBUF_BUFSZ]⟩
/-- CM_INSTAT (22). -/
def CM_INSTAT : RegGroup := ⟨0xE03201010, 32, 64, 1, 8,
  [F.CM_INSTAT_CUR, F.CM_INSTAT_CRCERR, F.CM_INSTAT_DROPPED, F.CM_INSTAT_FRAMES]⟩
/-- CM_CQBASE (22). -/
def CM_CQBASE : RegGroup := ⟨0xE03200000, 1, 8, 1, 8,
  [F.CM_CQBASE_BASE]⟩
/-- CM_CQTAIL (22). -/
def CM_CQTAIL : RegGroup := ⟨0xE03200008, 1, 8, 1, 8,
  [F.CM_CQTAIL_TAIL, F.CM_CQTAIL_HEAD]⟩
/-- NW_GCL (22). -/
def NW_GCL : RegGroup := ⟨0xE04010000, 8, 1024, 64, 8,
  [F.NW_GCL_GATES, F.NW_GCL_INTERVAL, F.NW_GCL_VALID]⟩
/-- NW_GCLBASE (22). -/
def NW_GCLBASE : RegGroup := ⟨0xE04010200, 8, 1024, 1, 8,
  [F.NW_GCLBASE_BASE]⟩
/-- NW_CANSLOT (22). -/
def NW_CANSLOT : RegGroup := ⟨0xE04020000, 8, 256, 8, 16,
  [F.NW_CANSLOT_HEADER, F.NW_CANSLOT_OFFSET, F.NW_CANSLOT_VALID, F.NW_CANSLOT_LEN]⟩
/-- NW_CANSLOTD (22). -/
def NW_CANSLOTD : RegGroup := ⟨0xE04020008, 8, 256, 8, 16,
  [F.NW_CANSLOTD_DATA]⟩
/-- NW_CANSTAT (22). -/
def NW_CANSTAT : RegGroup := ⟨0xE04020800, 8, 8, 1, 8,
  [F.NW_CANSTAT_TEC, F.NW_CANSTAT_REC, F.NW_CANSTAT_ESTATE, F.NW_CANSTAT_MISSED]⟩
/-- NW_PCIBAR (22). -/
def NW_PCIBAR : RegGroup := ⟨0xE04030000, 2, 8, 1, 8,
  [F.NW_PCIBAR_BASE]⟩
/-- DB_GRANT (23). -/
def DB_GRANT : RegGroup := ⟨0xE05000000, 1, 8, 1, 8,
  [F.DB_GRANT_LEVEL, F.DB_GRANT_PORT, F.DB_GRANT_ONCHIP, F.DB_GRANT_UNTIMED, F.DB_GRANT_STATUS, F.DB_GRANT_REVOKE]⟩
/-- DB_GRANTMASK (23). -/
def DB_GRANTMASK : RegGroup := ⟨0xE05000008, 1, 8, 1, 8,
  [F.DB_GRANTMASK_PMASK]⟩
/-- DB_CATCH (23). -/
def DB_CATCH : RegGroup := ⟨0xE05000010, 1, 8, 1, 8,
  [F.DB_CATCH_CORES, F.DB_CATCH_HELD, F.DB_CATCH_RELEASE, F.DB_CATCH_KEY]⟩
/-- DB_CORECTL (23). -/
def DB_CORECTL : RegGroup := ⟨0xE05010000, 16, 256, 1, 8,
  [F.DB_CORECTL_STEP, F.DB_CORECTL_SKIP, F.DB_CORECTL_REQUEST, F.DB_CORECTL_ARMED]⟩
/-- DB_CMPCTL (23). -/
def DB_CMPCTL : RegGroup := ⟨0xE05010010, 16, 256, 8, 16,
  [F.DB_CMPCTL_EN, F.DB_CMPCTL_KIND, F.DB_CMPCTL_PAIR, F.DB_CMPCTL_ACTION, F.DB_CMPCTL_RINGS, F.DB_CMPCTL_ASIDEN, F.DB_CMPCTL_ASID, F.DB_CMPCTL_PARTEN, F.DB_CMPCTL_PART]⟩
/-- DB_CMPADDR (23). -/
def DB_CMPADDR : RegGroup := ⟨0xE05010018, 16, 256, 8, 16,
  [F.DB_CMPADDR_ADDR]⟩
/-- TR_CFG (23). -/
def TR_CFG : RegGroup := ⟨0xE05020000, 1, 8, 1, 8,
  [F.TR_CFG_EN, F.TR_CFG_GATED, F.TR_CFG_POURSYNC, F.TR_CFG_FABRIC, F.TR_CFG_DRAM, F.TR_CFG_CORES]⟩
/-- TR_SINK (23). -/
def TR_SINK : RegGroup := ⟨0xE05020008, 1, 8, 1, 8,
  [F.TR_SINK_KIND, F.TR_SINK_WRAP, F.TR_SINK_STALL, F.TR_SINK_SIZE, F.TR_SINK_EPART, F.TR_SINK_BASE, F.TR_SINK_ENODE]⟩
/-- TR_PTR (23). -/
def TR_PTR : RegGroup := ⟨0xE05020018, 1, 8, 1, 8,
  [F.TR_PTR_WRPTR, F.TR_PTR_RDPTR]⟩
/-- TR_STAT (23). -/
def TR_STAT : RegGroup := ⟨0xE05020020, 1, 8, 1, 8,
  [F.TR_STAT_ACTIVE, F.TR_STAT_FULL, F.TR_STAT_LOST, F.TR_STAT_EXPNACK]⟩
/-- TR_PMASK (23). -/
def TR_PMASK : RegGroup := ⟨0xE05020028, 1, 8, 1, 8,
  [F.TR_PMASK_PMASK]⟩
/-- PC_EVT (23). -/
def PC_EVT : RegGroup := ⟨0xE06000000, 32, 16, 1, 8,
  [F.PC_EVT_EVENT, F.PC_EVT_UNIT, F.PC_EVT_PART, F.PC_EVT_PANY, F.PC_EVT_EN, F.PC_EVT_IRQ]⟩
/-- PC_CNT (23). -/
def PC_CNT : RegGroup := ⟨0xE06000008, 32, 16, 1, 8,
  [F.PC_CNT_COUNT, F.PC_CNT_OVF]⟩
/-- PC_SNAP (23). -/
def PC_SNAP : RegGroup := ⟨0xE06001000, 32, 8, 1, 8,
  [F.PC_SNAP_COUNT]⟩
/-- ST_DRRANGE (16). -/
def ST_DRRANGE : RegGroup := ⟨0xE00401008, 4, 1024, 64, 16,
  [F.ST_DRRANGE_BASE, F.ST_DRRANGE_LIMIT]⟩
/-- ST_SRRANGE (16). -/
def ST_SRRANGE : RegGroup := ⟨0xE00402008, 16, 16, 1, 8,
  [F.ST_SRRANGE_BASE, F.ST_SRRANGE_LIMIT]⟩
/-- ST_IRRANGE (16). -/
def ST_IRRANGE : RegGroup := ⟨0xE00403008, 32, 64, 4, 16,
  [F.ST_IRRANGE_BASE, F.ST_IRRANGE_LIMIT]⟩
/-- DP_EDID (21). -/
def DP_EDID : RegGroup := ⟨0xE03000800, 6, 4096, 64, 8,
  [F.DP_EDID_DATA]⟩

end G

def regGroups0 : List RegGroup :=
  [G.KT_SUPPLY, G.CK_MONSTAT, G.KT_READY, G.CK_CLUSTER, G.KT_RSTCAUSE, G.KT_RSTCTL, G.LC_STATE, G.IC_SRC, G.IC_SWTRIG, G.L3_WAYMASK, G.L3_LOCK, G.L3_CCTL, G.L3_L2CTL, G.L3_SLCTL, G.NG_NODEID, G.NG_POLICY, G.NG_MGMTAUTH, G.NG_LINKCFG, G.NG_LINKSTAT, G.NG_LINKERR, G.NG_LINKCTL, G.NG_STRROUTE, G.NG_POSROUTE, G.NG_DLBUDGET]

def regGroups1 : List RegGroup :=
  [G.ST_WINCTL, G.ST_WINRANGE, G.ST_WINRATE, G.NG_SQCFG, G.NG_SQADDR, G.NG_RQCFG, G.NG_RQADDR, G.NG_EVTPEND, G.NG_REFCNT, G.EP_CFG, G.EP_ORIGIN, G.EP_NOW, G.EP_EPOCH, G.EP_TSTAT, G.EP_TCFG, G.EP_ASCFG, G.EP_ASOFS, G.KT_EDWCFG, G.KT_EDWSTAT, G.MR_CFG, G.MR_CTL, G.MR_STAT, G.MR_COMMIT, G.MR_VER]

def regGroups2 : List RegGroup :=
  [G.MR_PORTSTAT, G.MR_JOURNAL, G.MR_JFILL, G.MR_REGION, G.MR_CKPT, G.KT_CADDYRST, G.MB_CTL, G.MB_STAT, G.MB_VER, G.ST_DRCTL, G.ST_SRCTL, G.ST_IRCTL, G.ST_VSTAT, G.ST_VADDR, G.KT_SAFELVL, G.KT_SOVAL, G.KT_SAFECTL, G.KT_SAFEREL, G.KT_TRIGSTAT, G.KT_SINCFG, G.KT_SINSTAT, G.KT_JOYCFG, G.KT_JOYVAL, G.KT_WDCFG]

def regGroups3 : List RegGroup :=
  [G.KT_WDKICK, G.KT_TEMP, G.DREGS_STAT, G.DREGS_RELEASE, G.DREGS_SUBMIT, G.DREGS_LOST, G.DREGS_LOSTF, G.DREGS_LOSTL, G.PW_DOMREQ, G.PW_LASTREQ, G.PW_CORECLK, G.PW_VCMD, G.KT_STEEP, G.KT_STEEPCTL, G.KT_STEEPSTAT, G.MC_CFG, G.MC_CTL, G.MC_STAT, G.MC_CLASSPART, G.MC_SCRUB, G.MC_ECCSTAT, G.MC_ECCADDR, G.MC_BUDGET, G.IF_PGRP]

def regGroups4 : List RegGroup :=
  [G.IF_CTL, G.IF_STAT, G.IF_ENTRY, G.IF_CFG, G.IF_DOORBELL, G.IF_PARAM, G.IF_IMGOUT, G.IF_IMGIN, G.DP_OCFG, G.DP_OTIM, G.DP_OSTAT, G.DP_SUN, G.DP_AMB, G.DP_CRC, G.DP_LADDR, G.DP_LGEOM, G.DP_LCTL, G.TC_CFG, G.TC_HOP, G.TC_STAT, G.TC_REP, G.CM_INCFG, G.CM_INBUF, G.CM_INSTAT]

def regGroups5 : List RegGroup :=
  [G.CM_CQBASE, G.CM_CQTAIL, G.NW_GCL, G.NW_GCLBASE, G.NW_CANSLOT, G.NW_CANSLOTD, G.NW_CANSTAT, G.NW_PCIBAR, G.DB_GRANT, G.DB_GRANTMASK, G.DB_CATCH, G.DB_CORECTL, G.DB_CMPCTL, G.DB_CMPADDR, G.TR_CFG, G.TR_SINK, G.TR_PTR, G.TR_STAT, G.TR_PMASK, G.PC_EVT, G.PC_CNT, G.PC_SNAP, G.ST_DRRANGE, G.ST_SRRANGE]

def regGroups6 : List RegGroup :=
  [G.ST_IRRANGE, G.DP_EDID]

/-- Every register group of the local map. -/
def regGroups : List RegGroup :=
  regGroups0 ++ regGroups1 ++ regGroups2 ++ regGroups3 ++ regGroups4 ++ regGroups5 ++ regGroups6

end Sys2Proof
end

