-- ==== Sys2Proof/Machine/FMap.lean ====
section
/-! DEFINITION. Sparse data by key: a list of key and value pairs in one canonical form (keys strictly rising, no entry
equal to what an unlisted key reads as). Memory, the register fields and the register files of the processors are held
so. -/

namespace Sys2Proof

/-- Sparse data by key. -/
abbrev FMap (α : Type) := List (Nat × α)

namespace Machine

/-- What key `k` reads as; an unlisted key reads as `d`. -/
def mget {α : Type} (d : α) : FMap α → Nat → α
  | [], _ => d
  | (k', v) :: m, k => if k' = k then v else mget d m k

/-- The map without key `k`. -/
def mdel {α : Type} : FMap α → Nat → FMap α
  | [], _ => []
  | (k', v) :: m, k => if k' = k then mdel m k else (k', v) :: mdel m k

/-- Put `v` at key `k`, before the first greater key. -/
def mput {α : Type} : FMap α → Nat → α → FMap α
  | [], k, v => [(k, v)]
  | (k', v') :: m, k, v =>
    if k < k' then (k, v) :: (k', v') :: m else if k = k' then (k, v) :: m else (k', v') :: mput m k v

/-- Put `v` at key `k`, or remove the key when `v` is what an unlisted key reads as. -/
def mset {α : Type} [DecidableEq α] (d : α) (m : FMap α) (k : Nat) (v : α) : FMap α :=
  if v = d then mdel m k else mput m k v

/-- The keys of an entry list lie above `b`, rise strictly, and no entry equals `d`. -/
def mwfFrom {α : Type} [DecidableEq α] (d : α) : Option Nat → FMap α → Bool
  | _, [] => true
  | b, (k, v) :: m => (match b with | none => true | some b => decide (b < k)) && decide (v ≠ d) && mwfFrom d (some k) m

/-- The canonical form. -/
def mwf {α : Type} [DecidableEq α] (d : α) (m : FMap α) : Bool := mwfFrom d none m

/-- The entries whose keys lie in `lo` to `hi - 1`. -/
def mrange {α : Type} (m : FMap α) (lo hi : Nat) : FMap α :=
  m.filter fun e => Nat.ble lo e.1 && Nat.blt e.1 hi

/-- The entries whose keys lie outside `lo` to `hi - 1`. -/
def mdrop {α : Type} (m : FMap α) (lo hi : Nat) : FMap α :=
  m.filter fun e => !(Nat.ble lo e.1 && Nat.blt e.1 hi)

end Machine
end Sys2Proof
end

