-- ==== Sys2Proof/Machine/Types.lean ====
section
/-! DEFINITION. The parts of State of the processors, caches, store buffers and TLBs: plain data (spec 04, 05, 08 to
11). The parts of the other units are in Types2. -/

namespace Sys2Proof.Machine

/-- Region types (spec 09 R203). -/
inductive RType where
  | normalWb | normalWt | normalNc | mirroredWb | deviceStrict | devicePosted | remoteNc | remoteWt
  deriving DecidableEq, Repr

/-- STATUS of a processor (spec 04, STATUS table). DIRTY_ORPHAN is computed from the caches. -/
structure Status where
  ie : Bool := false
  ipl : BitVec 3 := 7
  exl : Bool := false
  ring : BitVec 2 := 0
  ov : Bool := false
  dz : Bool := false
  ovt : Bool := false
  dzt : Bool := false
  fpe : Bool := false
  fpd : Bool := false
  legacy : Bool := false
  ml : Bool := true
  bank : BitVec 4 := 9
  live : BitVec 10 := 0x201
  deriving DecidableEq, Repr

/-- The saved state of one bank: EPC, ESTAT, EADDR, EACKSTAT (spec 04 R83, R88), whether the bank owes its lazy frame
(08 R180), CYCLE at the last entry (05 R125), and the interrupt source accepted in it (08 R190). Bank 9 holds MEPC,
MSTAT and bank M's EADDR and EACKSTAT. -/
structure Bank where
  epc : Word := 0
  saved : Status := { ipl := 0, ml := false, bank := 0, live := 0 }
  savedOrphan : Bool := false
  cause : BitVec 8 := 0
  sub : BitVec 16 := 0
  eaddr : Word := 0
  fres : Bool := false
  fwr : Bool := false
  entryCyc : BitVec 16 := 0
  owes : Bool := false
  frameAt : Word := 0
  entryAt : Word := 0
  source : Option Nat := none
  deriving DecidableEq, Repr

/-- One store in a store-buffer entry: offset in the line, size in bytes, value, virtual address; the storing core's
partition and its ring as R491 codes it, at issue. `joined`: the second part of a remote store that crosses a line; its
bytes leave in the WRITE of the first part, whose `size` covers both (spec 13 R284). -/
structure SbStore where
  off : Nat
  size : Nat
  val : Nat
  va : Word
  part : BitVec 6 := 0
  ring : Nat := 0
  joined : Bool := false
  deriving DecidableEq, Repr

/-- A store-buffer entry: one line, one region type, its stores in program order (spec 10 R220). `line` is the place
divided by 64; `begun`: it has begun to drain. -/
structure SbEntry where
  line : Nat
  rtype : RType
  stores : List SbStore
  begun : Bool := false
  deriving DecidableEq, Repr

/-- Where an access goes: its place and region type. -/
structure XAddr where
  place : Nat
  rtype : RType
  deriving DecidableEq, Repr

/-- A TLB entry (spec 09 R208): page base, size in bits, PARTITION, ASID, G and the leaf. -/
structure TlbEntry where
  vpage : Nat
  bits : Nat
  part : BitVec 6
  asid : BitVec 16
  glob : Bool
  out : Nat
  ring : BitVec 2
  w : Bool
  x : Bool
  xeq : Bool
  rtype : RType
  ptag : BitVec 6
  pany : Bool
  deriving DecidableEq, Repr

/-- Where a load's bytes go: a general register (size, signed) or a v register (size 16, or a scalar that zeroes the
upper lanes). -/
inductive LoadDst where
  | g (d : RegNo) (size : Nat) (signed : Bool)
  | v (d : RegNo) (size : Nat)
  deriving DecidableEq, Repr

/-- One READ of a waiting remote load: its read tag, the place read, and the bytes once they are there. -/
structure Piece where
  tag : Nat
  addr : Nat
  len : Nat
  got : Option (List Byte)
  deriving DecidableEq, Repr

/-- What a processor waits for between commands (spec 05 R101, R114, R121, R122; 20 R421). `stall`: the instruction
made no progress and is presented again; `again`: the same, and an interrupt abandons it; `placed`: an access that has
been translated waits and keeps its translation (09 R211), an interrupt abandoning it where `remote`; `entry`: a
synchronous exception whose entry waits for the owed lazy frame (08 R178, R182). -/
inductive Wait where
  | none
  | stall
  | again
  | placed (xs : List XAddr) (remote : Bool)
  | entry (cause sub : Nat) (eaddr : Option Word)
  | fenceC
  | remote (dst : LoadDst) (ea : Word) (pieces : List Piece)
  | pour (d : RegNo) (target : Word)
  | evt (d : RegNo) (mask : Word)
  | sleep (d : RegNo)
  deriving DecidableEq, Repr

/-- Whether a processor executes (spec 03 R52, 08 R187, 18 R386, 20 R427, 23 R474). -/
inductive Run where
  | inReset
  | running
  | off
  | stopped
  | held
  deriving DecidableEq, Repr

/-- A read tag of a core: held by a READ in flight (spec 08 R193), abandoned or awaited. `fill`: it reads a whole line;
`stale`: a store of this device has changed that line since, so that the response fills no cache (09 R205). -/
structure RTag where
  tag : Nat
  place : Nat
  len : Nat
  abandoned : Bool
  fill : Bool
  stale : Bool := false
  deriving DecidableEq, Repr

/-- A remote WRITE not yet acknowledged (spec 10 R226). -/
structure WSlot where
  slot : Nat
  va : Word
  line : Nat := 0
  entries : List Nat := []
  deriving DecidableEq, Repr

/-- One processor. `g` holds general register r of bank b at key 32 b + r. -/
structure Cpu where
  g : FMap Word := []
  v : FMap VWord := []
  pc : Word := 0xFFF000000
  st : Status := {}
  pendIe : Option Bool := none
  pendIpl : Option (BitVec 3) := none
  banks : FMap Bank := []
  gatebase : Word := 0
  vecbase : Word := 0
  mvec : Word := 0xFFF020000
  ptroot : Word := 0
  asid : Word := 0
  partition : Word := 0
  fpstat : Word := 0
  dbgctl : Word := 0xE
  pwrmode : Word := 0
  lc : FMap Word := []
  ls : FMap Word := []
  le : FMap Word := []
  cycle : Word := 0
  cycleOff : Word := 0
  epochNo : Word := 0
  run : Run := .inReset
  wait : Wait := .none
  sb : List SbEntry := []
  refusals : Nat := 0
  refAddr : Word := 0
  refCode : Nat := 0
  rtags : List RTag := []
  wslots : List WSlot := []
  tlbI : List TlbEntry := []
  tlbD : List TlbEntry := []
  tlb2 : List TlbEntry := []
  supPend : BitVec 5 := 0
  mustTake : Bool := false
  dbgReq : Bool := false
  stepBank : Option (BitVec 4) := none
  deriving DecidableEq, Repr

/-- The caches with lines: L1 data of a core, victim of a core, L2 of a cluster, L3 slice (spec 11 R230). -/
inductive CacheId where
  | l1d (c : Fin 16)
  | victim (c : Fin 16)
  | l2 (n : Fin 4)
  | l3 (s : Fin 8)
  | l1i (c : Fin 16)
  deriving DecidableEq, Repr

/-- A cache's place in State: L1 data 0 to 15, victim 16 to 31, L2 32 to 35, L3 slices 36 to 43, L1 instruction 44 to 59. -/
def CacheId.ix : CacheId → Nat
  | .l1d c => c.val
  | .victim c => 16 + c.val
  | .l2 n => 32 + n.val
  | .l3 s => 36 + s.val
  | .l1i c => 44 + c.val

/-- A resident line: its place, way, whether it is dirty, its 64 bytes as one number. -/
structure CLine where
  line : Nat
  way : Nat
  dirty : Bool
  data : Nat
  deriving DecidableEq, Repr

/-- The caches: the resident lines of each set, most recently used first (key 4096 cache + set), and the ways of each
set invalidated since SWEPT was last cleared (same key). -/
structure Caches where
  sets : FMap (List CLine) := []
  swept : FMap Nat := []
  sweptSets : FMap Nat := []
  deriving DecidableEq, Repr

end Sys2Proof.Machine
end

