-- ==== Sys2Proof/Machine/Types2.lean ====
section
/-! DEFINITION. The parts of State of the Kettle and the Dregs (spec 17), the Steep sequencer and the power domains (18), the
DRAM channels (19), a warm reset (03), the Caddy (16) and the trace unit (23). -/

namespace Sys2Proof.Machine

/-- A Dregs record (spec 17 R377). `detail` holds bytes 16 to 31, byte 16 in bits [7:0]. -/
structure DRec where
  time : Nat
  source : Nat
  cls : Nat
  code : Nat
  detail : Nat := 0
  est : Bool := false
  software : Bool := false
  replaced : Bool := false
  repeats : Nat := 0
  valid : Bool := true
  deriving DecidableEq, Repr

/-- An entry of the Dregs match table (spec 17 R380). -/
structure DMatch where
  source : Nat
  code : Nat
  cls : Nat
  slot : Nat
  deriving DecidableEq, Repr

/-- The Dregs log, its pending queue (oldest first) and its match table (newest first) (spec 17 R377 to R381). -/
structure Dregs where
  slots : FMap (Option DRec) := []
  queue : List DRec := []
  table : List DMatch := []
  deriving DecidableEq, Repr

/-- What the Kettle holds beside its registers (spec 17 R369, R372, R373): the eight temperature readings, whether the
last sample reached TRIP, samples in a row below TRIP - 5, whether TEMP_WARN has been raised since the last cool sample; joystick failing and
passing runs, the channels whose failure holds the trigger, and those whose failure is recorded. -/
structure Kettle where
  temps : List Byte := []
  tempHot : Bool := false
  tempCool : Nat := 0
  tempWarned : Bool := false
  joyFail : FMap Nat := []
  joyPass : FMap Nat := []
  joyHeld : BitVec 8 := 0
  joyReported : BitVec 8 := 0
  deriving DecidableEq, Repr

/-- The Steep sequencer beside its registers (spec 18 R398 to R401): whether the fixed table runs, successive steps
without SLEEP, the domain a WAKE waits for and whether its wake has timed out, the milliseconds a SLEEP still waits, the domains woken since the last SLEEP
with their earlier states, whether bring-up is held until CONTINUE, the first SLEEP of the fixed table recorded. -/
structure Steep where
  fixed : Bool := false
  run : Nat := 0
  wakeDom : Option Nat := none
  failed : Bool := false
  sleeping : Option Nat := none
  woken : List (Nat × Nat) := []
  holds : Bool := false
  coldWarned : Bool := false
  deriving DecidableEq, Repr

/-- A line in the write queue of a DRAM channel: accepted and acknowledged, not yet served (spec 19 R409). -/
structure DramWrite where
  channel : Nat
  line : Nat
  budgeted : Bool
  deriving DecidableEq, Repr

/-- The DRAM beside the memory controller's registers (spec 19 R404 to R413): usable bytes, channels whose contents are
undefined, the lines written since, channels in self-refresh, channels whose FILL waits for training, channels being
initialised with KEEP, the refresh-rate indicators and postponed refreshes of each bank (key 32 channel + bank), the
write queues of the channels together, oldest first (R409), the lines of check bits that each channel caches, most recently
used first, and the lines whose stored bits are wrong, with how many (R405; log 112, 113). -/
structure Dram where
  usable : Nat := 0
  undef : BitVec 4 := 0
  known : FMap Bool := []
  selfRef : BitVec 4 := 0
  fillHeld : BitVec 4 := 0
  keepInit : BitVec 4 := 0
  inInit : BitVec 4 := 0
  tokens : FMap Nat := []
  refRate : FMap Nat := []
  refreshes : FMap Nat := []
  writes : List DramWrite := []
  checks : FMap (List Nat) := []
  flips : FMap Nat := []
  deriving DecidableEq, Repr

/-- What a sleep handshake is for (spec 18 R386): a core's WAIT, or PW_DOMREQ to a state. -/
structure Sleep where
  core : Nat
  steep : Bool
  other : Nat
  coreState : Nat
  todo : List Nat
  done : List Nat
  wasWait : Bool
  deriving DecidableEq, Repr

/-- Power domains beside PW_DOMSTAT (spec 03 R58, 18 R387 to R395): domains asked to wake, domains on which an access waits,
domains whose wake has timed out under such an access, units whose readiness has timed out, the handshake in progress and the queue of handshakes, domains that accessed
after Steep woke them, and the greatest clock in MHz that each cluster's voltage allows. -/
structure Power where
  waking : FMap Bool := []
  asked : FMap Bool := []
  wakeFailed : FMap Bool := []
  timedOut : FMap Bool := []
  current : Option Sleep := none
  queue : List Sleep := []
  touched : FMap Bool := []
  capMhz : FMap Nat := []
  deriving DecidableEq, Repr

/-- A warm reset in progress (spec 03 R62 to R64): its kind, whether every domain but the Kettle is held, when its cause
was detected; the causes detected at the latest instant at which there was one, and that instant. -/
structure Warm where
  active : Bool := false
  kind : Nat := 0
  hold : Bool := false
  started : Nat := 0
  causes : BitVec 6 := 0
  since : Nat := 0
  deriving DecidableEq, Repr

/-- Where the Caddy stands (spec 03 R52 to R54; 16 R347, R348, R362): in reset; in its ROM, about to read a manifest;
verifying it; reading the firmware; firmware entered, the loader not read; running; waiting in recovery; held by the
restart limit. -/
inductive CaddyPhase where
  | inReset | rom | verify | readFw | loader | running | recovery | heldOff
  deriving DecidableEq, Repr

/-- The Caddy beside its registers (spec 16): phase; second slot being tried; this boot is a Caddy restart alone; the
restart times; manifest, firmware, loader and policy measurements; the policy; each channel's unused nonce; whether the
Caddy has read the loader into scratch SRAM; the time of the last watchdog kick; links and mirror ports that wait for
authentication; the recovery image so far, then its loader, whether the firmware of this boot came through recovery, and
whether the ROM has accepted a certificate in it (R348); the loader's measurement; the GO strobes that the private interrupt
controller shows (R359); for each Infuser whose COUNTERSIGN is in progress, the former values of region 0 of its Strainer with
the range's first and last byte; whether the cores have been released, and which clusters. -/
structure Caddy where
  phase : CaddyPhase := .inReset
  second : Bool := false
  restarted : Bool := false
  restartTimes : List Nat := []
  measures : List Nat := []
  fwMeasure : Option Nat := none
  policy : Option Policy := none
  nonces : FMap (List Byte) := []
  recovery : List Byte := []
  recovered : Bool := false
  romCert : Bool := false
  loaderMeasure : Option Nat := none
  strobes : BitVec 8 := 0
  kickAt : Nat := 0
  linkQueue : List Nat := []
  formerR0 : FMap (List Nat) := []
  coresReleased : Bool := false
  released : BitVec 4 := 0
  loaded : Bool := false
  deriving DecidableEq, Repr

/-- The trace unit beside its registers (spec 23 R480 to R484): captured records not yet in the sink, oldest first;
records lost since the sink last had space; records of a line or block begun; cores hold their requests (STALL); when the
last record was captured. -/
structure Trace where
  fifo : List Nat := []
  lost : Nat := 0
  exports : List (List Nat) := []
  held : Bool := false
  last : Nat := 0
  deriving DecidableEq, Repr

end Sys2Proof.Machine
end

