-- ==== Sys2Proof/Machine/Types3.lean ====
section
/-! DEFINITION. The parts of State of the supplies and clocks (spec 02, 03), the links and the router (12, 13), the Infusers
and their ports (20, 22), the displays and the touch front ends (21), the cameras, the codec and USB (22), the epoch unit
(14), the mirror unit (15) and the debug unit (23). -/

namespace Sys2Proof.Machine

/-- Supplies beside KT_SUPPLY (spec 02, 03): POR and BOR asserted; the levels of the two always-on inputs; the Kettle
runs alone; strap balls as sampled; PWR_EN; rails whose PG timed out; whether the rails are asked for; RSTOUT_N; the
carried state's steps; whether the backup's absence is recorded since POR; the real-time clock; the fuse rows (16 bits
each, row r at bits 16 r) and the fused owner key hash; a life-cycle transition in progress (row, the channel that asked
for it while there is one), and the key hash that its row brings. -/
structure Supply where
  por : Bool := true
  bor : Bool := false
  mainUp : Bool := false
  bkpUp : Bool := false
  alone : Bool := false
  straps : BitVec 4 := 0
  pwrEn : BitVec 8 := 0
  failed : BitVec 8 := 0
  railsAsked : Bool := false
  rstoutN : Bool := false
  isolated : Bool := false
  reduced : Bool := false
  reported : Bool := false
  bkpNoted : Bool := false
  rtc : Option Nat := none
  fuses : BitVec 80 := 0
  keyHash : Nat := 0
  programming : Option (Nat × Option Nat) := none
  newKey : Nat := 0
  deriving DecidableEq, Repr

/-- Clocks (spec 02 R50, R51; 03 R53, R60): clocks that failed their last window, clocks whose fault persists, the
Kettle runs on KCLK_B, XREF is good, SCLK and ICLK run from SPLL, the Caddy runs from CAPLL, clusters that wait on FIRC
for their PLL to relock; the memory controller and the CAN controllers have fallen back to FIRC. -/
structure Clocks where
  failing : BitVec 22 := 0
  persist : BitVec 22 := 0
  kclkB : Bool := false
  xrefGood : Bool := false
  spllSel : Bool := false
  caddyPll : Bool := false
  relock : BitVec 4 := 0
  dramFirc : Bool := false
  canFirc : Bool := false
  deriving DecidableEq, Repr

/-- The keys of a session (spec 12 R258): an AES-256-GCM key and a direction salt each way. -/
structure SessKeys where
  txKey : BitVec 256 := 0
  rxKey : BitVec 256 := 0
  txSalt : BitVec 32 := 0
  rxSalt : BitVec 32 := 0
  deriving DecidableEq, Repr

/-- What the partner's certificate says (spec 12 R258): serial number and roles. -/
structure LinkCert where
  serial : BitVec 64
  manager : Bool
  mirror : Bool
  deriving DecidableEq, Repr

/-- A packet in the replay buffer, with the number of its flits not yet acknowledged, and whether it arrived on a link. -/
structure SentPkt where
  k : Packet
  flits : Nat
  viaLink : Bool := false
  deriving DecidableEq, Repr

/-- A link, a mirror port (32, 33) or a bond b (33 + b), beside its registers (spec 12): training progress (symbols seen,
locked, measured skew, BOND and VERLIM as they were when training began, bond agreed); its session (present, fresh since
the last activation, packet counters, since when in fabric time, its keys, rekey in progress and the keys it brings, the
partner's certificate); the quarantine that a retrain does
not end, whether a quarantined link has yet to train, and to come up; sequence numbers; credit held, and the flits
outstanding beyond a credit that has shrunk; flits in the receive
buffer, those of a stripe that arrived before their turn, credit owed for flits that left it; flits in the replay buffer and
their packets, flits of the packets begun that wait for credit, bytes used of a flit still open, the member of a bond that sends next, the fabric time in ps until which
the last packet is on the lane; the flit to resend from, the replay asked for; the times of the last errors, retrains,
tag failures and refusals; the partner, and the version that a mirror port found with it; whether it has left its bond. -/
structure Link where
  symbols : Bool := false
  locked : Bool := false
  skew : Nat := 0
  bond : Nat := 0
  verlim : Nat := 0
  bondOk : Bool := false
  session : Bool := false
  fresh : Bool := false
  txCount : Nat := 0
  rxCount : Nat := 0
  since : Nat := 0
  keys : SessKeys := {}
  rekeying : Bool := false
  nextKeys : SessKeys := {}
  cert : Option LinkCert := none
  quar : Nat := 0
  untrained : Bool := false
  waitsUp : Bool := false
  txSeq : Nat := 0
  rxSeq : Nat := 0
  credit : Nat := 0
  debt : Nat := 0
  held : Nat := 0
  ahead : List Nat := []
  owed : Nat := 0
  replay : Nat := 0
  sent : List SentPkt := []
  unsent : Nat := 0
  fill : Nat := 0
  stripe : Nat := 0
  busy : Nat := 0
  resend : Option Nat := none
  asked : Option Nat := none
  errTimes : List Nat := []
  retrainTimes : List Nat := []
  tagTimes : List Nat := []
  denyTimes : List Nat := []
  serial : BitVec 64 := 0
  node : BitVec 18 := 0
  ver : Nat := 0
  left : Bool := false
  deriving DecidableEq, Repr

/-- A packet queued at an output port: REMAIN of its route, when it was queued, whether it arrived on a link, and for a
heartbeat of the mirrored stream the one port that carries it. -/
structure QPkt where
  k : Packet
  remain : Nat
  since : Nat
  viaLink : Bool
  lane : Option Nat := none
  deriving DecidableEq, Repr

/-- A block on a send queue: the physical pieces that hold it, in order (place, length), and the core that sent it. -/
structure SqEntry where
  pieces : List (Nat × Nat)
  core : Fin 16 := 0
  deriving DecidableEq, Repr

/-- A receive ring: the slot filled next, the payload lengths of the occupied slots (oldest first), how many of them
RECV has returned. -/
structure RxRing where
  next : Nat := 0
  lens : List Nat := []
  returned : Nat := 0
  deriving DecidableEq, Repr

/-- A packet that has arrived in time and waits for what it needs: the link that brought it, or none for this device's
own. -/
structure WaitPkt where
  link : Option (Fin 34)
  k : Packet
  deriving DecidableEq, Repr

/-- The router (spec 13): packets queued at each output port (0 to 31 links, 32 to 39 bonds, 40 the mirror stream, 42
the local port), tokens missing from each window's bucket (key 16 n + w), send queues, completion words, receive rings,
the last deadline of each pair of core and node (key 2^18 core + node), packets that have arrived and wait, oldest
first. -/
structure Router where
  out : FMap (List QPkt) := []
  wtok : FMap Nat := []
  sq : FMap (List SqEntry) := []
  sent : FMap Nat := []
  rq : FMap RxRing := []
  lastDl : FMap Nat := []
  waiting : List WaitPkt := []
  deriving DecidableEq, Repr

/-- A packet builder of an Infuser: the header image and the bytes appended of the packet it builds, and the earlier
packet that it still holds. -/
structure Builder where
  header : List Byte := []
  body : List Byte := []
  isOpen : Bool := false
  held : Option Packet := none
  deriving DecidableEq, Repr

/-- An Infuser beside its registers and its SRAM (spec 20): pending events, timer, own-port RRCFG, its reply ring (first
filled slot, filled count), its builders and the order of PKT.SEND of those that hold a packet (`true`: builder 1), whether it wrote the input shadow in this epoch,
the countersigned range, and whether it stops once its store buffer has drained. -/
structure Infus where
  events : BitVec 16 := 0
  timer : Nat := 0
  rrcfg : Nat := 0
  rrNext : Nat := 0
  rrFill : Nat := 0
  b0 : Builder := {}
  b1 : Builder := {}
  order : List Bool := []
  wrote : Bool := false
  range : Option (Nat × Nat) := none
  stopping : Bool := false
  deriving DecidableEq, Repr

/-- A received frame in a port's FIFO (spec 22 R449, R451). -/
structure RxFrame where
  tag : Nat
  err : Bool
  time : Nat
  bytes : List Byte
  deriving DecidableEq, Repr

/-- A frame queued for transmission: TAG, whether a time stamp is asked for. -/
structure TxFrame where
  tag : Nat
  ts : Bool
  bytes : List Byte
  deriving DecidableEq, Repr

/-- A port group (spec 22 R449, R450, R462): CTRL, CFG, EVMASK and TXLEN as written; STAT; received frames, what is left
of the current one, the characters of an RS-485 frame that has not ended, when it began and whether one of them was in
error; the open frame, queued frames and unread time stamps; the CAN slot frames queued ahead of them and the slots
queued in this epoch; the fabric time at which DE last rose and falls. -/
structure Port where
  ctrl : Word := 0
  cfg : Word := 0
  up : Bool := false
  rxovf : Bool := false
  txovf : Bool := false
  err : Bool := false
  errs : Nat := 0
  evmask : Word := 0
  rx : List RxFrame := []
  cur : List Byte := []
  txlen : Word := 0
  openTx : List Byte := []
  tx : List TxFrame := []
  stamps : List Nat := []
  openRx : List Byte := []
  openTime : Nat := 0
  openErr : Bool := false
  slots : List (Nat × List Byte) := []
  queued : BitVec 8 := 0
  deRise : Nat := 0
  deFall : Nat := 0
  deriving DecidableEq, Repr

/-- The operational gate list of an Ethernet port, its base, and whether a list has poured since it was adopted (spec
22 R459). -/
structure Gates where
  oper : List (Nat × Nat) := []
  base : Nat := 0
  fresh : Bool := false
  deriving DecidableEq, Repr

/-- A display output beside its registers (spec 21 R434, R435, R437, R440, R441): blanked by a loss of HPD, frames since its ambient
reading was written, the active pixels and lines of the timing it runs with, the layer lines that came late in this frame
(layer, source line), the sunlight engine's curves by tile (none: the identity), in units of 2^-16, the active pixels of
the frame sent last, as 30-bit RGB, and the backlight level that the panel was given through AUX. -/
structure Disp where
  blanked : Bool := false
  ambAge : Nat := 0
  hact : Nat := 0
  vact : Nat := 0
  late : List (Nat × Nat) := []
  curves : List (List Nat) := []
  sent : List Nat := []
  panel : Option Nat := none
  deriving DecidableEq, Repr

/-- An entry of a contact report (spec 21 R446). -/
structure Touched where
  mark : Nat
  id : Nat
  x : Nat
  y : Nat
  size : Nat
  signal : Nat
  gloved : Bool
  fresh : Bool := false
  lift : Bool := false
  deriving DecidableEq, Repr

/-- A touch front end beside its registers (spec 21 R442 to R446): a scan runs; frames in a row whose noise exceeds
NOISETHR; the candidate of the next frame; water in the last scan; WET raised and no frame free of water since; what the
last scan found, while it is not reported; the contacts that have been reported and not yet lifted. -/
structure Touch where
  scanning : Bool := false
  noisy : Nat := 0
  next : Nat := 0
  wet : Bool := false
  wetRaised : Bool := false
  found : Option (List Touched) := none
  tracks : List Touched := []
  deriving DecidableEq, Repr

/-- A camera input beside its registers (spec 22 R453, R454): inside a frame, next line. -/
structure Cam where
  inFrame : Bool := false
  line : Nat := 0
  deriving DecidableEq, Repr

/-- A USB port (spec 22 R465): the speed of the last bus reset, and the bulk endpoints of its one configuration while the
host has selected it. -/
structure Usb where
  speed : Option UsbSpeed := none
  bulk : Option (Fin 9) := none
  deriving DecidableEq, Repr

/-- The last request that an outbound window of a PCIe port formed (spec 22 R464): configuration space of bus 1 or memory,
its bus address (for configuration the offset within the 1 MiB of ECAM), its size, and the data of a write. -/
structure PcieReq where
  config : Bool := false
  addr : Nat := 0
  size : Nat := 0
  data : Option Nat := none
  deriving DecidableEq, Repr

/-- The cameras and the codec engine: inputs; the job that runs (its slot); of a LOWLAT encode the slices in the output
ring, the place in the ring where the next begins, and the source: the buffer that the input was writing at the first
slice, with FRAMES of that time (R457). -/
structure Cams where
  inputs : FMap Cam := []
  job : Option Nat := none
  slices : Nat := 0
  out : Nat := 0
  source : Option (Nat × Nat) := none
  deriving DecidableEq, Repr

/-- What a link's last ANNOUNCE said (spec 14 R299, R301). -/
structure Ann where
  valid : Bool := false
  gm : Nat := 0
  prio : Nat := 0
  steps : Nat := 0
  imports : Bool := false
  deriving DecidableEq, Repr

/-- The epoch and time unit beside its registers (spec 14): the fraction of EP_NOW in 2^-32 ns; the rate correction that
the servo has found and the offset that is still to be removed by slewing, in 2^-32 ns per µs and in 2^-32 ns; the port
and the gPTP time of the bridge's last message, and when a Sync of its peer arrived; the ANNOUNCEs heard, successive SYNCs within 2 ns, the last 16 delay measurements of each
link; epoch-deadline channels that expect a check-in this epoch, whose deadline has not
come, and that have checked in. -/
structure Epochs where
  frac : Nat := 0
  rate : Int := 0
  slew : Int := 0
  gptp : Option (Nat × Nat) := none
  asSync : Option Nat := none
  heard : FMap Ann := []
  good : Nat := 0
  delays : FMap (List Nat) := []
  expect : BitVec 8 := 0
  due : BitVec 8 := 0
  got : BitVec 8 := 0
  deriving DecidableEq, Repr

/-- The mirror unit beside its registers (spec 15). Tracked lines of the open epoch and of the frozen one; records sent
since the last COMMIT; the closing epoch whose COMMIT is to be sent; records received since the last COMMIT, and how many
of them came from checkpoint areas; ticks since
a COMMIT came; a heartbeat without DEGRADED heard since the last boundary; boundaries since a PRIMARY was heard; the
largest generation heard; the role and generation in the partner's last heartbeat, whether only its ten low bits are
known, and boundaries since one came by a port (three: none is heard); the sequence number and boundary of this device's heartbeats; a takeover due (0 none, 1 partner lost, 2 handover);
the handover of a primary (0 none, 1 asked, 2 commit sent, 3 acknowledged) and the ticks since its commit; an OFFER that
waits; the next line of a copy that is sent, and whether the last line of one that is received has been written; the self-check due (0 none, 1 from the next tick, 2 running); the Kettle's
copy of role, generation and last commit (R332). -/
structure Mirror where
  fresh : List Nat := []
  frozen : List Nat := []
  sent : Nat := 0
  closing : Option Nat := none
  got : Nat := 0
  gotCkpt : Nat := 0
  commitAge : Nat := 0
  heard : Bool := false
  sincePrimary : Nat := 0
  genHeard : Nat := 0
  lastRole : Nat := 0
  partnerGen : Nat := 0
  serialOnly : Bool := false
  portAge : Nat := 3
  hbSeq : Nat := 0
  hbM : Nat := 0
  toTake : Nat := 0
  handover : Nat := 0
  hoTicks : Nat := 0
  offerWaiting : Bool := false
  copyNext : Option Nat := none
  copyLast : Bool := false
  selfDue : Nat := 0
  kRole : Nat := 0
  kGen : Nat := 0
  kCommit : Nat := 0
  deriving DecidableEq, Repr

/-- The debug port and the grant beside their registers (spec 23): when the grant ends, in seconds of the real-time clock
or, where it is UNTIMED, of KCLK; the port's instruction, its last status and the data of its last scan; cores that a
DBR has marked to be held at their release. -/
structure Dbg where
  ends : Nat := 0
  ir : BitVec 8 := 0
  status : Nat := 0
  data : Word := 0
  marked : BitVec 16 := 0
  deriving DecidableEq, Repr

end Sys2Proof.Machine
end

