-- ==== Sys2Proof/Machine/State.lean ====
section
/-! DEFINITION. State, the reasons a step stops, and the state after reset. -/

namespace Sys2Proof.Machine

/-- Why the block stops with a fault. -/
inductive Fault where
  /-- Behaviour that the spec calls undefined without giving any effect. No command of the table raises it: where the
  spec leaves a value open the model takes a free value and goes on (log 8). Safe. -/
  | undefinedBehaviour
  deriving DecidableEq, Repr

/-- Why a command is refused. -/
inductive Refusal where
  /-- The command has no meaning yet; raised by the arms of exec only. Safe. -/
  | notModelled (mnemonic : String)
  deriving DecidableEq, Repr

/-- The block: the active register fields and their shadows (key 4096 id + index), memory (local offset, byte), the
processors (key Proc.ix), the caches, the interrupt sources committed to a core and those whose input is high for the
present instant only (08 R190), and the parts of the units. `time` counts the nanoseconds since power
was applied; `fab` is the Kettle's copy of fabric time, which it extrapolates while the epoch unit stands (17 R377). `free` counts the free values taken (the model's own field). `pending` is the queue of commands. -/
structure State where
  flds : FMap Nat := []
  sh : FMap Nat := []
  mem : List Host.Cell := []
  cpus : FMap Cpu := []
  caches : Caches := {}
  icCommit : FMap Bool := []
  icPulse : FMap Bool := []
  dregs : Dregs := {}
  ket : Kettle := {}
  steep : Steep := {}
  dram : Dram := {}
  warm : Warm := {}
  caddy : Caddy := {}
  trace : Trace := {}
  pwr : Power := {}
  sup : Supply := {}
  clk : Clocks := {}
  links : FMap Link := []
  router : Router := {}
  inf : FMap Infus := []
  ports : FMap Port := []
  gates : FMap Gates := []
  disp : FMap Disp := []
  touch : FMap Touch := []
  cams : Cams := {}
  usb : FMap Usb := []
  pcie : FMap PcieReq := []
  ep : Epochs := {}
  mir : Mirror := {}
  dbg : Dbg := {}
  time : Nat := 0
  fab : Nat := 0
  free : Nat := 0
  pending : List Instr := []
  deriving DecidableEq, Repr

/-- The part when power is first applied and POR is asserted: every register at the reset its table gives (01 to 23;
log 2, 9). -/
def State.reset : State := {}

end Sys2Proof.Machine
end

