-- ==== Sys2Proof/Machine/Regs.lean ====
section
/-! DEFINITION. Reading and writing one field of the register map (spec 00 R8, R12, R13), and plain bit access. -/

namespace Sys2Proof.Machine

/-- Bit `k` of a number. -/
def bitAt (n k : Nat) : Bool := n.testBit k

/-- Bits `hi` to `lo` of a number. -/
def slice (n hi lo : Nat) : Nat := (n >>> lo) % 2 ^ (hi + 1 - lo)

/-- Set or clear bit `k` of a number. -/
def withBit (n k : Nat) (b : Bool) : Nat :=
  if n.testBit k = b then n else if b then n + 2 ^ k else n - 2 ^ k

/-- Replace bits `hi` to `lo` of a number by `v`. -/
def withSlice (n hi lo v : Nat) : Nat :=
  let w := 2 ^ (hi + 1 - lo)
  n - (slice n hi lo) * 2 ^ lo + (v % w) * 2 ^ lo

/-- A Bool as a number. -/
def b2n (b : Bool) : Nat := if b then 1 else 0

/-- Key of element `i` of a field. -/
def fkey (f : Fld) (i : Nat) : Nat := f.id * 4096 + i % 4096

namespace State

/-- The active value of element `i` of field `f`. -/
def fl (s : State) (f : Fld) (i : Nat) : Nat := mget f.reset s.flds (fkey f i)

/-- Bit 0 of a one-bit field. -/
def fb (s : State) (f : Fld) (i : Nat) : Bool := s.fl f i % 2 == 1

/-- Put a value into element `i` of a field, cut to the field's width. -/
def setF (s : State) (f : Fld) (i v : Nat) : State :=
  { s with flds := mset f.reset s.flds (fkey f i) (v % 2 ^ f.width) }

/-- Put a Bool into a one-bit field. -/
def setB (s : State) (f : Fld) (i : Nat) (b : Bool) : State := s.setF f i (b2n b)

/-- Set or clear bit `k` of a field. -/
def setBit (s : State) (f : Fld) (i k : Nat) (b : Bool) : State := s.setF f i (withBit (s.fl f i) k b)

/-- Add one to a field that stops at its greatest value. -/
def bumpF (s : State) (f : Fld) (i : Nat) : State :=
  let v := s.fl f i
  if v + 1 < 2 ^ f.width then s.setF f i (v + 1) else s

/-- The pending (shadow) value of element `i` of an RWP field (R8); the active value where no write is pending. -/
def shv (s : State) (f : Fld) (i : Nat) : Nat :=
  match mget 0 s.sh (fkey f i) with
  | 0 => s.fl f i
  | v + 1 => v

/-- Write the shadow of an RWP field. -/
def setSh (s : State) (f : Fld) (i v : Nat) : State :=
  { s with sh := mset 0 s.sh (fkey f i) (v % 2 ^ f.width + 1) }

/-- Drop the shadow of an RWP field: pending and active agree. -/
def dropSh (s : State) (f : Fld) (i : Nat) : State := { s with sh := mset 0 s.sh (fkey f i) 0 }

/-- Pour one field: the shadow becomes active (R18, R309). -/
def pourF (s : State) (f : Fld) (i : Nat) : State := (s.setF f i (s.shv f i)).dropSh f i

/-- The processor `p`. -/
def cpu (s : State) (p : Proc) : Cpu := mget {} s.cpus p.ix

/-- Put the processor `p`. -/
def setCpu (s : State) (p : Proc) (c : Cpu) : State := { s with cpus := mset {} s.cpus p.ix c }

/-- Readiness bit `u` of R57: unit 64 k + b is bit b of KT_READYk. -/
def ready (s : State) (u : Nat) : Bool := bitAt (s.fl F.KT_READY_READY (u / 64)) (u % 64)

/-- Set or clear readiness bit `u`. -/
def setReady (s : State) (u : Nat) (b : Bool) : State := s.setBit F.KT_READY_READY (u / 64) (u % 64) b

/-- State of power domain `d` (R385): 0 ON, 1 RET, 2 OFF, 3 CHANGING. -/
def dom (s : State) (d : Nat) : Nat := s.fl F.PW_DOM_STATE d

/-- The epoch unit runs epochs (EP_CFG.EN). -/
def epochOn (s : State) : Bool := s.fb F.EP_CFG_EN 0

/-- A free value: the number that the spec leaves open (log 8), and the state that has taken it. -/
def takeFree (s : State) : Nat × State := (s.free, { s with free := s.free + 1 })

end State
end Sys2Proof.Machine
end

