-- ==== Sys2Proof/Machine/Ops.lean ====
section
/-! DEFINITION. Operations that every unit uses: the interrupt controller's sources (spec 08 R189, R190), Dregs records
(17 R377 to R381), supervisory events (08 R192), the safe-state triggers (17 R368 to R371), and the records of ignored
writes (17 R491). -/

namespace Sys2Proof.Machine

/-! ### The interrupt controller -/

/-- Source `n` is committed to a core. -/
def icCommitted (s : State) (n : Nat) : Bool := mget false s.icCommit n

/-- The first core, from `c` up to 15, that is in the mask and ready. -/
def firstReadyCore (s : State) (mask : Nat) : List Nat → Option Nat
  | [] => none
  | c :: cs => if bitAt mask c && s.ready c then some c else firstReadyCore s mask cs

/-- Core numbers in order. -/
def coreList : List Nat := List.range 16

/-- Commit pending source `n` to the lowest-numbered ready core in TARGETS, once (R189). -/
def icCommit (s : State) (n : Nat) : State :=
  if s.fb F.IC_SRC_PENDING n && !icCommitted s n then
    match firstReadyCore s (s.fl F.IC_SRC_TARGETS n) coreList with
    | some c => { (s.setF F.IC_SRC_CORE n c) with icCommit := mset false s.icCommit n true }
    | none => s
  else s

/-- Source `n` stops being pending. -/
def icUnpend (s : State) (n : Nat) : State :=
  { (s.setB F.IC_SRC_PENDING n false) with icCommit := mset false s.icCommit n false, icPulse := mset false s.icPulse n false }

/-- Source `n` becomes pending (a source with PRIO = 0 is disabled), and is committed. -/
def icPend (s : State) (n : Nat) : State :=
  if s.fl F.IC_SRC_PRIO n = 0 then s else icCommit (s.setB F.IC_SRC_PENDING n true) n

/-- A unit raises source `n` on an event: its input is high for one cycle (R190). An edge source becomes pending. A source
configured as level is pending while the pulse lasts, which is until the Kettle's time advances (log 80), and is then
missed unless a core has accepted it. -/
def raiseSource (s : State) (n : Nat) : State :=
  if s.fb F.IC_SRC_EDGE n then icPend s n
  else if s.fb F.IC_SRC_PENDING n || s.fb F.IC_SRC_ACTIVE n || s.fl F.IC_SRC_PRIO n = 0 then s
  else icPend { s with icPulse := mset false s.icPulse n true } n

/-- The pulses of the instant that ends are over. -/
def pulsesEnd (s : State) : State := s.icPulse.foldl (fun s e => icUnpend s e.1) s

/-- The input of source `n` takes a level (R190). -/
def setLine (s : State) (n : Nat) (level : Bool) : State :=
  let was := s.fb F.IC_SRC_LINE n
  let s := s.setB F.IC_SRC_LINE n level
  if s.fb F.IC_SRC_EDGE n then (if level && !was then icPend s n else s)
  else if level then (if was then s else icPend s n)
  else icUnpend s n

/-- The configuration of source `n` has changed: PRIO = 0 disables it and clears PENDING, and a level-sensitive source follows
its line (R189, R190). -/
def icSettle (s : State) (n : Nat) : State :=
  if s.fl F.IC_SRC_PRIO n = 0 then icUnpend s n
  else if s.fb F.IC_SRC_EDGE n then icCommit s n
  else if s.fb F.IC_SRC_LINE n then icPend s n
  else icUnpend s n

/-- The keys of the set one-bit elements of field `f`. -/
def setElems (s : State) (f : Fld) : List Nat :=
  (mrange s.flds (f.id * 4096) (f.id * 4096 + 4096)).map fun e => e.1 % 4096

/-- Commit every pending source that no core holds (R189: a core of its TARGETS has become ready). -/
def icCommitAll (s : State) : State := (setElems s F.IC_SRC_PENDING).foldl icCommit s

/-- Core `c` is ready no more: its committed sources are committed again among the others (R189). -/
def icLeave (s : State) (c : Nat) : State :=
  let mine := (setElems s F.IC_SRC_PENDING).filter fun n => icCommitted s n && s.fl F.IC_SRC_CORE n == c
  mine.foldl (fun s n => icCommit { s with icCommit := mset false s.icCommit n false } n) s

/-- Acceptance claims source `n`: PENDING clears and ACTIVE is set (R190). -/
def icClaim (s : State) (n : Nat) : State := (icUnpend s n).setB F.IC_SRC_ACTIVE n true

/-- The TRET that leaves the accepting bank clears ACTIVE; a level source whose line is high is pending again. -/
def icRelease (s : State) (n : Nat) : State :=
  let s := s.setB F.IC_SRC_ACTIVE n false
  if !s.fb F.IC_SRC_EDGE n && s.fb F.IC_SRC_LINE n then icPend s n else s

/-- The sources presented to core `c`: pending, committed to it, not active. -/
def icPresented (s : State) (c : Nat) (secure : Bool) : List Nat :=
  (setElems s F.IC_SRC_PENDING).filter fun n =>
    icCommitted s n && s.fl F.IC_SRC_CORE n == c && !s.fb F.IC_SRC_ACTIVE n && s.fb F.IC_SRC_SECURE n == secure

/-- The source of highest PRIO; among equals the lowest number (R189). -/
def icTop (s : State) : List Nat → Option Nat
  | [] => none
  | n :: ns =>
    match icTop s ns with
    | none => some n
    | some m => if s.fl F.IC_SRC_PRIO m > s.fl F.IC_SRC_PRIO n then some m else some n

/-! ### Dregs -/

/-- Classes of record. -/
def clsInfo : Nat := 0
def clsWarn : Nat := 1
def clsError : Nat := 2
def clsFatal : Nat := 3
def clsSafety : Nat := 4

/-- One event of class `c` at time `t` is lost, or its record replaced (R381). -/
def dregsLost (s : State) (c t : Nat) : State :=
  let n := s.fl F.DREGS_LOST_COUNT c
  let s1 := if n = 0 then s.setF F.DREGS_LOSTF_FIRST c t else s
  let s2 := (s1.bumpF F.DREGS_LOST_COUNT c).setF F.DREGS_LOSTL_LAST c t
  if n = 0 then raiseSource s2 238 else s2

/-- Put an entry list without its last member that satisfies `p`: the list and that member. -/
def dropLast? (p : DRec → Bool) : List DRec → Option (List DRec × DRec)
  | [] => none
  | r :: rs =>
    match dropLast? p rs with
    | some (rs', x) => some (r :: rs', x)
    | none => if p r then some (rs, r) else none

/-- A record is lost or displaced at the pending queue (R378). -/
def dregsQLost (s : State) (r : DRec) : State := dregsLost (s.bumpF F.DREGS_STAT_QLOST 0) r.cls r.time

/-- Offer an event to the pending queue of 16 entries (R378). -/
def dregsOfferRec (s : State) (r : DRec) : State :=
  let q := s.dregs.queue
  if q.length < 16 then { s with dregs := { s.dregs with queue := q ++ [r] } }
  else if r.cls = clsFatal ∨ r.cls = clsSafety then
    match dropLast? (fun x => x.cls == clsInfo || x.cls == clsWarn) q with
    | some (q', x) => dregsQLost { s with dregs := { s.dregs with queue := q' ++ [r] } } x
    | none =>
      match dropLast? (fun x => x.cls == clsError) q with
      | some (q', x) => dregsQLost { s with dregs := { s.dregs with queue := q' ++ [r] } } x
      | none => dregsQLost s r
  else dregsQLost s r

/-- The epoch unit runs: it is ready, and SCLK runs (02 R47, R50). -/
def epochRuns (s : State) : Bool := s.ready 41 && !(s.clk.persist.getLsbD 1 && !s.clk.spllSel)

/-- The Kettle's copy of fabric time: EP_NOW while the epoch unit runs, else the copy extrapolated on KCLK (R377). -/
def fabCopy (s : State) : Nat := if epochRuns s then s.fl F.EP_NOW_VALUE 0 else s.fab

/-- The Kettle keeps its copy beyond what follows. -/
def holdFab (s : State) : State := { s with fab := fabCopy s }

/-- An event with its source, class, code and detail, at the Kettle's copy of fabric time (R377). -/
def dregs (s : State) (source cls code detail : Nat) : State :=
  dregsOfferRec s { time := fabCopy s, source := source, cls := cls, code := code, detail := detail % 2 ^ 128,
                    est := !epochRuns s }

/-- An event whose record's DETAIL the spec does not state: the detail is a free value (log 8). -/
def dregsFree (s : State) (source cls code : Nat) : State :=
  let (k, s) := s.takeFree
  dregs s source cls code (Config.freeNat k)

/-- A record whose source and code the spec does not state, and which names something by a number in DETAIL (log 8, 74). -/
def dregsNamed (s : State) (cls name : Nat) : State :=
  let (k, s) := s.takeFree
  let (k2, s) := s.takeFree
  dregs s (Config.freeNat k % 2 ^ 16) cls (Config.freeNat k2 % 2 ^ 16) name

/-! ### Supervisory events -/

/-- Supervisory event `code` (1 to 5) is raised at every core whose domain is on, or in RET (R192, 18 R393). -/
def superEvent (s : State) (code : Nat) : State :=
  coreList.foldl (fun s c =>
    if s.dom c ≤ 1 then
      let p := Proc.core (Fin.ofNat 16 c)
      let k := s.cpu p
      s.setCpu p { k with supPend := k.supPend ||| (1#5 <<< (code - 1)) }
    else s) s

/-! ### Triggers -/

/-- KT_TRIGSTAT as a record's detail holds it. -/
def trigDetail (s : State) : Nat := s.fl F.KT_TRIGSTAT_RAISED 0 + s.fl F.KT_TRIGSTAT_HIST 0 * 2 ^ 32

/-- Start a Steep table in mode `mode` at `step` (18 R398, R400). -/
def steepStart (s : State) (mode step : Nat) (fixed : Bool) : State :=
  let s := (s.setF F.KT_STEEPSTAT_STATE 0 mode).setF F.KT_STEEPSTAT_STEP 0 step
  { s with steep := { s.steep with fixed := fixed, run := 0, wakeDom := none, sleeping := none } }

/-- OP of the step the table is at; past step 31 comes an END. -/
def steepOp (s : State) : Nat := s.fl F.KT_STEEP_OP (s.fl F.KT_STEEPSTAT_STEP 0)

/-- The table stops in FAULT (R399). -/
def steepFault (s : State) : State := dregsFree (s.setF F.KT_STEEPSTAT_STATE 0 5) 7 clsError 0x83

/-- A table starts at a step; a reserved OP there stops it. -/
def steepBegin (s : State) (mode step : Nat) : State :=
  let s := steepStart s mode step false
  if 7 ≤ steepOp s then steepFault s else s

/-- HELD is set by a trip: source 233, SAFE_TRIP, and the RECOVERY table where RECOV = 1 (R370, 18 R400). -/
def holdSafe (s : State) : State :=
  if s.fb F.KT_SAFECTL_HELD 0 then s
  else
    let s := superEvent (raiseSource (s.setB F.KT_SAFECTL_HELD 0 true) 233) 5
    if s.fb F.KT_STEEPCTL_RECOV 0 then steepBegin s 3 (s.fl F.KT_STEEPCTL_RSTEP 0) else s

/-- Trigger `b` is raised; `level` says that it stays raised while its condition holds (R369). A level trigger that is
raised already is not raised again. -/
def raiseTrigger (s : State) (b : Nat) (level : Bool) : State :=
  if level && bitAt (s.fl F.KT_TRIGSTAT_RAISED 0) b then s
  else
    let s := (s.setBit F.KT_TRIGSTAT_RAISED 0 b true).setBit F.KT_TRIGSTAT_HIST 0 b true
    let s := dregs s 0 clsSafety (0x10 + b) (trigDetail s)
    let s := s.setB F.KT_SAFECTL_ARMED 0 false
    let s := holdSafe s
    if level then s else s.setBit F.KT_TRIGSTAT_RAISED 0 b false

/-- The condition of trigger `b` holds no more. -/
def clearTrigger (s : State) (b : Nat) : State := s.setBit F.KT_TRIGSTAT_RAISED 0 b false

/-- Raise or clear a level trigger by its condition. -/
def driveTrigger (s : State) (b : Nat) (cond : Bool) : State :=
  if cond then raiseTrigger s b true else clearTrigger s b

/-- What drives safe output `n` (R365, R366): none is high-impedance. -/
def safeOut (s : State) (n : Nat) : Option Bool :=
  if s.fb F.KT_SAFECTL_HELD 0 then
    match (s.fl F.KT_SAFELVL_LVL 0 >>> (2 * n)) % 4 with
    | 0 => some false
    | 1 => some true
    | _ => none
  else if bitAt (s.fl F.KT_SOVAL_OE 0) n then some (bitAt (s.fl F.KT_SOVAL_VALUE 0) n) else none

/-! ### Requesters and ignored writes -/

/-- The ring of a core as R491 codes it: 0 to 3, 4 at the machine level. -/
def ringCode (s : State) (c : Fin 16) : Nat :=
  let st := (s.cpu (.core c)).st
  if st.ml then 4 else st.ring.toNat

/-- The requester is a core at ring 0 or the machine level. -/
def isRing0 (s : State) : Requester → Bool
  | .core c => ringCode s c == 0 || ringCode s c == 4
  | _ => false

/-- The requester is a core at the machine level. -/
def isMachine (s : State) : Requester → Bool
  | .core c => ringCode s c == 4
  | _ => false

/-- Class and number of a requester (R491); the debug port counts as class 7 (log 12). -/
def reqClass : Requester → Nat
  | .core _ => 0
  | .fabric .. => 1
  | .infuser _ => 2
  | .engine k => k.val
  | .debugPort => 7
  | .caddy => 8

def reqNum : Requester → Nat
  | .core c => c.val
  | .fabric l .. => l.val
  | .infuser i => i.val
  | _ => 0

/-- The detail of records 0x0090 and 0x0091. -/
def accessDetail (s : State) (q : Requester) (off low : Nat) : Nat :=
  let ring := match q with | .core c => ringCode s c | _ => 0
  off % 2 ^ 36 + reqClass q * 2 ^ 64 + reqNum q * 2 ^ 72 + ring * 2 ^ 80 + (low % 2 ^ 32) * 2 ^ 96

/-- A write that is ignored with the Warn record 0x0090 (R491). -/
def warnIgnored (s : State) (q : Requester) (off : Nat) (v : Word) : State :=
  dregs s 5 clsWarn 0x90 (accessDetail s q off v.toNat)

/-- The Warn record 0x0091 of R31: `src` and `cmd` are the packet's. -/
def warnNever (s : State) (q : Requester) (off : Nat) (src : BitVec 18) (cmd : BitVec 4) : State :=
  dregs s 5 clsWarn 0x91 (accessDetail s q off (src.toNat + cmd.toNat * 2 ^ 18))

end Sys2Proof.Machine
end

