-- ==== Sys2Proof/Machine/Monitor.lean ====
section
/-! DEFINITION. What the debug and trace unit sees of every other unit (spec 23): performance counters (R485, R486, 16
R360), trace records (R479 to R483), the debug grant (R467) and the comparators (R475 to R478). -/

namespace Sys2Proof.Machine

/-! ### Performance counters -/

/-- Any mailbox channel is BUSY: counters of shared events hold (16 R360). -/
def anyBusy (s : State) : Bool := (List.range 8).any fun c => s.fl F.MB_STAT_STATE c == 2

/-- Counter `n` counts one event (R485): an overflow sets OVF and may raise source 280. -/
def countOne (s : State) (n : Nat) : State :=
  let v := s.fl F.PC_CNT_COUNT n
  let s := s.setF F.PC_CNT_COUNT n (v + 1)
  if v + 1 = 2 ^ 48 then
    let s := s.setB F.PC_CNT_OVF n true
    if s.fb F.PC_EVT_IRQ n then raiseSource s 280 else s
  else s

/-- An event of a unit, by a request of a partition or of none. -/
def countEvent (s : State) (ev unit : Nat) (part : Option Nat) : State :=
  if 0x20 ≤ ev && ev < 0x60 && anyBusy s then s
  else (setElems s F.PC_EVT_EN).foldl (fun s n =>
    if s.fl F.PC_EVT_EVENT n == ev && s.fl F.PC_EVT_UNIT n == unit
        && (s.fb F.PC_EVT_PANY n || part == some (s.fl F.PC_EVT_PART n)) then countOne s n else s) s

/-- PARTITION of a core. -/
def partOf (s : State) (c : Fin 16) : Nat := (s.cpu (.core c)).partition.toNat % 64

/-- An event inside core `c`. -/
def countCore (s : State) (ev : Nat) (c : Fin 16) : State := countEvent s ev c.val (some (partOf s c))

/-! ### Trace -/

/-- The grant gives partition `p` at least `level` on chip (R467). -/
def onChip (s : State) (level p : Nat) : Bool :=
  level ≤ s.fl F.DB_GRANT_LEVEL 0 && s.fb F.DB_GRANT_ONCHIP 0 && bitAt (s.fl F.DB_GRANTMASK_PMASK 0) p

/-- A record enters the FIFO of 256, with a DELTA that the model leaves free; a full FIFO loses it (R481, R483). -/
def tracePut (s : State) (typ b1 b45 b67 rest : Nat) (zeroDelta : Bool) : State :=
  let (k, s) := s.takeFree
  let delta := if zeroDelta then 0 else Config.freeNat k % 2 ^ 16
  let r := typ % 256 + b1 % 256 * 2 ^ 8 + delta * 2 ^ 16 + b45 % 2 ^ 16 * 2 ^ 32 + b67 % 2 ^ 16 * 2 ^ 48
    + rest % 2 ^ 64 * 2 ^ 64
  if s.trace.fifo.length < 256 then { s with trace := { s.trace with fifo := s.trace.fifo ++ [r], last := s.time } }
  else
    let was := s.fl F.TR_STAT_LOST 0
    let s := s.bumpF F.TR_STAT_LOST 0
    let s := { s with trace := { s.trace with lost := s.trace.lost + 1 } }
    if was = 0 then raiseSource s 274 else s

/-- A SYNC record: fabric time, DELTA 0. -/
def traceSync (s : State) : State := tracePut s 8 0 0 0 (s.fl F.EP_NOW_VALUE 0) true

/-- More SCLK cycles than DELTA holds have passed since the last record: SCLK runs at 1.6 GHz, or 200 MHz on FIRC (02
R47). -/
def deltaPast (s : State) : Bool :=
  let mhz := if s.clk.spllSel then 1600 else 200
  0xFFFF < (s.time - s.trace.last) * mhz / 1000

/-- A record, after a SYNC where its DELTA would exceed 0xFFFF (R481). -/
def traceRaw (s : State) (typ b1 b45 b67 rest : Nat) (zeroDelta : Bool) : State :=
  tracePut (if deltaPast s then traceSync s else s) typ b1 b45 b67 rest zeroDelta

/-- Whether a transaction of partition `p` is recorded (R479). -/
def traces (s : State) (p : Nat) : Bool :=
  s.fb F.TR_STAT_ACTIVE 0 && bitAt (s.fl F.TR_PMASK_PMASK 0) p && onChip s 1 p

/-- Requests of core `c` in partition `part` are recorded. -/
def tracesCore (s : State) (c : Fin 16) (part : Nat) : Bool := bitAt (s.fl F.TR_CFG_CORES 0) c.val && traces s part

/-- A request that core `c` sends to its L2: `kind` 0 fetch, 1 load, 2 store, 3 atomic, 4 walk (R479, R480). -/
def traceCore (s : State) (c : Fin 16) (part kind size place : Nat) : State :=
  if tracesCore s c part then
    let pa := if place < 2 ^ 36 then 0x3FFFF * 2 ^ 36 + place else (place / 2 ^ 36 - 1) * 2 ^ 36 + place % 2 ^ 36
    traceRaw s 1 c.val (part + kind * 256) size pa false
  else s

/-- STALL = 1: core `c` holds its requests from when the FIFO is full until it holds fewer than 128 records (R483). -/
def traceHolds (s : State) (c : Fin 16) (part : Nat) : Bool :=
  s.fb F.TR_SINK_STALL 0 && tracesCore s c part
    && (256 ≤ s.trace.fifo.length || s.trace.held && 128 ≤ s.trace.fifo.length)

/-- A request accepted by a DRAM channel from Strainer class 0 or 1. -/
def traceDram (s : State) (ch : Nat) (part : Option Nat) (write budgeted : Bool) (size off : Nat) : State :=
  match part with
  | some p =>
    if bitAt (s.fl F.TR_CFG_DRAM 0) ch && traces s p then
      traceRaw s 4 ch (p + (b2n write + 128 * b2n budgeted) * 256) size off false
    else s
  | none => s

/-- A packet that passes the local router port. -/
def tracePacket (s : State) (out : Bool) (k : Packet) : State :=
  if s.fb F.TR_CFG_FABRIC 0 && traces s k.part.toNat then
    traceRaw s (if out then 2 else 3) 0 (k.part.toNat + (k.cmd.toNat + 16 * k.sub.toNat) * 256) k.len.toNat
      (k.addr.toNat + (if out then k.dst.toNat else k.src.toNat) * 2 ^ 36) false
  else s

/-- A TRACE_START or TRACE_STOP match of comparator `x` of core `c` (R482). -/
def traceGate (s : State) (start : Bool) (c x : Nat) : State :=
  if !s.fb F.TR_CFG_EN 0 || !s.fb F.TR_CFG_GATED 0 then s
  else if start then
    let s := if s.fb F.TR_STAT_ACTIVE 0 then s else traceSync (s.setB F.TR_STAT_ACTIVE 0 true)
    traceRaw s 10 0 0 0 (c + x * 16) false
  else if s.fb F.TR_STAT_ACTIVE 0 then (traceRaw s 11 0 0 0 (c + x * 16) false).setB F.TR_STAT_ACTIVE 0 false
  else s

/-! ### Comparators -/

/-- Comparators, STEP and SKIP act on core `c` now (R472, DBGCTL). -/
def debugActs (s : State) (c : Fin 16) : Bool :=
  let k := s.cpu (.core c)
  k.dbgctl.getLsbD 0 && !k.st.exl && !k.st.ml && onChip s 2 (partOf s c)

/-- An access as a comparator sees it: virtual address and size, whether it reads and writes; a fetch does neither. -/
structure Seen where
  va : Nat
  size : Nat
  load : Bool
  store : Bool

/-- The control part of comparator `x` (number 8 c + k) matches (R476). -/
def cmpCtl (s : State) (c : Fin 16) (x : Nat) (a : Seen) : Bool :=
  let k := s.cpu (.core c)
  let kind := match s.fl F.DB_CMPCTL_KIND x with
    | 0 => !a.load && !a.store
    | 1 => a.load
    | 2 => a.store
    | _ => a.load || a.store
  s.fb F.DB_CMPCTL_EN x && kind && bitAt (s.fl F.DB_CMPCTL_RINGS x) k.st.ring.toNat
    && (!s.fb F.DB_CMPCTL_ASIDEN x || s.fl F.DB_CMPCTL_ASID x == k.asid.toNat % 2 ^ 16)
    && (!s.fb F.DB_CMPCTL_PARTEN x || s.fl F.DB_CMPCTL_PART x == partOf s c)

/-- Any byte of the access lies in `lo` to `hi`. -/
def seenIn (a : Seen) (lo hi : Nat) : Bool :=
  let v := a.va % 2 ^ 48
  v ≤ hi && lo ≤ v + a.size - 1

/-- Comparator `x` matches alone: the 8 bytes from ADDR with bits [2:0] cleared. -/
def cmpAlone (s : State) (c : Fin 16) (x : Nat) (a : Seen) : Bool :=
  let lo := s.fl F.DB_CMPADDR_ADDR x / 8 * 8
  cmpCtl s c x a && seenIn a lo (lo + 7)

/-- The comparators of pair `j` that act, and the state with ARMED as the access leaves it (R477). -/
def cmpPair (s : State) (c : Fin 16) (j : Nat) (a : Seen) : List Nat × State :=
  let x := c.val * 8 + 2 * j
  let y := x + 1
  match s.fl F.DB_CMPCTL_PAIR x with
  | 1 =>
    (if cmpCtl s c x a && seenIn a (s.fl F.DB_CMPADDR_ADDR x) (s.fl F.DB_CMPADDR_ADDR y) then [x] else [], s)
  | 2 =>
    let armed := bitAt (s.fl F.DB_CORECTL_ARMED c.val) j
    let s1 := if cmpAlone s c x a then s.setBit F.DB_CORECTL_ARMED c.val j true else s
    if armed && cmpAlone s c y a then ([y], s1.setBit F.DB_CORECTL_ARMED c.val j (cmpAlone s c x a)) else ([], s1)
  | _ => ([x, y].filter fun z => cmpAlone s c z a, s)

/-- The actions of the comparators that match: every trace and count action takes place, and one DEBUG is asked for where
any has it (R478). START and STOP arrive in the same cycle, so STOP wins (R482). -/
def cmpActs (s : State) (c : Fin 16) (hits : List Nat) : Bool × State :=
  let has := fun (n : Nat) => hits.filter fun x => s.fl F.DB_CMPCTL_ACTION x == n
  let s1 := (has 3).foldl (fun s _ => countCore s 0x0A c) s
  let s2 := if (has 2).isEmpty then (has 1).foldl (fun s x => traceGate s true c.val (x % 8)) s1
    else (has 2).foldl (fun s x => traceGate s false c.val (x % 8)) s1
  (!(has 0).isEmpty, s2)

/-- The comparators of core `c` see an access: whether DEBUG is raised (R478). A pending SKIP of the bank in use keeps
them from matching (R475). -/
def compare (s : State) (c : Fin 16) (a : Seen) : Bool × State :=
  let k := s.cpu (.core c)
  if !debugActs s c || (s.fb F.DB_CORECTL_SKIP c.val && k.stepBank == some k.st.bank) then (false, s)
  else
    let (hits, s) := (List.range 4).foldl (fun r j => let (h, s) := cmpPair r.2 c j a; (r.1 ++ h, s)) ([], s)
    cmpActs s c hits

end Sys2Proof.Machine
end

