-- ==== Sys2Proof/Machine/Mem.lean ====
section
/-! DEFINITION. The local address space: bytes of memory, the map of R26 and what stands at an offset, readiness and
power domains of a target (spec 03 R57, R58; 18 R392), the memory Strainers (16 R355 to R358) and the DRAM's undefined
contents (19 R406, R407). -/

namespace Sys2Proof.Machine

/-- The outcome of an access: its value, a failure (a BUS_ERROR subcode of 08 R171), or a wait: it is made again. -/
inductive Res (α : Type) where
  | ok (a : α) (s : State)
  | fail (e : Nat) (s : State)
  | stall (s : State)

/-- Then. -/
def Res.bind {α β : Type} (r : Res α) (f : α → State → Res β) : Res β :=
  match r with
  | .ok a s => f a s
  | .fail e s => .fail e s
  | .stall s => .stall s

/-- An access begun in `s` that must wait has no effect but the wake it asks for. -/
def Res.orWait {α : Type} (s : State) : Res α → Res α
  | .stall t => .stall { s with pwr := t.pwr, trace := { s.trace with held := t.trace.held } }
  | r => r

/-- A request that core `c` sends to its L2: recorded, or held there while the trace unit asks for it (23 R479, R483). -/
def coreRequest {α : Type} (s : State) (c : Fin 16) (part kind size place : Nat) (f : State → Res α) : Res α :=
  if traceHolds s c part then .stall { s with trace := { s.trace with held := true } }
  else (f (traceCore s c part kind size place)).orWait s

/-- BUS_ERROR subcodes (08 R171). -/
def beStrainer : Nat := 1
def beRemote : Nat := 2
def beNoTarget : Nat := 3
def beSize : Nat := 4
def beType : Nat := 5
def beNotReady : Nat := 6
def beQueue : Nat := 7
def beEcc : Nat := 8

/-- What an unlisted byte of memory reads as (log 1). -/
def memDefault : Byte := 0

/-- Memory is in its canonical form: addresses rise strictly, and no entry equals what an unlisted address reads as. -/
def Memory.wf (m : List Host.Cell) : Bool := mwf memDefault m

/-- One byte of memory. -/
def readByte (s : State) (a : Nat) : Byte := mget memDefault s.mem a

/-- Write one byte of memory. -/
def writeByte (s : State) (a : Nat) (b : Byte) : State := { s with mem := mset memDefault s.mem a b }

/-- Little-endian value of `n` bytes at `a` (00 R5). -/
def readBytes (s : State) (a : Nat) : Nat → Nat
  | 0 => 0
  | n + 1 => (readByte s a).toNat + 256 * readBytes s (a + 1) n

/-- Write the `n` low bytes of `v` at `a`, little-endian. -/
def writeBytes (s : State) (a : Nat) : Nat → Nat → State
  | 0, _ => s
  | n + 1, v => writeBytes (writeByte s a (BitVec.ofNat 8 v)) (a + 1) n (v / 256)

/-- Write a list of bytes at `a`. -/
def writeList (s : State) (a : Nat) : List Byte → State
  | [] => s
  | b :: bs => writeList (writeByte s a b) (a + 1) bs

/-- `n` bytes at `a` as a list. -/
def readList (s : State) (a : Nat) : Nat → List Byte
  | 0 => []
  | n + 1 => readByte s a :: readList s (a + 1) n

/-- A list of bytes as a little-endian number. -/
def bytesNat : List Byte → Nat
  | [] => 0
  | b :: bs => b.toNat + 256 * bytesNat bs

/-- The `n` low bytes of a number. -/
def natBytes (v : Nat) : Nat → List Byte
  | 0 => []
  | n + 1 => BitVec.ofNat 8 v :: natBytes (v / 256) n

/-- Replace `n` bytes at byte `off` of a little-endian number by the low bytes of `v`. -/
def patch (old off n v : Nat) : Nat :=
  let lo := old % 256 ^ off
  let hi := old / 256 ^ (off + n)
  lo + (v % 256 ^ n) * 256 ^ off + hi * 256 ^ (off + n)

/-- `n` bytes from byte `off` of a little-endian number. -/
def cut (x off n : Nat) : Nat := x / 256 ^ off % 256 ^ n

/-- What stands at a local offset (01 R26; 19 R404). -/
inductive Target where
  | dram (c : Fin 4)
  | scratch
  | rom
  | reg
  | hole
  deriving DecidableEq, Repr

/-- The register blocks of R26: first and last offset. -/
def regBlocks : List (Nat × Nat) :=
  [(0xE00000000, 0xE008FFFFF), (0xE01000000, 0xE02FFFFFF), (0xE03000000, 0xE032FFFFF), (0xE04000000, 0xE06FFFFFF)]

/-- The blocks marked Never: Kettle, mailbox, Strainer view, debug and trace, boot ROM (R26, R31). -/
def neverFabric (off : Nat) : Bool :=
  (0xE00000000 ≤ off && off ≤ 0xE000FFFFF) || (0xE00300000 ≤ off && off ≤ 0xE004FFFFF)
    || (0xE05000000 ≤ off && off ≤ 0xE05FFFFFF) || (0xFFF000000 ≤ off && off ≤ 0xFFF03FFFF)

/-- The target of a local offset. -/
def target (s : State) (off : Nat) : Target :=
  if off < 0xC00000000 then (if off < s.dram.usable then .dram (Fin.ofNat 4 (off / 256)) else .hole)
  else if off < 0xC00400000 then .scratch
  else if 0xFFF000000 ≤ off ∧ off ≤ 0xFFF03FFFF then .rom
  else if regBlocks.any (fun b => b.1 ≤ off && off ≤ b.2) then .reg
  else .hole

/-- The readiness unit (R57) and the power domain (18 R385) of a register of the camera and network blocks (22): offset
`o` in its block, with the shadow window folded onto it. The codec engine's registers, the inputs', those of an Ethernet
port, a CAN controller and a PCIe root port. -/
def cameraUnit (o : Nat) : Option Nat × Option Nat :=
  if o < 0x1000 then (some 152, some 43)
  else if o < 0x1800 then (some (136 + (o - 0x1000) / 0x80), some 43)
  else (none, some 43)
def networkUnit (o : Nat) : Option Nat × Option Nat :=
  if 0x10000 ≤ o ∧ o < 0x12000 then (some (153 + (o - 0x10000) / 0x400), some 44)
  else if 0x20000 ≤ o ∧ o < 0x20800 then (some (169 + (o - 0x20000) / 0x100), some 44)
  else if 0x20800 ≤ o ∧ o < 0x20840 then (some (169 + (o - 0x20800) / 8), some 44)
  else if 0x30000 ≤ o ∧ o < 0x30010 then (some (208 + (o - 0x30000) / 8), some 44)
  else if 0x400000 ≤ o ∧ o < 0x800000 then (some (208 + (o - 0x400000) / 0x200000), some 44)
  else (none, some 44)

/-- The readiness unit (R57) of a register offset, and the power domain it lies in (18 R385). None: always there. The
mailbox answers whenever the interconnect is ready (16 R489). -/
def regUnit (off : Nat) : Option Nat × Option Nat :=
  if off < 0xE00100000 then (none, none)
  else if off < 0xE00200000 then (some 44, none)
  else if off < 0xE00300000 then (some 42, none)
  else if off < 0xE00500000 then (some 34, none)
  else if off < 0xE00600000 then (some 41, none)
  else if off < 0xE00700000 then (some 40, none)
  else if off < 0xE00800000 then (none, none)
  else if off < 0xE00900000 then (some 33, none)
  else if off < 0xE02000000 then
    if 0xE01001000 ≤ off ∧ off < 0xE01001800 then
      let g := (off - 0xE01001000) / 0x200; (some (36 + g), some (32 + g))
    else (some 35, none)
  else if off < 0xE03000000 then
    if 0xE02010000 ≤ off ∧ off < 0xE02030000 then
      let i := (off - 0xE02010000) / 0x1000; (some (64 + i), some (37 + i / 8))
    else if 0xE02810000 ≤ off ∧ off < 0xE02830000 then
      let i := (off - 0xE02810000) / 0x1000; (some (64 + i), some (37 + i / 8))
    else if 0xE02100000 ≤ off ∧ off < 0xE02300000 then
      let i := (off - 0xE02100000) / 0x10000; (some (64 + i), some (37 + i / 8))
    else (none, none)
  else if off < 0xE03100000 then
    let o := off % 0x80000 / 0x1000; (if o < 6 then some (128 + o) else none, some 41)
  else if off < 0xE03200000 then
    let t := off % 0x80000 / 0x1000; (if t < 2 then some (134 + t) else none, some 42)
  else if off < 0xE04000000 then cameraUnit (off % 0x80000)
  else if off < 0xE05000000 then networkUnit (off % 0x800000)
  else if off < 0xE06000000 then (some 45, none)
  else (some 46, none)

/-- The fault of clock `k` persists: what it alone feeds stands still (02 R50). -/
def clockFails (s : State) (k : Nat) : Bool := s.clk.persist.getLsbD k

/-- FIRC has failed and SCLK runs from it: the interconnect and what it feeds stop (02 R47, R50). -/
def sclkStopped (s : State) : Bool := clockFails s 1 && !s.clk.spllSel

/-- The memory controller has fallen back to FIRC, which has failed. -/
def dclkStopped (s : State) : Bool := clockFails s 1 && s.clk.dramFirc

/-- An access waits for power domain `d`: it wakes the domain, or fails where the wake has timed out; the next access wakes
it again (18 R392). -/
def gateDom (s : State) (d : Nat) : Res Unit :=
  let s := { s with pwr := { s.pwr with touched := mset false s.pwr.touched d true } }
  if s.dom d = 0 then .ok () s
  else if mget false s.pwr.wakeFailed d then
    .fail beNotReady { s with pwr := { s.pwr with wakeFailed := mset false s.pwr.wakeFailed d false } }
  else .stall { s with pwr := { s.pwr with waking := mset false s.pwr.waking d true, asked := mset false s.pwr.asked d true } }

/-- Domain `d` is woken by traffic that no requester waits for: a write-back (18 R392). -/
def askDom (s : State) (d : Nat) : State :=
  let s := { s with pwr := { s.pwr with touched := mset false s.pwr.touched d true } }
  if s.dom d = 0 then s else { s with pwr := { s.pwr with waking := mset false s.pwr.waking d true } }

/-- An access waits for readiness bit `u`, or fails where its timeout has expired (03 R58). -/
def gateUnit (s : State) (u : Nat) : Res Unit :=
  if s.ready u then .ok () s
  else if mget false s.pwr.timedOut u then .fail beNotReady s
  else .stall s

/-- Domain, then unit. -/
def gate (s : State) (u d : Option Nat) : Res Unit :=
  match (match d with | none => Res.ok () s | some d => gateDom s d) with
  | .ok _ s => (match u with | none => .ok () s | some u => gateUnit s u)
  | r => r

/-- The gate of a local offset. A stopped interconnect holds what passes it. -/
def gateOff (s : State) (off : Nat) : Res Unit :=
  match target s off with
  | .dram c => if sclkStopped s || dclkStopped s then .stall s else gate s (some (29 + c.val)) (some (28 + c.val))
  | .scratch => if sclkStopped s then .stall s else gateUnit s 28
  | .rom => if sclkStopped s then .stall s else .ok () s
  | .reg =>
    if sclkStopped s && 0xE00100000 ≤ off then .stall s
    else let g := regUnit off; gate s g.1 g.2
  | .hole => .fail beNoTarget s

/-! ### Strainers -/

/-- Kinds of request (16 R356, ST_VSTAT.KIND): 0 read, 1 write, 2 fetch, 3 atomic. -/
abbrev ReqKind := Nat

/-- The fields of a memory Strainer's regions: control fields, range fields, first element, number of regions. -/
structure StrainFlds where
  valid : Fld
  rd : Fld
  wr : Fld
  ex : Fld
  safety : Fld
  part : Fld
  pany : Fld
  cls : Fld
  base : Fld
  limit : Fld
  first : Nat
  count : Nat

/-- The regions of memory Strainer `x` (0 to 3 DRAM, 4 scratch, 8 + i Infuser i). -/
def strainFlds (x : Nat) : StrainFlds :=
  if x < 4 then ⟨F.ST_DRCTL_VALID, F.ST_DRCTL_RD, F.ST_DRCTL_WR, F.ST_DRCTL_EX, F.ST_DRCTL_SAFETY, F.ST_DRCTL_PART,
    F.ST_DRCTL_PANY, F.ST_DRCTL_CLASS, F.ST_DRRANGE_BASE, F.ST_DRRANGE_LIMIT, x * 64, 64⟩
  else if x < 8 then ⟨F.ST_SRCTL_VALID, F.ST_SRCTL_RD, F.ST_SRCTL_WR, F.ST_SRCTL_EX, F.ST_SRCTL_SAFETY, F.ST_SRCTL_PART,
    F.ST_SRCTL_PANY, F.ST_SRCTL_CLASS, F.ST_SRRANGE_BASE, F.ST_SRRANGE_LIMIT, 0, 16⟩
  else ⟨F.ST_IRCTL_VALID, F.ST_IRCTL_RD, F.ST_IRCTL_WR, F.ST_IRCTL_EX, F.ST_IRCTL_SAFETY, F.ST_IRCTL_PART,
    F.ST_IRCTL_PANY, F.ST_IRCTL_CLASS, F.ST_IRRANGE_BASE, F.ST_IRRANGE_LIMIT, (x - 8) * 4, 4⟩

/-- The VALID regions of Strainer `x`, lowest first. -/
def strainValid (s : State) (x : Nat) : List Nat :=
  let f := strainFlds x
  (setElems s f.valid).filter fun e => f.first ≤ e && e < f.first + f.count

/-- Count and latch a violation of Strainer `x` (R358): class, partition, kind, safety, deciding region, offset. -/
def latchViolation (s : State) (x cls part kind : Nat) (safety : Bool) (region : Option Nat) (off : Nat) : State :=
  let first := s.fl F.ST_VSTAT_COUNT x = 0
  let s := countEvent (s.bumpF F.ST_VSTAT_COUNT x) 0x50 x (if cls ≤ 1 then some part else none)
  if first then
    let s := (((s.setF F.ST_VSTAT_CLASS x cls).setF F.ST_VSTAT_PART x part).setF F.ST_VSTAT_KIND x kind)
    let s := (s.setB F.ST_VSTAT_SAFETY x safety).setB F.ST_VSTAT_NOMATCH x region.isNone
    (s.setF F.ST_VSTAT_REGION x (region.getD 0)).setF F.ST_VADDR_ADDR x off
  else s

/-- ST_VSTATs as read. -/
def vstatWord (s : State) (x : Nat) : Nat :=
  s.fl F.ST_VSTAT_COUNT x + s.fl F.ST_VSTAT_CLASS x * 2 ^ 16 + s.fl F.ST_VSTAT_PART x * 2 ^ 19
    + s.fl F.ST_VSTAT_KIND x * 2 ^ 25 + s.fl F.ST_VSTAT_SAFETY x * 2 ^ 27 + s.fl F.ST_VSTAT_NOMATCH x * 2 ^ 28
    + s.fl F.ST_VSTAT_REGION x * 2 ^ 29

/-- Any byte of the range lies in a valid SAFETY region of the Strainer. -/
def safetyRange (s : State) (x off size : Nat) : Bool :=
  let f := strainFlds x
  (strainValid s x).any fun e =>
    s.fb f.safety e && off ≤ s.fl f.limit e * 4096 + 4095 && s.fl f.base e * 4096 ≤ off + size - 1

/-- A violation of a memory Strainer (R358, R364). -/
def violation (s : State) (x cls part kind : Nat) (region : Option Nat) (off size : Nat) (forceSafety : Bool) : State :=
  let safety := forceSafety || safetyRange s x off size
  let s := latchViolation s x cls part kind safety region off
  let detail := vstatWord s x + s.fl F.ST_VADDR_ADDR x * 2 ^ 64
  if safety then raiseTrigger (dregs s (0x280 + x) clsSafety 0x501 detail) 8 false
  else dregs s (0x280 + x) clsWarn 0x500 detail

/-- Whether a region permits a request of the kind. -/
def permits (s : State) (f : StrainFlds) (e : Nat) (kind : ReqKind) : Bool :=
  match kind with
  | 0 => s.fb f.rd e
  | 1 => s.fb f.wr e
  | 2 => s.fb f.ex e
  | _ => s.fb f.rd e && s.fb f.wr e

/-- A memory Strainer decides a request (R356). Class 8, the Caddy, is always admitted (R343). -/
def strain (s : State) (x cls : Nat) (part : Option Nat) (kind : ReqKind) (off size : Nat) : Bool × State :=
  if cls = 8 then (true, s)
  else
    let f := strainFlds x
    let hit := (strainValid s x).find? fun e =>
      bitAt (s.fl f.cls e) cls && (s.fb f.pany e || part == some (s.fl f.part e))
        && s.fl f.base e * 4096 ≤ off && off + size - 1 ≤ s.fl f.limit e * 4096 + 4095
    match hit with
    | some e =>
      if permits s f e kind then (true, s)
      else (false, violation s x cls (part.getD 0) kind (some (e - f.first)) off size false)
    | none => (false, violation s x cls (part.getD 0) kind none off size false)

/-- The Strainer in front of a memory target. -/
def strainerOf (s : State) (off : Nat) : Option Nat :=
  match target s off with
  | .dram c => some c.val
  | .scratch => some 4
  | _ => none

/-- The partition charged for a DRAM request (19 R408). -/
def chargedPart (s : State) (cls : Nat) (part : Option Nat) : Nat :=
  match cls with
  | 0 => part.getD 0
  | 1 => part.getD 0
  | 2 => s.fl F.MC_CLASSPART_PART0 0
  | 3 => s.fl F.MC_CLASSPART_PART1 0
  | 4 => s.fl F.MR_CFG_PART 0
  | 5 => s.fl F.MC_CLASSPART_PART3 0
  | 6 => s.fl F.MC_CLASSPART_PART4 0
  | 7 => s.fl F.MC_CLASSPART_PART5 0
  | _ => s.fl F.MC_CLASSPART_CADDY 0

/-! ### The write queues (19 R409)

A write is accepted with its data in place, so that later requests see it; State holds the line that the channel has
still to serve. Service takes time and no command shows it, so a request that must wait has what it waits for served
within its own command (log 96). -/

/-- Lines of each channel's write queue. -/
def writeQueueLines : Nat := 64

/-- The write queue of channel `ch`, oldest first. -/
def channelWrites (s : State) (ch : Nat) : List DramWrite := s.dram.writes.filter fun w => w.channel == ch

/-- The queued writes for which `p` holds have been served. -/
def servedWrites (s : State) (p : DramWrite → Bool) : State :=
  { s with dram := { s.dram with writes := s.dram.writes.filter fun w => !p w } }

/-- Channel `ch` serves the budgeted requests that wait: a younger budgeted one, and all traffic without budget, starts
after them. -/
def serveBudgeted (s : State) (ch : Nat) : State := servedWrites s fun w => w.channel == ch && w.budgeted

/-- Channel `ch` drains its write queue. -/
def drainWrites (s : State) (ch : Nat) : State := servedWrites s fun w => w.channel == ch

/-- The queued write that channel `ch` serves next: the oldest with budget; without one, the oldest. -/
def nextWrite (s : State) (ch : Nat) : Option DramWrite :=
  let q := channelWrites s ch
  (q.find? (·.budgeted)).orElse fun _ => q.head?

/-- A write enters the queue of channel `ch`. While the queue is full it waits at the port until a line has been served. -/
def acceptWrite (s : State) (ch line : Nat) (budgeted : Bool) : State :=
  let q := if (channelWrites s ch).length < writeQueueLines then s.dram.writes
    else match nextWrite s ch with
      | some w => s.dram.writes.erase w
      | none => s.dram.writes
  { s with dram := { s.dram with writes := q ++ [{ channel := ch, line, budgeted }] } }

/-- Channel `ch` takes a request: a write joins the queue; a read or an atomic starts after the budgeted requests, and an
atomic's write joins the queue then. -/
def channelTakes (s : State) (ch : Nat) (kind : ReqKind) (line : Nat) (budgeted : Bool) : State :=
  let s := if kind == 1 then s else serveBudgeted s ch
  if kind == 1 || kind == 3 then acceptWrite s ch line budgeted else s

/-- The line of check bits, in its channel, that the line at `off` has: each holds those of 31 successive lines (R405; DESIGN
CHOICE, log 112). -/
def checkLine (off : Nat) : Nat := (off / 1024 * 4 + off % 256 / 64) / 31

/-- Channel `ch` uses a line of check bits: the cache of 64 lines keeps the most recently used (R405; log 112). -/
def useChecks (s : State) (ch line : Nat) : State :=
  let l := line :: (mget [] s.dram.checks ch).filter (· != line)
  { s with dram := { s.dram with checks := mset [] s.dram.checks ch (l.take 64) } }

/-- The partition that a request carries: classes 0 and 1 only (23 R479, R485). -/
def shownPart (cls : Nat) (part : Option Nat) : Option Nat := if cls ≤ 1 then part else none

/-- Charge a request to the token bucket of its partition in channel `ch` (R408). State holds the tokens missing from a
full bucket. A partial write, an atomic's among them, and a request whose check bits are not cached take two tokens. The
channel then takes the request (R409). -/
def charge (s : State) (ch cls : Nat) (part : Option Nat) (kind : ReqKind) (off size : Nat) : State :=
  let p := chargedPart s cls part
  let partialWrite := (kind == 1 || kind == 3) && size < 64
  let hit := (mget [] s.dram.checks ch).contains (checkLine off)
  let cost := if partialWrite || !hit then 2 else 1
  let s := useChecks s ch (checkLine off)
  let key := 4 * p + ch
  let missing := mget 0 s.dram.tokens key
  let budgeted := missing + cost ≤ s.fl F.MC_BUDGET_BURST p
  let s := if budgeted then { s with dram := { s.dram with tokens := mset 0 s.dram.tokens key (missing + cost) } } else s
  let shown := shownPart cls part
  let s := channelTakes s ch kind (off / 64) budgeted
  traceDram (countEvent s (if budgeted then 0x30 else 0x31) ch shown) ch shown (kind == 1) budgeted size off

/-- Gate and Strainer of a memory access (DRAM, scratch SRAM, boot ROM) of `size` bytes within one line. The Strainer sees
it as `kind`, a DRAM channel as `use`: a request for ownership reads the line. -/
def memAdmitAs (s : State) (cls : Nat) (part : Option Nat) (kind use : ReqKind) (off size : Nat) : Res Unit :=
  match gateOff s off with
  | .ok _ s =>
    (match strainerOf s off with
     | some x => (match strain s x cls part kind off size with
        | (true, s) => .ok () (if x < 4 then charge s x cls part use off size else s)
        | (false, s) => .fail beStrainer s)
     | none => .ok () s)
  | r => r

/-- The same, of a request that the channel sees as the Strainer does. -/
def memAdmit (s : State) (cls : Nat) (part : Option Nat) (kind : ReqKind) (off size : Nat) : Res Unit :=
  memAdmitAs s cls part kind kind off size

/-! ### DRAM lines -/

/-- The contents of a DRAM line are undefined: its channel was initialised without KEEP and the line has not been
written since (19 R407). -/
def lineUndef (s : State) (off : Nat) : Bool :=
  match target s off with
  | .dram c => s.dram.undef.getLsbD c.val && !mget false s.dram.known (off / 64)
  | _ => false

/-- How many stored bits of the line are wrong (R405; log 113). -/
def lineFlips (s : State) (off : Nat) : Nat := mget 0 s.dram.flips (off / 64)

/-- A read of the line must go through its ECC: its contents are undefined, or stored bits of it are wrong. -/
def lineBad (s : State) (off : Nat) : Bool := lineUndef s off || lineFlips s off != 0

/-- MC_ECCSTATc as read. -/
def eccWord (s : State) (c : Nat) : Nat :=
  s.fl F.MC_ECCSTAT_CE c * 2 ^ F.MC_ECCSTAT_CE.lo + s.fl F.MC_ECCSTAT_UE c * 2 ^ F.MC_ECCSTAT_UE.lo
    + s.fl F.MC_ECCSTAT_CETHR c * 2 ^ F.MC_ECCSTAT_CETHR.lo

/-- A corrected error of channel `c`, found by a request of partition `part` or of none (R406, 23 R485). -/
def eccCorrected (s : State) (part : Option Nat) (c : Nat) : State :=
  let old := s.fl F.MC_ECCSTAT_CE c
  let s := countEvent (s.bumpF F.MC_ECCSTAT_CE c) 0x32 c part
  if s.fl F.MC_ECCSTAT_CE c = s.fl F.MC_ECCSTAT_CETHR c ∧ old ≠ s.fl F.MC_ECCSTAT_CE c then
    dregs (raiseSource s (256 + c)) (0x180 + c) clsWarn 0x701 (eccWord s c)
  else s

/-- An uncorrectable error of channel `c` in the line at `off` (R406). -/
def eccUncorrectable (s : State) (c off : Nat) : State :=
  let s := s.bumpF F.MC_ECCSTAT_UE c
  let line := off / 64 * 64
  let s := if s.fb F.MC_ECCADDR_VALID c then s
    else (s.setF F.MC_ECCADDR_ADDR c (off / 2 ^ F.MC_ECCADDR_ADDR.lo)).setB F.MC_ECCADDR_VALID c true
  dregs (raiseSource s 260) (0x180 + c) clsError 0x700 (eccWord s c + line * 2 ^ 64)

/-- Mark the line written: its contents and check bits are valid. -/
def lineKnown (s : State) (off : Nat) : State :=
  match target s off with
  | .dram _ =>
    let s := if lineUndef s off then { s with dram := { s.dram with known := mset false s.dram.known (off / 64) true } } else s
    if lineFlips s off = 0 then s else { s with dram := { s.dram with flips := mset 0 s.dram.flips (off / 64) 0 } }
  | _ => s

/-- Read a line from memory as its ECC delivers it. A line with undefined contents gives free bytes, a corrected error
or an uncorrectable one, as a free value says (log 8, 13); what it gives, corrected where need be, is what it holds from
then on (R406). One wrong bit of a written line is corrected and written back; more are uncorrectable (R405). -/
def readLine (s : State) (part : Option Nat) (off : Nat) : Res Nat :=
  let a := off / 64 * 64
  match target s off with
  | .dram c =>
    if lineUndef s off then
      let (k, s) := s.takeFree
      let (k2, s) := s.takeFree
      let d := Config.freeNat k2 % 2 ^ 512
      match Config.freeNat k % 3 with
      | 0 => .ok d (lineKnown (writeBytes s a 64 d) off)
      | 1 => .ok d (eccCorrected (lineKnown (writeBytes s a 64 d) off) part c.val)
      | _ => .fail beEcc (eccUncorrectable s c.val a)
    else
      (match lineFlips s off with
       | 0 => .ok (readBytes s a 64) s
       | 1 => .ok (readBytes s a 64) (eccCorrected (lineKnown s off) part c.val)
       | _ => .fail beEcc (eccUncorrectable s c.val a))
  | _ => .ok (readBytes s a 64) s

/-- Write `n` bytes within one line to memory. A partial write of DRAM reads the line first and is discarded where
that read finds an uncorrectable error (R405, R406). -/
def writeMem (s : State) (part : Option Nat) (off n v : Nat) : Res Unit :=
  if lineBad s off && n < 64 then
    match readLine s part off with
    | .ok d s => .ok () (lineKnown (writeBytes s (off / 64 * 64) 64 (patch d (off % 64) n v)) off)
    | .fail e s => .fail e s
    | .stall s => .stall s
  else .ok () (lineKnown (writeBytes s off n v) off)

/-- Read `n` bytes within one line from memory. -/
def readMem (s : State) (part : Option Nat) (off n : Nat) : Res Nat :=
  if lineBad s off then
    match readLine s part off with
    | .ok d s => .ok (cut d (off % 64) n) s
    | .fail e s => .fail e s
    | .stall s => .stall s
  else .ok (readBytes s off n) s

end Sys2Proof.Machine
end

