-- ==== Sys2Proof/Machine/Cache.lean ====
section
/-! DEFINITION. The caches (spec 11): resident lines with their data, least-recently-used replacement, the victim
caches, inclusive L2s, the L3 slices with way masks and LOCK, scratch lines, orphans. A line is named by its place
divided by 64; places below 2^36 are local offsets, others are remote (09 R205). Where a dirty line stays after another
core has read it is the model's choice: it stays dirty where it is (log 6). -/

namespace Sys2Proof.Machine

/-- A dirty or valid bit of the data caches: the cache is enabled (R237, R238). -/
def cacheOn (s : State) : CacheId → Bool
  | .l1d c => s.fb F.L3_CCTL_DCEN c.val
  | .victim c => s.fb F.L3_CCTL_DCEN c.val
  | .l2 n => s.fb F.L3_L2CTL_EN n.val
  | .l3 x => s.fb F.L3_SLCTL_EN x.val
  | .l1i c => s.fb F.L3_CCTL_ICEN c.val

/-- Number of ways and sets (R230). -/
def cacheWays : CacheId → Nat
  | .l1d _ => 4
  | .victim _ => 32
  | .l2 _ => 8
  | .l3 _ => 16
  | .l1i _ => 4

def cacheSets : CacheId → Nat
  | .l1d _ => 256
  | .victim _ => 1
  | .l2 _ => 4096
  | .l3 _ => 4096
  | .l1i _ => 256

/-- The set in which a line lies (R230). -/
def setOf (id : CacheId) (line : Nat) : Nat :=
  match id with
  | .l1d _ => line % 256
  | .victim _ => 0
  | .l2 _ => line % 4096
  | .l3 _ => line / 8 % 4096
  | .l1i _ => line % 256

def setKey (id : CacheId) (set : Nat) : Nat := id.ix * 4096 + set

/-- The L3 slice of a line: PA[8:6]. -/
def sliceOf (line : Nat) : CacheId := .l3 (Fin.ofNat 8 line)

/-- The cluster of a core. -/
def clusterOf (c : Fin 16) : Fin 4 := Fin.ofNat 4 (c.val / 4)

/-- The cores of a cluster. -/
def clusterCores (n : Fin 4) : List (Fin 16) := (List.range 4).map fun k => Fin.ofNat 16 (4 * n.val + k)

/-- All cores and clusters. -/
def allCores : List (Fin 16) := (List.range 16).map (Fin.ofNat 16)
def allClusters : List (Fin 4) := (List.range 4).map (Fin.ofNat 4)

def setLines (s : State) (id : CacheId) (set : Nat) : List CLine := mget [] s.caches.sets (setKey id set)

def putSet (s : State) (id : CacheId) (set : Nat) (ls : List CLine) : State :=
  { s with caches := { s.caches with sets := mset [] s.caches.sets (setKey id set) ls } }

/-- The line in a cache, enabled or not. -/
def findRaw (s : State) (id : CacheId) (line : Nat) : Option CLine :=
  (setLines s id (setOf id line)).find? fun x => x.line == line

/-- The line in an enabled cache. -/
def find (s : State) (id : CacheId) (line : Nat) : Option CLine := if cacheOn s id then findRaw s id line else none

/-- Remove the line from a cache. -/
def dropLine (s : State) (id : CacheId) (line : Nat) : State :=
  let set := setOf id line
  match findRaw s id line with
  | some _ => putSet s id set ((setLines s id set).filter fun x => x.line != line)
  | none => s

/-- Remove the line from an enabled cache. -/
def dropOn (s : State) (id : CacheId) (line : Nat) : State := if cacheOn s id then dropLine s id line else s

/-- Make the line the most recently used of its set, with the given contents. -/
def touchLine (s : State) (id : CacheId) (x : CLine) : State :=
  let set := setOf id x.line
  putSet s id set (x :: (setLines s id set).filter fun y => y.line != x.line)

/-- Change the contents of a resident line in place. -/
def alterLine (s : State) (id : CacheId) (x : CLine) : State :=
  let set := setOf id x.line
  putSet s id set ((setLines s id set).map fun y => if y.line = x.line then x else y)

/-- The lowest way of `allowed` that no line of the set holds. -/
def freeWay (ls : List CLine) (allowed : List Nat) : Option Nat :=
  allowed.find? fun w => !(ls.any fun x => x.way == w)

/-- The least recently used line in an allowed way (the list's last). -/
def lruLine (ls : List CLine) (allowed : List Nat) : Option CLine :=
  (ls.filter fun x => allowed.contains x.way).getLast?

/-- Write a dirty line back to memory (write-backs are not checked by the Strainers: 16 R356). Its channel takes it
without budget: 19 R408 names no partition for it (log 96). A sleeping channel is woken, and holds the line meanwhile (18
R392; log 114). -/
def memWriteBack (s : State) (x : CLine) : State :=
  if x.line < 2 ^ 30 then
    let s := match target s (x.line * 64) with
      | .dram c => acceptWrite (askDom s (28 + c.val)) c.val x.line false
      | _ => s
    lineKnown (writeBytes s (x.line * 64) 64 x.data) (x.line * 64)
  else s

/-- The ways of L3 into which a requester allocates (R235): a core of a partition, or a requester without one. -/
def l3Allowed (s : State) (part : Option Nat) : List Nat :=
  let m := match part with
    | some p => s.fl F.L3_WAYMASK_MASK p
    | none => 0xFFFF - s.fl F.L3_LOCK_LOCK 0
  (List.range 16).filter fun w => bitAt m w

/-- A local line that the L3 may hold: a DRAM line, or a line of a remote target (R233, 09 R203). -/
def l3Holds (line : Nat) : Bool := line < 0xC00000000 / 64 || 2 ^ 30 ≤ line

/-- Put a line into its L3 slice: update it where it is, or allocate it; with no allowed way a dirty line goes to memory
(R235). So it does where the slice's domain is not on, which it wakes (18 R392; log 114). -/
def l3Put (s : State) (part : Option Nat) (line data : Nat) (dirty : Bool) : State :=
  let id := sliceOf line
  let out := fun (s : State) => if dirty then memWriteBack s ⟨line, 0, true, data⟩ else s
  if !cacheOn s id || !l3Holds line then out s
  else if s.dom (20 + line % 8) != 0 then out (askDom s (20 + line % 8))
  else
    match findRaw s id line with
    | some x => touchLine s id { x with data := data, dirty := x.dirty || dirty }
    | none =>
      let ls := setLines s id (setOf id line)
      let ways := l3Allowed s part
      match freeWay ls ways with
      | some w => countEvent (touchLine s id ⟨line, w, dirty, data⟩) 0x22 (line % 8) part
      | none =>
        match lruLine ls ways with
        | some v =>
          let s := dropLine s id v.line
          let s := if v.dirty then memWriteBack s v else s
          countEvent (touchLine s id ⟨line, v.way, dirty, data⟩) 0x22 (line % 8) part
        | none => if dirty then memWriteBack s ⟨line, 0, true, data⟩ else s

/-- The dirty copy of a line in the enabled L1 data and victim caches of some cores. -/
def dirtyL1 (s : State) (line : Nat) : List (Fin 16) → Option CLine
  | [] => none
  | c :: cs =>
    match find s (.l1d c) line with
    | some x => if x.dirty then some x else dirtyL1 s line cs
    | none =>
      match find s (.victim c) line with
      | some x => if x.dirty then some x else dirtyL1 s line cs
      | none => dirtyL1 s line cs

/-- The dirty copy of a line in the enabled L2s. -/
def dirtyL2 (s : State) (line : Nat) : List (Fin 4) → Option CLine
  | [] => none
  | n :: ns =>
    match find s (.l2 n) line with
    | some x => if x.dirty then some x else dirtyL2 s line ns
    | none => dirtyL2 s line ns

/-- The newest copy of a line on the device, where a cache holds one that memory does not: a dirty L1 or victim line,
a dirty L2 line, a line of the L3 (R231). -/
def newest (s : State) (line : Nat) : Option Nat :=
  match dirtyL1 s line allCores with
  | some x => some x.data
  | none =>
    match dirtyL2 s line allClusters with
    | some x => some x.data
    | none => (find s (sliceOf line) line).map (·.data)

/-- The newest copy, for a read that uses it: a line of the L3 becomes the most recently used of its set. -/
def newestUsed (s : State) (line : Nat) : Option (Nat × State) :=
  match dirtyL1 s line allCores with
  | some x => some (x.data, s)
  | none =>
    match dirtyL2 s line allClusters with
    | some x => some (x.data, s)
    | none => (find s (sliceOf line) line).map fun x => (x.data, touchLine s (sliceOf line) x)

/-- Remove a line from the enabled L1 data and victim caches of core `c`. -/
def leaveL1 (s : State) (line : Nat) (c : Fin 16) : State := dropOn (dropOn s (.l1d c) line) (.victim c) line

/-- The line leaves the enabled L2 of cluster `n`, and with it the L1 instruction caches that the L2 includes (R231). -/
def leaveL2 (s : State) (line : Nat) (n : Fin 4) : State :=
  (clusterCores n).foldl (fun s c => dropOn s (.l1i c) line) (dropOn s (.l2 n) line)

/-- Remove a line from the enabled L1 data and victim caches of a cluster, answering its dirty data. -/
def pullL1s (s : State) (line : Nat) (cs : List (Fin 16)) : Option Nat × State :=
  let d := (dirtyL1 s line cs).map (·.data)
  (d, cs.foldl (fun s c => leaveL1 s line c) s)

/-- A line leaves the L2 of cluster `n` (inclusion: it leaves the L1s and victims too) and goes to the L3 or memory
where it is dirty (R231). -/
def evictL2 (s : State) (n : Fin 4) (part : Option Nat) (x : CLine) : State :=
  let (d, s) := pullL1s s x.line (clusterCores n)
  let s := dropLine (leaveL2 s x.line n) (.l2 n) x.line
  let data := d.getD x.data
  if d.isSome || x.dirty then l3Put s part x.line data true else s

/-- Fill a line into the L2 of cluster `n`. -/
def fillL2 (s : State) (n : Fin 4) (part : Option Nat) (line data : Nat) (dirty : Bool) : State :=
  let id := CacheId.l2 n
  if !cacheOn s id then (if dirty then l3Put s part line data true else s)
  else
    match findRaw s id line with
    | some x => touchLine s id { x with data := data, dirty := x.dirty || dirty }
    | none =>
      let ls := setLines s id (setOf id line)
      let ways := List.range 8
      match freeWay ls ways with
      | some w => touchLine s id ⟨line, w, dirty, data⟩
      | none =>
        match lruLine ls ways with
        | some v => touchLine (evictL2 s n part v) id ⟨line, v.way, dirty, data⟩
        | none => s

/-- A line that a fill removes from an L1 data cache enters the victim cache; a full victim cache sends its oldest
entry to the L2 (R232). Victim lists keep their order of entry, newest first. -/
def toVictim (s : State) (c : Fin 16) (part : Option Nat) (x : CLine) : State :=
  let id := CacheId.victim c
  let ls := setLines s id 0
  match freeWay ls (List.range 32) with
  | some w => putSet s id 0 ({ x with way := w } :: ls)
  | none =>
    match ls.getLast? with
    | some v =>
      let s := putSet s id 0 ({ x with way := v.way } :: ls.dropLast)
      if v.dirty then fillL2 s (clusterOf c) part v.line v.data true else s
    | none => s

/-- Fill a line into the L1 data cache of core `c`. -/
def fillL1 (s : State) (c : Fin 16) (part : Option Nat) (line data : Nat) (dirty : Bool) : State :=
  let id := CacheId.l1d c
  if !cacheOn s id then s
  else
    let ls := setLines s id (setOf id line)
    match freeWay ls (List.range 4) with
    | some w => touchLine s id ⟨line, w, dirty, data⟩
    | none =>
      match lruLine ls (List.range 4) with
      | some v => touchLine (toVictim (dropLine s id v.line) c part v) id ⟨line, v.way, dirty, data⟩
      | none => s

/-- The line in the L1 data cache of core `c`, or recalled from its victim cache (R232). -/
def hitL1 (s : State) (c : Fin 16) (part : Option Nat) (line : Nat) : Option (CLine × State) :=
  match find s (.l1d c) line with
  | some x => some (x, touchLine s (.l1d c) x)
  | none =>
    match find s (.victim c) line with
    | some x =>
      let s := fillL1 (dropLine s (.victim c) line) c part line x.data x.dirty
      some (x, countCore s 0x04 c)
    | none => none

/-- The gate of the L3 slice that owns a line, where it is enabled and may hold the line: its domain on and its readiness
bit set (03 R58; 18 R392, R393). -/
def sliceGate (s : State) (line : Nat) : Res Unit :=
  if cacheOn s (sliceOf line) && l3Holds line then gate s (some (20 + line % 8)) (some (20 + line % 8)) else .ok () s

/-- The gates of the caches that a miss passes: the cluster's L2 and the line's L3 slice, where enabled, with their
domains on and their readiness bits set (03 R58; 18 R393). -/
def missGate (s : State) (c : Fin 16) (line : Nat) : Res Unit :=
  let n := clusterOf c
  let g := if cacheOn s (.l2 n) then gate s (some (16 + n.val)) (some (16 + n.val)) else .ok () s
  match g with
  | .ok _ s => sliceGate s line
  | r => r

/-- A request of partition `part` or of none looks its line up in the L3: a hit or a miss (23 R485; log 131). -/
def l3Lookup (s : State) (part : Option Nat) (line : Nat) : State :=
  if cacheOn s (sliceOf line) && l3Holds line then
    countEvent s (if (find s (sliceOf line) line).isSome then 0x20 else 0x21) (line % 8) part
  else s

/-- A core's miss of its own L1 caches: the line's data from the cluster, the L3 or memory, filled into the L2 and, from
memory, the L3. `kind` is the Strainer's kind: 0 for a load, 1 for a request for ownership, 2 for a fetch, 3 for an atomic; a
DRAM channel sees a read. -/
def missLine (s : State) (c : Fin 16) (part : Nat) (kind : ReqKind) (line : Nat) : Res Nat :=
  coreRequest s c part (match kind with | 0 => 1 | 1 => 2 | 2 => 0 | _ => 3) 64 (line * 64) fun s =>
  match missGate s c line with
  | .fail e s => .fail e s
  | .stall s => .stall s
  | .ok _ s =>
    let n := clusterOf c
    let s := if kind != 2 && cacheOn s (.l1d c) then countCore s 0x03 c else s
    let got : Res Nat :=
      match (match dirtyL1 s line (clusterCores n) with
             | some x => some x.data
             | none => (find s (.l2 n) line).map (·.data)) with
      | some d => .ok d s
      | none =>
        let s := if cacheOn s (.l2 n) then countCore s 0x05 c else s
        let s := l3Lookup s (some part) line
        match newestUsed s line with
        | some (d, s) => .ok d s
        | none =>
          match memAdmitAs s 0 (some part) kind 0 (line * 64) 64 with
          | .ok _ s =>
            (match readLine s (some part) (line * 64) with
             | .ok d s => .ok d (l3Put s (some part) line d false)
             | r => r)
          | .fail e s => .fail e s
          | .stall s => .stall s
    match got with
    | .ok d s => .ok d (fillL2 s n (some part) line d false)
    | r => r

/-- A core reads a local line through its caches (types Normal-WB, Normal-WT, Mirrored-WB): its data, filled into the
enabled levels. -/
def cachedLine (s : State) (c : Fin 16) (part : Nat) (kind : ReqKind) (line : Nat) : Res Nat :=
  match hitL1 s c (some part) line with
  | some (x, s) => .ok x.data s
  | none =>
    match missLine s c part kind line with
    | .ok d s => .ok d (fillL1 s c (some part) line d false)
    | r => r

/-- Fill a line into the L1 instruction cache of core `c`. -/
def fillL1i (s : State) (c : Fin 16) (line data : Nat) : State :=
  let id := CacheId.l1i c
  if !cacheOn s id then s
  else
    let ls := setLines s id (setOf id line)
    match freeWay ls (List.range 4) with
    | some w => touchLine s id ⟨line, w, false, data⟩
    | none =>
      match lruLine ls (List.range 4) with
      | some v => touchLine (dropLine s id v.line) id ⟨line, v.way, false, data⟩
      | none => s

/-- A core fetches a local line through its caches. The L1 instruction cache is not kept coherent with stores (R231). -/
def fetchedLine (s : State) (c : Fin 16) (part line : Nat) : Res Nat :=
  match find s (.l1i c) line with
  | some x => .ok x.data (touchLine s (.l1i c) x)
  | none =>
    match missLine s c part 2 line with
    | .ok d s => .ok d (fillL1i s c line d)
    | r => r

/-- Remove a line from every enabled L1 data, victim and L2 cache but those of core `c` and its cluster's L2. -/
def snoopOut (s : State) (c : Fin 16) (line : Nat) : State :=
  let s := (allCores.filter (· != c)).foldl (fun s k => leaveL1 s line k) s
  (allClusters.filter (· != clusterOf c)).foldl (fun s n => leaveL2 s line n) s

/-- A core that has fetched a local write-back line writes it: into the nearest enabled level that holds it, or memory. -/
def putWb (s : State) (c : Fin 16) (line x : Nat) : Res Unit :=
  let s := snoopOut s c line
  let n := clusterOf c
  match find s (.l1d c) line with
  | some l => .ok () (touchLine s (.l1d c) { l with data := x, dirty := true })
  | none =>
    match find s (.l2 n) line with
    | some l => .ok () (touchLine s (.l2 n) { l with data := x, dirty := true })
    | none =>
      match find s (sliceOf line) line with
      | some l => .ok () (touchLine s (sliceOf line) { l with data := x, dirty := true })
      | none => writeMem s none (line * 64) 64 x

/-- A core's stores to a local write-back line perform (10 "The model"): the line is held exclusive in its L1 data
cache, or in the nearest enabled level, or in memory. `upd` changes the line's data. -/
def storeWb (s : State) (c : Fin 16) (part : Nat) (kind : ReqKind) (line : Nat) (upd : Nat → Nat) : Res Nat :=
  match cachedLine s c part kind line with
  | .ok d s =>
    (match putWb s c line (upd d) with
     | .ok _ s => .ok d s
     | .fail e s => .fail e s
     | .stall s => .stall s)
  | r => r

/-- Change the line's data in every enabled cache of a list that holds it, for a write of core `c`: in its own L1 data cache,
an L2 and an L3 slice the write is a use of the line (R230). -/
def updateIn (s : State) (c : Fin 16) (line : Nat) (upd : Nat → Nat) (ids : List CacheId) : State :=
  ids.foldl (fun s id => match find s id line with
    | some x =>
      let y := { x with data := upd x.data }
      (match id with
       | .l1d k => if k = c then touchLine s id y else alterLine s id y
       | .victim _ => alterLine s id y
       | _ => touchLine s id y)
    | none => s) s

/-- The caches of the storing core's cluster that may hold a copy. -/
def clusterIds (c : Fin 16) : List CacheId :=
  (clusterCores (clusterOf c)).flatMap (fun k => [.l1d k, .victim k]) ++ [.l2 (clusterOf c)]

/-- Every cache that may hold a line. -/
def allIds (line : Nat) : List CacheId :=
  allCores.flatMap (fun k => [CacheId.l1d k, .victim k]) ++ allClusters.map .l2 ++ [sliceOf line]

/-- Remove a line from the enabled caches of every other cluster. -/
def otherClusters (s : State) (c : Fin 16) (line : Nat) : State :=
  (allClusters.filter (· != clusterOf c)).foldl (fun s n =>
    leaveL2 ((clusterCores n).foldl (fun s k => leaveL1 s line k) s) line n) s

/-- A store that is written to memory (Normal-WT; any caching type in the scratch SRAM, R233, R234): copies of the
storing cluster are updated, the line leaves the other clusters, and memory takes the bytes. -/
def storeThrough (s : State) (c : Fin 16) (part : Nat) (line off n v : Nat) : Res Unit :=
  coreRequest s c part 2 n (line * 64 + off) fun s =>
  match (sliceGate s line).bind fun _ s => memAdmit s 0 (some part) 1 (line * 64 + off) n with
  | .ok _ s =>
    let upd := fun d => patch d off n v
    let s := l3Lookup s (some part) line
    let s := otherClusters (updateIn s c line upd (clusterIds c ++ [sliceOf line])) c line
    writeMem s (some part) (line * 64 + off) n v
  | .fail e s => .fail e (if line * 64 < 0xC00000000 then s else (clusterIds c).foldl (fun s id => dropOn s id line) s)
  | .stall s => .stall s

/-- A requester without a cache reads `n` bytes of a local line and sees coherent data (R231). A DRAM line that a cache
serves does not reach its channel, which neither checks nor charges the read (16 R355, 19 R408; log 115); another is allocated
in the L3 (R235). An atomic's read (`kind` 3) always reaches it. -/
def snoopRead (s : State) (cls : Nat) (part : Option Nat) (kind : ReqKind) (off n : Nat) : Res Nat :=
  let line := off / 64
  match sliceGate s line with
  | .ok _ s =>
    let s := l3Lookup s (shownPart cls part) line
    (match (if kind = 0 ∧ l3Holds line then newestUsed s line else none) with
     | some (d, s) => .ok (cut d (off % 64) n) s
     | none =>
       match memAdmit s cls part kind off n with
       | .ok _ s =>
         (match newestUsed s line with
          | some (d, s) => .ok (cut d (off % 64) n) s
          | none =>
            match target s off with
            | .dram _ => (match readLine s (shownPart cls part) off with
               | .ok d s => .ok (cut d (off % 64) n) (l3Put s none line d false)
               | r => r)
            | _ => .ok (readBytes s off n) s)
       | .fail e s => .fail e s
       | .stall s => .stall s)
  | .fail e s => .fail e s
  | .stall s => .stall s

/-- A requester without a cache puts `n` bytes into a local line, its access admitted: the newest data takes the bytes and
goes to memory, so that a later uncached read returns it (10 R217, R225), and to the line of the L3 where it holds one; no
other cache keeps a copy (R231). -/
def snoopPut (s : State) (part : Option Nat) (off n v : Nat) : Res Unit :=
  let line := off / 64
  let dirty := match dirtyL1 s line allCores with
    | some x => some x.data
    | none => (dirtyL2 s line allClusters).map (·.data)
  let s := allCores.foldl (fun s k => leaveL1 s line k) s
  let s := allClusters.foldl (fun s k => leaveL2 s line k) s
  match find s (sliceOf line) line with
  | some x =>
    let d := patch (dirty.getD x.data) (off % 64) n v
    writeMem (touchLine s (sliceOf line) { x with data := d, dirty := false }) part (line * 64) 64 d
  | none =>
    match dirty with
    | some d => writeMem s part (line * 64) 64 (patch d (off % 64) n v)
    | none => writeMem s part off n v

/-- A requester without a cache writes `n` bytes of a local line. -/
def snoopWrite (s : State) (cls : Nat) (part : Option Nat) (kind : ReqKind) (off n v : Nat) : Res Unit :=
  match (sliceGate s (off / 64)).bind fun _ s => memAdmit s cls part kind off n with
  | .ok _ s => snoopPut (l3Lookup s (shownPart cls part) (off / 64)) (shownPart cls part) off n v
  | .fail e s => .fail e s
  | .stall s => .stall s

/-- Write a line back from every enabled cache that holds it dirty; keep it (CACHE.C, R116, R241). -/
def cleanLine (s : State) (line : Nat) : State :=
  let fresh := newest s line
  let wasDirty := (allIds line).any fun id => match find s id line with | some x => x.dirty | none => false
  match wasDirty, fresh with
  | true, some d =>
    let s := (allIds line).foldl (fun s id => match find s id line with
      | some x => alterLine s id { x with dirty := false, data := d }
      | none => s) s
    memWriteBack s ⟨line, 0, true, d⟩
  | _, _ => s

/-- Discard a line from every enabled cache (CACHE.I), the L1 instruction caches among them. -/
def discardLine (s : State) (line : Nat) : State :=
  allClusters.foldl (fun s n => leaveL2 s line n) ((allIds line).foldl (fun s id => dropOn s id line) s)

/-- A dirty line lies in a cache (orphan, where the cache is disabled). -/
def anyDirty (s : State) (id : CacheId) : Bool :=
  (mrange s.caches.sets (id.ix * 4096) (id.ix * 4096 + 4096)).any fun e => e.2.any (·.dirty)

/-- The lines of a cache. -/
def linesIn (s : State) (id : CacheId) : List CLine :=
  (mrange s.caches.sets (id.ix * 4096) (id.ix * 4096 + 4096)).flatMap (·.2)

/-- Empty a cache and forget what was swept. -/
def emptyCache (s : State) (id : CacheId) : State :=
  { s with caches := { s.caches with sets := mdrop s.caches.sets (id.ix * 4096) (id.ix * 4096 + 4096) } }

/-- Forget what has been swept in a cache. -/
def unsweep (s : State) (id : CacheId) : State :=
  { s with caches := { s.caches with swept := mdrop s.caches.swept (id.ix * 4096) (id.ix * 4096 + 4096),
                                     sweptSets := mset 0 s.caches.sweptSets id.ix 0 } }

/-- Set the ORPHAN bit of a cache's register (R238). -/
def setOrphan (s : State) (id : CacheId) (b : Bool) : State :=
  match id with
  | .l1d c => s.setB F.L3_CCTL_ORPHAN c.val b
  | .victim c => s.setB F.L3_CCTL_ORPHAN c.val b
  | .l2 n => s.setB F.L3_L2CTL_ORPHAN n.val b
  | .l3 x => s.setB F.L3_SLCTL_ORPHAN x.val b
  | .l1i _ => s

/-- The cache with its partner: the L1 data and victim caches of a core count together. -/
def withPartner : CacheId → List CacheId
  | .l1d c => [.l1d c, .victim c]
  | .victim c => [.l1d c, .victim c]
  | id => [id]

/-- Recompute ORPHAN after lines have left a disabled cache. -/
def refreshOrphan (s : State) (id : CacheId) : State :=
  setOrphan s id (!cacheOn s id && (withPartner id).any (anyDirty s))

/-- STATUS.DIRTY_ORPHAN of core `c` (R238): its L1 data or victim cache, its cluster's L2 or an L3 slice. -/
def dirtyOrphan (s : State) (c : Fin 16) : Bool :=
  s.fb F.L3_CCTL_ORPHAN c.val || s.fb F.L3_L2CTL_ORPHAN (clusterOf c).val
    || (List.range 8).any fun x => s.fb F.L3_SLCTL_ORPHAN x

end Sys2Proof.Machine
end

