-- ==== Sys2Proof/Machine/ResetOps.lean ====
section
/-! DEFINITION. Operations that start a warm reset (spec 03 R61 to R65) and put the DRAM into self-refresh (19 R413). -/

namespace Sys2Proof.Machine

/-- A record for which the spec states a class and neither source nor code: both are free values (log 8). -/
def dregsOpen (s : State) (cls : Nat) : State :=
  let (k, s) := s.takeFree
  let (k2, s) := s.takeFree
  dregsFree s (Config.freeNat k % 2 ^ 16) cls (Config.freeNat k2 % 2 ^ 16)

/-- Every trained channel that is not being initialised drains its write queue and enters self-refresh; its domain is
then in RET (19 R413). -/
def selfRefreshEntry (s : State) : State :=
  (List.range 4).foldl (fun s c =>
    if bitAt (s.fl F.MC_STAT_TRAINED 0) c && !s.dram.inInit.getLsbD c then
      let s := drainWrites s c
      { (s.setF F.PW_DOM_STATE (28 + c) 1) with dram := { s.dram with selfRef := s.dram.selfRef ||| (1#4 <<< c) } }
    else s) s

/-- Trace capture stops (23 R484). -/
def traceStop (s : State) : State := s.setB F.TR_STAT_ACTIVE 0 false

/-- The KT_RSTCAUSE bit of a reset kind: 0 POR, 1 BOR, 2 SWR, 3 WDR, 4 TFR, 5 DBR. -/
def causeBit (s : State) (kind : Nat) : State :=
  match kind with
  | 0 => s.setB F.KT_RSTCAUSE_POR 0 true
  | 1 => s.setB F.KT_RSTCAUSE_BOR 0 true
  | 2 => s.setB F.KT_RSTCAUSE_SWR 0 true
  | 3 => s.setB F.KT_RSTCAUSE_WDR 0 true
  | 4 => s.setB F.KT_RSTCAUSE_TFR 0 true
  | _ => s.setB F.KT_RSTCAUSE_DBR 0 true

/-- Class of the record of a warm reset (R62): Info for SWR and DBR, Error for WDR, Fatal for TFR. -/
def warmClass (kind : Nat) : Nat := if kind = 3 then clsError else if kind = 4 then clsFatal else clsInfo

/-- Base of the private addresses of the Infusers and the Caddy (16 R342; 20 R418). -/
def privBase : Nat := 2 ^ 36

/-- The Caddy is held in reset; it starts again from its ROM. A COUNTERSIGN in progress ends, and the private SRAM loses
its contents (R66, R67). -/
def caddyToReset (s : State) : State :=
  let k := s.cpu .caddy
  let s := s.setCpu .caddy { ({} : Cpu) with epochNo := k.epochNo }
  let s := (List.range 32).foldl (fun s i => s.setB F.IF_STAT_CSIGN i false) s
  { (s.setReady 43 false) with mem := s.mem.filter (fun e => Nat.blt e.1 privBase),
                               caddy := { s.caddy with phase := .inReset, second := false, recovery := [], formerR0 := [],
                                                       nonces := [], strobes := 0 } }

/-- KT_CADDYRST at a reset of the part. -/
def caddyRegsReset (s : State) : State :=
  [F.KT_CADDYRST_SLOT, F.KT_CADDYRST_FAILED, F.KT_CADDYRST_HELD, F.KT_CADDYRST_RESTARTS, F.KT_CADDYRST_LASTCAUSE].foldl
    (fun s f => s.setF f 0 0) s

/-- A cause of kind `kind` is detected now. Causes detected while the Kettle's time stands are detected in one KCLK cycle
(R63; log 75). -/
def noteCause (s : State) (kind : Nat) : State :=
  let same := if s.warm.since = s.time then s.warm.causes else 0
  { (causeBit s kind) with warm := { s.warm with causes := same ||| (1#6 <<< kind), since := s.time } }

/-- A warm reset of kind `kind` becomes the one that runs: LAST, TFR_CORE and its Dregs record. -/
def warmKind (s : State) (kind core : Nat) : State :=
  let s := s.setF F.KT_RSTCAUSE_LAST 0 kind
  let s := { s with warm := { s.warm with active := true, kind := kind, hold := false, started := s.time } }
  if kind = 4 then dregs (s.setF F.KT_RSTCAUSE_TFR_CORE 0 core) 3 (warmClass kind) (0x50 + kind) core
  else dregsFree s 3 (warmClass kind) (0x50 + kind)

/-- The record of the warm reset that began at this instant, where it still waits in the pending queue, gives way. -/
def dropWarmRecord (s : State) : State :=
  { s with dregs := { s.dregs with queue := s.dregs.queue.filter fun r =>
      !(r.source == 3 && r.code == 0x50 + s.warm.kind && r.time == fabCopy s) } }

/-- A warm cause is detected (R62 to R65): its bit is set; under a POR or BOR that is all. Unless a warm reset is in progress, the outputs are driven
safe and HELD is set, the record is written, the DRAM enters self-refresh and trace stops. Of causes of one KCLK cycle the
first in the order DBR, TFR, WDR, SWR, which is the greatest number, is the kind that runs. In the carried state only the
Caddy is reset: R65 names no change of LAST or COUNT and no record there, and the model makes none (log 76). -/
def warmStart (s : State) (kind core : Nat) : State :=
  let s := noteCause s kind
  if s.sup.por || s.sup.bor then s
  else if s.warm.active then
    if !s.warm.hold && s.warm.started = s.time && s.warm.kind < kind then warmKind (dropWarmRecord s) kind core else s
  else if s.fb F.KT_SUPPLY_CARRIED 0 then caddyRegsReset (caddyToReset s)
  else
    let s := (s.setB F.KT_SAFECTL_HELD 0 true).setB F.KT_SAFECTL_ARMED 0 false
    traceStop (selfRefreshEntry (warmKind (s.bumpF F.KT_RSTCAUSE_COUNT 0) kind core))

/-- STATUS code RESTARTED of a mailbox response (16 R360). -/
def mbRestarted : Nat := 6

/-- Local offset of mailbox buffer `c`. -/
def mbBuf (c : Nat) : Nat := 0xE00301000 + 0x1000 * c

/-- Channel `c` enters DONE (16 R351). -/
def mbDone (s : State) (c : Nat) : State :=
  let s := s.setF F.MB_STAT_STATE c 3
  if s.fb F.MB_CTL_IRQ c then raiseSource s (208 + c) else s

/-- The Kettle restarts the Caddy alone (16 R362, R363); `cause` is KT_CADDYRST.LASTCAUSE. -/
def caddyRestart (s : State) (cause : Nat) : State :=
  let s := caddyToReset s
  let s := dregsFree s 0x100 clsError 0x600
  let s := (s.setF F.KT_CADDYRST_LASTCAUSE 0 cause).bumpF F.KT_CADDYRST_RESTARTS 0
  let s := s.setB F.KT_CADDYRST_FAILED 0 (cause == 3)
  let s := (List.range 8).foldl (fun s c =>
    let busy := s.fl F.MB_STAT_STATE c == 2
    let s := (s.setB F.MB_STAT_RESTART c true).bumpF F.MB_STAT_RESTARTS c
    if busy then mbDone (writeBytes s (mbBuf c + 8) 2 mbRestarted) c else s) s
  let s := raiseSource s 216
  let times := (s.time :: s.caddy.restartTimes).filter fun t => s.time < t + 10000000000
  let s := { s with caddy := { s.caddy with restarted := true, restartTimes := times } }
  if 5 ≤ times.length then
    let s := dregsFree (s.setB F.KT_CADDYRST_HELD 0 true) 0x100 clsFatal 0x601
    { s with caddy := { s.caddy with phase := .heldOff } }
  else s

end Sys2Proof.Machine
end

