-- ==== Sys2Proof/Machine/Trans.lean ====
section
/-! DEFINITION. Address translation (spec 09), the machine level's addresses (04 R79), and the store buffer (10 R218,
R220, R221). -/

namespace Sys2Proof.Machine

/-- A synchronous exception: its cause, its SUB, and EADDR where the cause writes one (08 R170, R171). -/
structure Exc where
  cause : Nat
  sub : Nat
  eaddr : Option Word := none
  deriving DecidableEq, Repr

/-- Causes (08 R170). -/
def cIllegal : Nat := 0x01
def cMisaligned : Nat := 0x02
def cBusError : Nat := 0x03
def cTranslation : Nat := 0x04
def cPermission : Nat := 0x05
def cRing : Nat := 0x06
def cTrap : Nat := 0x07
def cFp : Nat := 0x08
def cArith : Nat := 0x09
def cCollision : Nat := 0x0A
def cDebug : Nat := 0x0B
def cInterrupt : Nat := 0x0C
def cDouble : Nat := 0x0D

/-- Kinds of access as SUB[9:8] codes them. -/
def aFetch : Nat := 0
def aLoad : Nat := 1
def aStore : Nat := 2
def aAtomic : Nat := 3

/-- SUB of an access-class cause (R171): subcode, access, detail. -/
def subOf (code access detail : Nat) : Nat := code % 256 + access % 4 * 256 + detail % 64 * 1024

/-- A BUS_ERROR at `va`. -/
def busError (code access : Nat) (va : Word) : Exc := ⟨cBusError, subOf code access 0, some va⟩

/-- MISALIGNED at `va`. -/
def misaligned (access : Nat) (va : Word) : Exc := ⟨cMisaligned, subOf 0 access 0, some va⟩

/-- The outcome of a step inside an instruction. -/
inductive XRes (α : Type) where
  | ok (a : α) (s : State)
  | exc (e : Exc) (s : State)
  | stall (s : State)

/-- A failed access of a core as an exception. -/
def Res.toX {α : Type} (r : Res α) (access : Nat) (va : Word) : XRes α :=
  match r with
  | .ok a s => .ok a s
  | .fail e s => .exc (busError e access va) s
  | .stall s => .stall s

/-- Then. -/
def XRes.bind {α β : Type} (r : XRes α) (f : α → State → XRes β) : XRes β :=
  match r with
  | .ok a s => f a s
  | .exc e s => .exc e s
  | .stall s => .stall s

/-! ### Places -/

/-- This device's node ID; 0x3FFFE while unassigned (01 R23). -/
def ownNode (s : State) : Nat := s.fl F.NG_NODEID_ID 0

/-- The place of a physical address: a local offset below 2^36, or (node + 1) × 2^36 + offset. None: node 0x3_FFFE
(R22, R23, R202). -/
def placeOf (s : State) (node off : Nat) : Option Nat :=
  if node = 0x3FFFE then none
  else if node = 0x3FFFF ∨ node = ownNode s then some off
  else some ((node + 1) * 2 ^ 36 + off)

/-- A place is on this device. -/
def isLocal (place : Nat) : Bool := place < 2 ^ 36

/-- Node and offset of a remote place. -/
def placeNode (place : Nat) : Nat := place / 2 ^ 36 - 1
def placeOff (place : Nat) : Nat := place % 2 ^ 36

/-- A machine-level address (04 R79): bits [53:36] zero name this device, bits [63:54]
are ignored (log 14); the type follows from the target. -/
def machineAddr (s : State) (a : Word) : Option XAddr :=
  let node := a.toNat / 2 ^ 36 % 2 ^ 18
  let off := a.toNat % 2 ^ 36
  match placeOf s (if node = 0 then 0x3FFFF else node) off with
  | none => none
  | some p =>
    if isLocal p then
      (match target s p with
       | .reg => some ⟨p, .deviceStrict⟩
       | .hole => if 0xE00000000 ≤ off ∧ off < 0xE07000000 then some ⟨p, .deviceStrict⟩ else some ⟨p, .normalWb⟩
       | _ => some ⟨p, .normalWb⟩)
    else some ⟨p, .remoteNc⟩

/-! ### Mirrored regions -/

/-- Values of MR_STAT.ROLE. -/
def rStale : Nat := 0
def rStandby : Nat := 1
def rInSync : Nat := 2
def rPrimary : Nat := 3
def rConflict : Nat := 4
def rCarried : Nat := 5

def mrRole (s : State) : Nat := s.fl F.MR_STAT_ROLE 0
def mrOn (s : State) : Bool := s.fb F.MR_CFG_EN 0

/-- The valid regions: first line and number of lines. -/
def mrRegions (s : State) : List (Nat × Nat) :=
  (List.range 8).filterMap fun r =>
    if s.fb F.MR_REGION_VALID r then some (s.fl F.MR_REGION_BASE r * 2 ^ 15, s.fl F.MR_REGION_SIZE r * 2 ^ 15) else none

/-- The line lies in a mirrored region. -/
def inMirror (s : State) (line : Nat) : Bool := (mrRegions s).any fun r => r.1 ≤ line && line < r.1 + r.2

/-- A write of a mirrored line by another than the mirror unit is refused: the device is not PRIMARY (15 R329). A primary
that has received HANDOVER_ACK is refused from the next tick on (R334). -/
def mirrorDenied (s : State) (line : Nat) : Bool :=
  mrOn s && mrRole s != rPrimary && s.mir.handover != 3 && inMirror s line

/-- An access to a mirrored line stalls: the journal is being undone (15 R335). -/
def mirrorStalls (s : State) (line : Nat) : Bool := s.fb F.MR_STAT_ROLLBACK 0 && inMirror s line

/-! ### What a target decides -/

/-- Local offset of the registers of Infuser `i`, and of its SRAM. -/
def infRegs (i : Fin 32) : Nat := 0xE02010000 + 0x1000 * i.val
def infSram (i : Fin 32) : Nat := 0xE02100000 + 0x10000 * i.val

def isDevice (t : RType) : Bool := t == .deviceStrict || t == .devicePosted
def isRemoteType (t : RType) : Bool := t == .remoteNc || t == .remoteWt

/-- The place is the processor's own: an Infuser's SRAM or image memory, an address of the Caddy above the local map. -/
def isPrivate (s : State) (p : Proc) (x : XAddr) : Bool :=
  match p with
  | .core _ => false
  | .infuser _ => x.rtype == .normalWb && target s x.place == .reg
  | .caddy => privBase ≤ x.place

/-- The part of its own memory that a processor cannot write: parameters and output image, the Caddy's ROM (log 36). -/
def ownReadOnly (p : Proc) (place : Nat) : Bool :=
  match p with
  | .infuser i => place < infRegs i + 0x800 && infRegs i ≤ place
  | _ => place < privBase + 0x20000

/-- A BUS_ERROR decided before the access: SIZE, TYPE, NO_TARGET (R28 to R30, R105, 15 R329). -/
def checkPlace (s : State) (p : Proc) (x : XAddr) (n access : Nat) : Option Nat :=
  let atomic := access == aAtomic
  let writes := access == aStore || atomic
  let uncommon := isDevice x.rtype || isRemoteType x.rtype
  if isPrivate s p x then
    (if writes && ownReadOnly p x.place then some beNoTarget else if atomic && isDevice x.rtype then some beType else none)
  else if !isLocal x.place then (if atomic then some beType else none)
  else
    match target s x.place with
    | .reg =>
      if n ≠ 4 && n ≠ 8 then some beSize
      else if isDevice x.rtype && !atomic then none
      else some beType
    | .hole => if atomic && uncommon then some beType else some beNoTarget
    | .rom => if atomic && uncommon then some beType else if writes then some beNoTarget else none
    | _ =>
      if atomic && uncommon then some beType
      else if writes && mirrorDenied s (x.place / 64) then some beType
      else none

/-! ### Tables and TLBs -/

/-- Region type of a TYPE field (09 R203). -/
def rtypeOf (n : Nat) : RType :=
  match n with
  | 0 => .normalWb
  | 1 => .normalWt
  | 2 => .normalNc
  | 3 => .mirroredWb
  | 4 => .deviceStrict
  | 5 => .devicePosted
  | 6 => .remoteNc
  | _ => .remoteWt

/-- An entry with V = 1 is malformed at `level` (R196, R197). -/
def malformed (e level : Nat) : Bool :=
  if bitAt e 1 then level == 3 || slice e 7 2 != 0 || slice e 63 36 != 0
  else level == 0 || (level == 2 && slice e 20 12 != 0) || (level == 1 && slice e 29 12 != 0)

/-- Bits of page offset of a leaf at a level: 30, 21 or 12. -/
def leafBits (level : Nat) : Nat := 39 - 9 * level

/-- The TLB entry of a leaf (R208). -/
def leafEntry (e level va : Nat) (part : BitVec 6) (asid : BitVec 16) : TlbEntry :=
  let b := leafBits level
  { vpage := va % 2 ^ 48 / 2 ^ b, bits := b, part := part, asid := asid, glob := bitAt e 6,
    out := slice e 53 12 * 4096, ring := BitVec.ofNat 2 (slice e 3 2), w := bitAt e 4, x := bitAt e 5,
    xeq := bitAt e 7, rtype := rtypeOf (slice e 56 54), ptag := BitVec.ofNat 6 (slice e 62 57), pany := bitAt e 63 }

/-- The entry maps the address and matches the partition and the address space (R208). -/
def tlbHit (va : Nat) (part : BitVec 6) (asid : BitVec 16) (t : TlbEntry) : Bool :=
  va % 2 ^ 48 / 2 ^ t.bits == t.vpage && t.part == part && (t.glob || t.asid == asid)

/-- Two entries overlap and match the same lookups (R209). -/
def tlbOverlap (a b : TlbEntry) : Bool :=
  let m := max a.bits b.bits
  a.vpage * 2 ^ a.bits / 2 ^ m == b.vpage * 2 ^ b.bits / 2 ^ m && a.part == b.part
    && (a.glob || b.glob || a.asid == b.asid)

/-- Fill a fully associative TLB of 48 entries, round-robin (R208, R209). DESIGN CHOICE (log 82): where a TLBI or an
overlap has freed entries, a fill takes a free one; a full TLB replaces its oldest fill. -/
def fillTlb1 (ts : List TlbEntry) (t : TlbEntry) : List TlbEntry :=
  let ts := ts.filter fun x => !tlbOverlap x t
  (if ts.length < 48 then ts else ts.drop 1) ++ [t]

/-- The set of the L2 TLB in which an entry lies: the size's index bits (R208). -/
def tlb2Set (t : TlbEntry) : Nat := t.vpage % 256

/-- Remove the first entry that satisfies `p`. -/
def dropFirst (p : TlbEntry → Bool) : List TlbEntry → List TlbEntry
  | [] => []
  | t :: ts => if p t then ts else t :: dropFirst p ts

/-- Fill the 8-way L2 TLB, round-robin in each set, a free way first (DESIGN CHOICE, log 82). -/
def fillTlb2 (ts : List TlbEntry) (t : TlbEntry) : List TlbEntry :=
  let ts := ts.filter fun x => !tlbOverlap x t
  let same := fun (x : TlbEntry) => tlb2Set x == tlb2Set t
  (if (ts.filter same).length < 8 then ts else dropFirst same ts) ++ [t]

/-- An 8-byte walk read at the cluster's L2 (R199): coherent with the caches, not with any store buffer; DRAM,
scratch SRAM or boot ROM only. A mirrored line that is being undone stalls it (15 R335). -/
def walkRead (s : State) (c : Fin 16) (part : Nat) (off : Nat) : Res Nat :=
  match target s off with
  | .reg => .fail beType s
  | .hole => .fail beNoTarget s
  | _ =>
    let line := off / 64
    let n := clusterOf c
    if mirrorStalls s line then .stall s
    else
    coreRequest s c part 4 8 off fun s =>
    let own := match dirtyL1 s line (clusterCores n) with
      | some x => some x.data
      | none => (find s (.l2 n) line).map (·.data)
    match own with
    | some d => .ok (cut d (off % 64) 8) (fillL2 s n (some part) line d false)
    | none =>
      match missGate s c line with
      | .fail e s => .fail e s
      | .stall s => .stall s
      | .ok _ s =>
        let s := l3Lookup (if cacheOn s (.l2 n) then countCore s 0x05 c else s) (some part) line
        match newestUsed s line with
        | some (d, s) => .ok (cut d (off % 64) 8) (fillL2 s n (some part) line d false)
        | none =>
          match memAdmit s 0 (some part) 0 (line * 64) 64 with
          | .ok _ s =>
            (match readLine s (some part) (line * 64) with
             | .ok d s => .ok (cut d (off % 64) 8) (fillL2 (l3Put s (some part) line d false) n (some part) line d false)
             | .fail e s => .fail e s
             | .stall s => .stall s)
          | .fail e s => .fail e s
          | .stall s => .stall s

/-- The walk from `level` (R198): `n` levels are left. -/
def walk (s : State) (c : Fin 16) (part : BitVec 6) (asid : BitVec 16) (va : Word) (access : Nat) :
    Nat → Nat → Nat → XRes TlbEntry
  | 0, level, _ => .exc ⟨cTranslation, subOf level access 1, some va⟩ s
  | n + 1, level, t =>
    let hi := 47 - 9 * level
    match walkRead s c part.toNat (t + 8 * slice va.toNat hi (hi - 8)) with
    | .fail e s => .exc ⟨cBusError, e + access * 256 + level * 1024 + 2 ^ 15, some va⟩ s
    | .stall s => .stall s
    | .ok e s =>
      if !bitAt e 0 then .exc ⟨cTranslation, subOf level access 0, some va⟩ s
      else if malformed e level then .exc ⟨cTranslation, subOf level access 1, some va⟩ s
      else if bitAt e 1 then walk s c part asid va access n (level + 1) (slice e 35 12 * 4096)
      else .ok (leafEntry e level va.toNat part asid) s

/-- `s` with what an attempt that must wait leaves: the wakes it asked for, and the trace's hold. -/
def keepWake (s t : State) : State := { s with pwr := t.pwr, trace := { s.trace with held := t.trace.held } }

/-- Bits [63:48] all equal bit 47 (R194). -/
def canonical (va : Word) : Bool := va.toNat / 2 ^ 47 = 0 || va.toNat / 2 ^ 47 = 2 ^ 17 - 1

/-- The leaf that maps `va` for core `c`: from the L1 TLB of the side, from the L2 TLB, or by a walk that fills both
(R198, R200, R208). -/
def lookup (s : State) (c : Fin 16) (va : Word) (access : Nat) : XRes TlbEntry :=
  let p := Proc.core c
  let k := s.cpu p
  let part := BitVec.ofNat 6 k.partition.toNat
  let asid := BitVec.ofNat 16 k.asid.toNat
  let fetch := access == aFetch
  if !canonical va then .exc ⟨cTranslation, subOf 4 access 0, some va⟩ s
  else
    match (if fetch then k.tlbI else k.tlbD).find? (tlbHit va.toNat part asid) with
    | some t => .ok t s
    | none =>
      let fill1 := fun (s : State) (t : TlbEntry) =>
        let k := s.cpu p
        s.setCpu p (if fetch then { k with tlbI := fillTlb1 k.tlbI t } else { k with tlbD := fillTlb1 k.tlbD t })
      match k.tlb2.find? (tlbHit va.toNat part asid) with
      | some t => .ok t (fill1 s t)
      | none =>
        match walk (countCore s 0x06 c) c part asid va access 4 0 (slice k.ptroot.toNat 35 12 * 4096) with
        | .ok t s =>
          let k := s.cpu p
          .ok t (fill1 (s.setCpu p { k with tlb2 := fillTlb2 k.tlb2 t }) t)
        | .stall t => .stall (keepWake s t)
        | r => r

/-- The permission check of R201: none, or the PERMISSION subcode. -/
def checkPerm (part : BitVec 6) (t : TlbEntry) (access : Nat) (ring : BitVec 2) : Option Nat :=
  if !t.pany && t.ptag != part then some 4
  else if ring > t.ring then some 1
  else if access = aFetch && (!t.x || (t.xeq && ring != t.ring)
      || t.rtype == .deviceStrict || t.rtype == .devicePosted || t.rtype == .remoteNc) then some 3
  else if (access = aStore || access = aAtomic) && !t.w then some 2
  else none

/-- Translate `va` for core `c` at `ring`, with the checks of R201 and R202. `chk` is the kind the permission check
uses (a load for SEND, IFLUSH and CACHE), `access` the kind that SUB records. -/
def translateAs (s : State) (c : Fin 16) (va : Word) (chk access : Nat) (ring : BitVec 2) : XRes XAddr :=
  (lookup s c va access).bind fun t s =>
    let part := BitVec.ofNat 6 (s.cpu (.core c)).partition.toNat
    match checkPerm part t chk ring with
    | some e => .exc ⟨cPermission, subOf e access 0, some va⟩ s
    | none =>
      let pa := t.out + va.toNat % 2 ^ t.bits
      match placeOf s (pa / 2 ^ 36) (pa % 2 ^ 36) with
      | none => .exc (busError beNoTarget access va) s
      | some p =>
        if !isLocal p && t.rtype != .remoteNc && t.rtype != .remoteWt then .exc (busError beType access va) s
        else .ok ⟨p, t.rtype⟩ s

/-- The ring at which accesses translate: ring 0 in bank S (08 R177), else STATUS.RING. -/
def accessRing (st : Status) : BitVec 2 := if st.bank = 8 then 0 else st.ring

/-- The address of an access of core `c`: translated at rings 0 to 3, physical at the machine level (R79). -/
def resolveAs (s : State) (c : Fin 16) (va : Word) (chk access : Nat) : XRes XAddr :=
  let st := (s.cpu (.core c)).st
  if st.ml then
    match machineAddr s va with
    | some x => .ok x s
    | none => .exc (busError beNoTarget access va) s
  else translateAs s c va chk access (accessRing st)

/-! ### The store buffer -/

/-- The type lets stores merge (09 R203). -/
def mergesType (t : RType) : Bool := t != .deviceStrict && t != .devicePosted

/-- Processors whose store buffers never merge (10 R221): the Caddy, and an Infuser that runs a safety-class program. -/
def neverMerges (s : State) : Proc → Bool
  | .core _ => false
  | .infuser i => s.fb F.IF_STAT_SAFETY i.val
  | .caddy => true

/-- A store enters the buffer: it merges into the youngest entry of the same line and type that has not begun to drain,
or takes a new entry; none while the 16 entries are taken (10 R220). `line` is the place of the line. DESIGN CHOICE
(log 81): R220 gives 16 entries to the cores and to Infusers outside the safety class; the Caddy's buffer and that of an
Infuser with a safety-class program have 16 entries here too. -/
def sbPush (s : State) (p : Proc) (line : Nat) (rtype : RType) (st : SbStore) : Option State :=
  let k := s.cpu p
  let fresh : Option State :=
    if k.sb.length < 16 then some (s.setCpu p { k with sb := k.sb ++ [{ line, rtype, stores := [st] }] }) else none
  match k.sb.getLast? with
  | some e =>
    if e.line = line && e.rtype == rtype && !e.begun && mergesType rtype && !neverMerges s p then
      some (s.setCpu p { k with sb := k.sb.dropLast ++ [{ e with stores := e.stores ++ [st] }] })
    else fresh
  | none => fresh

/-- The newest buffered value of the byte at `off` of a line. -/
def storesByte (off : Nat) : List SbStore → Option Nat
  | [] => none
  | st :: sts =>
    match storesByte off sts with
    | some b => some b
    | none => if st.off ≤ off && off < st.off + st.size then some (cut st.val (off - st.off) 1) else none

/-- The newest buffered value of the byte at place `a` (never from Device entries: R218, R223). -/
def sbByte (a : Nat) : List SbEntry → Option Nat
  | [] => none
  | e :: es =>
    match sbByte a es with
    | some b => some b
    | none => if e.line = a / 64 && mergesType e.rtype then storesByte (a % 64) e.stores else none

/-- How the store buffer serves a load (R218). -/
inductive Fwd where
  | none
  | all (v : Nat)
  | part
  deriving DecidableEq, Repr

/-- The bytes of a load as the store buffer holds them: all, none or some. -/
def sbForward (sb : List SbEntry) (a : Nat) : Nat → Fwd
  | 0 => .all 0
  | n + 1 =>
    let rest := sbForward sb (a + 1) n
    match sbByte a sb, rest with
    | some b, .all v => .all (b + 256 * v)
    | some _, _ => .part
    | none, .none => .none
    | none, .all _ => if n = 0 then .none else .part
    | none, .part => .part

/-- A Device-Posted entry waits in the buffer (R223). -/
def sbPosted (sb : List SbEntry) : Bool := sb.any fun e => e.rtype == .devicePosted

end Sys2Proof.Machine
end

