-- ==== Sys2Proof/Machine/Proc.lean ====
section
/-! DEFINITION. Processors: registers, STATUS as a word, entries and exceptions (spec 04 R83 to R91, 08 R170 to R187),
the lazy FP frame (08 R180 to R183), completion with the loop end check (05 R110), and the one frame in which every
instruction runs. -/

namespace Sys2Proof.Machine

/-! ### Registers -/

/-- The bank in use: STATUS.BANK of a core; an Infuser and the Caddy have one bank (20 R414, 16 R342). -/
def bankInUse (p : Proc) (k : Cpu) : Nat :=
  match p with
  | .core _ => k.st.bank.toNat
  | _ => 0

namespace Cpu

/-- General register `r` of bank `b`; g31 reads as zero (04 R72). -/
def rd (k : Cpu) (b : Nat) (r : RegNo) : Word := if r = 31 then 0 else mget 0 k.g (32 * b + r.val)

/-- Write general register `r` of bank `b`; a write to g31 is ignored. -/
def wr (k : Cpu) (b : Nat) (r : RegNo) (v : Word) : Cpu :=
  if r = 31 then k else { k with g := mset 0 k.g (32 * b + r.val) v }

/-- v register `r`. -/
def rdV (k : Cpu) (r : RegNo) : VWord := mget 0 k.v r.val

def wrV (k : Cpu) (r : RegNo) (v : VWord) : Cpu := { k with v := mset 0 k.v r.val v }

/-- The saved state of bank `b`. -/
def bank (k : Cpu) (b : Nat) : Bank := mget {} k.banks b

def setBank (k : Cpu) (b : Nat) (x : Bank) : Cpu := { k with banks := mset {} k.banks b x }

end Cpu

namespace State

/-- General register `r` of the bank in use of processor `p`. -/
def g (s : State) (p : Proc) (r : RegNo) : Word := (s.cpu p).rd (bankInUse p (s.cpu p)) r

/-- Write general register `r` of the bank in use. -/
def setG (s : State) (p : Proc) (r : RegNo) (v : Word) : State :=
  s.setCpu p ((s.cpu p).wr (bankInUse p (s.cpu p)) r v)

def gv (s : State) (p : Proc) (r : RegNo) : VWord := (s.cpu p).rdV r

def setV (s : State) (p : Proc) (r : RegNo) (v : VWord) : State := s.setCpu p ((s.cpu p).wrV r v)

/-- Change STATUS of a processor. -/
def onSt (s : State) (p : Proc) (f : Status → Status) : State :=
  let k := s.cpu p
  s.setCpu p { k with st := f k.st }

end State

/-! ### STATUS as a word -/

/-- STATUS as MFC reads it on a core (04, STATUS table). -/
def statusWord (st : Status) (orphan : Bool) : Word :=
  BitVec.ofNat 64 (b2n st.ie + st.ipl.toNat * 2 + b2n st.exl * 2 ^ 4 + st.ring.toNat * 2 ^ 5 + b2n st.ov * 2 ^ 7
    + b2n st.dz * 2 ^ 8 + b2n st.ovt * 2 ^ 9 + b2n st.dzt * 2 ^ 10 + b2n st.fpe * 2 ^ 11 + b2n st.fpd * 2 ^ 12
    + b2n orphan * 2 ^ 13 + b2n st.legacy * 2 ^ 14 + b2n st.ml * 2 ^ 15 + st.bank.toNat * 2 ^ 16 + st.live.toNat * 2 ^ 20)

/-- STATUS of an Infuser or the Caddy: EXL, OV, DZ, OVT and DZT only (20 R414). -/
def statusWordI (st : Status) : Word :=
  BitVec.ofNat 64 (b2n st.exl * 2 ^ 4 + b2n st.ov * 2 ^ 7 + b2n st.dz * 2 ^ 8 + b2n st.ovt * 2 ^ 9 + b2n st.dzt * 2 ^ 10)

/-- STATUS with any pending IE or IPL write applied (R87). -/
def withPending (k : Cpu) : Status :=
  { k.st with ie := k.pendIe.getD k.st.ie, ipl := k.pendIpl.getD k.st.ipl }

/-- The pending write has been applied or discarded. -/
def clearPending (k : Cpu) : Cpu := { k with pendIe := none, pendIpl := none }

/-- OV, DZ, OVT, DZT and FPD are 0 after an entry (R83). -/
def entryFlags (st : Status) : Status :=
  { st with ov := false, dz := false, ovt := false, dzt := false, fpd := false, exl := true }

/-- Core cycles since reset: CYCLE without what MTC has written into it. ENTRY_CYC counts these (04 R85). -/
def cyclesRun (k : Cpu) : Word := k.cycle - k.cycleOff

/-! ### Entries -/

/-- MVEC.BASE as an address. -/
def mvecBase (k : Cpu) : Word := k.mvec &&& 0xFFFFFE000

/-- VECBASE.BASE as an address, sign-extended from bit 47. -/
def vecBase (k : Cpu) : Word := ((k.vecbase.truncate 48 : BitVec 48).signExtend 64) &&& ~~~(0xFFF : Word)

/-- The saved STATUS of R178: pending writes applied, FPD read as 1 while the bank in use owes its frame. -/
def savedStatus (k : Cpu) : Status :=
  let st := withPending k
  { st with fpd := st.fpd || (k.bank st.bank.toNat).owes }

/-- The machine-level entry (R83, R178): MEPC, MSTAT, bank M's EADDR; FRES and FWR of bank M are 0. -/
def enterMachine (s : State) (c : Fin 16) (offset : Word) (cause sub : Nat) (mepc : Word) (eaddr : Option Word) : State :=
  let p := Proc.core c
  let k := s.cpu p
  let b := k.bank 9
  let b := { b with epc := mepc &&& ~~~(3 : Word), saved := savedStatus k, savedOrphan := dirtyOrphan s c,
                    cause := BitVec.ofNat 8 cause, sub := BitVec.ofNat 16 sub, eaddr := eaddr.getD b.eaddr,
                    fres := false, fwr := false, entryAt := cyclesRun k }
  let st := { entryFlags k.st with bank := 9, ml := true, ie := false, live := k.st.live ||| 0x200 }
  let k := { clearPending (k.setBank 9 b) with st := st, pc := mvecBase k + offset, wait := .none }
  countCore (s.setCpu p k) 0x08 c

/-- A double fault (R185, R183): trigger 2, the record 0x0074, entry at MVEC offset 0x040. -/
def doubleFault (s : State) (c : Fin 16) (e : Exc) (mepc : Word) (frame : Bool) : State :=
  let k := s.cpu (.core c)
  let sub := e.cause + k.st.bank.toNat * 2 ^ 8 + b2n frame * 2 ^ 12
  let s := dregsFree s (0x40 + c.val) clsError 0x74
  raiseTrigger (enterMachine s c 0x040 cDouble sub mepc e.eaddr) 2 false

/-- A triple fault (R187): the core stops, a Fatal record with the cause and MEPC, and a TFR starts. DESIGN CHOICE (log
83): DETAIL holds the cause in its low half and MEPC in its high half. -/
def tripleFault (s : State) (c : Fin 16) (e : Exc) : State :=
  let p := Proc.core c
  let k := s.cpu p
  let s := s.setCpu p { k with run := .stopped, wait := .none }
  let s := dregs s (0x40 + c.val) clsFatal 0x75 (e.cause + (k.bank 9).epc.toNat * 2 ^ 64)
  warmStart s 4 c.val

/-- Reserve a lazy frame in the entered bank where the saved FPD is 1; an entry that reserves none clears FRES (R180).
A misaligned g30 is a double fault (R73, R183); DESIGN CHOICE (log 83): its EADDR is g30 before the subtraction and its
access kind a store. -/
def reserveFrame (s : State) (c : Fin 16) (b : Nat) (mepc : Word) : State :=
  let p := Proc.core c
  let k := s.cpu p
  let x := k.bank b
  if x.saved.fpd then
    let sp := k.rd b 30
    if sp.toNat % 16 ≠ 0 then doubleFault s c (misaligned aStore sp) mepc true
    else s.setCpu p ((k.wr b 30 (sp - 544)).setBank b { x with fres := true, fwr := false, owes := true, frameAt := sp - 544 })
  else s.setCpu p (k.setBank b { x with fres := false, fwr := false, owes := false })

/-- The stores of a lazy frame at `a` (R181): v0 to v31, FPSTAT, and the header last. -/
def frameStores (k : Cpu) (b : Nat) : List (Nat × Nat) :=
  (List.range 32).map (fun i => (16 + 16 * i, (mget 0 k.v i).toNat))
    ++ [(528, k.fpstat.toNat), (0, 1 + b * 16)]

/-- A store as it enters the buffer. -/
def storeOf (s : State) (p : Proc) (off size v : Nat) (va : Word) : SbStore :=
  match p with
  | .core c => { off, size, val := v, va, part := BitVec.ofNat 6 (partOf s c), ring := ringCode s c }
  | _ => { off, size, val := v, va }

/-- Put 16-byte stores of a frame into the store buffer, each with the faults of a store: its translation and what its
target decides (R182, R183). DESIGN CHOICE (log 84): a page of a Device type, through which no Normal store is made, is
a BUS_ERROR TYPE. -/
def pushFrame (s : State) (c : Fin 16) (a : Word) : List (Nat × Nat) → XRes Unit
  | [] => .ok () s
  | (o, v) :: rest =>
    let va := a + BitVec.ofNat 64 o
    (resolveAs s c va aStore aStore).bind fun x s =>
      if !mergesType x.rtype then .exc (busError beType aStore va) s
      else
        match checkPlace s (.core c) x 16 aStore with
        | some e => .exc (busError e aStore va) s
        | none =>
          if isLocal x.place && mirrorStalls s (x.place / 64) then .stall s
          else
            match sbPush s (.core c) (x.place / 64) x.rtype (storeOf s (.core c) (x.place % 64) 16 v va) with
            | some s => pushFrame s c a rest
            | none => .stall s

/-- Write the owed frame of the bank in use, if it owes one (R182, R154). A stall leaves nothing written. -/
def writeFrame (s : State) (c : Fin 16) : XRes Unit :=
  let p := Proc.core c
  let b := (s.cpu p).st.bank.toNat
  let x := (s.cpu p).bank b
  if x.owes then
    match pushFrame s c x.frameAt (frameStores (s.cpu p) b) with
    | .ok _ s =>
      let k := s.cpu p
      .ok () (s.setCpu p (k.setBank b { k.bank b with owes := false, fwr := true }))
    | .exc e s => .exc e s
    | .stall t => .stall (keepWake s t)
  else .ok () s

/-- A synchronous exception or a TRAP through a gate enters the bank in use (R83, R178): EPC, ESTAT, EADDR saved,
STATUS updated, pc at `vec`; a synchronous exception reserves a lazy frame. The bank's owed frame has been written. -/
def enterBank (s : State) (c : Fin 16) (cause sub : Nat) (epc : Word) (eaddr : Option Word) (ring : BitVec 2)
    (maskIe reserve : Bool) (vec : Word) : State :=
  let p := Proc.core c
  let k := s.cpu p
  let n := k.st.bank.toNat
  let b := k.bank n
  let b := { b with epc := epc &&& ~~~(3 : Word), saved := savedStatus k, savedOrphan := dirtyOrphan s c,
                    cause := BitVec.ofNat 8 cause, sub := BitVec.ofNat 16 sub, eaddr := eaddr.getD b.eaddr,
                    entryAt := cyclesRun k }
  let st := { entryFlags k.st with ring := ring, ie := k.st.ie && !maskIe }
  let k := { clearPending (k.setBank n b) with st := st, pc := vec, wait := .none }
  let s := countCore (s.setCpu p k) 0x08 c
  if reserve then reserveFrame s c n epc else s

/-- The vector of a synchronous exception in bank `b` (R174, R175). -/
def syncVector (k : Cpu) (b : Nat) : Word :=
  if b = 8 then mvecBase k + 0x1000 else vecBase k + BitVec.ofNat 64 (0x80 * b)

/-- What the entry of an exception ends: REMOTE_NACK of FENCE.C clears the record of refusals that it reports (10
R227), DEBUG STEP clears STEP (23 R475). -/
def raised (s : State) (c : Fin 16) (e : Exc) : State :=
  let p := Proc.core c
  let k := s.cpu p
  if e.cause = cBusError ∧ e.sub % 1024 = subOf beRemote aStore 0 then
    s.setCpu p { k with refusals := 0, refAddr := 0, refCode := 0 }
  else if e.cause = cDebug ∧ e.sub = 5 then (s.setB F.DB_CORECTL_STEP c.val false).setCpu p { k with stepBank := none }
  else s

/-- A synchronous exception of a core at `epc` (R83, R176, R178, R185, R187, R91). Where the owed frame must wait, the
exception is held until its entry or until an interrupt abandons it (R182). -/
def coreExc (s : State) (c : Fin 16) (e : Exc) (epc : Word) : State :=
  let k := s.cpu (.core c)
  if k.st.ml then
    if k.st.exl then tripleFault s c e else enterMachine (raised s c e) c 0 e.cause e.sub epc e.eaddr
  else if k.st.exl then doubleFault (raised s c e) c e epc false
  else if k.st.legacy && k.st.ring == 3 then enterMachine (raised s c e) c 0 e.cause e.sub epc e.eaddr
  else
    match writeFrame s c with
    | .exc f s => doubleFault s c f epc true
    | .stall s => s.setCpu (.core c) { s.cpu (.core c) with wait := .entry e.cause e.sub e.eaddr }
    | .ok _ s =>
      enterBank (raised s c e) c e.cause e.sub epc e.eaddr 0 false true (syncVector (s.cpu (.core c)) k.st.bank.toNat)

/-- A processor that has one bank saves EPC, ESTAT and EADDR and sets EXL (20 R415). -/
def enterOne (s : State) (p : Proc) (e : Exc) (epc vec : Word) : State :=
  let k := s.cpu p
  let b := k.bank 0
  let b := { b with epc := epc &&& ~~~(3 : Word), saved := k.st, cause := BitVec.ofNat 8 e.cause,
                    sub := BitVec.ofNat 16 e.sub, eaddr := e.eaddr.getD b.eaddr, entryAt := cyclesRun k }
  s.setCpu p { k.setBank 0 b with st := { k.st with exl := true }, pc := vec, wait := .none }

/-- An Infuser stops: STATE, and HASHV and SAFETY clear (20 R427 to R429). -/
def infuserStop (s : State) (i : Fin 32) (state : Nat) : State :=
  let p := Proc.infuser i
  let s := s.setCpu p { s.cpu p with run := .stopped, wait := .none }
  ((s.setF F.IF_STAT_STATE i.val state).setB F.IF_STAT_HASHV i.val false).setB F.IF_STAT_SAFETY i.val false

/-- A fault of Infuser `i` (20 R415, R428). -/
def infuserExc (s : State) (i : Fin 32) (e : Exc) (epc : Word) : State :=
  let p := Proc.infuser i
  if (s.cpu p).st.exl then
    let s := infuserStop s i 3
    let s := (s.setF F.IF_STAT_CAUSE i.val e.cause).setF F.IF_STAT_PC i.val (epc.toNat % 2 ^ 16)
    dregsFree (raiseSource s (527 + 16 * i.val)) (0x300 + i.val) clsError 0x800
  else enterOne s p e epc (0x1000000000 + BitVec.ofNat 64 (s.fl F.IF_ENTRY_VEC i.val))

/-- A fault of the Caddy: with EXL set it stops and the Kettle restarts it (16 R342, R362); otherwise it enters at its
exception vector, whose address the spec does not give (log 8, 15). -/
def caddyExc (s : State) (e : Exc) (epc : Word) : State :=
  if (s.cpu .caddy).st.exl then caddyRestart s 2
  else
    let (k, s) := s.takeFree
    enterOne s .caddy e epc (Config.freeWord k &&& ~~~(3 : Word))

/-- A synchronous exception of a processor at `epc`. -/
def takeExc (s : State) (p : Proc) (e : Exc) (epc : Word) : State :=
  match p with
  | .core c => coreExc s c e epc
  | .infuser i => infuserExc s i e epc
  | .caddy => caddyExc s e epc

/-! ### Completion -/

/-- The loop end check for level `k` (R110). -/
def loopCheck (k : Cpu) (lvl : Nat) (pc npc : Word) (taken : Bool) : Cpu × Word × Bool :=
  let n := mget 0 k.lc lvl
  if n ≠ 0 ∧ pc = mget 0 k.le lvl ∧ !taken then
    if n.toNat > 1 then ({ k with lc := mset 0 k.lc lvl (n - 1) }, mget 0 k.ls lvl, true)
    else ({ k with lc := mset 0 k.lc lvl 0 }, npc, taken)
  else (k, npc, taken)

/-- Both levels of the loop end check, level 1 first: the processor and the next pc. -/
def loopEnd (k : Cpu) (pc npc : Word) : Cpu × Word :=
  let (k, npc, t) := loopCheck k 1 pc npc (npc != pc + 4)
  let (k, npc, _) := loopCheck k 0 pc npc t
  (k, npc)

/-- The event of a completed instruction (23 R485). -/
def countDone (s : State) (p : Proc) : State :=
  match p with
  | .core c => countCore s 0x02 c
  | .infuser i => countEvent s 0x60 i.val none
  | .caddy => s

/-- SKIP and STEP after an instruction of the stepped bank (23 R475): SKIP clears, and STEP raises DEBUG STEP at the
next pc where EXL = 0. -/
def debugStep (s : State) (p : Proc) (bank : Nat) : State :=
  match p with
  | .core c =>
    let k := s.cpu p
    if k.stepBank = some (BitVec.ofNat 4 bank) then
      let s := s.setB F.DB_CORECTL_SKIP c.val false
      if s.fb F.DB_CORECTL_STEP c.val && debugActs s c then coreExc s c ⟨cDebug, 5, none⟩ k.pc
      else if s.fb F.DB_CORECTL_STEP c.val then s
      else s.setCpu p { k with stepBank := none }
    else s
  | _ => s

/-- An instruction completes: the loop end check, the pending IE and IPL write of the instruction before it takes
effect, pc advances (R87, R110). -/
def retire (s : State) (p : Proc) (pc npc : Word) (keepPending : Bool) : State :=
  let k := s.cpu p
  let bank := bankInUse p k
  let (k, npc) := loopEnd k pc npc
  let k := if keepPending then k else clearPending { k with st := withPending k }
  let s := countDone (s.setCpu p { k with pc := npc, wait := .none }) p
  debugStep s p bank

/-! ### Running an instruction -/

/-- What an instruction's own operation comes to. -/
inductive IRes where
  /-- It completes; the next pc is pc + 4. -/
  | done (s : State)
  /-- It completes with a taken control transfer. -/
  | jump (s : State) (npc : Word)
  /-- It completes having written STATUS.IE or IPL: that write waits one boundary (R87). -/
  | doneKeep (s : State)
  /-- It raises an exception. -/
  | exc (e : Exc) (s : State)
  /-- It makes no progress, or waits: wait says for what. -/
  | hold (s : State) (w : Wait)
  /-- It has entered or returned: pc is set (and completion counted where it completed). -/
  | entered (s : State)

/-- Continue after a step inside an instruction. -/
def XRes.then {α : Type} (r : XRes α) (f : α → State → IRes) : IRes :=
  match r with
  | .ok a s => f a s
  | .exc e s => .exc e s
  | .stall s => .hold s .stall

/-- The processor's clock is FIRC and FIRC has failed: it stops (02 R50). -/
def clockStopped (s : State) (p : Proc) : Bool :=
  s.clk.persist.getLsbD 1 && (match p with
    | .core c => !s.fb F.CK_CLUSTER_SEL (clusterOf c).val || !bitAt (s.fl F.PW_CORECLK_SEL 0) c.val
        || s.clk.relock.getLsbD (clusterOf c).val
    | .infuser _ => !s.clk.spllSel
    | .caddy => !s.clk.caddyPll)

/-- The processor executes the instruction presented to it: it runs, its clock runs, it does not wait for anything but to
be presented the instruction again, and no held supervisory event must be taken first (R78). -/
def canRun (s : State) (p : Proc) : Bool :=
  let k := s.cpu p
  k.run == .running && !clockStopped s p && !k.mustTake && (match k.wait with
    | .none => true | .stall => true | .again => true | .fenceC => true | .placed .. => true | .entry .. => true
    | _ => false)

/-- Which processors execute an instruction (06 R128): all of them, the cores only, or the Infusers only. -/
inductive Who where
  | all
  | cores
  | infusers
  deriving DecidableEq, Repr

def Who.admits : Who → Proc → Bool
  | .all, _ => true
  | .cores, .core _ => true
  | .infusers, .infuser _ => true
  | _, _ => false

/-- ILLEGAL. -/
def illegal : Exc := ⟨cIllegal, 0, none⟩

/-- Finish an instruction at `pc`. A processor whose store buffer never merges waits until it is empty before an
exception entry (10 R221). -/
def finish (p : Proc) (pc : Word) : IRes → State
  | .done s => retire s p pc (pc + 4) false
  | .jump s npc => retire s p pc npc false
  | .doneKeep s => retire s p pc (pc + 4) true
  | .exc e s =>
    if neverMerges s p && !(s.cpu p).sb.isEmpty then s.setCpu p { s.cpu p with wait := .stall } else takeExc s p e pc
  | .hold s w => s.setCpu p { s.cpu p with wait := w }
  | .entered s => s

/-- Run one instruction of processor `p` at its pc: DEBUG EXEC first (08 R173), ILLEGAL where the processor does not
decode it, then its own operation. An instruction that waited has passed DEBUG EXEC already; an exception whose entry
waits is entered before anything else. A processor that cannot run is unchanged (log 4). -/
def runInstr (p : Proc) (who : Who) (body : State → IRes) (s : State) : State :=
  if canRun s p then
    let pc := (s.cpu p).pc
    match (s.cpu p).wait with
    | .entry cause sub eaddr => takeExc s p ⟨cause, sub, eaddr⟩ pc
    | w =>
      let (dbg, s) := match p with
        | .core c => if w == Wait.none then compare s c ⟨pc.toNat, 4, false, false⟩ else (false, s)
        | _ => (false, s)
      if dbg then finish p pc (.exc ⟨cDebug, 2, none⟩ s)
      else if who.admits p then finish p pc (body s)
      else finish p pc (.exc illegal s)
  else s

/-- FP with subcode DISABLED. -/
def fpDisabled : Exc := ⟨cFp, 1, none⟩

/-- What comes before an FP or SIMD instruction of a core (07 R152, R154): FP DISABLED while FPE = 0; an owed lazy frame
is written first. -/
def fpFirst (s : State) (c : Fin 16) (body : State → IRes) : IRes :=
  if !(s.cpu (.core c)).st.fpe then .exc fpDisabled s
  else
    match writeFrame s c with
    | .ok _ s => body s
    | .exc e s => .entered (doubleFault s c e (s.cpu (.core c)).pc true)
    | .stall s => .hold s .again

/-- Run one FP or SIMD instruction. `early` is a check that comes before FP DISABLED (08 R173, rank 4). -/
def runFp (p : Proc) (early : State → Option Exc) (body : State → IRes) (s : State) : State :=
  runInstr p .cores (fun s =>
    match early s with
    | some e => .exc e s
    | none =>
      match p with
      | .core c => fpFirst s c body
      | _ => .exc illegal s) s

/-- No check before FP DISABLED. -/
def noEarly (_ : State) : Option Exc := none

/-- An instruction's outcome as a command's: the next state. -/
def nextOf (s : State) : Host.Outcome State Fault Refusal := .next s

/-- The ring for R80: 0 at the machine level too. -/
def ringOf (k : Cpu) : Nat := if k.st.ml then 0 else k.st.ring.toNat

/-- RING PRIVILEGED (R80, R171). -/
def privileged : Exc := ⟨cRing, 5, none⟩

end Sys2Proof.Machine
end

