-- ==== Sys2Proof/Machine/RegWrite.lean ====
section
/-! DEFINITION. A write of a register as its fields see it: the access codes of R8 to R11 and the ignored writes of
R491 (spec 00, 17). -/

namespace Sys2Proof.Machine

/-- A write of bits `hi` to `lo` of a 64-bit register: who makes it, the local offset it is made at, the value as
written, and the bits in the places they have in the register. -/
structure Wr where
  q : Requester
  off : Nat
  raw : Word
  v : Nat
  lo : Nat
  hi : Nat

/-- A write of a whole register. -/
def Wr.full (q : Requester) (off : Nat) (v : Word) : Wr := ⟨q, off, v, v.toNat, 0, 63⟩

/-- A write of `n` bytes (4 or 8) at an offset. -/
def Wr.at (q : Requester) (off n : Nat) (v : Word) : Wr :=
  if n = 4 then ⟨q, off, v, v.toNat % 2 ^ 32 * 2 ^ (32 * (off / 4 % 2)), 32 * (off / 4 % 2), 32 * (off / 4 % 2) + 31⟩
  else .full q off v

namespace Wr

/-- The write reaches some bit of the field. -/
def touches (w : Wr) (f : Fld) : Bool := w.lo ≤ f.hi && f.lo ≤ w.hi

/-- The bits written to the field; bits that the write does not reach are 0. -/
def bits (w : Wr) (f : Fld) : Nat := slice w.v f.hi f.lo

/-- The field's value with the written bits put over `old`. -/
def merge (w : Wr) (f : Fld) (old : Nat) : Nat :=
  let reach := slice (2 ^ (w.hi + 1) - 2 ^ w.lo) f.hi f.lo
  (old &&& (2 ^ f.width - 1 - reach)) ||| (w.bits f &&& reach)

/-- The field's value after the write of its active value. -/
def new (w : Wr) (f : Fld) (s : State) (i : Nat) : Nat := w.merge f (s.fl f i)

/-- Bit 0 of the bits written to a field is 1. -/
def on (w : Wr) (f : Fld) : Bool := w.bits f % 2 == 1

end Wr

/-- The write is ignored with the Warn record 0x0090 (R491). -/
def ignoreWarn (s : State) (w : Wr) : State := warnIgnored s w.q w.off w.raw

/-- A register written at ring 0 or the machine level (R491 for every other requester). -/
def atRing0 (s : State) (w : Wr) (f : State → State) : State := if isRing0 s w.q then f s else ignoreWarn s w

/-- A register written at the machine level only. -/
def atMachine (s : State) (w : Wr) (f : State → State) : State := if isMachine s w.q then f s else ignoreWarn s w

/-- The pour source of a field's element is stopped, so that a write acts at once (R307; 21, 22 for the frames). -/
def sourceStopped (s : State) (src : PourSource) (unit : Nat) : Bool :=
  match src with
  | .none => true
  | .epoch => !s.epochOn
  | .display => !s.fb F.DP_OCFG_EN unit
  | .touch => !s.fb F.TC_CFG_EN unit
  | .camera => !s.fb F.CM_INCFG_EN unit

/-- The W1C counters whose tables say that any 1 clears the field (19, 21, 22). -/
def anyClears (f : Fld) : Bool :=
  [F.MC_ECCSTAT_CE, F.MC_ECCSTAT_UE, F.DP_OSTAT_UNDERRUN, F.CM_INSTAT_CRCERR, F.CM_INSTAT_DROPPED,
    F.NW_CANSTAT_MISSED].any fun g => g.id == f.id

/-- One field takes a write under its access code (R8). `unit` is the unit whose frame pours it. -/
def putField (s : State) (w : Wr) (f : Fld) (i unit : Nat) : State :=
  if !w.touches f then s
  else
    match f.acc with
    | .ro => s
    | .wo => s
    | .rw => s.setF f i (w.new f s i)
    | .rwl => s.setF f i (w.new f s i)
    | .w1c =>
      if anyClears f then (if w.bits f = 0 then s else s.setF f i 0)
      else s.setF f i (s.fl f i &&& (2 ^ f.width - 1 - w.bits f))
    | .w1s => s.setF f i (s.fl f i ||| w.bits f)
    | .rwp =>
      if sourceStopped s f.pour unit then (s.setF f i (w.merge f (s.shv f i))).dropSh f i
      else s.setSh f i (w.merge f (s.shv f i))

/-- Every field of a list takes the write. -/
def putFields (s : State) (w : Wr) (fs : List Fld) (i unit : Nat) : State :=
  fs.foldl (fun s f => putField s w f i unit) s

/-- A register access that the part fails, made as a command of its own: a processor takes BUS_ERROR at its pc (03 R58; 16
R350; 20 R415). Its virtual address is not the command's, so EADDR is free (DESIGN CHOICE, log 110). -/
def rowFault (s : State) (q : Requester) (code : Nat) : State :=
  let take := fun (p : Proc) =>
    if (s.cpu p).run == .running then
      let (k, s) := s.takeFree
      takeExc s p (busError code aStore (Config.freeWord k)) (s.cpu p).pc
    else s
  match q with
  | .core c => take (.core c)
  | .infuser i => take (.infuser i)
  | .caddy => take .caddy
  | _ => s

/-- A write of a whole register at `off` as a command of its own. A unit that is not ready, or whose domain is not on,
keeps it waiting (it wakes the domain), or fails it (03 R58, 18 R392). -/
def rowWrite (q : Requester) (off : Nat) (v : Word) (f : State → Wr → State) (s : State) :
    Host.Outcome State Fault Refusal :=
  .next (match gateOff s off with
    | .ok _ s => f s (.full q off v)
    | .fail e s => rowFault s q e
    | .stall s => s)

end Sys2Proof.Machine
end

