-- ==== Sys2Proof/Machine/CacheCtl.lean ====
section
/-! DEFINITION. The registers of the L3 and partition control, enabling and disabling of caches, and maintenance by set
and way (spec 11 R235 to R242). -/

namespace Sys2Proof.Machine

/-- L3_WAYMASKp. -/
def waymaskWrite (s : State) (w : Wr) (p : Nat) : State := atMachine s w fun s => putField s w F.L3_WAYMASK_MASK p 0

/-- L3_WAYMASK_WRITE (R236). -/
def execL3WaymaskWrite (q : Requester) (n : Fin 64) (v : Word) (s : State) : Host.Outcome State Fault Refusal :=
  .next (waymaskWrite s (.full q (0xE00700200 + 8 * n.val) v) n.val)

/-- L3_LOCK. -/
def l3LockRegWrite (s : State) (w : Wr) : State := atMachine s w fun s => putField s w F.L3_LOCK_LOCK 0 0

/-- L3_LOCK_WRITE (R236). -/
def execL3LockWrite (q : Requester) (v : Word) (s : State) : Host.Outcome State Fault Refusal :=
  .next (l3LockRegWrite s (.full q 0xE00700100 v))

/-- SWEPT of a cache (R237). -/
def sweptFlag (s : State) : CacheId → Bool
  | .l1d c => s.fb F.L3_CCTL_DSWEPT c.val
  | .victim c => s.fb F.L3_CCTL_DSWEPT c.val
  | .l2 n => s.fb F.L3_L2CTL_SWEPT n.val
  | .l3 x => s.fb F.L3_SLCTL_SWEPT x.val
  | .l1i c => s.fb F.L3_CCTL_ISWEPT c.val

def setSweptFlag (s : State) (id : CacheId) (b : Bool) : State :=
  match id with
  | .l1d c => s.setB F.L3_CCTL_DSWEPT c.val b
  | .victim c => s.setB F.L3_CCTL_DSWEPT c.val b
  | .l2 n => s.setB F.L3_L2CTL_SWEPT n.val b
  | .l3 x => s.setB F.L3_SLCTL_SWEPT x.val b
  | .l1i c => s.setB F.L3_CCTL_ISWEPT c.val b

/-- A cache is disabled: SWEPT clears, dirty lines become orphans, and a Warn record names the cache by its number
(`CacheId.ix`) in DETAIL (R237, R238; log 74). -/
def disableCache (s : State) (id : CacheId) : State :=
  let ids := withPartner id
  let s := setSweptFlag (ids.foldl unsweep s) id false
  let s := refreshOrphan s id
  if ids.any (anyDirty s) then dregsNamed s clsWarn id.ix else s

/-- ICINV: every line of the L1 instruction cache is invalidated and ISWEPT is set. -/
def icInvalidate (s : State) (c : Fin 16) : State := (emptyCache s (.l1i c)).setB F.L3_CCTL_ISWEPT c.val true

/-- L3_CCTLc: a write that enables a cache is ignored whole where R237 forbids it. -/
def cctlWrite (s : State) (w : Wr) (c : Fin 16) : State :=
  atMachine s w fun s =>
    let i := c.val
    let dwas := s.fb F.L3_CCTL_DCEN i
    let iwas := s.fb F.L3_CCTL_ICEN i
    let dnew := w.new F.L3_CCTL_DCEN s i == 1
    let inew := w.new F.L3_CCTL_ICEN s i == 1
    let l2 := s.fb F.L3_L2CTL_EN (clusterOf c).val
    if (dnew && !dwas && (!s.fb F.L3_CCTL_DSWEPT i || !l2)) || (inew && !iwas && (!s.fb F.L3_CCTL_ISWEPT i || !l2)) then
      ignoreWarn s w
    else
      let s := (s.setB F.L3_CCTL_DCEN i dnew).setB F.L3_CCTL_ICEN i inew
      let s := if iwas && !inew then s.setB F.L3_CCTL_ISWEPT i false else s
      let s := if w.on F.L3_CCTL_ICINV then icInvalidate s c else s
      if dwas && !dnew then disableCache s (.l1d c) else s

/-- L3_CCTL_ENABLE (R237). -/
def execL3CctlEnable (q : Requester) (c : Fin 16) (v : Word) (s : State) : Host.Outcome State Fault Refusal :=
  .next (cctlWrite s (.full q (0xE00700800 + 8 * c.val) v) c)

/-- ICINV; the enables keep their values. -/
def execIcinv (q : Requester) (c : Fin 16) (s : State) : Host.Outcome State Fault Refusal :=
  .next (atMachine s (.full q (0xE00700800 + 8 * c.val) 4) fun s => icInvalidate s c)

/-- Any L1 cache of a cluster is enabled. -/
def anyL1On (s : State) (n : Fin 4) : Bool :=
  (clusterCores n).any fun c => s.fb F.L3_CCTL_DCEN c.val || s.fb F.L3_CCTL_ICEN c.val

/-- L3_L2CTLn. -/
def l2ctlWrite (s : State) (w : Wr) (n : Fin 4) : State :=
  atMachine s w fun s =>
    let was := s.fb F.L3_L2CTL_EN n.val
    let want := w.new F.L3_L2CTL_EN s n.val == 1
    if want && !was then (if s.fb F.L3_L2CTL_SWEPT n.val then s.setB F.L3_L2CTL_EN n.val true else ignoreWarn s w)
    else if was && !want then
      (if anyL1On s n then ignoreWarn s w else disableCache (s.setB F.L3_L2CTL_EN n.val false) (.l2 n))
    else s

/-- L3_L2CTL_WRITE (R237). -/
def execL3L2ctlWrite (q : Requester) (n : Fin 4) (v : Word) (s : State) : Host.Outcome State Fault Refusal :=
  .next (l2ctlWrite s (.full q (0xE00700900 + 8 * n.val) v) n)

/-- L3_SLCTLs. -/
def slctlWrite (s : State) (w : Wr) (x : Fin 8) : State :=
  atMachine s w fun s =>
    let was := s.fb F.L3_SLCTL_EN x.val
    let want := w.new F.L3_SLCTL_EN s x.val == 1
    if want && !was then (if s.fb F.L3_SLCTL_SWEPT x.val then s.setB F.L3_SLCTL_EN x.val true else ignoreWarn s w)
    else if was && !want then disableCache (s.setB F.L3_SLCTL_EN x.val false) (.l3 x)
    else s

/-- L3_SLCTL_WRITE (R237). -/
def execL3SlctlWrite (q : Requester) (n : Fin 8) (v : Word) (s : State) : Host.Outcome State Fault Refusal :=
  .next (slctlWrite s (.full q (0xE00700940 + 8 * n.val) v) n)

/-! ### Set and way (R239, R240) -/

/-- The target of a set-and-way operation: a cache, a set, and the ways named. None: a field out of range or a
reserved bit set. -/
def setWay (c : Fin 16) (ga : Nat) : Option (CacheId × Nat × List Nat) :=
  let level := ga % 4
  let slice3 := ga / 4 % 8
  let way := ga / 256 % 32
  let all := bitAt ga 13
  let set := ga / 2 ^ 16 % 4096
  let id : CacheId := match level with
    | 0 => .l1d c
    | 1 => .victim c
    | 2 => .l2 (clusterOf c)
    | _ => .l3 (Fin.ofNat 8 slice3)
  if slice ga 7 5 ≠ 0 ∨ slice ga 15 14 ≠ 0 ∨ ga / 2 ^ 28 ≠ 0 then none
  else if level ≠ 3 ∧ slice3 ≠ 0 then none
  else if cacheWays id ≤ way ∨ (all ∧ way ≠ 0) ∨ cacheSets id ≤ set then none
  else some (id, set, if all then List.range (cacheWays id) else [way])

/-- Every way of a set has been invalidated since SWEPT was last cleared. -/
def setSwept (s : State) (id : CacheId) (set : Nat) : Bool :=
  sweptFlag s id || mget 0 s.caches.swept (setKey id set) == 2 ^ cacheWays id - 1

/-- Note that a way of a set has been invalidated; SWEPT sets once every way of every set of the cache, or of the L1
data and victim cache together, has been. -/
def sweepWay (s : State) (id : CacheId) (set w : Nat) : State :=
  if setSwept s id set then s
  else
    let m := withBit (mget 0 s.caches.swept (setKey id set)) w true
    let s := { s with caches := { s.caches with swept := mset 0 s.caches.swept (setKey id set) m } }
    if m ≠ 2 ^ cacheWays id - 1 then s
    else
      let s := { s with caches := { s.caches with
        sweptSets := mset 0 s.caches.sweptSets id.ix (mget 0 s.caches.sweptSets id.ix + 1) } }
      if (withPartner id).all fun x => mget 0 s.caches.sweptSets x.ix == cacheSets x then setSweptFlag s id true else s

/-- Remove a line with its copies above, where the cache is an L2 (R240). -/
def invalidateIn (s : State) (id : CacheId) (x : CLine) : State :=
  match id with
  | .l2 n =>
    (clusterCores n).foldl (fun s c => dropLine (dropLine (dropLine s (.l1d c) x.line) (.victim c) x.line) (.l1i c) x.line)
      (dropLine s id x.line)
  | _ => dropLine s id x.line

/-- A dirty line leaves its level for the next one: an L1 or victim line for the L2, an L2 line for the L3, an L3 line
for memory. -/
def pushDown (s : State) (c : Fin 16) (part : Nat) (id : CacheId) (x : CLine) : State :=
  match id with
  | .l3 _ => memWriteBack s x
  | .l2 n =>
    let d := (dirtyL1 s x.line (clusterCores n)).map (·.data)
    l3Put s (some part) x.line (d.getD x.data) true
  | _ => fillL2 s (clusterOf c) (some part) x.line x.data true

/-- One way of a set: write back where `clean` and dirty, discard where `inval`. -/
def wayOp (s : State) (c : Fin 16) (id : CacheId) (set : Nat) (clean inval : Bool) (w : Nat) : State :=
  let part := partOf s c
  match (setLines s id set).find? fun x => x.way == w with
  | some x =>
    let dirty := x.dirty || (match id with | .l2 n => (dirtyL1 s x.line (clusterCores n)).isSome | _ => false)
    let s := if clean && dirty then
        let s := pushDown s c part id x
        match findRaw s id x.line with
        | some y => alterLine s id { y with dirty := false }
        | none => s
      else s
    if inval then invalidateIn s id x else s
  | none => s

/-- What a set-and-way operation does to the lines (R240): at the machine level as named; elsewhere as CACHE.ISW on a set
not yet invalidated, and as CACHE.CISW where it would discard lines of an L2 or an L3 slice; the first where both apply (DEDUCED, log 124). -/
def setWayForm (s : State) (c : Fin 16) (id : CacheId) (set : Nat) (clean inval : Bool) : Bool × Bool :=
  let deep := match id with | .l2 _ => true | .l3 _ => true | _ => false
  if (s.cpu (.core c)).st.ml then (clean, inval)
  else if !setSwept s id set then (false, true)
  else if deep && inval then (true, true)
  else (clean, inval)

/-- The gates of a set-and-way operation: the domain of the L2 or L3 slice it acts on, and of those to which lines may
pass (18 R392). -/
def setWayGate (s : State) (c : Fin 16) (id : CacheId) (set : Nat) : Res Unit :=
  let l2 := CacheId.l2 (clusterOf c)
  let unit := fun (s : State) (u : Nat) => gate s (some u) (some u)
  match id with
  | .l3 x => unit s (20 + x.val)
  | .l2 n => (unit s (16 + n.val)).bind fun _ s => if cacheOn s (sliceOf set) then unit s (20 + set % 8) else .ok () s
  | _ => if cacheOn s l2 then unit s (16 + (clusterOf c).val) else .ok () s

/-- ORPHAN of a cache, and of the L1 caches above an L2, after lines have left (R238). -/
def refreshOrphans (s : State) (id : CacheId) : State :=
  match id with
  | .l2 n => (clusterCores n).foldl (fun s c => refreshOrphan s (.l1d c)) (refreshOrphan s id)
  | _ => refreshOrphan s id

/-- The ways of a set-and-way operation that it acts on: of an L3 slice, outside the machine level, those of the core's
mask (R240). -/
def setWayWays (s : State) (c : Fin 16) (id : CacheId) (ways : List Nat) : List Nat :=
  match id with
  | .l3 _ =>
    if (s.cpu (.core c)).st.ml then ways else ways.filter fun w => bitAt (s.fl F.L3_WAYMASK_MASK (partOf s c)) w
  | _ => ways

/-- What a set-and-way operation does once its gates are open. -/
def setWayOps (s : State) (c : Fin 16) (id : CacheId) (set : Nat) (ways : List Nat) (clean inval : Bool) : State :=
  let form := setWayForm s c id set clean inval
  let s := (setWayWays s c id ways).foldl (fun s w =>
    let s := wayOp s c id set form.1 form.2 w
    if form.2 then sweepWay s id set w else s) s
  refreshOrphans s id

/-- CACHE by set and way on the processor's own core (R116, R240): forms clean (C), invalidate (I), both (CI). -/
def cacheSetWay (s : State) (c : Fin 16) (clean inval : Bool) (ga : Word) : XRes Unit :=
  match setWay c ga.toNat with
  | none => .exc (busError beNoTarget 3 ga) s
  | some (id, set, ways) =>
    match setWayGate s c id set with
    | .fail e s => .exc (busError e 3 ga) s
    | .stall s => .stall s
    | .ok _ s => .ok () (setWayOps s c id set ways clean inval)

/-- Caches that come back from RET: every line invalid and SWEPT set (R242). -/
def cacheReturn (s : State) (id : CacheId) : State :=
  let s := (withPartner id).foldl emptyCache s
  let s := setSweptFlag s id true
  let s := match id with | .l1d c => icInvalidate s c | _ => s
  setOrphan s id false

/-- Caches after a reset or DOFF: disabled, SWEPT 0, no line is found (R237); that none is
resident is the model's choice (log 125). -/
def cacheReset (s : State) (id : CacheId) : State :=
  let s := (withPartner id).foldl (fun s x => unsweep (emptyCache s x) x) s
  let s := setOrphan (setSweptFlag s id false) id false
  match id with
  | .l1d c =>
    (((emptyCache s (.l1i c)).setB F.L3_CCTL_DCEN c.val false).setB F.L3_CCTL_ICEN c.val false).setB F.L3_CCTL_ISWEPT c.val false
  | .l2 n => s.setB F.L3_L2CTL_EN n.val false
  | .l3 x => s.setB F.L3_SLCTL_EN x.val false
  | .victim _ => s
  | .l1i _ => s

/-- An L2 goes to sleep: what it includes leaves its cluster's L1 caches, all clean by then (R231, R242; log 116). -/
def clusterEmpty (s : State) (n : Fin 4) : State :=
  (clusterCores n).foldl (fun s c => emptyCache (emptyCache (emptyCache s (.l1d c)) (.victim c)) (.l1i c)) s

/-- The dirty lines of a core's enabled L1 data and victim caches pass to the L2 (R242); orphans do not. -/
def flushCore (s : State) (c : Fin 16) : State :=
  if !cacheOn s (.l1d c) then s
  else ((linesIn s (.l1d c)) ++ (linesIn s (.victim c))).foldl (fun s x =>
    if x.dirty then
      let s := fillL2 s (clusterOf c) (some (partOf s c)) x.line x.data true
      dropLine (dropLine s (.l1d c) x.line) (.victim c) x.line
    else s) s

end Sys2Proof.Machine
end

