-- ==== Sys2Proof/Machine/Domain.lean ====
section
/-! DEFINITION. What a power domain loses and gets back (spec 03 R66; 18 R385, R395; 11 R242). -/

namespace Sys2Proof.Machine

/-- Columns of the Kept by bits: POR, BOR, SWR, WDR, TFR, DBR, DOFF, RET. -/
def colDoff : Nat := 6
def colRet : Nat := 7

/-- Elements `lo` to `hi - 1` of a field, active and shadow, take their reset values unless the field is kept. -/
def resetElems (s : State) (col lo hi : Nat) (f : Fld) : State :=
  if bitAt f.kept col then s
  else { s with flds := mdrop s.flds (f.id * 4096 + lo) (f.id * 4096 + hi),
                sh := mdrop s.sh (f.id * 4096 + lo) (f.id * 4096 + hi) }

/-- The same for every field of some groups. -/
def resetGroups (s : State) (col lo hi : Nat) (gs : List RegGroup) : State :=
  gs.foldl (fun s g => g.fields.foldl (fun s f => resetElems s col lo hi f) s) s

/-- Copy every shadow of the elements to the active value, leaving each shadow in place (R395): a frame-source unit
that returns from RET. -/
def applyShadows (s : State) (gs : List RegGroup) : State :=
  gs.foldl (fun s g => g.fields.foldl (fun s f =>
    if f.acc = .rwp then
      (mrange s.sh (f.id * 4096) (f.id * 4096 + 4096)).foldl (fun s e => s.setF f (e.1 % 4096) (e.2 - 1)) s
    else s) s) s

/-- The registers of each domain that hold settings of their own. -/
def displayGroups : List RegGroup :=
  [G.DP_OCFG, G.DP_OTIM, G.DP_OSTAT, G.DP_SUN, G.DP_AMB, G.DP_CRC, G.DP_LADDR, G.DP_LGEOM, G.DP_LCTL, G.DP_EDID]
def touchGroups : List RegGroup := [G.TC_CFG, G.TC_HOP, G.TC_STAT, G.TC_REP]
def cameraGroups : List RegGroup := [G.CM_INCFG, G.CM_INBUF, G.CM_INSTAT, G.CM_CQBASE, G.CM_CQTAIL]
def networkGroups : List RegGroup := [G.NW_GCL, G.NW_GCLBASE, G.NW_CANSLOT, G.NW_CANSLOTD, G.NW_CANSTAT, G.NW_PCIBAR]
def linkGroups : List RegGroup := [G.NG_LINKCFG, G.NG_LINKSTAT, G.NG_LINKERR, G.NG_LINKCTL]
def infuserGroups : List RegGroup := [G.IF_CTL, G.IF_STAT, G.IF_ENTRY, G.IF_CFG, G.IF_DOORBELL]

/-- A CSI-2 port or the codec engine is enabled (R385); the codec has no enable, so it counts while it has jobs. -/
def cameraInUse (s : State) : Bool :=
  (List.range 32).any (fun k => s.fb F.CM_INCFG_EN k) || s.cams.job.isSome || s.fl F.CM_CQTAIL_TAIL 0 != s.fl F.CM_CQTAIL_HEAD 0

/-- A network port is enabled (R385). -/
def networkInUse (s : State) : Bool := s.ports.any fun e => e.1 < 40 && e.2.ctrl.getLsbD 0

/-- Units (R57) of domain `d`. -/
def domUnits (d : Nat) : List Nat :=
  if d < 28 then [d]
  else if d < 32 then [d + 1]
  else if d < 36 then [d + 4]
  else if d = 36 then []
  else if d < 41 then (List.range 8).map fun k => 64 + 8 * (d - 37) + k
  else if d = 41 then (List.range 6).map (128 + ·)
  else if d = 42 then [134, 135]
  else if d = 43 then (List.range 17).map (136 + ·)
  else if d = 44 then (List.range 24).map (153 + ·) ++ (List.range 20).map (192 + ·)
  else if d = 45 then [43]
  else []

/-- The readiness bits of a domain clear, and their timeouts start anew (R57, R58). -/
def domUnready (s : State) (d : Nat) : State :=
  (domUnits d).foldl (fun s u =>
    { (s.setReady u false) with pwr := { s.pwr with timedOut := mset false s.pwr.timedOut u false } }) s

/-- The interrupt sources that core `c` has accepted and not left. -/
def acceptedBy (s : State) (c : Fin 16) : List Nat :=
  (s.cpu (.core c)).banks.filterMap fun b => b.2.source

/-- A core loses its architectural state: it starts again at the machine reset vector when it runs (R66, R90). The reset
of its domain clears ACTIVE of the sources it had accepted (08 R190). -/
def coreLose (s : State) (c : Fin 16) (run : Run) : State :=
  let s := (acceptedBy s c).foldl icRelease s
  let s := s.setCpu (.core c) { ({} : Cpu) with run := run }
  (cacheReset s (.l1d c)).setB F.DB_CORECTL_SKIP c.val false

/-- The registers of Infuser `i` as column `col` leaves them. -/
def infuserRegs (s : State) (col : Nat) (i : Fin 32) : State :=
  let s := resetGroups s col i.val (i.val + 1) infuserGroups
  let s := resetGroups s col (32 * i.val) (32 * i.val + 32) [G.IF_PARAM]
  resetGroups s col (128 * i.val) (128 * i.val + 128) [G.IF_IMGOUT, G.IF_IMGIN]

/-- The Infusers of group domain `d`. -/
def groupInfusers (d : Nat) : List (Fin 32) := (List.range 8).map fun k => Fin.ofNat 32 (8 * (d - 37) + k)

/-- The registers of domain `d`: the fields that column `col` of Kept by does not keep take their reset values (R13,
R66). -/
def domainRegs (s : State) (col d : Nat) : State :=
  if d < 32 then s
  else if d < 36 then resetGroups s col (8 * (d - 32)) (8 * (d - 32) + 8) linkGroups
  else if d = 36 then resetGroups s col 0 4096 [G.MR_PORTSTAT]
  else if d < 41 then (groupInfusers d).foldl (fun s i => infuserRegs s col i) s
  else if d = 41 then resetGroups s col 0 4096 displayGroups
  else if d = 42 then resetGroups s col 0 4096 touchGroups
  else if d = 43 then resetGroups s col 0 4096 cameraGroups
  else if d = 44 then resetGroups s col 0 4096 networkGroups
  else s

/-- An Infuser loses its program and settings. -/
def infuserLose (s : State) (i : Fin 32) : State :=
  let s := s.setCpu (.infuser i) { ({} : Cpu) with run := .stopped }
  { s with mem := mdrop s.mem (0xE02100000 + 0x10000 * i.val) (0xE02110000 + 0x10000 * i.val),
           inf := mset {} s.inf i.val {} }

/-- The live status of the port groups `lo` to `hi - 1` (22 STAT). -/
def portsStatus (s : State) (lo hi : Nat) : State :=
  { s with ports := s.ports.filterMap fun e =>
      if lo ≤ e.1 && e.1 < hi then
        let p := { e.2 with up := false, rxovf := false, txovf := false, err := false, errs := 0 }
        if p = {} then none else some (e.1, p)
      else some e }

/-- DRAM channel `c` in OFF is neither trained nor being initialised, and nothing is being filled. -/
def channelLose (s : State) (c : Nat) : State :=
  let keep : BitVec 4 := ~~~(1#4 <<< c)
  let s := (s.setBit F.MC_STAT_TRAINED 0 c false).setBit F.MC_STAT_FILLING 0 c false
  { s with dram := { s.dram with inInit := s.dram.inInit &&& keep, fillHeld := s.dram.fillHeld &&& keep,
                                 checks := mset [] s.dram.checks c [] } }

/-- No wake of domain `d` is asked for, or has failed. -/
def wakeOver (s : State) (d : Nat) : State :=
  { s with pwr := { s.pwr with waking := mset false s.pwr.waking d false, asked := mset false s.pwr.asked d false,
                               wakeFailed := mset false s.pwr.wakeFailed d false } }

/-- What domain `d` loses by passing to DOFF (R66). L3_WAYMASK and L3_LOCK stay when one slice does (log 126). -/
def domLose (s : State) (d : Nat) : State :=
  let s := domainRegs s colDoff d
  if d < 16 then coreLose s (Fin.ofNat 16 d) .off
  else if d < 20 then cacheReset s (.l2 (Fin.ofNat 4 d))
  else if d < 28 then cacheReset s (.l3 (Fin.ofNat 8 (d - 20)))
  else if d < 32 then channelLose s (d - 28)
  else if d < 36 then { s with links := mdrop s.links (8 * (d - 32)) (8 * (d - 32) + 8) }
  else if d = 36 then { s with links := mdrop s.links 32 34 }
  else if d < 41 then (groupInfusers d).foldl infuserLose s
  else if d = 41 then { s with disp := [] }
  else if d = 42 then { s with touch := [] }
  else if d = 43 then { s with cams := {}, ports := mdrop s.ports 40 56 }
  else if d = 44 then { s with ports := mdrop s.ports 0 40, gates := [], usb := [], pcie := [] }
  else s

/-- Domain `d` passes to OFF. -/
def domOff (s : State) (d : Nat) : State :=
  wakeOver ((domUnready (domLose s d) d).setF F.PW_DOM_STATE d 2) d

/-- Domain `d` enters RET: the fields that RET does not keep take their reset values (R13, R66); the link sessions of a
link group are lost (R66, R270); a trained DRAM channel has drained its write queue and is in self-refresh (19 R413); a
core's dirty lines have passed to its L2 (R242). -/
def domRet (s : State) (d : Nat) : State :=
  let s := domainRegs s colRet d
  let s := if d < 16 then flushCore s (Fin.ofNat 16 d)
    else if d < 20 then clusterEmpty s (Fin.ofNat 4 d)
    else if 28 ≤ d && d < 32 then
      if bitAt (s.fl F.MC_STAT_TRAINED 0) (d - 28) && !s.dram.inInit.getLsbD (d - 28) then
        let s := drainWrites s (d - 28)
        { s with dram := { s.dram with selfRef := s.dram.selfRef ||| (1#4 <<< (d - 28)) } }
      else s
    else if 32 ≤ d && d < 36 then { s with links := mdrop s.links (8 * (d - 32)) (8 * (d - 32) + 8) }
    else if d = 36 then { s with links := mdrop s.links 32 34 }
    else if d = 43 then portsStatus s 40 56
    else if d = 44 then { portsStatus s 0 40 with usb := [], pcie := [] }
    else s
  wakeOver (s.setF F.PW_DOM_STATE d 1) d

/-- Domain `d` is ON again: caches come back empty, from OFF disabled (11 R237, whatever was written meanwhile), a frame-source unit applies its shadows, the copies of the
epoch number of a core and of the Infusers are loaded, a channel leaves self-refresh (R395, R242, 04 EPOCHNO). -/
def domBack (s : State) (d : Nat) : State :=
  let ret := s.dom d = 1
  let s :=
    if 37 ≤ d && d < 41 then
      (List.range 8).foldl (fun s k =>
        let p := Proc.infuser (Fin.ofNat 32 (8 * (d - 37) + k))
        s.setCpu p { s.cpu p with epochNo := BitVec.ofNat 64 (s.fl F.EP_EPOCH_VALUE 0) }) s
    else if !ret then
      (if d < 16 then cacheReset s (.l1d (Fin.ofNat 16 d))
       else if d < 20 then cacheReset s (.l2 (Fin.ofNat 4 d))
       else if d < 28 then cacheReset s (.l3 (Fin.ofNat 8 (d - 20)))
       else s)
    else if d < 16 then
      let p := Proc.core (Fin.ofNat 16 d)
      let s := cacheReturn s (.l1d (Fin.ofNat 16 d))
      s.setCpu p { s.cpu p with epochNo := BitVec.ofNat 64 (s.fl F.EP_EPOCH_VALUE 0), tlbI := [], tlbD := [], tlb2 := [] }
    else if d < 20 then cacheReturn s (.l2 (Fin.ofNat 4 d))
    else if d < 28 then cacheReturn s (.l3 (Fin.ofNat 8 (d - 20)))
    else if d = 41 then applyShadows s displayGroups
    else if d = 42 then applyShadows s touchGroups
    else if d = 43 then applyShadows s cameraGroups
    else s
  let s := if ret && 28 ≤ d && d < 32 then { s with dram := { s.dram with selfRef := s.dram.selfRef &&& ~~~(1#4 <<< (d - 28)) } } else s
  wakeOver (s.setF F.PW_DOM_STATE d 0) d

end Sys2Proof.Machine
end

