-- ==== Sys2Proof/Machine/Kettle.lean ====
section
/-! DEFINITION. The Kettle: safe outputs and their release, safety inputs, the joystick cross-check, the device watchdog,
temperatures, and the Dregs log (spec 17). -/

namespace Sys2Proof.Machine

/-! ### Release (R371) and the safe outputs -/

/-- Every other write to KT_SAFEREL, and a count that ends: ARMED clears with a Warn record (R371). -/
def disarm (s : State) : State := dregsFree (s.setB F.KT_SAFECTL_ARMED 0 false) 0 clsWarn 0x21

/-- KT_SAFEREL (R371). -/
def saferelWrite (s : State) (w : Wr) : State :=
  match w.q with
  | .core c =>
    if isRing0 s w.q then
      let key := w.bits F.KT_SAFEREL_KEY
      let quiet := s.fl F.KT_TRIGSTAT_RAISED 0 = 0
      if key = 0x4152 && s.fb F.KT_SAFECTL_HELD 0 && quiet then
        (s.setB F.KT_SAFECTL_ARMED 0 true).setF F.KT_SAFECTL_ARMCORE 0 c.val
      else if key = 0x524C && s.fb F.KT_SAFECTL_ARMED 0 && s.fl F.KT_SAFECTL_ARMCORE 0 = c.val && quiet then
        let s := (s.setB F.KT_SAFECTL_ARMED 0 false).setB F.KT_SAFECTL_HELD 0 false
        raiseSource (dregsFree s 0 clsSafety 0x20) 234
      else disarm s
    else ignoreWarn s w
  | _ => ignoreWarn s w

/-- KT_SAFEREL_ARM. -/
def execKtSaferelArm (q : Requester) (v : Word) (s : State) : Host.Outcome State Fault Refusal :=
  .next (saferelWrite s (.full q 0xE00000518 v))

/-- KT_SAFEREL_RELEASE. -/
def execKtSaferelRelease (q : Requester) (v : Word) (s : State) : Host.Outcome State Fault Refusal :=
  .next (saferelWrite s (.full q 0xE00000518 v))

/-- ARM_COUNT_EXPIRY (R371). -/
def execArmCountExpiry (s : State) : Host.Outcome State Fault Refusal :=
  .next (if s.fb F.KT_SAFECTL_ARMED 0 then disarm s else s)

/-- Whether a requester may write KT_SOVAL (R367, R430). -/
def mayWriteSoval (s : State) : Requester → Bool
  | .core c => isRing0 s (.core c)
  | .infuser i => s.fb F.IF_STAT_SAFETY i.val
  | _ => false

/-- KT_SOVAL (R367). -/
def sovalWrite (s : State) (w : Wr) : State :=
  if mayWriteSoval s w.q then putFields s w [F.KT_SOVAL_VALUE, F.KT_SOVAL_OE] 0 0 else ignoreWarn s w

/-- KT_SOVAL_WRITE. -/
def execKtSovalWrite (q : Requester) (v : Word) (s : State) : Host.Outcome State Fault Refusal :=
  .next (sovalWrite s (.full q 0xE00000508 v))

/-- KT_SAFELVL (R365): accepted only while HELD = 1 and LOCK = 0. -/
def safelvlWrite (s : State) (w : Wr) : State :=
  if s.fb F.KT_SAFECTL_HELD 0 && !s.fb F.KT_SAFECTL_LOCK 0 then putField s w F.KT_SAFELVL_LVL 0 0 else ignoreWarn s w

/-- KT_SAFELVL_WRITE. -/
def execKtSafelvlWrite (q : Requester) (v : Word) (s : State) : Host.Outcome State Fault Refusal :=
  .next (safelvlWrite s (.full q 0xE00000500 v))

/-- KT_SAFECTL: LOCK is set at the machine level only. -/
def safectlWrite (s : State) (w : Wr) : State := atMachine s w fun s => putField s w F.KT_SAFECTL_LOCK 0 0

/-! ### Safety inputs (R372) -/

/-- Pair `n` breaks the relation that ANTI selects. -/
def pairBreaks (s : State) (n : Nat) : Bool :=
  let a := bitAt (s.fl F.KT_SINSTAT_A 0) n
  let b := bitAt (s.fl F.KT_SINSTAT_B 0) n
  if s.fb F.KT_SINCFG_ANTI n then a == b else a != b

/-- Trigger 7 clears once every enabled pair agrees. -/
def settleSafeInputs (s : State) : State :=
  if (List.range 16).all fun n => !(s.fb F.KT_SINCFG_EN n && pairBreaks s n) then clearTrigger s 7 else s

/-- Refresh DISC and RAISED of pair `n` after its levels or its configuration change. -/
def refreshPair (s : State) (n : Nat) : State :=
  let b := pairBreaks s n
  let s := s.setBit F.KT_SINSTAT_DISC 0 n b
  let s := if b && s.fb F.KT_SINCFG_EN n then s else s.setBit F.KT_SINSTAT_RAISED 0 n false
  settleSafeInputs s

/-- SAFE_INPUT_CHANGE: the filtered levels of pair `n`. -/
def execSafeInputChange (n : Fin 16) (a b : Bool) (s : State) : Host.Outcome State Fault Refusal :=
  let s := (s.setBit F.KT_SINSTAT_A 0 n.val a).setBit F.KT_SINSTAT_B 0 n.val b
  .next (refreshPair s n.val)

/-- SAFE_INPUT_DISCREPANCY: the discrepancy of pair `n` has lasted DISC. -/
def execSafeInputDiscrepancy (n : Fin 16) (s : State) : Host.Outcome State Fault Refusal :=
  .next (
    if s.fb F.KT_SINCFG_EN n.val && pairBreaks s n.val && !bitAt (s.fl F.KT_SINSTAT_RAISED 0) n.val then
      let s := s.setBit F.KT_SINSTAT_RAISED 0 n.val true
      raiseTrigger (dregsFree (raiseSource s 235) (0x10 + n.val) clsSafety 0x70) 7 true
    else s)

/-- KT_SINCFGn: locked by KT_SAFECTL.LOCK (R10). -/
def sincfgWrite (s : State) (w : Wr) (n : Nat) : State :=
  if s.fb F.KT_SAFECTL_LOCK 0 then s
  else refreshPair (putFields s w [F.KT_SINCFG_EN, F.KT_SINCFG_ANTI, F.KT_SINCFG_FILT, F.KT_SINCFG_DISC] n 0) n

/-! ### Joysticks (R373, R374) -/

/-- FILT of input `j`; 0 acts as 1. -/
def joyFilt (s : State) (j : Nat) : Nat := max 1 (s.fl F.KT_JOYCFG_FILT j)

/-- KT_JOYVALj.RAISED and trigger 6 follow the inputs that hold it. -/
def settleJoy (s : State) : State :=
  let s := (List.range 8).foldl (fun s j =>
    s.setB F.KT_JOYVAL_RAISED j (s.fb F.KT_JOYCFG_EN j && (!s.fb F.KT_JOYVAL_VALID j || s.ket.joyHeld.getLsbD j))) s
  if (List.range 8).any fun j => s.fb F.KT_JOYVAL_RAISED j then raiseTrigger s 6 true
  else if (List.range 8).all fun j => !s.fb F.KT_JOYCFG_EN j || joyFilt s j ≤ mget 0 s.ket.joyPass j then clearTrigger s 6
  else s

/-- One sample of input `j` that fails the range test or the window test, or passes. -/
def joyOne (s : State) (j : Nat) (a b : BitVec 12) : State :=
  let bp := if s.fb F.KT_JOYCFG_MIRROR j then 4095 - b.toNat else b.toNat
  let lo := s.fl F.KT_JOYCFG_LO j
  let hi := s.fl F.KT_JOYCFG_HI j
  let range := a.toNat < lo || hi < a.toNat || b.toNat < lo || hi < b.toNat
  let window := s.fl F.KT_JOYCFG_WIN j < (a.toNat - bp) + (bp - a.toNat)
  let s := ((s.setF F.KT_JOYVAL_A j a.toNat).setF F.KT_JOYVAL_B j b.toNat).setB F.KT_JOYVAL_VALID j true
  let k := s.ket
  let bit : BitVec 8 := 1#8 <<< j
  if range || window then
    let run := mget 0 k.joyFail j + 1
    let s := { s with ket := { k with joyFail := mset 0 k.joyFail j run, joyPass := mset 0 k.joyPass j 0 } }
    if s.fb F.KT_JOYCFG_EN j && joyFilt s j ≤ run && !k.joyReported.getLsbD j then
      let s := { s with ket := { s.ket with joyHeld := s.ket.joyHeld ||| bit, joyReported := s.ket.joyReported ||| bit } }
      dregsFree (raiseSource s 236) (0x20 + j) clsSafety (if range then 0x72 else 0x71)
    else s
  else
    let run := mget 0 k.joyPass j + 1
    let held := if joyFilt s j ≤ run then k.joyHeld &&& ~~~bit else k.joyHeld
    (s.setF F.KT_JOYVAL_POS j ((a.toNat + bp) / 2)) |> fun s =>
      { s with ket := { k with joyFail := mset 0 k.joyFail j 0, joyPass := mset 0 k.joyPass j (min run 255),
                               joyHeld := held, joyReported := k.joyReported &&& ~~~bit } }

/-- The samples of the inputs from `j` on. -/
def joyAll (s : State) (j : Nat) : List (BitVec 12 × BitVec 12) → State
  | [] => s
  | (a, b) :: xs => if j < 8 then joyAll (joyOne s j a b) (j + 1) xs else s

/-- JOYSTICK_SAMPLE: the converters run from VDD_ANA, rail 1 (R374). -/
def execJoystickSample (samples : List (BitVec 12 × BitVec 12)) (s : State) : Host.Outcome State Fault Refusal :=
  .next (if bitAt (s.fl F.KT_SUPPLY_PG 0) 1 then settleJoy (joyAll s 0 samples) else s)

/-- The channels that are enabled. -/
def joyEnabled (s : State) : BitVec 8 :=
  (List.range 8).foldl (fun a j => if s.fb F.KT_JOYCFG_EN j then a ||| (1#8 <<< j) else a) 0

/-- The converters lose their rail: no sample is valid, and every enabled channel, which now holds trigger 6, must pass
again (R374). -/
def joyRailOff (s : State) : State :=
  let s := (List.range 8).foldl (fun s j => s.setB F.KT_JOYVAL_VALID j false) s
  settleJoy { s with ket := { s.ket with joyFail := [], joyPass := [], joyHeld := joyEnabled s, joyReported := 0 } }

/-- KT_JOYCFGj: locked by KT_SAFECTL.LOCK. -/
def joycfgWrite (s : State) (w : Wr) (j : Nat) : State :=
  if s.fb F.KT_SAFECTL_LOCK 0 then s
  else settleJoy (putFields s w
    [F.KT_JOYCFG_EN, F.KT_JOYCFG_MIRROR, F.KT_JOYCFG_WIN, F.KT_JOYCFG_LO, F.KT_JOYCFG_HI, F.KT_JOYCFG_FILT] j 0)

/-! ### The device watchdog (R375) -/

/-- An expiry. -/
def wdExpire (s : State) : State :=
  let s := raiseTrigger (s.setB F.KT_WDKICK_EXPIRED 0 true) 0 false
  let s := dregsFree s 0x30 clsSafety 0x73
  let s := s.setF F.KT_WDKICK_ELAPSED 0 0
  if s.fb F.KT_WDCFG_RSTEN 0 then warmStart s 3 0 else s

/-- TMO; 0 acts as 1. -/
def wdTmo (s : State) : Nat := max 1 (s.fl F.KT_WDCFG_TMO 0)

/-- KT_WDKICK. -/
def wdkickWrite (s : State) (w : Wr) : State :=
  atRing0 s w fun s =>
    let s := putField s w F.KT_WDKICK_EXPIRED 0 0
    let key := w.bits F.KT_WDKICK_KEY
    if key = 0 || !s.fb F.KT_WDCFG_EN 0 then s
    else if key = 0x574B && s.fl F.KT_WDCFG_WMIN 0 ≤ s.fl F.KT_WDKICK_ELAPSED 0 then s.setF F.KT_WDKICK_ELAPSED 0 0
    else wdExpire s

/-- WATCHDOG_KICK. -/
def execWatchdogKick (q : Requester) (v : Word) (s : State) : Host.Outcome State Fault Refusal :=
  .next (wdkickWrite s (.full q 0xE00000808 v))

/-- WATCHDOG_EXPIRY: ELAPSED reaches TMO. -/
def execWatchdogExpiry (s : State) : Host.Outcome State Fault Refusal :=
  .next (if s.fb F.KT_WDCFG_EN 0 then wdExpire s else s)

/-- WATCHDOG_WARNING: ELAPSED reaches TMO − ⌊TMO/8⌋. -/
def execWatchdogWarning (s : State) : Host.Outcome State Fault Refusal :=
  .next (
    if s.fb F.KT_WDCFG_EN 0 then
      raiseSource (s.setF F.KT_WDKICK_ELAPSED 0 (max (s.fl F.KT_WDKICK_ELAPSED 0) (wdTmo s - wdTmo s / 8))) 232
    else s)

/-- KT_WDCFG: written at the machine level; LOCK locks the others. ELAPSED starts from 0 when EN is set. -/
def wdcfgWrite (s : State) (w : Wr) : State :=
  atMachine s w fun s =>
    let was := s.fb F.KT_WDCFG_EN 0
    let s := if s.fb F.KT_WDCFG_LOCK 0 then s
      else putFields s w [F.KT_WDCFG_EN, F.KT_WDCFG_RSTEN, F.KT_WDCFG_TMO, F.KT_WDCFG_WMIN] 0 0
    let s := if s.fb F.KT_WDCFG_EN 0 && !was then s.setF F.KT_WDKICK_ELAPSED 0 0 else s
    putField s w F.KT_WDCFG_LOCK 0 0

/-! ### Temperatures (R369) -/

/-- A reading as a signed number of degrees. -/
def degrees (b : Byte) : Int := b.toInt

/-- The trip point as it acts: 100 to 125. -/
def tripPoint (s : State) : Int := max 100 (min 125 (s.fl F.KT_TEMP_TRIP 0))

/-- The eight readings of a sample; missing ones repeat the last known. -/
def eight (s : State) (ts : List Byte) : List Byte :=
  (List.range 8).map fun n => (ts[n]?).getD ((s.ket.temps[n]?).getD 0)

/-- The highest and the lowest of the readings held. -/
def hottest (s : State) : Int := (eight s []).foldl (fun m b => max m (degrees b)) (-128)
def coldest (s : State) : Int := (eight s []).foldl (fun m b => min m (degrees b)) 127

/-- The eight sensors are read. -/
def takeTemps (s : State) (ts : List Byte) : State :=
  let s := { s with ket := { s.ket with temps := eight s ts } }
  s.setF F.KT_TEMP_HOT 0 (BitVec.ofInt 8 (hottest s)).toNat

/-- TEMPERATURE_SAMPLE. -/
def temperatureSample (s : State) (ts : List Byte) : State :=
  let s := takeTemps s ts
  let hot := hottest s
  let trip := tripPoint s
  let detail := bytesNat (eight s [])
  let s := if trip - 10 ≤ hot then
      (if s.ket.tempWarned then s
       else
         let s := { s with ket := { s.ket with tempWarned := true } }
         dregs (superEvent s 4) 0x50 clsWarn 0x77 detail)
    else if hot < trip - 15 then { s with ket := { s.ket with tempWarned := false } } else s
  if trip ≤ hot then
    let second := s.ket.tempHot
    let s := { s with ket := { s.ket with tempHot := true, tempCool := 0 } }
    if second && !bitAt (s.fl F.KT_TRIGSTAT_RAISED 0) 5 then raiseTrigger (dregs s 0x50 clsSafety 0x76 detail) 5 true else s
  else
    let cool := if hot < trip - 5 then s.ket.tempCool + 1 else 0
    let s := { s with ket := { s.ket with tempHot := false, tempCool := min cool 2 } }
    if 2 ≤ cool then clearTrigger s 5 else s

def execTemperatureSample (temps : List Byte) (s : State) : Host.Outcome State Fault Refusal :=
  .next (temperatureSample s temps)

/-- KT_TEMP: TRIP is locked by KT_SAFECTL.LOCK. -/
def ktTempWrite (s : State) (w : Wr) : State :=
  if s.fb F.KT_SAFECTL_LOCK 0 then s else putField s w F.KT_TEMP_TRIP 0 0

/-! ### Dregs -/

/-- Slot `i` of the log. -/
def logSlot (s : State) (i : Nat) : Option DRec := mget none s.dregs.slots (i % 1024)

def setLogSlot (s : State) (i : Nat) (r : Option DRec) : State :=
  { s with dregs := { s.dregs with slots := mset none s.dregs.slots (i % 1024) r } }

/-- The triple is the entry's. -/
def DMatch.is (m : DMatch) (r : DRec) : Bool := m.source == r.source && m.code == r.code && m.cls == r.cls

/-- A record is written to slot `i`: its entry leads the match table of 64 (R380). -/
def matchPut (s : State) (r : DRec) (i : Nat) : State :=
  let t := s.dregs.table.filter fun m => !m.is r && m.slot != i
  { s with dregs := { s.dregs with table := (⟨r.source, r.code, r.cls, i⟩ :: t).take 64 } }

/-- The oldest record, among `n` slots from slot `i`, of class Info, or Warn where `warn`. -/
def oldestOf (s : State) (warn : Bool) (i : Nat) : Nat → Option Nat
  | 0 => none
  | n + 1 =>
    match logSlot s i with
    | some r => if r.cls = clsInfo || (warn && r.cls = clsWarn) then some (i % 1024) else oldestOf s warn (i + 1) n
    | none => oldestOf s warn (i + 1) n

/-- A record takes the slot of an older one (R381). -/
def dregsReplace (s : State) (r : DRec) (warn : Bool) : State :=
  match oldestOf s warn (s.fl F.DREGS_STAT_HEAD 0) 1024 with
  | some i =>
    let old := (logSlot s i).getD r
    matchPut (setLogSlot (dregsLost s old.cls old.time) i (some { r with replaced := true })) r i
  | none => dregsLost s r.cls r.time

/-- The Kettle takes one event: a merge, a new slot, a replacement or a loss (R378 to R381). -/
def dregsTake (s : State) (r : DRec) : State :=
  let fill := s.fl F.DREGS_STAT_FILL 0
  let head := s.fl F.DREGS_STAT_HEAD 0
  let found := if 896 ≤ fill then s.dregs.table.find? (·.is r) else none
  match found with
  | some m =>
    (match logSlot s m.slot with
     | some x => if x.repeats < 0xFFFF then setLogSlot s m.slot (some { x with repeats := x.repeats + 1 })
                 else dregsLost s r.cls r.time
     | none => dregsLost s r.cls r.time)
  | none =>
    if fill < 1024 then
      let s := matchPut (setLogSlot s head (some r)) r head
      let s := (s.setF F.DREGS_STAT_HEAD 0 ((head + 1) % 1024)).setF F.DREGS_STAT_FILL 0 (fill + 1)
      if fill + 1 = 896 then raiseSource s 237 else s
    else if r.cls = clsFatal || r.cls = clsSafety then dregsReplace s r true
    else if r.cls = clsError then dregsReplace s r false
    else dregsLost s r.cls r.time

/-- DREGS_EVENT_TAKE: the Kettle takes the oldest event of the pending queue. -/
def execDregsEventTake (s : State) : Host.Outcome State Fault Refusal :=
  .next (match s.dregs.queue with
    | [] => s
    | r :: rest => dregsTake { s with dregs := { s.dregs with queue := rest } } r)

/-- Free `n` slots from slot `i`, and their match entries (R379, R380). -/
def freeSlots (s : State) (i : Nat) : Nat → State
  | 0 => s
  | n + 1 =>
    let s := setLogSlot s i ((logSlot s i).map fun r => { r with valid := false })
    freeSlots { s with dregs := { s.dregs with table := s.dregs.table.filter fun m => m.slot != i % 1024 } } (i + 1) n

/-- DREGS_RELEASE (R379). -/
def dregsReleaseWrite (s : State) (w : Wr) : State :=
  atRing0 s w fun s =>
    let fill := s.fl F.DREGS_STAT_FILL 0
    let n := min (w.bits F.DREGS_RELEASE_N) fill
    (freeSlots s (s.fl F.DREGS_STAT_HEAD 0 + 1024 - fill) n).setF F.DREGS_STAT_FILL 0 (fill - n)

def execDregsRelease (q : Requester) (v : Word) (s : State) : Host.Outcome State Fault Refusal :=
  .next (dregsReleaseWrite s (.full q 0xE00001008 v))

/-- DREGS_SUBMIT (R382). -/
def dregsSubmitWrite (s : State) (w : Wr) : State :=
  match w.q with
  | .core c =>
    let cls := w.bits F.DREGS_SUBMIT_CLASS
    let code := w.bits F.DREGS_SUBMIT_CODE
    if isRing0 s w.q && cls ≤ 2 && 0x8000 ≤ code then
      dregsOfferRec s { time := fabCopy s, source := 0xF00 + c.val, cls := cls, code := code,
                        detail := w.bits F.DREGS_SUBMIT_DETAIL, est := !epochRuns s, software := true }
    else ignoreWarn s w
  | _ => ignoreWarn s w

def execDregsSubmit (q : Requester) (v : Word) (s : State) : Host.Outcome State Fault Refusal :=
  .next (dregsSubmitWrite s (.full q 0xE00001010 v))

/-- DREGS_LOSTc, word 0: any 1 clears COUNT, FIRST and LAST. -/
def dregsLostWrite (s : State) (w : Wr) (c : Nat) : State :=
  if w.bits F.DREGS_LOST_COUNT = 0 then s
  else ((s.setF F.DREGS_LOST_COUNT c 0).setF F.DREGS_LOSTF_FIRST c 0).setF F.DREGS_LOSTL_LAST c 0

/-- DREGS_STAT: a 1 in QLOST clears the whole field. -/
def dregsStatWrite (s : State) (w : Wr) : State :=
  if w.bits F.DREGS_STAT_QLOST = 0 then s else s.setF F.DREGS_STAT_QLOST 0 0

/-- The 32 bytes of slot `i` as a number (R377); a slot never written reads as 0. -/
def logWord (s : State) (i : Nat) : Nat :=
  match logSlot s i with
  | none => 0
  | some r =>
    r.time % 2 ^ 64 + r.source % 2 ^ 16 * 2 ^ 64 + r.cls % 256 * 2 ^ 80
      + (b2n r.valid + 2 * b2n r.replaced + 4 * b2n r.est + 8 * b2n r.software) * 2 ^ 88
      + r.code % 2 ^ 16 * 2 ^ 96 + r.repeats % 2 ^ 16 * 2 ^ 112 + r.detail % 2 ^ 128 * 2 ^ 128

end Sys2Proof.Machine
end

