-- ==== Sys2Proof/Machine/Power.lean ====
section
/-! DEFINITION. Power domains: sleep handshakes, waking, voltage commands, and Steep (spec 18). -/

namespace Sys2Proof.Machine

/-! ### Waking and the wake condition -/

/-- Some presented source of level 1 to 7 lies above IPL (R122). -/
def levelWaiting (s : State) (c : Fin 16) (ipl : Nat) : Bool :=
  (icPresented s c.val false).any fun n => ipl < s.fl F.IC_SRC_PRIO n

/-- The wake condition of core `c` (05 R122). -/
def wakeCond (s : State) (c : Fin 16) : Bool :=
  let k := s.cpu (.core c)
  k.supPend != 0 || !(icPresented s c.val true).isEmpty || levelWaiting s c k.st.ipl.toNat

/-- The board rails that feed domain `d` (02 R38), none for the always-on domains. The peripherals' logic lies on VDD_SOC
and their pins and analog parts on VDD_IO18 and VDD_ANA, so that they need both (DEDUCED, log 107). -/
def railsOf (d : Nat) : List Nat :=
  if d < 16 then [4 + d / 4]
  else if d < 20 then [4 + (d - 16)]
  else if d < 28 then [0]
  else if d < 32 then [2]
  else if d < 36 then [3]
  else if d = 36 then []
  else if d < 41 then [0]
  else if d < 45 then [0, 1]
  else []

/-- Every rail of the domain is up. -/
def railsUp (s : State) (d : Nat) : Bool := (railsOf d).all fun r => bitAt (s.fl F.KT_SUPPLY_PG 0) r

/-- The part is SCRAPPED (03 R69). -/
def scrapped (s : State) : Bool := s.fl F.LC_STATE_STATE 0 == 5

/-- The domain's rails are up, and no reset holds the part; a SCRAPPED part powers nothing but the Kettle (03 R69). -/
def powered (s : State) (d : Nat) : Bool :=
  !s.sup.por && !s.sup.bor && !s.warm.hold && !(scrapped s && d != 46) && railsUp s d

/-- The Caddy has left reset since the part's last reset, as it does before every other domain (03 R52). -/
def caddyOut (s : State) : Bool := s.caddy.phase != .inReset || s.caddy.restarted

/-- Domain `d` is held in reset: the Caddy while it is in reset or held off; every other before the Caddy has left reset; a
core that the Caddy has not released (03 R52, R55). -/
def heldInReset (s : State) (d : Nat) : Bool :=
  if d = 46 then false
  else if d = 45 then s.caddy.phase == .inReset || s.caddy.phase == .heldOff
  else !caddyOut s || (d < 16 && !s.caddy.released.getLsbD (d / 4))

/-- Domain `d` is asked to wake (R392, R394). A new request starts its timeout anew. -/
def wakeDom (s : State) (d : Nat) : State :=
  if s.dom d = 0 || 46 < d then s
  else { s with pwr := { s.pwr with waking := mset false s.pwr.waking d true,
                                    wakeFailed := mset false s.pwr.wakeFailed d false } }

/-! ### Handshakes (R386 to R391) -/

/-- Why domain `d` refuses to leave ON (R385), for a request of core `c` (16: Steep): 1 IN_USE, 2 DIRTY, 3 SHARED. -/
def refuses (s : State) (c d : Nat) : Option Nat :=
  if d < 16 then some 5
  else if d < 20 then
    let n := Fin.ofNat 4 d
    if (clusterCores n).any fun k => k.val != c && s.dom k.val == 0 then some 3
    else if anyDirty s (.l2 n) || (c < 16 && (anyDirty s (.l1d (Fin.ofNat 16 c)) || anyDirty s (.victim (Fin.ofNat 16 c)))) then some 2
    else none
  else if d < 28 then (if anyDirty s (.l3 (Fin.ofNat 8 (d - 20))) then some 2 else none)
  else if d < 32 then (if s.fb F.MR_CFG_EN 0 then some 1 else none)
  else if d < 36 then
    (if (List.range 8).any fun k => s.fb F.NG_LINKCFG_EN (8 * (d - 32) + k) then some 1 else none)
  else if d = 36 then (if s.fb F.MR_CFG_EN 0 then some 1 else none)
  else if d < 41 then
    (if (List.range 8).any fun k => let st := s.fl F.IF_STAT_STATE (8 * (d - 37) + k); st == 1 || st == 2 then some 1 else none)
  else if d = 41 then (if (List.range 6).any fun o => s.fb F.DP_OCFG_EN o then some 1 else none)
  else if d = 42 then (if (List.range 2).any fun t => s.fb F.TC_CFG_EN t then some 1 else none)
  else if d = 43 then (if cameraInUse s then some 1 else none)
  else if d = 44 then (if networkInUse s then some 1 else none)
  else some 5

/-- PW_LASTREQ as read. -/
def lastReqWord (s : State) : Nat :=
  s.fl F.PW_LASTREQ_RESULT 0 + s.fl F.PW_LASTREQ_CORE 0 * 4 + s.fl F.PW_LASTREQ_STEEP 0 * 64
    + s.fl F.PW_LASTREQ_REFDOM 0 * 128 + s.fl F.PW_LASTREQ_REASON 0 * 2 ^ 13

/-- WAIT completes with gd := `v`. -/
def waitDone (s : State) (c : Fin 16) (v : Word) : State :=
  let p := Proc.core c
  match (s.cpu p).wait with
  | .sleep d =>
    let pc := (s.cpu p).pc
    retire (s.setG p d v) p pc (pc + 4) false
  | _ => s

/-- PW_LASTREQ after a handshake. -/
def setLastReq (s : State) (h : Sleep) (result refdom reason : Nat) : State :=
  let s := ((s.setF F.PW_LASTREQ_RESULT 0 result).setF F.PW_LASTREQ_CORE 0 h.core).setB F.PW_LASTREQ_STEEP 0 h.steep
  (s.setF F.PW_LASTREQ_REFDOM 0 refdom).setF F.PW_LASTREQ_REASON 0 reason

/-- The executing core enters its CORE state; in RET it keeps its readiness bit and its commitments (R390). -/
def enterCoreState (s : State) (c : Fin 16) (state : Nat) : State :=
  match state with
  | 1 => domRet s c.val
  | 2 => icLeave (domOff s c.val) c.val
  | _ => s

/-- Stage 6 is done: the domains asked for OFF pass to OFF, and the core enters its state (R388, R390). A domain that an
access has woken since it accepted (R392) stays as it is. -/
def finishHandshake (s : State) (h : Sleep) : State :=
  let asleep := h.done.filter fun d => s.dom d == 1 && !mget false s.pwr.waking d
  let s := if h.other = 2 then asleep.foldl domOff s else s
  let s := raiseSource (setLastReq s h 0 0 0) 244
  if h.wasWait then enterCoreState s (Fin.ofNat 16 h.core) h.coreState else s

/-- A refusal (R388): the WAIT writes 1; source 244 and an Info record. -/
def refuseHandshake (s : State) (h : Sleep) (d reason : Nat) : State :=
  let s := raiseSource (setLastReq s h 1 d reason) 244
  let s := dregs s 6 clsInfo 0x80 (lastReqWord s)
  if h.wasWait then waitDone s (Fin.ofNat 16 h.core) 1 else s

/-- Take handshakes from the queue until one must wait for a domain's answer; a WAIT whose wake condition is met is
withdrawn (R391). `n` bounds the queue. -/
def nextHandshake (s : State) : Nat → State
  | 0 => s
  | n + 1 =>
    match s.pwr.current, s.pwr.queue with
    | none, h :: rest =>
      let s := { s with pwr := { s.pwr with queue := rest } }
      if h.wasWait && wakeCond s (Fin.ofNat 16 h.core) then nextHandshake (waitDone s (Fin.ofNat 16 h.core) 0) n
      else
      (match h.todo with
       | [] => nextHandshake (finishHandshake s h) n
       | d :: _ =>
         if d < 16 || 45 ≤ d then nextHandshake (refuseHandshake s h d 5) n
         else { s with pwr := { s.pwr with current := some h } })
    | _, _ => s

/-- A new request enters the queue: a core's replaces its own entry, Steep's go ahead of it in their own order (R391). -/
def queueHandshake (s : State) (h : Sleep) : State :=
  let q := s.pwr.queue
  let q := if h.steep then q.filter (·.steep) ++ h :: q.filter (!·.steep)
    else if q.any fun x => !x.steep && x.core == h.core then q.map fun x => if !x.steep && x.core == h.core then h else x
    else q ++ [h]
  nextHandshake { s with pwr := { s.pwr with queue := q } } 32

/-- The domain already is in the state asked for, or in a deeper one (R387). -/
def deepEnough (s : State) (d other : Nat) : Bool := s.dom d == 2 || (other != 2 && s.dom d == 1)

/-- The offered domain accepts: it reaches RET, and the handshake goes on, ends, or stops where the core's wake
condition is met (R387 to R389). -/
def acceptDomain (s : State) (h : Sleep) (d : Nat) (rest : List Nat) : State :=
  let s := if deepEnough s d h.other || s.dom d = 1 then s else domRet s d
  let h := { h with todo := rest, done := h.done ++ [d] }
  let s := { s with pwr := { s.pwr with current := none } }
  if h.wasWait && wakeCond s (Fin.ofNat 16 h.core) then
    nextHandshake (waitDone (raiseSource (setLastReq s h 2 0 0) 244) (Fin.ofNat 16 h.core) 0) 32
  else
    match rest with
    | [] => nextHandshake (finishHandshake s h) 32
    | _ => { s with pwr := { s.pwr with current := some h } }

/-- DOMAIN_OFFER_ANSWER (R387). A domain refuses to leave ON: one that is in RET does not refuse OFF. -/
def execDomainOfferAnswer (s : State) : Host.Outcome State Fault Refusal :=
  .next (match s.pwr.current with
    | some h =>
      (match h.todo with
       | d :: rest =>
         if deepEnough s d h.other then acceptDomain s h d rest
         else
           (match (if s.dom d = 0 then refuses s (if h.steep then 16 else h.core) d else none) with
            | some r => nextHandshake (refuseHandshake { s with pwr := { s.pwr with current := none } } h d r) 32
            | none => acceptDomain s h d rest)
       | [] => s)
    | none => s)

/-- DOMAIN_ANSWER_TIMEOUT (R387). -/
def execDomainAnswerTimeout (s : State) : Host.Outcome State Fault Refusal :=
  .next (match s.pwr.current with
    | some h =>
      (match h.todo with
       | d :: _ => nextHandshake (refuseHandshake { s with pwr := { s.pwr with current := none } } h d 4) 32
       | [] => s)
    | none => s)

/-- The domains that PWRMODE selects, in the order of the stages (R386). -/
def selected (m : Nat) (c : Fin 16) : List Nat :=
  let pick := fun (bit dom n : Nat) => (List.range n).filterMap fun k => if bitAt m (bit + k) then some (dom + k) else none
  pick 26 41 4 ++ pick 22 37 4 ++ pick 17 32 4 ++ pick 21 36 1 ++ pick 13 28 4 ++ pick 5 20 8
    ++ (if bitAt m 4 then [16 + (clusterOf c).val] else [])

/-- WAIT's request_sleep (05 R122). The core's WAIT is already pending. -/
def requestSleep (s : State) (c : Fin 16) : State :=
  let m := (s.cpu (.core c)).pwrmode.toNat
  queueHandshake s { core := c.val, steep := false, other := m / 4 % 4, coreState := if m % 4 = 3 then 0 else m % 4,
                     todo := selected m c, done := [], wasWait := true }

/-- A handshake of core `c` runs or waits. -/
def inHandshake (s : State) (c : Fin 16) : Bool :=
  match s.pwr.current with
  | some h => h.wasWait && h.core == c.val
  | none => false

/-- CORE_WAKE: a sleeping core whose wake condition is met resumes after its WAIT with gd = 0; a queued WAIT is
withdrawn (R391, R393). -/
def execCoreWake (c : Fin 16) (s : State) : Host.Outcome State Fault Refusal :=
  .next (
    if wakeCond s c && s.dom c.val ≤ 1 && (s.cpu (.core c)).run == .running && !inHandshake s c then
      match (s.cpu (.core c)).wait with
      | .sleep _ =>
        let s := { s with pwr := { s.pwr with queue := s.pwr.queue.filter fun h => !(h.wasWait && h.core == c.val) } }
        waitDone (if s.dom c.val = 1 then domBack s c.val else s) c 0
      | _ => s
    else s)

/-- PW_DOMREQ (R391, R394): only a core at ring 0 or the machine level. -/
def domreqWrite (s : State) (w : Wr) : State :=
  atRing0 s w fun s =>
    let d := w.bits F.PW_DOMREQ_DOMAIN
    let st := w.bits F.PW_DOMREQ_STATE
    if 46 < d || st = 3 || !w.touches F.PW_DOMREQ_DOMAIN then s
    else if st = 0 then wakeDom s d
    else queueHandshake s { core := reqNum w.q, steep := false, other := st, coreState := 0, todo := [d], done := [],
                            wasWait := false }

def execPwDomreqWake (q : Requester) (v : Word) (s : State) : Host.Outcome State Fault Refusal :=
  .next (domreqWrite s (.full q 0xE00002010 v))
def execPwDomreqRet (q : Requester) (v : Word) (s : State) : Host.Outcome State Fault Refusal :=
  .next (domreqWrite s (.full q 0xE00002010 v))
def execPwDomreqOff (q : Requester) (v : Word) (s : State) : Host.Outcome State Fault Refusal :=
  .next (domreqWrite s (.full q 0xE00002010 v))

/-- DOMAIN_WAKE_TIMEOUT: the accesses that stall on the domain fail, with a record that names the domain, and so does Steep's
WAKE (R392, R398, 03 R58; log 74). -/
def execDomainWakeTimeout (dom : Fin 47) (s : State) : Host.Outcome State Fault Refusal :=
  .next (
    if mget false s.pwr.waking dom.val then
      let asked := mget false s.pwr.asked dom.val
      let s := wakeOver s dom.val
      let s := { s with pwr := { s.pwr with wakeFailed := mset false s.pwr.wakeFailed dom.val asked },
                        steep := { s.steep with failed := s.steep.failed || s.steep.wakeDom == some dom.val } }
      dregs s 3 clsError 0x58 (256 + dom.val)
    else s)

/-- DOMAIN_RETURN: the domain asked to wake is ON (R395). A core that returns from OFF runs on FIRC, in reset until it
is ready (R390, R394); one that returns from RET resumes after its WAIT with gd = 0 (R390). -/
def domainReturn (s : State) (d : Nat) : State :=
  if mget false s.pwr.waking d && powered s d && s.dom d ≠ 0 then
    let off := s.dom d = 2
    let s := domBack s d
    if d < 16 && off then
      let p := Proc.core (Fin.ofNat 16 d)
      (s.setBit F.PW_CORECLK_SEL 0 d false).setCpu p { s.cpu p with run := .inReset }
    else if d < 16 then waitDone s (Fin.ofNat 16 d) 0
    else s
  else s

def execDomainReturn (dom : Fin 47) (s : State) : Host.Outcome State Fault Refusal := .next (domainReturn s dom.val)

/-! ### Voltage commands (R396, R397) -/

/-- PW_VCMDn. -/
def vcmdWrite (s : State) (w : Wr) (n : Nat) : State :=
  atRing0 s w fun s =>
    let s := putField s w F.PW_VCMD_FAIL n 0
    if w.touches F.PW_VCMD_TARGET then
      let s := (s.setF F.PW_VCMD_TARGET n (w.new F.PW_VCMD_TARGET s n)).setF F.PW_VCMD_SEQ n (s.fl F.PW_VCMD_SEQ n + 1)
      s.setB F.PW_VCMD_BUSY n true
    else s

/-- PW_VCMD_WRITE. -/
def execPwVcmdWrite (q : Requester) (n : Fin 4) (v : Word) (s : State) : Host.Outcome State Fault Refusal :=
  .next (vcmdWrite s (.full q (0xE00002040 + 8 * n.val) v) n.val)

/-- The voltage that a VID code requests, in mV (02 R44). -/
def vidMv (code : Nat) : Nat := 550 + 20 * code

/-- The highest core clock, in MHz, at a monitored voltage (02 R45). -/
def capMhz (mv : Nat) : Nat := if 850 ≤ mv then 2400 else if 750 ≤ mv then 1800 else if 650 ≤ mv then 1200 else 600

/-- The monitor of cluster `n` reads `mv`, and caps the cluster's clock. -/
def monitorReads (s : State) (n mv : Nat) : State :=
  let s := s.setF F.PW_VCMD_MV n mv
  { s with pwr := { s.pwr with capMhz := mset 600 s.pwr.capMhz n (capMhz mv) } }

/-- VOLTAGE_COMMAND_COMPLETE (R397). -/
def execVoltageCommandComplete (n : Fin 4) (s : State) : Host.Outcome State Fault Refusal :=
  .next (
    if s.fb F.PW_VCMD_BUSY n.val then
      let s := monitorReads s n.val (vidMv (s.fl F.PW_VCMD_TARGET n.val))
      raiseSource ((s.setF F.PW_VCMD_DONESEQ n.val (s.fl F.PW_VCMD_SEQ n.val)).setB F.PW_VCMD_BUSY n.val false) (240 + n.val)
    else s)

/-- VOLTAGE_COMMAND_FAIL (R397). -/
def execVoltageCommandFail (n : Fin 4) (s : State) : Host.Outcome State Fault Refusal :=
  .next (if s.fb F.PW_VCMD_BUSY n.val then dregsFree (s.setB F.PW_VCMD_FAIL n.val true) 6 clsError 0x82 else s)

/-- VOLTAGE_MONITOR_CAP (02 R45): the monitor of cluster `n` reads `mv`. Below 525 mV the spec states no behaviour, and
the board must prevent it; the cap is then still the lowest clock. -/
def execVoltageMonitorCap (n : Fin 4) (mv : BitVec 12) (s : State) : Host.Outcome State Fault Refusal :=
  .next (monitorReads s n.val mv.toNat)

/-- PW_CORECLK. -/
def coreclkWrite (s : State) (w : Wr) : State := atRing0 s w fun s => putField s w F.PW_CORECLK_SEL 0 0

/-- PW_CORECLK_WRITE (R396). -/
def execPwCoreclkWrite (q : Requester) (v : Word) (s : State) : Host.Outcome State Fault Refusal :=
  .next (coreclkWrite s (.full q 0xE00002020 v))

/-! ### Steep (R398 to R401) -/

/-- The table runs: COLD, TEST or RECOVERY. -/
def steepRuns (s : State) : Bool :=
  let st := s.fl F.KT_STEEPSTAT_STATE 0
  1 ≤ st && st ≤ 3

/-- The table ends: DONE. -/
def steepDone (s : State) : State := s.setF F.KT_STEEPSTAT_STATE 0 4

/-- Continue at step `n`; a reserved OP there is a fault (R398, R399). -/
def steepTo (s : State) (n : Nat) : State :=
  if 32 ≤ n then steepDone s
  else
    let s := s.setF F.KT_STEEPSTAT_STEP 0 n
    if 7 ≤ steepOp s then steepFault s else s

/-- A step other than SLEEP has been taken, and the table continues at step `n`: 256 such steps in succession are a fault
(R399). -/
def steepGo (s : State) (n : Nat) : State :=
  let s := { s with steep := { s.steep with run := s.steep.run + 1 } }
  if 256 ≤ s.steep.run then steepFault s else steepTo s n

/-- The step after this one. -/
def steepNext (s : State) : State := steepGo s (s.fl F.KT_STEEPSTAT_STEP 0 + 1)

/-- Whether the table is about to run a step with OP `op`, and does not wait. -/
def steepAt (s : State) (op : Nat) : Bool :=
  steepRuns s && !s.steep.fixed && s.steep.wakeDom.isNone && s.steep.sleeping.isNone && steepOp s == op

/-- Bring-up that the table has held proceeds (R399, R400). The rest of it is the power-on sequence's own commands. -/
def steepRelease (s : State) : State := { s with steep := { s.steep with holds := false } }

/-- The board raises PWR_EN[0] again after a return from the carried state once nothing holds it (02 R38, R43), unless VDD_SOC has failed (02 R39). -/
def railsBegin (s : State) : State :=
  if s.sup.railsAsked && !s.steep.holds && !s.sup.failed.getLsbD 0 then
    { s with sup := { s.sup with pwrEn := s.sup.pwrEn ||| 1, railsAsked := false } }
  else s

/-- CONTINUE ends the table in every mode; at cold start bring-up proceeds (R399). -/
def steepContinue (s : State) : State :=
  let cold := s.fl F.KT_STEEPSTAT_STATE 0 = 1
  let s := steepDone s
  if cold then railsBegin (steepRelease s) else s

/-- KT_STEEPCTL: fields only while IDLE, DONE or FAULT; START while IDLE or DONE; ACK (R400). -/
def steepctlWrite (s : State) (w : Wr) : State :=
  atRing0 s w fun s =>
    let st := s.fl F.KT_STEEPSTAT_STATE 0
    let put := fun (s : State) => putFields s w [F.KT_STEEPCTL_COLD, F.KT_STEEPCTL_RECOV, F.KT_STEEPCTL_CSTEP,
      F.KT_STEEPCTL_RSTEP, F.KT_STEEPCTL_TSTEP] 0 0
    if w.on F.KT_STEEPCTL_ACK then
      let s := if st = 0 ∨ st = 4 ∨ st = 5 then put s else s
      let s := s.setF F.KT_STEEPSTAT_STATE 0 0
      { s with steep := { s.steep with fixed := false, wakeDom := none, sleeping := none } }
    else if (st ≠ 0 ∧ st ≠ 4 ∧ st ≠ 5) ∨ (w.on F.KT_STEEPCTL_START ∧ st = 5) then ignoreWarn s w
    else
      let s := put s
      if w.on F.KT_STEEPCTL_START then steepBegin s 2 (s.fl F.KT_STEEPCTL_TSTEP 0) else s

def execKtSteepctlStart (q : Requester) (v : Word) (s : State) : Host.Outcome State Fault Refusal :=
  .next (steepctlWrite s (.full q 0xE00003000 v))
def execKtSteepctlAck (q : Requester) (v : Word) (s : State) : Host.Outcome State Fault Refusal :=
  .next (steepctlWrite s (.full q 0xE00003000 v))

/-- KT_STEEPs: written while IDLE, DONE or FAULT. -/
def steepTableWrite (s : State) (w : Wr) (i : Nat) : State :=
  atRing0 s w fun s =>
    let st := s.fl F.KT_STEEPSTAT_STATE 0
    if st = 0 ∨ st = 4 ∨ st = 5 then
      putFields s w [F.KT_STEEP_OP, F.KT_STEEP_A, F.KT_STEEP_B, F.KT_STEEP_ARG, F.KT_STEEP_LO, F.KT_STEEP_HI] i 0
    else ignoreWarn s w

/-- STEEP_END. -/
def execSteepEnd (s : State) : Host.Outcome State Fault Refusal :=
  .next (if steepAt s 0 then steepDone s else s)

/-- STEEP_WAKE: the table waits until the domain is ON. -/
def execSteepWake (s : State) : Host.Outcome State Fault Refusal :=
  .next (
    if steepAt s 1 then
      let d := s.fl F.KT_STEEP_ARG (s.fl F.KT_STEEPSTAT_STEP 0)
      let was := s.dom d
      let s := { s with pwr := { s.pwr with touched := mset false s.pwr.touched d false } }
      let woken := if was = 0 then s.steep.woken else (d, was) :: s.steep.woken
      let s := { s with steep := { s.steep with wakeDom := some d, failed := false, woken := woken } }
      wakeDom s d
    else s)

/-- STEEP_WAKE_DONE: the domain is ON, or its wake has failed or cannot begin. -/
def execSteepWakeDone (s : State) : Host.Outcome State Fault Refusal :=
  .next (match s.steep.wakeDom with
    | some d =>
      let a := s.fl F.KT_STEEP_A (s.fl F.KT_STEEPSTAT_STEP 0)
      let s1 := { s with steep := { s.steep with wakeDom := none, failed := false } }
      if 46 < d || s.steep.failed || !powered s d || heldInReset s d then
        steepGo { s1 with steep := { s1.steep with woken := s1.steep.woken.filter fun e => e.1 != d } } a
      else if s.dom d = 0 then steepNext s1
      else s
    | none => s)

/-- The value of a channel as a 16-bit number (R398). AON inputs have no modelled voltage: a free value. -/
def steepChannel (s : State) (ch : Nat) : Nat × State :=
  let temp := fun (x : Int) => (BitVec.ofInt 16 x).toNat
  let joy := fun (j v : Nat) => if s.fb F.KT_JOYVAL_VALID j then v else 0xFFFF
  if ch < 8 then (temp (degrees ((eight s [])[ch]?.getD 0)), s)
  else if ch = 8 then (temp (hottest s), s)
  else if ch = 9 then (temp (coldest s), s)
  else if 0x10 ≤ ch ∧ ch < 0x18 then (joy (ch - 0x10) (s.fl F.KT_JOYVAL_A (ch - 0x10)), s)
  else if 0x18 ≤ ch ∧ ch < 0x20 then (joy (ch - 0x18) (s.fl F.KT_JOYVAL_B (ch - 0x18)), s)
  else if ch = 0x20 then (s.fl F.KT_SINSTAT_A 0, s)
  else if ch = 0x21 then (s.fl F.KT_SINSTAT_B 0, s)
  else if ch = 0x28 ∨ ch = 0x29 then let (k, s) := s.takeFree; (Config.freeNat k % 2 ^ 16, s)
  else if ch = 0x30 then (s.fl F.KT_TRIGSTAT_RAISED 0, s)
  else if ch = 0x31 then (s.fl F.KT_SUPPLY_PG 0, s)
  else (0, s)

/-- STEEP_SAMPLE. -/
def execSteepSample (s : State) : Host.Outcome State Fault Refusal :=
  .next (
    if steepAt s 2 then
      let (v, s) := steepChannel s (s.fl F.KT_STEEP_ARG (s.fl F.KT_STEEPSTAT_STEP 0))
      steepNext (s.setF F.KT_STEEPSTAT_ACC 0 v)
    else s)

/-- A 16-bit field as a signed number. -/
def signed16 (x : Nat) : Int := (BitVec.ofNat 16 x).toInt

/-- STEEP_COMPARE. -/
def execSteepCompare (s : State) : Host.Outcome State Fault Refusal :=
  .next (
    if steepAt s 3 then
      let i := s.fl F.KT_STEEPSTAT_STEP 0
      let acc := signed16 (s.fl F.KT_STEEPSTAT_ACC 0)
      if signed16 (s.fl F.KT_STEEP_LO i) ≤ acc ∧ acc ≤ signed16 (s.fl F.KT_STEEP_HI i) then steepGo s (s.fl F.KT_STEEP_A i)
      else steepGo s (s.fl F.KT_STEEP_B i)
    else s)

/-- The table is at ACT with argument `a`. -/
def steepActs (s : State) (a : Nat) : Bool := steepAt s 4 && s.fl F.KT_STEEP_ARG (s.fl F.KT_STEEPSTAT_STEP 0) == a

/-- STEEP_ACT_CONTINUE (R399). -/
def execSteepActContinue (s : State) : Host.Outcome State Fault Refusal :=
  .next (if steepActs s 0 then steepContinue s else s)

/-- STEEP_ACT_SIGNAL. An ACT whose ARG the spec does not list does nothing, and the table goes on (log 16). -/
def execSteepActSignal (s : State) : Host.Outcome State Fault Refusal :=
  .next (
    if steepActs s 1 then steepNext (raiseSource s 239)
    else if steepAt s 4 && 3 ≤ s.fl F.KT_STEEP_ARG (s.fl F.KT_STEEPSTAT_STEP 0) then steepNext s
    else s)

/-- STEEP_ACT_RECORD: an Info record with ACC and the step number, whose layout the spec does not state. -/
def execSteepActRecord (s : State) : Host.Outcome State Fault Refusal :=
  .next (if steepActs s 2 then steepNext (dregsFree s 7 clsInfo 0x84) else s)

/-- Steep returns a domain to its earlier state by a handshake of its own, which goes ahead of the queue. -/
def steepReturn (s : State) (e : Nat × Nat) : State :=
  if mget false s.pwr.touched e.1 || s.dom e.1 ≠ 0 then s
  else queueHandshake s { core := 0, steep := true, other := e.2, coreState := 0, todo := [e.1], done := [], wasWait := false }

/-- STEEP_SLEEP. -/
def execSteepSleep (s : State) : Host.Outcome State Fault Refusal :=
  .next (
    if steepAt s 5 then
      let ms := max 1 (s.fl F.KT_STEEP_ARG (s.fl F.KT_STEEPSTAT_STEP 0))
      let s := s.steep.woken.foldl steepReturn s
      { s with steep := { s.steep with woken := [], run := 0, sleeping := some ms } }
    else s)

/-- The fixed table of R401, run to its CONTINUE or to its SLEEP, on the readings held. -/
def coldTable (s : State) : State :=
  let ok := fun (t : Int) => -40 ≤ t && t ≤ 125
  if ok (coldest s) && ok (hottest s) then
    let s := (s.setF F.KT_STEEPSTAT_STEP 0 6).setF F.KT_STEEPSTAT_ACC 0 (BitVec.ofInt 16 (hottest s)).toNat
    let s := { s with steep := { s.steep with fixed := false, sleeping := none } }
    steepContinue s
  else
    let acc := if ok (coldest s) then hottest s else coldest s
    let s := (s.setF F.KT_STEEPSTAT_STEP 0 4).setF F.KT_STEEPSTAT_ACC 0 (BitVec.ofInt 16 acc).toNat
    let s := if s.steep.coldWarned then s else dregsFree s 7 clsWarn 0x85
    { s with steep := { s.steep with sleeping := some 100, coldWarned := true } }

/-- STEEP_SLEEP_EXPIRY. -/
def execSteepSleepExpiry (s : State) : Host.Outcome State Fault Refusal :=
  .next (match s.steep.sleeping with
    | some _ =>
      let s := { s with steep := { s.steep with sleeping := none } }
      if s.steep.fixed then coldTable s
      else if steepRuns s then steepTo s (s.fl F.KT_STEEPSTAT_STEP 0 + 1)
      else s
    | none => s)

/-- STEEP_JUMP. -/
def execSteepJump (s : State) : Host.Outcome State Fault Refusal :=
  .next (if steepAt s 6 then steepGo s (s.fl F.KT_STEEP_A (s.fl F.KT_STEEPSTAT_STEP 0)) else s)

end Sys2Proof.Machine
end

