-- ==== Sys2Proof/Machine/Ports.lean ====
section
/-! DEFINITION. Infuser events, port groups and the own port (spec 20 R419 to R421; 22 R449 to R451, R458 to R466). -/

namespace Sys2Proof.Machine

/-! ### Infuser events -/

/-- The Infuser beside its registers. -/
def infOf (s : State) (i : Nat) : Infus := mget {} s.inf i
def putInf (s : State) (i : Nat) (x : Infus) : State := { s with inf := mset {} s.inf i x }

/-- A waiting EVT.WAIT returns where a selected event is pending: it writes and clears them (R421). -/
def evtReturn (s : State) (i : Fin 32) : State :=
  let p := Proc.infuser i
  match (s.cpu p).wait with
  | .evt d mask =>
    let x := infOf s i.val
    let got := x.events &&& mask.truncate 16
    if got = 0 then s
    else
      let s := (putInf s i.val { x with events := x.events &&& ~~~got }).setF F.IF_STAT_STATE i.val 1
      let pc := (s.cpu p).pc
      retire (s.setG p d (got.zeroExtend 64)) p pc (pc + 4) false
  | _ => s

/-- Event `e` sets its latch; a matching EVT.WAIT returns. -/
def infEvent (s : State) (i : Fin 32) (e : Nat) : State :=
  let x := infOf s i.val
  evtReturn (putInf s i.val { x with events := x.events ||| (1#16 <<< e) }) i

/-- INFUSER_EVENT. -/
def execInfuserEvent (i : Fin 32) (e : Fin 15) (s : State) : Host.Outcome State Fault Refusal :=
  .next (infEvent s i e.val)

/-- EVT_WAIT_TIMEOUT: a waiting EVT.WAIT with a timeout returns 0. -/
def execEvtWaitTimeout (i : Fin 32) (s : State) : Host.Outcome State Fault Refusal :=
  .next (
    let p := Proc.infuser i
    match (s.cpu p).wait with
    | .evt d mask =>
      if slice mask.toNat 47 16 = 0 then s
      else
        let s := s.setF F.IF_STAT_STATE i.val 1
        let pc := (s.cpu p).pc
        retire (s.setG p d 0) p pc (pc + 4) false
    | _ => s)

/-- EVT.WAIT d, a (R421). -/
def execEvtWait (p : Proc) (d a : RegNo) (s : State) : Host.Outcome State Fault Refusal :=
  .next (match p with
    | .infuser i =>
      evtReturn (runInstr p .infusers (fun s => .hold (s.setF F.IF_STAT_STATE i.val 2) (.evt d (s.g p a))) s) i
    | _ => runInstr p .infusers (fun s => .done s) s)

/-! ### Port groups -/

def portOf (s : State) (g : Nat) : Port := mget {} s.ports g
def putPort (s : State) (g : Nat) (x : Port) : State := { s with ports := mset {} s.ports g x }

/-- The group's port event, where EVMASK selects its cause `bit`: event 4 + EVT of its owner (R419, R449). -/
def portEvent (s : State) (g bit : Nat) : State :=
  if (portOf s g).evmask.getLsbD bit && s.fb F.IF_PGRP_VALID g then
    infEvent s (Fin.ofNat 32 (s.fl F.IF_PGRP_OWNER g)) (4 + s.fl F.IF_PGRP_EVT g)
  else s

/-- Bytes in a group's receive FIFO. -/
def rxUsed (p : Port) : Nat := (p.rx.map fun f => f.bytes.length).sum + p.cur.length

/-- Bytes in a group's transmit FIFO. -/
def txUsed (p : Port) : Nat := (p.tx.map fun f => f.bytes.length).sum + p.openTx.length

/-- Size of the receive FIFO: 16 KiB, and 32 KiB for a CSI-2 group. -/
def rxCap (g : Nat) : Nat := if g < 40 then 16384 else 32768

/-- A frame that began at fabric time `time` enters the receive FIFO with its descriptor, or is dropped with RXOVF (R449,
R450). A frame in error is counted and enters with ERR set (log 18). -/
def frameIn (s : State) (g tag time : Nat) (err : Bool) (bytes : List Byte) : State :=
  let p := portOf s g
  let p := if err then { p with err := true, errs := min 0xFFFF (p.errs + 1) } else p
  if 64 ≤ p.rx.length || rxCap g < rxUsed p + bytes.length then putPort s g { p with rxovf := true }
  else portEvent (putPort s g { p with rx := p.rx ++ [⟨tag % 256, err, time % 2 ^ 32, bytes⟩] }) g 0

/-- A group that is a CAN controller. -/
def isCan (g : Nat) : Bool := 16 ≤ g && g < 24

/-- A controller that is not bus-off is error passive while one of its counters is 128 or more (R461; log 17). -/
def canConfine (s : State) (c : Nat) : State :=
  if s.fl F.NW_CANSTAT_ESTATE c = 2 then s
  else s.setF F.NW_CANSTAT_ESTATE c (b2n (128 ≤ s.fl F.NW_CANSTAT_REC c || 128 ≤ s.fl F.NW_CANSTAT_TEC c))

/-- The receive error counter after a frame: ISO 11898-1 counts one down for a good frame (to 127 from above it) and
one up for a frame in error (R461; log 17). -/
def canReceived (s : State) (c : Nat) (err : Bool) : State :=
  let r := s.fl F.NW_CANSTAT_REC c
  canConfine (if err then s.bumpF F.NW_CANSTAT_REC c else s.setF F.NW_CANSTAT_REC c (if 127 < r then 127 else r - 1)) c

/-- The transmit error counter after a frame: one down where it was sent; eight up where its transmission failed, and
beyond 255 the controller goes bus-off (R461; log 17). -/
def canSent (s : State) (c : Nat) (failed : Bool) : State :=
  let t := s.fl F.NW_CANSTAT_TEC c
  if !failed then canConfine (s.setF F.NW_CANSTAT_TEC c (t - 1)) c
  else if 255 < t + 8 then (s.setF F.NW_CANSTAT_TEC c 255).setF F.NW_CANSTAT_ESTATE c 2
  else canConfine (s.setF F.NW_CANSTAT_TEC c (t + 8)) c

/-- The clock of a port runs: the references of the Ethernet ports may fail (02 R50); 10GBASE-R runs from EREF, SGMII
from the network PLL. -/
def portClock (s : State) (g : Nat) : Bool :=
  !(g < 8 && (clockFails s 4 || (4 ≤ g && clockFails s 21))) && !(16 ≤ g && g < 24 && s.clk.canFirc && clockFails s 1)

/-- Bits `hi` down to `lo` of a group's CFG. -/
def cfgBits (p : Port) (hi lo : Nat) : Nat := slice p.cfg.toNat hi lo

/-- The data lengths of a CAN FD frame beyond 8 bytes (ISO 11898-1; PRESUMED, log 17). -/
def fdLengths : List Nat := [12, 16, 20, 24, 32, 48, 64]

/-- A CAN frame as R451 lays it out, of a kind that CFG enables: CC up to 8 bytes, FD up to 64, XL up to 2 048. -/
def canForm (p : Port) (bytes : List Byte) : Bool :=
  let w := bytesNat (bytes.take 8)
  let len := slice w 44 33
  8 ≤ bytes.length && slice w 63 45 == 0 && bytes.length == 8 + len
    && (if bitAt w 31 then cfgBits p 7 7 == 1 && 1 ≤ len && len ≤ 2048
        else if bitAt w 30 then cfgBits p 6 6 == 1 && (len ≤ 8 || fdLengths.contains len)
        else len ≤ 8 && !bitAt w 32)

/-- The frame is one that the port's kind can carry (R451). -/
def frameForm (p : Port) (g : Nat) (bytes : List Byte) : Bool :=
  if g < 8 then bytes.length ≤ 9216 else if g < 16 then bytes.length ≤ 1518 else if g < 24 then canForm p bytes else true

/-- The segment has a transmit opportunity of node `id`: the coordinator, node 0, opens those of its node count, a follower
takes the coordinator's (R450, R460). -/
def plcaHas (p : Port) (id : Nat) : Bool := cfgBits p 5 1 ≠ 0 || id < cfgBits p 10 6

/-- TAG of a received 10BASE-T1S frame: the node of the transmit opportunity, which is another node's, or 255 under CSMA/CD
(R451). -/
def t1sTag (p : Port) (node : Nat) : Option Nat :=
  if cfgBits p 0 0 = 0 then some 255
  else if node < 32 && node ≠ cfgBits p 5 1 && plcaHas p node then some node
  else none

/-- Bits of an RS-485 character on the wire: start, data, parity and stop bits; and their time in ns. -/
def charBits (p : Port) : Nat := 1 + cfgBits p 27 24 + b2n (cfgBits p 29 28 ≠ 0) + 1 + cfgBits p 30 30
def bitsNs (p : Port) (n : Nat) : Nat := n * 10 ^ 9 / cfgBits p 23 0

/-- A character as received: its data bits, of nine the low eight (log 119). -/
def charData (p : Port) (b : Byte) : Byte := BitVec.ofNat 8 (b.toNat % 2 ^ cfgBits p 27 24)

/-- An RS-485 frame ends: it enters the receive FIFO with its first start bit's time; TAG bit 0 is its error. -/
def charsEnd (s : State) (g : Nat) : State :=
  let p := portOf s g
  if p.openRx.isEmpty then s
  else frameIn (putPort s g { p with openRx := [], openErr := false }) g (b2n p.openErr) p.openTime p.openErr p.openRx

/-- Characters arrive, the first at fabric time `time`: the delimiter ends a frame, of which it is part (R463). -/
def charsIn (s : State) (g : Nat) (err : Bool) : Nat → List Byte → State
  | _, [] => s
  | time, b :: bs =>
    let p := portOf s g
    let b := charData p b
    let s := putPort s g { p with openRx := p.openRx ++ [b], openErr := p.openErr || err,
                                  openTime := if p.openRx.isEmpty then time else p.openTime }
    let s := if cfgBits p 39 39 = 1 && b.toNat == cfgBits p 38 31 then charsEnd s g else s
    charsIn s g err (time + bitsNs p (charBits p)) bs

/-- Characters, and then an idle line: where CFG sets a number of idle characters, they end the frame. While DE is high the
receiver is off (R463). -/
def charsReceived (s : State) (g time : Nat) (err : Bool) (bytes : List Byte) : State :=
  let p := portOf s g
  if p.deRise ≤ time && time < p.deFall then s
  else
    let s := charsIn s g err time bytes
    if cfgBits p 46 40 = 0 then s else charsEnd s g

/-- The fabric time, not after the present, whose low 32 bits are `start`. -/
def frameStart (s : State) (start : BitVec 32) : Nat :=
  let now := s.fl F.EP_NOW_VALUE 0
  now - (now + 2 ^ 32 - start.toNat) % 2 ^ 32

/-- Group `g` receives: it is a network or field port, enabled, with its clock. -/
def portHears (s : State) (g : Nat) : Bool := g < 40 && (portOf s g).ctrl.getLsbD 0 && portClock s g

/-- A frame that began at `time` arrives at a port that receives; on RS-485 the characters between two idle
times of the line. `node` is the PLCA node of the transmit opportunity. A port does not
take a frame that its kind cannot carry, which a CAN controller counts as an error (log 119). -/
def frameArrives (s : State) (g time : Nat) (node : Byte) (bytes : List Byte) (err : Bool) : State :=
  let p := portOf s g
  if 24 ≤ g then charsReceived s g time err bytes
  else
    let fits := frameForm p g bytes
    let s := if isCan g then canReceived s (g - 16) (err || !fits) else s
    if !fits then s
    else if 8 ≤ g && g < 16 then
      match t1sTag p node.toNat with
      | some tag => frameIn s g tag time err bytes
      | none => s
    else frameIn s g 0 time err bytes

/-- Put a frame on the transmit queue. -/
def queueTx (p : Port) (bytes : List Byte) : Port :=
  { p with openTx := [], tx := p.tx ++ [⟨p.txlen.toNat / 2 ^ 16 % 256, p.txlen.getLsbD 24, bytes⟩] }

/-- An 8-byte append to the open frame; the frame is queued once it has TXLEN.LEN bytes (R450). -/
def txAppend (p : Port) (v : Word) : Port :=
  if 16384 < txUsed p + 8 then { p with openTx := [], txovf := true }
  else
    let o := p.openTx ++ natBytes v.toNat 8
    let len := p.txlen.toNat % 2 ^ 16
    if len ≠ 0 ∧ len ≤ o.length then queueTx p (o.take len) else { p with openTx := o }

/-- TXEND: the frame is closed, `v` giving the valid bytes of its last word. -/
def txClose (p : Port) (v : Word) : Port :=
  let n := v.toNat % 8
  if p.openTx.isEmpty then p
  else queueTx p (p.openTx.take (p.openTx.length - (if n = 0 then 0 else 8 - n)))

/-- STAT as read; the read clears [3:1] and [31:16]. -/
def statRead (p : Port) : Word × Port :=
  (BitVec.ofNat 64 (b2n p.up + b2n p.rxovf * 2 + b2n p.txovf * 4 + b2n p.err * 8 + p.errs * 2 ^ 16),
   { p with rxovf := false, txovf := false, err := false, errs := 0 })

/-- RXSTAT as read: the oldest descriptor, removed, its frame now current; 0 where there is none. -/
def rxstatRead (p : Port) : Word × Port :=
  match p.rx with
  | [] => (0, p)
  | f :: fs => (BitVec.ofNat 64 (f.tag + 2 ^ 8 + b2n f.err * 2 ^ 9 + f.bytes.length % 2 ^ 16 * 2 ^ 16 + f.time * 2 ^ 32),
                { p with rx := fs, cur := f.bytes })

/-- RXFIFO as read: the next 8 bytes of the current frame, 0 past its end. -/
def rxfifoRead (p : Port) : Word × Port :=
  (BitVec.ofNat 64 (bytesNat (p.cur.take 8)), { p with cur := p.cur.drop 8 })

/-- TXTS as read: the oldest unread time stamp, removed; 0 where there is none. -/
def txtsRead (p : Port) : Word × Port :=
  match p.stamps with
  | [] => (0, p)
  | t :: ts => (BitVec.ofNat 64 t, { p with stamps := ts })

/-- The registers of a group (R449). -/
def groupHas (g r : Nat) : Bool :=
  if g < 40 then r < 4 || (8 ≤ r && r < 14) else r == 2 || r == 3 || r == 8 || r == 9

/-- A read of a group's register. -/
def groupRead (p : Port) (r : Nat) : Word × Port :=
  match r with
  | 0 => (p.ctrl, p)
  | 1 => (p.cfg, p)
  | 2 => statRead p
  | 3 => (p.evmask, p)
  | 8 => rxstatRead p
  | 9 => rxfifoRead p
  | 10 => (p.txlen, p)
  | 13 => txtsRead p
  | _ => (0, p)

/-- A write of a group's register. CFG takes effect while EN = 0 only. -/
def groupWrite (p : Port) (r : Nat) (v : Word) : Port :=
  match r with
  | 0 => { p with ctrl := v }
  | 1 => if p.ctrl.getLsbD 0 then p else { p with cfg := v }
  | 3 => { p with evmask := v }
  | 10 => { p with txlen := v }
  | 11 => txAppend p v
  | 12 => txClose p v
  | _ => p

/-- The readiness unit (R57) and the domain of port group `g`. -/
def portUnit (g : Nat) : Nat := if g < 24 then 153 + g else if g < 40 then 168 + g else 96 + g
def portDomain (g : Nat) : Nat := if g < 40 then 44 else 43

/-- The gate of a group's registers (03 R58; 18 R392). -/
def portGate (s : State) (g : Nat) : Res Unit := gate s (some (portUnit g)) (some (portDomain g))

/-- A group's registers and FIFOs become `p`; where its transmit FIFO falls to half or less, that is its event (R449). -/
def portPut (s : State) (g : Nat) (p : Port) : State :=
  let was := txUsed (portOf s g)
  let s := putPort s g p
  if txUsed p ≤ 8192 && 8192 < was then portEvent s g 1 else s

/-- The rows of single port registers act on a group that has the register, once its gate is open. -/
def onGroup (s : State) (g r : Nat) (f : Port → Port) : State :=
  if groupHas g r then
    match portGate s g with
    | .ok _ s => portPut s g (f (portOf s g))
    | .fail _ s => s
    | .stall s => s
  else s

def execPortRxstatRead (g : Fin 56) (s : State) : Host.Outcome State Fault Refusal :=
  .next (onGroup s g.val 8 fun p => (rxstatRead p).2)
def execPortRxfifoRead (g : Fin 56) (s : State) : Host.Outcome State Fault Refusal :=
  .next (onGroup s g.val 9 fun p => (rxfifoRead p).2)
def execPortStatRead (g : Fin 56) (s : State) : Host.Outcome State Fault Refusal :=
  .next (onGroup s g.val 2 fun p => (statRead p).2)
def execPortTxtsRead (g : Fin 56) (s : State) : Host.Outcome State Fault Refusal :=
  .next (onGroup s g.val 13 fun p => (txtsRead p).2)
def execPortTxlenWrite (g : Fin 56) (v : Word) (s : State) : Host.Outcome State Fault Refusal :=
  .next (onGroup s g.val 10 fun p => groupWrite p 10 v)
def execPortTxfifoWrite (g : Fin 56) (v : Word) (s : State) : Host.Outcome State Fault Refusal :=
  .next (onGroup s g.val 11 fun p => groupWrite p 11 v)
def execPortTxend (g : Fin 56) (v : Word) (s : State) : Host.Outcome State Fault Refusal :=
  .next (onGroup s g.val 12 fun p => groupWrite p 12 v)
def execPortCtrlWrite (g : Fin 56) (v : Word) (s : State) : Host.Outcome State Fault Refusal :=
  .next (onGroup s g.val 0 fun p => groupWrite p 0 v)

/-! ### The own port -/

/-- SIGNAL: bit e raises source 512 + 16 i + e (R420). -/
def ownSignal (s : State) (i : Fin 32) (v : Word) : State :=
  (List.range 15).foldl (fun s e => if v.getLsbD e then raiseSource s (512 + 16 * i.val + e) else s) s

/-- TIMER: a one-shot of the written number of cycles; 0 stops it. -/
def ownTimer (s : State) (i : Fin 32) (v : Word) : State := putInf s i.val { infOf s i.val with timer := v.toNat }

/-- Slots of a ring as NG_RQCFG codes them: 2^SLOTS, where 0 acts as 1 (13, NG_RQCFG). -/
def ringSlots (code : Nat) : Nat := 2 ^ max 1 code

/-- Bytes of a slot: 128 × 2^STRIDE, where 7 acts as 6. -/
def ringStride (code : Nat) : Nat := 128 * 2 ^ min 6 code

/-- Number of slots of Infuser `i`'s reply ring: [19:16] of RRCFG. -/
def rrSlots (x : Infus) : Nat := ringSlots (slice x.rrcfg 19 16)

/-- RRREL: the oldest filled slots are released, at most the filled count. -/
def ownRelease (s : State) (i : Fin 32) (v : Word) : State :=
  let x := infOf s i.val
  let n := min v.toNat x.rrFill
  putInf s i.val { x with rrNext := (x.rrNext + n) % rrSlots x, rrFill := x.rrFill - n }

/-- A read of the own port: none where it has no such register. -/
def ownRead (s : State) (i : Fin 32) (r : Nat) : Option Word :=
  let x := infOf s i.val
  match r with
  | 0 => some (x.events.zeroExtend 64)
  | 1 => some 0
  | 2 => some (BitVec.ofNat 64 x.timer)
  | 3 => some (BitVec.ofNat 64 x.rrcfg)
  | 4 => some (BitVec.ofNat 64 (x.rrNext % 2 ^ 16 + x.rrFill % 2 ^ 16 * 2 ^ 16))
  | 5 => some 0
  | 6 => some (BitVec.ofNat 64 (s.fl F.EP_NOW_VALUE 0))
  | _ => none

/-- A write of the own port. -/
def ownWrite (s : State) (i : Fin 32) (r : Nat) (v : Word) : Option State :=
  match r with
  | 0 => some s
  | 1 => some (ownSignal s i v)
  | 2 => some (ownTimer s i v)
  | 3 => some (putInf s i.val { infOf s i.val with rrcfg := v.toNat })
  | 4 => some s
  | 5 => some (ownRelease s i v)
  | 6 => some s
  | _ => none

def execPortSignal (i : Fin 32) (v : Word) (s : State) : Host.Outcome State Fault Refusal := .next (ownSignal s i v)
def execPortTimerStart (i : Fin 32) (v : Word) (s : State) : Host.Outcome State Fault Refusal := .next (ownTimer s i v)
def execPortRrrel (i : Fin 32) (v : Word) (s : State) : Host.Outcome State Fault Refusal := .next (ownRelease s i v)

/-- INFUSER_TIMER_EXPIRY: the running one-shot reaches 0. -/
def execInfuserTimerExpiry (i : Fin 32) (s : State) : Host.Outcome State Fault Refusal :=
  .next (
    let x := infOf s i.val
    if x.timer = 0 then s else infEvent (putInf s i.val { x with timer := 0 }) i 3)

/-- The group is owned by Infuser `i` (R419). -/
def owns (s : State) (i : Fin 32) (g : Nat) : Bool := g < 56 && s.fb F.IF_PGRP_VALID g && s.fl F.IF_PGRP_OWNER g == i.val

/-- A read of a port register by Infuser `i`: one that it does not have is NO_TARGET (R420). -/
def portRead (s : State) (i : Fin 32) (a : Word) : Res Word :=
  let r := a.toNat % 256
  let g := a.toNat / 256
  if g = 0x3F then (match ownRead s i r with | some v => .ok v s | none => .fail beNoTarget s)
  else if owns s i g && groupHas g r then
    (portGate s g).bind fun _ s =>
      let (v, p) := groupRead (portOf s g) r
      .ok v (putPort s g p)
  else .fail beNoTarget s

/-- A write of a port register. -/
def portWrite (s : State) (i : Fin 32) (a v : Word) : Res Unit :=
  let r := a.toNat % 256
  let g := a.toNat / 256
  if g = 0x3F then (match ownWrite s i r v with | some s => .ok () s | none => .fail beNoTarget s)
  else if owns s i g && groupHas g r then
    (portGate s g).bind fun _ s => .ok () (portPut s g (groupWrite (portOf s g) r v))
  else .fail beNoTarget s

/-- PORT.RD d, a. A read that its port's domain or unit fails reads as zeros (18 R392). -/
def execPortRd (p : Proc) (d a : RegNo) (s : State) : Host.Outcome State Fault Refusal :=
  .next (runInstr p .infusers (fun s =>
    match p with
    | .infuser i => (match portRead s i (s.g p a) with
      | .ok v s => .done (s.setG p d v)
      | .fail e s => if e = beNoTarget then .exc (busError e aLoad (s.g p a)) s else .done (s.setG p d 0)
      | .stall s => .hold s .stall)
    | _ => .done s) s)

/-- PORT.WR a, b. -/
def execPortWr (p : Proc) (a b : RegNo) (s : State) : Host.Outcome State Fault Refusal :=
  .next (runInstr p .infusers (fun s =>
    match p with
    | .infuser i => (match portWrite s i (s.g p a) (s.g p b) with
      | .ok _ s => .done s
      | .fail e s => if e = beNoTarget then .exc (busError e aStore (s.g p a)) s else .done s
      | .stall s => .hold s .stall)
    | _ => .done s) s)

/-! ### The lines -/

/-- The entries of a gate list from an offset in its cycle on, the first cut there. -/
def gatesFrom : List (Nat × Nat) → Nat → List (Nat × Nat)
  | [], _ => []
  | (g, n) :: rest, off => if off < n then (g, n - off) :: rest else gatesFrom rest (off - n)

/-- How long the gate of class `t` stays open from the beginning of the entries on, in ns. -/
def gateOpen (t : Nat) : List (Nat × Nat) → Nat
  | [] => 0
  | (g, n) :: rest => if bitAt g t then n + gateOpen t rest else 0

/-- Time of an Ethernet frame in ns: preamble and SFD, the frame padded to 60 bytes, FCS; at 10 Gbit/s or the SGMII
speed of CFG, whose code 3 acts as 2 (IEEE 802.3; log 119). -/
def frameNs (p : Port) (g len : Nat) : Nat :=
  let mbit := if g < 4 then 10000 else match cfgBits p 1 0 with | 0 => 10 | 1 => 100 | _ => 1000
  ((8 + max 60 len + 4) * 8000 + mbit - 1) / mbit

/-- A frame of class `t` that takes `ns` on Ethernet port `n` ends before its gate closes, if it starts now; the gates of
the operational list are where EP_NOW stands in its cycle (R459). -/
def classGated (s : State) (n t ns : Nat) : Bool :=
  let x : Gates := mget {} s.gates n
  let cycle := (x.oper.map (·.2)).sum
  let now := s.fl F.EP_NOW_VALUE 0
  x.base ≤ now && !x.oper.isEmpty
    && (x.oper.all (fun e => bitAt e.1 t) || ns ≤ gateOpen t (gatesFrom x.oper ((now - x.base) % cycle) ++ x.oper ++ x.oper))

/-- Take the first member of a list that satisfies `p`. -/
def takeFirst {α : Type} (p : α → Bool) : List α → Option (α × List α)
  | [] => none
  | x :: xs => if p x then some (x, xs) else (takeFirst p xs).map fun r => (r.1, x :: r.2)

/-- Queued frames that the port's kind cannot carry are discarded unsent (log 119). -/
def txClean (p : Port) (g : Nat) : Port := { p with tx := p.tx.filter fun f => frameForm p g f.bytes }

/-- Frames that one transmission sends: one, and in a PLCA transmit opportunity as many more as the largest burst (R450,
R460). -/
def txBurst (p : Port) (g : Nat) : Nat :=
  if 8 ≤ g && g < 16 && cfgBits p 0 0 = 1 then (if plcaHas p 0 then 1 + cfgBits p 14 11 else 0) else 1

/-- A frame of the transmit FIFO leaves; its start is stamped where TXLEN.TS asked for it. -/
def txOne (s : State) (g : Nat) : State :=
  let p := portOf s g
  match takeFirst (fun f => 8 ≤ g || classGated s g (f.tag % 8) (frameNs p g f.bytes.length)) p.tx with
  | none => s
  | some (f, rest) =>
    let now := s.fl F.EP_NOW_VALUE 0
    portPut s g { p with tx := rest, stamps := if f.ts then p.stamps ++ [now] else p.stamps,
                         deRise := now - bitsNs p 1,
                         deFall := now + bitsNs p (f.bytes.length * charBits p) + (bitsNs p 1 + 1) / 2 }

/-- The next CAN frame: a slot's, before those of TXFIFO (R462). A failed one stays queued. -/
def canOne (s : State) (g : Nat) (failed : Bool) : State :=
  let p := portOf s g
  if p.slots.isEmpty && p.tx.isEmpty then s
  else
    let s := canSent s (g - 16) failed
    if failed then s
    else match p.slots with
      | _ :: rest => putPort s g { p with slots := rest }
      | [] => txOne s g

/-- FRAME_TRANSMITTED: the next queued frame starts and is sent: on a CAN controller a slot's frame first (R462), on an
Ethernet port the first frame whose gate stays open for it (R459), on a 10BASE-T1S segment with PLCA the frames of a
transmit opportunity (R460). `failed`: a CAN frame meets an error, a frame of a CSMA/CD segment a collision, and stays. A
disabled port, or a bus-off controller, sends nothing. -/
def execFrameTransmitted (g : Fin 56) (failed : Bool) (s : State) : Host.Outcome State Fault Refusal :=
  .next (
    let p := portOf s g.val
    if 40 ≤ g.val || !p.ctrl.getLsbD 0 || !portClock s g.val
        || (isCan g.val && s.fl F.NW_CANSTAT_ESTATE (g.val - 16) == 2) then s
    else
      let s := portPut s g.val (txClean p g.val)
      if isCan g.val then canOne s g.val failed
      else if failed && 8 ≤ g.val && g.val < 16 && cfgBits p 0 0 = 0 then s
      else (List.range (txBurst p g.val)).foldl (fun s _ => txOne s g.val) s)

/-- The VALID entries of a gate list. -/
def gateList (s : State) (n : Nat) : List (Nat × Nat) :=
  (List.range 64).filterMap fun e =>
    let k := 64 * n + e
    if s.fb F.NW_GCL_VALID k then some (s.fl F.NW_GCL_GATES k, s.fl F.NW_GCL_INTERVAL k) else none

/-- A write of a gate list or its base. Where no epochs run it is active at once (14 R307) and the list is new for its next
cycle start, as after a Pour. -/
def gateWrite (s : State) (w : Wr) (n : Nat) (put : State → State) : State :=
  atRing0 s w fun s =>
    let s := put s
    if s.epochOn then s else { s with gates := mset {} s.gates n { mget {} s.gates n with fresh := true } }

/-- NW_GCLn,e and NW_GCLBASEn. -/
def gclWrite (s : State) (w : Wr) (k : Nat) : State := gateWrite s w (k / 64) fun s => putFields s w G.NW_GCL.fields k (k / 64)
def gclbaseWrite (s : State) (w : Wr) (n : Nat) : State := gateWrite s w n fun s => putFields s w G.NW_GCLBASE.fields n n

/-- GATE_CYCLE_START: a newly poured list becomes operational at this cycle start of its own, none of which is before its
base (R459). -/
def execGateCycleStart (n : Fin 8) (s : State) : Host.Outcome State Fault Refusal :=
  .next (
    let x := mget {} s.gates n.val
    if x.fresh && s.fl F.NW_GCLBASE_BASE n.val ≤ s.fl F.EP_NOW_VALUE 0 then
      { s with gates := mset {} s.gates n.val { oper := gateList s n.val, base := s.fl F.NW_GCLBASE_BASE n.val, fresh := false } }
    else s)

/-- The frame of slot `i` as R451 lays frames out: word 0 with the data length, then the data bytes (R462). -/
def slotFrame (s : State) (i : Nat) : List Byte :=
  let len := min 8 (s.fl F.NW_CANSLOT_LEN i)
  natBytes (s.fl F.NW_CANSLOT_HEADER i + len * 2 ^ 33) 8 ++ (natBytes (s.fl F.NW_CANSLOTD_DATA i) 8).take len

/-- At a tick, slot frames still queued are abandoned and counted in MISSED (R462); every slot may queue again. -/
def canAbandon (s : State) : State :=
  (List.range 8).foldl (fun s c =>
    let p := portOf s (16 + c)
    putPort (p.slots.foldl (fun s _ => s.bumpF F.NW_CANSTAT_MISSED c) s) (16 + c) { p with slots := [], queued := 0 }) s

/-- CAN_BUS_OFF_RECOVERY: with AUTOREC a bus-off controller rejoins, error active (R461). -/
def execCanBusOffRecovery (c : Fin 8) (s : State) : Host.Outcome State Fault Refusal :=
  .next (
    if s.fl F.NW_CANSTAT_ESTATE c.val = 2 ∧ (portOf s (16 + c.val)).cfg.getLsbD 8 then
      ((s.setF F.NW_CANSTAT_ESTATE c.val 0).setF F.NW_CANSTAT_TEC c.val 0).setF F.NW_CANSTAT_REC c.val 0
    else s)

/-- PORT_LINK_CHANGE (R466). -/
def execPortLinkChange (g : Fin 56) (up : Bool) (s : State) : Host.Outcome State Fault Refusal :=
  .next (
    let p := portOf s g.val
    if p.up = up then s
    else
      let s := putPort s g.val { p with up := up }
      let s := if g.val < 40 then raiseSource s (384 + g.val) else s
      let s := if up then s else dregsFree s (0x380 + g.val) clsWarn 0xA00
      portEvent s g.val 2)

def execPcieMsi (n : Fin 2) (s : State) : Host.Outcome State Fault Refusal := .next (raiseSource s (442 + n.val))
def execPcieLinkChange (n : Fin 2) (s : State) : Host.Outcome State Fault Refusal := .next (raiseSource s (440 + n.val))

end Sys2Proof.Machine
end

