-- ==== Sys2Proof/Machine/Engine.lean ====
section
/-! DEFINITION. Requests of the engines without a cache (spec 16 R356, R358; 19 R408), the camera inputs, the codec
engine, inbound PCIe requests and the USB ports (22 R452 to R457, R464, R465). -/

namespace Sys2Proof.Machine

/-! ### Requests -/

/-- Cut a range into pieces that stay within one line; `n` bounds the number of pieces. -/
def linePieces : Nat → Nat → Nat → List (Nat × Nat)
  | 0, _, _ => []
  | n + 1, off, len =>
    if len = 0 then []
    else
      let m := min len (64 - off % 64)
      (off, m) :: linePieces n (off + m) (len - m)

/-- The pieces of a range. -/
def pieces (off len : Nat) : List (Nat × Nat) := linePieces (len / 64 + 2) off len

/-- The gates of a request at an offset: its target's, and that of the L3 slice of its line (03 R58; 18 R392). -/
def dmaGate (s : State) (off : Nat) : Res Unit :=
  match gateOff s off with
  | .ok _ s => sliceGate s (off / 64)
  | r => r

/-- A unit that a request to a memory target needs is not ready yet, or a domain is not on. -/
def gateWaits (s : State) (off len : Nat) : Bool :=
  (pieces off len).any fun e => match dmaGate s e.1 with | .stall _ => true | _ => false

/-- A request to a memory target must wait: for its units, or because it asks for a mirrored line that is being undone. -/
def mustWait (s : State) (off len : Nat) : Bool :=
  gateWaits s off len || (pieces off len).any fun e => mirrorStalls s (e.1 / 64)

/-- The request's wake of the domains it waits for (18 R392). -/
def askWake (s : State) (off len : Nat) : State :=
  (pieces off len).foldl (fun s e => match dmaGate s e.1 with | .stall s => s | .ok _ s => s | .fail _ s => s) s

/-- The offset is DRAM, scratch SRAM or boot ROM. -/
def isMemory (s : State) (off : Nat) : Bool :=
  match target s off with | .dram _ => true | .scratch => true | .rom => true | _ => false

/-- Every byte of a range is DRAM or scratch SRAM. -/
def inRam (s : State) (off len : Nat) : Bool :=
  (pieces off len).all fun e => match target s e.1 with | .dram _ => true | .scratch => true | _ => false

/-- The Strainers in front of a request's pieces: where one refuses, the request performs no part of its access (R358), and
this is the state after the violation. A read that the L3 serves reaches no channel (R355; log 115). -/
def admitPieces (s : State) (cls : Nat) (part : Option Nat) (kind : ReqKind) : List (Nat × Nat) → Option State
  | [] => none
  | (off, n) :: rest =>
    match (if kind == 0 && l3Holds (off / 64) && (newest s (off / 64)).isSome then none else strainerOf s off) with
    | some x => (match strain s x cls part kind off n with
      | (true, s) => admitPieces s cls part kind rest
      | (false, s) => some s)
    | none => admitPieces s cls part kind rest

/-- An engine of class `cls` reads a range; what is refused or fails reads as zeros (R358). Whether every piece was
read. -/
def engineRead (s : State) (cls : Nat) (part : Option Nat) : List (Nat × Nat) → Bool × List Byte × State
  | [] => (true, [], s)
  | (off, n) :: rest =>
    let (ok, v, s) :=
      if isMemory s off then
        match snoopRead s cls part 0 off n with
        | .ok v s => (true, v, s)
        | .fail _ s => (false, 0, s)
        | .stall s => (false, 0, s)
      else (false, 0, s)
    let (ok2, bs, s) := engineRead s cls part rest
    (ok && ok2, natBytes v n ++ bs, s)

/-- An engine writes bytes; what is refused or fails is discarded (R358), and so is, but for the mirror unit (class 4),
what a mirrored line of a device that is not PRIMARY would take (15 R329). Whether every piece was written. -/
def engineWrite (s : State) (cls : Nat) (part : Option Nat) (bs : List Byte) : List (Nat × Nat) → Bool × State
  | [] => (true, s)
  | (off, n) :: rest =>
    let (ok, s) :=
      if isMemory s off && target s off != .rom && (cls == 4 || !mirrorDenied s (off / 64)) then
        match snoopWrite s cls part 1 off n (bytesNat (bs.take n)) with
        | .ok _ s => (true, s)
        | .fail _ s => (false, s)
        | .stall s => (false, s)
      else (false, s)
    let (ok2, s) := engineWrite s cls part (bs.drop n) rest
    (ok && ok2, s)

/-- An engine's request for a range: one that a Strainer refuses reads as zeros and writes nothing (R358). -/
def rangeRead (s : State) (cls : Nat) (part : Option Nat) (off n : Nat) : Bool × List Byte × State :=
  match admitPieces s cls part 0 (pieces off n) with
  | some s => (false, List.replicate n 0, s)
  | none => engineRead s cls part (pieces off n)
def dmaRead (s : State) (cls : Nat) (part : Option Nat) (off n : Nat) : List Byte × State := (rangeRead s cls part off n).2
def dmaWrite (s : State) (cls : Nat) (part : Option Nat) (off : Nat) (bs : List Byte) : State :=
  match admitPieces s cls part 1 (pieces off bs.length) with
  | some s => s
  | none => (engineWrite s cls part bs (pieces off bs.length)).2

/-! ### Cameras (R452 to R454) -/

def camOf (s : State) (k : Nat) : Cam := mget {} s.cams.inputs k
def putCam (s : State) (k : Nat) (x : Cam) : State := { s with cams := { s.cams with inputs := mset {} s.cams.inputs k x } }

/-- Input `k` exists and is enabled: input 2p always, input 2p + 1 where the port is split (R452). -/
def inputOn (s : State) (k : Nat) : Bool := s.fb F.CM_INCFG_EN k && (k % 2 = 0 || s.fb F.CM_INCFG_SPLIT (k - 1))

/-- Data types that an input accepts: RAW8, RAW10, RAW12, YUV422 8-bit, RGB888, in the codes of MIPI CSI-2 (PRESUMED,
log 19). -/
def csiTypes : List Nat := [0x2A, 0x2B, 0x2C, 0x1E, 0x24]

/-- A frame has ended: CUR advances over NBUF + 1 buffers, FRAMES counts it, and source 320 + k is raised (R454, R466;
log 104). -/
def camAdvance (s : State) (k : Nat) : State :=
  let cur := s.fl F.CM_INSTAT_CUR k
  let s := s.setF F.CM_INSTAT_CUR k (if s.fl F.CM_INCFG_NBUF k ≤ cur then 0 else cur + 1)
  raiseSource (s.setF F.CM_INSTAT_FRAMES k (s.fl F.CM_INSTAT_FRAMES k + 1)) (320 + k)

/-- CAMERA_FRAME_END (R454). -/
def execCameraFrameEnd (k : Fin 32) (s : State) : Host.Outcome State Fault Refusal :=
  .next (
    if inputOn s k.val && (camOf s k.val).inFrame then
      camAdvance (putCam s k.val { inFrame := false, line := 0 }) k.val
    else s)

/-- Local offset of line `n` of the buffer being written. -/
def camLineAt (s : State) (k n : Nat) : Nat :=
  s.fl F.CM_INBUF_BASE k * 4096 + s.fl F.CM_INSTAT_CUR k * s.fl F.CM_INBUF_BUFSZ k * 65536
    + n * s.fl F.CM_INBUF_STRIDE k * 64

/-- CSI_PACKET (R452 to R454): a packet of another channel or type, or with an uncorrectable header, is discarded; a
line is written, and enters the tap FIFO with the fabric time of its start; a CRC error is counted. A line of a frame whose start was not seen is
discarded. -/
def execCsiPacket (k : Fin 32) (start : BitVec 32) (vc : BitVec 2) (dt : BitVec 6) (kind : CsiKind) (headerOk crcOk : Bool)
    (bytes : List Byte) (s : State) : Host.Outcome State Fault Refusal :=
  .next (
    let c := camOf s k.val
    if inputOn s k.val && headerOk && kind == .line && c.inFrame && vc.toNat == s.fl F.CM_INCFG_VC k.val
        && dt.toNat == s.fl F.CM_INCFG_DT k.val && csiTypes.contains dt.toNat then
      let write := s.fb F.CM_INCFG_WRITE k.val
      let off := camLineAt s k.val c.line
      if write && mustWait s off bytes.length then askWake s off bytes.length
      else
        let s := if write then dmaWrite s 5 none off bytes else s
        let s := if crcOk then s else s.bumpF F.CM_INSTAT_CRCERR k.val
        let s := putCam s k.val { c with line := c.line + 1 }
        if s.fb F.CM_INCFG_TAP k.val then
          frameIn s (40 + k.val / 2) (k.val % 2 + vc.toNat * 2) (frameStart s start) (!crcOk) bytes
        else s
    else s)

/-- CAMERA_FRAME_START (R453, R454): a frame without its end is ended and counted in DROPPED; the input's fields
pour. -/
def execCameraFrameStart (k : Fin 32) (s : State) : Host.Outcome State Fault Refusal :=
  .next (
    if inputOn s k.val then
      let s := if (camOf s k.val).inFrame then (camAdvance s k.val).bumpF F.CM_INSTAT_DROPPED k.val else s
      let s := [F.CM_INCFG_WRITE, F.CM_INCFG_TAP, F.CM_INCFG_VC, F.CM_INCFG_DT, F.CM_INCFG_NBUF, F.CM_INBUF_BASE,
        F.CM_INBUF_STRIDE, F.CM_INBUF_BUFSZ].foldl (fun s f => s.pourF f k.val) s
      putCam s k.val { inFrame := true, line := 0 }
    else s)

/-- CM_INCFGk: SPLIT changes on even inputs while both inputs of the port have EN = 0; a rise of EN starts FRAMES anew. -/
def incfgWrite (s : State) (w : Wr) (k : Nat) : State :=
  atRing0 s w fun s =>
    let was := s.fb F.CM_INCFG_EN k
    let both := !s.fb F.CM_INCFG_EN k && !s.fb F.CM_INCFG_EN (if k % 2 = 0 then k + 1 else k - 1)
    let s := if k % 2 = 0 && both then putField s w F.CM_INCFG_SPLIT k k else s
    let s := putFields s w [F.CM_INCFG_EN, F.CM_INCFG_LANES, F.CM_INCFG_WRITE, F.CM_INCFG_TAP, F.CM_INCFG_VC,
      F.CM_INCFG_DT, F.CM_INCFG_NBUF] k k
    if s.fb F.CM_INCFG_EN k && !was then (putCam s k {}).setF F.CM_INSTAT_FRAMES k 0
    else if !s.fb F.CM_INCFG_EN k && was then putCam s k {}
    else s

/-! ### The codec engine (R455 to R457) -/

/-- Local offset of job slot `n`. -/
def jobAt (s : State) (n : Nat) : Nat := s.fl F.CM_CQBASE_BASE 0 * 2048 + 32 * n

/-- The engine takes the next job of the ring, in order, when none runs. -/
def codecTake (s : State) : State :=
  let h := s.fl F.CM_CQTAIL_HEAD 0
  if s.cams.job.isSome || h % 64 = s.fl F.CM_CQTAIL_TAIL 0 then s
  else { (s.setF F.CM_CQTAIL_HEAD 0 ((h + 1) % 64)) with
           cams := { inputs := s.cams.inputs, job := some h } }

/-- CM_CQTAIL. -/
def cqtailWrite (s : State) (w : Wr) : State := atRing0 s w fun s => codecTake (putField s w F.CM_CQTAIL_TAIL 0 0)

/-- CM_CQTAIL_WRITE. -/
def execCmCqtailWrite (q : Requester) (v : Word) (s : State) : Host.Outcome State Fault Refusal :=
  rowWrite q 0xE03200008 v cqtailWrite s

/-- Bytes `lo` to `lo + n - 1` of a job, as a number (R456). -/
def jobPart (job : List Byte) (lo n : Nat) : Nat := bytesNat ((job.drop lo).take n)

/-- The job encodes; it is a LOWLAT encode. -/
def jobEncodes (job : List Byte) : Bool := bitAt (jobPart job 0 1) 0
def jobLowlat (job : List Byte) : Bool := jobEncodes job && bitAt (jobPart job 0 1) 2

/-- The most bytes that a picture of the job takes: 4:2:0, in at most two bytes a sample. -/
def jobPicture (job : List Byte) : Nat :=
  let size := jobPart job 1 3
  3 * (size % 2 ^ 12 * 8) * (size / 2 ^ 12 * 8)

/-- Height of the job's picture in lines, and the slices of a LOWLAT encode, 64 lines high (R457). -/
def jobHeight (job : List Byte) : Nat := jobPart job 1 3 / 2 ^ 12 * 8
def jobSlices (job : List Byte) : Nat := (jobHeight job + 63) / 64

/-- The camera input that a LOWLAT encode is linked to, and its source: where the buffer begins that the input writes, or
wrote at the first slice, and FRAMES of that time (R457). -/
def jobCam (job : List Byte) : Nat := jobPart job 0 1 / 8
def jobSource (s : State) (job : List Byte) : Nat × Nat :=
  s.cams.source.getD (camLineAt s (jobCam job) 0, s.fl F.CM_INSTAT_FRAMES (jobCam job))

/-- The writer has stored the lines of the next slice: they are before the line that comes next, or the frame has ended. -/
def sliceStored (s : State) (job : List Byte) : Bool :=
  s.fl F.CM_INSTAT_FRAMES (jobCam job) ≠ (jobSource s job).2
    || ((camOf s (jobCam job)).inFrame && min (64 * (s.cams.slices + 1)) (jobHeight job) ≤ (camOf s (jobCam job)).line)

/-- Where the job's input starts, and its most bytes; of a LOWLAT encode, those of its next slice. -/
def jobInput (s : State) (job : List Byte) : Nat × Nat :=
  if jobLowlat job then
    let pitch := s.fl F.CM_INBUF_STRIDE (jobCam job) * 64
    ((jobSource s job).1 + 64 * s.cams.slices * pitch, 64 * pitch)
  else (jobPart job 8 8, if jobEncodes job then jobPicture job else jobPart job 24 4)

/-- Where the job's output starts, and its most bytes. -/
def jobOutput (job : List Byte) : Nat × Nat :=
  (jobPart job 16 8, if jobEncodes job then jobPart job 24 4 else jobPicture job)

/-- Write bytes into the job's output, a ring of a LOWLAT encode, from its place `out` on. -/
def ringWrite (s : State) (job : List Byte) (out : Nat) (bs : List Byte) : State :=
  let (base, size) := jobOutput job
  let first := min bs.length (size - out)
  dmaWrite (dmaWrite s 5 none (base + out) (bs.take first)) 5 none base (bs.drop first)

/-- The engine reads input of the job and writes output, as class 5. How much, and the bytes of a picture, which the codec
standards give and the spec does not, are free values (log 8, 20). -/
def codecData (s : State) (job : List Byte) : State :=
  let (k1, s) := s.takeFree
  let (k2, s) := s.takeFree
  let (k3, s) := s.takeFree
  let input := jobInput s job
  let output := jobOutput job
  let n := Config.freeNat k3 % (output.2 + 1)
  let out := s.cams.out
  let s := (dmaRead s 5 none input.1 (Config.freeNat k1 % (input.2 + 1))).2
  let s := ringWrite s job out (natBytes (Config.freeNat k2) n)
  { s with cams := { s.cams with out := if output.2 = 0 then 0 else (out + n) % output.2 } }

/-- The memory of the job's input or output is not on: the engine waits. -/
def codecWaits (s : State) (job : List Byte) : Bool :=
  mustWait s (jobInput s job).1 (jobInput s job).2 || mustWait s (jobOutput job).1 (jobOutput job).2

/-- The job that runs, as read from its slot, acts by `f`, once all its memory is on. -/
def onJob (s : State) (f : Nat → List Byte → State → State) : State :=
  match s.cams.job with
  | none => s
  | some n =>
    let off := jobAt s n
    if mustWait s off 32 then askWake s off 32
    else
      let (job, s) := dmaRead s 5 none off 32
      if codecWaits s job then
        askWake (askWake s (jobInput s job).1 (jobInput s job).2) (jobOutput job).1 (jobOutput job).2
      else f off job s

/-- CODEC_JOB_COMPLETE: the engine has written the job's output and writes its status; source 352, or 354 for a job in
error. A LOWLAT encode is complete when its last slice is in the ring (R457). -/
def execCodecJobComplete (ok : Bool) (status : BitVec 32) (s : State) : Host.Outcome State Fault Refusal :=
  .next (onJob s fun off job s =>
    if ok && jobLowlat job && s.cams.slices < jobSlices job then s
    else
      let s := if jobLowlat job then s else codecData s job
      let s := dmaWrite s 5 none (off + 28) (natBytes status.toNat 4)
      let s := { s with cams := { s.cams with job := none } }
      codecTake (raiseSource s (if ok then 352 else 354)))

/-- CODEC_SLICE_READY: the next slice of a LOWLAT encode, whose source lines are stored, is in the output ring (R457). -/
def execCodecSliceReady (s : State) : Host.Outcome State Fault Refusal :=
  .next (onJob s fun _ job s =>
    if jobLowlat job && s.cams.slices < jobSlices job && sliceStored s job then
      let source := jobSource s job
      let s := codecData s job
      raiseSource { s with cams := { s.cams with slices := s.cams.slices + 1, source := some source } } 353
    else s)

/-! ### PCIe -/

/-- The bus request of an access to an outbound window: the first 1 MiB of a port's 2 MiB is ECAM of bus 1, the second maps
bus addresses from NW_PCIBAR (R464). -/
def outboundRequest (s : State) (off n : Nat) (data : Option Nat) : State :=
  let p := (off - 0xE04400000) / 0x200000
  let o := (off - 0xE04400000) % 0x200000
  let req : PcieReq :=
    if o < 0x100000 then ⟨true, o, n, data⟩
    else ⟨false, s.fl F.NW_PCIBAR_BASE p * 2 ^ 20 + (o - 0x100000), n, data⟩
  { s with pcie := mset {} s.pcie p req }

/-- PCIE_INBOUND_REQUEST (R464): a bus address below 2^36 that names DRAM or the scratch SRAM is read or written as
class 6; every other gets Unsupported Request. What a read returns leaves on the link. A payload beyond 256 bytes or a
read beyond 512 is not supported and has no effect (log 119). -/
def execPcieInboundRequest (n : Fin 2) (addr : BitVec 64) (isWrite : Bool) (bytes : List Byte) (s : State) :
    Host.Outcome State Fault Refusal :=
  .next (
    let off := addr.toNat
    if s.ready (208 + n.val) && bytes.length ≤ (if isWrite then 256 else 512) && off < 2 ^ 36 && inRam s off bytes.length then
      if mustWait s off bytes.length then askWake s off bytes.length
      else if isWrite then dmaWrite s 6 none off bytes
      else (dmaRead s 6 none off bytes.length).2
    else s)

/-! ### USB -/

def usbOf (s : State) (u : Nat) : Usb := mget {} s.usb u
def putUsb (s : State) (u : Nat) (x : Usb) : State := { s with usb := mset {} s.usb u x }

/-- Port `u` is configured with the bulk endpoint `ep`. -/
def usbHas (s : State) (u ep : Nat) : Bool := match (usbOf s u).bulk with | some n => decide (ep < n.val) | none => false

/-- What an event of the bus does to port `u` (R465). A bulk endpoint's buffer is moved as class 6; an endpoint that the
configuration lacks moves nothing. -/
def usbEvent (s : State) (u : Nat) : UsbEvent → State
  | .reset speed => putUsb s u { speed := some speed, bulk := none }
  | .configure bulk => putUsb s u { usbOf s u with bulk := some bulk }
  | .deconfigure => putUsb s u { usbOf s u with bulk := none }
  | .bulkOut ep addr bytes => if usbHas s u ep.val then dmaWrite s 6 none addr.toNat bytes else s
  | .bulkIn ep addr len => if usbHas s u ep.val then (dmaRead s 6 none addr.toNat len).2 else s
  | .other => s

/-- The event's transfer must wait for its memory; the range. -/
def usbWaits (s : State) (u : Nat) : UsbEvent → Option (Nat × Nat)
  | .bulkOut ep addr bytes =>
    if usbHas s u ep.val && mustWait s addr.toNat bytes.length then some (addr.toNat, bytes.length) else none
  | .bulkIn ep addr len => if usbHas s u ep.val && mustWait s addr.toNat len then some (addr.toNat, len) else none
  | _ => none

/-- USB_BUS_EVENT (R465, R466). -/
def execUsbBusEvent (n : Fin 2) (e : UsbEvent) (s : State) : Host.Outcome State Fault Refusal :=
  .next (match usbWaits s n.val e with
    | some (off, len) => askWake s off len
    | none => raiseSource (usbEvent s n.val e) (448 + n.val))

end Sys2Proof.Machine
end

