-- ==== Sys2Proof/Machine/Links.lean ====
section
/-! DEFINITION. Links, mirror ports and bonds: training, negotiation, authentication, flits and credit, errors and
quarantine (spec 12 R243 to R270; 15 R316 to R318). Numbers 0 to 31 are links, 32 and 33 mirror ports, 33 + b bond b;
the mirror ports keep the credit of their one stream at number 32. -/

namespace Sys2Proof.Machine

def lk (s : State) (n : Nat) : Link := mget {} s.links n
def putLk (s : State) (n : Nat) (x : Link) : State := { s with links := mset {} s.links n x }

/-- Fabric time in ns. -/
def fabNow (s : State) : Nat := s.fl F.EP_NOW_VALUE 0

/-- STATE of a link or mirror port: 0 OFF, 1 TRAIN, 2 ABSENT, 3 NEGOTIATE, 4 AUTH, 5 ACTIVE, 6 RETRAIN, 7 STALLED,
8 QUARANTINED, 9 REFUSED. -/
def lstate (s : State) (n : Nat) : Nat := if n < 32 then s.fl F.NG_LINKSTAT_STATE n else s.fl F.MR_PORTSTAT_STATE (n - 32)

/-- NG_LINKSTATn[31:0]. -/
def linkWord (s : State) (n : Nat) : Nat :=
  s.fl F.NG_LINKSTAT_STATE n + s.fl F.NG_LINKSTAT_REASON n * 2 ^ 4 + s.fl F.NG_LINKSTAT_VERSION n * 2 ^ 8
    + s.fl F.NG_LINKSTAT_CAP n * 2 ^ 16 + s.fl F.NG_LINKSTAT_UNTIMED n * 2 ^ 26 + s.fl F.NG_LINKSTAT_BONDED n * 2 ^ 27
    + s.fl F.NG_LINKSTAT_DELAY n % 16 * 2 ^ 28

/-- MR_PORTSTATm[31:0]. -/
def portWord (s : State) (m : Nat) : Nat :=
  s.fl F.MR_PORTSTAT_STATE m + s.fl F.MR_PORTSTAT_REASON m * 2 ^ 4 + s.fl F.MR_PORTSTAT_UNTIMED m * 2 ^ 8
    + s.fl F.MR_PORTSTAT_REDUCED m * 2 ^ 9 + s.fl F.MR_PORTSTAT_DELAY m % 16 * 2 ^ 28

/-- The record of a link event (R270). -/
def linkRecord (s : State) (n code cls : Nat) : State := if n < 32 then dregs s (0x200 + n) cls code (linkWord s n) else s

/-- MR_STAT.PORTm: 0 OFF, 1 TRAIN, 2 ACTIVE, 3 REFUSED. -/
def portSummary (st : Nat) : Nat := if st = 0 then 0 else if st = 5 ∨ st = 7 then 2 else if st = 9 then 3 else 1

/-- STATE and REASON change: source 128 + n for a link; for a mirror port that goes up or down, or is refused, source
207 and the record 0x0409 (R270; 15 R317, R339). -/
def setLink (s : State) (n st reason : Nat) : State :=
  let was := lstate s n
  if n < 32 then
    let s := (s.setF F.NG_LINKSTAT_STATE n st).setF F.NG_LINKSTAT_REASON n reason
    if was = st then s else raiseSource s (128 + n)
  else
    let m := n - 32
    let s := (s.setF F.MR_PORTSTAT_STATE m st).setF F.MR_PORTSTAT_REASON m reason
    let s := s.setF (if m = 0 then F.MR_STAT_PORT0 else F.MR_STAT_PORT1) 0 (portSummary st)
    let up := st = 5
    if (up && was != 5 && was != 7) || (!up && st != 7 && (was = 5 || was = 7)) || (st = 9 && was != 9) then
      dregs (raiseSource s 207) 0x240 (if up then clsInfo else clsWarn) 0x409 (portWord s m)
    else s

/-- The bond of a link, where it is a member in use: its number 33 + b. -/
def bondOf (s : State) (n : Nat) : Option Nat :=
  if n < 32 && s.fb F.NG_LINKSTAT_BONDED n then some (33 + (lk s n).bond) else none

/-- Where the credit, sequence numbers and replay buffer of a link are kept (R250, R318). -/
def homeOf (s : State) (n : Nat) : Nat := if n < 32 then (bondOf s n).getD n else 32

/-- The receive buffer of the partner (R246). -/
def linkBuffer (n : Nat) : Nat := if n < 32 then 448 else 1536

/-- Capabilities that a version may set (R254). -/
def capsOf (ver : Nat) : Nat := if 0x31 ≤ ver then 0x3FF else if 0x30 ≤ ver then 0x7F else if ver = 0x21 then 0x60 else 0

/-- Agreed version and capability `b` of a link. -/
def linkVer (s : State) (n : Nat) : Nat := s.fl F.NG_LINKSTAT_VERSION n
def linkCap (s : State) (n b : Nat) : Bool := bitAt (s.fl F.NG_LINKSTAT_CAP n) b

/-- The link is set to train: EN of the link, or of the mirror unit. -/
def linkEnabled (s : State) (n : Nat) : Bool := if n < 32 then s.fb F.NG_LINKCFG_EN n else s.fb F.MR_CFG_EN 0

/-- The first flit that the partner has not acknowledged, where there is one. -/
def firstSent (x : Link) : Option Nat := if x.replay = 0 then none else some ((x.txSeq + 4096 - x.replay % 4096) % 4096)

/-- The links over which the flits of a home are striped: a link alone, the mirror ports, the members of a bond. -/
def homeMembers (s : State) (h : Nat) : List Nat :=
  if h < 32 then [h]
  else if h = 32 then [32, 33]
  else (List.range 32).filter fun k => s.fb F.NG_LINKSTAT_BONDED k && (lk s k).bond == h - 33

/-- Those that carry the flits: the ACTIVE ones (R250, R318); a QUARANTINED link, trained and alone, still answers (R268). -/
def sendLanes (s : State) (h : Nat) : List Nat :=
  (homeMembers s h).filter fun n => lstate s n == 5 || (h < 32 && lstate s n == 8 && !(lk s n).untrained)

/-- Time of one flit of 680 bits on one link or mirror port, in ps (R247, R246); a port at the reduced rate sends it on one
lane at 7 Gbit/s (15 R332). -/
def flitPs (s : State) (h : Nat) : Nat :=
  if h ≠ 32 then 12143 else if s.fb F.MR_PORTSTAT_REDUCED 0 || s.fb F.MR_PORTSTAT_REDUCED 1 then 97143 else 3036

/-- `n` flits of `ps` each leave over `m` links at the fabric time `now`. -/
def onLane (ps now m n : Nat) (x : Link) : Link :=
  { x with busy := max x.busy (now * 1000) + n * ps / max 1 m }

/-- The flits of packets begun leave while credit for each is held; they enter the replay buffer (R245, R246). -/
def sendOpen (ps now m : Nat) (x : Link) : Link :=
  let n := min x.credit x.unsent
  let y := { x with credit := x.credit - n, unsent := x.unsent - n, txSeq := (x.txSeq + n) % 4096, replay := x.replay + n,
                    stripe := (x.stripe + n) % max 1 m }
  onLane ps now m n y

/-- A home sends what its credit allows of the packets begun. -/
def flushHome (s : State) (h : Nat) : State :=
  match sendLanes s h with
  | [] => s
  | ms => if (lk s h).unsent = 0 then s else putLk s h (sendOpen (flitPs s h) (fabNow s) ms.length (lk s h))

/-- A transmitter with a receive buffer of `cap` flits before it: it holds what the flits not yet acknowledged leave, and
sends those again (R245, R246, R251). -/
def restart (x : Link) (cap : Nat) : Link :=
  { x with credit := cap - x.replay, debt := x.replay - cap, fill := 0, resend := firstSent x }

/-- The session of a link, put in the place of another's. -/
def withSession (y x : Link) : Link :=
  { y with session := x.session, txCount := x.txCount, rxCount := x.rxCount, since := x.since, keys := x.keys,
           cert := x.cert, serial := x.serial, node := x.node }

/-- Where the session of a link is kept: members of a bond share one (R260). -/
def sessHome (s : State) (n : Nat) : Nat := (bondOf s n).getD n

/-- The link is no longer queued at the Caddy. -/
def unqueue (s : State) (n : Nat) : State :=
  { s with caddy := { s.caddy with linkQueue := s.caddy.linkQueue.filter (· != n) } }

/-- Other links that are members of the same bond. -/
def bondMates (s : State) (n : Nat) : List Nat :=
  (List.range 32).filter fun k => k != n && (lk s k).bond == (lk s n).bond && s.fb F.NG_LINKSTAT_BONDED k

/-- A member leaves its bond: the record, its share of the credit, and a replay of what the partner has not
acknowledged (R251). What it then sends alone, the NACKs of a QUARANTINED link, has its own buffer before it. -/
def leaveBond (s : State) (n : Nat) : State :=
  match bondOf s n with
  | some b =>
    let s := putLk s b (restart (lk s b) (448 * (bondMates s n).length))
    let alone := restart { lk s n with left := true, replay := 0, sent := [], unsent := 0 } 448
    let s := putLk (s.setB F.NG_LINKSTAT_BONDED n false) n (withSession alone (lk s b))
    linkRecord (flushHome s b) n 0x309 clsWarn
  | none => s

/-- A port that goes down takes its share of the stream's credit with it. -/
def leaveStream (s : State) (n : Nat) : State :=
  if n < 32 then s
  else if lstate s n = 5 ∨ lstate s n = 7 then
    putLk s 32 (restart (lk s 32) (1536 * b2n (lstate s (65 - n) == 5 || lstate s (65 - n) == 7)))
  else s

/-- The link leaves what it is a member of. -/
def leaveAll (s : State) (n : Nat) : State := leaveBond (leaveStream s n) n

/-- Training begins (R253); `full` ends the session. -/
def linkTrain (s : State) (n st : Nat) (full : Bool) : State :=
  let s := unqueue (leaveAll s n) n
  let x := lk s n
  let bond := if n < 32 then s.fl F.NG_LINKCFG_BOND n else 0
  let x := { x with symbols := false, locked := false, skew := 0, bondOk := false, rekeying := false, untrained := true,
                    session := x.session && !full, left := x.left && x.bond == bond, bond := bond,
                    verlim := if n < 32 then s.fl F.NG_LINKCFG_VERLIM n else 0 }
  setLink (putLk s n x) n st 0

/-- The times that fall within `window` ns of now. -/
def recent (s : State) (window : Nat) (ts : List Nat) : List Nat := ts.filter fun t => s.time < t + window

/-- The link enters QUARANTINED (R265, R266, R268), and a member leaves its bond (R251). One quarantined for reason LEGACY
stays so. -/
def linkQuarantine (s : State) (n reason : Nat) : State :=
  if n < 32 then
    let reason := if (lk s n).quar = 3 then 3 else reason
    let s := leaveBond s n
    let s := putLk s n { lk s n with quar := reason, denyTimes := [], tagTimes := [] }
    linkRecord (setLink s n 8 reason) n (if reason = 3 then 0x304 else 0x307) (if reason = 3 then clsWarn else clsError)
  else s

/-- A retrain: it is counted and recorded; QUAR_THR of them within 1 s quarantine the link (R265). -/
def linkRetrain (s : State) (n : Nat) (full : Bool) : State :=
  let times := s.time :: recent s 1000000000 (lk s n).retrainTimes
  let s := putLk s n { lk s n with retrainTimes := times, errTimes := [] }
  if n < 32 then
    let s := linkRecord (linkTrain (s.bumpF F.NG_LINKERR_RETRAINS n) n 6 full) n 0x306 clsWarn
    if max 1 (s.fl F.NG_LINKCFG_QUAR_THR n) ≤ times.length then
      linkQuarantine (putLk s n { lk s n with retrainTimes := [] }) n 4
    else s
  else linkTrain s n 6 full

/-- The link is refused (R254, R259, R243, R316). -/
def linkRefuse (s : State) (n reason code cls : Nat) : State :=
  linkRecord (setLink (unqueue (leaveAll s n) n) n 9 reason) n code cls

/-- What R249 asks of a link that joins its bond, beside the bond numbers: the same partner as the members in use, BOND4
agreed by all for more than two, no more than four. -/
def bondFits (s : State) (n : Nat) : Bool :=
  let mates := bondMates s n
  mates.all (fun k => (lk s k).serial == (lk s n).serial)
    && (mates.length < 2 || (n :: mates).all fun k => linkCap s k 8) && mates.length < 4

/-- A new session: flits are numbered from 0 again, those still in the replay buffer first (log 24). -/
def renumber (x : Link) : Link := { x with txSeq := x.replay % 4096, rxSeq := 0, ahead := [], asked := none }

/-- A quarantined link has trained: it answers what arrives on it (R268), and comes up when it is released. -/
def trainedNow (s : State) (n : Nat) : State :=
  putLk s n { restart (lk s n) 448 with untrained := false, waitsUp := true }

/-- A mirror port that has authenticated is ACTIVE: the first gives the pair its version, and one that found another is
refused (15 R341). -/
def portActivate (s : State) (n : Nat) : State :=
  let other := lstate s (65 - n) == 5 || lstate s (65 - n) == 7
  let ver := (lk s n).ver
  if other && s.fl F.MR_VER_AGREED 0 != ver then linkRefuse s n 1 0 clsWarn
  else
    let s := setLink (s.setF F.MR_VER_AGREED 0 ver) n 5 0
    flushHome (putLk s 32 (restart (lk s 32) (1536 + 1536 * b2n other))) 32

/-- The link becomes ACTIVE, or QUARANTINED where a quarantine is held; a bond member joins its bond, and a member
whose skew exceeds 20 ns stays a lone link with reason SKEW (R249, R251 to R253, R260, R268). The first member of a bond
begins its numbers anew only with a new session. -/
def linkActivate (s : State) (n : Nat) : State :=
  let x := { lk s n with untrained := false, waitsUp := false }
  if x.quar ≠ 0 then setLink (trainedNow s n) n 8 x.quar
  else if 32 ≤ n then portActivate (putLk s n x) n
  else
    let s := putLk s n x
    let fits := x.bondOk && bondFits s n
    let joins := fits && decide (x.skew ≤ 20)
    let s := linkRecord (setLink s n 5 (if fits && !joins then 9 else 0)) n 0x300 clsInfo
    if joins then
      let b := 33 + x.bond
      let mates := (bondMates s n).length
      let y := restart (if mates = 0 && x.fresh then renumber (lk s b) else lk s b) (448 * (mates + 1))
      let s := putLk s b (if mates = 0 then withSession y x else y)
      let s := flushHome (putLk (s.setB F.NG_LINKSTAT_BONDED n true) n { lk s n with fresh := false, left := false }) b
      if x.left then linkRecord s n 0x309 clsWarn else s
    else flushHome (putLk s n { restart x 448 with fresh := false }) n

/-- What a link that is stopped keeps: its quarantine, and that it has left its bond. -/
def stopped (x : Link) : Link := { quar := x.quar, left := x.left, bond := x.bond }

/-- NG_LINKCFGn. EN = 1 trains a link that is OFF or REFUSED; EN = 0 stops it and ends its session (R253, R254).
CREDIT_TMO is clamped. Neither ends a quarantine (R268). -/
def linkcfgWrite (s : State) (w : Wr) (n : Nat) : State :=
  let s := putFields s w [F.NG_LINKCFG_EN, F.NG_LINKCFG_BOND, F.NG_LINKCFG_RPF, F.NG_LINKCFG_VERLIM,
    F.NG_LINKCFG_CREDIT_TMO, F.NG_LINKCFG_RETRAIN_THR, F.NG_LINKCFG_QUAR_THR, F.NG_LINKCFG_TAG_THR,
    F.NG_LINKCFG_DENY_THR] n n
  let s := s.setF F.NG_LINKCFG_CREDIT_TMO n (min 10000 (max 10 (s.fl F.NG_LINKCFG_CREDIT_TMO n)))
  if !w.touches F.NG_LINKCFG_EN then s
  else if s.fb F.NG_LINKCFG_EN n then
    (if lstate s n = 0 ∨ lstate s n = 9 then linkTrain (putLk s n (stopped (lk s n))) n 1 true else s)
  else if lstate s n = 0 then s
  else
    let s := leaveAll s n
    unqueue (putLk (setLink s n 0 0) n (stopped (lk s n))) n

/-- NG_LINKCFG_WRITE. -/
def execNgLinkcfgWrite (q : Requester) (n : Fin 32) (v : Word) (s : State) : Host.Outcome State Fault Refusal :=
  rowWrite q (0xE01001000 + 0x40 * n.val) v (fun s w => linkcfgWrite s w n.val) s

/-- The link is in a training state, or is QUARANTINED by a retrain that goes on. -/
def training (s : State) (n : Nat) : Bool :=
  lstate s n == 1 || lstate s n == 6 || (lstate s n == 8 && (lk s n).untrained)

/-- The clock of a link or mirror port runs (02 R50). -/
def linkClock (s : State) (n : Nat) : Bool := !clockFails s 3 && !clockFails s (if n < 32 then 10 else 19)

/-- TRAINING_SYMBOLS_DETECTED: an ABSENT or REFUSED link trains again. -/
def execTrainingSymbolsDetected (l : Fin 34) (s : State) : Host.Outcome State Fault Refusal :=
  .next (
    let n := l.val
    if !linkEnabled s n || !linkClock s n then s
    else
      let s := if lstate s n = 2 ∨ lstate s n = 9 then linkTrain s n 1 false else s
      if training s n then putLk s n { lk s n with symbols := true } else s)

/-- LINK_ABSENT (R263): before codeword lock, whether or not symbols were seen earlier in this training. -/
def execLinkAbsent (l : Fin 34) (s : State) : Host.Outcome State Fault Refusal :=
  .next (
    let n := l.val
    if training s n && !(lk s n).locked then
      linkRecord (setLink (putLk s n { lk s n with symbols := false }) n 2 0) n 0x301 clsWarn
    else s)

/-- CODEWORD_LOCK: DELAY is written; a flight time over the limit is refused with LIMIT, a mirror port cabled to the
partner's other port with CABLING (R243, R253, R316). -/
def execCodewordLock (l : Fin 34) (delay : BitVec 20) (skew : Nat) (wrongPort : Bool) (s : State) :
    Host.Outcome State Fault Refusal :=
  .next (
    let n := l.val
    let x := lk s n
    if training s n && x.symbols && linkClock s n then
      let s := putLk s n { x with locked := true, skew := skew }
      if n < 32 then
        let s := s.setF F.NG_LINKSTAT_DELAY n delay.toNat
        if 100000 < delay.toNat then setLink s n 9 10 else s
      else
        let m := n - 32
        let s := s.setF F.MR_PORTSTAT_DELAY m delay.toNat
        let s := s.setF F.MR_PORTSTAT_PARTNER_PORT m (if wrongPort then 1 - m else m)
        if 2000 < delay.toNat then setLink s n 9 10 else if wrongPort then setLink s n 9 11 else s
    else s)

/-- Lowest version that a link accepts (VERLIM). -/
def verLow (code : Nat) : Nat := match code with | 0 => 0x20 | 1 => 0x30 | _ => 0x31

/-- Authentication is queued at the Caddy; a session that is kept needs the challenge only (R253, R260). -/
def linkToAuth (s : State) (n : Nat) : State :=
  let s := setLink s n 4 0
  if (lk s n).session then s
  else { s with caddy := { s.caddy with linkQueue := s.caddy.linkQueue.filter (· != n) ++ [n] } }

/-- HELLO on a link (R249, R254, R255). A 2.x link ends any session; a 3.x link that did not agree GCM runs without one
(DESIGN CHOICE, log 89). -/
def helloLink (s : State) (n : Nat) (h : Hello) : State :=
  let ver := min 0x31 h.verHi.toNat
  if ver < max (verLow (lk s n).verlim) h.verLo.toNat then linkRefuse s n 1 0x302 clsWarn
  else
    let cap := h.cap.toNat &&& capsOf ver
    let s := (s.setF F.NG_LINKSTAT_VERSION n ver).setF F.NG_LINKSTAT_CAP n cap
    let s := s.setF F.NG_LINKSTAT_PARTNER_LINK n h.link.toNat
    let b := (lk s n).bond
    let s := putLk s n { lk s n with serial := h.serial, node := h.node }
    let ok := 1 ≤ b && b ≤ 8 && h.bond.toNat == b && bitAt cap 4 && bondFits s n
    let s := putLk s n { lk s n with bondOk := ok, session := (lk s n).session && bitAt cap 3 }
    if ver < 0x30 then
      if !bitAt (s.fl F.NG_POLICY_LEGACY_TRUST 0) n then linkQuarantine (trainedNow s n) n 3 else linkActivate s n
    else if bitAt cap 3 then linkToAuth s n
    else linkActivate s n

/-- HELLO on a mirror port (15 R316, R320, R341): the digest and version rules act in the mirror unit. A second port that
finds another version than that of a port that is up is refused. -/
def helloPort (s : State) (n : Nat) (h : Hello) : State :=
  let ver := min (s.fl F.MR_VER_NATIVE 0) h.verHi.toNat
  let other := (lstate s (65 - n) == 5 || lstate s (65 - n) == 7) && s.fl F.MR_VER_AGREED 0 != ver
  if ver < max (s.fl F.MR_VER_LOW 0) h.verLo.toNat || other then linkRefuse s n 1 0 clsWarn
  else
    let s := if h.digestSame || s.fl F.MR_STAT_ROLE 0 = 3 then s else s.setB F.MR_STAT_CFGERR 0 true
    linkToAuth (putLk s n { lk s n with serial := h.serial, node := h.node, ver := ver, bondOk := h.digestSame }) n

/-- LINK_HELLO. -/
def execLinkHello (l : Fin 34) (hello : Hello) (s : State) : Host.Outcome State Fault Refusal :=
  .next (
    let n := l.val
    if training s n && (lk s n).locked then
      let s := setLink s n 3 0
      if n < 32 then helloLink s n hello else helloPort s n hello
    else s)

/-- HELLO_TIMEOUT: no HELLO within 100 µs of lock. -/
def execHelloTimeout (l : Fin 34) (s : State) : Host.Outcome State Fault Refusal :=
  .next (
    let n := l.val
    if training s n && (lk s n).locked then linkRetrain s n false else s)

/-- The Caddy can authenticate: it is ready, and runs on CAPLL (16 R345). -/
def caddyReady (s : State) : Bool := s.ready 43

/-- A link may leave AUTH: the Caddy is ready, and the life cycle is neither RMA nor SCRAPPED (R259, R262). -/
def mayLeaveAuth (s : State) : Bool := caddyReady s && s.fl F.LC_STATE_STATE 0 < 4

/-- The Caddy has taken this link: the first in its queue, or one beside an empty queue (R258, R260). -/
def caddyTakes (s : State) (n : Nat) : Bool :=
  match s.caddy.linkQueue with
  | [] => true
  | m :: _ => m == n

/-- The Warn record of an unchecked validity period (R259, R270): the table gives it no code, a free one. -/
def untimedRecord (s : State) (n : Nat) : State :=
  if n < 32 then
    let (k, s) := s.takeFree
    linkRecord s n (Config.freeNat k % 2 ^ 16) clsWarn
  else dregsOpen s clsWarn

/-- The key against which the partner's certificate is checked: the owner key, in BLANK and MANUFACTURE Evoeno's
manufacturing key (R258). -/
def certSigned (s : State) (o : AuthOutcome) : Bool := if s.fl F.LC_STATE_STATE 0 < 2 then o.makerSigned else o.ownerSigned

/-- Keys and salts of a session, derived from a secret that no rule can name: free values (R258). -/
def newKeys (s : State) : SessKeys × State :=
  let (a, s) := s.takeFree
  let (b, s) := s.takeFree
  let (c, s) := s.takeFree
  let (d, s) := s.takeFree
  (⟨BitVec.ofNat 256 (Config.freeNat a), BitVec.ofNat 256 (Config.freeNat b), BitVec.ofNat 32 (Config.freeNat c),
    BitVec.ofNat 32 (Config.freeNat d)⟩, s)

/-- The 96-bit IVs of the next packet sent and of the next received: the direction's salt, then the packet counter (R258). -/
def txIv (x : Link) : BitVec 96 := x.keys.txSalt ++ BitVec.ofNat 64 x.txCount
def rxIv (x : Link) : BitVec 96 := x.keys.rxSalt ++ BitVec.ofNat 64 x.rxCount

/-- A session begins: new keys, counters from 0. -/
def sessionStart (s : State) (n : Nat) (o : AuthOutcome) : State :=
  let (keys, s) := newKeys s
  putLk s n { (if n < 32 then renumber (lk s n) else lk s n) with
    session := true, fresh := true, txCount := 0, rxCount := 0, since := fabNow s, keys := keys, rekeying := false,
    cert := some ⟨o.serial, o.manager, o.mirrorRole⟩ }

/-- LINK_AUTHENTICATION (R258, R259): the certificate checks and the key agreement. In RMA and SCRAPPED
no link leaves AUTH. The Caddy serves one link at a time, in the order of its queue; a link whose partner forces the full
exchange although this side kept its session joins the queue (R260). -/
def execLinkAuthentication (l : Fin 34) (outcome : AuthOutcome) (s : State) : Host.Outcome State Fault Refusal :=
  .next (
    let n := l.val
    if lstate s n = 4 && mayLeaveAuth s && s.clk.caddyPll then
      if !caddyTakes s n then
        (if s.caddy.linkQueue.contains n then s
         else { s with caddy := { s.caddy with linkQueue := s.caddy.linkQueue ++ [n] } })
      else
        let s := unqueue s n
        let timed := s.sup.rtc.isSome
        let s := if n < 32 then s.setB F.NG_LINKSTAT_UNTIMED n (!timed) else s.setB F.MR_PORTSTAT_UNTIMED (n - 32) (!timed)
        let s := if timed then s else untimedRecord s n
        if !certSigned s outcome || !outcome.transcript || (timed && !outcome.inValidity)
            || (32 ≤ n && !outcome.mirrorRole) then
          linkRefuse s n 2 0x303 clsError
        else sessionStart s n outcome
    else s)

/-- KEYCONFIRM: the link is ACTIVE (R253). -/
def execKeyconfirm (l : Fin 34) (s : State) : Host.Outcome State Fault Refusal :=
  .next (
    let n := l.val
    if lstate s n = 4 && mayLeaveAuth s && (lk s n).session then linkActivate s n else s)

/-- BOND_MEMBER_JOIN: a later member joins by a challenge under the bond's session (R260). -/
def execBondMemberJoin (l : Fin 32) (s : State) : Host.Outcome State Fault Refusal :=
  .next (
    let n := l.val
    let b := 33 + (lk s n).bond
    if lstate s n = 4 && mayLeaveAuth s && (lk s n).bondOk && (lk s b).session && !(bondMates s n).isEmpty then
      let s := unqueue s n
      linkActivate (putLk s n { lk s n with session := true }) n
    else s)

/-- BOND_MEMBER_LEAVE: a failing member leaves its bond and retrains (R251). -/
def execBondMemberLeave (l : Fin 32) (s : State) : Host.Outcome State Fault Refusal :=
  .next (if (bondOf s l.val).isSome then linkRetrain s l.val false else s)

/-- The link is trained; a QUARANTINED one is, unless a retrain of it goes on. -/
def trained (s : State) (n : Nat) : Bool :=
  lstate s n == 5 || lstate s n == 7 || (lstate s n == 8 && !(lk s n).untrained)

/-- The receiver has codeword lock. -/
def hasLock (s : State) (n : Nat) : Bool :=
  trained s n || lstate s n == 3 || lstate s n == 4 || (training s n && (lk s n).locked)

/-- CODEWORD_LOCK_LOSS (R253, R263): a trained link retrains; one that had not finished its training begins it again. -/
def execCodewordLockLoss (l : Fin 34) (s : State) : Host.Outcome State Fault Refusal :=
  .next (
    let n := l.val
    if trained s n then linkRetrain s n false
    else if hasLock s n then linkTrain s n (if lstate s n = 6 ∨ lstate s n = 8 then 6 else 1) false
    else s)

/-- An uncorrectable codeword or a CRC failure; RETRAIN_THR of them within 1 ms retrain the link (R265). A mirror port
has no threshold register: the reset value of RETRAIN_THR stands (log 23). -/
def linkError (s : State) (n : Nat) : State :=
  let times := s.time :: recent s 1000000 (lk s n).errTimes
  let s := putLk s n { lk s n with errTimes := times }
  let s := if n < 32 then s.bumpF F.NG_LINKERR_UNCORR n else s
  let thr := if n < 32 then max 1 (s.fl F.NG_LINKCFG_RETRAIN_THR n) else 16
  if thr ≤ times.length then linkRetrain s n false else s

/-- The partner acknowledges `n` flits: packets whose flits are all acknowledged leave the replay buffer. -/
def ackFlits : Nat → List SentPkt → List SentPkt
  | _, [] => []
  | n, p :: ps => if p.flits ≤ n then ackFlits (n - p.flits) ps else { p with flits := p.flits - n } :: ps

/-- Credit returned by the partner acknowledges flits, ends a stall, and lets waiting flits leave (R246, R264). Where the credit has shrunk below
what was outstanding, that much is made good first. -/
def creditReturn (s : State) (n c : Nat) : State :=
  if c = 0 then s
  else
    let h := homeOf s n
    let x := lk s h
    let s := putLk s h { x with credit := x.credit + (c - x.debt), debt := x.debt - c, replay := x.replay - c,
                                sent := ackFlits c x.sent }
    flushHome (((List.range 34).filter fun k => homeOf s k == h && lstate s k == 7).foldl (fun s k => setLink s k 5 0) s) h

/-- Number of a flit relative to the one expected next. -/
def flitLead (x : Link) (seq : Nat) : Nat := (seq + 4096 - x.rxSeq % 4096) % 4096

/-- Take the flit expected next into the receive buffer, and after it those of a stripe that came before their turn. -/
def takeFlits : Nat → Link → Link
  | 0, x => x
  | n + 1, x =>
    let x := { x with rxSeq := (x.rxSeq + 1) % 4096, held := x.held + 1, asked := none }
    if x.ahead.contains x.rxSeq then takeFlits n { x with ahead := x.ahead.filter (· != x.rxSeq) } else x

/-- The links that share the session and the flit sequence of a link: the members of its bond. -/
def sessionLinks (s : State) (n : Nat) : List Nat := if (bondOf s n).isSome then n :: bondMates s n else [n]

/-- How far before its turn a flit may come. Members differ by at most 20 ns (R252), less than two flit times, so that one
member leads another by no more than two rounds of the stripe (DEDUCED, log 90); on a single link none comes early. -/
def earlyWindow (s : State) (n : Nat) : Nat :=
  let m := (if n < 32 then sessionLinks s n else [32, 33].filter fun k => lstate s k == 5 || lstate s k == 7).length
  if m ≤ 1 then 1 else 3 * m

/-- A good data flit of link `n` (R245, R250, R318): taken in sequence; in a stripe one that another member brought before
its turn is held; another one is discarded, with the credit in it (log 90), and replay is asked for. -/
def dataFlit (s : State) (n seq credit : Nat) : State :=
  let h := homeOf s n
  let x := lk s h
  if seq = x.rxSeq then creditReturn (putLk s h (takeFlits (x.ahead.length + 1) x)) n credit
  else if flitLead x seq < earlyWindow s n then
    creditReturn (putLk s h { x with ahead := x.ahead.filter (· != seq) ++ [seq] }) n credit
  else putLk s h { x with asked := some x.rxSeq }

/-- FLIT_RECEIVE (R244 to R246, R250, R265). Before a link is ACTIVE its flits carry link frames only: errors count.
Only data flits are numbered and buffered; every good flit returns credit (DEDUCED, log 90). -/
def execFlitReceive (l : Fin 34) (f : Flit) (s : State) : Host.Outcome State Fault Refusal :=
  .next (
    let n := l.val
    if !hasLock s n then s
    else
      let s := if f.corrected && n < 32 then s.bumpF F.NG_LINKERR_CORRECTED n else s
      if !trained s n then (if f.good then s else linkError s n)
      else
        let h := homeOf s n
        let x := lk s h
        if !f.good then linkError (putLk s h { x with asked := some x.rxSeq }) n
        else if f.ftype = .data then dataFlit s n f.seq.toNat f.credit.toNat
        else creditReturn s n f.credit.toNat)

/-- REPLAY_REQUEST: the transmitter resends from the named flit (R245). -/
def execReplayRequest (l : Fin 34) (seq : BitVec 12) (s : State) : Host.Outcome State Fault Refusal :=
  .next (
    let n := l.val
    let h := homeOf s n
    if trained s n && 0 < (lk s h).replay then putLk s h { lk s h with resend := some seq.toNat } else s)

/-- CREDIT_TIMEOUT: the transmitter has held no credit for the timeout (R264). -/
def execCreditTimeout (l : Fin 34) (s : State) : Host.Outcome State Fault Refusal :=
  .next (
    let n := l.val
    if lstate s n = 5 && (lk s (homeOf s n)).credit == 0 then linkRecord (setLink s n 7 0) n 0x305 clsWarn else s)

/-- STALL_RETRAIN (R264). -/
def execStallRetrain (l : Fin 34) (s : State) : Host.Outcome State Fault Refusal :=
  .next (if lstate s l.val = 7 then linkRetrain s l.val false else s)

/-- 24 hours of fabric time, in ns. -/
def dayNs : Nat := 86400 * 1000000000

/-- A session has carried `packets` in one direction. -/
def carried (x : Link) (packets : Nat) : Bool := packets ≤ x.txCount || packets ≤ x.rxCount

/-- A rekey is due: 2^40 packets in either direction, or 24 h of fabric time (R261). -/
def rekeyDue (s : State) (x : Link) : Bool := carried x (2 ^ 40) || x.since + dayNs ≤ fabNow s

/-- Every link of the session retrains with the full exchange. -/
def sessionRetrain (s : State) (n : Nat) : State := (sessionLinks s n).foldl (fun s k => linkRetrain s k true) s

/-- REKEY (R261, R262): in band where the link agreed it, otherwise by retraining with the full exchange. A due rekey
waits for the Caddy. -/
def execRekey (l : Fin 34) (s : State) : Host.Outcome State Fault Refusal :=
  .next (
    let n := l.val
    let h := sessHome s n
    let x := lk s h
    if trained s n && x.session && caddyReady s && rekeyDue s x then
      if n < 32 && linkCap s n 9 then
        let (keys, s) := newKeys s
        putLk s h { x with rekeying := true, nextKeys := keys }
      else sessionRetrain s n
    else s)

/-- REKEY_MARKER: both directions switch to the new keys with no gap. -/
def execRekeyMarker (l : Fin 34) (s : State) : Host.Outcome State Fault Refusal :=
  .next (
    let n := l.val
    let h := sessHome s n
    let x := lk s h
    if trained s n && x.rekeying then
      putLk s h { x with rekeying := false, txCount := 0, rxCount := 0, since := fabNow s, keys := x.nextKeys }
    else s)

/-- REKEY_FAIL (R261): a counter has reached 2^44 without a rekey. -/
def execRekeyFail (l : Fin 34) (s : State) : Host.Outcome State Fault Refusal :=
  .next (
    let n := l.val
    let x := lk s (sessHome s n)
    if trained s n && x.session && carried x (2 ^ 44) then sessionRetrain (linkRecord s n 0x30A clsError) n else s)

/-! ### NG_LINKCTL and its MGMT forms -/

/-- RETRAIN: from any state in which the link runs. -/
def ctlRetrain (s : State) (n : Nat) : State :=
  if lstate s n = 0 ∨ lstate s n = 9 then s else linkRetrain s n false

/-- QUARANTINE with reason COMMANDED; a link that is training is quarantined when it has trained, and the record is
written with the command. -/
def ctlQuarantine (s : State) (n : Nat) : State :=
  if lstate s n = 5 ∨ lstate s n = 7 then linkQuarantine s n 7
  else if lstate s n = 0 ∨ lstate s n = 9 ∨ lstate s n = 8 then s
  else linkRecord (putLk s n { lk s n with quar := if (lk s n).quar = 3 then 3 else 7 }) n 0x307 clsError

/-- RELEASE (R268): a LEGACY quarantine ends only while LEGACY_TRUST grants the link. A link whose retrain goes on is in
RETRAIN again; one that has not been up since it trained, or that left its bond, comes up as a trained link does. -/
def ctlRelease (s : State) (n : Nat) : State :=
  let x := lk s n
  if x.quar = 0 || (x.quar == 3 && !bitAt (s.fl F.NG_POLICY_LEGACY_TRUST 0) n) then s
  else
    let s := linkRecord (putLk s n { x with quar := 0 }) n 0x308 clsInfo
    if lstate s n ≠ 8 then s
    else if x.untrained then setLink s n 6 0
    else if x.waitsUp ∨ (x.bondOk ∧ (bondOf s n).isNone) then linkActivate s n
    else setLink s n 5 0

/-- CLRERR clears NG_LINKERRn. -/
def ctlClrerr (s : State) (n : Nat) : State :=
  [F.NG_LINKERR_CORRECTED, F.NG_LINKERR_UNCORR, F.NG_LINKERR_RETRAINS, F.NG_LINKERR_TAGFAIL, F.NG_LINKERR_DENIED].foldl
    (fun s f => s.setF f n 0) s

/-- NG_LINKCTLn: a wrong KEY makes the write ignored. -/
def linkctlWrite (s : State) (w : Wr) (n : Nat) : State :=
  atRing0 s w fun s =>
    let keyed := w.on F.NG_LINKCTL_QUARANTINE || w.on F.NG_LINKCTL_RELEASE
    if keyed && w.bits F.NG_LINKCTL_KEY != 0x5155 then ignoreWarn s w
    else
      let s := if w.on F.NG_LINKCTL_CLRERR then ctlClrerr s n else s
      let s := if w.on F.NG_LINKCTL_RETRAIN then ctlRetrain s n else s
      let s := if w.on F.NG_LINKCTL_QUARANTINE then ctlQuarantine s n else s
      if w.on F.NG_LINKCTL_RELEASE then ctlRelease s n else s

def execLinkctlRetrain (q : Requester) (n : Fin 32) (v : Word) (s : State) : Host.Outcome State Fault Refusal :=
  rowWrite q (0xE01001018 + 0x40 * n.val) v (fun s w => linkctlWrite s w n.val) s
def execLinkctlQuarantine (q : Requester) (n : Fin 32) (v : Word) (s : State) : Host.Outcome State Fault Refusal :=
  rowWrite q (0xE01001018 + 0x40 * n.val) v (fun s w => linkctlWrite s w n.val) s
def execLinkctlRelease (q : Requester) (n : Fin 32) (v : Word) (s : State) : Host.Outcome State Fault Refusal :=
  rowWrite q (0xE01001018 + 0x40 * n.val) v (fun s w => linkctlWrite s w n.val) s
def execLinkctlClrerr (q : Requester) (n : Fin 32) (v : Word) (s : State) : Host.Outcome State Fault Refusal :=
  rowWrite q (0xE01001018 + 0x40 * n.val) v (fun s w => linkctlWrite s w n.val) s

end Sys2Proof.Machine
end

