-- ==== Sys2Proof/Machine/Router.lean ====
section
/-! DEFINITION. The router: routes, forecasts, refusals and NACKs, output ports, ingress windows and rate limits (spec 12
R247, R248, R255, R256, R266 to R269, R272; 13 R275 to R293). A packet starts where the port holds credit for one of its
flits; those for which there is none leave as credit comes (log 24). Times in the forecast are in ps. -/

namespace Sys2Proof.Machine

/-- Command codes (R278). -/
def pRead : Nat := 1
def pReadResp : Nat := 2
def pWrite : Nat := 3
def pWriteAck : Nat := 4
def pAtomic : Nat := 5
def pAtomicResp : Nat := 6
def pMessage : Nat := 7
def pEvent : Nat := 8
def pTime : Nat := 9
def pMgmt : Nat := 10
def pMirror : Nat := 11
def pNack : Nat := 12

/-- Refusal codes (R280). -/
def rLate : Nat := 1
def rDenied : Nat := 2
def rNoRoute : Nat := 3
def rBusy : Nat := 4
def rBadVersion : Nat := 5
def rCorrupt : Nat := 6
def rQuarantined : Nat := 7

/-- A header with nothing set. -/
def blankPacket : Packet :=
  { cmd := 0, sub := 0, authpath := true, path := false, noack := false, reserved := false, hops := 0, part := 0, dst := 0,
    src := 0, rbudget := 0, tag := 0, len := 0, addr := 0, deadline := 0, payload := [], err := 0 }

/-- The 32 header bytes of a packet as a receive slot holds them (R276, R296). -/
def headerBytes (k : Packet) : List Byte :=
  natBytes (k.cmd.toNat + k.sub.toNat * 2 ^ 4 + b2n k.authpath * 2 ^ 8 + b2n k.path * 2 ^ 9 + b2n k.noack * 2 ^ 10
    + k.hops.toNat * 2 ^ 16 + k.part.toNat * 2 ^ 24 + k.dst.toNat * 2 ^ 32 + k.src.toNat * 2 ^ 50
    + k.rbudget.toNat * 2 ^ 68 + k.tag.toNat * 2 ^ 96 + k.len.toNat * 2 ^ 112 + k.addr.toNat * 2 ^ 128
    + k.deadline.toNat * 2 ^ 192) 32

/-- One bit of the reflected CRC-64 with the polynomial 0x42F0_E1EB_A9EA_3693 (R283). -/
def crcStep (c : Nat) : Nat := if c % 2 = 1 then c / 2 ^^^ 0xC96C5795D7870F42 else c / 2

/-- One byte. -/
def crcByte (c : Nat) (b : Byte) : Nat :=
  crcStep (crcStep (crcStep (crcStep (crcStep (crcStep (crcStep (crcStep (c ^^^ b.toNat))))))))

/-- The CRC-64 of a list of bytes: initial value and final XOR of all ones (R283). -/
def crc64 (bs : List Byte) : Nat := bs.foldl crcByte (2 ^ 64 - 1) ^^^ (2 ^ 64 - 1)

/-- The bytes that the CRC-64 covers: the header without HOPS, and the payload (R283). -/
def crcBytes (k : Packet) : List Byte := (headerBytes k).take 2 ++ (headerBytes k).drop 3 ++ k.payload

/-- The 8-byte trailer of a packet (R275, R283). A router that changes a covered field adjusts it by the difference, so
`err` stays; one that marks the packet corrupt inverts every bit. -/
def trailerOf (k : Packet) : BitVec 64 := BitVec.ofNat 64 (crc64 (crcBytes k)) ^^^ k.err

/-- The trailer does not match. -/
def corrupt (k : Packet) : Bool := k.err != 0

/-- RBUDGET, where 0 is read as 1 ms (R276). -/
def budgetOf (k : Packet) : Nat := if k.rbudget = 0 then 1000000 else k.rbudget.toNat

/-! ### Output queues -/

/-- The port numbers of this model: 0 to 31 links, 32 to 39 bonds, 40 the mirror stream, 42 the local port. -/
def portMirror : Nat := 40
def portLocal : Nat := 42

def outQ (s : State) (p : Nat) : List QPkt := mget [] s.router.out p
def putOut (s : State) (p : Nat) (q : List QPkt) : State :=
  { s with router := { s.router with out := mset [] s.router.out p q } }

/-- Put a packet on the queue of an output port. -/
def enqueue (s : State) (p : Nat) (k : Packet) (remain : Nat) (viaLink : Bool) : State :=
  putOut s p (outQ s p ++ [⟨k, remain, fabNow s, viaLink, none⟩])

/-- A packet for a requester of this device, or for the mirror stream, whose deadlines are not judged here. -/
def enqueueLocal (s : State) (k : Packet) : State := enqueue s portLocal k 0 false
def enqueueMirror (s : State) (k : Packet) : State := enqueue s portMirror k 0 false

/-! ### Ports -/

/-- Where the credit of a port is kept. -/
def portHome (p : Nat) : Nat := if p < 32 then p else if p < 40 then p + 2 else 32

/-- Members of a port: the link itself, or the members in use of a bond. -/
def members (s : State) (p : Nat) : List Nat := if p < 40 then homeMembers s (portHome p) else []

/-- The port at which what leaves by link `n` is queued: that of its bond, or the link's own. -/
def egress (s : State) (n : Nat) : Nat := match bondOf s n with | some b => b - 2 | none => n

/-- Links that carry a bond number, in use or not. -/
def bondLinks (s : State) (p : Nat) : List Nat :=
  if p < 32 then [p]
  else if p < 40 then (List.range 32).filter fun n => (lk s n).bond == p - 31 else []

def portUsable (s : State) (p : Nat) : Bool := p == 62 || (members s p).any fun n => lstate s n == 5
def portQuarantined (s : State) (p : Nat) : Bool := (bondLinks s p).any fun n => lstate s n == 8
def portStalled (s : State) (p : Nat) : Bool := (bondLinks s p).any fun n => lstate s n == 7

/-- The port's links carry an authenticated session. -/
def portSession (s : State) (p : Nat) : Bool :=
  if p = portMirror then true else (members s p).any fun n => (lk s (sessHome s n)).session

/-- Agreed version and capability of a port: its lowest member's. -/
def portVer (s : State) (p : Nat) : Nat := match members s p with | n :: _ => linkVer s n | [] => 0
def portCap (s : State) (p b : Nat) : Bool := match members s p with | n :: _ => linkCap s n b | [] => false

/-- Packets carry a deadline on the port's links (R254, R256). -/
def portDeadline (s : State) (p : Nat) : Bool := portCap s p 0

/-- Bytes on the wire, and flits (R275). -/
def wireBytes (auth : Bool) (k : Packet) : Nat := (if auth then 56 else 40) + k.payload.length
def flitsOf (auth : Bool) (k : Packet) : Nat := (wireBytes auth k + 71) / 72

/-- tail(pkt) in ps (R287). -/
def tailPs (auth : Bool) (k : Packet) : Nat := (flitsOf auth k - 1) * 12143 + 27743

/-- The flits that a packet adds on a port whose last flit holds `fill` bytes: each packet begins on an 8-byte boundary
(R275). -/
def newFlits (auth : Bool) (fill : Nat) (k : Packet) : Nat :=
  (fill + (wireBytes auth k + 7) / 8 * 8 + 71) / 72 - b2n (fill != 0)

/-- Links of a port among which its time on the lane is divided. -/
def lanes (s : State) (p : Nat) : Nat := max 1 (sendLanes s (portHome p)).length

/-- bytes_left_in_transmission (R287): what of the packets begun is still to leave. -/
def bytesLeft (s : State) (p : Nat) : Nat :=
  let x := lk s (portHome p)
  (x.busy - fabNow s * 1000) * 72 * lanes s p / flitPs s (portHome p) + 72 * x.unsent

/-- wait_forecast (R287) in ps, times the number of members. -/
def waitPs (s : State) (p : Nat) (k : Packet) : Nat :=
  let auth := portSession s p
  let ahead := (outQ s p).filter fun q => q.k.deadline.toNat ≤ k.deadline.toNat
  let b := bytesLeft s p + (ahead.map fun q => wireBytes auth q.k).sum
  let f := (b + 71) / 72
  let delay := match members s p with | n :: _ => s.fl F.NG_LINKSTAT_DELAY n | [] => 0
  f * 12143 + (if (lk s (portHome p)).credit < f + flitsOf auth k then 2 * delay * 1000 * lanes s p else 0)

/-- The forecast fails (R287). -/
def tooLate (s : State) (p : Nat) (k : Packet) (remain lead : Nat) : Bool :=
  k.deadline.toNat * 1000 * lanes s p
    < ((fabNow s + lead + remain) * 1000 + tailPs (portSession s p) k) * lanes s p + waitPs s p k

/-! ### Routes -/

/-- Where route() sends a packet (R272). -/
inductive Route where
  | here
  | out (p remain : Nat)
  | refuse (code port : Nat)
  deriving DecidableEq, Repr

/-- PORT, ALT and REMAIN of the entry for a destination. -/
def routeEntry (s : State) (dst : Nat) : Nat × Nat × Nat :=
  if dst / 256 = ownNode s / 256 then
    (s.fl F.NG_POSROUTE_PORT (dst % 256), s.fl F.NG_POSROUTE_ALT (dst % 256), s.fl F.NG_POSROUTE_REMAIN (dst % 256))
  else
    (s.fl F.NG_STRROUTE_PORT (dst / 256), s.fl F.NG_STRROUTE_ALT (dst / 256), s.fl F.NG_STRROUTE_REMAIN (dst / 256))

/-- Traffic stays at PORT while a packet for the destination is queued there (R290). -/
def heldAt (s : State) (p dst : Nat) : Bool := (outQ s p).any fun q => q.k.dst.toNat == dst

/-- Traffic that has moved to ALT stays there while packets for the destination are queued at it, so that none of them is
overtaken (R228): it goes by ALT, or is refused while ALT is STALLED or QUARANTINED (log 25). Where ALT has failed, its
packets go nowhere. -/
def behindAlt (s : State) (carries : Nat → Bool) (dst alt remain : Nat) : Option Route :=
  if 40 ≤ alt || !heldAt s alt dst then none
  else if portUsable s alt && carries alt then some (.out alt remain)
  else if portQuarantined s alt then some (.refuse rQuarantined alt)
  else if portStalled s alt then some (.refuse rBusy alt)
  else none

/-- route(dst) over the ports that `carries` allows. A PORT of 62 names this device (log 25). -/
def routeVia (s : State) (carries : Nat → Bool) (dst : Nat) : Route :=
  if dst = 0x3FFFF ∨ dst = ownNode s then .here
  else if ownNode s = 0x3FFFE then .refuse rNoRoute 0xFF
  else
    let (port, alt, remain) := routeEntry s dst
    if port = 62 then .here
    else if portUsable s port && carries port then
      ((if port = alt then none else behindAlt s carries dst alt remain).getD (.out port remain))
    else if portUsable s alt && carries alt && !(port < 40 && heldAt s port dst) then (if alt = 62 then .here else .out alt remain)
    else if portQuarantined s port || portQuarantined s alt then .refuse rQuarantined port
    else if portStalled s port || portStalled s alt then .refuse rBusy port
    else .refuse rNoRoute port

def routeOf (s : State) (dst : Nat) : Route := routeVia s (fun _ => true) dst

/-- A mirror heartbeat. -/
def isHeartbeat (k : Packet) : Bool := k.cmd.toNat == pEvent && k.sub == 1

/-- The route of a packet: a port toward a 2.x partner is none for a heartbeat (R255). -/
def routePkt (s : State) (k : Packet) : Route :=
  routeVia s (fun p => !isHeartbeat k || p == 62 || 0x30 ≤ portVer s p) k.dst.toNat

/-- The next link number of a path-mode packet, and the packet with it taken: byte 0 of the payload counts the numbers
still to use, bytes 1 to 24 hold the numbers (R274, R278). The spec does not say where the next number lies: the model
takes byte 1 and moves the others up, the used one to the end (log 26). -/
def takePath (k : Packet) : Option (Nat × Packet) :=
  let n := ((k.payload[0]?).map (·.toNat)).getD 0
  match n with
  | 0 => none
  | m + 1 =>
    match k.payload.drop 1 with
    | x :: rest =>
      let nums := rest.take 23 ++ [x]
      some (x.toNat, { k with payload := BitVec.ofNat 8 m :: nums ++ k.payload.drop 25 })
    | [] => none

/-- A feature that a port's link lacks for this packet: the refusal code (R254, R255). -/
def lacks (s : State) (p : Nat) (k : Packet) : Option Nat :=
  let c := k.cmd.toNat
  let legacy := portVer s p < 0x30
  if isHeartbeat k then (if legacy then some rNoRoute else if portCap s p 2 then none else some rBadVersion)
  else if (c = pAtomic ∨ c = pAtomicResp) ∧ !portCap s p 5 then some rBadVersion
  else if 1024 < k.payload.length ∧ !portCap s p 1 then some rBadVersion
  else if c = pTime ∧ !portCap s p 6 then some rBadVersion
  else none

/-- The header as it leaves on a port: HOPS counts a crossed device; an unauthenticated link clears AUTHPATH. -/
def leaveHeader (s : State) (p : Nat) (viaLink : Bool) (k : Packet) : Packet :=
  { k with hops := if viaLink then BitVec.ofNat 8 (min 255 (k.hops.toNat + 1)) else k.hops,
           authpath := k.authpath && portSession s p }

/-- Route, forecast and queue a packet; otherwise the refusal's code and port. REMAIN of a path-mode packet is 0 (log 127). -/
def tryRoute (s : State) (k : Packet) (viaLink : Bool) : Except (Nat × Nat) State :=
  let go := fun (p remain : Nat) (k : Packet) =>
    match lacks s p k with
    | some c => .error (c, p)
    | none =>
      if tooLate s p k remain (if viaLink then 90 else 39) then .error (rLate, p)
      else .ok (enqueue s p (leaveHeader s p viaLink k) remain viaLink)
  if k.path && k.cmd.toNat == pMgmt then
    match takePath k with
    | some (n, k') => if n < 32 && lstate s n == 5 then go (egress s n) 0 k' else .error (rNoRoute, n)
    | none => .ok (enqueueLocal s k)
  else
    match routePkt s k with
    | .here => .ok (enqueueLocal s k)
    | .out p remain => go p remain k
    | .refuse c p => .error (c, p)

/-! ### Refusals (R280, R281) -/

/-- CODEk of NG_REFCNT. -/
def refField (code : Nat) : Fld :=
  match code with
  | 1 => F.NG_REFCNT_CODE1
  | 2 => F.NG_REFCNT_CODE2
  | 3 => F.NG_REFCNT_CODE3
  | 4 => F.NG_REFCNT_CODE4
  | 5 => F.NG_REFCNT_CODE5
  | 6 => F.NG_REFCNT_CODE6
  | _ => F.NG_REFCNT_CODE7

/-- A packet that is dropped. -/
def countDrop (s : State) : State := s.bumpF F.NG_REFCNT_DROPPED 0

/-- A refusal with a code; NO_ROUTE raises source 160. -/
def countRefusal (s : State) (code : Nat) : State :=
  let s := s.bumpF (refField code) 0
  if code = rNoRoute then raiseSource s 160 else s

/-- A packet that this device originates as an answer: where it cannot leave, it is dropped; so is a NACK of a device with no
node ID (log 44). -/
def sendAnswer (s : State) (k : Packet) : State :=
  match tryRoute s k false with
  | .ok s => tracePacket s true k
  | .error e => countDrop (if e.1 = rNoRoute then raiseSource s 160 else s)

/-- The commands whose refusal is answered with a NACK. -/
def answered (k : Packet) : Bool :=
  let c := k.cmd.toNat
  c == pRead || c == pWrite || c == pAtomic || c == pMessage || (c == pMgmt && k.sub != 8)

/-- The NACK of a refused packet. `port` is the egress port, or 0xFF at the destination. -/
def nackOf (s : State) (k : Packet) (code port : Nat) : Packet :=
  { blankPacket with cmd := 12, sub := BitVec.ofNat 4 code, part := k.part, dst := k.src, src := BitVec.ofNat 18 (ownNode s),
                     tag := k.tag, len := k.len, addr := k.addr, deadline := BitVec.ofNat 64 (fabNow s + budgetOf k),
                     payload := [k.cmd.zeroExtend 8, k.hops, BitVec.ofNat 8 port, 0, 0, 0, 0, 0] }

/-- Refuse a packet, or drop it; a drop counts in DROPPED only (log 127). -/
def refuse (s : State) (k : Packet) (code port : Nat) : State :=
  if answered k then sendAnswer (countRefusal s code) (nackOf s k code port)
  else countDrop (if code = rNoRoute then raiseSource s 160 else s)

/-- An answer leaves by the link on which its request came, where the link has what it needs and the forecast admits it;
otherwise it is refused, and dropped (R254, R287). -/
def sendBy (s : State) (n : Nat) (a : Packet) : State :=
  let p := egress s n
  match lacks s p a with
  | some c => refuse s a c p
  | none =>
    if tooLate s p a 0 39 then refuse s a rLate p
    else enqueue (tracePacket s true a) p (leaveHeader s p false a) 0 false

/-- Refuse a packet that arrived on link `n`, which is QUARANTINED: the NACK answers by that link (R268). -/
def refuseOn (s : State) (n : Nat) (k : Packet) (code : Nat) : State :=
  if n < 32 && answered k then sendBy (countRefusal s code) n (nackOf s k code 0xFF) else refuse s k code 0xFF

/-- Route a packet, refusing it where it cannot go on. -/
def routePacket (s : State) (k : Packet) (viaLink : Bool) : State :=
  match tryRoute s k viaLink with
  | .ok s => s
  | .error (c, p) => refuse s k c p

/-- A packet that the local router port forms (R277). -/
def sendOwn (s : State) (k : Packet) : State :=
  let k := { k with src := BitVec.ofNat 18 (ownNode s), hops := 0, authpath := true }
  routePacket (tracePacket s true k) k false

/-! ### Arrivals -/

/-- A refusal that counts toward DENY_THR (R266). -/
def denyCount (s : State) (n : Nat) : State :=
  if n < 32 then
    let s := s.bumpF F.NG_LINKERR_DENIED n
    let times := s.time :: recent s 1000000 (lk s n).denyTimes
    let s := putLk s n { lk s n with denyTimes := times }
    if max 1 (s.fl F.NG_LINKCFG_DENY_THR n) ≤ times.length && lstate s n != 8 then linkQuarantine s n 6 else s
  else s

/-- The header as it arrives: an unauthenticated link clears AUTHPATH, and the packet of a partner that carries no
deadline is given one (R254, R256). -/
def arriveHeader (s : State) (n : Nat) (k : Packet) : Packet :=
  if 32 ≤ n then k
  else
    let k := { k with authpath := k.authpath && (lk s (sessHome s n)).session }
    if !linkCap s n 0 then
      { k with deadline := BitVec.ofNat 64 (fabNow s + 1000 * max 1 (s.fl F.NG_POLICY_LEGACY_TMO 0)) }
    else k

/-- The reverse-path check (R267): the route entry for the source `src` names link `n`, or a bond that holds it. -/
def reversePath (s : State) (n src : Nat) : Bool :=
  if n < 32 && s.fb F.NG_LINKCFG_RPF n && linkCap s n 7 then
    let (port, alt, _) := routeEntry s src
    let names := fun p => p == n || (32 ≤ p && (members s p).contains n)
    names port || names alt
  else true

/-- ENUMERATE and STATUS_READ pass a QUARANTINED link (R268, R273). -/
def passesQuarantine (k : Packet) : Bool := k.cmd.toNat == pMgmt && (k.sub == 0 || k.sub == 4)

/-- A packet that has arrived leaves the receive buffer, and credit for its flits is owed to the partner (R246); it counts
in its session. -/
def leaveBuffer (s : State) (n : Nat) (k : Packet) : State :=
  let h := sessHome s n
  let s := putLk s h { lk s h with rxCount := (lk s h).rxCount + 1 }
  let b := homeOf s n
  let x := lk s b
  let f := min x.held (flitsOf (lk s h).session k)
  putLk s b { x with held := x.held - f, owed := x.owed + f }

/-- A packet arrives on link `n`: quarantine and the reverse path are judged, then `f` takes it. A link that is not
trained brings no packet. Such a refusal names no egress port: 0xFF (log 127). -/
def arrive (s : State) (n : Nat) (k : Packet) (f : State → Packet → State) : State :=
  if !trained s n then s
  else
    let s := countEvent (leaveBuffer s n k) 0x41 n (some k.part.toNat)
    let k := arriveHeader s n k
    if lstate s n = 8 && !passesQuarantine k then refuseOn s n k rQuarantined
    else if !reversePath s n k.src.toNat then refuse (denyCount s n) k rDenied 0xFF
    else f s k

/-- The packet's destination is this device: a path without numbers left, or by route. -/
def isHere (s : State) (k : Packet) : Bool :=
  if k.path && k.cmd.toNat == pMgmt then (takePath k).isNone else routePkt s k == .here

/-- A router marks a packet corrupt (R283). -/
def invertTrailer (k : Packet) : Packet := { k with err := ~~~k.err }

/-- What a device on the way does not change: every field but HOPS, AUTHPATH, the deadline of a 2.x link, the numbers of a
path, and the trailer. -/
def fixedPart (k : Packet) : Packet :=
  { k with hops := 0, authpath := false, deadline := 0, err := 0,
           payload := if k.path then k.payload.drop 25 else k.payload }

/-- A packet on its way is the copy of one that arrived. -/
def isCopy (k : Packet) (viaLink : Bool) (c : Packet) : Bool := viaLink && fixedPart c == fixedPart k

/-- Change the first element that fits; none where none does. -/
def alterFirst {α : Type} (fits : α → Bool) (f : α → α) : List α → Option (List α)
  | [] => none
  | x :: xs => if fits x then some (f x :: xs) else (alterFirst fits f xs).map (x :: ·)

/-- Change the last element that fits. -/
def alterLast {α : Type} (fits : α → Bool) (f : α → α) (l : List α) : Option (List α) :=
  (alterFirst fits f l.reverse).map List.reverse

/-- Mark the newest copy of a packet corrupt at one output port: queued, or with its transmission begun. -/
def markQueued (k : Packet) (s : State) (p : Nat) : Option State :=
  (alterLast (fun q => isCopy k q.viaLink q.k) (fun q => { q with k := invertTrailer q.k }) (outQ s p)).map (putOut s p)
def markSent (k : Packet) (s : State) (p : Nat) : Option State :=
  let h := portHome p
  (alterLast (fun x => isCopy k x.viaLink x.k) (fun x => { x with k := invertTrailer x.k }) (lk s h).sent).map fun l =>
    putLk s h { lk s h with sent := l }

/-- Mark the forwarded copy of a packet corrupt (R248): still queued, or leaving. -/
def markCopy (k : Packet) (s : State) : State :=
  ((((List.range 43).findSome? (markQueued k s)).or ((List.range 40).findSome? (markSent k s))).getD s)

/-- PACKET_TAIL_ARRIVAL (R248, R266). -/
def execPacketTailArrival (l : Fin 34) (k : Packet) (tagOk : Bool) (s : State) : Host.Outcome State Fault Refusal :=
  .next (
    let n := l.val
    if !trained s n || !(lk s (sessHome s n)).session || tagOk then s
    else
      let s := if n < 32 then s.bumpF F.NG_LINKERR_TAGFAIL n else s
      let s := markCopy k s
      if n < 32 then
        let times := s.time :: recent s 1000000 (lk s n).tagTimes
        let s := putLk s n { lk s n with tagTimes := times }
        if max 1 (s.fl F.NG_LINKCFG_TAG_THR n) ≤ times.length && lstate s n != 8 then linkQuarantine s n 5 else s
      else s)

/-- The queued packet of earliest deadline, the first among equals, and the rest (R286). -/
def earliest : List QPkt → Option (QPkt × List QPkt)
  | [] => none
  | q :: qs =>
    match earliest qs with
    | none => some (q, [])
    | some (r, rest) => if r.k.deadline.toNat < q.k.deadline.toNat then some (r, q :: rest) else some (q, qs)

/-- The packet as it is put on the lane: toward a partner without deadlines it carries none (R256). -/
def onWire (s : State) (p : Nat) (k : Packet) : Packet :=
  if p = portMirror || portDeadline s p then k else { k with deadline := 0 }

/-- The link that carries a packet's header: the one that a heartbeat is for, or the next of the stripe. -/
def carrier (s : State) (h : Nat) (q : QPkt) : Option Nat :=
  let ms := sendLanes s h
  match q.lane with
  | some m => if ms.contains m then some m else ms.head?
  | none => ms[(lk s h).stripe % max 1 ms.length]?

/-- A TIME packet takes its time stamp as its first symbol leaves: SYNC this device's time in 1/256 ns, DELAY_RESP the
departure time (14 R299). -/
def stamped (s : State) (k : Packet) : Packet :=
  if k.cmd.toNat ≠ pTime then k
  else
    match k.sub.toNat with
    | 0 => { k with payload := natBytes (fabNow s * 256 + s.ep.frac / 2 ^ 24) 8 }
    | 2 => { k with payload := k.payload.take 8 ++ natBytes (fabNow s) 8 }
    | _ => k

/-- A port sends a packet: its flits leave while there is credit, striped over the links of the port (R245,
R246, R250); the credit owed to the partner goes with them (R244). A NACK counts as made on the link on which it leaves
(23 R485). `more`: another packet follows at once, and shares the last flit; otherwise idle fill ends it. -/
def transmit (s : State) (p : Nat) (q : QPkt) (more : Bool) : State :=
  let h := portHome p
  let x := lk s h
  let auth := portSession s p
  let n := newFlits auth x.fill q.k
  let used := (x.fill + (wireBytes auth q.k + 7) / 8 * 8) % 72
  let link := carrier s h q
  let s := putLk s h (sendOpen (flitPs s h) (fabNow s) (lanes s p)
    { x with unsent := x.unsent + n, owed := 0, sent := x.sent ++ [⟨onWire s p (stamped s q.k), n, q.viaLink⟩],
             fill := if more then used else 0 })
  match link with
  | some m =>
    let e := sessHome s m
    let s := putLk s e { lk s e with txCount := (lk s e).txCount + 1 }
    if 32 ≤ m then s
    else
      let s := countEvent s 0x40 m (some q.k.part.toNat)
      if q.k.cmd.toNat = pNack ∧ q.k.src.toNat = ownNode s then countEvent s 0x42 m (some q.k.part.toNat) else s
  | none => s

/-- Flits that the partner asks for again leave once more, from the one that it names to the last sent (R245); a number
that names none of those in the replay buffer asks for nothing. -/
def resendFlits (s : State) (h seq : Nat) : State :=
  let x := { lk s h with resend := none }
  let n := (x.txSeq + 4096 - seq % 4096) % 4096
  putLk s h (if n ≤ x.replay then onLane (flitPs s h) (fabNow s) (sendLanes s h).length n x else x)

/-- The port may send: a member is ACTIVE, or a port of the mirror stream is. -/
def portUp (s : State) (p : Nat) : Bool :=
  if p = portMirror then lstate s 32 == 5 || lstate s 33 == 5 else (members s p).any fun n => lstate s n == 5

/-- A packet that leaves on a QUARANTINED link: the answers to what arrives on it (R268, R273). -/
def leavesQuarantined (s : State) (q : QPkt) : Bool :=
  !q.viaLink && q.k.src.toNat == ownNode s
    && ((q.k.cmd.toNat == pNack && q.k.sub.toNat == rQuarantined) || (q.k.cmd.toNat == pMgmt && q.k.sub == 8))

/-- The packets of a port that may leave now, and the others. -/
def readyQ (s : State) (p : Nat) : List QPkt × List QPkt :=
  if portUp s p then (outQ s p, [])
  else if p < 32 && lstate s p == 8 then (outQ s p).partition (leavesQuarantined s)
  else ([], outQ s p)

/-- A port sends its packet of earliest deadline, which is checked again (R286, R288); that of a MIRROR packet is not
(15 R319). A packet whose next flit finds no credit does not start. -/
def sendEarliest (s : State) (p : Nat) : State :=
  let x := lk s (portHome p)
  let (ready, others) := readyQ s p
  match earliest ready with
  | none => s
  | some (q, rest) =>
    let auth := portSession s p
    if p ≠ portMirror && q.k.deadline.toNat * 1000 < (fabNow s + q.remain) * 1000 + tailPs auth q.k then
      refuse (putOut s p (others ++ rest)) q.k rLate p
    else if x.credit = 0 ∧ newFlits auth x.fill q.k ≠ 0 then s
    else transmit (putOut s p (others ++ rest)) p q (!rest.isEmpty)

/-- PACKET_TRANSMIT_START on a link, a bond or the mirror stream: flits that the partner has asked for go first (R245), then
those of the packet begun, which nothing interrupts (R286). -/
def transmitStart (s : State) (p : Nat) : State :=
  let h := portHome p
  let x := lk s h
  if (sendLanes s h).isEmpty then s
  else
    match x.resend with
    | some seq => resendFlits s h seq
    | none => if 0 < x.unsent then flushHome s h else sendEarliest s p

/-- LEGACY_TIMEOUT (R256): packets that have waited LEGACY_TMO toward a partner without deadlines are refused LATE. -/
def execLegacyTimeout (l : Fin 32) (s : State) : Host.Outcome State Fault Refusal :=
  .next (
    let n := l.val
    let tmo := 1000 * max 1 (s.fl F.NG_POLICY_LEGACY_TMO 0)
    let q := outQ s n
    if linkVer s n = 0 || linkCap s n 0 then s
    else
      let old := q.filter fun e => e.since + tmo ≤ fabNow s
      old.foldl (fun s e => refuse s e.k rLate n) (putOut s n (q.filter fun e => !(e.since + tmo ≤ fabNow s))))

/-- The output ports whose packets are lost with link `n`: its own, and that of a bond which it was the last to leave. -/
def failedPorts (s : State) (n : Nat) : List Nat :=
  let b := 31 + (lk s n).bond
  if (lk s n).left && 32 ≤ b && b < 40 && (members s b).isEmpty then [n, b] else [n]

/-- LINK_FAILURE_TIMEOUT (R269): the requests whose header the router still holds are refused with NO_ROUTE. -/
def execLinkFailureTimeout (l : Fin 32) (s : State) : Host.Outcome State Fault Refusal :=
  .next (
    let n := l.val
    if trained s n || lstate s n == 0 then s
    else
      (failedPorts s n).foldl (fun s p =>
        let h := portHome p
        let held := (lk s h).sent.map (·.k) ++ (outQ s p).map (·.k)
        let s := putLk (putOut s p []) h { lk s h with sent := [], unsent := 0, replay := 0 }
        held.foldl (fun s k => if k.cmd.toNat == pMgmt then countDrop s else refuse s k rNoRoute p) s) s)

/-! ### Ingress windows (R291 to R293) -/

/-- What the windows decide: the type and partition of an admitted request, or a refusal's code. -/
inductive Admit where
  | ok (type part : Nat)
  | refuse (code : Nat)
  deriving DecidableEq, Repr

/-- The windows of link `n`; a bond's are its lowest-numbered member's. -/
def windowLink (s : State) (n : Nat) : Nat :=
  match bondOf s n with
  | some b => (members s (b - 2)).headD n
  | none => n

/-- PERM permits the command. -/
def winPermits (s : State) (e c : Nat) : Bool :=
  let bit := match c with | 1 => 0 | 3 => 1 | 5 => 2 | 7 => 3 | _ => 4
  bitAt (s.fl F.ST_WINCTL_PERM e) bit

/-- An offset in a register block marked "Through ingress windows" (01 R26). -/
def winBlock (s : State) (off : Nat) : Bool := target s off == .reg && !neverFabric off

/-- type_fits (R292): a Device window fits a naturally aligned 4-byte or 8-byte READ or WRITE of such a block; another
window fits memory. MESSAGE and EVENT have no offset. -/
def typeFits (s : State) (ty : Nat) (k : Packet) : Bool :=
  let c := k.cmd.toNat
  if c = pMessage ∨ c = pEvent then true
  else
    let reg := target s k.addr.toNat == .reg
    if ty = 2 then
      reg && winBlock s k.addr.toNat && (c == pRead || c == pWrite) && (k.len == 4 || k.len == 8)
        && k.addr.toNat % k.len.toNat == 0
    else !reg

/-- Ingress window `e` is valid: TYPE 3 acts as VALID = 0. -/
def windowValid (s : State) (e : Nat) : Bool := s.fb F.ST_WINCTL_VALID e && s.fl F.ST_WINCTL_TYPE e != 3

/-- Take tokens of window `e`: none where the bucket holds too few (R293). State holds the bytes missing. -/
def takeTokens (s : State) (e : Nat) (k : Packet) : Option State :=
  if s.fl F.ST_WINRATE_RATE e = 0 then some s
  else
    let need := 64 + k.len.toNat
    let missing := mget 0 s.router.wtok e
    if missing + need ≤ s.fl F.ST_WINRATE_BURST e * 64 then
      some { s with router := { s.router with wtok := mset 0 s.router.wtok e (missing + need) } }
    else none

/-- A violation of the windows of link `n` is counted and latched (16 R358). -/
def windowViolation (s : State) (n : Nat) (region : Option Nat) (k : Packet) : State :=
  let kind := match k.cmd.toNat with | 1 => 0 | 5 => 3 | _ => 1
  let part := match region with | some w => s.fl F.ST_WINCTL_PTAG (16 * n + w) | none => 0
  latchViolation s (40 + n) 1 part kind false region k.addr.toNat

/-- The lowest-numbered window that matches. -/
def windowHit (s : State) (n : Nat) (k : Packet) : Option Nat :=
  (List.range 16).find? fun w =>
    let e := 16 * n + w
    windowValid s e
      && (k.src.toNat &&& s.fl F.ST_WINCTL_SMASK e) == (s.fl F.ST_WINCTL_SNODE e &&& s.fl F.ST_WINCTL_SMASK e)
      && (k.cmd.toNat == pMessage || k.cmd.toNat == pEvent
          || (s.fl F.ST_WINRANGE_BASE e * 4096 ≤ k.addr.toNat
              && k.addr.toNat + max k.len.toNat 1 - 1 ≤ s.fl F.ST_WINRANGE_LIMIT e * 4096 + 4095))

/-- admit(pkt, n) (R291). The mirror ports have no windows and admit nothing. -/
def admitPacket (s : State) (l : Nat) (k : Packet) : Admit × State :=
  if 32 ≤ l then (.refuse rDenied, s)
  else
    let n := windowLink s l
    match windowHit s n k with
    | none => (.refuse rDenied, denyCount (windowViolation s n none k) l)
    | some w =>
      let e := 16 * n + w
      let c := k.cmd.toNat
      let ty := s.fl F.ST_WINCTL_TYPE e
      let part := s.fl F.ST_WINCTL_PTAG e
      if !winPermits s e c || (c == pMessage && s.fl F.NG_RQCFG_PART (k.addr.toNat % 16) != part) || !typeFits s ty k then
        (.refuse rDenied, denyCount (windowViolation s n (some w) k) l)
      else
        match takeTokens s e k with
        | some s => (.ok ty part, s)
        | none => (.refuse rBusy, denyCount s l)

/-- What a packet needs before the windows are asked, for any request (R276, R278, R289): the refusal's code. -/
def requestFault (s : State) (k : Packet) : Option Nat :=
  if k.deadline.toNat < fabNow s then some rLate
  else if corrupt k then some rCorrupt
  else if k.reserved then some rBadVersion
  else none

end Sys2Proof.Machine
end

