-- ==== Sys2Proof/Machine/Debug.lean ====
section
/-! DEFINITION. The debug grant, catch, step and comparators, the trace unit's registers and sink, and the counters'
registers (spec 23 R467 to R488). The debug port's instructions are in DebugPort. -/

namespace Sys2Proof.Machine

def onDbg (s : State) (f : Dbg → Dbg) : State := { s with dbg := f s.dbg }

/-- STATUS codes of a mailbox response (16 R353). -/
def stOk : Nat := 0
def stBadVersion : Nat := 1
def stBadCommand : Nat := 2
def stDenied : Nat := 3
def stBadSignature : Nat := 4
def stBusy : Nat := 5

/-- The level at which the debug port acts (R467). -/
def portLevel (s : State) : Nat := if s.fb F.DB_GRANT_PORT 0 then s.fl F.DB_GRANT_LEVEL 0 else 0

/-- DB_GRANT as read. -/
def grantWord (s : State) : Nat :=
  s.fl F.DB_GRANT_LEVEL 0 + s.fl F.DB_GRANT_PORT 0 * 2 ^ 2 + s.fl F.DB_GRANT_ONCHIP 0 * 2 ^ 3
    + s.fl F.DB_GRANT_UNTIMED 0 * 2 ^ 4 + s.fl F.DB_GRANT_STATUS 0 * 2 ^ 5

/-- A record of R488. -/
def dbgRecord (s : State) (cls code mask : Nat) : State := dregs s 0x400 cls code (grantWord s + mask * 2 ^ 64)

/-- The requester may write a debug register: the machine level, or the port at `level` (23 "Registers"). -/
def mayDebug (s : State) (w : Wr) (level : Nat) : Bool :=
  isMachine s w.q || (w.q == .debugPort && level ≤ portLevel s)

/-- Ring 0 of a partition with full on-chip rights. -/
def fullRing0 (s : State) : Requester → Bool
  | .core c => ringCode s c == 0 && onChip s 2 (partOf s c)
  | _ => false

/-- A held core makes its first fetch (R474). -/
def releaseHeld (s : State) : State :=
  let s := allCores.foldl (fun s c =>
    let p := Proc.core c
    if (s.cpu p).run = .held then s.setCpu p { s.cpu p with run := .running } else s) s
  s.setF F.DB_CATCH_HELD 0 0

/-- STEP, SKIP and DEBUG REQUEST of core `c` are withdrawn. -/
def withdrawDebug (s : State) (c : Fin 16) : State :=
  let p := Proc.core c
  let s := (s.setB F.DB_CORECTL_STEP c.val false).setB F.DB_CORECTL_SKIP c.val false
  s.setCpu p { s.cpu p with dbgReq := false, stepBank := none }

/-- The grant ends (R470). -/
def endGrant (s : State) : State :=
  if s.fl F.DB_GRANT_LEVEL 0 = 0 then s
  else
    let mask := s.fl F.DB_GRANTMASK_PMASK 0
    let s := [F.DB_GRANT_LEVEL, F.DB_GRANT_PORT, F.DB_GRANT_ONCHIP, F.DB_GRANT_UNTIMED, F.DB_GRANTMASK_PMASK].foldl
      (fun s f => s.setF f 0 0) s
    let s := releaseHeld (allCores.foldl withdrawDebug s)
    dbgRecord (raiseSource s 272) clsInfo 0xB02 mask

/-- Seconds of the real-time clock, which counts µs, and of KCLK. -/
def rtcSeconds (us : Nat) : Nat := us / 1000000
def kclkSeconds (s : State) : Nat := s.time / 1000000000

/-- The 136 bytes of a certificate (R468). -/
def certOf (b : List Byte) : Cert :=
  let at_ := fun (i n : Nat) => bytesNat ((b.drop i).take n)
  { version := BitVec.ofNat 16 (at_ 0 2), level := BitVec.ofNat 8 (at_ 2 1), lc := BitVec.ofNat 8 (at_ 3 1),
    serial := BitVec.ofNat 64 (at_ 4 8), pmask := BitVec.ofNat 64 (at_ 12 8), notBefore := BitVec.ofNat 64 (at_ 20 8),
    expiry := BitVec.ofNat 64 (at_ 28 8), scope := BitVec.ofNat 8 (at_ 36 1), reserved := BitVec.ofNat 24 (at_ 37 3),
    sig := (b.drop 40).take 96 }

/-- check_grant (R469): STATUS, and the end of an accepted grant. `sigOk` is what the signature check came to. -/
def checkGrant (s : State) (c : Cert) (sigOk : Bool) : Nat × Nat :=
  let lc := s.fl F.LC_STATE_STATE 0
  if lc = 5 then (stDenied, 0)
  else if c.version ≠ 0x0100 ∨ (c.level ≠ 1 ∧ c.level ≠ 2) ∨ c.reserved ≠ 0 ∨ 4 ≤ c.scope.toNat then (stBadCommand, 0)
  else if c.serial ≠ Config.serial ∨ c.lc.toNat ≠ lc then (stDenied, 0)
  else if !sigOk then (stBadSignature, 0)
  else match s.sup.rtc with
    | some us =>
      if rtcSeconds us < c.notBefore.toNat ∨ c.expiry.toNat ≤ rtcSeconds us then (stDenied, 0) else (stOk, c.expiry.toNat)
    | none => (stOk, kclkSeconds s + 3600)

/-- Cores whose partition has no full right any more lose what they have pending (R473). -/
def recheckDebug (s : State) : State :=
  allCores.foldl (fun s c =>
    let p := Proc.core c
    if 2 ≤ s.fl F.DB_GRANT_LEVEL 0 && bitAt (s.fl F.DB_GRANTMASK_PMASK 0) (partOf s c) then s
    else s.setCpu p { s.cpu p with dbgReq := false }) s

/-- A certificate is checked, and installed where it is accepted: the STATUS of the answer. -/
def presentCert (s : State) (c : Cert) (sigOk : Bool) : Nat × State :=
  let (st, ends) := checkGrant s c sigOk
  let s := s.setF F.DB_GRANT_STATUS 0 st
  let mask := c.pmask.toNat
  if st = stOk then
    let s := ((s.setF F.DB_GRANT_LEVEL 0 c.level.toNat).setF F.DB_GRANT_PORT 0 (c.scope.toNat % 2)).setF
      F.DB_GRANT_ONCHIP 0 (c.scope.toNat / 2 % 2)
    let s := (s.setB F.DB_GRANT_UNTIMED 0 s.sup.rtc.isNone).setF F.DB_GRANTMASK_PMASK 0 mask
    let s := recheckDebug (onDbg s fun d => { d with ends := ends })
    (st, dbgRecord (raiseSource s 272) clsInfo 0xB00 mask)
  else (st, dbgRecord (raiseSource s 272) clsWarn 0xB01 mask)

/-- The clock that the grant ends by, KCLK's seconds where it is untimed and the real-time clock elsewhere, has come to the
grant's end (R469, R470). -/
def grantClock (s : State) : State :=
  if s.fb F.DB_GRANT_UNTIMED 0 then { s with time := max s.time (s.dbg.ends * 1000000000) }
  else { s with sup := { s.sup with rtc := s.sup.rtc.map (max (s.dbg.ends * 1000000)) } }

/-- GRANT_EXPIRY: the command says that the end has come (log 10), so the clock has reached it. -/
def execGrantExpiry (s : State) : Host.Outcome State Fault Refusal :=
  .next (if s.fl F.DB_GRANT_LEVEL 0 = 0 then s else endGrant (grantClock s))

/-- DB_GRANT: REVOKE, at ring 0 of any partition, at the machine level or through the port at level full. -/
def dbGrantWrite (s : State) (w : Wr) : State :=
  if isRing0 s w.q || mayDebug s w 2 then (if w.on F.DB_GRANT_REVOKE then endGrant s else s) else ignoreWarn s w

/-- DB_GRANT_REVOKE. -/
def execDbGrantRevoke (q : Requester) (s : State) : Host.Outcome State Fault Refusal :=
  rowWrite q 0xE05000000 0x100 dbGrantWrite s

/-- DB_CATCH: through the port at level full; CORES with partition 0 in PMASK; KEY asks for a DBR (R474, R61). -/
def dbCatchWrite (s : State) (w : Wr) : State :=
  if w.q == .debugPort && portLevel s == 2 then
    let s := if bitAt (s.fl F.DB_GRANTMASK_PMASK 0) 0 then putField s w F.DB_CATCH_CORES 0 0 else s
    let s := if w.on F.DB_CATCH_RELEASE then releaseHeld s else s
    if w.touches F.DB_CATCH_KEY && w.bits F.DB_CATCH_KEY == 0x4442 then
      let s := dbgRecord s clsInfo 0xB03 (s.fl F.DB_GRANTMASK_PMASK 0)
      warmStart (onDbg s fun d => { d with marked := BitVec.ofNat 16 (s.fl F.DB_CATCH_CORES 0) }) 5 0
    else s
  else ignoreWarn s w

def execDbCatchRelease (q : Requester) (v : Word) (s : State) : Host.Outcome State Fault Refusal :=
  rowWrite q 0xE05000010 v dbCatchWrite s
def execDbCatchDbr (q : Requester) (v : Word) (s : State) : Host.Outcome State Fault Refusal :=
  rowWrite q 0xE05000010 v dbCatchWrite s

/-- DB_CORECTLc (R473, R475): REQUEST through the port at level full only. The next TRET of the core chooses the bank. -/
def corectlWrite (s : State) (w : Wr) (c : Fin 16) : State :=
  if mayDebug s w 2 || fullRing0 s w.q then
    let s := putFields s w [F.DB_CORECTL_STEP, F.DB_CORECTL_SKIP] c.val c.val
    let k := s.cpu (.core c)
    let ask := w.on F.DB_CORECTL_REQUEST && w.q == .debugPort && k.dbgctl.getLsbD 0
      && bitAt (s.fl F.DB_GRANTMASK_PMASK 0) (partOf s c)
    s.setCpu (.core c) { k with stepBank := none, dbgReq := k.dbgReq || ask }
  else ignoreWarn s w

def execDbCorectlStep (q : Requester) (c : Fin 16) (v : Word) (s : State) : Host.Outcome State Fault Refusal :=
  rowWrite q (0xE05010000 + 0x100 * c.val) v (fun s w => corectlWrite s w c) s
def execDbCorectlSkip (q : Requester) (c : Fin 16) (v : Word) (s : State) : Host.Outcome State Fault Refusal :=
  rowWrite q (0xE05010000 + 0x100 * c.val) v (fun s w => corectlWrite s w c) s
def execDbCorectlRequest (q : Requester) (c : Fin 16) (v : Word) (s : State) : Host.Outcome State Fault Refusal :=
  rowWrite q (0xE05010000 + 0x100 * c.val) v (fun s w => corectlWrite s w c) s

/-- DB_CMPCTLc,k (`ctl`) and DB_CMPADDRc,k, number x = 8 c + k: a write of a control register disarms its pair. PAIR is
reserved in odd comparators. -/
def cmpWrite (s : State) (w : Wr) (x : Nat) (ctl : Bool) : State :=
  if mayDebug s w 2 || fullRing0 s w.q then
    if ctl then
      let s := putFields s w [F.DB_CMPCTL_EN, F.DB_CMPCTL_KIND, F.DB_CMPCTL_ACTION, F.DB_CMPCTL_RINGS, F.DB_CMPCTL_ASIDEN,
        F.DB_CMPCTL_ASID, F.DB_CMPCTL_PARTEN, F.DB_CMPCTL_PART] x x
      let s := if x % 2 = 0 then putField s w F.DB_CMPCTL_PAIR x x else s
      s.setBit F.DB_CORECTL_ARMED (x / 8) (x % 8 / 2) false
    else putField s w F.DB_CMPADDR_ADDR x x
  else ignoreWarn s w

/-! ### Trace -/

/-- The trace registers are written at the machine level, or through the port at level non-invasive. -/
def atTrace (s : State) (w : Wr) (f : State → State) : State := if mayDebug s w 1 then f s else ignoreWarn s w

/-- TR_CFG (R481, R482): a rise of EN starts WRPTR anew; trace is active at once where it is not gated. -/
def trcfgWrite (s : State) (w : Wr) : State :=
  atTrace s w fun s =>
    let was := s.fb F.TR_CFG_EN 0
    let ungated := was && !s.fb F.TR_CFG_GATED 0
    let s := putFields s w [F.TR_CFG_EN, F.TR_CFG_GATED, F.TR_CFG_POURSYNC, F.TR_CFG_FABRIC, F.TR_CFG_DRAM, F.TR_CFG_CORES] 0 0
    let on := s.fb F.TR_CFG_EN 0
    let s := if on && !was then s.setF F.TR_PTR_WRPTR 0 0 else s
    if !on then s.setB F.TR_STAT_ACTIVE 0 false
    else if s.fb F.TR_CFG_GATED 0 then (if ungated || !was then s.setB F.TR_STAT_ACTIVE 0 false else s)
    else if s.fb F.TR_STAT_ACTIVE 0 then s
    else traceSync (s.setB F.TR_STAT_ACTIVE 0 true)

/-- TR_STAT: any 1 clears LOST or EXPNACK. -/
def trstatWrite (s : State) (w : Wr) : State :=
  atTrace s w fun s =>
    let s := if w.bits F.TR_STAT_LOST ≠ 0 then s.setF F.TR_STAT_LOST 0 0 else s
    if w.bits F.TR_STAT_EXPNACK ≠ 0 then s.setF F.TR_STAT_EXPNACK 0 0 else s

/-- KIND of the sink; 3 acts as 0. -/
def sinkKind (s : State) : Nat := s.fl F.TR_SINK_KIND 0 % 3

/-- Bytes of the sink's ring. -/
def sinkBytes (s : State) : Nat := if sinkKind s = 0 then 2 ^ 20 else 2 ^ (s.fl F.TR_SINK_SIZE 0 + 16)

/-- The sink has no space for a line more (R483). The pointers wrap, and the largest ring has 2^31 bytes. -/
def sinkFull (s : State) : Bool :=
  let wr := s.fl F.TR_PTR_WRPTR 0
  let filled := (wr + 2 ^ 32 - s.fl F.TR_PTR_RDPTR 0) % 2 ^ 32
  !s.fb F.TR_SINK_WRAP 0 && (match sinkKind s with
    | 0 => 2 ^ 20 ≤ wr
    | 1 => sinkBytes s ≤ filled && filled ≤ 2 ^ 31
    | _ => false)

/-- FULL follows the sink: source 273 when it is set. -/
def showFull (s : State) : State :=
  let was := s.fb F.TR_STAT_FULL 0
  let s := s.setB F.TR_STAT_FULL 0 (sinkFull s)
  if s.fb F.TR_STAT_FULL 0 && !was then raiseSource s 273 else s

/-- Local offset of the on-chip trace buffer's window. -/
def traceBuf : Nat := 0xE05400000

/-- WRPTR advances. -/
def wrAdvance (s : State) (n : Nat) : State := s.setF F.TR_PTR_WRPTR 0 (s.fl F.TR_PTR_WRPTR 0 + n)

/-- An export WRITE of 256 records (R483). -/
def exportBlock (s : State) (rs : List Nat) : State :=
  let p := s.fl F.TR_SINK_EPART 0
  let at_ := s.fl F.TR_SINK_BASE 0 * 65536 + s.fl F.TR_PTR_WRPTR 0 % sinkBytes s
  let k := { blankPacket with cmd := 3, part := BitVec.ofNat 6 p, dst := BitVec.ofNat 18 (s.fl F.TR_SINK_ENODE 0),
                              tag := 0xFC00, len := 4096, addr := BitVec.ofNat 36 at_,
                              rbudget := BitVec.ofNat 28 (s.fl F.NG_DLBUDGET_RESP p),
                              deadline := BitVec.ofNat 64 (fabNow s + s.fl F.NG_DLBUDGET_REQ p),
                              payload := rs.flatMap fun r => natBytes r 16 }
  sendOwn (wrAdvance s 4096) k

/-- One record reaches the sink: the on-chip buffer at once, the DRAM ring as lines of four records, an export as blocks
of 256. `exports` holds the records of the line or block begun. -/
def sinkOne (s : State) (r : Nat) : State :=
  let put := fun (s : State) (l : List Nat) =>
    { s with trace := { s.trace with exports := if l.isEmpty then [] else [l] } }
  let held := s.trace.exports.headD [] ++ [r]
  match sinkKind s with
  | 0 => showFull (wrAdvance (writeBytes s (traceBuf + s.fl F.TR_PTR_WRPTR 0 % 2 ^ 20) 16 r) 16)
  | 1 =>
    if held.length < 4 then put s held
    else
      let off := s.fl F.TR_SINK_BASE 0 * 65536 + s.fl F.TR_PTR_WRPTR 0 % sinkBytes s
      showFull (wrAdvance (dmaWrite (put s []) 7 none off (held.flatMap fun r => natBytes r 16)) 64)
  | _ => if held.length < 256 then put s held else exportBlock (put s []) held

/-- Drain the FIFO into the sink (R483): `n` records at most. Records that find the sink full are lost, or wait while
STALL = 1. -/
def traceDrain (s : State) : Nat → State
  | 0 => s
  | n + 1 =>
    match s.trace.fifo with
    | [] => s
    | r :: rest =>
      let s := showFull s
      let pop := fun (s : State) => { s with trace := { s.trace with fifo := rest } }
      if sinkFull s then
        if s.fb F.TR_SINK_STALL 0 then s
        else
          let was := s.fl F.TR_STAT_LOST 0
          let s := (pop s).bumpF F.TR_STAT_LOST 0
          let s := { s with trace := { s.trace with lost := s.trace.lost + 1 } }
          traceDrain (if was = 0 then raiseSource s 274 else s) n
      else traceDrain (sinkOne (pop s) r) n

/-- What has been lost is written as LOST and SYNC once there is space (R481, R483). -/
def traceReport (s : State) : State :=
  if s.trace.lost = 0 || sinkFull s || 255 ≤ s.trace.fifo.length then s
  else
    let n := s.trace.lost
    traceSync (traceRaw { s with trace := { s.trace with lost := 0 } } 9 0 0 0 (n % 2 ^ 32) false)

/-- Warm reset (R484): the FIFO's records reach the on-chip buffer and are lost for the other sinks. -/
def traceFlush (s : State) : State :=
  let s := if sinkKind s = 0 then traceDrain s 256 else s
  { s with trace := {} }

/-! ### Counters -/

/-- PC_EVTn and PC_CNTn: the machine level only. -/
def pcevtWrite (s : State) (w : Wr) (n : Nat) : State :=
  atMachine s w fun s =>
    putFields s w [F.PC_EVT_EVENT, F.PC_EVT_UNIT, F.PC_EVT_PART, F.PC_EVT_PANY, F.PC_EVT_EN, F.PC_EVT_IRQ] n n

def pccntWrite (s : State) (w : Wr) (n : Nat) : State :=
  atMachine s w fun s => putFields s w [F.PC_CNT_COUNT, F.PC_CNT_OVF] n n

/-- PC_CNT_WRITE (R486). -/
def execPcCntWrite (q : Requester) (n : Fin 32) (v : Word) (s : State) : Host.Outcome State Fault Refusal :=
  rowWrite q (0xE06000008 + 0x10 * n.val) v (fun s w => pccntWrite s w n.val) s

end Sys2Proof.Machine
end

