-- ==== Sys2Proof/Machine/DramCtl.lean ====
section
/-! DEFINITION. The memory controller's own commands: initialisation, fill, scrub, refresh and budgets (spec 19 R404,
R407, R408, R410, R412, R413). -/

namespace Sys2Proof.Machine

def onDram (s : State) (f : Dram → Dram) : State := { s with dram := f s.dram }

/-- GiB of one channel as MC_CFG.CAP codes them. -/
def capGib (code : Nat) : Nat := match code with | 1 => 3 | 2 => 4 | 3 => 6 | 4 => 8 | 5 => 12 | _ => 2

/-- Usable bytes of the four channels (R404). -/
def usableBytes (code : Nat) : Nat := 4 * capGib code * 2 ^ 30 / 32 * 31

/-- A 4-bit mask with bit `c`. -/
def chBit (c : Nat) : BitVec 4 := 1#4 <<< c

/-- The contents of channel `c` become undefined (R407, R413). -/
def contentsLost (s : State) (c : Nat) : State :=
  onDram s fun d => { d with undef := d.undef ||| chBit c, writes := d.writes.filter (·.channel != c), known := d.known.filter fun e => e.1 / 4 % 4 ≠ c, flips := d.flips.filter fun e => e.1 / 4 % 4 ≠ c }

/-- INIT of channel `c` (R413): it is not trained and not ready until its training ends. Contents are kept only with
KEEP and from self-refresh, which a trained channel enters first, its write queue drained. -/
def initChannel (s : State) (keep : Bool) (c : Nat) : State :=
  let s := drainWrites s c
  let trained := bitAt (s.fl F.MC_STAT_TRAINED 0) c
  let kept := keep && (trained || s.dram.selfRef.getLsbD c)
  let s := (s.setBit F.MC_STAT_TRAINED 0 c false).setReady (29 + c) false
  let s := { s with pwr := { s.pwr with timedOut := mset false s.pwr.timedOut (29 + c) false } }
  let s := if kept then s else contentsLost s c
  let s := onDram s fun d => { d with inInit := d.inInit ||| chBit c, selfRef := d.selfRef &&& ~~~(chBit c),
                                      keepInit := if keep then d.keepInit ||| chBit c else d.keepInit &&& ~~~(chBit c) }
  s.setF F.PW_DOM_STATE (28 + c) 0

/-- A fill is asked for: it starts, or is held until the channel is trained (R407). FILLING reads 1 from the write. -/
def fillChannel (s : State) (c : Nat) : State :=
  let s := s.setBit F.MC_STAT_FILLING 0 c true
  if bitAt (s.fl F.MC_STAT_TRAINED 0) c then s else onDram s fun d => { d with fillHeld := d.fillHeld ||| chBit c }

/-- The channels that a 4-bit field names. -/
def channelsOf (m : Nat) : List Nat := (List.range 4).filter fun c => bitAt m c

/-- MC_CTL: the machine level. -/
def mctlWrite (s : State) (w : Wr) : State :=
  atMachine s w fun s =>
    let init := w.bits F.MC_CTL_INIT
    let s := if init ≠ 0 then onDram s fun d => { d with usable := usableBytes (s.fl F.MC_CFG_CAP 0) } else s
    let s := (channelsOf init).foldl (fun s c => initChannel s (w.on F.MC_CTL_KEEP) c) s
    (channelsOf (w.bits F.MC_CTL_FILL)).foldl fillChannel s

def execMcCtlInit (q : Requester) (v : Word) (s : State) : Host.Outcome State Fault Refusal :=
  rowWrite q 0xE00800008 v mctlWrite s
def execMcCtlFill (q : Requester) (v : Word) (s : State) : Host.Outcome State Fault Refusal :=
  rowWrite q 0xE00800008 v mctlWrite s

/-- CHANNEL_TRAINED (R413). -/
def execChannelTrained (n : Fin 4) (s : State) : Host.Outcome State Fault Refusal :=
  .next (
    let c := n.val
    if s.dram.inInit.getLsbD c && powered s (28 + c) then
      let s := onDram s fun d => { d with inInit := d.inInit &&& ~~~(chBit c), fillHeld := d.fillHeld &&& ~~~(chBit c) }
      (s.setBit F.MC_STAT_TRAINED 0 c true).setReady (29 + c) true
    else s)

/-- FILL_COMPLETE (R407): every line of the channel is zeros with valid check bits. The fill is traffic without budget:
the budgeted requests were served before it (R409). -/
def execFillComplete (n : Fin 4) (s : State) : Host.Outcome State Fault Refusal :=
  .next (
    let c := n.val
    if bitAt (s.fl F.MC_STAT_FILLING 0) c && bitAt (s.fl F.MC_STAT_TRAINED 0) c then
      let s := serveBudgeted s c
      let s := { s with mem := s.mem.filter fun e => decide (s.dram.usable ≤ e.1) || decide (e.1 / 256 % 4 ≠ c) }
      let s := onDram s fun d =>
        { d with undef := d.undef &&& ~~~(chBit c), known := d.known.filter fun e => e.1 / 4 % 4 ≠ c,
                 flips := d.flips.filter fun e => e.1 / 4 % 4 ≠ c }
      s.setBit F.MC_STAT_FILLING 0 c false
    else s)

/-- SCRUB_READ (R406, R407): a line read without budget, after the budgeted requests (R409). A corrected line is written back;
an uncorrectable one is left. `upset` bits of the stored line go wrong after it, until the line is read again or written (R405;
log 113). -/
def execScrubRead (n : Fin 4) (addr : BitVec 36) (upset : Fin 3) (s : State) : Host.Outcome State Fault Refusal :=
  .next (
    let off := addr.toNat / 64 * 64
    if s.fl F.MC_SCRUB_PERIOD 0 ≠ 0 ∧ target s off = .dram n ∧ bitAt (s.fl F.MC_STAT_TRAINED 0) n.val
        ∧ s.dram.selfRef.getLsbD n.val = false then
      let s := countEvent (serveBudgeted s n.val) 0x31 n.val none
      let s := (match readLine s none off with
        | .ok _ s => s
        | .fail _ s => s
        | .stall s => s)
      onDram s fun d => { d with flips := mset 0 d.flips (off / 64) (max upset.val (mget 0 d.flips (off / 64))) }
    else s)

/-- A budgeted request of channel `ch` for a bank other than `bank` waits (R412). Which bank a line lies in is the part's own
(log 117). -/
def otherBankWaits (s : State) (ch bank : Nat) : Bool :=
  (channelWrites s ch).any fun w => w.budgeted && Config.bankOf w.line % 32 != bank

/-- REFRESH (R412): a refresh of the bank falls due. The controller performs it, and none of the bank is postponed any more; or,
with `postpone`, puts it off, where fewer than 8 are postponed and no budgeted request for another bank waits. -/
def execRefresh (n : Fin 4) (bank : Fin 32) (postpone : Bool) (s : State) : Host.Outcome State Fault Refusal :=
  .next (
    let key := 32 * n.val + bank.val
    let owed := mget 0 s.dram.refreshes key
    if bitAt (s.fl F.MC_STAT_TRAINED 0) n.val && !s.dram.selfRef.getLsbD n.val then
      let off := postpone && decide (owed < 8) && !otherBankWaits s n.val bank.val
      onDram s fun d => { d with refreshes := mset 0 d.refreshes key (if off then owed + 1 else 0) }
    else s)

/-- REFRESH_RATE_READ (R412): the indicator that sets the refresh interval. -/
def execRefreshRateRead (n : Fin 4) (rate : BitVec 5) (s : State) : Host.Outcome State Fault Refusal :=
  .next (
    if bitAt (s.fl F.MC_STAT_TRAINED 0) n.val then
      onDram s fun d => { d with refRate := mset 0 d.refRate n.val rate.toNat }
    else s)

/-! ### Budgets -/

/-- Sums of RATE and BURST over the partitions (R410). -/
def budgetSums (s : State) : Nat × Nat :=
  (((List.range 64).map fun p => s.fl F.MC_BUDGET_RATE p).sum, ((List.range 64).map fun p => s.fl F.MC_BUDGET_BURST p).sum)

/-- The sums are checked after a change of MC_BUDGETp became active (R410). -/
def budgetCheck (s : State) : State :=
  let (r, b) := budgetSums s
  let beyond := decide (152 < r ∨ 32 < b)
  let was := s.fb F.MC_STAT_OVERCOMMIT 0
  let s := s.setB F.MC_STAT_OVERCOMMIT 0 beyond
  if beyond && !was then dregs (raiseSource s 261) 0x184 clsWarn 0x702 (r % 2 ^ 16 + b % 2 ^ 16 * 2 ^ 16) else s

/-- Missing from a bucket after a change of its depth: its level is kept, clipped to the new depth. -/
def reclip (old new missing : Nat) : Nat := new - min (old - missing) new

/-- The buckets of partition `p` after its BURST changed from `old`. -/
def budgetReclip (s : State) (p old : Nat) : State :=
  let new := s.fl F.MC_BUDGET_BURST p
  if old = new then s
  else (List.range 4).foldl (fun s c =>
    onDram s fun d => { d with tokens := mset 0 d.tokens (4 * p + c) (reclip old new (mget 0 d.tokens (4 * p + c))) }) s

/-- MC_BUDGETp: the machine level; at once while no epochs run. -/
def budgetWrite (s : State) (w : Wr) (p : Nat) : State :=
  atMachine s w fun s =>
    let old := s.fl F.MC_BUDGET_BURST p
    let s := putFields s w [F.MC_BUDGET_RATE, F.MC_BUDGET_BURST] p p
    if s.epochOn then s else budgetCheck (budgetReclip s p old)

end Sys2Proof.Machine
end

