-- ==== Sys2Proof/Machine/Epoch.lean ====
section
/-! DEFINITION. Fabric time: TIME packets, the choice of a grandmaster and the time states; node IDs, whose change makes
that choice again; the epoch unit's registers; and the epoch-deadline watchdog (spec 12 R271; 14 R298 to R305, R313 to
R315). -/

namespace Sys2Proof.Machine

/-! ### Time states -/

/-- States of EP_TSTAT. -/
def tFree : Nat := 0
def tAcquire : Nat := 1
def tLocked : Nat := 2
def tHoldover : Nat := 3
def tFar : Nat := 4
def tGrandmaster : Nat := 5

/-- EP_TSTAT as read. -/
def tstatWord (s : State) : Nat :=
  s.fl F.EP_TSTAT_STATE 0 + s.fl F.EP_TSTAT_UPLINK 0 * 2 ^ 3 + s.fl F.EP_TSTAT_STEPS 0 * 2 ^ 8
    + s.fl F.EP_TSTAT_GMNODE 0 * 2 ^ 16 + s.fl F.EP_TSTAT_OFFSET 0 * 2 ^ 34

/-- Time runs at the last corrected rate: no offset is removed any more (R302, HOLDOVER; a grandmaster has none). -/
def endSlew (s : State) : State := { s with ep := { s.ep with slew := 0 } }

/-- STATE changes: source 194 and a record (R302). -/
def setTime (s : State) (st : Nat) : State :=
  if s.fl F.EP_TSTAT_STATE 0 = st then s
  else
    let s := if st = tHoldover ∨ st = tGrandmaster then endSlew s else s
    let s := raiseSource (s.setF F.EP_TSTAT_STATE 0 st) 194
    dregs s 0x220 (if st = tHoldover ∨ st = tFar then clsWarn else clsInfo) (0xC00 + st) (tstatWord s)

/-- The grandmaster in EP_TSTAT changes: source 195. -/
def setGm (s : State) (node : Nat) : State :=
  if s.fl F.EP_TSTAT_GMNODE 0 = node then s else raiseSource (s.setF F.EP_TSTAT_GMNODE 0 node) 195

/-- Announcement `a` of link `l` is better than `b` of link `m`: priority, node ID, steps, link number (R301). -/
def annBetter (a : Ann) (l : Nat) (b : Ann) (m : Nat) : Bool :=
  if a.prio ≠ b.prio then a.prio < b.prio
  else if a.gm ≠ b.gm then a.gm < b.gm
  else if a.steps ≠ b.steps then a.steps < b.steps
  else l < m

/-- The best ANNOUNCE heard, with its link. -/
def bestAnn : List (Nat × Ann) → Option (Nat × Ann)
  | [] => none
  | (l, a) :: rest =>
    match bestAnn rest with
    | none => if a.valid then some (l, a) else none
    | some (m, b) => if a.valid && annBetter a l b m then some (l, a) else some (m, b)

/-- The device ranks best with its own priority and node ID. -/
def ranksBest (s : State) (best : Option (Nat × Ann)) : Bool :=
  let prio := s.fl F.EP_TCFG_GMPRIO 0
  prio != 255 && ownNode s != 0x3FFFE
    && (match best with
        | none => true
        | some (_, a) => prio < a.prio || (prio == a.prio && ownNode s ≤ a.gm))

/-- The choice of grandmaster and upstream (R301). -/
def timeChoose (s : State) : State :=
  let best := bestAnn s.ep.heard
  let st := s.fl F.EP_TSTAT_STATE 0
  if ranksBest s best then
    let s := (s.setF F.EP_TSTAT_UPLINK 0 0).setF F.EP_TSTAT_STEPS 0 0
    setTime (setGm s (ownNode s)) tGrandmaster
  else
    match best with
    | some (l, a) =>
      let same := s.fl F.EP_TSTAT_UPLINK 0 == l && (st == tAcquire || st == tLocked || st == tFar)
      let s := (s.setF F.EP_TSTAT_UPLINK 0 l).setF F.EP_TSTAT_STEPS 0 (min 255 (a.steps + 1))
      let s := setGm s a.gm
      if same then s else setTime { s with ep := { s.ep with good := 0 } } tAcquire
    | none => if st = tFree then s else setTime s tHoldover

/-! ### NG_NODEID -/

/-- NG_NODEID takes a value, or does not (R271). -/
def nodeidPut (s : State) (id : Nat) : Option State :=
  if id = 0x3FFFE then some (timeChoose (s.setF F.NG_NODEID_ID 0 id))
  else if id = 0x3FFFF ∨ s.fl F.NG_NODEID_ID 0 ≠ 0x3FFFE then none
  else some (timeChoose (s.setF F.NG_NODEID_ID 0 id))

def nodeidWrite (s : State) (w : Wr) : State :=
  if w.touches F.NG_NODEID_ID then (nodeidPut s (w.new F.NG_NODEID_ID s 0)).getD (ignoreWarn s w) else s

/-- NG_NODEID_WRITE. -/
def execNgNodeidWrite (q : Requester) (v : Word) (s : State) : Host.Outcome State Fault Refusal :=
  rowWrite q 0xE01000000 v nodeidWrite s

/-! ### TIME packets -/

/-- TIME packets of the link are used: TIMESYNC is agreed, and a 2.x partner is granted legacy trust (R299). A STALLED
link lacks only credit to send. -/
def timeLink (s : State) (n : Nat) : Bool :=
  (lstate s n == 5 || lstate s n == 7) && linkCap s n 6 && (0x30 ≤ linkVer s n || bitAt (s.fl F.NG_POLICY_LEGACY_TRUST 0) n)

/-- A TIME packet leaves the receive buffer, with its one flit, and counts as a packet received on the link; it belongs to
no partition (23 R485). -/
def timeCounted (s : State) (n : Nat) : State := countEvent (leaveBuffer s n blankPacket) 0x41 n none

/-- Take a TIME packet of node `src` from a link, or count it as dropped: where the link's are not used, or where the
reverse-path check refuses it (12 R266, R267). -/
def onTimeLink (s : State) (n src : Nat) (f : State → State) : State :=
  if !trained s n then s
  else
    let s := timeCounted s n
    if !timeLink s n then countDrop s
    else if !reversePath s n src then countDrop (denyCount s n)
    else f s

/-- Fabric time is at least `t`; what it lacked has passed. -/
def atLeast (s : State) (t : Nat) : State :=
  { s.setF F.EP_NOW_VALUE 0 (max (fabNow s) t) with time := s.time + (t - fabNow s) }

/-- A signed offset as EP_TSTAT.OFFSET holds it: 24 bits, saturating. -/
def offsetField (x : Int) : Nat := (BitVec.ofInt 24 (max (-(2 ^ 23)) (min (2 ^ 23 - 1) x))).toNat

/-- One nanosecond in the unit of the fraction of fabric time (R298). -/
def nsUnit : Nat := 2 ^ 32

/-- The greatest change of a microsecond by the servo: 1000 ppm (R298), in 2^-32 ns. -/
def maxSlew : Int := 2 ^ 32

/-- A rate correction within the limit. -/
def clampRate (x : Int) : Int := max (-maxSlew) (min maxSlew x)

/-- The servo after a SYNC: the offset is to be removed by changing the increment. How the servo corrects its rate is the
design's: a free value within ±1000 ppm (R298; log 8, 92). -/
def servo (s : State) (offset : Int) : State :=
  let (k, s) := s.takeFree
  { s with ep := { s.ep with slew := offset * nsUnit, rate := clampRate ((Config.freeNat k : Int) - maxSlew) } }

/-- One step of fabric time (R302). -/
def stepTime (s : State) (now : Nat) : State :=
  let s := s.setF F.EP_NOW_VALUE 0 now
  { s with ep := { s.ep with frac := 0, slew := 0 } }

/-- TIME_SYNC (R299, R302): the measured offset of this device from its upstream. While EN = 0 an offset beyond STEPLIM
is removed by one step; every other offset is slewed, in state FAR one beyond STEPLIM. `stamp` is the upstream's time
stamp. -/
def execTimeSync (l : Fin 32) (src : BitVec 18) (offset stamp : BitVec 64) (s : State) : Host.Outcome State Fault Refusal :=
  .next (onTimeLink s l.val src.toNat fun s =>
    let st := s.fl F.EP_TSTAT_STATE 0
    if s.fl F.EP_TSTAT_UPLINK 0 ≠ l.val ∨ (st ≠ tAcquire ∧ st ≠ tLocked ∧ st ≠ tFar) then s
    else
      let x := offset.toInt
      let s := s.setF F.EP_TSTAT_OFFSET 0 (offsetField x)
      let lim : Int := (max 1 (s.fl F.EP_TCFG_STEPLIM 0) * 1000 : Nat)
      let put := fun (s : State) (n : Nat) => { s with ep := { s.ep with good := n } }
      if lim < x ∨ x < -lim then
        if s.epochOn then setTime (put (servo s x) 0) tFar
        else setTime (put (stepTime s (stamp.toNat + s.fl F.NG_LINKSTAT_DELAY l.val)) 0) tAcquire
      else if -2 ≤ x ∧ x ≤ 2 then
        let s := put (servo s x) (min 16 (s.ep.good + 1))
        if s.ep.good = 16 then setTime s tLocked else if st = tFar then setTime s tAcquire else s
      else setTime (put (servo s x) 0) tAcquire)

/-- A TIME packet for the neighbour on link `n`; it carries no deadline of use (log 27). -/
def sendTime (s : State) (n sub : Nat) (payload : List Byte) : State :=
  let p := egress s n
  let k := { blankPacket with cmd := 9, sub := BitVec.ofNat 4 sub, dst := 0x3FFFF, src := BitVec.ofNat 18 (ownNode s),
                              tag := 0xC000, len := BitVec.ofNat 13 payload.length, deadline := BitVec.ofNat 64 (2 ^ 64 - 1),
                              payload := payload }
  putOut s p (outQ s p ++ [⟨k, 0, fabNow s, false, some n⟩])

/-- TIME_DELAY_REQ: answered with its arrival time and the departure time of the answer (R299), which is stamped as that
leaves. -/
def execTimeDelayReq (l : Fin 32) (src : BitVec 18) (s : State) : Host.Outcome State Fault Refusal :=
  .next (onTimeLink s l.val src.toNat fun s => sendTime s l.val 2 (natBytes (fabNow s) 8 ++ natBytes 0 8))

/-- TIME_DELAY_RESP: the mean of the last 16 measurements is the link's DELAY. -/
def execTimeDelayResp (l : Fin 32) (src : BitVec 18) (oneWay : BitVec 20) (s : State) : Host.Outcome State Fault Refusal :=
  .next (onTimeLink s l.val src.toNat fun s =>
    let ds := (oneWay.toNat :: mget [] s.ep.delays l.val).take 16
    let s := { s with ep := { s.ep with delays := mset [] s.ep.delays l.val ds } }
    s.setF F.NG_LINKSTAT_DELAY l.val (ds.sum / ds.length))

/-- TIME_ANNOUNCE (R301). Node ID 0x3_FFFE names no grandmaster (DEDUCED, log 93). -/
def execTimeAnnounce (l : Fin 32) (src : BitVec 18) (gm : BitVec 18) (prio steps : BitVec 8) (imports : Bool) (s : State) :
    Host.Outcome State Fault Refusal :=
  .next (onTimeLink s l.val src.toNat fun s =>
    let a : Ann := if gm = 0x3FFFE then {} else ⟨true, gm.toNat, prio.toNat, steps.toNat, imports⟩
    timeChoose { s with ep := { s.ep with heard := mset {} s.ep.heard l.val a } })

/-- The device takes its time from an upstream link. -/
def hasUpstream (s : State) : Bool :=
  let st := s.fl F.EP_TSTAT_STATE 0
  st == tAcquire || st == tLocked || st == tFar

/-- The links that have agreed TIMESYNC. -/
def timeLinks (s : State) : List Nat := (List.range 32).filter (timeLink s)

/-- gPTP time (R304). -/
def gptpTime (s : State) : Nat := (fabNow s + s.fl F.EP_ASOFS_OFS 0) % 2 ^ 64

/-- In EXPORT the port of the bridge, where it is enabled and its link is up, is grandmaster of the gPTP domain and sends
gPTP time. The interval is the model's: with each SYNC (DESIGN CHOICE, log 94). -/
def gptpExport (s : State) : State :=
  let n := s.fl F.EP_ASCFG_PORT 0
  let p := portOf s n
  if s.fl F.EP_ASCFG_MODE 0 = 1 && p.ctrl.getLsbD 0 && p.up then
    { s with ep := { s.ep with gptp := some (n, gptpTime s) } }
  else s

/-- A number in network byte order: `n` bytes of a frame from byte `i`. -/
def netNat (bytes : List Byte) (i n : Nat) : Nat := bytesNat ((bytes.drop i).take n).reverse

/-- Fabric time follows a source that it exceeds by `x` ns (R298, R302): while EN = 0 an offset beyond STEPLIM is removed by
one step, every other one by slewing. -/
def followTime (s : State) (x : Int) : State :=
  let lim : Int := (max 1 (s.fl F.EP_TCFG_STEPLIM 0) * 1000 : Nat)
  if !s.epochOn && (lim < x || x < -lim) then stepTime s ((fabNow s - x) % 2 ^ 64).toNat else servo s x

/-- In IMPORT a frame of the bridge's peer on the Ethernet port `g`, begun at `time` (R304): two-step operation in domain
0. A Sync gives its arrival; the Follow_Up after it brings the gPTP time at which it left, and fabric time follows gPTP
time - EP_ASOFS. The frame's layout is that of IEEE 802.1AS-2020 (PRESUMED, log 94), the measured flight time a free
value. A peer that is heard again ends the HOLDOVER of its loss. -/
def gptpIn (s : State) (g time : Nat) (bytes : List Byte) : State :=
  if s.fl F.EP_ASCFG_MODE 0 ≠ 2 ∨ g ≠ s.fl F.EP_ASCFG_PORT 0 ∨ netNat bytes 12 2 ≠ 0x88F7 ∨ netNat bytes 18 1 ≠ 0 then s
  else
    match netNat bytes 14 1 % 16, s.ep.asSync with
    | 0, _ => { s with ep := { s.ep with asSync := some time } }
    | 8, some arrived =>
      let (k, s) := s.takeFree
      let left := netNat bytes 48 6 * 1000000000 + netNat bytes 54 4 + netNat bytes 22 8 / 2 ^ 16
      let own := BitVec.ofNat 64 (arrived + s.fl F.EP_ASOFS_OFS 0)
      let s := followTime s (own - BitVec.ofNat 64 (left + Config.freeNat k)).toInt
      let s := { s with ep := { s.ep with asSync := none } }
      if s.fl F.EP_TSTAT_STATE 0 = tHoldover then timeChoose s else s
    | _, _ => s

/-- SYNC_INTERVAL: a SYNC on each downstream link, stamped as it leaves (R299). -/
def execSyncInterval (s : State) : Host.Outcome State Fault Refusal :=
  .next (
    let up := s.fl F.EP_TSTAT_UPLINK 0
    ((timeLinks s).filter fun n => !hasUpstream s || n != up).foldl (fun s n => sendTime s n 0 (natBytes 0 8))
      (gptpExport s))

/-- The priority of the grandmaster in use, 255 where none is known, and whether it imports 802.1AS time. -/
def gmInfo (s : State) : Nat × Bool :=
  if s.fl F.EP_TSTAT_STATE 0 = tGrandmaster then (s.fl F.EP_TCFG_GMPRIO 0, s.fl F.EP_ASCFG_MODE 0 == 2)
  else
    let a := mget {} s.ep.heard (s.fl F.EP_TSTAT_UPLINK 0)
    if a.valid then (a.prio, a.imports) else (255, false)

/-- ANNOUNCE_INTERVAL: DELAY_REQ and ANNOUNCE on each TIMESYNC link. The 16 bytes of an ANNOUNCE are laid out as four
32-bit words (log 27). -/
def execAnnounceInterval (s : State) : Host.Outcome State Fault Refusal :=
  .next (
    let (prio, imports) := gmInfo s
    let body := natBytes (s.fl F.EP_TSTAT_GMNODE 0) 4 ++ natBytes prio 4 ++ natBytes (s.fl F.EP_TSTAT_STEPS 0) 4
      ++ natBytes (b2n imports) 4
    (timeLinks s).foldl (fun s n => sendTime (sendTime s n 1 []) n 3 body) s)

/-- GRANDMASTER_LOSS: the upstream's ANNOUNCE is lost, and the choice is made again (R301). -/
def execGrandmasterLoss (s : State) : Host.Outcome State Fault Refusal :=
  .next (
    if hasUpstream s then
      timeChoose { s with ep := { s.ep with heard := mset {} s.ep.heard (s.fl F.EP_TSTAT_UPLINK 0) {} } }
    else s)

/-- EP_TCFG: the machine level; the choice is made again. -/
def tcfgTimeWrite (s : State) (w : Wr) : State :=
  atMachine s w fun s => timeChoose (putFields s w [F.EP_TCFG_GMPRIO, F.EP_TCFG_SYNCINT, F.EP_TCFG_STEPLIM] 0 0)

/-- EP_TCFG_WRITE. -/
def execEpTcfgWrite (q : Requester) (v : Word) (s : State) : Host.Outcome State Fault Refusal :=
  rowWrite q 0xE00500028 v tcfgTimeWrite s

/-- GPTP_PEER_LOSS (R304). -/
def execGptpPeerLoss (s : State) : Host.Outcome State Fault Refusal :=
  .next (if s.fl F.EP_ASCFG_MODE 0 = 2 then raiseSource (setTime s tHoldover) 196 else s)

/-! ### The epoch unit -/

/-- The epoch period in ns (R305). -/
def periodNs (s : State) : Nat := (s.fl F.EP_CFG_PERIOD 0 + 1) * 31250

/-- Fabric time of tick `k`. -/
def tickAt (s : State) (k : Nat) : Nat := (s.fl F.EP_ORIGIN_ORIGIN 0 + k * periodNs s) % 2 ^ 64

/-- The epoch number reaches EPOCHNO of the Caddy, and of each core and Infuser whose domain is on (R305, R310). -/
def spreadEpoch (s : State) (k : Nat) : State :=
  let put := fun (s : State) (p : Proc) => s.setCpu p { s.cpu p with epochNo := BitVec.ofNat 64 k }
  let s := (List.range 16).foldl (fun s c => if s.dom c = 0 then put s (.core (Fin.ofNat 16 c)) else s) s
  let s := (List.range 32).foldl (fun s i => if s.dom (37 + i / 8) = 0 then put s (.infuser (Fin.ofNat 32 i)) else s) s
  put s .caddy

/-- Waiting POUR.WAITs that the new epoch number satisfies complete with it (R121). -/
def pourResume (s : State) : State :=
  (List.range 49).foldl (fun s i =>
    let p := if i < 16 then Proc.core (Fin.ofNat 16 i) else if i < 48 then Proc.infuser (Fin.ofNat 32 (i - 16)) else .caddy
    let k := s.cpu p
    match k.wait with
    | .pour d target =>
      if target ≤ k.epochNo then retire (s.setG p d k.epochNo) p k.pc (k.pc + 4) false else s
    | _ => s) s

/-- Epoch number `k` is the current one: it reaches EPOCHNO, and the POUR.WAITs that wait for it complete. -/
def epochReaches (s : State) (k : Nat) : State := pourResume (spreadEpoch s k)

/-- EP_CFG: a rise of EN sets the epoch number from the origin, without a Pour (R305); clearing EN lets one step remove
an offset beyond STEPLIM (R302). -/
def epcfgWrite (s : State) (w : Wr) : State :=
  let was := s.epochOn
  let s := putFields s w [F.EP_CFG_PERIOD, F.EP_CFG_GUARD] 0 0
  let s := putField s w F.EP_CFG_EN 0 0
  if s.epochOn && !was then
    let d : Int := (BitVec.ofNat 64 (fabNow s) - BitVec.ofNat 64 (s.fl F.EP_ORIGIN_ORIGIN 0)).toInt
    let k := d.toNat / periodNs s
    epochReaches (s.setF F.EP_EPOCH_VALUE 0 k) k
  else if was && !s.epochOn && s.fl F.EP_TSTAT_STATE 0 == tFar then
    let now := ((fabNow s * nsUnit + s.ep.frac : Nat) : Int) - s.ep.slew
    setTime (stepTime s ((now / nsUnit) % 2 ^ 64).toNat) tAcquire
  else s

/-- EP_CFG_WRITE. -/
def execEpCfgWrite (q : Requester) (v : Word) (s : State) : Host.Outcome State Fault Refusal :=
  rowWrite q 0xE00500000 v epcfgWrite s

/-- EP_ORIGIN is locked while EN = 1 (R10: no record). -/
def originWrite (s : State) (w : Wr) : State := if s.epochOn then s else putField s w F.EP_ORIGIN_ORIGIN 0 0

/-- EPOCH_GUARD: source 193 and event 13 of every Infuser, GUARD × 100 ns before the next tick (R313, 20 R421). -/
def execEpochGuard (s : State) : Host.Outcome State Fault Refusal :=
  .next (
    let g := s.fl F.EP_CFG_GUARD 0
    if s.epochOn && g != 0 then
      let s := atLeast s (tickAt s (s.fl F.EP_EPOCH_VALUE 0 + 1) - g * 100)
      (List.range 32).foldl (fun s i => infEvent s (Fin.ofNat 32 i) 13) (raiseSource s 193)
    else s)

/-! ### The epoch-deadline watchdog (R314, R315) -/

/-- KT_EDWSTAT as read. -/
def edwWord (s : State) : Nat :=
  s.fl F.KT_EDWSTAT_KICK 0 + s.fl F.KT_EDWSTAT_MISS 0 * 2 ^ 8 + s.fl F.KT_EDWSTAT_LATECNT 0 * 2 ^ 16

/-- Channel `n` misses in epoch `k`. -/
def edwMiss (s : State) (n k : Nat) : State :=
  let s := raiseSource (s.setBit F.KT_EDWSTAT_MISS 0 n true) (224 + n)
  let safety := s.fb F.KT_EDWCFG_SAFETY n
  let s := dregs s (0x58 + n) (if safety then clsSafety else clsWarn) 0x78 (k % 2 ^ 64 + edwWord s * 2 ^ 64)
  if safety then raiseTrigger s 1 false else s

/-- The deadline of channel `n` in epoch `k`, unless it has passed. -/
def edwDue (s : State) (n k : Nat) : State :=
  let e := s.ep
  if e.due.getLsbD n then
    let s := { s with ep := { e with due := e.due &&& ~~~(1#8 <<< n) } }
    if e.got.getLsbD n then s else edwMiss s n k
  else s

/-- EDW_DEADLINE. -/
def execEdwDeadline (n : Fin 8) (s : State) : Host.Outcome State Fault Refusal :=
  .next (edwDue s n.val (s.fl F.EP_EPOCH_VALUE 0))

/-- A check-in of channel `n`: the first of the epoch counts, or is late. -/
def edwCheckin (s : State) (n : Nat) : State :=
  let e := s.ep
  if !s.fb F.KT_EDWCFG_EN n || !e.expect.getLsbD n || e.got.getLsbD n then s
  else
    let s := { s with ep := { e with got := e.got ||| (1#8 <<< n) } }
    if e.due.getLsbD n then s else s.bumpF F.KT_EDWSTAT_LATECNT 0

/-- The issue of a POUR.WAIT for a later epoch on core `c` (MODE = 0). -/
def edwPourWait (s : State) (c : Nat) : State :=
  (List.range 8).foldl (fun s n =>
    if !s.fb F.KT_EDWCFG_MODE n && s.fl F.KT_EDWCFG_CORE n == c then edwCheckin s n else s) s

/-- KT_EDWSTAT: KICK checks channels with MODE = 1 in. -/
def edwstatWrite (s : State) (w : Wr) : State :=
  let kicks := if w.touches F.KT_EDWSTAT_KICK then w.bits F.KT_EDWSTAT_KICK else 0
  let s := putFields s w [F.KT_EDWSTAT_KICK, F.KT_EDWSTAT_MISS] 0 0
  (List.range 8).foldl (fun s n => if bitAt kicks n && s.fb F.KT_EDWCFG_MODE n then edwCheckin s n else s) s

/-- KT_EDWSTAT_KICK. -/
def execKtEdwstatKick (q : Requester) (v : Word) (s : State) : Host.Outcome State Fault Refusal :=
  rowWrite q 0xE00000440 v edwstatWrite s

/-- KT_EDWCFGn: the machine level; EN = 0 stops the channel at once. -/
def edwcfgWrite (s : State) (w : Wr) (n : Nat) : State :=
  atMachine s w fun s =>
    let s := putFields s w [F.KT_EDWCFG_EN, F.KT_EDWCFG_SAFETY, F.KT_EDWCFG_MODE, F.KT_EDWCFG_CORE, F.KT_EDWCFG_DLOFS] n n
    if s.fb F.KT_EDWCFG_EN n then s
    else { s with ep := { s.ep with expect := s.ep.expect &&& ~~~(1#8 <<< n), due := s.ep.due &&& ~~~(1#8 <<< n) } }

/-- At a tick the Kettle closes epoch `k`: the tick acts as the deadline of channels still waiting; KICK clears; every
enabled channel expects a check-in. -/
def edwTick (s : State) (k : Nat) : State :=
  let s := (List.range 8).foldl (fun s n => edwDue s n k) s
  let s := s.setF F.KT_EDWSTAT_KICK 0 0
  let on := (List.range 8).foldl (fun (m : BitVec 8) n => if s.fb F.KT_EDWCFG_EN n then m ||| (1#8 <<< n) else m) 0
  { s with ep := { s.ep with expect := on, due := on, got := 0 } }

end Sys2Proof.Machine
end

