-- ==== Sys2Proof/Machine/Mirror.lean ====
section
/-! DEFINITION. The mirrored pair (spec 15 R316 to R341): regions, streaming, commits, the standby's journal,
heartbeats, roles. Each packet of the stream carries one record, as R319 allows. -/

namespace Sys2Proof.Machine

/-! ### Roles and regions -/

/-- The agreed version, and a change of the unit's state. -/
def mrVer (s : State) : Nat := s.fl F.MR_VER_AGREED 0
def onMir (s : State) (f : Mirror → Mirror) : State := { s with mir := f s.mir }

/-- Two ranges of lines share a line. -/
def rangesMeet (a b : Nat × Nat) : Bool := a.1 < b.1 + b.2 && b.1 < a.1 + a.2

/-- No two members of a list of ranges share a line. -/
def rangesApart : List (Nat × Nat) → Bool
  | [] => true
  | r :: rs => rs.all (fun x => !rangesMeet r x) && rangesApart rs

/-- The valid regions meet the conditions of R320. -/
def regionsGood (s : State) : Bool :=
  let rs := mrRegions s
  rs.all (fun r => 1 ≤ r.2 && r.2 ≤ 4096 * 2 ^ 15 && (r.1 + r.2) * 64 ≤ s.dram.usable) && rangesApart rs
    && (rs.map (·.2)).sum ≤ 2 ^ 27

/-- PENDING shows the tracked lines. -/
def showPending (s : State) : State := s.setF F.MR_STAT_PENDING 0 (s.mir.fresh.length + s.mir.frozen.length)

/-- A store or an admitted WRITE or ATOMIC to a mirrored line is tracked (R321, R323): none makes it wait. -/
def trackStore (s : State) (line : Nat) : Option State :=
  if !mrOn s || mrRole s != rPrimary || !inMirror s line then some s
  else if s.mir.frozen.contains line then none
  else if s.mir.fresh.contains line then some s
  else if 4096 ≤ s.mir.fresh.length + s.mir.frozen.length then none
  else some (showPending (onMir s fun m => { m with fresh := m.fresh ++ [line] }))

/-! ### Records and role changes -/

/-- MIRROR record and interrupt source (R339). The detail of the record is not stated: a free value. -/
def mrEvent (s : State) (src code cls : Nat) : State := dregsFree (raiseSource s src) 0x240 cls code

/-- The Kettle's copy is brought up to date (R332). -/
def kettleCopy (s : State) : State :=
  onMir s fun m => { m with kRole := mrRole s, kGen := s.fl F.MR_STAT_GEN 0 }

/-- A copy is abandoned. -/
def copyStop (s : State) : State :=
  onMir (s.setB F.MR_STAT_COPYING 0 false) fun m => { m with copyNext := none, copyLast := false }

/-- ROLE changes: ALONE and ISOLATED clear, streaming and tracking start anew. -/
def roleTo (s : State) (r : Nat) : State :=
  if mrRole s = r then s
  else
    let s := ((s.setF F.MR_STAT_ROLE 0 r).setB F.MR_STAT_ALONE 0 false).setB F.MR_STAT_ISOLATED 0 false
    let s := onMir s fun m => { m with fresh := [], frozen := [], sent := 0, closing := none, toTake := 0, handover := 0 }
    kettleCopy (showPending s)

/-- STALE from IN_SYNC or STANDBY: source 203 and an Error record; the copy and the journal are abandoned. -/
def fallStale (s : State) : State :=
  let was := mrRole s
  let s := (roleTo (copyStop s) rStale).setF F.MR_JFILL_RECORDS 0 0
  if was = rInSync ∨ was = rStandby then mrEvent s 203 0x405 clsError else s

/-- A role change that the table of R339 does not list. -/
def roleInfo (s : State) (r : Nat) : State := mrEvent (roleTo s r) 200 0x400 clsInfo

/-! ### Sending -/

/-- A packet of the mirrored stream (R319). -/
def mirrorPacket (s : State) (sub : Nat) (payload : List Byte) : Packet :=
  { blankPacket with cmd := 11, sub := BitVec.ofNat 4 sub, dst := BitVec.ofNat 18 (s.fl F.MR_CFG_PARTNER 0),
                     src := BitVec.ofNat 18 (ownNode s), len := BitVec.ofNat 13 payload.length, payload := payload }

def sendMirror (s : State) (sub : Nat) (payload : List Byte) : State := enqueueMirror s (mirrorPacket s sub payload)

/-- A HEARTBEAT on each ACTIVE port (R331, R332). -/
def sendPorts (s : State) (payload : List Byte) : State :=
  (sendLanes s 32).foldl (fun s n =>
    putOut s portMirror (outQ s portMirror ++ [⟨mirrorPacket s 5 payload, 0, fabNow s, false, some n⟩])) s

/-- A record of 72 bytes: the line's local offset and the line, read as a coherent requester of class 4. -/
def mirrorRecord (s : State) (line : Nat) : List Byte × State :=
  let (d, s) := dmaRead s 4 none (line * 64) 64
  (natBytes (line * 64) 8 ++ d, s)

/-- Line `k` of the regions in address order. -/
def copyLine : List (Nat × Nat) → Nat → Option Nat
  | [], _ => none
  | (b, n) :: rs, k => if k < n then some (b + k) else copyLine rs (k - n)

/-- A region goes to its place by address. -/
def putRegion (r : Nat × Nat) : List (Nat × Nat) → List (Nat × Nat)
  | [] => [r]
  | x :: xs => if r.1 < x.1 then r :: x :: xs else x :: putRegion r xs

/-- The valid regions by rising address. -/
def regionsSorted (s : State) : List (Nat × Nat) := (mrRegions s).foldl (fun l r => putRegion r l) []

/-- Send a line of the stream as a LINES record. -/
def sendLine (s : State) (line : Nat) : State :=
  let (r, s) := mirrorRecord s line
  showPending (onMir (sendMirror s 0 r) fun m => { m with sent := m.sent + 1 })

/-- MIRROR_LINE_READ (R321, R323, R324, R340): the next frozen line; where none is frozen and no COMMIT is due, the next
tracked line; where there is none either, the next line of a copy. -/
def execMirrorLineRead (s : State) : Host.Outcome State Fault Refusal :=
  .next (
    if !mrOn s || mrRole s != rPrimary then s
    else
      match s.mir.frozen with
      | l :: rest =>
        if mustWait s (l * 64) 64 then askWake s (l * 64) 64
        else sendLine (onMir s fun m => { m with frozen := rest }) l
      | [] =>
        if s.mir.closing.isSome then s
        else
          match s.mir.fresh with
          | l :: rest =>
            if mustWait s (l * 64) 64 then askWake s (l * 64) 64
            else sendLine (onMir s fun m => { m with fresh := rest }) l
          | [] =>
            match s.mir.copyNext with
            | none => s
            | some k =>
              match copyLine (regionsSorted s) k with
              | none => s
              | some l =>
                if mustWait s (l * 64) 64 then askWake s (l * 64) 64
                else
                  let (r, s) := mirrorRecord s l
                  onMir (sendMirror s 1 r) fun m => { m with copyNext := some (k + 1) })

/-- The lines of the active checkpoint descriptors, in order (R324, MR_CKPT). -/
def ckptLines (s : State) : List Nat :=
  (List.range 4).flatMap fun d =>
    if s.fb F.MR_CKPT_VALID d then
      (List.range (s.fl F.MR_CKPT_LINES d)).map fun k => 0xC00000000 / 64 + s.fl F.MR_CKPT_OFFSET d + k
    else []

/-- MIRROR_COMMIT_SEND (R324, R325). -/
def execMirrorCommitSend (late : Bool) (s : State) : Host.Outcome State Fault Refusal :=
  .next (match mrOn s && mrRole s == rPrimary && s.mir.frozen.isEmpty, s.mir.closing with
    | true, some k =>
      let all := ckptLines s
      let s := if 128 < all.length then s.setB F.MR_STAT_CFGERR 0 true else s
      let ck := all.take 128
      if ck.any (fun l => mustWait s (l * 64) 64) then ck.foldl (fun s l => askWake s (l * 64) 64) s else
      let s := ck.foldl (fun s l => let (r, s) := mirrorRecord s l; sendMirror s 2 r) s
      let ho := s.mir.handover == 1 && mrVer s == 0x12
      let s := sendMirror s 3 (natBytes k 8 ++ natBytes (s.mir.sent + ck.length) 8 ++ natBytes ck.length 8
        ++ natBytes (b2n ho) 8)
      let s := s.setF F.MR_COMMIT_SENT 0 k
      let s := kettleCopy (onMir s fun m =>
        { m with sent := 0, closing := none, kCommit := k, handover := if ho then 2 else m.handover, hoTicks := 0 })
      if late then mrEvent (s.bumpF F.MR_STAT_LATECNT 0) 204 0x407 clsWarn else s
    | _, _ => s)

/-! ### Receiving -/

/-- A mirror port that is up: one that is STALLED lacks only credit to send. -/
def hearingPort (s : State) : Option Nat := [32, 33].find? fun n => lstate s n == 5 || lstate s n == 7

/-- A packet of the stream with the SUB `sub` leaves the receive buffer (R316) and is taken by `f`; one with a reserved SUB,
or a corrupt one, is dropped and counted (R281, R319). -/
def mirrorIn (s : State) (k : Packet) (sub : Nat) (f : State → State) : State :=
  match hearingPort s with
  | none => s
  | some n =>
    if !mrOn s || k.cmd.toNat ≠ pMirror || (k.sub.toNat < 8 && k.sub.toNat ≠ sub) then s
    else
      let s := leaveBuffer s n k
      if 8 ≤ k.sub.toNat || corrupt k then countDrop s else f s

/-- Number `i` of the 8-byte little-endian words of a payload. -/
def word8 (bs : List Byte) (i : Nat) : Nat := bytesNat ((bs.drop (8 * i)).take 8)

/-- Cut a payload into records of 72 bytes. -/
def records : Nat → List Byte → List (Nat × List Byte)
  | 0, _ => []
  | n + 1, bs => if bs.length < 72 then [] else (bytesNat (bs.take 8), (bs.take 72).drop 8) :: records n (bs.drop 72)

/-- Capacity of the journal in records (R328), and the local offset of its record `n`. A SIZE above 128, which
the spec does not list, acts as 128, since a journal holds up to 256 MiB (R24; DESIGN CHOICE, log 95). -/
def journalCap (s : State) : Nat := min (s.fl F.MR_JOURNAL_SIZE 0) 128 * 2 ^ 21 / 80
def journalAt (s : State) (n : Nat) : Nat := s.fl F.MR_JOURNAL_BASE 0 * 2 ^ 21 + 80 * n

/-- The line's old contents go to the journal: its offset, the epoch, the 64 bytes (R327, R328). A full journal puts
the standby in STALE. -/
def journal (s : State) (off : Nat) : State :=
  let n := s.fl F.MR_JFILL_RECORDS 0
  let cap := journalCap s
  if cap ≤ n then fallStale s
  else
    let (old, s) := dmaRead s 4 none off 64
    let s := dmaWrite s 4 none (journalAt s n) (natBytes off 8 ++ natBytes (s.fl F.EP_EPOCH_VALUE 0) 8 ++ old)
    let s := s.setF F.MR_JFILL_RECORDS 0 (n + 1)
    if 4 * n ≤ 3 * cap ∧ 3 * cap < 4 * (n + 1) then mrEvent s 203 0x406 clsWarn else s

/-- The last line of a copy. -/
def lastLine (s : State) : Option Nat := (regionsSorted s).getLast?.map fun r => r.1 + r.2 - 1

/-- One record of a packet with SUB 0 LINES, 1 COPY or 2 CKPT is counted and written at its local offset; LINES and CKPT
records of an IN_SYNC standby are journalled first. -/
def takeRecord (s : State) (sub : Nat) (r : Nat × List Byte) : State :=
  let off := r.1 / 64 * 64
  let s := onMir s fun m => { m with got := m.got + b2n (sub != 1), gotCkpt := m.gotCkpt + b2n (sub == 2) }
  let s := if sub != 1 && mrRole s == rInSync then journal s off else s
  let s := dmaWrite s 4 none off r.2
  if sub == 1 && lastLine s == some (off / 64) then onMir s fun m => { m with copyLast := true } else s

/-- Some record of the packet, or the journal's next record, must wait for its memory. -/
def recordsWait (s : State) (rs : List (Nat × List Byte)) : Bool :=
  rs.any (fun r => mustWait s (r.1 / 64 * 64) 64)
    || (mrRole s == rInSync && mustWait s (journalAt s (s.fl F.MR_JFILL_RECORDS 0)) (80 * rs.length))

/-- The records of a LINES, COPY or CKPT packet (R327). A device that is PRIMARY or in CONFLICT takes none; the receiver of
a copy shows COPYING. A packet whose memory is not ready stays in the receive buffer. -/
def recordsIn (s : State) (sub : Nat) (k : Packet) : State :=
  let rs := records 56 k.payload
  if mrRole s < 3 && recordsWait s rs then rs.foldl (fun s r => askWake s (r.1 / 64 * 64) 64) s
  else mirrorIn s k sub fun s =>
    if 3 ≤ mrRole s then s
    else
      let s := if sub = 1 ∧ mrRole s = rStale then s.setB F.MR_STAT_COPYING 0 true else s
      rs.foldl (fun s r => takeRecord s sub r) s

def execMirrorLines (k : Packet) (s : State) : Host.Outcome State Fault Refusal := .next (recordsIn s 0 k)
def execMirrorCopy (k : Packet) (s : State) : Host.Outcome State Fault Refusal := .next (recordsIn s 1 k)
def execMirrorCkpt (k : Packet) (s : State) : Host.Outcome State Fault Refusal := .next (recordsIn s 2 k)

/-- The standby answers a COMMIT whose counts match (R327, R334, R338). -/
def commitGood (s : State) (e : Nat) (ho : Bool) : State :=
  let s := (s.setF F.MR_JFILL_RECORDS 0 0).setF F.MR_COMMIT_ACKED 0 e
  let s := sendMirror (onMir s fun m => { m with kCommit := e }) 4 (natBytes e 8)
  let s := if mrRole s = rStandby ∧ s.fl F.MR_JOURNAL_SIZE 0 ≠ 0 then roleInfo s rInSync else s
  if ho && mrRole s == rInSync && mrVer s == 0x12 then onMir (sendMirror s 7 (natBytes e 8)) fun m => { m with toTake := 2 }
  else s

/-- MIRROR_COMMIT: the counts of all records and of checkpoint lines are checked. A STALE device counts anew and does not
answer. -/
def execMirrorCommit (k : Packet) (s : State) : Host.Outcome State Fault Refusal :=
  .next (mirrorIn s k 3 fun s =>
    let good := s.mir.got == word8 k.payload 1 && s.mir.gotCkpt == word8 k.payload 2
    let s := onMir s fun m => { m with got := 0, gotCkpt := 0, commitAge := 0 }
    if mrRole s ≠ rStandby ∧ mrRole s ≠ rInSync then s
    else if good then commitGood s (word8 k.payload 0) (word8 k.payload 3 % 2 == 1)
    else fallStale s)

/-- MIRROR_COMMIT_ACK. -/
def execMirrorCommitAck (k : Packet) (s : State) : Host.Outcome State Fault Refusal :=
  .next (mirrorIn s k 4 fun s =>
    if mrRole s = rPrimary then s.setF F.MR_COMMIT_ACKED 0 (word8 k.payload 0) else s)

/-- A copy begins at the first line (R340). -/
def copyBegin (s : State) : State :=
  if (lk s 32).bondOk || (lk s 33).bondOk then
    onMir (s.setB F.MR_STAT_COPYING 0 true) fun m => { m with copyNext := some 0, offerWaiting := false }
  else s

/-- MIRROR_OFFER: answered by a PRIMARY with ACCEPT = 1; held while this device is STALE. -/
def execMirrorOffer (k : Packet) (s : State) : Host.Outcome State Fault Refusal :=
  .next (mirrorIn s k 6 fun s =>
    if mrRole s = rPrimary then (if s.fb F.MR_CFG_ACCEPT 0 then copyBegin s else s)
    else if mrRole s = rStale then onMir s fun m => { m with offerWaiting := true }
    else s)

/-- MIRROR_HANDOVER_ACK (R334, R338): STALE; mirrored regions are still written until the next tick. -/
def execMirrorHandoverAck (k : Packet) (s : State) : Host.Outcome State Fault Refusal :=
  .next (mirrorIn s k 7 fun s =>
    if mrRole s = rPrimary ∧ s.mir.handover = 2 then
      onMir (roleInfo (copyStop s) rStale) fun m => { m with handover := 3 }
    else s)

/-- COPY_COMPLETE (R340): the sender's copy has ended, or the receiver has written the last record and is STANDBY. -/
def execCopyComplete (s : State) : Host.Outcome State Fault Refusal :=
  .next (
    if !s.fb F.MR_STAT_COPYING 0 then s
    else if mrRole s = rStale then
      if !s.mir.copyLast then s else mrEvent (roleTo (copyStop s) rStandby) 205 0x408 clsInfo
    else match s.mir.copyNext with
      | some k => if (copyLine (regionsSorted s) k).isNone then mrEvent (copyStop s) 205 0x408 clsInfo else s
      | none => s)

/-- COMMIT_MISSING (R330). -/
def execCommitMissing (s : State) : Host.Outcome State Fault Refusal :=
  .next (
    let r := mrRole s
    if (r = rStandby ∨ r = rInSync) ∧ 2 ≤ s.mir.commitAge ∧ s.fl F.MR_STAT_MISSES 0 < 3 then fallStale s else s)

/-! ### Heartbeats -/

/-- A heartbeat of the partner (R333, R334, R336, R337). `serial` says that it came by the fabric, with GEN[9:0] alone: the
generation is taken from it only while the ports are not heard. -/
def heartbeat (s : State) (role gen : Nat) (degraded carried serial : Bool) : State :=
  let s := s.setF F.MR_STAT_PROLE 0 role
  let s := onMir s fun m =>
    let m := { m with sincePrimary := if role = rPrimary then 0 else m.sincePrimary }
    if !serial then { m with genHeard := max m.genHeard gen, partnerGen := gen, serialOnly := false, portAge := 0 }
    else if m.portAge < 3 then m
    else { m with partnerGen := gen, serialOnly := true }
  let s := if carried && mrRole s == rInSync && mrVer s != 0x10 && s.mir.toTake == 0 then
      onMir s fun m => { m with toTake := 1 } else s
  if degraded then s
  else
    let s := onMir (s.setF F.MR_STAT_MISSES 0 0) fun m => { m with heard := true, lastRole := role }
    if mrRole s ≠ rPrimary then s
    else if role = rPrimary then
      raiseTrigger (mrEvent (roleTo (copyStop s) rConflict) 206 0x403 clsSafety) 9 true
    else if role = rInSync && s.fb F.MR_STAT_ISOLATED 0 && !s.fb F.MR_STAT_ALONE 0 then
      clearTrigger (s.setB F.MR_STAT_ISOLATED 0 false) 10
    else s

/-- MIRROR_HEARTBEAT. DEGRADED is not available below version 1.2 (R341). -/
def execMirrorHeartbeat (k : Packet) (s : State) : Host.Outcome State Fault Refusal :=
  .next (mirrorIn s k 5 fun s =>
    let w := word8 k.payload 0
    heartbeat s (w % 8) (w / 2 ^ 16 % 2 ^ 16) (bitAt w 8 && mrVer s == 0x12) (bitAt w 9) false)

/-- The HEARTBEAT payload (R331). Generations are sent as 0 below version 1.2 (R341). -/
def hbPayload (s : State) (role gen commit : Nat) (degraded carried kept : Bool) : List Byte :=
  let full := mrVer s == 0x12
  let flags := b2n (degraded && full) + b2n carried * 2 + b2n (s.fb F.MR_STAT_ISOLATED 0) * 4 + b2n kept * 8
  natBytes (role + flags * 2 ^ 8 + (if full then gen else 0) * 2 ^ 16) 8 ++ natBytes commit 8 ++ natBytes (fabNow s) 8
    ++ natBytes s.mir.hbSeq 8

/-- Last commit sent by a primary, or received by a standby; MR_COMMIT shows its low 32 bits. -/
def lastCommit (s : State) : Nat :=
  let low := if mrRole s = rPrimary then s.fl F.MR_COMMIT_SENT 0 else s.fl F.MR_COMMIT_ACKED 0
  if s.mir.kCommit % 2 ^ 32 = low then s.mir.kCommit else low

/-- This device's heartbeat at the boundary `b`: on the ports, and as an EVENT to the partner (R331). -/
def sendHeartbeat (s : State) (b : Nat) : State :=
  let s := sendPorts s (hbPayload s (mrRole s) (s.fl F.MR_STAT_GEN 0) (lastCommit s) false false false)
  let s := onMir s fun m => { m with hbSeq := m.hbSeq + 1 }
  if s.fb F.MR_CFG_FABHB 0 && mrVer s != 0x10 then
    let tag := 3 * 2 ^ 14 + mrRole s * 2 ^ 11 + (if mrVer s = 0x11 then 0 else s.fl F.MR_STAT_GEN 0 % 1024)
    sendOwn s { blankPacket with cmd := 8, sub := 1, dst := BitVec.ofNat 18 (s.fl F.MR_CFG_PARTNER 0),
                                 tag := BitVec.ofNat 16 tag, deadline := BitVec.ofNat 64 (b + periodNs s / 16) }
  else s

/-- The partner is lost: the third miss in a row (R333, R334, R336). Every row of R334's table writes a record; that of a
STALE device is its role's (DEDUCED, log 122). -/
def partnerLost (s : State) : State :=
  match mrRole s with
  | 0 => mrEvent (copyStop s) 200 0x400 clsInfo
  | 1 => fallStale s
  | 2 =>
    let s := if s.mir.toTake = 2 then mrEvent s 202 0x404 clsSafety else s
    onMir s fun m => { m with toTake := 1 }
  | 3 =>
    let s := copyStop s
    if s.mir.lastRole = rInSync then
      raiseTrigger (mrEvent (s.setB F.MR_STAT_ISOLATED 0 true) 202 0x402 clsSafety) 10 true
    else s
  | _ => s

/-- Fabric time of the heartbeat boundary that comes next: tick + m × P/8 (R331). -/
def nextBoundary (s : State) : Nat := tickAt s (s.fl F.EP_EPOCH_VALUE 0) + (s.mir.hbM + 1) * periodNs s / 8

/-- HEARTBEAT_BOUNDARY (R331, R333). -/
def execHeartbeatBoundary (s : State) : Host.Outcome State Fault Refusal :=
  .next (
    if !mrOn s || !s.epochOn || 8 ≤ s.mir.hbM then s
    else
      let b := nextBoundary s
      let s := sendHeartbeat (onMir (atLeast s b) fun x => { x with hbM := x.hbM + 1 }) b
      let heard := s.mir.heard
      let s := onMir s fun x =>
        { x with heard := false, sincePrimary := x.sincePrimary + 1, portAge := min 3 (x.portAge + 1) }
      if heard then s
      else
        let n := s.fl F.MR_STAT_MISSES 0
        if n = 3 then s
        else
          let s := s.setF F.MR_STAT_MISSES 0 (n + 1)
          if n = 2 then partnerLost s else s)

/-- The compute domains are in reset or off. -/
def computeDown (s : State) : Bool := s.warm.hold || (List.range 16).all fun c => s.dom c == 2

/-- A heartbeat boundary has passed by 1 µs, and the mirror unit has sent none for it. -/
def boundaryMissed (s : State) : Bool := s.epochOn && nextBoundary s + 1000 ≤ fabNow s

/-- A heartbeat from the Kettle's copy on both ports (R332), where the compute domains are in reset or off or the mirror
unit has not sent its own; in the carried state with CARRIED, and DRAM_KEPT where the DRAM is in self-refresh. DEGRADED
needs version 1.2, the carried report 1.1 (R341). -/
def degradedHeartbeat (s : State) : State :=
  let carried := s.fb F.KT_SUPPLY_CARRIED 0
  if (carried || computeDown s || boundaryMissed s) && (mrVer s == 0x12 || (carried && mrVer s == 0x11)) then
    let role := if carried then rCarried else s.mir.kRole
    onMir (sendPorts s (hbPayload s role s.mir.kGen s.mir.kCommit true carried (carried && s.dram.selfRef != 0)))
      fun m => { m with hbSeq := m.hbSeq + 1 }
  else s

/-- KETTLE_DEGRADED_HEARTBEAT. -/
def execKettleDegradedHeartbeat (s : State) : Host.Outcome State Fault Refusal := .next (degradedHeartbeat s)

/-! ### Rollback and handover -/

/-- Undo the journal's first `n` records, newest first, and end the rollback (R335). A record whose memory, in the journal or
at its target, is not ready waits for it, and those before it stay in the journal. -/
def undo (s : State) : Nat → State
  | 0 =>
    let s := (s.setF F.MR_JFILL_RECORDS 0 0).setB F.MR_STAT_ROLLBACK 0 false
    raiseSource (onMir s fun m => { m with selfDue := 1 }) 201
  | n + 1 =>
    let from_ := journalAt s n
    if gateWaits s from_ 80 then askWake s from_ 80
    else
      let (r, t) := dmaRead s 4 none from_ 80
      let target := bytesNat (r.take 8)
      if gateWaits t target 64 then askWake t target 64
      else undo ((dmaWrite t 4 none target (r.drop 16)).setF F.MR_JFILL_RECORDS 0 n) n

/-- ROLLBACK_COMPLETE. -/
def execRollbackComplete (s : State) : Host.Outcome State Fault Refusal :=
  .next (if s.fb F.MR_STAT_ROLLBACK 0 then undo s (s.fl F.MR_JFILL_RECORDS 0) else s)

/-- HANDOVER_ACK_TIMEOUT (R338). -/
def execHandoverAckTimeout (s : State) : Host.Outcome State Fault Refusal :=
  .next (
    if mrRole s = rPrimary ∧ s.mir.handover = 2 ∧ 2 ≤ s.mir.hoTicks then
      let s := (onMir s fun m => { m with handover := 0 }).setB F.MR_STAT_ISOLATED 0 true
      raiseTrigger (mrEvent s 202 0x404 clsSafety) 10 true
    else s)

/-! ### MR_CFG and MR_CTL -/

/-- MR_VER.LOW follows VERLIM. -/
def verlimLow (s : State) : State := s.setF F.MR_VER_LOW 0 (0x10 + min 2 (s.fl F.MR_CFG_VERLIM 0))

/-- MR_CFG (R320): a rise of EN trains both ports, a fall stops them. -/
def mrcfgWrite (s : State) (w : Wr) : State :=
  atMachine s w fun s =>
    let was := mrOn s
    if w.touches F.MR_CFG_EN && w.on F.MR_CFG_EN && !regionsGood s then
      ignoreWarn (s.setB F.MR_STAT_CFGERR 0 true) w
    else
      let s := verlimLow (putFields s w [F.MR_CFG_EN, F.MR_CFG_ACCEPT, F.MR_CFG_FABHB, F.MR_CFG_PARTNER, F.MR_CFG_PART,
        F.MR_CFG_VERLIM] 0 0)
      let ports := fun (s : State) (f : State → Nat → State) => [32, 33].foldl f s
      if mrOn s && !was then
        let s := onMir s fun m => { m with sincePrimary := 0, heard := false, handover := 0, portAge := 3 }
        ports s fun s n => linkTrain (putLk s n {}) n 1 true
      else if was && !mrOn s then
        ports s fun s n => putLk (setLink (leaveAll s n) n 0 0) n {}
      else s

def execMrCfgWrite (q : Requester) (v : Word) (s : State) : Host.Outcome State Fault Refusal :=
  rowWrite q 0xE00600000 v mrcfgWrite s

/-- CLAIM (R334). -/
def mrClaim (s : State) (w : Wr) : State :=
  if mrRole s = rStale && mrOn s then
    if 3 ≤ s.mir.sincePrimary then
      let s := roleInfo ((copyStop s).setF F.MR_STAT_GEN 0 (s.mir.genHeard + 1)) rPrimary
      if s.mir.offerWaiting && s.fb F.MR_CFG_ACCEPT 0 then copyBegin s else s
    else ignoreWarn s w
  else s

/-- ALONE (R336): the machine level only. -/
def mrAlone (s : State) (w : Wr) : State :=
  atMachine s w fun s =>
    if mrRole s = rPrimary ∧ s.fb F.MR_STAT_ISOLATED 0 then clearTrigger (s.setB F.MR_STAT_ALONE 0 true) 10 else s

/-- HANDOVER (R338). -/
def mrHandover (s : State) : State :=
  if mrRole s = rPrimary ∧ s.fl F.MR_STAT_PROLE 0 = rInSync ∧ mrVer s = 0x12 then
    onMir s fun m => { m with handover := 1 }
  else s

/-- MR_CTL: a wrong KEY makes the write ignored. -/
def mrctlWrite (s : State) (w : Wr) : State :=
  atRing0 s w fun s =>
    if w.bits F.MR_CTL_KEY ≠ 0x4D52 then ignoreWarn s w
    else
      let s := if w.on F.MR_CTL_CLAIM then mrClaim s w else s
      let s := if w.on F.MR_CTL_OFFER && mrRole s == rStale && mrOn s then sendMirror (copyStop s) 6 [] else s
      let s := if w.on F.MR_CTL_HANDOVER then mrHandover s else s
      if w.on F.MR_CTL_ALONE then mrAlone s w else s

def execMrCtlClaim (q : Requester) (v : Word) (s : State) : Host.Outcome State Fault Refusal :=
  rowWrite q 0xE00600008 v mrctlWrite s
def execMrCtlOffer (q : Requester) (v : Word) (s : State) : Host.Outcome State Fault Refusal :=
  rowWrite q 0xE00600008 v mrctlWrite s
def execMrCtlHandover (q : Requester) (v : Word) (s : State) : Host.Outcome State Fault Refusal :=
  rowWrite q 0xE00600008 v mrctlWrite s
def execMrCtlAlone (q : Requester) (v : Word) (s : State) : Host.Outcome State Fault Refusal :=
  rowWrite q 0xE00600008 v mrctlWrite s

/-- MR_JOURNAL and MR_REGION are locked while EN = 1 (R10: no record). -/
def mrLocked (s : State) (f : State → State) : State := if mrOn s then s else f s

/-! ### The tick -/

/-- In CONFLICT this device stays PRIMARY (R337). A difference of half the serial range orders neither: the node ID
decides. -/
def winsConflict (s : State) : Bool :=
  let own := if mrVer s = 0x12 ∨ mrVer s = 0 then s.fl F.MR_STAT_GEN 0 else 0
  let other := s.mir.partnerGen
  let lower := ownNode s < s.fl F.MR_CFG_PARTNER 0
  if s.mir.serialOnly then
    let d := (own % 1024 + 1024 - other % 1024) % 1024
    if d = 0 ∨ d = 512 then lower else d < 512
  else if own = other then lower
  else other < own

/-- The takeover (R335). -/
def takeover (s : State) : State :=
  let trig := s.mir.toTake = 1
  let s := (roleTo s rPrimary).setF F.MR_STAT_GEN 0 (s.fl F.MR_STAT_GEN 0 + 1)
  let s := mrEvent (kettleCopy s) 200 0x401 clsSafety
  let s := if trig then raiseTrigger s 10 true else s
  s.setB F.MR_STAT_ROLLBACK 0 true

/-- Role changes that wait for a tick. -/
def roleTick (s : State) : State :=
  if mrRole s = rConflict then
    let s := roleInfo s (if winsConflict s then rPrimary else rStale)
    clearTrigger (clearTrigger s 9) 10
  else if s.mir.handover = 3 then onMir s fun m => { m with handover := 0 }
  else if mrRole s = rInSync ∧ s.mir.toTake ≠ 0 then takeover s
  else s

/-- SELFCHECK at a tick (R335). -/
def selfTick (s : State) : State :=
  match s.mir.selfDue with
  | 1 => onMir (s.setB F.MR_STAT_SELFCHECK 0 true) fun m => { m with selfDue := 2 }
  | 2 => clearTrigger (onMir (s.setB F.MR_STAT_SELFCHECK 0 false) fun m => { m with selfDue := 0 }) 10
  | _ => s

/-- The mirror unit at the tick that closes epoch `k` (R323, R330, R335, R337, R338). -/
def mirrorTick (s : State) (k : Nat) : State :=
  if !mrOn s then s
  else
    let s := roleTick (selfTick s)
    onMir s fun m =>
      { m with frozen := m.frozen ++ m.fresh, fresh := [], closing := if mrRole s = rPrimary then some k else none,
               commitAge := m.commitAge + 1, hoTicks := m.hoTicks + 1, hbM := 0 }

end Sys2Proof.Machine
end

