-- ==== Sys2Proof/Machine/Pour.lean ====
section
/-! DEFINITION. The tick: EPOCH_TICK with everything that a Pour does (spec 14 R305 to R310; 05 R121; 13 R293; 15 R323,
R335, R337; 19 R410; 20 R425; 22 R459, R462; 23 R481, R486). -/

namespace Sys2Proof.Machine

/-- Every field whose pour source is the epoch. -/
def epochFields : List Fld := (regGroups.flatMap (·.fields)).filter fun f => f.pour == .epoch

/-- Copy every pending shadow of a field to its active copy. -/
def pourField (s : State) (f : Fld) : State :=
  (mrange s.sh (f.id * 4096) (f.id * 4096 + 4096)).foldl (fun s e => s.pourF f (e.1 % 4096)) s

/-- The bucket of ingress window `e` (13 R293): full from the Pour, or the direct write where no epochs run, at which the
window becomes valid; otherwise the level is kept, clipped to the new depth. `old` is the state before. -/
def windowBucket (old s : State) (e : Nat) : State :=
  if !windowValid s e then s
  else
    let b0 := old.fl F.ST_WINRATE_BURST e * 64
    let b1 := s.fl F.ST_WINRATE_BURST e * 64
    let m := mget 0 s.router.wtok e
    let m' := if windowValid old e then (if b0 = b1 then m else reclip b0 b1 m) else 0
    { s with router := { s.router with wtok := mset 0 s.router.wtok e m' } }

/-- The buckets of every ingress window. -/
def windowBuckets (old s : State) : State := (List.range 512).foldl (windowBucket old) s

/-- The buckets of the DRAM budgets, and the check of R410. -/
def budgetPour (old s : State) : State :=
  let s := (List.range 64).foldl (fun s p => budgetReclip s p (old.fl F.MC_BUDGET_BURST p)) s
  let changed := (List.range 64).any fun p =>
    old.fl F.MC_BUDGET_RATE p != s.fl F.MC_BUDGET_RATE p || old.fl F.MC_BUDGET_BURST p != s.fl F.MC_BUDGET_BURST p
  if changed then budgetCheck s else s

/-- Every PC_CNTn is copied to PC_SNAPn (R486). -/
def snapCounters (s : State) : State :=
  (List.range 32).foldl (fun s n => s.setF F.PC_SNAP_COUNT n (s.fl F.PC_CNT_COUNT n)) s

/-- IFRESH says whether the Infuser wrote its input shadow during the closed epoch (R425); one in RET or DOFF does not
pour (R310). -/
def imageFresh (s : State) : State :=
  (List.range 32).foldl (fun s i =>
    let x := infOf s i
    if s.dom (37 + i / 8) = 0 then putInf (s.setB F.IF_STAT_IFRESH i x.wrote) i { x with wrote := false } else s) s

/-- A gate list or base of Ethernet port `n` has a pending shadow. -/
def gatePending (s : State) (n : Nat) : Bool :=
  (List.range 64).any (fun e => [F.NW_GCL_GATES, F.NW_GCL_INTERVAL, F.NW_GCL_VALID].any fun f =>
    mget 0 s.sh (fkey f (64 * n + e)) != 0) || mget 0 s.sh (fkey F.NW_GCLBASE_BASE n) != 0

/-- The gate lists that poured become operational at their next cycle start (R459). -/
def gatesPoured (old s : State) : State :=
  (List.range 8).foldl (fun s n =>
    if gatePending old n then { s with gates := mset {} s.gates n { mget {} s.gates n with fresh := true } } else s) s

/-- The trace's SYNC at a Pour (R481). -/
def traceAtPour (s : State) : State :=
  if s.fb F.TR_STAT_ACTIVE 0 && s.fb F.TR_CFG_POURSYNC 0 then traceSync s else s

/-- The Pour of epoch `k` at fabric time `t`. -/
def pour (s : State) (k t : Nat) : State :=
  let old := s
  let s := epochFields.foldl pourField s
  let s := if s.fl F.EP_CFG_PERIOD 0 = old.fl F.EP_CFG_PERIOD 0 then s
    else s.setF F.EP_ORIGIN_ORIGIN 0 ((BitVec.ofNat 64 t - BitVec.ofNat 64 (k * periodNs s)).toNat)
  let s := gatesPoured old (canAbandon (budgetPour old (windowBuckets old s)))
  imageFresh (snapCounters (traceAtPour s))

/-- FRAME_RECEIVED: a frame whose start the fabric time `start` tells ([31:0]). A disabled port receives nothing. The
bridge to IEEE 802.1AS reads the frames of its port too (14 R304). -/
def execFrameReceived (g : Fin 56) (start : BitVec 32) (node : Byte) (bytes : List Byte) (err : Bool) (s : State) :
    Host.Outcome State Fault Refusal :=
  .next (
    if !portHears s g.val then s
    else
      let time := frameStart s start
      let s := frameArrives s g.val time node bytes err
      if 8 ≤ g.val || err then s else gptpIn s g.val time bytes)

/-- CAN_SLOT_QUEUE: at tick + OFFSET a VALID slot queues its frame ahead of TXFIFO's, once in an epoch; an OFFSET beyond the
epoch queues none (R462; log 119). -/
def execCanSlotQueue (c n : Fin 8) (s : State) : Host.Outcome State Fault Refusal :=
  .next (
    let g := 16 + c.val
    let i := 8 * c.val + n.val
    let p := portOf s g
    let delay := s.fl F.NW_CANSLOT_OFFSET i * 1000
    let frame := slotFrame s i
    if s.fb F.NW_CANSLOT_VALID i && s.epochOn && !p.queued.getLsbD n.val && delay < periodNs s then
      let s := atLeast s (tickAt s (s.fl F.EP_EPOCH_VALUE 0) + delay)
      let p := { p with queued := p.queued ||| (1#8 <<< n.val) }
      putPort s g (if canForm p frame then { p with slots := p.slots ++ [(n.val, frame)] } else p)
    else s)

/-- EPOCH_TICK. -/
def execEpochTick (s : State) : Host.Outcome State Fault Refusal :=
  .next (
    if !s.epochOn || sclkStopped s then s
    else
      let k := s.fl F.EP_EPOCH_VALUE 0 + 1
      let t := tickAt s k
      let s := (atLeast s t).setF F.EP_EPOCH_VALUE 0 k
      let s := pour (raiseSource s 192) k t
      let s := epochReaches s k
      let s := (List.range 32).foldl (fun s i => if s.dom (37 + i / 8) = 0 then infEvent s (Fin.ofNat 32 i) 0 else s) s
      mirrorTick (edwTick s (k - 1)) (k - 1))

end Sys2Proof.Machine
end

