-- ==== Sys2Proof/Machine/Loss.lean ====
section
/-! DEFINITION. What resets, a loss of the rails and the end of a part's life take away (spec 03 R66 to R69; 02 R38, R41). -/

namespace Sys2Proof.Machine

/-- The fields of the Kettle block, which never passes through DOFF. -/
def kettleFields : List Fld := (regGroups.filter fun g => g.base < 0xE00100000).flatMap (·.fields)

/-- Fields of the Kettle that show a present level and not a setting: a reset of other domains leaves them. -/
def liveIds : List Nat :=
  [F.KT_SUPPLY_MAIN_OK, F.KT_SUPPLY_BKP_OK, F.KT_SUPPLY_SRC, F.KT_SUPPLY_CARRIED, F.KT_SUPPLY_PG, F.KT_TRIGSTAT_RAISED,
    F.KT_SINSTAT_A, F.KT_SINSTAT_B, F.KT_SINSTAT_DISC, F.KT_SINSTAT_RAISED, F.KT_JOYVAL_VALID, F.KT_JOYVAL_RAISED, F.KT_TEMP_HOT].map (·.id)

/-- Numbers of the fields that column `col` of the Kept by bits keeps. -/
def keptIds (col : Nat) : List Nat := ((regGroups.flatMap (·.fields)).filter fun f => bitAt f.kept col).map (·.id)

/-- Only the fields with these numbers keep their values; the others take their reset values, active and shadow. -/
def keepOnly (s : State) (ids : List Nat) : State :=
  { s with flds := s.flds.filter fun e => ids.contains (e.1 / 4096), sh := s.sh.filter fun e => ids.contains (e.1 / 4096) }

/-- The part of memory that a reset keeps: DRAM and the Caddy's private SRAM, which a reset of the Caddy alone loses; with
`sram` the scratch SRAM and the trace buffer too. -/
def keepMem (s : State) (sram : Bool) : State :=
  { s with mem := s.mem.filter fun e =>
      e.1 < 0xC00000000 || privBase ≤ e.1
        || (sram && (e.1 < 0xC00400000 || (0xE05400000 ≤ e.1 && e.1 < 0xE05500000))) }

/-- DRAM after the controller has lost its state: contents stay where the channel was in self-refresh (R67). -/
def dramLose (s : State) : State :=
  let s := (List.range 4).foldl (fun s c => if s.dram.selfRef.getLsbD c then s else contentsLost s c) s
  onDram s fun d => { ({} : Dram) with selfRef := d.selfRef, undef := d.undef, known := d.known }

/-- The Kettle's copy of the mirror role outlives the mirror unit (15 R332). -/
def mirrorLose (s : State) : State :=
  onMir s fun m => { ({} : Mirror) with kRole := m.kRole, kGen := m.kGen, kCommit := m.kCommit, hbSeq := m.hbSeq }

/-- Return to STALE after the mirror unit has lost its state (R68, 15 R334, R339). -/
def mirrorStale (s : State) : State :=
  let r := s.mir.kRole
  let s := if r = rStandby ∨ r = rInSync then mrEvent s 203 0x405 clsError
    else if r = rStale then s else mrEvent s 200 0x400 clsInfo
  onMir s fun m => { m with kRole := rStale }

/-- The units on VDD_SOC outside the domains: the mirror unit and SD/eMMC among them (18 R385). -/
def socUnits : List Nat := [28, 33, 34, 35, 40, 41, 42, 44, 45, 46, 213]

/-- Fields that show the mirror ports, and the version that they agreed. -/
def portIds : List Nat :=
  [F.MR_PORTSTAT_STATE, F.MR_PORTSTAT_REASON, F.MR_PORTSTAT_UNTIMED, F.MR_PORTSTAT_REDUCED, F.MR_PORTSTAT_DELAY,
    F.MR_PORTSTAT_PARTNER_PORT, F.MR_VER_AGREED].map (·.id)

/-- What stands on VDD_SOC outside the power domains loses its state: interconnect, controllers, router, mailbox. The
mirror ports run on. -/
def socOff (s : State) : State :=
  let s := holdFab s
  let ids := keptIds colDoff ++ kettleFields.map (·.id) ++ [F.PW_DOM_STATE.id] ++ portIds
  let s := mirrorLose (dramLose (keepMem (keepOnly s ids) false))
  let s := socUnits.foldl (fun s u => s.setReady u false) s
  let s := clearTrigger (clearTrigger s 9) 10
  { s with caches := {}, icCommit := [], icPulse := [], links := mrange s.links 32 34, router := {}, trace := {}, ep := {}, dbg := {},
           pwr := { capMhz := s.pwr.capMhz },
           caddy := { s.caddy with loaded := false, loaderMeasure := none, coresReleased := false, released := 0, formerR0 := [], linkQueue := [] },
           clk := { s.clk with spllSel := false, relock := 0, dramFirc := false, canFirc := false } }

/-- The compute domains of R41: all but the mirror ports, the Caddy and the Kettle. -/
def computeDomains : List Nat := (List.range 45).filter (· != 36)

/-- The domains that rail `r` feeds. -/
def railDomains (r : Nat) : List Nat := computeDomains.filter fun d => (railsOf d).contains r

/-- Domain `d` loses its rail: a core's committed sources are committed again among the others (08 R189). -/
def railOff (s : State) (d : Nat) : State := if d < 16 then icLeave (domOff s d) d else domOff s d

/-- What becomes of a part that is SCRAPPED, from that moment (R69): everything but the Kettle stands unpowered, as with no
rail, and nothing of it comes back; the Caddy has no image to run. Only the debug port's reads of Kettle status remain
(log 78). -/
def scrap (s : State) : State :=
  let s := domOff (socOff (computeDomains.foldl railOff s)) 36
  let s := caddyToReset s
  { s with caddy := { s.caddy with phase := .heldOff, loaded := false, loaderMeasure := none, coresReleased := false, released := 0 } }

end Sys2Proof.Machine
end

