-- ==== Sys2Proof/Machine/Caddy.lean ====
section
/-! DEFINITION. The Caddy: the mailbox and its jobs, Strainer regions, countersigning, life-cycle transitions, boot of
the firmware and the release of the cores (spec 03 R52 to R56, R69 to R71; 16 R342 to R363, R489). -/

namespace Sys2Proof.Machine

def onCaddy (s : State) (f : Caddy → Caddy) : State := { s with caddy := f s.caddy }

/-! ### The mailbox -/

/-- COMMAND codes (R353). -/
def cmdHello : Nat := 0x01
def cmdStrainerSet : Nat := 0x10
def cmdStrainerClear : Nat := 0x11
def cmdCountersign : Nat := 0x20
def cmdDebugGrant : Nat := 0x30
def cmdLcTransition : Nat := 0x40
def cmdSign : Nat := 0x50
def cmdMeasureRead : Nat := 0x60
def cmdRecovery : Nat := 0x70

/-- MB_VER[31:0]. -/
def mbVerWord (s : State) : Nat := s.fl F.MB_VER_NATIVE 0 + s.fl F.MB_VER_LOW 0 * 2 ^ 16

/-- The Caddy's clock runs: CCLK, or FIRC while FIRC has not failed (02 R50). -/
def caddyClocked (s : State) : Bool := s.clk.caddyPll || !s.clk.persist.getLsbD 1

/-- The Caddy serves channel `n`: its firmware all of them, its ROM in recovery channel 0 (R348). -/
def serves (s : State) (n : Nat) : Bool := (s.ready 43 || (s.caddy.phase == .recovery && n == 0)) && caddyClocked s

/-- The ROM has enabled channel 0 for the debug port alone: the port holds level full under a certificate that this ROM has
checked (R348). -/
def romPort (s : State) : Bool := s.caddy.phase == .recovery && s.caddy.romCert && portLevel s == 2

/-- The response of channel `n` (R351, R352): LENGTH, STATUS and the body, the reserved bytes 0; SEQ stays. -/
def respond (s : State) (n status : Nat) (body : List Byte) : State :=
  let b := body.take 4080
  let s := writeBytes (writeBytes s (mbBuf n + 4) 2 b.length) (mbBuf n + 8) 8 status
  mbDone (writeList s (mbBuf n + 16) b) n

/-- VERSION of the message in channel `n` lies outside LOW to NATIVE (R353). -/
def badVersion (s : State) (n : Nat) : Bool :=
  let v := readBytes s (mbBuf n) 2
  v < s.fl F.MB_VER_LOW 0 || s.fl F.MB_VER_NATIVE 0 < v

/-- LENGTH of the message in channel `n`. -/
def bodyLength (s : State) (n : Nat) : Nat := readBytes s (mbBuf n + 4) 2

/-- The body of the message in channel `n`: `len` bytes of it. -/
def bodyBytes (s : State) (n len : Nat) : List Byte := readList s (mbBuf n + 16) len

/-- A job of command `cmd` in channel `n`: done where the channel is BUSY with it (log 4). LENGTH is at most 4 080 (R352). -/
def mbJob (s : State) (n cmd : Nat) (f : State → State) : State :=
  if s.fl F.MB_STAT_STATE n = 2 ∧ serves s n ∧ readBytes s (mbBuf n + 2) 2 = cmd then
    if badVersion s n then respond s n stBadVersion (natBytes (mbVerWord s) 4)
    else if 4080 < bodyLength s n then respond s n stBadCommand []
    else f s
  else s

/-- A job whose body has `len` bytes: any other LENGTH is BAD_COMMAND (R353). HELLO and MEASURE_READ carry none (log 111). -/
def mbJobOf (s : State) (n cmd len : Nat) (f : State → State) : State :=
  mbJob s n cmd fun s => if bodyLength s n = len then f s else respond s n stBadCommand []

/-- Whether a requester reaches channel `n` (R350, R348). -/
def mbAllowed (s : State) (q : Requester) (n : Nat) : Bool :=
  match q with
  | .core c =>
    let k := s.cpu (.core c)
    !(romPort s && n == 0) && s.fb F.MB_STAT_EN n && partOf s c == s.fl F.MB_STAT_PART n
      && (k.st.ml || k.st.ring.toNat ≤ s.fl F.MB_STAT_MINRING n)
  | .debugPort => romPort s && n == 0
  | .caddy => true
  | _ => false

/-- MB_CTLn (R351). An accepted GO strobes the Caddy's private interrupt controller (R359), which wakes its domain (18
R385). -/
def mbctlWrite (s : State) (w : Wr) (n : Nat) : State :=
  let st := s.fl F.MB_STAT_STATE n
  let s := putField s w F.MB_CTL_IRQ n 0
  if w.on F.MB_CTL_GO && st == 0 then
    wakeDom (onCaddy (s.setF F.MB_STAT_STATE n 1) fun c => { c with strobes := c.strobes ||| (1#8 <<< n) }) 45
  else if w.on F.MB_CTL_ACK && st == 3 then s.setF F.MB_STAT_STATE n 0
  else s

/-- A write of `len` bytes of the buffer of channel `n` (R351). -/
def mbBufWrite (s : State) (q : Requester) (n off len : Nat) (v : Word) : State :=
  if s.fl F.MB_STAT_STATE n = 0 then writeBytes s off len v.toNat else warnIgnored s q off v

/-- MB_STAT: RESTART is W1C. -/
def mbstatWrite (s : State) (w : Wr) (n : Nat) : State := putField s w F.MB_STAT_RESTART n 0

/-- A write of MB_CTLn that leaves IRQ as it is. The mailbox needs the interconnect, not the Caddy (R489); a requester that
the channel does not admit is refused (R350). -/
def mbRow (q : Requester) (n : Fin 8) (bit : Nat) (s : State) : Host.Outcome State Fault Refusal :=
  rowWrite q (0xE00300000 + 0x40 * n.val) (BitVec.ofNat 64 (bit + 4 * s.fl F.MB_CTL_IRQ n.val))
    (fun s w => if mbAllowed s q n.val then mbctlWrite s w n.val else rowFault s q beStrainer) s

/-- MB_GO. -/
def execMbGo (q : Requester) (n : Fin 8) (s : State) : Host.Outcome State Fault Refusal := mbRow q n 1 s

/-- MB_ACK. -/
def execMbAck (q : Requester) (n : Fin 8) (s : State) : Host.Outcome State Fault Refusal := mbRow q n 2 s

/-- CADDY_TAKE_MESSAGE: the lowest POSTED channel becomes BUSY (R351). -/
def execCaddyTakeMessage (s : State) : Host.Outcome State Fault Refusal :=
  .next (match (List.range 8).find? fun n => s.fl F.MB_STAT_STATE n == 1 && serves s n with
    | some n => onCaddy (s.setF F.MB_STAT_STATE n 2) fun c => { c with strobes := c.strobes &&& ~~~(1#8 <<< n) }
    | none => s)

/-- The COMMAND codes that R353 lists. -/
def knownCommand (c : Nat) : Bool :=
  [cmdHello, cmdStrainerSet, cmdStrainerClear, cmdCountersign, cmdDebugGrant, cmdLcTransition, cmdSign, cmdMeasureRead,
    cmdRecovery].contains c

/-- MB_RESPONSE: the Caddy's response, given from outside; an unknown command or version decides it (R353). -/
def execMbResponse (n : Fin 8) (status : BitVec 16) (body : List Byte) (s : State) : Host.Outcome State Fault Refusal :=
  .next (
    mbJob s n.val (readBytes s (mbBuf n.val + 2) 2) fun s =>
      if knownCommand (readBytes s (mbBuf n.val + 2) 2) then respond s n.val status.toNat body
      else respond s n.val stBadCommand [])

/-- MB_HELLO: the versions and a fresh nonce of 48 bytes. -/
def execMbHello (n : Fin 8) (nonce : List Byte) (s : State) : Host.Outcome State Fault Refusal :=
  .next (mbJobOf s n.val cmdHello 0 fun s =>
    let x := nonce.take 48
    respond (onCaddy s fun c => { c with nonces := mset [] c.nonces n.val x }) n.val stOk (natBytes (mbVerWord s) 4 ++ x))

/-! ### Strainer regions -/

/-- The fields of a region or window, with the register that brings each: 0 control, 1 range, 2 rate. -/
def regionFields (x : Nat) : List (Fld × Nat) :=
  if x < 40 then
    let f := strainFlds x
    [(f.valid, 0), (f.rd, 0), (f.wr, 0), (f.ex, 0), (f.safety, 0), (f.part, 0), (f.pany, 0), (f.cls, 0), (f.base, 1), (f.limit, 1)]
  else
    [(F.ST_WINCTL_VALID, 0), (F.ST_WINCTL_PERM, 0), (F.ST_WINCTL_TYPE, 0), (F.ST_WINCTL_PTAG, 0), (F.ST_WINCTL_SNODE, 0),
     (F.ST_WINCTL_SMASK, 0), (F.ST_WINRANGE_BASE, 1), (F.ST_WINRANGE_LIMIT, 1), (F.ST_WINRATE_RATE, 2), (F.ST_WINRATE_BURST, 2)]

/-- Element of region `r` of Strainer `x`; none where there is no such region. -/
def regionIndex (x r : Nat) : Option Nat :=
  if x < 4 then some (x * 64 + r)
  else if x = 4 then (if r < 16 then some r else none)
  else if x < 8 then none
  else if x < 40 then (if r < 4 then some ((x - 8) * 4 + r) else none)
  else if r < 16 then some ((x - 40) * 16 + r) else none

/-- The values that the three registers bring to the fields of a region. -/
def regionValues (x ctl range rate : Nat) : List (Fld × Nat) :=
  (regionFields x).map fun f =>
    (f.1, slice (match f.2 with | 0 => ctl | 1 => range | _ => rate) f.1.hi f.1.lo)

/-- Write fields of element `e` into their shadows; while no epoch runs they become active at once (R357; log 32). -/
def regionPut (s : State) (e : Nat) (vs : List (Fld × Nat)) : State :=
  if s.epochOn then vs.foldl (fun s v => s.setSh v.1 e v.2) s
  else windowBuckets s (vs.foldl (fun s v => (s.setF v.1 e v.2).dropSh v.1 e) s)

/-- The policy lets channel `n` set Strainer `x`. -/
def policyAllows (s : State) (n x : Nat) : Bool :=
  match s.caddy.policy with
  | some p => p.channels.any fun c => c.1 == n && bitAt c.2.2.2.2 x
  | none => false

/-- The epoch from whose Pour a change made now is certainly active (R357, R313). -/
def certainEpoch (s : State) : Nat := s.fl F.EP_EPOCH_VALUE 0 + b2n s.epochOn

/-- STRAINER_SET. -/
def execStrainerSet (n : Fin 8) (body : RegionBody) (s : State) : Host.Outcome State Fault Refusal :=
  .next (mbJob s n.val cmdStrainerSet fun s =>
    let x := body.strainer.val
    match regionIndex x body.region.val with
    | none => respond s n.val stBadCommand []
    | some e =>
      if policyAllows s n.val x then
        let s := regionPut s e (regionValues x body.ctl.toNat body.range.toNat body.rate.toNat)
        respond s n.val stOk (natBytes (certainEpoch s) 8)
      else respond s n.val stDenied [])

/-- STRAINER_CLEAR: the violation record of Strainer `x`, where the policy lets the channel set it. -/
def execStrainerClear (n : Fin 8) (x : Fin 72) (s : State) : Host.Outcome State Fault Refusal :=
  .next (mbJob s n.val cmdStrainerClear fun s =>
    if 5 ≤ x.val ∧ x.val < 8 then respond s n.val stBadCommand []
    else if policyAllows s n.val x.val then
      let s := [F.ST_VSTAT_COUNT, F.ST_VSTAT_CLASS, F.ST_VSTAT_PART, F.ST_VSTAT_KIND, F.ST_VSTAT_SAFETY, F.ST_VSTAT_NOMATCH,
        F.ST_VSTAT_REGION, F.ST_VADDR_ADDR].foldl (fun s f => s.setF f x.val 0) s
      respond s n.val stOk []
    else respond s n.val stDenied [])

/-! ### Countersigning (R361) -/

/-- Control word of a countersigned region: VALID, RD, EX, SAFETY, PANY and every class. -/
def csignCtl : Nat := 0xFF81B

/-- The key store refuses operations that use a PUF-derived or owner key (R346). -/
def keysRefused (s : State) : Bool :=
  let lc := s.fl F.LC_STATE_STATE 0
  lc == 0 || lc == 4 || lc == 5

/-- COUNTERSIGN, step 1: the range of `size` bytes at `base` of Infuser `i`'s SRAM. A wrong range is malformed; an
Infuser that is not stopped, or is being countersigned, is BUSY. Where the owner key may not be used it is DENIED (R346). -/
def execCountersign (n : Fin 8) (i : Fin 32) (base : BitVec 16) (size : Nat) (s : State) :
    Host.Outcome State Fault Refusal :=
  .next (mbJob s n.val cmdCountersign fun s =>
    let st := s.fl F.IF_STAT_STATE i.val
    if size = 0 ∨ 2 ^ 16 < base.toNat + size then respond s n.val stBadCommand []
    else if keysRefused s then respond s n.val stDenied []
    else if st = 1 ∨ st = 2 ∨ s.fb F.IF_STAT_CSIGN i.val then respond s n.val stBusy []
    else
      let x := 8 + i.val
      let e := 4 * i.val
      let last := base.toNat + size - 1
      let former := (regionFields x).map fun f => s.shv f.1 e
      let page := fun o => (0xE02100000 + 0x10000 * i.val + o) / 4096
      let s := onCaddy s fun c => { c with formerR0 := mset [] c.formerR0 i.val (former ++ [base.toNat, last]) }
      regionPut (s.setB F.IF_STAT_CSIGN i.val true) e
        (regionValues x csignCtl (page base.toNat + page last * 2 ^ 24) 0))

/-- COUNTERSIGN, steps 2 to 5, once region 0 has poured: `ok` is what the hash and signature check came to, which fails where
the owner key may no longer be used (R346). -/
def execCountersignComplete (n : Fin 8) (i : Fin 32) (ok : Bool) (s : State) : Host.Outcome State Fault Refusal :=
  .next (mbJob s n.val cmdCountersign fun s =>
    let x := 8 + i.val
    let e := 4 * i.val
    let l := mget [] s.caddy.formerR0 i.val
    if l.isEmpty || (regionFields x).any (fun f => mget 0 s.sh (fkey f.1 e) != 0) then s
    else
      let s := onCaddy (s.setB F.IF_STAT_CSIGN i.val false) fun c => { c with formerR0 := mset [] c.formerR0 i.val [] }
      if ok && !keysRefused s then
        let s := s.setB F.IF_STAT_HASHV i.val true
        respond (putInf s i.val { infOf s i.val with range := some (l.getD 10 0, l.getD 11 0) }) n.val stOk []
      else respond (regionPut s e ((regionFields x).zip l |>.map fun p => (p.1.1, p.2))) n.val stBadSignature [])

/-! ### Jobs of the key store and the debug grant -/

/-- The certificate is checked by the Caddy, or by its ROM in recovery, which then enables channel 0 of the mailbox for the
port once that holds level full (23 R469; R348). -/
def caddyCert (s : State) (c : Cert) (sigOk : Bool) : Nat × State :=
  let (st, s) := presentCert s c sigOk
  if st = stOk && s.caddy.phase == .recovery then
    let s := onCaddy s fun c => { c with romCert := true }
    (st, if romPort s then s.setB F.MB_STAT_EN 0 true else s)
  else (st, s)

/-- DEBUG_GRANT (23 R469): the body is the certificate, 136 bytes (R468). -/
def execDebugGrant (n : Fin 8) (sigOk : Bool) (s : State) : Host.Outcome State Fault Refusal :=
  .next (mbJobOf s n.val cmdDebugGrant 136 fun s =>
    let (st, s) := caddyCert s (certOf (bodyBytes s n.val 136)) sigOk
    respond s n.val st [])

/-- SIGN: a digest of 48 bytes. -/
def execSign (n : Fin 8) (signature : List Byte) (s : State) : Host.Outcome State Fault Refusal :=
  .next (mbJobOf s n.val cmdSign 48 fun s =>
    if keysRefused s then respond s n.val stDenied []
    else respond s n.val stOk signature)

/-- MEASURE_READ: the log and its signature. -/
def execMeasureRead (n : Fin 8) (signature : List Byte) (s : State) : Host.Outcome State Fault Refusal :=
  .next (mbJobOf s n.val cmdMeasureRead 0 fun s =>
    if keysRefused s then respond s n.val stDenied []
    else respond s n.val stOk (s.caddy.measures.flatMap (fun m => natBytes m 48) ++ signature))

/-! ### The life cycle (03 R69 to R71) -/

/-- Bits set in fuse row `r`. -/
def rowBits (fuses : BitVec 80) (r : Nat) : Nat := (List.range 16).countP fun b => fuses.getLsbD (16 * r + b)

/-- The mask of row `r`. -/
def rowMask (r : Nat) : BitVec 80 := 0xFFFF#80 <<< (16 * r)

/-- Programming row `r` sets every bit that is not stuck. -/
def programRow (fuses stuck : BitVec 80) (r : Nat) : BitVec 80 := fuses ||| (rowMask r &&& ~~~stuck)

/-- A torn row is completed, with its record. -/
def completeRow (s : State) (stuck : BitVec 80) (r : Nat) : State :=
  let n := rowBits s.sup.fuses r
  if n = 0 ∨ n = 16 then s.setBit F.LC_STATE_TORN 0 r false
  else
    let s := { s with sup := { s.sup with fuses := programRow s.sup.fuses stuck r } }
    let s := s.setBit F.LC_STATE_TORN 0 r true
    dregs s 4 clsWarn 0x60 (r + n * 2 ^ 8 + rowBits s.sup.fuses r * 2 ^ 16)

/-- The state that complete rows show (R70). -/
def lcOf (fuses : BitVec 80) : Nat :=
  let p := fun r => rowBits fuses r != 0
  let bad := (List.range 5).any fun r => p r && rowBits fuses r < 9
  let path := (p 0 || !p 1) && (p 1 || !p 2) && (p 2 || !p 3)
  if bad || p 4 || !path then 5
  else if p 3 then 4 else if p 2 then 3 else if p 1 then 2 else if p 0 then 1 else 0

/-- Sensing: torn rows are completed, the state is derived, and a change of it is recorded (R70). -/
def senseFuses (s : State) (stuck : BitVec 80) : State :=
  let s := (List.range 5).foldl (fun s r => completeRow s stuck r) s
  let was := s.fl F.LC_STATE_STATE 0
  let new := lcOf s.sup.fuses
  let s := if new = 5 ∧ rowBits s.sup.fuses 4 = 0 then
      { s with sup := { s.sup with fuses := programRow s.sup.fuses stuck 4 } } else s
  let s := s.setF F.LC_STATE_STATE 0 new
  if new = was then s else dregs s 4 clsInfo 0x61 (was + new * 2 ^ 8 + (new - 1) * 2 ^ 16)

/-- A transition that R69 allows. -/
def lcAllowed (lc target : Nat) : Bool := lc < 5 && (target == 5 || (target == lc + 1 && target ≤ 4))

/-- The signatures of R354. `owner` is false where the owner key may not be used (R346). -/
def lcSigned (lc target : Nat) (owner maker rma : Bool) : Bool :=
  match target with
  | 1 => maker
  | 2 => maker
  | 3 => owner
  | 4 => owner && rma
  | _ => owner || (rma && lc == 4)

/-- LC_TRANSITION. `nonceOk` says that it carries the channel's latest nonce, which is then used. -/
def execLcTransition (n : Fin 8) (target : BitVec 3) (serial : BitVec 64) (nonceOk ownerSig makerSig rmaSig : Bool)
    (keyHash : Nat) (s : State) : Host.Outcome State Fault Refusal :=
  .next (mbJob s n.val cmdLcTransition fun s =>
    if s.sup.programming.isSome then
      (if s.sup.programming.bind (·.2) = some n.val then s else respond s n.val stBusy [])
    else
      let lc := s.fl F.LC_STATE_STATE 0
      let t := target.toNat
      let fresh := nonceOk && !(mget [] s.caddy.nonces n.val).isEmpty
      let s := if nonceOk then onCaddy s fun c => { c with nonces := mset [] c.nonces n.val [] } else s
      if !lcAllowed lc t || serial != Config.serial then respond s n.val stDenied []
      else if !fresh || !lcSigned lc t (ownerSig && !keysRefused s) makerSig rmaSig then respond s n.val stBadSignature []
      else { s with sup := { s.sup with programming := some (t - 1, some n.val), newKey := if t = 2 then keyHash else 0 } })

/-- The owner key hash comes with the PROVISIONED row: fused once any bit of the row is set (16, Keys; R71). -/
def fuseKey (s : State) (r : Nat) : State :=
  let u := s.sup
  { s with sup := { u with programming := none, newKey := 0,
                           keyHash := if r = 1 && rowBits u.fuses 1 != 0 then u.newKey else u.keyHash } }

/-- LC_ROW_PROGRAMMED: the row is programmed and the state derived again; it ends a debug grant (23 R470). `stuck` names
bits that will not program. -/
def execLcRowProgrammed (row : Fin 5) (stuck : BitVec 80) (s : State) : Host.Outcome State Fault Refusal :=
  .next (match s.sup.programming with
    | some (r, n) =>
      if r = row.val then
        let s := fuseKey { s with sup := { s.sup with fuses := programRow s.sup.fuses stuck r } } r
        let s := endGrant (senseFuses s stuck)
        let s := match n with
          | some n => if s.fl F.MB_STAT_STATE n = 2 then respond s n stOk [] else s
          | none => s
        if s.fl F.LC_STATE_STATE 0 = 5 then scrap s else s
      else s
    | none => s)

/-! ### Boot (R54, R347 to R349) -/

/-- The Caddy may read the flash (R349), whose controller runs from FIRC (03 R53; 02 R50). -/
def flashReadable (s : State) : Bool :=
  (s.sup.straps.getLsbD 2 || bitAt (s.fl F.KT_SUPPLY_PG 0) 1) && !s.clk.persist.getLsbD 1

/-- The slot that is being tried (R347). -/
def triedSlot (s : State) : Nat :=
  let first := if s.fb F.KT_CADDYRST_FAILED 0 then 1 - s.fl F.KT_CADDYRST_SLOT 0 else 0
  if s.caddy.second then 1 - first else first

/-- The Caddy needs no loader: the cores' image stands in scratch SRAM, or the part is in the carried state (R362, R65). -/
def skipsLoader (s : State) : Bool := s.caddy.loaded || s.fb F.KT_SUPPLY_CARRIED 0

/-- A slot does not verify: the other is tried, then the ROM goes to recovery (R347). -/
def trySecond (s : State) : State :=
  if s.caddy.second then onCaddy (dregsFree s 0x100 clsFatal 0x603) fun c => { c with phase := .recovery }
  else onCaddy s fun c => { c with phase := .rom, second := true, measures := [] }

/-- The policy is applied: mailbox owners, secure sources, NG_POLICY and NG_MGMTAUTH (R350, R359; 12). -/
def applyPolicy (s : State) (p : Policy) : State :=
  let s := p.channels.foldl (fun s c =>
    if c.1 < 8 then ((s.setF F.MB_STAT_EN c.1 c.2.1).setF F.MB_STAT_PART c.1 c.2.2.1).setF F.MB_STAT_MINRING c.1 c.2.2.2.1
    else s) s
  let s := p.secure.foldl (fun s x =>
    if x.1 < 1024 then
      let s := (s.setB F.IC_SRC_SECURE x.1 true).setF F.IC_SRC_PRIO x.1 x.2.1
      icSettle ((s.setF F.IC_SRC_TARGETS x.1 x.2.2.1).setF F.IC_SRC_EDGE x.1 x.2.2.2) x.1
    else s) s
  let s := (s.setF F.NG_POLICY_LEGACY_TRUST 0 p.legacyTrust.toNat).setF F.NG_POLICY_LEGACY_TMO 0 p.legacyTmo.toNat
  (p.mgmt.take 4).zipIdx.foldl (fun s m => (s.setF F.NG_MGMTAUTH_NODE m.2 m.1.toNat).setB F.NG_MGMTAUTH_VALID m.2 true) s

/-- The firmware moves the Caddy to CAPLL (02 R48): once XREF is good; after a fallback not before software has cleared the
fault (02 R51; log 77). -/
def caddyMove (s : State) : State :=
  if s.caddy.phase == .running && caddyClocked s && s.clk.xrefGood && !s.clk.persist.getLsbD 18 && !s.clk.persist.getLsbD 2
      && !s.fb F.CK_MONSTAT_CAPLL 0 && !s.fb F.CK_MONSTAT_XREF 0 then
    { s with clk := { s.clk with caddyPll := true } }
  else s

/-- A measurement enters the log (R347), which holds them in the order in which they are made. -/
def measured (s : State) (m : Nat) : State := onCaddy s fun c => { c with measures := c.measures ++ [m] }

/-- The firmware is entered: its readiness bit is set, FAILED clears, the watchdog starts, and it moves the Caddy to CAPLL
(R347, R362). A firmware that came through recovery leaves SLOT as it is (DESIGN CHOICE, log 99). The measurement of a loader
that is not read again stays in the log. -/
def enterFirmware (s : State) : State :=
  let s := if s.caddy.recovered then s else s.setF F.KT_CADDYRST_SLOT 0 (triedSlot s)
  let s := s.setB F.KT_CADDYRST_FAILED 0 false
  let s := if s.caddy.second then dregsFree s 0x100 clsWarn 0x602 else s
  let s := match s.caddy.policy with
    | some p => if s.ready 34 && (!s.caddy.coresReleased || s.caddy.recovered) then applyPolicy s p else s
    | none => s
  let s := match s.caddy.loaderMeasure with
    | some m => if skipsLoader s then measured s m else s
    | none => s
  caddyMove (onCaddy (s.setReady 43 true) fun c => { c with phase := .running, kickAt := s.time, restarted := false })

/-- The firmware matches its manifest: it is entered, or the loader is read first. A restart that enters another
firmware is recorded (R362). -/
def firmwareGood (s : State) (measure : Nat) (policy : Policy) : State :=
  let s := if s.caddy.restarted && s.caddy.fwMeasure.any (· != measure) then dregsFree s 0x100 clsWarn 0x604 else s
  let s := onCaddy s fun c =>
    { c with fwMeasure := some measure, policy := some policy, measures := c.measures ++ [measure, policy.measure] }
  if skipsLoader s then enterFirmware s else onCaddy s fun c => { c with phase := .loader }

/-- MANIFEST_READ: the ROM waits for its flash; a SCRAPPED part loads no image (R69). -/
def execManifestRead (s : State) : Host.Outcome State Fault Refusal :=
  .next (
    if s.caddy.phase == .rom && flashReadable s && s.fl F.LC_STATE_STATE 0 != 5 then
      onCaddy s fun c => { c with phase := .verify }
    else s)

/-- SIGNATURE_VERIFY. A manifest that verifies is measured. -/
def execSignatureVerify (ok : Bool) (measure : Nat) (s : State) : Host.Outcome State Fault Refusal :=
  .next (
    if s.caddy.phase == .verify && caddyClocked s then (if ok then measured (onCaddy s fun c => { c with phase := .readFw }) measure
      else trySecond s) else s)

/-- FIRMWARE_READ, from the flash (R349). -/
def execFirmwareRead (hashOk : Bool) (measure : Nat) (policy : Policy) (s : State) : Host.Outcome State Fault Refusal :=
  .next (
    if s.caddy.phase == .readFw && flashReadable s then (if hashOk then firmwareGood s measure policy else trySecond s) else s)

/-- LOADER_READ: the loader comes to the start of the scratch SRAM, which must be ready: from the flash, or from the image
that recovery has received and verified. A running firmware reads it again after the carried state. Its measurement is
recorded (R53, R347, R348). A SCRAPPED part loads no image (R69). -/
def execLoaderRead (hashOk : Bool) (measure : Nat) (bytes : List Byte) (s : State) : Host.Outcome State Fault Refusal :=
  .next (
    let boot := s.caddy.phase == .loader
    let again := s.caddy.phase == .running && !s.caddy.loaded
    let kept := s.caddy.recovered && !s.caddy.recovery.isEmpty
    if (boot || again) && (kept || flashReadable s) && caddyClocked s && s.ready 28 && s.fl F.LC_STATE_STATE 0 != 5 then
      let s := writeList s 0xC00000000 ((if kept then s.caddy.recovery else bytes).take (4 * 2 ^ 20))
      if !hashOk && !kept then (if boot then trySecond s else s)
      else
        let s := onCaddy s fun c => { c with loaded := true, recovery := [], loaderMeasure := some measure }
        if boot then enterFirmware s else measured s measure
    else s)

/-- RECOVERY: the body is a piece of the image, in order: manifest, firmware, loader. The last one is verified; `loader` is
the length of the loader, the end of the image, which stays for LOADER_READ (R348). -/
def execRecovery (n : Fin 8) (last ok : Bool) (loader manifest measure : Nat) (policy : Policy) (s : State) :
    Host.Outcome State Fault Refusal :=
  .next (mbJob s n.val cmdRecovery fun s =>
    if s.caddy.phase != .recovery then respond s n.val stDenied []
    else
      let image := s.caddy.recovery ++ bodyBytes s n.val (bodyLength s n.val)
      let s := onCaddy s fun c => { c with recovery := if !last then image else if ok then image.drop (image.length - loader) else [] }
      if !last then respond s n.val stOk []
      else if ok then
        firmwareGood (onCaddy (respond s n.val stOk []) fun c => { c with second := false, recovered := true, measures := [manifest] })
          measure policy
      else respond s n.val stBadSignature [])

/-- CADDY_WATCHDOG_EXPIRY (R362). -/
def execCaddyWatchdogExpiry (s : State) : Host.Outcome State Fault Refusal :=
  .next (if s.caddy.phase == .running then caddyRestart s 1 else s)

/-- The Caddy leaves reset on FIRC and runs its ROM (R52, R401): not while a supply reset, a warm reset, the restart
limit or a Steep table holds it, nor while the Kettle runs alone (02 R36). -/
def caddyRelease (s : State) : State :=
  if s.caddy.phase == .inReset && !s.sup.por && !s.sup.bor && !s.sup.alone && !s.warm.active && !s.steep.holds then
    let k := s.cpu .caddy
    let s := s.setCpu .caddy { ({} : Cpu) with epochNo := k.epochNo, run := .running, pc := 0x1000000000 }
    { s with caddy := { s.caddy with phase := .rom, second := false, recovered := false, romCert := false, measures := [] },
             clk := { s.clk with caddyPll := false } }
  else s

/-- CADDY_RESET_RELEASE. -/
def execCaddyResetRelease (s : State) : Host.Outcome State Fault Refusal := .next (caddyRelease s)

/-- The boot regions of R357: region 0 of each DRAM Strainer and of the scratch Strainer, class 0, partition 0, with RD,
WR and EX. -/
def bootRegions (s : State) : State :=
  let ctl := 0x100F
  let s := (List.range 4).foldl (fun s c => regionPut s (64 * c) (regionValues c ctl (0xBFFFFF * 2 ^ 24) 0)) s
  regionPut s 0 (regionValues 4 ctl (0xC00000 + 0xC003FF * 2 ^ 24) 0)

/-- CORE_RELEASE (R52, R55): once, by the firmware, with the loader in place. -/
def execCoreRelease (s : State) : Host.Outcome State Fault Refusal :=
  .next (
    if s.caddy.phase == .running && caddyClocked s && s.caddy.loaded && !s.caddy.coresReleased && s.fl F.LC_STATE_STATE 0 != 5 then
      let up := BitVec.ofNat 4 (s.fl F.KT_SUPPLY_PG 0 / 16)
      let s := onCaddy (bootRegions s) fun c => { c with coresReleased := true, released := up }
      { s with sup := { s.sup with rstoutN := true } }
    else s)

end Sys2Proof.Machine
end

