-- ==== Sys2Proof/Machine/Supply.lean ====
section
/-! DEFINITION. Supplies, clock monitors, readiness, power-on, brownout and warm resets (spec 02 R33 to R51; 03 R52 to
R68; 17 R376; 15 R332). -/

namespace Sys2Proof.Machine

def onSup (s : State) (f : Supply → Supply) : State := { s with sup := f s.sup }
def onClk (s : State) (f : Clocks → Clocks) : State := { s with clk := f s.clk }

/-! ### Inputs and bring-up -/

/-- Trigger 3 clears once AON_MAIN is good and every enabled rail is (17 R369). -/
def settleSupply (s : State) : State :=
  let pg := s.fl F.KT_SUPPLY_PG 0
  if s.fb F.KT_SUPPLY_MAIN_OK 0 && (List.range 8).all (fun n => !s.sup.pwrEn.getLsbD n || bitAt pg n) then clearTrigger s 3
  else s

/-- The backup is not good: noted, and recorded once per POR (R37). -/
def backupAbsent (s : State) : State :=
  let s := s.setB F.KT_SUPPLY_BKP_ABSENT 0 true
  if s.sup.bkpNoted then s else onSup (dregsFree s 1 clsWarn 0x31) fun u => { u with bkpNoted := true }

/-- KT_SUPPLY shows the levels of the inputs. -/
def showInputs (s : State) : State :=
  (s.setB F.KT_SUPPLY_MAIN_OK 0 s.sup.mainUp).setB F.KT_SUPPLY_BKP_OK 0 s.sup.bkpUp

/-- Bring-up as the inputs allow (R36): power-on, the carried state, or the Kettle alone. -/
def bringUp (s : State) : State :=
  let s := showInputs s
  if s.sup.mainUp then railsBegin (onSup (s.setF F.KT_SUPPLY_SRC 0 0) fun u => { u with alone := false, railsAsked := true })
  else if s.sup.bkpUp then
    onSup ((s.setF F.KT_SUPPLY_SRC 0 1).setB F.KT_SUPPLY_CARRIED 0 true) fun u => { u with alone := false, isolated := true }
  else onSup s fun u => { u with alone := true }

/-- The record of the POR or BOR that ends (17 R370, R383). DESIGN CHOICE (log 109): it is written at the release, when the
Kettle runs again, and its class, which no rule gives, is open. -/
def resetRecord (s : State) : State :=
  let (k, s) := s.takeFree
  dregsFree s 3 (Config.freeNat k % 5) (0x50 + s.fl F.KT_RSTCAUSE_LAST 0)

/-- A supply reset is released (R36, R53, R70; 18 R401). -/
def supplyRelease (s : State) (straps : BitVec 4) (stuck : BitVec 80) (temps : List Byte) : State :=
  let s := resetRecord (onSup s fun u => { u with por := false, bor := false, straps := straps })
  let s := if 2 ≤ straps.toNat % 4 then dregs s 3 clsWarn 0x59 straps.toNat else s
  let s := showInputs s
  let s := if s.sup.bkpUp then s else backupAbsent s
  let s := computeDomains.foldl (fun s d => s.setF F.PW_DOM_STATE d 2) (senseFuses s stuck)
  let s := takeTemps s temps
  let s := steepStart s 1 0 true
  bringUp (coldTable { s with steep := { s.steep with holds := true, coldWarned := false } })

/-- Fuse bits of a row that was being programmed when power failed: no bit is lost, and some may have been set; a row of
which no bit is set leaves nothing behind (R71). -/
def tornFuses (s : State) : State :=
  match s.sup.programming with
  | some (r, _) =>
    let (k, s) := s.takeFree
    fuseKey (onSup s fun u => { u with fuses := u.fuses ||| BitVec.ofNat 80 (Config.freeNat k % 2 ^ 16 * 2 ^ (16 * r)) }) r
  | none => s

/-- The causes of the KCLK cycle that is now. -/
def causesNow (s : State) : List Nat :=
  if s.warm.since = s.time then (List.range 6).filter fun k => s.warm.causes.getLsbD k else []

/-- The state that a POR leaves: everything at its reset value but the fuses (R61, R66); causes of the same KCLK cycle have
their bits set (R63). -/
def porState (s : State) : State :=
  let t := { ({} : State) with flds := (keepOnly s (keptIds 0)).flds, free := s.free, pending := s.pending,
                               sup := { por := true, mainUp := s.sup.mainUp, bkpUp := s.sup.bkpUp, fuses := s.sup.fuses,
                                        keyHash := s.sup.keyHash } }
  (causesNow s).foldl causeBit t

/-- POR_ASSERT (R36, R61, R64). -/
def execPorAssert (s : State) : Host.Outcome State Fault Refusal := .next (porState (tornFuses s))

/-- POR_RELEASE. -/
def execPorRelease (straps : BitVec 4) (stuck : BitVec 80) (temps : List Byte) (s : State) :
    Host.Outcome State Fault Refusal :=
  .next (if s.sup.por then supplyRelease s straps stuck temps else s)

/-- BOR_ASSERT (R35, R61): the classes that R66 keeps by BOR stay; a Kettle that runs on KCLK_B stays there until the
next POR (R51). A warm reset that began in the same KCLK cycle is part of this one reset (R63), counted once. -/
def execBorAssert (s : State) : Host.Outcome State Fault Refusal :=
  .next (
    if s.sup.por || s.sup.bor then s
    else
      let s := endGrant (tornFuses s)
      let joined := s.warm.active && s.warm.started = s.time
      let s := mirrorStale (if joined then dropWarmRecord s else s)
      let s := keepOnly (noteCause s 1) (keptIds 1)
      let s := s.setF F.KT_RSTCAUSE_LAST 0 1
      let s := if joined then s else s.bumpF F.KT_RSTCAUSE_COUNT 0
      let u := s.sup
      { ({} : State) with flds := s.flds, dregs := s.dregs, time := s.time, fab := fabCopy s, free := s.free, pending := s.pending,
                          warm := { causes := s.warm.causes, since := s.warm.since },
                          clk := { kclkB := s.clk.kclkB },
                          sup := { por := false, bor := true, mainUp := u.mainUp, bkpUp := u.bkpUp, bkpNoted := u.bkpNoted,
                                   rtc := u.rtc, fuses := u.fuses, keyHash := u.keyHash } })

/-- BOR_RELEASE. -/
def execBorRelease (straps : BitVec 4) (stuck : BitVec 80) (temps : List Byte) (s : State) :
    Host.Outcome State Fault Refusal :=
  .next (if s.sup.bor then supplyRelease s straps stuck temps else s)

/-- AON_INPUT_GOOD: while a supply reset is asserted the level is noted; while the Kettle runs alone bring-up proceeds. A
backup that comes back at another time is good at once; AON_MAIN needs its 10 ms (AON_MAIN_RETURN). A backup that becomes
good after AON_MAIN was lost without one starts no changeover: R34 speaks of the loss of AON_MAIN while AON_BKP is good
(DESIGN CHOICE, log 79). -/
def execAonInputGood (main : Bool) (s : State) : Host.Outcome State Fault Refusal :=
  .next (
    let note := fun (s : State) => onSup s fun u => { u with mainUp := u.mainUp || main, bkpUp := u.bkpUp || !main }
    if s.sup.por || s.sup.bor then note s
    else if s.sup.alone then bringUp (note s)
    else if main then s
    else showInputs (note s))

/-- AON_BKP_LOSS: the backup is lost, or good again (R37). -/
def execAonBkpLoss (good : Bool) (s : State) : Host.Outcome State Fault Refusal :=
  .next (
    let s := onSup s fun u => { u with bkpUp := good }
    if s.sup.por || s.sup.bor then s
    else if good then (if s.sup.alone then bringUp s else showInputs s)
    else backupAbsent (showInputs s))

/-- Entry to the carried state stops the watchdogs (17 R376). -/
def watchdogsOff (s : State) : State :=
  let s := (s.setB F.KT_WDCFG_EN 0 false).setB F.KT_WDCFG_LOCK 0 false
  let s := (List.range 8).foldl (fun s n => s.setB F.KT_EDWCFG_EN n false) s
  { s with ep := { s.ep with expect := 0, due := 0 } }

/-- AON_MAIN is lost (R33, R34, R41): supply doubt; with a good backup the part changes over and enters the carried
state, which is the supervisory event MAIN_LOSS (08 R192). -/
def mainLoss (s : State) : State :=
  if !s.sup.mainUp then s
  else
    let s := onSup s fun u => { u with mainUp := false }
    if s.sup.por || s.sup.bor || s.sup.alone then s
    else
      let s := raiseTrigger (showInputs s) 3 true
      let s := if s.fb F.MC_CFG_SRMAIN 0 then selfRefreshEntry s else s
      if s.sup.bkpUp then
        let s := superEvent s 1
        let s := ((s.setF F.KT_SUPPLY_SRC 0 1).setB F.KT_SUPPLY_CARRIED 0 true).bumpF F.KT_SUPPLY_CHG_COUNT 0
        let s := watchdogsOff s
        onSup s fun u => { u with isolated := false, reduced := false, reported := false, railsAsked := false }
      else s

/-- AON_MAIN_LOSS. -/
def execAonMainLoss (s : State) : Host.Outcome State Fault Refusal := .next (mainLoss s)

/-- COMPUTE_DOMAIN_ISOLATION (R41). -/
def execComputeDomainIsolation (s : State) : Host.Outcome State Fault Refusal :=
  .next (
    if s.fb F.KT_SUPPLY_CARRIED 0 && !s.sup.isolated then
      let s := socOff (computeDomains.foldl railOff s)
      let s := joyRailOff (s.setF F.KT_SUPPLY_PG 0 0)
      { s with warm := {}, sup := { s.sup with isolated := true, pwrEn := 0, rstoutN := false } }
    else s)

/-- MIRROR_PORT_REDUCED_RETRAIN (R41, 15 R332): the ports that were trained begin to retrain on lane 0; the changeover is
recorded. -/
def execMirrorPortReducedRetrain (s : State) : Host.Outcome State Fault Refusal :=
  .next (
    if s.fb F.KT_SUPPLY_CARRIED 0 && s.sup.isolated && !s.sup.reduced then
      let s := dregsFree s 1 clsSafety 0x30
      let s := [0, 1].foldl (fun s m =>
        if s.fl F.MR_PORTSTAT_STATE m = 0 then s else (linkTrain s (32 + m) 6 false).setB F.MR_PORTSTAT_REDUCED m true) s
      onSup s fun u => { u with reduced := true }
    else s)

/-- MIRROR_CARRIED_REPORT: the reduced retrain completes and the first carried heartbeat is sent. -/
def execMirrorCarriedReport (s : State) : Host.Outcome State Fault Refusal :=
  .next (
    if s.fb F.KT_SUPPLY_CARRIED 0 && s.sup.reduced && !s.sup.reported then
      let s := [0, 1].foldl (fun s m => if s.fb F.MR_PORTSTAT_REDUCED m then linkActivate s (32 + m) else s) s
      degradedHeartbeat (onSup s fun u => { u with reported := true })
    else s)

/-- The mirror ports leave the reduced rate; the mirror unit is not enabled, so they are OFF until MR_CFG.EN is set: one
that was ACTIVE goes down (15 R339). -/
def portsFull (s : State) : State :=
  let s := setLink (setLink s 32 0 0) 33 0 0
  let s := [F.MR_PORTSTAT_STATE, F.MR_PORTSTAT_REASON, F.MR_PORTSTAT_UNTIMED, F.MR_PORTSTAT_REDUCED, F.MR_PORTSTAT_DELAY,
    F.MR_PORTSTAT_PARTNER_PORT].foldl (fun s f => (s.setF f 0 0).setF f 1 0) s
  { (s.setF F.MR_VER_AGREED 0 0) with links := mdrop s.links 32 34 }

/-- COLD = 1: the loaded table runs and holds bring-up until its CONTINUE (18 R400). -/
def steepCold (s : State) : State :=
  if s.fb F.KT_STEEPCTL_COLD 0 then
    let s := steepBegin s 1 (s.fl F.KT_STEEPCTL_CSTEP 0)
    { s with steep := { s.steep with holds := true } }
  else s

/-- AON_MAIN_RETURN (R33, R34, R43). `dramHeld` says that the board kept the DRAM supply up through the carried state; the
contents are lost where it did not (R41, R67). -/
def execAonMainReturn (dramHeld : Bool) (s : State) : Host.Outcome State Fault Refusal :=
  .next (
    if s.sup.mainUp || s.sup.por || s.sup.bor then s
    else
      let s := onSup s fun u => { u with mainUp := true }
      if s.sup.alone then bringUp s
      else
        let carried := s.fb F.KT_SUPPLY_CARRIED 0
        let s := (showInputs s).setF F.KT_SUPPLY_SRC 0 0
        if carried then
          let s := if dramHeld then s else (List.range 4).foldl contentsLost s
          let s := portsFull (mirrorStale (s.setB F.KT_SUPPLY_CARRIED 0 false))
          let s := onSup s fun u => { u with railsAsked := true, isolated := false, reduced := false, reported := false }
          settleSupply (railsBegin (steepCold s))
        else settleSupply s)

/-! ### Rails (R38 to R40) -/

/-- The next enable in order: the first not raised, whose predecessor is good and which has not failed. -/
def nextRail (s : State) : Option Nat :=
  match (List.range 8).find? fun n => !s.sup.pwrEn.getLsbD n with
  | some n => if s.sup.failed.getLsbD n || n = 0 || !bitAt (s.fl F.KT_SUPPLY_PG 0) (n - 1) then none else some n
  | none => none

/-- BOARD_RAIL_ENABLE. PWR_EN[0] is raised with bring-up itself. -/
def execBoardRailEnable (s : State) : Host.Outcome State Fault Refusal :=
  .next (
    if s.sup.por || s.sup.bor || s.fb F.KT_SUPPLY_CARRIED 0 then s
    else
      let s := railsBegin s
      match nextRail s with
      | some n => onSup s fun u => { u with pwrEn := u.pwrEn ||| (1#8 <<< n) }
      | none => s)

/-- A core of a domain that comes up stands in reset. -/
def coreInReset (s : State) (d : Nat) : State :=
  if d < 16 then
    let p := Proc.core (Fin.ofNat 16 d)
    s.setCpu p { s.cpu p with run := .inReset }
  else s

/-- PG_RISE: the domains of the rail whose other rails are up too start as from DOFF. -/
def execPgRise (r : Fin 8) (s : State) : Host.Outcome State Fault Refusal :=
  .next (
    if s.sup.pwrEn.getLsbD r.val && !bitAt (s.fl F.KT_SUPPLY_PG 0) r.val then
      let s := s.setBit F.KT_SUPPLY_PG 0 r.val true
      let start := fun (s : State) (d : Nat) => if railsUp s d && !scrapped s then coreInReset (domBack s d) d else s
      settleSupply ((railDomains r.val).foldl start s)
    else s)

/-- PG_TIMEOUT (R39): the record names the rail (log 74). -/
def execPgTimeout (r : Fin 8) (s : State) : Host.Outcome State Fault Refusal :=
  .next (
    if s.sup.pwrEn.getLsbD r.val && !bitAt (s.fl F.KT_SUPPLY_PG 0) r.val then
      let later : BitVec 8 := BitVec.allOnes 8 <<< r.val
      let s := onSup s fun u => { u with pwrEn := u.pwrEn &&& ~~~later, failed := u.failed ||| later }
      settleSupply (dregs s 1 clsError 0x32 r.val)
    else s)

/-- PG_DROP (R40, R67). `mainLost` says that AON_MAIN is lost within 20 µs of it: the event is then handled as that.
`dramHeld` says that the board kept the DRAM supply. VDD_ANA feeds the joystick converters (17 R374) in either case. -/
def execPgDrop (r : Fin 8) (mainLost dramHeld : Bool) (s : State) : Host.Outcome State Fault Refusal :=
  .next (
    if s.sup.pwrEn.getLsbD r.val && bitAt (s.fl F.KT_SUPPLY_PG 0) r.val && s.fb F.KT_SUPPLY_MAIN_OK 0 then
      let s := s.setBit F.KT_SUPPLY_PG 0 r.val false
      let joy := fun (s : State) => if r = 1 then joyRailOff s else s
      if mainLost then joy (mainLoss s)
      else
        let s := s.setBit F.KT_SUPPLY_PG_DROP 0 r.val true
        let s := superEvent (dregs (raiseTrigger s 3 true) 1 clsError 0x33 r.val) 2
        let s := joy ((railDomains r.val).foldl railOff s)
        let s := if r = 0 then socOff (mirrorStale s) else s
        (List.range 4).foldl (fun s c =>
          if dramHeld && (r != 2 || s.dram.selfRef.getLsbD c) then s else contentsLost s c) s
    else s)

/-! ### Clocks (R47 to R51, R53, R60) -/

/-- A fault of clock `k` raises trigger 4 (R50). -/
def clockTrips (k : Nat) : Bool := k ≤ 3 || (5 ≤ k && k ≤ 11) || (18 ≤ k && k ≤ 20)

/-- The field of CK_MONSTAT that shows clock `k`, and its bit. -/
def monField (k : Nat) : Fld × Nat :=
  match k with
  | 0 => (F.CK_MONSTAT_KCLK, 0)
  | 1 => (F.CK_MONSTAT_FIRC, 0)
  | 2 => (F.CK_MONSTAT_XREF, 0)
  | 3 => (F.CK_MONSTAT_FREF, 0)
  | 4 => (F.CK_MONSTAT_EREF, 0)
  | 9 => (F.CK_MONSTAT_SPLL, 0)
  | 10 => (F.CK_MONSTAT_FPLL, 0)
  | 11 => (F.CK_MONSTAT_DPLL, 0)
  | 18 => (F.CK_MONSTAT_CAPLL, 0)
  | 19 => (F.CK_MONSTAT_MPLL, 0)
  | 20 => (F.CK_MONSTAT_CANPLL, 0)
  | 21 => (F.CK_MONSTAT_NETPLL, 0)
  | _ => if k < 9 then (F.CK_MONSTAT_CPLL, k - 5) else (F.CK_MONSTAT_PPLL, k - 12)

/-- The bit of clock `k` is set. -/
def monSet (s : State) (k : Nat) : State := s.setBit (monField k).1 0 (monField k).2 true

/-- CK_MONSTAT as read. -/
def monWord (s : State) : Nat :=
  ((List.range 22).map fun k => b2n (bitAt (s.fl (monField k).1 0) (monField k).2) * 2 ^ k).sum

/-- Clock `k` runs, so it is monitored. -/
def monitored (s : State) (k : Nat) : Bool :=
  let pg := fun r => bitAt (s.fl F.KT_SUPPLY_PG 0) r
  !s.sup.por && !s.sup.bor &&
  (if k = 2 then s.clk.xrefGood
   else if 5 ≤ k && k ≤ 8 then
    pg (k - 1) && s.fb F.CK_CLUSTER_PLL_EN (k - 5) && (s.fb F.CK_CLUSTER_LOCK (k - 5) || s.clk.persist.getLsbD k)
   else if k = 9 || k = 20 then pg 0
   else if k = 11 then pg 0 && pg 2
   else if k = 10 then pg 3
   else if k = 4 || k = 21 || (12 ≤ k && k ≤ 17) then pg 1
   else true)

/-- The clock source of cluster `n` changes. -/
def switching (s : State) (n : Nat) : State := s.setB F.CK_CLUSTER_SWITCHING n true

/-- Cluster `n` runs from CPLLn: SEL = 1, and it does not wait on FIRC for a relock. -/
def onCpll (s : State) (n : Nat) : Bool := s.fb F.CK_CLUSTER_SEL n && !s.clk.relock.getLsbD n

/-- Cluster `n` falls back to FIRC: hardware clears SEL, and the lock is lost (R50, R51, R60). -/
def clusterFallback (s : State) (n : Nat) : State :=
  let s := if onCpll s n then switching s n else s
  let s := (s.setB F.CK_CLUSTER_SEL n false).setB F.CK_CLUSTER_LOCK n false
  onClk s fun c => { c with relock := c.relock &&& ~~~(1#4 <<< n) }

/-- The clock of link or mirror port `n` has stopped: what has trained retrains when the clock returns; what trains begins
again (R50). -/
def linkStops (s : State) (n : Nat) : State :=
  if trained s n then linkRetrain s n false
  else if lstate s n = 1 ∨ lstate s n = 3 ∨ lstate s n = 4 then linkTrain s n 1 false
  else if lstate s n = 6 then linkTrain s n 6 false
  else s

/-- Some domain runs from the PLL `k` (5 to 9, 11, 18, 20) and would fall back to FIRC with it (R50). -/
def fedBy (s : State) (k : Nat) : Bool :=
  if 5 ≤ k ∧ k ≤ 8 then onCpll s (k - 5)
  else if k = 9 then s.clk.spllSel
  else if k = 11 then bitAt (s.fl F.KT_SUPPLY_PG 0) 2 && !s.clk.dramFirc
  else if k = 18 then s.clk.caddyPll
  else if k = 20 then bitAt (s.fl F.KT_SUPPLY_PG 0) 0 && !s.clk.canFirc
  else false

/-- A domain falls back to FIRC with a fault of clock `k` (R50): one that runs from that PLL, or for XREF from any. -/
def clockFallsBack (s : State) (k : Nat) : Bool :=
  if k = 2 then [5, 6, 7, 8, 9, 11, 18, 20].any (fedBy s) else fedBy s k

/-- The response to a fault of clock `k` (R50). -/
def clockResponse (s : State) (k : Nat) : State :=
  if k = 0 then onClk s fun c => { c with kclkB := true }
  else if k = 2 then
    onClk ((List.range 4).foldl clusterFallback s) fun c =>
      { c with spllSel := false, caddyPll := false, dramFirc := true, canFirc := true }
  else if 5 ≤ k ∧ k ≤ 8 then clusterFallback s (k - 5)
  else if k = 9 then onClk s fun c => { c with spllSel := false }
  else if k = 11 then onClk s fun c => { c with dramFirc := true }
  else if k = 18 then onClk s fun c => { c with caddyPll := false }
  else if k = 20 then onClk s fun c => { c with canFirc := true }
  else if k = 3 then (List.range 34).foldl linkStops s
  else if k = 10 then (List.range 32).foldl linkStops s
  else if k = 19 then [32, 33].foldl linkStops s
  else s

/-- Trigger 4 clears once no faulting clock that raises it persists; a KCLK fault clears with the move to KCLK_B. -/
def settleClocks (s : State) : State :=
  if (List.range 22).any fun k => k != 0 && clockTrips k && s.clk.persist.getLsbD k then s else clearTrigger s 4

/-- The domains that software, having cleared the fault, switches back to their PLLs: memory controller, CAN and Caddy (R51;
log 77). -/
def clocksBack (s : State) : State :=
  let free := fun (s : State) (k : Nat) =>
    !s.clk.persist.getLsbD k && !bitAt (s.fl (monField k).1 0) (monField k).2
  let s := if free s 11 && free s 2 then onClk s fun c => { c with dramFirc := false } else s
  let s := if free s 20 && free s 2 then onClk s fun c => { c with canFirc := false } else s
  caddyMove s

/-- CK_MONSTAT: W1C (R51). -/
def monstatWrite (s : State) (w : Wr) : State :=
  clocksBack (putFields s w [F.CK_MONSTAT_KCLK, F.CK_MONSTAT_FIRC, F.CK_MONSTAT_XREF, F.CK_MONSTAT_FREF, F.CK_MONSTAT_EREF,
    F.CK_MONSTAT_CPLL, F.CK_MONSTAT_SPLL, F.CK_MONSTAT_FPLL, F.CK_MONSTAT_DPLL, F.CK_MONSTAT_PPLL, F.CK_MONSTAT_CAPLL,
    F.CK_MONSTAT_MPLL, F.CK_MONSTAT_CANPLL, F.CK_MONSTAT_NETPLL] 0 0)

/-- A fault of clock `k` is declared (R50, R51); the supervisory event CLOCK_FALLBACK where a domain falls back to FIRC
(08 R192). -/
def clockFault (s : State) (k : Nat) : State :=
  let falls := clockFallsBack s k
  let s := onClk (clockResponse (monSet (holdFab s) k) k) fun c => { c with persist := c.persist ||| (1#22 <<< k) }
  let s := if falls then superEvent s 3 else s
  if clockTrips k then
    let s := raiseTrigger s 4 true
    settleClocks (dregs s 2 clsSafety 0x40 (monWord s))
  else dregs s 2 clsWarn 0x40 (monWord s)

/-- CLOCK_MONITOR_WINDOW: two failing windows in succession declare a fault (R50); later ones set its bit again. -/
def execClockMonitorWindow (k : Fin 22) (failed : Bool) (s : State) : Host.Outcome State Fault Refusal :=
  .next (
    let bit : BitVec 22 := 1#22 <<< k.val
    if !monitored s k.val then s
    else if !failed then
      clocksBack (settleClocks (onClk s fun c => { c with failing := c.failing &&& ~~~bit, persist := c.persist &&& ~~~bit }))
    else if s.clk.persist.getLsbD k.val then monSet s k.val
    else if s.clk.failing.getLsbD k.val then clockFault (onClk s fun c => { c with failing := c.failing &&& ~~~bit }) k.val
    else onClk s fun c => { c with failing := c.failing ||| bit })

/-- KCLK_MISSING_PULSE: a stop of KCLK is declared on its own. -/
def execKclkMissingPulse (s : State) : Host.Outcome State Fault Refusal :=
  .next (if s.sup.por || s.sup.bor || s.clk.kclkB then s else clockFault s 0)

/-- XREF_GOOD (R53). -/
def execXrefGood (s : State) : Host.Outcome State Fault Refusal :=
  .next (if s.sup.por || s.sup.bor then s else clocksBack (onClk s fun c => { c with xrefGood := true }))

/-- SPLL_LOCK: hardware moves SCLK and ICLK to SPLL; after a fallback they stay on FIRC until software has cleared the
fault (R51). -/
def execSpllLock (s : State) : Host.Outcome State Fault Refusal :=
  .next (
    if bitAt (s.fl F.KT_SUPPLY_PG 0) 0 && s.clk.xrefGood && !s.fb F.CK_MONSTAT_SPLL 0 && !s.fb F.CK_MONSTAT_XREF 0 then
      onClk s fun c => { c with spllSel := true }
    else s)

/-- FREQ of CK_CLUSTERn is written: a change loses the lock, and a cluster on the PLL runs on FIRC until it relocks; a
value outside 2 to 24 is refused with a Warn record. -/
def freqWrite (s : State) (w : Wr) (n : Nat) : State :=
  let f := w.new F.CK_CLUSTER_FREQ s n
  if f = s.fl F.CK_CLUSTER_FREQ n then s
  else if 2 ≤ f ∧ f ≤ 24 then
    let s := if onCpll s n then switching s n else s
    let s := if s.fb F.CK_CLUSTER_SEL n then onClk s fun c => { c with relock := c.relock ||| (1#4 <<< n) } else s
    (s.setF F.CK_CLUSTER_FREQ n f).setB F.CK_CLUSTER_LOCK n false
  else ignoreWarn s w

/-- CK_CLUSTERn (R60). SEL = 1 while LOCK was 0 is refused with a Warn record. PLL_EN = 0 moves the cluster to FIRC and
powers the PLL down; no monitor fault of it stands then. -/
def clusterWrite (s : State) (w : Wr) (n : Nat) : State :=
  let locked := s.fb F.CK_CLUSTER_LOCK n
  let sel := s.fb F.CK_CLUSTER_SEL n
  let s := freqWrite s w n
  let s := if w.on F.CK_CLUSTER_SEL && !locked then ignoreWarn s w else s
  if w.new F.CK_CLUSTER_PLL_EN s n ≠ 1 then
    let s := clusterFallback (s.setB F.CK_CLUSTER_PLL_EN n false) n
    settleClocks (onClk s fun c =>
      { c with persist := c.persist &&& ~~~(1#22 <<< (5 + n)), failing := c.failing &&& ~~~(1#22 <<< (5 + n)) })
  else
    let s := s.setB F.CK_CLUSTER_PLL_EN n true
    if !w.touches F.CK_CLUSTER_SEL then s
    else if w.on F.CK_CLUSTER_SEL then
      if !locked || sel then s
      else if s.fb F.CK_CLUSTER_LOCK n then switching (s.setB F.CK_CLUSTER_SEL n true) n
      else onClk (s.setB F.CK_CLUSTER_SEL n true) fun c => { c with relock := c.relock ||| (1#4 <<< n) }
    else if sel then
      let s := if onCpll s n then switching s n else s
      onClk (s.setB F.CK_CLUSTER_SEL n false) fun c => { c with relock := c.relock &&& ~~~(1#4 <<< n) }
    else s

/-- CK_CLUSTER_WRITE. -/
def execCkClusterWrite (q : Requester) (n : Fin 4) (v : Word) (s : State) : Host.Outcome State Fault Refusal :=
  rowWrite q (0xE00100080 + 8 * n.val) v (fun s w => clusterWrite s w n.val) s

/-- CPLL_LOCK: a cluster that waits on FIRC returns to its PLL, which is a change of source. -/
def execCpllLock (n : Fin 4) (s : State) : Host.Outcome State Fault Refusal :=
  .next (
    if s.fb F.CK_CLUSTER_PLL_EN n.val && bitAt (s.fl F.KT_SUPPLY_PG 0) (4 + n.val) && s.clk.xrefGood then
      let s := if s.clk.relock.getLsbD n.val then switching s n.val else s
      onClk (s.setB F.CK_CLUSTER_LOCK n.val true) fun c => { c with relock := c.relock &&& ~~~(1#4 <<< n.val) }
    else s)

/-- CLUSTER_SOURCE_SWITCH_DONE. -/
def execClusterSourceSwitchDone (n : Fin 4) (s : State) : Host.Outcome State Fault Refusal :=
  .next (s.setB F.CK_CLUSTER_SWITCHING n.val false)

/-! ### Readiness (R57 to R59) -/

/-- The domain that unit `u` lies in; none for a unit on VDD_SOC outside the domains. -/
def unitDomain (u : Nat) : Option Nat := (List.range 46).find? fun d => (domUnits d).contains u

/-- The unit exists and its supply, domain and reset let it initialise itself. The QSPI controller lies on the always-on
rail (16 R349). -/
def unitUp (s : State) (u : Nat) : Bool :=
  caddyOut s &&
  (match unitDomain u with
  | some d => powered s d && s.dom d == 0 && (16 ≤ u || s.caddy.released.getLsbD (u / 4))
  | none => if u = 212 then powered s 45 else socUnits.contains u && powered s 20)

/-- A core that becomes ready makes its first fetch, or is held by a reset catch (R57; 23 R474). -/
def coreStarts (s : State) (c : Fin 16) : State :=
  let p := Proc.core c
  let k := s.cpu p
  if k.run ≠ .inReset then s
  else
    let k := { k with epochNo := BitVec.ofNat 64 (s.fl F.EP_EPOCH_VALUE 0) }
    if s.dbg.marked.getLsbD c.val then
      let s := onDbg (s.setBit F.DB_CATCH_HELD 0 c.val true) fun d => { d with marked := d.marked &&& ~~~(1#16 <<< c.val) }
      s.setCpu p { k with run := .held }
    else s.setCpu p { k with run := .running }

/-- READY_BIT_SET. A running firmware applies its policy to an interconnect that comes back (16 R350, R359; log 55). A DRAM channel's bit is set by its training, the Caddy's by its firmware. -/
def execReadyBitSet (u : Fin 256) (s : State) : Host.Outcome State Fault Refusal :=
  .next (
    let n := u.val
    if (29 ≤ n && n ≤ 32) || n = 43 || s.ready n || mget false s.pwr.timedOut n || !unitUp s n then s
    else
      let s := s.setReady n true
      if n = 34 ∧ s.caddy.phase = .running then (match s.caddy.policy with | some p => applyPolicy s p | none => s)
      else if n < 16 then icCommitAll (coreStarts s (Fin.ofNat 16 n)) else s)

/-- READINESS_TIMEOUT: the record names the unit by its number (log 74). A DRAM channel's is counted from the start of its
initialisation (R57), so there is none while it is not being initialised; the interconnect's from XREF good. -/
def execReadinessTimeout (u : Fin 256) (s : State) : Host.Outcome State Fault Refusal :=
  .next (
    let n := u.val
    let idle := (29 ≤ n && n ≤ 32 && !s.dram.inInit.getLsbD (n - 29)) || (n = 34 && !s.clk.xrefGood)
    if n = 43 || idle || s.ready n || mget false s.pwr.timedOut n || !unitUp s n then s
    else dregs { s with pwr := { s.pwr with timedOut := mset false s.pwr.timedOut n true } } 3 clsError 0x58 n)

/-- CADDY_READINESS_TIMEOUT (R59): not while the ROM waits for its flash. DESIGN CHOICE (log 108): nor while it waits for a
recovery image. -/
def execCaddyReadinessTimeout (s : State) : Host.Outcome State Fault Refusal :=
  .next (
    let starting := match s.caddy.phase with
      | .rom => flashReadable s
      | .verify => true
      | .readFw => true
      | .loader => true
      | _ => false
    if starting then caddyRestart (dregsFree s 3 clsFatal 0x58) 3 else s)

/-! ### Warm resets (R61 to R65) -/

/-- KT_RSTCTL: the key 0x5357 from ring 0 or the machine level. -/
def rstctlWrite (s : State) (w : Wr) : State :=
  if isRing0 s w.q && w.bits F.KT_RSTCTL_KEY == 0x5357 then warmStart s 2 0 else ignoreWarn s w

/-- KT_RSTCTL_SWR. -/
def execKtRstctlSwr (q : Requester) (v : Word) (s : State) : Host.Outcome State Fault Refusal :=
  .next (rstctlWrite s (.full q 0xE00000010 v))

/-- Every domain but the Kettle is held in reset by a warm reset of kind `kind` (R61, R66). The mirror ports, on the always-on
supply, carry the Kettle's heartbeats as long as that lasts (15 R332; log 121). -/
def warmHold (s : State) (kind : Nat) : State :=
  let s := traceFlush (if kind = 5 then s else endGrant s)
  let s := caddyToReset (mirrorStale (holdFab s))
  let s := mirrorLose (dramLose (keepMem (keepOnly s (keptIds kind ++ liveIds ++ portIds)) true))
  let s := s.setF F.KT_RSTCAUSE_LAST 0 kind
  let s := clearTrigger (clearTrigger s 9) 10
  let s := { s with cpus := [], caches := {}, icCommit := [], icPulse := [], pwr := { capMhz := s.pwr.capMhz }, links := mrange s.links 32 34, router := {}, inf := [], ports := [],
                    gates := [], disp := [], touch := [], cams := {}, usb := [], ep := {},
                    dbg := if kind = 5 then { s.dbg with ir := 0, status := 0, data := 0 } else {},
                    caddy := { ({} : Caddy) with phase := .inReset },
                    clk := { s.clk with spllSel := false, caddyPll := false, relock := 0, dramFirc := false, canFirc := false },
                    steep := {},
                    sup := { s.sup with rstoutN := false, failed := if kind = 2 then 0 else s.sup.failed,
                                        railsAsked := s.sup.railsAsked || (kind = 2 && s.sup.failed.getLsbD 0),
                                        programming := s.sup.programming.map fun p => (p.1, none) },
                    warm := { s.warm with hold := true } }
  let s := computeDomains.foldl (fun s d =>
    if railsUp s d then s else s.setF F.PW_DOM_STATE d 2) s
  steepCold s

/-- WARM_RESET_HOLD. -/
def execWarmResetHold (s : State) : Host.Outcome State Fault Refusal :=
  .next (if s.warm.active && !s.warm.hold then warmHold s s.warm.kind else s)

/-- WARM_RESET_CADDY_START: the hold ends and the Caddy leaves reset, unless a Steep table holds it; the mirror ports are
OFF from then on, their sessions and configuration lost (R66). -/
def execWarmResetCaddyStart (s : State) : Host.Outcome State Fault Refusal :=
  .next (if s.warm.active && s.warm.hold then caddyRelease { portsFull s with warm := {} } else s)

end Sys2Proof.Machine
end

