-- ==== Sys2Proof/Machine/InfCtl.lean ====
section
/-! DEFINITION. Control of the Infusers and the passing of their packets to the local router port (spec 20 R419, R421 to
R423, R427 to R430; 13 R276, R277, R295). -/

namespace Sys2Proof.Machine

/-- The packet that a 32-byte header image spells (R276). -/
def headerPacket (h : List Byte) (payload : List Byte) : Packet :=
  let n := bytesNat (h.take 32)
  let f := fun lo w => n / 2 ^ lo % 2 ^ w
  { cmd := BitVec.ofNat 4 (f 0 4), sub := BitVec.ofNat 4 (f 4 4), authpath := bitAt n 8, path := bitAt n 9, noack := bitAt n 10,
    reserved := f 11 5 != 0 || f 30 2 != 0 || f 125 3 != 0 || f 164 28 != 0,
    hops := BitVec.ofNat 8 (f 16 8), part := BitVec.ofNat 6 (f 24 6), dst := BitVec.ofNat 18 (f 32 18),
    src := BitVec.ofNat 18 (f 50 18), rbudget := BitVec.ofNat 28 (f 68 28), tag := BitVec.ofNat 16 (f 96 16),
    len := BitVec.ofNat 13 (f 112 13), addr := BitVec.ofNat 36 (f 128 36), deadline := BitVec.ofNat 64 (f 192 64),
    payload := payload, err := 0 }

/-- A DEADLINE or RBUDGET of 0 is replaced from the budget of partition `p` (R295). -/
def fillBudget (s : State) (p : Nat) (k : Packet) : Packet :=
  { k with deadline := if k.deadline = 0 then BitVec.ofNat 64 (fabNow s + s.fl F.NG_DLBUDGET_REQ p) else k.deadline,
           rbudget := if k.rbudget = 0 then BitVec.ofNat 28 (s.fl F.NG_DLBUDGET_RESP p) else k.rbudget }

/-- The packet of an Infuser from its header image and the bytes appended (R423). -/
def infPacket (s : State) (i : Fin 32) (header body : List Byte) : Packet :=
  let k := headerPacket header body
  let p := s.fl F.IF_CFG_PPART i.val
  fillBudget s p { k with part := BitVec.ofNat 6 p, reserved := false,
                          tag := BitVec.ofNat 16 (2 * 2 ^ 14 + i.val * 2 ^ 9 + k.tag.toNat % 512),
                          len := if k.cmd = 1 then k.len else BitVec.ofNat 13 body.length }

/-- The DEADLINE of a packet of Infuser `i` is raised so that it never falls below that of its last one to the node, as a
core's is: the packets of one node leave by deadline (R423 with 10 R228; log 91). -/
def infOrdered (s : State) (i : Fin 32) (k : Packet) : Packet × State :=
  let key := (16 + i.val) * 2 ^ 18 + k.dst.toNat
  let d := max k.deadline.toNat (mget 0 s.router.lastDl key)
  ({ k with deadline := BitVec.ofNat 64 d }, { s with router := { s.router with lastDl := mset 0 s.router.lastDl key d } })

/-- PACKET_BUILT: the packet that builder `b` holds enters the local router port, once those sent before it have; BUILT is
set. -/
def execPacketBuilt (i : Fin 32) (b : Fin 2) (s : State) : Host.Outcome State Fault Refusal :=
  .next (
    let x := infOf s i.val
    let y := if b = 0 then x.b0 else x.b1
    match y.held, x.order with
    | some k, first :: rest =>
      if first != (b == 1) then s
      else
        let y := { y with held := none }
        let x := { x with order := rest }
        let s := putInf s i.val (if b = 0 then { x with b0 := y } else { x with b1 := y })
        let (k, s) := infOrdered s i k
        infEvent (sendOwn s k) i 2
    | _, _ => s)

/-! ### Registers -/

/-- The Infuser is RUNNING or WAITING. -/
def infRuns (s : State) (i : Nat) : Bool := s.fl F.IF_STAT_STATE i == 1 || s.fl F.IF_STAT_STATE i == 2

/-- Records of R428 and R429. -/
def infRecord (s : State) (i code cls : Nat) : State := dregsFree s (0x300 + i) cls code

/-- Only the open packets are discarded; packets already accepted continue (R427). -/
def buildersEmpty (x : Infus) : Infus := { x with b0 := { held := x.b0.held }, b1 := { held := x.b1.held } }

/-- ENTRY and VEC lie in the countersigned range (R429). -/
def entryCountersigned (s : State) (i : Nat) : Bool :=
  match (infOf s i).range with
  | some (lo, hi) => [s.fl F.IF_ENTRY_ENTRY i, s.fl F.IF_ENTRY_VEC i].all fun a => lo ≤ a && a ≤ hi
  | none => false

/-- An accepted START. -/
def infStart (s : State) (i : Fin 32) (safety : Bool) : State :=
  let p := Proc.infuser i
  let k := s.cpu p
  let pc : Word := 0x1000000000 + BitVec.ofNat 64 (s.fl F.IF_ENTRY_ENTRY i.val)
  let s := s.setCpu p { k with run := .running, wait := .none, pc := pc, st := { k.st with exl := false } }
  let s := putInf s i.val (buildersEmpty (infOf s i.val))
  infRecord ((s.setF F.IF_STAT_STATE i.val 1).setB F.IF_STAT_SAFETY i.val safety) i.val 0x801 clsInfo

/-- An accepted STOP: an EVT.WAIT is abandoned, open builders are discarded. No further instruction executes; STATE becomes
STOPPED once the store buffer has drained (R427). -/
def infStopNow (s : State) (i : Fin 32) (machine : Bool) : State :=
  let k := s.cpu (.infuser i)
  let s := if k.sb.isEmpty then infuserStop s i 0
    else putInf (s.setCpu (.infuser i) { k with run := .stopped, wait := .none }) i.val { infOf s i.val with stopping := true }
  let s := putInf s i.val (buildersEmpty (infOf s i.val))
  if machine then infRecord s i.val 0x802 clsInfo else s

/-- IF_CTLi (R427, R429). -/
def ifctlWrite (s : State) (w : Wr) (i : Fin 32) : State :=
  atRing0 s w fun s =>
    let start := w.on F.IF_CTL_START
    let stop := w.on F.IF_CTL_STOP
    if start && stop then ignoreWarn s w
    else if start then
      if infRuns s i.val || !s.ready (64 + i.val) || s.fb F.IF_STAT_CSIGN i.val then ignoreWarn s w
      else if w.on F.IF_CTL_CLASS then
        (if isMachine s w.q && s.fb F.IF_STAT_HASHV i.val && entryCountersigned s i.val then infStart s i true
         else infRecord s i.val 0x803 clsWarn)
      else infStart s i false
    else if stop then
      if !infRuns s i.val || (s.fb F.IF_STAT_SAFETY i.val && !isMachine s w.q) then ignoreWarn s w
      else infStopNow s i (isMachine s w.q)
    else s

/-- IF_CTL_START. -/
def execIfCtlStart (q : Requester) (i : Fin 32) (v : Word) (s : State) : Host.Outcome State Fault Refusal :=
  rowWrite q (0xE02010000 + 0x1000 * i.val) v (fun s w => ifctlWrite s w i) s

/-- IF_CTL_STOP. -/
def execIfCtlStop (q : Requester) (i : Fin 32) (v : Word) (s : State) : Host.Outcome State Fault Refusal :=
  rowWrite q (0xE02010000 + 0x1000 * i.val) v (fun s w => ifctlWrite s w i) s

/-- IF_ENTRYi: while the Infuser is STOPPED or in FAULT; bits [1:0] of both offsets are zero. -/
def entryWrite (s : State) (w : Wr) (i : Nat) : State :=
  if infRuns s i then ignoreWarn s w
  else
    let s := putFields s w [F.IF_ENTRY_ENTRY, F.IF_ENTRY_VEC] i i
    [F.IF_ENTRY_ENTRY, F.IF_ENTRY_VEC].foldl (fun s f => s.setF f i (s.fl f i / 4 * 4)) s

/-- IF_CFGi. -/
def ifcfgWrite (s : State) (w : Wr) (i : Nat) : State := atMachine s w fun s => putField s w F.IF_CFG_PPART i i

/-- IF_PGRPg (R419). -/
def pgrpWrite (s : State) (w : Wr) (g : Nat) : State :=
  atRing0 s w fun s =>
    let owner := w.new F.IF_PGRP_OWNER s g
    let changes := owner != s.fl F.IF_PGRP_OWNER g || w.new F.IF_PGRP_VALID s g != s.fl F.IF_PGRP_VALID g
    if changes && ((s.fb F.IF_PGRP_VALID g && infRuns s (s.fl F.IF_PGRP_OWNER g)) || infRuns s owner) then ignoreWarn s w
    else putFields s w [F.IF_PGRP_OWNER, F.IF_PGRP_VALID, F.IF_PGRP_EVT] g g

/-- IF_PGRP_WRITE. -/
def execIfPgrpWrite (q : Requester) (g : Fin 56) (v : Word) (s : State) : Host.Outcome State Fault Refusal :=
  rowWrite q (0xE02000000 + 8 * g.val) v (fun s w => pgrpWrite s w g.val) s

/-- IF_DOORBELLi. -/
def doorbellWrite (s : State) (w : Wr) (i : Fin 32) : State := if w.on F.IF_DOORBELL_RING then infEvent s i 12 else s

/-- IF_DOORBELL. -/
def execIfDoorbell (q : Requester) (i : Fin 32) (v : Word) (s : State) : Host.Outcome State Fault Refusal :=
  rowWrite q (0xE02010020 + 0x1000 * i.val) v (fun s w => doorbellWrite s w i) s

/-- A write of 4 or 8 bytes of the input shadow by Infuser `i` itself (R425): `w` is the word, `v` its new value. -/
def imageInWrite (s : State) (i w v : Nat) : State :=
  let e := i * 128 + w
  let s := putInf s i { infOf s i with wrote := true }
  if s.epochOn then s.setSh F.IF_IMGIN_DATA e v else (s.setF F.IF_IMGIN_DATA e v).dropSh F.IF_IMGIN_DATA e

end Sys2Proof.Machine
end

