-- ==== Sys2Proof/Machine/Compose.lean ====
section
/-! DEFINITION. What a display output shows in a frame (spec 21 R436 to R438, R441): the fetch of the layers' lines, the
composed pixels, their CRC, and the curves of the sunlight engine. What the spec leaves open is a constant of Config
(log 106). -/

namespace Sys2Proof.Machine

def dispOf (s : State) (o : Nat) : Disp := mget {} s.disp o
def putDisp (s : State) (o : Nat) (x : Disp) : State := { s with disp := mset {} s.disp o x }

/-! ### Layers -/

/-- The layer is shown: LEN = 1 and a format that exists. -/
def layerShown (s : State) (o l : Nat) : Bool := s.fb F.DP_LCTL_LEN (8 * o + l) && s.fl F.DP_LCTL_FMT (8 * o + l) < 4

/-- Size of a layer's source, and its place and size at the output. -/
structure LayerBox where
  srcW : Nat
  srcH : Nat
  x : Nat
  y : Nat
  w : Nat
  h : Nat

def layerBox (s : State) (o l : Nat) : LayerBox :=
  let src := s.fl F.DP_LGEOM_SRC (8 * o + l)
  let dst := s.fl F.DP_LGEOM_DST (8 * o + l)
  ⟨src % 256 * 16, src / 256 * 16, slice dst 11 0, slice dst 23 12, slice dst 35 24, slice dst 47 36⟩

/-- A layer of 2 to 7 whose source size differs from its destination size is invisible (R436). -/
def layerBad (s : State) (o l : Nat) : Bool :=
  let b := layerBox s o l
  2 ≤ l && layerShown s o l && (b.srcW != b.w || b.srcH != b.h)

/-- The layer takes part in the frame. -/
def layerActive (s : State) (o l : Nat) : Bool := layerShown s o l && !layerBad s o l

/-- Bytes of a pixel of format `fmt`. -/
def pixelBytes (fmt : Nat) : Nat := if fmt < 2 then 4 else 2

/-- The layer is shown as it is, and not scaled. -/
def unscaled (b : LayerBox) : Bool := b.srcW == b.w && b.srcH == b.h

/-- The source lines, an upper and a lower, from which line `y` of the layer's destination is made. -/
def linesOf (b : LayerBox) (y : Nat) : Nat × Nat :=
  if unscaled b then (y, y)
  else
    let p := Config.samplePoint b.srcH b.h y % (256 * b.srcH) / 256
    (p, min (p + 1) (b.srcH - 1))

/-- The frame needs source line `r` of the layer: a line of its destination within the active lines is made from it, and the
layer lies within the active pixels. -/
def lineNeeded (s : State) (o l r : Nat) : Bool :=
  let b := layerBox s o l
  let d := dispOf s o
  layerActive s o l && decide (r < b.srcH) && decide (b.x < d.hact)
    && (List.range (min b.h (d.vact - b.y))).any fun y => r == (linesOf b y).1 || r == (linesOf b y).2

/-! ### Fetching (R437) -/

/-- A layer line of output `o` was not there when it was due. -/
def lineMissed (s : State) (o : Nat) : State := raiseSource (s.bumpF F.DP_OSTAT_UNDERRUN o) (290 + 4 * o)

/-- The fetch of one layer line, as class 5 from DRAM or scratch SRAM: its bytes, where they are there when it is due. A
line whose memory is not on, or which lies in neither, is not there; one that came late has been counted. What a Strainer
refuses, or the memory cannot correct, reads as zeros (16 R358; 19 R406). -/
def fetchLayerLine (s : State) (o l r : Nat) : Option (List Byte) × State :=
  let k := 8 * o + l
  let off := s.fl F.DP_LADDR_ADDR k + r * s.fl F.DP_LADDR_STRIDE k
  let n := (layerBox s o l).srcW * pixelBytes (s.fl F.DP_LCTL_FMT k)
  let late := (dispOf s o).late.contains (l, r)
  let missed := fun (s : State) => (none, if late then s else lineMissed s o)
  if !lineNeeded s o l r then (none, s)
  else if !inRam s off n then missed s
  else if mustWait s off n then missed (askWake s off n)
  else
    let (bs, s) := dmaRead s 5 none off n
    (if late then none else some bs, s)

/-- The lines of a layer, by source line. -/
def fetchLayer (s : State) (o l : Nat) : List (Option (List Byte)) × State :=
  (List.range (layerBox s o l).srcH).foldl (fun a r => let (b, s) := fetchLayerLine a.2 o l r; (a.1 ++ [b], s)) ([], s)

/-- The layers' lines of the frame just sent (log 102). A blanked output fetches nothing. -/
def frameFetched (s : State) (o : Nat) : List (List (Option (List Byte))) × State :=
  if (dispOf s o).blanked then ([], s)
  else (List.range 8).foldl (fun a l =>
    let (ls, s) := if layerActive a.2 o l then fetchLayer a.2 o l else ([], a.2)
    (a.1 ++ [ls], s)) ([], s)

/-! ### Composing (R436) -/

/-- A colour of 10 bits a component. -/
structure Rgb where
  r : Nat
  g : Nat
  b : Nat
  deriving DecidableEq, Repr

/-- A colour as 30-bit RGB, red highest. -/
def rgbOf (n : Nat) : Rgb := ⟨n / 2 ^ 20 % 2 ^ 10, n / 2 ^ 10 % 2 ^ 10, n % 2 ^ 10⟩
def rgbWord (c : Rgb) : Nat := c.r % 2 ^ 10 * 2 ^ 20 + c.g % 2 ^ 10 * 2 ^ 10 + c.b % 2 ^ 10

/-- A pixel of a layer: its colour, and its own alpha in units of 1/255. -/
structure Texel where
  colour : Rgb
  alpha : Nat
  deriving DecidableEq, Repr

/-- A component of fewer than 10 bits, widened to 10. -/
def widened (bits v : Nat) : Nat := Config.widen bits v % 2 ^ 10

/-- Pixel `x` of a source line. -/
def texel (fmt : Nat) (line : List Byte) (x : Nat) : Texel :=
  let at_ := fun (o n : Nat) => bytesNat ((line.drop o).take n)
  match fmt with
  | 0 =>
    let v := at_ (4 * x) 4
    ⟨⟨widened 8 (v / 2 ^ 16 % 2 ^ 8), widened 8 (v / 2 ^ 8 % 2 ^ 8), widened 8 (v % 2 ^ 8)⟩, v / 2 ^ 24⟩
  | 1 => ⟨rgbOf (at_ (4 * x) 4), 255⟩
  | 2 =>
    let v := at_ (2 * x) 2
    ⟨⟨widened 5 (v / 2 ^ 11), widened 6 (v / 2 ^ 5 % 2 ^ 6), widened 5 (v % 2 ^ 5)⟩, 255⟩
  | _ =>
    let pair := 4 * (x / 2)
    ⟨rgbOf (Config.bt709 (at_ (pair + 2 * (x % 2)) 1) (at_ (pair + 1) 1) (at_ (pair + 3) 1)), 255⟩

/-- A quotient whose rounding the spec leaves open where it is not whole. -/
def openDiv (n d : Nat) : Nat := n / d + if n % d ≠ 0 ∧ Config.roundsUp n d = true then 1 else 0

/-- Pixel `x` of source line `r` of a layer; LFILL where the line was not there (R437). -/
def lineTexel (s : State) (o l : Nat) (lines : List (Option (List Byte))) (r x : Nat) : Texel :=
  match lines.getD r none with
  | some bs => texel (s.fl F.DP_LCTL_FMT (8 * o + l)) bs x
  | none => ⟨rgbOf (s.fl F.DP_LCTL_LFILL (8 * o + l)), 255⟩

/-- Bilinear between two values, and between four pixels, at fractions of 1/256. -/
def lerp (f a b : Nat) : Nat := openDiv (a * (256 - f) + b * f) 256
def lerpTexel (f : Nat) (a b : Texel) : Texel :=
  ⟨⟨lerp f a.colour.r b.colour.r, lerp f a.colour.g b.colour.g, lerp f a.colour.b b.colour.b⟩, lerp f a.alpha b.alpha⟩

/-- The pixel of a layer at `x`, `y` from its corner at the output: as it is, or scaled bilinearly. Where the scaled pixel
falls in the source is open. -/
def layerTexel (s : State) (o l : Nat) (lines : List (Option (List Byte))) (x y : Nat) : Texel :=
  let b := layerBox s o l
  let (top, low) := linesOf b y
  if unscaled b then lineTexel s o l lines top x
  else
    let px := Config.samplePoint b.srcW b.w x % (256 * b.srcW)
    let py := Config.samplePoint b.srcH b.h y % (256 * b.srcH)
    let at_ := fun (i r : Nat) => lineTexel s o l lines r (min (px / 256 + i) (b.srcW - 1))
    lerpTexel (py % 256) (lerpTexel (px % 256) (at_ 0 top) (at_ 1 top)) (lerpTexel (px % 256) (at_ 0 low) (at_ 1 low))

/-- α × layer + (1 − α) × below, α in units of 1/255². -/
def blend (a layer below : Nat) : Nat := openDiv (a * layer + (65025 - a) * below) 65025

/-- Layer `l` over what lies below it at a pixel of the output. -/
def overLayer (s : State) (o x y : Nat) (lines : List (Option (List Byte))) (l : Nat) (below : Rgb) : Rgb :=
  let b := layerBox s o l
  if layerActive s o l && decide (b.x ≤ x) && decide (x < b.x + b.w) && decide (b.y ≤ y) && decide (y < b.y + b.h) then
    let t := layerTexel s o l lines (x - b.x) (y - b.y)
    let a := t.alpha * s.fl F.DP_LCTL_LALPHA (8 * o + l)
    ⟨blend a t.colour.r below.r, blend a t.colour.g below.g, blend a t.colour.b below.b⟩
  else below

/-- The composed pixel: the layers in ascending number over BG. -/
def composed (s : State) (o : Nat) (frame : List (List (Option (List Byte)))) (x y : Nat) : Rgb :=
  (List.range 8).foldl (fun c l => overLayer s o x y (frame.getD l []) l c) (rgbOf (s.fl F.DP_OCFG_BG o))

/-- The active pixels of the frame in raster order. -/
def framePixels (s : State) (o : Nat) (frame : List (List (Option (List Byte)))) : List Rgb :=
  let d := dispOf s o
  (List.range d.vact).flatMap fun y => (List.range d.hact).map fun x => composed s o frame x y

/-! ### CRC (R438) -/

/-- One bit into the CRC-32 of IEEE 802.3. -/
def crc32Bit (c : Nat) (bit : Bool) : Nat := if bitAt c 0 != bit then c / 2 ^^^ 0xEDB88320 else c / 2

/-- One pixel, its 30 bits from bit 0 up. -/
def crc32Pixel (c : Nat) (p : Rgb) : Nat := (List.range 30).foldl (fun c i => crc32Bit c (bitAt (rgbWord p) i)) c

/-- The CRC of a frame. -/
def frameCrc (ps : List Rgb) : Nat := ps.foldl crc32Pixel 0xFFFFFFFF ^^^ 0xFFFFFFFF

/-! ### The sunlight engine (R441) -/

/-- The strength s, in 1/256. LUXHI = LUXLO leaves the quotient open: a free value (log 8). -/
def sunStrength (s : State) (o : Nat) : Nat × State :=
  let lo : Int := s.fl F.DP_SUN_LUXLO o
  let hi : Int := s.fl F.DP_SUN_LUXHI o
  if lo = hi then let (k, s) := s.takeFree; (Config.freeNat k % 257, s)
  else ((max 0 (min 256 (256 * ((s.fl F.DP_AMB_LUX o : Nat) - lo) / (hi - lo)))).toNat, s)

/-- The tile, of 16 × 9, of the frame's pixel number `i`. -/
def tileOf (d : Disp) (i : Nat) : Nat := i / d.hact * 9 / d.vact * 16 + i % d.hact * 16 / d.hact

/-- The luminance histogram of a tile, in 64 bins. -/
def tileHistogram (d : Disp) (ps : List Rgb) (t : Nat) : List Nat :=
  (List.range 64).map fun b =>
    (ps.zipIdx.filter fun e => tileOf d e.2 == t && Config.luminance (rgbWord e.1) % 64 == b).length

/-- Every entry steps toward its new value by 1/16 of full scale, 2^16, at most; an entry not held is the identity's. -/
def stepToward (old new : List Nat) : List Nat :=
  new.zipIdx.map fun e =>
    let was := old.getD e.2 (e.2 * 2 ^ 16 / new.length)
    max (was - 4096) (min (was + 4096) e.1)

/-- The curves of the 144 tiles for the next frame; none held are the identity. -/
def sunCurves (s : State) (o : Nat) (ps : List Rgb) : List (List Nat) × State :=
  if !s.fb F.DP_SUN_SUNEN o then ([], s)
  else
    let d := dispOf s o
    let (k, s) := sunStrength s o
    ((List.range 144).map fun t => stepToward (d.curves.getD t [])
      (Config.shadowLift (tileHistogram d ps t) (256 + s.fl F.DP_SUN_GAINMAX o * k)), s)

/-- Among `n` tiles along an axis of `size` pixels, the two whose centres are nearest to pixel `x`, and the weights of both
in units of 1/(2 size); beyond the outermost centres the outermost tile alone counts. Pixels lie at their centres. -/
def tileMix (n size x : Nat) : (Nat × Nat) × (Nat × Nat) :=
  let u := (2 * x + 1) * n - size
  let i := min (n - 1) (u / (2 * size))
  let f := if (2 * x + 1) * n < size then 0 else u % (2 * size)
  ((i, 2 * size - f), (min (n - 1) (i + 1), f))

/-- A component through the curve of a tile: where none is held, the identity. -/
def throughCurve (d : Disp) (t v : Nat) : Nat :=
  match d.curves.getD t [] with
  | [] => v
  | c => Config.curveValue c v % 2 ^ 10

/-- A component of pixel `x`, `y` through the curves of its four nearest tile centres, interpolated bilinearly (R441). -/
def sunComponent (d : Disp) (x y v : Nat) : Nat :=
  let (a, b) := tileMix 16 d.hact x
  let (p, q) := tileMix 9 d.vact y
  let at_ := fun (i j : Nat × Nat) => i.2 * j.2 * throughCurve d (16 * j.1 + i.1) v
  openDiv (at_ a p + at_ b p + at_ a q + at_ b q) (4 * d.hact * d.vact)

/-- The frame as it goes out, its pixels mapped by the sunlight engine. -/
def sunFrame (d : Disp) (ps : List Rgb) : List Nat :=
  ps.zipIdx.map fun e =>
    let f := sunComponent d (e.2 % d.hact) (e.2 / d.hact)
    rgbWord ⟨f e.1.r, f e.1.g, f e.1.b⟩

/-- The backlight level. A LUXHI of 0 leaves the quotient open: a free value (log 8). -/
def backlight (s : State) (o : Nat) : Nat × State :=
  let lo : Int := s.fl F.DP_SUN_BLMIN o
  let hi : Int := s.fl F.DP_SUN_BLMAX o
  let top := s.fl F.DP_SUN_LUXHI o
  if !s.fb F.DP_SUN_SUNEN o then (hi.toNat, s)
  else if top = 0 then
    let (k, s) := s.takeFree
    (Config.freeNat k % 4096, s)
  else
    let m : Int := (min (s.fl F.DP_AMB_LUX o) top : Nat)
    ((lo + (hi - lo) * m / (top : Int)).toNat, s)

end Sys2Proof.Machine
end

