-- ==== Sys2Proof/Machine/Operator.lean ====
section
/-! DEFINITION. The display outputs, and the touch front ends (spec 21). -/

namespace Sys2Proof.Machine

/-! ### Displays (R434 to R441) -/

/-- STATE of output `o`: 0 OFF, 1 TRAINING, 2 RUNNING, 3 FAIL. -/
def outState (s : State) (o : Nat) : Nat := s.fl F.DP_OSTAT_STATE o

/-- DP_OCFGo: a rise of EN starts the output with the timing that DP_OTIMo then holds, an LVDS output at once; a fall stops
it (R434). -/
def ocfgWrite (s : State) (w : Wr) (o : Nat) : State :=
  atRing0 s w fun s =>
    let was := s.fb F.DP_OCFG_EN o
    let s := putFields s w [F.DP_OCFG_MODE, F.DP_OCFG_BPC, F.DP_OCFG_LINE, F.DP_OCFG_BG] o o
    let s := putField s w F.DP_OCFG_EN o o
    let on := s.fb F.DP_OCFG_EN o
    if on && !was then
      putDisp ((s.setF F.DP_CRC_FRAME o 0).setF F.DP_OSTAT_STATE o (if o < 4 then 1 else 2)) o
        { dispOf s o with blanked := false, late := [], hact := s.fl F.DP_OTIM_HACT o, vact := s.fl F.DP_OTIM_VACT o }
    else if !on && was then
      putDisp (s.setF F.DP_OSTAT_STATE o 0) o { dispOf s o with blanked := false, late := [], sent := [] }
    else s

/-- DP_OCFG_ENABLE. -/
def execDpOcfgEnable (q : Requester) (o : Fin 6) (v : Word) (s : State) : Host.Outcome State Fault Refusal :=
  rowWrite q (0xE03000000 + 0x1000 * o.val) v (fun s w => ocfgWrite s w o.val) s

/-- The EDID and DPCD bytes, as DP_EDIDo holds them. -/
def putEdid (s : State) (o : Nat) (bs : List Byte) : State :=
  (List.range 64).foldl (fun s k => s.setF F.DP_EDID_DATA (64 * o + k) (bytesNat ((bs.drop (8 * k)).take 8))) s

/-- DISPLAY_LINK_TRAINING_DONE (R434). -/
def execDisplayLinkTrainingDone (o : Fin 6) (ok : Bool) (edid : List Byte) (s : State) :
    Host.Outcome State Fault Refusal :=
  .next (
    if outState s o.val = 1 then
      let s := (putEdid s o.val edid).setF F.DP_OSTAT_STATE o.val (if ok then 2 else 3)
      let s := if ok then s else dregsFree s (0x340 + o.val) clsWarn 0x900
      raiseSource s (291 + 4 * o.val)
    else s)

/-- HPD_CHANGE (R434): when HPD returns after a loss, the link of an output that is started is trained again. -/
def execHpdChange (o : Fin 6) (level : Bool) (s : State) : Host.Outcome State Fault Refusal :=
  .next (
    if s.fb F.DP_OSTAT_HPD o.val = level then s
    else
      let s := raiseSource (s.setB F.DP_OSTAT_HPD o.val level) (291 + 4 * o.val)
      if level && (dispOf s o.val).blanked && s.fb F.DP_OCFG_EN o.val && outState s o.val != 0 then
        (putDisp s o.val { dispOf s o.val with blanked := false, late := [] }).setF F.DP_OSTAT_STATE o.val 1
      else s)

/-- HPD_LOSS (R434): HPD has been low for 2 ms; a running output is blanked. -/
def execHpdLoss (o : Fin 6) (s : State) : Host.Outcome State Fault Refusal :=
  .next (
    if o.val < 4 && !s.fb F.DP_OSTAT_HPD o.val && outState s o.val != 0 then
      putDisp s o.val { dispOf s o.val with blanked := true }
    else s)

/-- The fields that pour at the frame boundary of an output, and of each of its layers. -/
def frameFields : List Fld :=
  [F.DP_OCFG_LINE, F.DP_OCFG_BG, F.DP_SUN_SUNEN, F.DP_SUN_GAINMAX, F.DP_SUN_BLMIN, F.DP_SUN_BLMAX, F.DP_SUN_LUXLO,
   F.DP_SUN_LUXHI]
def layerFields : List Fld :=
  [F.DP_LADDR_ADDR, F.DP_LADDR_STRIDE, F.DP_LGEOM_SRC, F.DP_LGEOM_DST, F.DP_LCTL_LEN, F.DP_LCTL_FMT, F.DP_LCTL_LALPHA,
   F.DP_LCTL_LFILL]

/-- The frame pour of output `o` (R439). -/
def displayPour (s : State) (o : Nat) : State :=
  let s := frameFields.foldl (fun s f => s.pourF f o) s
  (List.range 8).foldl (fun s l => layerFields.foldl (fun s f => s.pourF f (8 * o + l)) s) s

/-- The output shows frames: it stops while its PLL's fault persists (02 R50). -/
def shows (s : State) (o : Nat) : Bool := outState s o == 2 && !clockFails s (12 + o)

/-- The CRC of the frame just sent; that of a blanked output is open (log 8). -/
def sentCrc (s : State) (o : Nat) (ps : List Rgb) : Nat × State :=
  if (dispOf s o).blanked then let (k, s) := s.takeFree; (Config.freeNat k % 2 ^ 32, s) else (frameCrc ps, s)

/-- DISPLAY_FRAME_BOUNDARY (R437 to R441): the frame just sent is composed and its CRC latches; it has gone out through the
curves of the sunlight engine; the settings pour; BADCFG says whether those now active hide a layer (log 22); the engine
sets the next frame's curves and backlight, and on eDP writes the backlight to the panel. -/
def execDisplayFrameBoundary (o : Fin 6) (s : State) : Host.Outcome State Fault Refusal :=
  .next (
    if shows s o.val then
      let (frame, s) := frameFetched s o.val
      let ps := framePixels s o.val frame
      let (crc, s) := sentCrc s o.val ps
      let s := (s.setF F.DP_CRC_CRC o.val crc).setF F.DP_CRC_FRAME o.val (s.fl F.DP_CRC_FRAME o.val + 1)
      let s := displayPour s o.val
      let s := s.setB F.DP_OSTAT_BADCFG o.val ((List.range 8).any fun l => layerBad s o.val l)
      let (curves, s) := sunCurves s o.val ps
      let (bl, s) := backlight s o.val
      let s := s.setF F.DP_OSTAT_BL o.val bl
      let d := dispOf s o.val
      let edp := o.val < 4 && s.fb F.DP_OCFG_MODE o.val
      let s := putDisp s o.val { d with ambAge := d.ambAge + 1, curves := curves, late := [],
                                        sent := if d.blanked then [] else sunFrame d ps,
                                        panel := if edp then some bl else d.panel }
      let tmo := s.fl F.DP_AMB_AMBTMO o.val
      let s := if tmo ≠ 0 ∧ tmo ≤ d.ambAge + 1 then s.setB F.DP_OSTAT_AMBSTALE o.val true else s
      raiseSource s (288 + 4 * o.val)
    else s)

/-- DISPLAY_LINE (R439). -/
def execDisplayLine (o : Fin 6) (s : State) : Host.Outcome State Fault Refusal :=
  .next (if shows s o.val then raiseSource s (289 + 4 * o.val) else s)

/-- LAYER_UNDERRUN (R437): source line `r` of layer `l` arrives late; the frame shows LFILL in its place. -/
def execLayerUnderrun (o : Fin 6) (l : Fin 8) (r : BitVec 12) (s : State) : Host.Outcome State Fault Refusal :=
  .next (
    let d := dispOf s o.val
    if shows s o.val && lineNeeded s o.val l.val r.toNat && !d.late.contains (l.val, r.toNat) then
      lineMissed (putDisp s o.val { d with late := d.late ++ [(l.val, r.toNat)] }) o.val
    else s)

/-- A fresh ambient reading clears AMBSTALE (R440). -/
def ambFresh (s : State) (w : Wr) (o : Nat) : State :=
  let s := putField s w F.DP_AMB_LUX o o
  if w.touches F.DP_AMB_LUX then (putDisp s o { dispOf s o with ambAge := 0 }).setB F.DP_OSTAT_AMBSTALE o false else s

/-- DP_AMBo (R440): written by a core at ring 0 or the machine level. An Infuser writes LUX alone: a change of AMBTMO, which
is configuration, is ignored with a Warn record. -/
def ambWrite (s : State) (w : Wr) (o : Nat) : State :=
  if isRing0 s w.q then ambFresh (putField s w F.DP_AMB_AMBTMO o o) w o
  else
    match w.q with
    | .infuser _ =>
      let s := ambFresh s w o
      if w.touches F.DP_AMB_AMBTMO && w.new F.DP_AMB_AMBTMO s o != s.fl F.DP_AMB_AMBTMO o then ignoreWarn s w else s
    | _ => ignoreWarn s w

/-- DP_AMB_WRITE. -/
def execDpAmbWrite (q : Requester) (o : Fin 6) (v : Word) (s : State) : Host.Outcome State Fault Refusal :=
  rowWrite q (0xE03000020 + 0x1000 * o.val) v (fun s w => ambWrite s w o.val) s

/-! ### Touch (R442 to R446) -/

def touchOf (s : State) (t : Nat) : Touch := mget {} s.touch t
def putTouch (s : State) (t : Nat) (x : Touch) : State := { s with touch := mset {} s.touch t x }

/-- The fields that pour at the start of a scan. -/
def scanFields : List Fld :=
  [F.TC_CFG_RATE, F.TC_CFG_CYC, F.TC_CFG_SELF, F.TC_CFG_GLOVE, F.TC_CFG_WATER, F.TC_CFG_HOP, F.TC_CFG_THR,
   F.TC_CFG_SELFTHR, F.TC_CFG_NOISETHR]
def hopFields : List Fld :=
  [F.TC_HOP_F0, F.TC_HOP_F1, F.TC_HOP_F2, F.TC_HOP_F3, F.TC_HOP_F4, F.TC_HOP_F5, F.TC_HOP_F6, F.TC_HOP_F7]

/-- A scan frame starts: its fields pour; GLOVE without CYC of 16 or more sets CFGERR (R442, R443). -/
def scanStart (s : State) (t : Nat) : State :=
  let s := (scanFields ++ hopFields).foldl (fun s f => s.pourF f t) s
  let bad := s.fb F.TC_CFG_GLOVE t && s.fl F.TC_CFG_CYC t < 16
  let s := if bad && !s.fb F.TC_STAT_CFGERR t then raiseSource (s.setB F.TC_STAT_CFGERR t true) (315 + 4 * t) else s
  let x := touchOf s t
  let s := s.setF F.TC_STAT_FIDX t (if s.fb F.TC_CFG_HOP t then x.next else 0)
  putTouch s t { x with scanning := true }

/-- TC_CFGt: a rise of EN starts the first scan at once. -/
def tcfgWrite (s : State) (w : Wr) (t : Nat) : State :=
  atRing0 s w fun s =>
    let was := s.fb F.TC_CFG_EN t
    let s := putFields s w scanFields t t
    let s := putField s w F.TC_CFG_EN t t
    let on := s.fb F.TC_CFG_EN t
    if on && !was then scanStart (putTouch (s.setF F.TC_STAT_SEQ t 0) t {}) t
    else if !on && was then putTouch s t {}
    else s

/-- TC_CFG_ENABLE. -/
def execTcCfgEnable (q : Requester) (t : Fin 2) (v : Word) (s : State) : Host.Outcome State Fault Refusal :=
  rowWrite q (0xE03100000 + 0x1000 * t.val) v (fun s w => tcfgWrite s w t.val) s

/-- TOUCH_SCAN_START. -/
def execTouchScanStart (t : Fin 2) (s : State) : Host.Outcome State Fault Refusal :=
  .next (if s.fb F.TC_CFG_EN t.val && !(touchOf s t.val).scanning then scanStart s t.val else s)

/-- Drive frequency in kHz of the candidate in use. -/
def scanKhz (s : State) (t : Nat) : Nat :=
  let k := s.fl F.TC_STAT_FIDX t
  100 + 2 * min 200 (s.fl (hopFields.getD k F.TC_HOP_F0) t)

/-- The frame period in µs (R442), to the nearest: the longer of 1/RATE and the scan. -/
def scanPeriod (s : State) (t : Nat) : Nat :=
  let rate := min 240 (max 1 (s.fl F.TC_CFG_RATE t))
  let cyc := max 1 (s.fl F.TC_CFG_CYC t)
  let f := scanKhz s t
  let scan := ((48 + 2 * s.fl F.TC_CFG_SELF t) * cyc * 1000 + 256 * s.fl F.TC_CFG_HOP t * f + f / 2) / f
  min 0x3FFF (max ((1000000 + rate / 2) / rate) scan)

/-- Place of the least member of a list of numbers. -/
def quietest : List Nat → Nat
  | [] => 0
  | [_] => 0
  | x :: y :: rest =>
    let k := quietest (y :: rest)
    if x ≤ (y :: rest).getD k 0 then 0 else k + 1

/-- GLOVE is in force: it needs a CYC of 16 or more (R443). -/
def gloveOn (s : State) (t : Nat) : Bool := s.fb F.TC_CFG_GLOVE t && 16 ≤ s.fl F.TC_CFG_CYC t

/-- WATER is in force: it needs SELF (R444). -/
def waterOn (s : State) (t : Nat) : Bool := s.fb F.TC_CFG_WATER t && s.fb F.TC_CFG_SELF t

/-- The mutual scan finds something: its signal reaches THR, or with GLOVE, at four times the gain, THR/4 (R443). That it
need not exceed the threshold is the model's (log 123). -/
def isFound (s : State) (t : Nat) (c : Contact) : Bool :=
  let thr := s.fl F.TC_CFG_THR t
  if gloveOn s t then thr ≤ 4 * (4 * c.signal.toNat) else thr ≤ c.signal.toNat

/-- What is found is a film of water: with WATER in force the self scan does not exceed SELFTHR on both a drive line and a
sense line under it (R444). -/
def isFilm (s : State) (t : Nat) (c : Contact) : Bool :=
  let thr := s.fl F.TC_CFG_SELFTHR t
  waterOn s t && !(thr < c.selfDrive.toNat && thr < c.selfSense.toNat)

/-- A contact as it is reported, before it has an ID: SIGNAL counts at the gain in force; GLOVED where THR is not reached
at plain gain. -/
def touched (s : State) (t : Nat) (c : Contact) : Touched :=
  { mark := c.mark, id := 0, x := c.x.val, y := c.y.val, size := c.size.toNat,
    signal := if gloveOn s t then min 4095 (4 * c.signal.toNat) else c.signal.toNat,
    gloved := gloveOn s t && c.signal.toNat < s.fl F.TC_CFG_THR t }

/-- TOUCH_SCAN_END (R442 to R445): touches, water and noise are judged. -/
def execTouchScanEnd (t : Fin 2) (contacts : List Contact) (noises : List Nat) (s : State) :
    Host.Outcome State Fault Refusal :=
  .next (
    let x := touchOf s t.val
    if !x.scanning then s
    else
      let s := s.setF F.TC_STAT_PERIOD t.val (scanPeriod s t.val)
      let found := contacts.filter (isFound s t.val)
      let films := found.filter (isFilm s t.val)
      let big := films.any fun c => 100 ≤ c.size.toNat
      let s := if big && !x.wetRaised then raiseSource s (314 + 4 * t.val) else s
      let x := { x with scanning := false, wet := !films.isEmpty, wetRaised := !films.isEmpty && (x.wetRaised || big),
                        found := some ((found.filter fun c => !isFilm s t.val c).map (touched s t.val)) }
      if s.fb F.TC_CFG_HOP t.val then
        let loud := decide (s.fl F.TC_CFG_NOISETHR t.val < noises.getD (s.fl F.TC_STAT_FIDX t.val) 0)
        if loud && decide (1 ≤ x.noisy) then
          raiseSource (putTouch s t.val { x with noisy := 0, next := quietest (noises.take 8) }) (313 + 4 * t.val)
        else putTouch s t.val { x with noisy := if loud then 1 else 0 }
      else putTouch s t.val { x with noisy := 0 })

/-- The least ID that no contact of `used` has (log 123). -/
def freeId (used : List Touched) : Nat := ((List.range 16).find? fun n => !used.any fun c => c.id == n).getD 0

/-- A contact that has been reported: it goes on, or it has lifted, at its last position. -/
def goesOn (found : List Touched) (old : Touched) : Touched :=
  match found.find? fun c => c.mark == old.mark with
  | some c => { c with id := old.id }
  | none => { old with fresh := false, lift := true }

/-- New contacts get IDs that no other entry of the report has, as many as `n`. -/
def newEntries : Nat → List Touched → List Touched → List Touched
  | 0, entries, _ => entries
  | _, entries, [] => entries
  | n + 1, entries, c :: cs => newEntries n (entries ++ [{ c with id := freeId entries, fresh := true }]) cs

/-- The report of what a scan found: the contacts already reported, then new ones up to ten entries, and whether some are
left out (R446). -/
def reportOf (tracks found : List Touched) : List Touched × Bool :=
  let new := found.filter fun c => !tracks.any fun k => k.mark == c.mark
  let room := 10 - tracks.length
  (newEntries room (tracks.map (goesOn found)) new, decide (room < new.length))

/-- One entry of the contact report; an entry without a contact is 0. -/
def putContact (s : State) (k : Nat) (c : Option Touched) : State :=
  let v := fun (f : Touched → Nat) => (c.map f).getD 0
  let s := ((s.setF F.TC_REP_X k (v fun c => c.x)).setF F.TC_REP_Y k (v fun c => c.y))
  let s := (s.setF F.TC_REP_ID k (v fun c => c.id)).setF F.TC_REP_SIZE k (v fun c => c.size)
  let s := (s.setF F.TC_REP_SIGNAL k (v fun c => c.signal)).setB F.TC_REP_VALID k c.isSome
  let s := (s.setF F.TC_REP_GLOVED k (v fun c => b2n c.gloved)).setF F.TC_REP_NEW k (v fun c => b2n c.fresh)
  s.setF F.TC_REP_LIFT k (v fun c => b2n c.lift)

/-- TOUCH_REPORT (R446): the report of the last scan replaces the previous one. -/
def execTouchReport (t : Fin 2) (s : State) : Host.Outcome State Fault Refusal :=
  .next (
    let x := touchOf s t.val
    match x.found with
    | none => s
    | some found =>
      if !s.fb F.TC_CFG_EN t.val then s
      else
        let (report, beyond) := reportOf x.tracks found
        let s := putTouch s t.val { x with found := none, tracks := report.filter fun c => !c.lift }
        let s := (List.range 10).foldl (fun s k => putContact s (10 * t.val + k) report[k]?) s
        let s := s.setF F.TC_STAT_SEQ t.val (s.fl F.TC_STAT_SEQ t.val + 1)
        let s := (s.setB F.TC_STAT_OVERFLOW t.val beyond).setB F.TC_STAT_WETFLAG t.val x.wet
        raiseSource s (312 + 4 * t.val))

end Sys2Proof.Machine
end

