-- ==== Sys2Proof/Machine/Device.lean ====
section
/-! DEFINITION. Accesses to the register blocks (spec 00 R8 to R12, 01 R26 to R31, 14 R311): which register stands at an
offset, what a read returns, what a write does; the interrupt controller's registers (08 R188, R189) and the queues'
configuration (13 R294 to R297). -/

namespace Sys2Proof.Machine

/-! ### Queue configuration and interrupt controller registers -/

/-- Source 164 + q: receive queue q, with IRQ = 1, holds a filled slot that RECV has not returned (R297). -/
def rqLine (s : State) (q : Nat) : State :=
  let r := mget {} s.router.rq q
  setLine s (164 + q) (s.fb F.NG_RQCFG_IRQ q && r.returned < r.lens.length)

/-- NG_SQCFGq: EN = 0 discards unread entries; SENT counts from the setting of EN. -/
def sqcfgWrite (s : State) (w : Wr) (q : Nat) : State :=
  atMachine s w fun s =>
    let was := s.fb F.NG_SQCFG_EN q
    let s := putFields s w [F.NG_SQCFG_EN, F.NG_SQCFG_PART, F.NG_SQCFG_MINRING, F.NG_SQCFG_DEPTH, F.NG_SQCFG_IRQ,
      F.NG_SQCFG_RQ, F.NG_SQCFG_MGMT] q q
    let on := s.fb F.NG_SQCFG_EN q
    if !on && w.touches F.NG_SQCFG_EN then { s with router := { s.router with sq := mset [] s.router.sq q [] } }
    else if on && !was then { s with router := { s.router with sent := mset 0 s.router.sent q 0 } }
    else s

/-- NG_SQCFG_WRITE. -/
def execNgSqcfgWrite (q : Requester) (n : Fin 16) (v : Word) (s : State) : Host.Outcome State Fault Refusal :=
  rowWrite q (0xE01014000 + 0x10 * n.val) v (fun s w => sqcfgWrite s w n.val) s

/-- NG_RQCFGq: a write of EN = 1 empties the ring. -/
def rqcfgWrite (s : State) (w : Wr) (q : Nat) : State :=
  atMachine s w fun s =>
    let s := putFields s w [F.NG_RQCFG_EN, F.NG_RQCFG_PART, F.NG_RQCFG_MINRING, F.NG_RQCFG_STRIDE, F.NG_RQCFG_SLOTS,
      F.NG_RQCFG_IRQ, F.NG_RQCFG_OVERRUN] q q
    let s := if w.on F.NG_RQCFG_EN then { s with router := { s.router with rq := mset {} s.router.rq q {} } } else s
    rqLine s q

/-- NG_RQCFG_WRITE. -/
def execNgRqcfgWrite (q : Requester) (n : Fin 16) (v : Word) (s : State) : Host.Outcome State Fault Refusal :=
  rowWrite q (0xE01014100 + 0x10 * n.val) v (fun s w => rqcfgWrite s w n.val) s

/-- Source 161: any bit of NG_EVTPEND is set. -/
def evtpendWrite (s : State) (w : Wr) : State :=
  let s := putField s w F.NG_EVTPEND_EVT 0 0
  setLine s 161 (s.fl F.NG_EVTPEND_EVT 0 != 0)

/-- NG_REFCNT: its fields are RW (R8), so that a write of 0 clears a field. -/
def refcntWrite (s : State) (w : Wr) : State := putFields s w G.NG_REFCNT.fields 0 0

/-- IC_SRCn: the RWL fields are locked while SECURE = 1. -/
def icSrcRegWrite (s : State) (w : Wr) (n : Nat) : State :=
  if s.fb F.IC_SRC_SECURE n then s
  else icSettle (putFields s w [F.IC_SRC_PRIO, F.IC_SRC_EDGE, F.IC_SRC_TARGETS] n n) n

/-- IC_SRC_WRITE. -/
def execIcSrcWrite (q : Requester) (n : Fin 1024) (v : Word) (s : State) : Host.Outcome State Fault Refusal :=
  rowWrite q (0xE00201000 + 8 * n.val) v (fun s w => icSrcRegWrite s w n.val) s

/-- IC_SWTRIG: an edge on a software source. -/
def swtrigWrite (s : State) (w : Wr) : State :=
  if w.touches F.IC_SWTRIG_SOURCE then raiseSource s (w.bits F.IC_SWTRIG_SOURCE) else s

def execIcSwtrig (q : Requester) (v : Word) (s : State) : Host.Outcome State Fault Refusal :=
  rowWrite q 0xE00200010 v swtrigWrite s

/-- IC_SOURCE_CHANGE (R190). -/
def execIcSourceChange (n : Fin 1024) (level : Bool) (s : State) : Host.Outcome State Fault Refusal :=
  .next (setLine s n.val level)

/-! ### Finding a register -/

/-- Element of a group at an 8-byte offset. -/
def elemOf (g : RegGroup) (off : Nat) : Option (Nat × Nat) :=
  let d := off - g.base
  let i := d / g.s1
  let r := d % g.s1
  let j := r / g.s2
  if g.base ≤ off && i < g.n1 && j < g.n2 && r % g.s2 == 0 then some (i, j) else none

/-- The register at an 8-byte offset: its group and its element. -/
def findReg (off : Nat) : List RegGroup → Option (RegGroup × Nat × Nat)
  | [] => none
  | g :: gs =>
    match elemOf g off with
    | some (i, j) => some (g, i, j)
    | none => findReg off gs

/-- The blocks with a shadow window (R311): first offset, and half the block. -/
def shadowBlocks : List (Nat × Nat) :=
  [(0xE00000000, 0x80000), (0xE00400000, 0x80000), (0xE00500000, 0x80000), (0xE00600000, 0x80000),
   (0xE00800000, 0x80000), (0xE02000000, 0x800000), (0xE03000000, 0x80000), (0xE03100000, 0x80000),
   (0xE03200000, 0x80000), (0xE04000000, 0x800000), (0xE06000000, 0x800000)]

/-- The offset whose shadow an offset shows, where it lies in a shadow window. -/
def shadowed (off : Nat) : Option Nat :=
  match shadowBlocks.find? (fun b => b.1 + b.2 ≤ off && off < b.1 + 2 * b.2) with
  | some b => some (off - b.2)
  | none => none

/-! ### Reading -/

/-- A field as read: WO fields read as 0; CADDY_UP and SENT show what they name. -/
def fieldRead (s : State) (f : Fld) (e : Nat) : Nat :=
  if f.acc = .wo then 0
  else if f = F.MB_STAT_CADDY_UP then b2n (s.ready 43)
  else if f = F.NG_SQCFG_SENT then mget 0 s.router.sent e % 2 ^ 32
  else s.fl f e

/-- A field as its shadow window shows it: fields without a shadow are 0 (R311). The regions of the Strainers, which
are RO, have one that the window shows (16 R357); the input image, RO too, has its shadow in the Infuser's own space and
reads 0 here. -/
def fieldShadow (s : State) (f : Fld) (e : Nat) : Nat :=
  if f.acc == .rwp || (f.acc == .ro && f.pour == .epoch && f ≠ F.IF_IMGIN_DATA) then s.shv f e else 0

/-- A register's word from its fields. -/
def regWord (g : RegGroup) (val : Fld → Nat) : Nat := g.fields.foldl (fun a f => a + val f * 2 ^ f.lo) 0

/-- PW_DOMSTAT0 and PW_DOMSTAT1. A domain that wakes reads CHANGING until it is ON (log 73). -/
def domstatWord (s : State) (first count : Nat) : Nat :=
  (List.range count).foldl (fun a k =>
    a + (if s.dom (first + k) ≠ 0 ∧ mget false s.pwr.waking (first + k) then 3 else s.dom (first + k)) * 4 ^ k) 0

/-- The 64-bit register at an 8-byte offset; 0 where none is (R11). -/
def regRead (s : State) (off : Nat) : Nat :=
  if off = 0xE00002000 then domstatWord s 0 32
  else if off = 0xE00002008 then domstatWord s 32 15
  else
    match findReg off regGroups with
    | some (g, i, j) => regWord g fun f => fieldRead s f (i * g.n2 + j)
    | none =>
      match shadowed off with
      | some a => (match findReg a regGroups with
        | some (g, i, j) => regWord g fun f => fieldShadow s f (i * g.n2 + j)
        | none => 0)
      | none => 0

/-! ### Requesters -/

/-- The partition that a requester's requests carry (16 R355). -/
def reqPart (s : State) : Requester → Option Nat
  | .core c => some (partOf s c)
  | .fabric _ _ _ p => some p.toNat
  | _ => none

/-- The mailbox channel whose registers or buffer an offset names. -/
def mbChannel (off : Nat) : Option Nat :=
  if 0xE00300000 ≤ off && off < 0xE00300200 then some ((off - 0xE00300000) / 0x40)
  else if 0xE00301000 ≤ off && off < 0xE00309000 then some ((off - 0xE00301000) / 0x1000)
  else none

/-- An offset lies in a mailbox buffer. -/
def inMbBuffer (off : Nat) : Bool := 0xE00301000 ≤ off && off < 0xE00309000

/-- The Infuser whose SRAM window holds an offset (20 R418). -/
def sramOf (off : Nat) : Option Nat :=
  if 0xE02100000 ≤ off && off < 0xE02300000 then some ((off - 0xE02100000) / 0x10000) else none

/-- The record log of the Dregs, the trace buffer, the outbound windows of the PCIe ports. -/
def inLog (off : Nat) : Bool := 0xE00008000 ≤ off && off < 0xE00010000
def inTraceBuffer (off : Nat) : Bool := 0xE05400000 ≤ off && off < 0xE05500000
def inOutbound (off : Nat) : Bool := 0xE04400000 ≤ off && off < 0xE04800000

/-- Who reads the trace buffer (23 R484). -/
def readsTrace (s : State) (q : Requester) : Bool := isMachine s q || (q == .debugPort && 1 ≤ portLevel s)

/-- A Strainer's answer before an access. -/
def strained (s : State) (q : Requester) (x : Nat) (kind : ReqKind) (off n : Nat) : Res Unit :=
  match strain s x (reqClass q) (reqPart s q) kind off n with
  | (true, s) => .ok () s
  | (false, s) => .fail beStrainer s

/-- A naturally aligned 4-byte or 8-byte read of a register block by a requester (R29). -/
def deviceRead (s : State) (q : Requester) (off n : Nat) : Res Nat :=
  if n ≠ 4 && n ≠ 8 then .fail beSize s
  else
    (gateOff s off).bind fun _ s =>
      match sramOf off with
      | some i => (strained s q (8 + i) 0 off n).bind fun _ s => .ok (readBytes s off n) s
      | none =>
        if inMbBuffer off || (mbChannel off).isSome then
          if mbAllowed s q ((mbChannel off).getD 0) then
            .ok (if inMbBuffer off then readBytes s off n else cut (regRead s (off / 8 * 8)) (off % 8) n) s
          else .fail beStrainer s
        else if inLog off then .ok (cut (logWord s ((off - 0xE00008000) / 32)) (off % 32) n) s
        else if inTraceBuffer off then
          if n ≠ 8 then .fail beSize s
          else if readsTrace s q then .ok (readBytes s off n) s
          else let (k, s) := s.takeFree; .ok (Config.freeNat k % 2 ^ 64) s
        else if inOutbound off then let (k, s) := (outboundRequest s off n none).takeFree; .ok (Config.freeNat k % 256 ^ n) s
        else .ok (cut (regRead s (off / 8 * 8)) (off % 8) n) s

/-! ### Writing -/

/-- What a write of a register does beside its access codes, by the offset of the register's group. The element is
number `e`. -/
def writeActs0 : List (Nat × (State → Wr → Nat → State)) :=
  [(0xE00700200, waymaskWrite), (0xE00700100, fun s w _ => l3LockRegWrite s w),
   (0xE00700800, fun s w e => cctlWrite s w (Fin.ofNat 16 e)), (0xE00700900, fun s w e => l2ctlWrite s w (Fin.ofNat 4 e)),
   (0xE00700940, fun s w e => slctlWrite s w (Fin.ofNat 8 e)), (0xE00300000, mbctlWrite), (0xE00300008, mbstatWrite),
   (0xE05000000, fun s w _ => dbGrantWrite s w), (0xE05000010, fun s w _ => dbCatchWrite s w),
   (0xE05010000, fun s w e => corectlWrite s w (Fin.ofNat 16 e)), (0xE05010010, fun s w e => cmpWrite s w e true),
   (0xE05010018, fun s w e => cmpWrite s w e false), (0xE05020000, fun s w _ => trcfgWrite s w),
   (0xE05020008, fun s w _ => atTrace s w fun s => putFields s w G.TR_SINK.fields 0 0),
   (0xE05020018, fun s w _ => atTrace s w fun s => showFull (putFields s w G.TR_PTR.fields 0 0)),
   (0xE05020020, fun s w _ => trstatWrite s w),
   (0xE05020028, fun s w _ => atTrace s w fun s => putFields s w G.TR_PMASK.fields 0 0),
   (0xE06000000, pcevtWrite), (0xE06000008, pccntWrite)]

def writeActs1 : List (Nat × (State → Wr → Nat → State)) :=
  [(0xE00800008, fun s w _ => mctlWrite s w), (0xE00801000, budgetWrite), (0xE03201000, incfgWrite),
   (0xE03200008, fun s w _ => cqtailWrite s w), (0xE04010000, gclWrite), (0xE04010200, gclbaseWrite), (0xE01000000, fun s w _ => nodeidWrite s w),
   (0xE00500028, fun s w _ => tcfgTimeWrite s w), (0xE00500000, fun s w _ => epcfgWrite s w),
   (0xE00500008, fun s w _ => originWrite s w), (0xE00000440, fun s w _ => edwstatWrite s w), (0xE00000400, edwcfgWrite),
   (0xE02010000, fun s w e => ifctlWrite s w (Fin.ofNat 32 e)), (0xE02010010, entryWrite), (0xE02010018, ifcfgWrite),
   (0xE02000000, pgrpWrite), (0xE02010020, fun s w e => doorbellWrite s w (Fin.ofNat 32 e)),
   (0xE00000518, fun s w _ => saferelWrite s w), (0xE00000508, fun s w _ => sovalWrite s w),
   (0xE00000500, fun s w _ => safelvlWrite s w), (0xE00000510, fun s w _ => safectlWrite s w), (0xE00000600, sincfgWrite),
   (0xE00000700, joycfgWrite), (0xE00000808, fun s w _ => wdkickWrite s w), (0xE00000800, fun s w _ => wdcfgWrite s w),
   (0xE00000820, fun s w _ => ktTempWrite s w)]

def writeActs2 : List (Nat × (State → Wr → Nat → State)) :=
  [(0xE00001008, fun s w _ => dregsReleaseWrite s w), (0xE00001010, fun s w _ => dregsSubmitWrite s w),
   (0xE00001100, dregsLostWrite), (0xE00001000, fun s w _ => dregsStatWrite s w), (0xE01001000, linkcfgWrite),
   (0xE01001018, linkctlWrite), (0xE00600000, fun s w _ => mrcfgWrite s w), (0xE00600008, fun s w _ => mrctlWrite s w),
   (0xE00600040, fun s w _ => mrLocked s fun s => putFields s w G.MR_JOURNAL.fields 0 0),
   (0xE00600100, fun s w e => mrLocked s fun s => putFields s w G.MR_REGION.fields e e),
   (0xE03000000, ocfgWrite), (0xE03000020, ambWrite), (0xE03100000, tcfgWrite), (0xE00002010, fun s w _ => domreqWrite s w),
   (0xE00002040, vcmdWrite), (0xE00002020, fun s w _ => coreclkWrite s w), (0xE00003000, fun s w _ => steepctlWrite s w),
   (0xE00003100, steepTableWrite), (0xE00100080, clusterWrite), (0xE00100040, fun s w _ => monstatWrite s w), (0xE00000010, fun s w _ => rstctlWrite s w),
   (0xE00201000, icSrcRegWrite), (0xE00200010, fun s w _ => swtrigWrite s w), (0xE01014000, sqcfgWrite),
   (0xE01014100, rqcfgWrite), (0xE01000108, fun s w _ => evtpendWrite s w), (0xE01000100, fun s w _ => refcntWrite s w)]

def writeActs : List (Nat × (State → Wr → Nat → State)) := writeActs0 ++ writeActs1 ++ writeActs2

/-- Registers written at the machine level only, without an act of their own (13, 14, 19). -/
def machineOnly (base : Nat) : Bool :=
  (0xE00800000 ≤ base && base < 0xE00900000) || base == 0xE00500030 || base == 0xE00500038 || base == 0xE01003000
    || base == 0xE01014008 || base == 0xE01014108

/-- Registers written at ring 0 or the machine level, without an act of their own (20 R426, 21, 22). -/
def ring0Only (base : Nat) : Bool :=
  (0xE03000000 ≤ base && base < 0xE03300000) || (0xE04000000 ≤ base && base < 0xE05000000) || base == 0xE02010100
    || base == 0xE02010400

/-- A register's write by its access codes alone. -/
def plainWrite (s : State) (w : Wr) (g : RegGroup) (i e : Nat) : State := putFields s w g.fields e i

/-- A write of a register of group `g`, element (i, j). -/
def regWrite (s : State) (w : Wr) (g : RegGroup) (i j : Nat) : State :=
  let e := i * g.n2 + j
  match writeActs.lookup g.base with
  | some act => act s w e
  | none =>
    if machineOnly g.base then atMachine s w fun s => plainWrite s w g i e
    else if ring0Only g.base then atRing0 s w fun s => plainWrite s w g i e
    else plainWrite s w g i e

/-- A naturally aligned 4-byte or 8-byte write of a register block by a requester (R29). Writes to a shadow window are
ignored with a Warn record (R311). -/
def deviceWrite (s : State) (q : Requester) (off n : Nat) (v : Word) : Res Unit :=
  if n ≠ 4 && n ≠ 8 then .fail beSize s
  else
    (gateOff s off).bind fun _ s =>
      match sramOf off with
      | some i => (strained s q (8 + i) 1 off n).bind fun _ s => .ok () (writeBytes s off n v.toNat)
      | none =>
        if (mbChannel off).isSome && !mbAllowed s q ((mbChannel off).getD 0) then .fail beStrainer s
        else if inOutbound off then .ok () (outboundRequest s off n (some (v.toNat % 256 ^ n)))
        else if inMbBuffer off then .ok () (mbBufWrite s q ((mbChannel off).getD 0) off n v)
        else
          match findReg (off / 8 * 8) regGroups with
          | some (g, i, j) => .ok () (regWrite s (.at q off n v) g i j)
          | none => .ok () (if (shadowed off).isSome then warnIgnored s q off v else s)

/-- REGISTER_WRITE: a write of 4 or 8 bytes at a naturally aligned offset of a register block. An access that the part
does not accept there performs no part of itself (log 4). -/
def execRegisterWrite (q : Requester) (addr : BitVec 36) (size : Fin 2) (v : Word) (s : State) :
    Host.Outcome State Fault Refusal :=
  .next (
    let off := addr.toNat
    let n := if size = 0 then 4 else 8
    match target s off, q with
    | .reg, .fabric _ src cmd _ =>
      if neverFabric off then warnNever s q off src cmd
      else if off % n ≠ 0 then s
      else (match deviceWrite s q off n v with
        | .ok _ s => s
        | .fail _ s => s
        | .stall s => s)
    | .reg, _ =>
      if off % n ≠ 0 then s
      else (match deviceWrite s q off n v with
        | .ok _ s => s
        | .fail e s => rowFault s q e
        | .stall s => s)
    | _, _ => s)

end Sys2Proof.Machine
end

