-- ==== Sys2Proof/Machine/Access.lean ====
section
/-! DEFINITION. Accesses of the processors to memory: where an address leads (spec 04 R79, 09 R201, R202, 16 R342, 20
R416), the faults decided before the access (08 R173), the data of a load and the bytes of a store in every region type
(09 R203 to R205, 10 R217 to R223), remote READs and WRITEs (13 R284), the drain of the store buffer (06 R146). -/

namespace Sys2Proof.Machine

/-! ### Places -/

/-- An Infuser's address (20 R416). Its own SRAM and image memory are Normal-WB; their places are the local offsets at
which other requesters see them. -/
def infuserAddr (s : State) (i : Fin 32) (va : Word) : Option XAddr :=
  let a := va.toNat
  let o := a - privBase
  if a < privBase then machineAddr s va
  else if o < 0x10000 then some ⟨infSram i + o, .normalWb⟩
  else if 0x10000 ≤ o ∧ o < 0x10100 then some ⟨infRegs i + 0x100 + (o - 0x10000), .normalWb⟩
  else if 0x10400 ≤ o ∧ o < 0x10C00 then some ⟨infRegs i + 0x400 + (o - 0x10400), .normalWb⟩
  else none

/-- A Caddy address (16 R342). Private places are the addresses themselves. -/
def caddyAddr (s : State) (va : Word) : Option XAddr :=
  let a := va.toNat
  let o := a - privBase
  if a < privBase then machineAddr s va
  else if o < 0x20000 ∨ (0x100000 ≤ o ∧ o < 0x180000) then some ⟨a, .normalWb⟩
  else if 0x200000 ≤ o ∧ o < 0x900000 then some ⟨a, .deviceStrict⟩
  else none

/-- The address of an access of any processor. `chk` is the kind the permission check uses. -/
def resolveP (s : State) (p : Proc) (va : Word) (chk access : Nat) : XRes XAddr :=
  let fixed := fun (x : Option XAddr) => match x with
    | some x => XRes.ok x s
    | none => .exc (busError beNoTarget access va) s
  match p with
  | .core c => resolveAs s c va chk access
  | .infuser i => fixed (infuserAddr s i va)
  | .caddy => fixed (caddyAddr s va)

/-! ### The parts of an access -/

/-- The part of an access in one line: virtual address, length, EADDR of a fault decided for it (07 R167). -/
structure Seg where
  va : Word
  len : Nat
  eaddr : Word

/-- An access of `n` bytes, cut at a line. -/
def segs (ea : Word) (n : Nat) : List Seg :=
  let o := ea.toNat % 64
  if o + n ≤ 64 then [⟨ea, n, ea⟩]
  else
    let va2 := ea + BitVec.ofNat 64 (64 - o)
    [⟨ea, 64 - o, ea⟩, ⟨va2, n - (64 - o), if va2.toNat % 4096 = 0 then va2 else ea⟩]

/-- Rank of a fault in R173. DESIGN CHOICE (log 86): R173 does not rank the BUS_ERROR of a walk read; it ranks with
TRANSLATION. -/
def rankOf (e : Exc) : Nat :=
  if e.cause = cBusError ∧ e.sub < 2 ^ 15 then 11 else if e.cause = cPermission then 9 else 8

/-- What is known of one part: where it leads, or its fault. -/
abbrev Found := Except Exc (XAddr × Seg)

/-- Translate every part; a part that was translated before the access had to wait keeps its place (`held`, R211). -/
def resolveSegs (s : State) (p : Proc) (n chk access : Nat) (held : List XAddr) : List Seg → XRes (List Found)
  | [] => .ok [] s
  | g :: gs =>
    let rest := fun (s : State) (f : Found) =>
      (resolveSegs s p n chk access (held.drop 1) gs).bind fun fs s => .ok (f :: fs) s
    match (match held with | x :: _ => XRes.ok x s | [] => resolveP s p g.va chk access) with
    | .ok x s =>
      (match checkPlace s p x n chk with
       | some e => rest s (.error (busError e access g.eaddr))
       | none => rest s (.ok (x, g)))
    | .exc e s => rest s (.error { e with eaddr := some g.eaddr })
    | .stall s => .stall s

/-- The fault of least rank, the first part's among equals. -/
def firstFault : List Found → Option Exc
  | [] => none
  | .ok _ :: fs => firstFault fs
  | .error e :: fs =>
    match firstFault fs with
    | some f => if rankOf f < rankOf e then some f else some e
    | none => some e

/-- The parts without a fault. -/
def founds (fs : List Found) : List (XAddr × Seg) := fs.filterMap fun f => match f with | .ok x => some x | .error _ => none

/-- The translations that a waiting access of the processor holds. -/
def heldPlaces (s : State) (p : Proc) : List XAddr :=
  match (s.cpu p).wait with
  | .placed xs _ => xs
  | _ => []

/-- The access with these parts has a Remote type: its wait is that of a load under R101, which an interrupt abandons. -/
def remoteParts (xs : List (XAddr × Seg)) : Bool := xs.any fun x => isRemoteType x.1.rtype

/-- An access that was translated waits: it keeps its translation (R211). -/
def keepPlaces (xs : List (XAddr × Seg)) (access : Nat) : IRes → IRes
  | .hold s .stall => .hold s (.placed (xs.map (·.1)) (access == aLoad && remoteParts xs))
  | .hold s .again => .hold s (.placed (xs.map (·.1)) true)
  | r => r

/-- An access: translation and permission, DEBUG WATCH, what the target decides, then `go` (R173). An access that waits
has not been seen by the comparators. -/
def withPlaces (s : State) (p : Proc) (ea : Word) (n chk access : Nat) (seen : Option Seen)
    (go : List (XAddr × Seg) → State → IRes) : IRes :=
  match resolveSegs s p n chk access (heldPlaces s p) (segs ea n) with
  | .exc e s => .exc e s
  | .stall s => .hold s .stall
  | .ok fs s =>
    let bad := firstFault fs
    match bad.filter fun e => rankOf e < 10 with
    | some e => .exc e s
    | none =>
      let (watch, s1) := match p, seen with
        | .core c, some a => compare s c a
        | _, _ => (false, s)
      if watch then .exc ⟨cDebug, 3, some ea⟩ s1
      else
        match bad with
        | some e => .exc e s1
        | none =>
          keepPlaces (founds fs) access (match go (founds fs) s1 with
            | .hold s' w => (match w with
              | .stall => go (founds fs) s
              | .again => go (founds fs) s
              | _ => .hold s' w)
            | r => r)

/-! ### Reading -/

/-- The requester that a processor is. -/
def requesterOf : Proc → Requester
  | .core c => .core c
  | .infuser i => .infuser i
  | .caddy => .caddy

/-- Its Strainer class, and its partition where it carries one (16 R355, R356). -/
def classOf (p : Proc) : Nat := reqClass (requesterOf p)
def partP (s : State) (p : Proc) : Option Nat := reqPart s (requesterOf p)

/-- A word of an Infuser's image memory as it reads it: parameters and output image from the active copy, the input
image from the shadow (20 R416, R425). -/
def imageWord (s : State) (i : Fin 32) (o : Nat) : Nat :=
  if o < 0x400 then s.fl F.IF_PARAM_DATA (i.val * 32 + (o - 0x100) / 8)
  else if o < 0x800 then s.fl F.IF_IMGOUT_DATA (i.val * 128 + (o - 0x400) / 8)
  else s.shv F.IF_IMGIN_DATA (i.val * 128 + (o - 0x800) / 8)

/-- `n` bytes of a processor's own memory. Registers of the Caddy that the spec does not lay out give free values
(log 34). -/
def ownLoad (s : State) (p : Proc) (place n : Nat) : Nat × State :=
  match p with
  | .infuser i =>
    if infSram i ≤ place then (readBytes s place n, s) else (cut (imageWord s i (place - infRegs i)) (place % 8) n, s)
  | _ =>
    let o := place - privBase
    if o < 0x180000 then (readBytes s place n, s)
    else if 0x400000 ≤ o ∧ o < 0x500000 then (cut (regRead s (0xE00000000 + o / 8 * 8)) (o % 8) n, s)
    else let (k, s) := s.takeFree; (Config.freeNat k % 256 ^ n, s)

/-- An uncached read by core `c`: from memory, whatever a cache holds (R204). -/
def ncRead (s : State) (c : Fin 16) (off n : Nat) : Res Nat :=
  coreRequest s c (partOf s c) 1 n off fun s =>
  match memAdmit s 0 (some (partOf s c)) 0 off n with
  | .ok _ s => readMem s (some (partOf s c)) off n
  | .fail e s => .fail e s
  | .stall s => .stall s

/-- A local place is read. -/
def placeRead (s : State) (p : Proc) (x : XAddr) (n : Nat) : Res Nat :=
  if isPrivate s p x then let (v, s) := ownLoad s p x.place n; .ok v s
  else if target s x.place == .reg then
    let f := fun s => deviceRead s (requesterOf p) x.place n
    match p with
    | .core c => coreRequest s c (partOf s c) 1 n x.place f
    | _ => f s
  else if mirrorStalls s (x.place / 64) then .stall s
  else
    match p with
    | .core c =>
      (match x.rtype with
       | .normalNc => ncRead s c x.place n
       | .deviceStrict => ncRead s c x.place n
       | .devicePosted => ncRead s c x.place n
       | .remoteNc => ncRead s c x.place n
       | _ =>
         match cachedLine s c (partOf s c) 0 (x.place / 64) with
         | .ok d s => .ok (cut d (x.place % 64) n) s
         | r => r)
    | _ => snoopRead s (classOf p) none 0 x.place n

/-- A line of a remote target that a cache of this device holds (Remote-WT, R203). -/
def remoteHit (s : State) (c : Fin 16) (line : Nat) : Option (Nat × State) :=
  let part := some (partOf s c)
  match hitL1 s c part line with
  | some (x, s) => some (x.data, s)
  | none =>
    match newestUsed s line with
    | some (d, s) => some (d, fillL1 (fillL2 s (clusterOf c) part line d false) c part line d false)
    | none => (allClusters.findSome? fun n => find s (.l2 n) line).map fun x =>
        (x.data, fillL1 (fillL2 s (clusterOf c) part line x.data false) c part line x.data false)

/-- What one part of a load comes to: its bytes, or a READ that it needs. -/
inductive Part where
  | data (v len : Nat)
  | need (place len : Nat) (fill : Bool)

/-- One part of a load: from the store buffer, a cache, a target, or over the fabric (R218, R223, R284). An access of an
Infuser or the Caddy that is refused reads as zeros (16 R358). -/
def loadPart (s : State) (p : Proc) (x : XAddr) (g : Seg) : XRes Part :=
  let fwd := if isDevice x.rtype then Fwd.none else sbForward (s.cpu p).sb x.place g.len
  match fwd with
  | .all v => .ok (.data v g.len) s
  | .part => .stall s
  | .none =>
    let here := fun (s : State) =>
      match placeRead s p x g.len with
      | .ok v s => XRes.ok (Part.data v g.len) s
      | .fail e s => (match p with
        | .core _ => .exc (busError e aLoad g.eaddr) s
        | _ => .ok (.data 0 g.len) s)
      | .stall s => .stall s
    if isPrivate s p x || isLocal x.place then here s
    else
      match p, x.rtype with
      | .core c, .remoteWt => (match remoteHit s c (x.place / 64) with
        | some (d, s) => .ok (.data (cut d (x.place % 64) g.len) g.len) s
        | none => .ok (.need x.place g.len true) s)
      | _, _ => .ok (.need x.place g.len false) s

/-- Every part. -/
def loadParts (s : State) (p : Proc) : List (XAddr × Seg) → XRes (List Part)
  | [] => .ok [] s
  | (x, g) :: rest =>
    (loadPart s p x g).bind fun a s => (loadParts s p rest).bind fun as s => .ok (a :: as) s

/-- The value of parts that are all there. -/
def partsValue : List Part → Option Nat
  | [] => some 0
  | .data v len :: ps => (partsValue ps).map fun r => v + 256 ^ len * r
  | .need .. :: _ => none

/-- Mark a core's STATUS.FPD. -/
def fpDirty (s : State) (p : Proc) : State :=
  match p with
  | .core _ => s.onSt p fun st => { st with fpd := true }
  | _ => s

/-- Write a v register (sets FPD). -/
def putV (s : State) (p : Proc) (d : RegNo) (v : VWord) : State := fpDirty (s.setV p d v) p

/-- A load's value reaches its register. -/
def loadResult (s : State) (p : Proc) (dst : LoadDst) (v : Nat) : State :=
  match dst with
  | .g d size signed =>
    s.setG p d (if signed && bitAt v (8 * size - 1) then BitVec.ofNat 64 (v + (2 ^ 64 - 256 ^ size)) else BitVec.ofNat 64 v)
  | .v d _ => putV s p d (BitVec.ofNat 128 v)

/-! ### Remote READs and WRITEs -/

/-- DEADLINE of a core's packet of partition `part`: raised so that it never falls below the last one of its pair (R284). -/
def coreDeadline (s : State) (c : Fin 16) (part node : Nat) : Nat × State :=
  let key := c.val * 2 ^ 18 + node
  let d := max (fabNow s + s.fl F.NG_DLBUDGET_REQ part) (mget 0 s.router.lastDl key)
  (d, { s with router := { s.router with lastDl := mset 0 s.router.lastDl key d } })

/-- The header of a core's packet (R277, R284). -/
def corePacket (s : State) (c : Fin 16) (part cmd place len tag : Nat) (payload : List Byte) : Packet × State :=
  let (d, s) := coreDeadline s c part (placeNode place)
  ({ blankPacket with cmd := BitVec.ofNat 4 cmd, part := BitVec.ofNat 6 part, dst := BitVec.ofNat 18 (placeNode place),
                      rbudget := BitVec.ofNat 28 (s.fl F.NG_DLBUDGET_RESP part),
                      tag := BitVec.ofNat 16 (c.val * 2 ^ 10 + tag), len := BitVec.ofNat 13 len,
                      addr := BitVec.ofNat 36 (placeOff place), deadline := BitVec.ofNat 64 d, payload := payload }, s)

/-- The read tags of a core that are free (08 R193). -/
def freeTags (k : Cpu) : List Nat := (List.range 8).filter fun t => !(k.rtags.any fun r => r.tag == t)

/-- A WRITE of this device to a remote line is not yet answered. A READ of the line may pass it, and fills no cache: the
device's cores stay coherent (09 R205). -/
def lineWritten (s : State) (line : Nat) : Bool :=
  allCores.any fun k => (s.cpu (.core k)).wslots.any fun w => w.line == line

/-- Send the READs that a load needs, one tag each; a miss of a Remote-WT page reads the whole line, a vector's too (log 128). -/
def sendReads (s : State) (c : Fin 16) : List Part → List Nat → List Piece × State
  | .data v len :: ps, ts => let (r, s) := sendReads s c ps ts; (⟨0, 0, len, some (natBytes v len)⟩ :: r, s)
  | .need place len fill :: ps, t :: ts =>
    let from_ := if fill then place / 64 * 64 else place
    let n := if fill then 64 else len
    let (k, s) := corePacket (traceCore s c (partOf s c) 1 n from_) c (partOf s c) 1 from_ n t []
    let p := Proc.core c
    let u := s.cpu p
    let stale := fill && lineWritten s (place / 64)
    let s := sendOwn (s.setCpu p { u with rtags := u.rtags ++ [{ tag := t, place := from_, len := n, abandoned := false, fill, stale }] }) k
    let (r, s) := sendReads s c ps ts
    (⟨t, place, len, none⟩ :: r, s)
  | _, _ => ([], s)

/-- A load with its parts known: it completes, or sends READs and waits; a load that finds too few free tags waits for
them, until an interrupt abandons it (R101, R193). -/
def loadFinish (p : Proc) (dst : LoadDst) (ea : Word) (parts : List Part) (s : State) : IRes :=
  match partsValue parts with
  | some v => .done (loadResult s p dst v)
  | none =>
    match p with
    | .core c =>
      let tags := freeTags (s.cpu p)
      let needs := parts.countP fun a => match a with | .need .. => true | .data .. => false
      (match gateUnit s 35 with
       | .fail e s => .exc (busError e aLoad ea) s
       | .stall s => .hold s .stall
       | .ok _ s =>
         if tags.length < needs then .hold s .again
         else if traceHolds s c (partOf s c) then .hold { s with trace := { s.trace with held := true } } .stall
         else let (ps, s) := sendReads s c parts tags; .hold s (.remote dst ea ps))
    | _ => .done s

/-- The store buffer holds bytes of the load, but not all of them: the load waits for their entry to drain (R218). -/
def sbPartly (sb : List SbEntry) (xs : List (XAddr × Seg)) : Bool :=
  let fs := (xs.filter fun x => !isDevice x.1.rtype).map fun x => sbForward sb x.1.place x.2.len
  !(fs.all (· == .none)) && !(fs.all fun f => match f with | .all _ => true | _ => false)

/-- A load of `n` bytes that must be aligned to `align` (R100, R166). Where a part must wait no part has been read, so that
none is read twice (R223). -/
def loadOp (p : Proc) (dst : LoadDst) (n align : Nat) (ea : Word) (s : State) : IRes :=
  if ea.toNat % align ≠ 0 then .exc (misaligned aLoad ea) s
  else
    withPlaces s p ea n aLoad aLoad (some ⟨ea.toNat, n, true, false⟩) fun xs s =>
      let sb := (s.cpu p).sb
      if sbPosted sb || (!sb.isEmpty && xs.any fun x => isDevice x.1.rtype) || sbPartly sb xs then .hold s .stall
      else
        match loadParts s p xs with
        | .stall t => .hold (keepWake s t) .stall
        | r => r.then (loadFinish p dst ea)

/-! ### Writing -/

/-- An uncached write by core `c`: to memory; a copy in the L3 takes it too (10 "The model"), and a line of the scratch
SRAM leaves the other clusters (R234). -/
def ncWrite (s : State) (c : Fin 16) (part off n v : Nat) : Res Unit :=
  coreRequest s c part 2 n off fun s =>
  match (sliceGate s (off / 64)).bind fun _ s => memAdmit s 0 (some part) 1 off n with
  | .ok _ s =>
    let s := if target s off == .scratch then otherClusters s c (off / 64) else s
    writeMem (updateIn s c (off / 64) (fun d => patch d (off % 64) n v) [sliceOf (off / 64)]) (some part) off n v
  | .fail e s => .fail e s
  | .stall s => .stall s

/-- Region 0 of Infuser `i`'s Strainer holds the countersigned settings (16 R361). -/
def countersigned (s : State) (i : Fin 32) : Bool :=
  let e := 4 * i.val
  s.fb F.ST_IRCTL_VALID e && s.fb F.ST_IRCTL_RD e && !s.fb F.ST_IRCTL_WR e && s.fb F.ST_IRCTL_EX e
    && s.fb F.ST_IRCTL_SAFETY e && s.fb F.ST_IRCTL_PANY e && s.fl F.ST_IRCTL_CLASS e == 255

/-- The Caddy writes a Strainer's shadow through its programming window (16 R342, R357); acts at once while EP_CFG.EN = 0. -/
def strainerProgram (s : State) (off n v : Nat) : State :=
  match findReg (off / 8 * 8) regGroups with
  | some (g, i, j) =>
    let w := Wr.at .caddy off n (BitVec.ofNat 64 v)
    let e := i * g.n2 + j
    let t := g.fields.foldl (fun s f =>
      if f.pour = .epoch && w.touches f then
        let x := w.merge f (s.shv f e)
        if s.epochOn then s.setSh f e x else (s.setF f e x).dropSh f e
      else s) s
    if g.base = G.ST_WINCTL.base || g.base = G.ST_WINRATE.base then windowBucket s t e else t
  | none => s

/-- A store to a processor's own memory. An Infuser's writes to its SRAM are checked while region 0 is countersigned
(16 R355, 20 R430); the Caddy's other private registers are not laid out by the spec and take nothing (log 34). -/
def ownStore (s : State) (p : Proc) (place n v : Nat) : State :=
  match p with
  | .infuser i =>
    if infSram i ≤ place then
      if countersigned s i then
        (match strain s (8 + i.val) 2 none 1 place n with
         | (true, s) => writeBytes s place n v
         | (false, s) => s)
      else writeBytes s place n v
    else
      let w := (place - infRegs i - 0x800) / 8
      imageInWrite s i.val w (patch (s.shv F.IF_IMGIN_DATA (i.val * 128 + w)) (place % 8) n v)
  | _ =>
    let o := place - privBase
    if 0x100000 ≤ o ∧ o < 0x180000 then writeBytes s place n v
    else if 0x400000 ≤ o ∧ o < 0x500000 then strainerProgram s (0xE00000000 + o) n v
    else s

/-- A write by core `c` with the ring that its store was issued at. -/
def atIssueRing (s : State) (c : Fin 16) (ring : Nat) (f : State → Res Unit) : Res Unit :=
  let p := Proc.core c
  let st := (s.cpu p).st
  let back := fun (s : State) => s.onSt p fun x => { x with ring := st.ring, ml := st.ml }
  match f (s.onSt p fun x => { x with ring := BitVec.ofNat 2 ring, ml := ring == 4 }) with
  | .ok _ s => .ok () (back s)
  | .fail e s => .fail e (back s)
  | .stall s => .stall (back s)

/-- A store performs at a local place that is not the processor's own. A line of a mirrored region is refused where the
device is no longer PRIMARY (15 R329), and is tracked once its store has performed (15 R321). -/
def placeWrite (s : State) (p : Proc) (x : XAddr) (part ring n v : Nat) : Res Unit :=
  let line := x.place / 64
  if target s x.place == .reg then
    let f := fun s => deviceWrite s (requesterOf p) x.place n (BitVec.ofNat 64 v)
    match p with
    | .core c => coreRequest s c part 2 n x.place fun s => atIssueRing s c ring f
    | _ => f s
  else if mirrorStalls s line then .stall s
  else if mirrorDenied s line then .fail beType s
  else
    match p with
    | .core c =>
      let scratch := target s x.place == .scratch
      let through := storeThrough s c part line (x.place % 64) n v
      let back := fun (s : State) => match storeWb s c part 1 line (fun d => patch d (x.place % 64) n v) with
        | .ok _ s => Res.ok () s
        | .fail e s => .fail e s
        | .stall s => .stall s
      (match x.rtype with
       | .normalWb => if scratch then through else back s
       | .mirroredWb =>
         if scratch then through
         else (match back s with
           | .ok _ t => (match trackStore t line with
             | some t => .ok () t
             | none => .stall s)
           | r => r)
       | .normalWt => through
       | .remoteWt => through
       | _ => ncWrite s c part x.place n v)
    | _ => snoopWrite s (classOf p) none 1 x.place n v

/-- A store to a Remote-WT line of another node: a copy in a cache of this device takes the bytes that lie in the line,
and a READ of the line in flight fills no cache (09 R205). -/
def remoteUpdate (s : State) (c : Fin 16) (x : XAddr) (n v : Nat) : State :=
  let line := x.place / 64
  if x.rtype == .remoteWt then
    let s := updateIn s c line (fun d => patch d (x.place % 64) (min n (64 - x.place % 64)) v) (allIds line)
    allCores.foldl (fun s k =>
      let u := s.cpu (.core k)
      if u.rtags.any fun r => r.fill && r.place / 64 == line then
        s.setCpu (.core k) { u with rtags := u.rtags.map fun r => if r.place / 64 = line then { r with stale := true } else r }
      else s) s
  else s

/-- The store-buffer entries of core `c` whose WRITEs the router has accepted and has not yet sent. -/
def coreEntries (s : State) (c : Fin 16) : List Nat :=
  let slots := ((s.router.out.flatMap (·.2)).filter fun q =>
    q.k.cmd.toNat == 3 && !q.viaLink && q.k.tag.toNat / 2 ^ 10 == c.val && q.k.tag.toNat / 256 % 4 == 1).map
      fun q => q.k.tag.toNat % 64
  (((s.cpu (.core c)).wslots.filter fun w => slots.contains w.slot).flatMap (·.entries)).eraseDups

/-- The number of the store-buffer entry that drains: the newest one's where it has begun, else the next. -/
def entryNumber (k : Cpu) (begun : Bool) : Nat :=
  let last := (k.wslots.flatMap (·.entries)).foldl max 0
  if begun then last else last + 1

/-- A WRITE to a remote place; at most 64 are unacknowledged (10 R226), and while 4 other entries of the core are in the
router port the next waits on the fabric (06 R146). -/
def remoteWrite (s : State) (c : Fin 16) (x : XAddr) (part n v : Nat) (va : Word) (begun : Bool) : Res Unit :=
  let p := Proc.core c
  let k := s.cpu p
  let entry := entryNumber k begun
  match (List.range 64).find? fun t => !(k.wslots.any fun w => w.slot == t) with
  | none => .stall s
  | some t =>
    if 4 ≤ ((coreEntries s c).filter (· != entry)).length then .stall s
    else
    coreRequest s c part 2 n x.place fun s =>
    match gateUnit s 35 with
    | .ok _ s =>
      let s := remoteUpdate s c x n v
      let (k, s) := corePacket s c part 3 x.place n (0x100 + t) (natBytes v n)
      let u := s.cpu p
      .ok () (sendOwn (s.setCpu p { u with wslots := u.wslots ++ [⟨t, va, x.place / 64, [entry]⟩] }) k)
    | r => r

/-- A store whose bytes left in the WRITE of the store before it: its entry is in the router port with that WRITE, and a
copy of its line takes the bytes. -/
def joinedWrite (s : State) (c : Fin 16) (x : XAddr) (n v : Nat) (begun : Bool) : State :=
  let p := Proc.core c
  let s := remoteUpdate s c x n v
  let k := s.cpu p
  match k.wslots.getLast? with
  | some w => s.setCpu p { k with wslots := k.wslots.dropLast ++ [{ w with entries := w.entries ++ [entryNumber k begun] }] }
  | none => s

/-- NACK code under which a core's refused store is recorded (R114, R227, 16 R358, 19 R406; log 35). -/
def refusalCode (e : Nat) : Nat := if e = beEcc then rCorrupt else if e = beNotReady then rBusy else rDenied

/-- A store of a core is refused. DESIGN CHOICE (log 87): "the first" of R227 is the refusal that arrives first. -/
def recordRefusal (s : State) (p : Proc) (code : Nat) (va : Word) : State :=
  let k := s.cpu p
  if k.refusals = 0 then s.setCpu p { k with refusals := 1, refAddr := va, refCode := code }
  else s.setCpu p { k with refusals := k.refusals + 1 }

/-- One store of an entry performs. -/
def drainStore (s : State) (p : Proc) (e : SbEntry) (st : SbStore) : Res Unit :=
  let x : XAddr := ⟨e.line * 64 + st.off, e.rtype⟩
  if isPrivate s p x then .ok () (ownStore s p x.place st.size st.val)
  else if isLocal x.place then
    match placeWrite s p x st.part.toNat st.ring st.size st.val with
    | .fail c s => (match p with
      | .core _ => .ok () (recordRefusal s p (refusalCode c) st.va)
      | _ => .ok () s)
    | r => r
  else
    match p with
    | .core c =>
      if st.joined then .ok () (joinedWrite s c x st.size st.val e.begun)
      else
        (match remoteWrite s c x st.part.toNat st.size st.val st.va e.begun with
         | .fail k s => .ok () (recordRefusal s p (refusalCode k) st.va)
         | r => r)
    | _ => .ok () s

/-- Put the rest of the head entry back, or remove it. Once one of its stores has performed it has begun to drain. -/
def sbHead (s : State) (p : Proc) (e : SbEntry) (left : List SbStore) : State :=
  let k := s.cpu p
  let begun := e.begun || left.length < e.stores.length
  s.setCpu p { k with sb := if left.isEmpty then k.sb.drop 1 else { e with stores := left, begun := begun } :: k.sb.drop 1 }

/-- The stores of the head entry perform in program order, until one must wait. -/
def drainStores (s : State) (p : Proc) (e : SbEntry) : List SbStore → State
  | [] => sbHead s p e []
  | st :: rest =>
    match drainStore s p e st with
    | .ok _ s => drainStores s p { e with begun := true } rest
    | .fail _ s => drainStores s p { e with begun := true } rest
    | .stall s => sbHead s p e (st :: rest)

/-- The oldest entry of a store buffer drains (06 R146). -/
def drainHead (s : State) (p : Proc) : State :=
  match (s.cpu p).sb with
  | e :: _ => drainStores s p e e.stores
  | [] => s

/-- An Infuser that stops is STOPPED when its store buffer has drained (20 R427). -/
def stopDrained (s : State) (p : Proc) : State :=
  match p with
  | .infuser i =>
    if (infOf s i.val).stopping && (s.cpu p).sb.isEmpty then
      infuserStop (putInf s i.val { infOf s i.val with stopping := false }) i 0
    else s
  | _ => s

/-- STORE_DRAIN. -/
def execStoreDrain (p : Proc) (s : State) : Host.Outcome State Fault Refusal := .next (stopDrained (drainHead s p) p)

/-! ### Stores -/

/-- The parts of a Device-Strict store perform. -/
def strictParts (p : Proc) (v : Nat) : List (XAddr × Seg) → State → XRes Unit
  | [], s => .ok () s
  | (x, g) :: rest, s =>
    let ring := match p with | .core c => ringCode s c | _ => 0
    if isPrivate s p x then strictParts p (v / 256 ^ g.len) rest (ownStore s p x.place g.len v)
    else
      match placeWrite s p x ((partP s p).getD 0) ring g.len v with
      | .ok _ s => strictParts p (v / 256 ^ g.len) rest s
      | .fail e s => (match p with
        | .core _ => .exc (busError e aStore g.eaddr) s
        | _ => strictParts p (v / 256 ^ g.len) rest s)
      | .stall s => .stall s

/-- A Device-Strict store performs at once; where a part must wait, no part has been written, and none is written twice
(R223). -/
def strictStore (p : Proc) (v : Nat) (xs : List (XAddr × Seg)) (s : State) : IRes :=
  match strictParts p v xs s with
  | .ok _ s => .done s
  | .exc e s => .exc e s
  | .stall t => .hold (keepWake s t) .stall

/-- A store enters the buffer. -/
def pushStore (s : State) (p : Proc) (x : XAddr) (st : SbStore) : Option State := sbPush s p (x.place / 64) x.rtype st

/-- The parts of a store enter the buffer, or wait for entries. The parts of a remote store that lie side by side leave in
one WRITE, that of the first (R284). -/
def pushStores (p : Proc) (v : Nat) (xs : List (XAddr × Seg)) (s : State) : Option State :=
  let put := fun (s : State) (x : XAddr × Seg) (size v : Nat) => storeOf s p (x.1.place % 64) size v x.2.va
  match xs with
  | [] => some s
  | [x] => pushStore s p x.1 (put s x x.2.len (v % 256 ^ x.2.len))
  | x :: y :: _ =>
    let whole := !isLocal x.1.place && y.1.place == x.1.place + x.2.len && y.1.rtype == x.1.rtype
    let n := if whole then x.2.len + y.2.len else x.2.len
    (pushStore s p x.1 (put s x n (v % 256 ^ n))).bind fun s =>
      pushStore s p y.1 { put s y y.2.len (v / 256 ^ x.2.len % 256 ^ y.2.len) with joined := whole }

/-- A store of `n` bytes that must be aligned to `align`. -/
def storeOp (p : Proc) (n align : Nat) (ea : Word) (v : Nat) (s : State) : IRes :=
  if ea.toNat % align ≠ 0 then .exc (misaligned aStore ea) s
  else
    withPlaces s p ea n aStore aStore (some ⟨ea.toNat, n, false, true⟩) fun xs s =>
      if xs.any fun x => isLocal x.1.place && mirrorStalls s (x.1.place / 64) then .hold s .stall
      else if xs.any fun x => x.1.rtype == .deviceStrict then
        if (s.cpu p).sb.isEmpty then strictStore p v xs s else .hold s .stall
      else
        match pushStores p v xs s with
        | some s => .done s
        | none => .hold s .stall

/-! ### Atomic operations -/

/-- A coherent atomic operation by a requester without caches: what `f` answers for the old value is written
(13 R279, 20 R416). -/
def snoopAtomic (s : State) (cls : Nat) (part : Option Nat) (off n : Nat) (f : Nat → Option Nat) : Res Nat :=
  match snoopRead s cls part 3 off n with
  | .ok old s =>
    (match f old with
     | some v => (match snoopPut s (shownPart cls part) off n v with
       | .ok _ s => .ok old s
       | .fail e s => .fail e s
       | .stall s => .stall s)
     | none => .ok old s)
  | r => r

/-- At the scratch SRAM: the line leaves every cluster (R105, R234). -/
def scratchAtomic (s : State) (c : Fin 16) (part off n : Nat) (f : Nat → Option Nat) : Res Nat :=
  coreRequest s c part 3 n off fun s =>
  match memAdmit s 0 (some part) 3 off n with
  | .ok _ s =>
    let s := discardLine s (off / 64)
    let old := readBytes s off n
    .ok old (match f old with | some v => writeBytes s off n v | none => s)
  | .fail e s => .fail e s
  | .stall s => .stall s

/-- At the L3 slice (Normal-WT, Normal-NC): a Normal-WT write updates the copies of the executing cluster. -/
def sliceAtomic (s : State) (c : Fin 16) (part off n : Nat) (wt : Bool) (f : Nat → Option Nat) : Res Nat :=
  let line := off / 64
  coreRequest s c part 3 n off fun s =>
  match (sliceGate s line).bind fun _ s => memAdmit s 0 (some part) 3 off n with
  | .ok _ s =>
    let s := l3Lookup s (some part) line
    let old := match find s (sliceOf line) line with
      | some x => Res.ok (cut x.data (off % 64) n) s
      | none => readMem s (some part) off n
    (match old with
     | .ok old s =>
       (match f old with
        | some v =>
          let upd := fun d => patch d (off % 64) n v
          let s := if wt then otherClusters (updateIn s c line upd (clusterIds c)) c line else s
          (match writeMem (updateIn s c line upd [sliceOf line]) (some part) off n v with
           | .ok _ s => .ok old s
           | .fail e s => .fail e s
           | .stall s => .stall s)
        | none => .ok old s)
     | r => r)
  | .fail e s => .fail e s
  | .stall s => .stall s

/-- The line is dirty in an L1 data or victim cache of another core, or in the L2 of another cluster. -/
def dirtyElsewhere (s : State) (c : Fin 16) (line : Nat) : Bool :=
  (dirtyL1 s line (allCores.filter (· != c))).isSome || (dirtyL2 s line (allClusters.filter (· != clusterOf c))).isSome

/-- In the core's L1 data cache with the line held exclusive (Normal-WB, Mirrored-WB): where nothing is written, the newest
data still moves with the line. -/
def exclusiveAtomic (s : State) (c : Fin 16) (part off n : Nat) (mirrored : Bool) (f : Nat → Option Nat) : Res Nat :=
  let line := off / 64
  match cachedLine s c part 3 line with
  | .ok d s =>
    let old := cut d (off % 64) n
    (match f old with
     | some v =>
       (match (if mirrored then trackStore s line else some s) with
        | some t => (match putWb t c line (patch d (off % 64) n v) with
          | .ok _ s => .ok old s
          | .fail e s => .fail e s
          | .stall t => (Res.stall t).orWait s)
        | none => .stall s)
     | none =>
       if dirtyElsewhere s c line then
         (match putWb s c line d with
          | .ok _ s => .ok old s
          | .fail e s => .fail e s
          | .stall s => .stall s)
       else .ok old (snoopOut s c line))
  | r => r

/-- Where an atomic operation is performed (R105). -/
def atomicAt (s : State) (p : Proc) (x : XAddr) (n : Nat) (f : Nat → Option Nat) : Res Nat :=
  if isPrivate s p x then
    let (old, s) := ownLoad s p x.place n
    .ok old (match f old with | some v => ownStore s p x.place n v | none => s)
  else if mirrorStalls s (x.place / 64) then .stall s
  else
    match p with
    | .core c =>
      let part := partOf s c
      if target s x.place == .scratch then scratchAtomic s c part x.place n f
      else
        (match x.rtype with
         | .normalWt => sliceAtomic s c part x.place n true f
         | .normalNc => sliceAtomic s c part x.place n false f
         | t => exclusiveAtomic s c part x.place n (t == .mirroredWb) f)
    | _ => snoopAtomic s (classOf p) none x.place n f

/-- An atomic instruction of width `n` at ga: it waits for the store buffer to drain (R104 to R106). `f` answers what is
written for the old value and the operands. -/
def atomicOp (p : Proc) (d a b : RegNo) (n : Nat) (f : Nat → Nat → Nat → Option Nat) (s : State) : IRes :=
  let ea := s.g p a
  let w := fun (v : Word) => v.toNat % 256 ^ n
  if ea.toNat % n ≠ 0 then .exc (misaligned aAtomic ea) s
  else if !(s.cpu p).sb.isEmpty then .hold s .stall
  else
    withPlaces s p ea n aAtomic aAtomic (some ⟨ea.toNat, n, true, true⟩) fun xs s =>
      match xs with
      | (x, _) :: _ =>
        (match atomicAt s p x n (f (w (s.g p d)) (w (s.g p b))) with
         | .ok old s => .done (loadResult s p (.g d n true) old)
         | .fail e s => (match p with
           | .core _ => .exc (busError e aAtomic ea) s
           | _ => .done (loadResult s p (.g d n true) 0))
         | .stall s => .hold s .stall)
      | [] => .done s

/-- CAS, AMOADD, AMOSWP on the old value (operands gd and gb). -/
def casFn (n : Nat) (gd gb old : Nat) : Option Nat := if old = gd then some (gb % 256 ^ n) else none
def addFn (n : Nat) (_gd gb old : Nat) : Option Nat := some ((old + gb) % 256 ^ n)
def swpFn (n : Nat) (_gd gb _old : Nat) : Option Nat := some (gb % 256 ^ n)

end Sys2Proof.Machine
end

