-- ==== Sys2Proof/Machine/Flags.lean ====
section
/-! DEFINITION. STATUS.OV and STATUS.DZ: when they are set, and when ARITH is raised instead (spec 05 R96, R97). -/

namespace Sys2Proof.Machine

/-- ARITH with subcode OVERFLOW or DIVZERO (08 R171). -/
def arithOverflow : Exc := ⟨cArith, 1, none⟩
def arithDivZero : Exc := ⟨cArith, 2, none⟩

/-- Write an integer result. -/
def putG (p : Proc) (d : RegNo) (v : Word) (s : State) : IRes := .done (s.setG p d v)

/-- Write an integer result; on signed overflow set OV, or raise ARITH where OVT = 1 (R96). -/
def putOv (p : Proc) (d : RegNo) (v : Word) (ov : Bool) (s : State) : IRes :=
  if ov then
    if (s.cpu p).st.ovt then .exc arithOverflow s else .done ((s.setG p d v).onSt p fun st => { st with ov := true })
  else .done (s.setG p d v)

/-- Write the result of a division by zero: set DZ, or raise ARITH where DZT = 1 (R97). -/
def putDz (p : Proc) (d : RegNo) (v : Word) (s : State) : IRes :=
  if (s.cpu p).st.dzt then .exc arithDivZero s else .done ((s.setG p d v).onSt p fun st => { st with dz := true })

/-- The true signed sum lies outside 64 bits. -/
def addOverflows (x y : Word) : Bool := x.toInt + y.toInt ≠ (x + y).toInt

/-- The true signed difference lies outside 64 bits. -/
def subOverflows (x y : Word) : Bool := x.toInt - y.toInt ≠ (x - y).toInt

/-- The same on 32 bits (ADDW, SUBW). -/
def addOverflows32 (x y : BitVec 32) : Bool := x.toInt + y.toInt ≠ (x + y).toInt
def subOverflows32 (x y : BitVec 32) : Bool := x.toInt - y.toInt ≠ (x - y).toInt

end Sys2Proof.Machine
end

