-- ==== Sys2Proof/Machine/Operands.lean ====
section
/-! DEFINITION. Operand forms of the integer instructions (spec 05, "Operands and notation"; R92, R93, R98, R100, R107)
and the values they compute. -/

namespace Sys2Proof.Machine

/-- An instruction of format A whose result comes from ga and gb. -/
def alu2 (p : Proc) (d a b : RegNo) (f : Word → Word → Word) (s : State) : State :=
  runInstr p .all (fun s => putG p d (f (s.g p a) (s.g p b)) s) s

/-- An instruction whose result comes from ga alone, or from ga and an immediate. -/
def alu1 (p : Proc) (d a : RegNo) (f : Word → Word) (s : State) : State :=
  runInstr p .all (fun s => putG p d (f (s.g p a)) s) s

/-- As alu2, with signed overflow. -/
def aluOv (p : Proc) (d : RegNo) (f : State → Word × Bool) (s : State) : State :=
  runInstr p .all (fun s => let r := f s; putOv p d r.1 r.2 s) s

/-- The effective address ga + sext(imm) (R100). -/
def effAddr (s : State) (p : Proc) (a : RegNo) (imm : BitVec 16) : Word := s.g p a + sext16 imm

/-- The target of a branch: 4 × sext(off) from the branch itself (R107). -/
def branchTarget (pc : Word) (off : BitVec 16) : Word := pc + 4 * sext16 off

/-- The target of J and JAL. -/
def jumpTarget (pc : Word) (off : BitVec 26) : Word := pc + 4 * off.signExtend 64

/-- Logical and arithmetic shifts by an amount that is never masked (R98). -/
def shl64 (x : Word) (n : Nat) : Word := if n < 64 then x <<< n else 0
def shr64 (x : Word) (n : Nat) : Word := if n < 64 then x >>> n else 0
def sar64 (x : Word) (n : Nat) : Word := x.sshiftRight (min n 63)
def shl32 (x : BitVec 32) (n : Nat) : BitVec 32 := if n < 32 then x <<< n else 0
def shr32 (x : BitVec 32) (n : Nat) : BitVec 32 := if n < 32 then x >>> n else 0
def sar32 (x : BitVec 32) (n : Nat) : BitVec 32 := x.sshiftRight (min n 31)

/-- Leading zero bits among the low `n` bits. -/
def clzFrom (x : Nat) : Nat → Nat
  | 0 => 0
  | n + 1 => if x.testBit n then 0 else 1 + clzFrom x n

/-- Trailing zero bits, looking at `n` bits from bit `k`. -/
def ctzFrom (x : Nat) (k : Nat) : Nat → Nat
  | 0 => 0
  | n + 1 => if x.testBit k then 0 else 1 + ctzFrom x (k + 1) n

/-- One bits among the low `n` bits. -/
def popFrom (x : Nat) : Nat → Nat
  | 0 => 0
  | n + 1 => b2n (x.testBit n) + popFrom x n

/-- Bits [127:64] of a signed product. -/
def mulHigh (x y : Word) : Word := BitVec.ofInt 64 (x.toInt * y.toInt / 2 ^ 64)

/-- Bits [127:64] of an unsigned product. -/
def mulHighU (x y : Word) : Word := BitVec.ofNat 64 (x.toNat * y.toNat / 2 ^ 64)

/-- A 0 or 1 result. -/
def boolWord (b : Bool) : Word := if b then 1 else 0

end Sys2Proof.Machine
end

