-- ==== Sys2Proof/Machine/Alu.lean ====
section
/-! DEFINITION. Integer arithmetic, logic, shifts and counts (spec 05 R95 to R99). -/

namespace Sys2Proof.Machine

/-- ADD (R95, R96). -/
def execAdd (p : Proc) (d a b : RegNo) (s : State) :=
  nextOf (aluOv p d (fun s => (s.g p a + s.g p b, addOverflows (s.g p a) (s.g p b))) s)

/-- ADDW (R93, R96). -/
def execAddw (p : Proc) (d a b : RegNo) (s : State) :=
  nextOf (aluOv p d (fun s =>
    (sext32 (lo32 (s.g p a) + lo32 (s.g p b)), addOverflows32 (lo32 (s.g p a)) (lo32 (s.g p b)))) s)

/-- ADDI (R95, R96). -/
def execAddi (p : Proc) (d a : RegNo) (imm : BitVec 16) (s : State) :=
  nextOf (aluOv p d (fun s => (s.g p a + sext16 imm, addOverflows (s.g p a) (sext16 imm))) s)

/-- SUB (R95, R96). -/
def execSub (p : Proc) (d a b : RegNo) (s : State) :=
  nextOf (aluOv p d (fun s => (s.g p a - s.g p b, subOverflows (s.g p a) (s.g p b))) s)

/-- SUBW (R93, R96). -/
def execSubw (p : Proc) (d a b : RegNo) (s : State) :=
  nextOf (aluOv p d (fun s =>
    (sext32 (lo32 (s.g p a) - lo32 (s.g p b)), subOverflows32 (lo32 (s.g p a)) (lo32 (s.g p b)))) s)

/-- NEG: overflow for MIN64 alone (R99). -/
def execNeg (p : Proc) (d a : RegNo) (s : State) :=
  nextOf (aluOv p d (fun s => (0 - s.g p a, subOverflows 0 (s.g p a))) s)

/-- NEGW: overflow for MIN32 alone (R99). -/
def execNegw (p : Proc) (d a : RegNo) (s : State) :=
  nextOf (aluOv p d (fun s => (sext32 (0 - lo32 (s.g p a)), subOverflows32 0 (lo32 (s.g p a)))) s)

/-- MUL: the low 64 bits; no flag. -/
def execMul (p : Proc) (d a b : RegNo) (s : State) := nextOf (alu2 p d a b (fun x y => x * y) s)

/-- MULW. -/
def execMulw (p : Proc) (d a b : RegNo) (s : State) := nextOf (alu2 p d a b (fun x y => sext32 (lo32 x * lo32 y)) s)

/-- MULH. -/
def execMulh (p : Proc) (d a b : RegNo) (s : State) := nextOf (alu2 p d a b mulHigh s)

/-- MULHU. -/
def execMulhu (p : Proc) (d a b : RegNo) (s : State) := nextOf (alu2 p d a b mulHighU s)

/-- DIV: toward zero; MIN64 ÷ -1 overflows, a zero divisor gives all ones (R97, R99). -/
def execDiv (p : Proc) (d a b : RegNo) (s : State) :=
  nextOf (runInstr p .all (fun s =>
    let x := s.g p a; let y := s.g p b
    if y = 0 then putDz p d (-1) s
    else putOv p d (BitVec.ofInt 64 (x.toInt.tdiv y.toInt)) (x == BitVec.ofNat 64 (2 ^ 63) && y == -1) s) s)

/-- DIVW. -/
def execDivw (p : Proc) (d a b : RegNo) (s : State) :=
  nextOf (runInstr p .all (fun s =>
    let x := lo32 (s.g p a); let y := lo32 (s.g p b)
    if y = 0 then putDz p d (-1) s
    else putOv p d (sext32 (BitVec.ofInt 32 (x.toInt.tdiv y.toInt))) (x == BitVec.ofNat 32 (2 ^ 31) && y == -1) s) s)

/-- DIVU. -/
def execDivu (p : Proc) (d a b : RegNo) (s : State) :=
  nextOf (runInstr p .all (fun s =>
    let x := s.g p a; let y := s.g p b
    if y = 0 then putDz p d (-1) s else putG p d (BitVec.ofNat 64 (x.toNat / y.toNat)) s) s)

/-- DIVUW: a 32-bit result, sign-extended (R93). -/
def execDivuw (p : Proc) (d a b : RegNo) (s : State) :=
  nextOf (runInstr p .all (fun s =>
    let x := lo32 (s.g p a); let y := lo32 (s.g p b)
    if y = 0 then putDz p d (-1) s else putG p d (sext32 (BitVec.ofNat 32 (x.toNat / y.toNat))) s) s)

/-- REM: the sign of the dividend; a zero divisor gives ga (R99). -/
def execRem (p : Proc) (d a b : RegNo) (s : State) :=
  nextOf (runInstr p .all (fun s =>
    let x := s.g p a; let y := s.g p b
    if y = 0 then putDz p d x s else putG p d (BitVec.ofInt 64 (x.toInt.tmod y.toInt)) s) s)

/-- REMW: a zero divisor gives sext(ga[31:0]). -/
def execRemw (p : Proc) (d a b : RegNo) (s : State) :=
  nextOf (runInstr p .all (fun s =>
    let x := lo32 (s.g p a); let y := lo32 (s.g p b)
    if y = 0 then putDz p d (sext32 x) s else putG p d (sext32 (BitVec.ofInt 32 (x.toInt.tmod y.toInt))) s) s)

/-- REMU. -/
def execRemu (p : Proc) (d a b : RegNo) (s : State) :=
  nextOf (runInstr p .all (fun s =>
    let x := s.g p a; let y := s.g p b
    if y = 0 then putDz p d x s else putG p d (BitVec.ofNat 64 (x.toNat % y.toNat)) s) s)

/-- REMUW. -/
def execRemuw (p : Proc) (d a b : RegNo) (s : State) :=
  nextOf (runInstr p .all (fun s =>
    let x := lo32 (s.g p a); let y := lo32 (s.g p b)
    if y = 0 then putDz p d (sext32 x) s else putG p d (sext32 (BitVec.ofNat 32 (x.toNat % y.toNat))) s) s)

/-- AND, OR, XOR and their immediates with zext(imm) (R95). -/
def execAnd (p : Proc) (d a b : RegNo) (s : State) := nextOf (alu2 p d a b (fun x y => x &&& y) s)
def execOr (p : Proc) (d a b : RegNo) (s : State) := nextOf (alu2 p d a b (fun x y => x ||| y) s)
def execXor (p : Proc) (d a b : RegNo) (s : State) := nextOf (alu2 p d a b (fun x y => x ^^^ y) s)
def execAndi (p : Proc) (d a : RegNo) (imm : BitVec 16) (s : State) := nextOf (alu1 p d a (fun x => x &&& zext16 imm) s)
def execOri (p : Proc) (d a : RegNo) (imm : BitVec 16) (s : State) := nextOf (alu1 p d a (fun x => x ||| zext16 imm) s)
def execXori (p : Proc) (d a : RegNo) (imm : BitVec 16) (s : State) := nextOf (alu1 p d a (fun x => x ^^^ zext16 imm) s)

/-- LUI: sext(imm) × 2^16. -/
def execLui (p : Proc) (d : RegNo) (imm : BitVec 16) (s : State) :=
  nextOf (runInstr p .all (fun s => putG p d (sext16 imm <<< 16) s) s)

/-- SLT, SLTU, SLTI, SLTIU. -/
def execSlt (p : Proc) (d a b : RegNo) (s : State) := nextOf (alu2 p d a b (fun x y => boolWord (x.slt y)) s)
def execSltu (p : Proc) (d a b : RegNo) (s : State) := nextOf (alu2 p d a b (fun x y => boolWord (x.ult y)) s)
def execSlti (p : Proc) (d a : RegNo) (imm : BitVec 16) (s : State) :=
  nextOf (alu1 p d a (fun x => boolWord (x.slt (sext16 imm))) s)
def execSltiu (p : Proc) (d a : RegNo) (imm : BitVec 16) (s : State) :=
  nextOf (alu1 p d a (fun x => boolWord (x.ult (sext16 imm))) s)

/-- SHL, SHR, SAR by the whole of gb (R98). -/
def execShl (p : Proc) (d a b : RegNo) (s : State) := nextOf (alu2 p d a b (fun x y => shl64 x y.toNat) s)
def execShr (p : Proc) (d a b : RegNo) (s : State) := nextOf (alu2 p d a b (fun x y => shr64 x y.toNat) s)
def execSar (p : Proc) (d a b : RegNo) (s : State) := nextOf (alu2 p d a b (fun x y => sar64 x y.toNat) s)

/-- The W forms, by the whole of gb. -/
def execShlw (p : Proc) (d a b : RegNo) (s : State) := nextOf (alu2 p d a b (fun x y => sext32 (shl32 (lo32 x) y.toNat)) s)
def execShrw (p : Proc) (d a b : RegNo) (s : State) := nextOf (alu2 p d a b (fun x y => sext32 (shr32 (lo32 x) y.toNat)) s)
def execSarw (p : Proc) (d a b : RegNo) (s : State) := nextOf (alu2 p d a b (fun x y => sext32 (sar32 (lo32 x) y.toNat)) s)

/-- SHLI, SHRI, SARI by zext(imm). -/
def execShli (p : Proc) (d a : RegNo) (imm : BitVec 16) (s : State) := nextOf (alu1 p d a (fun x => shl64 x imm.toNat) s)
def execShri (p : Proc) (d a : RegNo) (imm : BitVec 16) (s : State) := nextOf (alu1 p d a (fun x => shr64 x imm.toNat) s)
def execSari (p : Proc) (d a : RegNo) (imm : BitVec 16) (s : State) := nextOf (alu1 p d a (fun x => sar64 x imm.toNat) s)

/-- CLZ, CTZ, POPC. -/
def execClz (p : Proc) (d a : RegNo) (s : State) := nextOf (alu1 p d a (fun x => BitVec.ofNat 64 (clzFrom x.toNat 64)) s)
def execCtz (p : Proc) (d a : RegNo) (s : State) := nextOf (alu1 p d a (fun x => BitVec.ofNat 64 (ctzFrom x.toNat 0 64)) s)
def execPopc (p : Proc) (d a : RegNo) (s : State) := nextOf (alu1 p d a (fun x => BitVec.ofNat 64 (popFrom x.toNat 64)) s)

end Sys2Proof.Machine
end

