-- ==== Sys2Proof/Machine/Branch.lean ====
section
/-! DEFINITION. Branches, jumps and LOOP (spec 05 R107 to R112). -/

namespace Sys2Proof.Machine

/-- A conditional branch. -/
def branchIf (p : Proc) (a b : RegNo) (off : BitVec 16) (c : Word → Word → Bool) (s : State) : State :=
  runInstr p .all (fun s =>
    let pc := (s.cpu p).pc
    if c (s.g p a) (s.g p b) then .jump s (branchTarget pc off) else .done s) s

def execBeq (p : Proc) (a b : RegNo) (off : BitVec 16) (s : State) := nextOf (branchIf p a b off (fun x y => x == y) s)
def execBne (p : Proc) (a b : RegNo) (off : BitVec 16) (s : State) := nextOf (branchIf p a b off (fun x y => x != y) s)
def execBlt (p : Proc) (a b : RegNo) (off : BitVec 16) (s : State) := nextOf (branchIf p a b off (fun x y => x.slt y) s)
def execBge (p : Proc) (a b : RegNo) (off : BitVec 16) (s : State) := nextOf (branchIf p a b off (fun x y => !x.slt y) s)
def execBltu (p : Proc) (a b : RegNo) (off : BitVec 16) (s : State) := nextOf (branchIf p a b off (fun x y => x.ult y) s)
def execBgeu (p : Proc) (a b : RegNo) (off : BitVec 16) (s : State) := nextOf (branchIf p a b off (fun x y => !x.ult y) s)

/-- J. -/
def execJ (p : Proc) (off : BitVec 26) (s : State) :=
  nextOf (runInstr p .all (fun s => .jump s (jumpTarget (s.cpu p).pc off)) s)

/-- JAL: g29 takes the link. -/
def execJal (p : Proc) (off : BitVec 26) (s : State) :=
  nextOf (runInstr p .all (fun s =>
    let pc := (s.cpu p).pc
    .jump (s.setG p 29 (pc + 4)) (jumpTarget pc off)) s)

/-- JR: a target whose bits [1:0] are not zero raises MISALIGNED at the JR (R108). -/
def execJr (p : Proc) (a : RegNo) (imm : BitVec 16) (s : State) :=
  nextOf (runInstr p .all (fun s =>
    let t := effAddr s p a imm
    if t.toNat % 4 ≠ 0 then .exc (misaligned aFetch t) s else .jump s t) s)

/-- JALR: the target is computed before g29 is written. -/
def execJalr (p : Proc) (a : RegNo) (imm : BitVec 16) (s : State) :=
  nextOf (runInstr p .all (fun s =>
    let t := effAddr s p a imm
    if t.toNat % 4 ≠ 0 then .exc (misaligned aFetch t) s else .jump (s.setG p 29 ((s.cpu p).pc + 4)) t) s)

/-- LOOP k, a, off (R109). -/
def execLoop (p : Proc) (k a : RegNo) (off : BitVec 16) (s : State) :=
  nextOf (runInstr p .all (fun s =>
    if k.val > 1 ∨ off.toInt < 2 then .exc illegal s
    else
      let c := s.cpu p
      let n := s.g p a
      let le := branchTarget c.pc off
      let s := s.setCpu p { c with ls := mset 0 c.ls k.val (c.pc + 4), le := mset 0 c.le k.val le, lc := mset 0 c.lc k.val n }
      if n = 0 then .jump s (le + 4) else .done s) s)

end Sys2Proof.Machine
end

