-- ==== Sys2Proof/Machine/DebugPort.lean ====
section
/-! DEFINITION. The debug port (spec 23 R467, R469, R471; 16 R348; 17 R384): its instruction register, the status and
data it scans out, and its accesses, made as requests of Strainer class 7 without a partition. -/

namespace Sys2Proof.Machine

/-- The port's instruction register is loaded. -/
def portIr (s : State) (code : BitVec 8) : State := onDbg s fun d => { d with ir := code }

/-- Codes of R471. -/
def irBypass : BitVec 8 := 0xFF
def irIdcode : BitVec 8 := 0x01
def irSample : BitVec 8 := 0x02
def irExtest : BitVec 8 := 0x00
def irKstat : BitVec 8 := 0x10
def irCert : BitVec 8 := 0x11
def irAccess : BitVec 8 := 0x12

/-- BYPASS. -/
def execBypass (s : State) : Host.Outcome State Fault Refusal := .next (portIr s irBypass)

/-- The identity: version 2, part 0x7160, Evoeno's manufacturer code, which the spec does not give. -/
def idcodeWord (manufacturer : Nat) : Nat := 1 + manufacturer % 2 ^ 11 * 2 + 0x7160 * 2 ^ 12 + 2 * 2 ^ 28

/-- IDCODE. -/
def execIdcode (s : State) : Host.Outcome State Fault Refusal :=
  .next (
    let (k, s) := s.takeFree
    onDbg (portIr s irIdcode) fun d => { d with data := BitVec.ofNat 64 (idcodeWord (Config.freeNat k)) })

/-- SAMPLE/PRELOAD: the levels that the boundary register samples are the balls'. -/
def execSamplePreload (s : State) : Host.Outcome State Fault Refusal := .next (portIr s irSample)

/-- EXTEST, in BLANK and MANUFACTURE only; elsewhere BYPASS. The safe outputs, mirror ports and lanes are not in the
boundary register. -/
def execExtest (s : State) : Host.Outcome State Fault Refusal :=
  .next (portIr s (if s.fl F.LC_STATE_STATE 0 ≤ 1 then irExtest else irBypass))

/-- The registers that KSTAT reads: KT_READY0 to KT_READY3, KT_RSTCAUSE, KT_SUPPLY, KT_SAFECTL, KT_TRIGSTAT, DREGS_STAT
(17 R384). -/
def kstatRegs : List Nat :=
  [0xE00000020, 0xE00000028, 0xE00000030, 0xE00000038, 0xE00000008, 0xE00000100, 0xE00000510, 0xE00000528, 0xE00001000]

/-- KSTAT: one 64-bit value of the registers and the log, at every level (R471). -/
def execKstat (addr : BitVec 36) (s : State) : Host.Outcome State Fault Refusal :=
  .next (
    let s := portIr s irKstat
    let off := addr.toNat
    if kstatRegs.contains off then onDbg s fun d => { d with data := BitVec.ofNat 64 (regRead s off) }
    else if inLog off && off % 8 == 0 then
      onDbg s fun d => { d with data := BitVec.ofNat 64 (cut (logWord s ((off - 0xE00008000) / 32)) (off % 32) 8) }
    else s)

/-- CERT: 136 bytes for the Caddy, or for its ROM in recovery (R468, R469; 16 R348). -/
def execCert (bytes : List Byte) (sigOk : Bool) (s : State) : Host.Outcome State Fault Refusal :=
  .next (
    let s := portIr s irCert
    if serves s 0 && bytes.length == 136 then (caddyCert s (certOf bytes) sigOk).2 else s)

/-! ### ACCESS -/

/-- Status codes. -/
def psOk : Nat := 0
def psLevel : Nat := 1
def psStrainer : Nat := 2
def psNoTarget : Nat := 3
def psSize : Nat := 4
def psNotReady : Nat := 5

/-- What R467 allows the port: at level non-invasive the trace configuration, reads of the trace buffer, reads of DRAM
and scratch SRAM; at level full everything. -/
def portAllows (s : State) (off : Nat) (isWrite : Bool) : Bool :=
  match portLevel s with
  | 0 => false
  | 1 => (0xE05020000 ≤ off && off < 0xE05020030) || (!isWrite && (inTraceBuffer off || off < 0xC00400000))
  | _ => true

/-- The status of a failed access. One for which the port has no code leaves an open status. -/
def portFail (s : State) (e : Nat) : State :=
  let set := fun (s : State) (n : Nat) => onDbg s fun d => { d with status := n }
  if e = beStrainer then set s psStrainer
  else if e = beNoTarget then set s psNoTarget
  else if e = beSize then set s psSize
  else if e = beNotReady then set s psNotReady
  else let (k, s) := s.takeFree; set s (Config.freeNat k)

/-- The access itself. -/
def portGo (s : State) (off : Nat) (isWrite : Bool) (data : Word) : Res Nat :=
  match target s off with
  | .hole => .fail beNoTarget s
  | .reg =>
    if isWrite then
      match deviceWrite s .debugPort off 8 data with
      | .ok _ s => .ok 0 s
      | .fail e s => .fail e s
      | .stall s => .stall s
    else deviceRead s .debugPort off 8
  | .rom => if isWrite then .fail beNoTarget s else snoopRead s 7 none 0 off 8
  | _ =>
    if mirrorStalls s (off / 64) then .stall s
    else if isWrite then
      if mirrorDenied s (off / 64) then .fail beType s
      else
        match snoopWrite s 7 none 1 off 8 data.toNat with
        | .ok _ s => .ok 0 s
        | .fail e s => .fail e s
        | .stall s => .stall s
    else snoopRead s 7 none 0 off 8

/-- ACCESS. One that must wait is presented again (log 5); a read that fails returns zeros (16 R358, 19 R406). -/
def execAccess (addr : BitVec 36) (isWrite : Bool) (data : Word) (s : State) : Host.Outcome State Fault Refusal :=
  .next (
    let s := portIr s irAccess
    let off := addr.toNat
    if !portAllows s off isWrite then onDbg s fun d => { d with status := psLevel }
    else if off % 8 ≠ 0 then onDbg s fun d => { d with status := psSize }
    else
      match portGo s off isWrite data with
      | .ok v s => onDbg s fun d => { d with status := psOk, data := if isWrite then d.data else BitVec.ofNat 64 v }
      | .fail e s => portFail (if isWrite then s else onDbg s fun d => { d with data := 0 }) e
      | .stall s => s)

end Sys2Proof.Machine
end

