-- ==== Sys2Proof/Machine/Sys.lean ====
section
/-! DEFINITION. The system instructions (spec 05 R118 to R126): control registers (04 R80, R86 to R89; 06 R135), gates,
TRET, MCALL and EACK (04 R81 to R85, R91), packet queues (05 R118, R120; 13 R294), POUR.WAIT and WAIT. -/

namespace Sys2Proof.Machine

/-! ### Control registers -/

/-- The control registers by name. `lc`, `ls` and `le` carry the loop level. -/
inductive Ctl where
  | status | epc | estat | eaddr | eackstat | gatebase | vecbase | mvec | mepc | mstat | ptroot | asid | partition
  | fpstat | lc (k : Nat) | ls (k : Nat) | le (k : Nat) | cycle | epochno | pwrmode | dbgctl
  deriving DecidableEq, Repr

/-- Control register numbers (06 R135). -/
def ctlOf (n : Nat) : Option Ctl :=
  match n with
  | 0x000 => some .status
  | 0x001 => some .epc
  | 0x002 => some .estat
  | 0x003 => some .eaddr
  | 0x004 => some .eackstat
  | 0x010 => some .gatebase
  | 0x011 => some .vecbase
  | 0x012 => some .mvec
  | 0x018 => some .mepc
  | 0x019 => some .mstat
  | 0x020 => some .ptroot
  | 0x021 => some .asid
  | 0x022 => some .partition
  | 0x030 => some .fpstat
  | 0x040 => some (.lc 0)
  | 0x041 => some (.ls 0)
  | 0x042 => some (.le 0)
  | 0x044 => some (.lc 1)
  | 0x045 => some (.ls 1)
  | 0x046 => some (.le 1)
  | 0x050 => some .cycle
  | 0x051 => some .epochno
  | 0x060 => some .pwrmode
  | 0x070 => some .dbgctl
  | _ => none

/-- The register that a number names on a processor: bank M has no EPC or ESTAT (06 R135); an Infuser and the Caddy have
a few only (20 R414, 16 R342). -/
def ctlFor (p : Proc) (k : Cpu) (n : Nat) : Option Ctl :=
  (ctlOf n).filter fun r =>
    match p with
    | .core _ => !(k.st.ml && (r == .epc || r == .estat))
    | _ => match r with
      | .status | .epc | .estat | .eaddr | .lc _ | .ls _ | .le _ | .cycle | .epochno => true
      | _ => false

/-- The least privileged ring that may read or write a register; none: the machine level only (04 R80). DESIGN CHOICE
(log 85): R80 lists only MFC for EADDR, EACKSTAT and EPOCHNO; MTC to them, which changes nothing, needs the ring of MFC. -/
def ctlRing (r : Ctl) (write : Bool) : Option Nat :=
  match r with
  | .status => some 3
  | .fpstat => some 3
  | .lc _ => some 3
  | .ls _ => some 3
  | .le _ => some 3
  | .cycle => if write then none else some 3
  | .epochno => some 3
  | .epc => some 2
  | .estat => some 2
  | .eaddr => some 2
  | .eackstat => some 2
  | .gatebase => some 0
  | .vecbase => some 0
  | .ptroot => some 0
  | .asid => some 0
  | .pwrmode => some 0
  | .partition => if write then none else some 0
  | .dbgctl => if write then none else some 0
  | .mepc => none
  | .mstat => none
  | .mvec => none

/-- The ring of the executing context allows the access; an Infuser and the Caddy have no rings. -/
def ctlAllowed (p : Proc) (k : Cpu) (r : Ctl) (write : Bool) : Bool :=
  match p with
  | .core _ => k.st.ml || (match ctlRing r write with | some m => k.st.ring.toNat ≤ m | none => false)
  | _ => true

/-- ESTAT or MSTAT as read. -/
def estatWord (p : Proc) (b : Bank) : Word :=
  (match p with | .core _ => statusWord b.saved b.savedOrphan | _ => statusWordI b.saved)
    ||| BitVec.ofNat 64 (b.cause.toNat * 2 ^ 32 + b.sub.toNat * 2 ^ 40)

/-- EACKSTAT as read. -/
def eackWord (b : Bank) : Word := BitVec.ofNat 64 (b2n b.fres + b2n b.fwr * 2 + b.entryCyc.toNat * 2 ^ 16)

/-- A control register as MFC reads it. -/
def ctlRead (s : State) (p : Proc) (r : Ctl) : Word :=
  let k := s.cpu p
  let b := k.bank (bankInUse p k)
  match r with
  | .status => (match p with | .core c => statusWord k.st (dirtyOrphan s c) | _ => statusWordI k.st)
  | .epc => b.epc
  | .estat => estatWord p b
  | .eaddr => b.eaddr
  | .eackstat => eackWord b
  | .gatebase => k.gatebase
  | .vecbase => k.vecbase
  | .mvec => k.mvec
  | .mepc => (k.bank 9).epc
  | .mstat => estatWord p (k.bank 9)
  | .ptroot => k.ptroot
  | .asid => k.asid
  | .partition => k.partition
  | .fpstat => k.fpstat
  | .lc i => mget 0 k.lc i
  | .ls i => mget 0 k.ls i
  | .le i => mget 0 k.le i
  | .cycle => k.cycle
  | .epochno => k.epochNo
  | .pwrmode => k.pwrmode
  | .dbgctl => (k.dbgctl &&& 0xF) ||| (if k.dbgReq then 0x10 else 0)

/-- CYCLE has counted since it was last seen; how many cycles is open (log 8, 72). -/
def passCycles (s : State) (p : Proc) : State :=
  let (n, s) := s.takeFree
  let k := s.cpu p
  s.setCpu p { k with cycle := k.cycle + BitVec.ofNat 64 (Config.freeNat n) }

/-- MFC d, c (R124): the register's number first, its ring, then FP DISABLED (08 R173). -/
def execMfc (p : Proc) (d : RegNo) (n : BitVec 12) (s : State) :=
  nextOf (runInstr p .all (fun s =>
    match ctlFor p (s.cpu p) n.toNat with
    | none => .exc illegal s
    | some r =>
      if !ctlAllowed p (s.cpu p) r false then .exc privileged s
      else
        match p, r with
        | .core c, .fpstat => fpFirst s c fun s => .done (s.setG p d (ctlRead s p .fpstat))
        | _, .cycle => let s := passCycles s p; .done (s.setG p d (ctlRead s p .cycle))
        | _, _ => .done (s.setG p d (ctlRead s p r))) s)

/-- The fields of a saved STATUS that a write changes: not BANK, LIVE, ML, LEGACY, DIRTY_ORPHAN. -/
def savedWrite (p : Proc) (st : Status) (v : Word) : Status :=
  let st := { st with exl := v.getLsbD 4, ov := v.getLsbD 7, dz := v.getLsbD 8, ovt := v.getLsbD 9, dzt := v.getLsbD 10 }
  match p with
  | .core _ => { st with ie := v.getLsbD 0, ipl := v.extractLsb' 1 3, ring := v.extractLsb' 5 2, fpe := v.getLsbD 11,
                         fpd := v.getLsbD 12 }
  | _ => st

/-- MTC to STATUS (R86, R87): OV, DZ, OVT and DZT at any ring; IE, IPL, FPE and FPD at ring 0; LEGACY at the machine level.
IE and IPL become pending after those of the instruction before have taken effect. -/
def statusWrite (p : Proc) (k : Cpu) (v : Word) : Cpu :=
  let ring0 := ringOf k == 0
  let st := withPending k
  let st := { st with ov := v.getLsbD 7, dz := v.getLsbD 8, ovt := v.getLsbD 9, dzt := v.getLsbD 10 }
  match p with
  | .core _ =>
    let st := if ring0 then { st with fpe := v.getLsbD 11, fpd := v.getLsbD 12 } else st
    let st := if k.st.ml then { st with legacy := v.getLsbD 14 } else st
    if ring0 then { k with st := st, pendIe := some (v.getLsbD 0), pendIpl := some (v.extractLsb' 1 3) }
    else { k with st := st, pendIe := none, pendIpl := none }
  | _ => { k with st := st }

/-- MTC to FPSTAT: RM values 5 to 7 are ignored. -/
def fpstatWrite (old v : Word) : Word :=
  let rm := v.extractLsb' 10 3
  let v := v &&& 0xFF3FFF
  if rm ≤ 4 then v else (v &&& ~~~(0x1C00 : Word)) ||| (old &&& 0x1C00)

/-- MTC to MVEC: the first writes BASE and sets LOCK; later ones are ignored (R89). -/
def mvecWrite (old v : Word) : Word := if old.getLsbD 0 then old else (v &&& 0xFFFFFE000) ||| 1

/-- MTC to a register of the bank in use, or of bank M. -/
def bankWrite (k : Cpu) (b : Nat) (f : Bank → Bank) : Cpu := k.setBank b (f (k.bank b))

/-- MTC to any register but STATUS and FPSTAT. A register that is read-only takes nothing. -/
def ctlWrite (s : State) (p : Proc) (r : Ctl) (v : Word) : State :=
  let k := s.cpu p
  let n := bankInUse p k
  let put := fun (k : Cpu) => s.setCpu p k
  match r with
  | .epc => put (bankWrite k n fun b => { b with epc := v &&& ~~~(3 : Word) })
  | .estat => put (bankWrite k n fun b => { b with saved := savedWrite p b.saved v })
  | .mepc => put (bankWrite k 9 fun b => { b with epc := v &&& ~~~(3 : Word) })
  | .mstat => put (bankWrite k 9 fun b => { b with saved := savedWrite p b.saved v })
  | .gatebase => put { k with gatebase := v &&& 0xFFFFFFFFF001 }
  | .vecbase => put { k with vecbase := v &&& 0xFFFFFFFFF000 }
  | .mvec => put { k with mvec := mvecWrite k.mvec v }
  | .ptroot => put { k with ptroot := v &&& 0xFFFFFF000 }
  | .asid => put { k with asid := v &&& 0xFFFF }
  | .partition => recheckDebug (put { k with partition := v &&& 0x3F })
  | .lc i => put { k with lc := mset 0 k.lc i v }
  | .ls i => put { k with ls := mset 0 k.ls i (v &&& ~~~(3 : Word)) }
  | .le i => put { k with le := mset 0 k.le i (v &&& ~~~(3 : Word)) }
  | .cycle => put { k with cycle := v, cycleOff := k.cycleOff + (v - k.cycle) }
  | .pwrmode => put { k with pwrmode := v &&& 0x3FFFFFFF }
  | .dbgctl => put { k with dbgctl := v &&& 0xF, dbgReq := k.dbgReq && v.getLsbD 0 }
  | .status => s
  | .fpstat => s
  | .eaddr => s
  | .eackstat => s
  | .epochno => s

/-- MTC c, a (R86, R124). CYCLE of an Infuser and of the Caddy is written as at the machine level. -/
def execMtc (p : Proc) (n : BitVec 12) (a : RegNo) (s : State) :=
  nextOf (runInstr p .all (fun s =>
    match ctlFor p (s.cpu p) n.toNat with
    | none => .exc illegal s
    | some r =>
      if !ctlAllowed p (s.cpu p) r true then .exc privileged s
      else
        let v := s.g p a
        match p, r with
        | .core c, .fpstat => fpFirst s c fun s =>
            let k := s.cpu p
            .done (fpDirty (s.setCpu p { k with fpstat := fpstatWrite k.fpstat v }) p)
        | .core _, .status => .doneKeep (s.setCpu p (statusWrite p (s.cpu p) v))
        | _, .status => .done (s.setCpu p (statusWrite p (s.cpu p) v))
        | _, _ => .done (ctlWrite s p r v)) s)

/-! ### Calls and returns -/

/-- An instruction that completes into an entry: the loop end check runs first, and gives the saved pc (R110). -/
def completeInto (s : State) (p : Proc) (enter : State → Word → State) : State :=
  let k := s.cpu p
  let (k, npc) := loopEnd k k.pc (k.pc + 4)
  countDone (enter (s.setCpu p k) npc) p

/-- A gate (R81): target, VALID, TRING, CLIMIT, MASK, reserved bits. -/
structure Gate where
  target : Word
  valid : Bool
  tring : BitVec 2
  climit : BitVec 2
  mask : Bool
  reserved : Bool
  deriving DecidableEq, Repr

def gateOf (lo hi : Nat) : Gate :=
  { target := BitVec.ofNat 64 lo, valid := bitAt hi 0, tring := BitVec.ofNat 2 (slice hi 2 1),
    climit := BitVec.ofNat 2 (slice hi 4 3), mask := bitAt hi 5, reserved := slice hi 63 6 != 0 }

/-- RING with a subcode. -/
def ringExc (sub : Nat) : Exc := ⟨cRing, sub, none⟩

/-- The gate entry may be used by a caller at ring `c` (R82). -/
def gateFault (e : Gate) (c : BitVec 2) : Option Exc :=
  if !e.valid || e.reserved || e.tring == 3 || (e.mask && e.tring != 0) || e.target.toNat % 4 != 0 then some (ringExc 2)
  else if c > e.climit || e.tring > c then some (ringExc 3)
  else none

/-- Read gate `n` at its local physical address, as a Normal-WB access of the core's partition: the core's own buffered
stores are seen (10 R218). -/
def readGate (s : State) (c : Fin 16) (n : Nat) : XRes Gate :=
  let p := Proc.core c
  let at_ := (s.cpu p).gatebase.toNat / 2 ^ 12 % 2 ^ 24 * 2 ^ 12 + 16 * n
  let va := BitVec.ofNat 64 at_
  let x : XAddr := ⟨at_ % 2 ^ 36, .normalWb⟩
  let gate := fun (v : Nat) => gateOf (v % 2 ^ 64) (v / 2 ^ 64)
  match checkPlace s p x 16 aLoad with
  | some e => .exc (busError e aLoad va) s
  | none =>
    if sbPosted (s.cpu p).sb then .stall s
    else
    match sbForward (s.cpu p).sb x.place 16 with
    | .all v => .ok (gate v) s
    | .part => .stall s
    | .none => ((placeRead s p x 16).toX aLoad va).bind fun v s => .ok (gate v) s

/-- TRAP #n (R82, R83, R91, R176, R185). -/
def trapOp (c : Fin 16) (n : Nat) (s : State) : IRes :=
  let p := Proc.core c
  let k := s.cpu p
  let self : Exc := ⟨cTrap, n, none⟩
  if k.st.ml || (k.st.legacy && k.st.ring == 3) then
    if k.st.exl then .exc self s
    else .entered (completeInto s p fun s npc => enterMachine s c 0 cTrap n npc none)
  else if !k.gatebase.getLsbD 0 || k.gatebase.toNat / 2 ^ 36 % 2 ^ 12 < n then .exc (ringExc 1) s
  else
    (readGate s c n).then fun e s =>
      match gateFault e k.st.ring with
      | some f => .exc f s
      | none =>
        if k.st.exl then .exc self s
        else
          match writeFrame s c with
          | .exc f s => .entered (doubleFault s c f k.pc true)
          | .stall s => .hold s .again
          | .ok _ s =>
            .entered (completeInto s p fun s npc => enterBank s c cTrap n npc none e.tring e.mask false e.target)

def execTrap (p : Proc) (n : BitVec 12) (s : State) :=
  nextOf (runInstr p .cores (fun s => match p with | .core c => trapOp c n.toNat s | _ => .exc illegal s) s)

/-- MCALL (R85, R91): ring 0 and the machine level, and ring 3 in LEGACY. -/
def execMcall (p : Proc) (s : State) :=
  nextOf (runInstr p .cores (fun s =>
    match p with
    | .core c =>
      let k := s.cpu p
      if ringOf k ≠ 0 && !(k.st.legacy && k.st.ring == 3) then .exc privileged s
      else if k.st.exl then .exc ⟨cTrap, 0x1000, none⟩ s
      else .entered (completeInto s p fun s npc => enterMachine s c 0 cTrap 0x1000 npc none)
    | _ => .exc illegal s) s)

/-- STATUS after a TRET to the saved STATUS `v` (R84, R91). -/
def returnStatus (k : Cpu) (v : Status) : Status :=
  let st := k.st
  let ring := if st.ml && st.legacy && !v.ml then 3 else v.ring
  let live := if v.bank != st.bank then (st.live &&& ~~~(1#10 <<< st.bank.toNat)) ||| 1 else st.live
  let r := { st with ring := ring, exl := v.exl, ov := v.ov, dz := v.dz, ovt := v.ovt, dzt := v.dzt, fpd := v.fpd,
                     bank := v.bank, ml := v.ml, live := live }
  if st.ml || st.ring == 0 then { r with ie := v.ie, ipl := v.ipl, fpe := v.fpe } else r

/-- The next TRET of a core with STEP or SKIP set chooses the bank they act in (23 R475). -/
def armStep (s : State) (c : Fin 16) : State :=
  let p := Proc.core c
  let k := s.cpu p
  if (s.fb F.DB_CORECTL_STEP c.val || s.fb F.DB_CORECTL_SKIP c.val) && k.stepBank.isNone then
    s.setCpu p { k with stepBank := some k.st.bank }
  else s

/-- TRET of a core: the return, the end of the bank's owed frame (08 R180, R184), the source that the bank accepted
(R190), and a supervisory event held by the machine level (R78). -/
def tretCore (c : Fin 16) (s : State) : IRes :=
  let p := Proc.core c
  let k := s.cpu p
  let n := k.st.bank.toNat
  let b := k.bank n
  let v := b.saved
  if !k.st.ml && k.st.ring == 3 then .exc privileged s
  else if !k.st.ml && v.ring < k.st.ring then .exc (ringExc 4) s
  else
    let (k1, npc) := loopEnd k k.pc b.epc
    let leaves := v.bank != k.st.bank
    let b1 := { b with owes := false, source := if leaves then none else b.source }
    let k1 := clearPending (k1.setBank n b1)
    let must := k.st.ml && !v.ml && k.supPend != 0
    let s := s.setCpu p { k1 with st := returnStatus k v, pc := npc, wait := .none, mustTake := must }
    let s := match b.source with
      | some src => if leaves then icRelease s src else s
      | none => s
    .entered (armStep (debugStep (countDone s p) p n) c)

/-- TRET of a processor with one bank (20 R414, R415). -/
def tretOne (p : Proc) (s : State) : IRes :=
  let k := s.cpu p
  let b := k.bank 0
  let v := b.saved
  .jump (s.setCpu p { k with st := { k.st with exl := v.exl, ov := v.ov, dz := v.dz, ovt := v.ovt, dzt := v.dzt } }) b.epc

def execTret (p : Proc) (s : State) :=
  nextOf (runInstr p .all (fun s => match p with | .core c => tretCore c s | _ => tretOne p s) s)

/-- EACK (R125). Only a core has EACKSTAT. -/
def execEack (p : Proc) (s : State) :=
  nextOf (runInstr p .all (fun s =>
    if (s.cpu p).st.exl then
      let s := match p with | .core _ => passCycles s p | _ => s
      let k := s.cpu p
      let k := match p with
        | .core _ => bankWrite k (bankInUse p k) fun b =>
            { b with entryCyc := BitVec.ofNat 16 (min (cyclesRun k - b.entryAt).toNat 0xFFFF) }
        | _ => k
      .done (s.setCpu p { k with st := { k.st with exl := false } })
    else .done s) s)

/-- BRK (R126). -/
def execBrk (p : Proc) (s : State) := nextOf (runInstr p .all (fun s => .exc ⟨cDebug, 1, none⟩ s) s)

/-! ### Waiting -/

/-- POUR.WAIT d, a (R121); its issue above EPOCHNO checks in (14 R314). -/
def execPourWait (p : Proc) (d a : RegNo) (s : State) :=
  nextOf (runInstr p .cores (fun s =>
    match p with
    | .core c =>
      let e := (s.cpu p).epochNo
      if s.g p a ≤ e then .done (s.setG p d e) else .hold (edwPourWait s c.val) (.pour d (s.g p a))
    | _ => .exc illegal s) s)

/-- WAIT d (R122). -/
def execWait (p : Proc) (d : RegNo) (s : State) :=
  nextOf (runInstr p .cores (fun s =>
    match p with
    | .core c =>
      if ringOf (s.cpu p) ≠ 0 then .exc privileged s
      else if wakeCond s c then .done (s.setG p d 2)
      else .entered (requestSleep (s.setCpu p { s.cpu p with wait := .sleep d }) c)
    | _ => .exc illegal s) s)

/-! ### Packet queues -/

/-- queue(gb) does not admit the core (13 R294). -/
def queueDenied (s : State) (c : Fin 16) (gb : Nat) (en part minring : Fld) : Bool :=
  let st := (s.cpu (.core c)).st
  15 < gb || !s.fb en gb || s.fl part gb != partOf s c || (!st.ml && s.fl minring gb < st.ring.toNat)

/-- BUS_ERROR with subcode QUEUE: the access has no address, EADDR takes ga (log 40). -/
def queueExc (ga : Word) : Exc := busError beQueue aAtomic ga

/-- Region types that may hold a block. -/
def blockType (t : RType) : Bool :=
  match t with
  | .normalWb => true
  | .normalWt => true
  | .normalNc => true
  | .mirroredWb => true
  | _ => false

/-- Translate one page's part of a block for reading. -/
def blockPlace (s : State) (c : Fin 16) (va : Word) : XRes XAddr :=
  let p := Proc.core c
  (resolveAs s c va aLoad aAtomic).bind fun x s =>
    if !blockType x.rtype then .exc (busError beType aAtomic va) s
    else
      match checkPlace s p x 8 aLoad with
      | some e => .exc (busError e aAtomic va) s
      | none => .ok x s

/-- The payload length that the header image at a place gives: its LEN, none for a READ (13 R276, R278). -/
def blockPayload (s : State) (c : Fin 16) (x : XAddr) (va : Word) : XRes Nat :=
  ((placeRead s (.core c) x 32).toX aAtomic va).bind fun v s =>
    let h := headerPacket (natBytes v 32) []
    .ok (if h.cmd.toNat = pRead then 0 else h.len.toNat) s

/-- The physical pieces of the `n` bytes of a block from the page at `va` on; `pages` bounds the pages. -/
def pagePieces : Nat → State → Fin 16 → Word → Nat → XRes (List (Nat × Nat))
  | 0, s, _, _, _ => .ok [] s
  | pages + 1, s, c, va, n =>
    if n = 0 then .ok [] s
    else
      (blockPlace s c va).bind fun y s =>
        (pagePieces pages s c (va + 4096) (n - 4096)).bind fun ps s => .ok ((y.place, min n 4096) :: ps) s

/-- The physical pieces of a block of `n` bytes at `ga`, one for each page that it touches: a LEN of 13 bits reaches at most
two pages beyond the first. -/
def blockPieces (s : State) (c : Fin 16) (ga : Word) (x : XAddr) (n : Nat) : XRes (List (Nat × Nat)) :=
  let room := 4096 - ga.toNat % 4096
  (pagePieces 2 s c (ga + BitVec.ofNat 64 room) (n - room)).bind fun ps s => .ok ((x.place, min n room) :: ps) s

/-- SEND d, a, b (R118): after every earlier store (10 R229). Every page that the block touches is translated before its
length is judged. -/
def sendOp (c : Fin 16) (d a b : RegNo) (s : State) : IRes :=
  let p := Proc.core c
  let ga := s.g p a
  let q := (s.g p b).toNat
  if queueDenied s c q F.NG_SQCFG_EN F.NG_SQCFG_PART F.NG_SQCFG_MINRING then .exc (queueExc ga) s
  else if ga.toNat % 32 ≠ 0 then .exc (misaligned aAtomic ga) s
  else if !(s.cpu p).sb.isEmpty then .hold s .stall
  else
    (blockPlace s c ga).then fun x s =>
      (blockPayload s c x ga).then fun len s =>
        (blockPieces s c ga x (32 + len)).then fun ps s =>
          let ring := mget [] s.router.sq q
          if 4096 < len then .done (s.setG p d 3)
          else if 2 ^ min (s.fl F.NG_SQCFG_DEPTH q) 8 ≤ ring.length then .done (s.setG p d 1)
          else
            let s := { s with router := { s.router with sq := mset [] s.router.sq q (ring ++ [SqEntry.mk ps c]) } }
            .done (s.setG p d 0)

def execSend (p : Proc) (d a b : RegNo) (s : State) :=
  nextOf (runInstr p .cores (fun s => match p with | .core c => sendOp c d a b s | _ => .exc illegal s) s)

/-- The slot of a receive ring that RECV returned first and has not released. -/
def oldestSlot (s : State) (q : Nat) : Nat :=
  let r := mget {} s.router.rq q
  let n := ringSlots (s.fl F.NG_RQCFG_SLOTS q)
  (r.next + n - r.lens.length % n) % n

/-- RECV d, a, b (R120). A release waits until the store buffer is empty (10 R229). -/
def recvOp (c : Fin 16) (d a b : RegNo) (s : State) : IRes :=
  let p := Proc.core c
  let ga := s.g p a
  let q := (s.g p b).toNat
  if queueDenied s c q F.NG_RQCFG_EN F.NG_RQCFG_PART F.NG_RQCFG_MINRING then .exc (queueExc ga) s
  else
    let r := mget {} s.router.rq q
    let asks := ga != 0xFFFFFFFFFFFFFFFF
    let frees := asks && r.returned != 0 && ga.toNat == oldestSlot s q
    if frees && !(s.cpu p).sb.isEmpty then .hold s .stall
    else
      let r := if frees then { r with lens := r.lens.drop 1, returned := r.returned - 1 } else r
      let n := ringSlots (s.fl F.NG_RQCFG_SLOTS q)
      let slot := (r.next + n - r.lens.length % n + r.returned) % n
      let (got, r) := match r.lens[r.returned]? with
        | some len => (slot % 2 ^ 16 + len % 2 ^ 13 * 2 ^ 32, { r with returned := r.returned + 1 })
        | none => (2 ^ 63, r)
      let v := got + b2n (asks && !frees) * 2 ^ 61 + b2n (s.fb F.NG_RQCFG_OVERRUN q) * 2 ^ 62
      let s := (s.setB F.NG_RQCFG_OVERRUN q false).setG p d (BitVec.ofNat 64 v)
      .done (rqLine { s with router := { s.router with rq := mset {} s.router.rq q r } } q)

def execRecv (p : Proc) (d a b : RegNo) (s : State) :=
  nextOf (runInstr p .cores (fun s => match p with | .core c => recvOp c d a b s | _ => .exc illegal s) s)

end Sys2Proof.Machine
end

