-- ==== Sys2Proof/Machine/Entry.lean ====
section
/-! DEFINITION. What ends or interrupts the instruction stream of a processor from outside it: entries at an instruction
boundary (spec 08 R172, R178, R180, R186; 23 R473), words that name no instruction and fetches that fail (06 R136, 08
R173), remote READs and WRITEs that are refused or never answered (08 R193, 10 R226, 13 R282). -/

namespace Sys2Proof.Machine

/-! ### Entries -/

/-- Core `c` stands at a boundary, or waits in an instruction that an interrupt abandons (05 R123, 08 R182). -/
def atBoundary (s : State) (c : Fin 16) : Bool :=
  let p := Proc.core c
  (s.cpu p).run == .running && !clockStopped s p && (match (s.cpu p).wait with
    | .none => true
    | .again => true
    | .placed _ remote => remote
    | .entry .. => true
    | .fenceC => true
    | .remote .. => true
    | .pour .. => true
    | _ => false)

/-- The waiting instruction is abandoned: the READs of a remote load stay in flight (R193). -/
def abandon (s : State) (c : Fin 16) : State :=
  let p := Proc.core c
  let k := s.cpu p
  match k.wait with
  | .remote _ _ ps =>
    let tags := ps.filterMap fun x => if x.got.isNone then some x.tag else none
    s.setCpu p { k with wait := .none, rtags := k.rtags.map fun r => if tags.contains r.tag then { r with abandoned := true } else r }
  | _ => s.setCpu p { k with wait := .none }

/-- An interrupt abandons the waiting instruction; a remote load counts as event 0x09 (23 R485). -/
def interruptAbandons (s : State) (c : Fin 16) : State :=
  let s := match (s.cpu (.core c)).wait with
    | .remote .. => countCore s 0x09 c
    | _ => s
  abandon s c

/-- Secure interrupts: pending, and bank S not live (R172). -/
def secureTakes (s : State) (c : Fin 16) : Option Nat :=
  let k := s.cpu (.core c)
  if k.st.ml || k.st.live.getLsbD 8 then none else icTop s (icPresented s c.val true)

/-- The level source that an entry would take: IE = 1 and its level above IPL. -/
def levelTakes (s : State) (c : Fin 16) : Option Nat :=
  let k := s.cpu (.core c)
  if k.st.ml || !k.st.ie then none
  else (icTop s (icPresented s c.val false)).filter fun n => k.st.ipl.toNat < s.fl F.IC_SRC_PRIO n

/-- Level of a DEBUG REQUEST: 0 acts as 1. -/
def debugLevel (k : Cpu) : Nat := max 1 (k.dbgctl.toNat / 2 % 8)

/-- A DEBUG REQUEST is accepted before any source of its level or below (23 R473). -/
def debugTakes (s : State) (c : Fin 16) : Bool :=
  let k := s.cpu (.core c)
  let q := debugLevel k
  k.dbgReq && k.dbgctl.getLsbD 0 && k.st.ie && k.st.ipl.toNat < q && !k.st.ml && !k.st.legacy && !k.st.live.getLsbD q
    && (match levelTakes s c with | some n => s.fl F.IC_SRC_PRIO n ≤ q | none => true)

/-- An interrupt entry to bank `b` (R83, R174, R175, R178, R180); `src` is the claimed source. Where g30 is
misaligned, MEPC of the double fault is the interrupted pc (log 83). -/
def enterInterrupt (s : State) (c : Fin 16) (b cause sub : Nat) (src : Option Nat) : State :=
  let p := Proc.core c
  let s := interruptAbandons s c
  let k := s.cpu p
  let x := k.bank b
  let x := { x with epc := k.pc &&& ~~~(3 : Word), saved := savedStatus k, savedOrphan := dirtyOrphan s c,
                    cause := BitVec.ofNat 8 cause, sub := BitVec.ofNat 16 sub, entryAt := cyclesRun k, source := src }
  let st := { entryFlags k.st with bank := BitVec.ofNat 4 b, ring := 0, ipl := if b = 8 then 7 else BitVec.ofNat 3 b,
                                   live := k.st.live ||| (1#10 <<< b) }
  let vec := if b = 8 then mvecBase k + 0x1040 else vecBase k + BitVec.ofNat 64 (0x80 * b + 0x40)
  let s := countCore (s.setCpu p { clearPending (k.setBank b x) with st := st, pc := vec }) 0x08 c
  reserveFrame s c b k.pc

/-- An entry to the machine level at a boundary. -/
def enterMachineAt (s : State) (c : Fin 16) (offset : Word) (cause sub : Nat) : State :=
  let s := interruptAbandons s c
  enterMachine s c offset cause sub (s.cpu (.core c)).pc none

/-- An interrupt of level `q` from source `n` (R172): to the machine level in LEGACY; a collision where its bank is live
(R186), handled as a double fault (04 R77). -/
def levelEntry (s : State) (c : Fin 16) (n : Nat) : State :=
  let p := Proc.core c
  let q := s.fl F.IC_SRC_PRIO n
  let k := s.cpu p
  if k.st.legacy then
    let s := enterMachineAt (icClaim s n) c 0x0C0 cInterrupt n
    let k := s.cpu p
    s.setCpu p (k.setBank 9 { k.bank 9 with source := some n })
  else if k.st.live.getLsbD q then
    let s := dregsFree s (0x40 + c.val) clsError 0x74
    raiseTrigger (enterMachineAt s c 0x040 cCollision q) 2 false
  else enterInterrupt (icClaim s n) c q cInterrupt n (some n)

/-- INTERRUPT_ENTRY: taken where nothing that R172 ranks before it can be. -/
def execInterruptEntry (c : Fin 16) (s : State) : Host.Outcome State Fault Refusal :=
  .next (
    if atBoundary s c && !(s.cpu (.core c)).mustTake && (s.cpu (.core c)).supPend == 0 && (secureTakes s c).isNone
        && !debugTakes s c then
      match levelTakes s c with
      | some n => levelEntry s c n
      | none => s
    else s)

/-- SECURE_INTERRUPT_ENTRY. -/
def execSecureInterruptEntry (c : Fin 16) (s : State) : Host.Outcome State Fault Refusal :=
  .next (
    if atBoundary s c && !(s.cpu (.core c)).mustTake && (s.cpu (.core c)).supPend == 0 then
      match secureTakes s c with
      | some n => enterInterrupt (icClaim s n) c 8 cInterrupt n (some n)
      | none => s
    else s)

/-- The lowest pending supervisory event code (R192). -/
def lowestEvent (pend : BitVec 5) : Option Nat := ((List.range 5).find? fun k => pend.getLsbD k).map (· + 1)

/-- SUPERVISORY_EVENT_ENTRY: held while the machine level is live (R78). -/
def execSupervisoryEventEntry (c : Fin 16) (s : State) : Host.Outcome State Fault Refusal :=
  .next (
    let p := Proc.core c
    let k := s.cpu p
    if atBoundary s c && !k.st.ml then
      match lowestEvent k.supPend with
      | some e =>
        let s := s.setCpu p { k with supPend := k.supPend &&& ~~~(1#5 <<< (e - 1)), mustTake := false }
        enterMachineAt s c 0x080 cInterrupt (0x8000 + e)
      | none => s
    else s)

/-- DEBUG_REQUEST_ENTRY. -/
def execDebugRequestEntry (c : Fin 16) (s : State) : Host.Outcome State Fault Refusal :=
  .next (
    let p := Proc.core c
    let k := s.cpu p
    if atBoundary s c && !k.mustTake && k.supPend == 0 && (secureTakes s c).isNone && debugTakes s c then
      enterInterrupt (s.setCpu p { k with dbgReq := false }) c (debugLevel k) cDebug 4 none
    else s)

/-! ### Words and fetches -/

/-- ILLEGAL_INSTRUCTION (R136): a fetched word that names no instruction on the processor raises ILLEGAL. A word that
names one comes as that instruction's command; as this one it does nothing. -/
def execIllegalInstruction (p : Proc) (w : BitVec 32) (s : State) : Host.Outcome State Fault Refusal :=
  .next (if (decodeHerok p w).isSome then s else runInstr p .all (fun s => .exc illegal s) s)

/-- Where core `c` fetches: untranslated at the machine level, and in bank S from the secure half of the MVEC table
(R79, R177); translated elsewhere. -/
def fetchPlace (s : State) (c : Fin 16) (pc : Word) : XRes XAddr :=
  let k := s.cpu (.core c)
  let secure := (mvecBase k).toNat + 0x1000
  if k.st.bank == 8 && secure ≤ pc.toNat && pc.toNat < secure + 0x1000 then .ok ⟨pc.toNat, .normalWb⟩ s
  else resolveAs s c pc aFetch aFetch

/-- A line is fetched through the caches of its type into the L1 instruction cache. -/
def fetchLine (s : State) (c : Fin 16) (x : XAddr) : Res Unit :=
  let line := x.place / 64
  if !isLocal x.place then .ok () s
  else if x.rtype != .normalNc then
    (match fetchedLine s c (partOf s c) line with
     | .ok _ s => .ok () s
     | .fail e s => .fail e s
     | .stall s => .stall s)
  else
    match memAdmit s 0 (some (partOf s c)) 2 (line * 64) 64 with
    | .ok _ s => (match readMem s (some (partOf s c)) (line * 64) 64 with
      | .ok _ s => .ok () s
      | .fail e s => .fail e s
      | .stall s => .stall s)
    | r => r

/-- The fetch at `pc` of a core, and the fault that it may have. A fetch at the machine level through a type that does not
allow it raises TYPE (log 39). -/
def fetchAt (s : State) (c : Fin 16) (pc : Word) : XRes Unit :=
  let p := Proc.core c
  (fetchPlace s c pc).bind fun x s =>
    if isDevice x.rtype || x.rtype == .remoteNc then .exc (busError beType aFetch pc) s
    else
      match checkPlace s p x 4 aFetch with
      | some e => .exc (busError e aFetch pc) s
      | none => (fetchLine s c x).toX aFetch pc

/-- Where an Infuser or the Caddy can fetch: an Infuser from its SRAM alone (20 R416); the Caddy from memory. -/
def fetchable (s : State) (p : Proc) (pc : Word) : Bool :=
  match p with
  | .infuser _ => privBase ≤ pc.toNat && pc.toNat < privBase + 0x10000
  | _ => match caddyAddr s pc with
    | some x => !isDevice x.rtype && x.rtype != .remoteNc && (checkPlace s p x 4 aFetch).isNone
    | none => false

/-- INSTRUCTION_FETCH_FAULT: the fetch at pc fails before any instruction is decoded. A fetch that does not fail brings its
line to the core's caches, or wakes what it waits for, and is no other event (log 4, 88). -/
def execInstructionFetchFault (p : Proc) (s : State) : Host.Outcome State Fault Refusal :=
  .next (
    let pc := (s.cpu p).pc
    match p with
    | .core c =>
      if !canRun s p || (s.cpu p).wait != .none then s
      else
        (match fetchAt s c pc with
        | .exc _ _ => runInstr p .all (fun s => match fetchAt s c pc with
          | .exc e s => .exc e s
          | _ => .hold s .none) s
        | .ok _ s => s
        | .stall s => s)
    | _ => if fetchable s p pc then s else runInstr p .all (fun s => .exc (busError beNoTarget aFetch pc) s) s)

/-! ### Remote accesses that fail -/

/-- A read tag is free again. -/
def freeTag (s : State) (c : Fin 16) (t : Nat) : State :=
  let p := Proc.core c
  let k := s.cpu p
  s.setCpu p { k with rtags := k.rtags.filter fun r => r.tag != t }

/-- A READ of core `c` has failed with NACK code `code`: its tag is free; a load that waits for it raises BUS_ERROR,
REMOTE_NACK (R193, 13 R282). -/
def readFailed (s : State) (c : Fin 16) (t code : Nat) : State :=
  let p := Proc.core c
  let k := s.cpu p
  match k.rtags.find? fun r => r.tag == t with
  | none => s
  | some r =>
    let s := freeTag s c t
    if r.abandoned then s
    else
      match k.wait with
      | .remote _ ea _ => takeExc (abandon s c) p ⟨cBusError, subOf beRemote aLoad code, some ea⟩ k.pc
      | _ => s

/-- A WRITE of core `c` is answered: its slot is free; a refusal is recorded (10 R226, R227). -/
def writeEnded (s : State) (c : Fin 16) (t : Nat) (code : Option Nat) : State :=
  let p := Proc.core c
  let k := s.cpu p
  match k.wslots.find? fun w => w.slot == t with
  | none => s
  | some w =>
    let s := s.setCpu p { k with wslots := k.wslots.filter fun w => w.slot != t }
    match code with
    | some e => recordRefusal s p e w.va
    | none => s

/-- REMOTE_READ_TAG_TIMEOUT. -/
def execRemoteReadTagTimeout (c : Fin 16) (t : Fin 8) (s : State) : Host.Outcome State Fault Refusal :=
  .next (readFailed s c t.val rLate)

/-- REMOTE_WRITE_TIMEOUT. -/
def execRemoteWriteTimeout (c : Fin 16) (t : Fin 64) (s : State) : Host.Outcome State Fault Refusal :=
  .next (writeEnded s c t.val (some rLate))

end Sys2Proof.Machine
end

