-- ==== Sys2Proof/Machine/FpOps.lean ====
section
/-! DEFINITION. IEEE 754-2019 binary arithmetic on the bits of one lane (spec 07 R151, R155 to R157, R162): unpacking,
rounding once under FPSTAT.RM, the operations of major 0x3C and the exceptions they raise. -/

namespace Sys2Proof.Machine

/-! ### Formats -/

/-- Width of an exponent field and of a fraction field, and of a lane. -/
def expBits : Fmt → Nat
  | .h => 5
  | .w => 8
  | .d => 11
def fracBits : Fmt → Nat
  | .h => 10
  | .w => 23
  | .d => 52
def fmtBits (f : Fmt) : Nat := 1 + expBits f + fracBits f

/-- Exponent of the least normal number. -/
def expMin (f : Fmt) : Int := 2 - 2 ^ (expBits f - 1)

/-- The bits of infinity, the canonical NaN (R156) and a sign. -/
def infBits (f : Fmt) : Nat := (2 ^ expBits f - 1) * 2 ^ fracBits f
def nanBits (f : Fmt) : Nat := infBits f + 2 ^ (fracBits f - 1)
def signBits (f : Fmt) (neg : Bool) : Nat := if neg then 2 ^ (fmtBits f - 1) else 0

/-- A lane's value: a NaN, an infinity, or a finite number (-1)^neg × m × 2^e, zero where m = 0. -/
inductive FpVal where
  | nan (signals : Bool)
  | inf (neg : Bool)
  | fin (neg : Bool) (m : Nat) (e : Int)
  deriving DecidableEq, Repr

/-- The value of a lane; with `fz` a subnormal reads as a zero of its sign (R162). -/
def unpack (f : Fmt) (fz : Bool) (x : Nat) : FpVal :=
  let frac := x % 2 ^ fracBits f
  let e := x / 2 ^ fracBits f % 2 ^ expBits f
  let neg := x.testBit (fmtBits f - 1)
  if e = 2 ^ expBits f - 1 then
    if frac = 0 then .inf neg else .nan (!frac.testBit (fracBits f - 1))
  else if e = 0 then .fin neg (if fz then 0 else frac) (expMin f - fracBits f)
  else .fin neg (frac + 2 ^ fracBits f) (expMin f - fracBits f + (e - 1 : Nat))

/-! ### Flags and rounding -/

/-- The flags of FPSTAT that an operation raises, and whether its result is tiny (R158, R160). -/
structure FpFlags where
  nv : Bool := false
  dz : Bool := false
  ovf : Bool := false
  uf : Bool := false
  nx : Bool := false
  tiny : Bool := false
  deriving DecidableEq, Repr

/-- One lane's result. -/
structure FpRes where
  bits : Nat
  fl : FpFlags := {}
  deriving DecidableEq, Repr

/-- How an operation rounds: FPSTAT.RM and FZ. -/
structure FpMode where
  rm : Nat
  fz : Bool
  deriving DecidableEq, Repr

/-- Bits in a number. -/
def bitLen (m : Nat) : Nat := if m = 0 then 0 else m.log2 + 1

/-- A magnitude with remainder `rem` below its last place (of 2^`sh`) is rounded away from zero. -/
def roundsUp (rm : Nat) (neg : Bool) (q rem sh : Nat) : Bool :=
  match rm with
  | 1 => false
  | 2 => neg && rem != 0
  | 3 => !neg && rem != 0
  | 4 => rem != 0 && 2 ^ sh ≤ 2 * rem
  | _ => 2 ^ sh < 2 * rem || (rem != 0 && 2 * rem == 2 ^ sh && q % 2 == 1)

/-- m × 2^e as a multiple of 2^lsb, rounded: the multiple, and whether it is inexact. -/
def roundAt (rm : Nat) (neg : Bool) (m : Nat) (e lsb : Int) : Nat × Bool :=
  if lsb ≤ e then (m * 2 ^ (e - lsb).toNat, false)
  else
    let sh := (lsb - e).toNat
    let q := m / 2 ^ sh
    let rem := m % 2 ^ sh
    (if roundsUp rm neg q rem sh then q + 1 else q, rem != 0)

/-- A magnitude too large rounds to infinity, or to the largest finite number. -/
def overflowBits (f : Fmt) (rm : Nat) (neg : Bool) : Nat :=
  let toMax := rm == 1 || (rm == 2 && !neg) || (rm == 3 && neg)
  signBits f neg + (if toMax then infBits f - 1 else infBits f)

/-- Round the non-zero value (-1)^neg × m × 2^e once. Tininess is detected after rounding (R157); FZ replaces a subnormal
result by a zero and raises UF and NX (R162). -/
def roundFp (f : Fmt) (md : FpMode) (neg : Bool) (m : Nat) (e : Int) : FpRes :=
  let p := fracBits f
  let top : Int := e + (bitLen m : Int) - 1
  let free := roundAt md.rm neg m e (top - p)
  let tiny := top + (if free.1 = 2 ^ (p + 1) then 1 else 0) < expMin f
  let base := max top (expMin f)
  let r := roundAt md.rm neg m e (base - p)
  let bits := (base - expMin f).toNat * 2 ^ p + r.1
  if infBits f ≤ bits then ⟨overflowBits f md.rm neg, { ovf := true, nx := true }⟩
  else if md.fz && bits != 0 && bits < 2 ^ p then ⟨signBits f neg, { uf := true, nx := true, tiny := true }⟩
  else ⟨signBits f neg + bits, { uf := tiny && r.2, nx := r.2, tiny := tiny }⟩

/-- The canonical NaN, with NV where the operation is invalid. -/
def nanRes (f : Fmt) (nv : Bool) : FpRes := ⟨nanBits f, { nv := nv }⟩
def infRes (f : Fmt) (neg : Bool) : FpRes := ⟨signBits f neg + infBits f, {}⟩
def zeroRes (f : Fmt) (neg : Bool) : FpRes := ⟨signBits f neg, {}⟩

/-- A finite value, rounded; a zero keeps its sign. -/
def finRes (f : Fmt) (md : FpMode) (neg : Bool) (m : Nat) (e : Int) : FpRes :=
  if m = 0 then zeroRes f neg else roundFp f md neg m e

def isSignal : FpVal → Bool
  | .nan s => s
  | _ => false

def isNan : FpVal → Bool
  | .nan _ => true
  | _ => false

/-! ### Operations -/

/-- The exact sum of two finite values, rounded. A zero sum of unlike signs is +0, or -0 rounding toward -∞. -/
def sumFin (f : Fmt) (md : FpMode) (n1 : Bool) (m1 : Nat) (e1 : Int) (n2 : Bool) (m2 : Nat) (e2 : Int) : FpRes :=
  let e := min e1 e2
  let a : Int := (m1 : Int) * 2 ^ (e1 - e).toNat
  let b : Int := (m2 : Int) * 2 ^ (e2 - e).toNat
  let s := (if n1 then -a else a) + (if n2 then -b else b)
  if s = 0 then zeroRes f (if n1 = n2 then n1 else md.rm == 2)
  else roundFp f md (decide (s < 0)) s.natAbs e

/-- x + y of values; ∞ - ∞ is invalid. -/
def addVal (f : Fmt) (md : FpMode) (x y : FpVal) : FpRes :=
  match x, y with
  | .nan s, y => nanRes f (s || isSignal y)
  | _, .nan s => nanRes f s
  | .inf a, .inf b => if a = b then infRes f a else nanRes f true
  | .inf a, _ => infRes f a
  | _, .inf b => infRes f b
  | .fin a m d, .fin b n e => sumFin f md a m d b n e

def negVal : FpVal → FpVal
  | .fin n m e => .fin (!n) m e
  | .inf n => .inf (!n)
  | v => v

/-- The exact product of two values that are no NaN; none: 0 × ∞. -/
def mulVal (x y : FpVal) : Option FpVal :=
  match x, y with
  | .inf a, .inf b => some (.inf (a != b))
  | .inf a, .fin b n _ => if n = 0 then none else some (.inf (a != b))
  | .fin a m _, .inf b => if m = 0 then none else some (.inf (a != b))
  | .fin a m d, .fin b n e => some (.fin (a != b) (m * n) (d + e))
  | v, _ => some v

/-- A value without NaN, rounded. -/
def roundVal (f : Fmt) (md : FpMode) : FpVal → FpRes
  | .nan s => nanRes f s
  | .inf n => infRes f n
  | .fin n m e => finRes f md n m e

/-- FADD, FSUB, FMUL on lanes. -/
def fpAdd (f : Fmt) (md : FpMode) (x y _ : Nat) : FpRes := addVal f md (unpack f md.fz x) (unpack f md.fz y)
def fpSub (f : Fmt) (md : FpMode) (x y _ : Nat) : FpRes := addVal f md (unpack f md.fz x) (negVal (unpack f md.fz y))
def fpMul (f : Fmt) (md : FpMode) (x y _ : Nat) : FpRes :=
  let a := unpack f md.fz x
  let b := unpack f md.fz y
  if isNan a || isNan b then nanRes f (isSignal a || isSignal b)
  else match mulVal a b with
    | some v => roundVal f md v
    | none => nanRes f true

/-- FMADD: va × vb + vd with one rounding; 0 × ∞ is invalid whatever vd holds. -/
def fpMadd (f : Fmt) (md : FpMode) (x y z : Nat) : FpRes :=
  let a := unpack f md.fz x
  let b := unpack f md.fz y
  let c := unpack f md.fz z
  if isNan a || isNan b then nanRes f (isSignal a || isSignal b || isSignal c)
  else match mulVal a b with
    | some v => addVal f md v c
    | none => nanRes f true

/-- The quotient of two finite non-zero values: enough bits of it, the last one standing for any remainder. -/
def quotFin (f : Fmt) (md : FpMode) (neg : Bool) (m : Nat) (d : Int) (n : Nat) (e : Int) : FpRes :=
  let k := fracBits f + 4 + bitLen n
  let t := m * 2 ^ k
  roundFp f md neg (2 * (t / n) + (if t % n = 0 then 0 else 1)) (d - e - k - 1)

/-- FDIV. -/
def fpDiv (f : Fmt) (md : FpMode) (x y _ : Nat) : FpRes :=
  match unpack f md.fz x, unpack f md.fz y with
  | .nan s, b => nanRes f (s || isSignal b)
  | _, .nan s => nanRes f s
  | .inf _, .inf _ => nanRes f true
  | .inf a, .fin b _ _ => infRes f (a != b)
  | .fin a _ _, .inf b => zeroRes f (a != b)
  | .fin a m d, .fin b n e =>
    if n = 0 then
      if m = 0 then nanRes f true else ⟨signBits f (a != b) + infBits f, { dz := true }⟩
    else if m = 0 then zeroRes f (a != b)
    else quotFin f md (a != b) m d n e

/-- The integer square root by bits: `r` so far, bits below `n` to be tried. -/
def isqrt (m r : Nat) : Nat → Nat
  | 0 => r
  | n + 1 => let t := r + 2 ^ n; isqrt m (if t * t ≤ m then t else r) n

/-- FSQRT; √(-0) = -0. -/
def fpSqrt (f : Fmt) (md : FpMode) (x _ _ : Nat) : FpRes :=
  match unpack f md.fz x with
  | .nan s => nanRes f s
  | .inf n => if n then nanRes f true else infRes f false
  | .fin n m e =>
    if m = 0 then zeroRes f n
    else if n then nanRes f true
    else
      let k := fracBits f + 4
      let odd := e % 2 != 0
      let t := m * 2 ^ (2 * k + (if odd then 1 else 0))
      let h := (e - (if odd then 1 else 0)) / 2
      let r := isqrt t 0 (bitLen t / 2 + 1)
      roundFp f md false (2 * r + (if r * r = t then 0 else 1)) (h - k - 1)

/-- A lane that is no NaN, as an integer in its order, -0 below +0. -/
def orderKey (f : Fmt) (x : Nat) : Int :=
  let mag : Int := (x % 2 ^ (fmtBits f - 1) : Nat)
  if x.testBit (fmtBits f - 1) then -mag - 1 else mag

/-- The same with -0 equal to +0. -/
def valueKey (f : Fmt) (x : Nat) : Int :=
  let mag : Int := (x % 2 ^ (fmtBits f - 1) : Nat)
  if x.testBit (fmtBits f - 1) then -mag else mag

/-- minimumNumber and maximumNumber (R157). FZ does not apply to them (log 41). -/
def fpPick (takeLess : Bool) (f : Fmt) (_ : FpMode) (x y _ : Nat) : FpRes :=
  let a := unpack f false x
  let b := unpack f false y
  let nv := isSignal a || isSignal b
  if isNan a && isNan b then nanRes f nv
  else if isNan a then ⟨y, { nv := nv }⟩
  else if isNan b then ⟨x, { nv := nv }⟩
  else ⟨if decide (orderKey f x < orderKey f y) = takeLess then x else y, {}⟩

def fpMin := fpPick true
def fpMax := fpPick false

/-- All ones, or zero. -/
def onesIf (f : Fmt) (b : Bool) : Nat := if b then 2 ^ fmtBits f - 1 else 0

/-- FEQ, FLT, FLE: false with a NaN; NV where one signals, or for FLT and FLE with any NaN. -/
def fpCmp (quiet : Bool) (rel : Int → Int → Bool) (f : Fmt) (_ : FpMode) (x y _ : Nat) : FpRes :=
  let a := unpack f false x
  let b := unpack f false y
  if isNan a || isNan b then ⟨0, { nv := !quiet || isSignal a || isSignal b }⟩
  else ⟨onesIf f (rel (valueKey f x) (valueKey f y)), {}⟩

def fpEq := fpCmp true fun a b => decide (a = b)
def fpLt := fpCmp false fun a b => decide (a < b)
def fpLe := fpCmp false fun a b => decide (a ≤ b)

/-- FCVT from format `g`. -/
def fpCvt (g f : Fmt) (md : FpMode) (x _ _ : Nat) : FpRes := roundVal f md (unpack g md.fz x)

/-- FCVTI: toward zero, to a signed 64-bit integer. -/
def fpToInt (f : Fmt) (md : FpMode) (x _ _ : Nat) : FpRes :=
  match unpack f md.fz x with
  | .nan _ => ⟨2 ^ 63, { nv := true }⟩
  | .inf n => ⟨if n then 2 ^ 63 else 2 ^ 63 - 1, { nv := true }⟩
  | .fin n m e =>
    let t := if 0 ≤ e then m * 2 ^ e.toNat else m / 2 ^ (-e).toNat
    let exact := 0 ≤ e || m % 2 ^ (-e).toNat == 0
    if n then (if 2 ^ 63 < t then ⟨2 ^ 63, { nv := true }⟩ else ⟨(2 ^ 64 - t) % 2 ^ 64, { nx := !exact }⟩)
    else if 2 ^ 63 ≤ t then ⟨2 ^ 63 - 1, { nv := true }⟩
    else ⟨t, { nx := !exact }⟩

/-- ICVTF: a signed 64-bit integer. -/
def fpOfInt (f : Fmt) (md : FpMode) (x : Word) : FpRes :=
  let i := x.toInt
  finRes f md (decide (i < 0)) i.natAbs 0

end Sys2Proof.Machine
end

