-- ==== Sys2Proof/Machine/Fp.lean ====
section
/-! DEFINITION. The FP instructions (spec 07 R151 to R162): lanes, FPSTAT's flags, traps, FP-dirty. -/

namespace Sys2Proof.Machine

/-- A lane's operation: format, mode, the lanes of va, vb and vd. -/
abbrev LaneFp := Fmt → FpMode → Nat → Nat → Nat → FpRes

/-- FPSTAT.RM and FZ. -/
def fpMode (s : State) (p : Proc) : FpMode :=
  let v := (s.cpu p).fpstat
  ⟨(v.extractLsb' 10 3).toNat, v.getLsbD 13⟩

/-- Flags as FPSTAT holds them: NV, DZ, OF, UF, NX from bit 0. -/
def flagBits (x : FpFlags) : BitVec 5 :=
  (if x.nv then 1 else 0) ||| (if x.dz then 2 else 0) ||| (if x.ovf then 4 else 0) ||| (if x.uf then 8 else 0)
    ||| (if x.nx then 16 else 0)

/-- The exceptions that an operation raises: underflow for any tiny result (R160). -/
def raisedBits (x : FpFlags) : BitVec 5 := flagBits x ||| (if x.tiny then 8 else 0)

/-- Lane `i` of a register, `w` bits wide. -/
def laneOf (v : VWord) (w i : Nat) : Nat := v.toNat / 2 ^ (w * i) % 2 ^ w

/-- A register from its lanes, lane 0 first. -/
def packLanes (w : Nat) : List Nat → Nat
  | [] => 0
  | x :: xs => x % 2 ^ w + 2 ^ w * packLanes w xs

/-- Lanes that an operation works on: one in a scalar form (P = 0). -/
def laneCount (w : Nat) (packed : Bool) : Nat := if packed then 128 / w else 1

/-- TLANE for a trap: the lanes that raised an enabled exception. -/
def tlaneOf (te : BitVec 5) : List FpFlags → Nat
  | [] => 0
  | x :: xs => b2n (raisedBits x &&& te != 0) + 2 * tlaneOf te xs

/-- The enabled exception of highest priority: its bit. -/
def firstTrap (b : BitVec 5) : Option Nat := (List.range 5).find? fun k => b.getLsbD k

/-- The flags of an operation's lanes reach FPSTAT, or FP is raised with TLANE written (R158, R160, R161). `done` is what
the operation writes. -/
def withFlags (p : Proc) (fl : List FpFlags) (s : State) (done : State → State) : IRes :=
  let k := s.cpu p
  let te : BitVec 5 := k.fpstat.extractLsb' 5 5
  let raised := fl.foldl (fun a x => a ||| raisedBits x) 0
  match firstTrap (raised &&& te) with
  | some n =>
    let stat := (k.fpstat &&& ~~~(0xFF0000 : Word)) ||| BitVec.ofNat 64 (tlaneOf te fl % 256 * 2 ^ 16)
    .exc ⟨cFp, 2 + n, none⟩ (s.setCpu p { k with fpstat := stat })
  | none =>
    let flags := fl.foldl (fun a x => a ||| flagBits x) 0
    .done (fpDirty (done (s.setCpu p { k with fpstat := k.fpstat ||| flags.zeroExtend 64 })) p)

/-- The lanes of a result. -/
def lanesFp (f : Fmt) (packed : Bool) (op : LaneFp) (md : FpMode) (a b c : VWord) : List FpRes :=
  let w := fmtBits f
  (List.range (laneCount w packed)).map fun i => op f md (laneOf a w i) (laneOf b w i) (laneOf c w i)

/-- An FP operation on v registers. -/
def fpOp (p : Proc) (f : Fmt) (packed : Bool) (d a b : RegNo) (op : LaneFp) (s : State) : State :=
  runFp p noEarly (fun s =>
    let rs := lanesFp f packed op (fpMode s p) (s.gv p a) (s.gv p b) (s.gv p d)
    withFlags p (rs.map (·.fl)) s fun s => s.setV p d (BitVec.ofNat 128 (packLanes (fmtBits f) (rs.map (·.bits))))) s

def execFadd (p : Proc) (f : Fmt) (packed : Bool) (d a b : RegNo) (s : State) := nextOf (fpOp p f packed d a b fpAdd s)
def execFsub (p : Proc) (f : Fmt) (packed : Bool) (d a b : RegNo) (s : State) := nextOf (fpOp p f packed d a b fpSub s)
def execFmul (p : Proc) (f : Fmt) (packed : Bool) (d a b : RegNo) (s : State) := nextOf (fpOp p f packed d a b fpMul s)
def execFdiv (p : Proc) (f : Fmt) (packed : Bool) (d a b : RegNo) (s : State) := nextOf (fpOp p f packed d a b fpDiv s)
def execFsqrt (p : Proc) (f : Fmt) (packed : Bool) (d a : RegNo) (s : State) := nextOf (fpOp p f packed d a a fpSqrt s)
def execFmin (p : Proc) (f : Fmt) (packed : Bool) (d a b : RegNo) (s : State) := nextOf (fpOp p f packed d a b fpMin s)
def execFmax (p : Proc) (f : Fmt) (packed : Bool) (d a b : RegNo) (s : State) := nextOf (fpOp p f packed d a b fpMax s)
def execFmadd (p : Proc) (f : Fmt) (packed : Bool) (d a b : RegNo) (s : State) := nextOf (fpOp p f packed d a b fpMadd s)
def execFeq (p : Proc) (f : Fmt) (packed : Bool) (d a b : RegNo) (s : State) := nextOf (fpOp p f packed d a b fpEq s)
def execFlt (p : Proc) (f : Fmt) (packed : Bool) (d a b : RegNo) (s : State) := nextOf (fpOp p f packed d a b fpLt s)
def execFle (p : Proc) (f : Fmt) (packed : Bool) (d a b : RegNo) (s : State) := nextOf (fpOp p f packed d a b fpLe s)

/-- FCVT: a source format equal to the destination's is ILLEGAL (R155). -/
def execFcvt (p : Proc) (f : Fmt) (d a : RegNo) (src : Fmt) (s : State) :=
  nextOf (runFp p (fun _ => if src = f then some illegal else none) (fun s =>
    let r := fpCvt src f (fpMode s p) (laneOf (s.gv p a) (fmtBits src) 0) 0 0
    withFlags p [r.fl] s fun s => s.setV p d (BitVec.ofNat 128 r.bits)) s)

/-- FCVTI: to gd. -/
def execFcvti (p : Proc) (f : Fmt) (d a : RegNo) (s : State) :=
  nextOf (runFp p noEarly (fun s =>
    let r := fpToInt f (fpMode s p) (laneOf (s.gv p a) (fmtBits f) 0) 0 0
    withFlags p [r.fl] s fun s => s.setG p d (BitVec.ofNat 64 r.bits)) s)

/-- ICVTF: from ga. -/
def execIcvtf (p : Proc) (f : Fmt) (d a : RegNo) (s : State) :=
  nextOf (runFp p noEarly (fun s =>
    let r := fpOfInt f (fpMode s p) (s.g p a)
    withFlags p [r.fl] s fun s => s.setV p d (BitVec.ofNat 128 r.bits)) s)

/-- FMVG: bits [63:0] of va to gd; FPD is not set (R153). -/
def execFmvg (p : Proc) (d a : RegNo) (s : State) :=
  nextOf (runFp p noEarly (fun s => .done (s.setG p d ((s.gv p a).truncate 64))) s)

/-- FMVV: ga to bits [63:0] of vd, zero above. -/
def execFmvv (p : Proc) (d a : RegNo) (s : State) :=
  nextOf (runFp p noEarly (fun s => .done (putV s p d ((s.g p a).zeroExtend 128))) s)

end Sys2Proof.Machine
end

