-- ==== Sys2Proof/Machine/MemInst.lean ====
section
/-! DEFINITION. Loads, stores, atomic operations, fences, and the maintenance of caches and TLBs (spec 05 R100 to R106,
R113 to R117; 10 R224, R225; 11 R239 to R241; 20 R414). -/

namespace Sys2Proof.Machine

/-! ### Loads and stores -/

/-- A load into a general register. -/
def loadG (p : Proc) (d a : RegNo) (imm : BitVec 16) (n : Nat) (signed : Bool) (s : State) : State :=
  runInstr p .all (fun s => loadOp p (.g d n signed) n n (effAddr s p a imm) s) s

def execLb (p : Proc) (d a : RegNo) (imm : BitVec 16) (s : State) := nextOf (loadG p d a imm 1 true s)
def execLh (p : Proc) (d a : RegNo) (imm : BitVec 16) (s : State) := nextOf (loadG p d a imm 2 true s)
def execLw (p : Proc) (d a : RegNo) (imm : BitVec 16) (s : State) := nextOf (loadG p d a imm 4 true s)
def execLd (p : Proc) (d a : RegNo) (imm : BitVec 16) (s : State) := nextOf (loadG p d a imm 8 false s)
def execLbu (p : Proc) (d a : RegNo) (imm : BitVec 16) (s : State) := nextOf (loadG p d a imm 1 false s)
def execLhu (p : Proc) (d a : RegNo) (imm : BitVec 16) (s : State) := nextOf (loadG p d a imm 2 false s)
def execLwu (p : Proc) (d a : RegNo) (imm : BitVec 16) (s : State) := nextOf (loadG p d a imm 4 false s)

/-- A store of the low `n` bytes of a general register. -/
def storeG (p : Proc) (src a : RegNo) (imm : BitVec 16) (n : Nat) (s : State) : State :=
  runInstr p .all (fun s => storeOp p n n (effAddr s p a imm) ((s.g p src).toNat % 256 ^ n) s) s

def execSb (p : Proc) (src a : RegNo) (imm : BitVec 16) (s : State) := nextOf (storeG p src a imm 1 s)
def execSh (p : Proc) (src a : RegNo) (imm : BitVec 16) (s : State) := nextOf (storeG p src a imm 2 s)
def execSw (p : Proc) (src a : RegNo) (imm : BitVec 16) (s : State) := nextOf (storeG p src a imm 4 s)
def execSd (p : Proc) (src a : RegNo) (imm : BitVec 16) (s : State) := nextOf (storeG p src a imm 8 s)

/-! ### Atomic operations -/

/-- An atomic instruction. -/
def atomicI (p : Proc) (d a b : RegNo) (n : Nat) (f : Nat → Nat → Nat → Option Nat) (s : State) : State :=
  runInstr p .all (atomicOp p d a b n f) s

def execCas (p : Proc) (d a b : RegNo) (s : State) := nextOf (atomicI p d a b 8 (casFn 8) s)
def execCasw (p : Proc) (d a b : RegNo) (s : State) := nextOf (atomicI p d a b 4 (casFn 4) s)
def execAmoadd (p : Proc) (d a b : RegNo) (s : State) := nextOf (atomicI p d a b 8 (addFn 8) s)
def execAmoaddw (p : Proc) (d a b : RegNo) (s : State) := nextOf (atomicI p d a b 4 (addFn 4) s)
def execAmoswp (p : Proc) (d a b : RegNo) (s : State) := nextOf (atomicI p d a b 8 (swpFn 8) s)
def execAmoswpw (p : Proc) (d a b : RegNo) (s : State) := nextOf (atomicI p d a b 4 (swpFn 4) s)

/-! ### Fences -/

/-- FENCE: every earlier store has drained (R224). -/
def fenceOp (p : Proc) (s : State) : IRes := if (s.cpu p).sb.isEmpty then .done s else .hold s .stall

def execFence (p : Proc) (s : State) := nextOf (runInstr p .all (fenceOp p) s)

/-- FENCE.C: every earlier store is acknowledged; recorded refusals raise REMOTE_NACK, whose entry clears them (R114,
R225, R227). -/
def fenceCOp (p : Proc) (s : State) : IRes :=
  let k := s.cpu p
  if !k.sb.isEmpty || !k.wslots.isEmpty then .hold s .fenceC
  else if k.refusals = 0 then .done s
  else .exc ⟨cBusError, subOf beRemote aStore k.refCode, some k.refAddr⟩ s

def execFenceC (p : Proc) (s : State) := nextOf (runInstr p .all (fenceCOp p) s)

/-! ### Caches -/

/-- The store buffer holds a store to the line. -/
def sbHasLine (s : State) (p : Proc) (line : Nat) : Bool := (s.cpu p).sb.any fun e => e.line == line

/-- The line leaves the core's L1 data and victim caches' dirty data to the cluster's L2 (R115). -/
def lineToL2 (s : State) (c : Fin 16) (line : Nat) : State :=
  let ids := [CacheId.l1d c, .victim c]
  match ids.findSome? fun id => (find s id line).bind fun x => if x.dirty then some (id, x) else none with
  | some (id, x) => alterLine (fillL2 s (clusterOf c) (some (partOf s c)) line x.data true) id { x with dirty := false }
  | none => s

/-- The line leaves the L1 instruction caches of all 16 cores (R115). -/
def leaveL1is (s : State) (line : Nat) : State := allCores.foldl (fun s k => dropLine s (.l1i k) line) s

/-- IFLUSH: a load's checks of one byte; earlier stores to the line have left the store buffer and reach the cluster's L2, and
the line leaves the L1 instruction caches (R115). An instruction comes as its command, so nothing is refetched (log 88). On an
Infuser and the Caddy it executes as FENCE. -/
def execIflush (p : Proc) (a : RegNo) (imm : BitVec 16) (s : State) :=
  nextOf (runInstr p .all (fun s =>
    match p with
    | .core c =>
      withPlaces s p (effAddr s p a imm) 1 aLoad aAtomic none fun xs s =>
        if xs.any fun x => sbHasLine s p (x.1.place / 64) then .hold s .stall
        else .done (xs.foldl (fun s x => leaveL1is (lineToL2 s c (x.1.place / 64)) (x.1.place / 64)) s)
    | _ => fenceOp p s) s)

/-- The gates of a CACHE operation by address on a local line: the cluster's L2, the line's L3 slice, and the channel of a line
that it writes back (18 R392). -/
def cacheGate (s : State) (c : Fin 16) (x : XAddr) (clean : Bool) : Res Unit :=
  let line := x.place / 64
  if !isLocal x.place then .ok () s
  else
    (missGate s c line).bind fun _ s =>
      let dirty := (allIds line).any fun id => match find s id line with | some y => y.dirty | none => false
      if clean && l3Holds line && dirty then gateOff s x.place else .ok () s

/-- CACHE by address: the checks of a load of one byte; no effect on a Device type page (R116, R241). Invalidation needs
ring 0. -/
def cacheAddr (p : Proc) (a : RegNo) (imm : BitVec 16) (clean inval : Bool) (s : State) : State :=
  runInstr p .all (fun s =>
    match p with
    | .core c =>
      let va := effAddr s p a imm
      if inval && ringOf (s.cpu p) != 0 then .exc privileged s
      else
        (resolveP s p va aLoad aAtomic).then fun x s =>
          if isDevice x.rtype then .done s
          else
            match checkPlace s p x 1 aLoad with
            | some e => .exc (busError e aAtomic va) s
            | none =>
              let line := x.place / 64
              ((cacheGate s c x clean).toX aAtomic va).then fun _ s =>
                let s := if clean && l3Holds line && isLocal x.place then cleanLine s line else s
                .done (if inval then discardLine s line else s)
    | _ => fenceOp p s) s

def execCacheC (p : Proc) (a : RegNo) (imm : BitVec 16) (s : State) := nextOf (cacheAddr p a imm true false s)
def execCacheI (p : Proc) (a : RegNo) (imm : BitVec 16) (s : State) := nextOf (cacheAddr p a imm false true s)
def execCacheCi (p : Proc) (a : RegNo) (imm : BitVec 16) (s : State) := nextOf (cacheAddr p a imm true true s)

/-- CACHE by set and way, at ring 0 (R239, R240). -/
def cacheSw (p : Proc) (a : RegNo) (clean inval : Bool) (s : State) : State :=
  runInstr p .all (fun s =>
    match p with
    | .core c =>
      if ringOf (s.cpu p) ≠ 0 then .exc privileged s
      else (cacheSetWay s c clean inval (s.g p a)).then fun _ s => .done s
    | _ => fenceOp p s) s

def execCacheCsw (p : Proc) (a : RegNo) (s : State) := nextOf (cacheSw p a true false s)
def execCacheIsw (p : Proc) (a : RegNo) (s : State) := nextOf (cacheSw p a false true s)
def execCacheCisw (p : Proc) (a : RegNo) (s : State) := nextOf (cacheSw p a true true s)

/-! ### TLBs -/

/-- Remove from the TLBs of a core the entries that satisfy `f`. -/
def tlbDrop (s : State) (c : Fin 16) (f : TlbEntry → Bool) : State :=
  let p := Proc.core c
  let k := s.cpu p
  let keep := fun (ts : List TlbEntry) => ts.filter fun t => !f t
  s.setCpu p { k with tlbI := keep k.tlbI, tlbD := keep k.tlbD, tlb2 := keep k.tlb2 }

/-- A TLBI: at ring 0; entries of the core's partition, of every partition at the machine level; on this core or on all
16 (R117, R211). `f` is asked with the values of ga and gb. -/
def tlbi (p : Proc) (a b : RegNo) (all : Bool) (f : Word → Word → TlbEntry → Bool) (s : State) : State :=
  runInstr p .cores (fun s =>
    match p with
    | .core c =>
      let k := s.cpu p
      if ringOf k ≠ 0 then .exc privileged s
      else
        let mine := fun (t : TlbEntry) => k.st.ml || t.part.toNat == k.partition.toNat % 64
        let g := fun t => mine t && f (s.g p a) (s.g p b) t
        .done ((if all then allCores else [c]).foldl (fun s c => tlbDrop s c g) s)
    | _ => .exc illegal s) s

def tlbAll (_ _ : Word) (_ : TlbEntry) : Bool := true
def tlbAsid (x _ : Word) (t : TlbEntry) : Bool := !t.glob && t.asid.toNat == x.toNat % 2 ^ 16
def tlbPage (x : Word) (t : TlbEntry) : Bool := x.toNat % 2 ^ 48 / 2 ^ t.bits == t.vpage
def tlbVa (x y : Word) (t : TlbEntry) : Bool := tlbPage x t && (t.glob || t.asid.toNat == y.toNat % 2 ^ 16)
def tlbVaa (x _ : Word) (t : TlbEntry) : Bool := tlbPage x t

def execTlbiAll (p : Proc) (s : State) := nextOf (tlbi p 31 31 false tlbAll s)
def execTlbiAsid (p : Proc) (a : RegNo) (s : State) := nextOf (tlbi p a 31 false tlbAsid s)
def execTlbiVa (p : Proc) (a b : RegNo) (s : State) := nextOf (tlbi p a b false tlbVa s)
def execTlbiVaa (p : Proc) (a : RegNo) (s : State) := nextOf (tlbi p a 31 false tlbVaa s)
def execTlbiAllB (p : Proc) (s : State) := nextOf (tlbi p 31 31 true tlbAll s)
def execTlbiAsidB (p : Proc) (a : RegNo) (s : State) := nextOf (tlbi p a 31 true tlbAsid s)
def execTlbiVaB (p : Proc) (a b : RegNo) (s : State) := nextOf (tlbi p a b true tlbVa s)
def execTlbiVaaB (p : Proc) (a : RegNo) (s : State) := nextOf (tlbi p a 31 true tlbVaa s)

end Sys2Proof.Machine
end

