-- ==== Sys2Proof/Machine/Pkt.lean ====
section
/-! DEFINITION. The packet instructions of an Infuser (spec 20 R422, R423). -/

namespace Sys2Proof.Machine

/-- Builder `b` of an Infuser. -/
def builder (x : Infus) (b : Bool) : Builder := if b then x.b1 else x.b0
def putBuilder (x : Infus) (b : Bool) (y : Builder) : Infus := if b then { x with b1 := y } else { x with b0 := y }

/-- Offset in an Infuser's SRAM of a private address. -/
def sramOff (a : Word) : Option Nat :=
  if privBase ≤ a.toNat ∧ a.toNat < privBase + 0x10000 then some (a.toNat - privBase) else none

/-- Every byte of `n` at `a` lies in the Infuser's SRAM or image memory. -/
def ownRange (s : State) (i : Fin 32) (a : Word) : Nat → Bool
  | 0 => true
  | n + 1 =>
    (match infuserAddr s i a with
     | some x => isPrivate s (.infuser i) x
     | none => false) && ownRange s i (a + 1) n

/-- The bytes of own memory at `a`. -/
def ownBytes (s : State) (i : Fin 32) (a : Word) : Nat → List Byte
  | 0 => []
  | n + 1 =>
    (match infuserAddr s i a with
     | some x => BitVec.ofNat 8 (ownLoad s (.infuser i) x.place 1).1
     | none => 0) :: ownBytes s i (a + 1) n

/-- `n` bytes from reads of a receive FIFO, 8 at a time. -/
def fifoBytes (p : Port) : Nat → List Byte × Port
  | 0 => ([], p)
  | k + 1 =>
    let (v, p) := rxfifoRead p
    let (bs, p) := fifoBytes p k
    (natBytes v.toNat 8 ++ bs, p)

/-- PKT.HDR a, b: after every earlier store of the Infuser. -/
def execPktHdr (p : Proc) (a b : RegNo) (s : State) : Host.Outcome State Fault Refusal :=
  .next (runInstr p .infusers (fun s =>
    match p with
    | .infuser i =>
      let ga := s.g p a
      let u := (s.g p b).getLsbD 16
      if ga.toNat % 32 ≠ 0 then .exc (misaligned aLoad ga) s
      else
        match sramOff ga with
        | none => .exc (busError beNoTarget aLoad ga) s
        | some o =>
          if !(s.cpu p).sb.isEmpty then .hold s .stall
          else
            let x := infOf s i.val
            let y := { builder x u with header := readList s (infSram i + o) 32, body := [], isOpen := true }
            .done (putInf s i.val (putBuilder x u y))
    | _ => .exc illegal s) s)

/-- Append bytes to the packet that a builder has open; with none open they go nowhere (log 42). -/
def appendBytes (s : State) (i : Fin 32) (u : Bool) (bs : List Byte) : State :=
  let x := infOf s i.val
  let y := builder x u
  if y.isOpen then putInf s i.val (putBuilder x u { y with body := y.body ++ bs }) else s

/-- PKT.APP a, b: from own memory, or from a receive FIFO, for whose bytes it waits (log 43). -/
def execPktApp (p : Proc) (a b : RegNo) (s : State) : Host.Outcome State Fault Refusal :=
  .next (runInstr p .infusers (fun s =>
    match p with
    | .infuser i =>
      let ga := s.g p a
      let n := (s.g p b).toNat % 2 ^ 13
      let u := (s.g p b).getLsbD 16
      if ga.getLsbD 63 then
        let g := ga.toNat / 256 % 64
        if !owns s i g || ga.toNat % 256 ≠ 9 then .exc (busError beNoTarget aLoad ga) s
        else if rxUsed (portOf s g) < n then .hold s .stall
        else
          let (bs, q) := fifoBytes (portOf s g) ((n + 7) / 8)
          .done (appendBytes (putPort s g q) i u (bs.take n))
      else if !ownRange s i ga n then .exc (busError beNoTarget aLoad ga) s
      else if !(s.cpu p).sb.isEmpty then .hold s .stall
      else .done (appendBytes s i u (ownBytes s i ga n))
    | _ => .exc illegal s) s)

/-- BAD_BLOCK (R422). -/
def badBlock (y : Builder) : Bool :=
  let k := headerPacket y.header y.body
  let c := k.cmd.toNat
  4096 < y.body.length || !([pRead, pWrite, pAtomic, pMessage, pEvent].contains c) || (c != pAtomic && k.sub != 0)
    || (c == pRead && !y.body.isEmpty)

/-- PKT.SEND d, a: after every earlier store; the packet then waits in the builder for the local router port. -/
def execPktSend (p : Proc) (d a : RegNo) (s : State) : Host.Outcome State Fault Refusal :=
  .next (runInstr p .infusers (fun s =>
    match p with
    | .infuser i =>
      let u := (s.g p a).getLsbD 0
      let x := infOf s i.val
      let y := builder x u
      if !(s.cpu p).sb.isEmpty then .hold s .stall
      else if y.held.isSome then .done (s.setG p d 1)
      else if !y.isOpen then .done (s.setG p d 2)
      else if badBlock y then .done (s.setG p d 3)
      else
        let k := infPacket s i y.header y.body
        .done ((putInf s i.val { putBuilder x u { held := some k } with order := x.order ++ [u] }).setG p d 0)
    | _ => .exc illegal s) s)

end Sys2Proof.Machine
end

