-- ==== Sys2Proof/Machine/Requests.lean ====
section
/-! DEFINITION. Packets at their destination (spec 13): requests that are checked, performed and answered (R278, R279,
R289 to R293), responses and NACKs that return to their origin (R277, R282; 08 R193; 20 R424), MGMT operations (12 R273,
R274), the queue engine (R295 to R297), and the start of a transmission (R288). -/

namespace Sys2Proof.Machine

/-! ### Receive queues and reply rings -/

/-- A packet fills the next slot of receive queue `q`: header at 0, payload from 32 (R296). -/
def fillSlot (s : State) (q : Nat) (k : Packet) : Res Unit :=
  let r := mget {} s.router.rq q
  let stride := ringStride (s.fl F.NG_RQCFG_STRIDE q)
  let at_ := s.fl F.NG_RQADDR_BASE q * 4096 + stride * r.next
  let bytes := headerBytes k ++ k.payload
  if mustWait s at_ bytes.length then .stall (askWake s at_ bytes.length)
  else
    let s := dmaWrite s 3 none at_ bytes
    let n := ringSlots (s.fl F.NG_RQCFG_SLOTS q)
    let r := { r with next := (r.next + 1) % n, lens := r.lens ++ [k.payload.length] }
    .ok () (rqLine { s with router := { s.router with rq := mset {} s.router.rq q r } } q)

/-- The queue is enabled, the packet fits its slots, a slot is free. -/
def rqFits (s : State) (q : Nat) (k : Packet) : Bool := 32 + k.payload.length ≤ ringStride (s.fl F.NG_RQCFG_STRIDE q)
def rqFree (s : State) (q : Nat) : Bool :=
  (mget {} s.router.rq q : RxRing).lens.length < ringSlots (s.fl F.NG_RQCFG_SLOTS q)

/-- OVERRUN of a receive queue is set: source 163. -/
def setOverrun (s : State) (q : Nat) : State := raiseSource (s.setB F.NG_RQCFG_OVERRUN q true) 163

/-- A response or NACK for reply queue `q`; one that does not fit its slot is dropped as where no slot is free (log 45). -/
def replyQueue (s : State) (q : Nat) (k : Packet) : Res Unit :=
  if s.fb F.NG_RQCFG_EN q && rqFree s q && rqFits s q k then fillSlot s q k else .ok () (countDrop (setOverrun s q))

/-- A response or NACK for Infuser `i`'s reply ring (20 R424): event REPLY, or dropped with event OVERRUN. -/
def replyInfuser (s : State) (i : Fin 32) (k : Packet) : State :=
  let x := infOf s i.val
  let n := rrSlots x
  let stride := ringStride (slice x.rrcfg 22 20)
  let bytes := headerBytes k ++ k.payload
  if x.rrcfg % 2 ^ 20 = 0 ∨ n ≤ x.rrFill ∨ stride < bytes.length then infEvent (countDrop s) i 14
  else
    let at_ := (slice x.rrcfg 15 0 + stride * ((x.rrNext + x.rrFill) % n)) % 2 ^ 16
    let s := writeList s (infSram i + at_) (bytes.take (2 ^ 16 - at_))
    infEvent (putInf s i.val { x with rrFill := x.rrFill + 1 }) i 1

/-! ### Responses -/

/-- The bytes of a READ_RESP fill every piece of a waiting load that its tag serves. -/
def fillPieces (r : RTag) (bytes : List Byte) (ps : List Piece) : List Piece :=
  ps.map fun x =>
    if x.tag = r.tag ∧ x.got.isNone then { x with got := some ((bytes.drop (x.addr - r.place)).take x.len) } else x

/-- All the bytes of a load, in order, once every piece is there. -/
def piecesBytes : List Piece → Option (List Byte)
  | [] => some []
  | x :: xs => match x.got, piecesBytes xs with
    | some b, some bs => some (b ++ bs)
    | _, _ => none

/-- A READ_RESP for read tag `t` of core `c`: an abandoned READ's is discarded and fills nothing (08 R193); a Remote-WT
line is filled into the caches (09 R203), unless one of them holds it already, whose data the load then takes (09 R205);
the load completes with its last piece. -/
def readArrives (s : State) (c : Fin 16) (t : Nat) (bytes : List Byte) : State :=
  let p := Proc.core c
  match (s.cpu p).rtags.find? fun r => r.tag == t with
  | none => countDrop s
  | some r =>
    let s := freeTag s c t
    if r.abandoned then s
    else
      let line := r.place / 64
      let part := some (partOf s c)
      let (bytes, s) := match (if r.fill then remoteHit s c line else none) with
        | some (d, s) => (natBytes d 64, s)
        | none =>
          let d := bytesNat bytes % 256 ^ 64
          (bytes, if r.fill && !r.stale then
            fillL1 (fillL2 (l3Put s part line d false) (clusterOf c) part line d false) c part line d false
          else s)
      match (s.cpu p).wait with
      | .remote dst ea ps =>
        let ps := fillPieces r bytes ps
        (match piecesBytes ps with
         | some bs =>
           let pc := (s.cpu p).pc
           retire (loadResult s p dst (bytesNat bs)) p pc (pc + 4) false
         | none => s.setCpu p { s.cpu p with wait := .remote dst ea ps })
      | _ => s

/-- A response or a NACK returns to its origin by TAG (R277). -/
def returnTo (s : State) (k : Packet) : Res Unit :=
  let t := k.tag.toNat
  match t / 2 ^ 14 with
  | 0 =>
    let c : Fin 16 := Fin.ofNat 16 (t / 2 ^ 10)
    let n := t % 64
    .ok () (
      if t / 256 % 4 = 0 then
        if k.cmd.toNat = pReadResp then readArrives s c n k.payload
        else if k.cmd.toNat = pNack then readFailed s c n k.sub.toNat
        else countDrop s
      else if t / 256 % 4 = 1 then
        if k.cmd.toNat = pWriteAck then writeEnded s c n none
        else if k.cmd.toNat = pNack then writeEnded s c n (some k.sub.toNat)
        else countDrop s
      else countDrop s)
  | 1 => replyQueue s (t / 2 ^ 10 % 16) k
  | 2 => .ok () (replyInfuser s (Fin.ofNat 32 (t / 2 ^ 9)) k)
  | _ =>
    .ok () (
      if t / 2 ^ 10 = 63 ∧ k.cmd.toNat = pNack then raiseSource (s.bumpF F.TR_STAT_EXPNACK 0) 275 else s)

/-- A response's SUB is reserved: 0 for a response, a refusal code for a NACK (R278, R280). -/
def responseSub (k : Packet) : Bool :=
  if k.cmd.toNat = pNack then k.sub = 0 || 8 ≤ k.sub.toNat else k.sub != 0

/-- A response or NACK at its destination: a late or corrupt one, or one with a reserved code, is dropped (R281, R289). -/
def takeResponse (s : State) (k : Packet) : Res Unit :=
  if (requestFault s k).isSome || responseSub k then .ok () (countDrop s) else returnTo s k

/-! ### Requests -/

/-- Where a request comes from, as its Strainers and target see it: class, partition, requester, window type. -/
structure Origin where
  cls : Nat
  part : Option Nat
  req : Requester
  type : Nat

/-- A packet that this device sent to itself (R22; 20 R423). -/
def ownOrigin (k : Packet) : Origin :=
  if k.tag.toNat / 2 ^ 14 = 2 then ⟨2, none, .infuser (Fin.ofNat 32 (k.tag.toNat / 2 ^ 9)), 0⟩ else ⟨3, none, .engine 3, 0⟩

/-- The answer to a request. -/
def answer (s : State) (k : Packet) (cmd : Nat) (payload : List Byte) : State :=
  sendAnswer s { blankPacket with cmd := BitVec.ofNat 4 cmd, part := k.part, dst := k.src, src := BitVec.ofNat 18 (ownNode s),
                                  authpath := true, tag := k.tag, len := BitVec.ofNat 13 payload.length, addr := k.addr,
                                  deadline := BitVec.ofNat 64 (fabNow s + budgetOf k), payload := payload }

/-- Refused at the destination. -/
def refuseHere (s : State) (k : Packet) (code : Nat) : Res Unit := .ok () (refuse s k code 0xFF)

/-- Registers that the fabric changes by MGMT alone (12 R273). -/
def mgmtOnly (off : Nat) : Bool :=
  (0xE01000000 ≤ off && off < 0xE01000008) || (0xE01010000 ≤ off && off < 0xE01012800)
    || (0xE01001000 ≤ off && off < 0xE01001800 && off % 0x40 / 8 == 3)

/-- Rules of READ, WRITE and ATOMIC before the windows: length, the 4 KiB boundary, blocks marked Never, unoccupied
offsets (R28, R31, R278). -/
def accessFault (s : State) (k : Packet) (o : Requester) : Option State :=
  let off := k.addr.toNat
  let c := k.cmd.toNat
  let n := if c = pAtomic then (if k.sub.getLsbD 2 then 8 else 4) else k.len.toNat
  if neverFabric off then some (warnNever s o off k.src k.cmd)
  else if n = 0 ∨ 4096 < n ∨ 4096 < off % 4096 + n then some s
  else if c = pAtomic ∧ (k.len ≠ 16 ∨ off % n ≠ 0) then some s
  else if c = pWrite ∧ mgmtOnly off then some s
  else if target s off == .hole || target s (off + n - 1) == .hole then some s
  else none

/-- Reserved SUB codes of a request (R276, R278, R279). -/
def subFault (k : Packet) : Bool :=
  match k.cmd.toNat with
  | 5 => k.sub.toNat % 4 = 3 || 8 ≤ k.sub.toNat
  | 8 => 2 ≤ k.sub.toNat
  | _ => k.sub != 0

/-- The windows of the link, or none for a packet of this device itself (R291, R423). -/
def admitted (s : State) (l : Option (Fin 34)) (k : Packet) : Except Nat Origin × State :=
  match l with
  | none => (.ok (ownOrigin k), s)
  | some l =>
    match admitPacket s l.val k with
    | (.refuse c, s) => (.error c, s)
    | (.ok ty part, s) => (.ok ⟨1, some part, .fabric l k.src k.cmd (BitVec.ofNat 6 part), ty⟩, s)

/-- Read the pieces of a memory range. -/
def readPieces (s : State) (o : Origin) : List (Nat × Nat) → Res (List Byte)
  | [] => .ok [] s
  | (off, n) :: rest =>
    match snoopRead s o.cls o.part 0 off n with
    | .ok v s => (match readPieces s o rest with
      | .ok bs s => .ok (natBytes v n ++ bs) s
      | r => r)
    | .fail e s => .fail e s
    | .stall s => .stall s

/-- Write the pieces of a memory range. -/
def writePieces (s : State) (o : Origin) (bs : List Byte) : List (Nat × Nat) → Res Unit
  | [] => .ok () s
  | (off, n) :: rest =>
    match snoopWrite s o.cls o.part 1 off n (bytesNat (bs.take n)) with
    | .ok _ s => writePieces s o (bs.drop n) rest
    | r => r

/-- The lines of a range. -/
def rangeLines (off n : Nat) : List Nat := (pieces off n).map fun e => e.1 / 64

/-- Track every mirrored line of a range that a request through a Mirrored window writes (R292; 15 R321). -/
def trackLines (s : State) : List Nat → Option State
  | [] => some s
  | l :: ls => match trackStore s l with
    | some s => trackLines s ls
    | none => none

/-- A memory range may be accessed now: its units are ready, and no mirrored line in it is being undone. -/
def memWaits (s : State) (off n : Nat) : Option State :=
  if mustWait s off n then some (askWake s off n)
  else if (rangeLines off n).any (mirrorStalls s) then some s
  else none

/-- A read by a request. -/
def requestRead (s : State) (o : Origin) (off n : Nat) : Res (List Byte) :=
  if target s off == .reg then
    if (n = 4 ∨ n = 8) ∧ off % n = 0 then
      match deviceRead s o.req off n with
      | .ok v s => .ok (natBytes v n) s
      | .fail e s => .fail e s
      | .stall s => .stall s
    else .fail beSize s
  else
    match memWaits s off n with
    | some s => .stall s
    | none =>
      match admitPieces s o.cls o.part 0 (pieces off n) with
      | some s => .fail beStrainer s
      | none => readPieces s o (pieces off n)

/-- A write by a request. -/
def requestWrite (s : State) (o : Origin) (off : Nat) (bs : List Byte) : Res Unit :=
  let n := bs.length
  if target s off == .reg then
    if (n = 4 ∨ n = 8) ∧ off % n = 0 then deviceWrite s o.req off n (BitVec.ofNat 64 (bytesNat bs)) else .fail beSize s
  else if target s off == .rom then .fail beNoTarget s
  else if (rangeLines off n).any (mirrorDenied s) then .fail beType s
  else
    match memWaits s off n with
    | some s => .stall s
    | none =>
      match admitPieces s o.cls o.part 1 (pieces off n) with
      | some s => .fail beStrainer s
      | none =>
        match (if o.cls = 1 ∧ o.type = 1 then trackLines s (rangeLines off n) else some s) with
        | some s => writePieces s o bs (pieces off n)
        | none => .stall s

/-- The operation of an ATOMIC (R279). -/
def atomicFn (k : Packet) (n : Nat) : Nat → Option Nat :=
  let a := bytesNat (k.payload.take 8) % 256 ^ n
  let b := bytesNat ((k.payload.drop 8).take 8) % 256 ^ n
  match k.sub.toNat % 4 with
  | 0 => casFn n a b
  | 1 => addFn n 0 a
  | _ => swpFn n 0 a

/-- An atomic operation by a request. -/
def requestAtomic (s : State) (o : Origin) (off n : Nat) (f : Nat → Option Nat) : Res Nat :=
  if target s off == .reg then .fail beType s
  else if target s off == .rom then .fail beNoTarget s
  else if mirrorDenied s (off / 64) then .fail beType s
  else
    match memWaits s off n with
    | some s => .stall s
    | none =>
      match snoopAtomic s o.cls o.part off n f with
      | .ok old t =>
        (match (if o.cls = 1 ∧ o.type = 1 ∧ (f old).isSome then trackStore t (off / 64) else some t) with
         | some t => .ok old t
         | none => .stall s)
      | r => r

/-- A performed request answers; a failed one is refused with the code of its failure. -/
def finishRequest {α : Type} (k : Packet) (r : Res α) (done : α → State → State) : Res Unit :=
  match r with
  | .ok a s => .ok () (done a s)
  | .fail e s => refuseHere s k (refusalCode e)
  | .stall s => .stall s

/-- READ, WRITE and ATOMIC, admitted. -/
def performAccess (s : State) (o : Origin) (k : Packet) : Res Unit :=
  let off := k.addr.toNat
  let c := k.cmd.toNat
  if c = pRead then
    finishRequest k (requestRead s o off k.len.toNat) fun bs s => answer s k pReadResp bs
  else if c = pWrite then
    finishRequest k (requestWrite s o off k.payload) fun _ s => if k.noack then s else answer s k pWriteAck []
  else
    let n := if k.sub.getLsbD 2 then 8 else 4
    finishRequest k (requestAtomic s o off n (atomicFn k n)) fun old s => answer s k pAtomicResp (natBytes old 8)

/-- MESSAGE (R278, R296): a payload above 4096 bytes, a disabled queue or a slot too small is DENIED, no free slot is
BUSY. -/
def performMessage (s : State) (k : Packet) : Res Unit :=
  let q := k.addr.toNat % 16
  if 16 ≤ k.addr.toNat ∨ 4096 < k.payload.length ∨ !s.fb F.NG_RQCFG_EN q ∨ !rqFits s q k then refuseHere s k rDenied
  else if !rqFree s q then refuseHere (setOverrun s q) k rBusy
  else fillSlot s q k

/-- EVENT (R278): SUB 0 sets a bit of NG_EVTPEND and raises source 161; SUB 1 is a heartbeat of the mirror partner (15
R331). -/
def performEvent (s : State) (k : Packet) : Res Unit :=
  if k.sub = 1 then
    let t := k.tag.toNat
    if mrOn s && k.src.toNat == s.fl F.MR_CFG_PARTNER 0 && t / 2 ^ 14 == 3 then
      .ok () (heartbeat s (t / 2 ^ 11 % 8) (t % 2 ^ 10) (bitAt t 10) false true)
    else .ok () (countDrop s)
  else if 64 ≤ k.addr.toNat then refuseHere s k rDenied
  else .ok () (setLine (s.setBit F.NG_EVTPEND_EVT 0 k.addr.toNat true) 161 true)

/-- A request that arrived in time is checked and performed (R289 to R293). -/
def performRequest (s : State) (l : Option (Fin 34)) (k : Packet) : Res Unit :=
  let q : Requester := match l with
    | some l => .fabric l k.src k.cmd k.part
    | none => (ownOrigin k).req
  let c := k.cmd.toNat
  let access := c == pRead || c == pWrite || c == pAtomic
  if subFault k then refuseHere s k rBadVersion
  else
    match (if access then accessFault s k q else none) with
    | some s => refuseHere s k rDenied
    | none =>
      match admitted s l k with
      | (.error e, s) => refuseHere s k e
      | (.ok o, s1) =>
        match (if access then performAccess s1 o k else if c = pMessage then performMessage s1 k else performEvent s1 k) with
        | .stall s2 => .stall { s2 with router := { s2.router with wtok := s.router.wtok } }
        | r => r

/-- A request arrives whole at its destination: its deadline is judged by its arrival (R285, R289). It waits behind those
that wait for their targets with no later DEADLINE (R286; 10 R228). -/
def takeRequest (s : State) (l : Option (Fin 34)) (k : Packet) : Res Unit :=
  match requestFault s k with
  | some e => refuseHere s k e
  | none =>
    if s.router.waiting.all fun w => k.deadline.toNat < w.k.deadline.toNat then performRequest s l k else .stall s

/-! ### MGMT -/

/-- The operation data of a MGMT packet: from byte 32 of the payload in path mode (R278). Its layout is the model's (log
44). -/
def mgmtData (k : Packet) : List Byte := if k.path then k.payload.drop 32 else k.payload

/-- Word `i` of the operation data. -/
def mgmtWord (k : Packet) (i : Nat) : Nat := word8 (mgmtData k) i

/-- The authority for a MGMT write (R273). -/
def mgmtMay (s : State) (k : Packet) : Bool :=
  k.authpath && (List.range 4).any fun i => s.fb F.NG_MGMTAUTH_VALID i && s.fl F.NG_MGMTAUTH_NODE i == k.src.toNat

/-- REPLY. An unassigned device answers on the link by which the request came (log 44), and so is a request answered that
came over a QUARANTINED link (12 R273). -/
def mgmtReply (s : State) (l : Option (Fin 34)) (k : Packet) (data : List Byte) : State :=
  let r := { blankPacket with cmd := 10, sub := 8, part := k.part, dst := k.src, src := BitVec.ofNat 18 (ownNode s),
                              authpath := true, tag := k.tag, len := BitVec.ofNat 13 data.length,
                              deadline := BitVec.ofNat 64 (fabNow s + budgetOf k), payload := data }
  match l with
  | some l =>
    if l.val < 32 ∧ ((ownNode s = 0x3FFFE ∧ k.src.toNat ≠ 0x3FFFE) ∨ lstate s l.val = 8) then sendBy s l.val r
    else sendAnswer s r
  | none => sendAnswer s r

/-- Route table entry `n`: string entries 0 to 1023, then position entries. -/
def routeOff (n : Nat) : Nat := if n < 1024 then 0xE01010000 + 8 * n else 0xE01012000 + 8 * (n - 1024)

/-- Write route entries from `n` on with the words given. -/
def routeWrites (s : State) (q : Requester) (n : Nat) : List Nat → State
  | [] => s
  | v :: vs =>
    let s := if n < 1280 then
        match findReg (routeOff n) regGroups with
        | some (g, i, j) => plainWrite s (.full q (routeOff n) (BitVec.ofNat 64 v)) g i (i * g.n2 + j)
        | none => s
      else s
    routeWrites s q (n + 1) vs

/-- The 8-byte words of the data after the first. -/
def mgmtTail (k : Packet) : List Nat := (List.range ((mgmtData k).length / 8 - 1)).map fun i => mgmtWord k (i + 1)

/-- The operation of a MGMT packet by its SUB: the state after it and the data of its reply. -/
def mgmtOp (s : State) (q : Requester) (k : Packet) : List Byte × State :=
  let n := mgmtWord k 0
  let word := fun off => natBytes (regRead s off) 8
  match k.sub.toNat with
  | 0 => (natBytes Config.serial.toNat 8 ++ natBytes (ownNode s) 8 ++ natBytes 0x31 8
      ++ (List.range 32).map (fun l => BitVec.ofNat 8 (lstate s l)), s)
  | 1 => ([], (nodeidPut s (n % 2 ^ 18)).getD (warnIgnored s q 0xE01000000 (BitVec.ofNat 64 n)))
  | 2 => ([], routeWrites s q n (mgmtTail k))
  | 3 => ((List.range (min (mgmtWord k 1) 512)).flatMap fun i => if n + i < 1280 then word (routeOff (n + i)) else [], s)
  | 4 => ((List.range 4).flatMap (fun i => word (0xE00000020 + 8 * i)) ++ word 0xE00000008 ++ word 0xE00000200
      ++ natBytes (s.fl F.DREGS_STAT_FILL 0) 8, s)
  | 5 => ([], ctlQuarantine s (n % 32))
  | 6 => ([], ctlRelease s (n % 32))
  | _ => ([], ctlRetrain s (n % 32))

/-- ASSIGN, ROUTE_WRITE, QUARANTINE, RELEASE and RETRAIN. -/
def mgmtWrites (sub : Nat) : Bool := sub == 1 || sub == 2 || 5 ≤ sub

/-- A MGMT packet at its destination (R273, R278). -/
def takeMgmt (s : State) (l : Option (Fin 34)) (k : Packet) : Res Unit :=
  let q : Requester := .fabric (l.getD 0) k.src k.cmd k.part
  match requestFault s k with
  | some e => if k.sub = 8 then .ok () (countDrop s) else refuseHere s k e
  | none =>
    if k.sub = 8 then returnTo s k
    else if 8 < k.sub.toNat then refuseHere s k rBadVersion
    else if mgmtWrites k.sub.toNat && !mgmtMay s k then
      refuseHere (match l with | some l => denyCount s l.val | none => s) k rDenied
    else
      let (data, s) := mgmtOp s q k
      .ok () (mgmtReply s l k data)

/-! ### Delivery -/

/-- A packet is delivered here, by a link or by the local port itself. -/
def deliver (s : State) (l : Option (Fin 34)) (k : Packet) : Res Unit :=
  let s := tracePacket s false k
  let c := k.cmd.toNat
  if c == pReadResp || c == pWriteAck || c == pAtomicResp || c == pNack then takeResponse s k
  else if c == pMgmt then takeMgmt s l k
  else if c == pRead || c == pWrite || c == pAtomic || c == pMessage || c == pEvent then takeRequest s l k
  else if c == pTime || c == pMirror then .ok () (countDrop s)
  else refuseHere s k rBadVersion

/-- The state a delivery leaves: a packet that must wait has arrived, has asked for the domains it waits for, and is held
until it can be performed. -/
def delivered (s : State) (l : Option (Fin 34)) (k : Packet) : Res Unit → State
  | .ok _ s => s
  | .fail _ s => s
  | .stall t => { s with pwr := t.pwr, router := { s.router with waiting := s.router.waiting ++ [⟨l, k⟩] } }

/-- A packet that has waited is performed; it was in time when it arrived. -/
def resume (s : State) (w : WaitPkt) : Res Unit :=
  let c := w.k.cmd.toNat
  let request := c == pRead || c == pWrite || c == pAtomic || c == pMessage || c == pEvent
  if request then performRequest s w.link w.k else returnTo s w.k

/-- The waiting packet of earliest DEADLINE, the oldest among equals, and the rest (R286). -/
def earliestWaiting : List WaitPkt → Option (WaitPkt × List WaitPkt)
  | [] => none
  | w :: ws =>
    match earliestWaiting ws with
    | none => some (w, [])
    | some (v, rest) => if v.k.deadline.toNat < w.k.deadline.toNat then some (v, w :: rest) else some (w, ws)

/-- The packet of earliest DEADLINE that waits is tried again; `n` bounds how many are performed at once. -/
def resumeWaiting : Nat → State → State
  | 0, s => s
  | n + 1, s =>
    match earliestWaiting s.router.waiting with
    | none => s
    | some (w, ws) =>
      match resume { s with router := { s.router with waiting := ws } } w with
      | .ok _ t => resumeWaiting n t
      | .fail _ t => resumeWaiting n t
      | .stall t => { s with pwr := t.pwr }

/-- The local port delivers what it has queued with a DEADLINE of `d` or earlier, at most `n` packets (R286). -/
def localBefore (d : Nat) : Nat → State → State
  | 0, s => s
  | n + 1, s =>
    match earliest (outQ s portLocal) with
    | none => s
    | some (q, rest) =>
      if d < q.k.deadline.toNat then s
      else
        let s := putOut s portLocal rest
        localBefore d n (delivered s none q.k (deliver s none q.k))

/-- A packet for this device comes by a link: it takes its turn at the local port by its DEADLINE. -/
def localTurn (s : State) (l : Fin 34) (k : Packet) : State :=
  let s := localBefore k.deadline.toNat (outQ s portLocal).length s
  delivered s (some l) k (deliver s (some l) k)

/-- A row that brings a packet of command `c` by a link. A packet of another command, or for another device, is no such
event (log 4). -/
def linkRow (s : State) (l : Fin 34) (k : Packet) (fits : Bool) : Host.Outcome State Fault Refusal :=
  .next (if fits && isHere s k then arrive s l.val k fun s k => localTurn s l k else s)

def execRead (l : Fin 34) (k : Packet) (s : State) := linkRow s l k (k.cmd.toNat == pRead)
def execReadResp (l : Fin 34) (k : Packet) (s : State) := linkRow s l k (k.cmd.toNat == pReadResp)
def execWrite (l : Fin 34) (k : Packet) (s : State) := linkRow s l k (k.cmd.toNat == pWrite)
def execWriteAck (l : Fin 34) (k : Packet) (s : State) := linkRow s l k (k.cmd.toNat == pWriteAck)
def execAtomic (l : Fin 34) (k : Packet) (s : State) := linkRow s l k (k.cmd.toNat == pAtomic)
def execAtomicResp (l : Fin 34) (k : Packet) (s : State) := linkRow s l k (k.cmd.toNat == pAtomicResp)
def execMessage (l : Fin 34) (k : Packet) (s : State) := linkRow s l k (k.cmd.toNat == pMessage)
def execEvent (l : Fin 34) (k : Packet) (s : State) := linkRow s l k (k.cmd.toNat == pEvent && k.sub != 1)
def execMirrorFabricHeartbeat (l : Fin 34) (k : Packet) (s : State) := linkRow s l k (k.cmd.toNat == pEvent && k.sub == 1)
def execNack (l : Fin 34) (k : Packet) (s : State) := linkRow s l k (k.cmd.toNat == pNack)

/-- A MGMT packet with a SUB. -/
def isMgmt (k : Packet) (sub : Nat) : Bool := k.cmd.toNat == pMgmt && k.sub.toNat == sub

def execMgmtEnumerate (l : Fin 34) (k : Packet) (s : State) := linkRow s l k (isMgmt k 0)
def execMgmtAssign (l : Fin 34) (k : Packet) (s : State) := linkRow s l k (isMgmt k 1)
def execMgmtRouteWrite (l : Fin 34) (k : Packet) (s : State) := linkRow s l k (isMgmt k 2)
def execMgmtRouteRead (l : Fin 34) (k : Packet) (s : State) := linkRow s l k (isMgmt k 3)
def execMgmtStatusRead (l : Fin 34) (k : Packet) (s : State) := linkRow s l k (isMgmt k 4)
def execMgmtQuarantine (l : Fin 34) (k : Packet) (s : State) := linkRow s l k (isMgmt k 5)
def execMgmtRelease (l : Fin 34) (k : Packet) (s : State) := linkRow s l k (isMgmt k 6)
def execMgmtRetrain (l : Fin 34) (k : Packet) (s : State) := linkRow s l k (isMgmt k 7)
def execMgmtReply (l : Fin 34) (k : Packet) (s : State) := linkRow s l k (isMgmt k 8)

/-- A packet for this device that no row of a command brings: a reserved CMD, a reserved MGMT operation (R278, R280). -/
def noRow (k : Packet) : Bool :=
  let c := k.cmd.toNat
  c == 0 || 13 ≤ c || (c == pMgmt && 8 < k.sub.toNat)

/-- PACKET_FORWARD (12 R247, R272; R287): a packet for another device. A packet for this device that no other row brings
is refused here (R280). -/
def execPacketForward (l : Fin 32) (k : Packet) (s : State) : Host.Outcome State Fault Refusal :=
  .next (arrive s l.val k fun s k =>
    if k.cmd.toNat = pMirror then countDrop s
    else if isHere s k then (if noRow k then localTurn s (l.castLE (by decide)) k else s)
    else routePacket s k true)

/-! ### The local port and the queue engine -/

/-- The local port performs what waits, then delivers its packet of earliest deadline. -/
def localStart (s : State) : State :=
  let s := resumeWaiting (s.router.waiting.length) s
  match earliest (outQ s portLocal) with
  | none => s
  | some (q, rest) =>
    let s := putOut s portLocal rest
    delivered s none q.k (deliver s none q.k)

/-- PACKET_TRANSMIT_START: ports 0 to 31 links, 32 to 39 bonds, 40 the mirror stream, 42 the local port. -/
def execPacketTransmitStart (port : Fin 43) (s : State) : Host.Outcome State Fault Refusal :=
  .next (if port.val = portLocal then localStart s else if port.val = 41 then s else transmitStart s port.val)

/-- The header that the queue engine forms from a block's image (R277, R295). DEADLINE is raised to that of the core's
last packet to the node, so that the block is performed after the core's earlier stores (10 R229; DEDUCED, log 91). -/
def queuePacket (s : State) (q : Nat) (core : Fin 16) (block : List Byte) : Packet :=
  let k := headerPacket block (block.drop 32)
  let p := s.fl F.NG_SQCFG_PART q
  let k := fillBudget s p { k with part := BitVec.ofNat 6 p, reserved := false, hops := 0, authpath := true,
                                   src := BitVec.ofNat 18 (ownNode s),
                                   tag := BitVec.ofNat 16 (2 ^ 14 + s.fl F.NG_SQCFG_RQ q * 2 ^ 10 + k.tag.toNat % 2 ^ 10) }
  { k with deadline := BitVec.ofNat 64 (max k.deadline.toNat (mget 0 s.router.lastDl (core.val * 2 ^ 18 + k.dst.toNat))) }

/-- The queue may send the packet: READ, WRITE, ATOMIC, MESSAGE, EVENT with SUB = 0 (log 46), MGMT with its bit; PATH on
MGMT only (R295). -/
def queueMay (s : State) (q : Nat) (k : Packet) : Bool :=
  let c := k.cmd.toNat
  (c == pRead || c == pWrite || c == pAtomic || c == pMessage || (c == pEvent && k.sub == 0)
    || (c == pMgmt && s.fb F.NG_SQCFG_MGMT q)) && (!k.path || c == pMgmt)

/-- The block's bytes from its pieces. -/
def blockBytes (s : State) : List (Nat × Nat) → List Byte × State
  | [] => ([], s)
  | (off, n) :: rest =>
    let (a, s) := dmaRead s 3 none off n
    let (b, s) := blockBytes s rest
    (a ++ b, s)

/-- SENT advances and is written to CPLADDR; source 162 where IRQ = 1 (R295, R297). -/
def queueSent (s : State) (q : Nat) : State :=
  let n := (mget 0 s.router.sent q + 1) % 2 ^ 64
  let s := { s with router := { s.router with sent := mset 0 s.router.sent q n } }
  let s := dmaWrite s 3 none (s.fl F.NG_SQADDR_CPLADDR q * 8) (natBytes n 8)
  if s.fb F.NG_SQCFG_IRQ q then raiseSource s 162 else s

/-- What becomes of a block: its packet enters the local port, or is refused into the reply queue, with 0xFF for
the egress port that was not chosen (log 127). -/
def queueTake (s : State) (q : Nat) (k : Packet) : Res Unit :=
  if queueMay s q k then .ok () (sendOwn s k)
  else replyQueue (countRefusal s rDenied) (s.fl F.NG_SQCFG_RQ q) (nackOf s k rDenied 0xFF)

/-- QUEUE_ENGINE_SEND: the oldest entry of send queue `n`; it waits for the memory of its block, of its completion word and
of the reply slot that a refusal fills, and for the router. -/
def execQueueEngineSend (n : Fin 16) (s : State) : Host.Outcome State Fault Refusal :=
  .next (
    match (mget [] s.router.sq n.val : List SqEntry) with
    | [] => s
    | e :: rest =>
      let cpl := s.fl F.NG_SQADDR_CPLADDR n.val * 8
      let waits : List (Nat × Nat) := (e.pieces ++ [(cpl, 8)]).filter fun x => mustWait s x.1 x.2
      if !waits.isEmpty then waits.foldl (fun s x => askWake s x.1 x.2) s
      else
        match gateUnit s 35 with
        | .ok _ s0 =>
          let (block, s) := blockBytes s0 e.pieces
          let s := { s with router := { s.router with sq := mset [] s.router.sq n.val rest } }
          match queueTake s n.val (queuePacket s n.val e.core block) with
          | .ok _ s => queueSent s n.val
          | .fail _ s => queueSent s n.val
          | .stall t => { s0 with pwr := t.pwr }
        | .fail _ s => s
        | .stall s => s)

end Sys2Proof.Machine
end

