-- ==== Sys2Proof/Machine/Simd.lean ====
section
/-! DEFINITION. Integer SIMD (spec 07 R163 to R165), and the vector and FP loads and stores (R166 to R168). -/

namespace Sys2Proof.Machine

/-- Bits of an element. -/
def eszBits : Esz → Nat
  | .b => 8
  | .h => 16
  | .w => 32
  | .d => 64

/-- A lane as a signed number. -/
def signedLane (w x : Nat) : Int := if x.testBit (w - 1) then (x : Int) - 2 ^ w else x

/-- A signed number modulo 2^w. -/
def wrapLane (w : Nat) (i : Int) : Nat := (i % 2 ^ w).toNat

/-- A lane-wise operation on va and vb: `op` is asked with the width. -/
def simdOp (p : Proc) (e : Esz) (d a b : RegNo) (op : Nat → Nat → Nat → Nat) (s : State) : State :=
  runFp p noEarly (fun s =>
    let w := eszBits e
    let r := (List.range (128 / w)).map fun i => op w (laneOf (s.gv p a) w i) (laneOf (s.gv p b) w i)
    .done (putV s p d (BitVec.ofNat 128 (packLanes w r)))) s

def laneAdd (w x y : Nat) : Nat := (x + y) % 2 ^ w
def laneSub (w x y : Nat) : Nat := (x + 2 ^ w - y) % 2 ^ w
def laneMul (w x y : Nat) : Nat := x * y % 2 ^ w
def laneMinU (_ x y : Nat) : Nat := min x y
def laneMaxU (_ x y : Nat) : Nat := max x y
def laneMin (w x y : Nat) : Nat := if signedLane w x ≤ signedLane w y then x else y
def laneMax (w x y : Nat) : Nat := if signedLane w x ≤ signedLane w y then y else x

/-- Shifts by an amount that is never masked (R164). -/
def laneShl (w x n : Nat) : Nat := if n < w then x * 2 ^ n % 2 ^ w else 0
def laneShr (w x n : Nat) : Nat := if n < w then x / 2 ^ n else 0
def laneSar (w x n : Nat) : Nat := wrapLane w (signedLane w x / 2 ^ min n (w - 1))

def execVadd (p : Proc) (e : Esz) (d a b : RegNo) (s : State) := nextOf (simdOp p e d a b laneAdd s)
def execVsub (p : Proc) (e : Esz) (d a b : RegNo) (s : State) := nextOf (simdOp p e d a b laneSub s)
def execVmul (p : Proc) (e : Esz) (d a b : RegNo) (s : State) := nextOf (simdOp p e d a b laneMul s)
def execVmin (p : Proc) (e : Esz) (d a b : RegNo) (s : State) := nextOf (simdOp p e d a b laneMin s)
def execVminu (p : Proc) (e : Esz) (d a b : RegNo) (s : State) := nextOf (simdOp p e d a b laneMinU s)
def execVmax (p : Proc) (e : Esz) (d a b : RegNo) (s : State) := nextOf (simdOp p e d a b laneMax s)
def execVmaxu (p : Proc) (e : Esz) (d a b : RegNo) (s : State) := nextOf (simdOp p e d a b laneMaxU s)
def execVshl (p : Proc) (e : Esz) (d a b : RegNo) (s : State) := nextOf (simdOp p e d a b laneShl s)
def execVshr (p : Proc) (e : Esz) (d a b : RegNo) (s : State) := nextOf (simdOp p e d a b laneShr s)
def execVsar (p : Proc) (e : Esz) (d a b : RegNo) (s : State) := nextOf (simdOp p e d a b laneSar s)

/-- An operation on all 128 bits. -/
def bitsOp (p : Proc) (d a b : RegNo) (op : VWord → VWord → VWord) (s : State) : State :=
  runFp p noEarly (fun s => .done (putV s p d (op (s.gv p a) (s.gv p b)))) s

def execVand (p : Proc) (d a b : RegNo) (s : State) := nextOf (bitsOp p d a b (· &&& ·) s)
def execVor (p : Proc) (d a b : RegNo) (s : State) := nextOf (bitsOp p d a b (· ||| ·) s)
def execVxor (p : Proc) (d a b : RegNo) (s : State) := nextOf (bitsOp p d a b (· ^^^ ·) s)

/-- One 32-bit lane of a dot product: the lane of vd, plus four products of 8-bit lanes. -/
def dotLane (num : Nat → Int) (x y acc : Nat) : Nat :=
  wrapLane 32 (acc + ((List.range 4).map fun i => num (x / 2 ^ (8 * i) % 2 ^ 8) * num (y / 2 ^ (8 * i) % 2 ^ 8)).sum)

/-- VDOT and VDOTU. -/
def dotOp (p : Proc) (d a b : RegNo) (num : Nat → Int) (s : State) : State :=
  runFp p noEarly (fun s =>
    let r := (List.range 4).map fun i => dotLane num (laneOf (s.gv p a) 32 i) (laneOf (s.gv p b) 32 i) (laneOf (s.gv p d) 32 i)
    .done (putV s p d (BitVec.ofNat 128 (packLanes 32 r)))) s

def execVdot (p : Proc) (d a b : RegNo) (s : State) := nextOf (dotOp p d a b (signedLane 8) s)
def execVdotu (p : Proc) (d a b : RegNo) (s : State) := nextOf (dotOp p d a b (fun x => (x : Int)) s)

/-- VSPLAT: every lane is ga. -/
def execVsplat (p : Proc) (e : Esz) (d a : RegNo) (s : State) :=
  nextOf (runFp p noEarly (fun s =>
    let w := eszBits e
    .done (putV s p d (BitVec.ofNat 128 (packLanes w (List.replicate (128 / w) (s.g p a).toNat))))) s)

/-- VEXTR: lane b of va, sign-extended; an index at or beyond the lane count is ILLEGAL (R165). -/
def execVextr (p : Proc) (e : Esz) (d a lane : RegNo) (s : State) :=
  nextOf (runFp p (fun _ => if 128 / eszBits e ≤ lane.val then some illegal else none) (fun s =>
    let w := eszBits e
    .done (s.setG p d (BitVec.ofInt 64 (signedLane w (laneOf (s.gv p a) w lane.val))))) s)

/-! ### Loads and stores -/

/-- VL: 16 bytes, aligned to the element (R166). -/
def loadV (p : Proc) (d a : RegNo) (imm : BitVec 16) (n align : Nat) (s : State) : State :=
  runFp p noEarly (fun s => loadOp p (.v d n) n align (effAddr s p a imm) s) s

/-- VS and FS: the low `n` bytes of a v register. -/
def storeV (p : Proc) (src a : RegNo) (imm : BitVec 16) (n align : Nat) (s : State) : State :=
  runFp p noEarly (fun s => storeOp p n align (effAddr s p a imm) ((s.gv p src).toNat % 256 ^ n) s) s

def execVlB (p : Proc) (d a : RegNo) (imm : BitVec 16) (s : State) := nextOf (loadV p d a imm 16 1 s)
def execVlH (p : Proc) (d a : RegNo) (imm : BitVec 16) (s : State) := nextOf (loadV p d a imm 16 2 s)
def execVlW (p : Proc) (d a : RegNo) (imm : BitVec 16) (s : State) := nextOf (loadV p d a imm 16 4 s)
def execVlD (p : Proc) (d a : RegNo) (imm : BitVec 16) (s : State) := nextOf (loadV p d a imm 16 8 s)
def execVsB (p : Proc) (src a : RegNo) (imm : BitVec 16) (s : State) := nextOf (storeV p src a imm 16 1 s)
def execVsH (p : Proc) (src a : RegNo) (imm : BitVec 16) (s : State) := nextOf (storeV p src a imm 16 2 s)
def execVsW (p : Proc) (src a : RegNo) (imm : BitVec 16) (s : State) := nextOf (storeV p src a imm 16 4 s)
def execVsD (p : Proc) (src a : RegNo) (imm : BitVec 16) (s : State) := nextOf (storeV p src a imm 16 8 s)
def execFlH (p : Proc) (d a : RegNo) (imm : BitVec 16) (s : State) := nextOf (loadV p d a imm 2 2 s)
def execFlW (p : Proc) (d a : RegNo) (imm : BitVec 16) (s : State) := nextOf (loadV p d a imm 4 4 s)
def execFlD (p : Proc) (d a : RegNo) (imm : BitVec 16) (s : State) := nextOf (loadV p d a imm 8 8 s)
def execFsH (p : Proc) (src a : RegNo) (imm : BitVec 16) (s : State) := nextOf (storeV p src a imm 2 2 s)
def execFsW (p : Proc) (src a : RegNo) (imm : BitVec 16) (s : State) := nextOf (storeV p src a imm 4 4 s)
def execFsD (p : Proc) (src a : RegNo) (imm : BitVec 16) (s : State) := nextOf (storeV p src a imm 8 8 s)

end Sys2Proof.Machine
end

