-- ==== Sys2Proof/Machine/Dispatch.lean ====
section
/-! DEFINITION. One arm for each constructor of Instr: one direct call of its meaning. -/

namespace Sys2Proof.Machine

/-- The effect of a command on everything but the queue. -/
def exec (i : Instr) (s : State) : Host.Outcome State Fault Refusal :=
  match i with
  | .aonMainLoss => Sys2Proof.Machine.execAonMainLoss s
  | .computeDomainIsolation => Sys2Proof.Machine.execComputeDomainIsolation s
  | .mirrorPortReducedRetrain => Sys2Proof.Machine.execMirrorPortReducedRetrain s
  | .mirrorCarriedReport => Sys2Proof.Machine.execMirrorCarriedReport s
  | .aonMainReturn dramHeld => Sys2Proof.Machine.execAonMainReturn dramHeld s
  | .borAssert => Sys2Proof.Machine.execBorAssert s
  | .borRelease straps stuck temps => Sys2Proof.Machine.execBorRelease straps stuck temps s
  | .porAssert => Sys2Proof.Machine.execPorAssert s
  | .porRelease straps stuck temps => Sys2Proof.Machine.execPorRelease straps stuck temps s
  | .aonInputGood main => Sys2Proof.Machine.execAonInputGood main s
  | .boardRailEnable => Sys2Proof.Machine.execBoardRailEnable s
  | .pgRise r => Sys2Proof.Machine.execPgRise r s
  | .pgTimeout r => Sys2Proof.Machine.execPgTimeout r s
  | .pgDrop r mainLost dramHeld => Sys2Proof.Machine.execPgDrop r mainLost dramHeld s
  | .clockMonitorWindow k failed => Sys2Proof.Machine.execClockMonitorWindow k failed s
  | .kclkMissingPulse => Sys2Proof.Machine.execKclkMissingPulse s
  | .xrefGood => Sys2Proof.Machine.execXrefGood s
  | .spllLock => Sys2Proof.Machine.execSpllLock s
  | .ckClusterWrite q n v => Sys2Proof.Machine.execCkClusterWrite q n v s
  | .cpllLock n => Sys2Proof.Machine.execCpllLock n s
  | .clusterSourceSwitchDone n => Sys2Proof.Machine.execClusterSourceSwitchDone n s
  | .caddyResetRelease => Sys2Proof.Machine.execCaddyResetRelease s
  | .manifestRead => Sys2Proof.Machine.execManifestRead s
  | .signatureVerify ok measure => Sys2Proof.Machine.execSignatureVerify ok measure s
  | .firmwareRead hashOk measure policy => Sys2Proof.Machine.execFirmwareRead hashOk measure policy s
  | .loaderRead hashOk measure bytes => Sys2Proof.Machine.execLoaderRead hashOk measure bytes s
  | .coreRelease => Sys2Proof.Machine.execCoreRelease s
  | .readyBitSet u => Sys2Proof.Machine.execReadyBitSet u s
  | .readinessTimeout u => Sys2Proof.Machine.execReadinessTimeout u s
  | .caddyReadinessTimeout => Sys2Proof.Machine.execCaddyReadinessTimeout s
  | .ktRstctlSwr q v => Sys2Proof.Machine.execKtRstctlSwr q v s
  | .warmResetHold => Sys2Proof.Machine.execWarmResetHold s
  | .warmResetCaddyStart => Sys2Proof.Machine.execWarmResetCaddyStart s
  | .add p d a b => Sys2Proof.Machine.execAdd p d a b s
  | .addw p d a b => Sys2Proof.Machine.execAddw p d a b s
  | .addi p d a imm => Sys2Proof.Machine.execAddi p d a imm s
  | .sub p d a b => Sys2Proof.Machine.execSub p d a b s
  | .subw p d a b => Sys2Proof.Machine.execSubw p d a b s
  | .neg p d a => Sys2Proof.Machine.execNeg p d a s
  | .negw p d a => Sys2Proof.Machine.execNegw p d a s
  | .mul p d a b => Sys2Proof.Machine.execMul p d a b s
  | .mulw p d a b => Sys2Proof.Machine.execMulw p d a b s
  | .mulh p d a b => Sys2Proof.Machine.execMulh p d a b s
  | .mulhu p d a b => Sys2Proof.Machine.execMulhu p d a b s
  | .div p d a b => Sys2Proof.Machine.execDiv p d a b s
  | .divw p d a b => Sys2Proof.Machine.execDivw p d a b s
  | .divu p d a b => Sys2Proof.Machine.execDivu p d a b s
  | .divuw p d a b => Sys2Proof.Machine.execDivuw p d a b s
  | .rem p d a b => Sys2Proof.Machine.execRem p d a b s
  | .remw p d a b => Sys2Proof.Machine.execRemw p d a b s
  | .remu p d a b => Sys2Proof.Machine.execRemu p d a b s
  | .remuw p d a b => Sys2Proof.Machine.execRemuw p d a b s
  | .and p d a b => Sys2Proof.Machine.execAnd p d a b s
  | .or p d a b => Sys2Proof.Machine.execOr p d a b s
  | .xor p d a b => Sys2Proof.Machine.execXor p d a b s
  | .andi p d a imm => Sys2Proof.Machine.execAndi p d a imm s
  | .ori p d a imm => Sys2Proof.Machine.execOri p d a imm s
  | .xori p d a imm => Sys2Proof.Machine.execXori p d a imm s
  | .lui p d imm => Sys2Proof.Machine.execLui p d imm s
  | .slt p d a b => Sys2Proof.Machine.execSlt p d a b s
  | .sltu p d a b => Sys2Proof.Machine.execSltu p d a b s
  | .slti p d a imm => Sys2Proof.Machine.execSlti p d a imm s
  | .sltiu p d a imm => Sys2Proof.Machine.execSltiu p d a imm s
  | .shl p d a b => Sys2Proof.Machine.execShl p d a b s
  | .shr p d a b => Sys2Proof.Machine.execShr p d a b s
  | .sar p d a b => Sys2Proof.Machine.execSar p d a b s
  | .shlw p d a b => Sys2Proof.Machine.execShlw p d a b s
  | .shrw p d a b => Sys2Proof.Machine.execShrw p d a b s
  | .sarw p d a b => Sys2Proof.Machine.execSarw p d a b s
  | .shli p d a imm => Sys2Proof.Machine.execShli p d a imm s
  | .shri p d a imm => Sys2Proof.Machine.execShri p d a imm s
  | .sari p d a imm => Sys2Proof.Machine.execSari p d a imm s
  | .clz p d a => Sys2Proof.Machine.execClz p d a s
  | .ctz p d a => Sys2Proof.Machine.execCtz p d a s
  | .popc p d a => Sys2Proof.Machine.execPopc p d a s
  | .lb p d a imm => Sys2Proof.Machine.execLb p d a imm s
  | .lh p d a imm => Sys2Proof.Machine.execLh p d a imm s
  | .lw p d a imm => Sys2Proof.Machine.execLw p d a imm s
  | .ld p d a imm => Sys2Proof.Machine.execLd p d a imm s
  | .lbu p d a imm => Sys2Proof.Machine.execLbu p d a imm s
  | .lhu p d a imm => Sys2Proof.Machine.execLhu p d a imm s
  | .lwu p d a imm => Sys2Proof.Machine.execLwu p d a imm s
  | .sb p src a imm => Sys2Proof.Machine.execSb p src a imm s
  | .sh p src a imm => Sys2Proof.Machine.execSh p src a imm s
  | .sw p src a imm => Sys2Proof.Machine.execSw p src a imm s
  | .sd p src a imm => Sys2Proof.Machine.execSd p src a imm s
  | .cas p d a b => Sys2Proof.Machine.execCas p d a b s
  | .casw p d a b => Sys2Proof.Machine.execCasw p d a b s
  | .amoadd p d a b => Sys2Proof.Machine.execAmoadd p d a b s
  | .amoaddw p d a b => Sys2Proof.Machine.execAmoaddw p d a b s
  | .amoswp p d a b => Sys2Proof.Machine.execAmoswp p d a b s
  | .amoswpw p d a b => Sys2Proof.Machine.execAmoswpw p d a b s
  | .beq p a b off => Sys2Proof.Machine.execBeq p a b off s
  | .bne p a b off => Sys2Proof.Machine.execBne p a b off s
  | .blt p a b off => Sys2Proof.Machine.execBlt p a b off s
  | .bge p a b off => Sys2Proof.Machine.execBge p a b off s
  | .bltu p a b off => Sys2Proof.Machine.execBltu p a b off s
  | .bgeu p a b off => Sys2Proof.Machine.execBgeu p a b off s
  | .j p off => Sys2Proof.Machine.execJ p off s
  | .jal p off => Sys2Proof.Machine.execJal p off s
  | .jr p a imm => Sys2Proof.Machine.execJr p a imm s
  | .jalr p a imm => Sys2Proof.Machine.execJalr p a imm s
  | .loop p k a off => Sys2Proof.Machine.execLoop p k a off s
  | .fence p => Sys2Proof.Machine.execFence p s
  | .fenceC p => Sys2Proof.Machine.execFenceC p s
  | .iflush p a imm => Sys2Proof.Machine.execIflush p a imm s
  | .cacheC p a imm => Sys2Proof.Machine.execCacheC p a imm s
  | .cacheI p a imm => Sys2Proof.Machine.execCacheI p a imm s
  | .cacheCi p a imm => Sys2Proof.Machine.execCacheCi p a imm s
  | .cacheCsw p a => Sys2Proof.Machine.execCacheCsw p a s
  | .cacheIsw p a => Sys2Proof.Machine.execCacheIsw p a s
  | .cacheCisw p a => Sys2Proof.Machine.execCacheCisw p a s
  | .tlbiAll p => Sys2Proof.Machine.execTlbiAll p s
  | .tlbiAsid p a => Sys2Proof.Machine.execTlbiAsid p a s
  | .tlbiVa p a b => Sys2Proof.Machine.execTlbiVa p a b s
  | .tlbiVaa p a => Sys2Proof.Machine.execTlbiVaa p a s
  | .tlbiAllB p => Sys2Proof.Machine.execTlbiAllB p s
  | .tlbiAsidB p a => Sys2Proof.Machine.execTlbiAsidB p a s
  | .tlbiVaB p a b => Sys2Proof.Machine.execTlbiVaB p a b s
  | .tlbiVaaB p a => Sys2Proof.Machine.execTlbiVaaB p a s
  | .send p d a b => Sys2Proof.Machine.execSend p d a b s
  | .recv p d a b => Sys2Proof.Machine.execRecv p d a b s
  | .pourWait p d a => Sys2Proof.Machine.execPourWait p d a s
  | .wait p d => Sys2Proof.Machine.execWait p d s
  | .coreWake c => Sys2Proof.Machine.execCoreWake c s
  | .mfc p d n => Sys2Proof.Machine.execMfc p d n s
  | .mtc p n a => Sys2Proof.Machine.execMtc p n a s
  | .trap p n => Sys2Proof.Machine.execTrap p n s
  | .tret p => Sys2Proof.Machine.execTret p s
  | .mcall p => Sys2Proof.Machine.execMcall p s
  | .eack p => Sys2Proof.Machine.execEack p s
  | .brk p => Sys2Proof.Machine.execBrk p s
  | .fadd p f packed d a b => Sys2Proof.Machine.execFadd p f packed d a b s
  | .fsub p f packed d a b => Sys2Proof.Machine.execFsub p f packed d a b s
  | .fmul p f packed d a b => Sys2Proof.Machine.execFmul p f packed d a b s
  | .fdiv p f packed d a b => Sys2Proof.Machine.execFdiv p f packed d a b s
  | .fsqrt p f packed d a => Sys2Proof.Machine.execFsqrt p f packed d a s
  | .fmin p f packed d a b => Sys2Proof.Machine.execFmin p f packed d a b s
  | .fmax p f packed d a b => Sys2Proof.Machine.execFmax p f packed d a b s
  | .fmadd p f packed d a b => Sys2Proof.Machine.execFmadd p f packed d a b s
  | .feq p f packed d a b => Sys2Proof.Machine.execFeq p f packed d a b s
  | .flt p f packed d a b => Sys2Proof.Machine.execFlt p f packed d a b s
  | .fle p f packed d a b => Sys2Proof.Machine.execFle p f packed d a b s
  | .fcvt p f d a src => Sys2Proof.Machine.execFcvt p f d a src s
  | .fcvti p f d a => Sys2Proof.Machine.execFcvti p f d a s
  | .icvtf p f d a => Sys2Proof.Machine.execIcvtf p f d a s
  | .fmvg p d a => Sys2Proof.Machine.execFmvg p d a s
  | .fmvv p d a => Sys2Proof.Machine.execFmvv p d a s
  | .vadd p e d a b => Sys2Proof.Machine.execVadd p e d a b s
  | .vsub p e d a b => Sys2Proof.Machine.execVsub p e d a b s
  | .vmul p e d a b => Sys2Proof.Machine.execVmul p e d a b s
  | .vmin p e d a b => Sys2Proof.Machine.execVmin p e d a b s
  | .vminu p e d a b => Sys2Proof.Machine.execVminu p e d a b s
  | .vmax p e d a b => Sys2Proof.Machine.execVmax p e d a b s
  | .vmaxu p e d a b => Sys2Proof.Machine.execVmaxu p e d a b s
  | .vand p d a b => Sys2Proof.Machine.execVand p d a b s
  | .vor p d a b => Sys2Proof.Machine.execVor p d a b s
  | .vxor p d a b => Sys2Proof.Machine.execVxor p d a b s
  | .vshl p e d a b => Sys2Proof.Machine.execVshl p e d a b s
  | .vshr p e d a b => Sys2Proof.Machine.execVshr p e d a b s
  | .vsar p e d a b => Sys2Proof.Machine.execVsar p e d a b s
  | .vdot p d a b => Sys2Proof.Machine.execVdot p d a b s
  | .vdotu p d a b => Sys2Proof.Machine.execVdotu p d a b s
  | .vsplat p e d a => Sys2Proof.Machine.execVsplat p e d a s
  | .vextr p e d a lane => Sys2Proof.Machine.execVextr p e d a lane s
  | .vlB p d a imm => Sys2Proof.Machine.execVlB p d a imm s
  | .vlH p d a imm => Sys2Proof.Machine.execVlH p d a imm s
  | .vlW p d a imm => Sys2Proof.Machine.execVlW p d a imm s
  | .vlD p d a imm => Sys2Proof.Machine.execVlD p d a imm s
  | .vsB p src a imm => Sys2Proof.Machine.execVsB p src a imm s
  | .vsH p src a imm => Sys2Proof.Machine.execVsH p src a imm s
  | .vsW p src a imm => Sys2Proof.Machine.execVsW p src a imm s
  | .vsD p src a imm => Sys2Proof.Machine.execVsD p src a imm s
  | .flH p d a imm => Sys2Proof.Machine.execFlH p d a imm s
  | .flW p d a imm => Sys2Proof.Machine.execFlW p d a imm s
  | .flD p d a imm => Sys2Proof.Machine.execFlD p d a imm s
  | .fsH p src a imm => Sys2Proof.Machine.execFsH p src a imm s
  | .fsW p src a imm => Sys2Proof.Machine.execFsW p src a imm s
  | .fsD p src a imm => Sys2Proof.Machine.execFsD p src a imm s
  | .portRd p d a => Sys2Proof.Machine.execPortRd p d a s
  | .portWr p a b => Sys2Proof.Machine.execPortWr p a b s
  | .pktHdr p a b => Sys2Proof.Machine.execPktHdr p a b s
  | .pktApp p a b => Sys2Proof.Machine.execPktApp p a b s
  | .pktSend p d a => Sys2Proof.Machine.execPktSend p d a s
  | .evtWait p d a => Sys2Proof.Machine.execEvtWait p d a s
  | .evtWaitTimeout n => Sys2Proof.Machine.execEvtWaitTimeout n s
  | .infuserEvent x e => Sys2Proof.Machine.execInfuserEvent x e s
  | .portSignal x v => Sys2Proof.Machine.execPortSignal x v s
  | .portTimerStart x v => Sys2Proof.Machine.execPortTimerStart x v s
  | .infuserTimerExpiry x => Sys2Proof.Machine.execInfuserTimerExpiry x s
  | .portRrrel x v => Sys2Proof.Machine.execPortRrrel x v s
  | .portRxstatRead g => Sys2Proof.Machine.execPortRxstatRead g s
  | .portRxfifoRead g => Sys2Proof.Machine.execPortRxfifoRead g s
  | .portStatRead g => Sys2Proof.Machine.execPortStatRead g s
  | .portTxlenWrite g v => Sys2Proof.Machine.execPortTxlenWrite g v s
  | .portTxfifoWrite g v => Sys2Proof.Machine.execPortTxfifoWrite g v s
  | .portTxend g v => Sys2Proof.Machine.execPortTxend g v s
  | .portTxtsRead g => Sys2Proof.Machine.execPortTxtsRead g s
  | .portCtrlWrite g v => Sys2Proof.Machine.execPortCtrlWrite g v s
  | .interruptEntry c => Sys2Proof.Machine.execInterruptEntry c s
  | .secureInterruptEntry c => Sys2Proof.Machine.execSecureInterruptEntry c s
  | .supervisoryEventEntry c => Sys2Proof.Machine.execSupervisoryEventEntry c s
  | .debugRequestEntry c => Sys2Proof.Machine.execDebugRequestEntry c s
  | .icSourceChange n level => Sys2Proof.Machine.execIcSourceChange n level s
  | .icSrcWrite q n v => Sys2Proof.Machine.execIcSrcWrite q n v s
  | .icSwtrig q v => Sys2Proof.Machine.execIcSwtrig q v s
  | .remoteReadTagTimeout c t => Sys2Proof.Machine.execRemoteReadTagTimeout c t s
  | .remoteWriteTimeout c t => Sys2Proof.Machine.execRemoteWriteTimeout c t s
  | .storeDrain p => Sys2Proof.Machine.execStoreDrain p s
  | .l3WaymaskWrite q n v => Sys2Proof.Machine.execL3WaymaskWrite q n v s
  | .l3LockWrite q v => Sys2Proof.Machine.execL3LockWrite q v s
  | .l3CctlEnable q c v => Sys2Proof.Machine.execL3CctlEnable q c v s
  | .icinv q c => Sys2Proof.Machine.execIcinv q c s
  | .l3L2ctlWrite q n v => Sys2Proof.Machine.execL3L2ctlWrite q n v s
  | .l3SlctlWrite q n v => Sys2Proof.Machine.execL3SlctlWrite q n v s
  | .ngLinkcfgWrite q n v => Sys2Proof.Machine.execNgLinkcfgWrite q n v s
  | .trainingSymbolsDetected l => Sys2Proof.Machine.execTrainingSymbolsDetected l s
  | .linkAbsent l => Sys2Proof.Machine.execLinkAbsent l s
  | .codewordLock l delay skew wrongPort => Sys2Proof.Machine.execCodewordLock l delay skew wrongPort s
  | .linkHello l hello => Sys2Proof.Machine.execLinkHello l hello s
  | .helloTimeout l => Sys2Proof.Machine.execHelloTimeout l s
  | .linkAuthentication l outcome => Sys2Proof.Machine.execLinkAuthentication l outcome s
  | .keyconfirm l => Sys2Proof.Machine.execKeyconfirm l s
  | .bondMemberJoin l => Sys2Proof.Machine.execBondMemberJoin l s
  | .bondMemberLeave l => Sys2Proof.Machine.execBondMemberLeave l s
  | .codewordLockLoss l => Sys2Proof.Machine.execCodewordLockLoss l s
  | .flitReceive l f => Sys2Proof.Machine.execFlitReceive l f s
  | .replayRequest l seq => Sys2Proof.Machine.execReplayRequest l seq s
  | .creditTimeout l => Sys2Proof.Machine.execCreditTimeout l s
  | .stallRetrain l => Sys2Proof.Machine.execStallRetrain l s
  | .packetForward l k => Sys2Proof.Machine.execPacketForward l k s
  | .packetTailArrival l k tagOk => Sys2Proof.Machine.execPacketTailArrival l k tagOk s
  | .packetTransmitStart port => Sys2Proof.Machine.execPacketTransmitStart port s
  | .legacyTimeout l => Sys2Proof.Machine.execLegacyTimeout l s
  | .linkFailureTimeout l => Sys2Proof.Machine.execLinkFailureTimeout l s
  | .rekey l => Sys2Proof.Machine.execRekey l s
  | .rekeyMarker l => Sys2Proof.Machine.execRekeyMarker l s
  | .rekeyFail l => Sys2Proof.Machine.execRekeyFail l s
  | .linkctlRetrain q n v => Sys2Proof.Machine.execLinkctlRetrain q n v s
  | .linkctlQuarantine q n v => Sys2Proof.Machine.execLinkctlQuarantine q n v s
  | .linkctlRelease q n v => Sys2Proof.Machine.execLinkctlRelease q n v s
  | .linkctlClrerr q n v => Sys2Proof.Machine.execLinkctlClrerr q n v s
  | .ngNodeidWrite q v => Sys2Proof.Machine.execNgNodeidWrite q v s
  | .read l k => Sys2Proof.Machine.execRead l k s
  | .readResp l k => Sys2Proof.Machine.execReadResp l k s
  | .write l k => Sys2Proof.Machine.execWrite l k s
  | .writeAck l k => Sys2Proof.Machine.execWriteAck l k s
  | .atomic l k => Sys2Proof.Machine.execAtomic l k s
  | .atomicResp l k => Sys2Proof.Machine.execAtomicResp l k s
  | .message l k => Sys2Proof.Machine.execMessage l k s
  | .event l k => Sys2Proof.Machine.execEvent l k s
  | .mirrorFabricHeartbeat l k => Sys2Proof.Machine.execMirrorFabricHeartbeat l k s
  | .nack l k => Sys2Proof.Machine.execNack l k s
  | .timeSync l src offset stamp => Sys2Proof.Machine.execTimeSync l src offset stamp s
  | .timeDelayReq l src => Sys2Proof.Machine.execTimeDelayReq l src s
  | .timeDelayResp l src oneWay => Sys2Proof.Machine.execTimeDelayResp l src oneWay s
  | .timeAnnounce l src gm prio steps imports => Sys2Proof.Machine.execTimeAnnounce l src gm prio steps imports s
  | .syncInterval => Sys2Proof.Machine.execSyncInterval s
  | .announceInterval => Sys2Proof.Machine.execAnnounceInterval s
  | .grandmasterLoss => Sys2Proof.Machine.execGrandmasterLoss s
  | .epTcfgWrite q v => Sys2Proof.Machine.execEpTcfgWrite q v s
  | .gptpPeerLoss => Sys2Proof.Machine.execGptpPeerLoss s
  | .mgmtEnumerate l k => Sys2Proof.Machine.execMgmtEnumerate l k s
  | .mgmtAssign l k => Sys2Proof.Machine.execMgmtAssign l k s
  | .mgmtRouteWrite l k => Sys2Proof.Machine.execMgmtRouteWrite l k s
  | .mgmtRouteRead l k => Sys2Proof.Machine.execMgmtRouteRead l k s
  | .mgmtStatusRead l k => Sys2Proof.Machine.execMgmtStatusRead l k s
  | .mgmtQuarantine l k => Sys2Proof.Machine.execMgmtQuarantine l k s
  | .mgmtRelease l k => Sys2Proof.Machine.execMgmtRelease l k s
  | .mgmtRetrain l k => Sys2Proof.Machine.execMgmtRetrain l k s
  | .mgmtReply l k => Sys2Proof.Machine.execMgmtReply l k s
  | .queueEngineSend n => Sys2Proof.Machine.execQueueEngineSend n s
  | .ngSqcfgWrite q n v => Sys2Proof.Machine.execNgSqcfgWrite q n v s
  | .ngRqcfgWrite q n v => Sys2Proof.Machine.execNgRqcfgWrite q n v s
  | .epCfgWrite q v => Sys2Proof.Machine.execEpCfgWrite q v s
  | .epochTick => Sys2Proof.Machine.execEpochTick s
  | .epochGuard => Sys2Proof.Machine.execEpochGuard s
  | .edwDeadline n => Sys2Proof.Machine.execEdwDeadline n s
  | .ktEdwstatKick q v => Sys2Proof.Machine.execKtEdwstatKick q v s
  | .mirrorLineRead => Sys2Proof.Machine.execMirrorLineRead s
  | .mirrorCommitSend late => Sys2Proof.Machine.execMirrorCommitSend late s
  | .mirrorLines k => Sys2Proof.Machine.execMirrorLines k s
  | .mirrorCopy k => Sys2Proof.Machine.execMirrorCopy k s
  | .mirrorCkpt k => Sys2Proof.Machine.execMirrorCkpt k s
  | .mirrorCommit k => Sys2Proof.Machine.execMirrorCommit k s
  | .mirrorCommitAck k => Sys2Proof.Machine.execMirrorCommitAck k s
  | .mirrorHeartbeat k => Sys2Proof.Machine.execMirrorHeartbeat k s
  | .mirrorOffer k => Sys2Proof.Machine.execMirrorOffer k s
  | .mirrorHandoverAck k => Sys2Proof.Machine.execMirrorHandoverAck k s
  | .heartbeatBoundary => Sys2Proof.Machine.execHeartbeatBoundary s
  | .kettleDegradedHeartbeat => Sys2Proof.Machine.execKettleDegradedHeartbeat s
  | .rollbackComplete => Sys2Proof.Machine.execRollbackComplete s
  | .commitMissing => Sys2Proof.Machine.execCommitMissing s
  | .handoverAckTimeout => Sys2Proof.Machine.execHandoverAckTimeout s
  | .mrCfgWrite q v => Sys2Proof.Machine.execMrCfgWrite q v s
  | .mrCtlClaim q v => Sys2Proof.Machine.execMrCtlClaim q v s
  | .mrCtlOffer q v => Sys2Proof.Machine.execMrCtlOffer q v s
  | .mrCtlHandover q v => Sys2Proof.Machine.execMrCtlHandover q v s
  | .mrCtlAlone q v => Sys2Proof.Machine.execMrCtlAlone q v s
  | .copyComplete => Sys2Proof.Machine.execCopyComplete s
  | .mbGo q n => Sys2Proof.Machine.execMbGo q n s
  | .mbAck q n => Sys2Proof.Machine.execMbAck q n s
  | .caddyTakeMessage => Sys2Proof.Machine.execCaddyTakeMessage s
  | .mbResponse n status body => Sys2Proof.Machine.execMbResponse n status body s
  | .mbHello n nonce => Sys2Proof.Machine.execMbHello n nonce s
  | .strainerSet n body => Sys2Proof.Machine.execStrainerSet n body s
  | .strainerClear n st => Sys2Proof.Machine.execStrainerClear n st s
  | .countersign n x base size => Sys2Proof.Machine.execCountersign n x base size s
  | .countersignComplete n x ok => Sys2Proof.Machine.execCountersignComplete n x ok s
  | .debugGrant n sigOk => Sys2Proof.Machine.execDebugGrant n sigOk s
  | .lcTransition n target serial nonceOk ownerSig makerSig rmaSig keyHash => Sys2Proof.Machine.execLcTransition n target serial nonceOk ownerSig makerSig rmaSig keyHash s
  | .lcRowProgrammed row stuck => Sys2Proof.Machine.execLcRowProgrammed row stuck s
  | .sign n signature => Sys2Proof.Machine.execSign n signature s
  | .measureRead n signature => Sys2Proof.Machine.execMeasureRead n signature s
  | .recovery n last ok loader manifest measure policy => Sys2Proof.Machine.execRecovery n last ok loader manifest measure policy s
  | .caddyWatchdogExpiry => Sys2Proof.Machine.execCaddyWatchdogExpiry s
  | .ktSaferelArm q v => Sys2Proof.Machine.execKtSaferelArm q v s
  | .ktSaferelRelease q v => Sys2Proof.Machine.execKtSaferelRelease q v s
  | .armCountExpiry => Sys2Proof.Machine.execArmCountExpiry s
  | .ktSovalWrite q v => Sys2Proof.Machine.execKtSovalWrite q v s
  | .ktSafelvlWrite q v => Sys2Proof.Machine.execKtSafelvlWrite q v s
  | .safeInputChange n a b => Sys2Proof.Machine.execSafeInputChange n a b s
  | .safeInputDiscrepancy n => Sys2Proof.Machine.execSafeInputDiscrepancy n s
  | .joystickSample samples => Sys2Proof.Machine.execJoystickSample samples s
  | .watchdogKick q v => Sys2Proof.Machine.execWatchdogKick q v s
  | .watchdogExpiry => Sys2Proof.Machine.execWatchdogExpiry s
  | .watchdogWarning => Sys2Proof.Machine.execWatchdogWarning s
  | .temperatureSample temps => Sys2Proof.Machine.execTemperatureSample temps s
  | .dregsEventTake => Sys2Proof.Machine.execDregsEventTake s
  | .dregsRelease q v => Sys2Proof.Machine.execDregsRelease q v s
  | .dregsSubmit q v => Sys2Proof.Machine.execDregsSubmit q v s
  | .domainOfferAnswer => Sys2Proof.Machine.execDomainOfferAnswer s
  | .domainAnswerTimeout => Sys2Proof.Machine.execDomainAnswerTimeout s
  | .pwDomreqWake q v => Sys2Proof.Machine.execPwDomreqWake q v s
  | .pwDomreqRet q v => Sys2Proof.Machine.execPwDomreqRet q v s
  | .pwDomreqOff q v => Sys2Proof.Machine.execPwDomreqOff q v s
  | .domainWakeTimeout dom => Sys2Proof.Machine.execDomainWakeTimeout dom s
  | .domainReturn dom => Sys2Proof.Machine.execDomainReturn dom s
  | .pwVcmdWrite q n v => Sys2Proof.Machine.execPwVcmdWrite q n v s
  | .voltageCommandComplete n => Sys2Proof.Machine.execVoltageCommandComplete n s
  | .voltageCommandFail n => Sys2Proof.Machine.execVoltageCommandFail n s
  | .pwCoreclkWrite q v => Sys2Proof.Machine.execPwCoreclkWrite q v s
  | .ktSteepctlStart q v => Sys2Proof.Machine.execKtSteepctlStart q v s
  | .ktSteepctlAck q v => Sys2Proof.Machine.execKtSteepctlAck q v s
  | .steepEnd => Sys2Proof.Machine.execSteepEnd s
  | .steepWake => Sys2Proof.Machine.execSteepWake s
  | .steepWakeDone => Sys2Proof.Machine.execSteepWakeDone s
  | .steepSample => Sys2Proof.Machine.execSteepSample s
  | .steepCompare => Sys2Proof.Machine.execSteepCompare s
  | .steepActContinue => Sys2Proof.Machine.execSteepActContinue s
  | .steepActSignal => Sys2Proof.Machine.execSteepActSignal s
  | .steepActRecord => Sys2Proof.Machine.execSteepActRecord s
  | .steepSleep => Sys2Proof.Machine.execSteepSleep s
  | .steepSleepExpiry => Sys2Proof.Machine.execSteepSleepExpiry s
  | .steepJump => Sys2Proof.Machine.execSteepJump s
  | .mcCtlInit q v => Sys2Proof.Machine.execMcCtlInit q v s
  | .mcCtlFill q v => Sys2Proof.Machine.execMcCtlFill q v s
  | .channelTrained n => Sys2Proof.Machine.execChannelTrained n s
  | .fillComplete n => Sys2Proof.Machine.execFillComplete n s
  | .scrubRead n addr upset => Sys2Proof.Machine.execScrubRead n addr upset s
  | .refresh n bank postpone => Sys2Proof.Machine.execRefresh n bank postpone s
  | .ifCtlStart q x v => Sys2Proof.Machine.execIfCtlStart q x v s
  | .ifCtlStop q x v => Sys2Proof.Machine.execIfCtlStop q x v s
  | .ifPgrpWrite q g v => Sys2Proof.Machine.execIfPgrpWrite q g v s
  | .ifDoorbell q x v => Sys2Proof.Machine.execIfDoorbell q x v s
  | .packetBuilt x b => Sys2Proof.Machine.execPacketBuilt x b s
  | .frameReceived g start node bytes err => Sys2Proof.Machine.execFrameReceived g start node bytes err s
  | .frameTransmitted g failed => Sys2Proof.Machine.execFrameTransmitted g failed s
  | .gateCycleStart n => Sys2Proof.Machine.execGateCycleStart n s
  | .canSlotQueue c n => Sys2Proof.Machine.execCanSlotQueue c n s
  | .canBusOffRecovery c => Sys2Proof.Machine.execCanBusOffRecovery c s
  | .portLinkChange g up => Sys2Proof.Machine.execPortLinkChange g up s
  | .csiPacket k start vc dt kind headerOk crcOk bytes => Sys2Proof.Machine.execCsiPacket k start vc dt kind headerOk crcOk bytes s
  | .cameraFrameStart k => Sys2Proof.Machine.execCameraFrameStart k s
  | .cameraFrameEnd k => Sys2Proof.Machine.execCameraFrameEnd k s
  | .cmCqtailWrite q v => Sys2Proof.Machine.execCmCqtailWrite q v s
  | .codecJobComplete ok status => Sys2Proof.Machine.execCodecJobComplete ok status s
  | .codecSliceReady => Sys2Proof.Machine.execCodecSliceReady s
  | .pcieInboundRequest n addr isWrite bytes => Sys2Proof.Machine.execPcieInboundRequest n addr isWrite bytes s
  | .pcieMsi n => Sys2Proof.Machine.execPcieMsi n s
  | .pcieLinkChange n => Sys2Proof.Machine.execPcieLinkChange n s
  | .usbBusEvent n e => Sys2Proof.Machine.execUsbBusEvent n e s
  | .dpOcfgEnable q o v => Sys2Proof.Machine.execDpOcfgEnable q o v s
  | .displayLinkTrainingDone o ok edid => Sys2Proof.Machine.execDisplayLinkTrainingDone o ok edid s
  | .hpdChange o level => Sys2Proof.Machine.execHpdChange o level s
  | .hpdLoss o => Sys2Proof.Machine.execHpdLoss o s
  | .displayFrameBoundary o => Sys2Proof.Machine.execDisplayFrameBoundary o s
  | .displayLine o => Sys2Proof.Machine.execDisplayLine o s
  | .layerUnderrun o l r => Sys2Proof.Machine.execLayerUnderrun o l r s
  | .dpAmbWrite q o v => Sys2Proof.Machine.execDpAmbWrite q o v s
  | .tcCfgEnable q t v => Sys2Proof.Machine.execTcCfgEnable q t v s
  | .touchScanStart t => Sys2Proof.Machine.execTouchScanStart t s
  | .touchScanEnd t contacts noises => Sys2Proof.Machine.execTouchScanEnd t contacts noises s
  | .touchReport t => Sys2Proof.Machine.execTouchReport t s
  | .bypass => Sys2Proof.Machine.execBypass s
  | .idcode => Sys2Proof.Machine.execIdcode s
  | .samplePreload => Sys2Proof.Machine.execSamplePreload s
  | .extest => Sys2Proof.Machine.execExtest s
  | .kstat addr => Sys2Proof.Machine.execKstat addr s
  | .cert bytes sigOk => Sys2Proof.Machine.execCert bytes sigOk s
  | .access addr isWrite data => Sys2Proof.Machine.execAccess addr isWrite data s
  | .grantExpiry => Sys2Proof.Machine.execGrantExpiry s
  | .dbGrantRevoke q => Sys2Proof.Machine.execDbGrantRevoke q s
  | .dbCatchRelease q v => Sys2Proof.Machine.execDbCatchRelease q v s
  | .dbCatchDbr q v => Sys2Proof.Machine.execDbCatchDbr q v s
  | .dbCorectlStep q c v => Sys2Proof.Machine.execDbCorectlStep q c v s
  | .dbCorectlSkip q c v => Sys2Proof.Machine.execDbCorectlSkip q c v s
  | .dbCorectlRequest q c v => Sys2Proof.Machine.execDbCorectlRequest q c v s
  | .pcCntWrite q n v => Sys2Proof.Machine.execPcCntWrite q n v s
  | .registerWrite q addr size v => Sys2Proof.Machine.execRegisterWrite q addr size v s
  | .illegalInstruction p w => Sys2Proof.Machine.execIllegalInstruction p w s
  | .instructionFetchFault p => Sys2Proof.Machine.execInstructionFetchFault p s
  | .aonBkpLoss good => Sys2Proof.Machine.execAonBkpLoss good s
  | .voltageMonitorCap n mv => Sys2Proof.Machine.execVoltageMonitorCap n mv s
  | .refreshRateRead n rate => Sys2Proof.Machine.execRefreshRateRead n rate s

end Sys2Proof.Machine
end

