-- ==== Sys2Proof/Machine/Tick.lean ====
section
/-! DEFINITION. What one microsecond without a command brings (log 3): fabric time and the clocks of the Kettle advance
(spec 14, 17 R375), token buckets fill (13 R293, 19 R408), the DRAM channels serve their write queues (19 R409), the
one-shot timers of the Infusers run (20 R420), counters of cycles count (23 R485), and the trace FIFO drains (23 R483). An
expiry that the table lists as a row of its own comes as that command: the watchdog and the timers stop short of it. -/

namespace Sys2Proof.Machine

/-- Nanoseconds of an idle step. -/
def idleNs : Nat := 1000

/-- What the servo changes in a microsecond (R298): its rate, and as much of the offset as ±1000 ppm let it remove. -/
def servoCorrection (s : State) : Int × State :=
  let d := clampRate (s.ep.rate - s.ep.slew)
  (d, { s with ep := { s.ep with slew := s.ep.slew + (d - s.ep.rate) } })

/-- Fabric time advances by a microsecond of the corrected increment, with a resolution of 2^-32 ns (R298). -/
def idleFabric (s : State) : State :=
  let (d, s) := servoCorrection s
  let now := ((s.fl F.EP_NOW_VALUE 0 * nsUnit + s.ep.frac + idleNs * nsUnit : Nat) : Int) + d
  { s.setF F.EP_NOW_VALUE 0 (now.toNat / nsUnit) with ep := { s.ep with frac := now.toNat % nsUnit } }

/-- Fabric time, as the epoch unit and as the Kettle hold it (17 R377), and the real-time clock. -/
def idleTime (s : State) : State :=
  let s := if epochRuns s then holdFab (idleFabric s) else { s with fab := s.fab + idleNs }
  { s with time := s.time + idleNs, sup := { s.sup with rtc := s.sup.rtc.map (· + 1) } }

/-- ELAPSED of the device watchdog counts units of 1 µs, below TMO. -/
def idleWatchdog (s : State) : State :=
  let e := s.fl F.KT_WDKICK_ELAPSED 0
  if s.fb F.KT_WDCFG_EN 0 && e + 1 < wdTmo s then s.setF F.KT_WDKICK_ELAPSED 0 (e + 1) else s

/-- What a bucket lacks after it has filled: `rate` gives what a key's bucket gains. -/
def refill (rate : Nat → Nat) (m : FMap Nat) : FMap Nat :=
  m.filterMap fun e => if e.2 ≤ rate e.1 then none else some (e.1, e.2 - rate e.1)

/-- The buckets of the partitions, at RATE lines per µs, and of the windows, at RATE MB/s. -/
def idleTokens (s : State) : State :=
  { s with dram := { s.dram with tokens := refill (fun k => s.fl F.MC_BUDGET_RATE (k / 4)) s.dram.tokens },
           router := { s.router with wtok := refill (fun k => s.fl F.ST_WINRATE_RATE k) s.router.wtok } }

/-- The channels serve their write queues: within 1 µs each takes more than the 64 lines that a queue holds (19 R402,
R409, R411). A channel in self-refresh has none. -/
def idleWrites (s : State) : State := servedWrites s fun _ => true

/-- Cycles of ICLK in a microsecond: 1.0 GHz, 200 MHz where it runs from FIRC, none where that has failed (02 R47, R50). -/
def iclkCycles (s : State) : Nat := if sclkStopped s then 0 else if s.clk.spllSel then 1000 else 200

/-- A running one-shot keeps at least its last cycle until its expiry comes. -/
def idleTimer (cycles : Nat) (x : Infus) : Infus := if x.timer = 0 then x else { x with timer := max 1 (x.timer - cycles) }

/-- The timers. An Infuser with nothing set is not listed. -/
def idleTimers (s : State) : State := { s with inf := s.inf.map fun e => (e.1, idleTimer (iclkCycles s) e.2) }

/-- Counters of event 0x01, the cycles of a core, and of 0x07, those with its store buffer full; how many a microsecond
brings is open. -/
def idleCycles (s : State) : State :=
  (setElems s F.PC_EVT_EN).foldl (fun s n =>
    let c := Fin.ofNat 16 (s.fl F.PC_EVT_UNIT n)
    let ev := s.fl F.PC_EVT_EVENT n
    if (ev == 1 || (ev == 7 && 16 ≤ (s.cpu (.core c)).sb.length)) && (s.cpu (.core c)).run == .running
        && (s.fb F.PC_EVT_PANY n || s.fl F.PC_EVT_PART n == partOf s c) then
      let (k, s) := s.takeFree
      let v := s.fl F.PC_CNT_COUNT n + Config.freeNat k
      let s := s.setF F.PC_CNT_COUNT n v
      if 2 ^ 48 ≤ v then
        let s := s.setB F.PC_CNT_OVF n true
        if s.fb F.PC_EVT_IRQ n then raiseSource s 280 else s
      else s
    else s) s

/-- The trace FIFO; below 128 records the cores no longer hold their requests. -/
def idleTrace (s : State) : State :=
  let s := traceDrain s 256
  traceReport { s with trace := { s.trace with held := s.trace.held && 128 ≤ s.trace.fifo.length } }

/-- Idle flits return the credit owed to the partners (12 R244, R246). -/
def idleCredit (s : State) : State :=
  s.links.foldl (fun s e => if e.2.owed = 0 then s else putLk s e.1 { e.2 with owed := 0 }) s

/-- Packets that wait for their target are tried again. -/
def idlePackets (s : State) : State := resumeWaiting s.router.waiting.length s

/-- The block idles for one microsecond; while POR is asserted nothing runs. -/
def idle (s : State) : State :=
  if s.sup.por then s
  else idlePackets (idleTrace (idleCycles (idleCredit (idleTimers (idleTokens (idleWrites (idleWatchdog (idleTime (pulsesEnd s)))))))))

end Sys2Proof.Machine
end

