-- ==== Sys2Proof/Safety.lean ====
section
/-! DEFINITION. The terms in which the statements speak: a processor at rest before an instruction, what an instruction
that completes may have changed, a command that answers a state of which something holds, and what every step keeps. -/

namespace Sys2Proof.Machine

/-- The comparators of a core cannot act (spec 23 R472); an Infuser and the Caddy have none. -/
def noDebug (p : Proc) (s : State) : Prop :=
  match p with
  | .core c => debugActs s c = false
  | _ => True

/-- Nothing but the instruction at `pc` acts at its completion: no loop ends there, no write of IE or IPL is pending, no
step is armed, no counter counts, and nothing is waited for. -/
structure Plain (p : Proc) (s : State) (pc : Word) : Prop where
  loop : ∀ l, l ≤ 1 → mget 0 (s.cpu p).lc l = 0 ∨ pc ≠ mget 0 (s.cpu p).le l
  ie : (s.cpu p).pendIe = none
  ipl : (s.cpu p).pendIpl = none
  step : (s.cpu p).stepBank = none
  count : setElems s F.PC_EVT_EN = []
  rest : (s.cpu p).wait = .none

/-- Processor `p` executes an instruction presented to it: the processors are listed in canonical form, `p` runs on a live
clock and waits for nothing, no supervisory event must be taken first, and no comparator acts. -/
structure Ready (p : Proc) (s : State) : Prop where
  form : mwf {} s.cpus = true
  run : (s.cpu p).run = .running
  clock : clockStopped s p = false
  taken : (s.cpu p).mustTake = false
  wait : (s.cpu p).wait = .none
  debug : noDebug p s

/-- Nothing but the instruction acts. -/
structure Calm (p : Proc) (s : State) : Prop extends Ready p s where
  plain : Plain p s (s.cpu p).pc

/-- Nothing but processor `p` differs between `s` and `t`, and `p` is now `k`: every register, field, flag and byte of
memory that is not named is as before. -/
structure OnlyCpu (p : Proc) (s t : State) (k : Cpu) : Prop where
  cpu : t.cpu p = k
  others : ∀ q, q ≠ p → t.cpu q = s.cpu q
  rest : { t with cpus := s.cpus } = s

/-- The command answers a next state of which `P` holds. -/
def Gives (i : Instr) (s : State) (P : State → Prop) : Prop := ∃ t, exec i s = .next t ∧ P t

/-- The instruction's own operation has left state `t`, and the instruction completes from there: `p` is `k` with the pc at
`npc`, and nothing else of `t` has changed. -/
def Ends (i : Instr) (p : Proc) (s t : State) (k : Cpu) (npc : Word) : Prop :=
  Gives i s fun u => OnlyCpu p t u { k with pc := npc }

/-- The instruction completes: `p` is `k` with the pc at `npc`, and nothing else has changed. -/
def Goes (i : Instr) (p : Proc) (s : State) (k : Cpu) (npc : Word) : Prop := Ends i p s s k npc

/-- The instruction completes with `v` in register `d` of the bank in use (nowhere, where d is g31), and nothing else
changed but the pc, which moves by 4. -/
def Writes (i : Instr) (p : Proc) (s : State) (d : RegNo) (v : Word) : Prop :=
  Goes i p s ((s.cpu p).wr (bankInUse p (s.cpu p)) d v) ((s.cpu p).pc + 4)

/-- The registers of processor `p` after a result `v` that may have overflowed (spec 05 R96, with OVT = 0). -/
def overflowed (p : Proc) (k : Cpu) (d : RegNo) (v : Word) (ov : Bool) : Cpu :=
  let k' := k.wr (bankInUse p k) d v
  if ov then { k' with st := { k.st with ov := true } } else k'

/-- The registers of processor `p` after a division by zero (spec 05 R97, with DZT = 0). -/
def dividedByZero (p : Proc) (k : Cpu) (d : RegNo) (v : Word) : Cpu :=
  { k.wr (bankInUse p k) d v with st := { k.st with dz := true } }

/-- An integer lies outside the range of `n` signed bits. -/
def outside (n : Nat) (z : Int) : Bool := z < -2 ^ (n - 1) || 2 ^ (n - 1) ≤ z

/-- The instruction raises exception `e` at its own address: the exception's entry is all that happens. -/
def Raises (i : Instr) (p : Proc) (s : State) (e : Exc) : Prop :=
  exec i s = .next (takeExc s p e (s.cpu p).pc)

/-- An access of `n` bytes at `ea`, checked as kind `chk`, leads to the places `xs`; translation has left `s1`, and neither a
fault nor a comparator stops it. -/
def Reaches (p : Proc) (s : State) (ea : Word) (n chk : Nat) (xs : List (XAddr × Seg)) (s1 : State) : Prop :=
  ∃ fs, resolveSegs s p n chk chk (heldPlaces s p) (segs ea n) = .ok fs s1 ∧ firstFault fs = none ∧ founds fs = xs ∧ noDebug p s1

/-- The low `n` bytes of a number as a signed 64-bit value. -/
def signedBytes (n v : Nat) : Word := (BitVec.ofNat (8 * n) v).signExtend 64

/-- A core may run FP and SIMD instructions: FPE is set, and the bank in use owes no frame. -/
def fpReady (c : Fin 16) (s : State) : Prop :=
  let k := s.cpu (.core c)
  k.st.fpe = true ∧ (k.bank k.st.bank.toNat).owes = false

/-- Processor `k` with register v`d` written, which sets FPD. -/
def withV (k : Cpu) (d : RegNo) (v : VWord) : Cpu := { k.wrV d v with st := { k.st with fpd := true } }

/-- The bits of a 64-bit register value that field `f` holds. -/
def bitsOf (v : Word) (f : Fld) : Nat := v.toNat / 2 ^ f.lo % 2 ^ f.width

/-- Processor `p` can enter an exception now: a store buffer that never merges is empty (spec 10 R221). -/
def canEnter (p : Proc) (s : State) : Prop := neverMerges s p = false ∨ (s.cpu p).sb = []

/-- Fields are what `s` has, but for the elements named. -/
def FieldsBut (s t : State) (named : List (Fld × Nat)) : Prop :=
  ∀ (f : Fld) (i : Nat), (∀ e ∈ named, fkey e.1 e.2 ≠ fkey f i) → t.fl f i = s.fl f i

/-- The unit that holds local offset `off` is on and ready: an access reaches it (spec 03 R58, 18 R392). -/
def openAt (s : State) (off : Nat) : Prop := ∃ s1, gateOff s off = .ok () s1

/-- No supply reset is asserted. -/
def supplied (s : State) : Prop := s.sup.por = false ∧ s.sup.bor = false

/-- Channel `n` of the mailbox is BUSY with a message of command `cmd` whose version the Caddy reads and whose body fits the
buffer (spec 16 R351 to R353). -/
def busyWith (s : State) (n cmd : Nat) : Prop :=
  s.fl F.MB_STAT_STATE n = 2 ∧ serves s n = true ∧ readBytes s (mbBuf n + 2) 2 = cmd ∧ badVersion s n = false ∧
  bodyLength s n ≤ 4080

/-- Channel `n` of the mailbox is DONE with a response of that STATUS (spec 16 R351, R352). -/
def replied (s : State) (n status : Nat) : Prop := s.fl F.MB_STAT_STATE n = 3 ∧ readBytes s (mbBuf n + 8) 2 = status

/-- Nothing else acts when a processor that waits goes on: `Plain` but for what it waits for. -/
def plainWake (p : Proc) (s : State) : Prop := Plain p (s.setCpu p { s.cpu p with wait := .none }) (s.cpu p).pc

/-- No EVT.WAIT of the Infuser waits. -/
def noEvtWait (s : State) (i : Fin 32) : Prop := ∀ d m, (s.cpu (.infuser i)).wait ≠ .evt d m

/-- An event of source `n` since `s` has reached the interrupt controller: where it is an enabled edge source, it is pending
(spec 08 R189, R190). -/
def signalled (s t : State) (n : Nat) : Prop :=
  s.fb F.IC_SRC_EDGE n = true → s.fl F.IC_SRC_PRIO n ≠ 0 → t.fb F.IC_SRC_PENDING n = true

/-- The state that has counted the arrival of packet `k` on link `n`, and the header as it arrives there. -/
def counted (s : State) (n : Nat) (k : Packet) : State :=
  countEvent (leaveBuffer s n k) 0x41 n (some k.part.toNat)
def arrived (s : State) (n : Nat) (k : Packet) : Packet := arriveHeader (counted s n k) n k

/-- The state in which that packet has its turn at the local port: what is queued there with no later deadline is done
(spec 13 R286). -/
def turned (s : State) (n : Nat) (k : Packet) : State :=
  let c := counted s n k
  localBefore (arrived s n k).deadline.toNat (outQ c portLocal).length c

/-- Packet `k` of command `cmd` reaches this device, its destination, on link `l`, which is trained, not QUARANTINED, and
finds no fault in its source or header (spec 12 R267, R268; 13 R276, R289). -/
structure Comes (s : State) (l : Fin 34) (k : Packet) (cmd : Nat) : Prop where
  cmd : k.cmd.toNat = cmd
  here : isHere s k = true
  up : trained s l.val = true
  free : lstate s l.val ≠ 8
  source : reversePath (counted s l.val k) l.val (arrived s l.val k).src.toNat = true
  sound : requestFault (tracePacket (turned s l.val k) false (arrived s l.val k)) (arrived s l.val k) = none

/-- The state in which a packet that arrives is taken, once it is counted and traced. -/
def taking (s : State) (l : Fin 34) (k : Packet) : State :=
  tracePacket (turned s l.val k) false (arrived s l.val k)

/-- What every step keeps: memory and the processors in their canonical form, and the queue of the commands that wait. -/
def Kept (q : List Instr) (s : State) : Prop := Memory.wf s.mem = true ∧ mwf {} s.cpus = true ∧ s.pending = q

end Sys2Proof.Machine
end

