-- ==== Sys2Proof/Certificates/Slice0/Obligations.lean ====
section
/-! DEFINITION. The statements for the provers. -/

open Sys2Proof Sys2Proof.Machine

/-- R95, R98: what each integer instruction without a flag computes, at every operand, with the shift amounts unmasked.
R95: CLZ, CTZ and POPC count the leading zeros, the trailing zeros and the ones of ga.
R95: quotients and remainders by a divisor that is not zero. -/
def Obligations.IntegerResults : Prop :=
  (∀ (p : Proc) (s : State), Calm p s → ∀ (d a b : RegNo) (imm : BitVec 16),
    let x := s.g p a; let y := s.g p b
    let xw : BitVec 32 := x.truncate 32; let yw : BitVec 32 := y.truncate 32
    let w := fun (v : BitVec 32) => v.signExtend 64
    Writes (.mul p d a b) p s d (x * y) ∧
    Writes (.mulw p d a b) p s d (w (xw * yw)) ∧
    Writes (.mulh p d a b) p s d (BitVec.ofInt 64 (x.toInt * y.toInt / 2 ^ 64)) ∧
    Writes (.mulhu p d a b) p s d (BitVec.ofNat 64 (x.toNat * y.toNat / 2 ^ 64)) ∧
    Writes (.and p d a b) p s d (x &&& y) ∧
    Writes (.or p d a b) p s d (x ||| y) ∧
    Writes (.xor p d a b) p s d (x ^^^ y) ∧
    Writes (.andi p d a imm) p s d (x &&& imm.zeroExtend 64) ∧
    Writes (.ori p d a imm) p s d (x ||| imm.zeroExtend 64) ∧
    Writes (.xori p d a imm) p s d (x ^^^ imm.zeroExtend 64) ∧
    Writes (.lui p d imm) p s d (imm.signExtend 64 * 65536) ∧
    Writes (.slt p d a b) p s d (if x.toInt < y.toInt then 1 else 0) ∧
    Writes (.sltu p d a b) p s d (if x.toNat < y.toNat then 1 else 0) ∧
    Writes (.slti p d a imm) p s d (if x.toInt < (imm.signExtend 64).toInt then 1 else 0) ∧
    Writes (.sltiu p d a imm) p s d (if x.toNat < (imm.signExtend 64).toNat then 1 else 0) ∧
    Writes (.shl p d a b) p s d (if y.toNat < 64 then x <<< y.toNat else 0) ∧
    Writes (.shr p d a b) p s d (if y.toNat < 64 then x >>> y.toNat else 0) ∧
    Writes (.sar p d a b) p s d (if y.toNat < 64 then x.sshiftRight y.toNat else if x.msb then -1 else 0) ∧
    Writes (.shlw p d a b) p s d (if y.toNat < 32 then w (xw <<< y.toNat) else 0) ∧
    Writes (.shrw p d a b) p s d (if y.toNat < 32 then w (xw >>> y.toNat) else 0) ∧
    Writes (.sarw p d a b) p s d (if y.toNat < 32 then w (xw.sshiftRight y.toNat) else if xw.msb then -1 else 0) ∧
    Writes (.shli p d a imm) p s d (if imm.toNat < 64 then x <<< imm.toNat else 0) ∧
    Writes (.shri p d a imm) p s d (if imm.toNat < 64 then x >>> imm.toNat else 0) ∧
    Writes (.sari p d a imm) p s d (if imm.toNat < 64 then x.sshiftRight imm.toNat else if x.msb then -1 else 0)) ∧
  (∀ (p : Proc) (s : State), Calm p s → ∀ (d a : RegNo),
    let x := s.g p a
    (∃ n : Nat, n ≤ 64 ∧ Writes (.clz p d a) p s d (BitVec.ofNat 64 n) ∧
      (∀ k, 64 - n ≤ k → k < 64 → x.getLsbD k = false) ∧ (n < 64 → x.getLsbD (63 - n) = true)) ∧
    (∃ n : Nat, n ≤ 64 ∧ Writes (.ctz p d a) p s d (BitVec.ofNat 64 n) ∧
      (∀ k, k < n → x.getLsbD k = false) ∧ (n < 64 → x.getLsbD n = true)) ∧
    Writes (.popc p d a) p s d (BitVec.ofNat 64 ((List.range 64).countP fun k => x.getLsbD k))) ∧
  (∀ (p : Proc) (s : State), Calm p s → ∀ (d a b : RegNo),
    let x := s.g p a; let y := s.g p b
    let xw : BitVec 32 := x.truncate 32; let yw : BitVec 32 := y.truncate 32
    let w := fun (v : BitVec 32) => v.signExtend 64
    (y ≠ 0 → Writes (.divu p d a b) p s d (x / y)) ∧
    (yw ≠ 0 → Writes (.divuw p d a b) p s d (w (xw / yw))) ∧
    (y ≠ 0 → Writes (.rem p d a b) p s d (BitVec.ofInt 64 (x.toInt.tmod y.toInt))) ∧
    (yw ≠ 0 → Writes (.remw p d a b) p s d (w (BitVec.ofInt 32 (xw.toInt.tmod yw.toInt)))) ∧
    (y ≠ 0 → Writes (.remu p d a b) p s d (x % y)) ∧
    (yw ≠ 0 → Writes (.remuw p d a b) p s d (w (xw % yw))))

/-- R96: the instructions to which signed overflow applies write the wrapped result and, where the true result lies outside
the range, set OV (OVT = 0).
R96: with OVT = 1 an overflow raises ARITH with subcode OVERFLOW and does nothing else. -/
def Obligations.SignedOverflow : Prop :=
  (∀ (p : Proc) (s : State), Calm p s → (s.cpu p).st.ovt = false → ∀ (d a b : RegNo) (imm : BitVec 16),
    let x := s.g p a; let y := s.g p b; let z := imm.signExtend 64
    let xw : BitVec 32 := x.truncate 32; let yw : BitVec 32 := y.truncate 32
    let w := fun (v : BitVec 32) => v.signExtend 64
    let k := s.cpu p; let npc := k.pc + 4
    Goes (.add p d a b) p s (overflowed p k d (x + y) (outside 64 (x.toInt + y.toInt))) npc ∧
    Goes (.addi p d a imm) p s (overflowed p k d (x + z) (outside 64 (x.toInt + z.toInt))) npc ∧
    Goes (.addw p d a b) p s (overflowed p k d (w (xw + yw)) (outside 32 (xw.toInt + yw.toInt))) npc ∧
    Goes (.sub p d a b) p s (overflowed p k d (x - y) (outside 64 (x.toInt - y.toInt))) npc ∧
    Goes (.subw p d a b) p s (overflowed p k d (w (xw - yw)) (outside 32 (xw.toInt - yw.toInt))) npc ∧
    Goes (.neg p d a) p s (overflowed p k d (-x) (x == BitVec.intMin 64)) npc ∧
    Goes (.negw p d a) p s (overflowed p k d (w (-xw)) (xw == BitVec.intMin 32)) npc ∧
    (y ≠ 0 → Goes (.div p d a b) p s
      (overflowed p k d (BitVec.ofInt 64 (x.toInt.tdiv y.toInt)) (x == BitVec.intMin 64 && y == -1)) npc) ∧
    (yw ≠ 0 → Goes (.divw p d a b) p s
      (overflowed p k d (w (BitVec.ofInt 32 (xw.toInt.tdiv yw.toInt))) (xw == BitVec.intMin 32 && yw == -1)) npc)) ∧
  (∀ (p : Proc) (s : State), Calm p s → (s.cpu p).st.ovt = true → canEnter p s →
    ∀ (d a b : RegNo) (imm : BitVec 16),
    let x := s.g p a; let y := s.g p b; let z := imm.signExtend 64
    let xw : BitVec 32 := x.truncate 32; let yw : BitVec 32 := y.truncate 32
    let e : Exc := ⟨9, 1, none⟩
    (outside 64 (x.toInt + y.toInt) = true → Raises (.add p d a b) p s e) ∧
    (outside 64 (x.toInt + z.toInt) = true → Raises (.addi p d a imm) p s e) ∧
    (outside 32 (xw.toInt + yw.toInt) = true → Raises (.addw p d a b) p s e) ∧
    (outside 64 (x.toInt - y.toInt) = true → Raises (.sub p d a b) p s e) ∧
    (outside 32 (xw.toInt - yw.toInt) = true → Raises (.subw p d a b) p s e) ∧
    (x = BitVec.intMin 64 → Raises (.neg p d a) p s e) ∧
    (xw = BitVec.intMin 32 → Raises (.negw p d a) p s e) ∧
    (x = BitVec.intMin 64 → y = -1 → Raises (.div p d a b) p s e) ∧
    (xw = BitVec.intMin 32 → yw = -1 → Raises (.divw p d a b) p s e))

/-- R97: division by zero, with DZT = 0 and with DZT = 1. -/
def Obligations.DivisionByZero : Prop :=
  ∀ (p : Proc) (s : State), Calm p s → ∀ (d a b : RegNo),
    let x := s.g p a; let y := s.g p b
    let xs := (x.truncate 32 : BitVec 32).signExtend 64
    let k := s.cpu p
    let sets := fun (i : Instr) (v : Word) => Goes i p s (dividedByZero p k d v) (k.pc + 4)
    let e : Exc := ⟨9, 2, none⟩
    (y = 0 → k.st.dzt = false →
      sets (.div p d a b) (-1) ∧ sets (.divu p d a b) (-1) ∧ sets (.rem p d a b) x ∧ sets (.remu p d a b) x) ∧
    ((y.truncate 32 : BitVec 32) = 0 → k.st.dzt = false →
      sets (.divw p d a b) (-1) ∧ sets (.divuw p d a b) (-1) ∧ sets (.remw p d a b) xs ∧ sets (.remuw p d a b) xs) ∧
    (y = 0 → k.st.dzt = true → canEnter p s →
      Raises (.div p d a b) p s e ∧ Raises (.divu p d a b) p s e ∧ Raises (.rem p d a b) p s e ∧ Raises (.remu p d a b) p s e) ∧
    ((y.truncate 32 : BitVec 32) = 0 → k.st.dzt = true → canEnter p s →
      Raises (.divw p d a b) p s e ∧ Raises (.divuw p d a b) p s e ∧ Raises (.remw p d a b) p s e ∧
      Raises (.remuw p d a b) p s e)

/-- R72: g31 reads as zero, and a write to it is discarded. -/
def Obligations.RegisterG31 : Prop :=
  ∀ (s : State) (p : Proc) (v : Word), s.g p 31 = 0 ∧ (∀ q, (s.setG p 31 v).cpu q = s.cpu q) ∧
    (∀ r : RegNo, r ≠ 31 → (s.setG p r v).g p r = v)

/-- R107, R108: branches and jumps. -/
def Obligations.BranchesAndJumps : Prop :=
  ∀ (p : Proc) (s : State), Calm p s → ∀ (a b : RegNo) (off : BitVec 16) (far : BitVec 26) (imm : BitVec 16),
    let k := s.cpu p; let x := s.g p a; let y := s.g p b
    let dest := fun (c : Bool) => if c then k.pc + 4 * off.signExtend 64 else k.pc + 4
    let t := x + imm.signExtend 64
    let linked := k.wr (bankInUse p k) 29 (k.pc + 4)
    Goes (.beq p a b off) p s k (dest (decide (x = y))) ∧
    Goes (.bne p a b off) p s k (dest (decide (x ≠ y))) ∧
    Goes (.blt p a b off) p s k (dest (decide (x.toInt < y.toInt))) ∧
    Goes (.bge p a b off) p s k (dest (decide (y.toInt ≤ x.toInt))) ∧
    Goes (.bltu p a b off) p s k (dest (decide (x.toNat < y.toNat))) ∧
    Goes (.bgeu p a b off) p s k (dest (decide (y.toNat ≤ x.toNat))) ∧
    Goes (.j p far) p s k (k.pc + 4 * far.signExtend 64) ∧
    Goes (.jal p far) p s linked (k.pc + 4 * far.signExtend 64) ∧
    (t.toNat % 4 = 0 → Goes (.jr p a imm) p s k t ∧ Goes (.jalr p a imm) p s linked t) ∧
    (t.toNat % 4 ≠ 0 → canEnter p s →
      Raises (.jr p a imm) p s ⟨2, 0, some t⟩ ∧ Raises (.jalr p a imm) p s ⟨2, 0, some t⟩)

/-- R109: LOOP opens a loop level, skips the body where the count is zero, and raises ILLEGAL on a bad k or off.
R110: at the end of a body a completed instruction that does not jump starts the next pass, or on the last pass falls
through; level 1 comes first. Shown on ADDI, whose own result goes to g31. -/
def Obligations.HardwareLoops : Prop :=
  (∀ (p : Proc) (s : State), Calm p s → ∀ (lvl a : RegNo) (off : BitVec 16),
    let k := s.cpu p; let n := s.g p a
    let le := k.pc + 4 * off.signExtend 64
    let k' := { k with ls := mset 0 k.ls lvl.val (k.pc + 4), le := mset 0 k.le lvl.val le, lc := mset 0 k.lc lvl.val n }
    (lvl.val ≤ 1 → 2 ≤ off.toInt →
      Goes (.loop p lvl a off) p s k' (if n = 0 then le + 4 else k.pc + 4)) ∧
    (1 < lvl.val ∨ off.toInt < 2 → canEnter p s → Raises (.loop p lvl a off) p s ⟨1, 0, none⟩)) ∧
  (∀ (p : Proc) (s : State) (a : RegNo) (imm : BitVec 16),
    let k := s.cpu p
    Ready p s → Plain p (s.setCpu p { k with lc := [] }) k.pc → outside 64 ((s.g p a).toInt + (imm.signExtend 64).toInt) = false →
    let lc := fun n => mget 0 k.lc n
    let ends := fun n => lc n ≠ 0 ∧ k.pc = mget 0 k.le n
    let goes := fun (lc' : FMap Word) (npc : Word) =>
      Goes (.addi p 31 a imm) p s { k with lc := lc' } npc
    (ends 1 → 1 < (lc 1).toNat → goes (mset 0 k.lc 1 (lc 1 - 1)) (mget 0 k.ls 1)) ∧
    (ends 1 → lc 1 = 1 → ¬ ends 0 → goes (mset 0 k.lc 1 0) (k.pc + 4)) ∧
    (¬ ends 1 → ends 0 → 1 < (lc 0).toNat → goes (mset 0 k.lc 0 (lc 0 - 1)) (mget 0 k.ls 0)) ∧
    (¬ ends 1 → ends 0 → lc 0 = 1 → goes (mset 0 k.lc 0 0) (k.pc + 4)) ∧
    (ends 1 → lc 1 = 1 → ends 0 → 1 < (lc 0).toNat →
      goes (mset 0 (mset 0 k.lc 1 0) 0 (lc 0 - 1)) (mget 0 k.ls 0)) ∧
    (¬ ends 1 → ¬ ends 0 → goes k.lc (k.pc + 4)))

/-! ### Memory instructions -/

/-- R100, R166: a load whose parts are all there writes its bytes, sign-extended or zero-extended, to the register; one to a
v register zeroes the rest of it and sets FPD.
R100, R166, R220, R223: a store leaves its bytes in the store buffer, or performs them at once on a Device-Strict page. -/
def Obligations.LoadsAndStores : Prop :=
  (∀ (p : Proc) (s s1 t : State) (xs : List (XAddr × Seg)) (parts : List Part) (v : Nat) (d a : RegNo) (imm : BitVec 16),
    Calm p s →
    let ea := s.g p a + imm.signExtend 64
    let k := t.cpu p
    let pc := (s.cpu p).pc
    let found := fun (n align : Nat) => ea.toNat % align = 0 ∧ Reaches p s ea n aLoad xs s1 ∧
      sbPosted (s1.cpu p).sb = false ∧ sbPartly (s1.cpu p).sb xs = false ∧ (∀ x ∈ xs, isDevice x.1.rtype = true → (s1.cpu p).sb = []) ∧
      loadParts s1 p xs = .ok parts t ∧ partsValue parts = some v ∧ v < 256 ^ n ∧ Plain p t pc
    let intoG := fun (i : Instr) (n : Nat) (r : Word) =>
      found n n → Ends i p s t (k.wr (bankInUse p k) d r) (pc + 4)
    let intoV := fun (i : Instr) (n align : Nat) =>
      ∀ c, p = .core c → fpReady c s → found n align → Ends i p s t (withV k d (BitVec.ofNat 128 v)) (pc + 4)
    intoG (.lb p d a imm) 1 (signedBytes 1 v) ∧ intoG (.lh p d a imm) 2 (signedBytes 2 v) ∧
    intoG (.lw p d a imm) 4 (signedBytes 4 v) ∧ intoG (.ld p d a imm) 8 (BitVec.ofNat 64 v) ∧
    intoG (.lbu p d a imm) 1 (BitVec.ofNat 64 v) ∧ intoG (.lhu p d a imm) 2 (BitVec.ofNat 64 v) ∧
    intoG (.lwu p d a imm) 4 (BitVec.ofNat 64 v) ∧
    intoV (.vlB p d a imm) 16 1 ∧ intoV (.vlH p d a imm) 16 2 ∧ intoV (.vlW p d a imm) 16 4 ∧ intoV (.vlD p d a imm) 16 8 ∧
    intoV (.flH p d a imm) 2 2 ∧ intoV (.flW p d a imm) 4 4 ∧ intoV (.flD p d a imm) 8 8) ∧
  (∀ (p : Proc) (s s1 t : State) (xs : List (XAddr × Seg)) (src a : RegNo) (imm : BitVec 16), Calm p s →
    let ea := s.g p a + imm.signExtend 64
    let pc := (s.cpu p).pc
    let stores := fun (i : Instr) (n align v : Nat) =>
      ea.toNat % align = 0 → Reaches p s ea n aStore xs s1 →
      (∀ x ∈ xs, isLocal x.1.place = true → mirrorStalls s1 (x.1.place / 64) = false) → Plain p t pc →
      ((∀ x ∈ xs, x.1.rtype ≠ .deviceStrict) → pushStores p v xs s1 = some t → Ends i p s t (t.cpu p) (pc + 4)) ∧
      ((∃ x ∈ xs, x.1.rtype = .deviceStrict) → (s1.cpu p).sb = [] → strictStore p v xs s1 = .done t →
        Ends i p s t (t.cpu p) (pc + 4))
    let fromG := fun (i : Instr) (n : Nat) => stores i n n ((s.g p src).toNat % 256 ^ n)
    let fromV := fun (i : Instr) (n align : Nat) =>
      ∀ c, p = .core c → fpReady c s → stores i n align ((s.gv p src).toNat % 256 ^ n)
    fromG (.sb p src a imm) 1 ∧ fromG (.sh p src a imm) 2 ∧ fromG (.sw p src a imm) 4 ∧ fromG (.sd p src a imm) 8 ∧
    fromV (.vsB p src a imm) 16 1 ∧ fromV (.vsH p src a imm) 16 2 ∧ fromV (.vsW p src a imm) 16 4 ∧
    fromV (.vsD p src a imm) 16 8 ∧
    fromV (.fsH p src a imm) 2 2 ∧ fromV (.fsW p src a imm) 4 4 ∧ fromV (.fsD p src a imm) 8 8)

/-- R100, R104, R108, R166: an address that is not a multiple of the size of the access raises MISALIGNED with EADDR. -/
def Obligations.AlignmentTraps : Prop :=
  ∀ (p : Proc) (s : State) (d a b : RegNo) (imm : BitVec 16), Calm p s → canEnter p s →
    let ea := s.g p a + imm.signExtend 64
    let traps := fun (i : Instr) (n access : Nat) => ea.toNat % n ≠ 0 → Raises i p s ⟨2, access * 256, some ea⟩
    let fp := fun (i : Instr) (n access : Nat) => ∀ c, p = .core c → fpReady c s → traps i n access
    let ga := fun (i : Instr) (n : Nat) => (s.g p a).toNat % n ≠ 0 → Raises i p s ⟨2, 3 * 256, some (s.g p a)⟩
    traps (.lh p d a imm) 2 1 ∧ traps (.lw p d a imm) 4 1 ∧ traps (.ld p d a imm) 8 1 ∧ traps (.lhu p d a imm) 2 1 ∧
    traps (.lwu p d a imm) 4 1 ∧ traps (.sh p d a imm) 2 2 ∧ traps (.sw p d a imm) 4 2 ∧ traps (.sd p d a imm) 8 2 ∧
    fp (.vlH p d a imm) 2 1 ∧ fp (.vlW p d a imm) 4 1 ∧ fp (.vlD p d a imm) 8 1 ∧ fp (.vsH p d a imm) 2 2 ∧
    fp (.vsW p d a imm) 4 2 ∧ fp (.vsD p d a imm) 8 2 ∧ fp (.flH p d a imm) 2 1 ∧ fp (.flW p d a imm) 4 1 ∧
    fp (.flD p d a imm) 8 1 ∧ fp (.fsH p d a imm) 2 2 ∧ fp (.fsW p d a imm) 4 2 ∧ fp (.fsD p d a imm) 8 2 ∧
    ga (.cas p d a b) 8 ∧ ga (.casw p d a b) 4 ∧ ga (.amoadd p d a b) 8 ∧ ga (.amoaddw p d a b) 4 ∧
    ga (.amoswp p d a b) 8 ∧ ga (.amoswpw p d a b) 4

/-- R104, R105: an atomic instruction, with the store buffer empty, performs its operation on the old value where that
value is held and writes the old value to gd. -/
def Obligations.AtomicsComplete : Prop :=
  ∀ (p : Proc) (s s1 t : State) (x : XAddr) (g : Seg) (xs : List (XAddr × Seg)) (old : Nat) (d a b : RegNo),
    Calm p s → (s.cpu p).sb = [] →
    let ea := s.g p a
    let k := t.cpu p
    let pc := (s.cpu p).pc
    let swaps := fun (i : Instr) (n : Nat) (f : Nat → Nat → Nat → Option Nat) =>
      ea.toNat % n = 0 → Reaches p s ea n aAtomic ((x, g) :: xs) s1 →
      atomicAt s1 p x n (f ((s1.g p d).toNat % 256 ^ n) ((s1.g p b).toNat % 256 ^ n)) = .ok old t → old < 256 ^ n →
      Plain p t pc → Ends i p s t (k.wr (bankInUse p k) d (signedBytes n old)) (pc + 4)
    let cas := fun gd gb old : Nat => if old = gd then some gb else none
    let add := fun (n : Nat) (_ gb old : Nat) => some ((old + gb) % 256 ^ n)
    let swp := fun _ gb _ : Nat => some gb
    swaps (.cas p d a b) 8 cas ∧ swaps (.casw p d a b) 4 cas ∧ swaps (.amoadd p d a b) 8 (add 8) ∧
    swaps (.amoaddw p d a b) 4 (add 4) ∧ swaps (.amoswp p d a b) 8 swp ∧ swaps (.amoswpw p d a b) 4 swp

/-- R218: a load takes each byte from the newest store of the buffer that holds it: all its bytes, none, or it waits.
R220: a store merges into the youngest entry of its line and type, or takes a new entry; with 16 taken it waits. -/
def Obligations.StoreBuffer : Prop :=
  ((∀ (sb : List SbEntry) (a n v : Nat), sbForward sb a n = .all v → ∀ k, k < n → sbByte (a + k) sb = some (v / 256 ^ k % 256)) ∧
  (∀ (sb : List SbEntry) (a n : Nat), 0 < n → (sbForward sb a n = .none ↔ ∀ k, k < n → sbByte (a + k) sb = none)) ∧
  (∀ (sb : List SbEntry) (e : SbEntry) (a : Nat), sbByte a (sb ++ [e]) =
    match (if e.line = a / 64 ∧ mergesType e.rtype = true then storesByte (a % 64) e.stores else none) with
    | some b => some b
    | none => sbByte a sb) ∧
  (∀ (sts : List SbStore) (st : SbStore) (o : Nat), storesByte o (sts ++ [st]) =
    if st.off ≤ o ∧ o < st.off + st.size then some (st.val / 256 ^ (o - st.off) % 256) else storesByte o sts) ∧
  (∀ (s : State) (p : Proc) (x : XAddr) (g : Seg) (v : Nat), isDevice x.rtype = false →
    (sbForward (s.cpu p).sb x.place g.len = .all v → loadPart s p x g = .ok (.data v g.len) s) ∧
    (sbForward (s.cpu p).sb x.place g.len = .part → loadPart s p x g = .stall s))) ∧
  (∀ (s : State) (p : Proc) (line : Nat) (ty : RType) (st : SbStore),
    let k := s.cpu p
    let merges := fun (e : SbEntry) =>
      e.line = line ∧ e.rtype = ty ∧ e.begun = false ∧ mergesType ty = true ∧ neverMerges s p = false
    (∀ es e, k.sb = es ++ [e] → merges e →
      sbPush s p line ty st = some (s.setCpu p { k with sb := es ++ [{ e with stores := e.stores ++ [st] }] })) ∧
    ((∀ es e, k.sb = es ++ [e] → ¬ merges e) →
      (k.sb.length < 16 → sbPush s p line ty st =
        some (s.setCpu p { k with sb := k.sb ++ [{ line, rtype := ty, stores := [st] }] })) ∧
      (16 ≤ k.sb.length → sbPush s p line ty st = none)))

/-- 20 R416: an Infuser's own SRAM: what is loaded, the store that waits in the buffer, its bytes when the buffer drains,
with every other byte of memory unchanged, and an atomic operation. -/
def Obligations.InfuserMemory : Prop :=
  ∀ (i : Fin 32) (s : State) (d a b : RegNo) (imm : BitVec 16) (o : Nat),
    let p := Proc.infuser i
    let k := s.cpu p
    let ea := s.g p a + imm.signExtend 64
    let place := 0xE02100000 + 0x10000 * i.val + o
    let old := readBytes s place 8
    ea.toNat = 2 ^ 36 + o → o < 0x10000 → mirrorStalls s (place / 64) = false → countersigned s i = false →
    (Calm p s → k.sb = [] →
      Writes (.lb p d a imm) p s d (signedBytes 1 (readBytes s place 1)) ∧
      Writes (.lbu p d a imm) p s d (BitVec.ofNat 64 (readBytes s place 1)) ∧
      (o % 4 = 0 → Writes (.lw p d a imm) p s d (signedBytes 4 (readBytes s place 4)) ∧
        ∃ e, e.line = place / 64 ∧ e.rtype = .normalWb ∧ e.stores = [{ off := place % 64, size := 4, val := (s.g p d).toNat % 2 ^ 32, va := ea }] ∧
          Goes (.sw p d a imm) p s { k with sb := [e] } (k.pc + 4)) ∧
      (o % 8 = 0 → Writes (.ld p d a imm) p s d (BitVec.ofNat 64 old)) ∧
      (o % 8 = 0 → imm = 0 →
        Gives (.cas p d a b) s fun t => (d ≠ 31 → t.g p d = BitVec.ofNat 64 old) ∧ ∀ x, readByte t x =
          if old = (s.g p d).toNat ∧ place ≤ x ∧ x < place + 8
          then BitVec.ofNat 8 ((s.g p b).toNat / 256 ^ (x - place)) else readByte s x)) ∧
    (∀ e n v va, k.sb = [e] → e.line = place / 64 → e.rtype = .normalWb → e.stores = [{ off := place % 64, size := n, val := v, va := va }] →
      place % 64 + n ≤ 64 →
      Gives (.storeDrain p) s fun t => (t.cpu p).sb = [] ∧ ∀ x, readByte t x =
        if place ≤ x ∧ x < place + n then BitVec.ofNat 8 (v / 256 ^ (x - place)) else readByte s x)

/-- R113 to R116, R224, R225, R227, R240, R241: fences, IFLUSH, and the maintenance of caches by address and by set and
way. On an Infuser and the Caddy the cache instructions execute as FENCE. -/
def Obligations.FencesAndMaintenance : Prop :=
  ∀ (p : Proc) (s s1 : State) (x : XAddr) (a : RegNo) (imm : BitVec 16), Calm p s →
    let k := s.cpu p
    let still := fun (i : Instr) => Goes i p s k (k.pc + 4)
    let ea := s.g p a + imm.signExtend 64
    let line := x.place / 64
    let after := fun (i : Instr) (t : State) => Plain p t k.pc → Ends i p s t (t.cpu p) (k.pc + 4)
    let cleaned := fun (t : State) => if l3Holds line = true ∧ isLocal x.place = true then cleanLine t line else t
    (k.sb = [] → still (.fence p)) ∧
    (k.sb ≠ [] → Gives (.fence p) s fun t => OnlyCpu p s t { k with wait := .stall }) ∧
    (k.sb = [] → k.wslots = [] → k.refusals = 0 → still (.fenceC p)) ∧
    (k.sb ≠ [] ∨ k.wslots ≠ [] → Gives (.fenceC p) s fun t => OnlyCpu p s t { k with wait := .fenceC }) ∧
    (∀ c, p = .core c → k.sb = [] → k.wslots = [] → k.refusals ≠ 0 →
      Raises (.fenceC p) p s ⟨3, 2 + 2 * 256 + k.refCode % 64 * 1024, some k.refAddr⟩ ∧
      (k.st.exl = false → (k.bank k.st.bank.toNat).owes = false →
        Gives (.fenceC p) s fun t => (t.cpu p).refusals = 0 ∧ (t.cpu p).refAddr = 0 ∧ (t.cpu p).refCode = 0)) ∧
    ((∀ c, p ≠ .core c) → k.sb = [] → still (.iflush p a imm) ∧ still (.cacheC p a imm) ∧ still (.cacheI p a imm) ∧
      still (.cacheCi p a imm) ∧ still (.cacheCsw p a) ∧ still (.cacheIsw p a) ∧ still (.cacheCisw p a)) ∧
    (∀ c, p = .core c → resolveP s p ea aLoad aAtomic = .ok x s1 → checkPlace s1 p x 1 aLoad = none →
      ((∀ e ∈ (s1.cpu p).sb, e.line ≠ line) → after (.iflush p a imm) (leaveL1is (lineToL2 s1 c line) line)) ∧
      ((∃ e ∈ (s1.cpu p).sb, e.line = line) →
        Gives (.iflush p a imm) s fun t => OnlyCpu p s1 t { s1.cpu p with wait := .placed [x] false }) ∧
      (isDevice x.rtype = false → ∀ t,
        (cacheGate s1 c x true = .ok () t → after (.cacheC p a imm) (cleaned t) ∧
          (ringOf k = 0 → after (.cacheCi p a imm) (discardLine (cleaned t) line))) ∧
        (cacheGate s1 c x false = .ok () t → ringOf k = 0 → after (.cacheI p a imm) (discardLine t line)))) ∧
    (∀ c, p = .core c → resolveP s p ea aLoad aAtomic = .ok x s1 → isDevice x.rtype = true →
      after (.cacheC p a imm) s1 ∧ (ringOf k = 0 → after (.cacheI p a imm) s1 ∧ after (.cacheCi p a imm) s1)) ∧
    (∀ c, p = .core c → ringOf k = 0 →
      let acts := fun (i : Instr) (clean inval : Bool) => ∀ id set ways, setWay c (s.g p a).toNat = some (id, set, ways) →
        setWayGate s c id set = .ok () s1 → after i (setWayOps s1 c id set ways clean inval)
      let misses := fun (i : Instr) => setWay c (s.g p a).toNat = none → Raises i p s ⟨3, 3 + 3 * 256, some (s.g p a)⟩
      acts (.cacheCsw p a) true false ∧ acts (.cacheIsw p a) false true ∧ acts (.cacheCisw p a) true true ∧
      misses (.cacheCsw p a) ∧ misses (.cacheIsw p a) ∧ misses (.cacheCisw p a)) ∧
    (∀ c, p = .core c → ringOf k ≠ 0 → ∀ i ∈ [Instr.cacheI p a imm, .cacheCi p a imm, .cacheCsw p a, .cacheIsw p a,
      .cacheCisw p a], Raises i p s ⟨6, 5, none⟩)

/-- R117, R211: a TLBI at ring 0 removes from the TLBs of its core, or of every core, the entries it names, of the core's
partition or, at the machine level, of every partition; it changes nothing else. -/
def Obligations.TlbInvalidation : Prop :=
  ∀ (p : Proc) (s : State) (a b : RegNo), Calm p s →
    let k := s.cpu p
    let all := [Instr.tlbiAll p, .tlbiAsid p a, .tlbiVa p a b, .tlbiVaa p a, .tlbiAllB p, .tlbiAsidB p a, .tlbiVaB p a b,
      .tlbiVaaB p a]
    (∀ c, p = .core c → ringOf k = 0 →
      let drops := fun (i : Instr) (all : Bool) (f : TlbEntry → Bool) => Gives i s fun t =>
        { t with cpus := s.cpus } = s ∧ (∀ q, (∀ c', q ≠ .core c') → t.cpu q = s.cpu q) ∧
        ∀ c' : Fin 16, let k' := s.cpu (.core c')
          let keep := fun ts : List TlbEntry => if all = true ∨ c' = c then ts.filter fun e =>
            !((k.st.ml || e.part.toNat == k.partition.toNat % 64) && f e) else ts
          t.cpu (.core c') = { k' with tlbI := keep k'.tlbI, tlbD := keep k'.tlbD, tlb2 := keep k'.tlb2,
                                       pc := if c' = c then k.pc + 4 else k'.pc }
      let page := fun e : TlbEntry => (s.g p a).toNat % 2 ^ 48 / 2 ^ e.bits == e.vpage
      let space := fun (v : Word) (e : TlbEntry) => e.asid.toNat == v.toNat % 2 ^ 16
      let va := fun e => page e && (e.glob || space (s.g p b) e)
      let asid := fun e => !e.glob && space (s.g p a) e
      drops (.tlbiAll p) false (fun _ => true) ∧ drops (.tlbiAsid p a) false asid ∧ drops (.tlbiVa p a b) false va ∧
      drops (.tlbiVaa p a) false page ∧ drops (.tlbiAllB p) true (fun _ => true) ∧ drops (.tlbiAsidB p a) true asid ∧
      drops (.tlbiVaB p a b) true va ∧ drops (.tlbiVaaB p a) true page) ∧
    (∀ c, p = .core c → ringOf k ≠ 0 → ∀ i ∈ all, Raises i p s ⟨6, 5, none⟩) ∧
    ((∀ c, p ≠ .core c) → canEnter p s → ∀ i ∈ all, Raises i p s ⟨1, 0, none⟩)

/-! ### System instructions -/

/-- 06 R135, 04 R80: which register a number names on a core, who may read and write it, and what MFC reads.
R86, R87, R124: MTC writes the register it names; IE and IPL of STATUS become pending.
CYCLE has counted by a free number of cycles when it is read (log 72).
Where the spec is silent it follows the model's choices (log 11). -/
def Obligations.ControlRegisters : Prop :=
  (∀ (p : Proc) (s : State) (d : RegNo) (n : BitVec 12), Calm p s →
    let k := s.cpu p
    (∀ r, ctlFor p k n.toNat = some r → ctlAllowed p k r false = true → r ≠ .cycle →
      (r = .fpstat → ∀ c, p = .core c → fpReady c s) → Writes (.mfc p d n) p s d (ctlRead s p r)) ∧
    (ctlFor p k n.toNat = some .cycle → let v := k.cycle + BitVec.ofNat 64 (Config.freeNat s.free)
      Gives (.mfc p d n) s fun t => OnlyCpu p { s with free := s.free + 1 } t
        { ({ k with cycle := v } : Cpu).wr (bankInUse p k) d v with pc := k.pc + 4 }) ∧
    (ctlFor p k n.toNat = none → canEnter p s → Raises (.mfc p d n) p s ⟨1, 0, none⟩) ∧
    (∀ r, ctlFor p k n.toNat = some r → ctlAllowed p k r false = false → canEnter p s →
      Raises (.mfc p d n) p s ⟨6, 5, none⟩) ∧
    (∀ c, p = .core c → k.st.ml = false → ∀ e ∈ ([(0x000, .status, 3), (0x001, .epc, 2), (0x002, .estat, 2), (0x003, .eaddr, 2),
      (0x004, .eackstat, 2), (0x010, .gatebase, 0), (0x011, .vecbase, 0), (0x020, .ptroot, 0), (0x021, .asid, 0),
      (0x022, .partition, 0), (0x030, .fpstat, 3), (0x040, .lc 0, 3), (0x041, .ls 0, 3), (0x042, .le 0, 3),
      (0x044, .lc 1, 3), (0x045, .ls 1, 3), (0x046, .le 1, 3), (0x050, .cycle, 3), (0x051, .epochno, 3),
      (0x060, .pwrmode, 0), (0x070, .dbgctl, 0)] : List (Nat × Ctl × Nat)),
      ctlFor p k e.1 = some e.2.1 ∧ ctlAllowed p k e.2.1 false = decide (k.st.ring.toNat ≤ e.2.2)) ∧
    (∀ c, p = .core c → let w := (ctlRead s p .status).toNat; let st := k.st
      w % 2 = b2n st.ie ∧ w / 2 % 8 = st.ipl.toNat ∧ w / 2 ^ 4 % 2 = b2n st.exl ∧ w / 2 ^ 5 % 4 = st.ring.toNat ∧
      w / 2 ^ 7 % 2 = b2n st.ov ∧ w / 2 ^ 8 % 2 = b2n st.dz ∧ w / 2 ^ 9 % 2 = b2n st.ovt ∧ w / 2 ^ 10 % 2 = b2n st.dzt ∧
      w / 2 ^ 11 % 2 = b2n st.fpe ∧ w / 2 ^ 12 % 2 = b2n st.fpd ∧ w / 2 ^ 14 % 2 = b2n st.legacy ∧
      w / 2 ^ 15 % 2 = b2n st.ml ∧ w / 2 ^ 16 % 16 = st.bank.toNat ∧ w / 2 ^ 20 = st.live.toNat)) ∧
  (∀ (p : Proc) (s : State) (a : RegNo) (n : BitVec 12) (r : Ctl), Calm p s → ctlFor p (s.cpu p) n.toNat = some r →
    let k := s.cpu p
    let v := s.g p a
    (ctlAllowed p k r true = false → canEnter p s → Raises (.mtc p n a) p s ⟨6, 5, none⟩) ∧
    (ctlAllowed p k r true = true →
      (r ≠ .status → r ≠ .fpstat → Plain p (ctlWrite s p r v) k.pc →
        Ends (.mtc p n a) p s (ctlWrite s p r v) ((ctlWrite s p r v).cpu p) (k.pc + 4)) ∧
      (let now := ctlRead (ctlWrite s p r v) p r
       (r = .epc ∨ r = .mepc → now = v &&& ~~~3) ∧ (r = .gatebase → now = v &&& 0xFFFFFFFFF001) ∧
       (r = .vecbase → now = v &&& 0xFFFFFFFFF000) ∧ (r = .ptroot → now = v &&& 0xFFFFFF000) ∧
       (r = .asid → now = v &&& 0xFFFF) ∧ (r = .partition → now = v &&& 0x3F) ∧ (∀ l, r = .lc l → now = v) ∧
       (∀ l, r = .ls l ∨ r = .le l → now = v &&& ~~~3) ∧
       (r = .cycle → now = v) ∧ (r = .eaddr ∨ r = .eackstat ∨ r = .epochno → now = ctlRead s p r) ∧
       (r = .mvec → k.mvec.getLsbD 0 = true → now = k.mvec) ∧
       (r = .mvec → k.mvec.getLsbD 0 = false → now = (v &&& 0xFFFFFE000) ||| 1)) ∧
      (∀ c, p = .core c → r = .status →
        let flags := fun (st : Status) =>
          { st with ov := v.getLsbD 7, dz := v.getLsbD 8, ovt := v.getLsbD 9, dzt := v.getLsbD 10 }
        (k.st.ml = false → k.st.ring ≠ 0 → Goes (.mtc p n a) p s { k with st := flags k.st } (k.pc + 4)) ∧
        (k.st.ml = false → k.st.ring = 0 → Goes (.mtc p n a) p s
          { k with st := { flags k.st with fpe := v.getLsbD 11, fpd := v.getLsbD 12 }, pendIe := some (v.getLsbD 0),
                   pendIpl := some (v.extractLsb' 1 3) } (k.pc + 4)) ∧
        (k.st.ml = true → Goes (.mtc p n a) p s
          { k with st := { flags k.st with fpe := v.getLsbD 11, fpd := v.getLsbD 12, legacy := v.getLsbD 14 },
                   pendIe := some (v.getLsbD 0), pendIpl := some (v.extractLsb' 1 3) } (k.pc + 4))) ∧
      (∀ c, p = .core c → r = .fpstat → fpReady c s →
        let w := v &&& 0xFF3FFF
        let w := if (v.extractLsb' 10 3).toNat ≤ 4 then w else (w &&& ~~~0x1C00) ||| (k.fpstat &&& 0x1C00)
        Goes (.mtc p n a) p s { k with fpstat := w, st := { k.st with fpd := true } } (k.pc + 4))))

/-- R83, R174, R178, R183: the entry of a synchronous exception of a core at the banks, and to the machine level. R180: where
the saved FPD is 1 a frame is reserved; an owed frame is written first.
20 R415, R428: a fault of an Infuser: the first enters at IF_ENTRY.VEC, one with EXL set stops it with its cause. -/
def Obligations.ExceptionEntries : Prop :=
  (∀ (c : Fin 16) (s s1 : State) (e : Exc) (at_ : Word), e.cause < 256 → e.sub < 65536 →
    let p := Proc.core c
    let k := s.cpu p
    let n := k.st.bank.toNat
    let t := takeExc s p e at_
    let u := t.cpu p
    let b := u.bank n
    let m := u.bank 9
    let cleared := u.st.exl = true ∧ u.st.ov = false ∧ u.st.dz = false ∧ u.st.ovt = false ∧ u.st.dzt = false ∧ u.st.fpd = false
    let sp := k.rd n 30
    let doubles := u.pc = (k.mvec &&& 0xFFFFFE000) + 0x40 ∧ m.cause = 0x0D ∧ m.sub.toNat / 4096 = 1 ∧
      m.epc = at_ &&& ~~~3 ∧ u.st.ml = true ∧ u.st.bank = 9 ∧ u.st.exl = true
    let saves := u.pc = (if n = 8 then (k.mvec &&& 0xFFFFFE000) + 0x1000
        else (((k.vecbase.truncate 48 : BitVec 48).signExtend 64) &&& ~~~0xFFF) + BitVec.ofNat 64 (0x80 * n)) ∧
      b.epc = at_ &&& ~~~3 ∧ b.cause.toNat = e.cause ∧ b.sub.toNat = e.sub ∧ (∀ v, e.eaddr = some v → b.eaddr = v) ∧
      b.saved.ie = k.pendIe.getD k.st.ie ∧ b.saved.ipl = k.pendIpl.getD k.st.ipl ∧ b.saved.ring = k.st.ring ∧
      b.saved.bank = k.st.bank ∧ b.saved.exl = false ∧ b.saved.fpd = k.st.fpd ∧ b.fres = k.st.fpd ∧ b.fwr = false ∧
      b.owes = k.st.fpd ∧ u.st.ring = 0 ∧ u.st.bank = k.st.bank ∧ u.st.ie = k.st.ie ∧ u.st.ipl = k.st.ipl ∧ cleared ∧
      (∀ (i : Nat) (r : RegNo), u.rd i r = if k.st.fpd = true ∧ i = n ∧ r = 30 then sp - 544 else k.rd i r)
    (k.st.ml = false → k.st.exl = false → (k.st.legacy = true → k.st.ring ≠ 3) →
      ((k.bank n).owes = false → (k.st.fpd = true → sp.toNat % 16 = 0) → saves) ∧
      ((k.bank n).owes = false → k.st.fpd = true → sp.toNat % 16 ≠ 0 → doubles) ∧
      ((k.bank n).owes = true → writeFrame s c = .ok () s1 → (s1.cpu p).st = k.st → t = takeExc s1 p e at_) ∧
      (∀ f, writeFrame s c = .exc f s1 → f.cause < 256 → (s1.cpu p).mvec = k.mvec → doubles)) ∧
    (k.st.ml = true → k.st.exl = false →
      u.pc = (k.mvec &&& 0xFFFFFE000) ∧ m.epc = at_ &&& ~~~3 ∧ m.cause.toNat = e.cause ∧ m.sub.toNat = e.sub ∧
      (∀ v, e.eaddr = some v → m.eaddr = v) ∧ m.saved.ml = true ∧ u.st.ml = true ∧ u.st.bank = 9 ∧ u.st.ie = false ∧ cleared) ∧
    (k.st.ml = false → k.st.exl = true →
      u.pc = (k.mvec &&& 0xFFFFFE000) + 0x40 ∧ m.epc = at_ &&& ~~~3 ∧ m.cause = 0x0D ∧
      m.sub.toNat % 256 = e.cause ∧ m.sub.toNat / 256 % 16 = n ∧ u.st.ml = true ∧ u.st.bank = 9 ∧ cleared) ∧
    (k.st.ml = true → k.st.exl = true → u.run = .stopped)) ∧
  (∀ (i : Fin 32) (s : State) (e : Exc) (at_ : Word), e.cause < 256 → e.sub < 65536 →
    let p := Proc.infuser i
    let k := s.cpu p
    let t := takeExc s p e at_
    let u := t.cpu p
    (k.st.exl = false → (∀ q, q ≠ p → t.cpu q = s.cpu q) ∧ t.mem = s.mem ∧ t.flds = s.flds ∧
      u.pc = 0x1000000000 + BitVec.ofNat 64 (s.fl F.IF_ENTRY_VEC i.val) ∧ u.st = { k.st with exl := true } ∧
      (u.bank 0).epc = at_ &&& ~~~3 ∧ (u.bank 0).cause.toNat = e.cause ∧ (u.bank 0).sub.toNat = e.sub ∧
      (u.bank 0).saved = k.st ∧ (∀ v, e.eaddr = some v → (u.bank 0).eaddr = v)) ∧
    (k.st.exl = true → u.run = .stopped))

/-- R82, R83: TRAP through a valid gate enters at the gate's target and ring; what GATEBASE or the gate does not allow
raises RING.
R84, R85, R91, R125, R126: MCALL, TRET, EACK and BRK, and a word that names no instruction. -/
def Obligations.GatesAndReturns : Prop :=
  (∀ (c : Fin 16) (s s1 : State) (n : BitVec 12) (e : Gate),
    let p := Proc.core c
    let k := s.cpu p
    let b := k.st.bank.toNat
    Calm p s → k.st.ml = false → (k.st.legacy = true → k.st.ring ≠ 3) →
    (k.gatebase.getLsbD 0 = false ∨ k.gatebase.toNat / 2 ^ 36 % 2 ^ 12 < n.toNat → Raises (.trap p n) p s ⟨6, 1, none⟩) ∧
    (k.gatebase.getLsbD 0 = true → n.toNat ≤ k.gatebase.toNat / 2 ^ 36 % 2 ^ 12 → readGate s c n.toNat = .ok e s1 →
      s1.cpu p = k → Plain p s1 k.pc →
      let raises := fun (sub : Nat) => exec (.trap p n) s = .next (takeExc s1 p ⟨6, sub, none⟩ k.pc)
      (e.valid = false ∨ e.reserved = true ∨ e.tring = 3 ∨ (e.mask = true ∧ e.tring ≠ 0) ∨ e.target.toNat % 4 ≠ 0 →
        raises 2) ∧
      (e.valid = true → e.reserved = false → e.tring ≠ 3 → (e.mask = true → e.tring = 0) → e.target.toNat % 4 = 0 →
        (e.climit < k.st.ring ∨ k.st.ring < e.tring → raises 3) ∧
        (k.st.ring ≤ e.climit → e.tring ≤ k.st.ring → k.st.exl = false → (k.bank b).owes = false →
          Gives (.trap p n) s fun t => let u := t.cpu p; let x := u.bank b
            u.pc = e.target ∧ x.epc = (k.pc + 4) &&& ~~~3 ∧ x.cause = 0x07 ∧ x.sub.toNat = n.toNat ∧
            x.saved.ring = k.st.ring ∧ x.saved.ie = k.st.ie ∧ x.eaddr = (k.bank b).eaddr ∧
            u.st.ring = e.tring ∧ u.st.exl = true ∧ u.st.ie = (k.st.ie && !e.mask) ∧ u.st.bank = k.st.bank ∧
            u.g = k.g ∧ (∀ q, q ≠ p → t.cpu q = s1.cpu q) ∧ t.mem = s1.mem ∧ t.flds = s1.flds)))) ∧
  (∀ (p : Proc) (s : State), Calm p s →
    let k := s.cpu p
    let n := bankInUse p k
    let v := (k.bank n).saved
    (canEnter p s → Raises (.brk p) p s ⟨11, 1, none⟩ ∧ ∀ w, decodeHerok p w = none → Raises (.illegalInstruction p w) p s ⟨1, 0, none⟩) ∧
    (k.st.exl = false → Goes (.eack p) p s k (k.pc + 4)) ∧
    (k.st.exl = true → Gives (.eack p) s fun t => (t.cpu p).st = { k.st with exl := false } ∧ (t.cpu p).pc = k.pc + 4 ∧
      (∀ c, p = .core c → ((t.cpu p).bank n).entryCyc =
        BitVec.ofNat 16 (min (cyclesRun (t.cpu p) - (k.bank n).entryAt).toNat 0xFFFF)) ∧
      (t.cpu p).g = k.g ∧ t.mem = s.mem ∧ t.flds = s.flds ∧ ∀ q, q ≠ p → t.cpu q = s.cpu q) ∧
    (∀ c, p = .core c → ringOf k = 0 → k.st.exl = false → Gives (.mcall p) s fun t => let u := t.cpu p; let x := u.bank 9
      u.pc = (k.mvec &&& 0xFFFFFE000) ∧ x.epc = (k.pc + 4) &&& ~~~3 ∧ x.cause = 0x07 ∧ x.sub = 0x1000 ∧
      x.saved = { k.st with fpd := k.st.fpd || (k.bank n).owes } ∧ u.st.ml = true ∧ u.st.bank = 9 ∧ u.st.exl = true ∧
      u.st.ie = false ∧ u.g = k.g ∧ t.mem = s.mem ∧ t.flds = s.flds) ∧
    (∀ c, p = .core c → ringOf k ≠ 0 → (k.st.legacy = true → k.st.ring ≠ 3) → Raises (.mcall p) p s ⟨6, 5, none⟩) ∧
    (∀ c, p = .core c → k.st.ml = false → k.st.ring = 3 → Raises (.tret p) p s ⟨6, 5, none⟩) ∧
    (∀ c, p = .core c → k.st.ml = false → k.st.ring ≠ 3 → v.ring < k.st.ring → Raises (.tret p) p s ⟨6, 4, none⟩) ∧
    (∀ c, p = .core c → k.st.ml = false → k.st.ring ≠ 3 → k.st.ring ≤ v.ring → v.ml = false →
      Gives (.tret p) s fun t => let u := t.cpu p
        u.pc = (k.bank n).epc ∧ u.st.ring = v.ring ∧ u.st.exl = v.exl ∧ u.st.ov = v.ov ∧ u.st.dz = v.dz ∧
        u.st.bank = v.bank ∧ u.st.ml = false ∧
        (k.st.ring = 0 → u.st.ie = v.ie ∧ u.st.ipl = v.ipl ∧ u.st.fpe = v.fpe) ∧
        (k.st.ring ≠ 0 → u.st.ie = k.st.ie ∧ u.st.ipl = k.st.ipl ∧ u.st.fpe = k.st.fpe) ∧
        u.g = k.g ∧ t.mem = s.mem ∧ (u.bank n).owes = false) ∧
    ((∀ c, p ≠ .core c) → Goes (.tret p) p s
      { k with st := { k.st with exl := v.exl, ov := v.ov, dz := v.dz, ovt := v.ovt, dzt := v.dzt } } (k.bank n).epc) ∧
    (∀ i : Fin 32, p = .infuser i → canEnter p s → (k.pc.toNat < 2 ^ 36 ∨ 2 ^ 36 + 0x10000 ≤ k.pc.toNat) →
      Raises (.instructionFetchFault p) p s ⟨3, 3, some k.pc⟩) ∧
    (∀ c e s1, p = .core c → fetchAt s c k.pc = .exc e s1 →
      exec (.instructionFetchFault p) s = .next (takeExc s1 p e k.pc)))

/-! ### FP and SIMD -/

/-- R151 to R161: an FP instruction writes the lanes of its operation, the flags they raise and FPD; an enabled exception of
a lane raises FP with TLANE, and nothing else is written.
R152: while FPE = 0 every FP and SIMD instruction of a core raises FP DISABLED.
Where the spec is silent it follows the model's choices (log 37). -/
def Obligations.FpInstructions : Prop :=
  (∀ (c : Fin 16) (s : State) (f src : Fmt) (packed : Bool) (d a b : RegNo),
    let p := Proc.core c
    let k := s.cpu p
    Calm p s → fpReady c s →
    let md : FpMode := ⟨(k.fpstat.extractLsb' 10 3).toNat, k.fpstat.getLsbD 13⟩
    let te : BitVec 5 := k.fpstat.extractLsb' 5 5
    let w := fmtBits f
    let lanes := fun (op : LaneFp) (y : RegNo) => (List.range (if packed then 128 / w else 1)).map fun i =>
      op f md (laneOf (s.gv p a) w i) (laneOf (s.gv p y) w i) (laneOf (s.gv p d) w i)
    let one := fun (r : FpRes) => [r]
    let low := fun (g : Fmt) => laneOf (s.gv p a) (fmtBits g) 0
    let ends := fun (i : Instr) (rs : List FpRes) (put : Cpu → Cpu) =>
      let trap := firstTrap (rs.foldl (fun z r => z ||| raisedBits r.fl) 0 &&& te)
      (trap = none → Goes i p s { put k with
          fpstat := k.fpstat ||| (rs.foldl (fun z r => z ||| flagBits r.fl) 0).zeroExtend 64,
          st := { k.st with fpd := true } } (k.pc + 4)) ∧
      (∀ n, trap = some n → exec i s = .next (takeExc (s.setCpu p { k with
          fpstat := (k.fpstat &&& ~~~0xFF0000) ||| BitVec.ofNat 64 (tlaneOf te (rs.map (·.fl)) % 256 * 2 ^ 16) }) p
          ⟨8, 2 + n, none⟩ k.pc))
    let vector := fun (i : Instr) (op : LaneFp) (y : RegNo) =>
      ends i (lanes op y) fun k => k.wrV d (BitVec.ofNat 128 (packLanes w ((lanes op y).map (·.bits))))
    let scalar := fun (i : Instr) (r : FpRes) => ends i (one r) fun k => k.wrV d (BitVec.ofNat 128 r.bits)
    vector (.fadd p f packed d a b) fpAdd b ∧ vector (.fsub p f packed d a b) fpSub b ∧
    vector (.fmul p f packed d a b) fpMul b ∧ vector (.fdiv p f packed d a b) fpDiv b ∧
    vector (.fsqrt p f packed d a) fpSqrt a ∧ vector (.fmin p f packed d a b) fpMin b ∧
    vector (.fmax p f packed d a b) fpMax b ∧ vector (.fmadd p f packed d a b) fpMadd b ∧
    vector (.feq p f packed d a b) fpEq b ∧ vector (.flt p f packed d a b) fpLt b ∧ vector (.fle p f packed d a b) fpLe b ∧
    (src ≠ f → scalar (.fcvt p f d a src) (fpCvt src f md (low src) 0 0)) ∧
    scalar (.icvtf p f d a) (fpOfInt f md (s.g p a)) ∧
    (let r := fpToInt f md (low f) 0 0
     ends (.fcvti p f d a) [r] fun k => k.wr (bankInUse p k) d (BitVec.ofNat 64 r.bits)) ∧
    Writes (.fmvg p d a) p s d ((s.gv p a).truncate 64) ∧
    Goes (.fmvv p d a) p s (withV k d ((s.g p a).zeroExtend 128)) (k.pc + 4) ∧
    (src = f → Raises (.fcvt p f d a src) p s ⟨1, 0, none⟩)) ∧
  (∀ (c : Fin 16) (s : State) (f src : Fmt) (z : Esz) (packed : Bool) (d a b : RegNo) (imm : BitVec 16),
    let p := Proc.core c
    Calm p s → (s.cpu p).st.fpe = false → ∀ i ∈ ([.fadd p f packed d a b, .fsub p f packed d a b, .fmul p f packed d a b,
      .fdiv p f packed d a b, .fsqrt p f packed d a, .fmin p f packed d a b, .fmax p f packed d a b,
      .fmadd p f packed d a b, .feq p f packed d a b, .flt p f packed d a b, .fle p f packed d a b, .fcvti p f d a,
      .icvtf p f d a, .fmvg p d a, .fmvv p d a, .vadd p z d a b, .vsub p z d a b, .vmul p z d a b, .vmin p z d a b,
      .vminu p z d a b, .vmax p z d a b, .vmaxu p z d a b, .vand p d a b, .vor p d a b, .vxor p d a b, .vshl p z d a b,
      .vshr p z d a b, .vsar p z d a b, .vdot p d a b, .vdotu p d a b, .vsplat p z d a, .vlB p d a imm, .vlH p d a imm,
      .vlW p d a imm, .vlD p d a imm, .vsB p d a imm, .vsH p d a imm, .vsW p d a imm, .vsD p d a imm, .flH p d a imm,
      .flW p d a imm, .flD p d a imm, .fsH p d a imm, .fsW p d a imm, .fsD p d a imm] : List Instr),
      Raises i p s ⟨8, 1, none⟩)

/-- R155 to R162: special operands of the FP operations: canonical NaN and NV, infinities and zeros, division by zero, the
saturation of FCVTI, comparisons, FZ.
Where the spec is silent it follows the model's choices (log 41). -/
def Obligations.FpSpecialOperands : Prop :=
  ∀ (f : Fmt) (md : FpMode) (x y z : Nat),
    let a := unpack f md.fz x; let b := unpack f md.fz y
    let nan := fun (nv : Bool) => (⟨nanBits f, { nv := nv }⟩ : FpRes)
    (isNan a = true ∨ isNan b = true →
      fpAdd f md x y z = nan (isSignal a || isSignal b) ∧ fpSub f md x y z = nan (isSignal a || isSignal b) ∧
      fpMul f md x y z = nan (isSignal a || isSignal b) ∧ fpDiv f md x y z = nan (isSignal a || isSignal b)) ∧
    (∀ n, a = .inf n → b = .inf (!n) → fpAdd f md x y z = nan true) ∧
    (∀ n, a = .inf n → b = .inf n → fpSub f md x y z = nan true) ∧
    (∀ n m e, a = .inf n → b = .fin m 0 e → fpMul f md x y z = nan true) ∧
    (∀ n m u e d, a = .fin n u d → u ≠ 0 → b = .fin m 0 e →
      fpDiv f md x y z = ⟨signBits f (n != m) + infBits f, { dz := true }⟩) ∧
    (∀ n m e d, a = .fin n 0 d → b = .fin m 0 e → fpDiv f md x y z = nan true) ∧
    (∀ m e, a = .fin true m e → m ≠ 0 → fpSqrt f md x y z = nan true) ∧
    (∀ e, a = .fin true 0 e → fpSqrt f md x y z = ⟨signBits f true, {}⟩) ∧
    (isNan a = true → fpToInt f md x y z = ⟨2 ^ 63, { nv := true }⟩) ∧
    (a = .inf false → fpToInt f md x y z = ⟨2 ^ 63 - 1, { nv := true }⟩) ∧
    (a = .inf true → fpToInt f md x y z = ⟨2 ^ 63, { nv := true }⟩) ∧
    (isNan (unpack f false x) = true ∨ isNan (unpack f false y) = true →
      fpEq f md x y z = ⟨0, { nv := isSignal (unpack f false x) || isSignal (unpack f false y) }⟩ ∧
      fpLt f md x y z = ⟨0, { nv := true }⟩ ∧ fpLe f md x y z = ⟨0, { nv := true }⟩) ∧
    (isNan (unpack f false x) = true → isNan (unpack f false y) = false →
      (fpMin f md x y z).bits = y ∧ (fpMax f md x y z).bits = y) ∧
    (md.fz = true → x / 2 ^ fracBits f % 2 ^ expBits f = 0 → ∃ n e, unpack f md.fz x = .fin n 0 e)

/-- R163 to R165: the integer SIMD instructions, lane by lane, at every element size. -/
def Obligations.SimdInstructions : Prop :=
  ∀ (c : Fin 16) (s : State) (z : Esz) (d a b : RegNo),
    let p := Proc.core c
    let k := s.cpu p
    Calm p s → fpReady c s →
    let w := eszBits z
    let x := fun i => laneOf (s.gv p a) w i
    let y := fun i => laneOf (s.gv p b) w i
    let sx := fun i => signedLane w (x i)
    let sy := fun i => signedLane w (y i)
    let each := fun (i : Instr) (lane : Nat → Nat) => ∃ r : VWord, (∀ n, n < 128 / w → laneOf r w n = lane n) ∧
      Goes i p s (withV k d r) (k.pc + 4)
    let bits := fun (i : Instr) (r : VWord) => Goes i p s (withV k d r) (k.pc + 4)
    let dot := fun (i : Instr) (num : Nat → Int) => ∃ r : VWord, Goes i p s (withV k d r) (k.pc + 4) ∧
      ∀ n, n < 4 → ∃ m : Int, (laneOf r 32 n : Int) + m * 2 ^ 32 = laneOf (s.gv p d) 32 n +
        num (laneOf (s.gv p a) 8 (4 * n)) * num (laneOf (s.gv p b) 8 (4 * n)) +
        num (laneOf (s.gv p a) 8 (4 * n + 1)) * num (laneOf (s.gv p b) 8 (4 * n + 1)) +
        num (laneOf (s.gv p a) 8 (4 * n + 2)) * num (laneOf (s.gv p b) 8 (4 * n + 2)) +
        num (laneOf (s.gv p a) 8 (4 * n + 3)) * num (laneOf (s.gv p b) 8 (4 * n + 3))
    each (.vadd p z d a b) (fun i => (x i + y i) % 2 ^ w) ∧ each (.vsub p z d a b) (fun i => (x i + 2 ^ w - y i) % 2 ^ w) ∧
    each (.vmul p z d a b) (fun i => x i * y i % 2 ^ w) ∧
    each (.vminu p z d a b) (fun i => min (x i) (y i)) ∧ each (.vmaxu p z d a b) (fun i => max (x i) (y i)) ∧
    each (.vmin p z d a b) (fun i => if sx i ≤ sy i then x i else y i) ∧
    each (.vmax p z d a b) (fun i => if sx i ≤ sy i then y i else x i) ∧
    each (.vshl p z d a b) (fun i => if y i < w then x i * 2 ^ y i % 2 ^ w else 0) ∧
    each (.vshr p z d a b) (fun i => if y i < w then x i / 2 ^ y i else 0) ∧
    each (.vsar p z d a b) (fun i => (sx i / 2 ^ min (y i) (w - 1) % 2 ^ w).toNat) ∧
    bits (.vand p d a b) (s.gv p a &&& s.gv p b) ∧ bits (.vor p d a b) (s.gv p a ||| s.gv p b) ∧
    bits (.vxor p d a b) (s.gv p a ^^^ s.gv p b) ∧
    dot (.vdot p d a b) (signedLane 8) ∧ dot (.vdotu p d a b) (fun v => (v : Int)) ∧
    each (.vsplat p z d a) (fun _ => (s.g p a).toNat % 2 ^ w) ∧
    (b.val < 128 / w → Writes (.vextr p z d a b) p s d (BitVec.ofInt 64 (signedLane w (x b.val)))) ∧
    (128 / w ≤ b.val → Raises (.vextr p z d a b) p s ⟨1, 0, none⟩)

/-! ### Waiting, queues, ports and packets -/

/-- R118 to R122: WAIT with its wake condition met, POUR.WAIT, SEND to a free entry and RECV from a filled slot.
R193, R226, R227: the timeout of a READ that was abandoned frees its tag; that of a WRITE frees its slot and records a
refusal for FENCE.C.
Where the spec is silent it follows the model's choices (log 5). -/
def Obligations.WaitsAndQueues : Prop :=
  (∀ (c : Fin 16) (s s1 s2 s3 : State) (x : XAddr) (n : Nat) (ps : List (Nat × Nat)) (d a b : RegNo),
    let p := Proc.core c
    let k := s.cpu p
    let ga := s.g p a
    let q := (s.g p b).toNat
    Calm p s →
    (ringOf k = 0 → wakeCond s c = true → Writes (.wait p d) p s d 2) ∧
    (ringOf k ≠ 0 → Raises (.wait p d) p s ⟨6, 5, none⟩) ∧
    (ga.toNat ≤ k.epochNo.toNat → Writes (.pourWait p d a) p s d k.epochNo) ∧
    (k.epochNo.toNat < ga.toNat → Gives (.pourWait p d a) s fun t => (t.cpu p).wait = .pour d ga ∧ (t.cpu p).pc = k.pc) ∧
    (queueDenied s c q F.NG_SQCFG_EN F.NG_SQCFG_PART F.NG_SQCFG_MINRING = true →
      Raises (.send p d a b) p s ⟨3, 7 + 3 * 256, some ga⟩) ∧
    (queueDenied s c q F.NG_SQCFG_EN F.NG_SQCFG_PART F.NG_SQCFG_MINRING = false → ga.toNat % 32 = 0 → k.sb = [] →
      blockPlace s c ga = .ok x s1 → blockPayload s1 c x ga = .ok n s2 → blockPieces s2 c ga x (32 + n) = .ok ps s3 →
      Plain p s3 k.pc →
      let ring := mget [] s3.router.sq q
      let room := 2 ^ min (s3.fl F.NG_SQCFG_DEPTH q) 8
      (4096 < n → Ends (.send p d a b) p s s3 ((s3.cpu p).wr (bankInUse p (s3.cpu p)) d 3) (k.pc + 4)) ∧
      (n ≤ 4096 → room ≤ ring.length →
        Ends (.send p d a b) p s s3 ((s3.cpu p).wr (bankInUse p (s3.cpu p)) d 1) (k.pc + 4)) ∧
      (n ≤ 4096 → ring.length < room → Gives (.send p d a b) s fun t =>
        t.cpu p = { (s3.cpu p).wr (bankInUse p (s3.cpu p)) d 0 with pc := k.pc + 4 } ∧ t.mem = s3.mem ∧ t.flds = s3.flds ∧
        mget [] t.router.sq q = ring ++ [⟨ps, c⟩])) ∧
    (queueDenied s c q F.NG_RQCFG_EN F.NG_RQCFG_PART F.NG_RQCFG_MINRING = true →
      Raises (.recv p d a b) p s ⟨3, 7 + 3 * 256, some ga⟩) ∧
    (queueDenied s c q F.NG_RQCFG_EN F.NG_RQCFG_PART F.NG_RQCFG_MINRING = false →
      let r := mget {} s.router.rq q
      let slots := 2 ^ max 1 (s.fl F.NG_RQCFG_SLOTS q)
      let frees := ga != -1 && r.returned != 0 && ga.toNat == (r.next + slots - r.lens.length % slots) % slots
      let lens := if frees = true then r.lens.drop 1 else r.lens
      let returned := if frees = true then r.returned - 1 else r.returned
      let notes := b2n (ga != -1 && !frees) * 2 ^ 61 + b2n (s.fb F.NG_RQCFG_OVERRUN q) * 2 ^ 62
      (frees = true → k.sb = []) →
      Gives (.recv p d a b) s fun t => t.fb F.NG_RQCFG_OVERRUN q = false ∧ (t.cpu p).pc = k.pc + 4 ∧
        (mget {} t.router.rq q).lens = lens ∧ t.mem = s.mem ∧
        (d ≠ 31 → ∀ len, lens[returned]? = some len → (t.g p d).toNat =
          (r.next + slots - lens.length % slots + returned) % slots % 2 ^ 16 + len % 2 ^ 13 * 2 ^ 32 + notes) ∧
        (d ≠ 31 → lens[returned]? = none → (t.g p d).toNat = 2 ^ 63 + notes))) ∧
  (∀ (c : Fin 16) (s : State) (g : Fin 8) (w : Fin 64) (r : RTag) (x : WSlot),
    let p := Proc.core c
    let k := s.cpu p
    (k.rtags.find? (fun r => r.tag == g.val) = some r → r.abandoned = true → Gives (.remoteReadTagTimeout c g) s fun t =>
      OnlyCpu p s t { k with rtags := k.rtags.filter fun r => r.tag != g.val }) ∧
    (k.rtags.find? (fun r => r.tag == g.val) = some r → r.abandoned = false → ∀ dst ea ps, k.wait = .remote dst ea ps →
      exec (.remoteReadTagTimeout c g) s =
        .next (takeExc (abandon (freeTag s c g.val) c) p ⟨3, 2 + 256 + 1024, some ea⟩ k.pc)) ∧
    (k.wslots.find? (fun x => x.slot == w.val) = some x → Gives (.remoteWriteTimeout c w) s fun t =>
      (t.cpu p).wslots = (k.wslots.filter fun x => x.slot != w.val) ∧ (t.cpu p).refusals = k.refusals + 1 ∧
      (k.refusals = 0 → (t.cpu p).refAddr = x.va) ∧ (k.refusals ≠ 0 → (t.cpu p).refAddr = k.refAddr) ∧
      (t.cpu p).g = k.g ∧ t.mem = s.mem ∧ t.flds = s.flds))

/-- R419 to R421, R449, R450: the port instructions of an Infuser.
R422, R423: the packet instructions of an Infuser.
Where the spec is silent it follows the model's choices (log 18). -/
def Obligations.InfuserPorts : Prop :=
  (∀ (i : Fin 32) (s : State) (d a b : RegNo) (v : Word) (t : State),
    let p := Proc.infuser i
    let k := s.cpu p
    let ga := s.g p a
    let x := infOf s i.val
    Calm p s →
    let reads := fun (v : Word) => Ends (.portRd p d a) p s t ((t.cpu p).wr (bankInUse p (t.cpu p)) d v) (k.pc + 4)
    let written := Ends (.portWr p a b) p s t (t.cpu p) (k.pc + 4)
    (portRead s i ga = .ok v t → Plain p t k.pc → reads v) ∧
    (portRead s i ga = .fail beNotReady t → Plain p t k.pc → reads 0) ∧
    (portRead s i ga = .fail beNoTarget t → exec (.portRd p d a) s = .next (takeExc t p ⟨3, 3 + 256, some ga⟩ k.pc)) ∧
    (portWrite s i ga (s.g p b) = .ok () t → Plain p t k.pc → written) ∧
    (portWrite s i ga (s.g p b) = .fail beNotReady t → Plain p t k.pc → written) ∧
    (portWrite s i ga (s.g p b) = .fail beNoTarget t →
      exec (.portWr p a b) s = .next (takeExc t p ⟨3, 3 + 2 * 256, some ga⟩ k.pc)) ∧
    (ga.toNat / 256 ≠ 63 → owns s i (ga.toNat / 256) = false →
      portRead s i ga = .fail beNoTarget s ∧ portWrite s i ga v = .fail beNoTarget s) ∧
    (ga.toNat = 63 * 256 → portRead s i ga = .ok (x.events.zeroExtend 64) s) ∧
    (let got := x.events &&& ga.truncate 16
     (got ≠ 0 → Gives (.evtWait p d a) s fun t => (d ≠ 31 → t.g p d = got.zeroExtend 64) ∧ (t.cpu p).pc = k.pc + 4 ∧
       (t.cpu p).wait = .none ∧ (infOf t i.val).events = x.events &&& ~~~got ∧ t.fl F.IF_STAT_STATE i.val = 1) ∧
     (got = 0 → Gives (.evtWait p d a) s fun t => (t.cpu p).pc = k.pc ∧ (t.cpu p).wait = .evt d ga ∧
       (infOf t i.val).events = x.events ∧ t.fl F.IF_STAT_STATE i.val = 2))) ∧
  (∀ (i : Fin 32) (s : State) (d a b : RegNo),
    let p := Proc.infuser i
    let k := s.cpu p
    let ga := s.g p a
    let n := (s.g p b).toNat % 2 ^ 13
    let x := infOf s i.val
    Calm p s → k.sb = [] →
    (2 ^ 36 ≤ ga.toNat → ga.toNat < 2 ^ 36 + 0x10000 → ga.toNat % 32 = 0 → Gives (.pktHdr p a b) s fun t =>
      let u := (s.g p b).getLsbD 16
      let y := builder (infOf t i.val) u
      y.header = readList s (0xE02100000 + 0x10000 * i.val + (ga.toNat - 2 ^ 36)) 32 ∧ y.body = [] ∧ y.isOpen = true ∧
      y.held = (builder x u).held ∧ builder (infOf t i.val) (!u) = builder x (!u) ∧
      t.cpu p = { k with pc := k.pc + 4 } ∧ t.mem = s.mem ∧ t.flds = s.flds) ∧
    (ga.getLsbD 63 = false → ownRange s i ga n = true → Gives (.pktApp p a b) s fun t =>
      let u := (s.g p b).getLsbD 16
      ((builder x u).isOpen = true → (builder (infOf t i.val) u).body = (builder x u).body ++ ownBytes s i ga n) ∧
      ((builder x u).isOpen = false → infOf t i.val = x) ∧
      t.cpu p = { k with pc := k.pc + 4 } ∧ t.mem = s.mem ∧ t.flds = s.flds) ∧
    (let u := ga.getLsbD 0
     let y := builder x u
     (y.held ≠ none → Writes (.pktSend p d a) p s d 1) ∧
     (y.held = none → y.isOpen = false → Writes (.pktSend p d a) p s d 2) ∧
     (y.held = none → y.isOpen = true → badBlock y = true → Writes (.pktSend p d a) p s d 3) ∧
     (y.held = none → y.isOpen = true → badBlock y = false → Gives (.pktSend p d a) s fun t =>
       (d ≠ 31 → t.g p d = 0) ∧ (t.cpu p).pc = k.pc + 4 ∧ (∃ m, builder (infOf t i.val) u = { held := some m } ∧
         m.payload = y.body) ∧ builder (infOf t i.val) (!u) = builder x (!u) ∧ t.mem = s.mem ∧ t.flds = s.flds)))

/-! ### Entries from outside the instruction stream -/

/-- R172, R174, R178, R180, R186, R190, R192, 23 R473: the entries of a core at an instruction boundary, or from a wait that
an interrupt abandons: by level, at the machine level under LEGACY, as a collision where the bank is live, by secure source, by
DEBUG REQUEST and by supervisory event.
Where the spec is silent it follows the model's choices (log 83). -/
def Obligations.InterruptEntries : Prop :=
  ∀ (c : Fin 16) (s : State) (n : Nat),
    let p := Proc.core c
    let k := s.cpu p
    atBoundary s c = true →
    let free := k.mustTake = false ∧ k.supPend = 0
    let fpd := k.st.fpd || (k.bank k.st.bank.toNat).owes
    let aligned := fun (b : Nat) => fpd = true → (k.rd b 30).toNat % 16 = 0
    let frame := fun (t : State) (b : Nat) (reserves : Bool) => let u := t.cpu p
      (u.bank b).fres = reserves ∧ (u.bank b).fwr = false ∧ u.wait = .none ∧ t.mem = s.mem ∧
      ∀ (i : Nat) (r : RegNo), u.rd i r = if reserves = true ∧ i = b ∧ r = 30 then k.rd b 30 - 544 else k.rd i r
    let saves := fun (t : State) (b cause sub : Nat) (vec : Word) => let u := t.cpu p; let x := u.bank b
      u.pc = vec ∧ x.epc = k.pc &&& ~~~3 ∧ x.cause = BitVec.ofNat 8 cause ∧ x.sub = BitVec.ofNat 16 sub ∧
      x.saved.bank = k.st.bank ∧ x.saved.ie = k.pendIe.getD k.st.ie ∧ x.saved.ipl = k.pendIpl.getD k.st.ipl ∧
      x.saved.exl = k.st.exl ∧ x.saved.fpd = fpd ∧ u.st.bank = BitVec.ofNat 4 b ∧ u.st.exl = true ∧
      u.st.live.getLsbD b = true
    let enters := fun (i : Instr) (b cause sub : Nat) (vec : Word) =>
      (aligned b → Gives i s fun t => saves t b cause sub vec ∧ frame t b fpd) ∧
      (¬ aligned b → Gives i s fun t => let u := t.cpu p; let m := u.bank 9
        u.pc = (k.mvec &&& 0xFFFFFE000) + 0x40 ∧ m.cause = 0x0D ∧ m.sub.toNat / 4096 = 1 ∧ m.epc = k.pc &&& ~~~3 ∧
        u.st.ml = true ∧ u.st.bank = 9)
    let toMachine := fun (i : Instr) (cause sub : Nat) (vec : Word) => Gives i s fun t =>
      saves t 9 cause sub vec ∧ frame t 9 false ∧ (t.cpu p).st.ml = true ∧ (t.cpu p).st.ie = false
    let table := (((k.vecbase.truncate 48 : BitVec 48).signExtend 64) &&& ~~~0xFFF) + BitVec.ofNat 64 0x40
    let machine := k.mvec &&& 0xFFFFFE000
    let claimed := fun (t : State) => t.fb F.IC_SRC_ACTIVE n = true ∧
      (n ≠ 280 → t.fb F.IC_SRC_PENDING n = false)
    (free → secureTakes s c = none → debugTakes s c = false → levelTakes s c = some n → s.fl F.IC_SRC_PRIO n ≤ 7 →
      let q := s.fl F.IC_SRC_PRIO n
      (k.st.legacy = true → toMachine (.interruptEntry c) 0x0C n (machine + 0xC0) ∧ Gives (.interruptEntry c) s claimed) ∧
      (k.st.legacy = false → k.st.live.getLsbD q = true → toMachine (.interruptEntry c) 0x0A q (machine + 0x40) ∧
        Gives (.interruptEntry c) s fun t => t.fb F.IC_SRC_ACTIVE n = s.fb F.IC_SRC_ACTIVE n) ∧
      (k.st.legacy = false → k.st.live.getLsbD q = false →
        enters (.interruptEntry c) q 0x0C n (table + BitVec.ofNat 64 (0x80 * q)) ∧
        (aligned q → Gives (.interruptEntry c) s fun t => claimed t ∧ (t.cpu p).st.ipl = BitVec.ofNat 3 q ∧ (t.cpu p).st.ring = 0))) ∧
    (free → secureTakes s c = some n → enters (.secureInterruptEntry c) 8 0x0C n (machine + 0x1040) ∧
      (aligned 8 → Gives (.secureInterruptEntry c) s fun t => (t.cpu p).st.ipl = 7 ∧ (t.cpu p).st.ring = 0)) ∧
    (free → secureTakes s c = none → debugTakes s c = true →
      enters (.debugRequestEntry c) (debugLevel k) 0x0B 4 (table + BitVec.ofNat 64 (0x80 * debugLevel k)) ∧
      Gives (.debugRequestEntry c) s fun t => (t.cpu p).dbgReq = false) ∧
    (∀ e, k.st.ml = false → lowestEvent k.supPend = some e →
      toMachine (.supervisoryEventEntry c) 0x0C (0x8000 + e) (machine + 0x80) ∧
      Gives (.supervisoryEventEntry c) s fun t => (t.cpu p).supPend = k.supPend &&& ~~~(1#5 <<< (e - 1)))

/-! ### Power -/

/-- 18 R385 to R395: power domains: what the answer to an offer, a timeout, PW_DOMREQ, a wake and a return do.
18 R396, R397, 02 R44, R45: voltage commands, the clock select and the clock's cap.
Where the spec is silent it follows the model's choices (logs 5, 73). -/
def Obligations.PowerAndVoltage : Prop :=
  (∀ (s : State) (h : Sleep) (d : Nat) (c : Fin 16) (v : Word) (dom : Fin 47) (rd : RegNo),
    let answers := s.pwr.current = some h ∧ s.pwr.queue = [] ∧ h.todo = [d] ∧ h.done = [] ∧ h.wasWait = false ∧ d < 47
    let last := fun (t : State) (result refdom reason : Nat) => t.fl F.PW_LASTREQ_RESULT 0 = result ∧
      t.fl F.PW_LASTREQ_CORE 0 = h.core % 16 ∧ t.fl F.PW_LASTREQ_REFDOM 0 = refdom ∧ t.fl F.PW_LASTREQ_REASON 0 = reason ∧
      t.pwr.current = none
    let q := Requester.core c
    let ring0 := isRing0 s q = true
    let target := bitsOf v F.PW_DOMREQ_DOMAIN
    let asks := fun (i : Instr) (n : Nat) => ring0 → bitsOf v F.PW_DOMREQ_STATE = n → 16 ≤ target → target < 45 →
      s.pwr.current = none → s.pwr.queue = [] →
      Gives i s fun t => t.pwr.current = some ⟨c.val, false, n, 0, [target], [], false⟩ ∧ t.flds = s.flds ∧ t.mem = s.mem
    (answers → s.dom d = 0 → h.other ≠ 0 → ∀ r, r < 8 → refuses s (if h.steep then 16 else h.core) d = some r →
      Gives .domainOfferAnswer s fun t => last t 1 d r ∧ t.dom d = s.dom d) ∧
    (answers → deepEnough s d h.other = false → s.dom d = 1 ∨ refuses s (if h.steep then 16 else h.core) d = none →
      (h.other = 1 → Gives .domainOfferAnswer s fun t => last t 0 0 0 ∧ t.dom d = 1) ∧
      (h.other = 2 → s.dom d ≠ 1 ∨ mget false s.pwr.waking d = false → Gives .domainOfferAnswer s fun t =>
        last t 0 0 0 ∧ t.dom d = 2)) ∧
    (answers → Gives .domainAnswerTimeout s fun t => last t 1 d 4 ∧ t.dom d = s.dom d) ∧
    (ring0 → bitsOf v F.PW_DOMREQ_STATE = 0 → target ≤ 46 → s.dom target ≠ 0 → Gives (.pwDomreqWake q v) s fun t =>
      mget false t.pwr.waking target = true ∧ t.dom target = s.dom target ∧ t.mem = s.mem) ∧
    asks (.pwDomreqRet q v) 1 ∧ asks (.pwDomreqOff q v) 2 ∧
    (mget false s.pwr.waking dom.val = true → Gives (.domainWakeTimeout dom) s fun t =>
      mget false t.pwr.waking dom.val = false ∧ mget false t.pwr.wakeFailed dom.val = mget false s.pwr.asked dom.val ∧ t.dom dom.val = s.dom dom.val) ∧
    (mget false s.pwr.waking dom.val = true → powered s dom.val = true → s.dom dom.val ≠ 0 → Gives (.domainReturn dom) s
      fun t => t.dom dom.val = 0 ∧ mget false t.pwr.waking dom.val = false) ∧
    (plainWake (.core c) s →
      wakeCond s c = true → s.dom c.val = 0 → (s.cpu (.core c)).run = .running → inHandshake s c = false →
      (s.cpu (.core c)).wait = .sleep rd → Gives (.coreWake c) s fun t =>
        (rd ≠ 31 → t.g (.core c) rd = 0) ∧ (t.cpu (.core c)).pc = (s.cpu (.core c)).pc + 4 ∧
        (t.cpu (.core c)).wait = .none ∧ t.mem = s.mem ∧ t.flds = s.flds)) ∧
  (∀ (s : State) (c : Fin 16) (v : Word) (n : Fin 4) (mv : BitVec 12),
    let q := Requester.core c
    let at_ := fun (t : State) (f : Fld) => t.fl f n.val
    let cap := fun (m : Nat) => if 850 ≤ m then 2400 else if 750 ≤ m then 1800 else if 650 ≤ m then 1200 else 600
    (isRing0 s q = true → Gives (.pwVcmdWrite q n v) s fun t => at_ t F.PW_VCMD_TARGET = bitsOf v F.PW_VCMD_TARGET ∧
      at_ t F.PW_VCMD_SEQ = (at_ s F.PW_VCMD_SEQ + 1) % 256 ∧ t.fb F.PW_VCMD_BUSY n.val = true ∧ t.mem = s.mem) ∧
    (isRing0 s q = false → Gives (.pwVcmdWrite q n v) s fun t => ∀ f ∈ [F.PW_VCMD_TARGET, F.PW_VCMD_SEQ, F.PW_VCMD_BUSY],
      at_ t f = at_ s f) ∧
    (s.fb F.PW_VCMD_BUSY n.val = true → Gives (.voltageCommandComplete n) s fun t =>
      at_ t F.PW_VCMD_DONESEQ = at_ s F.PW_VCMD_SEQ % 256 ∧ t.fb F.PW_VCMD_BUSY n.val = false ∧
      at_ t F.PW_VCMD_MV = (550 + 20 * at_ s F.PW_VCMD_TARGET) % 4096 ∧
      mget 600 t.pwr.capMhz n.val = cap (550 + 20 * at_ s F.PW_VCMD_TARGET)) ∧
    (s.fb F.PW_VCMD_BUSY n.val = true → Gives (.voltageCommandFail n) s fun t => t.fb F.PW_VCMD_FAIL n.val = true ∧
      t.fb F.PW_VCMD_BUSY n.val = true ∧ t.mem = s.mem) ∧
    (Gives (.voltageMonitorCap n mv) s fun t => at_ t F.PW_VCMD_MV = mv.toNat ∧ mget 600 t.pwr.capMhz n.val = cap mv.toNat) ∧
    (isRing0 s q = true → Gives (.pwCoreclkWrite q v) s fun t => t.fl F.PW_CORECLK_SEL 0 = v.toNat % 65536 ∧ t.mem = s.mem ∧
      t.cpus = s.cpus))

/-- 18 R398 to R400: the steps of a Steep table.
Where the spec is silent it follows the model's choices (log 16). -/
def Obligations.SteepTable : Prop :=
  ∀ (s : State) (c : Fin 16) (v : Word),
    let q := Requester.core c
    let i := s.fl F.KT_STEEPSTAT_STEP 0
    let st := fun (t : State) => t.fl F.KT_STEEPSTAT_STATE 0
    let step := fun (t : State) => t.fl F.KT_STEEPSTAT_STEP 0
    let acc := s.fl F.KT_STEEPSTAT_ACC 0
    let opOk := fun (n : Nat) => s.fl F.KT_STEEP_OP n < 7
    let runs := 1 ≤ st s ∧ st s ≤ 3 ∧ s.steep.fixed = false ∧ s.steep.wakeDom = none ∧ s.steep.sleeping = none ∧
      s.steep.run < 255
    let op := s.fl F.KT_STEEP_OP i
    let arg := s.fl F.KT_STEEP_ARG i
    let goes := fun (cmd : Instr) (n : Nat) => n < 32 → opOk n → Gives cmd s fun t => step t = n ∧ st t = st s ∧ t.mem = s.mem
    let signed := fun (x : Nat) => (BitVec.ofNat 16 x).toInt
    (isRing0 s q = true → (st s = 0 ∨ st s = 4) → v.getLsbD 17 = true → v.getLsbD 18 = false →
      opOk (bitsOf v F.KT_STEEPCTL_TSTEP) → Gives (.ktSteepctlStart q v) s fun t => st t = 2 ∧
        step t = bitsOf v F.KT_STEEPCTL_TSTEP) ∧
    (isRing0 s q = true → v.getLsbD 18 = true → Gives (.ktSteepctlAck q v) s fun t => st t = 0 ∧ t.steep.sleeping = none) ∧
    (runs → op = 0 → Gives .steepEnd s fun t => st t = 4 ∧ t.mem = s.mem) ∧
    (runs → op = 1 → Gives .steepWake s fun t => t.steep.wakeDom = some arg ∧
      (s.dom arg ≠ 0 → arg ≤ 46 → mget false t.pwr.waking arg = true) ∧ st t = st s) ∧
    (∀ d, s.steep.wakeDom = some d → s.steep.run < 255 →
      (d ≤ 46 → s.steep.failed = false → powered s d = true → heldInReset s d = false → s.dom d = 0 →
        goes .steepWakeDone (i + 1)) ∧
      (46 < d ∨ s.steep.failed = true ∨ powered s d = false ∨ heldInReset s d = true →
        goes .steepWakeDone (s.fl F.KT_STEEP_A i))) ∧
    (runs → op = 2 → arg = 0x31 → i < 31 → opOk (i + 1) → Gives .steepSample s fun t =>
      t.fl F.KT_STEEPSTAT_ACC 0 = s.fl F.KT_SUPPLY_PG 0 % 65536 ∧ step t = i + 1) ∧
    (runs → op = 3 →
      (signed (s.fl F.KT_STEEP_LO i) ≤ signed acc ∧ signed acc ≤ signed (s.fl F.KT_STEEP_HI i) →
        goes .steepCompare (s.fl F.KT_STEEP_A i)) ∧
      (¬ (signed (s.fl F.KT_STEEP_LO i) ≤ signed acc ∧ signed acc ≤ signed (s.fl F.KT_STEEP_HI i)) →
        goes .steepCompare (s.fl F.KT_STEEP_B i))) ∧
    (runs → op = 4 → arg = 0 → Gives .steepActContinue s fun t => st t = 4 ∧ (st s = 1 → t.steep.holds = false)) ∧
    (runs → op = 4 → arg = 1 → goes .steepActSignal (i + 1)) ∧
    (runs → op = 4 → arg = 2 → goes .steepActRecord (i + 1)) ∧
    (runs → op = 5 → s.steep.woken = [] → Gives .steepSleep s fun t => t.steep.sleeping = some (max 1 arg) ∧ st t = st s) ∧
    (∀ n, s.steep.sleeping = some n → s.steep.fixed = false → 1 ≤ st s → st s ≤ 3 →
      goes .steepSleepExpiry (i + 1)) ∧
    (runs → op = 6 → goes .steepJump (s.fl F.KT_STEEP_A i))

/-! ### Supplies, clocks and resets -/

/-- 02 R33 to R43, 03 R36, R61: the always-on inputs, the carried state, and the supply resets.
02 R38 to R40, R67: the board's rails in order. -/
def Obligations.SuppliesAndRails : Prop :=
  (∀ (s : State) (main good held : Bool) (straps : BitVec 4) (stuck : BitVec 80) (temps : List Byte),
    let carried := fun (t : State) => t.fb F.KT_SUPPLY_CARRIED 0
    let raised := fun (t : State) (b : Nat) => bitAt (t.fl F.KT_TRIGSTAT_RAISED 0) b = true
    let computeOff := fun (t : State) => ∀ d ∈ computeDomains, t.dom d = 2
    let up := supplied s ∧ s.sup.alone = false
    let released := fun (t : State) => supplied t ∧ t.sup.straps = straps ∧ computeOff t ∧
      t.fb F.KT_SUPPLY_MAIN_OK 0 = s.sup.mainUp ∧ t.sup.alone = (!s.sup.mainUp && !s.sup.bkpUp)
    (¬ supplied s → Gives (.aonInputGood main) s fun t => t.sup.mainUp = (s.sup.mainUp || main) ∧
      t.sup.bkpUp = (s.sup.bkpUp || !main) ∧ t.flds = s.flds ∧ t.mem = s.mem) ∧
    (supplied s → s.sup.alone = true → s.steep.holds = false → s.sup.failed.getLsbD 0 = false → Gives (.aonInputGood true) s fun t =>
      t.fb F.KT_SUPPLY_MAIN_OK 0 = true ∧ t.sup.alone = false ∧ t.sup.pwrEn = s.sup.pwrEn ||| 1 ∧ t.mem = s.mem) ∧
    (up → Gives (.aonBkpLoss good) s fun t => t.fb F.KT_SUPPLY_BKP_OK 0 = good ∧
      (good = false → t.fb F.KT_SUPPLY_BKP_ABSENT 0 = true ∧ t.sup.bkpNoted = true) ∧ t.mem = s.mem) ∧
    (up → s.sup.mainUp = true → Gives .aonMainLoss s fun t => t.fb F.KT_SUPPLY_MAIN_OK 0 = false ∧ raised t 3 ∧
      (s.sup.bkpUp = true → carried t = true ∧ t.fl F.KT_SUPPLY_SRC 0 = 1) ∧
      (s.sup.bkpUp = false → carried t = carried s) ∧ t.mem = s.mem) ∧
    (up → s.sup.mainUp = false → carried s = true → s.fb F.KT_STEEPCTL_COLD 0 = false → s.steep.holds = false →
      s.sup.failed.getLsbD 0 = false → Gives (.aonMainReturn held) s fun t => carried t = false ∧
        t.fb F.KT_SUPPLY_MAIN_OK 0 = true ∧ t.fl F.KT_SUPPLY_SRC 0 = 0 ∧ t.mir.kRole = 0 ∧ t.sup.pwrEn = s.sup.pwrEn ||| 1 ∧
        (held = false → t.dram.undef = BitVec.allOnes 4) ∧ (held = true → t.dram.undef = s.dram.undef)) ∧
    (carried s = true → s.sup.isolated = false → Gives .computeDomainIsolation s fun t => computeOff t ∧
      t.fl F.KT_SUPPLY_PG 0 = 0 ∧ t.sup.pwrEn = 0 ∧ t.sup.isolated = true ∧ carried t = true) ∧
    (carried s = true → s.sup.isolated = true → s.sup.reduced = false → Gives .mirrorPortReducedRetrain s fun t =>
      t.sup.reduced = true ∧ (∀ m, m < 2 → s.fl F.MR_PORTSTAT_STATE m ≠ 0 → t.fb F.MR_PORTSTAT_REDUCED m = true ∧
        t.fl F.MR_PORTSTAT_STATE m = 6)) ∧
    (carried s = true → s.sup.reduced = true → s.sup.reported = false →
      (∀ m, m < 2 → (lk s (32 + m)).quar = 0 ∧ (lk s (32 + m)).ver = s.fl F.MR_VER_AGREED 0) → Gives .mirrorCarriedReport s fun t =>
      t.sup.reported = true ∧ (∀ m, m < 2 → s.fb F.MR_PORTSTAT_REDUCED m = true → t.fl F.MR_PORTSTAT_STATE m = 5)) ∧
    (s.sup.programming = none → Gives .porAssert s fun t => t.sup.por = true ∧ t.mem = [] ∧ t.cpus = [] ∧
      t.sup.fuses = s.sup.fuses ∧ (causesNow s = [] → ∀ f i, bitAt f.kept 0 = false → f ∈ regGroups.flatMap (·.fields) → t.fl f i = f.reset)) ∧
    (s.sup.por = true → Gives (.porRelease straps stuck temps) s released) ∧
    (supplied s → Gives .borAssert s fun t => t.sup.bor = true ∧ t.fb F.KT_RSTCAUSE_BOR 0 = true ∧
      t.fl F.KT_RSTCAUSE_LAST 0 = 1 ∧ t.mem = [] ∧ t.cpus = []) ∧
    (s.sup.por = false → s.sup.bor = true → Gives (.borRelease straps stuck temps) s released)) ∧
  (∀ (s : State) (r : Fin 8) (held : Bool),
    let pg := fun (t : State) (n : Nat) => bitAt (t.fl F.KT_SUPPLY_PG 0) n
    let on := s.sup.pwrEn.getLsbD r.val = true
    let earlier := fun (n : Nat) => n < r.val → s.sup.pwrEn.getLsbD n = true
    (supplied s → s.fb F.KT_SUPPLY_CARRIED 0 = false → s.sup.railsAsked = false → r.val ≠ 0 → (∀ n, earlier n) →
      s.sup.pwrEn.getLsbD r.val = false → s.sup.failed.getLsbD r.val = false → pg s (r.val - 1) = true →
      Gives .boardRailEnable s fun t => t.sup.pwrEn = s.sup.pwrEn ||| (1#8 <<< r.val) ∧ t.flds = s.flds ∧ t.mem = s.mem) ∧
    (on → pg s r.val = false → Gives (.pgRise r) s fun t => pg t r.val = true ∧
      (∀ d ∈ railDomains r.val, railsUp t d = true → scrapped s = false → t.dom d = 0) ∧
      ∀ n, n < 8 → n ≠ r.val → pg t n = pg s n) ∧
    (on → pg s r.val = false → Gives (.pgTimeout r) s fun t => (∀ n, n < 8 → r.val ≤ n → t.sup.pwrEn.getLsbD n = false ∧
      t.sup.failed.getLsbD n = true) ∧ (∀ n, n < r.val → t.sup.pwrEn.getLsbD n = s.sup.pwrEn.getLsbD n) ∧ t.mem = s.mem) ∧
    (on → pg s r.val = true → s.fb F.KT_SUPPLY_MAIN_OK 0 = true → Gives (.pgDrop r false held) s fun t => pg t r.val = false ∧
      bitAt (t.fl F.KT_SUPPLY_PG_DROP 0) r.val = true ∧ bitAt (t.fl F.KT_TRIGSTAT_RAISED 0) 3 = true ∧
      ∀ d ∈ railDomains r.val, t.dom d = 2) ∧
    (on → pg s r.val = true → s.fb F.KT_SUPPLY_MAIN_OK 0 = true → supplied s → s.sup.alone = false → s.sup.mainUp = true →
      Gives (.pgDrop r true held) s fun t => pg t r.val = false ∧ t.fl F.KT_SUPPLY_PG_DROP 0 = s.fl F.KT_SUPPLY_PG_DROP 0 ∧
        t.fb F.KT_SUPPLY_MAIN_OK 0 = false ∧ bitAt (t.fl F.KT_TRIGSTAT_RAISED 0) 3 = true ∧
        (s.sup.bkpUp = true → t.fb F.KT_SUPPLY_CARRIED 0 = true) ∧ t.mem = s.mem))

/-- 02 R47 to R51, 03 R53, R60: the clock monitors, the PLLs and a cluster's clock. -/
def Obligations.ClocksAndPlls : Prop :=
  ∀ (s : State) (k : Fin 22) (q : Requester) (n : Fin 4) (v : Word),
    let shows := fun (t : State) (k : Nat) => bitAt (t.fl (monField k).1 0) (monField k).2 = true
    let watched := monitored s k.val = true
    let failing := s.clk.failing.getLsbD k.val
    let persist := s.clk.persist.getLsbD k.val
    let f := bitsOf v F.CK_CLUSTER_FREQ
    (watched → Gives (.clockMonitorWindow k false) s fun t => t.clk.failing.getLsbD k.val = false ∧
      t.clk.persist.getLsbD k.val = false ∧ t.mem = s.mem) ∧
    (watched → persist = false → failing = false → Gives (.clockMonitorWindow k true) s fun t =>
      t.clk.failing.getLsbD k.val = true ∧ t.flds = s.flds ∧ t.mem = s.mem) ∧
    (watched → persist = false → failing = true → Gives (.clockMonitorWindow k true) s fun t =>
      shows t k.val ∧ t.clk.persist.getLsbD k.val = true ∧
      (clockTrips k.val = true → k.val ≠ 0 → bitAt (t.fl F.KT_TRIGSTAT_RAISED 0) 4 = true)) ∧
    (supplied s → s.clk.kclkB = false → Gives .kclkMissingPulse s fun t => shows t 0 ∧ t.clk.kclkB = true ∧ t.mem = s.mem) ∧
    (supplied s → Gives .xrefGood s fun t => t.clk.xrefGood = true ∧ t.flds = s.flds ∧ t.mem = s.mem) ∧
    (bitAt (s.fl F.KT_SUPPLY_PG 0) 0 = true → s.clk.xrefGood = true → s.fb F.CK_MONSTAT_SPLL 0 = false →
      s.fb F.CK_MONSTAT_XREF 0 = false → Gives .spllLock s fun t => t.clk.spllSel = true ∧ t.flds = s.flds) ∧
    (openAt s (0xE00100080 + 8 * n.val) → 2 ≤ f → f ≤ 24 → f ≠ s.fl F.CK_CLUSTER_FREQ n.val → v.getLsbD 8 = true →
      v.getLsbD 10 = false → Gives (.ckClusterWrite q n v) s fun t => t.fl F.CK_CLUSTER_FREQ n.val = f ∧
        t.fb F.CK_CLUSTER_LOCK n.val = false ∧ t.fb F.CK_CLUSTER_PLL_EN n.val = true ∧ t.fb F.CK_CLUSTER_SEL n.val = false) ∧
    (openAt s (0xE00100080 + 8 * n.val) → f = s.fl F.CK_CLUSTER_FREQ n.val → v.getLsbD 8 = true → v.getLsbD 10 = true →
      s.fb F.CK_CLUSTER_LOCK n.val = true → s.fb F.CK_CLUSTER_SEL n.val = false → Gives (.ckClusterWrite q n v) s fun t =>
        t.fb F.CK_CLUSTER_SEL n.val = true ∧ t.fb F.CK_CLUSTER_SWITCHING n.val = true ∧ t.fb F.CK_CLUSTER_LOCK n.val = true) ∧
    (s.fb F.CK_CLUSTER_PLL_EN n.val = true → bitAt (s.fl F.KT_SUPPLY_PG 0) (4 + n.val) = true → s.clk.xrefGood = true →
      Gives (.cpllLock n) s fun t => t.fb F.CK_CLUSTER_LOCK n.val = true ∧ t.clk.relock.getLsbD n.val = false) ∧
    (Gives (.clusterSourceSwitchDone n) s fun t => t.fb F.CK_CLUSTER_SWITCHING n.val = false ∧ t.mem = s.mem ∧ t.cpus = s.cpus)

/-- 03 R57 to R68: readiness, and the warm reset from its cause to the Caddy's start. -/
def Obligations.ReadinessAndWarmReset : Prop :=
  ∀ (s : State) (u : Fin 256) (v : Word) (c : Fin 16),
    let waits := s.ready u.val = false ∧ mget false s.pwr.timedOut u.val = false ∧ unitUp s u.val = true ∧ u.val ≠ 43
    let q := Requester.core c
    let phase := s.caddy.phase
    (waits → u.val < 29 ∨ 32 < u.val → Gives (.readyBitSet u) s fun t => t.ready u.val = true ∧
      (∀ w, w < 256 → w ≠ u.val → t.ready w = s.ready w) ∧ t.mem = s.mem) ∧
    (waits → u.val = c.val → (s.cpu (.core c)).run = .inReset → s.dbg.marked.getLsbD c.val = false →
      Gives (.readyBitSet u) s fun t => (t.cpu (.core c)).run = .running ∧ (t.cpu (.core c)).pc = (s.cpu (.core c)).pc) ∧
    (waits → (29 ≤ u.val → u.val ≤ 32 → s.dram.inInit.getLsbD (u.val - 29) = true) → (u.val = 34 → s.clk.xrefGood = true) →
      Gives (.readinessTimeout u) s fun t => mget false t.pwr.timedOut u.val = true ∧ t.ready u.val = false ∧
      t.mem = s.mem) ∧
    (phase = .verify ∨ phase = .readFw ∨ phase = .loader → Gives .caddyReadinessTimeout s fun t =>
      t.fl F.KT_CADDYRST_LASTCAUSE 0 = 3 ∧ t.fb F.KT_CADDYRST_FAILED 0 = true ∧ t.ready 43 = false ∧
      (t.caddy.phase = .inReset ∨ t.caddy.phase = .heldOff)) ∧
    (isRing0 s q = true → bitsOf v F.KT_RSTCTL_KEY = 0x5357 → supplied s → s.warm.active = false → s.fb F.KT_SUPPLY_CARRIED 0 = false →
      Gives (.ktRstctlSwr q v) s fun t => t.warm.active = true ∧ t.warm.kind = 2 ∧ t.warm.hold = false ∧
        t.warm.started = s.time ∧ t.fb F.KT_RSTCAUSE_SWR 0 = true ∧
        t.fl F.KT_RSTCAUSE_LAST 0 = 2 ∧ t.fb F.KT_SAFECTL_HELD 0 = true ∧ t.cpus = s.cpus ∧ t.mem = s.mem) ∧
    (s.warm.active = true → s.warm.hold = false → s.warm.kind < 8 → s.fb F.KT_STEEPCTL_COLD 0 = false →
      Gives .warmResetHold s fun t => t.warm = { s.warm with hold := true } ∧ t.cpus = [] ∧ t.caches = {} ∧
        t.fl F.KT_RSTCAUSE_LAST 0 = s.warm.kind ∧ t.caddy.phase = .inReset ∧ t.sup.rstoutN = false ∧
        (∀ a, 0xC00000000 ≤ a → a < 0xC00400000 → readByte t a = readByte s a)) ∧
    (s.warm.active = true → s.warm.hold = true → supplied s → s.sup.alone = false → s.steep.holds = false →
      phase = .inReset → Gives .warmResetCaddyStart s fun t => t.warm = {} ∧ t.caddy.phase = .rom ∧
        (t.cpu .caddy).run = .running ∧ (t.cpu .caddy).pc = 0x1000000000 ∧ t.mem = s.mem)

/-! ### The Caddy -/

/-- 03 R52 to R55, 16 R347 to R349, R362: the Caddy's boot from its ROM to the release of the cores, recovery, and its
watchdog.
Where the spec is silent it follows the model's choices (log 33). -/
def Obligations.CaddyBoot : Prop :=
  ∀ (s : State) (n : Fin 8) (bytes : List Byte) (loader measure : Nat) (policy : Policy),
    let phase := s.caddy.phase
    let first := s.caddy.second = false
    let flash := flashReadable s = true
    let clocked := caddyClocked s = true
    let image := s.caddy.recovery ++ bodyBytes s n.val (bodyLength s n.val)
    let loads := fun (bytes from_ : List Byte) => Gives (.loaderRead true measure bytes) s fun t => t.caddy.phase = .running ∧
      t.caddy.loaded = true ∧ t.ready 43 = true ∧ t.fb F.KT_CADDYRST_FAILED 0 = false ∧
      ∀ i, i < from_.length → i < 4 * 2 ^ 20 → readByte t (0xC00000000 + i) = from_.getD i 0
    (phase = .inReset → supplied s → s.sup.alone = false → s.warm.active = false → s.steep.holds = false →
      Gives .caddyResetRelease s fun t => t.caddy.phase = .rom ∧ (t.cpu .caddy).run = .running ∧
        (t.cpu .caddy).pc = 0x1000000000 ∧ t.clk.caddyPll = false ∧ t.mem = s.mem) ∧
    (phase = .rom → flash → s.fl F.LC_STATE_STATE 0 ≠ 5 → Gives .manifestRead s fun t => t.caddy.phase = .verify ∧
      t.flds = s.flds ∧ t.mem = s.mem) ∧
    (phase = .verify → clocked → Gives (.signatureVerify true measure) s fun t => t.caddy.phase = .readFw ∧
      t.caddy.measures = s.caddy.measures ++ [measure] ∧ t.flds = s.flds) ∧
    (phase = .verify → clocked → first → Gives (.signatureVerify false measure) s fun t => t.caddy.phase = .rom ∧ t.caddy.second = true ∧
      t.flds = s.flds) ∧
    (phase = .verify → clocked → s.caddy.second = true → Gives (.signatureVerify false measure) s fun t => t.caddy.phase = .recovery) ∧
    (phase = .readFw → flash → s.caddy.loaded = false → s.fb F.KT_SUPPLY_CARRIED 0 = false →
      Gives (.firmwareRead true measure policy) s fun t => t.caddy.phase = .loader ∧ t.caddy.policy = some policy ∧
        t.caddy.measures = s.caddy.measures ++ [measure, policy.measure] ∧ t.ready 43 = s.ready 43) ∧
    (phase = .readFw → flash → first → Gives (.firmwareRead false measure policy) s fun t => t.caddy.phase = .rom ∧
      t.caddy.second = true) ∧
    (phase = .loader → s.ready 28 = true → s.fl F.LC_STATE_STATE 0 ≠ 5 → clocked →
      (flash → s.caddy.recovered = false → loads bytes bytes) ∧
      (s.caddy.recovered = true → s.caddy.recovery ≠ [] → loads bytes s.caddy.recovery)) ∧
    (phase = .running → clocked → s.caddy.loaded = true → s.caddy.coresReleased = false → s.fl F.LC_STATE_STATE 0 ≠ 5 →
      Gives .coreRelease s fun t => t.caddy.coresReleased = true ∧ t.sup.rstoutN = true ∧
        t.caddy.released = BitVec.ofNat 4 (s.fl F.KT_SUPPLY_PG 0 / 16) ∧ t.mem = s.mem ∧ t.cpus = s.cpus) ∧
    (busyWith s n.val cmdRecovery → phase = .recovery →
      (Gives (.recovery n false true loader measure measure policy) s fun t => t.caddy.recovery = image ∧
        t.caddy.phase = phase ∧ replied t n.val stOk) ∧
      (s.caddy.loaded = false → s.fb F.KT_SUPPLY_CARRIED 0 = false →
        Gives (.recovery n true true loader measure measure policy) s fun t => t.caddy.phase = .loader ∧
          t.caddy.recovered = true ∧ t.caddy.recovery = image.drop (image.length - loader) ∧ t.caddy.policy = some policy ∧
          replied t n.val stOk) ∧
      (Gives (.recovery n true false loader measure measure policy) s fun t => t.caddy.phase = phase ∧ t.caddy.recovery = [] ∧
        replied t n.val stBadSignature)) ∧
    (phase = .running → Gives .caddyWatchdogExpiry s fun t => t.fl F.KT_CADDYRST_LASTCAUSE 0 = 1 ∧
      t.fb F.KT_CADDYRST_FAILED 0 = false ∧ t.ready 43 = false ∧ t.fl F.MB_STAT_STATE n.val ≠ 2)

/-- 16 R350 to R354, R346, R361, 03 R69, 23 R469: messages of the mailbox and the Caddy's answers.
Where the spec is silent it follows the model's choices (log 34, 111). -/
def Obligations.MailboxMessages : Prop :=
  ∀ (s : State) (q : Requester) (n : Fin 8) (status : BitVec 16) (body nonce : List Byte) (row : Fin 5) (stuck : BitVec 80)
    (sigOk owner maker rma : Bool) (keyHash : Nat) (target : BitVec 3),
    let state := fun (t : State) => t.fl F.MB_STAT_STATE n.val
    let reached := openAt s (0xE00300000 + 0x40 * n.val)
    let length := bodyLength s n.val
    let cert := certOf (bodyBytes s n.val 136)
    let busy := busyWith s n.val
    let command := readBytes s (mbBuf n.val + 2) 2
    let kept := fun (t : State) => t.mem = s.mem ∧ t.cpus = s.cpus
    let lc := s.fl F.LC_STATE_STATE 0
    let allowed := lc < 5 ∧ (target = 5 ∨ target.toNat = lc + 1)
    let owned := owner = true ∧ keysRefused s = false
    let signed := (target = 1 ∨ target = 2 → maker = true) ∧ (target = 3 → owned) ∧ (target = 4 → owned ∧ rma = true) ∧
      (target = 5 → owned ∨ (rma = true ∧ lc = 4))
    let asks := Gives (.lcTransition n target Config.serial true owner maker rma keyHash) s
    let tells := fun (t : State) (b : List Byte) => ∀ i, i < b.length → i < 4080 → readByte t (mbBuf n.val + 16 + i) = b.getD i 0
    let version := natBytes (s.fl F.MB_VER_NATIVE 0 + s.fl F.MB_VER_LOW 0 * 2 ^ 16) 4
    (reached → mbAllowed s q n.val = true → state s = 0 → Gives (.mbGo q n) s fun t => state t = 1 ∧ kept t) ∧
    (reached → mbAllowed s q n.val = true → state s = 3 → Gives (.mbAck q n) s fun t => state t = 0 ∧ kept t) ∧
    (state s = 1 → serves s n.val = true → (∀ m, m < n.val → s.fl F.MB_STAT_STATE m ≠ 1) →
      Gives .caddyTakeMessage s fun t => state t = 2 ∧ kept t ∧
        ∀ m, m < 8 → m ≠ n.val → t.fl F.MB_STAT_STATE m = s.fl F.MB_STAT_STATE m) ∧
    (busy command → knownCommand command = true → Gives (.mbResponse n status body) s fun t =>
      replied t n.val status.toNat ∧ tells t body) ∧
    (busy command → knownCommand command = false → Gives (.mbResponse n status body) s fun t => replied t n.val stBadCommand) ∧
    (busy cmdHello → length = 0 → Gives (.mbHello n nonce) s fun t => replied t n.val stOk ∧ tells t (version ++ nonce.take 48) ∧
      mget [] t.caddy.nonces n.val = nonce.take 48) ∧
    (busy cmdSign → length = 48 → keysRefused s = false → Gives (.sign n body) s fun t =>
      replied t n.val stOk ∧ tells t body) ∧
    (busy cmdSign → length = 48 → keysRefused s = true → Gives (.sign n body) s fun t => replied t n.val stDenied) ∧
    (busy cmdMeasureRead → length = 0 → keysRefused s = false → Gives (.measureRead n body) s fun t => replied t n.val stOk) ∧
    (∀ e ∈ ([(.mbHello n nonce, cmdHello, 0), (.sign n body, cmdSign, 48), (.measureRead n body, cmdMeasureRead, 0),
      (.debugGrant n sigOk, cmdDebugGrant, 136)] : List (Instr × Nat × Nat)),
      busy e.2.1 → length ≠ e.2.2 → Gives e.1 s fun t => replied t n.val stBadCommand ∧ t.cpus = s.cpus) ∧
    (busy cmdDebugGrant → length = 136 → (checkGrant s cert sigOk).1 = stOk → Gives (.debugGrant n sigOk) s fun t =>
      replied t n.val stOk ∧ t.fl F.DB_GRANT_LEVEL 0 = cert.level.toNat ∧ t.fl F.DB_GRANTMASK_PMASK 0 = cert.pmask.toNat) ∧
    (busy cmdDebugGrant → length = 136 → (checkGrant s cert sigOk).1 ≠ stOk → Gives (.debugGrant n sigOk) s fun t =>
      replied t n.val (checkGrant s cert sigOk).1 ∧ t.fl F.DB_GRANT_LEVEL 0 = s.fl F.DB_GRANT_LEVEL 0) ∧
    (busy cmdLcTransition → s.sup.programming = none →
      (¬ allowed → asks fun t => replied t n.val stDenied ∧ t.sup = s.sup) ∧
      (allowed → mget [] s.caddy.nonces n.val ≠ [] → ¬ signed → asks fun t => replied t n.val stBadSignature ∧ t.sup = s.sup) ∧
      (allowed → mget [] s.caddy.nonces n.val ≠ [] → signed → asks fun t =>
        t.sup.programming = some (target.toNat - 1, some n.val) ∧ (target = 2 → t.sup.newKey = keyHash) ∧ state t = 2 ∧
        mget [] t.caddy.nonces n.val = [] ∧ t.mem = s.mem)) ∧
    (s.sup.programming = some (row.val, some n.val) → state s = 2 → Gives (.lcRowProgrammed row stuck) s fun t =>
      t.sup.programming = none ∧ (t.fl F.LC_STATE_STATE 0 ≠ 5 → state t = 3) ∧
      ∀ b, b < 16 → stuck.getLsbD (16 * row.val + b) = false → t.sup.fuses.getLsbD (16 * row.val + b) = true)

/-- 16 R355 to R358, R361: regions of the Strainers set by message, their violation counts cleared, and countersigned Infuser
programs.
Where the spec is silent it follows the model's choices (log 32). -/
def Obligations.StrainerMessages : Prop :=
  ∀ (s : State) (n : Fin 8) (body : RegionBody) (x : Fin 72) (i : Fin 32) (base : BitVec 16) (size : Nat) (ok : Bool),
    let e := regionIndex body.strainer.val body.region.val
    let fields := fun (x : Nat) => (regionFields x).map (·.1)
    let value := fun (f : Fld × Nat) =>
      slice (match f.2 with | 0 => body.ctl.toNat | 1 => body.range.toNat | _ => body.rate.toNat) f.1.hi f.1.lo
    let csign := fun (t : State) => t.fb F.IF_STAT_CSIGN i.val
    let poured := ∀ f ∈ fields (8 + i.val), mget 0 s.sh (fkey f (4 * i.val)) = 0
    (busyWith s n.val cmdStrainerSet → policyAllows s n.val body.strainer.val = true → ∀ k, e = some k →
      (s.epochOn = true → Gives (.strainerSet n body) s fun t => replied t n.val stOk ∧
        ∀ f ∈ regionFields body.strainer.val, t.shv f.1 k = value f ∧ t.fl f.1 k = s.fl f.1 k) ∧
      (s.epochOn = false → Gives (.strainerSet n body) s fun t => replied t n.val stOk ∧
        ∀ f ∈ regionFields body.strainer.val, t.fl f.1 k = value f)) ∧
    (busyWith s n.val cmdStrainerSet → policyAllows s n.val body.strainer.val = false → e.isSome = true →
      Gives (.strainerSet n body) s fun t => replied t n.val stDenied ∧ t.sh = s.sh) ∧
    (busyWith s n.val cmdStrainerClear → policyAllows s n.val x.val = true → x.val < 5 ∨ 8 ≤ x.val →
      Gives (.strainerClear n x) s fun t => replied t n.val stOk ∧ t.fl F.ST_VSTAT_COUNT x.val = 0 ∧
        t.fl F.ST_VADDR_ADDR x.val = 0) ∧
    (busyWith s n.val cmdCountersign → keysRefused s = false → 0 < size → base.toNat + size ≤ 2 ^ 16 → s.fl F.IF_STAT_STATE i.val = 0 →
      csign s = false → Gives (.countersign n i base size) s fun t => csign t = true ∧ t.fl F.MB_STAT_STATE n.val = 2 ∧
        t.mem = s.mem) ∧
    (busyWith s n.val cmdCountersign → mget [] s.caddy.formerR0 i.val ≠ [] → poured →
      Gives (.countersignComplete n i ok) s fun t => csign t = false ∧
        (ok = true → keysRefused s = false → replied t n.val stOk ∧ t.fb F.IF_STAT_HASHV i.val = true) ∧
        (ok = false ∨ keysRefused s = true → replied t n.val stBadSignature ∧
          t.fb F.IF_STAT_HASHV i.val = s.fb F.IF_STAT_HASHV i.val))

/-! ### Infusers and ports -/

/-- 20 R420, R421: the events of an Infuser, and its own port.
20 R419, R421, R427 to R430: starting and stopping an Infuser, its port groups, doorbells and packets.
Where the spec is silent it follows the model's choices (log 4, 42, 43). -/
def Obligations.InfuserUnits : Prop :=
  (∀ (s : State) (i : Fin 32) (e : Fin 15) (v m : Word) (d : RegNo),
    let p := Proc.infuser i
    let k := s.cpu p
    let x := infOf s i.val
    let kept := fun (t : State) => t.flds = s.flds ∧ t.mem = s.mem ∧ t.cpus = s.cpus
    let sets := fun (cmd : Instr) (e : Nat) => noEvtWait s i → Gives cmd s fun t =>
      (infOf t i.val).events = x.events ||| (1#16 <<< e) ∧ kept t
    sets (.infuserEvent i e) e.val ∧
    (k.wait = .evt d m → m.getLsbD e.val = true → plainWake p s → Gives (.infuserEvent i e) s fun t =>
      (d ≠ 31 → t.g p d = ((x.events ||| (1#16 <<< e.val)) &&& m.truncate 16).zeroExtend 64) ∧
      (t.cpu p).pc = k.pc + 4 ∧ (t.cpu p).wait = .none ∧ (infOf t i.val).events.getLsbD e.val = false ∧ t.mem = s.mem) ∧
    (k.wait = .evt d m → slice m.toNat 47 16 ≠ 0 → plainWake p s → Gives (.evtWaitTimeout i) s fun t =>
      (d ≠ 31 → t.g p d = 0) ∧ (t.cpu p).pc = k.pc + 4 ∧ (t.cpu p).wait = .none ∧ t.fl F.IF_STAT_STATE i.val = 1 ∧
      t.mem = s.mem) ∧
    (Gives (.portSignal i v) s fun t => (∀ e, e < 15 → v.getLsbD e = true → signalled s t (512 + 16 * i.val + e)) ∧
      t.mem = s.mem ∧ t.cpus = s.cpus) ∧
    (Gives (.portTimerStart i v) s fun t => (infOf t i.val).timer = v.toNat ∧ kept t) ∧
    (x.timer ≠ 0 → noEvtWait s i → Gives (.infuserTimerExpiry i) s fun t => (infOf t i.val).timer = 0 ∧
      (infOf t i.val).events = x.events ||| 8 ∧ kept t) ∧
    (Gives (.portRrrel i v) s fun t => (infOf t i.val).rrFill = x.rrFill - min v.toNat x.rrFill ∧
      (infOf t i.val).rrNext = (x.rrNext + min v.toNat x.rrFill) % rrSlots x ∧ kept t)) ∧
  (∀ (s : State) (c : Fin 16) (i : Fin 32) (g : Fin 56) (b : Fin 2) (v : Word) (k : Packet),
    let p := Proc.infuser i
    let q := Requester.core c
    let x := infOf s i.val
    let bit := fun (f : Fld) => bitsOf v f = 1
    let ctl := isRing0 s q = true ∧ openAt s (0xE02010000 + 0x1000 * i.val)
    let state := fun (t : State) => t.fl F.IF_STAT_STATE i.val
    let mayStart := ctl ∧ bit F.IF_CTL_START ∧ ¬ bit F.IF_CTL_STOP ∧ infRuns s i.val = false ∧ s.ready (64 + i.val) = true ∧
      s.fb F.IF_STAT_CSIGN i.val = false
    let starts := fun (safety : Bool) => Gives (.ifCtlStart q i v) s fun t => state t = 1 ∧
      t.fb F.IF_STAT_SAFETY i.val = safety ∧ (t.cpu p).run = .running ∧
      (t.cpu p).pc = 0x1000000000 + BitVec.ofNat 64 (s.fl F.IF_ENTRY_ENTRY i.val) ∧ t.mem = s.mem
    let fields := fun (t : State) => t.fl F.IF_PGRP_OWNER g.val = bitsOf v F.IF_PGRP_OWNER ∧
      t.fl F.IF_PGRP_VALID g.val = bitsOf v F.IF_PGRP_VALID ∧ t.fl F.IF_PGRP_EVT g.val = bitsOf v F.IF_PGRP_EVT
    (mayStart → ¬ bit F.IF_CTL_CLASS → starts false) ∧
    (mayStart → bit F.IF_CTL_CLASS → isMachine s q = true → s.fb F.IF_STAT_HASHV i.val = true →
      entryCountersigned s i.val = true → starts true) ∧
    (mayStart → bit F.IF_CTL_CLASS → isMachine s q = false → Gives (.ifCtlStart q i v) s fun t => state t = state s ∧
      t.cpus = s.cpus) ∧
    (ctl → bit F.IF_CTL_STOP → ¬ bit F.IF_CTL_START → infRuns s i.val = true → s.fb F.IF_STAT_SAFETY i.val = false →
      ((s.cpu p).sb = [] → Gives (.ifCtlStop q i v) s fun t => state t = 0 ∧ (t.cpu p).run = .stopped ∧ t.mem = s.mem) ∧
      ((s.cpu p).sb ≠ [] → Gives (.ifCtlStop q i v) s fun t => state t = state s ∧ (infOf t i.val).stopping = true ∧
        (t.cpu p).run = .stopped ∧ (t.cpu p).sb = (s.cpu p).sb ∧ t.mem = s.mem)) ∧
    (x.stopping = true → (s.cpu p).sb = [] → Gives (.storeDrain p) s fun t => state t = 0 ∧ (infOf t i.val).stopping = false ∧
      t.mem = s.mem) ∧
    (ctl → bit F.IF_CTL_STOP → ¬ bit F.IF_CTL_START → infRuns s i.val = true → s.fb F.IF_STAT_SAFETY i.val = true →
      isMachine s q = false → Gives (.ifCtlStop q i v) s fun t => state t = state s ∧ t.cpus = s.cpus) ∧
    (isRing0 s q = true → openAt s (0xE02000000 + 8 * g.val) → infRuns s (s.fl F.IF_PGRP_OWNER g.val) = false →
      infRuns s (bitsOf v F.IF_PGRP_OWNER) = false → Gives (.ifPgrpWrite q g v) s fun t => fields t ∧ t.mem = s.mem) ∧
    (openAt s (0xE02010020 + 0x1000 * i.val) → bit F.IF_DOORBELL_RING → noEvtWait s i → Gives (.ifDoorbell q i v) s fun t =>
      (infOf t i.val).events = x.events ||| (1#16 <<< 12) ∧ t.cpus = s.cpus ∧ t.mem = s.mem) ∧
    (noEvtWait s i → (if b = 0 then x.b0 else x.b1).held = some k → x.order.head? = some (b == 1) → Gives (.packetBuilt i b) s fun t =>
      (if b = 0 then (infOf t i.val).b0 else (infOf t i.val).b1).held = none ∧
      (infOf t i.val).events = x.events ||| (1#16 <<< 2) ∧ t.cpus = s.cpus ∧ t.mem = s.mem))

/-- 22 R449 to R451: the registers and the frames of a port group.
22 R459, R461, R462, R464 to R466: gate lists, CAN slots and bus-off, and the interrupt lines of the ports.
Where the spec is silent it follows the model's choices (log 17, 18, 119). -/
def Obligations.PortsAndNetworks : Prop :=
  (∀ (s : State) (g : Fin 56) (v : Word) (start : BitVec 32) (node : Byte) (bytes : List Byte) (f : RxFrame) (fs : List RxFrame) (y : TxFrame)
    (ys : List TxFrame),
    let p := portOf s g.val
    let has := fun (r : Nat) => groupHas g.val r = true ∧ ∃ u, portGate s g.val = .ok () u
    let becomes := fun (cmd : Instr) (p' : Port) => Gives cmd s fun t => portOf t g.val = p' ∧ t.mem = s.mem ∧
      (∀ h, h ≠ g.val → portOf t h = portOf s h) ∧ ((8192 < txUsed p → 8192 < txUsed p') → t.flds = s.flds)
    let appended := p.openTx ++ natBytes v.toNat 8
    let len := p.txlen.toNat % 2 ^ 16
    let queued := fun (bytes : List Byte) => { p with openTx := [], tx := p.tx ++ [⟨p.txlen.toNat / 2 ^ 16 % 256, p.txlen.getLsbD 24, bytes⟩] }
    let on := g.val < 40 ∧ p.ctrl.getLsbD 0 = true ∧ portClock s g.val = true
    let fits := p.rx.length < 64 ∧ rxUsed p + bytes.length ≤ rxCap g.val
    let hears := portHears s g.val = true ∧ g.val < 24
    let tagged := if 8 ≤ g.val ∧ g.val < 16 then t1sTag p node.toNat else some 0
    let received := fun (p' : Port) => Gives (.frameReceived g start node bytes false) s fun t => portOf t g.val = p' ∧
      t.mem = s.mem
    let sends := fun (failed : Bool) (p' : State → Port) => Gives (.frameTransmitted g failed) s fun t =>
      portOf t g.val = p' t ∧ t.mem = s.mem
    let stamped := if y.ts then p.stamps ++ [s.fl F.EP_NOW_VALUE 0] else p.stamps
    let left := fun (rest : List TxFrame) (t : State) =>
      { p with tx := rest, stamps := stamped, deRise := (portOf t g.val).deRise, deFall := (portOf t g.val).deFall }
    let alive := isCan g.val = true → s.fl F.NW_CANSTAT_ESTATE (g.val - 16) ≠ 2
    (has 8 → p.rx = f :: fs → becomes (.portRxstatRead g) { p with rx := fs, cur := f.bytes }) ∧
    (has 9 → becomes (.portRxfifoRead g) { p with cur := p.cur.drop 8 }) ∧
    (has 2 → becomes (.portStatRead g) { p with rxovf := false, txovf := false, err := false, errs := 0 }) ∧
    (has 13 → becomes (.portTxtsRead g) { p with stamps := p.stamps.tail }) ∧
    (has 10 → becomes (.portTxlenWrite g v) { p with txlen := v }) ∧
    (has 0 → becomes (.portCtrlWrite g v) { p with ctrl := v }) ∧
    (has 11 → 16384 < txUsed p + 8 → becomes (.portTxfifoWrite g v) { p with openTx := [], txovf := true }) ∧
    (has 11 → txUsed p + 8 ≤ 16384 → (len = 0 ∨ appended.length < len) →
      becomes (.portTxfifoWrite g v) { p with openTx := appended }) ∧
    (has 11 → txUsed p + 8 ≤ 16384 → len ≠ 0 → len ≤ appended.length →
      becomes (.portTxfifoWrite g v) (queued (appended.take len))) ∧
    (has 12 → p.openTx ≠ [] → v.toNat % 8 = 0 → becomes (.portTxend g v) (queued p.openTx)) ∧
    (has 12 → p.openTx ≠ [] → v.toNat % 8 ≠ 0 →
      becomes (.portTxend g v) (queued (p.openTx.take (p.openTx.length - (8 - v.toNat % 8))))) ∧
    (hears → frameForm p g.val bytes = true → ∀ tag, tagged = some tag →
      (fits → received { p with rx := p.rx ++ [⟨tag % 256, false, frameStart s start % 2 ^ 32, bytes⟩] }) ∧
      (¬ fits → received { p with rxovf := true })) ∧
    (hears → frameForm p g.val bytes = false ∨ tagged = none → received p) ∧
    (on → alive → txClean p g.val = p →
      (isCan g.val = true → ∀ n ns, p.slots = n :: ns → sends false fun _ => { p with slots := ns }) ∧
      (p.slots = [] → p.tx = y :: ys → txBurst p g.val = 1 →
        8 ≤ g.val ∨ classGated s g.val (y.tag % 8) (frameNs p g.val y.bytes.length) = true → sends false (left ys)) ∧
      (isCan g.val = true → p.slots ≠ [] ∨ p.tx ≠ [] → s.fl F.NW_CANSTAT_TEC (g.val - 16) < 248 → sends true (fun _ => p) ∧
        Gives (.frameTransmitted g true) s fun t =>
          t.fl F.NW_CANSTAT_TEC (g.val - 16) = s.fl F.NW_CANSTAT_TEC (g.val - 16) + 8) ∧
      (isCan g.val = true → p.slots ≠ [] ∨ p.tx ≠ [] → 248 ≤ s.fl F.NW_CANSTAT_TEC (g.val - 16) →
        Gives (.frameTransmitted g true) s fun t => t.fl F.NW_CANSTAT_ESTATE (g.val - 16) = 2))) ∧
  (∀ (s : State) (n c : Fin 8) (g : Fin 56) (up : Bool) (u : Fin 2),
    let p := portOf s (16 + c.val)
    let raises := fun (cmd : Instr) (src : Nat) => Gives cmd s fun t => signalled s t src ∧ t.mem = s.mem ∧ t.cpus = s.cpus
    ((mget {} s.gates n.val).fresh = true → s.fl F.NW_GCLBASE_BASE n.val ≤ s.fl F.EP_NOW_VALUE 0 → Gives (.gateCycleStart n) s fun t =>
      mget {} t.gates n.val = ⟨gateList s n.val, s.fl F.NW_GCLBASE_BASE n.val, false⟩ ∧ t.flds = s.flds) ∧
    (s.fb F.NW_CANSLOT_VALID (8 * c.val + n.val) = true → s.epochOn = true → p.queued.getLsbD n.val = false →
      let frame := slotFrame s (8 * c.val + n.val)
      let delay := s.fl F.NW_CANSLOT_OFFSET (8 * c.val + n.val) * 1000
      let from_ := tickAt s (s.fl F.EP_EPOCH_VALUE 0) + delay
      delay < periodNs s → from_ < 2 ^ 64 → Gives (.canSlotQueue c n) s fun t => from_ ≤ t.fl F.EP_NOW_VALUE 0 ∧
        portOf t (16 + c.val) = { p with slots := if canForm p frame = true then p.slots ++ [(n.val, frame)] else p.slots,
                                         queued := p.queued ||| (1#8 <<< n.val) } ∧ t.mem = s.mem) ∧
    (s.fl F.NW_CANSTAT_ESTATE c.val = 2 → p.cfg.getLsbD 8 = true → Gives (.canBusOffRecovery c) s fun t =>
      t.fl F.NW_CANSTAT_ESTATE c.val = 0 ∧ t.fl F.NW_CANSTAT_TEC c.val = 0 ∧ t.fl F.NW_CANSTAT_REC c.val = 0 ∧
      t.mem = s.mem) ∧
    ((portOf s g.val).up ≠ up → Gives (.portLinkChange g up) s fun t => (portOf t g.val).up = up ∧
      (g.val < 40 → signalled s t (384 + g.val)) ∧ t.mem = s.mem) ∧
    raises (.pcieMsi u) (442 + u.val) ∧ raises (.pcieLinkChange u) (440 + u.val)) ∧
  (∀ (s : State) (u : Fin 2) (ep : Fin 8) (bulk : Fin 9) (speed : UsbSpeed) (addr : BitVec 36) (bytes : List Byte) (len : Nat),
    let x := usbOf s u.val
    let sets := fun (e : UsbEvent) (y : Usb) => Gives (.usbBusEvent u e) s fun t =>
      signalled s t (448 + u.val) ∧ usbOf t u.val = y ∧ t.mem = s.mem ∧ t.cpus = s.cpus
    let moves := fun (e : UsbEvent) (m : State) => usbHas s u.val ep.val = true → usbWaits s u.val e = none →
      Gives (.usbBusEvent u e) s fun t => t.mem = m.mem ∧ t.caches = m.caches ∧ t.cpus = m.cpus ∧ usbOf t u.val = x
    sets (.reset speed) ⟨some speed, none⟩ ∧ sets (.configure bulk) { x with bulk := some bulk } ∧
    sets .deconfigure { x with bulk := none } ∧ sets .other x ∧
    (usbHas s u.val ep.val = false → sets (.bulkOut ep addr bytes) x ∧ sets (.bulkIn ep addr len) x) ∧
    moves (.bulkOut ep addr bytes) (dmaWrite s 6 none addr.toNat bytes) ∧
    moves (.bulkIn ep addr len) (dmaRead s 6 none addr.toNat len).2)

/-! ### The interrupt controller's registers, the queues' registers, the caches' registers -/

/-- 08 R188 to R190: sources of the interrupt controller, their configuration and the software trigger.
13 R294 to R297: the configuration of the send and receive queues.
00 R8, 01 R31, 14 R309: a write of a register that has no row of its own acts by its access codes; the fabric may not
write a block marked Never.
Where the spec is silent it follows the model's choices (log 4). -/
def Obligations.UnitRegisters : Prop :=
  (∀ (s : State) (q : Requester) (n : Fin 1024) (level : Bool) (v : Word),
    let i := n.val
    let pending := fun (t : State) => t.fb F.IC_SRC_PENDING i
    let kept := fun (t : State) => t.mem = s.mem ∧ t.cpus = s.cpus
    let edge := s.fb F.IC_SRC_EDGE i
    let enabled := s.fl F.IC_SRC_PRIO i ≠ 0
    let was := s.fb F.IC_SRC_LINE i
    let reaches := openAt s (0xE00201000 + 8 * i)
    let config := [F.IC_SRC_PRIO, F.IC_SRC_EDGE, F.IC_SRC_TARGETS]
    (Gives (.icSourceChange n level) s fun t => t.fb F.IC_SRC_LINE i = level ∧ kept t ∧
      (level = true → was = false → enabled → pending t = true) ∧
      (level = false → edge = false → pending t = false) ∧
      (level = false → edge = true → pending t = pending s)) ∧
    (reaches → s.fb F.IC_SRC_SECURE i = false → Gives (.icSrcWrite q n v) s fun t =>
      (∀ f ∈ config, t.fl f i = bitsOf v f) ∧ (bitsOf v F.IC_SRC_PRIO = 0 → pending t = false) ∧ kept t) ∧
    (reaches → s.fb F.IC_SRC_SECURE i = true → Gives (.icSrcWrite q n v) s fun t => (∀ f ∈ config, t.fl f i = s.fl f i) ∧
      pending t = pending s ∧ kept t) ∧
    (openAt s 0xE00200010 → Gives (.icSwtrig q v) s fun t => signalled s t (bitsOf v F.IC_SWTRIG_SOURCE) ∧ kept t)) ∧
  (∀ (s : State) (q : Requester) (n : Fin 16) (v : Word),
    let i := n.val
    let sq := [F.NG_SQCFG_EN, F.NG_SQCFG_PART, F.NG_SQCFG_MINRING, F.NG_SQCFG_DEPTH, F.NG_SQCFG_IRQ, F.NG_SQCFG_RQ,
      F.NG_SQCFG_MGMT]
    let rq := [F.NG_RQCFG_EN, F.NG_RQCFG_PART, F.NG_RQCFG_MINRING, F.NG_RQCFG_STRIDE, F.NG_RQCFG_SLOTS, F.NG_RQCFG_IRQ]
    let machine := isMachine s q = true
    let sqOpen := openAt s (0xE01014000 + 0x10 * i)
    let rqOpen := openAt s (0xE01014100 + 0x10 * i)
    (sqOpen → machine → Gives (.ngSqcfgWrite q n v) s fun t => (∀ f ∈ sq, t.fl f i = bitsOf v f) ∧
      (bitsOf v F.NG_SQCFG_EN = 0 → mget [] t.router.sq i = []) ∧
      (bitsOf v F.NG_SQCFG_EN = 1 → s.fb F.NG_SQCFG_EN i = false → mget 0 t.router.sent i = 0) ∧ t.mem = s.mem) ∧
    (sqOpen → isMachine s q = false → Gives (.ngSqcfgWrite q n v) s fun t => (∀ f ∈ sq, t.fl f i = s.fl f i) ∧
      t.router = s.router) ∧
    (rqOpen → machine → Gives (.ngRqcfgWrite q n v) s fun t => (∀ f ∈ rq, t.fl f i = bitsOf v f) ∧
      (bitsOf v F.NG_RQCFG_EN = 1 → mget {} t.router.rq i = {}) ∧
      (bitsOf v F.NG_RQCFG_OVERRUN = 1 → t.fb F.NG_RQCFG_OVERRUN i = false) ∧ t.mem = s.mem) ∧
    (rqOpen → isMachine s q = false → Gives (.ngRqcfgWrite q n v) s fun t => (∀ f ∈ rq, t.fl f i = s.fl f i) ∧
      t.router = s.router)) ∧
  (∀ (s : State) (c : Fin 16) (i : Fin 32) (j : Nat) (v : Word) (l : Fin 34) (src : BitVec 18) (cmd : BitVec 4) (part : BitVec 6)
    (off : BitVec 36) (size : Fin 2),
    let param := .registerWrite (.core c) (BitVec.ofNat 36 (0xE02010100 + 0x1000 * i.val + 8 * j)) 1 v
    let opens := openAt s (0xE02010100 + 0x1000 * i.val + 8 * j) ∧ j < 32
    let e := 32 * i.val + j
    let ring0 := isRing0 s (.core c)
    (Gives (.registerWrite (.core c) 0xE00000008 1 v) s fun t =>
      (∀ f ∈ [F.KT_RSTCAUSE_POR, F.KT_RSTCAUSE_BOR, F.KT_RSTCAUSE_SWR, F.KT_RSTCAUSE_WDR, F.KT_RSTCAUSE_TFR, F.KT_RSTCAUSE_DBR],
        t.fb f 0 = (s.fb f 0 && !v.getLsbD f.lo)) ∧
      (∀ f ∈ [F.KT_RSTCAUSE_LAST, F.KT_RSTCAUSE_COUNT, F.KT_RSTCAUSE_TFR_CORE], t.fl f 0 = s.fl f 0) ∧ t.mem = s.mem) ∧
    (opens → ring0 = true → s.epochOn = true → Gives param s fun t => t.shv F.IF_PARAM_DATA e = v.toNat ∧
      t.fl F.IF_PARAM_DATA e = s.fl F.IF_PARAM_DATA e) ∧
    (opens → ring0 = true → s.epochOn = false → Gives param s fun t => t.fl F.IF_PARAM_DATA e = v.toNat) ∧
    (opens → ring0 = false → Gives param s fun t => t.fl F.IF_PARAM_DATA e = s.fl F.IF_PARAM_DATA e ∧ t.sh = s.sh) ∧
    (target s off.toNat = .reg → neverFabric off.toNat = true → s.dregs.queue.length < 16 →
      Gives (.registerWrite (.fabric l src cmd part) off size v) s fun t => t.flds = s.flds ∧ t.sh = s.sh ∧ t.mem = s.mem ∧
        ∃ r, t.dregs.queue = s.dregs.queue ++ [r] ∧ r.cls = 1 ∧ r.code = 0x91))

/-- 11 R235 to R238: the registers of the L3 and of the caches' enables. -/
def Obligations.CacheRegisters : Prop :=
  ∀ (s : State) (q : Requester) (c : Fin 16) (n : Fin 4) (x : Fin 8) (p : Fin 64) (v : Word),
    let machine := isMachine s q = true
    let kept := fun (t : State) => t.mem = s.mem ∧ t.cpus = s.cpus
    let bit := fun (f : Fld) => bitsOf v f = 1
    let dcen := fun (t : State) => t.fb F.L3_CCTL_DCEN c.val
    let icen := fun (t : State) => t.fb F.L3_CCTL_ICEN c.val
    let noNewI := bit F.L3_CCTL_ICEN → icen s = true
    let l2 := fun (t : State) => t.fb F.L3_L2CTL_EN n.val
    let l3 := fun (t : State) => t.fb F.L3_SLCTL_EN x.val
    (machine → Gives (.l3WaymaskWrite q p v) s fun t => t.fl F.L3_WAYMASK_MASK p.val = v.toNat % 65536 ∧ kept t) ∧
    (machine → Gives (.l3LockWrite q v) s fun t => t.fl F.L3_LOCK_LOCK 0 = v.toNat % 65536 ∧ kept t) ∧
    (isMachine s q = false → (Gives (.l3WaymaskWrite q p v) s fun t => t.fl F.L3_WAYMASK_MASK p.val = s.fl F.L3_WAYMASK_MASK p.val) ∧
      Gives (.l3LockWrite q v) s fun t => t.fl F.L3_LOCK_LOCK 0 = s.fl F.L3_LOCK_LOCK 0) ∧
    (machine → bit F.L3_CCTL_DCEN → dcen s = false → s.fb F.L3_CCTL_DSWEPT c.val = true →
      s.fb F.L3_L2CTL_EN (clusterOf c).val = true → noNewI → Gives (.l3CctlEnable q c v) s fun t => dcen t = true ∧ kept t) ∧
    (machine → bit F.L3_CCTL_DCEN → dcen s = false → s.fb F.L3_CCTL_DSWEPT c.val = false ∨
      s.fb F.L3_L2CTL_EN (clusterOf c).val = false → Gives (.l3CctlEnable q c v) s fun t => dcen t = false ∧ icen t = icen s) ∧
    (machine → ¬ bit F.L3_CCTL_DCEN → dcen s = true → noNewI → Gives (.l3CctlEnable q c v) s fun t => dcen t = false ∧
      s.mem = t.mem ∧ t.fb F.L3_CCTL_DSWEPT c.val = false) ∧
    (machine → Gives (.icinv q c) s fun t => t.fb F.L3_CCTL_ISWEPT c.val = true ∧ dcen t = dcen s ∧ icen t = icen s ∧ kept t) ∧
    (machine → bit F.L3_L2CTL_EN → l2 s = false → Gives (.l3L2ctlWrite q n v) s fun t =>
      l2 t = s.fb F.L3_L2CTL_SWEPT n.val ∧ kept t) ∧
    (machine → ¬ bit F.L3_L2CTL_EN → l2 s = true → Gives (.l3L2ctlWrite q n v) s fun t => l2 t = anyL1On s n ∧ kept t) ∧
    (machine → bit F.L3_SLCTL_EN → l3 s = false → Gives (.l3SlctlWrite q x v) s fun t =>
      l3 t = s.fb F.L3_SLCTL_SWEPT x.val ∧ kept t) ∧
    (machine → ¬ bit F.L3_SLCTL_EN → l3 s = true → Gives (.l3SlctlWrite q x v) s fun t => l3 t = false ∧
      t.fb F.L3_SLCTL_SWEPT x.val = false ∧ kept t)

/-! ### Links and the router -/

/-- 12 R253 to R263, R265, 15 R316: a link or mirror port from OFF to ACTIVE, and what makes it train again.
Where the spec is silent it follows the model's choices (log 23). -/
def Obligations.LinkTraining : Prop :=
  ∀ (s : State) (q : Requester) (w : Fin 32) (v : Word) (l : Fin 34) (delay : BitVec 20) (skew : Nat) (wrong : Bool)
    (h : Hello) (o : AuthOutcome),
    let n := l.val
    let st := lstate s n
    let x := lk s n
    let now := fun (cmd : Instr) (m : Nat) => Gives cmd s fun t => lstate t n = m ∧ t.mem = s.mem
    let few := 32 ≤ n ∨ (recent s 1000000000 x.retrainTimes).length + 1 < max 1 (s.fl F.NG_LINKCFG_QUAR_THR n)
    let retrains := fun (cmd : Instr) =>
      (few → Gives cmd s fun t => lstate t n = 6 ∧ (lk t n).symbols = false ∧ (lk t n).locked = false ∧ t.mem = s.mem) ∧
      (¬ few → now cmd 8)
    let trains := training s n = true
    let cfg := openAt s (0xE01001000 + 0x40 * w.val)
    let ver := min 0x31 h.verHi.toNat
    let lowest := max (verLow x.verlim) h.verLo.toNat
    let clocked := linkClock s n = true
    let leavesAuth := st = 4 ∧ mayLeaveAuth s = true
    let authenticates := leavesAuth ∧ s.clk.caddyPll = true ∧ caddyTakes s n = true
    let gcm := bitAt (h.cap.toNat &&& capsOf ver) 3 = true
    let good := certSigned s o = true ∧ o.transcript = true ∧ (s.sup.rtc.isSome = true → o.inValidity = true) ∧ (32 ≤ n → o.mirrorRole = true)
    (cfg → bitsOf v F.NG_LINKCFG_EN = 1 → lstate s w.val = 0 ∨ lstate s w.val = 9 → Gives (.ngLinkcfgWrite q w v) s fun t =>
      lstate t w.val = 1 ∧ (lk t w.val).session = false ∧ (lk t w.val).symbols = false ∧
      t.fl F.NG_LINKCFG_CREDIT_TMO w.val = min 10000 (max 10 (bitsOf v F.NG_LINKCFG_CREDIT_TMO))) ∧
    (cfg → bitsOf v F.NG_LINKCFG_EN = 0 → lstate s w.val ≠ 0 → Gives (.ngLinkcfgWrite q w v) s fun t =>
      lstate t w.val = 0 ∧ (lk t w.val).quar = (lk s w.val).quar ∧
      (s.fb F.NG_LINKSTAT_BONDED w.val = false → lk t w.val = stopped (lk s w.val)) ∧
      (s.fb F.NG_LINKSTAT_BONDED w.val = true → (lk t w.val).left = true)) ∧
    (linkEnabled s n = true → clocked → trains → Gives (.trainingSymbolsDetected l) s fun t => (lk t n).symbols = true ∧
      lstate t n = st ∧ t.flds = s.flds) ∧
    (linkEnabled s n = true → clocked → st = 2 ∨ st = 9 → Gives (.trainingSymbolsDetected l) s fun t => (lk t n).symbols = true ∧
      lstate t n = 1) ∧
    (trains → x.locked = false → now (.linkAbsent l) 2) ∧
    (trains → x.symbols = true → clocked →
      (n < 32 → delay.toNat ≤ 100000 → Gives (.codewordLock l delay skew wrong) s fun t => lk t n = { x with locked := true, skew := skew } ∧
        lstate t n = st ∧ t.fl F.NG_LINKSTAT_DELAY n = delay.toNat) ∧
      (n < 32 → 100000 < delay.toNat → Gives (.codewordLock l delay skew wrong) s fun t => lstate t n = 9 ∧
        t.fl F.NG_LINKSTAT_REASON n = 10) ∧
      (32 ≤ n → delay.toNat ≤ 2000 → Gives (.codewordLock l delay skew wrong) s fun t =>
        lstate t n = (if wrong then 9 else st) ∧ t.fl F.MR_PORTSTAT_DELAY (n - 32) = delay.toNat)) ∧
    (trains → x.locked = true → retrains (.helloTimeout l)) ∧
    (trains → x.locked = true → n < 32 →
      (ver < lowest → Gives (.linkHello l h) s fun t => lstate t n = 9 ∧ t.fl F.NG_LINKSTAT_REASON n = 1) ∧
      (lowest ≤ ver → 0x30 ≤ ver → Gives (.linkHello l h) s fun t => (gcm → lstate t n = 4) ∧
        (¬ gcm → lstate t n = (if x.quar = 0 then 5 else 8)) ∧ t.fl F.NG_LINKSTAT_VERSION n = ver ∧
        t.fl F.NG_LINKSTAT_CAP n = h.cap.toNat &&& capsOf ver ∧ (lk t n).serial = h.serial) ∧
      (lowest ≤ ver → ver < 0x30 →
        (bitAt (s.fl F.NG_POLICY_LEGACY_TRUST 0) n = true → now (.linkHello l h) (if x.quar = 0 then 5 else 8)) ∧
        (bitAt (s.fl F.NG_POLICY_LEGACY_TRUST 0) n = false → Gives (.linkHello l h) s fun t => lstate t n = 8 ∧
          (lk t n).quar = 3 ∧ t.fl F.NG_LINKSTAT_REASON n = 3))) ∧
    (authenticates → good → Gives (.linkAuthentication l o) s fun t => lstate t n = 4 ∧ (lk t n).session = true ∧
      (lk t n).txCount = 0 ∧ (lk t n).rxCount = 0 ∧ (lk t n).cert = some ⟨o.serial, o.manager, o.mirrorRole⟩) ∧
    (authenticates → certSigned s o = false ∨ o.transcript = false → now (.linkAuthentication l o) 9) ∧
    (leavesAuth → x.session = true →
      (x.quar = 0 → n < 32 ∨ x.ver = s.fl F.MR_VER_AGREED 0 → now (.keyconfirm l) 5) ∧
      (x.quar = 0 → 32 ≤ n → x.ver ≠ s.fl F.MR_VER_AGREED 0 →
        (lstate s (65 - n) = 5 ∨ lstate s (65 - n) = 7 → now (.keyconfirm l) 9) ∧
        (lstate s (65 - n) ≠ 5 → lstate s (65 - n) ≠ 7 → Gives (.keyconfirm l) s fun t => lstate t n = 5 ∧
          t.fl F.MR_VER_AGREED 0 = x.ver % 2 ^ F.MR_VER_AGREED.width)) ∧
      (x.quar ≠ 0 → now (.keyconfirm l) 8)) ∧
    (lstate s w.val = 4 → mayLeaveAuth s = true → (lk s w.val).bondOk = true → bondFits s w.val = true → (lk s w.val).quar = 0 →
      (lk s (33 + (lk s w.val).bond)).session = true → bondMates s w.val ≠ [] → (lk s w.val).skew ≤ 20 →
      Gives (.bondMemberJoin w) s fun t => lstate t w.val = 5 ∧ t.fb F.NG_LINKSTAT_BONDED w.val = true) ∧
    (n = w.val → s.fb F.NG_LINKSTAT_BONDED w.val = true → retrains (.bondMemberLeave w)) ∧
    (trained s n = true → retrains (.codewordLockLoss l)) ∧
    (trained s n = false → hasLock s n = true → now (.codewordLockLoss l) (if st = 6 ∨ st = 8 then 6 else 1))

/-- 12 R245, R246, R261, R262, R264: flits, credit, replay, stalls and the change of keys on a link.
12 R265, R268: NG_LINKCTL.
Where the spec is silent it follows the model's choices (log 90). -/
def Obligations.LinkTraffic : Prop :=
  (∀ (s : State) (l : Fin 34) (f : Flit) (seq : BitVec 12),
    let n := l.val
    let home := homeOf s n
    let x := lk s home
    let own := lk s n
    let shared := lk s (sessHome s n)
    let c := f.credit.toNat
    let up := trained s n = true
    let few := 32 ≤ n ∨ (recent s 1000000000 own.retrainTimes).length + 1 < max 1 (s.fl F.NG_LINKCFG_QUAR_THR n)
    let retrains := fun (cmd : Instr) (session : Bool) => few → Gives cmd s fun t => lstate t n = 6 ∧
      (lk t n).locked = false ∧ (lk t n).session = (shared.session && session) ∧ t.mem = s.mem
    let credited := fun (t : State) => (lk t home).credit = x.credit + (c - x.debt) ∧ (lk t home).replay = x.replay - c ∧
      (lstate s n = 7 → c ≠ 0 → lstate t n = 5) ∧ t.mem = s.mem
    (up → f.good = true → f.ftype = .data → f.seq.toNat = x.rxSeq → x.ahead = [] → x.unsent = 0 → Gives (.flitReceive l f) s fun t =>
      (lk t home).rxSeq = (x.rxSeq + 1) % 4096 ∧ (lk t home).held = x.held + 1 ∧ (lk t home).asked = none ∧ credited t) ∧
    (up → f.good = true → f.ftype = .data → f.seq.toNat ≠ x.rxSeq →
      (earlyWindow s n ≤ flitLead x f.seq.toNat → Gives (.flitReceive l f) s fun t =>
        lk t home = { x with asked := some x.rxSeq } ∧ lstate t n = lstate s n) ∧
      (flitLead x f.seq.toNat < earlyWindow s n → x.unsent = 0 → Gives (.flitReceive l f) s fun t =>
        (lk t home).rxSeq = x.rxSeq ∧ (lk t home).held = x.held ∧ f.seq.toNat ∈ (lk t home).ahead ∧ credited t)) ∧
    (up → f.good = true → f.ftype ≠ .data → x.unsent = 0 → Gives (.flitReceive l f) s fun t => (lk t home).rxSeq = x.rxSeq ∧
      (lk t home).held = x.held ∧ credited t) ∧
    (up → f.good = false → home = n → own.errTimes = [] → n < 32 → 2 ≤ s.fl F.NG_LINKCFG_RETRAIN_THR n →
      Gives (.flitReceive l f) s fun t => (lk t n).asked = some own.rxSeq ∧ (lk t n).rxSeq = own.rxSeq ∧
        lstate t n = lstate s n) ∧
    (up → 0 < x.replay → Gives (.replayRequest l seq) s fun t => lk t home = { x with resend := some seq.toNat } ∧
      t.flds = s.flds) ∧
    (lstate s n = 5 → x.credit = 0 → Gives (.creditTimeout l) s fun t => lstate t n = 7 ∧ t.links = s.links) ∧
    (lstate s n = 7 → retrains (.stallRetrain l) true) ∧
    (up → shared.session = true → caddyReady s = true → rekeyDue s shared = true →
      (n < 32 → linkCap s n 9 = true → Gives (.rekey l) s fun t =>
        (∃ keys, lk t (sessHome s n) = { shared with rekeying := true, nextKeys := keys }) ∧ t.flds = s.flds) ∧
      (32 ≤ n ∨ linkCap s n 9 = false → retrains (.rekey l) false)) ∧
    (up → shared.rekeying = true → Gives (.rekeyMarker l) s fun t => t.flds = s.flds ∧
      lk t (sessHome s n) =
        { shared with rekeying := false, txCount := 0, rxCount := 0, since := fabNow s, keys := shared.nextKeys }) ∧
    (up → shared.session = true → carried shared (2 ^ 44) = true → retrains (.rekeyFail l) false)) ∧
  (∀ (s : State) (c : Fin 16) (l : Fin 32) (v : Word),
    let n := l.val
    let q := Requester.core c
    let x := lk s n
    let bit := fun (f : Fld) => bitsOf v f = 1
    let only := fun (f : Fld) => ∀ g ∈ [F.NG_LINKCTL_RETRAIN, F.NG_LINKCTL_QUARANTINE, F.NG_LINKCTL_RELEASE, F.NG_LINKCTL_CLRERR],
      bit g ↔ g = f
    let may := isRing0 s q = true ∧ openAt s (0xE01001018 + 0x40 * n)
    let keyed := bitsOf v F.NG_LINKCTL_KEY = 0x5155
    let counts := [F.NG_LINKERR_CORRECTED, F.NG_LINKERR_UNCORR, F.NG_LINKERR_RETRAINS, F.NG_LINKERR_TAGFAIL, F.NG_LINKERR_DENIED]
    let few := (recent s 1000000000 x.retrainTimes).length + 1 < max 1 (s.fl F.NG_LINKCFG_QUAR_THR n)
    (may → only F.NG_LINKCTL_RETRAIN → lstate s n ≠ 0 → lstate s n ≠ 9 → few → Gives (.linkctlRetrain q l v) s fun t =>
      lstate t n = 6 ∧ (lk t n).locked = false ∧ t.mem = s.mem) ∧
    (may → only F.NG_LINKCTL_QUARANTINE → keyed → x.quar ≠ 3 → lstate s n = 5 ∨ lstate s n = 7 → Gives (.linkctlQuarantine q l v) s fun t =>
      lstate t n = 8 ∧ t.fl F.NG_LINKSTAT_REASON n = 7 ∧ (lk t n).quar = 7) ∧
    (may → only F.NG_LINKCTL_QUARANTINE → ¬ keyed → Gives (.linkctlQuarantine q l v) s fun t => lstate t n = lstate s n ∧
      t.links = s.links) ∧
    (may → only F.NG_LINKCTL_RELEASE → keyed → x.quar = 7 → lstate s n = 8 → Gives (.linkctlRelease q l v) s fun t =>
      lstate t n = (if x.untrained = true then 6 else 5) ∧ (lk t n).quar = 0) ∧
    (may → only F.NG_LINKCTL_RELEASE → keyed → x.quar = 3 → bitAt (s.fl F.NG_POLICY_LEGACY_TRUST 0) n = false →
      Gives (.linkctlRelease q l v) s fun t => lstate t n = lstate s n ∧ (lk t n).quar = 3) ∧
    (may → only F.NG_LINKCTL_CLRERR → Gives (.linkctlClrerr q l v) s fun t => (∀ f ∈ counts, t.fl f n = 0) ∧
      t.links = s.links ∧ lstate t n = lstate s n))

/-- 12 R247, R248, R256, R269, R272: packets that cross the router, and those that it gives up.
Where the spec is silent it follows the model's choices (log 24, 25). -/
def Obligations.RouterPackets : Prop :=
  ∀ (s : State) (l : Fin 32) (m : Fin 34) (k : Packet) (p remain : Nat),
    let n := l.val
    let x := lk s n
    let s1 := counted s n k
    let a := arrived s n k
    let tmo := 1000 * max 1 (s.fl F.NG_POLICY_LEGACY_TMO 0)
    let old := fun (e : QPkt) => decide (e.since + tmo ≤ fabNow s)
    (trained s n = true → lstate s n ≠ 8 → reversePath s1 n a.src.toNat = true → k.cmd.toNat ≠ pMirror → k.path = false →
      routePkt s1 a = .out p remain → lacks s1 p a = none → tooLate s1 p a remain 90 = false →
      Gives (.packetForward l k) s fun t =>
        outQ t p = outQ s p ++ [⟨leaveHeader s1 p true a, remain, fabNow s, true, none⟩] ∧ t.mem = s.mem) ∧
    (trained s n = true → lstate s n ≠ 8 → s.fb F.NG_LINKCFG_RPF n = false → k.cmd.toNat = pMirror →
      Gives (.packetForward l k) s fun t => t.router = s.router ∧ t.mem = s.mem) ∧
    (trained s m.val = true → (lk s (sessHome s m.val)).session = true →
      (Gives (.packetTailArrival m k true) s fun t => t.router = s.router ∧ t.flds = s.flds) ∧
      (let copy := fun e : QPkt => isCopy k e.viaLink e.k = true
       ∀ p es e fs, p < 43 → outQ s p = es ++ e :: fs → copy e → (∀ f ∈ fs, ¬ copy f) → (∀ p', p' < p → ∀ f ∈ outQ s p', ¬ copy f) →
        Gives (.packetTailArrival m k false) s fun t => outQ t p = es ++ { e with k := invertTrailer e.k } :: fs ∧
          (∀ p', p' ≠ p → outQ t p' = outQ s p') ∧ t.mem = s.mem)) ∧
    (linkVer s n ≠ 0 → linkCap s n 0 = false → (∀ e ∈ outQ s n, old e = true → answered e.k = false) →
      Gives (.legacyTimeout l) s fun t => outQ t n = (outQ s n).filter fun e => !old e) ∧
    (trained s n = false → lstate s n ≠ 0 → Gives (.linkFailureTimeout l) s fun t => (lk t n).sent = [] ∧
      (lk t n).replay = 0 ∧ (outQ s n = [] → x.sent = [] → outQ t n = []))

/-! ### Packets at their destination, and packets that leave -/

/-- 13 R278, R279, R289 to R293, R296, 15 R331: requests from a link, admitted by its windows, performed and answered; or
refused.
Where the spec is silent it follows the model's choices (log 46). -/
def Obligations.FabricRequests : Prop :=
  ∀ (s s3 s4 : State) (l : Fin 34) (k : Packet) (ty part : Nat) (bytes : List Byte) (old code : Nat),
    let a := arrived s l.val k
    let s2 := taking s l k
    let o : Origin := ⟨1, some part, .fabric l a.src a.cmd (BitVec.ofNat 6 part), ty⟩
    let comes := fun (cmd : Nat) => Comes s l k cmd ∧ subFault a = false ∧ s2.router.waiting = []
    let short := a.payload.length ≤ 4096
    let access := accessFault s2 a (.fabric l a.src a.cmd a.part) = none
    let admits := admitPacket s2 l.val a = (.ok ty part, s3)
    let gives := fun (cmd : Instr) (t : State) => exec cmd s = .next t
    let queue := a.addr.toNat % 16
    let width := if a.sub.getLsbD 2 then 8 else 4
    (comes pRead → access → admits → requestRead s3 o a.addr.toNat a.len.toNat = .ok bytes s4 →
      gives (.read l k) (answer s4 a pReadResp bytes)) ∧
    (comes pWrite → access → admits → requestWrite s3 o a.addr.toNat a.payload = .ok () s4 →
      gives (.write l k) (if a.noack then s4 else answer s4 a pWriteAck [])) ∧
    (comes pAtomic → access → admits → requestAtomic s3 o a.addr.toNat width (atomicFn a width) = .ok old s4 →
      gives (.atomic l k) (answer s4 a pAtomicResp (natBytes old 8))) ∧
    (comes pMessage → short → admits → a.addr.toNat < 16 → s3.fb F.NG_RQCFG_EN queue = true → rqFits s3 queue a = true →
      rqFree s3 queue = true → fillSlot s3 queue a = .ok () s4 → gives (.message l k) s4) ∧
    (comes pMessage → admits → a.addr.toNat < 16 → s3.fb F.NG_RQCFG_EN queue = false →
      gives (.message l k) (refuse s3 a rDenied 0xFF)) ∧
    (comes pMessage → short → admits → a.addr.toNat < 16 → s3.fb F.NG_RQCFG_EN queue = true → rqFits s3 queue a = true →
      rqFree s3 queue = false → gives (.message l k) (refuse (setOverrun s3 queue) a rBusy 0xFF)) ∧
    (comes pEvent → k.sub ≠ 1 → admits → a.addr.toNat < 64 → Gives (.event l k) s fun t =>
      bitAt (t.fl F.NG_EVTPEND_EVT 0) a.addr.toNat = true ∧ t.fb F.IC_SRC_LINE 161 = true ∧ t.mem = s3.mem) ∧
    (comes pEvent → k.sub = 1 → admits → mrOn s3 = true → a.src.toNat = s3.fl F.MR_CFG_PARTNER 0 →
      a.tag.toNat / 2 ^ 14 = 3 → gives (.mirrorFabricHeartbeat l k)
        (heartbeat s3 (a.tag.toNat / 2 ^ 11 % 8) (a.tag.toNat % 2 ^ 10) (bitAt a.tag.toNat 10) false true)) ∧
    (∀ cmd ∈ [pRead, pWrite, pAtomic], comes cmd → access → admitPacket s2 l.val a = (.refuse code, s3) →
      gives (if cmd = pRead then .read l k else if cmd = pWrite then .write l k else .atomic l k) (refuse s3 a code 0xFF))

/-- 13 R277, R281, R282, 08 R193, 20 R424: responses and NACKs return to what asked.
Where the spec is silent it follows the model's choices (log 45). -/
def Obligations.FabricResponses : Prop :=
  ∀ (s s3 : State) (l : Fin 34) (k : Packet) (c : Fin 16) (d : RegNo) (ea : Word) (r : RTag) (w : WSlot) (i : Fin 32),
    let a := arrived s l.val k
    let s2 := taking s l k
    let t := a.tag.toNat
    let p := Proc.core c
    let core := t / 2 ^ 14 = 0 ∧ Fin.ofNat 16 (t / 2 ^ 10) = c
    let u := s2.cpu p
    let reads := core ∧ t / 256 % 4 = 0 ∧ u.rtags.find? (fun r => r.tag == t % 64) = some r
    let writes := core ∧ t / 256 % 4 = 1 ∧ u.wslots.find? (fun w => w.slot == t % 64) = some w
    let queue := t / 2 ^ 10 % 16
    let toQueue := t / 2 ^ 14 = 1 ∧ s2.fb F.NG_RQCFG_EN queue = true ∧ rqFree s2 queue = true ∧ rqFits s2 queue a = true ∧
      fillSlot s2 queue a = .ok () s3
    let x := infOf s2 i.val
    let toRing := t / 2 ^ 14 = 2 ∧ Fin.ofNat 32 (t / 2 ^ 9) = i ∧ x.rrcfg % 2 ^ 20 ≠ 0 ∧ x.rrFill < rrSlots x ∧
      (headerBytes a ++ a.payload).length ≤ ringStride (slice x.rrcfg 22 20) ∧ noEvtWait s2 i
    let sound := responseSub a = false
    let fills := fun (cmd : Instr) => toRing → Gives cmd s fun t => (infOf t i.val).rrFill = x.rrFill + 1 ∧
      (infOf t i.val).events.getLsbD 1 = true
    let gives := fun (cmd : Instr) (t : State) => exec cmd s = .next t
    let value := BitVec.ofNat 64 (bytesNat (a.payload.take 8))
    (Comes s l k pReadResp → sound → reads → r.abandoned = false → r.fill = false → plainWake p s2 →
      u.wait = .remote (.g d 8 false) ea [⟨r.tag, r.place, 8, none⟩] → Gives (.readResp l k) s fun t =>
        (d ≠ 31 → t.g p d = value) ∧ (t.cpu p).pc = u.pc + 4 ∧ (t.cpu p).wait = .none ∧ t.mem = s2.mem) ∧
    (Comes s l k pReadResp → sound → reads → r.abandoned = true → gives (.readResp l k) (freeTag s2 c (t % 64))) ∧
    (Comes s l k pWriteAck → sound → writes → gives (.writeAck l k)
      (s2.setCpu p { u with wslots := u.wslots.filter fun w => w.slot != t % 64 })) ∧
    (Comes s l k pAtomicResp → sound → toQueue → gives (.atomicResp l k) s3) ∧
    (Comes s l k pAtomicResp → sound → fills (.atomicResp l k)) ∧
    (Comes s l k pNack → sound → toQueue → gives (.nack l k) s3) ∧
    (Comes s l k pNack → sound → fills (.nack l k)) ∧
    (Comes s l k pNack → sound → reads → r.abandoned = true → gives (.nack l k) (freeTag s2 c (t % 64))) ∧
    (Comes s l k pNack → sound → t / 2 ^ 10 = 63 → Gives (.nack l k) s fun t => signalled s2 t 275 ∧ t.mem = s2.mem) ∧
    (Comes s l k pMgmt → k.sub = 8 → toQueue → gives (.mgmtReply l k) s3) ∧
    (Comes s l k pMgmt → k.sub = 8 → fills (.mgmtReply l k))

/-- 12 R268, R271, R273, R274: MGMT operations at this device, and their authority.
Where the spec is silent it follows the model's choices (log 44). -/
def Obligations.FabricManagement : Prop :=
  ∀ (s : State) (l : Fin 34) (k : Packet),
    let a := arrived s l.val k
    let s2 := taking s l k
    let n := mgmtWord a 0
    let comes := fun (sub : BitVec 4) => Comes s l k pMgmt ∧ k.sub = sub
    let may := mgmtMay s2 a = true
    let replies := fun (cmd : Instr) (t : State) (data : List Byte) => exec cmd s = .next (mgmtReply t (some l) a data)
    let word := fun (off : Nat) => natBytes (regRead s2 off) 8
    let states := (List.range 32).map fun l => BitVec.ofNat 8 (lstate s2 l)
    (comes 0 → replies (.mgmtEnumerate l k) s2
      (natBytes Config.serial.toNat 8 ++ natBytes (ownNode s2) 8 ++ natBytes 0x31 8 ++ states)) ∧
    (comes 1 → may → s2.fl F.NG_NODEID_ID 0 = 0x3FFFE → n < 0x3FFFE →
      replies (.mgmtAssign l k) (timeChoose (s2.setF F.NG_NODEID_ID 0 n)) []) ∧
    (comes 2 → may → replies (.mgmtRouteWrite l k) (routeWrites s2 (.fabric l a.src a.cmd a.part) n (mgmtTail a)) []) ∧
    (comes 3 → replies (.mgmtRouteRead l k) s2
      ((List.range (min (mgmtWord a 1) 512)).flatMap fun i => if n + i < 1280 then word (routeOff (n + i)) else [])) ∧
    (comes 4 → replies (.mgmtStatusRead l k) s2
      ((List.range 4).flatMap (fun i => word (0xE00000020 + 8 * i)) ++ word 0xE00000008 ++ word 0xE00000200
        ++ natBytes (s2.fl F.DREGS_STAT_FILL 0) 8)) ∧
    (comes 5 → may → replies (.mgmtQuarantine l k) (ctlQuarantine s2 (n % 32)) []) ∧
    (comes 6 → may → replies (.mgmtRelease l k) (ctlRelease s2 (n % 32)) []) ∧
    (comes 7 → may → replies (.mgmtRetrain l k) (ctlRetrain s2 (n % 32)) []) ∧
    (∀ e ∈ [((1 : BitVec 4), Instr.mgmtAssign l k), (2, .mgmtRouteWrite l k), (5, .mgmtQuarantine l k),
        (6, .mgmtRelease l k), (7, .mgmtRetrain l k)],
      comes e.1 → mgmtMay s2 a = false → exec e.2 s = .next (refuse (denyCount s2 l.val) a rDenied 0xFF))

/-- 12 R245, 13 R286, R288, R295, R297: a port sends its packet of earliest deadline, or refuses it as late; a send queue's
oldest block leaves the queue.
Where the spec is silent it follows the model's choices (log 24, 46). -/
def Obligations.PacketsLeaving : Prop :=
  ∀ (s : State) (p : Fin 43) (q : QPkt) (rest : List QPkt) (n : Fin 16) (e : SqEntry) (es : List SqEntry),
    let port := p.val
    let auth := portSession s port
    let home := lk s (portHome port)
    let flits := newFlits auth home.fill q.k
    let head := earliest (outQ s port) = some (q, rest)
    let open_ := min home.credit
    let up := portUp s port = true ∧ home.resend = none ∧ home.unsent = 0
    let late := q.k.deadline.toNat * 1000 < (fabNow s + q.remain) * 1000 + tailPs auth q.k
    let cpl := s.fl F.NG_SQADDR_CPLADDR n.val * 8
    let sends := fun (t : State) (n : Nat) => let x := lk t (portHome port)
      x.credit = home.credit - open_ n ∧ x.replay = home.replay + open_ n ∧ x.unsent = n - open_ n ∧ t.mem = s.mem
    (head → port < 41 → up → ¬ (port ≠ 40 ∧ late) → 0 < home.credit ∨ flits = 0 →
      Gives (.packetTransmitStart p) s fun t => outQ t port = rest ∧ sends t flits ∧
        (lk t (portHome port)).sent = home.sent ++ [⟨onWire s port (stamped s q.k), flits, q.viaLink⟩]) ∧
    (port < 41 → portUp s port = true → home.resend = none → 0 < home.unsent → Gives (.packetTransmitStart p) s fun t =>
      sends t home.unsent ∧ t.router = s.router ∧ t.flds = s.flds) ∧
    (head → port < 40 → up → late →
      exec (.packetTransmitStart p) s = .next (refuse (putOut s port rest) q.k rLate port)) ∧
    (head → port < 41 → up → ¬ (port ≠ 40 ∧ late) → home.credit = 0 → flits ≠ 0 → exec (.packetTransmitStart p) s = .next s) ∧
    (port < 41 → portUp s port = true → home.resend.isSome = true → Gives (.packetTransmitStart p) s fun t =>
      (∃ busy, lk t (portHome port) = { home with resend := none, busy := busy }) ∧ t.router = s.router ∧ t.flds = s.flds) ∧
    (head → port = 42 → s.router.waiting = [] → ∀ u, deliver (putOut s 42 rest) none q.k = .ok () u →
      exec (.packetTransmitStart p) s = .next u) ∧
    (mget [] s.router.sq n.val = e :: es → (∀ x ∈ e.pieces ++ [(cpl, 8)], mustWait s x.1 x.2 = false) → s.ready 35 = true →
      ∀ block s1 s2, blockBytes s e.pieces = (block, s1) →
      let s1 := { s1 with router := { s1.router with sq := mset [] s1.router.sq n.val es } }
      queueTake s1 n.val (queuePacket s1 n.val e.core block) = .ok () s2 →
      Gives (.queueEngineSend n) s fun t => mget [] t.router.sq n.val = es ∧
        mget 0 t.router.sent n.val = (mget 0 s.router.sent n.val + 1) % 2 ^ 64)

/-! ### Fabric time and the epoch -/

/-- 12 R267, R271, 14 R298 to R304: node IDs, TIME packets, and the choice of a grandmaster.
Where the spec is silent it follows the model's choices (log 27, 92). -/
def Obligations.FabricTime : Prop :=
  ∀ (s : State) (q : Requester) (l : Fin 32) (v : Word) (offset stamp : BitVec 64) (oneWay : BitVec 20) (src gm : BitVec 18)
    (prio steps : BitVec 8) (imports : Bool),
    let n := l.val
    let id := bitsOf v F.NG_NODEID_ID
    let node := fun (t : State) => t.fl F.NG_NODEID_ID 0
    let st := fun (t : State) => t.fl F.EP_TSTAT_STATE 0
    let time := timeLink s n = true ∧ reversePath (timeCounted s n) n src.toNat = true
    let sole := fun (m : Nat) => ∀ m', m' < 32 → timeLink s m' = true → egress s m' = egress s m → m' = m
    let follows := s.fl F.EP_TSTAT_UPLINK 0 = n ∧ (st s = 1 ∨ st s = 2 ∨ st s = 4)
    let x := offset.toInt
    let lim : Int := (max 1 (s.fl F.EP_TCFG_STEPLIM 0) * 1000 : Nat)
    let delays := (oneWay.toNat :: mget [] s.ep.delays n).take 16
    let adds := fun (t : State) (n sub : Nat) => ∃ k, outQ t (egress s n) = outQ s (egress s n) ++ [⟨k, 0, fabNow s, false, some n⟩] ∧
      k.cmd = 9 ∧ k.sub.toNat = sub
    (openAt s 0xE01000000 → id < 0x3FFFE → node s = 0x3FFFE → Gives (.ngNodeidWrite q v) s fun t => node t = id ∧ t.mem = s.mem) ∧
    (openAt s 0xE01000000 → id < 0x3FFFE → node s ≠ 0x3FFFE → Gives (.ngNodeidWrite q v) s fun t => node t = node s) ∧
    (openAt s 0xE01000000 → id = 0x3FFFE → Gives (.ngNodeidWrite q v) s fun t => node t = 0x3FFFE) ∧
    (time → follows →
      (-2 ≤ x → x ≤ 2 → 15 ≤ s.ep.good → Gives (.timeSync l src offset stamp) s fun t => st t = 2 ∧ t.ep.good = 16 ∧
        t.fl F.EP_TSTAT_OFFSET 0 = offsetField x ∧ t.fl F.EP_NOW_VALUE 0 = s.fl F.EP_NOW_VALUE 0) ∧
      (lim < x → s.epochOn = true → Gives (.timeSync l src offset stamp) s fun t => st t = 4 ∧ t.ep.good = 0 ∧
        t.fl F.EP_NOW_VALUE 0 = s.fl F.EP_NOW_VALUE 0) ∧
      (lim < x → s.epochOn = false → Gives (.timeSync l src offset stamp) s fun t => st t = 1 ∧
        t.fl F.EP_NOW_VALUE 0 = (stamp.toNat + s.fl F.NG_LINKSTAT_DELAY n) % 2 ^ 64) ∧
      (2 < x → x ≤ lim → Gives (.timeSync l src offset stamp) s fun t => st t = 1 ∧ t.ep.good = 0 ∧ t.ep.slew = x * 2 ^ 32 ∧
        t.fl F.EP_NOW_VALUE 0 = s.fl F.EP_NOW_VALUE 0)) ∧
    (time → Gives (.timeDelayReq l src) s fun t => adds t n 2 ∧ t.mem = s.mem ∧
      (lk t (sessHome s n)).rxCount = (lk s (sessHome s n)).rxCount + 1) ∧
    (time → Gives (.timeDelayResp l src oneWay) s fun t => mget [] t.ep.delays n = delays ∧
      t.fl F.NG_LINKSTAT_DELAY n = delays.sum / delays.length % 2 ^ 20) ∧
    (time → Gives (.timeAnnounce l src gm prio steps imports) s fun t => t.mem = s.mem ∧
      mget {} t.ep.heard n = if gm = 0x3FFFE then {} else ⟨true, gm.toNat, prio.toNat, steps.toNat, imports⟩) ∧
    (Gives .syncInterval s fun t => (∀ m, m < 32 → timeLink s m = true → sole m →
      hasUpstream s = false ∨ m ≠ s.fl F.EP_TSTAT_UPLINK 0 → adds t m 0) ∧ t.flds = s.flds ∧
      ∀ m, m < 32 → timeLink s m = true → hasUpstream s = false ∨ m ≠ s.fl F.EP_TSTAT_UPLINK 0 →
        ∃ e ∈ outQ t (egress s m), e.lane = some m ∧ e.since = fabNow s ∧ e.k.cmd = 9 ∧ e.k.sub.toNat = 0) ∧
    (Gives .announceInterval s fun t => (∀ m, m < 32 → timeLink s m = true → sole m →
      (outQ t (egress s m)).length = (outQ s (egress s m)).length + 2) ∧ t.flds = s.flds) ∧
    (timeLink s n = true → reversePath (timeCounted s n) n src.toNat = false →
      exec (.timeSync l src offset stamp) s = .next (countDrop (denyCount (timeCounted s n) n))) ∧
    (st s = 1 ∨ st s = 2 ∨ st s = 4 → Gives .grandmasterLoss s fun t =>
      mget {} t.ep.heard (s.fl F.EP_TSTAT_UPLINK 0) = {} ∧ t.mem = s.mem) ∧
    (openAt s 0xE00500028 → isMachine s q = true → Gives (.epTcfgWrite q v) s fun t =>
      ∀ f ∈ [F.EP_TCFG_GMPRIO, F.EP_TCFG_SYNCINT, F.EP_TCFG_STEPLIM], t.fl f 0 = bitsOf v f) ∧
    (s.fl F.EP_ASCFG_MODE 0 = 2 → Gives .gptpPeerLoss s fun t => st t = 3 ∧ signalled s t 196 ∧ t.mem = s.mem)

/-- 14 R305 to R315: the epoch unit, the tick and its Pour, the guard, and the epoch-deadline watchdog. -/
def Obligations.EpochUnit : Prop :=
  ∀ (s : State) (q : Requester) (v : Word) (n : Fin 8) (c : Fin 16),
    let now := fun (t : State) => t.fl F.EP_NOW_VALUE 0
    let epoch := fun (t : State) => t.fl F.EP_EPOCH_VALUE 0
    let started := (BitVec.ofNat 64 (now s) - BitVec.ofNat 64 (s.fl F.EP_ORIGIN_ORIGIN 0)).toInt.toNat
      / ((bitsOf v F.EP_CFG_PERIOD + 1) * 31250)
    let due := s.ep.due.getLsbD n.val = true
    let got := s.ep.got.getLsbD n.val
    let k := (epoch s + 1) % 2 ^ 64
    let kicks := openAt s 0xE00000440 ∧ v.getLsbD n.val = true ∧ s.fb F.KT_EDWCFG_MODE n.val = true ∧
      s.fb F.KT_EDWCFG_EN n.val = true ∧ s.ep.expect.getLsbD n.val = true ∧ got = false
    (openAt s 0xE00500000 → s.epochOn = false → bitsOf v F.EP_CFG_EN = 1 → Gives (.epCfgWrite q v) s fun t =>
      t.epochOn = true ∧ epoch t = started ∧ t.fl F.EP_CFG_PERIOD 0 = bitsOf v F.EP_CFG_PERIOD ∧
      (s.dom c.val = 0 → (t.cpu (.core c)).epochNo = BitVec.ofNat 64 started) ∧ t.mem = s.mem) ∧
    (s.epochOn = true → sclkStopped s = false → Gives .epochTick s fun t => epoch t = k ∧ tickAt s (epoch s + 1) ≤ now t ∧ signalled s t 192 ∧
      (s.dom c.val = 0 → (t.cpu (.core c)).epochNo = BitVec.ofNat 64 (epoch s + 1)) ∧
      (mget 0 s.sh (fkey F.KT_SOVAL_VALUE 0) ≠ 0 → t.fl F.KT_SOVAL_VALUE 0 = s.shv F.KT_SOVAL_VALUE 0 % 2 ^ 32) ∧
      (∀ e, e < 1024 → mget 0 s.sh (fkey F.IF_PARAM_DATA e) ≠ 0 →
        t.fl F.IF_PARAM_DATA e = s.shv F.IF_PARAM_DATA e % 2 ^ 64)) ∧
    (s.epochOn = true → s.fl F.EP_CFG_GUARD 0 ≠ 0 → Gives .epochGuard s fun t => signalled s t 193 ∧
      (∀ i, noEvtWait s i → (infOf t i.val).events.getLsbD 13 = true) ∧
      tickAt s (epoch s + 1) - s.fl F.EP_CFG_GUARD 0 * 100 ≤ now t ∧ t.mem = s.mem) ∧
    (due → got = false → Gives (.edwDeadline n) s fun t => bitAt (t.fl F.KT_EDWSTAT_MISS 0) n.val = true ∧
      signalled s t (224 + n.val) ∧ t.ep.due.getLsbD n.val = false ∧
      (s.fb F.KT_EDWCFG_SAFETY n.val = true → bitAt (t.fl F.KT_TRIGSTAT_HIST 0) 1 = true ∧
        t.fb F.KT_SAFECTL_HELD 0 = true) ∧ t.mem = s.mem) ∧
    (due → got = true → Gives (.edwDeadline n) s fun t => t.flds = s.flds ∧ t.ep.due.getLsbD n.val = false) ∧
    (kicks → due → Gives (.ktEdwstatKick q v) s fun t => t.ep.got.getLsbD n.val = true) ∧
    (kicks → ¬ due → Gives (.ktEdwstatKick q v) s fun t => t.ep.got.getLsbD n.val = true ∧
      (s.fl F.KT_EDWSTAT_LATECNT 0 = 0 → 0 < t.fl F.KT_EDWSTAT_LATECNT 0))

/-! ### The mirrored pair -/

/-- 15 R319 to R328, R334, R340: the stream of a mirrored pair, from the primary's tracked lines to the standby's journal
and its answer.
Where the spec is silent it follows the model's choices (log 28). -/
def Obligations.MirrorStream : Prop :=
  ∀ (s : State) (k : Packet) (late : Bool) (l e n m : Nat) (rest : List Nat),
    let on := mrOn s = true
    let role := mrRole s
    let keep := fun (t : State) => t.mem = s.mem ∧ t.cpus = s.cpus
    let came := fun (sub : Nat) => on ∧ hearingPort s = some m ∧ k.cmd.toNat = 11 ∧ k.sub.toNat = sub ∧ corrupt k = false
    let s0 := leaveBuffer s m k
    let sends := fun (t : State) (sub : Nat) => ∃ x ∈ outQ t 40, x.k.cmd = 11 ∧ x.k.sub.toNat = sub ∧
      x.k.dst.toNat = s.fl F.MR_CFG_PARTNER 0 % 2 ^ 18
    let stale := fun (t : State) => mrRole t = 0 ∧ t.fl F.MR_JFILL_RECORDS 0 = 0 ∧ t.fb F.MR_STAT_COPYING 0 = false ∧
      signalled s t 203 ∧ t.mem = s.mem
    let off := word8 k.payload 0 / 64 * 64
    let data := (k.payload.take 72).drop 8
    let one := k.payload.length = 72
    let took := fun (ckpt : Nat) => { s0 with mir := { s.mir with got := s.mir.got + 1, gotCkpt := s.mir.gotCkpt + ckpt } }
    let counts := s.mir.got = word8 k.payload 1 ∧ s.mir.gotCkpt = word8 k.payload 2
    let copied := dmaWrite (s0.setB F.MR_STAT_COPYING 0 true) 4 none off data
    let j := s.fl F.MR_JFILL_RECORDS 0
    let free := recordsWait s (records 56 k.payload) = false
    let answer := word8 k.payload 0 % 2 ^ 32
    (on → role = 3 → s.mir.frozen = l :: rest → mustWait s (l * 64) 64 = false → Gives .mirrorLineRead s fun t =>
      t.mir.frozen = rest ∧ t.mir.sent = s.mir.sent + 1 ∧ sends t 0) ∧
    (on → role = 3 → s.mir.frozen = [] → s.mir.closing = none → s.mir.fresh = l :: rest → mustWait s (l * 64) 64 = false →
      Gives .mirrorLineRead s fun t => t.mir.fresh = rest ∧ t.mir.sent = s.mir.sent + 1 ∧ sends t 0) ∧
    (on → role = 3 → s.mir.frozen = [] → s.mir.closing = some e →
      (∀ x ∈ (ckptLines s).take 128, mustWait s (x * 64) 64 = false) → Gives (.mirrorCommitSend late) s fun t =>
      t.fl F.MR_COMMIT_SENT 0 = e % 2 ^ 32 ∧ t.mir.closing = none ∧ t.mir.sent = 0 ∧ t.mir.kCommit = e ∧ sends t 3 ∧
      (late = true → signalled s t 204 ∧
        (s.fl F.MR_STAT_LATECNT 0 < 255 → t.fl F.MR_STAT_LATECNT 0 = s.fl F.MR_STAT_LATECNT 0 + 1))) ∧
    (one → role = 0 ∨ role = 1 → free →
      (came 0 → Gives (.mirrorLines k) s fun t => t = dmaWrite (took 0) 4 none off data) ∧
      (came 2 → Gives (.mirrorCkpt k) s fun t => t = dmaWrite (took 1) 4 none off data)) ∧
    (one → role = 2 → free → j < journalCap s →
      (came 0 → Gives (.mirrorLines k) s fun t => t.mir.got = s.mir.got + 1 ∧ t.fl F.MR_JFILL_RECORDS 0 = (j + 1) % 2 ^ 22 ∧
        mrRole t = 2) ∧
      (came 2 → Gives (.mirrorCkpt k) s fun t => t.mir.got = s.mir.got + 1 ∧ t.fl F.MR_JFILL_RECORDS 0 = (j + 1) % 2 ^ 22 ∧
        mrRole t = 2)) ∧
    (one → role = 2 → free → journalCap s ≤ j → came 0 → Gives (.mirrorLines k) s fun t => mrRole t = 0 ∧ signalled s t 203) ∧
    (one → role = 0 → free → came 1 → Gives (.mirrorCopy k) s fun t =>
      t = if lastLine copied = some (off / 64) then { copied with mir := { copied.mir with copyLast := true } } else copied) ∧
    (role < 3 → recordsWait s (records 56 k.payload) = true → ∀ cmd ∈ [Instr.mirrorLines k, .mirrorCopy k, .mirrorCkpt k],
      Gives cmd s fun t => t.mir = s.mir ∧ keep t) ∧
    (came 3 → role = 1 ∨ role = 2 → counts → Gives (.mirrorCommit k) s fun t =>
      t.fl F.MR_JFILL_RECORDS 0 = 0 ∧ t.fl F.MR_COMMIT_ACKED 0 = answer ∧ t.mir.got = 0 ∧ t.mir.gotCkpt = 0 ∧ sends t 4 ∧ keep t ∧
      mrRole t = (if s.fl F.MR_JOURNAL_SIZE 0 = 0 then role else 2)) ∧
    (came 3 → role = 1 ∨ role = 2 → ¬ counts → Gives (.mirrorCommit k) s fun t => stale t ∧ t.mir.got = 0 ∧
      t.mir.gotCkpt = 0) ∧
    (came 4 → role = 3 → Gives (.mirrorCommitAck k) s fun t => t.fl F.MR_COMMIT_ACKED 0 = answer ∧ keep t) ∧
    (came 6 → role = 3 → s.fb F.MR_CFG_ACCEPT 0 = true → (lk s 32).bondOk = true ∨ (lk s 33).bondOk = true →
      Gives (.mirrorOffer k) s fun t => t.fb F.MR_STAT_COPYING 0 = true ∧ t.mir.copyNext = some 0 ∧ keep t) ∧
    (came 6 → role = 0 → Gives (.mirrorOffer k) s fun t => t.mir = { s.mir with offerWaiting := true } ∧ t.flds = s.flds) ∧
    (s.fb F.MR_STAT_COPYING 0 = true → role = 0 → s.mir.copyLast = true → Gives .copyComplete s fun t => mrRole t = 1 ∧
      t.fb F.MR_STAT_COPYING 0 = false ∧ signalled s t 205 ∧ keep t) ∧
    (s.fb F.MR_STAT_COPYING 0 = true → role = 3 → s.mir.copyNext = some n → copyLine (regionsSorted s) n = none →
      Gives .copyComplete s fun t => mrRole t = 3 ∧ t.fb F.MR_STAT_COPYING 0 = false ∧ t.mir.copyNext = none ∧
        signalled s t 205 ∧ keep t)

/-- 15 R320, R330 to R338, R340: heartbeats, roles, the takeover's rollback, handover, and the registers that command them.
Where the spec is silent it follows the model's choices (log 28, 121, 122). -/
def Obligations.MirrorRoles : Prop :=
  ∀ (s : State) (q : Requester) (v : Word) (k : Packet) (m n : Nat),
    let on := mrOn s = true
    let role := mrRole s
    let misses := fun (t : State) => t.fl F.MR_STAT_MISSES 0
    let came := fun (sub : Nat) => on ∧ hearingPort s = some m ∧ k.cmd.toNat = 11 ∧ k.sub.toNat = sub ∧ corrupt k = false
    let w := word8 k.payload 0
    let degraded := bitAt w 8 = true ∧ mrVer s = 0x12
    let sends := fun (t : State) (sub : Nat) => ∃ x ∈ outQ t 40, x.k.cmd = 11 ∧ x.k.sub.toNat = sub
    let boundary := on ∧ s.epochOn = true ∧ s.mir.hbM < 8
    let trigger := fun (t : State) (b : Nat) => bitAt (t.fl F.KT_TRIGSTAT_RAISED 0) b
    let undone := s.fl F.MR_JFILL_RECORDS 0
    let bit := fun (f : Fld) => bitsOf v f = 1
    let ctl := openAt s 0xE00600008 ∧ isRing0 s q = true ∧ bitsOf v F.MR_CTL_KEY = 0x4D52
    let only := fun (f : Fld) => ∀ g ∈ [F.MR_CTL_CLAIM, F.MR_CTL_OFFER, F.MR_CTL_HANDOVER, F.MR_CTL_ALONE],
      bitsOf v g = if g = f then 1 else 0
    let turnedAway := fun (cmd : Instr) => openAt s 0xE00600008 → isRing0 s q = true → bitsOf v F.MR_CTL_KEY ≠ 0x4D52 →
      Gives cmd s fun t => t.mir = s.mir ∧ mrRole t = role ∧ t.router = s.router ∧
        t.fl F.MR_STAT_ALONE 0 = s.fl F.MR_STAT_ALONE 0
    let cfg := openAt s 0xE00600000 ∧ isMachine s q = true
    (came 5 → Gives (.mirrorHeartbeat k) s fun t => t.fl F.MR_STAT_PROLE 0 = w % 8 ∧ t.mem = s.mem) ∧
    (came 5 → degraded → Gives (.mirrorHeartbeat k) s fun t => misses t = misses s ∧ t.mir.heard = s.mir.heard ∧
      mrRole t = role) ∧
    (came 5 → ¬ degraded → Gives (.mirrorHeartbeat k) s fun t => misses t = 0 ∧ t.mir.heard = true ∧
      (role ≠ 3 ∨ w % 8 ≠ 3 → mrRole t = role) ∧
      (role = 3 → w % 8 = 3 → mrRole t = 4 ∧ trigger t 9 = true ∧ signalled s t 206 ∧
        (trigger s 9 = false → t.fb F.KT_SAFECTL_HELD 0 = true))) ∧
    (boundary → Gives .heartbeatBoundary s fun t => (∀ n ∈ [32, 33], lstate s n = 5 → ∃ x ∈ outQ t 40, x.lane = some n ∧
        x.k.cmd = 11 ∧ x.k.sub.toNat = 5) ∧ t.mir.heard = false ∧ t.mir.hbM = s.mir.hbM + 1 ∧
      t.mir.hbSeq = s.mir.hbSeq + 1 ∧ (s.mir.heard = true → misses t = misses s) ∧
      (s.mir.heard = false → misses s < 3 → misses t = misses s + 1) ∧
      (s.mir.heard = false → misses s = 2 → role = 2 → t.mir.toTake = 1) ∧
      (s.mir.heard = false → misses s = 2 → role = 1 → mrRole t = 0 ∧ signalled s t 203) ∧
      (s.mir.heard = false → misses s = 2 → role = 3 → s.mir.lastRole = 2 → t.fb F.MR_STAT_ISOLATED 0 = true ∧
        trigger t 10 = true ∧ signalled s t 202)) ∧
    (portUp s 40 = true → mrVer s = 0x12 → computeDown s = true ∨ boundaryMissed s = true ∨ s.fb F.KT_SUPPLY_CARRIED 0 = true →
      Gives .kettleDegradedHeartbeat s fun t => sends t 5 ∧
      t.mir = { s.mir with hbSeq := s.mir.hbSeq + 1 } ∧ t.mem = s.mem) ∧
    ((role = 1 ∨ role = 2) → 2 ≤ s.mir.commitAge → misses s < 3 → Gives .commitMissing s fun t => mrRole t = 0 ∧
      signalled s t 203 ∧ t.mem = s.mem) ∧
    (s.fb F.MR_STAT_ROLLBACK 0 = true →
      (undone = 0 → Gives .rollbackComplete s fun t => t.fb F.MR_STAT_ROLLBACK 0 = false ∧ t.fl F.MR_JFILL_RECORDS 0 = 0 ∧
        t.mir.selfDue = 1 ∧ signalled s t 201 ∧ t.mem = s.mem) ∧
      (undone = n + 1 → gateWaits s (journalAt s n) 80 = true →
        exec .rollbackComplete s = .next (askWake s (journalAt s n) 80)) ∧
      (undone = n + 1 → gateWaits s (journalAt s n) 80 = false → ∀ r u, dmaRead s 4 none (journalAt s n) 80 = (r, u) →
        let target := bytesNat (r.take 8)
        gateWaits u target 64 = false → exec .rollbackComplete s =
          .next (undo ((dmaWrite u 4 none target (r.drop 16)).setF F.MR_JFILL_RECORDS 0 n) n))) ∧
    (came 7 → role = 3 → s.mir.handover = 2 → Gives (.mirrorHandoverAck k) s fun t =>
      mrRole t = 0 ∧ t.mir.handover = 3 ∧ signalled s t 200 ∧ t.mem = s.mem) ∧
    (role = 3 → s.mir.handover = 2 → 2 ≤ s.mir.hoTicks → Gives .handoverAckTimeout s fun t => t.mir.handover = 0 ∧
      t.fb F.MR_STAT_ISOLATED 0 = true ∧ trigger t 10 = true ∧ signalled s t 202 ∧ t.mem = s.mem) ∧
    (cfg → bit F.MR_CFG_EN → regionsGood s = false → Gives (.mrCfgWrite q v) s fun t => t.fb F.MR_STAT_CFGERR 0 = true ∧
      mrOn t = mrOn s ∧ t.links = s.links) ∧
    (cfg → bit F.MR_CFG_EN → regionsGood s = true → ¬ on → Gives (.mrCfgWrite q v) s fun t => mrOn t = true ∧
      t.fl F.MR_CFG_PARTNER 0 = bitsOf v F.MR_CFG_PARTNER ∧ lstate t 32 = 1 ∧ lstate t 33 = 1) ∧
    (cfg → ¬ bit F.MR_CFG_EN → on → Gives (.mrCfgWrite q v) s fun t => mrOn t = false ∧ lstate t 32 = 0 ∧ lstate t 33 = 0) ∧
    (ctl → only F.MR_CTL_CLAIM → role = 0 → on → 3 ≤ s.mir.sincePrimary → Gives (.mrCtlClaim q v) s fun t => mrRole t = 3 ∧
      t.fl F.MR_STAT_GEN 0 = (s.mir.genHeard + 1) % 2 ^ 16 ∧ signalled s t 200 ∧ t.mem = s.mem) ∧
    (ctl → only F.MR_CTL_CLAIM → role = 0 → on → s.mir.sincePrimary < 3 → Gives (.mrCtlClaim q v) s fun t => mrRole t = 0 ∧
      t.mir = s.mir) ∧
    (ctl → only F.MR_CTL_OFFER → role = 0 → on → Gives (.mrCtlOffer q v) s fun t => sends t 6 ∧
      t.fb F.MR_STAT_COPYING 0 = false ∧ t.mir = { s.mir with copyNext := none, copyLast := false } ∧ t.mem = s.mem) ∧
    (ctl → only F.MR_CTL_HANDOVER → role = 3 → s.fl F.MR_STAT_PROLE 0 = 2 → mrVer s = 0x12 →
      Gives (.mrCtlHandover q v) s fun t => t.mir.handover = 1 ∧ mrRole t = 3 ∧ t.flds = s.flds) ∧
    (ctl → isMachine s q = true → only F.MR_CTL_ALONE → role = 3 → s.fb F.MR_STAT_ISOLATED 0 = true →
      Gives (.mrCtlAlone q v) s fun t => t.fb F.MR_STAT_ALONE 0 = true ∧ trigger t 10 = false ∧ t.mir = s.mir) ∧
    (∀ cmd ∈ [Instr.mrCtlClaim q v, .mrCtlOffer q v, .mrCtlHandover q v, .mrCtlAlone q v], turnedAway cmd)

/-! ### The Kettle -/

/-- 17 R364 to R367, R371: the safe outputs, their registers and their release. -/
def Obligations.SafeOutputs : Prop :=
  ∀ (s : State) (c : Fin 16) (q : Requester) (v : Word),
    let key := v.toNat % 65536
    let me := Requester.core c
    let ring0 := isRing0 s me = true
    let held := fun (t : State) => t.fb F.KT_SAFECTL_HELD 0
    let armed := fun (t : State) => t.fb F.KT_SAFECTL_ARMED 0
    let mine := s.fl F.KT_SAFECTL_ARMCORE 0 = c.val
    let quiet := s.fl F.KT_TRIGSTAT_RAISED 0 = 0
    let kept := fun (t : State) => t.mem = s.mem ∧ t.cpus = s.cpus
    let arms := key = 0x4152 ∧ held s = true ∧ quiet
    let frees := key = 0x524C ∧ armed s = true ∧ mine ∧ quiet
    let soval := [F.KT_SOVAL_VALUE, F.KT_SOVAL_OE]
    (ring0 → arms → Gives (.ktSaferelArm me v) s fun t => armed t = true ∧ t.fl F.KT_SAFECTL_ARMCORE 0 = c.val ∧
      held t = true ∧ t.mem = s.mem ∧ t.cpus = s.cpus ∧ t.dregs = s.dregs) ∧
    (ring0 → frees → Gives (.ktSaferelRelease me v) s fun t => held t = false ∧ armed t = false ∧ signalled s t 234 ∧ kept t) ∧
    (ring0 → ¬ arms → ¬ frees → ∀ cmd ∈ [Instr.ktSaferelArm me v, .ktSaferelRelease me v], Gives cmd s fun t =>
      armed t = false ∧ held t = held s ∧ kept t) ∧
    (isRing0 s q = false → ∀ cmd ∈ [Instr.ktSaferelArm q v, .ktSaferelRelease q v], Gives cmd s fun t =>
      armed t = armed s ∧ held t = held s ∧ kept t) ∧
    (armed s = true → Gives .armCountExpiry s fun t => armed t = false ∧ held t = held s ∧ kept t) ∧
    (mayWriteSoval s q = true → s.epochOn = true → Gives (.ktSovalWrite q v) s fun t =>
      ∀ f ∈ soval, t.shv f 0 = bitsOf v f ∧ t.fl f 0 = s.fl f 0) ∧
    (mayWriteSoval s q = true → s.epochOn = false → Gives (.ktSovalWrite q v) s fun t => ∀ f ∈ soval, t.fl f 0 = bitsOf v f) ∧
    (mayWriteSoval s q = false → Gives (.ktSovalWrite q v) s fun t => ∀ f ∈ soval, t.shv f 0 = s.shv f 0 ∧ t.fl f 0 = s.fl f 0) ∧
    (held s = true → s.fb F.KT_SAFECTL_LOCK 0 = false → Gives (.ktSafelvlWrite q v) s fun t =>
      t.fl F.KT_SAFELVL_LVL 0 = v.toNat ∧ kept t) ∧
    (held s = false ∨ s.fb F.KT_SAFECTL_LOCK 0 = true → Gives (.ktSafelvlWrite q v) s fun t =>
      t.fl F.KT_SAFELVL_LVL 0 = s.fl F.KT_SAFELVL_LVL 0 ∧ kept t)

/-- 17 R369, R372 to R375: safety inputs, the joystick cross-check, the device watchdog and the temperatures.
Where the spec is silent it follows the model's choices (log 8). -/
def Obligations.SafetyInputs : Prop :=
  ∀ (s : State) (q : Requester) (v : Word) (n : Fin 16) (a b : Bool) (x : List (BitVec 12 × BitVec 12)) (j : Fin 8)
    (u w : BitVec 12) (temps : List Byte) (h : Int) (c : Fin 16),
    let raised := fun (t : State) (k : Nat) => bitAt (t.fl F.KT_TRIGSTAT_RAISED 0) k
    let hist := fun (t : State) (k : Nat) => bitAt (t.fl F.KT_TRIGSTAT_HIST 0) k
    let held := fun (t : State) => t.fb F.KT_SAFECTL_HELD 0 = true
    let differs := if s.fb F.KT_SINCFG_ANTI n.val = true then a == b else a != b
    let pair := fun (t : State) (f : Fld) => bitAt (t.fl f 0) n.val
    let bp := if s.fb F.KT_JOYCFG_MIRROR j.val = true then 4095 - w.toNat else w.toNat
    let lo := s.fl F.KT_JOYCFG_LO j.val
    let hi := s.fl F.KT_JOYCFG_HI j.val
    let passes := lo ≤ u.toNat ∧ u.toNat ≤ hi ∧ lo ≤ w.toNat ∧ w.toNat ≤ hi ∧
      u.toNat ≤ bp + s.fl F.KT_JOYCFG_WIN j.val ∧ bp ≤ u.toNat + s.fl F.KT_JOYCFG_WIN j.val
    let elapsed := fun (t : State) => t.fl F.KT_WDKICK_ELAPSED 0
    let tmo := max 1 (s.fl F.KT_WDCFG_TMO 0)
    let on := s.fb F.KT_WDCFG_EN 0 = true
    let expires := fun (cmd : Instr) =>
      (s.fb F.KT_WDCFG_RSTEN 0 = false → Gives cmd s fun t => t.fb F.KT_WDKICK_EXPIRED 0 = true ∧ elapsed t = 0 ∧
        hist t 0 = true ∧ held t ∧ t.warm = s.warm ∧ t.mem = s.mem) ∧
      (s.fb F.KT_WDCFG_RSTEN 0 = true → supplied s → s.warm.active = false → s.fb F.KT_SUPPLY_CARRIED 0 = false → Gives cmd s fun t =>
        t.warm.active = true ∧ t.fl F.KT_RSTCAUSE_LAST 0 = 3 ∧ held t)
    let key := v.toNat % 65536
    let early := elapsed s < s.fl F.KT_WDCFG_WMIN 0
    let trip := tripPoint s
    let hottestIs := temps.length = 8 ∧ (∀ t ∈ temps, t.toInt ≤ h) ∧ ∃ t ∈ temps, t.toInt = h
    (Gives (.safeInputChange n a b) s fun t => pair t F.KT_SINSTAT_A = a ∧ pair t F.KT_SINSTAT_B = b ∧
      pair t F.KT_SINSTAT_DISC = differs ∧ (differs = false → pair t F.KT_SINSTAT_RAISED = false) ∧ t.mem = s.mem ∧
      t.cpus = s.cpus) ∧
    (s.fb F.KT_SINCFG_EN n.val = true → pairBreaks s n.val = true → pair s F.KT_SINSTAT_RAISED = false →
      Gives (.safeInputDiscrepancy n) s fun t => pair t F.KT_SINSTAT_RAISED = true ∧ signalled s t 235 ∧ raised t 7 = true ∧
        (raised s 7 = false → held t)) ∧
    (bitAt (s.fl F.KT_SUPPLY_PG 0) 1 = true → x[j.val]? = some (u, w) → Gives (.joystickSample x) s fun t =>
      t.fl F.KT_JOYVAL_A j.val = u.toNat ∧ t.fl F.KT_JOYVAL_B j.val = w.toNat ∧ t.fb F.KT_JOYVAL_VALID j.val = true ∧
      (passes → t.fl F.KT_JOYVAL_POS j.val = (u.toNat + bp) / 2) ∧
      (¬ passes → t.fl F.KT_JOYVAL_POS j.val = s.fl F.KT_JOYVAL_POS j.val) ∧
      (¬ passes → s.fb F.KT_JOYCFG_EN j.val = true → s.fl F.KT_JOYCFG_FILT j.val ≤ 1 → s.ket.joyReported.getLsbD j.val = false →
        t.fb F.KT_JOYVAL_RAISED j.val = true ∧ raised t 6 = true ∧ signalled s t 236)) ∧
    (isRing0 s q = true → on → key = 0x574B → ¬ early → Gives (.watchdogKick q v) s fun t => elapsed t = 0 ∧
      t.fb F.KT_WDKICK_EXPIRED 0 = (s.fb F.KT_WDKICK_EXPIRED 0 && !v.getLsbD 40) ∧ t.mem = s.mem ∧ t.cpus = s.cpus) ∧
    (isRing0 s q = true → on → key ≠ 0 → key ≠ 0x574B ∨ early → expires (.watchdogKick q v)) ∧
    (isRing0 s q = false → Gives (.watchdogKick q v) s fun t => elapsed t = elapsed s ∧ t.mem = s.mem ∧ t.cpus = s.cpus) ∧
    (on → expires .watchdogExpiry) ∧
    (on → Gives .watchdogWarning s fun t => elapsed t = max (elapsed s) (tmo - tmo / 8) % 2 ^ 24 ∧ signalled s t 232 ∧
      t.mem = s.mem ∧ t.cpus = s.cpus) ∧
    (hottestIs → Gives (.temperatureSample temps) s fun t => t.fl F.KT_TEMP_HOT 0 = (BitVec.ofInt 8 h).toNat ∧
      t.mem = s.mem ∧ (trip ≤ h → t.ket.tempHot = true) ∧ (h < trip → t.ket.tempHot = false) ∧
      (trip ≤ h → s.ket.tempHot = true → raised t 5 = true ∧ (raised s 5 = false → held t)) ∧
      (h < trip - 5 → 1 ≤ s.ket.tempCool → raised t 5 = false) ∧
      (trip - 10 ≤ h → s.ket.tempWarned = false → s.dom c.val ≤ 1 → (t.cpu (.core c)).supPend.getLsbD 3 = true))

/-- 17 R377 to R382: the Kettle takes events into its log, and software releases and submits records. -/
def Obligations.DregsLog : Prop :=
  ∀ (s : State) (c : Fin 16) (q : Requester) (v : Word) (r x : DRec) (m : DMatch) (rest : List DRec),
    let head := fun (t : State) => t.fl F.DREGS_STAT_HEAD 0
    let fill := fun (t : State) => t.fl F.DREGS_STAT_FILL 0
    let front := s.dregs.queue = r :: rest
    let match? := s.dregs.table.find? fun e => e.source == r.source && e.code == r.code && e.cls == r.cls
    let n := min (bitsOf v F.DREGS_RELEASE_N) (fill s)
    let oldest := head s + 1024 - fill s
    let kept := fun (t : State) => t.mem = s.mem ∧ t.cpus = s.cpus
    let good := isRing0 s (.core c) = true ∧ bitsOf v F.DREGS_SUBMIT_CLASS ≤ 2 ∧ 0x8000 ≤ bitsOf v F.DREGS_SUBMIT_CODE
    let offered := fun (cls code source : Nat) (software : Bool) => s.dregs.queue.length < 16 → Gives (.dregsSubmit (.core c) v) s fun t =>
      t.flds = s.flds ∧ kept t ∧ ∃ y, t.dregs = { s.dregs with queue := s.dregs.queue ++ [y] } ∧ y.cls = cls ∧
        y.code = code ∧ y.source = source ∧ y.time = fabCopy s ∧ y.est = !epochRuns s ∧ y.repeats = 0 ∧ y.software = software ∧
        (software = true → y.detail = bitsOf v F.DREGS_SUBMIT_DETAIL)
    (front → fill s < 896 → Gives .dregsEventTake s fun t => t.dregs.queue = rest ∧ logSlot t (head s) = some r ∧
      head t = (head s + 1) % 1024 ∧ fill t = fill s + 1 ∧ (fill s = 895 → signalled s t 237) ∧ kept t ∧
      ∀ i, i % 1024 ≠ head s % 1024 → logSlot t i = logSlot s i) ∧
    (front → 896 ≤ fill s → match? = some m → logSlot s m.slot = some x → x.repeats < 0xFFFF → Gives .dregsEventTake s fun t =>
      t.dregs.queue = rest ∧ logSlot t m.slot = some { x with repeats := x.repeats + 1 } ∧ t.flds = s.flds ∧ kept t) ∧
    (front → 1024 ≤ fill s → match? = none → r.cls ≤ 1 → Gives .dregsEventTake s fun t => t.dregs.queue = rest ∧
      t.dregs.slots = s.dregs.slots ∧ head t = head s ∧ fill t = fill s ∧ t.fl F.DREGS_LOSTL_LAST r.cls = r.time % 2 ^ 64 ∧
      (s.fl F.DREGS_LOST_COUNT r.cls = 0 → t.fl F.DREGS_LOST_COUNT r.cls = 1 ∧
        t.fl F.DREGS_LOSTF_FIRST r.cls = r.time % 2 ^ 64 ∧ signalled s t 238) ∧ kept t) ∧
    (front → fill s = 1024 → match? = none → 2 ≤ r.cls → r.cls ≤ 4 → logSlot s (head s) = some x → x.cls = 0 →
      Gives .dregsEventTake s fun t => t.dregs.queue = rest ∧ logSlot t (head s) = some { r with replaced := true } ∧
        head t = head s ∧ fill t = fill s ∧ t.fl F.DREGS_LOSTL_LAST 0 = x.time % 2 ^ 64 ∧ kept t) ∧
    (isRing0 s q = true → fill s ≤ 1024 → Gives (.dregsRelease q v) s fun t => fill t = fill s - n ∧ head t = head s ∧ kept t ∧
      (∀ k y, k < n → logSlot t (oldest + k) = some y → y.valid = false) ∧
      (∀ k, n ≤ k → k < 1024 → logSlot t (oldest + k) = logSlot s (oldest + k))) ∧
    (isRing0 s q = false → Gives (.dregsRelease q v) s fun t => fill t = fill s ∧ t.dregs.slots = s.dregs.slots ∧ kept t) ∧
    (good → offered (bitsOf v F.DREGS_SUBMIT_CLASS) (bitsOf v F.DREGS_SUBMIT_CODE) (0xF00 + c.val) true) ∧
    (¬ good → offered 1 0x90 5 false)

/-! ### The memory controller; cameras, the codec engine, PCIe -/

/-- 19 R404, R407, R408, R412, R413: the channels' initialisation, fill, scrub and refresh.
Where the spec is silent it follows the model's choices (log 13, 113, 117). -/
def Obligations.DramChannels : Prop :=
  ∀ (s : State) (q : Requester) (v : Word) (n : Fin 4) (bank : Fin 32) (rate : BitVec 5) (addr : BitVec 36) (a : Nat)
    (upset : Fin 3) (postpone : Bool) (part : Option Nat),
    let c := n.val
    let opens := openAt s 0xE00800008 ∧ isMachine s q = true
    let init := bitAt (bitsOf v F.MC_CTL_INIT) c = true
    let keep := bitsOf v F.MC_CTL_KEEP = 1
    let fill := bitAt (bitsOf v F.MC_CTL_FILL) c = true
    let trained := fun (t : State) => bitAt (t.fl F.MC_STAT_TRAINED 0) c
    let filling := fun (t : State) => bitAt (t.fl F.MC_STAT_FILLING 0) c
    let undef := fun (t : State) => t.dram.undef.getLsbD c
    let kept := fun (t : State) => t.mem = s.mem ∧ t.cpus = s.cpus
    let line := addr.toNat / 64 * 64
    let served := countEvent (serveBudgeted s c) 0x31 c none
    let flips := fun (t : State) => mget 0 t.dram.flips (line / 64)
    let owed := fun (t : State) => mget 0 t.dram.refreshes (32 * c + bank.val)
    let refreshes := trained s = true ∧ s.dram.selfRef.getLsbD c = false
    let puts := postpone = true ∧ owed s < 8 ∧ otherBankWaits s c bank.val = false
    (opens → init → Gives (.mcCtlInit q v) s fun t => trained t = false ∧ t.ready (29 + c) = false ∧
      t.dram.inInit.getLsbD c = true ∧ t.dram.usable = usableBytes (s.fl F.MC_CFG_CAP 0) ∧
      (¬ keep → undef t = true) ∧ channelWrites t c = [] ∧ (keep → trained s = true ∨ s.dram.selfRef.getLsbD c = true → undef t = undef s) ∧ kept t) ∧
    (opens → bitsOf v F.MC_CTL_INIT = 0 → fill → Gives (.mcCtlFill q v) s fun t => filling t = true ∧ trained t = trained s ∧
      (trained s = false → t.dram.fillHeld.getLsbD c = true) ∧ kept t) ∧
    (openAt s 0xE00800008 → isMachine s q = false → ∀ cmd ∈ [Instr.mcCtlInit q v, .mcCtlFill q v], Gives cmd s fun t =>
      t.dram = s.dram ∧ trained t = trained s ∧ filling t = filling s ∧ kept t) ∧
    (s.dram.inInit.getLsbD c = true → powered s (28 + c) = true → Gives (.channelTrained n) s fun t => trained t = true ∧
      t.ready (29 + c) = true ∧ t.dram.inInit.getLsbD c = false ∧ undef t = undef s ∧ kept t) ∧
    (filling s = true → trained s = true → Gives (.fillComplete n) s fun t => filling t = false ∧ undef t = false ∧
      (a < s.dram.usable → a / 256 % 4 = c → readByte t a = 0) ∧
      (s.dram.usable ≤ a ∨ a / 256 % 4 ≠ c → readByte t a = readByte s a) ∧ t.cpus = s.cpus) ∧
    (s.fl F.MC_SCRUB_PERIOD 0 ≠ 0 → target s line = .dram n → trained s = true → s.dram.selfRef.getLsbD c = false →
      lineBad served line = false → Gives (.scrubRead n addr upset) s fun t =>
        flips t = upset.val ∧ t = { served with dram := t.dram }) ∧
    (target s line = .dram n → lineUndef s line = false →
      (flips s = 0 → readLine s part line = .ok (readBytes s line 64) s) ∧
      (flips s = 1 → ∃ t, readLine s part line = .ok (readBytes s line 64) t ∧ flips t = 0 ∧ kept t) ∧
      (2 ≤ flips s → ∃ t, readLine s part line = .fail beEcc t ∧ flips t = flips s ∧ kept t)) ∧
    (Gives (.refresh n bank postpone) s fun t => kept t ∧ t.flds = s.flds ∧
      (refreshes → puts → owed t = owed s + 1) ∧ (refreshes → ¬ puts → owed t = 0) ∧ (¬ refreshes → t = s)) ∧
    (trained s = true → Gives (.refreshRateRead n rate) s fun t => mget 0 t.dram.refRate c = rate.toNat ∧ kept t ∧
      t.flds = s.flds)

/-- 22 R452 to R457, R464: camera inputs, the codec engine's ring and inbound PCIe requests.
Where the spec is silent it follows the model's choices (log 19, 20). -/
def Obligations.CamerasAndEngines : Prop :=
  ∀ (s : State) (q : Requester) (v : Word) (k : Fin 32) (start : BitVec 32) (vc : BitVec 2) (dt : BitVec 6) (headerOk crcOk isWrite ok : Bool)
    (bytes : List Byte) (n : Nat) (status : BitVec 32) (link : Fin 2) (addr : BitVec 64),
    let i := k.val
    let cam := camOf s i
    let on := inputOn s i = true
    let wanted := on ∧ cam.inFrame = true ∧ vc.toNat = s.fl F.CM_INCFG_VC i ∧ dt.toNat = s.fl F.CM_INCFG_DT i ∧
      dt.toNat ∈ csiTypes
    let line := Instr.csiPacket k start vc dt .line
    let off := camLineAt s i cam.line
    let cur := s.fl F.CM_INSTAT_CUR i
    let next := if s.fl F.CM_INCFG_NBUF i ≤ cur then 0 else cur + 1
    let advances := fun (t : State) => t.fl F.CM_INSTAT_CUR i = next % 8 ∧
      t.fl F.CM_INSTAT_FRAMES i = (s.fl F.CM_INSTAT_FRAMES i + 1) % 2 ^ 32
    let tail := bitsOf v F.CM_CQTAIL_TAIL
    let head := s.fl F.CM_CQTAIL_HEAD 0 % 64
    let write := s.fb F.CM_INCFG_WRITE i
    let tap := s.fb F.CM_INCFG_TAP i
    let job := s.cams.job = some n
    let jobOff := jobAt s n
    let read := dmaRead s 5 none jobOff 32
    let finished := ok = false ∨ jobLowlat read.1 = false ∨ jobSlices read.1 ≤ s.cams.slices
    let done := if jobLowlat read.1 = true then read.2 else codecData read.2 read.1
    let slice := jobLowlat read.1 = true ∧ s.cams.slices < jobSlices read.1 ∧ sliceStored read.2 read.1 = true
    let served := s.ready (208 + link.val) = true ∧ addr.toNat < 2 ^ 36 ∧ inRam s addr.toNat bytes.length = true
    (wanted → write = true → tap = false → mustWait s off bytes.length = false → Gives (line true crcOk bytes) s fun t =>
      t.mem = (dmaWrite s 5 none off bytes).mem ∧ camOf t i = { cam with line := cam.line + 1 } ∧
      (s.fl F.CM_INSTAT_CRCERR i < 255 → t.fl F.CM_INSTAT_CRCERR i = s.fl F.CM_INSTAT_CRCERR i + if crcOk then 0 else 1)) ∧
    (wanted → write = false → tap = true → Gives (line true crcOk bytes) s fun t =>
      camOf t i = { cam with line := cam.line + 1 } ∧ t.mem = s.mem ∧
      ((portOf s (40 + i / 2)).rx.length < 64 → rxUsed (portOf s (40 + i / 2)) + bytes.length ≤ rxCap (40 + i / 2) →
        ∃ f, (portOf t (40 + i / 2)).rx = (portOf s (40 + i / 2)).rx ++ [f] ∧ f.bytes = bytes ∧ f.err = !crcOk ∧
          f.tag = i % 2 + vc.toNat * 2 ∧ f.time = frameStart s start % 2 ^ 32) ∧
      (crcOk = false → (portOf t (40 + i / 2)).err = true)) ∧
    (¬ wanted ∨ headerOk = false → Gives (line headerOk crcOk bytes) s fun t => t = s) ∧
    (Gives (.csiPacket k start vc dt .other headerOk crcOk bytes) s fun t => t = s) ∧
    (on → Gives (.cameraFrameStart k) s fun t => camOf t i = { inFrame := true, line := 0 } ∧ t.mem = s.mem ∧
      (∀ f ∈ [F.CM_INCFG_WRITE, F.CM_INCFG_TAP, F.CM_INCFG_VC, F.CM_INCFG_DT, F.CM_INCFG_NBUF, F.CM_INBUF_BASE,
        F.CM_INBUF_STRIDE, F.CM_INBUF_BUFSZ], t.fl f i = s.shv f i % 2 ^ f.width) ∧
      (cam.inFrame = true → advances t ∧ signalled s t (320 + i) ∧ (s.fl F.CM_INSTAT_DROPPED i < 255 →
        t.fl F.CM_INSTAT_DROPPED i = s.fl F.CM_INSTAT_DROPPED i + 1)) ∧
      (cam.inFrame = false → t.fl F.CM_INSTAT_FRAMES i = s.fl F.CM_INSTAT_FRAMES i)) ∧
    (on → cam.inFrame = true → Gives (.cameraFrameEnd k) s fun t => (camOf t i).inFrame = false ∧ advances t ∧
      signalled s t (320 + i) ∧ t.mem = s.mem) ∧
    (openAt s 0xE03200008 → isRing0 s q = true → Gives (.cmCqtailWrite q v) s fun t => t.fl F.CM_CQTAIL_TAIL 0 = tail ∧
      (s.cams.job = none → head ≠ tail → t.cams.job = some (s.fl F.CM_CQTAIL_HEAD 0) ∧
        t.fl F.CM_CQTAIL_HEAD 0 = (head + 1) % 64) ∧
      (s.cams.job ≠ none ∨ head = tail → t.cams.job = s.cams.job ∧ t.fl F.CM_CQTAIL_HEAD 0 = s.fl F.CM_CQTAIL_HEAD 0)) ∧
    (job → mustWait s jobOff 32 = false → codecWaits read.2 read.1 = false → finished → Gives (.codecJobComplete ok status) s fun t =>
      t.mem = (dmaWrite done 5 none (jobOff + 28) (natBytes status.toNat 4)).mem ∧
      signalled s t (if ok then 352 else 354) ∧
      t.cams.job = (if head = s.fl F.CM_CQTAIL_TAIL 0 then none else some (s.fl F.CM_CQTAIL_HEAD 0))) ∧
    (job → mustWait s jobOff 32 = false → codecWaits read.2 read.1 = false → Gives .codecSliceReady s fun t => t.cams.job = s.cams.job ∧
      (slice → t.mem = (codecData read.2 read.1).mem ∧ t.cams.slices = s.cams.slices + 1 ∧ signalled s t 353) ∧
      (¬ slice → t = read.2)) ∧
    (served → mustWait s addr.toNat bytes.length = false →
      (bytes.length ≤ 256 → Gives (.pcieInboundRequest link addr true bytes) s fun t => t = dmaWrite s 6 none addr.toNat bytes) ∧
      (bytes.length ≤ 512 → Gives (.pcieInboundRequest link addr false bytes) s fun t =>
        t = (dmaRead s 6 none addr.toNat bytes.length).2)) ∧
    (¬ served ∨ (if isWrite then 256 else 512) < bytes.length →
      Gives (.pcieInboundRequest link addr isWrite bytes) s fun t => t = s)

/-! ### Displays and touch -/

/-- 21 R434 to R441: the display outputs.
Where the spec is silent it follows the model's choices (log 21, 22, 102, 103, 106). -/
def Obligations.DisplayOutputs : Prop :=
  ∀ (s : State) (q : Requester) (o : Fin 6) (l : Fin 8) (r : BitVec 12) (v : Word) (ok level : Bool) (edid : List Byte),
    let i := o.val
    let st := fun (t : State) => t.fl F.DP_OSTAT_STATE i
    let kept := fun (t : State) => t.mem = s.mem ∧ t.cpus = s.cpus
    let cfg := openAt s (0xE03000000 + 0x1000 * i) ∧ isRing0 s q = true
    let en := bitsOf v F.DP_OCFG_EN
    let was := s.fb F.DP_OCFG_EN i
    let hpd := s.fb F.DP_OSTAT_HPD i
    let amb := openAt s (0xE03000020 + 0x1000 * i)
    let frame := [F.DP_OCFG_LINE, F.DP_OCFG_BG, F.DP_SUN_SUNEN, F.DP_SUN_GAINMAX, F.DP_SUN_BLMIN, F.DP_SUN_BLMAX,
      F.DP_SUN_LUXLO, F.DP_SUN_LUXHI]
    let layer := [F.DP_LADDR_ADDR, F.DP_LADDR_STRIDE, F.DP_LGEOM_SRC, F.DP_LGEOM_DST, F.DP_LCTL_LEN, F.DP_LCTL_FMT,
      F.DP_LCTL_LALPHA, F.DP_LCTL_LFILL]
    let frame_ := (frameFetched s i).1
    let m := (frameFetched s i).2
    let aged := (dispOf m i).ambAge + 1
    let tmo := m.fl F.DP_AMB_AMBTMO i
    let top := m.shv F.DP_SUN_LUXHI i % 2 ^ 18
    let lo : Int := (m.shv F.DP_SUN_BLMIN i % 2 ^ 12 : Nat)
    let hi : Int := (m.shv F.DP_SUN_BLMAX i % 2 ^ 12 : Nat)
    let lux : Int := (min (m.fl F.DP_AMB_LUX i) top : Nat)
    let runs := st s = 2 ∧ clockFails s (12 + i) = false
    let due := lineNeeded s i l.val r.toNat = true ∧ (l.val, r.toNat) ∉ (dispOf s i).late
    (cfg → en = 1 → was = false → Gives (.dpOcfgEnable q o v) s fun t => st t = (if i < 4 then 1 else 2) ∧
      t.fb F.DP_OCFG_EN i = true ∧ t.fl F.DP_CRC_FRAME i = 0 ∧ t.fl F.DP_OCFG_BG i = bitsOf v F.DP_OCFG_BG ∧ kept t) ∧
    (cfg → en = 1 → was = true → Gives (.dpOcfgEnable q o v) s fun t => st t = st s ∧
      t.fl F.DP_OCFG_BG i = s.fl F.DP_OCFG_BG i ∧ t.shv F.DP_OCFG_BG i = bitsOf v F.DP_OCFG_BG ∧ kept t) ∧
    (cfg → en = 0 → was = true → Gives (.dpOcfgEnable q o v) s fun t => st t = 0 ∧ kept t) ∧
    (openAt s (0xE03000000 + 0x1000 * i) → isRing0 s q = false → Gives (.dpOcfgEnable q o v) s fun t => st t = st s ∧
      t.fb F.DP_OCFG_EN i = was ∧ kept t) ∧
    (st s = 1 → Gives (.displayLinkTrainingDone o ok edid) s fun t => st t = (if ok then 2 else 3) ∧
      signalled s t (291 + 4 * i) ∧ kept t ∧
      ∀ j, j < 64 → t.fl F.DP_EDID_DATA (64 * i + j) = bytesNat ((edid.drop (8 * j)).take 8) % 2 ^ 64) ∧
    (hpd ≠ level → Gives (.hpdChange o level) s fun t => t.fb F.DP_OSTAT_HPD i = level ∧ signalled s t (291 + 4 * i) ∧ kept t ∧
      st t = (if level = true ∧ (dispOf s i).blanked = true ∧ was = true ∧ st s ≠ 0 then 1 else st s)) ∧
    (i < 4 → hpd = false → st s ≠ 0 → Gives (.hpdLoss o) s fun t => (dispOf t i).blanked = true ∧ t.flds = s.flds ∧ kept t) ∧
    (runs → Gives (.displayFrameBoundary o) s fun t =>
      ((dispOf s i).blanked = false → t.fl F.DP_CRC_CRC i = frameCrc (framePixels m i frame_) % 2 ^ 32) ∧
      (dispOf t i).sent = (if (dispOf m i).blanked = true then [] else sunFrame (dispOf m i) (framePixels m i frame_)) ∧
      (i < 4 → t.fb F.DP_OCFG_MODE i = true → ∃ b, (dispOf t i).panel = some b ∧ t.fl F.DP_OSTAT_BL i = b % 2 ^ 12) ∧
      (dispOf t i).late = [] ∧ (t.fb F.DP_SUN_SUNEN i = false → (dispOf t i).curves = []) ∧
      t.fl F.DP_CRC_FRAME i = (m.fl F.DP_CRC_FRAME i + 1) % 2 ^ 32 ∧ signalled m t (288 + 4 * i) ∧
      (∀ f ∈ frame, t.fl f i = m.shv f i % 2 ^ f.width) ∧
      (∀ f ∈ layer, t.fl f (8 * i + l.val) = m.shv f (8 * i + l.val) % 2 ^ f.width) ∧
      (m.shv F.DP_SUN_SUNEN i % 2 = 0 → (t.fl F.DP_OSTAT_BL i : Int) = hi) ∧
      (m.shv F.DP_SUN_SUNEN i % 2 = 1 → 0 < top → t.fl F.DP_OSTAT_BL i = (lo + (hi - lo) * lux / (top : Int)).toNat % 2 ^ 12) ∧
      (tmo ≠ 0 → tmo ≤ aged → t.fb F.DP_OSTAT_AMBSTALE i = true) ∧
      (tmo = 0 ∨ aged < tmo → t.fb F.DP_OSTAT_AMBSTALE i = m.fb F.DP_OSTAT_AMBSTALE i) ∧ t.mem = m.mem ∧ t.cpus = s.cpus) ∧
    (runs → Gives (.displayLine o) s fun t => signalled s t (289 + 4 * i) ∧ st t = 2 ∧ kept t) ∧
    (runs → due → Gives (.layerUnderrun o l r) s fun t => (l.val, r.toNat) ∈ (dispOf t i).late ∧ signalled s t (290 + 4 * i) ∧ kept t ∧
      (s.fl F.DP_OSTAT_UNDERRUN i < 255 → t.fl F.DP_OSTAT_UNDERRUN i = s.fl F.DP_OSTAT_UNDERRUN i + 1)) ∧
    (amb → isRing0 s q = true ∨ (∃ n, q = .infuser n) → Gives (.dpAmbWrite q o v) s fun t =>
      t.fl F.DP_AMB_LUX i = bitsOf v F.DP_AMB_LUX ∧
      t.fl F.DP_AMB_AMBTMO i = (if isRing0 s q = true then bitsOf v F.DP_AMB_AMBTMO else s.fl F.DP_AMB_AMBTMO i) ∧
      (dispOf t i).ambAge = 0 ∧ t.fb F.DP_OSTAT_AMBSTALE i = false ∧ kept t)

/-- 21 R442 to R446: the touch front ends.
Where the spec is silent it follows the model's choices (log 123). -/
def Obligations.TouchFrontEnds : Prop :=
  ∀ (s : State) (q : Requester) (u : Fin 2) (v : Word) (noises : List Nat) (contacts : List Contact) (n : Fin 10) (c : Contact)
    (e : Touched) (tracks now : List Touched),
    let i := u.val
    let x := touchOf s i
    let on := s.fb F.TC_CFG_EN i = true
    let cfg := openAt s (0xE03100000 + 0x1000 * i) ∧ isRing0 s q = true
    let en := bitsOf v F.TC_CFG_EN
    let poured := [F.TC_CFG_RATE, F.TC_CFG_CYC, F.TC_CFG_SELF, F.TC_CFG_GLOVE, F.TC_CFG_WATER, F.TC_CFG_HOP, F.TC_CFG_THR,
      F.TC_CFG_SELFTHR, F.TC_CFG_NOISETHR, F.TC_HOP_F0, F.TC_HOP_F1, F.TC_HOP_F2, F.TC_HOP_F3, F.TC_HOP_F4, F.TC_HOP_F5,
      F.TC_HOP_F6, F.TC_HOP_F7]
    let noise := noises.getD (s.fl F.TC_STAT_FIDX i) 0
    let hop := s.fb F.TC_CFG_HOP i
    let loud := s.fl F.TC_CFG_NOISETHR i < noise
    let kept := fun (t : State) => t.mem = s.mem ∧ t.cpus = s.cpus
    let k := 10 * i + n.val
    let entry := fun (t : State) (f : Fld) => t.fl f k
    let glove := s.fb F.TC_CFG_GLOVE i = true ∧ 16 ≤ s.fl F.TC_CFG_CYC i
    let thr := s.fl F.TC_CFG_THR i
    let selfThr := s.fl F.TC_CFG_SELFTHR i
    let found := contacts.filter (isFound s i)
    let films := found.filter (isFilm s i)
    let report := (reportOf x.tracks now).1
    let ids := fun (ts : List Touched) => ts.map (·.id)
    (cfg → en = 1 → ¬ on → Gives (.tcCfgEnable q u v) s fun t => (touchOf t i).scanning = true ∧ t.fl F.TC_STAT_SEQ i = 0 ∧
      t.fl F.TC_CFG_RATE i = bitsOf v F.TC_CFG_RATE ∧ t.fl F.TC_CFG_THR i = bitsOf v F.TC_CFG_THR ∧ kept t) ∧
    (cfg → en = 1 → on → Gives (.tcCfgEnable q u v) s fun t => t.fl F.TC_CFG_THR i = s.fl F.TC_CFG_THR i ∧
      t.shv F.TC_CFG_THR i = bitsOf v F.TC_CFG_THR ∧ t.touch = s.touch ∧ kept t) ∧
    (cfg → en = 0 → on → Gives (.tcCfgEnable q u v) s fun t => touchOf t i = {} ∧ t.fb F.TC_CFG_EN i = false ∧ kept t) ∧
    (on → x.scanning = false → Gives (.touchScanStart u) s fun t => (touchOf t i).scanning = true ∧
      (∀ f ∈ poured, t.fl f i = s.shv f i % 2 ^ f.width) ∧
      t.fl F.TC_STAT_FIDX i = (if t.fb F.TC_CFG_HOP i = true then x.next % 8 else 0) ∧
      (t.fb F.TC_CFG_GLOVE i = true → t.fl F.TC_CFG_CYC i < 16 → t.fb F.TC_STAT_CFGERR i = true ∧
        (s.fb F.TC_STAT_CFGERR i = false → signalled s t (315 + 4 * i))) ∧ kept t) ∧
    ((glove → (isFound s i c = true ↔ thr ≤ 16 * c.signal.toNat)) ∧ (¬ glove → (isFound s i c = true ↔ thr ≤ c.signal.toNat)) ∧
      (isFilm s i c = true ↔ s.fb F.TC_CFG_WATER i = true ∧ s.fb F.TC_CFG_SELF i = true ∧
        ¬ (selfThr < c.selfDrive.toNat ∧ selfThr < c.selfSense.toNat))) ∧
    (x.scanning = true → Gives (.touchScanEnd u contacts noises) s fun t => (touchOf t i).scanning = false ∧
      t.fl F.TC_STAT_PERIOD i = scanPeriod s i ∧ (touchOf t i).wet = !films.isEmpty ∧
      (touchOf t i).found = some ((found.filter fun c => !isFilm s i c).map (touched s i)) ∧
      ((∃ f ∈ films, 100 ≤ f.size.toNat) → x.wetRaised = false → (touchOf t i).wetRaised = true ∧ signalled s t (314 + 4 * i)) ∧
      (films = [] → (touchOf t i).wetRaised = false) ∧
      (hop = true → loud → 1 ≤ x.noisy → (touchOf t i).next = quietest (noises.take 8) ∧ signalled s t (313 + 4 * i)) ∧
      (hop = true → loud → x.noisy = 0 → (touchOf t i).noisy = 1 ∧ (touchOf t i).next = x.next) ∧
      (hop = false ∨ ¬ loud → (touchOf t i).noisy = 0 ∧ (touchOf t i).next = x.next) ∧ kept t) ∧
    (on → x.found = some now → Gives (.touchReport u) s fun t => t.fl F.TC_STAT_SEQ i = (s.fl F.TC_STAT_SEQ i + 1) % 2 ^ 32 ∧
      t.fb F.TC_STAT_OVERFLOW i = (reportOf x.tracks now).2 ∧ t.fb F.TC_STAT_WETFLAG i = x.wet ∧
      (report[n.val]? = none → entry t F.TC_REP_VALID = 0 ∧ entry t F.TC_REP_X = 0 ∧ entry t F.TC_REP_ID = 0) ∧
      (report[n.val]? = some e → entry t F.TC_REP_VALID = 1 ∧ entry t F.TC_REP_X = e.x % 2 ^ 12 ∧
        entry t F.TC_REP_Y = e.y % 2 ^ 12 ∧ entry t F.TC_REP_ID = e.id % 16 ∧ entry t F.TC_REP_SIZE = e.size % 256 ∧
        entry t F.TC_REP_SIGNAL = e.signal % 2 ^ 12 ∧ t.fb F.TC_REP_GLOVED k = e.gloved ∧ t.fb F.TC_REP_NEW k = e.fresh ∧
        t.fb F.TC_REP_LIFT k = e.lift) ∧ (touchOf t i).tracks = report.filter (fun c => !c.lift) ∧
      signalled s t (312 + 4 * i) ∧ kept t) ∧
    (on → x.found = none → Gives (.touchReport u) s fun t => t = s) ∧
    (tracks.length ≤ 10 → (ids tracks).Nodup → (reportOf tracks now).1.length ≤ 10 ∧ (ids (reportOf tracks now).1).Nodup ∧
      ∀ a ∈ tracks, (∀ b ∈ now, b.mark ≠ a.mark) → ∃ b ∈ (reportOf tracks now).1, b.id = a.id ∧ b.lift = true)

/-! ### Debug and the counters -/

/-- 23 R467 to R475, R486, R488: the end of the grant, reset catch, the debug controls of a core, and the counters'
registers.
Where the spec is silent it follows the model's choices (log 31). -/
def Obligations.DebugControl : Prop :=
  ∀ (s : State) (q : Requester) (c : Fin 16) (n : Fin 32) (v : Word),
    let k := s.cpu (.core c)
    let grant := [F.DB_GRANT_LEVEL, F.DB_GRANT_PORT, F.DB_GRANT_ONCHIP, F.DB_GRANT_UNTIMED, F.DB_GRANTMASK_PMASK]
    let runs := fun (t : State) => (t.cpu (.core c)).run = (if k.run = .held then .running else k.run) ∧
      t.fl F.DB_CATCH_HELD 0 = 0
    let ended := fun (t : State) => (∀ f ∈ grant, t.fl f 0 = 0) ∧ t.fl F.DB_CORECTL_STEP c.val = 0 ∧
      t.fl F.DB_CORECTL_SKIP c.val = 0 ∧ (t.cpu (.core c)).dbgReq = false ∧ (t.cpu (.core c)).stepBank = none ∧ runs t ∧
      signalled s t 272 ∧ t.mem = s.mem
    let full := q = .debugPort ∧ s.fb F.DB_GRANT_PORT 0 = true ∧ 2 ≤ s.fl F.DB_GRANT_LEVEL 0
    let exact := full ∧ s.fl F.DB_GRANT_LEVEL 0 = 2
    let some_ := s.fl F.DB_GRANT_LEVEL 0 ≠ 0
    let open_ := openAt s 0xE05000000
    let catches := openAt s 0xE05000010
    let key := bitsOf v F.DB_CATCH_KEY
    let cores := if bitAt (s.fl F.DB_GRANTMASK_PMASK 0) 0 = true then bitsOf v F.DB_CATCH_CORES else s.fl F.DB_CATCH_CORES 0
    let ctl := openAt s (0xE05010000 + 0x100 * c.val)
    let may := isMachine s q = true ∨ full ∨ fullRing0 s q = true
    let asks := bitsOf v F.DB_CORECTL_REQUEST = 1 ∧ q = .debugPort ∧ k.dbgctl.getLsbD 0 = true ∧
      bitAt (s.fl F.DB_GRANTMASK_PMASK 0) (partOf s c) = true
    let controls := [Instr.dbCorectlStep q c v, .dbCorectlSkip q c v, .dbCorectlRequest q c v]
    (some_ → Gives .grantExpiry s fun t => ended t ∧ (s.fb F.DB_GRANT_UNTIMED 0 = true → s.dbg.ends ≤ kclkSeconds t) ∧
      (s.fb F.DB_GRANT_UNTIMED 0 = false → ∀ r, t.sup.rtc = some r → s.dbg.ends ≤ rtcSeconds r)) ∧
    (¬ some_ → Gives .grantExpiry s fun t => t = s) ∧
    (open_ → isRing0 s q = true ∨ full → some_ → Gives (.dbGrantRevoke q) s ended) ∧
    (open_ → isRing0 s q = false → ¬ full → Gives (.dbGrantRevoke q) s fun t => (∀ f ∈ grant, t.fl f 0 = s.fl f 0) ∧
      t.cpus = s.cpus) ∧
    (catches → exact → bitsOf v F.DB_CATCH_RELEASE = 1 → key ≠ 0x4442 → Gives (.dbCatchRelease q v) s fun t => runs t ∧
      t.fl F.DB_CATCH_CORES 0 = cores ∧ t.mem = s.mem ∧ t.warm = s.warm) ∧
    (catches → exact → key = 0x4442 → supplied s → s.warm.active = false → s.fb F.KT_SUPPLY_CARRIED 0 = false →
      Gives (.dbCatchDbr q v) s fun t => t.warm.active = true ∧ t.fl F.KT_RSTCAUSE_LAST 0 = 5 ∧
        t.dbg.marked = BitVec.ofNat 16 cores) ∧
    (catches → q ≠ .debugPort → ∀ cmd ∈ [Instr.dbCatchRelease q v, .dbCatchDbr q v], Gives cmd s fun t =>
      t.fl F.DB_CATCH_CORES 0 = s.fl F.DB_CATCH_CORES 0 ∧ t.warm = s.warm ∧ t.cpus = s.cpus) ∧
    (ctl → may → ∀ cmd ∈ controls, Gives cmd s fun t => t.fl F.DB_CORECTL_STEP c.val = bitsOf v F.DB_CORECTL_STEP ∧
      t.fl F.DB_CORECTL_SKIP c.val = bitsOf v F.DB_CORECTL_SKIP ∧ (t.cpu (.core c)).stepBank = none ∧
      ((t.cpu (.core c)).dbgReq = true ↔ k.dbgReq = true ∨ asks) ∧ t.mem = s.mem) ∧
    (ctl → ¬ may → ∀ cmd ∈ controls, Gives cmd s fun t => t.fl F.DB_CORECTL_STEP c.val = s.fl F.DB_CORECTL_STEP c.val ∧
      t.fl F.DB_CORECTL_SKIP c.val = s.fl F.DB_CORECTL_SKIP c.val ∧ t.cpus = s.cpus) ∧
    (openAt s (0xE06000008 + 0x10 * n.val) → isMachine s q = true → Gives (.pcCntWrite q n v) s fun t =>
      t.fl F.PC_CNT_COUNT n.val = bitsOf v F.PC_CNT_COUNT ∧
      t.fb F.PC_CNT_OVF n.val = (s.fb F.PC_CNT_OVF n.val && !v.getLsbD 48) ∧ t.mem = s.mem ∧ t.cpus = s.cpus) ∧
    (openAt s (0xE06000008 + 0x10 * n.val) → isMachine s q = false → Gives (.pcCntWrite q n v) s fun t =>
      t.fl F.PC_CNT_COUNT n.val = s.fl F.PC_CNT_COUNT n.val)

/-- 16 R348, 23 R467 to R471: the instructions of the debug port. The identity's manufacturer code is the model's free value
(log 8).
Where the spec is silent it follows the model's choices (log 12). -/
def Obligations.DebugPort : Prop :=
  ∀ (s : State) (addr : BitVec 36) (isWrite sigOk : Bool) (data : Word) (body : List Byte) (n : Nat) (s1 : State),
    let c := certOf body
    let ir := fun (code : BitVec 8) => { s with dbg := { s.dbg with ir := code } }
    let off := addr.toNat
    let s' := ir 0x12
    let refused := fun (status : Nat) => Gives (.access addr isWrite data) s fun t =>
      t = { s with dbg := { s.dbg with ir := 0x12, status := status } }
    let level := if s.fb F.DB_GRANT_PORT 0 = true then s.fl F.DB_GRANT_LEVEL 0 else 0
    let aligned := off % 8 = 0
    let full := 2 ≤ level
    let lc := s.fl F.LC_STATE_STATE 0
    let formed := c.version = 0x0100 ∧ (c.level = 1 ∨ c.level = 2) ∧ c.reserved = 0 ∧ c.scope.toNat < 4
    let bound := lc ≠ 5 ∧ c.serial = Config.serial ∧ c.lc.toNat = lc
    let grant := [F.DB_GRANT_LEVEL, F.DB_GRANT_PORT, F.DB_GRANT_ONCHIP, F.DB_GRANT_UNTIMED, F.DB_GRANTMASK_PMASK]
    let taken := serves s 0 = true ∧ body.length = 136
    let fails := fun (status : Nat) => Gives (.cert body sigOk) s fun t => t.fl F.DB_GRANT_STATUS 0 = status ∧
      (∀ f ∈ grant, t.fl f 0 = s.fl f 0) ∧ signalled s t 272 ∧ t.mem = s.mem ∧ t.cpus = s.cpus
    let valid := ∀ us, s.sup.rtc = some us → c.notBefore.toNat ≤ us / 1000000 ∧ us / 1000000 < c.expiry.toNat
    (Gives .bypass s fun t => t = ir 0xFF) ∧
    (Gives .samplePreload s fun t => t = ir 0x02) ∧
    (lc ≤ 1 → Gives .extest s fun t => t = ir 0x00) ∧ (1 < lc → Gives .extest s fun t => t = ir 0xFF) ∧
    (Gives .idcode s fun t => t.dbg.ir = 0x01 ∧ t.flds = s.flds ∧ t.mem = s.mem ∧
      ∃ m, m < 2 ^ 11 ∧ t.dbg.data = BitVec.ofNat 64 (1 + m * 2 + 0x7160 * 2 ^ 12 + 2 * 2 ^ 28)) ∧
    (off ∈ kstatRegs → Gives (.kstat addr) s fun t =>
      t = { s with dbg := { s.dbg with ir := 0x10, data := BitVec.ofNat 64 (regRead (ir 0x10) off) } }) ∧
    (inLog off = true → aligned → Gives (.kstat addr) s fun t => t =
      { s with dbg := { s.dbg with ir := 0x10, data := BitVec.ofNat 64 (cut (logWord s ((off - 0xE00008000) / 32)) (off % 32) 8) } }) ∧
    (¬ taken → Gives (.cert body sigOk) s fun t => t = ir 0x11) ∧
    (taken → formed → bound → sigOk = true → valid → Gives (.cert body sigOk) s fun t =>
      t.fl F.DB_GRANT_STATUS 0 = 0 ∧ t.fl F.DB_GRANT_LEVEL 0 = c.level.toNat ∧ t.fl F.DB_GRANT_PORT 0 = c.scope.toNat % 2 ∧
      t.fl F.DB_GRANT_ONCHIP 0 = c.scope.toNat / 2 ∧ t.fl F.DB_GRANTMASK_PMASK 0 = c.pmask.toNat ∧
      t.fb F.DB_GRANT_UNTIMED 0 = s.sup.rtc.isNone ∧ signalled s t 272 ∧ t.mem = s.mem ∧
      t.dbg.ends = (if s.sup.rtc.isNone then s.time / 1000000000 + 3600 else c.expiry.toNat)) ∧
    (taken → formed → bound → sigOk = false → fails 4) ∧
    (taken → lc ≠ 5 → ¬ formed → fails 2) ∧
    (taken → formed → ¬ bound → fails 3) ∧
    (level = 0 → refused 1) ∧
    (level = 1 → isWrite = true → off < 0xE05020000 ∨ 0xE05020030 ≤ off → refused 1) ∧
    (full → ¬ aligned → refused 4) ∧
    (full → aligned → target s off = .hole → refused 3) ∧
    (full → aligned → isWrite = false → target s off = .reg → deviceRead s' .debugPort off 8 = .ok n s1 →
      Gives (.access addr isWrite data) s fun t => t = { s1 with dbg := { s1.dbg with status := 0, data := BitVec.ofNat 64 n } }) ∧
    (full → aligned → isWrite = true → target s off = .reg → deviceWrite s' .debugPort off 8 data = .ok () s1 →
      Gives (.access addr isWrite data) s fun t => t = { s1 with dbg := { s1.dbg with status := 0 } }) ∧
    (full → aligned → isWrite = false → target s off = .scratch → mirrorStalls s (off / 64) = false →
      snoopRead s' 7 none 0 off 8 = .ok n s1 → Gives (.access addr isWrite data) s fun t =>
        t = { s1 with dbg := { s1.dbg with status := 0, data := BitVec.ofNat 64 n } }) ∧
    (full → aligned → isWrite = false → target s off = .scratch → mirrorStalls s (off / 64) = false →
      snoopRead s' 7 none 0 off 8 = .fail beStrainer s1 → Gives (.access addr isWrite data) s fun t =>
        t = { s1 with dbg := { s1.dbg with status := 2, data := 0 } })

/-! ### The machine -/

/-- A step takes the command at the front of the queue, and is that command with the queue's rest. -/
def Obligations.StepRunsFront : Prop :=
  ∀ (c : Instr) (rest : List Instr) (s : State), step { s with pending := c :: rest } = exec c { s with pending := rest }

/-- With no command waiting, a step is one microsecond in which fabric time runs, by a correction of at most 1000 ppm
(14 R298): the model's choice (log 3). Nothing else waits: no packet, no trace record. -/
def Obligations.IdleStep : Prop :=
  ∀ (s : State), s.pending = [] →
    let now := s.fl F.EP_NOW_VALUE 0
    let counts := s.ready 41 = true ∧ sclkStopped s = false
    (s.sup.por = true → step s = .next s) ∧
    (s.sup.por = false → s.router.waiting = [] → s.trace.fifo = [] → s.trace.lost = 0 → ∃ t, step s = .next t ∧
      t.pending = [] ∧ t.time = s.time + 1000 ∧
      (¬ counts → t.fl F.EP_NOW_VALUE 0 = now) ∧
      (counts → s.fl F.EP_ASCFG_MODE 0 ≠ 2 → s.ep.rate = 0 → s.ep.slew = 0 → s.ep.frac < 2 ^ 32 →
        t.fl F.EP_NOW_VALUE 0 = (now + 1000) % 2 ^ 64 ∧ t.ep.frac = s.ep.frac) ∧
      (counts → s.ep.frac < 2 ^ 32 → now < 2 ^ 63 → now + 999 ≤ t.fl F.EP_NOW_VALUE 0 ∧ t.fl F.EP_NOW_VALUE 0 ≤ now + 1001) ∧
      t.sup.rtc = s.sup.rtc.map (· + 1) ∧
      (s.fb F.KT_WDCFG_EN 0 = true → s.fl F.KT_WDKICK_ELAPSED 0 + 1 < max 1 (s.fl F.KT_WDCFG_TMO 0) →
        t.fl F.KT_WDKICK_ELAPSED 0 = (s.fl F.KT_WDKICK_ELAPSED 0 + 1) % 2 ^ 24))

/-- No command of the table ends in a fault or a refusal, in any state. -/
def Obligations.EveryCommandAnswers : Prop := ∀ (c : Instr) (s : State), ∃ t, exec c s = .next t

/-- What every step keeps: memory and the processors stay in their canonical form, so that equal contents are equal data,
and the commands that wait are those that waited, but for the one that ran. The forms are the model's own (log 1). -/
def Obligations.StepKeepsForm : Prop := ∀ (s t : State) (q : List Instr), Kept q s → step s = .next t → Kept q.tail t

/-- The state after reset has the form that every step keeps. -/
def Obligations.ResetHasForm : Prop := Kept [] State.reset

/-- 03 R61, R66, 17 R364: registers after power is first applied, as the reset column of their tables gives them; no
processor runs, every link is down and every safe output is high-impedance.
Where the spec is silent it follows the model's choices (log 2, 9). -/
def Obligations.ResetValues : Prop :=
  (∀ e ∈ [(F.KT_RSTCAUSE_LAST, 0), (F.KT_RSTCAUSE_COUNT, 0), (F.KT_SAFECTL_HELD, 1), (F.KT_SAFECTL_ARMED, 0),
      (F.KT_SAFECTL_LOCK, 0), (F.KT_SAFELVL_LVL, 0xAAAAAAAAAAAAAAAA), (F.KT_SOVAL_OE, 0), (F.KT_TEMP_TRIP, 125),
      (F.KT_WDCFG_EN, 0), (F.KT_WDCFG_TMO, 1000), (F.MR_CFG_PARTNER, 0x3FFFE), (F.MR_STAT_ROLE, 0), (F.EP_CFG_EN, 0),
      (F.DB_GRANT_LEVEL, 0), (F.DREGS_STAT_FILL, 0), (F.MC_SCRUB_PERIOD, 24), (F.DP_OCFG_BPC, 1)],
    State.reset.fl e.1 0 = e.2) ∧
  (∀ p : Proc, (State.reset.cpu p).run = .inReset) ∧
  (∀ n, n < 32 → safeOut State.reset n = none) ∧
  (∀ n, n < 34 → lstate State.reset n = 0) ∧
  (∀ k, k < 4 → State.reset.fl F.KT_READY_READY k = 0)
end

