-- ==== Sys2Proof/Laws/FMap.lean ====
section
/-! SUPPORT. Laws of sparse data: a read after a write, and the canonical form. -/

namespace Sys2Proof.Machine

variable {α : Type}

@[simp] theorem mget_nil (d : α) (k : Nat) : mget d [] k = d := rfl

theorem mget_mdel_same (d : α) (m : FMap α) (k : Nat) : mget d (mdel m k) k = d := by
  induction m with
  | nil => rfl
  | cons e m ih =>
    obtain ⟨k', v⟩ := e
    by_cases h : k' = k
    · simpa [mdel, h] using ih
    · simpa [mdel, mget, h] using ih

theorem mget_mdel_ne (d : α) (m : FMap α) {k k' : Nat} (h : k ≠ k') : mget d (mdel m k) k' = mget d m k' := by
  induction m with
  | nil => rfl
  | cons e m ih =>
    obtain ⟨j, v⟩ := e
    by_cases hj : j = k
    · subst hj
      simpa [mdel, mget, h] using ih
    · by_cases hk : j = k'
      · subst hk
        simp [mdel, mget, hj]
      · simpa [mdel, mget, hj, hk] using ih

theorem mget_mput_same (d : α) (m : FMap α) (k : Nat) (v : α) : mget d (mput m k v) k = v := by
  induction m with
  | nil => simp [mput, mget]
  | cons e m ih =>
    obtain ⟨j, w⟩ := e
    by_cases h1 : k < j
    · simp [mput, mget, h1]
    · by_cases h2 : k = j
      · simp [mput, mget, h2]
      · simpa [mput, mget, h1, h2, Ne.symm h2] using ih

theorem mget_mput_ne (d : α) (m : FMap α) {k k' : Nat} (v : α) (h : k ≠ k') : mget d (mput m k v) k' = mget d m k' := by
  induction m with
  | nil => simp [mput, mget, h]
  | cons e m ih =>
    obtain ⟨j, w⟩ := e
    by_cases h1 : k < j
    · simp [mput, mget, h1, h]
    · by_cases h2 : k = j
      · subst h2
        simp [mput, mget, h]
      · by_cases h3 : j = k'
        · subst h3
          simp [mput, mget, h1, h]
        · simpa [mput, mget, h1, h2, h3] using ih

/-- What is written is what is read. -/
@[simp] theorem mget_mset_same [DecidableEq α] (d : α) (m : FMap α) (k : Nat) (v : α) : mget d (mset d m k v) k = v := by
  by_cases h : v = d
  · simp [mset, h, mget_mdel_same]
  · simp [mset, h, mget_mput_same]

/-- Every other key reads as before. -/
@[simp] theorem mget_mset_ne [DecidableEq α] (d : α) (m : FMap α) {k k' : Nat} (v : α) (h : k ≠ k') :
    mget d (mset d m k v) k' = mget d m k' := by
  by_cases hv : v = d
  · simp [mset, hv, mget_mdel_ne d m h]
  · simp [mset, hv, mget_mput_ne d m v h]

theorem mget_mset [DecidableEq α] (d : α) (m : FMap α) (k k' : Nat) (v : α) :
    mget d (mset d m k v) k' = if k = k' then v else mget d m k' := by
  by_cases h : k = k'
  · subst h; simp
  · simp [h]

/-! ### The canonical form -/

/-- A lower bound that is weaker keeps the form. -/
theorem mwfFrom_mono [DecidableEq α] (d : α) (m : FMap α) {b b' : Option Nat}
    (h : ∀ k, (match b with | none => True | some x => x < k) → (match b' with | none => True | some x => x < k))
    (w : mwfFrom d b m = true) : mwfFrom d b' m = true := by
  cases m with
  | nil => rfl
  | cons e m =>
    obtain ⟨k, v⟩ := e
    simp only [mwfFrom, Bool.and_eq_true, decide_eq_true_eq] at w ⊢
    refine ⟨⟨?_, w.1.2⟩, w.2⟩
    have := h k
    cases b <;> cases b' <;> simp_all

theorem mwfFrom_none [DecidableEq α] (d : α) (m : FMap α) (b : Option Nat) (w : mwfFrom d b m = true) :
    mwfFrom d none m = true := mwfFrom_mono d m (fun _ _ => trivial) w

theorem mwfFrom_mdel [DecidableEq α] (d : α) (m : FMap α) (k : Nat) :
    ∀ b, mwfFrom d b m = true → mwfFrom d b (mdel m k) = true := by
  induction m with
  | nil => intro b _; rfl
  | cons e m ih =>
    obtain ⟨j, v⟩ := e
    intro b w
    simp only [mwfFrom, Bool.and_eq_true, decide_eq_true_eq] at w
    by_cases h : j = k
    · simp only [mdel, h, if_true]
      refine ih b (mwfFrom_mono d m ?_ w.2)
      intro x hx
      have h1 := w.1.1
      cases b <;> simp_all <;> omega
    · simp only [mdel, h, if_false, mwfFrom, Bool.and_eq_true, decide_eq_true_eq]
      exact ⟨w.1, ih _ w.2⟩

theorem mwfFrom_mput [DecidableEq α] (d : α) (m : FMap α) (k : Nat) (v : α) (hv : v ≠ d) :
    ∀ b, (match b with | none => True | some x => x < k) → mwfFrom d b m = true → mwfFrom d b (mput m k v) = true := by
  induction m with
  | nil =>
    intro b hb _
    cases b <;> simp_all [mput, mwfFrom]
  | cons e m ih =>
    obtain ⟨j, w⟩ := e
    intro b hb hw
    simp only [mwfFrom, Bool.and_eq_true, decide_eq_true_eq] at hw
    by_cases h1 : k < j
    · cases b <;> simp_all [mput, mwfFrom]
    · by_cases h2 : k = j
      · subst h2
        cases b <;> simp_all [mput, mwfFrom]
      · have h3 : j < k := by omega
        have := ih (some j) h3 hw.2
        simp only [mput, h1, h2, if_false, mwfFrom, Bool.and_eq_true, decide_eq_true_eq]
        exact ⟨hw.1, this⟩

/-- A write keeps the canonical form. -/
@[simp] theorem mwf_mset [DecidableEq α] (d : α) (m : FMap α) (k : Nat) (v : α) (h : mwf d m = true) :
    mwf d (mset d m k v) = true := by
  unfold mset
  split
  · exact mwfFrom_mdel d m k none h
  · exact mwfFrom_mput d m k v ‹_› none trivial h

theorem mdel_none (d : α) [DecidableEq α] (m : FMap α) (k : Nat) : mwf d m = true → mget d m k = d → mdel m k = m := by
  unfold mwf
  generalize none = b
  induction m generalizing b with
  | nil => intro _ _; rfl
  | cons e m ih =>
    obtain ⟨j, v⟩ := e
    intro w h
    simp only [mwfFrom, Bool.and_eq_true, decide_eq_true_eq] at w
    by_cases hj : j = k
    · simp only [mget, hj, if_true] at h
      exact absurd h w.1.2
    · simp only [mget, hj, if_false] at h
      simp only [mdel, hj, if_false, ih _ w.2 h]

theorem mput_same (d : α) [DecidableEq α] (m : FMap α) (k : Nat) :
    ∀ b, mwfFrom d b m = true → mget d m k ≠ d → mput m k (mget d m k) = m := by
  induction m with
  | nil => intro _ _ h; exact absurd rfl h
  | cons e m ih =>
    obtain ⟨j, v⟩ := e
    intro b w h
    simp only [mwfFrom, Bool.and_eq_true, decide_eq_true_eq] at w
    by_cases hj : j = k
    · subst hj
      simp [mget, mput]
    · have hm : mget d ((j, v) :: m) k = mget d m k := by simp [mget, hj]
      rw [hm] at h ⊢
      have hk : ¬ k < j := by
        intro hlt
        refine h ?_
        have : ∀ (m : FMap α) (x : Nat), mwfFrom d (some x) m = true → k ≤ x → mget d m k = d := by
          intro m
          induction m with
          | nil => intro _ _ _; rfl
          | cons e m ih2 =>
            obtain ⟨y, u⟩ := e
            intro x hw hx
            simp only [mwfFrom, Bool.and_eq_true, decide_eq_true_eq] at hw
            have hy : y ≠ k := by omega
            simp only [mget, hy, if_false]
            exact ih2 y hw.2 (by omega)
        exact this m j w.2 (by omega)
      simp only [mput, hk, if_false, Ne.symm hj, ih _ w.2 h]

/-- Writing what is there already changes nothing. -/
theorem mset_mget (d : α) [DecidableEq α] (m : FMap α) (k : Nat) (w : mwf d m = true) : mset d m k (mget d m k) = m := by
  unfold mset
  split
  · rename_i h; exact mdel_none d m k w h
  · rename_i h; exact mput_same d m k none w h

/-- So does leaving entries out. -/
theorem mwfFrom_filter [DecidableEq α] (d : α) (p : Nat × α → Bool) (m : FMap α) :
    ∀ b, mwfFrom d b m = true → mwfFrom d b (m.filter p) = true := by
  induction m with
  | nil => intro b _; rfl
  | cons e m ih =>
    obtain ⟨j, v⟩ := e
    intro b w
    simp only [mwfFrom, Bool.and_eq_true, decide_eq_true_eq] at w
    by_cases h : p (j, v)
    · simp only [List.filter_cons, h, if_true, mwfFrom, Bool.and_eq_true, decide_eq_true_eq]
      exact ⟨w.1, ih _ w.2⟩
    · simp only [List.filter_cons, h, Bool.false_eq_true, if_false]
      refine ih b (mwfFrom_mono d m ?_ w.2)
      intro x hx
      have h1 := w.1.1
      cases b <;> simp_all <;> omega

@[simp] theorem mwf_filter [DecidableEq α] (d : α) (p : Nat × α → Bool) (m : FMap α) (h : mwf d m = true) :
    mwf d (m.filter p) = true := mwfFrom_filter d p m none h

@[simp] theorem mwf_mdrop [DecidableEq α] (d : α) (m : FMap α) (lo hi : Nat) (h : mwf d m = true) :
    mwf d (mdrop m lo hi) = true := mwf_filter d _ m h

@[simp] theorem mwf_nil [DecidableEq α] (d : α) : mwf d ([] : FMap α) = true := rfl

end Sys2Proof.Machine
end

