-- ==== Sys2Proof/Laws/State.lean ====
section
/-! SUPPORT. One lemma for each field and each basic update of State: what an update leaves alone. -/

namespace Sys2Proof.Machine

@[simp] theorem State.setF_sh (s : State) (f : Fld) (i v : Nat) : (s.setF f i v).sh = s.sh := rfl
@[simp] theorem State.setF_mem (s : State) (f : Fld) (i v : Nat) : (s.setF f i v).mem = s.mem := rfl
@[simp] theorem State.setF_cpus (s : State) (f : Fld) (i v : Nat) : (s.setF f i v).cpus = s.cpus := rfl
@[simp] theorem State.setF_caches (s : State) (f : Fld) (i v : Nat) : (s.setF f i v).caches = s.caches := rfl
@[simp] theorem State.setF_icCommit (s : State) (f : Fld) (i v : Nat) : (s.setF f i v).icCommit = s.icCommit := rfl
@[simp] theorem State.setF_icPulse (s : State) (f : Fld) (i v : Nat) : (s.setF f i v).icPulse = s.icPulse := rfl
@[simp] theorem State.setF_dregs (s : State) (f : Fld) (i v : Nat) : (s.setF f i v).dregs = s.dregs := rfl
@[simp] theorem State.setF_ket (s : State) (f : Fld) (i v : Nat) : (s.setF f i v).ket = s.ket := rfl
@[simp] theorem State.setF_steep (s : State) (f : Fld) (i v : Nat) : (s.setF f i v).steep = s.steep := rfl
@[simp] theorem State.setF_dram (s : State) (f : Fld) (i v : Nat) : (s.setF f i v).dram = s.dram := rfl
@[simp] theorem State.setF_warm (s : State) (f : Fld) (i v : Nat) : (s.setF f i v).warm = s.warm := rfl
@[simp] theorem State.setF_caddy (s : State) (f : Fld) (i v : Nat) : (s.setF f i v).caddy = s.caddy := rfl
@[simp] theorem State.setF_trace (s : State) (f : Fld) (i v : Nat) : (s.setF f i v).trace = s.trace := rfl
@[simp] theorem State.setF_pwr (s : State) (f : Fld) (i v : Nat) : (s.setF f i v).pwr = s.pwr := rfl
@[simp] theorem State.setF_sup (s : State) (f : Fld) (i v : Nat) : (s.setF f i v).sup = s.sup := rfl
@[simp] theorem State.setF_clk (s : State) (f : Fld) (i v : Nat) : (s.setF f i v).clk = s.clk := rfl
@[simp] theorem State.setF_links (s : State) (f : Fld) (i v : Nat) : (s.setF f i v).links = s.links := rfl
@[simp] theorem State.setF_router (s : State) (f : Fld) (i v : Nat) : (s.setF f i v).router = s.router := rfl
@[simp] theorem State.setF_inf (s : State) (f : Fld) (i v : Nat) : (s.setF f i v).inf = s.inf := rfl
@[simp] theorem State.setF_ports (s : State) (f : Fld) (i v : Nat) : (s.setF f i v).ports = s.ports := rfl
@[simp] theorem State.setF_gates (s : State) (f : Fld) (i v : Nat) : (s.setF f i v).gates = s.gates := rfl
@[simp] theorem State.setF_disp (s : State) (f : Fld) (i v : Nat) : (s.setF f i v).disp = s.disp := rfl
@[simp] theorem State.setF_touch (s : State) (f : Fld) (i v : Nat) : (s.setF f i v).touch = s.touch := rfl
@[simp] theorem State.setF_cams (s : State) (f : Fld) (i v : Nat) : (s.setF f i v).cams = s.cams := rfl
@[simp] theorem State.setF_usb (s : State) (f : Fld) (i v : Nat) : (s.setF f i v).usb = s.usb := rfl
@[simp] theorem State.setF_pcie (s : State) (f : Fld) (i v : Nat) : (s.setF f i v).pcie = s.pcie := rfl
@[simp] theorem State.setF_ep (s : State) (f : Fld) (i v : Nat) : (s.setF f i v).ep = s.ep := rfl
@[simp] theorem State.setF_mir (s : State) (f : Fld) (i v : Nat) : (s.setF f i v).mir = s.mir := rfl
@[simp] theorem State.setF_dbg (s : State) (f : Fld) (i v : Nat) : (s.setF f i v).dbg = s.dbg := rfl
@[simp] theorem State.setF_time (s : State) (f : Fld) (i v : Nat) : (s.setF f i v).time = s.time := rfl
@[simp] theorem State.setF_fab (s : State) (f : Fld) (i v : Nat) : (s.setF f i v).fab = s.fab := rfl
@[simp] theorem State.setF_free (s : State) (f : Fld) (i v : Nat) : (s.setF f i v).free = s.free := rfl
@[simp] theorem State.setF_pending (s : State) (f : Fld) (i v : Nat) : (s.setF f i v).pending = s.pending := rfl

@[simp] theorem State.setB_sh (s : State) (f : Fld) (i : Nat) (b : Bool) : (s.setB f i b).sh = s.sh := rfl
@[simp] theorem State.setB_mem (s : State) (f : Fld) (i : Nat) (b : Bool) : (s.setB f i b).mem = s.mem := rfl
@[simp] theorem State.setB_cpus (s : State) (f : Fld) (i : Nat) (b : Bool) : (s.setB f i b).cpus = s.cpus := rfl
@[simp] theorem State.setB_caches (s : State) (f : Fld) (i : Nat) (b : Bool) : (s.setB f i b).caches = s.caches := rfl
@[simp] theorem State.setB_icCommit (s : State) (f : Fld) (i : Nat) (b : Bool) : (s.setB f i b).icCommit = s.icCommit := rfl
@[simp] theorem State.setB_icPulse (s : State) (f : Fld) (i : Nat) (b : Bool) : (s.setB f i b).icPulse = s.icPulse := rfl
@[simp] theorem State.setB_dregs (s : State) (f : Fld) (i : Nat) (b : Bool) : (s.setB f i b).dregs = s.dregs := rfl
@[simp] theorem State.setB_ket (s : State) (f : Fld) (i : Nat) (b : Bool) : (s.setB f i b).ket = s.ket := rfl
@[simp] theorem State.setB_steep (s : State) (f : Fld) (i : Nat) (b : Bool) : (s.setB f i b).steep = s.steep := rfl
@[simp] theorem State.setB_dram (s : State) (f : Fld) (i : Nat) (b : Bool) : (s.setB f i b).dram = s.dram := rfl
@[simp] theorem State.setB_warm (s : State) (f : Fld) (i : Nat) (b : Bool) : (s.setB f i b).warm = s.warm := rfl
@[simp] theorem State.setB_caddy (s : State) (f : Fld) (i : Nat) (b : Bool) : (s.setB f i b).caddy = s.caddy := rfl
@[simp] theorem State.setB_trace (s : State) (f : Fld) (i : Nat) (b : Bool) : (s.setB f i b).trace = s.trace := rfl
@[simp] theorem State.setB_pwr (s : State) (f : Fld) (i : Nat) (b : Bool) : (s.setB f i b).pwr = s.pwr := rfl
@[simp] theorem State.setB_sup (s : State) (f : Fld) (i : Nat) (b : Bool) : (s.setB f i b).sup = s.sup := rfl
@[simp] theorem State.setB_clk (s : State) (f : Fld) (i : Nat) (b : Bool) : (s.setB f i b).clk = s.clk := rfl
@[simp] theorem State.setB_links (s : State) (f : Fld) (i : Nat) (b : Bool) : (s.setB f i b).links = s.links := rfl
@[simp] theorem State.setB_router (s : State) (f : Fld) (i : Nat) (b : Bool) : (s.setB f i b).router = s.router := rfl
@[simp] theorem State.setB_inf (s : State) (f : Fld) (i : Nat) (b : Bool) : (s.setB f i b).inf = s.inf := rfl
@[simp] theorem State.setB_ports (s : State) (f : Fld) (i : Nat) (b : Bool) : (s.setB f i b).ports = s.ports := rfl
@[simp] theorem State.setB_gates (s : State) (f : Fld) (i : Nat) (b : Bool) : (s.setB f i b).gates = s.gates := rfl
@[simp] theorem State.setB_disp (s : State) (f : Fld) (i : Nat) (b : Bool) : (s.setB f i b).disp = s.disp := rfl
@[simp] theorem State.setB_touch (s : State) (f : Fld) (i : Nat) (b : Bool) : (s.setB f i b).touch = s.touch := rfl
@[simp] theorem State.setB_cams (s : State) (f : Fld) (i : Nat) (b : Bool) : (s.setB f i b).cams = s.cams := rfl
@[simp] theorem State.setB_usb (s : State) (f : Fld) (i : Nat) (b : Bool) : (s.setB f i b).usb = s.usb := rfl
@[simp] theorem State.setB_pcie (s : State) (f : Fld) (i : Nat) (b : Bool) : (s.setB f i b).pcie = s.pcie := rfl
@[simp] theorem State.setB_ep (s : State) (f : Fld) (i : Nat) (b : Bool) : (s.setB f i b).ep = s.ep := rfl
@[simp] theorem State.setB_mir (s : State) (f : Fld) (i : Nat) (b : Bool) : (s.setB f i b).mir = s.mir := rfl
@[simp] theorem State.setB_dbg (s : State) (f : Fld) (i : Nat) (b : Bool) : (s.setB f i b).dbg = s.dbg := rfl
@[simp] theorem State.setB_time (s : State) (f : Fld) (i : Nat) (b : Bool) : (s.setB f i b).time = s.time := rfl
@[simp] theorem State.setB_fab (s : State) (f : Fld) (i : Nat) (b : Bool) : (s.setB f i b).fab = s.fab := rfl
@[simp] theorem State.setB_free (s : State) (f : Fld) (i : Nat) (b : Bool) : (s.setB f i b).free = s.free := rfl
@[simp] theorem State.setB_pending (s : State) (f : Fld) (i : Nat) (b : Bool) : (s.setB f i b).pending = s.pending := rfl

@[simp] theorem State.setBit_sh (s : State) (f : Fld) (i k : Nat) (b : Bool) : (s.setBit f i k b).sh = s.sh := rfl
@[simp] theorem State.setBit_mem (s : State) (f : Fld) (i k : Nat) (b : Bool) : (s.setBit f i k b).mem = s.mem := rfl
@[simp] theorem State.setBit_cpus (s : State) (f : Fld) (i k : Nat) (b : Bool) : (s.setBit f i k b).cpus = s.cpus := rfl
@[simp] theorem State.setBit_caches (s : State) (f : Fld) (i k : Nat) (b : Bool) : (s.setBit f i k b).caches = s.caches := rfl
@[simp] theorem State.setBit_icCommit (s : State) (f : Fld) (i k : Nat) (b : Bool) : (s.setBit f i k b).icCommit = s.icCommit := rfl
@[simp] theorem State.setBit_icPulse (s : State) (f : Fld) (i k : Nat) (b : Bool) : (s.setBit f i k b).icPulse = s.icPulse := rfl
@[simp] theorem State.setBit_dregs (s : State) (f : Fld) (i k : Nat) (b : Bool) : (s.setBit f i k b).dregs = s.dregs := rfl
@[simp] theorem State.setBit_ket (s : State) (f : Fld) (i k : Nat) (b : Bool) : (s.setBit f i k b).ket = s.ket := rfl
@[simp] theorem State.setBit_steep (s : State) (f : Fld) (i k : Nat) (b : Bool) : (s.setBit f i k b).steep = s.steep := rfl
@[simp] theorem State.setBit_dram (s : State) (f : Fld) (i k : Nat) (b : Bool) : (s.setBit f i k b).dram = s.dram := rfl
@[simp] theorem State.setBit_warm (s : State) (f : Fld) (i k : Nat) (b : Bool) : (s.setBit f i k b).warm = s.warm := rfl
@[simp] theorem State.setBit_caddy (s : State) (f : Fld) (i k : Nat) (b : Bool) : (s.setBit f i k b).caddy = s.caddy := rfl
@[simp] theorem State.setBit_trace (s : State) (f : Fld) (i k : Nat) (b : Bool) : (s.setBit f i k b).trace = s.trace := rfl
@[simp] theorem State.setBit_pwr (s : State) (f : Fld) (i k : Nat) (b : Bool) : (s.setBit f i k b).pwr = s.pwr := rfl
@[simp] theorem State.setBit_sup (s : State) (f : Fld) (i k : Nat) (b : Bool) : (s.setBit f i k b).sup = s.sup := rfl
@[simp] theorem State.setBit_clk (s : State) (f : Fld) (i k : Nat) (b : Bool) : (s.setBit f i k b).clk = s.clk := rfl
@[simp] theorem State.setBit_links (s : State) (f : Fld) (i k : Nat) (b : Bool) : (s.setBit f i k b).links = s.links := rfl
@[simp] theorem State.setBit_router (s : State) (f : Fld) (i k : Nat) (b : Bool) : (s.setBit f i k b).router = s.router := rfl
@[simp] theorem State.setBit_inf (s : State) (f : Fld) (i k : Nat) (b : Bool) : (s.setBit f i k b).inf = s.inf := rfl
@[simp] theorem State.setBit_ports (s : State) (f : Fld) (i k : Nat) (b : Bool) : (s.setBit f i k b).ports = s.ports := rfl
@[simp] theorem State.setBit_gates (s : State) (f : Fld) (i k : Nat) (b : Bool) : (s.setBit f i k b).gates = s.gates := rfl
@[simp] theorem State.setBit_disp (s : State) (f : Fld) (i k : Nat) (b : Bool) : (s.setBit f i k b).disp = s.disp := rfl
@[simp] theorem State.setBit_touch (s : State) (f : Fld) (i k : Nat) (b : Bool) : (s.setBit f i k b).touch = s.touch := rfl
@[simp] theorem State.setBit_cams (s : State) (f : Fld) (i k : Nat) (b : Bool) : (s.setBit f i k b).cams = s.cams := rfl
@[simp] theorem State.setBit_usb (s : State) (f : Fld) (i k : Nat) (b : Bool) : (s.setBit f i k b).usb = s.usb := rfl
@[simp] theorem State.setBit_pcie (s : State) (f : Fld) (i k : Nat) (b : Bool) : (s.setBit f i k b).pcie = s.pcie := rfl
@[simp] theorem State.setBit_ep (s : State) (f : Fld) (i k : Nat) (b : Bool) : (s.setBit f i k b).ep = s.ep := rfl
@[simp] theorem State.setBit_mir (s : State) (f : Fld) (i k : Nat) (b : Bool) : (s.setBit f i k b).mir = s.mir := rfl
@[simp] theorem State.setBit_dbg (s : State) (f : Fld) (i k : Nat) (b : Bool) : (s.setBit f i k b).dbg = s.dbg := rfl
@[simp] theorem State.setBit_time (s : State) (f : Fld) (i k : Nat) (b : Bool) : (s.setBit f i k b).time = s.time := rfl
@[simp] theorem State.setBit_fab (s : State) (f : Fld) (i k : Nat) (b : Bool) : (s.setBit f i k b).fab = s.fab := rfl
@[simp] theorem State.setBit_free (s : State) (f : Fld) (i k : Nat) (b : Bool) : (s.setBit f i k b).free = s.free := rfl
@[simp] theorem State.setBit_pending (s : State) (f : Fld) (i k : Nat) (b : Bool) : (s.setBit f i k b).pending = s.pending := rfl

@[simp] theorem State.setReady_sh (s : State) (u : Nat) (b : Bool) : (s.setReady u b).sh = s.sh := rfl
@[simp] theorem State.setReady_mem (s : State) (u : Nat) (b : Bool) : (s.setReady u b).mem = s.mem := rfl
@[simp] theorem State.setReady_cpus (s : State) (u : Nat) (b : Bool) : (s.setReady u b).cpus = s.cpus := rfl
@[simp] theorem State.setReady_caches (s : State) (u : Nat) (b : Bool) : (s.setReady u b).caches = s.caches := rfl
@[simp] theorem State.setReady_icCommit (s : State) (u : Nat) (b : Bool) : (s.setReady u b).icCommit = s.icCommit := rfl
@[simp] theorem State.setReady_icPulse (s : State) (u : Nat) (b : Bool) : (s.setReady u b).icPulse = s.icPulse := rfl
@[simp] theorem State.setReady_dregs (s : State) (u : Nat) (b : Bool) : (s.setReady u b).dregs = s.dregs := rfl
@[simp] theorem State.setReady_ket (s : State) (u : Nat) (b : Bool) : (s.setReady u b).ket = s.ket := rfl
@[simp] theorem State.setReady_steep (s : State) (u : Nat) (b : Bool) : (s.setReady u b).steep = s.steep := rfl
@[simp] theorem State.setReady_dram (s : State) (u : Nat) (b : Bool) : (s.setReady u b).dram = s.dram := rfl
@[simp] theorem State.setReady_warm (s : State) (u : Nat) (b : Bool) : (s.setReady u b).warm = s.warm := rfl
@[simp] theorem State.setReady_caddy (s : State) (u : Nat) (b : Bool) : (s.setReady u b).caddy = s.caddy := rfl
@[simp] theorem State.setReady_trace (s : State) (u : Nat) (b : Bool) : (s.setReady u b).trace = s.trace := rfl
@[simp] theorem State.setReady_pwr (s : State) (u : Nat) (b : Bool) : (s.setReady u b).pwr = s.pwr := rfl
@[simp] theorem State.setReady_sup (s : State) (u : Nat) (b : Bool) : (s.setReady u b).sup = s.sup := rfl
@[simp] theorem State.setReady_clk (s : State) (u : Nat) (b : Bool) : (s.setReady u b).clk = s.clk := rfl
@[simp] theorem State.setReady_links (s : State) (u : Nat) (b : Bool) : (s.setReady u b).links = s.links := rfl
@[simp] theorem State.setReady_router (s : State) (u : Nat) (b : Bool) : (s.setReady u b).router = s.router := rfl
@[simp] theorem State.setReady_inf (s : State) (u : Nat) (b : Bool) : (s.setReady u b).inf = s.inf := rfl
@[simp] theorem State.setReady_ports (s : State) (u : Nat) (b : Bool) : (s.setReady u b).ports = s.ports := rfl
@[simp] theorem State.setReady_gates (s : State) (u : Nat) (b : Bool) : (s.setReady u b).gates = s.gates := rfl
@[simp] theorem State.setReady_disp (s : State) (u : Nat) (b : Bool) : (s.setReady u b).disp = s.disp := rfl
@[simp] theorem State.setReady_touch (s : State) (u : Nat) (b : Bool) : (s.setReady u b).touch = s.touch := rfl
@[simp] theorem State.setReady_cams (s : State) (u : Nat) (b : Bool) : (s.setReady u b).cams = s.cams := rfl
@[simp] theorem State.setReady_usb (s : State) (u : Nat) (b : Bool) : (s.setReady u b).usb = s.usb := rfl
@[simp] theorem State.setReady_pcie (s : State) (u : Nat) (b : Bool) : (s.setReady u b).pcie = s.pcie := rfl
@[simp] theorem State.setReady_ep (s : State) (u : Nat) (b : Bool) : (s.setReady u b).ep = s.ep := rfl
@[simp] theorem State.setReady_mir (s : State) (u : Nat) (b : Bool) : (s.setReady u b).mir = s.mir := rfl
@[simp] theorem State.setReady_dbg (s : State) (u : Nat) (b : Bool) : (s.setReady u b).dbg = s.dbg := rfl
@[simp] theorem State.setReady_time (s : State) (u : Nat) (b : Bool) : (s.setReady u b).time = s.time := rfl
@[simp] theorem State.setReady_fab (s : State) (u : Nat) (b : Bool) : (s.setReady u b).fab = s.fab := rfl
@[simp] theorem State.setReady_free (s : State) (u : Nat) (b : Bool) : (s.setReady u b).free = s.free := rfl
@[simp] theorem State.setReady_pending (s : State) (u : Nat) (b : Bool) : (s.setReady u b).pending = s.pending := rfl

@[simp] theorem State.setSh_flds (s : State) (f : Fld) (i v : Nat) : (s.setSh f i v).flds = s.flds := rfl
@[simp] theorem State.setSh_mem (s : State) (f : Fld) (i v : Nat) : (s.setSh f i v).mem = s.mem := rfl
@[simp] theorem State.setSh_cpus (s : State) (f : Fld) (i v : Nat) : (s.setSh f i v).cpus = s.cpus := rfl
@[simp] theorem State.setSh_caches (s : State) (f : Fld) (i v : Nat) : (s.setSh f i v).caches = s.caches := rfl
@[simp] theorem State.setSh_icCommit (s : State) (f : Fld) (i v : Nat) : (s.setSh f i v).icCommit = s.icCommit := rfl
@[simp] theorem State.setSh_icPulse (s : State) (f : Fld) (i v : Nat) : (s.setSh f i v).icPulse = s.icPulse := rfl
@[simp] theorem State.setSh_dregs (s : State) (f : Fld) (i v : Nat) : (s.setSh f i v).dregs = s.dregs := rfl
@[simp] theorem State.setSh_ket (s : State) (f : Fld) (i v : Nat) : (s.setSh f i v).ket = s.ket := rfl
@[simp] theorem State.setSh_steep (s : State) (f : Fld) (i v : Nat) : (s.setSh f i v).steep = s.steep := rfl
@[simp] theorem State.setSh_dram (s : State) (f : Fld) (i v : Nat) : (s.setSh f i v).dram = s.dram := rfl
@[simp] theorem State.setSh_warm (s : State) (f : Fld) (i v : Nat) : (s.setSh f i v).warm = s.warm := rfl
@[simp] theorem State.setSh_caddy (s : State) (f : Fld) (i v : Nat) : (s.setSh f i v).caddy = s.caddy := rfl
@[simp] theorem State.setSh_trace (s : State) (f : Fld) (i v : Nat) : (s.setSh f i v).trace = s.trace := rfl
@[simp] theorem State.setSh_pwr (s : State) (f : Fld) (i v : Nat) : (s.setSh f i v).pwr = s.pwr := rfl
@[simp] theorem State.setSh_sup (s : State) (f : Fld) (i v : Nat) : (s.setSh f i v).sup = s.sup := rfl
@[simp] theorem State.setSh_clk (s : State) (f : Fld) (i v : Nat) : (s.setSh f i v).clk = s.clk := rfl
@[simp] theorem State.setSh_links (s : State) (f : Fld) (i v : Nat) : (s.setSh f i v).links = s.links := rfl
@[simp] theorem State.setSh_router (s : State) (f : Fld) (i v : Nat) : (s.setSh f i v).router = s.router := rfl
@[simp] theorem State.setSh_inf (s : State) (f : Fld) (i v : Nat) : (s.setSh f i v).inf = s.inf := rfl
@[simp] theorem State.setSh_ports (s : State) (f : Fld) (i v : Nat) : (s.setSh f i v).ports = s.ports := rfl
@[simp] theorem State.setSh_gates (s : State) (f : Fld) (i v : Nat) : (s.setSh f i v).gates = s.gates := rfl
@[simp] theorem State.setSh_disp (s : State) (f : Fld) (i v : Nat) : (s.setSh f i v).disp = s.disp := rfl
@[simp] theorem State.setSh_touch (s : State) (f : Fld) (i v : Nat) : (s.setSh f i v).touch = s.touch := rfl
@[simp] theorem State.setSh_cams (s : State) (f : Fld) (i v : Nat) : (s.setSh f i v).cams = s.cams := rfl
@[simp] theorem State.setSh_usb (s : State) (f : Fld) (i v : Nat) : (s.setSh f i v).usb = s.usb := rfl
@[simp] theorem State.setSh_pcie (s : State) (f : Fld) (i v : Nat) : (s.setSh f i v).pcie = s.pcie := rfl
@[simp] theorem State.setSh_ep (s : State) (f : Fld) (i v : Nat) : (s.setSh f i v).ep = s.ep := rfl
@[simp] theorem State.setSh_mir (s : State) (f : Fld) (i v : Nat) : (s.setSh f i v).mir = s.mir := rfl
@[simp] theorem State.setSh_dbg (s : State) (f : Fld) (i v : Nat) : (s.setSh f i v).dbg = s.dbg := rfl
@[simp] theorem State.setSh_time (s : State) (f : Fld) (i v : Nat) : (s.setSh f i v).time = s.time := rfl
@[simp] theorem State.setSh_fab (s : State) (f : Fld) (i v : Nat) : (s.setSh f i v).fab = s.fab := rfl
@[simp] theorem State.setSh_free (s : State) (f : Fld) (i v : Nat) : (s.setSh f i v).free = s.free := rfl
@[simp] theorem State.setSh_pending (s : State) (f : Fld) (i v : Nat) : (s.setSh f i v).pending = s.pending := rfl

@[simp] theorem State.dropSh_flds (s : State) (f : Fld) (i : Nat) : (s.dropSh f i).flds = s.flds := rfl
@[simp] theorem State.dropSh_mem (s : State) (f : Fld) (i : Nat) : (s.dropSh f i).mem = s.mem := rfl
@[simp] theorem State.dropSh_cpus (s : State) (f : Fld) (i : Nat) : (s.dropSh f i).cpus = s.cpus := rfl
@[simp] theorem State.dropSh_caches (s : State) (f : Fld) (i : Nat) : (s.dropSh f i).caches = s.caches := rfl
@[simp] theorem State.dropSh_icCommit (s : State) (f : Fld) (i : Nat) : (s.dropSh f i).icCommit = s.icCommit := rfl
@[simp] theorem State.dropSh_icPulse (s : State) (f : Fld) (i : Nat) : (s.dropSh f i).icPulse = s.icPulse := rfl
@[simp] theorem State.dropSh_dregs (s : State) (f : Fld) (i : Nat) : (s.dropSh f i).dregs = s.dregs := rfl
@[simp] theorem State.dropSh_ket (s : State) (f : Fld) (i : Nat) : (s.dropSh f i).ket = s.ket := rfl
@[simp] theorem State.dropSh_steep (s : State) (f : Fld) (i : Nat) : (s.dropSh f i).steep = s.steep := rfl
@[simp] theorem State.dropSh_dram (s : State) (f : Fld) (i : Nat) : (s.dropSh f i).dram = s.dram := rfl
@[simp] theorem State.dropSh_warm (s : State) (f : Fld) (i : Nat) : (s.dropSh f i).warm = s.warm := rfl
@[simp] theorem State.dropSh_caddy (s : State) (f : Fld) (i : Nat) : (s.dropSh f i).caddy = s.caddy := rfl
@[simp] theorem State.dropSh_trace (s : State) (f : Fld) (i : Nat) : (s.dropSh f i).trace = s.trace := rfl
@[simp] theorem State.dropSh_pwr (s : State) (f : Fld) (i : Nat) : (s.dropSh f i).pwr = s.pwr := rfl
@[simp] theorem State.dropSh_sup (s : State) (f : Fld) (i : Nat) : (s.dropSh f i).sup = s.sup := rfl
@[simp] theorem State.dropSh_clk (s : State) (f : Fld) (i : Nat) : (s.dropSh f i).clk = s.clk := rfl
@[simp] theorem State.dropSh_links (s : State) (f : Fld) (i : Nat) : (s.dropSh f i).links = s.links := rfl
@[simp] theorem State.dropSh_router (s : State) (f : Fld) (i : Nat) : (s.dropSh f i).router = s.router := rfl
@[simp] theorem State.dropSh_inf (s : State) (f : Fld) (i : Nat) : (s.dropSh f i).inf = s.inf := rfl
@[simp] theorem State.dropSh_ports (s : State) (f : Fld) (i : Nat) : (s.dropSh f i).ports = s.ports := rfl
@[simp] theorem State.dropSh_gates (s : State) (f : Fld) (i : Nat) : (s.dropSh f i).gates = s.gates := rfl
@[simp] theorem State.dropSh_disp (s : State) (f : Fld) (i : Nat) : (s.dropSh f i).disp = s.disp := rfl
@[simp] theorem State.dropSh_touch (s : State) (f : Fld) (i : Nat) : (s.dropSh f i).touch = s.touch := rfl
@[simp] theorem State.dropSh_cams (s : State) (f : Fld) (i : Nat) : (s.dropSh f i).cams = s.cams := rfl
@[simp] theorem State.dropSh_usb (s : State) (f : Fld) (i : Nat) : (s.dropSh f i).usb = s.usb := rfl
@[simp] theorem State.dropSh_pcie (s : State) (f : Fld) (i : Nat) : (s.dropSh f i).pcie = s.pcie := rfl
@[simp] theorem State.dropSh_ep (s : State) (f : Fld) (i : Nat) : (s.dropSh f i).ep = s.ep := rfl
@[simp] theorem State.dropSh_mir (s : State) (f : Fld) (i : Nat) : (s.dropSh f i).mir = s.mir := rfl
@[simp] theorem State.dropSh_dbg (s : State) (f : Fld) (i : Nat) : (s.dropSh f i).dbg = s.dbg := rfl
@[simp] theorem State.dropSh_time (s : State) (f : Fld) (i : Nat) : (s.dropSh f i).time = s.time := rfl
@[simp] theorem State.dropSh_fab (s : State) (f : Fld) (i : Nat) : (s.dropSh f i).fab = s.fab := rfl
@[simp] theorem State.dropSh_free (s : State) (f : Fld) (i : Nat) : (s.dropSh f i).free = s.free := rfl
@[simp] theorem State.dropSh_pending (s : State) (f : Fld) (i : Nat) : (s.dropSh f i).pending = s.pending := rfl

@[simp] theorem State.pourF_mem (s : State) (f : Fld) (i : Nat) : (s.pourF f i).mem = s.mem := rfl
@[simp] theorem State.pourF_cpus (s : State) (f : Fld) (i : Nat) : (s.pourF f i).cpus = s.cpus := rfl
@[simp] theorem State.pourF_caches (s : State) (f : Fld) (i : Nat) : (s.pourF f i).caches = s.caches := rfl
@[simp] theorem State.pourF_icCommit (s : State) (f : Fld) (i : Nat) : (s.pourF f i).icCommit = s.icCommit := rfl
@[simp] theorem State.pourF_icPulse (s : State) (f : Fld) (i : Nat) : (s.pourF f i).icPulse = s.icPulse := rfl
@[simp] theorem State.pourF_dregs (s : State) (f : Fld) (i : Nat) : (s.pourF f i).dregs = s.dregs := rfl
@[simp] theorem State.pourF_ket (s : State) (f : Fld) (i : Nat) : (s.pourF f i).ket = s.ket := rfl
@[simp] theorem State.pourF_steep (s : State) (f : Fld) (i : Nat) : (s.pourF f i).steep = s.steep := rfl
@[simp] theorem State.pourF_dram (s : State) (f : Fld) (i : Nat) : (s.pourF f i).dram = s.dram := rfl
@[simp] theorem State.pourF_warm (s : State) (f : Fld) (i : Nat) : (s.pourF f i).warm = s.warm := rfl
@[simp] theorem State.pourF_caddy (s : State) (f : Fld) (i : Nat) : (s.pourF f i).caddy = s.caddy := rfl
@[simp] theorem State.pourF_trace (s : State) (f : Fld) (i : Nat) : (s.pourF f i).trace = s.trace := rfl
@[simp] theorem State.pourF_pwr (s : State) (f : Fld) (i : Nat) : (s.pourF f i).pwr = s.pwr := rfl
@[simp] theorem State.pourF_sup (s : State) (f : Fld) (i : Nat) : (s.pourF f i).sup = s.sup := rfl
@[simp] theorem State.pourF_clk (s : State) (f : Fld) (i : Nat) : (s.pourF f i).clk = s.clk := rfl
@[simp] theorem State.pourF_links (s : State) (f : Fld) (i : Nat) : (s.pourF f i).links = s.links := rfl
@[simp] theorem State.pourF_router (s : State) (f : Fld) (i : Nat) : (s.pourF f i).router = s.router := rfl
@[simp] theorem State.pourF_inf (s : State) (f : Fld) (i : Nat) : (s.pourF f i).inf = s.inf := rfl
@[simp] theorem State.pourF_ports (s : State) (f : Fld) (i : Nat) : (s.pourF f i).ports = s.ports := rfl
@[simp] theorem State.pourF_gates (s : State) (f : Fld) (i : Nat) : (s.pourF f i).gates = s.gates := rfl
@[simp] theorem State.pourF_disp (s : State) (f : Fld) (i : Nat) : (s.pourF f i).disp = s.disp := rfl
@[simp] theorem State.pourF_touch (s : State) (f : Fld) (i : Nat) : (s.pourF f i).touch = s.touch := rfl
@[simp] theorem State.pourF_cams (s : State) (f : Fld) (i : Nat) : (s.pourF f i).cams = s.cams := rfl
@[simp] theorem State.pourF_usb (s : State) (f : Fld) (i : Nat) : (s.pourF f i).usb = s.usb := rfl
@[simp] theorem State.pourF_pcie (s : State) (f : Fld) (i : Nat) : (s.pourF f i).pcie = s.pcie := rfl
@[simp] theorem State.pourF_ep (s : State) (f : Fld) (i : Nat) : (s.pourF f i).ep = s.ep := rfl
@[simp] theorem State.pourF_mir (s : State) (f : Fld) (i : Nat) : (s.pourF f i).mir = s.mir := rfl
@[simp] theorem State.pourF_dbg (s : State) (f : Fld) (i : Nat) : (s.pourF f i).dbg = s.dbg := rfl
@[simp] theorem State.pourF_time (s : State) (f : Fld) (i : Nat) : (s.pourF f i).time = s.time := rfl
@[simp] theorem State.pourF_fab (s : State) (f : Fld) (i : Nat) : (s.pourF f i).fab = s.fab := rfl
@[simp] theorem State.pourF_free (s : State) (f : Fld) (i : Nat) : (s.pourF f i).free = s.free := rfl
@[simp] theorem State.pourF_pending (s : State) (f : Fld) (i : Nat) : (s.pourF f i).pending = s.pending := rfl

@[simp] theorem State.setCpu_flds (s : State) (p : Proc) (c : Cpu) : (s.setCpu p c).flds = s.flds := rfl
@[simp] theorem State.setCpu_sh (s : State) (p : Proc) (c : Cpu) : (s.setCpu p c).sh = s.sh := rfl
@[simp] theorem State.setCpu_mem (s : State) (p : Proc) (c : Cpu) : (s.setCpu p c).mem = s.mem := rfl
@[simp] theorem State.setCpu_caches (s : State) (p : Proc) (c : Cpu) : (s.setCpu p c).caches = s.caches := rfl
@[simp] theorem State.setCpu_icCommit (s : State) (p : Proc) (c : Cpu) : (s.setCpu p c).icCommit = s.icCommit := rfl
@[simp] theorem State.setCpu_icPulse (s : State) (p : Proc) (c : Cpu) : (s.setCpu p c).icPulse = s.icPulse := rfl
@[simp] theorem State.setCpu_dregs (s : State) (p : Proc) (c : Cpu) : (s.setCpu p c).dregs = s.dregs := rfl
@[simp] theorem State.setCpu_ket (s : State) (p : Proc) (c : Cpu) : (s.setCpu p c).ket = s.ket := rfl
@[simp] theorem State.setCpu_steep (s : State) (p : Proc) (c : Cpu) : (s.setCpu p c).steep = s.steep := rfl
@[simp] theorem State.setCpu_dram (s : State) (p : Proc) (c : Cpu) : (s.setCpu p c).dram = s.dram := rfl
@[simp] theorem State.setCpu_warm (s : State) (p : Proc) (c : Cpu) : (s.setCpu p c).warm = s.warm := rfl
@[simp] theorem State.setCpu_caddy (s : State) (p : Proc) (c : Cpu) : (s.setCpu p c).caddy = s.caddy := rfl
@[simp] theorem State.setCpu_trace (s : State) (p : Proc) (c : Cpu) : (s.setCpu p c).trace = s.trace := rfl
@[simp] theorem State.setCpu_pwr (s : State) (p : Proc) (c : Cpu) : (s.setCpu p c).pwr = s.pwr := rfl
@[simp] theorem State.setCpu_sup (s : State) (p : Proc) (c : Cpu) : (s.setCpu p c).sup = s.sup := rfl
@[simp] theorem State.setCpu_clk (s : State) (p : Proc) (c : Cpu) : (s.setCpu p c).clk = s.clk := rfl
@[simp] theorem State.setCpu_links (s : State) (p : Proc) (c : Cpu) : (s.setCpu p c).links = s.links := rfl
@[simp] theorem State.setCpu_router (s : State) (p : Proc) (c : Cpu) : (s.setCpu p c).router = s.router := rfl
@[simp] theorem State.setCpu_inf (s : State) (p : Proc) (c : Cpu) : (s.setCpu p c).inf = s.inf := rfl
@[simp] theorem State.setCpu_ports (s : State) (p : Proc) (c : Cpu) : (s.setCpu p c).ports = s.ports := rfl
@[simp] theorem State.setCpu_gates (s : State) (p : Proc) (c : Cpu) : (s.setCpu p c).gates = s.gates := rfl
@[simp] theorem State.setCpu_disp (s : State) (p : Proc) (c : Cpu) : (s.setCpu p c).disp = s.disp := rfl
@[simp] theorem State.setCpu_touch (s : State) (p : Proc) (c : Cpu) : (s.setCpu p c).touch = s.touch := rfl
@[simp] theorem State.setCpu_cams (s : State) (p : Proc) (c : Cpu) : (s.setCpu p c).cams = s.cams := rfl
@[simp] theorem State.setCpu_usb (s : State) (p : Proc) (c : Cpu) : (s.setCpu p c).usb = s.usb := rfl
@[simp] theorem State.setCpu_pcie (s : State) (p : Proc) (c : Cpu) : (s.setCpu p c).pcie = s.pcie := rfl
@[simp] theorem State.setCpu_ep (s : State) (p : Proc) (c : Cpu) : (s.setCpu p c).ep = s.ep := rfl
@[simp] theorem State.setCpu_mir (s : State) (p : Proc) (c : Cpu) : (s.setCpu p c).mir = s.mir := rfl
@[simp] theorem State.setCpu_dbg (s : State) (p : Proc) (c : Cpu) : (s.setCpu p c).dbg = s.dbg := rfl
@[simp] theorem State.setCpu_time (s : State) (p : Proc) (c : Cpu) : (s.setCpu p c).time = s.time := rfl
@[simp] theorem State.setCpu_fab (s : State) (p : Proc) (c : Cpu) : (s.setCpu p c).fab = s.fab := rfl
@[simp] theorem State.setCpu_free (s : State) (p : Proc) (c : Cpu) : (s.setCpu p c).free = s.free := rfl
@[simp] theorem State.setCpu_pending (s : State) (p : Proc) (c : Cpu) : (s.setCpu p c).pending = s.pending := rfl

@[simp] theorem State.setG_flds (s : State) (p : Proc) (r : RegNo) (v : Word) : (s.setG p r v).flds = s.flds := rfl
@[simp] theorem State.setG_sh (s : State) (p : Proc) (r : RegNo) (v : Word) : (s.setG p r v).sh = s.sh := rfl
@[simp] theorem State.setG_mem (s : State) (p : Proc) (r : RegNo) (v : Word) : (s.setG p r v).mem = s.mem := rfl
@[simp] theorem State.setG_caches (s : State) (p : Proc) (r : RegNo) (v : Word) : (s.setG p r v).caches = s.caches := rfl
@[simp] theorem State.setG_icCommit (s : State) (p : Proc) (r : RegNo) (v : Word) : (s.setG p r v).icCommit = s.icCommit := rfl
@[simp] theorem State.setG_icPulse (s : State) (p : Proc) (r : RegNo) (v : Word) : (s.setG p r v).icPulse = s.icPulse := rfl
@[simp] theorem State.setG_dregs (s : State) (p : Proc) (r : RegNo) (v : Word) : (s.setG p r v).dregs = s.dregs := rfl
@[simp] theorem State.setG_ket (s : State) (p : Proc) (r : RegNo) (v : Word) : (s.setG p r v).ket = s.ket := rfl
@[simp] theorem State.setG_steep (s : State) (p : Proc) (r : RegNo) (v : Word) : (s.setG p r v).steep = s.steep := rfl
@[simp] theorem State.setG_dram (s : State) (p : Proc) (r : RegNo) (v : Word) : (s.setG p r v).dram = s.dram := rfl
@[simp] theorem State.setG_warm (s : State) (p : Proc) (r : RegNo) (v : Word) : (s.setG p r v).warm = s.warm := rfl
@[simp] theorem State.setG_caddy (s : State) (p : Proc) (r : RegNo) (v : Word) : (s.setG p r v).caddy = s.caddy := rfl
@[simp] theorem State.setG_trace (s : State) (p : Proc) (r : RegNo) (v : Word) : (s.setG p r v).trace = s.trace := rfl
@[simp] theorem State.setG_pwr (s : State) (p : Proc) (r : RegNo) (v : Word) : (s.setG p r v).pwr = s.pwr := rfl
@[simp] theorem State.setG_sup (s : State) (p : Proc) (r : RegNo) (v : Word) : (s.setG p r v).sup = s.sup := rfl
@[simp] theorem State.setG_clk (s : State) (p : Proc) (r : RegNo) (v : Word) : (s.setG p r v).clk = s.clk := rfl
@[simp] theorem State.setG_links (s : State) (p : Proc) (r : RegNo) (v : Word) : (s.setG p r v).links = s.links := rfl
@[simp] theorem State.setG_router (s : State) (p : Proc) (r : RegNo) (v : Word) : (s.setG p r v).router = s.router := rfl
@[simp] theorem State.setG_inf (s : State) (p : Proc) (r : RegNo) (v : Word) : (s.setG p r v).inf = s.inf := rfl
@[simp] theorem State.setG_ports (s : State) (p : Proc) (r : RegNo) (v : Word) : (s.setG p r v).ports = s.ports := rfl
@[simp] theorem State.setG_gates (s : State) (p : Proc) (r : RegNo) (v : Word) : (s.setG p r v).gates = s.gates := rfl
@[simp] theorem State.setG_disp (s : State) (p : Proc) (r : RegNo) (v : Word) : (s.setG p r v).disp = s.disp := rfl
@[simp] theorem State.setG_touch (s : State) (p : Proc) (r : RegNo) (v : Word) : (s.setG p r v).touch = s.touch := rfl
@[simp] theorem State.setG_cams (s : State) (p : Proc) (r : RegNo) (v : Word) : (s.setG p r v).cams = s.cams := rfl
@[simp] theorem State.setG_usb (s : State) (p : Proc) (r : RegNo) (v : Word) : (s.setG p r v).usb = s.usb := rfl
@[simp] theorem State.setG_pcie (s : State) (p : Proc) (r : RegNo) (v : Word) : (s.setG p r v).pcie = s.pcie := rfl
@[simp] theorem State.setG_ep (s : State) (p : Proc) (r : RegNo) (v : Word) : (s.setG p r v).ep = s.ep := rfl
@[simp] theorem State.setG_mir (s : State) (p : Proc) (r : RegNo) (v : Word) : (s.setG p r v).mir = s.mir := rfl
@[simp] theorem State.setG_dbg (s : State) (p : Proc) (r : RegNo) (v : Word) : (s.setG p r v).dbg = s.dbg := rfl
@[simp] theorem State.setG_time (s : State) (p : Proc) (r : RegNo) (v : Word) : (s.setG p r v).time = s.time := rfl
@[simp] theorem State.setG_fab (s : State) (p : Proc) (r : RegNo) (v : Word) : (s.setG p r v).fab = s.fab := rfl
@[simp] theorem State.setG_free (s : State) (p : Proc) (r : RegNo) (v : Word) : (s.setG p r v).free = s.free := rfl
@[simp] theorem State.setG_pending (s : State) (p : Proc) (r : RegNo) (v : Word) : (s.setG p r v).pending = s.pending := rfl

@[simp] theorem State.setV_flds (s : State) (p : Proc) (r : RegNo) (v : VWord) : (s.setV p r v).flds = s.flds := rfl
@[simp] theorem State.setV_sh (s : State) (p : Proc) (r : RegNo) (v : VWord) : (s.setV p r v).sh = s.sh := rfl
@[simp] theorem State.setV_mem (s : State) (p : Proc) (r : RegNo) (v : VWord) : (s.setV p r v).mem = s.mem := rfl
@[simp] theorem State.setV_caches (s : State) (p : Proc) (r : RegNo) (v : VWord) : (s.setV p r v).caches = s.caches := rfl
@[simp] theorem State.setV_icCommit (s : State) (p : Proc) (r : RegNo) (v : VWord) : (s.setV p r v).icCommit = s.icCommit := rfl
@[simp] theorem State.setV_icPulse (s : State) (p : Proc) (r : RegNo) (v : VWord) : (s.setV p r v).icPulse = s.icPulse := rfl
@[simp] theorem State.setV_dregs (s : State) (p : Proc) (r : RegNo) (v : VWord) : (s.setV p r v).dregs = s.dregs := rfl
@[simp] theorem State.setV_ket (s : State) (p : Proc) (r : RegNo) (v : VWord) : (s.setV p r v).ket = s.ket := rfl
@[simp] theorem State.setV_steep (s : State) (p : Proc) (r : RegNo) (v : VWord) : (s.setV p r v).steep = s.steep := rfl
@[simp] theorem State.setV_dram (s : State) (p : Proc) (r : RegNo) (v : VWord) : (s.setV p r v).dram = s.dram := rfl
@[simp] theorem State.setV_warm (s : State) (p : Proc) (r : RegNo) (v : VWord) : (s.setV p r v).warm = s.warm := rfl
@[simp] theorem State.setV_caddy (s : State) (p : Proc) (r : RegNo) (v : VWord) : (s.setV p r v).caddy = s.caddy := rfl
@[simp] theorem State.setV_trace (s : State) (p : Proc) (r : RegNo) (v : VWord) : (s.setV p r v).trace = s.trace := rfl
@[simp] theorem State.setV_pwr (s : State) (p : Proc) (r : RegNo) (v : VWord) : (s.setV p r v).pwr = s.pwr := rfl
@[simp] theorem State.setV_sup (s : State) (p : Proc) (r : RegNo) (v : VWord) : (s.setV p r v).sup = s.sup := rfl
@[simp] theorem State.setV_clk (s : State) (p : Proc) (r : RegNo) (v : VWord) : (s.setV p r v).clk = s.clk := rfl
@[simp] theorem State.setV_links (s : State) (p : Proc) (r : RegNo) (v : VWord) : (s.setV p r v).links = s.links := rfl
@[simp] theorem State.setV_router (s : State) (p : Proc) (r : RegNo) (v : VWord) : (s.setV p r v).router = s.router := rfl
@[simp] theorem State.setV_inf (s : State) (p : Proc) (r : RegNo) (v : VWord) : (s.setV p r v).inf = s.inf := rfl
@[simp] theorem State.setV_ports (s : State) (p : Proc) (r : RegNo) (v : VWord) : (s.setV p r v).ports = s.ports := rfl
@[simp] theorem State.setV_gates (s : State) (p : Proc) (r : RegNo) (v : VWord) : (s.setV p r v).gates = s.gates := rfl
@[simp] theorem State.setV_disp (s : State) (p : Proc) (r : RegNo) (v : VWord) : (s.setV p r v).disp = s.disp := rfl
@[simp] theorem State.setV_touch (s : State) (p : Proc) (r : RegNo) (v : VWord) : (s.setV p r v).touch = s.touch := rfl
@[simp] theorem State.setV_cams (s : State) (p : Proc) (r : RegNo) (v : VWord) : (s.setV p r v).cams = s.cams := rfl
@[simp] theorem State.setV_usb (s : State) (p : Proc) (r : RegNo) (v : VWord) : (s.setV p r v).usb = s.usb := rfl
@[simp] theorem State.setV_pcie (s : State) (p : Proc) (r : RegNo) (v : VWord) : (s.setV p r v).pcie = s.pcie := rfl
@[simp] theorem State.setV_ep (s : State) (p : Proc) (r : RegNo) (v : VWord) : (s.setV p r v).ep = s.ep := rfl
@[simp] theorem State.setV_mir (s : State) (p : Proc) (r : RegNo) (v : VWord) : (s.setV p r v).mir = s.mir := rfl
@[simp] theorem State.setV_dbg (s : State) (p : Proc) (r : RegNo) (v : VWord) : (s.setV p r v).dbg = s.dbg := rfl
@[simp] theorem State.setV_time (s : State) (p : Proc) (r : RegNo) (v : VWord) : (s.setV p r v).time = s.time := rfl
@[simp] theorem State.setV_fab (s : State) (p : Proc) (r : RegNo) (v : VWord) : (s.setV p r v).fab = s.fab := rfl
@[simp] theorem State.setV_free (s : State) (p : Proc) (r : RegNo) (v : VWord) : (s.setV p r v).free = s.free := rfl
@[simp] theorem State.setV_pending (s : State) (p : Proc) (r : RegNo) (v : VWord) : (s.setV p r v).pending = s.pending := rfl

@[simp] theorem State.onSt_flds (s : State) (p : Proc) (f : Status → Status) : (s.onSt p f).flds = s.flds := rfl
@[simp] theorem State.onSt_sh (s : State) (p : Proc) (f : Status → Status) : (s.onSt p f).sh = s.sh := rfl
@[simp] theorem State.onSt_mem (s : State) (p : Proc) (f : Status → Status) : (s.onSt p f).mem = s.mem := rfl
@[simp] theorem State.onSt_caches (s : State) (p : Proc) (f : Status → Status) : (s.onSt p f).caches = s.caches := rfl
@[simp] theorem State.onSt_icCommit (s : State) (p : Proc) (f : Status → Status) : (s.onSt p f).icCommit = s.icCommit := rfl
@[simp] theorem State.onSt_icPulse (s : State) (p : Proc) (f : Status → Status) : (s.onSt p f).icPulse = s.icPulse := rfl
@[simp] theorem State.onSt_dregs (s : State) (p : Proc) (f : Status → Status) : (s.onSt p f).dregs = s.dregs := rfl
@[simp] theorem State.onSt_ket (s : State) (p : Proc) (f : Status → Status) : (s.onSt p f).ket = s.ket := rfl
@[simp] theorem State.onSt_steep (s : State) (p : Proc) (f : Status → Status) : (s.onSt p f).steep = s.steep := rfl
@[simp] theorem State.onSt_dram (s : State) (p : Proc) (f : Status → Status) : (s.onSt p f).dram = s.dram := rfl
@[simp] theorem State.onSt_warm (s : State) (p : Proc) (f : Status → Status) : (s.onSt p f).warm = s.warm := rfl
@[simp] theorem State.onSt_caddy (s : State) (p : Proc) (f : Status → Status) : (s.onSt p f).caddy = s.caddy := rfl
@[simp] theorem State.onSt_trace (s : State) (p : Proc) (f : Status → Status) : (s.onSt p f).trace = s.trace := rfl
@[simp] theorem State.onSt_pwr (s : State) (p : Proc) (f : Status → Status) : (s.onSt p f).pwr = s.pwr := rfl
@[simp] theorem State.onSt_sup (s : State) (p : Proc) (f : Status → Status) : (s.onSt p f).sup = s.sup := rfl
@[simp] theorem State.onSt_clk (s : State) (p : Proc) (f : Status → Status) : (s.onSt p f).clk = s.clk := rfl
@[simp] theorem State.onSt_links (s : State) (p : Proc) (f : Status → Status) : (s.onSt p f).links = s.links := rfl
@[simp] theorem State.onSt_router (s : State) (p : Proc) (f : Status → Status) : (s.onSt p f).router = s.router := rfl
@[simp] theorem State.onSt_inf (s : State) (p : Proc) (f : Status → Status) : (s.onSt p f).inf = s.inf := rfl
@[simp] theorem State.onSt_ports (s : State) (p : Proc) (f : Status → Status) : (s.onSt p f).ports = s.ports := rfl
@[simp] theorem State.onSt_gates (s : State) (p : Proc) (f : Status → Status) : (s.onSt p f).gates = s.gates := rfl
@[simp] theorem State.onSt_disp (s : State) (p : Proc) (f : Status → Status) : (s.onSt p f).disp = s.disp := rfl
@[simp] theorem State.onSt_touch (s : State) (p : Proc) (f : Status → Status) : (s.onSt p f).touch = s.touch := rfl
@[simp] theorem State.onSt_cams (s : State) (p : Proc) (f : Status → Status) : (s.onSt p f).cams = s.cams := rfl
@[simp] theorem State.onSt_usb (s : State) (p : Proc) (f : Status → Status) : (s.onSt p f).usb = s.usb := rfl
@[simp] theorem State.onSt_pcie (s : State) (p : Proc) (f : Status → Status) : (s.onSt p f).pcie = s.pcie := rfl
@[simp] theorem State.onSt_ep (s : State) (p : Proc) (f : Status → Status) : (s.onSt p f).ep = s.ep := rfl
@[simp] theorem State.onSt_mir (s : State) (p : Proc) (f : Status → Status) : (s.onSt p f).mir = s.mir := rfl
@[simp] theorem State.onSt_dbg (s : State) (p : Proc) (f : Status → Status) : (s.onSt p f).dbg = s.dbg := rfl
@[simp] theorem State.onSt_time (s : State) (p : Proc) (f : Status → Status) : (s.onSt p f).time = s.time := rfl
@[simp] theorem State.onSt_fab (s : State) (p : Proc) (f : Status → Status) : (s.onSt p f).fab = s.fab := rfl
@[simp] theorem State.onSt_free (s : State) (p : Proc) (f : Status → Status) : (s.onSt p f).free = s.free := rfl
@[simp] theorem State.onSt_pending (s : State) (p : Proc) (f : Status → Status) : (s.onSt p f).pending = s.pending := rfl

@[simp] theorem writeByte_flds (s : State) (a : Nat) (b : Byte) : (writeByte s a b).flds = s.flds := rfl
@[simp] theorem writeByte_sh (s : State) (a : Nat) (b : Byte) : (writeByte s a b).sh = s.sh := rfl
@[simp] theorem writeByte_cpus (s : State) (a : Nat) (b : Byte) : (writeByte s a b).cpus = s.cpus := rfl
@[simp] theorem writeByte_caches (s : State) (a : Nat) (b : Byte) : (writeByte s a b).caches = s.caches := rfl
@[simp] theorem writeByte_icCommit (s : State) (a : Nat) (b : Byte) : (writeByte s a b).icCommit = s.icCommit := rfl
@[simp] theorem writeByte_icPulse (s : State) (a : Nat) (b : Byte) : (writeByte s a b).icPulse = s.icPulse := rfl
@[simp] theorem writeByte_dregs (s : State) (a : Nat) (b : Byte) : (writeByte s a b).dregs = s.dregs := rfl
@[simp] theorem writeByte_ket (s : State) (a : Nat) (b : Byte) : (writeByte s a b).ket = s.ket := rfl
@[simp] theorem writeByte_steep (s : State) (a : Nat) (b : Byte) : (writeByte s a b).steep = s.steep := rfl
@[simp] theorem writeByte_dram (s : State) (a : Nat) (b : Byte) : (writeByte s a b).dram = s.dram := rfl
@[simp] theorem writeByte_warm (s : State) (a : Nat) (b : Byte) : (writeByte s a b).warm = s.warm := rfl
@[simp] theorem writeByte_caddy (s : State) (a : Nat) (b : Byte) : (writeByte s a b).caddy = s.caddy := rfl
@[simp] theorem writeByte_trace (s : State) (a : Nat) (b : Byte) : (writeByte s a b).trace = s.trace := rfl
@[simp] theorem writeByte_pwr (s : State) (a : Nat) (b : Byte) : (writeByte s a b).pwr = s.pwr := rfl
@[simp] theorem writeByte_sup (s : State) (a : Nat) (b : Byte) : (writeByte s a b).sup = s.sup := rfl
@[simp] theorem writeByte_clk (s : State) (a : Nat) (b : Byte) : (writeByte s a b).clk = s.clk := rfl
@[simp] theorem writeByte_links (s : State) (a : Nat) (b : Byte) : (writeByte s a b).links = s.links := rfl
@[simp] theorem writeByte_router (s : State) (a : Nat) (b : Byte) : (writeByte s a b).router = s.router := rfl
@[simp] theorem writeByte_inf (s : State) (a : Nat) (b : Byte) : (writeByte s a b).inf = s.inf := rfl
@[simp] theorem writeByte_ports (s : State) (a : Nat) (b : Byte) : (writeByte s a b).ports = s.ports := rfl
@[simp] theorem writeByte_gates (s : State) (a : Nat) (b : Byte) : (writeByte s a b).gates = s.gates := rfl
@[simp] theorem writeByte_disp (s : State) (a : Nat) (b : Byte) : (writeByte s a b).disp = s.disp := rfl
@[simp] theorem writeByte_touch (s : State) (a : Nat) (b : Byte) : (writeByte s a b).touch = s.touch := rfl
@[simp] theorem writeByte_cams (s : State) (a : Nat) (b : Byte) : (writeByte s a b).cams = s.cams := rfl
@[simp] theorem writeByte_usb (s : State) (a : Nat) (b : Byte) : (writeByte s a b).usb = s.usb := rfl
@[simp] theorem writeByte_pcie (s : State) (a : Nat) (b : Byte) : (writeByte s a b).pcie = s.pcie := rfl
@[simp] theorem writeByte_ep (s : State) (a : Nat) (b : Byte) : (writeByte s a b).ep = s.ep := rfl
@[simp] theorem writeByte_mir (s : State) (a : Nat) (b : Byte) : (writeByte s a b).mir = s.mir := rfl
@[simp] theorem writeByte_dbg (s : State) (a : Nat) (b : Byte) : (writeByte s a b).dbg = s.dbg := rfl
@[simp] theorem writeByte_time (s : State) (a : Nat) (b : Byte) : (writeByte s a b).time = s.time := rfl
@[simp] theorem writeByte_fab (s : State) (a : Nat) (b : Byte) : (writeByte s a b).fab = s.fab := rfl
@[simp] theorem writeByte_free (s : State) (a : Nat) (b : Byte) : (writeByte s a b).free = s.free := rfl
@[simp] theorem writeByte_pending (s : State) (a : Nat) (b : Byte) : (writeByte s a b).pending = s.pending := rfl

@[simp] theorem onDbg_flds (s : State) (f : Dbg → Dbg) : (onDbg s f).flds = s.flds := rfl
@[simp] theorem onDbg_sh (s : State) (f : Dbg → Dbg) : (onDbg s f).sh = s.sh := rfl
@[simp] theorem onDbg_mem (s : State) (f : Dbg → Dbg) : (onDbg s f).mem = s.mem := rfl
@[simp] theorem onDbg_cpus (s : State) (f : Dbg → Dbg) : (onDbg s f).cpus = s.cpus := rfl
@[simp] theorem onDbg_caches (s : State) (f : Dbg → Dbg) : (onDbg s f).caches = s.caches := rfl
@[simp] theorem onDbg_icCommit (s : State) (f : Dbg → Dbg) : (onDbg s f).icCommit = s.icCommit := rfl
@[simp] theorem onDbg_icPulse (s : State) (f : Dbg → Dbg) : (onDbg s f).icPulse = s.icPulse := rfl
@[simp] theorem onDbg_dregs (s : State) (f : Dbg → Dbg) : (onDbg s f).dregs = s.dregs := rfl
@[simp] theorem onDbg_ket (s : State) (f : Dbg → Dbg) : (onDbg s f).ket = s.ket := rfl
@[simp] theorem onDbg_steep (s : State) (f : Dbg → Dbg) : (onDbg s f).steep = s.steep := rfl
@[simp] theorem onDbg_dram (s : State) (f : Dbg → Dbg) : (onDbg s f).dram = s.dram := rfl
@[simp] theorem onDbg_warm (s : State) (f : Dbg → Dbg) : (onDbg s f).warm = s.warm := rfl
@[simp] theorem onDbg_caddy (s : State) (f : Dbg → Dbg) : (onDbg s f).caddy = s.caddy := rfl
@[simp] theorem onDbg_trace (s : State) (f : Dbg → Dbg) : (onDbg s f).trace = s.trace := rfl
@[simp] theorem onDbg_pwr (s : State) (f : Dbg → Dbg) : (onDbg s f).pwr = s.pwr := rfl
@[simp] theorem onDbg_sup (s : State) (f : Dbg → Dbg) : (onDbg s f).sup = s.sup := rfl
@[simp] theorem onDbg_clk (s : State) (f : Dbg → Dbg) : (onDbg s f).clk = s.clk := rfl
@[simp] theorem onDbg_links (s : State) (f : Dbg → Dbg) : (onDbg s f).links = s.links := rfl
@[simp] theorem onDbg_router (s : State) (f : Dbg → Dbg) : (onDbg s f).router = s.router := rfl
@[simp] theorem onDbg_inf (s : State) (f : Dbg → Dbg) : (onDbg s f).inf = s.inf := rfl
@[simp] theorem onDbg_ports (s : State) (f : Dbg → Dbg) : (onDbg s f).ports = s.ports := rfl
@[simp] theorem onDbg_gates (s : State) (f : Dbg → Dbg) : (onDbg s f).gates = s.gates := rfl
@[simp] theorem onDbg_disp (s : State) (f : Dbg → Dbg) : (onDbg s f).disp = s.disp := rfl
@[simp] theorem onDbg_touch (s : State) (f : Dbg → Dbg) : (onDbg s f).touch = s.touch := rfl
@[simp] theorem onDbg_cams (s : State) (f : Dbg → Dbg) : (onDbg s f).cams = s.cams := rfl
@[simp] theorem onDbg_usb (s : State) (f : Dbg → Dbg) : (onDbg s f).usb = s.usb := rfl
@[simp] theorem onDbg_pcie (s : State) (f : Dbg → Dbg) : (onDbg s f).pcie = s.pcie := rfl
@[simp] theorem onDbg_ep (s : State) (f : Dbg → Dbg) : (onDbg s f).ep = s.ep := rfl
@[simp] theorem onDbg_mir (s : State) (f : Dbg → Dbg) : (onDbg s f).mir = s.mir := rfl
@[simp] theorem onDbg_time (s : State) (f : Dbg → Dbg) : (onDbg s f).time = s.time := rfl
@[simp] theorem onDbg_fab (s : State) (f : Dbg → Dbg) : (onDbg s f).fab = s.fab := rfl
@[simp] theorem onDbg_free (s : State) (f : Dbg → Dbg) : (onDbg s f).free = s.free := rfl
@[simp] theorem onDbg_pending (s : State) (f : Dbg → Dbg) : (onDbg s f).pending = s.pending := rfl

end Sys2Proof.Machine
end

