-- ==== Sys2Proof/Laws/Regs.lean ====
section
/-! SUPPORT. Laws of the register fields, of the processors and of memory: a read after a write. -/

namespace Sys2Proof.Machine

/-! ### Fields -/

theorem fkey_same (f : Fld) {i j : Nat} (h : i % 4096 = j % 4096) : fkey f i = fkey f j := by simp [fkey, h]

theorem fkey_ne_id {f g : Fld} (i j : Nat) (h : f.id ≠ g.id) : fkey f i ≠ fkey g j := by
  have h1 := Nat.mod_lt i (by decide : 0 < 4096)
  have h2 := Nat.mod_lt j (by decide : 0 < 4096)
  simp only [fkey, ne_eq]; omega

theorem fkey_ne_ix (f : Fld) {i j : Nat} (h : i % 4096 ≠ j % 4096) : fkey f i ≠ fkey f j := by
  simp only [fkey, ne_eq]; omega

namespace State

/-- A field reads what was put into it, cut to its width. -/
@[simp] theorem fl_setF_same (s : State) (f : Fld) (i v : Nat) : (s.setF f i v).fl f i = v % 2 ^ f.width := by
  simp [fl, setF]

/-- Another field reads as before. -/
theorem fl_setF_id (s : State) {f g : Fld} (i j v : Nat) (h : f.id ≠ g.id) : (s.setF f i v).fl g j = s.fl g j := by
  have hk := fkey_ne_id i j h
  have h2 : f.reset = f.reset := rfl
  unfold fl setF
  by_cases hv : v % 2 ^ f.width = f.reset
  · simp [mset, hv, mget_mdel_ne _ _ hk]
  · simp [mset, hv, mget_mput_ne _ _ _ hk]

/-- Another element of the field reads as before. -/
theorem fl_setF_ix (s : State) (f : Fld) {i j : Nat} (v : Nat) (h : i % 4096 ≠ j % 4096) :
    (s.setF f i v).fl f j = s.fl f j := by
  simp [fl, setF, mget_mset_ne _ _ _ (fkey_ne_ix f h)]

theorem fl_setF (s : State) (f : Fld) (i j v : Nat) :
    (s.setF f i v).fl f j = if i % 4096 = j % 4096 then v % 2 ^ f.width else s.fl f j := by
  by_cases h : i % 4096 = j % 4096
  · rw [if_pos h]
    unfold fl setF
    rw [← fkey_same f h]
    simp
  · simp [h, fl_setF_ix s f v h]

@[simp] theorem fb_setB_same (s : State) (f : Fld) (i : Nat) (b : Bool) (h : f.width ≠ 0) :
    (s.setB f i b).fb f i = b := by
  have h1 : (2 : Nat) ∣ 2 ^ f.width := dvd_pow_self 2 h
  cases b <;> simp [fb, setB, b2n, Nat.mod_mod_of_dvd _ h1]

theorem fb_setF_id (s : State) {f g : Fld} (i j v : Nat) (h : f.id ≠ g.id) : (s.setF f i v).fb g j = s.fb g j := by
  simp [fb, fl_setF_id s i j v h]

theorem fl_setB_id (s : State) {f g : Fld} (i j : Nat) (b : Bool) (h : f.id ≠ g.id) : (s.setB f i b).fl g j = s.fl g j :=
  fl_setF_id s i j _ h

theorem fb_setB_id (s : State) {f g : Fld} (i j : Nat) (b : Bool) (h : f.id ≠ g.id) : (s.setB f i b).fb g j = s.fb g j :=
  fb_setF_id s i j _ h

/-- What reads fields alone does not see a change elsewhere. -/
theorem fl_congr {s t : State} (h : t.flds = s.flds) (f : Fld) (i : Nat) : t.fl f i = s.fl f i := by simp [fl, h]
theorem fb_congr {s t : State} (h : t.flds = s.flds) (f : Fld) (i : Nat) : t.fb f i = s.fb f i := by simp [fb, fl, h]

@[simp] theorem fl_setCpu (s : State) (p : Proc) (c : Cpu) (f : Fld) (i : Nat) : (s.setCpu p c).fl f i = s.fl f i := rfl
@[simp] theorem fb_setCpu (s : State) (p : Proc) (c : Cpu) (f : Fld) (i : Nat) : (s.setCpu p c).fb f i = s.fb f i := rfl
@[simp] theorem fl_setG (s : State) (p : Proc) (r : RegNo) (v : Word) (f : Fld) (i : Nat) : (s.setG p r v).fl f i = s.fl f i := rfl
@[simp] theorem fl_setSh (s : State) (g : Fld) (j v : Nat) (f : Fld) (i : Nat) : (s.setSh g j v).fl f i = s.fl f i := rfl
@[simp] theorem fl_dropSh (s : State) (g : Fld) (j : Nat) (f : Fld) (i : Nat) : (s.dropSh g j).fl f i = s.fl f i := rfl

/-- The pending value of an RWP field is what was last written to its shadow. -/
@[simp] theorem shv_setSh_same (s : State) (f : Fld) (i v : Nat) : (s.setSh f i v).shv f i = v % 2 ^ f.width := by
  simp [shv, setSh]

@[simp] theorem shv_dropSh_same (s : State) (f : Fld) (i : Nat) : (s.dropSh f i).shv f i = s.fl f i := by
  simp [shv, dropSh]
  rfl

/-! ### Processors -/

theorem ix_inj {p q : Proc} (h : p.ix = q.ix) : p = q := by
  cases p <;> cases q <;> simp_all [Proc.ix, Fin.ext_iff] <;> omega

@[simp] theorem cpu_setCpu_same (s : State) (p : Proc) (c : Cpu) : (s.setCpu p c).cpu p = c := by simp [cpu, setCpu]

theorem cpu_setCpu_ne (s : State) {p q : Proc} (c : Cpu) (h : q ≠ p) : (s.setCpu p c).cpu q = s.cpu q := by
  have : p.ix ≠ q.ix := fun e => h (ix_inj e).symm
  simp [cpu, setCpu, this]

@[simp] theorem cpu_setF (s : State) (p : Proc) (f : Fld) (i v : Nat) : (s.setF f i v).cpu p = s.cpu p := rfl
@[simp] theorem cpu_setB (s : State) (p : Proc) (f : Fld) (i : Nat) (b : Bool) : (s.setB f i b).cpu p = s.cpu p := rfl
@[simp] theorem cpu_setSh (s : State) (p : Proc) (f : Fld) (i v : Nat) : (s.setSh f i v).cpu p = s.cpu p := rfl
@[simp] theorem cpu_writeByte (s : State) (p : Proc) (a : Nat) (b : Byte) : (writeByte s a b).cpu p = s.cpu p := rfl

/-- The last of two writes of one processor counts. -/
theorem setCpu_cpus (s : State) (p : Proc) (c : Cpu) : { s.setCpu p c with cpus := s.cpus } = s := rfl

end State

/-! ### Memory -/

@[simp] theorem readByte_writeByte_same (s : State) (a : Nat) (b : Byte) : readByte (writeByte s a b) a = b := by
  simp [readByte, writeByte]

theorem readByte_writeByte_ne (s : State) {a a' : Nat} (b : Byte) (h : a ≠ a') :
    readByte (writeByte s a b) a' = readByte s a' := by
  simp [readByte, writeByte, h]

/-- Bytes outside a write keep their values. -/
theorem readByte_writeBytes_out (n : Nat) : ∀ (s : State) (a v a' : Nat), a' < a ∨ a + n ≤ a' →
    readByte (writeBytes s a n v) a' = readByte s a' := by
  induction n with
  | zero => intro s a v a' _; rfl
  | succ n ih =>
    intro s a v a' h
    rw [writeBytes, ih _ _ _ _ (by omega), readByte_writeByte_ne _ _ (by omega)]

/-- The bytes of a write take the bytes of the value, lowest first. -/
theorem readByte_writeBytes_in (n : Nat) : ∀ (s : State) (a v i : Nat), i < n →
    readByte (writeBytes s a n v) (a + i) = BitVec.ofNat 8 (v / 256 ^ i) := by
  induction n with
  | zero => intro s a v i h; omega
  | succ n ih =>
    intro s a v i h
    cases i with
    | zero =>
      rw [writeBytes, Nat.add_zero, readByte_writeBytes_out _ _ _ _ _ (Or.inl (by omega))]
      simp
    | succ i =>
      rw [writeBytes, show a + (i + 1) = a + 1 + i by omega, ih _ _ _ _ (by omega), Nat.div_div_eq_div_mul,
        Nat.pow_succ, Nat.mul_comm]

/-- What is written is read back. -/
theorem readBytes_writeBytes (n : Nat) : ∀ (s : State) (a v : Nat), readBytes (writeBytes s a n v) a n = v % 256 ^ n := by
  induction n with
  | zero => intro s a v; simp [readBytes, Nat.mod_one]
  | succ n ih =>
    intro s a v
    rw [writeBytes, readBytes, ih, readByte_writeBytes_out _ _ _ _ _ (Or.inl (by omega)), readByte_writeByte_same]
    rw [Nat.pow_succ, Nat.mul_comm (256 ^ n), Nat.mod_mul]
    simp [BitVec.toNat_ofNat]

/-- A write changes memory only. -/
theorem writeBytes_only (n : Nat) : ∀ (s : State) (a v : Nat), ∃ m, writeBytes s a n v = { s with mem := m } := by
  induction n with
  | zero => intro s a v; exact ⟨s.mem, rfl⟩
  | succ n ih =>
    intro s a v
    obtain ⟨m, h⟩ := ih (writeByte s a (BitVec.ofNat 8 v)) (a + 1) (v / 256)
    exact ⟨m, h⟩

/-- Reading outside a write gives what was there. -/
theorem readBytes_writeBytes_out (m : Nat) : ∀ (s : State) (a n v b : Nat), b + m ≤ a ∨ a + n ≤ b →
    readBytes (writeBytes s a n v) b m = readBytes s b m := by
  induction m with
  | zero => intro s a n v b _; rfl
  | succ m ih =>
    intro s a n v b h
    rw [readBytes, readBytes, readByte_writeBytes_out _ _ _ _ _ (by omega), ih _ _ _ _ _ (by omega)]

@[simp] theorem length_readList (s : State) (n : Nat) : ∀ a, (readList s a n).length = n := by
  induction n with
  | zero => intro a; rfl
  | succ n ih => intro a; rw [readList, List.length_cons, ih]

/-- A field of the bytes read is the value at its place. -/
theorem bytesNat_readList (s : State) (m : Nat) : ∀ (i n a : Nat), i + m ≤ n →
    bytesNat (((readList s a n).drop i).take m) = readBytes s (a + i) m := by
  induction m with
  | zero => intro i n a _; simp [bytesNat, readBytes]
  | succ m ih =>
    intro i
    induction i with
    | zero =>
      intro n a h
      obtain ⟨n, rfl⟩ : ∃ k, n = k + 1 := ⟨n - 1, by omega⟩
      have := ih 0 n (a + 1) (by omega)
      simpa [readList, bytesNat, readBytes] using this
    | succ i ihi =>
      intro n a h
      obtain ⟨n, rfl⟩ : ∃ k, n = k + 1 := ⟨n - 1, by omega⟩
      rw [readList, List.drop_succ_cons, ihi n (a + 1) (by omega), show a + 1 + i = a + (i + 1) by omega]

/-- Every memory operation keeps the form. -/
theorem Memory.wf_writeByte (s : State) (a : Nat) (b : Byte) (h : Memory.wf s.mem = true) :
    Memory.wf (writeByte s a b).mem = true := mwf_mset _ _ _ _ h

theorem Memory.wf_writeBytes (n : Nat) : ∀ (s : State) (a v : Nat), Memory.wf s.mem = true →
    Memory.wf (writeBytes s a n v).mem = true := by
  induction n with
  | zero => intro s a v h; exact h
  | succ n ih => intro s a v h; exact ih _ _ _ (Memory.wf_writeByte s a _ h)

theorem Memory.wf_writeList (bs : List Byte) : ∀ (s : State) (a : Nat), Memory.wf s.mem = true →
    Memory.wf (writeList s a bs).mem = true := by
  induction bs with
  | nil => intro s a h; exact h
  | cons b bs ih => intro s a h; exact ih _ _ (Memory.wf_writeByte s a b h)

end Sys2Proof.Machine
end

