-- ==== Sys2Proof/Laws/Proc.lean ====
section
/-! SUPPORT. What running one instruction comes to on a processor at rest: the lemmas that a proof about an instruction
cites instead of unfolding runInstr, finish and retire. -/

namespace Sys2Proof.Machine

/-! ### Registers of one processor -/

@[simp] theorem Cpu.rd_31 (k : Cpu) (b : Nat) : k.rd b 31 = 0 := by simp [Cpu.rd]
@[simp] theorem Cpu.wr_31 (k : Cpu) (b : Nat) (v : Word) : k.wr b 31 v = k := by simp [Cpu.wr]

theorem Cpu.rd_wr_same (k : Cpu) (b : Nat) {r : RegNo} (v : Word) (h : r ≠ 31) : (k.wr b r v).rd b r = v := by
  simp [Cpu.rd, Cpu.wr, h]

theorem Cpu.rd_wr_ne (k : Cpu) {b b' : Nat} {r r' : RegNo} (v : Word) (h : 32 * b + r.val ≠ 32 * b' + r'.val) :
    (k.wr b r v).rd b' r' = k.rd b' r' := by
  unfold Cpu.rd Cpu.wr
  by_cases h1 : r' = 31
  · simp [h1]
  · by_cases h2 : r = 31
    · simp [h1, h2]
    · simp [h1, h2, h]

/-- A write of a general register changes nothing else of its processor. -/
theorem Cpu.wr_eq (k : Cpu) (b : Nat) (r : RegNo) (v : Word) : k.wr b r v = { k with g := (k.wr b r v).g } := by
  unfold Cpu.wr; split <;> rfl

@[simp] theorem Cpu.wr_st (k : Cpu) (b : Nat) (r : RegNo) (v : Word) : (k.wr b r v).st = k.st := by unfold Cpu.wr; split <;> rfl
@[simp] theorem Cpu.wr_pc (k : Cpu) (b : Nat) (r : RegNo) (v : Word) : (k.wr b r v).pc = k.pc := by unfold Cpu.wr; split <;> rfl
@[simp] theorem Cpu.wr_wait (k : Cpu) (b : Nat) (r : RegNo) (v : Word) : (k.wr b r v).wait = k.wait := by unfold Cpu.wr; split <;> rfl
@[simp] theorem Cpu.wr_lc (k : Cpu) (b : Nat) (r : RegNo) (v : Word) : (k.wr b r v).lc = k.lc := by unfold Cpu.wr; split <;> rfl
@[simp] theorem Cpu.wr_pendIe (k : Cpu) (b : Nat) (r : RegNo) (v : Word) : (k.wr b r v).pendIe = k.pendIe := by unfold Cpu.wr; split <;> rfl
@[simp] theorem Cpu.wr_pendIpl (k : Cpu) (b : Nat) (r : RegNo) (v : Word) : (k.wr b r v).pendIpl = k.pendIpl := by unfold Cpu.wr; split <;> rfl
@[simp] theorem Cpu.wr_stepBank (k : Cpu) (b : Nat) (r : RegNo) (v : Word) : (k.wr b r v).stepBank = k.stepBank := by unfold Cpu.wr; split <;> rfl
@[simp] theorem Cpu.wr_sb (k : Cpu) (b : Nat) (r : RegNo) (v : Word) : (k.wr b r v).sb = k.sb := by unfold Cpu.wr; split <;> rfl

/-- Two processors with the same bank in use. -/
theorem bankInUse_congr {p : Proc} {k k' : Cpu} (h : k'.st = k.st) : bankInUse p k' = bankInUse p k := by
  cases p <;> simp [bankInUse, h]

/-! ### Completion on a processor at rest -/

theorem countEvent_none (s : State) (ev unit : Nat) (part : Option Nat) (h : setElems s F.PC_EVT_EN = []) :
    countEvent s ev unit part = s := by
  unfold countEvent; split <;> simp [h]

theorem countDone_none (s : State) (p : Proc) (h : setElems s F.PC_EVT_EN = []) : countDone s p = s := by
  cases p <;> simp [countDone, countCore, countEvent_none, h]

theorem loopEnd_none (k : Cpu) (pc npc : Word) (h : ∀ l, l ≤ 1 → mget 0 k.lc l = 0 ∨ pc ≠ mget 0 k.le l) :
    loopEnd k pc npc = (k, npc) := by
  have h : ∀ lvl t, lvl ≤ 1 → loopCheck k lvl pc npc t = (k, npc, t) := by
    intro lvl t hl
    unfold loopCheck
    rw [if_neg (fun c => (h lvl hl).elim c.1 (fun hn => hn c.2.1))]
  simp only [loopEnd, h 1 _ (by decide), h 0 _ (by decide)]

/-- Plain completion: only the pc moves. -/
theorem retire_plain (s : State) (p : Proc) (pc npc : Word) (keep : Bool) (h : Plain p s pc) :
    retire s p pc npc keep = s.setCpu p { s.cpu p with pc := npc, wait := .none } := by
  have e : clearPending { s.cpu p with st := withPending (s.cpu p) } = s.cpu p := by
    simp only [clearPending, withPending, h.ie, h.ipl, Option.getD_none]
    have h1 := h.ie
    have h2 := h.ipl
    cases hk : s.cpu p
    simp_all
  have hc : setElems (s.setCpu p { s.cpu p with pc := npc, wait := .none }) F.PC_EVT_EN = [] := h.count
  simp only [retire, loopEnd_none _ _ _ h.loop, e, ite_self]
  rw [countDone_none _ _ hc]
  cases p <;> simp [debugStep, h.step]

/-- A plain completion with IE or IPL left pending, as MTC STATUS leaves them. -/
theorem retire_keep (s : State) (p : Proc) (pc npc : Word) (hl : ∀ l, l ≤ 1 → mget 0 (s.cpu p).lc l = 0 ∨ pc ≠ mget 0 (s.cpu p).le l)
    (hs : (s.cpu p).stepBank = none) (hc : setElems s F.PC_EVT_EN = []) :
    retire s p pc npc true = s.setCpu p { s.cpu p with pc := npc, wait := .none } := by
  have hc : setElems (s.setCpu p { s.cpu p with pc := npc, wait := .none }) F.PC_EVT_EN = [] := hc
  simp only [retire, loopEnd_none _ _ _ hl, if_true]
  rw [countDone_none _ _ hc]
  cases p <;> simp [debugStep, hs]

/-- Putting back what a processor is changes nothing. -/
theorem State.setCpu_self (s : State) (p : Proc) (h : mwf {} s.cpus = true) : s.setCpu p (s.cpu p) = s := by
  simp only [State.setCpu, State.cpu, mset_mget _ _ _ h]

/-- A processor at rest runs the instruction's own operation. -/
theorem runInstr_ready {p : Proc} {s : State} (h : Ready p s) (who : Who) (ha : who.admits p = true) (body : State → IRes) :
    runInstr p who body s = finish p (s.cpu p).pc (body s) := by
  have hr : canRun s p = true := by simp [canRun, h.run, h.clock, h.taken, h.wait]
  unfold runInstr
  rw [if_pos hr]
  simp only [h.wait]
  cases p with
  | core c =>
    have hd : debugActs s c = false := h.debug
    simp [compare, hd, ha]
  | infuser i => simp [ha]
  | caddy => simp [ha]

/-- One that does not decode the instruction raises ILLEGAL. -/
theorem runInstr_ready_illegal {p : Proc} {s : State} (h : Ready p s) (who : Who) (ha : who.admits p = false)
    (body : State → IRes) : runInstr p who body s = finish p (s.cpu p).pc (.exc illegal s) := by
  have hr : canRun s p = true := by simp [canRun, h.run, h.clock, h.taken, h.wait]
  unfold runInstr
  rw [if_pos hr]
  simp only [h.wait]
  cases p with
  | core c =>
    have hd : debugActs s c = false := h.debug
    simp [compare, hd, ha]
  | infuser i => simp [ha]
  | caddy => simp [ha]

/-! ### Changes of one processor -/

theorem OnlyCpu.refl (p : Proc) (s : State) : OnlyCpu p s s (s.cpu p) := ⟨rfl, fun _ _ => rfl, rfl⟩

theorem OnlyCpu.setCpu {p : Proc} {s t : State} {k : Cpu} (h : OnlyCpu p s t k) (k' : Cpu) :
    OnlyCpu p s (t.setCpu p k') k' :=
  ⟨State.cpu_setCpu_same _ _ _, fun q hq => by rw [State.cpu_setCpu_ne _ _ hq]; exact h.others q hq, h.rest⟩

theorem OnlyCpu.setG {p : Proc} {s t : State} {k : Cpu} (h : OnlyCpu p s t k) (r : RegNo) (v : Word) :
    OnlyCpu p s (t.setG p r v) (k.wr (bankInUse p k) r v) := by
  unfold State.setG
  rw [h.cpu]
  exact h.setCpu _

theorem OnlyCpu.setV {p : Proc} {s t : State} {k : Cpu} (h : OnlyCpu p s t k) (r : RegNo) (v : VWord) :
    OnlyCpu p s (t.setV p r v) (k.wrV r v) := by
  unfold State.setV
  rw [h.cpu]
  exact h.setCpu _

theorem OnlyCpu.onSt {p : Proc} {s t : State} {k : Cpu} (h : OnlyCpu p s t k) (f : Status → Status) :
    OnlyCpu p s (t.onSt p f) { k with st := f k.st } := by
  unfold State.onSt
  rw [h.cpu]
  exact h.setCpu _

theorem OnlyCpu.flds {p : Proc} {s t : State} {k : Cpu} (h : OnlyCpu p s t k) : t.flds = s.flds := by
  have := congrArg State.flds h.rest
  exact this

/-- A register that only this processor's change may have altered. -/
theorem OnlyCpu.g {p : Proc} {s t : State} {k : Cpu} (h : OnlyCpu p s t k) (r : RegNo) :
    t.g p r = k.rd (bankInUse p k) r := by simp only [State.g, h.cpu]

/-! ### Completion -/

/-- An operation that left `t` completes with the pc alone. -/
theorem ends_retire {p : Proc} {t : State} (pc npc : Word) (keep : Bool) (h : Plain p t pc) :
    OnlyCpu p t (retire t p pc npc keep) { t.cpu p with pc := npc } := by
  rw [retire_plain _ _ _ _ _ h]
  have e : ({ t.cpu p with pc := npc, wait := .none } : Cpu) = { t.cpu p with pc := npc } := by rw [← h.rest]
  rw [e]
  exact (OnlyCpu.refl p t).setCpu _

/-- What a change of one processor leaves plain. -/
theorem OnlyCpu.plain {p : Proc} {s t : State} {k : Cpu} {pc : Word} (ho : OnlyCpu p s t k) (h : Plain p s pc)
    (hl : k.lc = (s.cpu p).lc) (he : k.le = (s.cpu p).le) (h1 : k.pendIe = (s.cpu p).pendIe)
    (h2 : k.pendIpl = (s.cpu p).pendIpl) (h3 : k.stepBank = (s.cpu p).stepBank) (hw : k.wait = .none) : Plain p t pc := by
  constructor <;> (try rw [ho.cpu])
  · rw [hl, he]; exact h.loop
  · rw [h1]; exact h.ie
  · rw [h2]; exact h.ipl
  · rw [h3]; exact h.step
  · have := h.count
    unfold setElems at this ⊢
    rwa [ho.flds]
  · exact hw

/-- A change of one processor on top of another. -/
theorem OnlyCpu.trans {p : Proc} {s t u : State} {k k' : Cpu} (h : OnlyCpu p s t k) (h' : OnlyCpu p t u k') :
    OnlyCpu p s u k' :=
  ⟨h'.cpu, fun q hq => (h'.others q hq).trans (h.others q hq), by
    have h1 := h.rest
    have h2 := h'.rest
    rw [← h2] at h1
    exact h1⟩

/-- An operation that changes its processor alone completes with that change and the pc. -/
theorem done_only {p : Proc} {s t : State} {k : Cpu} (h : Calm p s) (ho : OnlyCpu p s t k) (npc : Word)
    (hl : k.lc = (s.cpu p).lc) (he : k.le = (s.cpu p).le) (h1 : k.pendIe = (s.cpu p).pendIe)
    (h2 : k.pendIpl = (s.cpu p).pendIpl) (h3 : k.stepBank = (s.cpu p).stepBank) (hw : k.wait = .none) (keep : Bool) :
    OnlyCpu p s (retire t p (s.cpu p).pc npc keep) { k with pc := npc } := by
  have := ends_retire _ npc keep (ho.plain h.plain hl he h1 h2 h3 hw)
  rw [ho.cpu] at this
  exact ho.trans this

/-- An instruction whose own operation leaves `t` and completes. -/
theorem ends_done {i : Instr} {p : Proc} {s t : State} {who : Who} {body : State → IRes}
    (he : exec i s = nextOf (runInstr p who body s)) (h : Calm p s) (ha : who.admits p = true)
    (hb : body s = .done t) (hp : Plain p t (s.cpu p).pc) :
    Ends i p s t (t.cpu p) ((s.cpu p).pc + 4) := by
  refine ⟨_, he, ?_⟩
  rw [runInstr_ready h.toReady who ha, hb]
  exact ends_retire _ _ false hp

/-- An instruction that completes with its processor's registers changed. -/
theorem goes_done {i : Instr} {p : Proc} {s t : State} {k : Cpu} {who : Who} {body : State → IRes}
    (he : exec i s = nextOf (runInstr p who body s)) (h : Calm p s) (ha : who.admits p = true)
    (hb : body s = .done t) (ho : OnlyCpu p s t k)
    (hl : k.lc = (s.cpu p).lc) (h0 : k.le = (s.cpu p).le) (h1 : k.pendIe = (s.cpu p).pendIe)
    (h2 : k.pendIpl = (s.cpu p).pendIpl)
    (h3 : k.stepBank = (s.cpu p).stepBank) (hw : k.wait = (s.cpu p).wait) : Goes i p s k ((s.cpu p).pc + 4) := by
  refine ⟨_, he, ?_⟩
  rw [runInstr_ready h.toReady who ha, hb]
  exact done_only h ho _ hl h0 h1 h2 h3 (hw.trans h.wait) false

/-- A taken control transfer. -/
theorem goes_jump {i : Instr} {p : Proc} {s t : State} {k : Cpu} {npc : Word} {who : Who} {body : State → IRes}
    (he : exec i s = nextOf (runInstr p who body s)) (h : Calm p s) (ha : who.admits p = true)
    (hb : body s = .jump t npc) (ho : OnlyCpu p s t k)
    (hl : k.lc = (s.cpu p).lc) (h0 : k.le = (s.cpu p).le) (h1 : k.pendIe = (s.cpu p).pendIe)
    (h2 : k.pendIpl = (s.cpu p).pendIpl)
    (h3 : k.stepBank = (s.cpu p).stepBank) (hw : k.wait = (s.cpu p).wait) : Goes i p s k npc := by
  refine ⟨_, he, ?_⟩
  rw [runInstr_ready h.toReady who ha, hb]
  exact done_only h ho npc hl h0 h1 h2 h3 (hw.trans h.wait) false

@[simp] theorem Cpu.wr_le (k : Cpu) (b : Nat) (r : RegNo) (v : Word) : (k.wr b r v).le = k.le := by
  unfold Cpu.wr; split <;> rfl

/-- An instruction that writes one general register. -/
theorem writes_of {i : Instr} {p : Proc} {s : State} {d : RegNo} {v : Word} {who : Who} {body : State → IRes}
    (he : exec i s = nextOf (runInstr p who body s)) (h : Calm p s) (ha : who.admits p = true)
    (hb : body s = .done (s.setG p d v)) : Writes i p s d v :=
  goes_done he h ha hb ((OnlyCpu.refl p s).setG d v) (by simp) (by simp) (by simp) (by simp) (by simp) (by simp)

/-- An instruction that raises an exception. -/
theorem raises_of {i : Instr} {p : Proc} {s : State} {e : Exc} {who : Who} {body : State → IRes}
    (he : exec i s = nextOf (runInstr p who body s)) (h : Calm p s) (hc : canEnter p s)
    (hb : who.admits p = true → body s = .exc e s) (hi : who.admits p = false → e = illegal) :
    Raises i p s e := by
  unfold Raises
  rw [he]
  have hn : (neverMerges s p && !(s.cpu p).sb.isEmpty) = false := by
    rcases hc with hc | hc <;> simp [hc]
  cases ha : who.admits p with
  | true => rw [runInstr_ready h.toReady who ha, hb ha]; simp [finish, hn, nextOf]
  | false => rw [runInstr_ready_illegal h.toReady who ha, hi ha]; simp [finish, hn, nextOf]

end Sys2Proof.Machine
end

