-- ==== Sys2Proof/Laws/Access.lean ====
section
/-! SUPPORT. Accesses of a processor at rest, and FP instructions: the lemmas that a proof about a load, a store, an atomic
operation or an FP instruction cites instead of unfolding withPlaces, loadOp, storeOp, atomicOp and runFp. -/

namespace Sys2Proof.Machine

/-- An instruction that ends from `t'`, where only its processor differs from `t`. -/
theorem Ends.of {i : Instr} {p : Proc} {s t t' : State} {k : Cpu} {npc : Word} (h : Ends i p s t' (t'.cpu p) npc)
    (hk : OnlyCpu p t t' k) : Ends i p s t k npc := by
  obtain ⟨u, h1, h2⟩ := h
  refine ⟨u, h1, ?_⟩
  have := hk.trans h2
  rw [hk.cpu] at this
  exact this

/-- What an access that reaches its places comes to is what its own operation comes to. -/
theorem withPlaces_of {p : Proc} {s s1 : State} {ea : Word} {n chk : Nat} {xs : List (XAddr × Seg)} {sn : Seen}
    {go : List (XAddr × Seg) → State → IRes} {r : IRes} (h : Reaches p s ea n chk xs s1) (hg : go xs s1 = r)
    (hr : ∀ s w, r ≠ .hold s w) : withPlaces s p ea n chk chk (some sn) go = r := by
  obtain ⟨fs, h1, h2, h3, h4⟩ := h
  unfold withPlaces
  simp only [h1, h2, Option.filter_none, h3]
  have hk : keepPlaces xs chk r = r := by
    unfold keepPlaces
    split
    · exact absurd rfl (hr _ _)
    · exact absurd rfl (hr _ _)
    · rfl
  cases p with
  | core c =>
    have h4 : debugActs s1 c = false := h4
    have hc : Machine.compare s1 c sn = (false, s1) := by simp [Machine.compare, h4]
    simp only [hc, hg, Bool.false_eq_true, if_false, hk]
  | infuser i =>
    simp only [hg, Bool.false_eq_true, if_false, hk]
  | caddy =>
    simp only [hg, Bool.false_eq_true, if_false, hk]

theorem loadResult_signed (s : State) (p : Proc) (d : RegNo) {n v : Nat} (hv : v < 256 ^ n)
    (hn : n = 1 ∨ n = 2 ∨ n = 4 ∨ n = 8) : loadResult s p (.g d n true) v = s.setG p d (signedBytes n v) := by
  unfold loadResult signedBytes
  simp only [Bool.true_and]
  congr 1
  rcases hn with rfl | rfl | rfl | rfl
  all_goals
    apply BitVec.eq_of_toNat_eq
    rw [BitVec.toNat_signExtend, BitVec.msb_eq_decide]
    simp [bitAt, Nat.testBit_eq_decide_div_mod_eq] at *
    try rw [Nat.mod_eq_of_lt (a := v) (by omega)]
    all_goals split <;> split <;> simp <;> omega

/-- A load whose parts are all there. -/
theorem loadOp_done {p : Proc} {s s1 t : State} {dst : LoadDst} {ea : Word} {n align v : Nat} {xs : List (XAddr × Seg)}
    {parts : List Part} (h0 : ea.toNat % align = 0) (h1 : Reaches p s ea n aLoad xs s1)
    (h2 : sbPosted (s1.cpu p).sb = false) (h3 : ∀ x ∈ xs, isDevice x.1.rtype = true → (s1.cpu p).sb = [])
    (hp : sbPartly (s1.cpu p).sb xs = false) (h4 : loadParts s1 p xs = .ok parts t) (h5 : partsValue parts = some v) :
    loadOp p dst n align ea s = .done (loadResult t p dst v) := by
  unfold loadOp
  rw [if_neg (by omega)]
  refine withPlaces_of h1 ?_ (by simp)
  have : (!(s1.cpu p).sb.isEmpty && xs.any fun x => isDevice x.1.rtype) = false := by
    by_cases he : (s1.cpu p).sb = []
    · simp [he]
    · have : (xs.any fun x => isDevice x.1.rtype) = false := by
        rw [List.any_eq_false]
        intro x hx hd
        exact he (h3 x hx hd)
      simp [this]
  simp only [h2, this, hp, Bool.or_self]
  simp [h4, XRes.then, loadFinish, h5]

/-- A write of a general register leaves a completion plain. -/
theorem Plain.setG {p : Proc} {t : State} {pc : Word} (h : Plain p t pc) (d : RegNo) (v : Word) : Plain p (t.setG p d v) pc :=
  ((OnlyCpu.refl p t).setG d v).plain h (by simp) (by simp) (by simp) (by simp) (by simp) (by simp [h.rest])

/-- A write of a v register sets FPD. -/
theorem OnlyCpu.putV {c : Fin 16} {s t : State} {k : Cpu} (h : OnlyCpu (.core c) s t k) (d : RegNo) (v : VWord) :
    OnlyCpu (.core c) s (putV t (.core c) d v) (withV k d v) :=
  (h.setV d v).onSt fun st => { st with fpd := true }

/-! ### FP and SIMD instructions -/

/-- A core that may run FP instructions runs the instruction's own operation. -/
theorem runFp_ready {c : Fin 16} {s : State} (h : Calm (.core c) s) (hf : fpReady c s) {early : State → Option Exc}
    {body : State → IRes} (h0 : early s = none) :
    runFp (.core c) early body s = finish (.core c) (s.cpu (.core c)).pc (body s) := by
  unfold runFp
  rw [runInstr_ready h.toReady .cores rfl]
  simp only [h0, fpFirst, writeFrame, hf.1, hf.2]
  simp

/-- A check that comes before FP DISABLED. -/
theorem runFp_early {c : Fin 16} {s : State} (h : Calm (.core c) s) {early : State → Option Exc} {body : State → IRes}
    {e : Exc} (h0 : early s = some e) :
    runFp (.core c) early body s = finish (.core c) (s.cpu (.core c)).pc (.exc e s) := by
  unfold runFp
  rw [runInstr_ready h.toReady .cores rfl]
  simp only [h0]

/-- FP DISABLED while FPE = 0. -/
theorem runFp_disabled {c : Fin 16} {s : State} (h : Calm (.core c) s) (hf : (s.cpu (.core c)).st.fpe = false)
    {early : State → Option Exc} {body : State → IRes} (h0 : early s = none) :
    runFp (.core c) early body s = finish (.core c) (s.cpu (.core c)).pc (.exc fpDisabled s) := by
  unfold runFp
  rw [runInstr_ready h.toReady .cores rfl]
  simp only [h0, fpFirst, hf]
  simp

/-- An FP instruction whose own operation leaves `t`. -/
theorem ends_fp {i : Instr} {c : Fin 16} {s t : State} {early : State → Option Exc} {body : State → IRes}
    (he : exec i s = nextOf (runFp (.core c) early body s)) (h : Calm (.core c) s) (hf : fpReady c s) (h0 : early s = none)
    (hb : body s = .done t) (hp : Plain (.core c) t (s.cpu (.core c)).pc) :
    Ends i (.core c) s t (t.cpu (.core c)) ((s.cpu (.core c)).pc + 4) := by
  refine ⟨_, he, ?_⟩
  rw [runFp_ready h hf h0, hb]
  exact ends_retire _ _ false hp

end Sys2Proof.Machine
end

