-- ==== Sys2Proof/Laws/Alu.lean ====
section
/-! SUPPORT. The operand forms of the integer instructions on a processor at rest, and their values in plain arithmetic. -/

namespace Sys2Proof.Machine

/-! ### Operand forms -/

theorem writes_alu2 {i : Instr} {p : Proc} {s : State} {d a b : RegNo} (f : Word → Word → Word)
    (he : exec i s = nextOf (alu2 p d a b f s)) (h : Calm p s) : Writes i p s d (f (s.g p a) (s.g p b)) := by
  refine writes_of (who := .all) he h (by cases p <;> rfl) ?_
  rfl

theorem writes_alu1 {i : Instr} {p : Proc} {s : State} {d a : RegNo} (f : Word → Word)
    (he : exec i s = nextOf (alu1 p d a f s)) (h : Calm p s) : Writes i p s d (f (s.g p a)) := by
  refine writes_of (who := .all) he h (by cases p <;> rfl) ?_
  rfl

/-- A result that may overflow, with OVT = 0. -/
theorem putOv_goes {i : Instr} {p : Proc} {s : State} {d : RegNo} {v : Word} {ov : Bool} {body : State → IRes}
    (he : exec i s = nextOf (runInstr p .all body s)) (h : Calm p s) (ht : (s.cpu p).st.ovt = false)
    (hb : body (s) = putOv p d v ov (s)) :
    Goes i p s (overflowed p (s.cpu p) d v ov) ((s.cpu p).pc + 4) := by
  have ha : Who.all.admits p = true := by cases p <;> rfl
  cases ov with
  | false =>
    refine goes_done he h ha (t := (s).setG p d v) ?_ ((OnlyCpu.refl p s).setG d v) ?_ ?_ ?_ ?_ ?_ ?_ <;>
      simp [hb, putOv, overflowed]
  | true =>
    refine goes_done he h ha (t := ((s).setG p d v).onSt p fun st => { st with ov := true }) ?_
      (k := overflowed p (s.cpu p) d v true) ?_ ?_ ?_ ?_ ?_ ?_ ?_
    · simp [hb, putOv, ht]
    · have := ((OnlyCpu.refl p s).setG d v).onSt fun st => { st with ov := true }
      simpa [overflowed] using this
    all_goals simp [overflowed]

/-- A result that overflows, with OVT = 1. -/
theorem putOv_raises {i : Instr} {p : Proc} {s : State} {d : RegNo} {v : Word} {body : State → IRes}
    (he : exec i s = nextOf (runInstr p .all body s)) (h : Calm p s) (hc : canEnter p s) (ht : (s.cpu p).st.ovt = true)
    (hb : body (s) = putOv p d v true (s)) : Raises i p s arithOverflow :=
  raises_of he h hc (fun _ => by simp [hb, putOv, ht]) (by cases p <;> simp [Who.admits])

/-- The result of a division by zero, with DZT = 0. -/
theorem putDz_goes {i : Instr} {p : Proc} {s : State} {d : RegNo} {v : Word} {body : State → IRes}
    (he : exec i s = nextOf (runInstr p .all body s)) (h : Calm p s) (ht : (s.cpu p).st.dzt = false)
    (hb : body (s) = putDz p d v (s)) :
    Goes i p s (dividedByZero p (s.cpu p) d v) ((s.cpu p).pc + 4) := by
  have ha : Who.all.admits p = true := by cases p <;> rfl
  refine goes_done he h ha (t := ((s).setG p d v).onSt p fun st => { st with dz := true }) ?_
    (k := dividedByZero p (s.cpu p) d v) ?_ ?_ ?_ ?_ ?_ ?_ ?_
  · simp [hb, putDz, ht]
  · have := ((OnlyCpu.refl p s).setG d v).onSt fun st => { st with dz := true }
    simpa [dividedByZero] using this
  all_goals simp [dividedByZero]

theorem putDz_raises {i : Instr} {p : Proc} {s : State} {d : RegNo} {v : Word} {body : State → IRes}
    (he : exec i s = nextOf (runInstr p .all body s)) (h : Calm p s) (hc : canEnter p s) (ht : (s.cpu p).st.dzt = true)
    (hb : body (s) = putDz p d v (s)) : Raises i p s arithDivZero :=
  raises_of he h hc (fun _ => by simp [hb, putDz, ht]) (by cases p <;> simp [Who.admits])

/-! ### Overflow in plain arithmetic -/

theorem addOverflows_eq (x y : Word) : addOverflows x y = outside 64 (x.toInt + y.toInt) := by
  have h1 := x.toInt_lt; have h2 := x.le_toInt; have h3 := y.toInt_lt; have h4 := y.le_toInt
  simp only [addOverflows, outside, BitVec.toInt_add, Int.bmod_def]
  rw [Bool.eq_iff_iff]
  simp only [ne_eq, decide_not, Bool.not_eq_true', decide_eq_false_iff_not, Bool.or_eq_true, decide_eq_true_eq]
  omega

theorem subOverflows_eq (x y : Word) : subOverflows x y = outside 64 (x.toInt - y.toInt) := by
  have h1 := x.toInt_lt; have h2 := x.le_toInt; have h3 := y.toInt_lt; have h4 := y.le_toInt
  simp only [subOverflows, outside, BitVec.toInt_sub, Int.bmod_def]
  rw [Bool.eq_iff_iff]
  simp only [ne_eq, decide_not, Bool.not_eq_true', decide_eq_false_iff_not, Bool.or_eq_true, decide_eq_true_eq]
  omega

theorem addOverflows32_eq (x y : BitVec 32) : addOverflows32 x y = outside 32 (x.toInt + y.toInt) := by
  have h1 := x.toInt_lt; have h2 := x.le_toInt; have h3 := y.toInt_lt; have h4 := y.le_toInt
  simp only [addOverflows32, outside, BitVec.toInt_add, Int.bmod_def]
  rw [Bool.eq_iff_iff]
  simp only [ne_eq, decide_not, Bool.not_eq_true', decide_eq_false_iff_not, Bool.or_eq_true, decide_eq_true_eq]
  omega

theorem subOverflows32_eq (x y : BitVec 32) : subOverflows32 x y = outside 32 (x.toInt - y.toInt) := by
  have h1 := x.toInt_lt; have h2 := x.le_toInt; have h3 := y.toInt_lt; have h4 := y.le_toInt
  simp only [subOverflows32, outside, BitVec.toInt_sub, Int.bmod_def]
  rw [Bool.eq_iff_iff]
  simp only [ne_eq, decide_not, Bool.not_eq_true', decide_eq_false_iff_not, Bool.or_eq_true, decide_eq_true_eq]
  omega

end Sys2Proof.Machine
end

