-- ==== Sys2Proof/Laws/Ops.lean ====
section
/-! SUPPORT. What raising an interrupt source, offering a record and counting an event leave alone: one frame for each, and
one lemma for each part of State that it gives. -/

namespace Sys2Proof.Machine

/-- The fields that the interrupt controller's operations change. -/
def icField (f : Fld) : Bool :=
  f.id == F.IC_SRC_PENDING.id || f.id == F.IC_SRC_CORE.id || f.id == F.IC_SRC_LINE.id || f.id == F.IC_SRC_ACTIVE.id

/-- The fields that an offered record changes. -/
def dregsField (f : Fld) : Bool :=
  icField f || f.id == F.DREGS_STAT_QLOST.id || f.id == F.DREGS_LOST_COUNT.id || f.id == F.DREGS_LOSTF_FIRST.id
    || f.id == F.DREGS_LOSTL_LAST.id

/-- The fields that a counted event changes. -/
def countField (f : Fld) : Bool := icField f || f.id == F.PC_CNT_COUNT.id || f.id == F.PC_CNT_OVF.id

/-- `t` is `s` but for fields of a kind and the commitments of the interrupt controller. -/
structure IcFrame (k : Fld → Bool) (s t : State) : Prop where
  rest : { t with flds := s.flds, icCommit := s.icCommit, icPulse := s.icPulse } = s
  fl : ∀ (f : Fld) (i : Nat), k f = false → t.fl f i = s.fl f i

theorem IcFrame.refl (k : Fld → Bool) (s : State) : IcFrame k s s := ⟨rfl, fun _ _ _ => rfl⟩

theorem IcFrame.trans {k : Fld → Bool} {s t u : State} (h : IcFrame k s t) (h' : IcFrame k t u) : IcFrame k s u :=
  ⟨by
    have h1 := h.rest
    rw [← h'.rest] at h1
    exact h1, fun f i hf => (h'.fl f i hf).trans (h.fl f i hf)⟩

theorem IcFrame.weaken {k k' : Fld → Bool} {s t : State} (h : IcFrame k s t) (hk : ∀ f, k' f = false → k f = false) :
    IcFrame k' s t := ⟨h.rest, fun f i hf => h.fl f i (hk f hf)⟩

theorem IcFrame.setF {k : Fld → Bool} {s t : State} (h : IcFrame k s t) (f : Fld) (i v : Nat)
    (hf : ∀ g, k g = false → f.id ≠ g.id) : IcFrame k s (t.setF f i v) :=
  ⟨h.rest, fun g j hg => (State.fl_setF_id t i j v (hf g hg)).trans (h.fl g j hg)⟩

theorem IcFrame.commit {k : Fld → Bool} {s t : State} (h : IcFrame k s t) (c : FMap Bool) :
    IcFrame k s { t with icCommit := c } := ⟨h.rest, h.fl⟩

theorem IcFrame.pulse {k : Fld → Bool} {s t : State} (h : IcFrame k s t) (p : FMap Bool) :
    IcFrame k s { t with icPulse := p } := ⟨h.rest, h.fl⟩

theorem icField_ne {f g : Fld} (hg : icField g = false) (hf : icField f = true) : f.id ≠ g.id := by
  intro e
  simp only [icField, e] at hf
  simp only [icField] at hg
  rw [hg] at hf
  cases hf

theorem icCommit_frame (s : State) (n : Nat) : IcFrame icField s (icCommit s n) := by
  unfold icCommit
  split
  · split
    · exact ((IcFrame.refl _ s).setF _ _ _ fun g hg => icField_ne hg (by decide)).commit _
    · exact IcFrame.refl _ s
  · exact IcFrame.refl _ s

theorem icUnpend_frame (s : State) (n : Nat) : IcFrame icField s (icUnpend s n) :=
  let h := (IcFrame.refl icField s).setF F.IC_SRC_PENDING n (b2n false) fun _ hg => icField_ne hg (by decide)
  ⟨h.rest, h.fl⟩

theorem icPend_frame (s : State) (n : Nat) : IcFrame icField s (icPend s n) := by
  unfold icPend
  split
  · exact IcFrame.refl _ s
  · exact ((IcFrame.refl _ s).setF F.IC_SRC_PENDING _ _ fun g hg => icField_ne hg (by decide)).trans (icCommit_frame _ _)

theorem raiseSource_frame (s : State) (n : Nat) : IcFrame icField s (raiseSource s n) := by
  unfold raiseSource
  split
  · exact icPend_frame s n
  · split
    · exact IcFrame.refl _ s
    · exact ((IcFrame.refl _ s).pulse _).trans (icPend_frame _ n)

theorem setLine_frame (s : State) (n : Nat) (b : Bool) : IcFrame icField s (setLine s n b) := by
  have h : IcFrame icField s (s.setB F.IC_SRC_LINE n b) :=
    (IcFrame.refl _ s).setF _ _ _ fun g hg => icField_ne hg (by decide)
  unfold setLine
  simp only []
  split
  · split
    · exact h.trans (icPend_frame _ n)
    · exact h
  · split
    · split
      · exact h
      · exact h.trans (icPend_frame _ n)
    · exact h.trans (icUnpend_frame _ n)

theorem icRelease_frame (s : State) (n : Nat) : IcFrame icField s (icRelease s n) := by
  have h : IcFrame icField s (s.setB F.IC_SRC_ACTIVE n false) :=
    (IcFrame.refl _ s).setF _ _ _ fun g hg => icField_ne hg (by decide)
  unfold icRelease
  simp only []
  split
  · exact h.trans (icPend_frame _ n)
  · exact h

theorem icClaim_frame (s : State) (n : Nat) : IcFrame icField s (icClaim s n) :=
  (icUnpend_frame s n).setF _ _ _ fun g hg => icField_ne hg (by decide)

theorem countOne_frame (s : State) (n : Nat) : IcFrame countField s (countOne s n) := by
  have ne : ∀ {f g : Fld}, countField g = false → countField f = true → f.id ≠ g.id := by
    intro f g hg hf e
    simp only [countField, icField, e] at hf
    simp only [countField, icField] at hg
    rw [hg] at hf
    cases hf
  have h : IcFrame countField s (s.setF F.PC_CNT_COUNT n (s.fl F.PC_CNT_COUNT n + 1)) :=
    (IcFrame.refl _ s).setF _ _ _ fun g hg => ne hg (by decide)
  unfold countOne
  simp only []
  split
  · have h2 := h.setF F.PC_CNT_OVF n (b2n true) fun g hg => ne hg (by decide)
    split
    · exact h2.trans ((raiseSource_frame _ _).weaken fun f hf => by
        simp only [countField, Bool.or_eq_false_iff] at hf; exact hf.1.1)
    · exact h2
  · exact h

theorem countEvent_frame (s : State) (ev unit : Nat) (part : Option Nat) : IcFrame countField s (countEvent s ev unit part) := by
  unfold countEvent
  split
  · exact IcFrame.refl _ s
  · generalize setElems s F.PC_EVT_EN = l
    suffices ∀ (l : List Nat) (t : State), IcFrame countField s t → IcFrame countField s (l.foldl (fun s n =>
        if s.fl F.PC_EVT_EVENT n == ev && s.fl F.PC_EVT_UNIT n == unit
          && (s.fb F.PC_EVT_PANY n || part == some (s.fl F.PC_EVT_PART n)) then countOne s n else s) t) from
      this l s (IcFrame.refl _ s)
    intro l
    induction l with
    | nil => intro t h; exact h
    | cons n l ih =>
      intro t h
      rw [List.foldl_cons]
      refine ih _ ?_
      split
      · exact h.trans (countOne_frame t n)
      · exact h

theorem countCore_frame (s : State) (ev : Nat) (c : Fin 16) : IcFrame countField s (countCore s ev c) :=
  countEvent_frame s ev c.val _

/-- An offered record: the fields of a kind, the commitments and the Dregs part. -/
structure DregsFrame (s t : State) : Prop where
  rest : { t with flds := s.flds, icCommit := s.icCommit, icPulse := s.icPulse, dregs := s.dregs } = s
  fl : ∀ (f : Fld) (i : Nat), dregsField f = false → t.fl f i = s.fl f i

theorem DregsFrame.refl (s : State) : DregsFrame s s := ⟨rfl, fun _ _ _ => rfl⟩

theorem dregsField_ne {f g : Fld} (hg : dregsField g = false) (hf : dregsField f = true) : f.id ≠ g.id := by
  intro e
  simp only [dregsField, icField, e] at hf
  simp only [dregsField, icField] at hg
  rw [hg] at hf
  cases hf

theorem DregsFrame.setF {s t : State} (h : DregsFrame s t) (f : Fld) (i v : Nat) (hf : dregsField f = true) :
    DregsFrame s (t.setF f i v) :=
  ⟨h.rest, fun g j hg => (State.fl_setF_id t i j v (dregsField_ne hg hf)).trans (h.fl g j hg)⟩

theorem DregsFrame.bumpF {s t : State} (h : DregsFrame s t) (f : Fld) (i : Nat) (hf : dregsField f = true) :
    DregsFrame s (t.bumpF f i) := by
  unfold State.bumpF
  simp only []
  split
  · exact h.setF f i _ hf
  · exact h

theorem DregsFrame.raise {s t : State} (h : DregsFrame s t) (n : Nat) : DregsFrame s (raiseSource t n) := by
  have hr := raiseSource_frame t n
  refine ⟨?_, fun f i hf => ?_⟩
  · have h1 := h.rest
    rw [← hr.rest] at h1
    exact h1
  · refine (hr.fl f i ?_).trans (h.fl f i hf)
    simp only [dregsField, Bool.or_eq_false_iff] at hf
    exact hf.1.1.1.1

theorem dregsLost_frame {s t : State} (h : DregsFrame s t) (c tm : Nat) : DregsFrame s (dregsLost t c tm) := by
  have h1 : DregsFrame s (if t.fl F.DREGS_LOST_COUNT c = 0 then t.setF F.DREGS_LOSTF_FIRST c tm else t) := by
    split
    · exact h.setF _ _ _ (by decide)
    · exact h
  have h2 := (h1.bumpF F.DREGS_LOST_COUNT c (by decide)).setF F.DREGS_LOSTL_LAST c tm (by decide)
  unfold dregsLost
  by_cases hn : t.fl F.DREGS_LOST_COUNT c = 0
  · simp only [hn, if_true] at h2 ⊢
    exact h2.raise 238
  · simp only [hn, if_false] at h2 ⊢
    exact h2

theorem DregsFrame.dregsPart {s t : State} (h : DregsFrame s t) (d : Dregs) : DregsFrame s { t with dregs := d } :=
  ⟨h.rest, h.fl⟩

theorem dregsQLost_frame {s t : State} (h : DregsFrame s t) (r : DRec) : DregsFrame s (dregsQLost t r) :=
  dregsLost_frame (h.bumpF _ _ (by decide)) _ _

theorem dregs_frame (s : State) (source cls code detail : Nat) : DregsFrame s (dregs s source cls code detail) := by
  unfold dregs dregsOfferRec
  simp only []
  split
  · exact (DregsFrame.refl s).dregsPart _
  · split
    · split
      · exact dregsQLost_frame ((DregsFrame.refl s).dregsPart _) _
      · split
        · exact dregsQLost_frame ((DregsFrame.refl s).dregsPart _) _
        · exact dregsQLost_frame (DregsFrame.refl s) _
    · exact dregsQLost_frame (DregsFrame.refl s) _


@[simp] theorem icCommit_sh (s : State) (n : Nat) : (icCommit s n).sh = s.sh := by
  have h := congrArg State.sh (icCommit_frame s n).rest
  exact h
@[simp] theorem icCommit_mem (s : State) (n : Nat) : (icCommit s n).mem = s.mem := by
  have h := congrArg State.mem (icCommit_frame s n).rest
  exact h
@[simp] theorem icCommit_cpus (s : State) (n : Nat) : (icCommit s n).cpus = s.cpus := by
  have h := congrArg State.cpus (icCommit_frame s n).rest
  exact h
@[simp] theorem icCommit_caches (s : State) (n : Nat) : (icCommit s n).caches = s.caches := by
  have h := congrArg State.caches (icCommit_frame s n).rest
  exact h
@[simp] theorem icCommit_dregs (s : State) (n : Nat) : (icCommit s n).dregs = s.dregs := by
  have h := congrArg State.dregs (icCommit_frame s n).rest
  exact h
@[simp] theorem icCommit_ket (s : State) (n : Nat) : (icCommit s n).ket = s.ket := by
  have h := congrArg State.ket (icCommit_frame s n).rest
  exact h
@[simp] theorem icCommit_steep (s : State) (n : Nat) : (icCommit s n).steep = s.steep := by
  have h := congrArg State.steep (icCommit_frame s n).rest
  exact h
@[simp] theorem icCommit_dram (s : State) (n : Nat) : (icCommit s n).dram = s.dram := by
  have h := congrArg State.dram (icCommit_frame s n).rest
  exact h
@[simp] theorem icCommit_warm (s : State) (n : Nat) : (icCommit s n).warm = s.warm := by
  have h := congrArg State.warm (icCommit_frame s n).rest
  exact h
@[simp] theorem icCommit_caddy (s : State) (n : Nat) : (icCommit s n).caddy = s.caddy := by
  have h := congrArg State.caddy (icCommit_frame s n).rest
  exact h
@[simp] theorem icCommit_trace (s : State) (n : Nat) : (icCommit s n).trace = s.trace := by
  have h := congrArg State.trace (icCommit_frame s n).rest
  exact h
@[simp] theorem icCommit_pwr (s : State) (n : Nat) : (icCommit s n).pwr = s.pwr := by
  have h := congrArg State.pwr (icCommit_frame s n).rest
  exact h
@[simp] theorem icCommit_sup (s : State) (n : Nat) : (icCommit s n).sup = s.sup := by
  have h := congrArg State.sup (icCommit_frame s n).rest
  exact h
@[simp] theorem icCommit_clk (s : State) (n : Nat) : (icCommit s n).clk = s.clk := by
  have h := congrArg State.clk (icCommit_frame s n).rest
  exact h
@[simp] theorem icCommit_links (s : State) (n : Nat) : (icCommit s n).links = s.links := by
  have h := congrArg State.links (icCommit_frame s n).rest
  exact h
@[simp] theorem icCommit_router (s : State) (n : Nat) : (icCommit s n).router = s.router := by
  have h := congrArg State.router (icCommit_frame s n).rest
  exact h
@[simp] theorem icCommit_inf (s : State) (n : Nat) : (icCommit s n).inf = s.inf := by
  have h := congrArg State.inf (icCommit_frame s n).rest
  exact h
@[simp] theorem icCommit_ports (s : State) (n : Nat) : (icCommit s n).ports = s.ports := by
  have h := congrArg State.ports (icCommit_frame s n).rest
  exact h
@[simp] theorem icCommit_gates (s : State) (n : Nat) : (icCommit s n).gates = s.gates := by
  have h := congrArg State.gates (icCommit_frame s n).rest
  exact h
@[simp] theorem icCommit_disp (s : State) (n : Nat) : (icCommit s n).disp = s.disp := by
  have h := congrArg State.disp (icCommit_frame s n).rest
  exact h
@[simp] theorem icCommit_touch (s : State) (n : Nat) : (icCommit s n).touch = s.touch := by
  have h := congrArg State.touch (icCommit_frame s n).rest
  exact h
@[simp] theorem icCommit_cams (s : State) (n : Nat) : (icCommit s n).cams = s.cams := by
  have h := congrArg State.cams (icCommit_frame s n).rest
  exact h
@[simp] theorem icCommit_usb (s : State) (n : Nat) : (icCommit s n).usb = s.usb := by
  have h := congrArg State.usb (icCommit_frame s n).rest
  exact h
@[simp] theorem icCommit_pcie (s : State) (n : Nat) : (icCommit s n).pcie = s.pcie := by
  have h := congrArg State.pcie (icCommit_frame s n).rest
  exact h
@[simp] theorem icCommit_ep (s : State) (n : Nat) : (icCommit s n).ep = s.ep := by
  have h := congrArg State.ep (icCommit_frame s n).rest
  exact h
@[simp] theorem icCommit_mir (s : State) (n : Nat) : (icCommit s n).mir = s.mir := by
  have h := congrArg State.mir (icCommit_frame s n).rest
  exact h
@[simp] theorem icCommit_dbg (s : State) (n : Nat) : (icCommit s n).dbg = s.dbg := by
  have h := congrArg State.dbg (icCommit_frame s n).rest
  exact h
@[simp] theorem icCommit_time (s : State) (n : Nat) : (icCommit s n).time = s.time := by
  have h := congrArg State.time (icCommit_frame s n).rest
  exact h
@[simp] theorem icCommit_fab (s : State) (n : Nat) : (icCommit s n).fab = s.fab := by
  have h := congrArg State.fab (icCommit_frame s n).rest
  exact h
@[simp] theorem icCommit_free (s : State) (n : Nat) : (icCommit s n).free = s.free := by
  have h := congrArg State.free (icCommit_frame s n).rest
  exact h
@[simp] theorem icCommit_pending (s : State) (n : Nat) : (icCommit s n).pending = s.pending := by
  have h := congrArg State.pending (icCommit_frame s n).rest
  exact h
theorem fl_icCommit (s : State) (n : Nat) {f : Fld} (i : Nat) (h : icField f = false) : (icCommit s n).fl f i = s.fl f i :=
  (icCommit_frame s n).fl f i h
theorem fb_icCommit (s : State) (n : Nat) {f : Fld} (i : Nat) (h : icField f = false) : (icCommit s n).fb f i = s.fb f i := by
  unfold State.fb
  rw [fl_icCommit s n i h]
@[simp] theorem cpu_icCommit (s : State) (n : Nat) (p : Proc) : (icCommit s n).cpu p = s.cpu p := by
  simp [State.cpu]

@[simp] theorem icUnpend_sh (s : State) (n : Nat) : (icUnpend s n).sh = s.sh := by
  have h := congrArg State.sh (icUnpend_frame s n).rest
  exact h
@[simp] theorem icUnpend_mem (s : State) (n : Nat) : (icUnpend s n).mem = s.mem := by
  have h := congrArg State.mem (icUnpend_frame s n).rest
  exact h
@[simp] theorem icUnpend_cpus (s : State) (n : Nat) : (icUnpend s n).cpus = s.cpus := by
  have h := congrArg State.cpus (icUnpend_frame s n).rest
  exact h
@[simp] theorem icUnpend_caches (s : State) (n : Nat) : (icUnpend s n).caches = s.caches := by
  have h := congrArg State.caches (icUnpend_frame s n).rest
  exact h
@[simp] theorem icUnpend_dregs (s : State) (n : Nat) : (icUnpend s n).dregs = s.dregs := by
  have h := congrArg State.dregs (icUnpend_frame s n).rest
  exact h
@[simp] theorem icUnpend_ket (s : State) (n : Nat) : (icUnpend s n).ket = s.ket := by
  have h := congrArg State.ket (icUnpend_frame s n).rest
  exact h
@[simp] theorem icUnpend_steep (s : State) (n : Nat) : (icUnpend s n).steep = s.steep := by
  have h := congrArg State.steep (icUnpend_frame s n).rest
  exact h
@[simp] theorem icUnpend_dram (s : State) (n : Nat) : (icUnpend s n).dram = s.dram := by
  have h := congrArg State.dram (icUnpend_frame s n).rest
  exact h
@[simp] theorem icUnpend_warm (s : State) (n : Nat) : (icUnpend s n).warm = s.warm := by
  have h := congrArg State.warm (icUnpend_frame s n).rest
  exact h
@[simp] theorem icUnpend_caddy (s : State) (n : Nat) : (icUnpend s n).caddy = s.caddy := by
  have h := congrArg State.caddy (icUnpend_frame s n).rest
  exact h
@[simp] theorem icUnpend_trace (s : State) (n : Nat) : (icUnpend s n).trace = s.trace := by
  have h := congrArg State.trace (icUnpend_frame s n).rest
  exact h
@[simp] theorem icUnpend_pwr (s : State) (n : Nat) : (icUnpend s n).pwr = s.pwr := by
  have h := congrArg State.pwr (icUnpend_frame s n).rest
  exact h
@[simp] theorem icUnpend_sup (s : State) (n : Nat) : (icUnpend s n).sup = s.sup := by
  have h := congrArg State.sup (icUnpend_frame s n).rest
  exact h
@[simp] theorem icUnpend_clk (s : State) (n : Nat) : (icUnpend s n).clk = s.clk := by
  have h := congrArg State.clk (icUnpend_frame s n).rest
  exact h
@[simp] theorem icUnpend_links (s : State) (n : Nat) : (icUnpend s n).links = s.links := by
  have h := congrArg State.links (icUnpend_frame s n).rest
  exact h
@[simp] theorem icUnpend_router (s : State) (n : Nat) : (icUnpend s n).router = s.router := by
  have h := congrArg State.router (icUnpend_frame s n).rest
  exact h
@[simp] theorem icUnpend_inf (s : State) (n : Nat) : (icUnpend s n).inf = s.inf := by
  have h := congrArg State.inf (icUnpend_frame s n).rest
  exact h
@[simp] theorem icUnpend_ports (s : State) (n : Nat) : (icUnpend s n).ports = s.ports := by
  have h := congrArg State.ports (icUnpend_frame s n).rest
  exact h
@[simp] theorem icUnpend_gates (s : State) (n : Nat) : (icUnpend s n).gates = s.gates := by
  have h := congrArg State.gates (icUnpend_frame s n).rest
  exact h
@[simp] theorem icUnpend_disp (s : State) (n : Nat) : (icUnpend s n).disp = s.disp := by
  have h := congrArg State.disp (icUnpend_frame s n).rest
  exact h
@[simp] theorem icUnpend_touch (s : State) (n : Nat) : (icUnpend s n).touch = s.touch := by
  have h := congrArg State.touch (icUnpend_frame s n).rest
  exact h
@[simp] theorem icUnpend_cams (s : State) (n : Nat) : (icUnpend s n).cams = s.cams := by
  have h := congrArg State.cams (icUnpend_frame s n).rest
  exact h
@[simp] theorem icUnpend_usb (s : State) (n : Nat) : (icUnpend s n).usb = s.usb := by
  have h := congrArg State.usb (icUnpend_frame s n).rest
  exact h
@[simp] theorem icUnpend_pcie (s : State) (n : Nat) : (icUnpend s n).pcie = s.pcie := by
  have h := congrArg State.pcie (icUnpend_frame s n).rest
  exact h
@[simp] theorem icUnpend_ep (s : State) (n : Nat) : (icUnpend s n).ep = s.ep := by
  have h := congrArg State.ep (icUnpend_frame s n).rest
  exact h
@[simp] theorem icUnpend_mir (s : State) (n : Nat) : (icUnpend s n).mir = s.mir := by
  have h := congrArg State.mir (icUnpend_frame s n).rest
  exact h
@[simp] theorem icUnpend_dbg (s : State) (n : Nat) : (icUnpend s n).dbg = s.dbg := by
  have h := congrArg State.dbg (icUnpend_frame s n).rest
  exact h
@[simp] theorem icUnpend_time (s : State) (n : Nat) : (icUnpend s n).time = s.time := by
  have h := congrArg State.time (icUnpend_frame s n).rest
  exact h
@[simp] theorem icUnpend_fab (s : State) (n : Nat) : (icUnpend s n).fab = s.fab := by
  have h := congrArg State.fab (icUnpend_frame s n).rest
  exact h
@[simp] theorem icUnpend_free (s : State) (n : Nat) : (icUnpend s n).free = s.free := by
  have h := congrArg State.free (icUnpend_frame s n).rest
  exact h
@[simp] theorem icUnpend_pending (s : State) (n : Nat) : (icUnpend s n).pending = s.pending := by
  have h := congrArg State.pending (icUnpend_frame s n).rest
  exact h
theorem fl_icUnpend (s : State) (n : Nat) {f : Fld} (i : Nat) (h : icField f = false) : (icUnpend s n).fl f i = s.fl f i :=
  (icUnpend_frame s n).fl f i h
theorem fb_icUnpend (s : State) (n : Nat) {f : Fld} (i : Nat) (h : icField f = false) : (icUnpend s n).fb f i = s.fb f i := by
  unfold State.fb
  rw [fl_icUnpend s n i h]
@[simp] theorem cpu_icUnpend (s : State) (n : Nat) (p : Proc) : (icUnpend s n).cpu p = s.cpu p := by
  simp [State.cpu]

@[simp] theorem icPend_sh (s : State) (n : Nat) : (icPend s n).sh = s.sh := by
  have h := congrArg State.sh (icPend_frame s n).rest
  exact h
@[simp] theorem icPend_mem (s : State) (n : Nat) : (icPend s n).mem = s.mem := by
  have h := congrArg State.mem (icPend_frame s n).rest
  exact h
@[simp] theorem icPend_cpus (s : State) (n : Nat) : (icPend s n).cpus = s.cpus := by
  have h := congrArg State.cpus (icPend_frame s n).rest
  exact h
@[simp] theorem icPend_caches (s : State) (n : Nat) : (icPend s n).caches = s.caches := by
  have h := congrArg State.caches (icPend_frame s n).rest
  exact h
@[simp] theorem icPend_dregs (s : State) (n : Nat) : (icPend s n).dregs = s.dregs := by
  have h := congrArg State.dregs (icPend_frame s n).rest
  exact h
@[simp] theorem icPend_ket (s : State) (n : Nat) : (icPend s n).ket = s.ket := by
  have h := congrArg State.ket (icPend_frame s n).rest
  exact h
@[simp] theorem icPend_steep (s : State) (n : Nat) : (icPend s n).steep = s.steep := by
  have h := congrArg State.steep (icPend_frame s n).rest
  exact h
@[simp] theorem icPend_dram (s : State) (n : Nat) : (icPend s n).dram = s.dram := by
  have h := congrArg State.dram (icPend_frame s n).rest
  exact h
@[simp] theorem icPend_warm (s : State) (n : Nat) : (icPend s n).warm = s.warm := by
  have h := congrArg State.warm (icPend_frame s n).rest
  exact h
@[simp] theorem icPend_caddy (s : State) (n : Nat) : (icPend s n).caddy = s.caddy := by
  have h := congrArg State.caddy (icPend_frame s n).rest
  exact h
@[simp] theorem icPend_trace (s : State) (n : Nat) : (icPend s n).trace = s.trace := by
  have h := congrArg State.trace (icPend_frame s n).rest
  exact h
@[simp] theorem icPend_pwr (s : State) (n : Nat) : (icPend s n).pwr = s.pwr := by
  have h := congrArg State.pwr (icPend_frame s n).rest
  exact h
@[simp] theorem icPend_sup (s : State) (n : Nat) : (icPend s n).sup = s.sup := by
  have h := congrArg State.sup (icPend_frame s n).rest
  exact h
@[simp] theorem icPend_clk (s : State) (n : Nat) : (icPend s n).clk = s.clk := by
  have h := congrArg State.clk (icPend_frame s n).rest
  exact h
@[simp] theorem icPend_links (s : State) (n : Nat) : (icPend s n).links = s.links := by
  have h := congrArg State.links (icPend_frame s n).rest
  exact h
@[simp] theorem icPend_router (s : State) (n : Nat) : (icPend s n).router = s.router := by
  have h := congrArg State.router (icPend_frame s n).rest
  exact h
@[simp] theorem icPend_inf (s : State) (n : Nat) : (icPend s n).inf = s.inf := by
  have h := congrArg State.inf (icPend_frame s n).rest
  exact h
@[simp] theorem icPend_ports (s : State) (n : Nat) : (icPend s n).ports = s.ports := by
  have h := congrArg State.ports (icPend_frame s n).rest
  exact h
@[simp] theorem icPend_gates (s : State) (n : Nat) : (icPend s n).gates = s.gates := by
  have h := congrArg State.gates (icPend_frame s n).rest
  exact h
@[simp] theorem icPend_disp (s : State) (n : Nat) : (icPend s n).disp = s.disp := by
  have h := congrArg State.disp (icPend_frame s n).rest
  exact h
@[simp] theorem icPend_touch (s : State) (n : Nat) : (icPend s n).touch = s.touch := by
  have h := congrArg State.touch (icPend_frame s n).rest
  exact h
@[simp] theorem icPend_cams (s : State) (n : Nat) : (icPend s n).cams = s.cams := by
  have h := congrArg State.cams (icPend_frame s n).rest
  exact h
@[simp] theorem icPend_usb (s : State) (n : Nat) : (icPend s n).usb = s.usb := by
  have h := congrArg State.usb (icPend_frame s n).rest
  exact h
@[simp] theorem icPend_pcie (s : State) (n : Nat) : (icPend s n).pcie = s.pcie := by
  have h := congrArg State.pcie (icPend_frame s n).rest
  exact h
@[simp] theorem icPend_ep (s : State) (n : Nat) : (icPend s n).ep = s.ep := by
  have h := congrArg State.ep (icPend_frame s n).rest
  exact h
@[simp] theorem icPend_mir (s : State) (n : Nat) : (icPend s n).mir = s.mir := by
  have h := congrArg State.mir (icPend_frame s n).rest
  exact h
@[simp] theorem icPend_dbg (s : State) (n : Nat) : (icPend s n).dbg = s.dbg := by
  have h := congrArg State.dbg (icPend_frame s n).rest
  exact h
@[simp] theorem icPend_time (s : State) (n : Nat) : (icPend s n).time = s.time := by
  have h := congrArg State.time (icPend_frame s n).rest
  exact h
@[simp] theorem icPend_fab (s : State) (n : Nat) : (icPend s n).fab = s.fab := by
  have h := congrArg State.fab (icPend_frame s n).rest
  exact h
@[simp] theorem icPend_free (s : State) (n : Nat) : (icPend s n).free = s.free := by
  have h := congrArg State.free (icPend_frame s n).rest
  exact h
@[simp] theorem icPend_pending (s : State) (n : Nat) : (icPend s n).pending = s.pending := by
  have h := congrArg State.pending (icPend_frame s n).rest
  exact h
theorem fl_icPend (s : State) (n : Nat) {f : Fld} (i : Nat) (h : icField f = false) : (icPend s n).fl f i = s.fl f i :=
  (icPend_frame s n).fl f i h
theorem fb_icPend (s : State) (n : Nat) {f : Fld} (i : Nat) (h : icField f = false) : (icPend s n).fb f i = s.fb f i := by
  unfold State.fb
  rw [fl_icPend s n i h]
@[simp] theorem cpu_icPend (s : State) (n : Nat) (p : Proc) : (icPend s n).cpu p = s.cpu p := by
  simp [State.cpu]

@[simp] theorem icClaim_sh (s : State) (n : Nat) : (icClaim s n).sh = s.sh := by
  have h := congrArg State.sh (icClaim_frame s n).rest
  exact h
@[simp] theorem icClaim_mem (s : State) (n : Nat) : (icClaim s n).mem = s.mem := by
  have h := congrArg State.mem (icClaim_frame s n).rest
  exact h
@[simp] theorem icClaim_cpus (s : State) (n : Nat) : (icClaim s n).cpus = s.cpus := by
  have h := congrArg State.cpus (icClaim_frame s n).rest
  exact h
@[simp] theorem icClaim_caches (s : State) (n : Nat) : (icClaim s n).caches = s.caches := by
  have h := congrArg State.caches (icClaim_frame s n).rest
  exact h
@[simp] theorem icClaim_dregs (s : State) (n : Nat) : (icClaim s n).dregs = s.dregs := by
  have h := congrArg State.dregs (icClaim_frame s n).rest
  exact h
@[simp] theorem icClaim_ket (s : State) (n : Nat) : (icClaim s n).ket = s.ket := by
  have h := congrArg State.ket (icClaim_frame s n).rest
  exact h
@[simp] theorem icClaim_steep (s : State) (n : Nat) : (icClaim s n).steep = s.steep := by
  have h := congrArg State.steep (icClaim_frame s n).rest
  exact h
@[simp] theorem icClaim_dram (s : State) (n : Nat) : (icClaim s n).dram = s.dram := by
  have h := congrArg State.dram (icClaim_frame s n).rest
  exact h
@[simp] theorem icClaim_warm (s : State) (n : Nat) : (icClaim s n).warm = s.warm := by
  have h := congrArg State.warm (icClaim_frame s n).rest
  exact h
@[simp] theorem icClaim_caddy (s : State) (n : Nat) : (icClaim s n).caddy = s.caddy := by
  have h := congrArg State.caddy (icClaim_frame s n).rest
  exact h
@[simp] theorem icClaim_trace (s : State) (n : Nat) : (icClaim s n).trace = s.trace := by
  have h := congrArg State.trace (icClaim_frame s n).rest
  exact h
@[simp] theorem icClaim_pwr (s : State) (n : Nat) : (icClaim s n).pwr = s.pwr := by
  have h := congrArg State.pwr (icClaim_frame s n).rest
  exact h
@[simp] theorem icClaim_sup (s : State) (n : Nat) : (icClaim s n).sup = s.sup := by
  have h := congrArg State.sup (icClaim_frame s n).rest
  exact h
@[simp] theorem icClaim_clk (s : State) (n : Nat) : (icClaim s n).clk = s.clk := by
  have h := congrArg State.clk (icClaim_frame s n).rest
  exact h
@[simp] theorem icClaim_links (s : State) (n : Nat) : (icClaim s n).links = s.links := by
  have h := congrArg State.links (icClaim_frame s n).rest
  exact h
@[simp] theorem icClaim_router (s : State) (n : Nat) : (icClaim s n).router = s.router := by
  have h := congrArg State.router (icClaim_frame s n).rest
  exact h
@[simp] theorem icClaim_inf (s : State) (n : Nat) : (icClaim s n).inf = s.inf := by
  have h := congrArg State.inf (icClaim_frame s n).rest
  exact h
@[simp] theorem icClaim_ports (s : State) (n : Nat) : (icClaim s n).ports = s.ports := by
  have h := congrArg State.ports (icClaim_frame s n).rest
  exact h
@[simp] theorem icClaim_gates (s : State) (n : Nat) : (icClaim s n).gates = s.gates := by
  have h := congrArg State.gates (icClaim_frame s n).rest
  exact h
@[simp] theorem icClaim_disp (s : State) (n : Nat) : (icClaim s n).disp = s.disp := by
  have h := congrArg State.disp (icClaim_frame s n).rest
  exact h
@[simp] theorem icClaim_touch (s : State) (n : Nat) : (icClaim s n).touch = s.touch := by
  have h := congrArg State.touch (icClaim_frame s n).rest
  exact h
@[simp] theorem icClaim_cams (s : State) (n : Nat) : (icClaim s n).cams = s.cams := by
  have h := congrArg State.cams (icClaim_frame s n).rest
  exact h
@[simp] theorem icClaim_usb (s : State) (n : Nat) : (icClaim s n).usb = s.usb := by
  have h := congrArg State.usb (icClaim_frame s n).rest
  exact h
@[simp] theorem icClaim_pcie (s : State) (n : Nat) : (icClaim s n).pcie = s.pcie := by
  have h := congrArg State.pcie (icClaim_frame s n).rest
  exact h
@[simp] theorem icClaim_ep (s : State) (n : Nat) : (icClaim s n).ep = s.ep := by
  have h := congrArg State.ep (icClaim_frame s n).rest
  exact h
@[simp] theorem icClaim_mir (s : State) (n : Nat) : (icClaim s n).mir = s.mir := by
  have h := congrArg State.mir (icClaim_frame s n).rest
  exact h
@[simp] theorem icClaim_dbg (s : State) (n : Nat) : (icClaim s n).dbg = s.dbg := by
  have h := congrArg State.dbg (icClaim_frame s n).rest
  exact h
@[simp] theorem icClaim_time (s : State) (n : Nat) : (icClaim s n).time = s.time := by
  have h := congrArg State.time (icClaim_frame s n).rest
  exact h
@[simp] theorem icClaim_fab (s : State) (n : Nat) : (icClaim s n).fab = s.fab := by
  have h := congrArg State.fab (icClaim_frame s n).rest
  exact h
@[simp] theorem icClaim_free (s : State) (n : Nat) : (icClaim s n).free = s.free := by
  have h := congrArg State.free (icClaim_frame s n).rest
  exact h
@[simp] theorem icClaim_pending (s : State) (n : Nat) : (icClaim s n).pending = s.pending := by
  have h := congrArg State.pending (icClaim_frame s n).rest
  exact h
theorem fl_icClaim (s : State) (n : Nat) {f : Fld} (i : Nat) (h : icField f = false) : (icClaim s n).fl f i = s.fl f i :=
  (icClaim_frame s n).fl f i h
theorem fb_icClaim (s : State) (n : Nat) {f : Fld} (i : Nat) (h : icField f = false) : (icClaim s n).fb f i = s.fb f i := by
  unfold State.fb
  rw [fl_icClaim s n i h]
@[simp] theorem cpu_icClaim (s : State) (n : Nat) (p : Proc) : (icClaim s n).cpu p = s.cpu p := by
  simp [State.cpu]

@[simp] theorem icRelease_sh (s : State) (n : Nat) : (icRelease s n).sh = s.sh := by
  have h := congrArg State.sh (icRelease_frame s n).rest
  exact h
@[simp] theorem icRelease_mem (s : State) (n : Nat) : (icRelease s n).mem = s.mem := by
  have h := congrArg State.mem (icRelease_frame s n).rest
  exact h
@[simp] theorem icRelease_cpus (s : State) (n : Nat) : (icRelease s n).cpus = s.cpus := by
  have h := congrArg State.cpus (icRelease_frame s n).rest
  exact h
@[simp] theorem icRelease_caches (s : State) (n : Nat) : (icRelease s n).caches = s.caches := by
  have h := congrArg State.caches (icRelease_frame s n).rest
  exact h
@[simp] theorem icRelease_dregs (s : State) (n : Nat) : (icRelease s n).dregs = s.dregs := by
  have h := congrArg State.dregs (icRelease_frame s n).rest
  exact h
@[simp] theorem icRelease_ket (s : State) (n : Nat) : (icRelease s n).ket = s.ket := by
  have h := congrArg State.ket (icRelease_frame s n).rest
  exact h
@[simp] theorem icRelease_steep (s : State) (n : Nat) : (icRelease s n).steep = s.steep := by
  have h := congrArg State.steep (icRelease_frame s n).rest
  exact h
@[simp] theorem icRelease_dram (s : State) (n : Nat) : (icRelease s n).dram = s.dram := by
  have h := congrArg State.dram (icRelease_frame s n).rest
  exact h
@[simp] theorem icRelease_warm (s : State) (n : Nat) : (icRelease s n).warm = s.warm := by
  have h := congrArg State.warm (icRelease_frame s n).rest
  exact h
@[simp] theorem icRelease_caddy (s : State) (n : Nat) : (icRelease s n).caddy = s.caddy := by
  have h := congrArg State.caddy (icRelease_frame s n).rest
  exact h
@[simp] theorem icRelease_trace (s : State) (n : Nat) : (icRelease s n).trace = s.trace := by
  have h := congrArg State.trace (icRelease_frame s n).rest
  exact h
@[simp] theorem icRelease_pwr (s : State) (n : Nat) : (icRelease s n).pwr = s.pwr := by
  have h := congrArg State.pwr (icRelease_frame s n).rest
  exact h
@[simp] theorem icRelease_sup (s : State) (n : Nat) : (icRelease s n).sup = s.sup := by
  have h := congrArg State.sup (icRelease_frame s n).rest
  exact h
@[simp] theorem icRelease_clk (s : State) (n : Nat) : (icRelease s n).clk = s.clk := by
  have h := congrArg State.clk (icRelease_frame s n).rest
  exact h
@[simp] theorem icRelease_links (s : State) (n : Nat) : (icRelease s n).links = s.links := by
  have h := congrArg State.links (icRelease_frame s n).rest
  exact h
@[simp] theorem icRelease_router (s : State) (n : Nat) : (icRelease s n).router = s.router := by
  have h := congrArg State.router (icRelease_frame s n).rest
  exact h
@[simp] theorem icRelease_inf (s : State) (n : Nat) : (icRelease s n).inf = s.inf := by
  have h := congrArg State.inf (icRelease_frame s n).rest
  exact h
@[simp] theorem icRelease_ports (s : State) (n : Nat) : (icRelease s n).ports = s.ports := by
  have h := congrArg State.ports (icRelease_frame s n).rest
  exact h
@[simp] theorem icRelease_gates (s : State) (n : Nat) : (icRelease s n).gates = s.gates := by
  have h := congrArg State.gates (icRelease_frame s n).rest
  exact h
@[simp] theorem icRelease_disp (s : State) (n : Nat) : (icRelease s n).disp = s.disp := by
  have h := congrArg State.disp (icRelease_frame s n).rest
  exact h
@[simp] theorem icRelease_touch (s : State) (n : Nat) : (icRelease s n).touch = s.touch := by
  have h := congrArg State.touch (icRelease_frame s n).rest
  exact h
@[simp] theorem icRelease_cams (s : State) (n : Nat) : (icRelease s n).cams = s.cams := by
  have h := congrArg State.cams (icRelease_frame s n).rest
  exact h
@[simp] theorem icRelease_usb (s : State) (n : Nat) : (icRelease s n).usb = s.usb := by
  have h := congrArg State.usb (icRelease_frame s n).rest
  exact h
@[simp] theorem icRelease_pcie (s : State) (n : Nat) : (icRelease s n).pcie = s.pcie := by
  have h := congrArg State.pcie (icRelease_frame s n).rest
  exact h
@[simp] theorem icRelease_ep (s : State) (n : Nat) : (icRelease s n).ep = s.ep := by
  have h := congrArg State.ep (icRelease_frame s n).rest
  exact h
@[simp] theorem icRelease_mir (s : State) (n : Nat) : (icRelease s n).mir = s.mir := by
  have h := congrArg State.mir (icRelease_frame s n).rest
  exact h
@[simp] theorem icRelease_dbg (s : State) (n : Nat) : (icRelease s n).dbg = s.dbg := by
  have h := congrArg State.dbg (icRelease_frame s n).rest
  exact h
@[simp] theorem icRelease_time (s : State) (n : Nat) : (icRelease s n).time = s.time := by
  have h := congrArg State.time (icRelease_frame s n).rest
  exact h
@[simp] theorem icRelease_fab (s : State) (n : Nat) : (icRelease s n).fab = s.fab := by
  have h := congrArg State.fab (icRelease_frame s n).rest
  exact h
@[simp] theorem icRelease_free (s : State) (n : Nat) : (icRelease s n).free = s.free := by
  have h := congrArg State.free (icRelease_frame s n).rest
  exact h
@[simp] theorem icRelease_pending (s : State) (n : Nat) : (icRelease s n).pending = s.pending := by
  have h := congrArg State.pending (icRelease_frame s n).rest
  exact h
theorem fl_icRelease (s : State) (n : Nat) {f : Fld} (i : Nat) (h : icField f = false) : (icRelease s n).fl f i = s.fl f i :=
  (icRelease_frame s n).fl f i h
theorem fb_icRelease (s : State) (n : Nat) {f : Fld} (i : Nat) (h : icField f = false) : (icRelease s n).fb f i = s.fb f i := by
  unfold State.fb
  rw [fl_icRelease s n i h]
@[simp] theorem cpu_icRelease (s : State) (n : Nat) (p : Proc) : (icRelease s n).cpu p = s.cpu p := by
  simp [State.cpu]

@[simp] theorem raiseSource_sh (s : State) (n : Nat) : (raiseSource s n).sh = s.sh := by
  have h := congrArg State.sh (raiseSource_frame s n).rest
  exact h
@[simp] theorem raiseSource_mem (s : State) (n : Nat) : (raiseSource s n).mem = s.mem := by
  have h := congrArg State.mem (raiseSource_frame s n).rest
  exact h
@[simp] theorem raiseSource_cpus (s : State) (n : Nat) : (raiseSource s n).cpus = s.cpus := by
  have h := congrArg State.cpus (raiseSource_frame s n).rest
  exact h
@[simp] theorem raiseSource_caches (s : State) (n : Nat) : (raiseSource s n).caches = s.caches := by
  have h := congrArg State.caches (raiseSource_frame s n).rest
  exact h
@[simp] theorem raiseSource_dregs (s : State) (n : Nat) : (raiseSource s n).dregs = s.dregs := by
  have h := congrArg State.dregs (raiseSource_frame s n).rest
  exact h
@[simp] theorem raiseSource_ket (s : State) (n : Nat) : (raiseSource s n).ket = s.ket := by
  have h := congrArg State.ket (raiseSource_frame s n).rest
  exact h
@[simp] theorem raiseSource_steep (s : State) (n : Nat) : (raiseSource s n).steep = s.steep := by
  have h := congrArg State.steep (raiseSource_frame s n).rest
  exact h
@[simp] theorem raiseSource_dram (s : State) (n : Nat) : (raiseSource s n).dram = s.dram := by
  have h := congrArg State.dram (raiseSource_frame s n).rest
  exact h
@[simp] theorem raiseSource_warm (s : State) (n : Nat) : (raiseSource s n).warm = s.warm := by
  have h := congrArg State.warm (raiseSource_frame s n).rest
  exact h
@[simp] theorem raiseSource_caddy (s : State) (n : Nat) : (raiseSource s n).caddy = s.caddy := by
  have h := congrArg State.caddy (raiseSource_frame s n).rest
  exact h
@[simp] theorem raiseSource_trace (s : State) (n : Nat) : (raiseSource s n).trace = s.trace := by
  have h := congrArg State.trace (raiseSource_frame s n).rest
  exact h
@[simp] theorem raiseSource_pwr (s : State) (n : Nat) : (raiseSource s n).pwr = s.pwr := by
  have h := congrArg State.pwr (raiseSource_frame s n).rest
  exact h
@[simp] theorem raiseSource_sup (s : State) (n : Nat) : (raiseSource s n).sup = s.sup := by
  have h := congrArg State.sup (raiseSource_frame s n).rest
  exact h
@[simp] theorem raiseSource_clk (s : State) (n : Nat) : (raiseSource s n).clk = s.clk := by
  have h := congrArg State.clk (raiseSource_frame s n).rest
  exact h
@[simp] theorem raiseSource_links (s : State) (n : Nat) : (raiseSource s n).links = s.links := by
  have h := congrArg State.links (raiseSource_frame s n).rest
  exact h
@[simp] theorem raiseSource_router (s : State) (n : Nat) : (raiseSource s n).router = s.router := by
  have h := congrArg State.router (raiseSource_frame s n).rest
  exact h
@[simp] theorem raiseSource_inf (s : State) (n : Nat) : (raiseSource s n).inf = s.inf := by
  have h := congrArg State.inf (raiseSource_frame s n).rest
  exact h
@[simp] theorem raiseSource_ports (s : State) (n : Nat) : (raiseSource s n).ports = s.ports := by
  have h := congrArg State.ports (raiseSource_frame s n).rest
  exact h
@[simp] theorem raiseSource_gates (s : State) (n : Nat) : (raiseSource s n).gates = s.gates := by
  have h := congrArg State.gates (raiseSource_frame s n).rest
  exact h
@[simp] theorem raiseSource_disp (s : State) (n : Nat) : (raiseSource s n).disp = s.disp := by
  have h := congrArg State.disp (raiseSource_frame s n).rest
  exact h
@[simp] theorem raiseSource_touch (s : State) (n : Nat) : (raiseSource s n).touch = s.touch := by
  have h := congrArg State.touch (raiseSource_frame s n).rest
  exact h
@[simp] theorem raiseSource_cams (s : State) (n : Nat) : (raiseSource s n).cams = s.cams := by
  have h := congrArg State.cams (raiseSource_frame s n).rest
  exact h
@[simp] theorem raiseSource_usb (s : State) (n : Nat) : (raiseSource s n).usb = s.usb := by
  have h := congrArg State.usb (raiseSource_frame s n).rest
  exact h
@[simp] theorem raiseSource_pcie (s : State) (n : Nat) : (raiseSource s n).pcie = s.pcie := by
  have h := congrArg State.pcie (raiseSource_frame s n).rest
  exact h
@[simp] theorem raiseSource_ep (s : State) (n : Nat) : (raiseSource s n).ep = s.ep := by
  have h := congrArg State.ep (raiseSource_frame s n).rest
  exact h
@[simp] theorem raiseSource_mir (s : State) (n : Nat) : (raiseSource s n).mir = s.mir := by
  have h := congrArg State.mir (raiseSource_frame s n).rest
  exact h
@[simp] theorem raiseSource_dbg (s : State) (n : Nat) : (raiseSource s n).dbg = s.dbg := by
  have h := congrArg State.dbg (raiseSource_frame s n).rest
  exact h
@[simp] theorem raiseSource_time (s : State) (n : Nat) : (raiseSource s n).time = s.time := by
  have h := congrArg State.time (raiseSource_frame s n).rest
  exact h
@[simp] theorem raiseSource_fab (s : State) (n : Nat) : (raiseSource s n).fab = s.fab := by
  have h := congrArg State.fab (raiseSource_frame s n).rest
  exact h
@[simp] theorem raiseSource_free (s : State) (n : Nat) : (raiseSource s n).free = s.free := by
  have h := congrArg State.free (raiseSource_frame s n).rest
  exact h
@[simp] theorem raiseSource_pending (s : State) (n : Nat) : (raiseSource s n).pending = s.pending := by
  have h := congrArg State.pending (raiseSource_frame s n).rest
  exact h
theorem fl_raiseSource (s : State) (n : Nat) {f : Fld} (i : Nat) (h : icField f = false) : (raiseSource s n).fl f i = s.fl f i :=
  (raiseSource_frame s n).fl f i h
theorem fb_raiseSource (s : State) (n : Nat) {f : Fld} (i : Nat) (h : icField f = false) : (raiseSource s n).fb f i = s.fb f i := by
  unfold State.fb
  rw [fl_raiseSource s n i h]
@[simp] theorem cpu_raiseSource (s : State) (n : Nat) (p : Proc) : (raiseSource s n).cpu p = s.cpu p := by
  simp [State.cpu]

@[simp] theorem setLine_sh (s : State) (n : Nat) (b : Bool) : (setLine s n b).sh = s.sh := by
  have h := congrArg State.sh (setLine_frame s n b).rest
  exact h
@[simp] theorem setLine_mem (s : State) (n : Nat) (b : Bool) : (setLine s n b).mem = s.mem := by
  have h := congrArg State.mem (setLine_frame s n b).rest
  exact h
@[simp] theorem setLine_cpus (s : State) (n : Nat) (b : Bool) : (setLine s n b).cpus = s.cpus := by
  have h := congrArg State.cpus (setLine_frame s n b).rest
  exact h
@[simp] theorem setLine_caches (s : State) (n : Nat) (b : Bool) : (setLine s n b).caches = s.caches := by
  have h := congrArg State.caches (setLine_frame s n b).rest
  exact h
@[simp] theorem setLine_dregs (s : State) (n : Nat) (b : Bool) : (setLine s n b).dregs = s.dregs := by
  have h := congrArg State.dregs (setLine_frame s n b).rest
  exact h
@[simp] theorem setLine_ket (s : State) (n : Nat) (b : Bool) : (setLine s n b).ket = s.ket := by
  have h := congrArg State.ket (setLine_frame s n b).rest
  exact h
@[simp] theorem setLine_steep (s : State) (n : Nat) (b : Bool) : (setLine s n b).steep = s.steep := by
  have h := congrArg State.steep (setLine_frame s n b).rest
  exact h
@[simp] theorem setLine_dram (s : State) (n : Nat) (b : Bool) : (setLine s n b).dram = s.dram := by
  have h := congrArg State.dram (setLine_frame s n b).rest
  exact h
@[simp] theorem setLine_warm (s : State) (n : Nat) (b : Bool) : (setLine s n b).warm = s.warm := by
  have h := congrArg State.warm (setLine_frame s n b).rest
  exact h
@[simp] theorem setLine_caddy (s : State) (n : Nat) (b : Bool) : (setLine s n b).caddy = s.caddy := by
  have h := congrArg State.caddy (setLine_frame s n b).rest
  exact h
@[simp] theorem setLine_trace (s : State) (n : Nat) (b : Bool) : (setLine s n b).trace = s.trace := by
  have h := congrArg State.trace (setLine_frame s n b).rest
  exact h
@[simp] theorem setLine_pwr (s : State) (n : Nat) (b : Bool) : (setLine s n b).pwr = s.pwr := by
  have h := congrArg State.pwr (setLine_frame s n b).rest
  exact h
@[simp] theorem setLine_sup (s : State) (n : Nat) (b : Bool) : (setLine s n b).sup = s.sup := by
  have h := congrArg State.sup (setLine_frame s n b).rest
  exact h
@[simp] theorem setLine_clk (s : State) (n : Nat) (b : Bool) : (setLine s n b).clk = s.clk := by
  have h := congrArg State.clk (setLine_frame s n b).rest
  exact h
@[simp] theorem setLine_links (s : State) (n : Nat) (b : Bool) : (setLine s n b).links = s.links := by
  have h := congrArg State.links (setLine_frame s n b).rest
  exact h
@[simp] theorem setLine_router (s : State) (n : Nat) (b : Bool) : (setLine s n b).router = s.router := by
  have h := congrArg State.router (setLine_frame s n b).rest
  exact h
@[simp] theorem setLine_inf (s : State) (n : Nat) (b : Bool) : (setLine s n b).inf = s.inf := by
  have h := congrArg State.inf (setLine_frame s n b).rest
  exact h
@[simp] theorem setLine_ports (s : State) (n : Nat) (b : Bool) : (setLine s n b).ports = s.ports := by
  have h := congrArg State.ports (setLine_frame s n b).rest
  exact h
@[simp] theorem setLine_gates (s : State) (n : Nat) (b : Bool) : (setLine s n b).gates = s.gates := by
  have h := congrArg State.gates (setLine_frame s n b).rest
  exact h
@[simp] theorem setLine_disp (s : State) (n : Nat) (b : Bool) : (setLine s n b).disp = s.disp := by
  have h := congrArg State.disp (setLine_frame s n b).rest
  exact h
@[simp] theorem setLine_touch (s : State) (n : Nat) (b : Bool) : (setLine s n b).touch = s.touch := by
  have h := congrArg State.touch (setLine_frame s n b).rest
  exact h
@[simp] theorem setLine_cams (s : State) (n : Nat) (b : Bool) : (setLine s n b).cams = s.cams := by
  have h := congrArg State.cams (setLine_frame s n b).rest
  exact h
@[simp] theorem setLine_usb (s : State) (n : Nat) (b : Bool) : (setLine s n b).usb = s.usb := by
  have h := congrArg State.usb (setLine_frame s n b).rest
  exact h
@[simp] theorem setLine_pcie (s : State) (n : Nat) (b : Bool) : (setLine s n b).pcie = s.pcie := by
  have h := congrArg State.pcie (setLine_frame s n b).rest
  exact h
@[simp] theorem setLine_ep (s : State) (n : Nat) (b : Bool) : (setLine s n b).ep = s.ep := by
  have h := congrArg State.ep (setLine_frame s n b).rest
  exact h
@[simp] theorem setLine_mir (s : State) (n : Nat) (b : Bool) : (setLine s n b).mir = s.mir := by
  have h := congrArg State.mir (setLine_frame s n b).rest
  exact h
@[simp] theorem setLine_dbg (s : State) (n : Nat) (b : Bool) : (setLine s n b).dbg = s.dbg := by
  have h := congrArg State.dbg (setLine_frame s n b).rest
  exact h
@[simp] theorem setLine_time (s : State) (n : Nat) (b : Bool) : (setLine s n b).time = s.time := by
  have h := congrArg State.time (setLine_frame s n b).rest
  exact h
@[simp] theorem setLine_fab (s : State) (n : Nat) (b : Bool) : (setLine s n b).fab = s.fab := by
  have h := congrArg State.fab (setLine_frame s n b).rest
  exact h
@[simp] theorem setLine_free (s : State) (n : Nat) (b : Bool) : (setLine s n b).free = s.free := by
  have h := congrArg State.free (setLine_frame s n b).rest
  exact h
@[simp] theorem setLine_pending (s : State) (n : Nat) (b : Bool) : (setLine s n b).pending = s.pending := by
  have h := congrArg State.pending (setLine_frame s n b).rest
  exact h
theorem fl_setLine (s : State) (n : Nat) (b : Bool) {f : Fld} (i : Nat) (h : icField f = false) : (setLine s n b).fl f i = s.fl f i :=
  (setLine_frame s n b).fl f i h
theorem fb_setLine (s : State) (n : Nat) (b : Bool) {f : Fld} (i : Nat) (h : icField f = false) : (setLine s n b).fb f i = s.fb f i := by
  unfold State.fb
  rw [fl_setLine s n b i h]
@[simp] theorem cpu_setLine (s : State) (n : Nat) (b : Bool) (p : Proc) : (setLine s n b).cpu p = s.cpu p := by
  simp [State.cpu]

@[simp] theorem countEvent_sh (s : State) (e u : Nat) (q : Option Nat) : (countEvent s e u q).sh = s.sh := by
  have h := congrArg State.sh (countEvent_frame s e u q).rest
  exact h
@[simp] theorem countEvent_mem (s : State) (e u : Nat) (q : Option Nat) : (countEvent s e u q).mem = s.mem := by
  have h := congrArg State.mem (countEvent_frame s e u q).rest
  exact h
@[simp] theorem countEvent_cpus (s : State) (e u : Nat) (q : Option Nat) : (countEvent s e u q).cpus = s.cpus := by
  have h := congrArg State.cpus (countEvent_frame s e u q).rest
  exact h
@[simp] theorem countEvent_caches (s : State) (e u : Nat) (q : Option Nat) : (countEvent s e u q).caches = s.caches := by
  have h := congrArg State.caches (countEvent_frame s e u q).rest
  exact h
@[simp] theorem countEvent_dregs (s : State) (e u : Nat) (q : Option Nat) : (countEvent s e u q).dregs = s.dregs := by
  have h := congrArg State.dregs (countEvent_frame s e u q).rest
  exact h
@[simp] theorem countEvent_ket (s : State) (e u : Nat) (q : Option Nat) : (countEvent s e u q).ket = s.ket := by
  have h := congrArg State.ket (countEvent_frame s e u q).rest
  exact h
@[simp] theorem countEvent_steep (s : State) (e u : Nat) (q : Option Nat) : (countEvent s e u q).steep = s.steep := by
  have h := congrArg State.steep (countEvent_frame s e u q).rest
  exact h
@[simp] theorem countEvent_dram (s : State) (e u : Nat) (q : Option Nat) : (countEvent s e u q).dram = s.dram := by
  have h := congrArg State.dram (countEvent_frame s e u q).rest
  exact h
@[simp] theorem countEvent_warm (s : State) (e u : Nat) (q : Option Nat) : (countEvent s e u q).warm = s.warm := by
  have h := congrArg State.warm (countEvent_frame s e u q).rest
  exact h
@[simp] theorem countEvent_caddy (s : State) (e u : Nat) (q : Option Nat) : (countEvent s e u q).caddy = s.caddy := by
  have h := congrArg State.caddy (countEvent_frame s e u q).rest
  exact h
@[simp] theorem countEvent_trace (s : State) (e u : Nat) (q : Option Nat) : (countEvent s e u q).trace = s.trace := by
  have h := congrArg State.trace (countEvent_frame s e u q).rest
  exact h
@[simp] theorem countEvent_pwr (s : State) (e u : Nat) (q : Option Nat) : (countEvent s e u q).pwr = s.pwr := by
  have h := congrArg State.pwr (countEvent_frame s e u q).rest
  exact h
@[simp] theorem countEvent_sup (s : State) (e u : Nat) (q : Option Nat) : (countEvent s e u q).sup = s.sup := by
  have h := congrArg State.sup (countEvent_frame s e u q).rest
  exact h
@[simp] theorem countEvent_clk (s : State) (e u : Nat) (q : Option Nat) : (countEvent s e u q).clk = s.clk := by
  have h := congrArg State.clk (countEvent_frame s e u q).rest
  exact h
@[simp] theorem countEvent_links (s : State) (e u : Nat) (q : Option Nat) : (countEvent s e u q).links = s.links := by
  have h := congrArg State.links (countEvent_frame s e u q).rest
  exact h
@[simp] theorem countEvent_router (s : State) (e u : Nat) (q : Option Nat) : (countEvent s e u q).router = s.router := by
  have h := congrArg State.router (countEvent_frame s e u q).rest
  exact h
@[simp] theorem countEvent_inf (s : State) (e u : Nat) (q : Option Nat) : (countEvent s e u q).inf = s.inf := by
  have h := congrArg State.inf (countEvent_frame s e u q).rest
  exact h
@[simp] theorem countEvent_ports (s : State) (e u : Nat) (q : Option Nat) : (countEvent s e u q).ports = s.ports := by
  have h := congrArg State.ports (countEvent_frame s e u q).rest
  exact h
@[simp] theorem countEvent_gates (s : State) (e u : Nat) (q : Option Nat) : (countEvent s e u q).gates = s.gates := by
  have h := congrArg State.gates (countEvent_frame s e u q).rest
  exact h
@[simp] theorem countEvent_disp (s : State) (e u : Nat) (q : Option Nat) : (countEvent s e u q).disp = s.disp := by
  have h := congrArg State.disp (countEvent_frame s e u q).rest
  exact h
@[simp] theorem countEvent_touch (s : State) (e u : Nat) (q : Option Nat) : (countEvent s e u q).touch = s.touch := by
  have h := congrArg State.touch (countEvent_frame s e u q).rest
  exact h
@[simp] theorem countEvent_cams (s : State) (e u : Nat) (q : Option Nat) : (countEvent s e u q).cams = s.cams := by
  have h := congrArg State.cams (countEvent_frame s e u q).rest
  exact h
@[simp] theorem countEvent_usb (s : State) (e u : Nat) (q : Option Nat) : (countEvent s e u q).usb = s.usb := by
  have h := congrArg State.usb (countEvent_frame s e u q).rest
  exact h
@[simp] theorem countEvent_pcie (s : State) (e u : Nat) (q : Option Nat) : (countEvent s e u q).pcie = s.pcie := by
  have h := congrArg State.pcie (countEvent_frame s e u q).rest
  exact h
@[simp] theorem countEvent_ep (s : State) (e u : Nat) (q : Option Nat) : (countEvent s e u q).ep = s.ep := by
  have h := congrArg State.ep (countEvent_frame s e u q).rest
  exact h
@[simp] theorem countEvent_mir (s : State) (e u : Nat) (q : Option Nat) : (countEvent s e u q).mir = s.mir := by
  have h := congrArg State.mir (countEvent_frame s e u q).rest
  exact h
@[simp] theorem countEvent_dbg (s : State) (e u : Nat) (q : Option Nat) : (countEvent s e u q).dbg = s.dbg := by
  have h := congrArg State.dbg (countEvent_frame s e u q).rest
  exact h
@[simp] theorem countEvent_time (s : State) (e u : Nat) (q : Option Nat) : (countEvent s e u q).time = s.time := by
  have h := congrArg State.time (countEvent_frame s e u q).rest
  exact h
@[simp] theorem countEvent_fab (s : State) (e u : Nat) (q : Option Nat) : (countEvent s e u q).fab = s.fab := by
  have h := congrArg State.fab (countEvent_frame s e u q).rest
  exact h
@[simp] theorem countEvent_free (s : State) (e u : Nat) (q : Option Nat) : (countEvent s e u q).free = s.free := by
  have h := congrArg State.free (countEvent_frame s e u q).rest
  exact h
@[simp] theorem countEvent_pending (s : State) (e u : Nat) (q : Option Nat) : (countEvent s e u q).pending = s.pending := by
  have h := congrArg State.pending (countEvent_frame s e u q).rest
  exact h
theorem fl_countEvent (s : State) (e u : Nat) (q : Option Nat) {f : Fld} (i : Nat) (h : countField f = false) : (countEvent s e u q).fl f i = s.fl f i :=
  (countEvent_frame s e u q).fl f i h
theorem fb_countEvent (s : State) (e u : Nat) (q : Option Nat) {f : Fld} (i : Nat) (h : countField f = false) : (countEvent s e u q).fb f i = s.fb f i := by
  unfold State.fb
  rw [fl_countEvent s e u q i h]
@[simp] theorem cpu_countEvent (s : State) (e u : Nat) (q : Option Nat) (p : Proc) : (countEvent s e u q).cpu p = s.cpu p := by
  simp [State.cpu]

@[simp] theorem countCore_sh (s : State) (e : Nat) (c : Fin 16) : (countCore s e c).sh = s.sh := by
  have h := congrArg State.sh (countCore_frame s e c).rest
  exact h
@[simp] theorem countCore_mem (s : State) (e : Nat) (c : Fin 16) : (countCore s e c).mem = s.mem := by
  have h := congrArg State.mem (countCore_frame s e c).rest
  exact h
@[simp] theorem countCore_cpus (s : State) (e : Nat) (c : Fin 16) : (countCore s e c).cpus = s.cpus := by
  have h := congrArg State.cpus (countCore_frame s e c).rest
  exact h
@[simp] theorem countCore_caches (s : State) (e : Nat) (c : Fin 16) : (countCore s e c).caches = s.caches := by
  have h := congrArg State.caches (countCore_frame s e c).rest
  exact h
@[simp] theorem countCore_dregs (s : State) (e : Nat) (c : Fin 16) : (countCore s e c).dregs = s.dregs := by
  have h := congrArg State.dregs (countCore_frame s e c).rest
  exact h
@[simp] theorem countCore_ket (s : State) (e : Nat) (c : Fin 16) : (countCore s e c).ket = s.ket := by
  have h := congrArg State.ket (countCore_frame s e c).rest
  exact h
@[simp] theorem countCore_steep (s : State) (e : Nat) (c : Fin 16) : (countCore s e c).steep = s.steep := by
  have h := congrArg State.steep (countCore_frame s e c).rest
  exact h
@[simp] theorem countCore_dram (s : State) (e : Nat) (c : Fin 16) : (countCore s e c).dram = s.dram := by
  have h := congrArg State.dram (countCore_frame s e c).rest
  exact h
@[simp] theorem countCore_warm (s : State) (e : Nat) (c : Fin 16) : (countCore s e c).warm = s.warm := by
  have h := congrArg State.warm (countCore_frame s e c).rest
  exact h
@[simp] theorem countCore_caddy (s : State) (e : Nat) (c : Fin 16) : (countCore s e c).caddy = s.caddy := by
  have h := congrArg State.caddy (countCore_frame s e c).rest
  exact h
@[simp] theorem countCore_trace (s : State) (e : Nat) (c : Fin 16) : (countCore s e c).trace = s.trace := by
  have h := congrArg State.trace (countCore_frame s e c).rest
  exact h
@[simp] theorem countCore_pwr (s : State) (e : Nat) (c : Fin 16) : (countCore s e c).pwr = s.pwr := by
  have h := congrArg State.pwr (countCore_frame s e c).rest
  exact h
@[simp] theorem countCore_sup (s : State) (e : Nat) (c : Fin 16) : (countCore s e c).sup = s.sup := by
  have h := congrArg State.sup (countCore_frame s e c).rest
  exact h
@[simp] theorem countCore_clk (s : State) (e : Nat) (c : Fin 16) : (countCore s e c).clk = s.clk := by
  have h := congrArg State.clk (countCore_frame s e c).rest
  exact h
@[simp] theorem countCore_links (s : State) (e : Nat) (c : Fin 16) : (countCore s e c).links = s.links := by
  have h := congrArg State.links (countCore_frame s e c).rest
  exact h
@[simp] theorem countCore_router (s : State) (e : Nat) (c : Fin 16) : (countCore s e c).router = s.router := by
  have h := congrArg State.router (countCore_frame s e c).rest
  exact h
@[simp] theorem countCore_inf (s : State) (e : Nat) (c : Fin 16) : (countCore s e c).inf = s.inf := by
  have h := congrArg State.inf (countCore_frame s e c).rest
  exact h
@[simp] theorem countCore_ports (s : State) (e : Nat) (c : Fin 16) : (countCore s e c).ports = s.ports := by
  have h := congrArg State.ports (countCore_frame s e c).rest
  exact h
@[simp] theorem countCore_gates (s : State) (e : Nat) (c : Fin 16) : (countCore s e c).gates = s.gates := by
  have h := congrArg State.gates (countCore_frame s e c).rest
  exact h
@[simp] theorem countCore_disp (s : State) (e : Nat) (c : Fin 16) : (countCore s e c).disp = s.disp := by
  have h := congrArg State.disp (countCore_frame s e c).rest
  exact h
@[simp] theorem countCore_touch (s : State) (e : Nat) (c : Fin 16) : (countCore s e c).touch = s.touch := by
  have h := congrArg State.touch (countCore_frame s e c).rest
  exact h
@[simp] theorem countCore_cams (s : State) (e : Nat) (c : Fin 16) : (countCore s e c).cams = s.cams := by
  have h := congrArg State.cams (countCore_frame s e c).rest
  exact h
@[simp] theorem countCore_usb (s : State) (e : Nat) (c : Fin 16) : (countCore s e c).usb = s.usb := by
  have h := congrArg State.usb (countCore_frame s e c).rest
  exact h
@[simp] theorem countCore_pcie (s : State) (e : Nat) (c : Fin 16) : (countCore s e c).pcie = s.pcie := by
  have h := congrArg State.pcie (countCore_frame s e c).rest
  exact h
@[simp] theorem countCore_ep (s : State) (e : Nat) (c : Fin 16) : (countCore s e c).ep = s.ep := by
  have h := congrArg State.ep (countCore_frame s e c).rest
  exact h
@[simp] theorem countCore_mir (s : State) (e : Nat) (c : Fin 16) : (countCore s e c).mir = s.mir := by
  have h := congrArg State.mir (countCore_frame s e c).rest
  exact h
@[simp] theorem countCore_dbg (s : State) (e : Nat) (c : Fin 16) : (countCore s e c).dbg = s.dbg := by
  have h := congrArg State.dbg (countCore_frame s e c).rest
  exact h
@[simp] theorem countCore_time (s : State) (e : Nat) (c : Fin 16) : (countCore s e c).time = s.time := by
  have h := congrArg State.time (countCore_frame s e c).rest
  exact h
@[simp] theorem countCore_fab (s : State) (e : Nat) (c : Fin 16) : (countCore s e c).fab = s.fab := by
  have h := congrArg State.fab (countCore_frame s e c).rest
  exact h
@[simp] theorem countCore_free (s : State) (e : Nat) (c : Fin 16) : (countCore s e c).free = s.free := by
  have h := congrArg State.free (countCore_frame s e c).rest
  exact h
@[simp] theorem countCore_pending (s : State) (e : Nat) (c : Fin 16) : (countCore s e c).pending = s.pending := by
  have h := congrArg State.pending (countCore_frame s e c).rest
  exact h
theorem fl_countCore (s : State) (e : Nat) (c : Fin 16) {f : Fld} (i : Nat) (h : countField f = false) : (countCore s e c).fl f i = s.fl f i :=
  (countCore_frame s e c).fl f i h
theorem fb_countCore (s : State) (e : Nat) (c : Fin 16) {f : Fld} (i : Nat) (h : countField f = false) : (countCore s e c).fb f i = s.fb f i := by
  unfold State.fb
  rw [fl_countCore s e c i h]
@[simp] theorem cpu_countCore (s : State) (e : Nat) (c : Fin 16) (p : Proc) : (countCore s e c).cpu p = s.cpu p := by
  simp [State.cpu]

@[simp] theorem dregs_sh (s : State) (a b c d : Nat) : (dregs s a b c d).sh = s.sh := by
  have h := congrArg State.sh (dregs_frame s a b c d).rest
  exact h
@[simp] theorem dregs_mem (s : State) (a b c d : Nat) : (dregs s a b c d).mem = s.mem := by
  have h := congrArg State.mem (dregs_frame s a b c d).rest
  exact h
@[simp] theorem dregs_cpus (s : State) (a b c d : Nat) : (dregs s a b c d).cpus = s.cpus := by
  have h := congrArg State.cpus (dregs_frame s a b c d).rest
  exact h
@[simp] theorem dregs_caches (s : State) (a b c d : Nat) : (dregs s a b c d).caches = s.caches := by
  have h := congrArg State.caches (dregs_frame s a b c d).rest
  exact h
@[simp] theorem dregs_ket (s : State) (a b c d : Nat) : (dregs s a b c d).ket = s.ket := by
  have h := congrArg State.ket (dregs_frame s a b c d).rest
  exact h
@[simp] theorem dregs_steep (s : State) (a b c d : Nat) : (dregs s a b c d).steep = s.steep := by
  have h := congrArg State.steep (dregs_frame s a b c d).rest
  exact h
@[simp] theorem dregs_dram (s : State) (a b c d : Nat) : (dregs s a b c d).dram = s.dram := by
  have h := congrArg State.dram (dregs_frame s a b c d).rest
  exact h
@[simp] theorem dregs_warm (s : State) (a b c d : Nat) : (dregs s a b c d).warm = s.warm := by
  have h := congrArg State.warm (dregs_frame s a b c d).rest
  exact h
@[simp] theorem dregs_caddy (s : State) (a b c d : Nat) : (dregs s a b c d).caddy = s.caddy := by
  have h := congrArg State.caddy (dregs_frame s a b c d).rest
  exact h
@[simp] theorem dregs_trace (s : State) (a b c d : Nat) : (dregs s a b c d).trace = s.trace := by
  have h := congrArg State.trace (dregs_frame s a b c d).rest
  exact h
@[simp] theorem dregs_pwr (s : State) (a b c d : Nat) : (dregs s a b c d).pwr = s.pwr := by
  have h := congrArg State.pwr (dregs_frame s a b c d).rest
  exact h
@[simp] theorem dregs_sup (s : State) (a b c d : Nat) : (dregs s a b c d).sup = s.sup := by
  have h := congrArg State.sup (dregs_frame s a b c d).rest
  exact h
@[simp] theorem dregs_clk (s : State) (a b c d : Nat) : (dregs s a b c d).clk = s.clk := by
  have h := congrArg State.clk (dregs_frame s a b c d).rest
  exact h
@[simp] theorem dregs_links (s : State) (a b c d : Nat) : (dregs s a b c d).links = s.links := by
  have h := congrArg State.links (dregs_frame s a b c d).rest
  exact h
@[simp] theorem dregs_router (s : State) (a b c d : Nat) : (dregs s a b c d).router = s.router := by
  have h := congrArg State.router (dregs_frame s a b c d).rest
  exact h
@[simp] theorem dregs_inf (s : State) (a b c d : Nat) : (dregs s a b c d).inf = s.inf := by
  have h := congrArg State.inf (dregs_frame s a b c d).rest
  exact h
@[simp] theorem dregs_ports (s : State) (a b c d : Nat) : (dregs s a b c d).ports = s.ports := by
  have h := congrArg State.ports (dregs_frame s a b c d).rest
  exact h
@[simp] theorem dregs_gates (s : State) (a b c d : Nat) : (dregs s a b c d).gates = s.gates := by
  have h := congrArg State.gates (dregs_frame s a b c d).rest
  exact h
@[simp] theorem dregs_disp (s : State) (a b c d : Nat) : (dregs s a b c d).disp = s.disp := by
  have h := congrArg State.disp (dregs_frame s a b c d).rest
  exact h
@[simp] theorem dregs_touch (s : State) (a b c d : Nat) : (dregs s a b c d).touch = s.touch := by
  have h := congrArg State.touch (dregs_frame s a b c d).rest
  exact h
@[simp] theorem dregs_cams (s : State) (a b c d : Nat) : (dregs s a b c d).cams = s.cams := by
  have h := congrArg State.cams (dregs_frame s a b c d).rest
  exact h
@[simp] theorem dregs_usb (s : State) (a b c d : Nat) : (dregs s a b c d).usb = s.usb := by
  have h := congrArg State.usb (dregs_frame s a b c d).rest
  exact h
@[simp] theorem dregs_pcie (s : State) (a b c d : Nat) : (dregs s a b c d).pcie = s.pcie := by
  have h := congrArg State.pcie (dregs_frame s a b c d).rest
  exact h
@[simp] theorem dregs_ep (s : State) (a b c d : Nat) : (dregs s a b c d).ep = s.ep := by
  have h := congrArg State.ep (dregs_frame s a b c d).rest
  exact h
@[simp] theorem dregs_mir (s : State) (a b c d : Nat) : (dregs s a b c d).mir = s.mir := by
  have h := congrArg State.mir (dregs_frame s a b c d).rest
  exact h
@[simp] theorem dregs_dbg (s : State) (a b c d : Nat) : (dregs s a b c d).dbg = s.dbg := by
  have h := congrArg State.dbg (dregs_frame s a b c d).rest
  exact h
@[simp] theorem dregs_time (s : State) (a b c d : Nat) : (dregs s a b c d).time = s.time := by
  have h := congrArg State.time (dregs_frame s a b c d).rest
  exact h
@[simp] theorem dregs_fab (s : State) (a b c d : Nat) : (dregs s a b c d).fab = s.fab := by
  have h := congrArg State.fab (dregs_frame s a b c d).rest
  exact h
@[simp] theorem dregs_free (s : State) (a b c d : Nat) : (dregs s a b c d).free = s.free := by
  have h := congrArg State.free (dregs_frame s a b c d).rest
  exact h
@[simp] theorem dregs_pending (s : State) (a b c d : Nat) : (dregs s a b c d).pending = s.pending := by
  have h := congrArg State.pending (dregs_frame s a b c d).rest
  exact h
theorem fl_dregs (s : State) (a b c d : Nat) {f : Fld} (i : Nat) (h : dregsField f = false) : (dregs s a b c d).fl f i = s.fl f i :=
  (dregs_frame s a b c d).fl f i h
theorem fb_dregs (s : State) (a b c d : Nat) {f : Fld} (i : Nat) (h : dregsField f = false) : (dregs s a b c d).fb f i = s.fb f i := by
  unfold State.fb
  rw [fl_dregs s a b c d i h]
@[simp] theorem cpu_dregs (s : State) (a b c d : Nat) (p : Proc) : (dregs s a b c d).cpu p = s.cpu p := by
  simp [State.cpu]

/-! ### The elements of a field that are set -/

theorem mrange_mdel {α : Type} (m : FMap α) {k lo hi : Nat} (h : ¬ (lo ≤ k ∧ k < hi)) :
    mrange (mdel m k) lo hi = mrange m lo hi := by
  induction m with
  | nil => rfl
  | cons e m ih =>
    obtain ⟨j, v⟩ := e
    unfold mrange at ih ⊢
    by_cases hj : j = k
    · subst hj
      have : (Nat.ble lo j && Nat.blt j hi) = false := by
        simp only [Bool.and_eq_false_iff]
        by_cases h1 : lo ≤ j
        · right
          have : ¬ j < hi := fun h2 => h ⟨h1, h2⟩
          rw [Bool.eq_false_iff, ne_eq, Nat.blt_eq]
          exact this
        · left
          rw [Bool.eq_false_iff, ne_eq, Nat.ble_eq]
          exact h1
      simp [mdel, ih, this]
    · simp [mdel, hj, List.filter_cons, ih]

theorem mrange_mput {α : Type} (m : FMap α) {k lo hi : Nat} (v : α) (h : ¬ (lo ≤ k ∧ k < hi)) :
    mrange (mput m k v) lo hi = mrange m lo hi := by
  have hk : (Nat.ble lo k && Nat.blt k hi) = false := by
    simp only [Bool.and_eq_false_iff]
    by_cases h1 : lo ≤ k
    · right
      have : ¬ k < hi := fun h2 => h ⟨h1, h2⟩
      rw [Bool.eq_false_iff, ne_eq, Nat.blt_eq]
      exact this
    · left
      rw [Bool.eq_false_iff, ne_eq, Nat.ble_eq]
      exact h1
  induction m with
  | nil => simp [mput, mrange, hk]
  | cons e m ih =>
    obtain ⟨j, w⟩ := e
    unfold mrange at ih ⊢
    by_cases h1 : k < j
    · simp [mput, h1, List.filter_cons, hk]
    · by_cases h2 : k = j
      · subst h2
        simp [mput, List.filter_cons, hk]
      · simp [mput, h1, h2, List.filter_cons, ih]

/-- A write of another field leaves the set elements of a field alone. -/
theorem setElems_setF (s : State) {f g : Fld} (i v : Nat) (h : f.id ≠ g.id) : setElems (s.setF f i v) g = setElems s g := by
  have hk : ¬ (g.id * 4096 ≤ fkey f i ∧ fkey f i < g.id * 4096 + 4096) := by
    have h1 := Nat.mod_lt i (by decide : 0 < 4096)
    simp only [fkey]
    omega
  unfold setElems State.setF
  congr 1
  simp only [mset]
  split
  · exact mrange_mdel _ hk
  · exact mrange_mput _ _ hk

end Sys2Proof.Machine
end

