-- ==== Sys2Proof/Laws/RegWrite.lean ====
section
/-! SUPPORT. A write of a whole register: what each field takes. -/

namespace Sys2Proof.Machine

@[simp] theorem Wr.touches_full (q : Requester) (off : Nat) (v : Word) (f : Fld) (h : f.lo ≤ 63) :
    (Wr.full q off v).touches f = true := by simp [Wr.touches, Wr.full, h]

@[simp] theorem Wr.bits_full (q : Requester) (off : Nat) (v : Word) (f : Fld) : (Wr.full q off v).bits f = bitsOf v f := by
  simp [Wr.bits, Wr.full, slice, bitsOf, Fld.width, Nat.shiftRight_eq_div_pow]

@[simp] theorem Wr.q_full (q : Requester) (off : Nat) (v : Word) : (Wr.full q off v).q = q := rfl

/-- The written bits replace the whole field. -/
@[simp] theorem Wr.merge_full (q : Requester) (off : Nat) (v : Word) (f : Fld) (old : Nat) (h : f.lo ≤ f.hi ∧ f.hi ≤ 63) : (Wr.full q off v).merge f old = bitsOf v f := by
  have hr : slice (2 ^ (63 + 1) - 2 ^ 0) f.hi f.lo = 2 ^ f.width - 1 := by
    unfold slice Fld.width
    rw [Nat.shiftRight_eq_div_pow]
    have h1 : f.lo + (f.hi + 1 - f.lo) ≤ 64 := by omega
    obtain ⟨d, hd⟩ := Nat.exists_eq_add_of_le h1
    generalize f.hi + 1 - f.lo = w at *
    generalize f.lo = l at *
    have e : (2 : Nat) ^ (63 + 1) - 2 ^ 0 = 2 ^ l * (2 ^ (w + d) - 1) + (2 ^ l - 1) := by
      have h64 : (2 : Nat) ^ 64 = 2 ^ l * 2 ^ (w + d) := by rw [← pow_add]; congr 1; omega
      have p1 : 0 < (2 : Nat) ^ l := by positivity
      have p2 : 0 < (2 : Nat) ^ (w + d) := by positivity
      rw [Nat.mul_sub, Nat.mul_one, ← h64]
      have : 2 ^ l ≤ 2 ^ l * 2 ^ (w + d) := Nat.le_mul_of_pos_right _ p2
      omega
    rw [e, Nat.mul_add_div (by positivity), Nat.div_eq_of_lt (by have : 0 < (2 : Nat) ^ l := (by positivity); omega), Nat.add_zero]
    have p1 : 0 < (2 : Nat) ^ w := by positivity
    have p2 : 0 < (2 : Nat) ^ d := by positivity
    have e2 : (2 : Nat) ^ (w + d) - 1 = 2 ^ w * (2 ^ d - 1) + (2 ^ w - 1) := by
      rw [pow_add, Nat.mul_sub, Nat.mul_one]
      have : 2 ^ w ≤ 2 ^ w * 2 ^ d := Nat.le_mul_of_pos_right _ p2
      omega
    rw [e2, Nat.mul_add_mod, Nat.mod_eq_of_lt (by omega)]
  have hb : bitsOf v f < 2 ^ f.width := Nat.mod_lt _ (by positivity)
  unfold Wr.merge
  have hr' : slice (2 ^ ((Wr.full q off v).hi + 1) - 2 ^ (Wr.full q off v).lo) f.hi f.lo = 2 ^ f.width - 1 := hr
  simp only [hr', Wr.bits_full, Nat.sub_self, Nat.and_zero, Nat.zero_or]
  rw [Nat.and_two_pow_sub_one_eq_mod, Nat.mod_eq_of_lt hb]

@[simp] theorem Wr.new_full (q : Requester) (off : Nat) (v : Word) (f : Fld) (s : State) (i : Nat)
    (h : f.lo ≤ f.hi ∧ f.hi ≤ 63) : (Wr.full q off v).new f s i = bitsOf v f := Wr.merge_full q off v f _ h

/-- A plain field takes the written bits. -/
theorem putField_rw (s : State) (q : Requester) (off : Nat) (v : Word) (f : Fld) (i u : Nat) (ha : f.acc = .rw)
    (h : f.lo ≤ f.hi ∧ f.hi ≤ 63) : putField s (.full q off v) f i u = s.setF f i (bitsOf v f) := by
  unfold putField
  rw [Wr.touches_full q off v f (by omega), Wr.new_full q off v f s i h]
  simp [ha]

theorem bitsOf_lt (v : Word) (f : Fld) : bitsOf v f < 2 ^ f.width := Nat.mod_lt _ (by positivity)

@[simp] theorem bitsOf_mod (v : Word) (f : Fld) : bitsOf v f % 2 ^ f.width = bitsOf v f := Nat.mod_eq_of_lt (bitsOf_lt v f)

end Sys2Proof.Machine
end

