-- ==== Sys2Proof/WellFormed.lean ====
section
/-! DEFINITION. What the spec's formats fix of a command's operands beyond their types. The machine gives every command a
meaning, ill-formed ones too. -/

namespace Sys2Proof

/-- A packet's payload has at most 4 096 bytes, and as many as LEN says but in a READ and a NACK (spec 13 R276, R278). -/
def Packet.wf (k : Packet) : Bool :=
  decide (k.payload.length ≤ 4096) && (k.cmd == 1 || k.cmd == 12 || k.payload.length == k.len.toNat)

/-- The operands have the sizes that the spec gives what they carry: packets as R276, eight temperature sensors (17 R369),
eight joystick inputs (17 R373), 512 bytes of EDID and DPCD (21), a 48-byte nonce (16 R353), at most eight noise readings
(21 R445), a program of at most 64 KiB to countersign (16 R361), a register write on its size's boundary (01 R29). -/
def Instr.wf : Instr → Bool
  | .packetForward _ k | .packetTailArrival _ k _ | .read _ k | .readResp _ k | .write _ k | .writeAck _ k | .atomic _ k
  | .atomicResp _ k | .message _ k | .event _ k | .mirrorFabricHeartbeat _ k | .nack _ k | .mgmtEnumerate _ k
  | .mgmtAssign _ k | .mgmtRouteWrite _ k | .mgmtRouteRead _ k | .mgmtStatusRead _ k | .mgmtQuarantine _ k
  | .mgmtRelease _ k | .mgmtRetrain _ k | .mgmtReply _ k | .mirrorLines k | .mirrorCopy k | .mirrorCkpt k | .mirrorCommit k
  | .mirrorCommitAck k | .mirrorHeartbeat k | .mirrorOffer k | .mirrorHandoverAck k => k.wf
  | .borRelease _ _ temps | .porRelease _ _ temps | .temperatureSample temps => temps.length == 8
  | .joystickSample samples => samples.length == 8
  | .displayLinkTrainingDone _ _ edid => edid.length == 512
  | .mbHello _ nonce => nonce.length == 48
  | .touchScanEnd _ _ noises => decide (noises.length ≤ 8)
  | .countersign _ _ _ size => decide (size ≤ 65536)
  | .registerWrite _ off size _ => if size = 0 then off.toNat % 4 == 0 else off.toNat % 8 == 0
  | _ => true

end Sys2Proof
end

