-- ==== Sys2Proof/Tests/Slice0.lean ====
section
/-! SUPPORT. Tests: what `WellFormed` refuses, single steps, and for each statement a state and operands that meet its
hypotheses. -/

namespace Sys2Proof.Tests

open Sys2Proof.Machine

set_option Elab.async false

/-! ### States -/

/-- `s` with fields put. -/
def put (s : State) (l : List (Fld × Nat × Nat)) : State := l.foldl (fun s e => s.setF e.1 e.2.1 e.2.2) s

/-- `s` with a processor changed. -/
def with_ (s : State) (p : Proc) (f : Cpu → Cpu) : State := s.setCpu p (f (s.cpu p))

def core0 : Proc := .core 0
def inf0 : Proc := .infuser 0
def req0 : Requester := .core 0

/-- The device up: power good, every domain on, every unit ready, the Strainers of the scratch SRAM and of DRAM channel 0 open, the Caddy running, core 0
at the machine level and Infuser 0 running. -/
def up : State :=
  let s : State := put { State.reset with
      sup := { State.reset.sup with por := false, mainUp := true, bkpUp := true, pwrEn := 0xFF },
      caddy := { State.reset.caddy with phase := .running, loaded := true },
      dram := { State.reset.dram with usable := usableBytes 0 } }
    [(F.KT_READY_READY, 0, 2 ^ 64 - 1), (F.KT_READY_READY, 1, 2 ^ 64 - 1), (F.KT_READY_READY, 2, 2 ^ 64 - 1),
      (F.KT_READY_READY, 3, 2 ^ 64 - 1), (F.KT_SUPPLY_PG, 0, 0xFF), (F.KT_SUPPLY_MAIN_OK, 0, 1),
      (F.ST_SRCTL_VALID, 0, 1), (F.ST_SRCTL_RD, 0, 1), (F.ST_SRCTL_WR, 0, 1), (F.ST_SRCTL_EX, 0, 1), (F.ST_SRCTL_PANY, 0, 1),
      (F.ST_SRCTL_CLASS, 0, 0xFF), (F.ST_SRRANGE_BASE, 0, 0xC00000), (F.ST_SRRANGE_LIMIT, 0, 0xC003FF), (F.MC_STAT_TRAINED, 0, 15),
      (F.ST_DRCTL_VALID, 0, 1), (F.ST_DRCTL_RD, 0, 1), (F.ST_DRCTL_WR, 0, 1), (F.ST_DRCTL_EX, 0, 1), (F.ST_DRCTL_PANY, 0, 1),
      (F.ST_DRCTL_CLASS, 0, 0xFF), (F.ST_DRRANGE_LIMIT, 0, 0xFFFFF)]
  let s := with_ s core0 fun k => { k with run := .running }
  with_ s inf0 fun k => { k with run := .running }

/-- `s` with core 0 in the machine's ring `r` at bank 0. -/
def atRing (s : State) (r : BitVec 2) : State :=
  with_ s core0 fun k => { k with st := { k.st with ml := false, ring := r, bank := 0, ipl := 0 } }

/-- `s` with register `r` of core 0 or Infuser 0 set. -/
def regs (s : State) (p : Proc) (l : List (RegNo × Word)) : State := l.foldl (fun s e => s.setG p e.1 e.2) s

/-! ### What shows a hypothesis -/

/-- The unit at a local offset answers. -/
def answers (s : State) (off : Nat) : Bool := match gateOff s off with | .ok _ _ => true | _ => false

theorem opens {s : State} {off : Nat} (h : answers s off = true) : openAt s off := by
  unfold answers at h
  unfold openAt
  cases hg : gateOff s off with
  | ok u s1 => exact ⟨s1, rfl⟩
  | fail c s1 => rw [hg] at h; cases h
  | stall s1 => rw [hg] at h; cases h

/-- Nothing waits to act at an instruction of `p`. -/
def plainB (p : Proc) (s : State) : Bool :=
  let k := s.cpu p
  decide (k.lc = [] ∧ k.pendIe = none ∧ k.pendIpl = none ∧ k.stepBank = none ∧ setElems s F.PC_EVT_EN = [] ∧ k.wait = .none)

/-- `p` executes what is presented to it. -/
def readyB (p : Proc) (s : State) : Bool :=
  let k := s.cpu p
  decide (mwf {} s.cpus = true ∧ k.run = .running ∧ clockStopped s p = false ∧ k.mustTake = false ∧ k.wait = .none) &&
    (match p with | .core c => !debugActs s c | _ => true)

theorem plain {p : Proc} {s : State} {pc : Word} (h : plainB p s = true) : Plain p s pc := by
  have h := of_decide_eq_true h
  exact ⟨fun l _ => .inl (by rw [h.1]; rfl), h.2.1, h.2.2.1, h.2.2.2.1, h.2.2.2.2.1, h.2.2.2.2.2⟩

theorem ready {p : Proc} {s : State} (h : readyB p s = true) : Ready p s := by
  have h := Bool.and_eq_true_iff.mp h
  have h1 := of_decide_eq_true h.1
  exact ⟨h1.1, h1.2.1, h1.2.2.1, h1.2.2.2.1, h1.2.2.2.2, by
    cases p with
    | core c => simpa [noDebug] using h.2
    | infuser i => trivial
    | caddy => trivial⟩

theorem calm {p : Proc} {s : State} (h : (readyB p s && plainB p s) = true) : Calm p s :=
  have h := Bool.and_eq_true_iff.mp h
  { ready h.1 with plain := plain h.2 }

theorem enter {p : Proc} {s : State} (h : neverMerges s p = false) : canEnter p s := .inl h

theorem fpRuns {c : Fin 16} {s : State} (h : (let k := s.cpu (.core c)
    k.st.fpe && !(k.bank k.st.bank.toNat).owes) = true) : fpReady c s := by
  simpa [fpReady] using h

/-- A result is good, and `P` holds of what it holds. -/
def tryX {α : Type} (r : XRes α) (P : α → State → Bool) : Bool := match r with | .ok a t => P a t | _ => false
def tryR {α : Type} (r : Res α) (P : α → State → Bool) : Bool := match r with | .ok a t => P a t | _ => false
def failR {α : Type} (r : Res α) (e : Nat) (P : State → Bool) : Bool := match r with | .fail e' t => e' == e && P t | _ => false
def tryI (r : IRes) (P : State → Bool) : Bool := match r with | .done t => P t | _ => false
def tryO {α : Type} (r : Option α) (P : α → Bool) : Bool := match r with | some a => P a | none => false

theorem okX {α : Type} {r : XRes α} {P : α → State → Bool} (h : tryX r P = true) : ∃ a t, r = .ok a t ∧ P a t = true := by
  cases r with
  | ok a t => exact ⟨a, t, rfl, h⟩
  | exc e s => cases h
  | stall s => cases h

theorem okR {α : Type} {r : Res α} {P : α → State → Bool} (h : tryR r P = true) : ∃ a t, r = .ok a t ∧ P a t = true := by
  cases r with
  | ok a t => exact ⟨a, t, rfl, h⟩
  | fail e s => cases h
  | stall s => cases h

theorem okI {r : IRes} {P : State → Bool} (h : tryI r P = true) : ∃ t, r = .done t ∧ P t = true := by
  cases r with
  | done t => exact ⟨t, rfl, h⟩
  | _ => cases h

theorem okO {α : Type} {r : Option α} {P : α → Bool} (h : tryO r P = true) : ∃ a, r = some a ∧ P a = true := by
  cases r with
  | some a => exact ⟨a, rfl, h⟩
  | none => cases h

/-- No comparator of `p` can act. -/
def quietB (p : Proc) (s : State) : Bool := match p with | .core c => !debugActs s c | _ => true

theorem quiet {p : Proc} {s : State} (h : quietB p s = true) : noDebug p s := by
  cases p with
  | core c => simpa [noDebug, quietB] using h
  | infuser i => trivial
  | caddy => trivial

/-- No fault, no comparator, and `P` of the places and of the state left. -/
def reachP (p : Proc) (P : List (XAddr × Seg) → State → Bool) (fs : List Found) (s1 : State) : Bool :=
  (firstFault fs).isNone && (quietB p s1 && P (founds fs) s1)

/-- An access reaches its places, and `P` holds of them and of the state left. -/
theorem reach {p : Proc} {s : State} {ea : Word} {n chk : Nat} {P : List (XAddr × Seg) → State → Bool}
    (h : tryX (resolveSegs s p n chk chk (heldPlaces s p) (segs ea n)) (reachP p P) = true) :
    ∃ xs s1, Reaches p s ea n chk xs s1 ∧ P xs s1 = true := by
  obtain ⟨fs, s1, hr, hp⟩ := okX h
  simp only [reachP, Bool.and_eq_true, Option.isNone_iff_eq_none] at hp
  exact ⟨founds fs, s1, ⟨fs, hr, hp.1, rfl, quiet hp.2.1⟩, hp.2.2⟩

/-! ### Witnesses: the instructions -/

/-- Operands where arithmetic overflows: the least 64-bit and 32-bit numbers, -1, 1, and 2^32. -/
def arith : State := regs up core0 [(1, 0x8000000000000000), (2, -1), (3, 0x80000000), (4, 0xFFFFFFFF), (5, 1), (6, 0x100000000)]

/-- The same with both arithmetic traps on. -/
def arithTraps : State := with_ arith core0 fun k => { k with st := { k.st with ovt := true, dzt := true } }

theorem witness_IntegerResults : Calm core0 arith ∧ Calm inf0 up ∧ arith.g core0 2 ≠ 0 ∧
    ((arith.g core0 2).truncate 32 : BitVec 32) ≠ 0 := by
  repeat' first | apply And.intro | decide +kernel | exact calm (by decide +kernel)

theorem witness_SignedOverflow :
    (Calm core0 arith ∧ (arith.cpu core0).st.ovt = false ∧ arith.g core0 2 ≠ 0 ∧ arith.g core0 4 ≠ 0) ∧
    (let s := arithTraps; let g := fun r : RegNo => s.g core0 r; let w := fun r : RegNo => ((g r).truncate 32 : BitVec 32)
     Calm core0 s ∧ (s.cpu core0).st.ovt = true ∧ canEnter core0 s ∧ outside 64 ((g 1).toInt + (g 2).toInt) = true ∧
     outside 64 ((g 1).toInt + ((-1 : BitVec 16).signExtend 64).toInt) = true ∧
     outside 32 ((w 3).toInt + (w 4).toInt) = true ∧ outside 64 ((g 1).toInt - (g 5).toInt) = true ∧
     outside 32 ((w 3).toInt - (w 5).toInt) = true ∧ g 1 = BitVec.intMin 64 ∧ w 3 = BitVec.intMin 32 ∧ g 2 = -1 ∧ w 4 = -1) := by
  dsimp only
  repeat' first | apply And.intro | decide +kernel | exact calm (by decide +kernel) | exact enter (by decide +kernel)

theorem witness_DivisionByZero :
    (Calm core0 arith ∧ arith.g core0 0 = 0 ∧ (arith.cpu core0).st.dzt = false ∧
      ((arith.g core0 6).truncate 32 : BitVec 32) = 0) ∧
    (Calm core0 arithTraps ∧ arithTraps.g core0 31 = 0 ∧ (arithTraps.cpu core0).st.dzt = true ∧ canEnter core0 arithTraps ∧
      ((arithTraps.g core0 6).truncate 32 : BitVec 32) = 0) := by
  repeat' first | apply And.intro | decide +kernel | exact calm (by decide +kernel) | exact enter (by decide +kernel)

theorem witness_RegisterG31 : (30 : RegNo) ≠ 31 := by decide

theorem witness_BranchesAndJumps : Calm core0 arith ∧ (arith.g core0 2 + (1 : BitVec 16).signExtend 64).toNat % 4 = 0 ∧
    (arith.g core0 2 + (0 : BitVec 16).signExtend 64).toNat % 4 ≠ 0 ∧ canEnter core0 arith := by
  repeat' first | apply And.intro | decide +kernel | exact calm (by decide +kernel) | exact enter (by decide +kernel)

/-- Core 0 at the end of its loops' bodies: `n0` and `n1` are the counts left, and level 1 ends here if `e1`. -/
def looping (n0 n1 : Word) (e1 : Bool) : State := with_ up core0 fun k =>
  { k with lc := mset 0 (mset 0 [] 0 n0) 1 n1, le := mset 0 (mset 0 [] 0 k.pc) 1 (if e1 then k.pc else 4) }

theorem witness_HardwareLoops :
    (Calm core0 arith ∧ (1 : RegNo).val ≤ 1 ∧ 2 ≤ (2 : BitVec 16).toInt ∧ 1 < (2 : RegNo).val ∧ (1 : BitVec 16).toInt < 2 ∧
      canEnter core0 arith) ∧
    (∀ s ∈ [looping 2 2 true, looping 2 1 true, looping 1 1 true, looping 1 0 true, looping 2 1 false, looping 0 1 false],
      Ready core0 s ∧ Plain core0 (s.setCpu core0 { s.cpu core0 with lc := [] }) (s.cpu core0).pc ∧
      outside 64 ((s.g core0 0).toInt + ((0 : BitVec 16).signExtend 64).toInt) = false) ∧
    (let ends := fun (s : State) (n : Nat) => mget 0 (s.cpu core0).lc n ≠ 0 ∧ (s.cpu core0).pc = mget 0 (s.cpu core0).le n
     let lc := fun (s : State) (n : Nat) => mget 0 (s.cpu core0).lc n
     (ends (looping 2 2 true) 1 ∧ 1 < (lc (looping 2 2 true) 1).toNat) ∧
     (ends (looping 0 1 true) 1 ∧ lc (looping 0 1 true) 1 = 1 ∧ ¬ ends (looping 0 1 true) 0) ∧
     (¬ ends (looping 2 1 false) 1 ∧ ends (looping 2 1 false) 0 ∧ 1 < (lc (looping 2 1 false) 0).toNat) ∧
     (¬ ends (looping 1 0 true) 1 ∧ ends (looping 1 0 true) 0 ∧ lc (looping 1 0 true) 0 = 1) ∧
     (ends (looping 2 1 true) 1 ∧ lc (looping 2 1 true) 1 = 1 ∧ ends (looping 2 1 true) 0 ∧ 1 < (lc (looping 2 1 true) 0).toNat) ∧
     (¬ ends (looping 0 1 false) 1 ∧ ¬ ends (looping 0 1 false) 0)) := by
  refine ⟨?_, ?_, ?_⟩
  · repeat' first | apply And.intro | decide +kernel | exact calm (by decide +kernel) | exact enter (by decide +kernel)
  · simp only [List.forall_mem_cons, List.not_mem_nil, false_imp_iff, implies_true, and_true]
    repeat' first | apply And.intro | decide +kernel | exact ready (by decide +kernel) | exact plain (by decide +kernel)
  · dsimp only; decide +kernel

/-- Core 0 at the machine level with FP on; g1 is in the scratch SRAM, g2 there on an odd address 7 below a line's end, g4 a
register of the Kettle. -/
def scratchAt : State :=
  with_ (regs up core0 [(1, 0xC00000000), (2, 0xC00000039), (3, 0x1122334455667788), (4, 0xE00000008)]) core0 fun k =>
    { k with st := { k.st with fpe := true } }

/-- What a load of `n` bytes at `ea` must meet. -/
def LoadsAt (s : State) (ea : Word) (n align : Nat) : Prop :=
  ∃ s1 t xs parts v, ea.toNat % align = 0 ∧ Reaches core0 s ea n aLoad xs s1 ∧ sbPosted (s1.cpu core0).sb = false ∧
    sbPartly (s1.cpu core0).sb xs = false ∧ (∀ x ∈ xs, isDevice x.1.rtype = true → (s1.cpu core0).sb = []) ∧ loadParts s1 core0 xs = .ok parts t ∧
    partsValue parts = some v ∧ v < 256 ^ n ∧ Plain core0 t (s.cpu core0).pc

/-- What a store of `n` bytes of value `v` at `ea` must meet, on a page that is Device-Strict or not. -/
def StoresAt (s : State) (ea : Word) (n align v : Nat) (strict : Bool) : Prop :=
  ∃ s1 t xs, ea.toNat % align = 0 ∧ Reaches core0 s ea n aStore xs s1 ∧
    (∀ x ∈ xs, isLocal x.1.place = true → mirrorStalls s1 (x.1.place / 64) = false) ∧ Plain core0 t (s.cpu core0).pc ∧
    (strict = false → (∀ x ∈ xs, x.1.rtype ≠ .deviceStrict) ∧ pushStores core0 v xs s1 = some t) ∧
    (strict = true → (∃ x ∈ xs, x.1.rtype = .deviceStrict) ∧ (s1.cpu core0).sb = [] ∧ strictStore core0 v xs s1 = .done t)

def loadsP (n : Nat) (xs : List (XAddr × Seg)) (s1 : State) : Bool :=
  !sbPosted (s1.cpu core0).sb && !sbPartly (s1.cpu core0).sb xs && (decide ((s1.cpu core0).sb = []) && tryX (loadParts s1 core0 xs) fun ps t =>
    plainB core0 t && tryO (partsValue ps) fun v => decide (v < 256 ^ n))

def storesP (v : Nat) (strict : Bool) (xs : List (XAddr × Seg)) (s1 : State) : Bool :=
  decide ((∀ x ∈ xs, isLocal x.1.place = true → mirrorStalls s1 (x.1.place / 64) = false) ∧
      (strict = false → ∀ x ∈ xs, x.1.rtype ≠ .deviceStrict) ∧
      (strict = true → (∃ x ∈ xs, x.1.rtype = .deviceStrict) ∧ (s1.cpu core0).sb = [])) &&
    if strict then tryI (strictStore core0 v xs s1) (plainB core0) else tryO (pushStores core0 v xs s1) (plainB core0)

theorem loads {s : State} {ea : Word} {n align : Nat} (ha : ea.toNat % align = 0)
    (h : tryX (resolveSegs s core0 n aLoad aLoad (heldPlaces s core0) (segs ea n)) (reachP core0 (loadsP n)) = true) : LoadsAt s ea n align := by
  obtain ⟨xs, s1, hr, hp⟩ := reach h
  simp only [loadsP, Bool.and_eq_true, decide_eq_true_eq, Bool.not_eq_true'] at hp
  obtain ⟨ps, t, hl, ht⟩ := okX hp.2.2
  simp only [Bool.and_eq_true] at ht
  obtain ⟨v, hv, hlt⟩ := okO ht.2
  exact ⟨s1, t, xs, ps, v, ha, hr, hp.1.1, hp.1.2, fun _ _ _ => hp.2.1, hl, hv, of_decide_eq_true hlt, plain ht.1⟩

theorem stores {s : State} {ea : Word} {n align v : Nat} {strict : Bool} (ha : ea.toNat % align = 0)
    (h : tryX (resolveSegs s core0 n aStore aStore (heldPlaces s core0) (segs ea n)) (reachP core0 (storesP v strict)) = true) :
    StoresAt s ea n align v strict := by
  obtain ⟨xs, s1, hr, hp⟩ := reach h
  simp only [storesP, Bool.and_eq_true, decide_eq_true_eq] at hp
  obtain ⟨⟨hm, hn, hs⟩, hp⟩ := hp
  cases strict with
  | true =>
    obtain ⟨t, ht, hpl⟩ := okI hp
    exact ⟨s1, t, xs, ha, hr, hm, plain hpl, fun h => Bool.noConfusion h, fun _ => ⟨(hs rfl).1, (hs rfl).2, ht⟩⟩
  | false =>
    obtain ⟨t, ht, hpl⟩ := okO hp
    exact ⟨s1, t, xs, ha, hr, hm, plain hpl, fun _ => ⟨hn rfl, ht⟩, fun h => Bool.noConfusion h⟩

theorem witness_LoadsAndStores : Calm core0 scratchAt ∧ fpReady 0 scratchAt ∧
    LoadsAt scratchAt (scratchAt.g core0 1 + (0 : BitVec 16).signExtend 64) 8 8 ∧
    LoadsAt scratchAt (scratchAt.g core0 2 + (0 : BitVec 16).signExtend 64) 16 1 ∧
    StoresAt scratchAt (scratchAt.g core0 1 + (-8 : BitVec 16).signExtend 64 + 8) 8 8 ((scratchAt.g core0 3).toNat % 256 ^ 8) false ∧
    StoresAt scratchAt (scratchAt.g core0 2 + (0 : BitVec 16).signExtend 64) 16 1 ((scratchAt.gv core0 3).toNat % 256 ^ 16) false ∧
    StoresAt scratchAt (scratchAt.g core0 4 + (0 : BitVec 16).signExtend 64) 8 8 ((scratchAt.g core0 0).toNat % 256 ^ 8) true := by
  exact ⟨calm (by decide +kernel), fpRuns (by decide +kernel), loads (by decide +kernel) (by decide +kernel),
    loads (by decide +kernel) (by decide +kernel), stores (by decide +kernel) (by decide +kernel),
    stores (by decide +kernel) (by decide +kernel), stores (by decide +kernel) (by decide +kernel)⟩

/-- Core 0 with FP on and an odd address in g1. -/
def oddAt : State := with_ (regs up core0 [(1, 0xC00000001)]) core0 fun k => { k with st := { k.st with fpe := true } }

theorem witness_AlignmentTraps : Calm core0 oddAt ∧ canEnter core0 oddAt ∧ fpReady 0 oddAt ∧
    (∀ n ∈ [2, 4, 8], (oddAt.g core0 1 + (0 : BitVec 16).signExtend 64).toNat % n ≠ 0) ∧
    (∀ n ∈ [4, 8], (oddAt.g core0 1).toNat % n ≠ 0) :=
  ⟨calm (by decide +kernel), enter (by decide +kernel), fpRuns (by decide +kernel), by decide +kernel, by decide +kernel⟩

/-- What an atomic operation of `n` bytes at `ea` must meet, when it stores `new` in place of 0. -/
def AtomicAt (s : State) (ea : Word) (n : Nat) (f : Nat → Option Nat) : Prop :=
  ∃ s1 t x g xs old, ea.toNat % n = 0 ∧ Reaches core0 s ea n aAtomic ((x, g) :: xs) s1 ∧
    atomicAt s1 core0 x n f = .ok old t ∧ old < 256 ^ n ∧ Plain core0 t (s.cpu core0).pc

def atomicP (n : Nat) (f : Nat → Option Nat) (xs : List (XAddr × Seg)) (s1 : State) : Bool :=
  match xs with
  | (x, _) :: _ => tryR (atomicAt s1 core0 x n f) fun old t => decide (old < 256 ^ n) && plainB core0 t
  | [] => false

theorem atomics {s : State} {ea : Word} {n : Nat} {f : Nat → Option Nat} (ha : ea.toNat % n = 0)
    (h : tryX (resolveSegs s core0 n aAtomic aAtomic (heldPlaces s core0) (segs ea n)) (reachP core0 (atomicP n f)) = true) : AtomicAt s ea n f := by
  obtain ⟨xs, s1, hr, hp⟩ := reach h
  cases xs with
  | nil => cases hp
  | cons x xs =>
    obtain ⟨old, t, ht, hq⟩ := okR hp
    have hq := Bool.and_eq_true_iff.mp hq
    exact ⟨s1, t, x.1, x.2, xs, old, ha, hr, ht, of_decide_eq_true hq.1, plain hq.2⟩

theorem witness_AtomicsComplete : Calm core0 scratchAt ∧ (scratchAt.cpu core0).sb = [] ∧
    AtomicAt scratchAt (scratchAt.g core0 1) 8 (fun old => if old = 0 then some 5 else none) ∧
    AtomicAt scratchAt (scratchAt.g core0 1) 4 (fun old => if old = 7 then some 5 else none) ∧
    AtomicAt scratchAt (scratchAt.g core0 1) 8 (fun old => some ((old + 5) % 256 ^ 8)) ∧
    AtomicAt scratchAt (scratchAt.g core0 1) 4 (fun _ => some 5) :=
  ⟨calm (by decide +kernel), by decide +kernel, atomics (by decide +kernel) (by decide +kernel),
    atomics (by decide +kernel) (by decide +kernel), atomics (by decide +kernel) (by decide +kernel),
    atomics (by decide +kernel) (by decide +kernel)⟩

/-- A store-buffer entry of line 4 that holds its first eight bytes, and a buffer of 16 entries. -/
def entry4 : SbEntry := { line := 4, rtype := .normalWb, stores := [{ off := 0, size := 8, val := 0x1122334455667788, va := 256 }] }
def buffered (es : List SbEntry) : State := with_ up core0 fun k => { k with sb := es }

theorem witness_StoreBuffer : sbForward [entry4] 256 8 = .all 0x1122334455667788 ∧ sbForward [entry4] 256 12 = .part ∧ 0 < 8 ∧
    isDevice RType.normalWb = false ∧ ((buffered [entry4]).cpu core0).sb = [] ++ [entry4] ∧
    (entry4.line = 4 ∧ entry4.rtype = .normalWb ∧ entry4.begun = false ∧ mergesType .normalWb = true ∧
      neverMerges (buffered [entry4]) core0 = false) ∧
    ((buffered []).cpu core0).sb.length < 16 ∧ 16 ≤ ((buffered (List.replicate 16 entry4)).cpu core0).sb.length ∧
    entry4.line ≠ 5 := by
  decide +kernel

/-- Infuser 0 with the address of its SRAM's last doubleword in g1, and a store to it in the buffer or not. -/
def infAt (sb : List SbEntry) : State := with_ (regs up inf0 [(1, 0x100000FFF8)]) inf0 fun k => { k with sb := sb }
def infEntry : SbEntry :=
  { line := (0xE02100000 + 0xFFF8) / 64, rtype := .normalWb, stores := [{ off := 56, size := 8, val := 5, va := 0x100000FFF8 }] }

theorem witness_InfuserMemory :
    (∀ sb ∈ [[], [infEntry]], ((infAt sb).g inf0 1 + (0 : BitVec 16).signExtend 64).toNat = 2 ^ 36 + 0xFFF8 ∧ 0xFFF8 < 0x10000 ∧
      mirrorStalls (infAt sb) ((0xE02100000 + 0x10000 * 0 + 0xFFF8) / 64) = false ∧ countersigned (infAt sb) 0 = false) ∧
    Calm inf0 (infAt []) ∧ ((infAt []).cpu inf0).sb = [] ∧ 0xFFF8 % 8 = 0 ∧
    ((infAt [infEntry]).cpu inf0).sb = [infEntry] ∧ (0xE02100000 + 0x10000 * 0 + 0xFFF8) % 64 + 8 ≤ 64 := by
  repeat' (first | decide +kernel | exact calm (by decide +kernel) | apply And.intro)

/-- Core 0 with a WRITE waiting, and with one refused. -/
def owing : State := with_ scratchAt core0 fun k => { k with wslots := [⟨0, 0, 0, []⟩] }
def refusedOnce : State := with_ scratchAt core0 fun k => { k with refusals := 1, refAddr := 8, refCode := 3 }

/-- A place is resolved for maintenance and found good, and `P` holds of it and of the state left. -/
theorem maintained {s : State} {ea : Word} {P : XAddr → State → Bool} (h : tryX (resolveP s core0 ea aLoad aAtomic) P = true) :
    ∃ x s1, resolveP s core0 ea aLoad aAtomic = .ok x s1 ∧ P x s1 = true := by
  obtain ⟨x, s1, hx, hp⟩ := okX h
  exact ⟨x, s1, hx, hp⟩

theorem witness_FencesAndMaintenance :
    (Calm core0 scratchAt ∧ (scratchAt.cpu core0).sb = [] ∧ (scratchAt.cpu core0).wslots = [] ∧
      (scratchAt.cpu core0).refusals = 0 ∧ ringOf (scratchAt.cpu core0) = 0) ∧
    (Calm core0 (buffered [entry4]) ∧ ((buffered [entry4]).cpu core0).sb ≠ []) ∧
    (Calm core0 owing ∧ (owing.cpu core0).wslots ≠ []) ∧
    (Calm core0 refusedOnce ∧ (refusedOnce.cpu core0).sb = [] ∧ (refusedOnce.cpu core0).wslots = [] ∧
      (refusedOnce.cpu core0).refusals ≠ 0 ∧ (refusedOnce.cpu core0).st.exl = false ∧
      ((refusedOnce.cpu core0).bank (refusedOnce.cpu core0).st.bank.toNat).owes = false) ∧
    (Calm inf0 up ∧ (up.cpu inf0).sb = []) ∧
    (∃ x s1, resolveP scratchAt core0 (scratchAt.g core0 0 + (0x40 : BitVec 16).signExtend 64) aLoad aAtomic = .ok x s1 ∧
      (decide (checkPlace s1 core0 x 1 aLoad = none ∧ isDevice x.rtype = false ∧ l3Holds (x.place / 64) = true ∧
        isLocal x.place = true ∧ ∀ e ∈ (s1.cpu core0).sb, e.line ≠ x.place / 64) && plainB core0 (lineToL2 s1 0 (x.place / 64)) &&
        plainB core0 (cleanLine s1 (x.place / 64)) && plainB core0 (discardLine s1 (x.place / 64))) = true) ∧
    (∃ x s1, resolveP (buffered [entry4]) core0 (256 : Word) aLoad aAtomic = .ok x s1 ∧
      decide (checkPlace s1 core0 x 1 aLoad = none ∧ ∃ e ∈ (s1.cpu core0).sb, e.line = x.place / 64) = true) ∧
    (∃ x s1, resolveP scratchAt core0 (scratchAt.g core0 4 + (0 : BitVec 16).signExtend 64) aLoad aAtomic = .ok x s1 ∧
      (isDevice x.rtype && plainB core0 s1) = true) ∧
    (∃ e, setWay 0 (scratchAt.g core0 0).toNat = some e ∧
      tryR (setWayGate scratchAt 0 e.1 e.2.1) (fun _ s1 => plainB core0 (setWayOps s1 0 e.1 e.2.1 e.2.2 true true)) = true) ∧
    setWay 0 (scratchAt.g core0 3).toNat = none ∧ Calm core0 (atRing up 3) ∧ ringOf ((atRing up 3).cpu core0) ≠ 0 := by
  repeat' (first | decide +kernel | exact calm (by decide +kernel) | exact maintained (by decide +kernel)
                  | exact okO (by decide +kernel) | apply And.intro)

theorem witness_TlbInvalidation :
    Calm core0 scratchAt ∧ ringOf (scratchAt.cpu core0) = 0 ∧ Calm core0 (atRing up 3) ∧ ringOf ((atRing up 3).cpu core0) ≠ 0 ∧
    Calm inf0 up ∧ canEnter inf0 up := by
  repeat' (first | decide +kernel | exact calm (by decide +kernel) | exact enter (by decide +kernel) | apply And.intro)

theorem witness_ControlRegisters :
    (let may := fun (s : State) (n : Nat) (r : Ctl) (w b : Bool) =>
       ctlFor core0 (s.cpu core0) n = some r ∧ ctlAllowed core0 (s.cpu core0) r w = b
     let writes := fun (n : Nat) (r : Ctl) => may scratchAt n r true true ∧ Plain core0 (ctlWrite scratchAt core0 r 3) (scratchAt.cpu core0).pc
     (Calm core0 scratchAt ∧ fpReady 0 scratchAt ∧ Calm core0 (atRing up 3) ∧ canEnter core0 (atRing up 3) ∧ Calm core0 (atRing up 0)) ∧
     may scratchAt 0x000 .status false true ∧ may scratchAt 0x030 .fpstat false true ∧
     ctlFor core0 (scratchAt.cpu core0) 0x005 = none ∧ may (atRing up 3) 0x010 .gatebase false false ∧
     ((atRing up 3).cpu core0).st.ml = false ∧ ((atRing up 3).cpu core0).st.ring ≠ 0 ∧ ((atRing up 0).cpu core0).st.ring = 0 ∧
     may (atRing up 3) 0x010 .gatebase true false ∧ may (atRing up 3) 0x000 .status true true ∧
     may (atRing up 0) 0x000 .status true true ∧ may scratchAt 0x000 .status true true ∧ (scratchAt.cpu core0).st.ml = true ∧
     may scratchAt 0x030 .fpstat true true ∧
     (∀ e ∈ ([(0x018, .mepc), (0x010, .gatebase), (0x011, .vecbase), (0x020, .ptroot), (0x021, .asid), (0x022, .partition),
        (0x045, .ls 1), (0x046, .le 1), (0x050, .cycle), (0x051, .epochno)] : List (Nat × Ctl)),
        writes e.1 e.2) ∧
     may scratchAt 0x044 (.lc 1) true true ∧ Plain core0 (ctlWrite scratchAt core0 (.lc 1) 0) (scratchAt.cpu core0).pc ∧
     may scratchAt 0x012 .mvec true true ∧ (scratchAt.cpu core0).mvec.getLsbD 0 = false ∧
     ((with_ scratchAt core0 fun k => { k with mvec := 1 }).cpu core0).mvec.getLsbD 0 = true) := by
  dsimp only
  simp only [List.forall_mem_cons, List.not_mem_nil, false_imp_iff, implies_true, and_true]
  repeat' (first | decide +kernel | exact calm (by decide +kernel) | exact fpRuns (by decide +kernel)
                  | exact enter (by decide +kernel) | exact plain (by decide +kernel) | apply And.intro)

/-- Core 0 or Infuser 0 with EXL set. -/
def inExc (s : State) (p : Proc) : State := with_ s p fun k => { k with st := { k.st with exl := true } }

/-- Core 0 at ring 0 whose bank owes a frame at 0x100, in a page of the scratch SRAM that is writable or not. -/
def owesFrame (w : Bool) : State :=
  with_ (atRing up 0) core0 fun k => { k with
    banks := mset {} [] 0 { owes := true, fres := true, frameAt := 0x100 }
    tlbD := [⟨0, 12, 0, 0, true, 0x3FFFFC00000000, 3, w, false, false, .normalWb, 0, true⟩] }

/-- Core 0 in a bank with FPD = 1 and g30 as given. -/
def dirtyFp (s : State) (b : BitVec 4) (sp : Word) : State :=
  with_ s core0 fun k => { k.wr b.toNat 30 sp with st := { k.st with fpd := true, bank := b } }

theorem witness_ExceptionEntries :
    (let e : Exc := ⟨3, 0xFFFF, some 8⟩
     let st := fun (s : State) => (s.cpu core0).st
     e.cause < 256 ∧ e.sub < 65536 ∧ e.eaddr = some 8 ∧
     (st (atRing up 3)).ml = false ∧ (st (atRing up 3)).exl = false ∧ (st (atRing up 3)).legacy = false ∧
     (((atRing up 3).cpu core0).bank 0).owes = false ∧ (st (atRing up 3)).fpd = false ∧
     (st up).ml = true ∧ (st up).exl = false ∧
     (st (inExc (atRing up 3) core0)).ml = false ∧ (st (inExc (atRing up 3) core0)).exl = true ∧
     (st (inExc up core0)).ml = true ∧ (st (inExc up core0)).exl = true ∧
     (up.cpu inf0).st.exl = false ∧ ((inExc up inf0).cpu inf0).st.exl = true ∧
     (∀ sp ∈ [0, 8], let k := (dirtyFp (atRing up 1) 8 (BitVec.ofNat 64 sp)).cpu core0
       k.st.ml = false ∧ k.st.exl = false ∧ k.st.legacy = false ∧ (k.bank 8).owes = false ∧ k.st.fpd = true ∧ (k.rd 8 30).toNat = sp) ∧
     (st (owesFrame true)).ml = false ∧ (st (owesFrame true)).exl = false ∧ (st (owesFrame true)).legacy = false ∧
     (((owesFrame true).cpu core0).bank 0).owes = true ∧
     tryX (writeFrame (owesFrame true) 0) (fun _ t => decide (st t = st (owesFrame true) ∧ (t.cpu core0).sb.length = 10)) = true ∧
     (match writeFrame (owesFrame false) 0 with
      | .exc f t => decide (f.cause = cPermission ∧ (t.cpu core0).mvec = ((owesFrame false).cpu core0).mvec)
      | _ => false) = true) := by
  dsimp only; decide +kernel

/-- Core 0 at ring 1, with three gates in the scratch SRAM: an open one, one that is not valid, one for ring 0 alone. -/
def gated : State :=
  let s := writeBytes (writeBytes (writeBytes (writeBytes up 0xC00000000 8 0x2000) 0xC00000008 8 0x19) 0xC00000020 8 0x2000) 0xC00000028 8 1
  with_ (atRing s 1) core0 fun k => { k with gatebase := 0x2C00000001 }

/-- A gate is read, and `P` holds of it. -/
def GateIs (n : Nat) (P : Gate → Bool) : Prop :=
  ∃ e s1, readGate gated 0 n = .ok e s1 ∧ s1.cpu core0 = gated.cpu core0 ∧ Plain core0 s1 (gated.cpu core0).pc ∧ P e = true

theorem gate {n : Nat} {P : Gate → Bool}
    (h : tryX (readGate gated 0 n) (fun e s1 => decide (s1.cpu core0 = gated.cpu core0) && (plainB core0 s1 && P e)) = true) :
    GateIs n P := by
  obtain ⟨e, s1, hr, hp⟩ := okX h
  simp only [Bool.and_eq_true, decide_eq_true_eq] at hp
  exact ⟨e, s1, hr, hp.1, plain hp.2.1, hp.2.2⟩

/-- Core 0 at ring `r` whose saved ring is `v`. -/
def returning (r v : BitVec 2) : State :=
  with_ (atRing up r) core0 fun k => { k with banks := mset {} [] 0 { saved := { k.st with ring := v, ml := false }, epc := 4 } }

theorem witness_GatesAndReturns :
    (Calm core0 gated ∧ (gated.cpu core0).st.ml = false ∧ (gated.cpu core0).st.legacy = false ∧
      (gated.cpu core0).gatebase.getLsbD 0 = true ∧ (gated.cpu core0).gatebase.toNat / 2 ^ 36 % 2 ^ 12 = 2 ∧
      ((gated.cpu core0).gatebase.toNat / 2 ^ 36 % 2 ^ 12 < (3 : BitVec 12).toNat) ∧ ((atRing up 3).cpu core0).gatebase.getLsbD 0 = false ∧
      (gated.cpu core0).st.exl = false ∧ ((gated.cpu core0).bank 0).owes = false ∧ Calm core0 (atRing up 3) ∧
      GateIs 0 (fun e => e.valid && !e.reserved && e.tring != 3 && !e.mask && e.target.toNat % 4 == 0 &&
        decide (1#2 ≤ e.climit) && decide (e.tring ≤ 1#2)) ∧
      GateIs 1 (fun e => !e.valid) ∧
      GateIs 2 (fun e => e.valid && !e.reserved && e.tring != 3 && !e.mask && e.target.toNat % 4 == 0 && decide (e.climit < 1#2))) ∧
    (let st := fun (s : State) => (s.cpu core0).st
     let v := fun (s : State) => ((s.cpu core0).bank 0).saved
     Calm core0 up ∧ canEnter core0 up ∧ (st up).exl = false ∧ ringOf (up.cpu core0) = 0 ∧
     Calm core0 (inExc up core0) ∧ (st (inExc up core0)).exl = true ∧
     ringOf ((atRing up 3).cpu core0) ≠ 0 ∧ (st (atRing up 3)).legacy = false ∧ (st (atRing up 3)).ring = 3 ∧
     (Calm core0 (returning 1 0) ∧ (st (returning 1 0)).ml = false ∧ (st (returning 1 0)).ring ≠ 3 ∧ (v (returning 1 0)).ring < 1#2) ∧
     (Calm core0 (returning 1 1) ∧ (st (returning 1 1)).ring ≤ (v (returning 1 1)).ring ∧ (v (returning 1 1)).ml = false) ∧
     (Calm core0 (returning 0 3) ∧ (st (returning 0 3)).ring = 0 ∧ (v (returning 0 3)).ml = false) ∧
     Calm inf0 up ∧ canEnter inf0 up ∧ (up.cpu inf0).pc.toNat < 2 ^ 36 ∧
     2 ^ 36 + 0x10000 ≤ ((with_ up inf0 fun k => { k with pc := 0x1000010000 }).cpu inf0).pc.toNat ∧
     (match fetchAt (with_ up core0 fun k => { k with pc := 0xE00000000 }) 0 0xE00000000 with | .exc _ _ => true | _ => false) = true) := by
  dsimp only
  repeat' (first | decide +kernel | exact calm (by decide +kernel) | exact enter (by decide +kernel)
                  | exact gate (by decide +kernel) | exact okO (by decide +kernel) | apply And.intro)

/-! ### Witnesses: FP, SIMD, waiting, ports -/

/-- Core 0 with FP on and the NV trap enabled. -/
def fpTraps : State := with_ scratchAt core0 fun k => { k with fpstat := 0x20 }

theorem witness_FpInstructions :
    (let traps := fun (s : State) (r : FpRes) =>
       firstTrap (([r] : List FpRes).foldl (fun z r => z ||| raisedBits r.fl) 0 &&& (s.cpu core0).fpstat.extractLsb' 5 5)
     let root := fpSqrt .d ⟨0, false⟩ (2 ^ 63 + 1023 * 2 ^ 52) 0 0
     Calm core0 scratchAt ∧ fpReady 0 scratchAt ∧ traps scratchAt root = none ∧
     Calm core0 fpTraps ∧ fpReady 0 fpTraps ∧ traps fpTraps root = some 0 ∧ Fmt.w ≠ Fmt.d ∧
     Calm core0 up ∧ (up.cpu core0).st.fpe = false) := by
  dsimp only
  repeat' (first | decide +kernel | exact calm (by decide +kernel) | exact fpRuns (by decide +kernel) | apply And.intro)

theorem witness_FpSpecialOperands :
    (let u := unpack .d false
     isNan (u 0x7FF8000000000000) = true ∧ isSignal (u 0x7FF0000000000001) = true ∧ isNan (u 0) = false ∧
     u 0x7FF0000000000000 = .inf false ∧ u 0xFFF0000000000000 = .inf true ∧
     u 0x8000000000000000 = .fin true 0 (-1074) ∧ u 0 = .fin false 0 (-1074) ∧ u 1 = .fin false 1 (-1074) ∧
     u 0xBFF0000000000000 = .fin true (2 ^ 52) (-52) ∧ (⟨0, true⟩ : FpMode).fz = true ∧
     0x000FFFFFFFFFFFFF / 2 ^ fracBits .d % 2 ^ expBits .d = 0) := by
  dsimp only; decide +kernel

theorem witness_SimdInstructions : Calm core0 scratchAt ∧ fpReady 0 scratchAt ∧ (1 : RegNo).val < 128 / eszBits .d ∧
    128 / eszBits .d ≤ (2 : RegNo).val :=
  ⟨calm (by decide +kernel), fpRuns (by decide +kernel), by decide, by decide⟩

/-- Core 0 with a pending source of level 4, committed to it, at ring 0 with IE; secure or not. -/
def pendingSource (secure : Nat) : State :=
  let s := put (with_ (atRing up 0) core0 fun k => { k with st := { k.st with ie := true } })
    [(F.IC_SRC_PENDING, 256, 1), (F.IC_SRC_PRIO, 256, 4), (F.IC_SRC_SECURE, 256, secure)]
  { s with icCommit := mset false [] 256 true }

/-- Core 0 with send and receive queue 15 open to it; g1 holds a block's address and g2 the queue's number. -/
def queueing (len : Nat) (ring : List SqEntry) : State :=
  let s := put (regs (writeBytes up 0xC00000000 32 (pWrite + len * 2 ^ 112)) core0 [(1, 0xC00000000), (2, 15), (3, -1)])
    [(F.NG_SQCFG_EN, 15, 1), (F.NG_RQCFG_EN, 15, 1)]
  { s with router := { s.router with sq := mset [] [] 15 ring, rq := mset {} [] 15 { next := 1, lens := [8] } } }

/-- What SEND must meet: the payload's length and the queue's state. -/
def SendsAt (s : State) (P : Nat → Bool) : Prop :=
  ∃ x s1 n s2 ps, blockPlace s 0 (s.g core0 1) = .ok x s1 ∧ blockPayload s1 0 x (s.g core0 1) = .ok n s2 ∧
    blockPieces s2 0 (s.g core0 1) x (32 + min n 4096) = .ok ps s2 ∧ Plain core0 s2 (s.cpu core0).pc ∧ P n = true

theorem sends {s : State} {P : Nat → Bool}
    (h : tryX (blockPlace s 0 (s.g core0 1)) (fun x s1 => tryX (blockPayload s1 0 x (s.g core0 1)) fun n s2 =>
      tryX (blockPieces s2 0 (s.g core0 1) x (32 + min n 4096)) fun _ s3 => decide (s3 = s2) && (plainB core0 s2 && P n)) = true) :
    SendsAt s P := by
  obtain ⟨x, s1, h1, h⟩ := okX h
  obtain ⟨n, s2, h2, h⟩ := okX h
  obtain ⟨ps, s3, h3, h⟩ := okX h
  simp only [Bool.and_eq_true, decide_eq_true_eq] at h
  exact ⟨x, s1, n, s2, ps, h1, h2, by rw [h3, h.1], plain h.2.1, h.2.2⟩

theorem witness_WaitsAndQueues :
    (let denied := fun (s : State) (q : Nat) => queueDenied s 0 q F.NG_SQCFG_EN F.NG_SQCFG_PART F.NG_SQCFG_MINRING
     (Calm core0 (pendingSource 0) ∧ ringOf ((pendingSource 0).cpu core0) = 0 ∧ wakeCond (pendingSource 0) 0 = true) ∧
     (Calm core0 (atRing up 3) ∧ ringOf ((atRing up 3).cpu core0) ≠ 0) ∧
     (Calm core0 arith ∧ (arith.g core0 0).toNat ≤ (arith.cpu core0).epochNo.toNat ∧
       (arith.cpu core0).epochNo.toNat < (arith.g core0 5).toNat) ∧
     (Calm core0 arith ∧ denied arith (arith.g core0 2).toNat = true) ∧
     (∀ s ∈ [queueing 4096 [], queueing 4096 [⟨[], 0⟩], queueing 4097 []], Calm core0 s ∧ denied s (s.g core0 2).toNat = false ∧
       (s.g core0 1).toNat % 32 = 0 ∧ (s.cpu core0).sb = [] ∧
       queueDenied s 0 (s.g core0 2).toNat F.NG_RQCFG_EN F.NG_RQCFG_PART F.NG_RQCFG_MINRING = false ∧ s.g core0 3 = -1) ∧
     SendsAt (queueing 4096 []) (fun n => n == 4096) ∧ SendsAt (queueing 4097 []) (fun n => n == 4097) ∧
     (mget [] (queueing 4096 []).router.sq 15).length < 2 ^ min ((queueing 4096 []).fl F.NG_SQCFG_DEPTH 15) 8 ∧
     2 ^ min ((queueing 4096 [⟨[], 0⟩]).fl F.NG_SQCFG_DEPTH 15) 8 ≤ (mget [] (queueing 4096 [⟨[], 0⟩]).router.sq 15).length ∧
     (mget {} (queueing 0 []).router.rq 15).lens[0]? = some 8 ∧
     (let k := (with_ up core0 fun k => { k with rtags := [⟨7, 0, 8, true, false, false⟩], wslots := [⟨63, 16, 0, []⟩], refusals := 1 }).cpu core0
      k.rtags.find? (fun r => r.tag == (7 : Fin 8).val) = some ⟨7, 0, 8, true, false, false⟩ ∧
      k.wslots.find? (fun x => x.slot == (63 : Fin 64).val) = some ⟨63, 16, 0, []⟩ ∧ k.refusals ≠ 0)) := by
  dsimp only
  simp only [List.forall_mem_cons, List.not_mem_nil, false_imp_iff, implies_true, and_true]
  repeat' (first | decide +kernel | exact calm (by decide +kernel) | exact sends (by decide +kernel) | apply And.intro)

/-- Infuser 0, owner of port group 55, with addresses of its own port, of that group and of one it does not own in g1 to g3,
its SRAM's in g4, and builder 0 as given. -/
def infPorts (ev : BitVec 16) (y : Builder) : State :=
  let s := put (regs up inf0 [(1, 63 * 256), (2, 55 * 256 + 3), (3, 54 * 256), (4, 0x1000000FE0), (5, 32), (6, 1)])
    [(F.IF_PGRP_VALID, 55, 1)]
  putInf s 0 { infOf s 0 with events := ev, b0 := y }

theorem witness_InfuserPorts :
    (let s := infPorts 1 {}
     let g := fun r : RegNo => s.g inf0 r
     let open_ := fun (body : List Byte) => ({ header := natBytes pWrite 32, body := body, isOpen := true } : Builder)
     let b0 := fun (s : State) => builder (infOf s 0) false
     Calm inf0 s ∧ (s.cpu inf0).sb = [] ∧
     tryR (portRead s 0 (g 1)) (fun _ t => plainB inf0 t) = true ∧ tryR (portRead s 0 (g 2)) (fun _ t => plainB inf0 t) = true ∧
     failR (portRead s 0 (g 3)) beNoTarget (fun _ => true) = true ∧
     tryR (portWrite s 0 (g 2) (g 5)) (fun _ t => plainB inf0 t) = true ∧ failR (portWrite s 0 (g 3) (g 5)) beNoTarget (fun _ => true) = true ∧
     (let s : State := { s with pwr := { s.pwr with timedOut := mset false [] (portUnit 55) true } }
      let s := put s [(F.KT_READY_READY, 2, 0)]
      failR (portRead s 0 (g 2)) beNotReady (plainB inf0) = true ∧ failR (portWrite s 0 (g 2) (g 5)) beNotReady (plainB inf0) = true) ∧
     (g 3).toNat / 256 ≠ 63 ∧ owns s 0 ((g 3).toNat / 256) = false ∧ (g 1).toNat = 63 * 256 ∧
     (1#16 &&& (g 6).truncate 16) ≠ 0 ∧ (0#16 &&& (g 6).truncate 16) = 0 ∧
     2 ^ 36 ≤ (g 4).toNat ∧ (g 4).toNat < 2 ^ 36 + 0x10000 ∧ (g 4).toNat % 32 = 0 ∧
     (g 4).getLsbD 63 = false ∧ ownRange s 0 (g 4) ((g 5).toNat % 2 ^ 13) = true ∧
     (Calm inf0 (infPorts 0 {}) ∧ (b0 (infPorts 0 {})).isOpen = false ∧ (b0 (infPorts 0 {})).held = none) ∧
     (Calm inf0 (infPorts 0 (open_ [1])) ∧ (b0 (infPorts 0 (open_ [1]))).isOpen = true ∧ badBlock (b0 (infPorts 0 (open_ [1]))) = false) ∧
     badBlock (b0 (infPorts 0 { isOpen := true, header := natBytes 15 32 })) = true ∧
     (b0 (infPorts 0 { held := some (headerPacket [] []) })).held ≠ none) := by
  dsimp only
  repeat' (first | decide +kernel | exact calm (by decide +kernel) | exact enter (by decide +kernel)
                  | exact okO (by decide +kernel) | apply And.intro)

/-- Core 0 at ring 0 with a DEBUG REQUEST of level 7 and IE, or with supervisory event 5. -/
def debugRequested : State := with_ (atRing up 0) core0 fun k => { k with dbgReq := true, dbgctl := 15, st := { k.st with ie := true } }
def supervised : State := with_ (atRing up 0) core0 fun k => { k with supPend := 16 }

/-- A source of level 4 for core 0, under LEGACY or with the bank of the level live. -/
def pendingAt (legacy live : Bool) : State :=
  with_ (pendingSource 0) core0 fun k => { k with st := { k.st with legacy, live := if live then 0x10 else 0 } }

theorem witness_InterruptEntries :
    (∀ s ∈ [pendingSource 0, pendingSource 1, debugRequested, supervised, dirtyFp (pendingSource 0) 0 0,
        with_ (pendingSource 0) core0 fun k => { k with wait := .pour 1 2 }], atBoundary s 0 = true ∧ (s.cpu core0).mustTake = false) ∧
    (∀ x ∈ [(false, false), (true, false), (false, true)], let s := pendingAt x.1 x.2; let k := s.cpu core0
     atBoundary s 0 = true ∧ k.supPend = 0 ∧ secureTakes s 0 = none ∧ debugTakes s 0 = false ∧ levelTakes s 0 = some 256 ∧
     k.st.legacy = x.1 ∧ s.fl F.IC_SRC_PRIO 256 = 4 ∧ k.st.live.getLsbD 4 = x.2) ∧
    (let k := (dirtyFp (pendingSource 0) 0 0).cpu core0; k.st.fpd = true ∧ (k.rd 4 30).toNat % 16 = 0 ∧ k.supPend = 0) ∧
    (let k := (with_ (dirtyFp (pendingSource 0) 0 0) core0 fun k => k.wr 4 30 8).cpu core0
     k.st.fpd = true ∧ (k.rd 4 30).toNat % 16 ≠ 0) ∧
    (((pendingSource 1).cpu core0).supPend = 0 ∧ secureTakes (pendingSource 1) 0 = some 256) ∧
    ((debugRequested.cpu core0).supPend = 0 ∧ secureTakes debugRequested 0 = none ∧ debugTakes debugRequested 0 = true) ∧
    ((supervised.cpu core0).st.ml = false ∧ lowestEvent (supervised.cpu core0).supPend = some 5) := by
  decide +kernel

/-! ### Witnesses: power, supplies, clocks, resets, the Caddy -/

/-- A register value with fields. -/
def word (l : List (Fld × Nat)) : Word := BitVec.ofNat 64 (l.foldl (fun n e => n + e.2 * 2 ^ e.1.lo) 0)

/-- A handshake of core 0 that asks domain `d` for state `other`. -/
def offering (d other : Nat) (l : List (Fld × Nat × Nat)) : State :=
  { put up l with pwr := { up.pwr with current := some ⟨0, false, other, 0, [d], [], false⟩, waking := mset false [] d true } }

/-- Core 0 sleeps, with a source pending. -/
def sleeping : State := with_ (pendingSource 0) core0 fun k => { k with wait := .sleep 1 }

theorem witness_PowerAndVoltage :
    (let answers := fun (s : State) (d : Nat) => ∃ h, s.pwr.current = some h ∧ s.pwr.queue = [] ∧ h.todo = [d] ∧ h.done = [] ∧
       h.wasWait = false ∧ d < 47 ∧ deepEnough s d h.other = false
     let h : Sleep := ⟨0, false, 1, 0, [44], [], false⟩
     (answers (offering 16 1 [(F.PW_DOM_STATE, 16, 0)]) 16 ∧ refuses (offering 16 1 []) 0 16 = some 3) ∧
     (answers (offering 44 1 []) 44 ∧ answers (offering 44 2 []) 44 ∧ (offering 44 2 []).dom 44 ≠ 1 ∧ (offering 16 1 [(F.PW_DOM_STATE, 16, 0)]).dom 16 = 0 ∧ refuses (offering 44 1 []) (if h.steep then 16 else h.core) 44 = none) ∧
     (isRing0 up req0 = true ∧ bitsOf (word [(F.PW_DOMREQ_DOMAIN, 46)]) F.PW_DOMREQ_STATE = 0 ∧
       bitsOf (word [(F.PW_DOMREQ_DOMAIN, 46)]) F.PW_DOMREQ_DOMAIN ≤ 46 ∧ (put up [(F.PW_DOM_STATE, 46, 1)]).dom 46 ≠ 0) ∧
     (∀ n ∈ [1, 2], ∀ d ∈ [16, 44], let v := word [(F.PW_DOMREQ_DOMAIN, d), (F.PW_DOMREQ_STATE, n)]
       bitsOf v F.PW_DOMREQ_STATE = n ∧ 16 ≤ bitsOf v F.PW_DOMREQ_DOMAIN ∧ bitsOf v F.PW_DOMREQ_DOMAIN < 45) ∧
     up.pwr.current = none ∧ up.pwr.queue = [] ∧
     (mget false (offering 46 1 []).pwr.waking 46 = true ∧
       powered (offering 46 1 [(F.PW_DOM_STATE, 46, 1)]) 46 = true ∧ (offering 46 1 [(F.PW_DOM_STATE, 46, 1)]).dom 46 ≠ 0) ∧
     (Plain core0 (sleeping.setCpu core0 { sleeping.cpu core0 with wait := .none }) (sleeping.cpu core0).pc ∧
       wakeCond sleeping 0 = true ∧ sleeping.dom 0 = 0 ∧ (sleeping.cpu core0).run = .running ∧ inHandshake sleeping 0 = false ∧
       (sleeping.cpu core0).wait = .sleep 1) ∧
     isRing0 (atRing up 3) req0 = false ∧ (put up [(F.PW_VCMD_BUSY, 3, 1)]).fb F.PW_VCMD_BUSY 3 = true) := by
  dsimp only
  repeat' (first | decide +kernel | exact plain (by decide +kernel) | apply And.intro)

/-- Steep in state `st` at step 30 with an operation there. -/
def steep (st op arg : Nat) (l : List (Fld × Nat × Nat)) : State :=
  put up ([(F.KT_STEEPSTAT_STATE, 0, st), (F.KT_STEEPSTAT_STEP, 0, 30), (F.KT_STEEP_OP, 30, op), (F.KT_STEEP_ARG, 30, arg),
    (F.KT_STEEP_A, 30, 31), (F.KT_STEEP_B, 30, 0)] ++ l)

theorem witness_SteepTable :
    (let runs := fun (s : State) (op : Nat) => 1 ≤ s.fl F.KT_STEEPSTAT_STATE 0 ∧ s.fl F.KT_STEEPSTAT_STATE 0 ≤ 3 ∧
       s.steep.fixed = false ∧ s.steep.wakeDom = none ∧ s.steep.sleeping = none ∧ s.steep.run < 255 ∧
       s.fl F.KT_STEEP_OP (s.fl F.KT_STEEPSTAT_STEP 0) = op
     let arg := fun (s : State) => s.fl F.KT_STEEP_ARG (s.fl F.KT_STEEPSTAT_STEP 0)
     let signed := fun (x : Nat) => (BitVec.ofNat 16 x).toInt
     let within := fun (s : State) => signed (s.fl F.KT_STEEP_LO 30) ≤ signed (s.fl F.KT_STEEPSTAT_ACC 0) ∧
       signed (s.fl F.KT_STEEPSTAT_ACC 0) ≤ signed (s.fl F.KT_STEEP_HI 30)
     let start := word [(F.KT_STEEPCTL_TSTEP, 31), (F.KT_STEEPCTL_START, 1)]
     (isRing0 up req0 = true ∧ up.fl F.KT_STEEPSTAT_STATE 0 = 0 ∧ start.getLsbD 17 = true ∧ start.getLsbD 18 = false ∧
       up.fl F.KT_STEEP_OP (bitsOf start F.KT_STEEPCTL_TSTEP) < 7 ∧ (steep 4 0 0 []).fl F.KT_STEEPSTAT_STATE 0 = 4 ∧
       (word [(F.KT_STEEPCTL_ACK, 1)]).getLsbD 18 = true) ∧
     (∀ st ∈ [1, 3], ∀ op ∈ [0, 1, 2, 3, 4, 5, 6], runs (steep st op 0 []) op) ∧
     ((steep 2 1 46 [(F.PW_DOM_STATE, 46, 1)]).dom 46 ≠ 0 ∧ arg (steep 2 1 46 []) ≤ 46) ∧
     (let s : State := { steep 2 1 46 [] with steep := { (steep 2 1 46 []).steep with wakeDom := some 46 } }
      s.steep.wakeDom = some 46 ∧ s.steep.run < 255 ∧ s.steep.failed = false ∧ powered s 46 = true ∧ heldInReset s 46 = false ∧
      ({ s with steep := { s.steep with failed := true } } : State).steep.failed = true ∧
      s.dom 46 = 0 ∧ s.fl F.KT_STEEPSTAT_STEP 0 + 1 < 32 ∧ s.fl F.KT_STEEP_OP 31 < 7) ∧
     (runs (steep 2 2 0x31 []) 2 ∧ arg (steep 2 2 0x31 []) = 0x31 ∧ (steep 2 2 0x31 []).fl F.KT_STEEPSTAT_STEP 0 < 31) ∧
     (within (steep 2 3 0 [(F.KT_STEEP_LO, 30, 0x8000), (F.KT_STEEP_HI, 30, 0)]) ∧ ¬ within (steep 2 3 0 [(F.KT_STEEP_HI, 30, 0xFFFF)]) ∧
       (steep 2 3 0 []).fl F.KT_STEEP_A 30 < 32 ∧ (steep 2 3 0 []).fl F.KT_STEEP_B 30 < 32) ∧
     (arg (steep 2 4 0 []) = 0 ∧ arg (steep 2 4 1 []) = 1 ∧ arg (steep 2 4 2 []) = 2) ∧
     (steep 2 5 0 []).steep.woken = [] ∧
     (let s : State := { steep 2 5 1 [] with steep := { (steep 2 5 1 []).steep with sleeping := some 1 } }
      s.steep.sleeping = some 1 ∧ s.steep.fixed = false ∧ s.steep.run < 255)) := by
  dsimp only; decide +kernel

/-- `up` with its supplies changed. -/
def supply (f : Supply → Supply) (l : List (Fld × Nat × Nat)) : State := { put up l with sup := f up.sup }

theorem witness_SuppliesAndRails :
    (let s1 := supply id [(F.KT_SUPPLY_CARRIED, 0, 1)]
     ¬ supplied State.reset ∧ State.reset.sup.por = true ∧
     (let s := supply (fun x => { x with alone := true }) []; supplied s ∧ s.sup.alone = true ∧ s.steep.holds = false ∧ s.sup.failed.getLsbD 0 = false) ∧
     (causesNow up = [] ∧ supplied up ∧ up.sup.alone = false ∧ up.sup.mainUp = true ∧ up.sup.bkpUp = true ∧ up.sup.programming = none ∧
       up.fb F.KT_SUPPLY_CARRIED 0 = false) ∧
     (supply (fun x => { x with bkpUp := false }) []).sup.bkpUp = false ∧
     (let s := supply (fun x => { x with mainUp := false }) [(F.KT_SUPPLY_CARRIED, 0, 1)]
      supplied s ∧ s.sup.alone = false ∧ s.sup.mainUp = false ∧ s.fb F.KT_SUPPLY_CARRIED 0 = true ∧
      s.fb F.KT_STEEPCTL_COLD 0 = false ∧ s.steep.holds = false ∧ s.sup.failed.getLsbD 0 = false) ∧
     (s1.fb F.KT_SUPPLY_CARRIED 0 = true ∧ s1.sup.isolated = false) ∧
     (let s := supply (fun x => { x with isolated := true }) [(F.KT_SUPPLY_CARRIED, 0, 1), (F.MR_PORTSTAT_STATE, 1, 5)]
      s.fb F.KT_SUPPLY_CARRIED 0 = true ∧ s.sup.isolated = true ∧ s.sup.reduced = false ∧ s.fl F.MR_PORTSTAT_STATE 1 ≠ 0) ∧
     (let s := supply (fun x => { x with reduced := true }) [(F.KT_SUPPLY_CARRIED, 0, 1), (F.MR_PORTSTAT_REDUCED, 1, 1)]
      s.fb F.KT_SUPPLY_CARRIED 0 = true ∧ s.sup.reduced = true ∧ s.sup.reported = false ∧ s.fb F.MR_PORTSTAT_REDUCED 1 = true ∧
      ∀ m, m < 2 → (lk s (32 + m)).quar = 0 ∧ (lk s (32 + m)).ver = s.fl F.MR_VER_AGREED 0) ∧
     (let s := supply (fun x => { x with bor := true }) []; s.sup.por = false ∧ s.sup.bor = true) ∧
     (bitAt F.KT_RSTCAUSE_LAST.kept 0 = false ∧ F.KT_RSTCAUSE_LAST ∈ regGroups.flatMap (·.fields))) ∧
    (let pg := fun (s : State) (n : Nat) => bitAt (s.fl F.KT_SUPPLY_PG 0) n
     (let s := supply (fun x => { x with pwrEn := 0x7F }) []
      supplied s ∧ s.fb F.KT_SUPPLY_CARRIED 0 = false ∧ s.sup.railsAsked = false ∧ (7 : Fin 8).val ≠ 0 ∧
      (∀ n, n < 7 → s.sup.pwrEn.getLsbD n = true) ∧ s.sup.pwrEn.getLsbD 7 = false ∧ s.sup.failed.getLsbD 7 = false ∧ pg s 6 = true) ∧
     (let s := supply id [(F.KT_SUPPLY_PG, 0, 0x7F)]; s.sup.pwrEn.getLsbD 7 = true ∧ pg s 7 = false) ∧
     (up.sup.pwrEn.getLsbD 7 = true ∧ pg up 7 = true ∧ up.fb F.KT_SUPPLY_MAIN_OK 0 = true)) := by
  dsimp only [supplied]; decide +kernel

/-- `up` with its clocks changed. -/
def clocks (f : Clocks → Clocks) (l : List (Fld × Nat × Nat)) : State := { put up l with clk := f up.clk }

theorem witness_ClocksAndPlls :
    (let fails := clocks (fun x => { x with failing := 2 }) []
     (monitored fails 1 = true ∧ fails.clk.persist.getLsbD 1 = false ∧ fails.clk.failing.getLsbD 1 = true ∧ clockTrips 1 = true) ∧
     (monitored up 1 = true ∧ up.clk.failing.getLsbD 1 = false) ∧
     (supplied up ∧ up.clk.kclkB = false) ∧
     (let s := clocks (fun x => { x with xrefGood := true }) []
      bitAt (s.fl F.KT_SUPPLY_PG 0) 0 = true ∧ s.clk.xrefGood = true ∧ s.fb F.CK_MONSTAT_SPLL 0 = false ∧
      s.fb F.CK_MONSTAT_XREF 0 = false) ∧
     (let v := word [(F.CK_CLUSTER_FREQ, 24), (F.CK_CLUSTER_PLL_EN, 1)]
      openAt up (0xE00100080 + 8 * 3) ∧ 2 ≤ bitsOf v F.CK_CLUSTER_FREQ ∧ bitsOf v F.CK_CLUSTER_FREQ ≤ 24 ∧
      bitsOf v F.CK_CLUSTER_FREQ ≠ up.fl F.CK_CLUSTER_FREQ 3 ∧ v.getLsbD 8 = true ∧ v.getLsbD 10 = false) ∧
     (let v := word [(F.CK_CLUSTER_FREQ, 24), (F.CK_CLUSTER_PLL_EN, 1), (F.CK_CLUSTER_SEL, 1)]
      let s := put up [(F.CK_CLUSTER_FREQ, 3, 24), (F.CK_CLUSTER_LOCK, 3, 1)]
      openAt s (0xE00100080 + 8 * 3) ∧ bitsOf v F.CK_CLUSTER_FREQ = s.fl F.CK_CLUSTER_FREQ 3 ∧ v.getLsbD 8 = true ∧
      v.getLsbD 10 = true ∧ s.fb F.CK_CLUSTER_LOCK 3 = true ∧ s.fb F.CK_CLUSTER_SEL 3 = false) ∧
     (let s := clocks (fun x => { x with xrefGood := true }) [(F.CK_CLUSTER_PLL_EN, 3, 1)]
      s.fb F.CK_CLUSTER_PLL_EN 3 = true ∧ bitAt (s.fl F.KT_SUPPLY_PG 0) (4 + 3) = true ∧ s.clk.xrefGood = true)) := by
  dsimp only [supplied]
  repeat' (first | decide +kernel | exact opens (by decide +kernel) | apply And.intro)

/-- `up` with core 0 in reset, not ready, its cluster released. -/
def starting : State :=
  let s := put (with_ up core0 fun k => { k with run := .inReset }) [(F.KT_READY_READY, 0, 2 ^ 64 - 2), (F.KT_READY_READY, 3, 2 ^ 63 - 1)]
  { s with caddy := { s.caddy with released := 15 } }

theorem witness_ReadinessAndWarmReset :
    (let waits := fun (s : State) (u : Nat) => s.ready u = false ∧ mget false s.pwr.timedOut u = false ∧ unitUp s u = true ∧ u ≠ 43
     (waits starting 0 ∧ (0 : Nat) < 29 ∧ (starting.cpu core0).run = .inReset ∧ starting.dbg.marked.getLsbD 0 = false) ∧
     (waits (put up [(F.KT_READY_READY, 2, 2 ^ 64 - 1 - 2 ^ 7)]) 135) ∧
     (let s : State := { put up [(F.KT_READY_READY, 0, 2 ^ 64 - 1 - 2 ^ 34)] with clk := { up.clk with xrefGood := true } }
      waits s 34 ∧ s.clk.xrefGood = true) ∧
     (∀ ph ∈ [CaddyPhase.verify, .readFw, .loader], ({ up with caddy := { up.caddy with phase := ph } } : State).caddy.phase = ph) ∧
     (isRing0 up req0 = true ∧ bitsOf (word [(F.KT_RSTCTL_KEY, 0x5357)]) F.KT_RSTCTL_KEY = 0x5357 ∧ supplied up ∧ up.warm.active = false ∧
       up.fb F.KT_SUPPLY_CARRIED 0 = false) ∧
     (let s : State := { up with warm := { active := true, kind := 7 } }
      s.warm.active = true ∧ s.warm.hold = false ∧ s.warm.kind < 8 ∧ s.fb F.KT_STEEPCTL_COLD 0 = false) ∧
     (let s : State := { up with warm := { active := true, kind := 2, hold := true }, caddy := {} }
      s.warm.active = true ∧ s.warm.hold = true ∧ supplied s ∧ s.sup.alone = false ∧ s.steep.holds = false ∧
      s.caddy.phase = .inReset)) := by
  dsimp only [supplied]; decide +kernel

/-- `up` with the Caddy as given. -/
def caddyIs (ph : CaddyPhase) (f : Caddy → Caddy) : State := { up with caddy := f { up.caddy with phase := ph } }

/-- `up` with the Caddy in phase `ph` and channel 7 BUSY with a message of command `cmd` and a body of `n` bytes. -/
def mailed (ph : CaddyPhase) (cmd n : Nat) (l : List (Fld × Nat × Nat)) : State :=
  let s := caddyIs ph id
  put (writeBytes s (mbBuf 7) 8 (0x0200 + cmd * 2 ^ 16 + n * 2 ^ 32)) ((F.MB_STAT_STATE, 7, 2) :: l)

theorem witness_CaddyBoot :
    (let s := caddyIs .inReset id
     s.caddy.phase = .inReset ∧ supplied s ∧ s.sup.alone = false ∧ s.warm.active = false ∧ s.steep.holds = false) ∧
    (let s := caddyIs .rom id; s.caddy.phase = .rom ∧ flashReadable s = true ∧ s.fl F.LC_STATE_STATE 0 ≠ 5) ∧
    ((caddyIs .verify id).caddy.phase = .verify ∧ (caddyIs .verify id).caddy.second = false ∧
      (caddyIs .verify fun x => { x with second := true }).caddy.second = true) ∧
    (let s := caddyIs .readFw fun x => { x with loaded := false }
     s.caddy.phase = .readFw ∧ flashReadable s = true ∧ caddyClocked s = true ∧ s.caddy.loaded = false ∧ s.fb F.KT_SUPPLY_CARRIED 0 = false ∧ s.caddy.second = false) ∧
    ((caddyIs .loader id).caddy.phase = .loader ∧ (caddyIs .loader id).ready 28 = true ∧ (caddyIs .loader id).fl F.LC_STATE_STATE 0 ≠ 5 ∧
      flashReadable (caddyIs .loader id) = true ∧ (caddyIs .loader id).caddy.recovered = false ∧
      (caddyIs .loader fun x => { x with recovered := true, recovery := [1] }).caddy.recovery ≠ []) ∧
    (up.caddy.phase = .running ∧ up.caddy.loaded = true ∧ up.caddy.coresReleased = false ∧ up.fl F.LC_STATE_STATE 0 ≠ 5) ∧
    (busyWith (mailed .recovery cmdRecovery 8 []) 7 cmdRecovery ∧ (mailed .recovery cmdRecovery 8 []).caddy.phase = .recovery ∧
      (let s := { mailed .recovery cmdRecovery 8 [] with caddy := { up.caddy with phase := .recovery, loaded := false } }
       busyWith s 7 cmdRecovery ∧ s.caddy.phase = .recovery ∧ s.caddy.loaded = false ∧ s.fb F.KT_SUPPLY_CARRIED 0 = false)) := by
  dsimp only [supplied, busyWith]
  decide +kernel

/-- Channel 7 with a DEBUG_GRANT message whose body is a certificate of the device for life cycle `lc`: the fields of known
value, then the serial number, of which nothing is known. -/
def grantFields (lc : Nat) : State :=
  writeBytes (writeBytes (mailed .running cmdDebugGrant 136 []) (mbBuf 7 + 16) 4 (0x0100 + 2 * 2 ^ 16 + lc * 2 ^ 24))
    (mbBuf 7 + 28) 28 (1 + 2 ^ 128 + 3 * 2 ^ 192)
def grantAsked (lc : Nat) : State := writeBytes (grantFields lc) (mbBuf 7 + 20) 8 Config.serial.toNat
def certBody (lc : Nat) : List Byte := bodyBytes (grantAsked lc) 7 136

theorem grantAsked_field {lc i m : Nat} (h : i + m ≤ 4 ∨ 12 ≤ i) (hi : i + m ≤ 136) :
    bytesNat (((certBody lc).drop i).take m) = readBytes (grantFields lc) (mbBuf 7 + 16 + i) m := by
  rw [certBody, bodyBytes, bytesNat_readList _ _ _ _ _ hi, grantAsked, readBytes_writeBytes_out _ _ _ _ _ _ (by omega)]

theorem certBody_fields : ∀ lc ∈ [0, 1], let c := certOf (certBody lc)
    c.version = 0x0100 ∧ c.level = 2 ∧ c.lc = BitVec.ofNat 8 lc ∧ c.serial = Config.serial ∧ c.pmask = 1 ∧ c.notBefore = 0 ∧
    c.expiry = 1 ∧ c.scope = 3 ∧ c.reserved = 0 := by
  have serial : ∀ lc, bytesNat (((certBody lc).drop 4).take 8) = Config.serial.toNat := by
    intro lc
    rw [certBody, bodyBytes, bytesNat_readList _ _ _ _ _ (by omega), grantAsked, readBytes_writeBytes]
    exact Nat.mod_eq_of_lt Config.serial.isLt
  intro lc h
  dsimp only [certOf]
  rw [grantAsked_field (by omega) (by omega), grantAsked_field (by omega) (by omega), grantAsked_field (by omega) (by omega), serial,
    grantAsked_field (by omega) (by omega), grantAsked_field (by omega) (by omega), grantAsked_field (by omega) (by omega),
    grantAsked_field (by omega) (by omega), grantAsked_field (by omega) (by omega), BitVec.ofNat_toNat, BitVec.setWidth_eq]
  simp only [List.mem_cons, List.not_mem_nil, or_false] at h
  rcases h with rfl | rfl <;>
    exact ⟨by decide +kernel, by decide +kernel, by decide +kernel, rfl, by decide +kernel, by decide +kernel, by decide +kernel,
      by decide +kernel, by decide +kernel⟩

theorem fl_mem (s : State) (m : List Host.Cell) : State.fl { s with mem := m } = s.fl := rfl
theorem serves_mem (s : State) (m : List Host.Cell) (n : Nat) : serves { s with mem := m } n = serves s n := rfl
theorem sup_mem (s : State) (m : List Host.Cell) : ({ s with mem := m } : State).sup = s.sup := rfl

theorem busy_grantAsked : busyWith (grantAsked 0) 7 cmdDebugGrant ∧ bodyLength (grantAsked 0) 7 = 136 := by
  have out := fun (b m : Nat) (h : b + m ≤ mbBuf 7 + 20) =>
    readBytes_writeBytes_out m (grantFields 0) (mbBuf 7 + 20) 8 Config.serial.toNat b (.inl h)
  obtain ⟨m, hm⟩ := writeBytes_only 8 (grantFields 0) (mbBuf 7 + 20) Config.serial.toNat
  have same : (grantAsked 0).fl = (grantFields 0).fl ∧ serves (grantAsked 0) 7 = serves (grantFields 0) 7 := by
    rw [grantAsked, hm, fl_mem, serves_mem]; exact ⟨rfl, rfl⟩
  refine ⟨⟨?_, ?_, ?_, ?_, ?_⟩, ?_⟩
  · rw [same.1]; decide +kernel
  · rw [same.2]; decide +kernel
  · rw [grantAsked, out _ _ (by omega)]; decide +kernel
  · rw [badVersion, same.1, grantAsked, out _ _ (by omega)]; decide +kernel
  · rw [bodyLength, grantAsked, out _ _ (by omega)]; decide +kernel
  · rw [bodyLength, grantAsked, out _ _ (by omega)]; decide +kernel

theorem cert_accepted : (checkGrant (grantAsked 0) (certOf (certBody 0)) true).1 = stOk := by
  obtain ⟨m, hm⟩ := writeBytes_only 8 (grantFields 0) (mbBuf 7 + 20) Config.serial.toNat
  have h : (grantAsked 0).fl F.LC_STATE_STATE 0 = 0 := by
    rw [grantAsked, hm, fl_mem]; decide +kernel
  have r : (grantAsked 0).sup.rtc = none := by
    rw [grantAsked, hm, sup_mem]; decide +kernel
  have f := certBody_fields 0 (List.mem_cons_self ..)
  generalize certOf (certBody 0) = c at f
  obtain ⟨h1, h2, h3, h4, -, -, -, h8, h9⟩ := f
  simp [checkGrant, h, r, h1, h2, h3, h4, h8, h9]

theorem witness_MailboxMessages_granted : (busyWith (grantAsked 0) 7 cmdDebugGrant ∧ bodyLength (grantAsked 0) 7 = 136) ∧
    (checkGrant (grantAsked 0) (certOf (bodyBytes (grantAsked 0) 7 136)) true).1 = stOk := ⟨busy_grantAsked, cert_accepted⟩

theorem witness_MailboxMessages :
    (let run := fun (cmd n : Nat) (l : List (Fld × Nat × Nat)) => mailed .running cmd n l
     let nonce := fun (s : State) => ({ s with caddy := { s.caddy with nonces := mset [] [] 7 [1] } } : State)
     let open_ := put up [(F.MB_STAT_EN, 7, 1)]
     openAt open_ (0xE00300000 + 0x40 * 7) ∧ openAt (put open_ [(F.MB_STAT_STATE, 7, 3)]) (0xE00300000 + 0x40 * 7) ∧
     (mbAllowed open_ req0 7 = true ∧ open_.fl F.MB_STAT_STATE 7 = 0 ∧ (put open_ [(F.MB_STAT_STATE, 7, 3)]).fl F.MB_STAT_STATE 7 = 3 ∧
       mbAllowed (put open_ [(F.MB_STAT_STATE, 7, 3)]) req0 7 = true) ∧
     (let s := put up [(F.MB_STAT_STATE, 7, 1)]
      s.fl F.MB_STAT_STATE 7 = 1 ∧ serves s 7 = true ∧ ∀ m, m < 7 → s.fl F.MB_STAT_STATE m ≠ 1) ∧
     (∀ c ∈ [cmdHello, cmdMeasureRead, cmdDebugGrant, cmdLcTransition], busyWith (run c 0 []) 7 c ∧ knownCommand c = true ∧
       bodyLength (run c 0 []) 7 = 0) ∧
     (∀ e ∈ [(cmdHello, 0), (cmdSign, 48), (cmdMeasureRead, 0), (cmdDebugGrant, 136)],
       busyWith (run e.1 4 []) 7 e.1 ∧ bodyLength (run e.1 4 []) 7 ≠ e.2) ∧
     (busyWith (run 0xFFFF 0 []) 7 0xFFFF ∧ knownCommand 0xFFFF = false) ∧
     (busyWith (run cmdSign 48 []) 7 cmdSign ∧ bodyLength (run cmdSign 48 []) 7 = 48 ∧
       keysRefused (run cmdSign 48 [(F.LC_STATE_STATE, 0, 1)]) = false ∧ bodyLength (run cmdSign 48 [(F.LC_STATE_STATE, 0, 1)]) 7 = 48 ∧
       busyWith (run cmdSign 48 [(F.LC_STATE_STATE, 0, 1)]) 7 cmdSign ∧ keysRefused (run cmdSign 48 []) = true) ∧
     (busyWith (run cmdMeasureRead 0 [(F.LC_STATE_STATE, 0, 1)]) 7 cmdMeasureRead ∧
       keysRefused (run cmdMeasureRead 0 [(F.LC_STATE_STATE, 0, 1)]) = false) ∧
     (let s := run cmdDebugGrant 136 []
      busyWith s 7 cmdDebugGrant ∧ bodyLength s 7 = 136 ∧ (checkGrant s (certOf (bodyBytes s 7 136)) true).1 ≠ stOk) ∧
     (let s := nonce (run cmdLcTransition 0 [(F.LC_STATE_STATE, 0, 1)])
      busyWith s 7 cmdLcTransition ∧ s.sup.programming = none ∧ keysRefused s = false ∧ s.fl F.LC_STATE_STATE 0 < 5 ∧
      (2 : BitVec 3).toNat = s.fl F.LC_STATE_STATE 0 + 1 ∧ (1 : BitVec 3).toNat ≠ s.fl F.LC_STATE_STATE 0 + 1 ∧
      mget [] s.caddy.nonces 7 ≠ []) ∧
     (let s := supply (fun x => { x with programming := some (4, some 7) }) [(F.MB_STAT_STATE, 7, 2)]
      s.sup.programming = some ((4 : Fin 5).val, some (7 : Fin 8).val) ∧ s.fl F.MB_STAT_STATE 7 = 2 ∧
      (0 : BitVec 80).getLsbD (16 * 4 + 15) = false)) := by
  dsimp only
  repeat' (first | decide +kernel | exact opens (by decide +kernel)
                  | (unfold busyWith; decide +kernel) | apply And.intro)

/-- A policy that lets channel 7 set the Strainers of `mask`. -/
def policed (s : State) (mask : Nat) : State :=
  { s with caddy := { s.caddy with policy := some ⟨[(7, 1, 0, 0, mask)], [], 0, 0, 0, []⟩ } }

theorem witness_StrainerMessages :
    (let set := fun (l : List (Fld × Nat × Nat)) => policed (mailed .running cmdStrainerSet 0 l) (2 ^ 71)
     let body : RegionBody := ⟨71, 15, 1, 0, 0⟩
     (busyWith (set []) 7 cmdStrainerSet ∧ policyAllows (set []) 7 body.strainer.val = true ∧
       regionIndex body.strainer.val body.region.val = some 511 ∧ (set []).epochOn = false ∧
       (set [(F.EP_CFG_EN, 0, 1)]).epochOn = true ∧ busyWith (set [(F.EP_CFG_EN, 0, 1)]) 7 cmdStrainerSet) ∧
     (policyAllows (set []) 7 70 = false ∧ (regionIndex 70 15).isSome = true) ∧
     (let s := policed (mailed .running cmdStrainerClear 0 []) (2 ^ 4)
      busyWith s 7 cmdStrainerClear ∧ policyAllows s 7 4 = true ∧ (4 < 5 ∨ 8 ≤ 4)) ∧
     (let s := mailed .running cmdCountersign 0 [(F.LC_STATE_STATE, 0, 1)]
      busyWith s 7 cmdCountersign ∧ keysRefused s = false ∧ 0 < 1 ∧ (0xFFFF : BitVec 16).toNat + 1 ≤ 2 ^ 16 ∧ s.fl F.IF_STAT_STATE 31 = 0 ∧
      s.fb F.IF_STAT_CSIGN 31 = false) ∧
     (let s : State := { mailed .running cmdCountersign 0 [(F.IF_STAT_CSIGN, 31, 1), (F.LC_STATE_STATE, 0, 1)] with
        caddy := { up.caddy with formerR0 := mset [] [] 31 [0] } }
      busyWith s 7 cmdCountersign ∧ keysRefused s = false ∧ mget [] s.caddy.formerR0 31 ≠ [] ∧
      ∀ f ∈ (regionFields (8 + 31)).map (·.1), mget 0 s.sh (fkey f (4 * 31)) = 0)) := by
  dsimp only [busyWith]; decide +kernel

/-! ### Witnesses: Infusers, ports, register blocks -/

theorem noWait {s : State} {i : Fin 32} (h : (s.cpu (.infuser i)).wait = .none) : noEvtWait s i := by
  intro d m; rw [h]; exact Wait.noConfusion

/-- Infuser 0 waits for event 14, with a timeout. -/
def waiting : State := with_ up inf0 fun k => { k with wait := .evt 1 (2 ^ 14 + 2 ^ 47) }

theorem witness_InfuserUnits :
    (noEvtWait up 0 ∧ (waiting.cpu inf0).wait = .evt 1 (2 ^ 14 + 2 ^ 47) ∧ ((2 ^ 14 + 2 ^ 47 : Word)).getLsbD (14 : Fin 15).val = true ∧
      slice (2 ^ 14 + 2 ^ 47 : Word).toNat 47 16 ≠ 0 ∧ plainWake inf0 waiting ∧
      (infOf (putInf up 0 { infOf up 0 with timer := 1 }) 0).timer ≠ 0 ∧ noEvtWait (putInf up 0 { infOf up 0 with timer := 1 }) 0) ∧
    (let ctl := fun (s : State) => isRing0 s req0 = true ∧ openAt s (0xE02010000 + 0x1000 * 0)
     let start := word [(F.IF_CTL_START, 1)]
     let safe := word [(F.IF_CTL_START, 1), (F.IF_CTL_CLASS, 1)]
     let stop := word [(F.IF_CTL_STOP, 1)]
     let signed := putInf (put up [(F.IF_STAT_HASHV, 0, 1)]) 0 { infOf up 0 with range := some (0, 0xFFFF) }
     (ctl up ∧ bitsOf start F.IF_CTL_START = 1 ∧ ¬ bitsOf start F.IF_CTL_STOP = 1 ∧ infRuns up 0 = false ∧ up.ready 64 = true ∧
       up.fb F.IF_STAT_CSIGN 0 = false ∧ ¬ bitsOf start F.IF_CTL_CLASS = 1) ∧
     (ctl signed ∧ bitsOf safe F.IF_CTL_START = 1 ∧ ¬ bitsOf safe F.IF_CTL_STOP = 1 ∧ infRuns signed 0 = false ∧
       signed.ready 64 = true ∧ signed.fb F.IF_STAT_CSIGN 0 = false ∧ bitsOf safe F.IF_CTL_CLASS = 1 ∧
       isMachine signed req0 = true ∧ signed.fb F.IF_STAT_HASHV 0 = true ∧ entryCountersigned signed 0 = true) ∧
     (ctl (atRing up 0) ∧ isMachine (atRing up 0) req0 = false ∧ infRuns (atRing up 0) 0 = false ∧ (atRing up 0).ready 64 = true ∧
       (atRing up 0).fb F.IF_STAT_CSIGN 0 = false) ∧
     (let s := put (atRing up 0) [(F.IF_STAT_STATE, 0, 2)]
      ctl s ∧ bitsOf stop F.IF_CTL_STOP = 1 ∧ ¬ bitsOf stop F.IF_CTL_START = 1 ∧ infRuns s 0 = true ∧ s.fb F.IF_STAT_SAFETY 0 = false ∧
      (s.cpu inf0).sb = [] ∧ ((with_ s inf0 fun k => { k with sb := [infEntry] }).cpu inf0).sb ≠ []) ∧
     ((infOf (putInf up 0 { infOf up 0 with stopping := true }) 0).stopping = true ∧ (up.cpu inf0).sb = []) ∧
     (let s := put (atRing up 0) [(F.IF_STAT_STATE, 0, 2), (F.IF_STAT_SAFETY, 0, 1)]
      ctl s ∧ infRuns s 0 = true ∧ s.fb F.IF_STAT_SAFETY 0 = true ∧ isMachine s req0 = false) ∧
     (isRing0 up req0 = true ∧ openAt up (0xE02000000 + 8 * 55) ∧ infRuns up (up.fl F.IF_PGRP_OWNER 55) = false ∧
       infRuns up (bitsOf (word [(F.IF_PGRP_OWNER, 31)]) F.IF_PGRP_OWNER) = false) ∧
     (openAt up (0xE02010020 + 0x1000 * 0) ∧ bitsOf (word [(F.IF_DOORBELL_RING, 1)]) F.IF_DOORBELL_RING = 1 ∧ noEvtWait up 0) ∧
     (let x := infOf (putInf up 0 { infOf up 0 with b1 := { held := some (headerPacket [] []) }, order := [true] }) 0
      x.b1.held = some (headerPacket [] []) ∧ x.order.head? = some ((1 : Fin 2) == 1))) := by
  dsimp only
  repeat' (first | decide +kernel | exact opens (by decide +kernel) | exact noWait (by decide +kernel)
                  | exact plain (by decide +kernel) | apply And.intro)

/-- Port group `g` as given. -/
def portIs (g : Nat) (p : Port) : State := putPort up g p
def frame8 : RxFrame := ⟨0, false, 0, List.replicate 8 0⟩

theorem witness_PortsAndNetworks :
    ((∀ r ∈ [0, 2, 8, 9, 10, 11, 12, 13], groupHas 39 r = true) ∧ (∃ u, portGate up 39 = .ok () u) ∧ (portOf (portIs 39 { rx := [frame8] }) 39).rx = frame8 :: [] ∧
     16384 < txUsed (portOf (portIs 39 { tx := List.replicate 64 ⟨0, false, List.replicate 256 0⟩ }) 39) + 8 ∧
     (txUsed (portOf up 39) + 8 ≤ 16384 ∧ (portOf up 39).txlen.toNat % 2 ^ 16 = 0) ∧
     (let p : Port := { txlen := 8 }; txUsed p + 8 ≤ 16384 ∧ p.txlen.toNat % 2 ^ 16 ≠ 0 ∧
       p.txlen.toNat % 2 ^ 16 ≤ (p.openTx ++ natBytes 0 8).length ∧ ({ p with txlen := 9 } : Port).txlen.toNat % 2 ^ 16 = 9) ∧
     ((portOf (portIs 39 { openTx := List.replicate 8 0 }) 39).openTx ≠ [] ∧ (8 : Word).toNat % 8 = 0 ∧ (1 : Word).toNat % 8 ≠ 0) ∧
     (let p := portOf (portIs 7 { ctrl := 1 }) 7
      portHears (portIs 7 { ctrl := 1 }) 7 = true ∧ frameForm p 7 (List.replicate 8 0) = true ∧ p.rx.length < 64 ∧
      rxUsed p + (List.replicate 8 (0 : Byte)).length ≤ rxCap 7) ∧
     (let p := portOf (portIs 7 { ctrl := 1, rx := List.replicate 64 frame8 }) 7
      portHears (portIs 7 { ctrl := 1, rx := List.replicate 64 frame8 }) 7 = true ∧ ¬ p.rx.length < 64) ∧
     (let s := portIs 15 { ctrl := 1, cfg := 1 + 8 * 2 ^ 6 }
      portHears s 15 = true ∧ frameForm (portOf s 15) 15 (List.replicate 8 0) = true ∧ t1sTag (portOf s 15) 7 = some 7 ∧
      t1sTag (portOf s 15) 8 = none ∧ t1sTag (portOf (portIs 15 { ctrl := 1 }) 15) 7 = some 255) ∧
     (portHears (portIs 23 { ctrl := 1 }) 23 = true ∧ frameForm (portOf (portIs 23 { ctrl := 1 }) 23) 23 (List.replicate 9 0) = false) ∧
     (let s := portIs 16 { ctrl := 1, slots := [(7, natBytes 0 8)] }
      (isCan 16 = true → s.fl F.NW_CANSTAT_ESTATE 0 ≠ 2) ∧ (portOf s 16).ctrl.getLsbD 0 = true ∧ portClock s 16 = true ∧ txClean (portOf s 16) 16 = portOf s 16 ∧
      (portOf s 16).slots = (7, natBytes 0 8) :: [] ∧ (portOf s 16).slots ≠ [] ∧ isCan 16 = true ∧ s.fl F.NW_CANSTAT_TEC 0 < 248 ∧
      248 ≤ (put s [(F.NW_CANSTAT_TEC, 0, 248)]).fl F.NW_CANSTAT_TEC 0) ∧
     (let s : State := { portIs 0 { ctrl := 1, tx := [⟨0, true, []⟩] } with gates := mset {} [] 0 { oper := [(1, 1)] } }
      (isCan 0 = true → s.fl F.NW_CANSTAT_ESTATE 0 ≠ 2) ∧ (portOf s 0).slots = [] ∧ (portOf s 0).tx = ⟨0, true, []⟩ :: [] ∧ portClock s 0 = true ∧
      txClean (portOf s 0) 0 = portOf s 0 ∧ txBurst (portOf s 0) 0 = 1 ∧
      (8 ≤ 0 ∨ classGated s 0 0 (frameNs (portOf s 0) 0 0) = true) ∧ (portOf s 0).ctrl.getLsbD 0 = true)) ∧
    ((let s : State := { up with gates := mset {} [] 7 { fresh := true } }
      (mget {} s.gates 7).fresh = true ∧ s.fl F.NW_GCLBASE_BASE 7 ≤ s.fl F.EP_NOW_VALUE 0) ∧
     (let s := put up [(F.NW_CANSLOT_VALID, 63, 1), (F.EP_CFG_EN, 0, 1)]
      s.fb F.NW_CANSLOT_VALID (8 * 7 + 7) = true ∧ s.epochOn = true ∧ (portOf s (16 + 7)).queued.getLsbD 7 = false ∧
      s.fl F.NW_CANSLOT_OFFSET 63 * 1000 < periodNs s ∧ tickAt s (s.fl F.EP_EPOCH_VALUE 0) + s.fl F.NW_CANSLOT_OFFSET 63 * 1000 < 2 ^ 64) ∧
     (let s := put (portIs 23 { cfg := 256 }) [(F.NW_CANSTAT_ESTATE, 7, 2)]
      s.fl F.NW_CANSTAT_ESTATE 7 = 2 ∧ (portOf s (16 + 7)).cfg.getLsbD 8 = true) ∧
     (portOf up 55).up ≠ true ∧ portClock up 0 = true ∧ portClock up 16 = true) ∧
    (let s := putUsb up 1 { bulk := some 8 }
     usbHas s 1 (7 : Fin 8).val = true ∧ usbHas up 1 0 = false ∧ usbWaits s 1 (.bulkOut 7 0xC00000000 [1]) = none ∧
     usbWaits s 1 (.bulkIn 7 0xC00000000 8) = none) := by
  dsimp only
  repeat' (first | decide +kernel | exact ⟨_, rfl⟩ | apply And.intro)

theorem witness_UnitRegisters :
    (let s := put up [(F.IC_SRC_PRIO, 1023, 7), (F.IC_SRC_EDGE, 1023, 1)]
     let sec := put up [(F.IC_SRC_SECURE, 1023, 1)]
     (s.fl F.IC_SRC_PRIO 1023 ≠ 0 ∧ s.fb F.IC_SRC_LINE 1023 = false ∧ s.fb F.IC_SRC_EDGE 1023 = true ∧ up.fb F.IC_SRC_EDGE 1023 = false) ∧
     (openAt s (0xE00201000 + 8 * 1023) ∧ s.fb F.IC_SRC_SECURE 1023 = false) ∧
     (openAt sec (0xE00201000 + 8 * 1023) ∧ sec.fb F.IC_SRC_SECURE 1023 = true) ∧ openAt up 0xE00200010 ∧
     (openAt up (0xE01014000 + 0x10 * 15) ∧ openAt up (0xE01014100 + 0x10 * 15) ∧ isMachine up req0 = true) ∧
     bitsOf (word [(F.NG_SQCFG_EN, 1)]) F.NG_SQCFG_EN = 1 ∧ up.fb F.NG_SQCFG_EN 15 = false ∧ bitsOf 0 F.NG_SQCFG_EN = 0 ∧
     bitsOf (word [(F.NG_RQCFG_EN, 1), (F.NG_RQCFG_OVERRUN, 1)]) F.NG_RQCFG_EN = 1 ∧
     bitsOf (word [(F.NG_RQCFG_EN, 1), (F.NG_RQCFG_OVERRUN, 1)]) F.NG_RQCFG_OVERRUN = 1 ∧
     (openAt (atRing up 3) (0xE01014000 + 0x10 * 15) ∧ openAt (atRing up 3) (0xE01014100 + 0x10 * 15) ∧
       isMachine (atRing up 3) req0 = false) ∧
     (openAt up (0xE02010100 + 0x1000 * 31 + 8 * 31) ∧ 31 < 32 ∧ isRing0 up req0 = true ∧ up.epochOn = false ∧
       openAt (put up [(F.EP_CFG_EN, 0, 1)]) (0xE02010100 + 0x1000 * 31 + 8 * 31) ∧
       isRing0 (put up [(F.EP_CFG_EN, 0, 1)]) req0 = true ∧ (put up [(F.EP_CFG_EN, 0, 1)]).epochOn = true ∧
       openAt (atRing up 3) (0xE02010100 + 0x1000 * 31 + 8 * 31) ∧ isRing0 (atRing up 3) req0 = false) ∧
     (target up 0xE00300000 = .reg ∧ neverFabric 0xE00300000 = true ∧ up.dregs.queue.length < 16)) := by
  dsimp only
  repeat' (first | decide +kernel | exact opens (by decide +kernel) | apply And.intro)

theorem witness_CacheRegisters :
    (let v := word [(F.L3_CCTL_DCEN, 1), (F.L3_CCTL_ICEN, 1)]
     let on := put up [(F.L3_CCTL_DCEN, 15, 1), (F.L3_CCTL_ICEN, 15, 1), (F.L3_L2CTL_EN, 3, 1), (F.L3_SLCTL_EN, 7, 1)]
     let swept := put up [(F.L3_CCTL_DSWEPT, 15, 1), (F.L3_CCTL_ICEN, 15, 1), (F.L3_L2CTL_EN, 3, 1)]
     isMachine up req0 = true ∧ isMachine (atRing up 0) req0 = false ∧
     (isMachine swept req0 = true ∧ bitsOf v F.L3_CCTL_DCEN = 1 ∧ swept.fb F.L3_CCTL_DCEN 15 = false ∧
       swept.fb F.L3_CCTL_DSWEPT 15 = true ∧ swept.fb F.L3_L2CTL_EN (clusterOf 15).val = true ∧
       (bitsOf v F.L3_CCTL_ICEN = 1 → swept.fb F.L3_CCTL_ICEN 15 = true)) ∧
     (up.fb F.L3_CCTL_DCEN 15 = false ∧ up.fb F.L3_L2CTL_EN (clusterOf 15).val = false) ∧
     (isMachine on req0 = true ∧ ¬ bitsOf 0 F.L3_CCTL_DCEN = 1 ∧ on.fb F.L3_CCTL_DCEN 15 = true) ∧
     (bitsOf (word [(F.L3_L2CTL_EN, 1)]) F.L3_L2CTL_EN = 1 ∧ up.fb F.L3_L2CTL_EN 3 = false) ∧
     (¬ bitsOf 0 F.L3_L2CTL_EN = 1 ∧ on.fb F.L3_L2CTL_EN 3 = true) ∧
     (bitsOf (word [(F.L3_SLCTL_EN, 1)]) F.L3_SLCTL_EN = 1 ∧ up.fb F.L3_SLCTL_EN 7 = false) ∧
     (¬ bitsOf 0 F.L3_SLCTL_EN = 1 ∧ on.fb F.L3_SLCTL_EN 7 = true)) := by
  dsimp only; decide +kernel

/-! ### Witnesses: links, the router, packets -/

/-- Link or port `n` in state `st`, beside its registers as given. -/
def linkIs (n st : Nat) (x : Link) (l : List (Fld × Nat × Nat)) : State :=
  putLk (put up (((if n < 32 then (F.NG_LINKSTAT_STATE, n, st) else (F.MR_PORTSTAT_STATE, n - 32, st)) :: l))) n x

def hello : Hello := ⟨0x20, 0x31, 0x3FF, 7, 1, 0, 0, true⟩

theorem witness_LinkTraining :
    (let few := fun (s : State) (n : Nat) => 32 ≤ n ∨
       (recent s 1000000000 (lk s n).retrainTimes).length + 1 < max 1 (s.fl F.NG_LINKCFG_QUAR_THR n)
     (openAt up (0xE01001000 + 0x40 * 31) ∧ bitsOf (word [(F.NG_LINKCFG_EN, 1)]) F.NG_LINKCFG_EN = 1 ∧ lstate up 31 = 0 ∧
       lstate (linkIs 31 9 {} []) 31 = 9) ∧
     (openAt (linkIs 31 5 {} []) (0xE01001000 + 0x40 * 31) ∧ bitsOf 0 F.NG_LINKCFG_EN = 0 ∧ lstate (linkIs 31 5 {} []) 31 ≠ 0 ∧
       (linkIs 31 5 {} []).fb F.NG_LINKSTAT_BONDED 31 = false) ∧
     (linkEnabled (linkIs 31 1 {} [(F.NG_LINKCFG_EN, 31, 1)]) 31 = true ∧ training (linkIs 31 1 {} [(F.NG_LINKCFG_EN, 31, 1)]) 31 = true) ∧
     (linkEnabled (linkIs 33 9 {} [(F.MR_CFG_EN, 0, 1)]) 33 = true ∧ lstate (linkIs 33 9 {} [(F.MR_CFG_EN, 0, 1)]) 33 = 9) ∧
     (training (linkIs 33 6 {} []) 33 = true ∧ (lk (linkIs 33 6 {} []) 33).symbols = false) ∧
     (∀ n ∈ [31, 33], training (linkIs n 1 { symbols := true } []) n = true ∧ (lk (linkIs n 1 { symbols := true } []) n).symbols = true) ∧
     ((100000 : BitVec 20).toNat ≤ 100000 ∧ 100000 < (100001 : BitVec 20).toNat ∧ (2000 : BitVec 20).toNat ≤ 2000) ∧
     (∀ n ∈ [31, 33], training (linkIs n 1 { locked := true } []) n = true ∧ (lk (linkIs n 1 { locked := true } []) n).locked = true) ∧
     (few (linkIs 31 1 { locked := true } [(F.NG_LINKCFG_QUAR_THR, 31, 2)]) 31 ∧ few (linkIs 33 1 {} []) 33 ∧
       ¬ few (linkIs 31 1 { locked := true } [(F.NG_LINKCFG_QUAR_THR, 31, 1)]) 31) ∧
     (∀ n ∈ [31, 33], linkClock (linkIs n 1 { symbols := true } []) n = true) ∧
     (let low := fun (v : Nat) => max (verLow (lk (linkIs 31 1 { locked := true, verlim := v } []) 31).verlim) hello.verLo.toNat
      low 0 ≤ min 0x31 hello.verHi.toNat ∧ 0x30 ≤ min 0x31 hello.verHi.toNat ∧ min 0x31 (0x20 : BitVec 8).toNat < low 2 ∧
      bitAt (hello.cap.toNat &&& capsOf 0x31) 3 = true ∧ bitAt (0 &&& capsOf 0x31) 3 = false) ∧
     (let s : State := { linkIs 31 4 {} [] with clk := { up.clk with caddyPll := true } }
      lstate s 31 = 4 ∧ mayLeaveAuth s = true ∧ s.clk.caddyPll = true ∧ caddyTakes s 31 = true) ∧
     (let o : AuthOutcome := ⟨true, true, true, true, 0, true, true⟩
      certSigned up o = true ∧ certSigned up { o with makerSigned := false } = false ∧ o.transcript = true ∧ (up.sup.rtc.isSome = true → o.inValidity = true) ∧ (32 ≤ 33 → o.mirrorRole = true)) ∧
     (lstate (linkIs 31 4 { session := true } []) 31 = 4 ∧ (lk (linkIs 31 4 { session := true } []) 31).session = true ∧
       (lk (linkIs 31 4 { session := true } []) 31).quar = 0 ∧ (lk (linkIs 31 4 { session := true, quar := 3 } []) 31).quar ≠ 0 ∧
       (let s := linkIs 33 4 { session := true, ver := 0x12 } []
        lstate s 33 = 4 ∧ mayLeaveAuth s = true ∧ (lk s 33).session = true ∧ (lk s 33).quar = 0 ∧ (lk s 33).ver ≠ s.fl F.MR_VER_AGREED 0 ∧
        lstate s (65 - 33) ≠ 5 ∧ lstate s (65 - 33) ≠ 7 ∧ lstate (put s [(F.MR_PORTSTAT_STATE, 0, 7)]) (65 - 33) = 7 ∧
        (lk s 33).ver = (put s [(F.MR_VER_AGREED, 0, 0x12)]).fl F.MR_VER_AGREED 0)) ∧
     (let s := putLk (putLk (linkIs 31 4 { bondOk := true, skew := 20, bond := 1 } [(F.NG_LINKSTAT_BONDED, 30, 1)]) 30 { bond := 1 }) 34
        { session := true }
      lstate s 31 = 4 ∧ mayLeaveAuth s = true ∧ bondFits s 31 = true ∧ (lk s 31).bondOk = true ∧ (lk s 31).quar = 0 ∧ (lk s (33 + (lk s 31).bond)).session = true ∧
      bondMates s 31 ≠ [] ∧ (lk s 31).skew ≤ 20) ∧
     (linkIs 31 5 {} [(F.NG_LINKSTAT_BONDED, 31, 1)]).fb F.NG_LINKSTAT_BONDED 31 = true ∧
     (trained (linkIs 31 5 {} []) 31 = true ∧ trained (linkIs 33 7 {} []) 33 = true) ∧
     (∀ e ∈ [(6, true), (4, false), (8, true)], trained (linkIs 31 e.1 { locked := e.2, untrained := true } []) 31 = false ∧
       hasLock (linkIs 31 e.1 { locked := e.2, untrained := true } []) 31 = true)) := by
  dsimp only
  repeat' (first | decide +kernel | exact opens (by decide +kernel) | apply And.intro)

theorem witness_LinkTraffic :
    (let s := linkIs 31 7 { session := true, rekeying := true, replay := 1, rxSeq := 4095, txCount := 2 ^ 44 } [(F.NG_LINKSTAT_CAP, 31, 512), (F.NG_LINKCFG_QUAR_THR, 31, 2),
       (F.NG_LINKCFG_RETRAIN_THR, 31, 2)]
     let f : Flit := ⟨4095, .data, 1, false, true⟩
     (trained s 31 = true ∧ f.good = true ∧ f.seq.toNat = (lk s (homeOf s 31)).rxSeq ∧ lstate s 31 = 7 ∧ f.credit.toNat ≠ 0 ∧
       ({ f with seq := 0 } : Flit).seq.toNat ≠ (lk s (homeOf s 31)).rxSeq ∧ ({ f with good := false } : Flit).good = false ∧
       f.ftype = .data ∧ ({ f with ftype := .idle } : Flit).ftype ≠ .data ∧ (lk s (homeOf s 31)).ahead = [] ∧
       earlyWindow s 31 ≤ flitLead (lk s (homeOf s 31)) 0 ∧ (lk s (homeOf s 31)).unsent = 0 ∧
       (let b := putLk (linkIs 31 5 { bond := 1 } [(F.NG_LINKSTAT_BONDED, 31, 1), (F.NG_LINKSTAT_BONDED, 30, 1), (F.NG_LINKSTAT_STATE, 30, 5)]) 30 { bond := 1 }
        trained b 31 = true ∧ (1 : BitVec 12).toNat ≠ (lk b (homeOf b 31)).rxSeq ∧ flitLead (lk b (homeOf b 31)) 1 < earlyWindow b 31 ∧
        (lk b (homeOf b 31)).unsent = 0) ∧
       homeOf s 31 = 31 ∧ (lk s 31).errTimes = [] ∧ 2 ≤ s.fl F.NG_LINKCFG_RETRAIN_THR 31 ∧ 0 < (lk s (homeOf s 31)).replay) ∧
     (lstate (linkIs 31 5 {} []) 31 = 5 ∧ (lk (linkIs 31 5 {} []) (homeOf (linkIs 31 5 {} []) 31)).credit = 0) ∧
     ((recent s 1000000000 (lk s 31).retrainTimes).length + 1 < max 1 (s.fl F.NG_LINKCFG_QUAR_THR 31)) ∧
     (let x := lk s (sessHome s 31)
      x.session = true ∧ caddyReady s = true ∧ rekeyDue s x = true ∧ linkCap s 31 9 = true ∧ x.rekeying = true ∧
      Machine.carried x (2 ^ 44) = true) ∧
     (let m := linkIs 33 5 { session := true, txCount := 2 ^ 40 } []
      trained m 33 = true ∧ (lk m (sessHome m 33)).session = true ∧ caddyReady m = true ∧ rekeyDue m (lk m (sessHome m 33)) = true ∧
      32 ≤ 33)) ∧
    (let only := fun (v : Word) (f : Fld) => ∀ g ∈ [F.NG_LINKCTL_RETRAIN, F.NG_LINKCTL_QUARANTINE, F.NG_LINKCTL_RELEASE,
       F.NG_LINKCTL_CLRERR], bitsOf v g = 1 ↔ g = f
     let key := (F.NG_LINKCTL_KEY, 0x5155)
     let s := linkIs 31 5 {} [(F.NG_LINKCFG_QUAR_THR, 31, 2)]
     (isRing0 s req0 = true ∧ openAt s (0xE01001018 + 0x40 * 31) ∧ lstate s 31 ≠ 0 ∧ lstate s 31 ≠ 9 ∧ lstate s 31 = 5 ∧
       (recent s 1000000000 (lk s 31).retrainTimes).length + 1 < max 1 (s.fl F.NG_LINKCFG_QUAR_THR 31)) ∧
     only (word [(F.NG_LINKCTL_RETRAIN, 1)]) F.NG_LINKCTL_RETRAIN ∧
     (only (word [(F.NG_LINKCTL_QUARANTINE, 1), key]) F.NG_LINKCTL_QUARANTINE ∧
       bitsOf (word [(F.NG_LINKCTL_QUARANTINE, 1), key]) F.NG_LINKCTL_KEY = 0x5155 ∧ (lk s 31).quar ≠ 3) ∧
     (only (word [(F.NG_LINKCTL_QUARANTINE, 1)]) F.NG_LINKCTL_QUARANTINE ∧
       bitsOf (word [(F.NG_LINKCTL_QUARANTINE, 1)]) F.NG_LINKCTL_KEY ≠ 0x5155) ∧
     only (word [(F.NG_LINKCTL_RELEASE, 1), key]) F.NG_LINKCTL_RELEASE ∧ only (word [(F.NG_LINKCTL_CLRERR, 1)]) F.NG_LINKCTL_CLRERR ∧
     ((lk (linkIs 31 8 { quar := 7 } []) 31).quar = 7 ∧ lstate (linkIs 31 8 { quar := 7 } []) 31 = 8 ∧
       openAt (linkIs 31 8 { quar := 7 } []) (0xE01001018 + 0x40 * 31)) ∧
     ((lk (linkIs 31 8 { quar := 3 } []) 31).quar = 3 ∧ bitAt ((linkIs 31 8 { quar := 3 } []).fl F.NG_POLICY_LEGACY_TRUST 0) 31 = false)) := by
  dsimp only
  repeat' (first | decide +kernel | exact opens (by decide +kernel) | apply And.intro)

/-- A packet for this device, or for node `dst`. -/
def pkt (cmd : Nat) (sub : BitVec 4) (tag : BitVec 16) (addr : BitVec 36) (len : BitVec 13) (payload : List Byte) : Packet :=
  { blankPacket with cmd := BitVec.ofNat 4 cmd, sub := sub, tag := tag, addr := addr, len := len, payload := payload,
                     dst := 0x3FFFF, deadline := 2 ^ 63 }

/-- Link 31 ACTIVE at version 3.1 with a session and a window that admits everything, and the fields given. -/
def linked (l : List (Fld × Nat × Nat)) : State :=
  linkIs 31 5 { session := true } ([(F.NG_LINKSTAT_VERSION, 31, 0x31), (F.NG_LINKSTAT_CAP, 31, 0x3FF), (F.ST_WINCTL_VALID, 511, 1),
    (F.ST_WINCTL_PERM, 511, 31), (F.ST_WINRANGE_LIMIT, 511, 0xFFFFFF)] ++ l)

/-- A device of node 0 whose route to node 1 is link 30, which is ACTIVE. -/
def routed : State :=
  put (linked []) [(F.NG_NODEID_ID, 0, 0), (F.NG_LINKSTAT_STATE, 30, 5), (F.NG_LINKSTAT_VERSION, 30, 0x31),
    (F.NG_LINKSTAT_CAP, 30, 0x3FF), (F.NG_POSROUTE_PORT, 1, 30)]

theorem witness_RouterPackets :
    (let far := { pkt pRead 0 0 0 8 [] with dst := 1 }
     let s1 := counted routed 31 far
     let a := arrived routed 31 far
     (trained routed 31 = true ∧ lstate routed 31 ≠ 8 ∧ reversePath s1 31 a.src.toNat = true ∧ far.cmd.toNat ≠ pMirror ∧ far.path = false ∧
       routePkt s1 a = .out 30 0 ∧ lacks s1 30 a = none ∧ tooLate s1 30 a 0 90 = false) ∧
     (routed.fb F.NG_LINKCFG_RPF 31 = false ∧ (pkt pMirror 0 0 0 0 []).cmd.toNat = pMirror) ∧
     (lk routed (sessHome routed 31)).session = true ∧
     (let e : QPkt := ⟨far, 0, 0, true, none⟩
      let s := putOut routed 30 [e]
      outQ s 30 = [] ++ e :: [] ∧ isCopy far e.viaLink e.k = true ∧ (∀ p', p' < 30 → ∀ f ∈ outQ s p', ¬ isCopy far f.viaLink f.k = true)) ∧
     (let s := linkIs 31 5 {} [(F.NG_LINKSTAT_VERSION, 31, 0x21)]
      linkVer s 31 ≠ 0 ∧ linkCap s 31 0 = false ∧ outQ s 31 = []) ∧
     (trained (linkIs 31 6 {} []) 31 = false ∧ lstate (linkIs 31 6 {} []) 31 ≠ 0)) := by
  dsimp only; decide +kernel

/-- `Comes` as a check. -/
def comesB (s : State) (l : Fin 34) (k : Packet) (cmd : Nat) : Bool :=
  decide (k.cmd.toNat = cmd ∧ isHere s k = true ∧ trained s l.val = true ∧ lstate s l.val ≠ 8 ∧
    reversePath (counted s l.val k) l.val (arrived s l.val k).src.toNat = true ∧
    requestFault (tracePacket (turned s l.val k) false (arrived s l.val k)) (arrived s l.val k) = none)

theorem comes {s : State} {l : Fin 34} {k : Packet} {cmd : Nat} (h : comesB s l k cmd = true) : Comes s l k cmd := by
  have h := of_decide_eq_true h
  exact ⟨h.1, h.2.1, h.2.2.1, h.2.2.2.1, h.2.2.2.2.1, h.2.2.2.2.2⟩

/-- The packet is admitted from link 31 with type 0 and partition 0, and `P` holds of the state left. -/
def Admitted (s : State) (k : Packet) (P : State → Bool) : Prop :=
  ∃ s3, admitPacket (taking s 31 k) 31 (arrived s 31 k) = (.ok 0 0, s3) ∧ P s3 = true

theorem admitted {s : State} {k : Packet} {P : State → Bool}
    (h : (let r := admitPacket (taking s 31 k) 31 (arrived s 31 k); decide (r.1 = .ok 0 0) && P r.2) = true) : Admitted s k P := by
  have h := Bool.and_eq_true_iff.mp h
  exact ⟨_, Prod.ext (of_decide_eq_true h.1) rfl, h.2⟩

/-- A request from link 31 meets what every request must. -/
def Requests (s : State) (k : Packet) (cmd : Nat) : Prop :=
  Comes s 31 k cmd ∧ subFault (arrived s 31 k) = false ∧ (taking s 31 k).router.waiting = [] ∧ (arrived s 31 k).payload.length ≤ 4096 ∧
    (cmd = pRead ∨ cmd = pWrite ∨ cmd = pAtomic →
      accessFault (taking s 31 k) (arrived s 31 k) (.fabric 31 (arrived s 31 k).src (arrived s 31 k).cmd (arrived s 31 k).part) = none)

/-- Who a request is performed for. -/
def origin (s : State) (k : Packet) : Origin :=
  ⟨1, some 0, .fabric 31 (arrived s 31 k).src (arrived s 31 k).cmd (BitVec.ofNat 6 0), 0⟩

theorem witness_FabricRequests :
    (let s := linked []
     let qs := linked [(F.NG_RQCFG_EN, 15, 1)]
     let full : State := { qs with router := { qs.router with rq := mset {} [] 15 { lens := [0, 0] } } }
     let rd := pkt pRead 0 0 0xC00000000 8 []
     let wr := pkt pWrite 0 0 0xC00000000 8 (List.replicate 8 1)
     let at_ := pkt pAtomic 4 0 0xC00000000 16 (List.replicate 16 1)
     let msg := pkt pMessage 0 0 15 0 []
     let ev := pkt pEvent 0 0 63 0 []
     let hb := pkt pEvent 1 0xC000 0 0 []
     let far := pkt pRead 0 0 0xC00000000 8 []
     (Requests s rd pRead ∧ Admitted s rd fun s3 => tryR (requestRead s3 (origin s rd) 0xC00000000 8) fun _ _ => true) ∧
     (Requests s wr pWrite ∧ Admitted s wr fun s3 => tryR (requestWrite s3 (origin s wr) 0xC00000000 wr.payload) fun _ _ => true) ∧
     (Requests s at_ pAtomic ∧ Admitted s at_ fun s3 =>
       tryR (requestAtomic s3 (origin s at_) 0xC00000000 8 (atomicFn (arrived s 31 at_) 8)) fun _ _ => true) ∧
     (Requests qs msg pMessage ∧ Admitted qs msg fun s3 => decide ((arrived qs 31 msg).addr.toNat < 16) && s3.fb F.NG_RQCFG_EN 15 &&
       rqFits s3 15 msg && rqFree s3 15 && tryR (fillSlot s3 15 (arrived qs 31 msg)) fun _ _ => true) ∧
     (Requests s msg pMessage ∧ Admitted s msg fun s3 => !s3.fb F.NG_RQCFG_EN 15) ∧
     (Requests full msg pMessage ∧ Admitted full msg fun s3 => s3.fb F.NG_RQCFG_EN 15 && rqFits s3 15 msg && !rqFree s3 15) ∧
     (Requests s ev pEvent ∧ ev.sub ≠ 1 ∧ Admitted s ev fun _ => decide ((arrived s 31 ev).addr.toNat < 64)) ∧
     (let m := linked [(F.MR_CFG_EN, 0, 1), (F.MR_CFG_PARTNER, 0, 0)]
      Requests m hb pEvent ∧ hb.sub = 1 ∧ (arrived m 31 hb).tag.toNat / 2 ^ 14 = 3 ∧
      Admitted m hb fun s3 => mrOn s3 && (arrived m 31 hb).src.toNat == s3.fl F.MR_CFG_PARTNER 0) ∧
     (let none_ := linked [(F.ST_WINCTL_VALID, 511, 0)]
      Requests none_ far pRead ∧ (admitPacket (taking none_ 31 far) 31 (arrived none_ 31 far)).1 = .refuse rDenied)) := by
  dsimp only
  repeat' (first | decide +kernel | exact comes (by decide +kernel) | exact admitted (by decide +kernel) | apply And.intro)

/-- Core 0 waits for the READ of tag 63, `wait` says how; WRITE slot 63 is held; queue 15 and the reply ring are open. -/
def expecting (wait : Wait) (abandoned : Bool) : State :=
  let s := with_ (linked [(F.NG_RQCFG_EN, 15, 1)]) core0 fun k =>
    { k with wait := wait, rtags := [⟨63, 0x100, 8, abandoned, false, false⟩], wslots := [⟨63, 16, 0, []⟩] }
  putInf s 0 { infOf s 0 with rrcfg := 1 }

theorem witness_FabricResponses :
    (let w := expecting (.remote (.g 1 8 false) 0x100 [⟨63, 0x100, 8, none⟩]) false
     let ab := expecting .none true
     let find := fun (s : State) (k : Packet) => ((taking s 31 k).cpu core0).rtags.find? (fun r => r.tag == k.tag.toNat % 64)
     let rr := pkt pReadResp 0 63 0 8 (List.replicate 8 1)
     let wa := pkt pWriteAck 0 (256 + 63) 0 0 []
     let q := fun (cmd : Nat) (sub : BitVec 4) => pkt cmd sub (2 ^ 14 + 15 * 2 ^ 10) 0 0 []
     let r := fun (cmd : Nat) (sub : BitVec 4) => pkt cmd sub (2 ^ 15) 0 0 []
     let toCore := fun (t n : Nat) => t / 2 ^ 14 = 0 ∧ Fin.ofNat 16 (t / 2 ^ 10) = (0 : Fin 16) ∧ t / 256 % 4 = n
     let toQueue := fun (k : Packet) => k.tag.toNat / 2 ^ 14 = 1 ∧ (taking ab 31 k).fb F.NG_RQCFG_EN (k.tag.toNat / 2 ^ 10 % 16) = true ∧
       rqFree (taking ab 31 k) 15 = true ∧ rqFits (taking ab 31 k) 15 (arrived ab 31 k) = true ∧
       tryR (fillSlot (taking ab 31 k) 15 (arrived ab 31 k)) (fun _ _ => true) = true
     let toRing := fun (k : Packet) => let x := infOf (taking ab 31 k) 0
       k.tag.toNat / 2 ^ 14 = 2 ∧ Fin.ofNat 32 (k.tag.toNat / 2 ^ 9) = (0 : Fin 32) ∧ x.rrcfg % 2 ^ 20 ≠ 0 ∧ x.rrFill < rrSlots x ∧
       (headerBytes (arrived ab 31 k) ++ (arrived ab 31 k).payload).length ≤ ringStride (slice x.rrcfg 22 20) ∧
       noEvtWait (taking ab 31 k) 0
     (Comes w 31 rr pReadResp ∧ toCore rr.tag.toNat 0 ∧ find w rr = some ⟨63, 0x100, 8, false, false, false⟩ ∧ plainWake core0 (taking w 31 rr) ∧
       ((taking w 31 rr).cpu core0).wait = .remote (.g 1 8 false) 0x100 [⟨63, 0x100, 8, none⟩]) ∧
     (Comes ab 31 rr pReadResp ∧ find ab rr = some ⟨63, 0x100, 8, true, false, false⟩) ∧
     (Comes ab 31 wa pWriteAck ∧ toCore wa.tag.toNat 1 ∧
       ((taking ab 31 wa).cpu core0).wslots.find? (fun w => w.slot == wa.tag.toNat % 64) = some ⟨63, 16, 0, []⟩) ∧
     (responseSub (arrived ab 31 (q pAtomicResp 0)) = false ∧ responseSub (arrived ab 31 (q pNack 1)) = false ∧
       responseSub (arrived ab 31 rr) = false ∧ responseSub (arrived ab 31 wa) = false) ∧
     (∀ e ∈ [(pAtomicResp, 0), (pNack, 1)], Comes ab 31 (q e.1 e.2) e.1) ∧ (toQueue (q pAtomicResp 0) ∧ toQueue (q pNack 1)) ∧
     (∀ e ∈ [(pAtomicResp, 0), (pNack, 1)], Comes ab 31 (r e.1 e.2) e.1) ∧ (toRing (r pAtomicResp 0) ∧ toRing (r pNack 1)) ∧
     (let k := pkt pNack 1 63 0 0 []
      Comes ab 31 k pNack ∧ responseSub (arrived ab 31 k) = false ∧ toCore k.tag.toNat 0 ∧ find ab k = some ⟨63, 0x100, 8, true, false, false⟩) ∧
     (Comes ab 31 (pkt pNack 1 0xFC00 0 0 []) pNack ∧ (0xFC00 : BitVec 16).toNat / 2 ^ 10 = 63) ∧
     (Comes ab 31 (q pMgmt 8) pMgmt ∧ toQueue (q pMgmt 8)) ∧ (Comes ab 31 (r pMgmt 8) pMgmt ∧ toRing (r pMgmt 8))) := by
  dsimp only
  simp only [List.forall_mem_cons, List.not_mem_nil, false_imp_iff, implies_true, and_true]
  repeat' (first | decide +kernel | exact comes (by decide +kernel) | exact plain (by decide +kernel)
                  | exact noWait (by decide +kernel) | apply And.intro)

theorem witness_FabricManagement :
    (let s := linked [(F.NG_MGMTAUTH_VALID, 3, 1), (F.NG_MGMTAUTH_NODE, 3, 0)]
     (∀ n ∈ [0, 1, 2, 3, 4, 5, 6, 7], Comes s 31 (pkt pMgmt (BitVec.ofNat 4 n) 0 0 0 []) pMgmt) ∧
     mgmtMay (taking s 31 (pkt pMgmt 1 0 0 0 [])) (arrived s 31 (pkt pMgmt 1 0 0 0 [])) = true ∧
     (taking s 31 (pkt pMgmt 1 0 0 0 [])).fl F.NG_NODEID_ID 0 = 0x3FFFE ∧ mgmtWord (arrived s 31 (pkt pMgmt 1 0 0 0 [])) 0 < 0x3FFFE ∧
     Comes (linked []) 31 (pkt pMgmt 1 0 0 0 []) pMgmt ∧
     mgmtMay (taking (linked []) 31 (pkt pMgmt 1 0 0 0 [])) (arrived (linked []) 31 (pkt pMgmt 1 0 0 0 [])) = false) := by
  dsimp only
  simp only [List.forall_mem_cons, List.not_mem_nil, false_imp_iff, implies_true, and_true]
  repeat' (first | decide +kernel | exact comes (by decide +kernel) | apply And.intro)

/-- A packet of that deadline waits at port `p`, and link 31 holds `credit`. -/
def leaving (p credit : Nat) (deadline : BitVec 64) : State :=
  let s := putOut (put (linked []) [(F.EP_NOW_VALUE, 0, 1000000)]) p [⟨{ pkt pRead 0 0 0xC00000000 8 [] with deadline := deadline }, 0, 0, false, none⟩]
  putLk s 31 { lk s 31 with credit := credit }

theorem witness_PacketsLeaving :
    (let q := fun (d : BitVec 64) => (⟨{ pkt pRead 0 0 0xC00000000 8 [] with deadline := d }, 0, 0, false, none⟩ : QPkt)
     let late := fun (s : State) (d : BitVec 64) => d.toNat * 1000 < (fabNow s + 0) * 1000 + tailPs (portSession s 31) (q d).k
     let soon := leaving 31 100 (2 ^ 63)
     (earliest (outQ soon 31) = some (q (2 ^ 63), []) ∧ portUp soon 31 = true ∧ ¬ late soon (2 ^ 63) ∧
       (lk soon (portHome 31)).resend = none ∧ (lk soon (portHome 31)).unsent = 0 ∧ 0 < (lk soon (portHome 31)).credit ∧
       0 < (lk (putLk soon 31 { lk soon 31 with unsent := 1 }) (portHome 31)).unsent) ∧
     (earliest (outQ (leaving 31 100 0) 31) = some (q 0, []) ∧ portUp (leaving 31 100 0) 31 = true ∧ late (leaving 31 100 0) 0) ∧
     (earliest (outQ (leaving 31 0 (2 ^ 63)) 31) = some (q (2 ^ 63), []) ∧
       (lk (leaving 31 0 (2 ^ 63)) (portHome 31)).credit = 0 ∧
         newFlits (portSession (leaving 31 0 (2 ^ 63)) 31) (lk (leaving 31 0 (2 ^ 63)) (portHome 31)).fill (q (2 ^ 63)).k ≠ 0) ∧
     (let again := putLk soon 31 { lk soon 31 with resend := some 0 }
      portUp again 31 = true ∧ (lk again (portHome 31)).resend.isSome = true) ∧
     (earliest (outQ (leaving 42 0 (2 ^ 63)) 42) = some (q (2 ^ 63), []) ∧ (leaving 42 0 (2 ^ 63)).router.waiting = [] ∧
       tryR (deliver (putOut (leaving 42 0 (2 ^ 63)) 42 []) none (q (2 ^ 63)).k) (fun _ _ => true) = true) ∧
     (let s : State := { put up [(F.NG_SQADDR_CPLADDR, 15, 0xC00001000 / 8)] with
        router := { up.router with sq := mset [] [] 15 [⟨[(0xC00000000, 32)], 0⟩] } }
      mget [] s.router.sq 15 = ⟨[(0xC00000000, 32)], 0⟩ :: [] ∧
      (∀ x ∈ [((0xC00000000 : Nat), (32 : Nat)), (s.fl F.NG_SQADDR_CPLADDR 15 * 8, 8)], mustWait s x.1 x.2 = false) ∧ s.ready 35 = true ∧
      (let (block, s1) := blockBytes s [(0xC00000000, 32)]
       let s1 := { s1 with router := { s1.router with sq := mset [] s1.router.sq 15 [] } }
       tryR (queueTake s1 15 (queuePacket s1 15 0 block)) (fun _ _ => true) = true))) := by
  dsimp only; decide +kernel

theorem witness_FabricTime :
    (let s := linked [(F.EP_TSTAT_UPLINK, 0, 31), (F.EP_TSTAT_STATE, 0, 1)]
     let good : State := { s with ep := { s.ep with good := 15 } }
     let on := put s [(F.EP_CFG_EN, 0, 1)]
     (openAt up 0xE01000000 ∧ bitsOf (word [(F.NG_NODEID_ID, 0x3FFFD)]) F.NG_NODEID_ID < 0x3FFFE ∧ up.fl F.NG_NODEID_ID 0 = 0x3FFFE ∧
       openAt (put up [(F.NG_NODEID_ID, 0, 1)]) 0xE01000000 ∧ (put up [(F.NG_NODEID_ID, 0, 1)]).fl F.NG_NODEID_ID 0 ≠ 0x3FFFE ∧
       bitsOf (word [(F.NG_NODEID_ID, 0x3FFFE)]) F.NG_NODEID_ID = 0x3FFFE) ∧
     (timeLink good 31 = true ∧ reversePath (timeCounted good 31) 31 0 = true ∧ good.fl F.EP_TSTAT_UPLINK 0 = 31 ∧ good.fl F.EP_TSTAT_STATE 0 = 1 ∧ -2 ≤ (-2 : BitVec 64).toInt ∧
       (2 : BitVec 64).toInt ≤ 2 ∧ 15 ≤ good.ep.good) ∧
     (timeLink on 31 = true ∧ on.fl F.EP_TSTAT_UPLINK 0 = 31 ∧ on.fl F.EP_TSTAT_STATE 0 = 1 ∧ on.epochOn = true ∧
       ((max 1 (on.fl F.EP_TCFG_STEPLIM 0) * 1000 : Nat) : Int) < (2 ^ 40 : BitVec 64).toInt) ∧
     (timeLink s 31 = true ∧ s.epochOn = false ∧ ((max 1 (s.fl F.EP_TCFG_STEPLIM 0) * 1000 : Nat) : Int) < (2 ^ 40 : BitVec 64).toInt) ∧
     (let r := put s [(F.NG_LINKCFG_RPF, 31, 1), (F.NG_NODEID_ID, 0, 1), (F.NG_POSROUTE_PORT, 0, 30)]
      timeLink r 31 = true ∧ reversePath (timeCounted r 31) 31 0 = false) ∧
     (∀ m', m' < 32 → timeLink s m' = true → egress s m' = egress s 31 → m' = 31) ∧
     (timeLink s 31 = true ∧ timeLink s 30 = false ∧ hasUpstream up = false ∧ hasUpstream s = true ∧ 31 = s.fl F.EP_TSTAT_UPLINK 0) ∧
     (2 < (3 : BitVec 64).toInt ∧ (3 : BitVec 64).toInt ≤ ((max 1 (s.fl F.EP_TCFG_STEPLIM 0) * 1000 : Nat) : Int)) ∧
     (openAt up 0xE00500028 ∧ isMachine up req0 = true) ∧ (put up [(F.EP_ASCFG_MODE, 0, 2)]).fl F.EP_ASCFG_MODE 0 = 2) := by
  dsimp only
  repeat' (first | decide +kernel | exact opens (by decide +kernel) | apply And.intro)

/-- Epoch-deadline channel 7 with a deadline due or not, checked in or not, in epoch-kick mode. -/
def deadline (due got : BitVec 8) : State :=
  let s := put up [(F.KT_EDWCFG_MODE, 7, 1), (F.KT_EDWCFG_EN, 7, 1), (F.KT_EDWCFG_SAFETY, 7, 1)]
  { s with ep := { s.ep with expect := 128, due := due, got := got } }

theorem witness_EpochUnit :
    (let s := put up [(F.EP_CFG_EN, 0, 1), (F.EP_CFG_GUARD, 0, 1)]
     (openAt up 0xE00500000 ∧ up.epochOn = false ∧ bitsOf (word [(F.EP_CFG_EN, 1)]) F.EP_CFG_EN = 1 ∧ up.dom 15 = 0) ∧
     (s.epochOn = true ∧ sclkStopped s = false ∧ s.fl F.EP_CFG_GUARD 0 ≠ 0 ∧ mget 0 (s.setSh F.IF_PARAM_DATA 1023 1).sh (fkey F.IF_PARAM_DATA 1023) ≠ 0 ∧
       mget 0 (s.setSh F.KT_SOVAL_VALUE 0 1).sh (fkey F.KT_SOVAL_VALUE 0) ≠ 0) ∧
     ((deadline 128 0).ep.due.getLsbD 7 = true ∧ (deadline 128 0).ep.got.getLsbD 7 = false ∧ (deadline 128 0).fb F.KT_EDWCFG_SAFETY 7 = true) ∧
     ((deadline 128 128).ep.due.getLsbD 7 = true ∧ (deadline 128 128).ep.got.getLsbD 7 = true) ∧
     (∀ due ∈ [(128 : BitVec 8), 0], answers (deadline due 0) 0xE00000440 = true ∧ (128 : Word).getLsbD 7 = true ∧
       (deadline due 0).fb F.KT_EDWCFG_MODE 7 = true ∧ (deadline due 0).fb F.KT_EDWCFG_EN 7 = true ∧
       (deadline due 0).ep.expect.getLsbD 7 = true ∧ (deadline due 0).ep.got.getLsbD 7 = false) ∧
     ¬ (deadline 0 0).ep.due.getLsbD 7 = true ∧ (deadline 0 0).fl F.KT_EDWSTAT_LATECNT 0 = 0) := by
  dsimp only
  repeat' (first | decide +kernel | exact opens (by decide +kernel) | apply And.intro)

/-! ### Witnesses: the mirrored pair -/

/-- A mirror unit of that role with an ACTIVE port, and the unit and fields given. -/
def mirrored (role : Nat) (f : Mirror → Mirror) (l : List (Fld × Nat × Nat)) : State :=
  let s := linkIs 32 5 { bondOk := true } ([(F.MR_CFG_EN, 0, 1), (F.MR_STAT_ROLE, 0, role), (F.MR_CFG_ACCEPT, 0, 1),
    (F.MR_JOURNAL_SIZE, 0, 1), (F.MR_VER_AGREED, 0, 0x12)] ++ l)
  { s with mir := f s.mir }

/-- A packet of the mirror stream. -/
def mpkt (sub : BitVec 4) (payload : List Byte) : Packet := pkt pMirror sub 0 0 0 payload

theorem witness_MirrorStream :
    (let came := fun (s : State) (k : Packet) (sub : Nat) => mrOn s = true ∧ hearingPort s = some 32 ∧ k.cmd.toNat = 11 ∧ k.sub.toNat = sub ∧ corrupt k = false
     let rec_ := List.replicate 72 (0 : Byte)
     (let s := mirrored 3 (fun m => { m with frozen := [0] }) []
      mrOn s = true ∧ mrRole s = 3 ∧ s.mir.frozen = 0 :: [] ∧ mustWait s (0 * 64) 64 = false) ∧
     (let s := mirrored 3 (fun m => { m with fresh := [0] }) []
      mrRole s = 3 ∧ s.mir.frozen = [] ∧ s.mir.closing = none ∧ s.mir.fresh = 0 :: [] ∧ mustWait s (0 * 64) 64 = false) ∧
     (let s := mirrored 3 (fun m => { m with closing := some 9 }) []
      mrOn s = true ∧ mrRole s = 3 ∧ s.mir.frozen = [] ∧ s.mir.closing = some 9 ∧ s.fl F.MR_STAT_LATECNT 0 < 255 ∧
      (∀ x ∈ (ckptLines s).take 128, mustWait s (x * 64) 64 = false)) ∧
     (∀ r ∈ [0, 1, 2], let s := mirrored r id []
      mrRole s = r ∧ rec_.length = 72 ∧ recordsWait s (records 56 rec_) = false ∧ came s (mpkt 0 rec_) 0 ∧ came s (mpkt 2 rec_) 2 ∧
      s.fl F.MR_JFILL_RECORDS 0 < journalCap s) ∧
     (let s := mirrored 2 id [(F.MR_JFILL_RECORDS, 0, 2 ^ 21 / 80)]
      mrRole s = 2 ∧ journalCap s ≤ s.fl F.MR_JFILL_RECORDS 0 ∧ recordsWait s (records 56 rec_) = false ∧
      came s (mpkt 0 rec_) 0) ∧
     (let s := mirrored 0 id []
      recordsWait s (records 56 rec_) = false ∧ came s (mpkt 1 rec_) 1 ∧
      recordsWait (put s [(F.PW_DOM_STATE, 28, 1)]) (records 56 rec_) = true) ∧
     (∀ r ∈ [1, 2], let s := mirrored r id []
      mrRole s = r ∧ came s (mpkt 3 rec_) 3 ∧ s.mir.got = word8 rec_ 1 ∧ s.mir.gotCkpt = word8 rec_ 2 ∧ s.mir.got ≠ word8 (List.replicate 72 1) 1) ∧
     (came (mirrored 3 id []) (mpkt 4 rec_) 4 ∧ mrRole (mirrored 3 id []) = 3) ∧
     (came (mirrored 3 id []) (mpkt 6 []) 6 ∧ (mirrored 3 id []).fb F.MR_CFG_ACCEPT 0 = true ∧ (lk (mirrored 3 id []) 32).bondOk = true) ∧
     (came (mirrored 0 id []) (mpkt 6 []) 6 ∧ mrRole (mirrored 0 id []) = 0) ∧
     (let s := mirrored 0 (fun m => { m with copyLast := true }) [(F.MR_STAT_COPYING, 0, 1)]
      s.fb F.MR_STAT_COPYING 0 = true ∧ s.mir.copyLast = true) ∧
     (let s := mirrored 3 (fun m => { m with copyNext := some 0 }) [(F.MR_STAT_COPYING, 0, 1)]
      s.fb F.MR_STAT_COPYING 0 = true ∧ mrRole s = 3 ∧ s.mir.copyNext = some 0 ∧ copyLine (regionsSorted s) 0 = none)) := by
  dsimp only
  repeat' (first | decide +kernel | apply And.intro)

theorem witness_MirrorRoles :
    (let came := fun (s : State) (k : Packet) (sub : Nat) => mrOn s = true ∧ hearingPort s = some 32 ∧ k.cmd.toNat = 11 ∧ k.sub.toNat = sub ∧ corrupt k = false
     let beat := fun (role flags : Nat) => mpkt 5 (natBytes (role + flags * 256) 8)
     let only := fun (v : Word) (f : Fld) => ∀ g ∈ [F.MR_CTL_CLAIM, F.MR_CTL_OFFER, F.MR_CTL_HANDOVER, F.MR_CTL_ALONE],
       bitsOf v g = if g = f then 1 else 0
     let w := fun (f : Fld) => word [(f, 1), (F.MR_CTL_KEY, 0x4D52)]
     let ctl := fun (s : State) => openAt s 0xE00600008 ∧ isRing0 s req0 = true
     (came (mirrored 3 id []) (beat 3 0) 5 ∧ word8 (beat 3 0).payload 0 % 8 = 3 ∧ bitAt (word8 (beat 3 0).payload 0) 8 = false ∧
       bitAt ((mirrored 3 id []).fl F.KT_TRIGSTAT_RAISED 0) 9 = false) ∧
     (came (mirrored 2 id []) (beat 3 1) 5 ∧ bitAt (word8 (beat 3 1).payload 0) 8 = true ∧ mrVer (mirrored 2 id []) = 0x12) ∧
     (∀ r ∈ [1, 2, 3], let s := mirrored r (fun m => { m with hbM := 7, lastRole := 2 }) [(F.EP_CFG_EN, 0, 1), (F.MR_STAT_MISSES, 0, 2)]
      mrOn s = true ∧ s.epochOn = true ∧ s.mir.hbM < 8 ∧ s.mir.heard = false ∧ s.fl F.MR_STAT_MISSES 0 = 2 ∧ mrRole s = r ∧ s.mir.lastRole = 2) ∧
     (mirrored 1 (fun m => { m with heard := true }) []).mir.heard = true ∧
     (portUp (mirrored 1 id []) 40 = true ∧ mrVer (mirrored 1 id []) = 0x12 ∧
       (put (mirrored 1 id []) [(F.KT_SUPPLY_CARRIED, 0, 1)]).fb F.KT_SUPPLY_CARRIED 0 = true) ∧
     (let s := mirrored 1 (fun m => { m with commitAge := 2 }) []; mrRole s = 1 ∧ 2 ≤ s.mir.commitAge ∧ s.fl F.MR_STAT_MISSES 0 < 3) ∧
     (let s := mirrored 3 id [(F.MR_STAT_ROLLBACK, 0, 1), (F.MR_JFILL_RECORDS, 0, 1)]
      s.fb F.MR_STAT_ROLLBACK 0 = true ∧ s.fl F.MR_JFILL_RECORDS 0 = 0 + 1 ∧ gateWaits s (journalAt s 0) 80 = false ∧
      (let x := dmaRead s 4 none (journalAt s 0) 80; gateWaits x.2 (bytesNat (x.1.take 8)) 64 = false) ∧
      gateWaits (put s [(F.PW_DOM_STATE, 28, 1)]) (journalAt s 0) 80 = true ∧
      (put s [(F.MR_JFILL_RECORDS, 0, 0)]).fl F.MR_JFILL_RECORDS 0 = 0) ∧
     (let s := mirrored 3 (fun m => { m with handover := 2, hoTicks := 2 }) []
      came s (mpkt 7 []) 7 ∧ mrRole s = 3 ∧ s.mir.handover = 2 ∧ 2 ≤ s.mir.hoTicks) ∧
     (openAt up 0xE00600000 ∧ isMachine up req0 = true ∧ bitsOf (word [(F.MR_CFG_EN, 1)]) F.MR_CFG_EN = 1 ∧ regionsGood up = true ∧
       ¬ mrOn up = true) ∧
     (let s := put up [(F.MR_REGION_VALID, 7, 1)]; regionsGood s = false ∧ openAt s 0xE00600000 ∧ isMachine s req0 = true) ∧
     (openAt (mirrored 3 id []) 0xE00600000 ∧ isMachine (mirrored 3 id []) req0 = true ∧ ¬ bitsOf 0 F.MR_CFG_EN = 1 ∧ mrOn (mirrored 3 id []) = true) ∧
     (only (w F.MR_CTL_CLAIM) F.MR_CTL_CLAIM ∧ only (w F.MR_CTL_OFFER) F.MR_CTL_OFFER ∧ only (w F.MR_CTL_HANDOVER) F.MR_CTL_HANDOVER ∧
       only (w F.MR_CTL_ALONE) F.MR_CTL_ALONE ∧ bitsOf (w F.MR_CTL_ALONE) F.MR_CTL_KEY = 0x4D52 ∧ bitsOf 0 F.MR_CTL_KEY ≠ 0x4D52) ∧
     (let s := mirrored 0 (fun m => { m with sincePrimary := 3 }) []
      ctl s ∧ mrRole s = 0 ∧ mrOn s = true ∧ 3 ≤ s.mir.sincePrimary ∧ (mirrored 0 id []).mir.sincePrimary < 3 ∧ ctl (mirrored 0 id [])) ∧
     (let s := mirrored 3 id [(F.MR_STAT_PROLE, 0, 2), (F.MR_STAT_ISOLATED, 0, 1)]
      ctl s ∧ isMachine s req0 = true ∧ mrRole s = 3 ∧ s.fl F.MR_STAT_PROLE 0 = 2 ∧ mrVer s = 0x12 ∧ s.fb F.MR_STAT_ISOLATED 0 = true)) := by
  dsimp only
  repeat' (first | decide +kernel | exact opens (by decide +kernel) | apply And.intro)

/-! ### Witnesses: the Kettle, memory control, cameras, displays, debug -/

theorem witness_SafeOutputs :
    (let arm : Word := 0x4152
     let rel : Word := 0x524C
     let quiet := fun (s : State) => s.fl F.KT_TRIGSTAT_RAISED 0 = 0
     (isRing0 up req0 = true ∧ arm.toNat % 65536 = 0x4152 ∧ up.fb F.KT_SAFECTL_HELD 0 = true ∧ quiet up) ∧
     (let s := put up [(F.KT_SAFECTL_ARMED, 0, 1), (F.KT_SAFECTL_ARMCORE, 0, 0)]
      isRing0 s req0 = true ∧ rel.toNat % 65536 = 0x524C ∧ s.fb F.KT_SAFECTL_ARMED 0 = true ∧ s.fl F.KT_SAFECTL_ARMCORE 0 = (0 : Fin 16).val ∧ quiet s) ∧
     (¬ (rel.toNat % 65536 = 0x4152) ∧ up.fb F.KT_SAFECTL_ARMED 0 = false) ∧ isRing0 (atRing up 3) req0 = false ∧
     (mayWriteSoval up req0 = true ∧ up.epochOn = false ∧ mayWriteSoval (put up [(F.EP_CFG_EN, 0, 1)]) req0 = true ∧
       (put up [(F.EP_CFG_EN, 0, 1)]).epochOn = true ∧ mayWriteSoval (atRing up 3) req0 = false) ∧
     (up.fb F.KT_SAFECTL_LOCK 0 = false ∧ (put up [(F.KT_SAFECTL_HELD, 0, 0)]).fb F.KT_SAFECTL_HELD 0 = false ∧
       (put up [(F.KT_SAFECTL_LOCK, 0, 1)]).fb F.KT_SAFECTL_LOCK 0 = true)) := by
  dsimp only; decide +kernel

theorem witness_SafetyInputs :
    (let temps : List Byte := [125, 0, 0, 0, 0, 0, 0, 0x80]
     let wd := put up [(F.KT_WDCFG_EN, 0, 1)]
     let wdr := put up [(F.KT_WDCFG_EN, 0, 1), (F.KT_WDCFG_RSTEN, 0, 1), (F.KT_WDCFG_WMIN, 0, 1)]
     (let s := put up [(F.KT_SINCFG_EN, 15, 1), (F.KT_SINSTAT_A, 0, 0x8000)]
      s.fb F.KT_SINCFG_EN 15 = true ∧ pairBreaks s 15 = true ∧ bitAt (s.fl F.KT_SINSTAT_RAISED 0) 15 = false ∧
      bitAt (s.fl F.KT_TRIGSTAT_RAISED 0) 7 = false) ∧
     (let s := put up [(F.KT_JOYCFG_EN, 7, 1), (F.KT_JOYCFG_LO, 7, 1), (F.KT_JOYCFG_HI, 7, 4095), (F.KT_JOYCFG_FILT, 7, 1)]
      let x := List.replicate 8 ((4095 : BitVec 12), (4095 : BitVec 12))
      bitAt (s.fl F.KT_SUPPLY_PG 0) 1 = true ∧ x[(7 : Fin 8).val]? = some (4095, 4095) ∧ s.fl F.KT_JOYCFG_LO 7 ≤ 4095 ∧
      4095 ≤ s.fl F.KT_JOYCFG_HI 7 ∧ s.fb F.KT_JOYCFG_MIRROR 7 = false ∧ 4095 ≤ 4095 + s.fl F.KT_JOYCFG_WIN 7 ∧
      ¬ s.fl F.KT_JOYCFG_LO 7 ≤ 0 ∧ s.fb F.KT_JOYCFG_EN 7 = true ∧ s.fl F.KT_JOYCFG_FILT 7 ≤ 1 ∧ s.ket.joyReported.getLsbD 7 = false) ∧
     (isRing0 wd req0 = true ∧ wd.fb F.KT_WDCFG_EN 0 = true ∧ (0x574B : Word).toNat % 65536 = 0x574B ∧
       ¬ wd.fl F.KT_WDKICK_ELAPSED 0 < wd.fl F.KT_WDCFG_WMIN 0 ∧ wd.fb F.KT_WDCFG_RSTEN 0 = false ∧ (1 : Word).toNat % 65536 ≠ 0 ∧
       (1 : Word).toNat % 65536 ≠ 0x574B) ∧
     (isRing0 wdr req0 = true ∧ wdr.fb F.KT_WDCFG_EN 0 = true ∧ wdr.fl F.KT_WDKICK_ELAPSED 0 < wdr.fl F.KT_WDCFG_WMIN 0 ∧
       wdr.fb F.KT_WDCFG_RSTEN 0 = true ∧ supplied wdr ∧ wdr.warm.active = false ∧ wdr.fb F.KT_SUPPLY_CARRIED 0 = false) ∧
     isRing0 (atRing up 3) req0 = false ∧
     (temps.length = 8 ∧ (∀ t ∈ temps, t.toInt ≤ 125) ∧ (∃ t ∈ temps, t.toInt = 125) ∧ tripPoint up ≤ 125 ∧ up.ket.tempWarned = false ∧
       up.dom 15 ≤ 1 ∧ ({ up with ket := { up.ket with tempHot := true, tempCool := 1 } } : State).ket.tempHot = true ∧
       (0 : Int) < tripPoint up - 5)) := by
  dsimp only [supplied]; decide +kernel

/-- The log with a record of that class in front of the queue, a fill, and what its head's slot and its match table hold. -/
def logged (cls fill : Nat) (head : Option DRec) (table : List DMatch) : State :=
  let s := put up [(F.DREGS_STAT_FILL, 0, fill)]
  { s with dregs := { queue := [⟨1, 2, cls, 3, 0, false, false, false, 0, true⟩], slots := mset none [] 0 head, table := table } }

theorem witness_DregsLog :
    (let old : DRec := { time := 9, source := 1, cls := 0, code := 1 }
     let find := fun (s : State) (r : DRec) => s.dregs.table.find? fun e => e.source == r.source && e.code == r.code && e.cls == r.cls
     let r := fun (cls : Nat) => (⟨1, 2, cls, 3, 0, false, false, false, 0, true⟩ : DRec)
     ((logged 0 895 none []).dregs.queue = r 0 :: [] ∧ (logged 0 895 none []).fl F.DREGS_STAT_FILL 0 = 895) ∧
     (let s := logged 1 896 (some old) [⟨2, 3, 1, 0⟩]
      s.dregs.queue = r 1 :: [] ∧ 896 ≤ s.fl F.DREGS_STAT_FILL 0 ∧ find s (r 1) = some ⟨2, 3, 1, 0⟩ ∧ logSlot s 0 = some old ∧ old.repeats < 0xFFFF) ∧
     (let s := logged 1 1024 none []
      s.dregs.queue = r 1 :: [] ∧ 1024 ≤ s.fl F.DREGS_STAT_FILL 0 ∧ find s (r 1) = none ∧ (r 1).cls ≤ 1 ∧ s.fl F.DREGS_LOST_COUNT 1 = 0) ∧
     (let s := logged 4 1024 (some old) []
      s.dregs.queue = r 4 :: [] ∧ s.fl F.DREGS_STAT_FILL 0 = 1024 ∧ find s (r 4) = none ∧ 2 ≤ (r 4).cls ∧ (r 4).cls ≤ 4 ∧
      logSlot s (s.fl F.DREGS_STAT_HEAD 0) = some old ∧ old.cls = 0) ∧
     (isRing0 up req0 = true ∧ (logged 0 1024 none []).fl F.DREGS_STAT_FILL 0 ≤ 1024 ∧ isRing0 (atRing up 3) req0 = false) ∧
     (let v := word [(F.DREGS_SUBMIT_CLASS, 2), (F.DREGS_SUBMIT_CODE, 0x8000)]
      bitsOf v F.DREGS_SUBMIT_CLASS ≤ 2 ∧ 0x8000 ≤ bitsOf v F.DREGS_SUBMIT_CODE ∧ up.dregs.queue.length < 16 ∧
      ¬ 0x8000 ≤ bitsOf 0x7FFF F.DREGS_SUBMIT_CODE)) := by
  dsimp only; decide +kernel

theorem witness_DramChannels :
    (let v := word [(F.MC_CTL_INIT, 8)]
     (openAt up 0xE00800008 ∧ isMachine up req0 = true ∧ bitAt (bitsOf v F.MC_CTL_INIT) 3 = true ∧ ¬ bitsOf v F.MC_CTL_KEEP = 1 ∧
       bitsOf (word [(F.MC_CTL_INIT, 8), (F.MC_CTL_KEEP, 1)]) F.MC_CTL_KEEP = 1 ∧ bitAt (up.fl F.MC_STAT_TRAINED 0) 3 = true) ∧
     (bitsOf (word [(F.MC_CTL_FILL, 8)]) F.MC_CTL_INIT = 0 ∧ bitAt (bitsOf (word [(F.MC_CTL_FILL, 8)]) F.MC_CTL_FILL) 3 = true) ∧
     (openAt (atRing up 0) 0xE00800008 ∧ isMachine (atRing up 0) req0 = false) ∧
     (let s : State := { up with dram := { up.dram with inInit := 8 } }
      s.dram.inInit.getLsbD 3 = true ∧ powered s (28 + 3) = true) ∧
     (let s := put up [(F.MC_STAT_FILLING, 0, 8)]
      bitAt (s.fl F.MC_STAT_FILLING 0) 3 = true ∧ bitAt (s.fl F.MC_STAT_TRAINED 0) 3 = true ∧ 768 < s.dram.usable ∧ 768 / 256 % 4 = 3 ∧
      255 / 256 % 4 ≠ 3) ∧
     (up.fl F.MC_SCRUB_PERIOD 0 ≠ 0 ∧ target up (768 / 64 * 64) = .dram 3 ∧ up.dram.selfRef.getLsbD 3 = false ∧
       lineBad (countEvent (serveBudgeted up 3) 0x31 3 none) (768 / 64 * 64) = false ∧ lineUndef up (768 / 64 * 64) = false) ∧
     (∀ n ∈ [0, 1, 2], let s : State := { up with dram := { up.dram with flips := mset 0 [] 12 n } }
       target s 768 = .dram 3 ∧ lineUndef s 768 = false ∧ mget 0 s.dram.flips (768 / 64) = n) ∧
     (∀ n ∈ [7, 8], let s : State := { up with dram := { up.dram with refreshes := mset 0 [] (32 * 3 + 31) n } }
       bitAt (s.fl F.MC_STAT_TRAINED 0) 3 = true ∧ s.dram.selfRef.getLsbD 3 = false ∧ otherBankWaits s 3 31 = false ∧
       mget 0 s.dram.refreshes (32 * 3 + 31) = n)) := by
  dsimp only
  repeat' (first | decide +kernel | exact opens (by decide +kernel) | apply And.intro)

/-- Camera input 31 on, inside a frame, with the fields given. -/
def filming (inFrame : Bool) (l : List (Fld × Nat × Nat)) : State :=
  let s := put up ([(F.CM_INCFG_EN, 31, 1), (F.CM_INCFG_SPLIT, 30, 1), (F.CM_INCFG_DT, 31, 0x2A)] ++ l)
  { s with cams := { s.cams with inputs := mset {} [] 31 { inFrame := inFrame } } }

theorem witness_CamerasAndEngines :
    (let wanted := fun (s : State) => inputOn s 31 = true ∧ (camOf s 31).inFrame = true ∧ (0 : BitVec 2).toNat = s.fl F.CM_INCFG_VC 31 ∧
       (0x2A : BitVec 6).toNat = s.fl F.CM_INCFG_DT 31 ∧ (0x2A : BitVec 6).toNat ∈ csiTypes
     (let s := filming true [(F.CM_INCFG_WRITE, 31, 1)]
      wanted s ∧ s.fb F.CM_INCFG_WRITE 31 = true ∧ s.fb F.CM_INCFG_TAP 31 = false ∧ mustWait s (camLineAt s 31 (camOf s 31).line) 8 = false) ∧
     (let s := filming true [(F.CM_INCFG_TAP, 31, 1)]
      wanted s ∧ s.fb F.CM_INCFG_WRITE 31 = false ∧ s.fb F.CM_INCFG_TAP 31 = true ∧ (portOf s (40 + 31 / 2)).rx.length < 64 ∧
      rxUsed (portOf s (40 + 31 / 2)) + 8 ≤ rxCap (40 + 31 / 2)) ∧
     (¬ wanted up ∧ (camOf (filming false []) 31).inFrame = false ∧ inputOn (filming false []) 31 = true ∧
       (camOf (filming true []) 31).inFrame = true) ∧
     (openAt up 0xE03200008 ∧ isRing0 up req0 = true ∧ up.cams.job = none ∧
       up.fl F.CM_CQTAIL_HEAD 0 % 64 ≠ bitsOf (word [(F.CM_CQTAIL_TAIL, 63)]) F.CM_CQTAIL_TAIL ∧
       up.fl F.CM_CQTAIL_HEAD 0 % 64 = bitsOf 0 F.CM_CQTAIL_TAIL) ∧
     (∀ b ∈ [0, 5],
      let s := put { up with cams := { up.cams with job := some 63 } } [(F.CM_CQBASE_BASE, 0, 0x1800000)]
      let s := writeBytes s (jobAt s 63) 1 b
      let read := dmaRead s 5 none (jobAt s 63) 32
      s.cams.job = some 63 ∧ mustWait s (jobAt s 63) 32 = false ∧ codecWaits read.2 read.1 = false ∧
        jobLowlat read.1 = (b == 5) ∧ jobSlices read.1 ≤ s.cams.slices) ∧
     (let s := put { up with cams := { up.cams with job := some 63, inputs := mset {} [] 0 { inFrame := true, line := 64 } } } [(F.CM_CQBASE_BASE, 0, 0x1800000)]
      let s := writeBytes (writeBytes s (jobAt s 63) 1 5) (jobAt s 63 + 1) 3 (16 * 2 ^ 12)
      let read := dmaRead s 5 none (jobAt s 63) 32
      mustWait s (jobAt s 63) 32 = false ∧ codecWaits read.2 read.1 = false ∧ jobLowlat read.1 = true ∧ s.cams.slices < jobSlices read.1 ∧
      sliceStored read.2 read.1 = true) ∧
     (up.ready (208 + 1) = true ∧ (0xC00000000 : BitVec 64).toNat < 2 ^ 36 ∧ inRam up 0xC00000000 8 = true ∧ mustWait up 0xC00000000 8 = false ∧
       2 ^ 36 ≤ (2 ^ 36 : BitVec 64).toNat)) := by
  dsimp only
  repeat' (first | decide +kernel | exact opens (by decide +kernel) | apply And.intro)

theorem witness_DisplayOutputs :
    (let st := fun (n : Nat) => put up [(F.DP_OSTAT_STATE, 5, n), (F.DP_OCFG_EN, 5, 1), (F.DP_AMB_AMBTMO, 5, 0)]
     let en := word [(F.DP_OCFG_EN, 1)]
     (openAt up (0xE03000000 + 0x1000 * 5) ∧ isRing0 up req0 = true ∧ bitsOf en F.DP_OCFG_EN = 1 ∧ up.fb F.DP_OCFG_EN 5 = false) ∧
     (openAt (st 2) (0xE03000000 + 0x1000 * 5) ∧ isRing0 (st 2) req0 = true ∧ (st 2).fb F.DP_OCFG_EN 5 = true ∧ bitsOf 0 F.DP_OCFG_EN = 0) ∧
     (openAt (atRing up 3) (0xE03000000 + 0x1000 * 5) ∧ isRing0 (atRing up 3) req0 = false) ∧
     ((st 1).fl F.DP_OSTAT_STATE 5 = 1 ∧ (st 2).fl F.DP_OSTAT_STATE 5 = 2 ∧ clockFails (st 2) 17 = false ∧ up.fb F.DP_OSTAT_HPD 5 ≠ true) ∧
     (let s := put up [(F.DP_OSTAT_STATE, 3, 2)]; (3 : Fin 6).val < 4 ∧ s.fb F.DP_OSTAT_HPD 3 = false ∧ s.fl F.DP_OSTAT_STATE 3 ≠ 0) ∧
     (let s := put (st 2) [(F.DP_SUN_LUXHI, 5, 2 ^ 18 - 1), (F.DP_SUN_SUNEN, 5, 1), (F.DP_AMB_AMBTMO, 5, 1), (F.DP_LCTL_LEN, 47, 1), (F.DP_LGEOM_SRC, 47, 0x101),
        (F.DP_LGEOM_DST, 47, 16 * 2 ^ 24 + 16 * 2 ^ 36)]
      let s := putDisp s 5 { hact := 1, vact := 16 }
      s.shv F.DP_SUN_SUNEN 5 % 2 = 1 ∧ 0 < s.shv F.DP_SUN_LUXHI 5 % 2 ^ 18 ∧ s.fl F.DP_AMB_AMBTMO 5 ≠ 0 ∧
      s.fl F.DP_AMB_AMBTMO 5 ≤ (dispOf s 5).ambAge + 1 ∧ (st 2).shv F.DP_SUN_SUNEN 5 % 2 = 0 ∧ (st 2).fl F.DP_AMB_AMBTMO 5 = 0 ∧
      lineNeeded s 5 7 15 = true ∧ (7, 15) ∉ (dispOf s 5).late ∧ (dispOf s 5).blanked = false ∧ s.fl F.DP_OSTAT_UNDERRUN 5 < 255) ∧
     (openAt up (0xE03000020 + 0x1000 * 5) ∧ ∃ n : Fin 32, Requester.infuser 31 = .infuser n)) := by
  dsimp only
  repeat' (first | decide +kernel | exact opens (by decide +kernel) | apply And.intro)

/-- Touch front end 1 on, as given. -/
def touching (x : Touch) (l : List (Fld × Nat × Nat)) : State :=
  let s := put up ((F.TC_CFG_EN, 1, 1) :: l)
  { s with touch := mset {} [] 1 x }

theorem witness_TouchFrontEnds :
    (let en := word [(F.TC_CFG_EN, 1)]
     (openAt up (0xE03100000 + 0x1000 * 1) ∧ isRing0 up req0 = true ∧ bitsOf en F.TC_CFG_EN = 1 ∧ ¬ up.fb F.TC_CFG_EN 1 = true) ∧
     (openAt (touching {} []) (0xE03100000 + 0x1000 * 1) ∧ isRing0 (touching {} []) req0 = true ∧ (touching {} []).fb F.TC_CFG_EN 1 = true ∧
       bitsOf 0 F.TC_CFG_EN = 0 ∧ (touchOf (touching {} []) 1).scanning = false) ∧
     (let s := touching { scanning := true, noisy := 1 } [(F.TC_CFG_WATER, 1, 1), (F.TC_CFG_SELF, 1, 1), (F.TC_CFG_HOP, 1, 1), (F.TC_CFG_NOISETHR, 1, 0)]
      (touchOf s 1).scanning = true ∧ s.fb F.TC_CFG_WATER 1 = true ∧ s.fb F.TC_CFG_SELF 1 = true ∧ (touchOf s 1).wetRaised = false ∧
      s.fb F.TC_CFG_HOP 1 = true ∧ s.fl F.TC_CFG_NOISETHR 1 < [1, 0, 0, 0, 0, 0, 0, 0].getD (s.fl F.TC_STAT_FIDX 1) 0 ∧ 1 ≤ (touchOf s 1).noisy) ∧
     (let s := touching { scanning := true } [(F.TC_CFG_WATER, 1, 0), (F.TC_CFG_HOP, 1, 0)]; (touchOf s 1).scanning = true ∧ ¬ s.fb F.TC_CFG_WATER 1 = true ∧ (touchOf s 1).noisy = 0 ∧
       s.fb F.TC_CFG_HOP 1 = false) ∧
     (let film : Contact := ⟨1, 2, 3, 100, 5, 0, 0⟩
      let s := touching { scanning := true } [(F.TC_CFG_WATER, 1, 1), (F.TC_CFG_SELF, 1, 1), (F.TC_CFG_THR, 1, 5), (F.TC_CFG_GLOVE, 1, 1), (F.TC_CFG_CYC, 1, 16)]
      isFound s 1 film = true ∧ isFilm s 1 film = true ∧ film ∈ ([film].filter (isFound s 1)).filter (isFilm s 1) ∧ 100 ≤ film.size.toNat ∧
      (s.fb F.TC_CFG_GLOVE 1 = true ∧ 16 ≤ s.fl F.TC_CFG_CYC 1) ∧ ¬ (touching {} [(F.TC_CFG_GLOVE, 1, 0)]).fb F.TC_CFG_GLOVE 1 = true) ∧
     (let now : List Touched := (List.range 11).map fun m => ⟨m, 0, 2, 3, 4, 5, false, true, false⟩
      let s := touching { found := some now } []
      s.fb F.TC_CFG_EN 1 = true ∧ (touchOf s 1).found = some now ∧ ((reportOf [] now).1[(9 : Fin 10).val]?).isSome = true ∧
      (reportOf [] []).1[(9 : Fin 10).val]? = none ∧ (touchOf (touching {} []) 1).found = none ∧
      ((reportOf [] now).1.length ≤ 10 ∧ ((reportOf [] now).1.map (·.id)).Nodup ∧ ∃ a ∈ (reportOf [] now).1, ∀ b ∈ now.drop 5, b.mark ≠ a.mark))) := by
  dsimp only
  repeat' (first | decide +kernel | exact opens (by decide +kernel) | apply And.intro)

/-- A grant of level `n` at the debug port, and the fields given. -/
def granted (n : Nat) (l : List (Fld × Nat × Nat)) : State :=
  put up ([(F.DB_GRANT_LEVEL, 0, n), (F.DB_GRANT_PORT, 0, 1), (F.DB_GRANTMASK_PMASK, 0, 1)] ++ l)

theorem witness_DebugControl :
    (let rel := word [(F.DB_CATCH_RELEASE, 1)]
     let dbr := word [(F.DB_CATCH_KEY, 0x4442), (F.DB_CATCH_CORES, 0x8000)]
     (openAt (granted 2 []) 0xE05000000 ∧ (granted 2 []).fb F.DB_GRANT_PORT 0 = true ∧ (granted 2 []).fl F.DB_GRANT_LEVEL 0 = 2) ∧
     (up.fl F.DB_GRANT_LEVEL 0 = 0 ∧ isRing0 (granted 1 []) req0 = true ∧ (granted 1 []).fb F.DB_GRANT_UNTIMED 0 = false ∧
       (granted 1 [(F.DB_GRANT_UNTIMED, 0, 1)]).fb F.DB_GRANT_UNTIMED 0 = true) ∧
     (openAt (atRing up 3) 0xE05000000 ∧ isRing0 (atRing up 3) req0 = false ∧ req0 ≠ .debugPort) ∧
     (openAt (granted 2 []) 0xE05000010 ∧ bitsOf rel F.DB_CATCH_RELEASE = 1 ∧ bitsOf rel F.DB_CATCH_KEY ≠ 0x4442 ∧
       bitsOf dbr F.DB_CATCH_KEY = 0x4442 ∧ (granted 2 []).sup.por = false ∧ (granted 2 []).sup.bor = false ∧ (granted 2 []).warm.active = false ∧ (granted 2 []).fb F.KT_SUPPLY_CARRIED 0 = false) ∧
     (openAt (granted 2 []) (0xE05010000 + 0x100 * 15) ∧ isMachine up req0 = true) ∧
     (openAt (atRing up 3) (0xE05010000 + 0x100 * 15) ∧ isMachine (atRing up 3) req0 = false ∧ fullRing0 (atRing up 3) req0 = false) ∧
     (openAt up (0xE06000008 + 0x10 * 31) ∧ openAt (atRing up 3) (0xE06000008 + 0x10 * 31))) := by
  dsimp only
  repeat' (first | decide +kernel | exact opens (by decide +kernel) | apply And.intro)

/-- A body that is a good certificate of the device, with or without the real-time clock; and one for another life cycle. -/
theorem witness_DebugPort_cert :
    (let c := certOf (certBody 0)
     (certBody 0).length = 136 ∧ serves up 0 = true ∧
     (c.version = 0x0100 ∧ (c.level = 1 ∨ c.level = 2) ∧ c.reserved = 0 ∧ c.scope.toNat < 4) ∧
     (up.fl F.LC_STATE_STATE 0 ≠ 5 ∧ c.serial = Config.serial ∧ c.lc.toNat = up.fl F.LC_STATE_STATE 0) ∧ up.sup.rtc = none ∧
     (∀ us, (supply (fun x => { x with rtc := some 500000 }) []).sup.rtc = some us → c.notBefore.toNat ≤ us / 1000000 ∧
       us / 1000000 < c.expiry.toNat)) ∧
    (let c := certOf (certBody 1)
     (certBody 1).length = 136 ∧ (c.version = 0x0100 ∧ (c.level = 1 ∨ c.level = 2) ∧ c.reserved = 0 ∧ c.scope.toNat < 4) ∧
     c.lc.toNat ≠ up.fl F.LC_STATE_STATE 0) := by
  have f := certBody_fields 0 (List.mem_cons_self ..)
  have g := certBody_fields 1 (List.mem_cons_of_mem _ (List.mem_cons_self ..))
  have l : ∀ lc, (certBody lc).length = 136 := fun lc => length_readList _ _ _
  generalize certOf (certBody 0) = c at f
  generalize certOf (certBody 1) = d at g
  obtain ⟨h1, h2, h3, h4, -, h6, h7, h8, h9⟩ := f
  obtain ⟨g1, g2, g3, -, -, -, -, g8, g9⟩ := g
  refine ⟨⟨l 0, by decide +kernel, ⟨h1, .inr h2, h9, by rw [h8]; decide⟩, ⟨by decide +kernel, h4, ?_⟩, by decide +kernel, ?_⟩,
    l 1, ⟨g1, .inr g2, g9, by rw [g8]; decide⟩, ?_⟩
  · rw [h3]; decide +kernel
  · rw [h6, h7]
    intro us h
    have : (supply (fun x => { x with rtc := some 500000 }) []).sup.rtc = some 500000 := by decide +kernel
    rw [this] at h
    cases h
    decide
  · rw [g3]; decide +kernel

theorem witness_DebugPort :
    (let grants := fun (l : List (Fld × Nat × Nat)) => granted 2 l
     (up.fl F.LC_STATE_STATE 0 ≤ 1 ∧ 1 < (put up [(F.LC_STATE_STATE, 0, 2)]).fl F.LC_STATE_STATE 0) ∧
     (0xE00000008 ∈ kstatRegs ∧ inLog 0xE0000FFF8 = true ∧ 0xE0000FFF8 % 8 = 0) ∧
     (serves (put up [(F.KT_READY_READY, 0, 0)]) 0 = false ∧ serves up 0 = true) ∧
     (serves (supply (fun x => { x with rtc := some 500000 }) []) 0 = true ∧ (List.replicate 136 (0 : Byte)).length = 136 ∧
       up.fl F.LC_STATE_STATE 0 ≠ 5 ∧ (certOf (List.replicate 136 0)).version ≠ 0x0100) ∧
     (up.fb F.DB_GRANT_PORT 0 = false ∧ (granted 1 []).fl F.DB_GRANT_LEVEL 0 = 1 ∧ (0xE05020030 : BitVec 36).toNat = 0xE05020030) ∧
     (2 ≤ (grants []).fl F.DB_GRANT_LEVEL 0 ∧ (1 : BitVec 36).toNat % 8 ≠ 0 ∧ target (grants []) 0xFFFFFFFF8 = .hole) ∧
     (let s := { grants [] with dbg := { (grants []).dbg with ir := 0x12 } }
      target (grants []) 0xE00000008 = .reg ∧ tryR (deviceRead s .debugPort 0xE00000008 8) (fun _ _ => true) = true ∧
      tryR (deviceWrite s .debugPort 0xE00000008 8 0) (fun _ _ => true) = true) ∧
     (let s := { grants [] with dbg := { (grants []).dbg with ir := 0x12 } }
      target (grants []) 0xC00000000 = .scratch ∧ mirrorStalls (grants []) (0xC00000000 / 64) = false ∧
      tryR (snoopRead s 7 none 0 0xC00000000 8) (fun _ _ => true) = true) ∧
     (let shut := { grants [(F.ST_SRCTL_VALID, 0, 0)] with dbg := { (grants []).dbg with ir := 0x12 } }
      (match snoopRead shut 7 none 0 0xC00000000 8 with | .fail e _ => e | _ => 0) = beStrainer)) := by
  dsimp only
  repeat' (first | decide +kernel | apply And.intro)

/-! ### Witnesses: the machine -/

theorem witness_IdleStep : up.pending = [] ∧ up.sup.por = false ∧ State.reset.sup.por = true ∧
    (up.router.waiting = [] ∧ up.trace.fifo = [] ∧ up.trace.lost = 0) ∧ (up.ready 41 = true ∧ sclkStopped up = false) ∧
    ¬ (put up [(F.KT_READY_READY, 0, 0)]).ready 41 = true ∧
    (up.fl F.EP_ASCFG_MODE 0 ≠ 2 ∧ up.ep.rate = 0 ∧ up.ep.slew = 0 ∧ up.ep.frac < 2 ^ 32 ∧ up.fl F.EP_NOW_VALUE 0 < 2 ^ 63) ∧
    (let s := put up [(F.KT_WDCFG_EN, 0, 1)]
     s.fb F.KT_WDCFG_EN 0 = true ∧ s.fl F.KT_WDKICK_ELAPSED 0 + 1 < max 1 (s.fl F.KT_WDCFG_TMO 0)) := by
  decide +kernel

theorem witness_StepKeepsForm : ∃ t, Kept [.fence core0] { up with pending := [.fence core0] } ∧
    step { up with pending := [.fence core0] } = .next t := by
  refine ⟨_, ?_, rfl⟩
  unfold Kept; decide +kernel

/-! ### What `WellFormed` refuses: an ill-formed term for each check -/

theorem test_wf_payload : (Packet.wf (pkt pWrite 0 0 0 8 [1])) = false := by decide
theorem test_wf_packet : (Instr.write 0 (pkt pWrite 0 0 0 8 [1])).wf = false ∧ (Instr.write 0 (pkt pWrite 0 0 0 1 [1])).wf = true := by
  decide
theorem test_wf_read : (Instr.read 0 (pkt pRead 0 0 0 8 [])).wf = true ∧ (Instr.nack 0 (pkt pNack 0 0 0 8 [])).wf = true := by decide
theorem test_wf_long : (Packet.wf (pkt pWrite 0 0 0 0 (List.replicate 4097 0))) = false := by decide +kernel
theorem test_wf_temps : (Instr.temperatureSample [1]).wf = false := by decide
theorem test_wf_por : (Instr.porRelease 0 0 []).wf = false ∧ (Instr.borRelease 0 0 []).wf = false := by decide
theorem test_wf_joystick : (Instr.joystickSample []).wf = false := by decide
theorem test_wf_edid : (Instr.displayLinkTrainingDone 0 true [0]).wf = false := by decide
theorem test_wf_nonce : (Instr.mbHello 0 [0]).wf = false := by decide
theorem test_wf_noises : (Instr.touchScanEnd 0 [] (List.replicate 9 0)).wf = false := by decide
theorem test_wf_countersign : (Instr.countersign 0 0 0 65537).wf = false := by decide
theorem test_wf_registerWrite : (Instr.registerWrite req0 0xE00000004 1 0).wf = false ∧ (Instr.registerWrite req0 0xE00000004 0 0).wf = true := by
  decide

/-! ### Single steps -/

/-- The step that runs `i` from `s` answers a state with `P`. -/
def after (s : State) (i : Instr) (P : State → Bool) : Bool :=
  match step { s with pending := [i] } with | .next t => P t && t.pending.isEmpty | _ => false

/-- 05 R98: a shift amount of 64 gives 0; R72: the pc moves by 4. -/
theorem test_shli_64 : after arith (.shli core0 7 2 64) fun t => t.g core0 7 == 0 && (t.cpu core0).pc == 0xFFF000004 := by decide +kernel

/-- 05 R97: a division by zero gives -1 and sets DZ. -/
theorem test_div_zero : after arith (.div core0 7 5 31) fun t => t.g core0 7 == -1 && (t.cpu core0).st.dz := by decide +kernel

/-- 05 R96: the wrapped sum, with OV set. -/
theorem test_add_overflow : after arith (.add core0 1 1 2) fun t =>
    t.g core0 1 == 0x7FFFFFFFFFFFFFFF && (t.cpu core0).st.ov := by decide +kernel

/-- 05 R107: offsets count words. -/
theorem test_beq_back : after arith (.beq core0 0 31 (-1)) fun t => (t.cpu core0).pc == 0xFFEFFFFFC := by decide +kernel

/-- 10 R220: a store waits in the store buffer; 10 R221: FENCE waits for it. -/
theorem test_sd_buffered : after scratchAt (.sd core0 3 1 0) fun t => (t.cpu core0).sb.length == 1 && t.mem == [] := by decide +kernel
theorem test_fence_waits : after (buffered [entry4]) (.fence core0) fun t => (t.cpu core0).wait == .stall := by decide +kernel

/-- 20 R416: the drained store's bytes, little-endian, in the Infuser's SRAM. -/
theorem test_drain : after (infAt [infEntry]) (.storeDrain inf0) fun t =>
    readByte t (0xE02100000 + 0xFFF8) == 5 && (t.cpu inf0).sb.isEmpty := by decide +kernel

/-- 04 R82: a gate's target and ring; 08 R174: the cause of a TRAP. -/
theorem test_trap : after gated (.trap core0 0) fun t =>
    (t.cpu core0).pc == 0x2000 && (t.cpu core0).st.ring == 0 && ((t.cpu core0).bank 0).cause == 7 := by decide +kernel

/-- 08 R183: BRK at the machine level enters at MVEC. -/
theorem test_brk : after up (.brk core0) fun t =>
    (t.cpu core0).pc == 0xFFF020000 && ((t.cpu core0).bank 9).epc == 0xFFF000000 && ((t.cpu core0).bank 9).cause == 11 := by
  decide +kernel

/-- 07 R151: 1 + 1 = 2 in double precision, and R160: FPD. -/
theorem test_fadd : after (scratchAt.setCpu core0 ((scratchAt.cpu core0).wrV 1 0x3FF0000000000000)) (.fadd core0 .d false 2 1 1) fun t =>
    t.gv core0 2 == 0x4000000000000000 && (t.cpu core0).st.fpd := by decide +kernel

/-- 07 R163: lanes wrap on their own. -/
theorem test_vadd : after (scratchAt.setCpu core0 ((scratchAt.cpu core0).wrV 1 0xFF01)) (.vadd core0 .b 2 1 1) fun t =>
    t.gv core0 2 == 0xFE02 := by decide +kernel

/-- 17 R366: ARM alone leaves the outputs held. -/
theorem test_arm : after up (.ktSaferelArm req0 0x4152) fun t => t.fb F.KT_SAFECTL_ARMED 0 && t.fb F.KT_SAFECTL_HELD 0 := by
  decide +kernel

/-- 17 R369: the hottest of the eight sensors, as a signed number. -/
theorem test_hottest : after up (.temperatureSample [1, 0x80, 60, 2, 3, 4, 5, 6]) fun t => t.fl F.KT_TEMP_HOT 0 == 60 := by
  decide +kernel

/-- 17 R382: a submitted record carries 0xF00 + the core as its source. -/
theorem test_submit : after up (.dregsSubmit req0 (word [(F.DREGS_SUBMIT_CODE, 0x8000)])) fun t =>
    t.dregs.queue.map (·.source) == [0xF00] := by decide +kernel

/-- 13 R278: a READ is answered by a READ_RESP with as many bytes, on the link its source is reached by. -/
theorem test_read : after (linked []) (.read 31 { pkt pRead 0 7 0xC00000000 8 [] with src := 0x3FFFE }) fun t =>
    (List.range 43).any fun p => (outQ t p).any fun q => q.k.cmd == 2 && q.k.tag == 7 && q.k.payload.length == 8 := by
  decide +kernel

/-- 16 R351: GO from IDLE posts the message. -/
theorem test_mb_go : after (put up [(F.MB_STAT_EN, 7, 1)]) (.mbGo req0 7) fun t => t.fl F.MB_STAT_STATE 7 == 1 := by decide +kernel

/-- The empty queue: one microsecond (the model's choice, log 3). -/
theorem test_idle : (match step up with | .next t => t.time == 1000 && t.fl F.EP_NOW_VALUE 0 == 1000 | _ => false) = true := by
  decide +kernel

/-! ### Words of Herok, written out field by field from 06 R127 to R136 -/

theorem test_words_integer :
    decodeHerok core0 (0b000001#6 ++ 3#5 ++ 1#5 ++ 2#5 ++ 0x001#11) = some (.sub core0 3 1 2) ∧
    decodeHerok core0 (0b000001#6 ++ 3#5 ++ 1#5 ++ 0#5 ++ 0x010#11) = some (.clz core0 3 1) ∧
    decodeHerok core0 (0b000010#6 ++ 3#5 ++ 1#5 ++ 2#5 ++ 0x084#11) = some (.divw core0 3 1 2) ∧
    decodeHerok core0 (0b000011#6 ++ 3#5 ++ 1#5 ++ 2#5 ++ 0x080#11) = some (.casw core0 3 1 2) ∧
    decodeHerok core0 (0b001000#6 ++ 3#5 ++ 0#5 ++ 0x8001#16) = some (.lui core0 3 0x8001) ∧
    decodeHerok core0 (0b010011#6 ++ 3#5 ++ 1#5 ++ 0xFFF8#16) = some (.ld core0 3 1 0xFFF8) := by decide +kernel

theorem test_words_control :
    decodeHerok core0 (0b110000#6 ++ 4#5 ++ 5#5 ++ 0xFFFC#16) = some (.beq core0 4 5 0xFFFC) ∧
    decodeHerok core0 (0b110110#6 ++ 4#5 ++ 1#5 ++ 0x0010#16) = some (.loop core0 1 4 0x0010) ∧
    decodeHerok core0 (0b111000#6 ++ 0x3FFFFFF#26) = some (.j core0 0x3FFFFFF) ∧
    decodeHerok core0 (0b001111#6 ++ 4#5 ++ 7#5 ++ 0#16) = some (.cacheCsw core0 7) := by decide +kernel

theorem test_words_vector :
    decodeHerok core0 (0b111100#6 ++ 3#5 ++ 1#5 ++ 2#5 ++ 0b10#2 ++ 1#1 ++ 0x07#8) = some (.fmadd core0 .d true 3 1 2) ∧
    decodeHerok core0 (0b111100#6 ++ 3#5 ++ 1#5 ++ 0#5 ++ 0b01#2 ++ 0#1 ++ 0x18#8) = some (.fcvt core0 .w 3 1 .h) ∧
    decodeHerok core0 (0b111101#6 ++ 3#5 ++ 1#5 ++ 2#5 ++ 0b11#2 ++ 0x019#9) = some (.vextr core0 .d 3 1 2) := by decide +kernel

theorem test_words_system :
    decodeHerok core0 (0b111111#6 ++ 0x00#6 ++ 0#8 ++ 0xABC#12) = some (.trap core0 0xABC) ∧
    decodeHerok core0 (0b111111#6 ++ 0x08#6 ++ 9#5 ++ 0#3 ++ 0x050#12) = some (.mfc core0 9 0x050) ∧
    decodeHerok core0 (0b111111#6 ++ 0x22#6 ++ 0#5 ++ 6#5 ++ 7#5 ++ 0#4 ++ 1#1) = some (.tlbiVaB core0 6 7) ∧
    decodeHerok inf0 (0b111110#6 ++ 3#5 ++ 1#5 ++ 0#5 ++ 0x00A#11) = some (.pktSend inf0 3 1) := by decide +kernel

/-- 06 R136: a reserved major, code or bit, an unused field that is not 0, and majors of other processors. -/
theorem test_words_illegal :
    decodeHerok core0 0 = none ∧ decodeHerok core0 0xFFFFFFFF = none ∧
    decodeHerok core0 (0b010111#6 ++ 0#26) = none ∧
    decodeHerok core0 (0b000001#6 ++ 3#5 ++ 1#5 ++ 2#5 ++ 0x003#11) = none ∧
    decodeHerok core0 (0b000001#6 ++ 3#5 ++ 1#5 ++ 1#5 ++ 0x010#11) = none ∧
    decodeHerok core0 (0b001111#6 ++ 4#5 ++ 7#5 ++ 1#16) = none ∧
    decodeHerok core0 (0b111101#6 ++ 3#5 ++ 1#5 ++ 2#5 ++ 0b01#2 ++ 0x008#9) = none ∧
    decodeHerok core0 (0b111110#6 ++ 3#5 ++ 1#5 ++ 0#5 ++ 0x00A#11) = none ∧
    decodeHerok inf0 (0b111100#6 ++ 3#5 ++ 1#5 ++ 2#5 ++ 0b10#2 ++ 0#1 ++ 0x00#8) = none := by decide +kernel

end Sys2Proof.Tests
end

section
/-! The package family (spec 02, 03): clock monitors, PLLs and cluster clocks (O26), and the supplies (O25). -/

namespace Sys2Proof.Machine

/-! ### Bits of a field -/

theorem testBit_withBit_true (n k : Nat) : (withBit n k true).testBit k = true := by
  unfold withBit
  split
  · assumption
  · rename_i h
    simpa [Nat.add_comm n, Nat.testBit_two_pow_add_eq] using h

/-- A bit that is set reads as 1, where the field has it. -/
theorem bitAt_setBit_true (s : State) (f : Fld) (i k : Nat) (hk : k < f.width) :
    bitAt ((s.setBit f i k true).fl f i) k = true := by
  simp [bitAt, State.setBit, Nat.testBit_mod_two_pow, hk, testBit_withBit_true]

/-! ### What keeps the fields outside a kind -/

/-- A kind of field that looks at the field's number alone. -/
def ById (k : Fld → Bool) : Prop := ∀ f g : Fld, f.id = g.id → k f = k g

theorem ById.ne {k : Fld → Bool} (hk : ById k) {f g : Fld} (hf : k f = true) (hg : k g = false) : f.id ≠ g.id := by
  intro e
  rw [hk f g e, hg] at hf
  cases hf

theorem icField_byId : ById icField := fun f g h => by simp only [icField, h]

/-- The interrupt controller's fields are among those of a record. -/
theorem icField_of_dregsField (f : Fld) (h : dregsField f = false) : icField f = false := by
  simp only [dregsField, Bool.or_eq_false_iff] at h
  exact h.1.1.1.1

theorem dregsField_byId : ById dregsField := fun f g h => by simp only [dregsField, icField_byId f g h, h]

/-- Every field outside the kind `k` reads in `t` as in `s`. -/
def FieldsKept (k : Fld → Bool) (s t : State) : Prop := ∀ (f : Fld) (i : Nat), k f = false → t.fl f i = s.fl f i

namespace FieldsKept
variable {k k' : Fld → Bool} {s t u : State}

theorem of_flds (h : t.flds = s.flds) : FieldsKept k s t := fun f i _ => State.fl_congr h f i

theorem trans (h : FieldsKept k s t) (h' : FieldsKept k t u) : FieldsKept k s u :=
  fun f i hf => (h' f i hf).trans (h f i hf)

/-- What follows may touch no field at all. -/
theorem flds (h : FieldsKept k s t) (h' : u.flds = t.flds) : FieldsKept k s u := h.trans (of_flds h')

theorem weaken (h : FieldsKept k s t) (hk : ∀ f, k' f = false → k f = false) : FieldsKept k' s t :=
  fun f i hf => h f i (hk f hf)

theorem setF (h : FieldsKept k s t) (hk : ById k) {f : Fld} (i v : Nat) (hf : k f = true) : FieldsKept k s (t.setF f i v) :=
  fun g j hg => (State.fl_setF_id t i j v (hk.ne hf hg)).trans (h g j hg)

theorem foldl {α : Type} {step : State → α → State} (hs : ∀ t a, FieldsKept k t (step t a)) :
    ∀ (l : List α) (t : State), FieldsKept k t (l.foldl step t)
  | [], _ => of_flds rfl
  | a :: l, t => (hs t a).trans (foldl hs l (step t a))

theorem ite {c : Prop} [Decidable c] (ht : FieldsKept k s t) (hu : FieldsKept k s u) : FieldsKept k s (if c then t else u) := by
  split
  · exact ht
  · exact hu

theorem fb (h : FieldsKept k s t) (f : Fld) (i : Nat) (hf : k f = false) : t.fb f i = s.fb f i := by
  rw [State.fb, State.fb, h f i hf]

end FieldsKept

/-! ### Safe-state triggers -/

/-- The fields that setting HELD changes. -/
def holdField (f : Fld) : Bool :=
  dregsField f || [F.KT_SAFECTL_HELD, F.KT_STEEPSTAT_STATE, F.KT_STEEPSTAT_STEP].any fun g => g.id == f.id

/-- The fields that a trigger changes. -/
def trigField (f : Fld) : Bool :=
  holdField f || [F.KT_TRIGSTAT_RAISED, F.KT_TRIGSTAT_HIST, F.KT_SAFECTL_ARMED].any fun g => g.id == f.id

theorem holdField_byId : ById holdField := fun f g h => by simp only [holdField, dregsField_byId f g h, h]
theorem trigField_byId : ById trigField := fun f g h => by simp only [trigField, holdField_byId f g h, h]

/-- `t` is `s` but for fields of a kind, interrupt commitments, records, the processors' events, the Steep table and the free
values taken. -/
structure TripFrame (k : Fld → Bool) (s t : State) : Prop where
  rest : { t with flds := s.flds, icCommit := s.icCommit, icPulse := s.icPulse, dregs := s.dregs, cpus := s.cpus,
                  steep := s.steep, free := s.free } = s
  fl : FieldsKept k s t

namespace TripFrame
variable {k k' : Fld → Bool} {s t u : State}

theorem refl (k : Fld → Bool) (s : State) : TripFrame k s s := ⟨rfl, fun _ _ _ => rfl⟩

theorem trans (h : TripFrame k s t) (h' : TripFrame k t u) : TripFrame k s u :=
  ⟨by have h1 := h.rest; rw [← h'.rest] at h1; exact h1, h.fl.trans h'.fl⟩

theorem weaken (h : TripFrame k s t) (hk : ∀ f, k' f = false → k f = false) : TripFrame k' s t := ⟨h.rest, h.fl.weaken hk⟩

theorem setF (h : TripFrame k s t) (hk : ById k) {f : Fld} (i v : Nat) (hf : k f = true) : TripFrame k s (t.setF f i v) :=
  ⟨h.rest, h.fl.setF hk i v hf⟩

theorem ite {c : Prop} [Decidable c] (ht : TripFrame k s t) (hu : TripFrame k s u) : TripFrame k s (if c then t else u) := by
  split
  · exact ht
  · exact hu

theorem mem (h : TripFrame k s t) : t.mem = s.mem := by
  have e := congrArg State.mem h.rest
  exact e

theorem clk (h : TripFrame k s t) : t.clk = s.clk := by
  have e := congrArg State.clk h.rest
  exact e

end TripFrame

theorem raiseSource_trip (s : State) (n : Nat) : TripFrame icField s (raiseSource s n) :=
  have h := raiseSource_frame s n
  ⟨congrArg (fun u : State => { u with dregs := s.dregs, cpus := s.cpus, steep := s.steep, free := s.free }) h.rest, h.fl⟩

theorem dregs_trip (s : State) (source cls code detail : Nat) : TripFrame dregsField s (dregs s source cls code detail) :=
  have h := dregs_frame s source cls code detail
  ⟨congrArg (fun u : State => { u with cpus := s.cpus, steep := s.steep, free := s.free }) h.rest, h.fl⟩

theorem dregsFree_trip (s : State) (source cls code : Nat) : TripFrame dregsField s (dregsFree s source cls code) :=
  have taken : TripFrame dregsField s { s with free := s.free + 1 } := ⟨rfl, fun _ _ _ => rfl⟩
  taken.trans (dregs_trip _ source cls code (Config.freeNat s.free))

theorem superEvent_trip (k : Fld → Bool) (s : State) (code : Nat) : TripFrame k s (superEvent s code) := by
  unfold superEvent
  generalize coreList = l
  suffices ∀ t, TripFrame k s t → TripFrame k s (l.foldl _ t) from this s (.refl k s)
  induction l with
  | nil => exact fun t h => h
  | cons c l ih =>
    intro t h
    rw [List.foldl_cons]
    refine ih _ (TripFrame.ite ?_ h)
    exact h.trans ⟨rfl, fun _ _ _ => rfl⟩

/-- The fields of records are among those of HELD. -/
theorem dregsField_of_holdField (f : Fld) (h : holdField f = false) : dregsField f = false := (Bool.or_eq_false_iff.mp h).1

theorem steepBegin_trip (s : State) (mode step : Nat) : TripFrame holdField s (steepBegin s mode step) := by
  have h : TripFrame holdField s (steepStart s mode step false) :=
    (((TripFrame.refl _ s).setF holdField_byId 0 mode rfl).setF holdField_byId 0 step rfl).trans ⟨rfl, fun _ _ _ => rfl⟩
  refine TripFrame.ite (h.trans ?_) h
  exact ((TripFrame.refl _ _).setF holdField_byId 0 5 rfl).trans ((dregsFree_trip _ _ _ _).weaken dregsField_of_holdField)

/-- What setting HELD leaves alone. -/
theorem holdSafe_trip (s : State) : TripFrame holdField s (holdSafe s) := by
  have h : TripFrame holdField s (superEvent (raiseSource (s.setB F.KT_SAFECTL_HELD 0 true) 233) 5) :=
    (((TripFrame.refl _ s).setF holdField_byId 0 _ rfl).trans ((raiseSource_trip _ 233).weaken fun f hf =>
      icField_of_dregsField f (dregsField_of_holdField f hf))).trans (superEvent_trip _ _ 5)
  exact .ite (.refl _ s) (.ite (h.trans (steepBegin_trip _ _ _)) h)

/-- The fields of HELD are among those of a trigger. -/
theorem holdField_of_trigField (f : Fld) (h : trigField f = false) : holdField f = false := (Bool.or_eq_false_iff.mp h).1

theorem dregs_trip_trig (s : State) (source cls code detail : Nat) : TripFrame trigField s (dregs s source cls code detail) :=
  (dregs_trip s source cls code detail).weaken fun f hf => dregsField_of_holdField f (holdField_of_trigField f hf)

theorem clearTrigger_trip (s : State) (b : Nat) : TripFrame trigField s (clearTrigger s b) :=
  (TripFrame.refl _ s).setF trigField_byId 0 _ rfl

/-- What raising a trigger leaves alone. -/
theorem raiseTrigger_trip (s : State) (b : Nat) (level : Bool) : TripFrame trigField s (raiseTrigger s b level) := by
  have h : TripFrame trigField s ((s.setBit F.KT_TRIGSTAT_RAISED 0 b true).setBit F.KT_TRIGSTAT_HIST 0 b true) :=
    ((TripFrame.refl _ s).setF trigField_byId 0 _ rfl).setF trigField_byId 0 _ rfl
  have held {t : State} (ht : TripFrame trigField s t) :
      TripFrame trigField s (holdSafe (t.setB F.KT_SAFECTL_ARMED 0 false)) :=
    (ht.setF trigField_byId 0 _ rfl).trans ((holdSafe_trip _).weaken holdField_of_trigField)
  exact .ite (.refl _ s) (.ite (held (h.trans (dregs_trip_trig _ _ _ _ _)))
    ((held (h.trans (dregs_trip_trig _ _ _ _ _))).setF trigField_byId 0 _ rfl))

/-- A level trigger that is raised reads as raised. -/
theorem raiseTrigger_raised (s : State) (b : Nat) (hb : b < 11) :
    bitAt ((raiseTrigger s b true).fl F.KT_TRIGSTAT_RAISED 0) b = true := by
  unfold raiseTrigger
  simp only [Bool.true_and, if_true]
  split
  · assumption
  · rw [(holdSafe_trip _).fl _ _ rfl, State.fl_setB_id _ _ _ _ (by decide), fl_dregs _ _ _ _ _ _ rfl]
    rw [State.setBit, State.fl_setF_id _ _ _ _ (by decide)]
    exact bitAt_setBit_true s _ 0 b hb

/-! ### Links whose clock stops -/

/-- The fields that a link changes which retrains, or leaves what it is a member of. -/
def linkField (f : Fld) : Bool :=
  dregsField f || [F.NG_LINKSTAT_STATE, F.NG_LINKSTAT_REASON, F.NG_LINKSTAT_BONDED, F.NG_LINKERR_RETRAINS,
    F.MR_PORTSTAT_STATE, F.MR_PORTSTAT_REASON, F.MR_STAT_PORT0, F.MR_STAT_PORT1].any fun g => g.id == f.id

theorem linkField_byId : ById linkField := fun f g h => by simp only [linkField, dregsField_byId f g h, h]

theorem dregsField_of_linkField (f : Fld) (h : linkField f = false) : dregsField f = false := (Bool.or_eq_false_iff.mp h).1

theorem dregs_linkKept (s : State) (source cls code detail : Nat) : FieldsKept linkField s (dregs s source cls code detail) :=
  (dregs_trip s source cls code detail).fl.weaken dregsField_of_linkField

theorem raiseSource_linkKept (s : State) (n : Nat) : FieldsKept linkField s (raiseSource s n) :=
  (raiseSource_trip s n).fl.weaken fun f hf => icField_of_dregsField f (dregsField_of_linkField f hf)

theorem linkRecord_linkKept (s : State) (n code cls : Nat) : FieldsKept linkField s (linkRecord s n code cls) :=
  .ite (dregs_linkKept s _ _ _ _) (.of_flds rfl)

theorem setLink_linkKept (s : State) (n st reason : Nat) : FieldsKept linkField s (setLink s n st reason) := by
  have refl : FieldsKept linkField s s := .of_flds rfl
  unfold setLink
  refine .ite ?_ ?_
  · have h := (refl.setF linkField_byId (f := F.NG_LINKSTAT_STATE) n st rfl).setF linkField_byId
      (f := F.NG_LINKSTAT_REASON) n reason rfl
    exact .ite h (h.trans (raiseSource_linkKept _ _))
  · have h := (refl.setF linkField_byId (f := F.MR_PORTSTAT_STATE) (n - 32) st rfl).setF linkField_byId
      (f := F.MR_PORTSTAT_REASON) (n - 32) reason rfl
    have hp := h.setF linkField_byId (f := if n - 32 = 0 then F.MR_STAT_PORT0 else F.MR_STAT_PORT1) 0 (portSummary st)
      (by split <;> rfl)
    exact .ite ((hp.trans (raiseSource_linkKept _ _)).trans (dregs_linkKept _ _ _ _ _)) hp

theorem putLk_flds (s : State) (n : Nat) (x : Link) : (putLk s n x).flds = s.flds := rfl

theorem flushHome_flds (s : State) (h : Nat) : (flushHome s h).flds = s.flds := by
  unfold flushHome
  split
  · rfl
  · split <;> rfl

theorem leaveBond_linkKept (s : State) (n : Nat) : FieldsKept linkField s (leaveBond s n) := by
  unfold leaveBond
  split
  · refine .trans (.trans ?_ (.of_flds (flushHome_flds _ _))) (linkRecord_linkKept _ _ _ _)
    exact .flds (.setF (.of_flds (putLk_flds s _ _)) linkField_byId n _ rfl) (putLk_flds _ _ _)
  · exact .of_flds rfl

theorem leaveStream_flds (s : State) (n : Nat) : (leaveStream s n).flds = s.flds := by
  unfold leaveStream
  split
  · rfl
  · split <;> rfl

theorem linkTrain_linkKept (s : State) (n st : Nat) (full : Bool) : FieldsKept linkField s (linkTrain s n st full) := by
  have h : FieldsKept linkField s (leaveAll s n) := .trans (.of_flds (leaveStream_flds s n)) (leaveBond_linkKept _ n)
  exact h.trans (setLink_linkKept (putLk (unqueue (leaveAll s n) n) n _) n st 0)

theorem linkQuarantine_linkKept (s : State) (n reason : Nat) : FieldsKept linkField s (linkQuarantine s n reason) := by
  unfold linkQuarantine
  split
  · refine .trans (.trans ?_ (setLink_linkKept _ _ _ _)) (linkRecord_linkKept _ _ _ _)
    exact (leaveBond_linkKept s n).flds (putLk_flds _ _ _)
  · exact .of_flds rfl

theorem bumpF_linkKept (s : State) {f : Fld} (i : Nat) (hf : linkField f = true) : FieldsKept linkField s (s.bumpF f i) :=
  .ite (.setF (.of_flds rfl) linkField_byId i _ hf) (.of_flds rfl)

theorem linkRetrain_linkKept (s : State) (n : Nat) (full : Bool) : FieldsKept linkField s (linkRetrain s n full) := by
  have trained (x : Link) : FieldsKept linkField s
      (linkRecord (linkTrain ((putLk s n x).bumpF F.NG_LINKERR_RETRAINS n) n 6 full) n 0x306 clsWarn) :=
    .trans (.trans (.trans (.of_flds (putLk_flds s n x)) (bumpF_linkKept _ n rfl)) (linkTrain_linkKept _ _ _ _))
      (linkRecord_linkKept _ _ _ _)
  unfold linkRetrain
  dsimp only
  split
  · split
    · exact ((trained _).flds (putLk_flds _ _ _)).trans (linkQuarantine_linkKept _ n 4)
    · exact trained _
  · exact .trans (.of_flds (putLk_flds s n _)) (linkTrain_linkKept _ n 6 full)

theorem linkStops_linkKept (s : State) (n : Nat) : FieldsKept linkField s (linkStops s n) :=
  .ite (linkRetrain_linkKept s n false) (.ite (linkTrain_linkKept s n 1 false) (.ite (linkTrain_linkKept s n 6 false) (.of_flds rfl)))

/-! ### Clock faults (02 R50, R51) -/

/-- The fields that the response to a clock fault changes: those of links, and of the clusters that fall back. -/
def responseField (f : Fld) : Bool :=
  linkField f || [F.CK_CLUSTER_SEL, F.CK_CLUSTER_LOCK, F.CK_CLUSTER_SWITCHING].any fun g => g.id == f.id

theorem responseField_byId : ById responseField := fun f g h => by simp only [responseField, linkField_byId f g h, h]

theorem linkStops_kept (s : State) (n : Nat) : FieldsKept responseField s (linkStops s n) :=
  (linkStops_linkKept s n).weaken fun _ hf => (Bool.or_eq_false_iff.mp hf).1

@[simp] theorem onClk_flds (s : State) (f : Clocks → Clocks) : (onClk s f).flds = s.flds := rfl
@[simp] theorem onClk_fl (s : State) (f : Clocks → Clocks) (g : Fld) (i : Nat) : (onClk s f).fl g i = s.fl g i := rfl
@[simp] theorem onClk_fb (s : State) (f : Clocks → Clocks) (g : Fld) (i : Nat) : (onClk s f).fb g i = s.fb g i := rfl
@[simp] theorem onClk_mem (s : State) (f : Clocks → Clocks) : (onClk s f).mem = s.mem := rfl
@[simp] theorem onClk_clk (s : State) (f : Clocks → Clocks) : (onClk s f).clk = f s.clk := rfl

theorem clusterFallback_kept (s : State) (n : Nat) : FieldsKept responseField s (clusterFallback s n) := by
  have h : FieldsKept responseField s (if onCpll s n then switching s n else s) :=
    .ite (.setF (.of_flds rfl) responseField_byId n _ rfl) (.of_flds rfl)
  unfold clusterFallback
  exact .flds (.setF (.setF h responseField_byId n _ rfl) responseField_byId n _ rfl) (onClk_flds _ _)

/-- What the response to a fault of clock `k` leaves alone. -/
theorem clockResponse_kept (s : State) (k : Nat) : FieldsKept responseField s (clockResponse s k) := by
  have clk (f : Clocks → Clocks) : FieldsKept responseField s (onClk s f) := .of_flds (onClk_flds s f)
  have links (l : List Nat) : FieldsKept responseField s (l.foldl linkStops s) := .foldl linkStops_kept l s
  unfold clockResponse
  refine .ite (clk _) (.ite ?_ (.ite (clusterFallback_kept s _) (.ite (clk _) (.ite (clk _) (.ite (clk _) (.ite (clk _) ?_))))))
  · exact .flds (.foldl clusterFallback_kept _ s) (onClk_flds _ _)
  · exact .ite (links _) (.ite (links _) (.ite (links _) (.of_flds rfl)))

/-- The state in which a fault of clock `k` is declared, before it is reported. -/
def clockDeclared (s : State) (k : Nat) : State :=
  onClk (clockResponse (monSet (holdFab s) k) k) fun c => { c with persist := c.persist ||| (1#22 <<< k) }

theorem clockDeclared_persists (s : State) (k : Fin 22) : (clockDeclared s k).clk.persist.getLsbD k = true := by
  simp [clockDeclared, onClk]

/-- No response and no report of a fault changes CK_MONSTAT. -/
theorem monField_kept (k : Fin 22) : responseField (monField k).1 = false ∧ trigField (monField k).1 = false := by
  revert k; decide

theorem monField_lt_width (k : Fin 22) : (monField k).2 < (monField k).1.width := by revert k; decide

/-- The bit of a clock whose fault is declared is set. -/
theorem clockDeclared_shows (s : State) (k : Fin 22) :
    bitAt ((clockDeclared s k).fl (monField k).1 0) (monField k).2 = true := by
  have h : (clockDeclared s k).fl (monField k).1 0 = (monSet (holdFab s) k).fl (monField k).1 0 :=
    clockResponse_kept (monSet (holdFab s) k) k _ 0 (monField_kept k).1
  rw [h]
  exact bitAt_setBit_true _ _ 0 _ (monField_lt_width k)

theorem settleClocks_trip (s : State) : TripFrame trigField s (settleClocks s) := .ite (.refl _ s) (clearTrigger_trip s 4)

/-- Trigger 4 stays raised while a fault that raises it persists. -/
theorem settleClocks_persisting (s : State) (k : Fin 22) (h0 : k.val ≠ 0) (ht : clockTrips k = true)
    (hp : s.clk.persist.getLsbD k = true) : settleClocks s = s := by
  refine if_pos (List.any_eq_true.mpr ⟨k.val, List.mem_range.mpr k.isLt, ?_⟩)
  simp [h0, ht, hp]

/-- A declared fault is reported: the supervisory event where a domain falls back, trigger 4, and the record. -/
theorem clockFault_eq (s : State) (k : Nat) : ∃ t, TripFrame trigField (clockDeclared s k) t ∧
    clockFault s k = if clockTrips k then settleClocks (dregs (raiseTrigger t 4 true) 2 clsSafety 0x40 (monWord (raiseTrigger t 4 true)))
      else dregs t 2 clsWarn 0x40 (monWord t) :=
  ⟨if clockFallsBack s k then superEvent (clockDeclared s k) 3 else clockDeclared s k,
    .ite (superEvent_trip _ _ 3) (.refl _ _), rfl⟩

/-- A report changes nothing of the clocks and no memory. -/
theorem clockFault_trip (s : State) (k : Nat) : TripFrame trigField (clockDeclared s k) (clockFault s k) := by
  obtain ⟨t, ht, e⟩ := clockFault_eq s k
  rw [e]
  refine ht.trans (.ite ?_ (dregs_trip_trig t _ _ _ _))
  exact ((raiseTrigger_trip t 4 true).trans (dregs_trip_trig _ _ _ _ _)).trans (settleClocks_trip _)

theorem clockFault_shows (s : State) (k : Fin 22) :
    bitAt ((clockFault s k).fl (monField k).1 0) (monField k).2 = true := by
  rw [(clockFault_trip s k).fl _ 0 (monField_kept k).2]
  exact clockDeclared_shows s k

theorem clockFault_persists (s : State) (k : Fin 22) : (clockFault s k).clk.persist.getLsbD k = true := by
  rw [(clockFault_trip s k).clk]
  exact clockDeclared_persists s k

/-- A fault of a clock that trips leaves trigger 4 raised; one of KCLK ends with the move to KCLK_B. -/
theorem clockFault_raises (s : State) (k : Fin 22) (h0 : k.val ≠ 0) (ht : clockTrips k = true) :
    bitAt ((clockFault s k).fl F.KT_TRIGSTAT_RAISED 0) 4 = true := by
  obtain ⟨t, hf, e⟩ := clockFault_eq s k
  rw [if_pos ht] at e
  have hp : (dregs (raiseTrigger t 4 true) 2 clsSafety 0x40 (monWord (raiseTrigger t 4 true))).clk.persist.getLsbD k = true := by
    rw [dregs_clk, (raiseTrigger_trip t 4 true).clk, hf.clk]
    exact clockDeclared_persists s k
  rw [e, settleClocks_persisting _ k h0 ht hp, fl_dregs _ _ _ _ _ _ rfl]
  exact raiseTrigger_raised t 4 (by decide)

theorem caddyMove_eq (s : State) :
    caddyMove s = { s with clk := { s.clk with caddyPll := (caddyMove s).clk.caddyPll } } := by
  unfold caddyMove
  split <;> rfl

/-- Going back to the PLLs changes only which domains run from FIRC, and the Caddy's clock. -/
theorem clocksBack_only (s : State) :
    ∃ d c p, clocksBack s = { s with clk := { s.clk with dramFirc := d, canFirc := c, caddyPll := p } } := by
  unfold clocksBack
  dsimp only
  rw [caddyMove_eq]
  split <;> split <;> exact ⟨_, _, _, rfl⟩

/-! ### The commands of the monitors and of the PLLs -/

/-- 02 R50: a window that passes ends a fault. -/
theorem clockMonitorWindow_passed (s : State) (k : Fin 22) (h : monitored s k = true) :
    Gives (.clockMonitorWindow k false) s fun t =>
      t.clk.failing.getLsbD k = false ∧ t.clk.persist.getLsbD k = false ∧ t.mem = s.mem := by
  refine ⟨_, rfl, ?_⟩
  simp only [h, Bool.not_true, Bool.not_false, Bool.false_eq_true, if_false, if_true]
  obtain ⟨d, c, p, e⟩ := clocksBack_only (settleClocks (onClk s fun c =>
    { c with failing := c.failing &&& ~~~(1#22 <<< k.val), persist := c.persist &&& ~~~(1#22 <<< k.val) }))
  rw [e]
  simp [(settleClocks_trip _).clk, (settleClocks_trip _).mem]

/-- 02 R50: the first window that fails is held. -/
theorem clockMonitorWindow_first (s : State) (k : Fin 22) (h : monitored s k = true)
    (hp : s.clk.persist.getLsbD k = false) (hf : s.clk.failing.getLsbD k = false) :
    Gives (.clockMonitorWindow k true) s fun t => t.clk.failing.getLsbD k = true ∧ t.flds = s.flds ∧ t.mem = s.mem := by
  refine ⟨_, rfl, ?_⟩
  simp only [h, hp, hf, Bool.not_true, Bool.false_eq_true, if_false]
  exact ⟨by simp, rfl, rfl⟩

/-- 02 R50: the second in succession declares the fault. -/
theorem clockMonitorWindow_second (s : State) (k : Fin 22) (h : monitored s k = true)
    (hp : s.clk.persist.getLsbD k = false) (hf : s.clk.failing.getLsbD k = true) :
    Gives (.clockMonitorWindow k true) s fun t => bitAt (t.fl (monField k).1 0) (monField k).2 = true ∧
      t.clk.persist.getLsbD k = true ∧
      (clockTrips k = true → k.val ≠ 0 → bitAt (t.fl F.KT_TRIGSTAT_RAISED 0) 4 = true) := by
  refine ⟨_, rfl, ?_⟩
  simp only [h, hp, hf, Bool.not_true, Bool.false_eq_true, if_false, if_true]
  exact ⟨clockFault_shows _ k, clockFault_persists _ k, fun ht h0 => clockFault_raises _ k h0 ht⟩

/-- 02 R51: a stop of KCLK moves the Kettle to KCLK_B. -/
theorem kclkMissingPulse_gives (s : State) (hs : supplied s) (hk : s.clk.kclkB = false) :
    Gives .kclkMissingPulse s fun t => bitAt (t.fl (monField 0).1 0) (monField 0).2 = true ∧ t.clk.kclkB = true ∧
      t.mem = s.mem := by
  obtain ⟨hpor, hbor⟩ := hs
  refine ⟨_, rfl, ?_⟩
  simp only [hpor, hbor, hk, Bool.or_self, Bool.false_eq_true, if_false]
  refine ⟨clockFault_shows s 0, ?_, (clockFault_trip s 0).mem⟩
  rw [(clockFault_trip s 0).clk]
  rfl

theorem xrefGood_gives (s : State) (hs : supplied s) :
    Gives .xrefGood s fun t => t.clk.xrefGood = true ∧ t.flds = s.flds ∧ t.mem = s.mem := by
  obtain ⟨hpor, hbor⟩ := hs
  refine ⟨_, rfl, ?_⟩
  simp only [hpor, hbor, Bool.or_self, Bool.false_eq_true, if_false]
  obtain ⟨d, c, p, e⟩ := clocksBack_only (onClk s fun c => { c with xrefGood := true })
  rw [e]
  exact ⟨rfl, rfl, rfl⟩

theorem spllLock_gives (s : State) (hpg : bitAt (s.fl F.KT_SUPPLY_PG 0) 0 = true) (hx : s.clk.xrefGood = true)
    (hsp : s.fb F.CK_MONSTAT_SPLL 0 = false) (hxr : s.fb F.CK_MONSTAT_XREF 0 = false) :
    Gives .spllLock s fun t => t.clk.spllSel = true ∧ t.flds = s.flds := by
  refine ⟨_, rfl, ?_⟩
  simp [hpg, hx, hsp, hxr]

theorem cpllLock_gives (s : State) (n : Fin 4) (hen : s.fb F.CK_CLUSTER_PLL_EN n = true)
    (hpg : bitAt (s.fl F.KT_SUPPLY_PG 0) (4 + n) = true) (hx : s.clk.xrefGood = true) :
    Gives (.cpllLock n) s fun t => t.fb F.CK_CLUSTER_LOCK n = true ∧ t.clk.relock.getLsbD n = false := by
  refine ⟨_, rfl, ?_⟩
  simp only [hen, hpg, hx, Bool.and_self, if_true]
  rw [onClk_fb]
  exact ⟨State.fb_setB_same _ _ _ _ (by decide), by simp⟩

theorem clusterSourceSwitchDone_gives (s : State) (n : Fin 4) :
    Gives (.clusterSourceSwitchDone n) s fun t =>
      t.fb F.CK_CLUSTER_SWITCHING n = false ∧ t.mem = s.mem ∧ t.cpus = s.cpus :=
  ⟨_, rfl, State.fb_setB_same _ _ _ _ (by decide), rfl, rfl⟩

/-! ### The register of a cluster's clock (03 R60) -/

/-- An access that is let through leaves every field as it was. -/
theorem gateOff_flds {s s1 : State} {off : Nat} (h : gateOff s off = .ok () s1) : s1.flds = s.flds := by
  have unit {t : State} {u : Nat} (h : gateUnit t u = .ok () s1) : s1.flds = t.flds := by
    unfold gateUnit at h
    split at h
    · cases h; rfl
    · split at h <;> cases h
  have dom {t t1 : State} {d : Nat} (h : gateDom t d = .ok () t1) : t1.flds = t.flds := by
    unfold gateDom at h
    dsimp only at h
    split at h
    · cases h; rfl
    · split at h <;> cases h
  have both {u d : Option Nat} (h : gate s u d = .ok () s1) : s1.flds = s.flds := by
    unfold gate at h
    split at h
    · rename_i t hd
      have ht : t.flds = s.flds := by
        split at hd
        · cases hd; rfl
        · exact dom hd
      split at h
      · cases h; exact ht
      · exact (unit h).trans ht
    · rename_i r hr
      exact absurd h (hr _ _)
  unfold gateOff at h
  split at h
  · split at h
    · cases h
    · exact both h
  · split at h
    · cases h
    · exact unit h
  · split at h
    · cases h
    · cases h; rfl
  · split at h
    · cases h
    · exact both h
  · cases h

/-- A write of CK_CLUSTERn that is let through is the write to a state with the same fields. -/
theorem ckClusterWrite_eq {s : State} {q : Requester} {n : Fin 4} {v : Word} (ho : openAt s (0xE00100080 + 8 * n.val)) :
    ∃ s1, s1.flds = s.flds ∧
      exec (.ckClusterWrite q n v) s = .next (clusterWrite s1 (.full q (0xE00100080 + 8 * n.val) v) n) := by
  obtain ⟨s1, h⟩ := ho
  refine ⟨s1, gateOff_flds h, ?_⟩
  change execCkClusterWrite q n v s = _
  rw [execCkClusterWrite, rowWrite, h]

/-- A bit of the written value is the one-bit field at its place. -/
theorem bitsOf_one_bit (v : Word) {f : Fld} (h : f.hi = f.lo) : bitsOf v f = b2n (v.getLsbD f.lo) := by
  have hw : f.width = 1 := by simp [Fld.width, h]
  rw [bitsOf, hw, BitVec.getLsbD, b2n, Nat.testBit_eq_decide_div_mod_eq]
  rcases Nat.mod_two_eq_zero_or_one (v.toNat / 2 ^ f.lo) with h | h <;> simp [h]

theorem Wr.on_full (q : Requester) (off : Nat) (v : Word) {f : Fld} (h : f.hi = f.lo) :
    (Wr.full q off v).on f = v.getLsbD f.lo := by
  rw [Wr.on, Wr.bits_full, bitsOf_one_bit v h]
  cases v.getLsbD f.lo <;> rfl

theorem Wr.new_full_bit (q : Requester) (off : Nat) (v : Word) {f : Fld} (s : State) (i : Nat) (h : f.hi = f.lo)
    (hf : f.lo ≤ 63) : (Wr.full q off v).new f s i = b2n (v.getLsbD f.lo) := by
  rw [Wr.new_full q off v f s i ⟨h.ge, h ▸ hf⟩, bitsOf_one_bit v h]

/-- The field that a change of a cluster's source sets. -/
def switchField (f : Fld) : Bool := f.id == F.CK_CLUSTER_SWITCHING.id

theorem switchField_byId : ById switchField := fun f g h => by simp only [switchField, h]

theorem switching_kept (s : State) (c : Bool) (n : Nat) : FieldsKept switchField s (if c then switching s n else s) :=
  .ite (.setF (.of_flds rfl) switchField_byId n _ rfl) (.of_flds rfl)

/-- An allowed new value of FREQ is taken, and the lock is lost. -/
theorem freqWrite_changed (s : State) (q : Requester) (off : Nat) (v : Word) (n : Nat)
    (hlo : 2 ≤ bitsOf v F.CK_CLUSTER_FREQ) (hhi : bitsOf v F.CK_CLUSTER_FREQ ≤ 24)
    (hne : bitsOf v F.CK_CLUSTER_FREQ ≠ s.fl F.CK_CLUSTER_FREQ n) :
    ∃ u, FieldsKept switchField s u ∧ freqWrite s (.full q off v) n =
      (u.setF F.CK_CLUSTER_FREQ n (bitsOf v F.CK_CLUSTER_FREQ)).setB F.CK_CLUSTER_LOCK n false := by
  have hnew := Wr.new_full q off v F.CK_CLUSTER_FREQ s n (by decide)
  unfold freqWrite
  simp only [hnew]
  rw [if_neg hne, if_pos ⟨hlo, hhi⟩]
  exact ⟨_, .ite ((switching_kept s _ n).flds (onClk_flds _ _)) (switching_kept s _ n), rfl⟩

/-- The state of a cluster that runs from FIRC while its PLL, at FREQ = `f`, locks. -/
def Relocking (t : State) (n f : Nat) : Prop :=
  t.fl F.CK_CLUSTER_FREQ n = f ∧ t.fb F.CK_CLUSTER_LOCK n = false ∧ t.fb F.CK_CLUSTER_PLL_EN n = true ∧
    t.fb F.CK_CLUSTER_SEL n = false

/-- Clearing SEL, with a change of source or without, is all that is left to do. -/
theorem relocking_of_sel_cleared {s : State} {n f : Nat} (c : Bool) (g : Clocks → Clocks) (hf : s.fl F.CK_CLUSTER_FREQ n = f)
    (hl : s.fb F.CK_CLUSTER_LOCK n = false) (hp : s.fb F.CK_CLUSTER_PLL_EN n = true) :
    Relocking (onClk ((if c then switching s n else s).setB F.CK_CLUSTER_SEL n false) g) n f := by
  have h := switching_kept s c n
  simp only [Relocking, onClk_fl, onClk_fb]
  refine ⟨?_, ?_, ?_, State.fb_setB_same _ _ _ _ (by decide)⟩
  · exact (State.fl_setB_id _ n n _ (by decide)).trans ((h _ _ rfl).trans hf)
  · exact (State.fb_setB_id _ n n _ (by decide)).trans ((h.fb _ _ rfl).trans hl)
  · exact (State.fb_setB_id _ n n _ (by decide)).trans ((h.fb _ _ rfl).trans hp)

/-- A new FREQ with PLL_EN = 1 and SEL = 0: the PLL must lock anew, and the cluster runs from FIRC. -/
theorem clusterWrite_freq (s : State) (q : Requester) (off : Nat) (v : Word) (n : Nat)
    (hlo : 2 ≤ bitsOf v F.CK_CLUSTER_FREQ) (hhi : bitsOf v F.CK_CLUSTER_FREQ ≤ 24)
    (hne : bitsOf v F.CK_CLUSTER_FREQ ≠ s.fl F.CK_CLUSTER_FREQ n) (hen : v.getLsbD 8 = true) (hsel : v.getLsbD 10 = false) :
    Relocking (clusterWrite s (.full q off v) n) n (bitsOf v F.CK_CLUSTER_FREQ) := by
  obtain ⟨u, hu, e⟩ := freqWrite_changed s q off v n hlo hhi hne
  have hon : (Wr.full q off v).on F.CK_CLUSTER_SEL = false := (Wr.on_full q off v rfl).trans hsel
  have hpll (t : State) : (Wr.full q off v).new F.CK_CLUSTER_PLL_EN t n = 1 := by
    rw [Wr.new_full_bit q off v t n rfl (by decide), show v.getLsbD F.CK_CLUSTER_PLL_EN.lo = true from hen, b2n, if_pos rfl]
  generalize hw : (u.setF F.CK_CLUSTER_FREQ n (bitsOf v F.CK_CLUSTER_FREQ)).setB F.CK_CLUSTER_LOCK n false = w at e
  have hfreq : w.fl F.CK_CLUSTER_FREQ n = bitsOf v F.CK_CLUSTER_FREQ := by
    rw [← hw, State.fl_setB_id _ _ _ _ (by decide), State.fl_setF_same, bitsOf_mod]
  have hlock : w.fb F.CK_CLUSTER_LOCK n = false := by
    rw [← hw]; exact State.fb_setB_same _ _ _ _ (by decide)
  have hkeep : w.fb F.CK_CLUSTER_SEL n = s.fb F.CK_CLUSTER_SEL n := by
    rw [← hw, State.fb_setB_id _ _ _ _ (by decide), State.fb_setF_id _ _ _ _ (by decide), hu.fb _ _ rfl]
  have hfreq' := (State.fl_setB_id w n n true (by decide : F.CK_CLUSTER_PLL_EN.id ≠ F.CK_CLUSTER_FREQ.id)).trans hfreq
  have hlock' := (State.fb_setB_id w n n true (by decide : F.CK_CLUSTER_PLL_EN.id ≠ F.CK_CLUSTER_LOCK.id)).trans hlock
  have hpll' : (w.setB F.CK_CLUSTER_PLL_EN n true).fb F.CK_CLUSTER_PLL_EN n = true := State.fb_setB_same _ _ _ _ (by decide)
  unfold clusterWrite
  simp only [e, hon, hpll, Wr.touches_full q off v F.CK_CLUSTER_SEL (by decide), Bool.false_and, Bool.not_true,
    Bool.false_eq_true, if_false, ne_eq, not_true_eq_false]
  split
  · exact relocking_of_sel_cleared _ _ hfreq' hlock' hpll'
  · rename_i hs
    refine ⟨hfreq', hlock', hpll', ?_⟩
    rw [State.fb_setB_id _ _ _ _ (by decide), hkeep]
    exact Bool.eq_false_iff.mpr hs

/-- SEL = 1 with the PLL locked and FREQ as it is: the cluster moves to its PLL. -/
theorem clusterWrite_select (s : State) (q : Requester) (off : Nat) (v : Word) (n : Nat)
    (hf : bitsOf v F.CK_CLUSTER_FREQ = s.fl F.CK_CLUSTER_FREQ n) (hen : v.getLsbD 8 = true) (hsel : v.getLsbD 10 = true)
    (hl : s.fb F.CK_CLUSTER_LOCK n = true) (hs : s.fb F.CK_CLUSTER_SEL n = false) :
    clusterWrite s (.full q off v) n =
      switching ((s.setB F.CK_CLUSTER_PLL_EN n true).setB F.CK_CLUSTER_SEL n true) n := by
  have hon : (Wr.full q off v).on F.CK_CLUSTER_SEL = true := (Wr.on_full q off v rfl).trans hsel
  have hpll : (Wr.full q off v).new F.CK_CLUSTER_PLL_EN s n = 1 := by
    rw [Wr.new_full_bit q off v s n rfl (by decide), show v.getLsbD F.CK_CLUSTER_PLL_EN.lo = true from hen, b2n, if_pos rfl]
  have hfreq : freqWrite s (.full q off v) n = s :=
    if_pos ((Wr.new_full q off v F.CK_CLUSTER_FREQ s n (by decide)).trans hf)
  have hlock : (s.setB F.CK_CLUSTER_PLL_EN n true).fb F.CK_CLUSTER_LOCK n = true :=
    (State.fb_setB_id s n n true (by decide)).trans hl
  have htouch : (Wr.full q off v).touches F.CK_CLUSTER_SEL = true := Wr.touches_full q off v _ (by decide)
  unfold clusterWrite
  simp [hfreq, hon, hpll, hl, hs, hlock, htouch]

theorem ckClusterWrite_freq (s : State) (q : Requester) (n : Fin 4) (v : Word) (ho : openAt s (0xE00100080 + 8 * n.val))
    (hlo : 2 ≤ bitsOf v F.CK_CLUSTER_FREQ) (hhi : bitsOf v F.CK_CLUSTER_FREQ ≤ 24)
    (hne : bitsOf v F.CK_CLUSTER_FREQ ≠ s.fl F.CK_CLUSTER_FREQ n) (hen : v.getLsbD 8 = true) (hsel : v.getLsbD 10 = false) :
    Gives (.ckClusterWrite q n v) s fun t => Relocking t n (bitsOf v F.CK_CLUSTER_FREQ) := by
  obtain ⟨s1, hs, e⟩ := ckClusterWrite_eq (q := q) (v := v) ho
  refine ⟨_, e, clusterWrite_freq s1 q _ v n hlo hhi ?_ hen hsel⟩
  rwa [State.fl_congr hs]

theorem ckClusterWrite_select (s : State) (q : Requester) (n : Fin 4) (v : Word) (ho : openAt s (0xE00100080 + 8 * n.val))
    (hf : bitsOf v F.CK_CLUSTER_FREQ = s.fl F.CK_CLUSTER_FREQ n) (hen : v.getLsbD 8 = true) (hsel : v.getLsbD 10 = true)
    (hl : s.fb F.CK_CLUSTER_LOCK n = true) (hs : s.fb F.CK_CLUSTER_SEL n = false) :
    Gives (.ckClusterWrite q n v) s fun t => t.fb F.CK_CLUSTER_SEL n = true ∧ t.fb F.CK_CLUSTER_SWITCHING n = true ∧
      t.fb F.CK_CLUSTER_LOCK n = true := by
  obtain ⟨s1, h1, e⟩ := ckClusterWrite_eq (q := q) (v := v) ho
  rw [← State.fl_congr h1] at hf
  rw [← State.fb_congr h1] at hl hs
  rw [clusterWrite_select s1 q _ v n hf hen hsel hl hs] at e
  refine ⟨_, e, ?_, State.fb_setB_same _ _ _ _ (by decide), ?_⟩
  · exact (State.fb_setB_id _ _ _ _ (by decide)).trans (State.fb_setB_same _ _ _ _ (by decide))
  · exact (State.fb_setB_id _ _ _ _ (by decide)).trans
      ((State.fb_setB_id _ _ _ _ (by decide)).trans ((State.fb_setB_id _ _ _ _ (by decide)).trans hl))

/-- Settles O26: each clause is the lemma about its command. -/
theorem clocksAndPlls : Obligations.ClocksAndPlls := by
  intro s k q n v
  exact ⟨clockMonitorWindow_passed s k, clockMonitorWindow_first s k, clockMonitorWindow_second s k, kclkMissingPulse_gives s,
    xrefGood_gives s, spllLock_gives s, ckClusterWrite_freq s q n v, ckClusterWrite_select s q n v, cpllLock_gives s n,
    clusterSourceSwitchDone_gives s n⟩

/-! ### The report of the carried state (02 R41; 15 R332, R341) -/

/-- The carried state with both mirror ports retrained at the reduced rate and not yet reported. MR_VER.AGREED and both ports
hold the version 256, which is beyond the 8 bits of that field. -/
def agreedBeyondWidth : State :=
  { flds := [(fkey F.KT_SUPPLY_CARRIED 0, 1), (fkey F.MR_VER_AGREED 0, 256), (fkey F.MR_PORTSTAT_REDUCED 0, 1),
      (fkey F.MR_PORTSTAT_REDUCED 1, 1)]
    sup := { reduced := true }
    links := [(32, { ver := 256 }), (33, { ver := 256 })] }

/-- Port 0 becomes ACTIVE and puts its version, cut to 0, into AGREED; port 1 then finds another version and is REFUSED. -/
theorem mirrorCarriedReport_refuses_port1 :
    Gives .mirrorCarriedReport agreedBeyondWidth fun t =>
      t.fl F.MR_PORTSTAT_STATE 0 = 5 ∧ t.fl F.MR_VER_AGREED 0 = 0 ∧ t.fl F.MR_PORTSTAT_STATE 1 = 9 :=
  ⟨_, rfl, by decide +kernel⟩

/-- Refutes O25 at its clause on MIRROR_CARRIED_REPORT: the clause asks that both ports hold the version in MR_VER.AGREED, and
not that this value fits the field. A write cuts it to the field's 8 bits, so that where it does not fit the first port that
becomes ACTIVE changes AGREED, and the second is REFUSED. -/
theorem not_suppliesAndRails : ¬ Obligations.SuppliesAndRails := by
  rintro ⟨inputs, -⟩
  obtain ⟨-, -, -, -, -, -, -, report, -⟩ := inputs agreedBeyondWidth false false false 0 0 []
  obtain ⟨t, ht, -, active⟩ := report (by decide +kernel) rfl rfl (by decide +kernel)
  obtain ⟨u, hu, -, -, refused⟩ := mirrorCarriedReport_refuses_port1
  have e : t = u := by
    rw [ht] at hu
    exact Host.Outcome.next.inj hu
  have h5 : t.fl F.MR_PORTSTAT_STATE 1 = 5 := active 1 (by decide) (by decide +kernel)
  rw [e, refused] at h5
  exact absurd h5 (by decide)

end Sys2Proof.Machine
end

section
/-! The bring-up family (spec 03): what reset leaves (O59, O60), readiness and the warm reset (O27), and the Caddy's boot
(O28). -/

namespace Sys2Proof.Machine

/-! ### What reset leaves (03 R61, R66) -/

/-- Settles O59: reset holds no byte of memory, no processor and no command. -/
theorem resetHasForm : Obligations.ResetHasForm := ⟨rfl, rfl, rfl⟩

/-- Settles O60: every field reads the reset of its table, and every processor is the one that an unlisted key reads as. -/
theorem resetValues : Obligations.ResetValues :=
  ⟨by decide, fun _ => rfl, by decide, by decide, by decide⟩

/-! ### Single bits, and the readiness bits (03 R57) -/

/-- Adding the power of a clear bit carries into no other bit. -/
theorem testBit_add_two_pow_ne {n k j : Nat} (hk : n.testBit k = false) (hj : j ≠ k) :
    (n + 2 ^ k).testBit j = n.testBit j := by
  induction k generalizing n j with
  | zero =>
    obtain ⟨j, rfl⟩ := Nat.exists_eq_succ_of_ne_zero hj
    have even : n % 2 = 0 := by simpa using hk
    rw [Nat.succ_eq_add_one, Nat.testBit_succ, Nat.testBit_succ, show (n + 2 ^ 0) / 2 = n / 2 by omega]
  | succ k ih =>
    rw [Nat.testBit_succ] at hk
    have half : (n + 2 ^ (k + 1)) / 2 = n / 2 + 2 ^ k := by rw [Nat.pow_succ]; omega
    cases j with
    | zero => rw [Nat.testBit_zero, Nat.testBit_zero, Nat.pow_succ, Nat.add_mul_mod_self_right]
    | succ j => rw [Nat.testBit_succ, Nat.testBit_succ, half, ih hk (by omega)]

theorem testBit_withBit_ne (n : Nat) {k j : Nat} (b : Bool) (hj : j ≠ k) : (withBit n k b).testBit j = n.testBit j := by
  unfold withBit
  split
  · rfl
  · rename_i h
    cases b with
    | true => exact testBit_add_two_pow_ne (by simpa using h) hj
    | false =>
      have set : n.testBit k = true := by simpa using h
      have e : 2 ^ k + (n - 2 ^ k) = n := Nat.add_sub_cancel' (Nat.ge_two_pow_of_testBit set)
      have clear : (n - 2 ^ k).testBit k = false := by
        have := Nat.testBit_two_pow_add_eq (n - 2 ^ k) k
        rw [e, set] at this
        simpa using this.symm
      have := testBit_add_two_pow_ne clear hj
      rwa [Nat.add_comm, e, eq_comm] at this

theorem testBit_withBit_same (n k : Nat) (b : Bool) : (withBit n k b).testBit k = b := by
  cases b with
  | true => exact testBit_withBit_true n k
  | false =>
    unfold withBit
    split
    · assumption
    · rename_i h
      have set : n.testBit k = true := by simpa using h
      have := Nat.testBit_two_pow_add_eq (n - 2 ^ k) k
      rw [Nat.add_sub_cancel' (Nat.ge_two_pow_of_testBit set), set] at this
      simpa using this.symm

@[simp] theorem ready_setReady_same (s : State) (u : Nat) (b : Bool) : (s.setReady u b).ready u = b := by
  have hw : u % 64 < F.KT_READY_READY.width := Nat.mod_lt u (by decide)
  rw [State.ready, State.setReady, State.setBit, State.fl_setF_same, bitAt, Nat.testBit_mod_two_pow, testBit_withBit_same,
    decide_eq_true hw, Bool.true_and]

/-- The other readiness bits stay. -/
theorem ready_setReady_ne (s : State) {u w : Nat} (b : Bool) (hu : u < 256) (hw : w < 256) (h : w ≠ u) :
    (s.setReady u b).ready w = s.ready w := by
  have hlt : w % 64 < F.KT_READY_READY.width := Nat.mod_lt w (by decide)
  rw [State.ready, State.setReady, State.setBit, State.fl_setF]
  split
  · have reg : u / 64 = w / 64 := by omega
    rw [bitAt, Nat.testBit_mod_two_pow, decide_eq_true hlt, Bool.true_and, testBit_withBit_ne _ _ (by omega), reg]
    rfl
  · rfl

/-- A readiness bit is one of KT_READY's. -/
theorem ready_congr {s t : State} (h : ∀ i, t.fl F.KT_READY_READY i = s.fl F.KT_READY_READY i) (u : Nat) :
    t.ready u = s.ready u := by rw [State.ready, State.ready, h]

/-! ### Changes beside the processors, memory and the sequencers -/

/-- The fields of a record, and those of a list. -/
def noteField (l : List Fld) (f : Fld) : Bool := dregsField f || l.any fun g => g.id == f.id

theorem noteField_byId (l : List Fld) : ById (noteField l) := fun f g h => by simp only [noteField, dregsField_byId f g h, h]

theorem dregsField_of_noteField {l : List Fld} (f : Fld) (h : noteField l f = false) : dregsField f = false :=
  (Bool.or_eq_false_iff.mp h).1

theorem noteField_of_subset {l l' : List Fld} (h : l ⊆ l') (f : Fld) (hf : noteField l' f = false) : noteField l f = false := by
  simp only [noteField, Bool.or_eq_false_iff, List.any_eq_false] at hf ⊢
  exact ⟨hf.1, fun g hg => hf.2 g (h hg)⟩

/-- `t` is `s` but for fields of a kind and the shadows, interrupt commitments, records, the memory controller, links, the
router, and the free values taken. -/
structure SideFrame (k : Fld → Bool) (s t : State) : Prop where
  rest : { t with flds := s.flds, sh := s.sh, icCommit := s.icCommit, icPulse := s.icPulse, dregs := s.dregs, dram := s.dram,
                  links := s.links, router := s.router, free := s.free } = s
  fl : FieldsKept k s t

namespace SideFrame
variable {k k' : Fld → Bool} {s t u : State}

theorem refl (k : Fld → Bool) (s : State) : SideFrame k s s := ⟨rfl, fun _ _ _ => rfl⟩

theorem trans (h : SideFrame k s t) (h' : SideFrame k t u) : SideFrame k s u :=
  ⟨by have h1 := h.rest; rw [← h'.rest] at h1; exact h1, h.fl.trans h'.fl⟩

theorem weaken (h : SideFrame k s t) (hk : ∀ f, k' f = false → k f = false) : SideFrame k' s t := ⟨h.rest, h.fl.weaken hk⟩

theorem setF (h : SideFrame k s t) (hk : ById k) {f : Fld} (i v : Nat) (hf : k f = true) : SideFrame k s (t.setF f i v) :=
  ⟨h.rest, h.fl.setF hk i v hf⟩

theorem ite {c : Prop} [Decidable c] (ht : SideFrame k s t) (hu : SideFrame k s u) : SideFrame k s (if c then t else u) := by
  split
  · exact ht
  · exact hu

theorem foldl {α : Type} {step : State → α → State} (hs : ∀ t a, SideFrame k t (step t a)) :
    ∀ (l : List α) (t : State), SideFrame k t (l.foldl step t)
  | [], t => refl k t
  | a :: l, t => (hs t a).trans (foldl hs l (step t a))

theorem mem (h : SideFrame k s t) : t.mem = s.mem := by
  have e := congrArg State.mem h.rest
  exact e

theorem cpus (h : SideFrame k s t) : t.cpus = s.cpus := by
  have e := congrArg State.cpus h.rest
  exact e

theorem cpu (h : SideFrame k s t) (p : Proc) : t.cpu p = s.cpu p := by rw [State.cpu, State.cpu, h.cpus]

theorem caches (h : SideFrame k s t) : t.caches = s.caches := by
  have e := congrArg State.caches h.rest
  exact e

theorem steep (h : SideFrame k s t) : t.steep = s.steep := by
  have e := congrArg State.steep h.rest
  exact e

theorem warm (h : SideFrame k s t) : t.warm = s.warm := by
  have e := congrArg State.warm h.rest
  exact e

theorem caddy (h : SideFrame k s t) : t.caddy = s.caddy := by
  have e := congrArg State.caddy h.rest
  exact e

theorem time (h : SideFrame k s t) : t.time = s.time := by
  have e := congrArg State.time h.rest
  exact e

theorem sup (h : SideFrame k s t) : t.sup = s.sup := by
  have e := congrArg State.sup h.rest
  exact e

theorem fb (h : SideFrame k s t) (f : Fld) (i : Nat) (hf : k f = false) : t.fb f i = s.fb f i := h.fl.fb f i hf

theorem ready (h : SideFrame k s t) (hf : k F.KT_READY_READY = false) (u : Nat) : t.ready u = s.ready u :=
  ready_congr (fun i => h.fl _ i hf) u

end SideFrame

theorem IcFrame.side {s t : State} (h : IcFrame icField s t) (l : List Fld) : SideFrame (noteField l) s t :=
  ⟨congrArg (fun u : State => { u with sh := s.sh, dregs := s.dregs, dram := s.dram, links := s.links, router := s.router,
                                       free := s.free }) h.rest,
    fun f i hf => h.fl f i (icField_of_dregsField f (dregsField_of_noteField f hf))⟩

theorem raiseSource_side (l : List Fld) (s : State) (n : Nat) : SideFrame (noteField l) s (raiseSource s n) :=
  (raiseSource_frame s n).side l

theorem dregs_side (l : List Fld) (s : State) (source cls code detail : Nat) :
    SideFrame (noteField l) s (dregs s source cls code detail) :=
  have h := dregs_frame s source cls code detail
  ⟨congrArg (fun u : State => { u with sh := s.sh, dram := s.dram, links := s.links, router := s.router, free := s.free })
    h.rest, fun f i hf => h.fl f i (dregsField_of_noteField f hf)⟩

theorem dregsFree_side (l : List Fld) (s : State) (source cls code : Nat) :
    SideFrame (noteField l) s (dregsFree s source cls code) :=
  have taken : SideFrame (noteField l) s { s with free := s.free + 1 } := ⟨rfl, fun _ _ _ => rfl⟩
  taken.trans (dregs_side l _ source cls code (Config.freeNat s.free))

theorem bumpF_side {l : List Fld} (s : State) {f : Fld} (i : Nat) (hf : noteField l f = true) :
    SideFrame (noteField l) s (s.bumpF f i) :=
  .ite ((SideFrame.refl _ s).setF (noteField_byId l) i _ hf) (.refl _ s)

/-! ### Folds over a state -/

/-- What no step of a fold changes, the fold leaves. -/
theorem foldl_keeps {α β : Type} (g : State → β) {step : State → α → State} (hs : ∀ t a, g (step t a) = g t) :
    ∀ (l : List α) (t : State), g (l.foldl step t) = g t
  | [], _ => rfl
  | a :: l, t => (foldl_keeps g hs l (step t a)).trans (hs t a)

/-- What each step settles of its own element, and no step unsettles, holds of every element in the end. -/
theorem foldl_settles {α : Type} {P : State → α → Prop} {step : State → α → State} (own : ∀ t a, P (step t a) a)
    (keep : ∀ t a b, P t b → P (step t a) b) {l : List α} {a : α} (ha : a ∈ l) (t : State) : P (l.foldl step t) a := by
  have settled : ∀ (l : List α) (t : State), P t a → P (l.foldl step t) a := by
    intro l
    induction l with
    | nil => exact fun _ h => h
    | cons b l ih => exact fun t h => ih _ (keep t b a h)
  induction l generalizing t with
  | nil => cases ha
  | cons b l ih =>
    rcases List.mem_cons.mp ha with rfl | ha
    · exact settled l _ (own t _)
    · exact ih ha _

/-! ### The policy of the firmware (16 R350, R359) -/

/-- The fields that a policy sets. -/
def policyFields : List Fld :=
  [F.MB_STAT_EN, F.MB_STAT_PART, F.MB_STAT_MINRING, F.IC_SRC_SECURE, F.IC_SRC_PRIO, F.IC_SRC_TARGETS, F.IC_SRC_EDGE,
    F.NG_POLICY_LEGACY_TRUST, F.NG_POLICY_LEGACY_TMO, F.NG_MGMTAUTH_NODE, F.NG_MGMTAUTH_VALID]

theorem icSettle_frame (s : State) (n : Nat) : IcFrame icField s (icSettle s n) := by
  unfold icSettle
  split
  · exact icUnpend_frame s n
  · split
    · exact icCommit_frame s n
    · split
      · exact icPend_frame s n
      · exact icUnpend_frame s n

theorem applyPolicy_side (s : State) (p : Policy) : SideFrame (noteField policyFields) s (applyPolicy s p) := by
  have byId := noteField_byId policyFields
  unfold applyPolicy
  refine .trans (SideFrame.setF (.setF (.trans (.foldl (fun t c => ?_) _ s) (.foldl (fun t x => ?_) _ _)) byId _ _ rfl)
    byId _ _ rfl) (.foldl (fun t m => ?_) _ _)
  · exact .ite (.setF (.setF (.setF (.refl _ t) byId _ _ rfl) byId _ _ rfl) byId _ _ rfl) (.refl _ t)
  · refine .ite (.trans ?_ ((icSettle_frame _ x.1).side _)) (.refl _ t)
    exact .setF (.setF (.setF (.setF (.refl _ t) byId _ _ rfl) byId _ _ rfl) byId _ _ rfl) byId _ _ rfl
  · exact .setF (.setF (.refl _ t) byId _ _ rfl) byId _ _ rfl

/-! ### Readiness (03 R57 to R59) -/

theorem icCommitAll_frame (s : State) : IcFrame icField s (icCommitAll s) := by
  unfold icCommitAll
  generalize setElems s F.IC_SRC_PENDING = l
  induction l generalizing s with
  | nil => exact .refl _ s
  | cons n l ih => exact (icCommit_frame s n).trans (ih _)

/-- A core that starts changes itself, and what shows that it is held. -/
theorem coreStarts_kept (s : State) (c : Fin 16) :
    FieldsKept (noteField [F.DB_CATCH_HELD]) s (coreStarts s c) ∧ (coreStarts s c).mem = s.mem := by
  unfold coreStarts
  dsimp only
  split
  · exact ⟨.of_flds rfl, rfl⟩
  · split
    · exact ⟨.setF (.of_flds rfl) (noteField_byId _) (f := F.DB_CATCH_HELD) 0 _ rfl, rfl⟩
    · exact ⟨.of_flds rfl, rfl⟩

/-- A core in reset that no reset catch marks runs from its pc. -/
theorem coreStarts_runs {s : State} {c : Fin 16} (hr : (s.cpu (.core c)).run = .inReset)
    (hm : s.dbg.marked.getLsbD c.val = false) :
    ((coreStarts s c).cpu (.core c)).run = .running ∧ ((coreStarts s c).cpu (.core c)).pc = (s.cpu (.core c)).pc := by
  unfold coreStarts
  dsimp only
  rw [if_neg (not_not.mpr hr), hm, if_neg Bool.false_ne_true, State.cpu_setCpu_same]
  exact ⟨rfl, rfl⟩

/-- A unit that no readiness bit shows and no timeout has given up initialises itself (03 R57). -/
def Initialises (s : State) (u : Nat) : Prop :=
  s.ready u = false ∧ mget false s.pwr.timedOut u = false ∧ unitUp s u = true ∧ u ≠ 43

/-- What a readiness bit sets going: the policy for the interconnect, the start of a core. -/
def onReady (s : State) (n : Nat) : State :=
  if n = 34 ∧ s.caddy.phase = .running then (match s.caddy.policy with | some p => applyPolicy s p | none => s)
  else if n < 16 then icCommitAll (coreStarts s (Fin.ofNat 16 n)) else s

theorem exec_readyBitSet {s : State} {u : Fin 256} (hw : Initialises s u) (hd : u.val < 29 ∨ 32 < u.val) :
    exec (.readyBitSet u) s = .next (onReady (s.setReady u true) u) := by
  obtain ⟨hr, ht, hu, h43⟩ := hw
  have dram : ¬ (29 ≤ u.val ∧ u.val ≤ 32) := by omega
  change Host.Outcome.next _ = _
  rw [if_neg (by simp [hr, ht, hu, h43, dram])]
  rfl

/-- What follows readiness changes no readiness bit and no memory. -/
theorem onReady_keeps (s : State) (n : Nat) : (∀ w, (onReady s n).ready w = s.ready w) ∧ (onReady s n).mem = s.mem := by
  unfold onReady
  split
  · split
    · exact ⟨(applyPolicy_side s _).ready rfl, (applyPolicy_side s _).mem⟩
    · exact ⟨fun _ => rfl, rfl⟩
  · split
    · obtain ⟨hf, hm⟩ := coreStarts_kept s (Fin.ofNat 16 n)
      have h := (icCommitAll_frame (coreStarts s (Fin.ofNat 16 n))).side []
      exact ⟨fun w => (h.ready rfl w).trans (ready_congr (fun i => hf _ i rfl) w), h.mem.trans hm⟩
    · exact ⟨fun _ => rfl, rfl⟩

/-- 03 R57: a unit that has initialised itself shows its bit, and no other bit changes. -/
theorem readyBitSet_gives (s : State) (u : Fin 256) (hw : Initialises s u) (hd : u.val < 29 ∨ 32 < u.val) :
    Gives (.readyBitSet u) s fun t => t.ready u = true ∧ (∀ w, w < 256 → w ≠ u.val → t.ready w = s.ready w) ∧
      t.mem = s.mem := by
  obtain ⟨ready, mem⟩ := onReady_keeps (s.setReady u true) u
  refine ⟨_, exec_readyBitSet hw hd, (ready u).trans (ready_setReady_same s u true), fun w hl hne => ?_, mem⟩
  exact (ready w).trans (ready_setReady_ne s true u.isLt hl hne)

/-- 03 R57: a core that becomes ready makes its first fetch. -/
theorem readyBitSet_starts (s : State) (u : Fin 256) (c : Fin 16) (hw : Initialises s u) (hc : u.val = c.val)
    (hr : (s.cpu (.core c)).run = .inReset) (hm : s.dbg.marked.getLsbD c.val = false) :
    Gives (.readyBitSet u) s fun t =>
      (t.cpu (.core c)).run = .running ∧ (t.cpu (.core c)).pc = (s.cpu (.core c)).pc := by
  have lt := c.isLt
  have core : (Fin.ofNat 16 u.val : Fin 16) = c := Fin.ext (by simp [hc])
  refine ⟨_, exec_readyBitSet hw (.inl (by omega)), ?_⟩
  dsimp only
  rw [onReady, if_neg (by omega), if_pos (by omega), core,
    ((icCommitAll_frame (coreStarts (s.setReady u true) c)).side []).cpu]
  exact coreStarts_runs hr hm

/-- 03 R58: a unit that does not become ready in time is given up, with a record. -/
theorem readinessTimeout_gives (s : State) (u : Fin 256) (hw : Initialises s u)
    (hd : 29 ≤ u.val → u.val ≤ 32 → s.dram.inInit.getLsbD (u.val - 29) = true) (hx : u.val = 34 → s.clk.xrefGood = true) :
    Gives (.readinessTimeout u) s fun t => mget false t.pwr.timedOut u = true ∧ t.ready u = false ∧ t.mem = s.mem := by
  obtain ⟨hr, ht, hu, h43⟩ := hw
  have dram : (decide (29 ≤ u.val) && decide (u.val ≤ 32) && !s.dram.inInit.getLsbD (u.val - 29)) = false := by
    rw [Bool.eq_false_iff]
    intro h
    simp only [Bool.and_eq_true, decide_eq_true_eq, Bool.not_eq_true'] at h
    exact absurd (hd h.1.1 h.1.2) (by simp [h.2])
  have net : ¬ (u.val = 34 ∧ s.clk.xrefGood = false) := fun h => absurd (hx h.1) (by simp [h.2])
  refine ⟨_, rfl, ?_⟩
  rw [if_neg (by simp [hr, ht, hu, h43, dram]; simpa using net)]
  refine ⟨?_, ?_, dregs_mem _ _ _ _ _⟩
  · rw [dregs_pwr]
    exact mget_mset_same false s.pwr.timedOut u true
  · rw [(dregs_side [] _ _ _ _ _).ready rfl]
    exact hr

/-! ### The Caddy in reset, and its release (03 R52, R66) -/

/-- The Caddy in reset: every COUNTERSIGN has ended, then its own state is lost. -/
theorem caddyToReset_eq (s : State) :
    ∃ u, SideFrame (noteField [F.IF_STAT_CSIGN]) (s.setCpu .caddy { ({} : Cpu) with epochNo := (s.cpu .caddy).epochNo }) u ∧
      caddyToReset s = { (u.setReady 43 false) with
        mem := u.mem.filter (fun e => Nat.blt e.1 privBase)
        caddy := { u.caddy with phase := .inReset, second := false, recovery := [], formerR0 := [], nonces := [], strobes := 0 } } :=
  ⟨(List.range 32).foldl (fun s i => s.setB F.IF_STAT_CSIGN i false)
      (s.setCpu .caddy { ({} : Cpu) with epochNo := (s.cpu .caddy).epochNo }),
    .foldl (fun t i => (SideFrame.refl _ t).setF (noteField_byId _) i _ rfl) _ _, rfl⟩

theorem caddyToReset_ready (s : State) : (caddyToReset s).ready 43 = false := by
  obtain ⟨u, -, e⟩ := caddyToReset_eq s
  rw [e]
  exact ready_setReady_same u 43 false

theorem caddyToReset_phase (s : State) : (caddyToReset s).caddy.phase = .inReset := by
  obtain ⟨u, -, e⟩ := caddyToReset_eq s
  rw [e]

theorem caddyToReset_warm (s : State) : (caddyToReset s).warm = s.warm := by
  obtain ⟨u, hu, e⟩ := caddyToReset_eq s
  rw [e]
  exact hu.warm

theorem mget_filter {α : Type} (d : α) (p : Nat × α → Bool) (m : FMap α) {k : Nat} (h : ∀ v, p (k, v) = true) :
    mget d (m.filter p) k = mget d m k := by
  induction m with
  | nil => rfl
  | cons e m ih =>
    obtain ⟨j, v⟩ := e
    by_cases hj : j = k
    · subst hj
      simp [h, mget]
    · by_cases hp : p (j, v) = true
      · simp [hp, mget, hj, ih]
      · simp [hp, mget, hj, ih]

/-- The reset of the Caddy loses no memory below the SRAMs of the Infusers and the Caddy. -/
theorem readByte_caddyToReset (s : State) {a : Nat} (ha : a < privBase) : readByte (caddyToReset s) a = readByte s a := by
  obtain ⟨u, hu, e⟩ := caddyToReset_eq s
  have mem : u.mem = s.mem := hu.mem
  rw [e, readByte, readByte, ← mem]
  exact mget_filter memDefault _ u.mem fun _ => by simpa [Nat.blt_eq] using ha

/-- The Caddy out of reset, in its ROM on FIRC (03 R52). -/
def Started (s t : State) : Prop :=
  t.caddy.phase = .rom ∧ (t.cpu .caddy).run = .running ∧ (t.cpu .caddy).pc = 0x1000000000 ∧ t.clk.caddyPll = false ∧
    t.mem = s.mem ∧ t.warm = s.warm

theorem caddyRelease_starts {s : State} (hp : s.caddy.phase = .inReset) (hs : supplied s) (ha : s.sup.alone = false)
    (hw : s.warm.active = false) (hh : s.steep.holds = false) : Started s (caddyRelease s) := by
  obtain ⟨hpor, hbor⟩ := hs
  rw [caddyRelease, if_pos (by simp [hp, hpor, hbor, ha, hw, hh])]
  have cpu := State.cpu_setCpu_same s .caddy { ({} : Cpu) with epochNo := (s.cpu .caddy).epochNo, run := .running, pc := 0x1000000000 }
  exact ⟨rfl, congrArg Cpu.run cpu, congrArg Cpu.pc cpu, rfl, rfl, rfl⟩

theorem caddyResetRelease_gives (s : State) (hp : s.caddy.phase = .inReset) (hs : supplied s) (ha : s.sup.alone = false)
    (hw : s.warm.active = false) (hh : s.steep.holds = false) :
    Gives .caddyResetRelease s fun t => t.caddy.phase = .rom ∧ (t.cpu .caddy).run = .running ∧
      (t.cpu .caddy).pc = 0x1000000000 ∧ t.clk.caddyPll = false ∧ t.mem = s.mem := by
  obtain ⟨phase, run, pc, firc, mem, -⟩ := caddyRelease_starts hp hs ha hw hh
  exact ⟨_, rfl, phase, run, pc, firc, mem⟩

/-! ### The Kettle restarts the Caddy (16 R362, R363; 03 R59) -/

/-- The restart as far as KT_CADDYRST notes it. -/
def restartNoted (s : State) (cause : Nat) : State :=
  (((dregsFree (caddyToReset s) 0x100 clsError 0x600).setF F.KT_CADDYRST_LASTCAUSE 0 cause).bumpF F.KT_CADDYRST_RESTARTS 0).setB
    F.KT_CADDYRST_FAILED 0 (cause == 3)

/-- A restart seen from channel `c` of the mailbox: a message in progress ends. -/
def restartChannel (s : State) (c : Nat) : State :=
  let busy := s.fl F.MB_STAT_STATE c == 2
  let s := (s.setB F.MB_STAT_RESTART c true).bumpF F.MB_STAT_RESTARTS c
  if busy then mbDone (writeBytes s (mbBuf c + 8) 2 mbRestarted) c else s

/-- The restart as far as the mailbox shows it. -/
def restartMailbox (s : State) (cause : Nat) : State := (List.range 8).foldl restartChannel (restartNoted s cause)

/-- The restarts of the last 10 s, with the one that is now. -/
def recentRestarts (s : State) : List Nat := (s.time :: s.caddy.restartTimes).filter fun t => s.time < t + 10000000000

/-- The restart is counted; the fifth within 10 s holds the Caddy off. -/
def restartLimit (s : State) (times : List Nat) : State :=
  let s := { s with caddy := { s.caddy with restarted := true, restartTimes := times } }
  if 5 ≤ times.length then
    let s := dregsFree (s.setB F.KT_CADDYRST_HELD 0 true) 0x100 clsFatal 0x601
    { s with caddy := { s.caddy with phase := .heldOff } }
  else s

theorem caddyRestart_eq (s : State) (cause : Nat) :
    caddyRestart s cause = restartLimit (raiseSource (restartMailbox s cause) 216)
      (recentRestarts (raiseSource (restartMailbox s cause) 216)) := by
  unfold caddyRestart restartLimit recentRestarts restartMailbox restartNoted restartChannel
  rfl

/-- The fields of a channel that note a restart. -/
def countFields : List Fld := [F.MB_STAT_RESTART, F.MB_STAT_RESTARTS]

/-- All fields of a channel that a restart changes. -/
def channelFields : List Fld := F.MB_STAT_STATE :: countFields

theorem writeBytes_flds (s : State) (a n v : Nat) : (writeBytes s a n v).flds = s.flds := by
  obtain ⟨m, h⟩ := writeBytes_only n s a v
  rw [h]

theorem writeBytes_caddy (s : State) (a n v : Nat) : (writeBytes s a n v).caddy = s.caddy := by
  obtain ⟨m, h⟩ := writeBytes_only n s a v
  rw [h]

theorem mbDone_side (s : State) (c : Nat) : SideFrame (noteField [F.MB_STAT_STATE]) s (mbDone s c) := by
  have h : SideFrame (noteField [F.MB_STAT_STATE]) s (s.setF F.MB_STAT_STATE c 3) :=
    (SideFrame.refl _ s).setF (noteField_byId _) c 3 rfl
  exact .ite (h.trans (raiseSource_side _ _ _)) h

/-- The channel is DONE, and no other changes its state. -/
theorem mbDone_state (s : State) (c n : Nat) :
    (mbDone s c).fl F.MB_STAT_STATE n = if c % 4096 = n % 4096 then 3 else s.fl F.MB_STAT_STATE n := by
  have h : (s.setF F.MB_STAT_STATE c 3).fl F.MB_STAT_STATE n = _ := State.fl_setF s _ c n 3
  unfold mbDone
  dsimp only
  split
  · rw [(raiseSource_side [] _ _).fl _ _ rfl, h]
    rfl
  · exact h

theorem restartChannel_side (s : State) (c : Nat) :
    SideFrame (noteField countFields) s ((s.setB F.MB_STAT_RESTART c true).bumpF F.MB_STAT_RESTARTS c) :=
  ((SideFrame.refl _ s).setF (noteField_byId _) c _ rfl).trans (bumpF_side _ c rfl)

theorem restartChannel_kept (s : State) (c : Nat) : FieldsKept (noteField channelFields) s (restartChannel s c) := by
  have h : FieldsKept (noteField channelFields) s _ :=
    (restartChannel_side s c).fl.weaken (noteField_of_subset (by simp [channelFields]))
  have done (t : State) : FieldsKept (noteField channelFields) t (mbDone t c) :=
    (mbDone_side t c).fl.weaken (noteField_of_subset (by simp [channelFields]))
  exact .ite ((h.flds (writeBytes_flds _ _ _ _)).trans (done _)) h

theorem restartChannel_caddy (s : State) (c : Nat) : (restartChannel s c).caddy = s.caddy := by
  have h := (restartChannel_side s c).caddy
  unfold restartChannel
  dsimp only
  split
  · rw [(mbDone_side _ c).caddy, writeBytes_caddy, h]
  · exact h

/-- A channel that was not BUSY does not become so, and the channel itself is not BUSY then. -/
theorem restartChannel_notBusy (s : State) (c n : Nat) (h : s.fl F.MB_STAT_STATE n ≠ 2 ∨ n = c) :
    (restartChannel s c).fl F.MB_STAT_STATE n ≠ 2 := by
  have same : ((s.setB F.MB_STAT_RESTART c true).bumpF F.MB_STAT_RESTARTS c).fl F.MB_STAT_STATE n = s.fl F.MB_STAT_STATE n :=
    (restartChannel_side s c).fl _ n rfl
  unfold restartChannel
  dsimp only
  split
  · rw [mbDone_state, State.fl_congr (writeBytes_flds _ _ _ _), same]
    rcases h with h | rfl
    · split
      · decide
      · exact h
    · rw [if_pos rfl]
      decide
  · rename_i idle
    rw [same]
    rcases h with h | rfl
    · exact h
    · exact fun e => idle (beq_iff_eq.mpr e)

theorem restartMailbox_notBusy (s : State) (cause : Nat) {n : Nat} (hn : n < 8) :
    (restartMailbox s cause).fl F.MB_STAT_STATE n ≠ 2 :=
  foldl_settles (P := fun t n => t.fl F.MB_STAT_STATE n ≠ 2) (fun t c => restartChannel_notBusy t c c (.inr rfl))
    (fun t c n h => restartChannel_notBusy t c n (.inl h)) (List.mem_range.mpr hn) _

theorem restartLimit_kept (s : State) (times : List Nat) :
    FieldsKept (noteField [F.KT_CADDYRST_HELD]) s (restartLimit s times) := by
  have counted (c : Caddy) : FieldsKept (noteField [F.KT_CADDYRST_HELD]) s { s with caddy := c } := .of_flds rfl
  have held (c : Caddy) := ((counted c).setF (noteField_byId _) (f := F.KT_CADDYRST_HELD) 0 (b2n true) rfl).trans
    (dregsFree_side _ _ 0x100 clsFatal 0x601).fl
  unfold restartLimit
  dsimp only
  split
  · exact (held _).flds rfl
  · exact counted _

theorem restartLimit_phase (s : State) (times : List Nat) :
    (restartLimit s times).caddy.phase = s.caddy.phase ∨ (restartLimit s times).caddy.phase = .heldOff := by
  unfold restartLimit
  dsimp only
  split
  · exact .inr rfl
  · exact .inl rfl

/-- What is left after the mailbox: the interrupt, and the limit of restarts. -/
theorem caddyRestart_kept (s : State) (cause : Nat) :
    FieldsKept (noteField [F.KT_CADDYRST_HELD]) (restartMailbox s cause) (caddyRestart s cause) := by
  rw [caddyRestart_eq]
  exact (raiseSource_side _ _ 216).fl.trans (restartLimit_kept _ _)

theorem restartNoted_side (s : State) (cause : Nat) :
    SideFrame (noteField [F.KT_CADDYRST_LASTCAUSE, F.KT_CADDYRST_RESTARTS, F.KT_CADDYRST_FAILED]) (caddyToReset s)
      (restartNoted s cause) :=
  .setF (.trans (.setF (dregsFree_side _ _ _ _ _) (noteField_byId _) 0 _ rfl) (bumpF_side _ 0 rfl)) (noteField_byId _) 0 _ rfl

/-- 16 R363: the Caddy stands in reset, or is held off after too many restarts. -/
theorem caddyRestart_phase (s : State) (cause : Nat) :
    (caddyRestart s cause).caddy.phase = .inReset ∨ (caddyRestart s cause).caddy.phase = .heldOff := by
  have phase : (raiseSource (restartMailbox s cause) 216).caddy.phase = .inReset := by
    rw [raiseSource_caddy, restartMailbox, foldl_keeps State.caddy restartChannel_caddy, (restartNoted_side s cause).caddy,
      caddyToReset_phase]
  rw [caddyRestart_eq, ← phase]
  exact restartLimit_phase _ _

/-- What KT_CADDYRST and the mailbox show of a restart (16 R351, R362). -/
theorem caddyRestart_shows (s : State) {cause : Nat} (hc : cause < 16) :
    (caddyRestart s cause).fl F.KT_CADDYRST_LASTCAUSE 0 = cause ∧
      (caddyRestart s cause).fb F.KT_CADDYRST_FAILED 0 = (cause == 3) ∧ (caddyRestart s cause).ready 43 = false ∧
      ∀ n, n < 8 → (caddyRestart s cause).fl F.MB_STAT_STATE n ≠ 2 := by
  have box : FieldsKept (noteField channelFields) (restartNoted s cause) (restartMailbox s cause) :=
    .foldl restartChannel_kept _ _
  have last := caddyRestart_kept s cause
  refine ⟨?_, ?_, ?_, fun n hn => ?_⟩
  · rw [last _ _ rfl, box _ _ rfl, restartNoted, State.fl_setB_id _ _ _ _ (by decide),
      (bumpF_side (l := [F.KT_CADDYRST_RESTARTS]) _ 0 rfl).fl _ _ rfl, State.fl_setF_same]
    exact Nat.mod_eq_of_lt hc
  · rw [last.fb _ _ rfl, box.fb _ _ rfl, restartNoted, State.fb_setB_same _ _ _ _ (by decide)]
  · rw [ready_congr (fun i => last _ i rfl), ready_congr (fun i => box _ i rfl), (restartNoted_side s cause).ready rfl,
      caddyToReset_ready]
  · rw [last _ _ rfl]
    exact restartMailbox_notBusy s cause hn

/-- 03 R59: a Caddy that does not reach its firmware in time is restarted. -/
theorem caddyReadinessTimeout_gives (s : State)
    (hp : s.caddy.phase = .verify ∨ s.caddy.phase = .readFw ∨ s.caddy.phase = .loader) :
    Gives .caddyReadinessTimeout s fun t => t.fl F.KT_CADDYRST_LASTCAUSE 0 = 3 ∧ t.fb F.KT_CADDYRST_FAILED 0 = true ∧
      t.ready 43 = false ∧ (t.caddy.phase = .inReset ∨ t.caddy.phase = .heldOff) := by
  have e : exec .caddyReadinessTimeout s = .next (caddyRestart (dregsFree s 3 clsFatal 0x58) 3) := by
    refine congrArg Host.Outcome.next (if_pos ?_)
    rcases hp with h | h | h <;> rw [h]
  obtain ⟨cause, failed, ready, -⟩ := caddyRestart_shows (dregsFree s 3 clsFatal 0x58) (cause := 3) (by decide)
  exact ⟨_, e, cause, failed, ready, caddyRestart_phase _ 3⟩

/-- 16 R362: the watchdog restarts a Caddy whose firmware runs. -/
theorem caddyWatchdogExpiry_gives (s : State) {n : Nat} (hn : n < 8) (hp : s.caddy.phase = .running) :
    Gives .caddyWatchdogExpiry s fun t => t.fl F.KT_CADDYRST_LASTCAUSE 0 = 1 ∧ t.fb F.KT_CADDYRST_FAILED 0 = false ∧
      t.ready 43 = false ∧ t.fl F.MB_STAT_STATE n ≠ 2 := by
  have e : exec .caddyWatchdogExpiry s = .next (caddyRestart s 1) :=
    congrArg Host.Outcome.next (if_pos (beq_iff_eq.mpr hp))
  obtain ⟨cause, failed, ready, box⟩ := caddyRestart_shows s (cause := 1) (by decide)
  exact ⟨_, e, cause, failed, ready, box n hn⟩

/-! ### A warm cause (03 R61 to R63) -/

theorem drainWrites_side (k : Fld → Bool) (s : State) (c : Nat) : SideFrame k s (drainWrites s c) :=
  ⟨rfl, fun _ _ _ => rfl⟩

theorem selfRefreshEntry_side (s : State) : SideFrame (noteField [F.PW_DOM_STATE]) s (selfRefreshEntry s) := by
  refine .foldl (fun t c => .ite (.trans (.setF (drainWrites_side _ t c) (noteField_byId _) (f := F.PW_DOM_STATE) (28 + c) 1 rfl)
    ?_) (.refl _ t)) _ s
  exact ⟨rfl, fun _ _ _ => rfl⟩

/-- The bits of KT_RSTCAUSE. -/
def causeFields : List Fld :=
  [F.KT_RSTCAUSE_POR, F.KT_RSTCAUSE_BOR, F.KT_RSTCAUSE_SWR, F.KT_RSTCAUSE_WDR, F.KT_RSTCAUSE_TFR, F.KT_RSTCAUSE_DBR]

theorem causeBit_side (s : State) (kind : Nat) : SideFrame (noteField causeFields) s (causeBit s kind) := by
  unfold causeBit
  split <;> exact (SideFrame.refl _ s).setF (noteField_byId _) 0 _ rfl

/-- A cause that is noted sets its bit, and what the warm reset knows of causes. -/
theorem noteCause_sup (s : State) (kind : Nat) : (noteCause s kind).sup = s.sup := (causeBit_side s kind).sup
theorem noteCause_time (s : State) (kind : Nat) : (noteCause s kind).time = s.time := (causeBit_side s kind).time
theorem noteCause_cpus (s : State) (kind : Nat) : (noteCause s kind).cpus = s.cpus := (causeBit_side s kind).cpus
theorem noteCause_mem (s : State) (kind : Nat) : (noteCause s kind).mem = s.mem := (causeBit_side s kind).mem
theorem noteCause_active (s : State) (kind : Nat) : (noteCause s kind).warm.active = s.warm.active := rfl
theorem noteCause_fb (s : State) (kind : Nat) {f : Fld} (i : Nat) (hf : noteField causeFields f = false) :
    (noteCause s kind).fb f i = s.fb f i := (causeBit_side s kind).fb f i hf

/-- The outputs are driven safe and the reset is counted (R61). -/
def warmNoted (s : State) : State :=
  ((s.setB F.KT_SAFECTL_HELD 0 true).setB F.KT_SAFECTL_ARMED 0 false).bumpF F.KT_RSTCAUSE_COUNT 0

/-- A warm reset of kind `kind` begins, and LAST shows it (R62). -/
def warmBegun (s : State) (kind : Nat) : State :=
  { s.setF F.KT_RSTCAUSE_LAST 0 kind with
    warm := { s.warm with active := true, kind := kind, hold := false, started := s.time } }

theorem warmNoted_side (s : State) :
    SideFrame (noteField [F.KT_SAFECTL_HELD, F.KT_SAFECTL_ARMED, F.KT_RSTCAUSE_COUNT]) s (warmNoted s) :=
  .trans (.setF (.setF (.refl _ s) (noteField_byId _) 0 _ rfl) (noteField_byId _) 0 _ rfl) (bumpF_side _ 0 rfl)

theorem warmNoted_held (s : State) : (warmNoted s).fb F.KT_SAFECTL_HELD 0 = true := by
  rw [warmNoted, (bumpF_side (l := [F.KT_RSTCAUSE_COUNT]) _ 0 rfl).fb _ _ rfl, State.fb_setB_id _ _ _ _ (by decide),
    State.fb_setB_same _ _ _ _ (by decide)]

/-- A triple fault, kind 4, has a record of its own. -/
theorem warmKind_side (s : State) {kind : Nat} (core : Nat) (h : kind ≠ 4) :
    SideFrame (noteField []) (warmBegun s kind) (warmKind s kind core) := by
  unfold warmKind
  dsimp only
  rw [if_neg h]
  exact dregsFree_side _ _ _ _ _

/-- A warm cause that finds no reset in progress starts one: the record, self-refresh and the end of trace follow (R61,
R62). -/
theorem warmStart_begins {s : State} {kind : Nat} (core : Nat) (h4 : kind ≠ 4) (hs : supplied s)
    (ha : s.warm.active = false) (hc : s.fb F.KT_SUPPLY_CARRIED 0 = false) :
    SideFrame (noteField [F.PW_DOM_STATE, F.TR_STAT_ACTIVE]) (warmBegun (warmNoted (noteCause s kind)) kind)
      (warmStart s kind core) := by
  obtain ⟨hpor, hbor⟩ := hs
  have record := (warmKind_side (warmNoted (noteCause s kind)) core h4).weaken
    (noteField_of_subset (l' := [F.PW_DOM_STATE, F.TR_STAT_ACTIVE]) (by simp))
  have quiet (t : State) : SideFrame (noteField [F.PW_DOM_STATE, F.TR_STAT_ACTIVE]) t (traceStop (selfRefreshEntry t)) :=
    ((selfRefreshEntry_side t).weaken (noteField_of_subset (by simp))).setF (noteField_byId _) 0 _ rfl
  unfold warmStart
  dsimp only
  rw [noteCause_sup, noteCause_active, noteCause_fb s kind 0 rfl, hpor, hbor, ha, hc]
  exact record.trans (quiet _)

/-- 03 R61, R62: the software reset. -/
theorem ktRstctlSwr_gives (s : State) (q : Requester) (v : Word) (hq : isRing0 s q = true)
    (hv : bitsOf v F.KT_RSTCTL_KEY = 0x5357) (hs : supplied s) (ha : s.warm.active = false)
    (hc : s.fb F.KT_SUPPLY_CARRIED 0 = false) :
    Gives (.ktRstctlSwr q v) s fun t => t.warm.active = true ∧ t.warm.kind = 2 ∧ t.warm.hold = false ∧
      t.warm.started = s.time ∧ t.fb F.KT_RSTCAUSE_SWR 0 = true ∧ t.fl F.KT_RSTCAUSE_LAST 0 = 2 ∧
      t.fb F.KT_SAFECTL_HELD 0 = true ∧ t.cpus = s.cpus ∧ t.mem = s.mem := by
  have e : exec (.ktRstctlSwr q v) s = .next (warmStart s 2 0) :=
    congrArg Host.Outcome.next (if_pos (by simp [hq, hv]))
  have cause : (noteCause s 2).fb F.KT_RSTCAUSE_SWR 0 = true := State.fb_setB_same s F.KT_RSTCAUSE_SWR 0 true (by decide)
  have noted := warmNoted_side (noteCause s 2)
  have held := warmNoted_held (noteCause s 2)
  have h := warmStart_begins (s := s) (kind := 2) 0 (by decide) hs ha hc
  have begun (w : State) : FieldsKept (noteField [F.KT_RSTCAUSE_LAST]) w (warmBegun w 2) :=
    .setF (.of_flds rfl) (noteField_byId _) (f := F.KT_RSTCAUSE_LAST) 0 2 rfl
  refine ⟨_, e, ?_⟩
  dsimp only
  rw [h.warm, h.fb _ _ rfl, h.fl _ _ rfl, h.fb _ _ rfl, h.cpus, h.mem, (begun _).fb _ _ rfl, (begun _).fb _ _ rfl, held,
    noted.fb _ _ rfl, cause, ← noteCause_cpus s 2, ← noteCause_mem s 2, ← noteCause_time s 2]
  generalize warmNoted (noteCause s 2) = w at noted
  exact ⟨rfl, rfl, rfl, noted.time, rfl, State.fl_setF_same _ _ 0 2, rfl, noted.cpus, noted.mem⟩

/-! ### The hold of a warm reset (03 R61, R66, R67) -/

/-- What the flush of the trace buffer changes neither: the warm reset, where trace goes, and memory below its buffer. -/
def Flushed (s t : State) : Prop :=
  t.warm = s.warm ∧ sinkKind t = sinkKind s ∧ ∀ a, a < traceBuf → readByte t a = readByte s a

namespace Flushed

theorem refl (s : State) : Flushed s s := ⟨rfl, rfl, fun _ _ => rfl⟩

theorem trans {s t u : State} (h : Flushed s t) (h' : Flushed t u) : Flushed s u :=
  ⟨h'.1.trans h.1, h'.2.1.trans h.2.1, fun a ha => (h'.2.2 a ha).trans (h.2.2 a ha)⟩

theorem of_side {l : List Fld} {s t : State} (h : SideFrame (noteField l) s t) (hl : noteField l F.TR_SINK_KIND = false) :
    Flushed s t :=
  ⟨h.warm, by rw [sinkKind, sinkKind, h.fl _ _ hl], fun a _ => by rw [readByte, readByte, h.mem]⟩

theorem trace {s t : State} (h : Flushed s t) (x : Trace) : Flushed s { t with trace := x } := h

end Flushed

theorem showFull_flushed (s : State) : Flushed s (showFull s) := by
  have set : SideFrame (noteField [F.TR_STAT_FULL]) s (s.setB F.TR_STAT_FULL 0 (sinkFull s)) :=
    (SideFrame.refl _ s).setF (noteField_byId _) 0 _ rfl
  have h : SideFrame (noteField [F.TR_STAT_FULL]) s (showFull s) := .ite (set.trans (raiseSource_side _ _ 273)) set
  exact .of_side h rfl

/-- A record in the on-chip buffer. -/
theorem sinkOne_flushed {s : State} (r : Nat) (hk : sinkKind s = 0) : Flushed s (sinkOne s r) := by
  have written (a : Nat) (ha : traceBuf ≤ a) : Flushed s (writeBytes s a 16 r) := by
    obtain ⟨m, e⟩ := writeBytes_only 16 s a r
    refine ⟨by rw [e], by rw [e]; rfl, fun b hb => readByte_writeBytes_out 16 s a r b (.inl (by omega))⟩
  have advanced (t : State) : Flushed t (wrAdvance t 16) :=
    .of_side ((SideFrame.refl _ t).setF (noteField_byId [F.TR_PTR_WRPTR]) 0 _ rfl) rfl
  unfold sinkOne
  rw [hk]
  exact ((written _ (Nat.le_add_right _ _)).trans (advanced _)).trans (showFull_flushed _)

/-- A record that finds the sink full is lost, and the first of them raises source 274. -/
def loseRecord (s : State) (rest : List Nat) : State :=
  let was := s.fl F.TR_STAT_LOST 0
  let s := { s with trace := { s.trace with fifo := rest } }.bumpF F.TR_STAT_LOST 0
  let s := { s with trace := { s.trace with lost := s.trace.lost + 1 } }
  if was = 0 then raiseSource s 274 else s

theorem loseRecord_flushed (s : State) (rest : List Nat) : Flushed s (loseRecord s rest) := by
  have counted (t : State) : Flushed t (t.bumpF F.TR_STAT_LOST 0) := .of_side (bumpF_side (l := [F.TR_STAT_LOST]) t 0 rfl) rfl
  have popped := ((Flushed.refl s).trace { s.trace with fifo := rest }).trans (counted _)
  unfold loseRecord
  dsimp only
  split
  · exact (popped.trace _).trans (.of_side (raiseSource_side [] _ 274) rfl)
  · exact popped.trace _

theorem traceDrain_flushed (n : Nat) {s : State} (hk : sinkKind s = 0) : Flushed s (traceDrain s n) := by
  induction n generalizing s with
  | zero => exact .refl s
  | succ n ih =>
    have full := showFull_flushed s
    have hk' : sinkKind (showFull s) = 0 := full.2.1.trans hk
    unfold traceDrain
    split
    · exact .refl s
    · rename_i r rest _
      dsimp only
      split
      · split
        · exact full
        · have lost := full.trans (loseRecord_flushed (showFull s) rest)
          exact lost.trans (ih (lost.2.1.trans hk))
      · have sunk := (full.trace { (showFull s).trace with fifo := rest }).trans (sinkOne_flushed r hk')
        exact sunk.trans (ih (sunk.2.1.trans hk))

theorem traceFlush_flushed (s : State) : Flushed s (traceFlush s) := by
  unfold traceFlush
  dsimp only
  split
  · rename_i hk
    exact (traceDrain_flushed 256 hk).trace {}
  · exact (Flushed.refl s).trace {}

/-- The warm reset, and memory. -/
def warmView (s : State) : Warm × List Host.Cell := (s.warm, s.mem)

theorem SideFrame.warmView {k : Fld → Bool} {s t : State} (h : SideFrame k s t) :
    Machine.warmView t = Machine.warmView s := by rw [Machine.warmView, Machine.warmView, h.warm, h.mem]

theorem warmView_setF (s : State) (f : Fld) (i v : Nat) : warmView (s.setF f i v) = warmView s := rfl

theorem releaseHeld_warmView (s : State) : warmView (releaseHeld s) = warmView s := by
  unfold releaseHeld
  dsimp only
  rw [warmView_setF]
  refine foldl_keeps warmView (fun t c => ?_) _ s
  split <;> rfl

theorem withdrawDebug_warmView (s : State) (c : Fin 16) : warmView (withdrawDebug s c) = warmView s := rfl

theorem endGrant_warmView (s : State) : warmView (endGrant s) = warmView s := by
  unfold endGrant
  dsimp only
  split
  · rfl
  · rw [dbgRecord, (dregs_side [] _ _ _ _ _).warmView, (raiseSource_side [] _ _).warmView, releaseHeld_warmView,
      foldl_keeps warmView withdrawDebug_warmView, foldl_keeps warmView fun t f => warmView_setF t f 0 0]

theorem mrEvent_side (s : State) (src code cls : Nat) : SideFrame (noteField []) s (mrEvent s src code cls) :=
  (raiseSource_side _ s src).trans (dregsFree_side _ _ _ _ _)

theorem mirrorStale_warmView (s : State) : warmView (mirrorStale s) = warmView s := by
  have h : SideFrame (noteField []) s _ :=
    .ite (c := s.mir.kRole = rStandby ∨ s.mir.kRole = rInSync) (mrEvent_side s 203 0x405 clsError)
      (.ite (c := s.mir.kRole = rStale) (.refl _ s) (mrEvent_side s 200 0x400 clsInfo))
  exact h.warmView

theorem mirrorStale_warm (s : State) : (mirrorStale s).warm = s.warm := congrArg Prod.fst (mirrorStale_warmView s)

theorem dramLose_warmView (s : State) : warmView (dramLose s) = warmView s :=
  foldl_keeps warmView (fun t c => by split <;> rfl) (List.range 4) s

theorem dramLose_warm (s : State) : (dramLose s).warm = s.warm := congrArg Prod.fst (dramLose_warmView s)
theorem dramLose_mem (s : State) : (dramLose s).mem = s.mem := congrArg Prod.snd (dramLose_warmView s)

/-- The rails that are down keep their domains OFF. -/
def railLess (s : State) (d : Nat) : State := if railsUp s d then s else s.setF F.PW_DOM_STATE d 2

/-- The state that a warm reset of kind `kind` takes down: trace flushed, the grant ended, the Caddy in reset. -/
def warmTaken (s : State) (kind : Nat) : State :=
  caddyToReset (mirrorStale (holdFab (traceFlush (if kind = 5 then s else endGrant s))))

/-- What it loses of that: registers, memory and the DRAM's state (R66, R67). -/
def warmLost (s : State) (kind : Nat) : State :=
  dramLose (keepMem (keepOnly (warmTaken s kind) (keptIds kind ++ liveIds ++ portIds)) true)

theorem warmHold_eq (s : State) (kind : Nat) :
    ∃ y, warmHold s kind = steepCold (computeDomains.foldl railLess y) ∧ y.warm = { (warmLost s kind).warm with hold := true } ∧
      y.mem = (warmLost s kind).mem ∧ y.cpus = [] ∧ y.caches = {} ∧ y.caddy.phase = .inReset ∧ y.sup.rstoutN = false ∧
      y.fl F.KT_RSTCAUSE_LAST 0 = kind % 8 := by
  have lost : dramLose (keepMem (keepOnly (caddyToReset (mirrorStale (holdFab (traceFlush
      (if kind = 5 then s else endGrant s))))) (keptIds kind ++ liveIds ++ portIds)) true) = warmLost s kind := rfl
  unfold warmHold
  dsimp only
  rw [lost]
  generalize warmLost s kind = x
  clear lost
  refine ⟨_, rfl, rfl, rfl, rfl, rfl, rfl, rfl, ?_⟩
  exact ((clearTrigger_trip _ 10).fl F.KT_RSTCAUSE_LAST 0 rfl).trans
    (((clearTrigger_trip _ 9).fl F.KT_RSTCAUSE_LAST 0 rfl).trans (State.fl_setF_same _ F.KT_RSTCAUSE_LAST 0 kind))

theorem warmTaken_warm (s : State) (kind : Nat) : (warmTaken s kind).warm = s.warm := by
  have ended : (if kind = 5 then s else endGrant s).warm = s.warm := by
    split
    · rfl
    · exact congrArg Prod.fst (endGrant_warmView s)
  rw [warmTaken, caddyToReset_warm, mirrorStale_warm]
  exact (traceFlush_flushed _).1.trans ended

theorem keepMem_warm (s : State) (sram : Bool) : (keepMem s sram).warm = s.warm := rfl
theorem keepOnly_warm (s : State) (ids : List Nat) : (keepOnly s ids).warm = s.warm := rfl

theorem warmLost_warm (s : State) (kind : Nat) : (warmLost s kind).warm = s.warm := by
  rw [warmLost, dramLose_warm, keepMem_warm, keepOnly_warm, warmTaken_warm]

theorem warmTaken_readByte (s : State) (kind : Nat) {a : Nat} (ha : a < traceBuf) :
    readByte (warmTaken s kind) a = readByte s a := by
  have ended : (if kind = 5 then s else endGrant s).mem = s.mem := by
    split
    · rfl
    · exact congrArg Prod.snd (endGrant_warmView s)
  have stale : ∀ t, readByte (mirrorStale t) a = readByte t a := fun t =>
    congrArg (mget memDefault · a) (congrArg Prod.snd (mirrorStale_warmView t))
  rw [warmTaken, readByte_caddyToReset _ (ha.trans (by decide)), stale]
  exact ((traceFlush_flushed _).2.2 a ha).trans (congrArg (mget memDefault · a) ended)

/-- The scratch SRAM is kept (R67). -/
theorem warmLost_readByte (s : State) (kind : Nat) {a : Nat} (hi : a < 0xC00400000) :
    mget memDefault (warmLost s kind).mem a = readByte s a := by
  rw [warmLost, dramLose_mem, ← warmTaken_readByte s kind (hi.trans (by decide))]
  exact mget_filter memDefault _ _ fun _ => by simp [hi]

/-- A new Steep part goes with either state. -/
theorem SideFrame.withSteep {k : Fld → Bool} {s t : State} (h : SideFrame k s t) (x : Steep) :
    SideFrame k { s with steep := x } { t with steep := x } :=
  ⟨congrArg (fun u : State => { u with steep := x }) h.rest, h.fl⟩

theorem steepBegin_side (s : State) (mode step : Nat) :
    ∃ x, SideFrame (noteField [F.KT_STEEPSTAT_STATE, F.KT_STEEPSTAT_STEP]) { s with steep := x } (steepBegin s mode step) := by
  have started : SideFrame (noteField [F.KT_STEEPSTAT_STATE, F.KT_STEEPSTAT_STEP])
      { s with steep := (steepStart s mode step false).steep } (steepStart s mode step false) :=
    .setF (.setF (.refl _ _) (noteField_byId _) (f := F.KT_STEEPSTAT_STATE) 0 mode rfl) (noteField_byId _)
      (f := F.KT_STEEPSTAT_STEP) 0 step rfl
  refine ⟨_, .ite (started.trans ?_) started⟩
  exact (SideFrame.setF (.refl _ _) (noteField_byId _) 0 5 rfl).trans (dregsFree_side _ _ _ _ _)

/-- A Steep table that a reset starts changes its own state alone. -/
theorem steepCold_side (s : State) :
    ∃ x, SideFrame (noteField [F.KT_STEEPSTAT_STATE, F.KT_STEEPSTAT_STEP]) { s with steep := x } (steepCold s) := by
  unfold steepCold
  split
  · obtain ⟨x, h⟩ := steepBegin_side s 1 (s.fl F.KT_STEEPCTL_CSTEP 0)
    exact ⟨_, h.withSteep _⟩
  · exact ⟨s.steep, .refl _ s⟩

theorem railLess_side (s : State) (d : Nat) : SideFrame (noteField [F.PW_DOM_STATE]) s (railLess s d) :=
  .ite (.refl _ s) (.setF (.refl _ s) (noteField_byId _) d 2 rfl)

/-- 03 R61, R66, R67: every domain but the Kettle is held in reset; the scratch SRAM is kept. -/
theorem warmResetHold_gives (s : State) (ha : s.warm.active = true) (hh : s.warm.hold = false) (hk : s.warm.kind < 8) :
    Gives .warmResetHold s fun t => t.warm = { s.warm with hold := true } ∧ t.cpus = [] ∧ t.caches = {} ∧
      t.fl F.KT_RSTCAUSE_LAST 0 = s.warm.kind ∧ t.caddy.phase = .inReset ∧ t.sup.rstoutN = false ∧
      (∀ a, 0xC00000000 ≤ a → a < 0xC00400000 → readByte t a = readByte s a) := by
  obtain ⟨y, e, warm, mem, cpus, caches, phase, rstout, last⟩ := warmHold_eq s s.warm.kind
  have fold : SideFrame (noteField [F.PW_DOM_STATE]) y (computeDomains.foldl railLess y) := .foldl railLess_side _ y
  obtain ⟨x, steep⟩ := steepCold_side (computeDomains.foldl railLess y)
  rw [← e] at steep
  have run : exec .warmResetHold s = .next (warmHold s s.warm.kind) := by
    change execWarmResetHold s = _
    rw [execWarmResetHold, if_pos (by simp [ha, hh])]
  refine ⟨_, run, ?_⟩
  dsimp only
  rw [steep.warm, steep.cpus, steep.caches, steep.caddy, steep.sup, steep.fl _ _ rfl]
  refine ⟨?_, fold.cpus.trans cpus, fold.caches.trans caches, ?_, ?_, ?_, fun a _ hi => ?_⟩
  · exact fold.warm.trans (by rw [warm, warmLost_warm])
  · exact (fold.fl _ _ rfl).trans (last.trans (Nat.mod_eq_of_lt hk))
  · exact (congrArg Caddy.phase fold.caddy).trans phase
  · exact (congrArg Supply.rstoutN fold.sup).trans rstout
  · rw [readByte, steep.mem]
    exact (congrArg (mget memDefault · a) (fold.mem.trans mem)).trans (warmLost_readByte s _ hi)

/-! ### The end of the hold (03 R66) -/

/-- Every field. -/
def anyField : Fld → Bool := fun _ => true

theorem SideFrame.any {k : Fld → Bool} {s t : State} (h : SideFrame k s t) : SideFrame anyField s t :=
  h.weaken fun _ hf => absurd hf (by simp [anyField])

theorem SideFrame.setAny {s t : State} (h : SideFrame anyField s t) (f : Fld) (i v : Nat) :
    SideFrame anyField s (t.setF f i v) := h.setF (fun _ _ _ => rfl) i v rfl

theorem setLink_side (s : State) (n st reason : Nat) : SideFrame anyField s (setLink s n st reason) := by
  have refl := SideFrame.refl anyField s
  have raised (t : State) (k : Nat) : SideFrame anyField t (raiseSource t k) := (raiseSource_side [] t k).any
  unfold setLink
  refine .ite (.ite ?_ (.trans ?_ (raised _ _))) (.ite (.trans (.trans ?_ (raised _ _)) (dregs_side [] _ _ _ _ _).any) ?_)
  · exact (refl.setAny _ _ _).setAny _ _ _
  · exact (refl.setAny _ _ _).setAny _ _ _
  · exact ((refl.setAny _ _ _).setAny _ _ _).setAny _ _ _
  · exact ((refl.setAny _ _ _).setAny _ _ _).setAny _ _ _

/-- The fields of both mirror ports at 0. -/
def portCleared (s : State) (f : Fld) : State := (s.setF f 0 0).setF f 1 0

theorem SideFrame.withLinks {k : Fld → Bool} {s t : State} (h : SideFrame k s t) (x : FMap Link) :
    SideFrame k s { t with links := x } := ⟨h.rest, h.fl⟩

theorem portsFull_side (s : State) : SideFrame anyField s (portsFull s) := by
  have down : SideFrame anyField s (setLink (setLink s 32 0 0) 33 0 0) := (setLink_side s 32 0 0).trans (setLink_side _ 33 0 0)
  have cleared (l : List Fld) (t : State) : SideFrame anyField t (l.foldl portCleared t) :=
    .foldl (fun t f => ((SideFrame.refl _ t).setAny f 0 0).setAny f 1 0) l t
  have all (l : List Fld) := (down.trans (cleared l _)).setAny F.MR_VER_AGREED 0 0
  exact (all _).withLinks _

/-- 03 R52, R66: the Caddy leaves reset first. -/
theorem warmResetCaddyStart_gives (s : State) (ha : s.warm.active = true) (hh : s.warm.hold = true) (hs : supplied s)
    (hal : s.sup.alone = false) (hst : s.steep.holds = false) (hp : s.caddy.phase = .inReset) :
    Gives .warmResetCaddyStart s fun t => t.warm = {} ∧ t.caddy.phase = .rom ∧ (t.cpu .caddy).run = .running ∧
      (t.cpu .caddy).pc = 0x1000000000 ∧ t.mem = s.mem := by
  have run : exec .warmResetCaddyStart s = .next (caddyRelease { portsFull s with warm := {} }) := by
    change execWarmResetCaddyStart s = _
    rw [execWarmResetCaddyStart, if_pos (by simp [ha, hh])]
  have ports := portsFull_side s
  generalize portsFull s = p at run ports
  rw [← ports.sup] at hal
  rw [← ports.steep] at hst
  rw [← ports.caddy] at hp
  rw [supplied, ← ports.sup] at hs
  obtain ⟨phase, running, pc, -, mem, warm⟩ := caddyRelease_starts (s := { p with warm := {} }) hp hs hal rfl hst
  exact ⟨_, run, warm, phase, running, pc, mem.trans ports.mem⟩

/-- Settles O27: each clause is the lemma about its command. -/
theorem readinessAndWarmReset : Obligations.ReadinessAndWarmReset := by
  intro s u v c
  exact ⟨readyBitSet_gives s u, readyBitSet_starts s u c, readinessTimeout_gives s u, caddyReadinessTimeout_gives s,
    ktRstctlSwr_gives s (.core c) v, fun ha hh hk _ => warmResetHold_gives s ha hh hk, warmResetCaddyStart_gives s⟩

/-! ### The Caddy's boot from the flash (03 R52 to R54; 16 R347, R349) -/

@[simp] theorem onCaddy_flds (s : State) (f : Caddy → Caddy) : (onCaddy s f).flds = s.flds := rfl
@[simp] theorem onCaddy_caddy (s : State) (f : Caddy → Caddy) : (onCaddy s f).caddy = f s.caddy := rfl

/-- 16 R349: the ROM reads a manifest once its flash is there. -/
theorem manifestRead_gives (s : State) (hp : s.caddy.phase = .rom) (hf : flashReadable s = true)
    (hl : s.fl F.LC_STATE_STATE 0 ≠ 5) :
    Gives .manifestRead s fun t => t.caddy.phase = .verify ∧ t.flds = s.flds ∧ t.mem = s.mem := by
  have run : exec .manifestRead s = .next (onCaddy s fun c => { c with phase := .verify }) :=
    congrArg Host.Outcome.next (if_pos (by simp [hp, hf, hl]))
  exact ⟨_, run, rfl, rfl, rfl⟩

theorem exec_signatureVerify {s : State} (hp : s.caddy.phase = .verify) (hc : caddyClocked s = true) (ok : Bool) (measure : Nat) :
    exec (.signatureVerify ok measure) s =
      .next (if ok then measured (onCaddy s fun c => { c with phase := .readFw }) measure else trySecond s) :=
  congrArg Host.Outcome.next (if_pos (by simp [hp, hc]))

/-- 16 R347: a manifest that verifies is measured. -/
theorem signatureVerify_good (s : State) (measure : Nat) (hp : s.caddy.phase = .verify) (hc : caddyClocked s = true) :
    Gives (.signatureVerify true measure) s fun t => t.caddy.phase = .readFw ∧
      t.caddy.measures = s.caddy.measures ++ [measure] ∧ t.flds = s.flds :=
  ⟨_, exec_signatureVerify hp hc true measure, rfl, rfl, rfl⟩

/-- 16 R347: after the first slot the other is tried. -/
theorem trySecond_first {s : State} (h : s.caddy.second = false) :
    (trySecond s).caddy.phase = .rom ∧ (trySecond s).caddy.second = true ∧ (trySecond s).flds = s.flds := by
  rw [trySecond, if_neg (by simp [h])]
  exact ⟨rfl, rfl, rfl⟩

theorem signatureVerify_first (s : State) (measure : Nat) (hp : s.caddy.phase = .verify) (hc : caddyClocked s = true)
    (h2 : s.caddy.second = false) :
    Gives (.signatureVerify false measure) s fun t => t.caddy.phase = .rom ∧ t.caddy.second = true ∧ t.flds = s.flds :=
  ⟨_, exec_signatureVerify hp hc false measure, trySecond_first h2⟩

/-- 16 R347: after both slots the ROM goes to recovery. -/
theorem signatureVerify_second (s : State) (measure : Nat) (hp : s.caddy.phase = .verify) (hc : caddyClocked s = true)
    (h2 : s.caddy.second = true) :
    Gives (.signatureVerify false measure) s fun t => t.caddy.phase = .recovery := by
  refine ⟨_, exec_signatureVerify hp hc false measure, ?_⟩
  rw [if_neg Bool.false_ne_true, trySecond, if_pos h2]
  rfl

theorem skipsLoader_onCaddy (s : State) (f : Caddy → Caddy) (hl : (f s.caddy).loaded = false)
    (hc : s.fb F.KT_SUPPLY_CARRIED 0 = false) : skipsLoader (onCaddy s f) = false := by
  rw [skipsLoader, onCaddy_caddy, hl, State.fb_congr (onCaddy_flds s f), hc, Bool.false_or]

/-- 16 R347: with the loader still to be read, the boot takes on the firmware's measurement and policy. -/
theorem firmwareGood_loader {s : State} (measure : Nat) (policy : Policy) (hl : s.caddy.loaded = false)
    (hc : s.fb F.KT_SUPPLY_CARRIED 0 = false) :
    ∃ u, SideFrame (noteField []) s u ∧ firmwareGood s measure policy =
      onCaddy u fun c => { c with fwMeasure := some measure, policy := some policy,
                                  measures := c.measures ++ [measure, policy.measure], phase := .loader } := by
  have noted : SideFrame (noteField []) s
      (if s.caddy.restarted && s.caddy.fwMeasure.any (· != measure) then dregsFree s 0x100 clsWarn 0x604 else s) :=
    .ite (dregsFree_side _ _ _ _ _) (.refl _ s)
  refine ⟨_, noted, ?_⟩
  have loaded := congrArg Caddy.loaded noted.caddy
  have carried := noted.fb F.KT_SUPPLY_CARRIED 0 rfl
  unfold firmwareGood
  dsimp only
  rw [skipsLoader_onCaddy]
  · rfl
  · exact loaded.trans hl
  · exact carried.trans hc

/-- 16 R347: the firmware matches its manifest, and the loader is read next. -/
theorem firmwareRead_good (s : State) (measure : Nat) (policy : Policy) (hp : s.caddy.phase = .readFw)
    (hf : flashReadable s = true) (hl : s.caddy.loaded = false) (hc : s.fb F.KT_SUPPLY_CARRIED 0 = false) :
    Gives (.firmwareRead true measure policy) s fun t => t.caddy.phase = .loader ∧ t.caddy.policy = some policy ∧
      t.caddy.measures = s.caddy.measures ++ [measure, policy.measure] ∧ t.ready 43 = s.ready 43 := by
  obtain ⟨u, hu, e⟩ := firmwareGood_loader (s := s) measure policy hl hc
  have run : exec (.firmwareRead true measure policy) s = .next (firmwareGood s measure policy) :=
    congrArg Host.Outcome.next (if_pos (by simp [hp, hf]))
  refine ⟨_, run, ?_⟩
  dsimp only
  rw [e, onCaddy_caddy, hu.caddy]
  exact ⟨rfl, rfl, rfl, hu.ready rfl 43⟩

theorem firmwareRead_first (s : State) (measure : Nat) (policy : Policy) (hp : s.caddy.phase = .readFw)
    (hf : flashReadable s = true) (h2 : s.caddy.second = false) :
    Gives (.firmwareRead false measure policy) s fun t => t.caddy.phase = .rom ∧ t.caddy.second = true := by
  have run : exec (.firmwareRead false measure policy) s = .next (trySecond s) :=
    congrArg Host.Outcome.next (if_pos (by simp [hp, hf]))
  obtain ⟨phase, second, -⟩ := trySecond_first h2
  exact ⟨_, run, phase, second⟩

/-! ### The entry of the firmware, and the loader (03 R53; 16 R347, R362) -/

/-- What the entry of the firmware sets of KT_CADDYRST, notes and applies, before it runs. -/
def firmwareNoted (s : State) : State :=
  let s := if s.caddy.recovered then s else s.setF F.KT_CADDYRST_SLOT 0 (triedSlot s)
  let s := s.setB F.KT_CADDYRST_FAILED 0 false
  let s := if s.caddy.second then dregsFree s 0x100 clsWarn 0x602 else s
  match s.caddy.policy with
  | some p => if s.ready 34 && (!s.caddy.coresReleased || s.caddy.recovered) then applyPolicy s p else s
  | none => s

theorem firmwareNoted_gives (s : State) : (firmwareNoted s).caddy = s.caddy ∧ (firmwareNoted s).mem = s.mem ∧
    (firmwareNoted s).fb F.KT_CADDYRST_FAILED 0 = false := by
  have shown : SideFrame (noteField [F.KT_CADDYRST_SLOT, F.KT_CADDYRST_FAILED]) s
      ((if s.caddy.recovered then s else s.setF F.KT_CADDYRST_SLOT 0 (triedSlot s)).setB F.KT_CADDYRST_FAILED 0 false) :=
    .setF (.ite (.refl _ s) (.setF (.refl _ s) (noteField_byId _) 0 _ rfl)) (noteField_byId _) 0 _ rfl
  have failed : ((if s.caddy.recovered then s else s.setF F.KT_CADDYRST_SLOT 0 (triedSlot s)).setB F.KT_CADDYRST_FAILED 0
      false).fb F.KT_CADDYRST_FAILED 0 = false := State.fb_setB_same _ F.KT_CADDYRST_FAILED 0 false (by decide)
  unfold firmwareNoted
  dsimp only
  generalize (if s.caddy.recovered then s else s.setF F.KT_CADDYRST_SLOT 0 (triedSlot s)).setB F.KT_CADDYRST_FAILED 0 false = t
    at shown failed
  have recorded : SideFrame (noteField policyFields) t (if t.caddy.second then dregsFree t 0x100 clsWarn 0x602 else t) :=
    .ite (dregsFree_side _ _ _ _ _) (.refl _ t)
  generalize (if t.caddy.second then dregsFree t 0x100 clsWarn 0x602 else t) = r at recorded
  split
  · rename_i p _
    have applied : SideFrame (noteField policyFields) t
        (if r.ready 34 && (!r.caddy.coresReleased || r.caddy.recovered) then applyPolicy r p else r) :=
      recorded.trans (.ite (applyPolicy_side r p) (.refl _ r))
    exact ⟨applied.caddy.trans shown.caddy, applied.mem.trans shown.mem, (applied.fb _ _ rfl).trans failed⟩
  · exact ⟨recorded.caddy.trans shown.caddy, recorded.mem.trans shown.mem, (recorded.fb _ _ rfl).trans failed⟩

/-- A loader that is not read again is measured all the same. -/
def loaderMeasured (s : State) : State :=
  match s.caddy.loaderMeasure with
  | some m => if skipsLoader s then measured s m else s
  | none => s

theorem loaderMeasured_keeps (s : State) : (loaderMeasured s).caddy.loaded = s.caddy.loaded ∧ (loaderMeasured s).mem = s.mem ∧
    (loaderMeasured s).flds = s.flds := by
  unfold loaderMeasured
  split
  · split <;> exact ⟨rfl, rfl, rfl⟩
  · exact ⟨rfl, rfl, rfl⟩

theorem enterFirmware_eq (s : State) : enterFirmware s =
    caddyMove (onCaddy ((loaderMeasured (firmwareNoted s)).setReady 43 true) fun c =>
      { c with phase := .running, kickAt := (loaderMeasured (firmwareNoted s)).time, restarted := false }) := by
  unfold enterFirmware loaderMeasured firmwareNoted
  rfl

/-- 16 R347, R362: the firmware runs, and shows it. -/
theorem enterFirmware_gives (s : State) : (enterFirmware s).caddy.phase = .running ∧
    (enterFirmware s).caddy.loaded = s.caddy.loaded ∧ (enterFirmware s).ready 43 = true ∧
    (enterFirmware s).fb F.KT_CADDYRST_FAILED 0 = false ∧ (enterFirmware s).mem = s.mem := by
  obtain ⟨caddy, mem, failed⟩ := firmwareNoted_gives s
  obtain ⟨loaded, mem', flds⟩ := loaderMeasured_keeps (firmwareNoted s)
  rw [enterFirmware_eq, caddyMove_eq]
  generalize firmwareNoted s = n at *
  generalize loaderMeasured n = m at *
  refine ⟨rfl, loaded.trans (congrArg Caddy.loaded caddy), ready_setReady_same m 43 true, ?_, mem'.trans mem⟩
  exact (State.fb_setF_id (f := F.KT_READY_READY) m _ _ _ (by decide)).trans ((State.fb_congr flds _ _).trans failed)

/-- Bytes below a list that is written stay. -/
theorem readByte_writeList_below (bs : List Byte) : ∀ (s : State) (a a' : Nat), a' < a →
    readByte (writeList s a bs) a' = readByte s a' := by
  induction bs with
  | nil => exact fun _ _ _ _ => rfl
  | cons b bs ih =>
    intro s a a' h
    rw [writeList, ih _ _ _ (by omega), readByte_writeByte_ne _ _ (by omega)]

/-- A list that is written is read back. -/
theorem readByte_writeList_in (bs : List Byte) : ∀ (s : State) (a i : Nat), i < bs.length →
    readByte (writeList s a bs) (a + i) = bs.getD i 0 := by
  induction bs with
  | nil => exact fun _ _ _ h => absurd h (Nat.not_lt_zero _)
  | cons b bs ih =>
    intro s a i h
    cases i with
    | zero =>
      rw [Nat.add_zero, writeList, readByte_writeList_below _ _ _ _ (Nat.lt_succ_self a), readByte_writeByte_same]
      rfl
    | succ i =>
      rw [writeList, show a + (i + 1) = a + 1 + i by omega, ih _ _ _ (by simpa using h)]
      rfl

theorem writeList_only (bs : List Byte) : ∀ (s : State) (a : Nat), ∃ m, writeList s a bs = { s with mem := m } := by
  induction bs with
  | nil => exact fun s _ => ⟨s.mem, rfl⟩
  | cons b bs ih => exact fun s a => ih (writeByte s a b) (a + 1)

/-- The loader comes from the image that recovery holds, or from the flash. -/
def loaderBytes (s : State) (bytes : List Byte) : List Byte :=
  if s.caddy.recovered && !s.caddy.recovery.isEmpty then s.caddy.recovery else bytes

/-- The loader in the scratch SRAM, before the firmware is entered. -/
def loaderPut (s : State) (measure : Nat) (bytes : List Byte) : State :=
  onCaddy (writeList s 0xC00000000 ((loaderBytes s bytes).take (4 * 2 ^ 20))) fun c =>
    { c with loaded := true, recovery := [], loaderMeasure := some measure }

theorem exec_loaderRead {s : State} (hp : s.caddy.phase = .loader)
    (hk : s.caddy.recovered = true ∧ s.caddy.recovery ≠ [] ∨ flashReadable s = true) (hc : caddyClocked s = true)
    (hr : s.ready 28 = true) (hl : s.fl F.LC_STATE_STATE 0 ≠ 5) (measure : Nat) (bytes : List Byte) :
    exec (.loaderRead true measure bytes) s = .next (enterFirmware (loaderPut s measure bytes)) := by
  have source : (s.caddy.recovered && !s.caddy.recovery.isEmpty || flashReadable s) = true := by
    rcases hk with ⟨h1, h2⟩ | h
    · simp [h1, h2]
    · simp [h]
  change execLoaderRead true measure bytes s = _
  unfold execLoaderRead
  dsimp only
  rw [if_pos (by simp only [hp, source, hc, hr, bne_iff_ne.mpr hl]; rfl), if_neg (by simp), if_pos (by rw [hp]; rfl)]
  rfl

/-- 03 R53; 16 R347, R348: the loader stands in the scratch SRAM, and the firmware runs. -/
theorem loaderRead_gives {s : State} (hp : s.caddy.phase = .loader)
    (hk : s.caddy.recovered = true ∧ s.caddy.recovery ≠ [] ∨ flashReadable s = true) (hc : caddyClocked s = true)
    (hr : s.ready 28 = true) (hl : s.fl F.LC_STATE_STATE 0 ≠ 5) (measure : Nat) (bytes : List Byte) :
    Gives (.loaderRead true measure bytes) s fun t => t.caddy.phase = .running ∧ t.caddy.loaded = true ∧ t.ready 43 = true ∧
      t.fb F.KT_CADDYRST_FAILED 0 = false ∧ ∀ i, i < (loaderBytes s bytes).length → i < 4 * 2 ^ 20 →
        readByte t (0xC00000000 + i) = (loaderBytes s bytes).getD i 0 := by
  obtain ⟨phase, loaded, ready, failed, mem⟩ := enterFirmware_gives (loaderPut s measure bytes)
  refine ⟨_, exec_loaderRead hp hk hc hr hl measure bytes, phase, loaded, ready, failed, fun i hi hm => ?_⟩
  have put := readByte_writeList_in ((loaderBytes s bytes).take (4 * 2 ^ 20)) s 0xC00000000 i
    (by rw [List.length_take]; omega)
  have same : ((loaderBytes s bytes).take (4 * 2 ^ 20)).getD i 0 = (loaderBytes s bytes).getD i 0 := by
    rw [List.getD_eq_getElem?_getD, List.getD_eq_getElem?_getD, List.getElem?_take_of_lt hm]
  rw [readByte, mem, ← same, ← put]
  rfl

/-! ### The release of the cores (03 R52, R55) -/

theorem windowBucket_side (old s : State) (e : Nat) : SideFrame anyField s (windowBucket old s e) := by
  unfold windowBucket
  split
  · exact .refl _ s
  · exact ⟨rfl, fun _ _ _ => rfl⟩

theorem regionPut_side (s : State) (e : Nat) (vs : List (Fld × Nat)) : SideFrame anyField s (regionPut s e vs) := by
  have shadow (t : State) (v : Fld × Nat) : SideFrame anyField t (t.setSh v.1 e v.2) := ⟨rfl, fun _ _ _ => rfl⟩
  have dropped (t : State) (v : Fld × Nat) : SideFrame anyField t ((t.setF v.1 e v.2).dropSh v.1 e) :=
    ((SideFrame.refl _ t).setAny v.1 e v.2).trans ⟨rfl, fun _ _ _ => rfl⟩
  exact .ite (.foldl shadow vs s) (.trans (.foldl dropped vs s) (.foldl (windowBucket_side s) _ _))

theorem bootRegions_side (s : State) : SideFrame anyField s (bootRegions s) := by
  unfold bootRegions
  exact .trans (.foldl (fun t c => regionPut_side t _ _) _ s) (regionPut_side _ _ _)

/-- 03 R52, R55: the firmware releases the cores of the clusters that have power. -/
theorem coreRelease_gives (s : State) (hp : s.caddy.phase = .running) (hc : caddyClocked s = true) (hl : s.caddy.loaded = true)
    (hr : s.caddy.coresReleased = false) (hs : s.fl F.LC_STATE_STATE 0 ≠ 5) :
    Gives .coreRelease s fun t => t.caddy.coresReleased = true ∧ t.sup.rstoutN = true ∧
      t.caddy.released = BitVec.ofNat 4 (s.fl F.KT_SUPPLY_PG 0 / 16) ∧ t.mem = s.mem ∧ t.cpus = s.cpus := by
  have regions := bootRegions_side s
  have run : exec .coreRelease s = .next
      (let t := onCaddy (bootRegions s) fun c =>
        { c with coresReleased := true, released := BitVec.ofNat 4 (s.fl F.KT_SUPPLY_PG 0 / 16) }
       { t with sup := { t.sup with rstoutN := true } }) :=
    congrArg Host.Outcome.next (if_pos (by simp [hp, hc, hl, hr, hs]))
  generalize bootRegions s = t at regions run
  exact ⟨_, run, rfl, rfl, rfl, regions.mem, regions.cpus⟩

/-! ### Responses of the mailbox (16 R351, R352) -/

theorem readBytes_congr {s t : State} (h : t.mem = s.mem) (n : Nat) : ∀ a, readBytes t a n = readBytes s a n := by
  induction n with
  | zero => exact fun _ => rfl
  | succ n ih => exact fun a => by rw [readBytes, readBytes, ih, readByte, readByte, h]

theorem readBytes_writeList_below (bs : List Byte) (s : State) (a n : Nat) : ∀ b, b + n ≤ a →
    readBytes (writeList s a bs) b n = readBytes s b n := by
  induction n with
  | zero => exact fun _ _ => rfl
  | succ n ih =>
    intro b h
    rw [readBytes, readBytes, readByte_writeList_below _ _ _ _ (by omega), ih _ (by omega)]

/-- The low half-word of a word that is written. -/
theorem readBytes_two_writeBytes (s : State) (a v : Nat) (hv : v < 2 ^ 16) : readBytes (writeBytes s a 8 v) a 2 = v := by
  have lo := readByte_writeBytes_in 8 s a v 0 (by decide)
  have hi := readByte_writeBytes_in 8 s a v 1 (by decide)
  rw [Nat.add_zero] at lo
  rw [readBytes, readBytes, readBytes, lo, hi, BitVec.toNat_ofNat, BitVec.toNat_ofNat]
  omega

theorem writeList_flds (bs : List Byte) (s : State) (a : Nat) : (writeList s a bs).flds = s.flds := by
  obtain ⟨m, h⟩ := writeList_only bs s a
  rw [h]

theorem writeList_caddy (bs : List Byte) (s : State) (a : Nat) : (writeList s a bs).caddy = s.caddy := by
  obtain ⟨m, h⟩ := writeList_only bs s a
  rw [h]

theorem respond_replied (s : State) (n : Nat) {status : Nat} (h : status < 2 ^ 16) (body : List Byte) :
    replied (respond s n status body) n status := by
  refine ⟨(mbDone_state _ n n).trans (if_pos rfl), ?_⟩
  unfold respond
  dsimp only
  rw [readBytes_congr (mbDone_side _ n).mem, readBytes_writeList_below _ _ _ _ _ (by omega), readBytes_two_writeBytes _ _ _ h]

/-- A response changes no field but the channel's, and nothing of the Caddy's state. -/
theorem respond_kept (s : State) (n status : Nat) (body : List Byte) :
    FieldsKept (noteField [F.MB_STAT_STATE]) s (respond s n status body) ∧ (respond s n status body).caddy = s.caddy := by
  unfold respond
  dsimp only
  refine ⟨.trans (.of_flds ?_) (mbDone_side _ n).fl, (mbDone_side _ n).caddy.trans ?_⟩
  · rw [writeList_flds, writeBytes_flds, writeBytes_flds]
  · rw [writeList_caddy, writeBytes_caddy, writeBytes_caddy]

/-- What keeps memory and the channel's state keeps a response. -/
theorem SideFrame.replied {k : Fld → Bool} {s t : State} (h : SideFrame k s t) (hk : k F.MB_STAT_STATE = false) {n status : Nat}
    (hr : Machine.replied s n status) : Machine.replied t n status :=
  ⟨(h.fl _ n hk).trans hr.1, (readBytes_congr h.mem 2 _).trans hr.2⟩

theorem replied_onCaddy {s : State} {n status : Nat} (f : Caddy → Caddy) (h : replied s n status) :
    replied (onCaddy s f) n status := h

/-- A message that the Caddy can serve reaches the job of its command. -/
theorem mbJob_busy {s : State} {n cmd : Nat} (h : busyWith s n cmd) (f : State → State) : mbJob s n cmd f = f s := by
  obtain ⟨busy, served, command, version, length⟩ := h
  rw [mbJob, if_pos ⟨busy, served, command⟩, if_neg (by simp [version]), if_neg (by omega)]

/-! ### Recovery (16 R348) -/

/-- The image that recovery has received with the message in channel `n`. -/
def recoveryImage (s : State) (n : Nat) : List Byte := s.caddy.recovery ++ bodyBytes s n (bodyLength s n)

/-- The Caddy holds `image` for recovery. -/
def holdImage (s : State) (image : List Byte) : State := onCaddy s fun c => { c with recovery := image }

/-- The firmware of the image comes next; the loader, the last `loader` bytes, stays for LOADER_READ. -/
def takeImage (s : State) (n loader manifest : Nat) : State :=
  onCaddy (respond (holdImage s ((recoveryImage s n).drop ((recoveryImage s n).length - loader))) n stOk []) fun c =>
    { c with second := false, recovered := true, measures := [manifest] }

/-- What the image's verification leaves: the fields but the channel's, the rest of the Caddy's state, and the response. -/
theorem takeImage_gives (s : State) (n loader manifest : Nat) :
    FieldsKept (noteField [F.MB_STAT_STATE]) s (takeImage s n loader manifest) ∧
      (takeImage s n loader manifest).caddy =
        { s.caddy with recovery := (recoveryImage s n).drop ((recoveryImage s n).length - loader), second := false
                       recovered := true, measures := [manifest] } ∧
      replied (takeImage s n loader manifest) n stOk := by
  have held (image : List Byte) : FieldsKept (noteField [F.MB_STAT_STATE]) s (holdImage s image) := .of_flds rfl
  unfold takeImage
  refine ⟨((held _).trans (respond_kept _ n stOk []).1).flds (onCaddy_flds _ _), ?_, ?_⟩
  · rw [onCaddy_caddy, (respond_kept _ _ _ _).2]
    rfl
  · exact replied_onCaddy _ (respond_replied _ n (by decide) [])

theorem exec_recovery {s : State} {n : Fin 8} (hb : busyWith s n cmdRecovery) (hp : s.caddy.phase = .recovery) (last ok : Bool)
    (loader manifest measure : Nat) (policy : Policy) :
    exec (.recovery n last ok loader manifest measure policy) s = .next (
      if !last then respond (holdImage s (recoveryImage s n)) n stOk []
      else if ok then firmwareGood (takeImage s n loader manifest) measure policy
      else respond (holdImage s []) n stBadSignature []) := by
  change execRecovery n last ok loader manifest measure policy s = _
  rw [execRecovery, mbJob_busy hb, if_neg (by simp [hp])]
  cases last
  · rfl
  · cases ok <;> rfl

/-- A piece of the image that is not the last is kept. -/
theorem recovery_piece (s : State) (n : Fin 8) (loader manifest measure : Nat) (policy : Policy)
    (hb : busyWith s n cmdRecovery) (hp : s.caddy.phase = .recovery) :
    Gives (.recovery n false true loader manifest measure policy) s fun t => t.caddy.recovery = recoveryImage s n ∧
      t.caddy.phase = s.caddy.phase ∧ replied t n stOk := by
  have run : exec (.recovery n false true loader manifest measure policy) s =
      .next (respond (holdImage s (recoveryImage s n)) n stOk []) := exec_recovery hb hp false true loader manifest measure policy
  refine ⟨_, run, ?_⟩
  dsimp only
  rw [(respond_kept _ _ _ _).2]
  exact ⟨rfl, rfl, respond_replied _ n (by decide) []⟩

/-- An image that does not verify is dropped. -/
theorem recovery_bad (s : State) (n : Fin 8) (loader manifest measure : Nat) (policy : Policy)
    (hb : busyWith s n cmdRecovery) (hp : s.caddy.phase = .recovery) :
    Gives (.recovery n true false loader manifest measure policy) s fun t => t.caddy.phase = s.caddy.phase ∧
      t.caddy.recovery = [] ∧ replied t n stBadSignature := by
  have run : exec (.recovery n true false loader manifest measure policy) s =
      .next (respond (holdImage s []) n stBadSignature []) := exec_recovery hb hp true false loader manifest measure policy
  refine ⟨_, run, ?_⟩
  dsimp only
  rw [(respond_kept _ _ _ _).2]
  exact ⟨rfl, rfl, respond_replied _ n (by decide) []⟩

/-- An image that verifies brings the firmware, and leaves the loader. -/
theorem recovery_good (s : State) (n : Fin 8) (loader manifest measure : Nat) (policy : Policy)
    (hb : busyWith s n cmdRecovery) (hp : s.caddy.phase = .recovery) (hl : s.caddy.loaded = false)
    (hc : s.fb F.KT_SUPPLY_CARRIED 0 = false) :
    Gives (.recovery n true true loader manifest measure policy) s fun t => t.caddy.phase = .loader ∧
      t.caddy.recovered = true ∧ t.caddy.recovery = (recoveryImage s n).drop ((recoveryImage s n).length - loader) ∧
      t.caddy.policy = some policy ∧ replied t n stOk := by
  have run : exec (.recovery n true true loader manifest measure policy) s =
      .next (firmwareGood (takeImage s n loader manifest) measure policy) :=
    exec_recovery hb hp true true loader manifest measure policy
  obtain ⟨fields, caddy, answered⟩ := takeImage_gives s n loader manifest
  have loaded : (takeImage s n loader manifest).caddy.loaded = false := by rw [caddy]; exact hl
  have carried : (takeImage s n loader manifest).fb F.KT_SUPPLY_CARRIED 0 = false := (fields.fb _ _ rfl).trans hc
  obtain ⟨u, hu, e⟩ := firmwareGood_loader measure policy loaded carried
  refine ⟨_, run, ?_⟩
  dsimp only
  rw [e, onCaddy_caddy, hu.caddy, caddy]
  exact ⟨rfl, rfl, rfl, rfl, hu.replied rfl answered⟩

/-- Settles O28: each clause is the lemma about its command. -/
theorem caddyBoot : Obligations.CaddyBoot := by
  intro s n bytes loader measure policy
  refine ⟨caddyResetRelease_gives s, manifestRead_gives s, signatureVerify_good s measure, signatureVerify_first s measure,
    signatureVerify_second s measure, firmwareRead_good s measure policy, firmwareRead_first s measure policy,
    fun hp hr hl hc => ⟨fun hf hn => ?_, fun hy hne => ?_⟩, coreRelease_gives s,
    fun hb hp => ⟨recovery_piece s n loader measure measure policy hb hp,
      recovery_good s n loader measure measure policy hb hp, recovery_bad s n loader measure measure policy hb hp⟩,
    caddyWatchdogExpiry_gives s n.isLt⟩
  · have flash : loaderBytes s bytes = bytes := if_neg (by simp [hn])
    have h := loaderRead_gives hp (.inr hf) hc hr hl measure bytes
    rwa [flash] at h
  · have held : loaderBytes s bytes = s.caddy.recovery := if_pos (by simp [hy, hne])
    have h := loaderRead_gives hp (.inl ⟨hy, hne⟩) hc hr hl measure bytes
    rwa [held] at h

end Sys2Proof.Machine
end

section
/-! The programming model family (spec 04; 05 R125, R126): g31 (O4); gates, entries by TRAP and MCALL, returns, EACK, BRK and
words that name no instruction (O16). -/

namespace Sys2Proof.Machine

/-! ### General registers (04 R72) -/

/-- A processor written with what it is reads as before, whatever form the list of processors has. -/
theorem State.cpu_setCpu_self (s : State) (p q : Proc) : (s.setCpu p (s.cpu p)).cpu q = s.cpu q := by
  by_cases h : q = p
  · rw [h, State.cpu_setCpu_same]
  · exact State.cpu_setCpu_ne s _ h

theorem State.g_setG_same (s : State) (p : Proc) {r : RegNo} (v : Word) (h : r ≠ 31) : (s.setG p r v).g p r = v := by
  rw [State.g, State.setG, State.cpu_setCpu_same, bankInUse_congr (Cpu.wr_st _ _ _ _), Cpu.rd_wr_same _ _ _ h]

/-- Settles O4: g31 reads as zero and takes no write; any other register of the bank in use reads what is written. -/
theorem registerG31 : Obligations.RegisterG31 := by
  intro s p v
  refine ⟨Cpu.rd_31 _ _, fun q => ?_, fun r hr => s.g_setG_same p v hr⟩
  rw [State.setG, Cpu.wr_31, State.cpu_setCpu_self]

/-! ### The processor in use -/

@[simp] theorem Cpu.bank_setBank_same (k : Cpu) (b : Nat) (x : Bank) : (k.setBank b x).bank b = x :=
  mget_mset_same _ _ _ _

theorem OnlyCpu.mem {p : Proc} {s t : State} {k : Cpu} (h : OnlyCpu p s t k) : t.mem = s.mem :=
  have e := congrArg State.mem h.rest
  e

/-- With no write of IE or IPL pending, STATUS is saved as it stands, but for the frame that the bank owes (08 R178). -/
theorem savedStatus_of_none {k : Cpu} (hie : k.pendIe = none) (hipl : k.pendIpl = none) :
    savedStatus k = { k.st with fpd := k.st.fpd || (k.bank k.st.bank.toNat).owes } := by
  simp [savedStatus, withPending, hie, hipl]

theorem canRun_of_ready {p : Proc} {s : State} (h : Ready p s) : canRun s p = true := by
  simp [canRun, h.run, h.clock, h.taken, h.wait]

theorem admits_all (p : Proc) : Who.all.admits p = true := rfl

/-- A core's store buffer never keeps an exception waiting (10 R221). -/
theorem finish_exc_core (c : Fin 16) (pc : Word) (e : Exc) (s : State) :
    finish (.core c) pc (.exc e s) = takeExc s (.core c) e pc := by
  simp [finish, neverMerges]

/-- A processor at rest answers what its instruction's own operation comes to. -/
theorem exec_of_body {i : Instr} {p : Proc} {s : State} {who : Who} {body : State → IRes} {r : IRes}
    (he : exec i s = nextOf (runInstr p who body s)) (h : Ready p s) (ha : who.admits p = true) (hb : body s = r) :
    exec i s = .next (finish p (s.cpu p).pc r) := by
  rw [he, runInstr_ready h who ha, hb]
  rfl

/-- The same where the operation has entered or returned already. -/
theorem exec_of_entered {i : Instr} {p : Proc} {s t : State} {who : Who} {body : State → IRes}
    (he : exec i s = nextOf (runInstr p who body s)) (h : Ready p s) (ha : who.admits p = true) (hb : body s = .entered t) :
    exec i s = .next t := exec_of_body he h ha hb

theorem canEnter_core (c : Fin 16) (s : State) : canEnter (.core c) s := .inl rfl

/-- Below ring 3, or with LEGACY clear, a core does not go to the machine level for LEGACY's sake (R91). -/
theorem legacyRing3_eq_false {st : Status} (h : st.legacy = true → st.ring ≠ 3) : (st.legacy && st.ring == 3) = false := by
  simpa using h

/-! ### Entries (R83, 08 R178) -/

/-- What an entry of core `k` into bank `n` leaves in core `u`: the bank holds where and why, and the general registers are
as before. -/
structure EnteredBy (k u : Cpu) (n cause sub : Nat) (epc : Word) (ea : Option Word) : Prop where
  g : u.g = k.g
  epc : (u.bank n).epc = epc &&& ~~~3
  cause : (u.bank n).cause = BitVec.ofNat 8 cause
  sub : (u.bank n).sub = BitVec.ofNat 16 sub
  saved : (u.bank n).saved = savedStatus k
  eaddr : (u.bank n).eaddr = ea.getD (k.bank n).eaddr

/-- A bank written with these is an entry, whatever else the write changes. -/
theorem enteredBy_of_bank {k u : Cpu} {n cause sub : Nat} {epc : Word} {ea : Option Word} {x : Bank}
    (hu : u.bank n = x) (hg : u.g = k.g) (h1 : x.epc = epc &&& ~~~3) (h2 : x.cause = BitVec.ofNat 8 cause)
    (h3 : x.sub = BitVec.ofNat 16 sub) (h4 : x.saved = savedStatus k) (h5 : x.eaddr = ea.getD (k.bank n).eaddr) :
    EnteredBy k u n cause sub epc ea := by
  subst hu
  exact ⟨hg, h1, h2, h3, h4, h5⟩

theorem countCore_none {s : State} (h : setElems s F.PC_EVT_EN = []) (ev : Nat) (c : Fin 16) : countCore s ev c = s :=
  countEvent_none _ _ _ _ h

/-- While no counter counts, an entry that reserves no frame changes the core alone. -/
theorem enterBank_onlyCpu {s : State} (h : setElems s F.PC_EVT_EN = []) (c : Fin 16) (cause sub : Nat) (epc : Word)
    (ea : Option Word) (ring : BitVec 2) (mask : Bool) (vec : Word) :
    let k := s.cpu (.core c)
    ∃ u, OnlyCpu (.core c) s (enterBank s c cause sub epc ea ring mask false vec) u ∧ u.pc = vec ∧
      u.st = { entryFlags k.st with ring := ring, ie := k.st.ie && !mask } ∧
      EnteredBy k u k.st.bank.toNat cause sub epc ea := by
  unfold enterBank
  rw [if_neg (by decide), countCore_none (by exact h)]
  exact ⟨_, (OnlyCpu.refl _ s).setCpu _, rfl, rfl,
    enteredBy_of_bank (Cpu.bank_setBank_same _ _ _) rfl rfl rfl rfl rfl rfl⟩

/-- The same of an entry into the machine level, bank 9. -/
theorem enterMachine_onlyCpu {s : State} (h : setElems s F.PC_EVT_EN = []) (c : Fin 16) (offset : Word) (cause sub : Nat)
    (epc : Word) (ea : Option Word) :
    let k := s.cpu (.core c)
    ∃ u, OnlyCpu (.core c) s (enterMachine s c offset cause sub epc ea) u ∧ u.pc = mvecBase k + offset ∧
      u.st = { entryFlags k.st with bank := 9, ml := true, ie := false, live := k.st.live ||| 0x200 } ∧
      EnteredBy k u 9 cause sub epc ea := by
  unfold enterMachine
  rw [countCore_none (by exact h)]
  exact ⟨_, (OnlyCpu.refl _ s).setCpu _, rfl, rfl,
    enteredBy_of_bank (Cpu.bank_setBank_same _ _ _) rfl rfl rfl rfl rfl rfl⟩

/-- An instruction at rest that completes into an entry: the entry is all that happens, from the pc of the next. -/
theorem completeInto_onlyCpu {p : Proc} {s : State} (h : Plain p s (s.cpu p).pc) {enter : State → Word → State} {u : Cpu}
    (he : OnlyCpu p (s.setCpu p (s.cpu p)) (enter (s.setCpu p (s.cpu p)) ((s.cpu p).pc + 4)) u) :
    OnlyCpu p s (completeInto s p enter) u := by
  have ho := ((OnlyCpu.refl p s).setCpu (s.cpu p)).trans he
  have hc : setElems (enter (s.setCpu p (s.cpu p)) ((s.cpu p).pc + 4)) F.PC_EVT_EN = [] := by
    rw [setElems, ho.flds]
    exact h.count
  simp only [completeInto, loopEnd_none _ _ _ h.loop]
  rwa [countDone_none _ _ hc]

/-! ### TRAP (R82, R83) -/

/-- An entry that is not valid, or not as R81 has it, is refused to every ring. -/
theorem gateFault_entry {e : Gate} (h : e.valid = false ∨ e.reserved = true ∨ e.tring = 3 ∨
    (e.mask = true ∧ e.tring ≠ 0) ∨ e.target.toNat % 4 ≠ 0) (r : BitVec 2) : gateFault e r = some (ringExc 2) := by
  unfold gateFault
  rw [if_pos (by simpa [or_assoc] using h)]

/-- Of any other entry the rings decide. -/
theorem gateFault_sound {e : Gate} (hv : e.valid = true) (hres : e.reserved = false) (ht : e.tring ≠ 3)
    (hm : e.mask = true → e.tring = 0) (ha : e.target.toNat % 4 = 0) (r : BitVec 2) :
    gateFault e r = if r > e.climit || e.tring > r then some (ringExc 3) else none := by
  unfold gateFault
  rw [if_neg (by simpa [hv, hres, ha] using ⟨ht, hm⟩)]

section
variable {c : Fin 16} {s s1 : State} {n : BitVec 12} {e : Gate}

/-- A TRAP that GATEBASE does not allow. -/
theorem trap_outside (h : Calm (.core c) s) (hml : (s.cpu (.core c)).st.ml = false)
    (hl : (s.cpu (.core c)).st.legacy = true → (s.cpu (.core c)).st.ring ≠ 3)
    (hg : (s.cpu (.core c)).gatebase.getLsbD 0 = false ∨ (s.cpu (.core c)).gatebase.toNat / 2 ^ 36 % 2 ^ 12 < n.toNat) :
    Raises (.trap (.core c) n) (.core c) s (ringExc 1) := by
  refine raises_of rfl h (canEnter_core c s) (fun _ => ?_) (fun ha => nomatch ha)
  have hg : (!(s.cpu (.core c)).gatebase.getLsbD 0 ||
      decide ((s.cpu (.core c)).gatebase.toNat / 2 ^ 36 % 2 ^ 12 < n.toNat)) = true := by simpa using hg
  simp only [trapOp, hml, legacyRing3_eq_false hl, hg]
  rfl

/-- A TRAP from outside the machine level that has read its gate as `e`, which left state `s1`. -/
structure AtGate (c : Fin 16) (s : State) (n : BitVec 12) (e : Gate) (s1 : State) : Prop where
  calm : Calm (.core c) s
  ml : (s.cpu (.core c)).st.ml = false
  legacy : (s.cpu (.core c)).st.legacy = true → (s.cpu (.core c)).st.ring ≠ 3
  on : (s.cpu (.core c)).gatebase.getLsbD 0 = true
  inside : n.toNat ≤ (s.cpu (.core c)).gatebase.toNat / 2 ^ 36 % 2 ^ 12
  read : readGate s c n.toNat = .ok e s1

theorem AtGate.allowed (h : AtGate c s n e s1) : (!(s.cpu (.core c)).gatebase.getLsbD 0 ||
    decide ((s.cpu (.core c)).gatebase.toNat / 2 ^ 36 % 2 ^ 12 < n.toNat)) = false := by
  simpa only [h.on, Bool.not_true, Bool.false_or, decide_eq_false_iff_not, Nat.not_lt] using h.inside

/-- The gate decides first. -/
theorem AtGate.raises (h : AtGate c s n e s1) {f : Exc} (hf : gateFault e (s.cpu (.core c)).st.ring = some f) :
    exec (.trap (.core c) n) s = .next (takeExc s1 (.core c) f (s.cpu (.core c)).pc) := by
  have body : trapOp c n.toNat s = .exc f s1 := by
    simp only [trapOp, h.ml, legacyRing3_eq_false h.legacy, Bool.or_self, h.allowed, Bool.false_eq_true, if_false, h.read,
      XRes.then, hf]
  rw [exec_of_body rfl h.calm.toReady rfl body, finish_exc_core]

/-- A gate that the caller may use, outside an exception and with no frame owed, is entered. -/
theorem AtGate.enters (h : AtGate c s n e s1) (hf : gateFault e (s.cpu (.core c)).st.ring = none)
    (hx : (s.cpu (.core c)).st.exl = false)
    (ho : ((s1.cpu (.core c)).bank (s1.cpu (.core c)).st.bank.toNat).owes = false) :
    exec (.trap (.core c) n) s = .next (completeInto s1 (.core c) fun s npc =>
      enterBank s c cTrap n.toNat npc none e.tring e.mask false e.target) := by
  have frame : writeFrame s1 c = .ok () s1 := by simp [writeFrame, ho]
  have body : trapOp c n.toNat s = .entered (completeInto s1 (.core c) fun s npc =>
      enterBank s c cTrap n.toNat npc none e.tring e.mask false e.target) := by
    simp only [trapOp, h.ml, legacyRing3_eq_false h.legacy, Bool.or_self, h.allowed, Bool.false_eq_true, if_false, h.read,
      XRes.then, hf, hx, frame]
  exact exec_of_entered rfl h.calm.toReady rfl body

/-- What the entry through a gate leaves: the bank in use tells where the TRAP stood and its number, the core is at the
gate's target and ring, and nothing but the core has changed since the gate was read. -/
theorem AtGate.gives (h : AtGate c s n e s1) (hk : s1.cpu (.core c) = s.cpu (.core c))
    (hp : Plain (.core c) s1 (s.cpu (.core c)).pc) (hf : gateFault e (s.cpu (.core c)).st.ring = none)
    (hx : (s.cpu (.core c)).st.exl = false)
    (ho : ((s.cpu (.core c)).bank (s.cpu (.core c)).st.bank.toNat).owes = false) :
    let p := Proc.core c
    let k := s.cpu p
    let b := k.st.bank.toNat
    Gives (.trap p n) s fun t => let u := t.cpu p; let x := u.bank b
      u.pc = e.target ∧ x.epc = (k.pc + 4) &&& ~~~3 ∧ x.cause = 0x07 ∧ x.sub.toNat = n.toNat ∧
      x.saved.ring = k.st.ring ∧ x.saved.ie = k.st.ie ∧ x.eaddr = (k.bank b).eaddr ∧
      u.st.ring = e.tring ∧ u.st.exl = true ∧ u.st.ie = (k.st.ie && !e.mask) ∧ u.st.bank = k.st.bank ∧
      u.g = k.g ∧ (∀ q, q ≠ p → t.cpu q = s1.cpu q) ∧ t.mem = s1.mem ∧ t.flds = s1.flds := by
  refine ⟨_, h.enters hf hx (by rwa [hk]), ?_⟩
  obtain ⟨u, entered, hpc, hst, entry⟩ := enterBank_onlyCpu (s := s1.setCpu (.core c) (s1.cpu (.core c))) hp.count c cTrap
    n.toNat ((s1.cpu (.core c)).pc + 4) none e.tring e.mask e.target
  have only := completeInto_onlyCpu (enter := fun s npc => enterBank s c cTrap n.toNat npc none e.tring e.mask false e.target)
    (by rwa [hk]) entered
  rw [State.cpu_setCpu_same, hk] at hst entry
  have saved := entry.saved.trans (savedStatus_of_none h.calm.plain.ie h.calm.plain.ipl)
  have number : (BitVec.ofNat 16 n.toNat).toNat = n.toNat := by
    rw [BitVec.toNat_ofNat, Nat.mod_eq_of_lt (by omega)]
  dsimp only
  rw [only.cpu, hst]
  exact ⟨hpc, entry.epc, entry.cause, (congrArg _ entry.sub).trans number, (congrArg Status.ring saved :),
    (congrArg Status.ie saved :), entry.eaddr, rfl, rfl, rfl, rfl, entry.g, only.others, only.mem, only.flds⟩

end

/-! ### MCALL (R85) -/

/-- MCALL is privileged. -/
theorem mcall_privileged {c : Fin 16} {s : State} (h : Calm (.core c) s) (hr : ringOf (s.cpu (.core c)) ≠ 0)
    (hl : (s.cpu (.core c)).st.legacy = true → (s.cpu (.core c)).st.ring ≠ 3) :
    Raises (.mcall (.core c)) (.core c) s privileged := by
  refine raises_of rfl h (canEnter_core c s) (fun _ => ?_) (fun ha => nomatch ha)
  simp only [legacyRing3_eq_false hl]
  exact if_pos (by simpa using hr)

/-- MCALL at ring 0 and the machine level, outside an exception, enters the machine level. -/
theorem mcall_gives {c : Fin 16} {s : State} (h : Calm (.core c) s) (hr : ringOf (s.cpu (.core c)) = 0)
    (hx : (s.cpu (.core c)).st.exl = false) :
    let k := s.cpu (.core c)
    Gives (.mcall (.core c)) s fun t => let u := t.cpu (.core c); let x := u.bank 9
      u.pc = (k.mvec &&& 0xFFFFFE000) ∧ x.epc = (k.pc + 4) &&& ~~~3 ∧ x.cause = 0x07 ∧ x.sub = 0x1000 ∧
      x.saved = { k.st with fpd := k.st.fpd || (k.bank k.st.bank.toNat).owes } ∧ u.st.ml = true ∧ u.st.bank = 9 ∧
      u.st.exl = true ∧ u.st.ie = false ∧ u.g = k.g ∧ t.mem = s.mem ∧ t.flds = s.flds := by
  have run : exec (.mcall (.core c)) s = .next (completeInto s (.core c) fun s npc =>
      enterMachine s c 0 cTrap 0x1000 npc none) := by
    refine exec_of_entered rfl h.toReady rfl ?_
    simp only [hr, hx, ne_eq, not_true_eq_false, decide_false, Bool.false_and, Bool.false_eq_true, if_false]
  refine ⟨_, run, ?_⟩
  obtain ⟨u, entered, hpc, hst, entry⟩ := enterMachine_onlyCpu (s := s.setCpu (.core c) (s.cpu (.core c))) h.plain.count c 0
    cTrap 0x1000 ((s.cpu (.core c)).pc + 4) none
  have only := completeInto_onlyCpu (enter := fun s npc => enterMachine s c 0 cTrap 0x1000 npc none) h.plain entered
  rw [State.cpu_setCpu_same] at hpc hst entry
  dsimp only
  rw [only.cpu, hst]
  exact ⟨hpc.trans (BitVec.add_zero _), entry.epc, entry.cause, entry.sub,
    entry.saved.trans (savedStatus_of_none h.plain.ie h.plain.ipl), rfl, rfl, rfl, rfl, entry.g, only.mem, only.flds⟩

/-! ### TRET (R84) -/

/-- Without STEP or SKIP armed, completion does not step. -/
theorem debugStep_unarmed {s : State} {p : Proc} (h : (s.cpu p).stepBank = none) (b : Nat) : debugStep s p b = s := by
  cases p <;> simp [debugStep, h]

theorem armStep_gives (s : State) (c : Fin 16) :
    ∃ b, OnlyCpu (.core c) s (armStep s c) { s.cpu (.core c) with stepBank := b } := by
  unfold armStep
  dsimp only
  split
  · exact ⟨_, (OnlyCpu.refl _ s).setCpu _⟩
  · exact ⟨_, .refl _ s⟩

theorem countDone_frame (s : State) (p : Proc) : IcFrame countField s (countDone s p) := by
  cases p with
  | core c => exact countCore_frame s _ c
  | infuser i => exact countEvent_frame s _ _ _
  | caddy => exact .refl _ s

theorem IcFrame.mem {k : Fld → Bool} {s t : State} (h : IcFrame k s t) : t.mem = s.mem :=
  have e := congrArg State.mem h.rest
  e

theorem IcFrame.cpu {k : Fld → Bool} {s t : State} (h : IcFrame k s t) (p : Proc) : t.cpu p = s.cpu p :=
  have e := congrArg (fun u : State => u.cpu p) h.rest
  e

section
variable (k : Cpu) (v : Status)

@[simp] theorem returnStatus_exl : (returnStatus k v).exl = v.exl := by unfold returnStatus; dsimp only; split <;> rfl
@[simp] theorem returnStatus_ov : (returnStatus k v).ov = v.ov := by unfold returnStatus; dsimp only; split <;> rfl
@[simp] theorem returnStatus_dz : (returnStatus k v).dz = v.dz := by unfold returnStatus; dsimp only; split <;> rfl
@[simp] theorem returnStatus_bank : (returnStatus k v).bank = v.bank := by unfold returnStatus; dsimp only; split <;> rfl
@[simp] theorem returnStatus_ml : (returnStatus k v).ml = v.ml := by unfold returnStatus; dsimp only; split <;> rfl

variable {k v}

/-- Outside the machine level, the ring is as saved. -/
theorem returnStatus_ring (h : k.st.ml = false) : (returnStatus k v).ring = v.ring := by
  simp only [returnStatus, h, Bool.false_and, Bool.false_eq_true, if_false]
  split <;> rfl

/-- Ring 0 gets IE, IPL and FPE back. -/
theorem returnStatus_of_ring0 (h : k.st.ring = 0) :
    (returnStatus k v).ie = v.ie ∧ (returnStatus k v).ipl = v.ipl ∧ (returnStatus k v).fpe = v.fpe := by
  simp [returnStatus, h]

/-- Ring 1 and 2 keep IE, IPL and FPE. -/
theorem returnStatus_of_outer (hml : k.st.ml = false) (h : k.st.ring ≠ 0) :
    (returnStatus k v).ie = k.st.ie ∧ (returnStatus k v).ipl = k.st.ipl ∧ (returnStatus k v).fpe = k.st.fpe := by
  have low : (k.st.ml || k.st.ring == 0) = false := by simpa [hml] using h
  simp only [returnStatus, low, Bool.false_eq_true, if_false, and_self]

end

/-- Core `k` once it has returned from the bank in use: the saved state is back, the bank owes no frame, and has no source where
the return leaves it. -/
def returned (k : Cpu) : Cpu :=
  let n := k.st.bank.toNat
  let b := k.bank n
  { clearPending (k.setBank n { b with owes := false, source := if b.saved.bank != k.st.bank then none else b.source }) with
    st := returnStatus k b.saved, pc := b.epc, wait := .none, mustTake := k.st.ml && !b.saved.ml && k.supPend != 0 }

theorem returned_owes (k : Cpu) : ((returned k).bank k.st.bank.toNat).owes = false :=
  congrArg Bank.owes (Cpu.bank_setBank_same _ _ _)

/-- The state once a return has released the source that its bank accepted, where it leaves that bank. -/
def releaseLeft (s : State) (source : Option Nat) (leaves : Bool) : State :=
  match source with
  | some n => if leaves then icRelease s n else s
  | none => s

theorem releaseLeft_frame (s : State) (source : Option Nat) (leaves : Bool) :
    IcFrame icField s (releaseLeft s source leaves) := by
  cases source with
  | none => exact .refl _ s
  | some n =>
    cases leaves with
    | false => exact .refl _ s
    | true => exact icRelease_frame s n

section
variable {c : Fin 16} {s : State}

/-- Outside the machine level, TRET is not for ring 3. -/
theorem tret_privileged (h : Calm (.core c) s) (hml : (s.cpu (.core c)).st.ml = false)
    (h3 : (s.cpu (.core c)).st.ring = 3) : Raises (.tret (.core c)) (.core c) s privileged := by
  refine raises_of rfl h (canEnter_core c s) (fun _ => ?_) (fun ha => nomatch ha)
  exact if_pos (by simp [hml, h3])

/-- Outside the machine level, TRET does not return to a lower ring. -/
theorem tret_inward (h : Calm (.core c) s) (hml : (s.cpu (.core c)).st.ml = false) (h3 : (s.cpu (.core c)).st.ring ≠ 3)
    (hv : ((s.cpu (.core c)).bank (s.cpu (.core c)).st.bank.toNat).saved.ring < (s.cpu (.core c)).st.ring) :
    Raises (.tret (.core c)) (.core c) s (ringExc 4) := by
  refine raises_of rfl h (canEnter_core c s) (fun _ => ?_) (fun ha => nomatch ha)
  exact (if_neg (by simpa using fun _ => h3)).trans (if_pos (by simpa [hml] using hv))

/-- A return that the rings allow: only the interrupt controller's part changes beside the core, before the instruction
counts. -/
theorem tretCore_returns (hp : Plain (.core c) s (s.cpu (.core c)).pc) (h3 : (s.cpu (.core c)).st.ring ≠ 3)
    (hv : (s.cpu (.core c)).st.ring ≤ ((s.cpu (.core c)).bank (s.cpu (.core c)).st.bank.toNat).saved.ring) :
    let k := s.cpu (.core c)
    ∃ s', tretCore c s = .entered (armStep (debugStep (countDone s' (.core c)) (.core c) k.st.bank.toNat) c) ∧
      IcFrame icField (s.setCpu (.core c) (returned k)) s' := by
  have hlow : ¬ ((s.cpu (.core c)).bank (s.cpu (.core c)).st.bank.toNat).saved.ring < (s.cpu (.core c)).st.ring := by
    simpa using hv
  dsimp only
  unfold tretCore
  dsimp only
  rw [if_neg (by simpa using fun _ => h3), if_neg (by simp [hlow]), loopEnd_none _ _ _ hp.loop]
  exact ⟨releaseLeft (s.setCpu (.core c) (returned (s.cpu (.core c)))) _ _, rfl, releaseLeft_frame _ _ _⟩

/-- A return that the rings allow leaves the core as the bank in use saved it. -/
theorem tret_gives (h : Calm (.core c) s) (h3 : (s.cpu (.core c)).st.ring ≠ 3)
    (hv : (s.cpu (.core c)).st.ring ≤ ((s.cpu (.core c)).bank (s.cpu (.core c)).st.bank.toNat).saved.ring) :
    Gives (.tret (.core c)) s fun t =>
      (∃ b, t.cpu (.core c) = { returned (s.cpu (.core c)) with stepBank := b }) ∧ t.mem = s.mem := by
  obtain ⟨s', body, frame⟩ := tretCore_returns h.plain h3 hv
  have counted := frame.cpu (.core c)
  rw [State.cpu_setCpu_same, ← (countDone_frame s' (.core c)).cpu] at counted
  rw [debugStep_unarmed (by rw [counted]; exact h.plain.step)] at body
  obtain ⟨b, armed⟩ := armStep_gives (countDone s' (.core c)) c
  refine ⟨_, exec_of_entered rfl h.toReady rfl body, ⟨b, ?_⟩, ?_⟩
  · rw [armed.cpu, counted]
  · rw [armed.mem, (countDone_frame s' (.core c)).mem, frame.mem]
    rfl

/-- The same, told of the parts of the core: outside the machine level and back outside it. -/
theorem tret_restores (h : Calm (.core c) s) (hml : (s.cpu (.core c)).st.ml = false) (h3 : (s.cpu (.core c)).st.ring ≠ 3)
    (hv : (s.cpu (.core c)).st.ring ≤ ((s.cpu (.core c)).bank (s.cpu (.core c)).st.bank.toNat).saved.ring)
    (hvml : ((s.cpu (.core c)).bank (s.cpu (.core c)).st.bank.toNat).saved.ml = false) :
    let k := s.cpu (.core c)
    let n := k.st.bank.toNat
    let v := (k.bank n).saved
    Gives (.tret (.core c)) s fun t => let u := t.cpu (.core c)
      u.pc = (k.bank n).epc ∧ u.st.ring = v.ring ∧ u.st.exl = v.exl ∧ u.st.ov = v.ov ∧ u.st.dz = v.dz ∧
      u.st.bank = v.bank ∧ u.st.ml = false ∧
      (k.st.ring = 0 → u.st.ie = v.ie ∧ u.st.ipl = v.ipl ∧ u.st.fpe = v.fpe) ∧
      (k.st.ring ≠ 0 → u.st.ie = k.st.ie ∧ u.st.ipl = k.st.ipl ∧ u.st.fpe = k.st.fpe) ∧
      u.g = k.g ∧ t.mem = s.mem ∧ (u.bank n).owes = false := by
  obtain ⟨t, run, ⟨b, hcpu⟩, hmem⟩ := tret_gives h h3 hv
  refine ⟨t, run, ?_⟩
  dsimp only
  rw [hcpu]
  exact ⟨rfl, returnStatus_ring hml, returnStatus_exl _ _, returnStatus_ov _ _, returnStatus_dz _ _, returnStatus_bank _ _,
    (returnStatus_ml _ _).trans hvml, returnStatus_of_ring0, returnStatus_of_outer hml, rfl, hmem, returned_owes _⟩

end

/-- An Infuser and the Caddy return to their EPC with EXL, OV, DZ, OVT and DZT as saved (20 R414, R415). -/
theorem tret_one {p : Proc} {s : State} (h : Calm p s) (hp : ∀ c, p ≠ .core c) :
    let k := s.cpu p
    let v := (k.bank (bankInUse p k)).saved
    Goes (.tret p) p s { k with st := { k.st with exl := v.exl, ov := v.ov, dz := v.dz, ovt := v.ovt, dzt := v.dzt } }
      (k.bank (bankInUse p k)).epc := by
  cases p with
  | core c => exact absurd rfl (hp c)
  | infuser i => exact goes_jump rfl h rfl rfl ((OnlyCpu.refl _ s).setCpu _) rfl rfl rfl rfl rfl rfl
  | caddy => exact goes_jump rfl h rfl rfl ((OnlyCpu.refl _ s).setCpu _) rfl rfl rfl rfl rfl rfl

/-! ### EACK and BRK (R125, R126) -/

/-- EACK outside an exception does nothing. -/
theorem eack_idle {p : Proc} {s : State} (h : Calm p s) (hx : (s.cpu p).st.exl = false) :
    Goes (.eack p) p s (s.cpu p) ((s.cpu p).pc + 4) :=
  goes_done rfl h (admits_all p) (if_neg (by simp [hx])) (.refl p s) rfl rfl rfl rfl rfl rfl

/-- Core `k` with EXL clear, and the cycles since the entry in its bank. -/
def eacked (k : Cpu) : Cpu :=
  { bankWrite k k.st.bank.toNat fun b => { b with entryCyc := BitVec.ofNat 16 (min (cyclesRun k - b.entryAt).toNat 0xFFFF) } with
    st := { k.st with exl := false } }

theorem eacked_entryCyc (k : Cpu) : ((eacked k).bank k.st.bank.toNat).entryCyc =
    BitVec.ofNat 16 (min (cyclesRun k - (k.bank k.st.bank.toNat).entryAt).toNat 0xFFFF) :=
  congrArg Bank.entryCyc (Cpu.bank_setBank_same _ _ _)

theorem passCycles_gives (s : State) (p : Proc) :
    ∃ x, OnlyCpu p { s with free := s.free + 1 } (passCycles s p) { s.cpu p with cycle := x } :=
  ⟨_, (OnlyCpu.refl p _).setCpu _⟩

/-- EACK of a core in an exception, once some cycles have passed. -/
theorem eack_core {c : Fin 16} {s : State} (h : Calm (.core c) s) (hx : (s.cpu (.core c)).st.exl = true) :
    Gives (.eack (.core c)) s fun t => ∃ x,
      OnlyCpu (.core c) { s with free := s.free + 1 } t
        { eacked { s.cpu (.core c) with cycle := x } with pc := (s.cpu (.core c)).pc + 4 } := by
  have plain : Plain (.core c) { s with free := s.free + 1 } (s.cpu (.core c)).pc :=
    ⟨h.plain.loop, h.plain.ie, h.plain.ipl, h.plain.step, h.plain.count, h.plain.rest⟩
  obtain ⟨x, passed⟩ := passCycles_gives s (.core c)
  have run : exec (.eack (.core c)) s = .next (retire
      ((passCycles s (.core c)).setCpu (.core c) (eacked ((passCycles s (.core c)).cpu (.core c)))) (.core c)
      (s.cpu (.core c)).pc ((s.cpu (.core c)).pc + 4) false) := exec_of_body (r := .done _) rfl h.toReady rfl (if_pos hx)
  rw [passed.cpu] at run
  have acts := passed.setCpu (eacked { s.cpu (.core c) with cycle := x })
  have done := ends_retire _ ((s.cpu (.core c)).pc + 4) false (acts.plain plain rfl rfl rfl rfl rfl plain.rest)
  rw [acts.cpu] at done
  exact ⟨_, run, x, acts.trans done⟩

/-- EACK of an Infuser or the Caddy clears EXL. -/
theorem eack_one {p : Proc} {s : State} (h : Calm p s) (hp : ∀ c, p ≠ .core c) (hx : (s.cpu p).st.exl = true) :
    Goes (.eack p) p s { s.cpu p with st := { (s.cpu p).st with exl := false } } ((s.cpu p).pc + 4) := by
  cases p with
  | core c => exact absurd rfl (hp c)
  | infuser i => exact goes_done rfl h rfl (if_pos hx) ((OnlyCpu.refl _ s).setCpu _) rfl rfl rfl rfl rfl rfl
  | caddy => exact goes_done rfl h rfl (if_pos hx) ((OnlyCpu.refl _ s).setCpu _) rfl rfl rfl rfl rfl rfl

/-- EACK in an exception clears EXL and nothing else of STATUS; a core's bank tells the cycles since its entry. -/
theorem eack_gives {p : Proc} {s : State} (h : Calm p s) (hx : (s.cpu p).st.exl = true) :
    let k := s.cpu p
    let n := bankInUse p k
    Gives (.eack p) s fun t => (t.cpu p).st = { k.st with exl := false } ∧ (t.cpu p).pc = k.pc + 4 ∧
      (∀ c, p = .core c → ((t.cpu p).bank n).entryCyc =
        BitVec.ofNat 16 (min (cyclesRun (t.cpu p) - (k.bank n).entryAt).toNat 0xFFFF)) ∧
      (t.cpu p).g = k.g ∧ t.mem = s.mem ∧ t.flds = s.flds ∧ ∀ q, q ≠ p → t.cpu q = s.cpu q := by
  by_cases hp : ∃ c, p = .core c
  · obtain ⟨c, rfl⟩ := hp
    obtain ⟨t, run, x, only⟩ := eack_core h hx
    refine ⟨t, run, ?_⟩
    dsimp only
    rw [only.cpu]
    exact ⟨rfl, rfl, fun _ _ => eacked_entryCyc _, rfl, only.mem, only.flds, only.others⟩
  · obtain ⟨t, run, only⟩ := eack_one h (fun c e => hp ⟨c, e⟩) hx
    refine ⟨t, run, ?_⟩
    dsimp only
    rw [only.cpu]
    exact ⟨rfl, rfl, fun c e => absurd ⟨c, e⟩ hp, rfl, only.mem, only.flds, only.others⟩

theorem brk_raises {p : Proc} {s : State} (h : Calm p s) (hc : canEnter p s) : Raises (.brk p) p s ⟨cDebug, 1, none⟩ :=
  raises_of rfl h hc (fun _ => rfl) (fun ha => nomatch ha)

/-! ### Words and fetches that raise an exception (R136; 20 R416) -/

theorem illegalInstruction_raises {p : Proc} {s : State} {w : BitVec 32} (h : Calm p s) (hc : canEnter p s)
    (hw : decodeHerok p w = none) : Raises (.illegalInstruction p w) p s illegal := by
  refine raises_of (who := .all) (body := .exc illegal) ?_ h hc (fun _ => rfl) (fun ha => nomatch ha)
  exact congrArg Host.Outcome.next (if_neg (by simp [hw]))

/-- An Infuser that fetches outside its SRAM has a BUS_ERROR. -/
theorem fetchFault_infuser {i : Fin 32} {s : State} (h : Calm (.infuser i) s) (hc : canEnter (.infuser i) s)
    (ho : (s.cpu (.infuser i)).pc.toNat < 2 ^ 36 ∨ 2 ^ 36 + 0x10000 ≤ (s.cpu (.infuser i)).pc.toNat) :
    Raises (.instructionFetchFault (.infuser i)) (.infuser i) s (busError beNoTarget aFetch (s.cpu (.infuser i)).pc) := by
  refine raises_of (who := .all) ?_ h hc (fun _ => rfl) (fun ha => nomatch ha)
  have out : fetchable s (.infuser i) (s.cpu (.infuser i)).pc = false := by
    simp only [fetchable, Bool.and_eq_false_iff, decide_eq_false_iff_not]
    unfold privBase
    omega
  exact congrArg Host.Outcome.next (if_neg (by simp [out]))

/-- A core enters the exception that its fetch finds. -/
theorem fetchFault_core {c : Fin 16} {s s1 : State} {e : Exc} (h : Calm (.core c) s)
    (hf : fetchAt s c (s.cpu (.core c)).pc = .exc e s1) :
    exec (.instructionFetchFault (.core c)) s = .next (takeExc s1 (.core c) e (s.cpu (.core c)).pc) := by
  have here : (!canRun s (.core c) || (s.cpu (.core c)).wait != .none) = false := by
    simp [canRun_of_ready h.toReady, h.wait]
  refine congrArg Host.Outcome.next ?_
  dsimp only
  rw [here]
  simp only [Bool.false_eq_true, if_false, hf]
  rw [runInstr_ready h.toReady .all rfl]
  simp only [hf, finish_exc_core]

/-! ### O16 -/

/-- Settles O16: each clause is the lemma about its instruction. -/
theorem gatesAndReturns : Obligations.GatesAndReturns := by
  refine ⟨fun c s s1 n e => ?_, fun p s h => ?_⟩
  · intro p k b h hml hl
    refine ⟨trap_outside h hml hl, fun hon hin hread hk hp => ?_⟩
    have gate : AtGate c s n e s1 := ⟨h, hml, hl, hon, hin, hread⟩
    refine ⟨fun bad => gate.raises (gateFault_entry bad _), fun hv hres ht hm ha => ?_⟩
    have sound := gateFault_sound hv hres ht hm ha k.st.ring
    exact ⟨fun hr => gate.raises (sound.trans (if_pos (by simpa using hr))), fun hle hge hx ho =>
      gate.gives hk hp (sound.trans (if_neg (by simpa using ⟨hle, hge⟩))) hx ho⟩
  · intro k n v
    refine ⟨fun hc => ⟨brk_raises h hc, fun w => illegalInstruction_raises h hc⟩, eack_idle h, eack_gives h,
      fun c hp hr hx => ?_, fun c hp hr hl => ?_, fun c hp hml h3 => ?_, fun c hp hml h3 hv => ?_,
      fun c hp hml h3 hv hvml => ?_, tret_one h, fun i hp hc ho => ?_, fun c e s1 hp hf => ?_⟩
    all_goals subst hp
    · exact mcall_gives h hr hx
    · exact mcall_privileged h hr hl
    · exact tret_privileged h hml h3
    · exact tret_inward h hml h3 hv
    · exact tret_restores h hml h3 hv hvml
    · exact fetchFault_infuser h hc ho
    · exact fetchFault_core h hf

end Sys2Proof.Machine
end

section
/-! The integer instruction family (spec 05): results (O1), overflow (O2), division by zero (O3). -/

namespace Sys2Proof.Machine

/-! ### The values of the operand forms in plain arithmetic (05 R95, R98) -/

theorem boolWord_slt (x y : Word) : boolWord (x.slt y) = if x.toInt < y.toInt then 1 else 0 := by
  simp [boolWord, BitVec.slt]

theorem boolWord_ult (x y : Word) : boolWord (x.ult y) = if x.toNat < y.toNat then 1 else 0 := by
  simp [boolWord, BitVec.ult]

/-- A right shift that fills with the sign gives the sign alone once the amount reaches the width. -/
theorem sshiftRight_min {w : Nat} (x : BitVec (w + 1)) (n : Nat) :
    x.sshiftRight (min n w) = if n < w + 1 then x.sshiftRight n else if x.msb then -1 else 0 := by
  split
  · rw [Nat.min_eq_left (by omega)]
  · rw [Nat.min_eq_right (by omega)]
    refine BitVec.eq_of_getLsbD_eq fun i hi => ?_
    have sign : (if w + i < w + 1 then x.getLsbD (w + i) else x.msb) = x.msb := by
      split
      · rw [show i = 0 by omega]; exact (x.msb_eq_getLsbD_last).symm
      · rfl
    have fill : (if x.msb then (-1 : BitVec (w + 1)) else 0).getLsbD i = x.msb := by
      cases x.msb <;> simp [BitVec.neg_one_eq_allOnes, hi]
    rw [BitVec.getLsbD_sshiftRight, sign, fill]
    simp [show ¬ w + 1 ≤ i by omega]

theorem sar64_eq (x : Word) (n : Nat) :
    sar64 x n = if n < 64 then x.sshiftRight n else if x.msb then -1 else 0 := sshiftRight_min x n

theorem sar32_eq (x : BitVec 32) (n : Nat) :
    sar32 x n = if n < 32 then x.sshiftRight n else if x.msb then -1 else 0 := sshiftRight_min x n

theorem sext32_ite (c : Prop) [Decidable c] (x y : BitVec 32) :
    sext32 (if c then x else y) = if c then x.signExtend 64 else y.signExtend 64 := apply_ite _ _ _ _

theorem sext32_shl32 (x : BitVec 32) (n : Nat) : sext32 (shl32 x n) = if n < 32 then (x <<< n).signExtend 64 else 0 :=
  sext32_ite _ _ _

theorem sext32_shr32 (x : BitVec 32) (n : Nat) : sext32 (shr32 x n) = if n < 32 then (x >>> n).signExtend 64 else 0 :=
  sext32_ite _ _ _

theorem sext32_sar32 (x : BitVec 32) (n : Nat) : sext32 (sar32 x n) =
    if n < 32 then (x.sshiftRight n).signExtend 64 else if x.msb then -1 else 0 := by
  rw [sar32_eq, sext32_ite]
  congr 1
  exact sext32_ite _ _ _

theorem sext16_shift (imm : BitVec 16) : sext16 imm <<< 16 = imm.signExtend 64 * 65536 :=
  BitVec.shiftLeft_eq_mul_twoPow _ _

/-! ### Bit counts (05 R95) -/

theorem clzFrom_le (x n : Nat) : clzFrom x n ≤ n := by
  induction n with
  | zero => rfl
  | succ n ih => rw [clzFrom]; split <;> omega

/-- The bits that CLZ counts are zeros. -/
theorem testBit_of_clzFrom (x n : Nat) : ∀ k, n - clzFrom x n ≤ k → k < n → x.testBit k = false := by
  induction n with
  | zero => intro k _ hk; omega
  | succ n ih =>
    intro k hlo hk
    cases hb : x.testBit n with
    | true => simp only [clzFrom, hb, if_true] at hlo; omega
    | false =>
      rcases Nat.lt_succ_iff_lt_or_eq.mp hk with hk | rfl
      · simp only [clzFrom, hb, Bool.false_eq_true, if_false] at hlo
        exact ih k (by omega) hk
      · exact hb

/-- The bit below them is a one. -/
theorem testBit_clzFrom (x n : Nat) (h : clzFrom x n < n) : x.testBit (n - 1 - clzFrom x n) = true := by
  induction n with
  | zero => omega
  | succ n ih =>
    cases hb : x.testBit n with
    | true => simp [clzFrom, hb]
    | false =>
      simp only [clzFrom, hb, Bool.false_eq_true, if_false] at h ⊢
      rw [show n + 1 - 1 - (1 + clzFrom x n) = n - 1 - clzFrom x n by omega]
      exact ih (by omega)

theorem ctzFrom_le (x n : Nat) : ∀ k, ctzFrom x k n ≤ n := by
  induction n with
  | zero => intro k; rfl
  | succ n ih => intro k; have := ih (k + 1); rw [ctzFrom]; split <;> omega

/-- The bits that CTZ counts are zeros. -/
theorem testBit_of_ctzFrom (x n : Nat) : ∀ k j, k ≤ j → j < k + ctzFrom x k n → x.testBit j = false := by
  induction n with
  | zero => intro k j hlo hj; simp only [ctzFrom] at hj; omega
  | succ n ih =>
    intro k j hlo hj
    cases hb : x.testBit k with
    | true => simp only [ctzFrom, hb, if_true] at hj; omega
    | false =>
      rcases Nat.eq_or_lt_of_le hlo with rfl | hlo
      · exact hb
      · simp only [ctzFrom, hb, Bool.false_eq_true, if_false] at hj
        exact ih (k + 1) j hlo (by omega)

/-- The bit above them is a one. -/
theorem testBit_ctzFrom (x n : Nat) : ∀ k, ctzFrom x k n < n → x.testBit (k + ctzFrom x k n) = true := by
  induction n with
  | zero => intro k h; omega
  | succ n ih =>
    intro k h
    cases hb : x.testBit k with
    | true => simp [ctzFrom, hb]
    | false =>
      simp only [ctzFrom, hb, Bool.false_eq_true, if_false] at h ⊢
      rw [← Nat.add_assoc]
      exact ih (k + 1) (by omega)

theorem popFrom_eq_countP (x n : Nat) : popFrom x n = (List.range n).countP fun k => x.testBit k := by
  induction n with
  | zero => rfl
  | succ n ih =>
    rw [popFrom, ih, List.range_succ, List.countP_append, List.countP_singleton, Nat.add_comm]
    cases x.testBit n <;> rfl

theorem writes_alu2_eq {i : Instr} {p : Proc} {s : State} {d a b : RegNo} {f : Word → Word → Word} {v : Word}
    (he : exec i s = nextOf (alu2 p d a b f s)) (h : Calm p s) (hv : f (s.g p a) (s.g p b) = v) : Writes i p s d v :=
  hv ▸ writes_alu2 f he h

theorem writes_alu1_eq {i : Instr} {p : Proc} {s : State} {d a : RegNo} {f : Word → Word} {v : Word}
    (he : exec i s = nextOf (alu1 p d a f s)) (h : Calm p s) (hv : f (s.g p a) = v) : Writes i p s d v :=
  hv ▸ writes_alu1 f he h

theorem clz_writes {p : Proc} {s : State} (h : Calm p s) (d a : RegNo) :
    ∃ n : Nat, n ≤ 64 ∧ Writes (.clz p d a) p s d (BitVec.ofNat 64 n) ∧
      (∀ k, 64 - n ≤ k → k < 64 → (s.g p a).getLsbD k = false) ∧ (n < 64 → (s.g p a).getLsbD (63 - n) = true) :=
  ⟨clzFrom (s.g p a).toNat 64, clzFrom_le _ 64, writes_alu1_eq rfl h rfl, testBit_of_clzFrom _ 64, testBit_clzFrom _ 64⟩

theorem ctz_writes {p : Proc} {s : State} (h : Calm p s) (d a : RegNo) :
    ∃ n : Nat, n ≤ 64 ∧ Writes (.ctz p d a) p s d (BitVec.ofNat 64 n) ∧
      (∀ k, k < n → (s.g p a).getLsbD k = false) ∧ (n < 64 → (s.g p a).getLsbD n = true) := by
  refine ⟨ctzFrom (s.g p a).toNat 0 64, ctzFrom_le _ 64 0, writes_alu1_eq rfl h rfl, fun k hk => ?_, fun hn => ?_⟩
  · exact testBit_of_ctzFrom _ 64 0 k (Nat.zero_le k) (by rwa [Nat.zero_add])
  · have := testBit_ctzFrom _ 64 0 hn
    rwa [Nat.zero_add] at this

theorem popc_writes {p : Proc} {s : State} (h : Calm p s) (d a : RegNo) :
    Writes (.popc p d a) p s d (BitVec.ofNat 64 ((List.range 64).countP fun k => (s.g p a).getLsbD k)) := by
  have w : Writes (.popc p d a) p s d (BitVec.ofNat 64 (popFrom (s.g p a).toNat 64)) := writes_alu1_eq rfl h rfl
  rwa [popFrom_eq_countP] at w

theorem lui_writes {p : Proc} {s : State} (h : Calm p s) (d : RegNo) (imm : BitVec 16) :
    Writes (.lui p d imm) p s d (imm.signExtend 64 * 65536) := by
  have w : Writes (.lui p d imm) p s d (sext16 imm <<< 16) := writes_of rfl h (admits_all p) rfl
  rwa [sext16_shift] at w

/-! ### Quotients and remainders (05 R95) -/

/-- An instruction that divides, with a divisor that is not zero. -/
theorem writes_nonzero {i : Instr} {p : Proc} {s : State} {d : RegNo} {v v' : Word} {body : State → IRes}
    (he : exec i s = nextOf (runInstr p .all body s)) (h : Calm p s) (hb : body s = putG p d v s) (hv : v = v') :
    Writes i p s d v' := writes_of he h (admits_all p) (hv ▸ hb)

/-- Settles O1: each instruction writes the value of its operand form. -/
theorem integerResults : Obligations.IntegerResults := by
  refine ⟨fun p s h d a b imm => ?_, fun p s h d a => ⟨clz_writes h d a, ctz_writes h d a, popc_writes h d a⟩,
    fun p s h d a b => ?_⟩
  · exact ⟨writes_alu2_eq rfl h rfl, writes_alu2_eq rfl h rfl, writes_alu2_eq rfl h rfl, writes_alu2_eq rfl h rfl,
      writes_alu2_eq rfl h rfl, writes_alu2_eq rfl h rfl, writes_alu2_eq rfl h rfl,
      writes_alu1_eq rfl h rfl, writes_alu1_eq rfl h rfl, writes_alu1_eq rfl h rfl, lui_writes h d imm,
      writes_alu2_eq rfl h (boolWord_slt _ _), writes_alu2_eq rfl h (boolWord_ult _ _),
      writes_alu1_eq rfl h (boolWord_slt _ _), writes_alu1_eq rfl h (boolWord_ult _ _),
      writes_alu2_eq rfl h rfl, writes_alu2_eq rfl h rfl, writes_alu2_eq rfl h (sar64_eq _ _),
      writes_alu2_eq rfl h (sext32_shl32 _ _), writes_alu2_eq rfl h (sext32_shr32 _ _),
      writes_alu2_eq rfl h (sext32_sar32 _ _),
      writes_alu1_eq rfl h rfl, writes_alu1_eq rfl h rfl, writes_alu1_eq rfl h (sar64_eq _ _)⟩
  · exact ⟨fun hy => writes_nonzero rfl h (if_neg hy) BitVec.udiv_def.symm,
      fun hy => writes_nonzero rfl h (if_neg hy) (congrArg sext32 BitVec.udiv_def.symm),
      fun hy => writes_nonzero rfl h (if_neg hy) rfl, fun hy => writes_nonzero rfl h (if_neg hy) rfl,
      fun hy => writes_nonzero rfl h (if_neg hy) BitVec.umod_def.symm,
      fun hy => writes_nonzero rfl h (if_neg hy) (congrArg sext32 BitVec.umod_def.symm)⟩

/-! ### Overflow (05 R96, R99) -/

theorem subOverflows_zero (x : Word) : subOverflows 0 x = (x == BitVec.intMin 64) := by
  have h1 := x.toInt_lt; have h2 := x.le_toInt
  have low : x = BitVec.intMin 64 ↔ x.toInt = -2 ^ 63 := by rw [← BitVec.toInt_inj, BitVec.toInt_intMin]; rfl
  rw [subOverflows_eq, Bool.eq_iff_iff, beq_iff_eq, low]
  simp only [outside, show (0 : Word).toInt = 0 from rfl, Bool.or_eq_true, decide_eq_true_eq]
  omega

theorem subOverflows32_zero (x : BitVec 32) : subOverflows32 0 x = (x == BitVec.intMin 32) := by
  have h1 := x.toInt_lt; have h2 := x.le_toInt
  have low : x = BitVec.intMin 32 ↔ x.toInt = -2 ^ 31 := by rw [← BitVec.toInt_inj, BitVec.toInt_intMin]; rfl
  rw [subOverflows32_eq, Bool.eq_iff_iff, beq_iff_eq, low]
  simp only [outside, show (0 : BitVec 32).toInt = 0 from rfl, Bool.or_eq_true, decide_eq_true_eq]
  omega

section
variable {i : Instr} {p : Proc} {s : State} {d : RegNo} {v v' : Word} {ov ov' : Bool} {body : State → IRes}

/-- An instruction that may overflow, with OVT = 0: its result and the overflow told in other words. -/
theorem overflow_goes (he : exec i s = nextOf (runInstr p .all body s)) (h : Calm p s) (ht : (s.cpu p).st.ovt = false)
    (hb : body s = putOv p d v ov s) (hv : v = v') (ho : ov = ov') :
    Goes i p s (overflowed p (s.cpu p) d v' ov') ((s.cpu p).pc + 4) :=
  hv ▸ ho ▸ putOv_goes he h ht hb

/-- The same with OVT = 1 and an overflow. -/
theorem overflow_raises (he : exec i s = nextOf (runInstr p .all body s)) (h : Calm p s) (hc : canEnter p s)
    (ht : (s.cpu p).st.ovt = true) (hb : body s = putOv p d v ov s) (ho : ov = true) : Raises i p s arithOverflow :=
  putOv_raises he h hc ht (ho ▸ hb)

end

/-- Dividing the least number by -1 has a divisor that is not zero, and overflows. -/
theorem least_div {w : Nat} {x y m : BitVec w} (hx : x = m) (hy : y = -1) : (x == m && y == -1) = true := by
  simp [hx, hy]

/-- Settles O2: each instruction's own test for an overflow is that its true result is outside the range. -/
theorem signedOverflow : Obligations.SignedOverflow := by
  refine ⟨fun p s h ht d a b imm => ?_, fun p s h ht hc d a b imm => ?_⟩
  · exact ⟨overflow_goes rfl h ht rfl rfl (addOverflows_eq _ _), overflow_goes rfl h ht rfl rfl (addOverflows_eq _ _),
      overflow_goes rfl h ht rfl rfl (addOverflows32_eq _ _), overflow_goes rfl h ht rfl rfl (subOverflows_eq _ _),
      overflow_goes rfl h ht rfl rfl (subOverflows32_eq _ _),
      overflow_goes rfl h ht rfl (BitVec.zero_sub _) (subOverflows_zero _),
      overflow_goes rfl h ht rfl (congrArg sext32 (BitVec.zero_sub _)) (subOverflows32_zero _),
      fun hy => overflow_goes rfl h ht (if_neg hy) rfl rfl, fun hy => overflow_goes rfl h ht (if_neg hy) rfl rfl⟩
  · exact ⟨fun ho => overflow_raises rfl h hc ht rfl ((addOverflows_eq _ _).trans ho),
      fun ho => overflow_raises rfl h hc ht rfl ((addOverflows_eq _ _).trans ho),
      fun ho => overflow_raises rfl h hc ht rfl ((addOverflows32_eq _ _).trans ho),
      fun ho => overflow_raises rfl h hc ht rfl ((subOverflows_eq _ _).trans ho),
      fun ho => overflow_raises rfl h hc ht rfl ((subOverflows32_eq _ _).trans ho),
      fun hx => overflow_raises rfl h hc ht rfl ((subOverflows_zero _).trans (beq_iff_eq.mpr hx)),
      fun hx => overflow_raises rfl h hc ht rfl ((subOverflows32_zero _).trans (beq_iff_eq.mpr hx)),
      fun hx hy => overflow_raises rfl h hc ht (if_neg (fun e => absurd (hy.symm.trans e) (by decide))) (least_div hx hy),
      fun hx hy => overflow_raises rfl h hc ht (if_neg (fun e => absurd (hy.symm.trans e) (by decide))) (least_div hx hy)⟩

/-! ### Division by zero (05 R97, R99) -/

/-- Settles O3: every division tests its divisor first. -/
theorem divisionByZero : Obligations.DivisionByZero := by
  intro p s h d a b
  refine ⟨fun hy ht => ?_, fun hy ht => ?_, fun hy ht hc => ?_, fun hy ht hc => ?_⟩
  · refine ⟨?_, ?_, ?_, ?_⟩ <;> exact putDz_goes rfl h ht (if_pos hy)
  · refine ⟨?_, ?_, ?_, ?_⟩ <;> exact putDz_goes rfl h ht (if_pos hy)
  · refine ⟨?_, ?_, ?_, ?_⟩ <;> exact putDz_raises rfl h hc ht (if_pos hy)
  · refine ⟨?_, ?_, ?_, ?_⟩ <;> exact putDz_raises rfl h hc ht (if_pos hy)

end Sys2Proof.Machine
end

section
/-! The integer instruction family (spec 05): branches and jumps (O5), hardware loops (O6). -/

namespace Sys2Proof.Machine

/-! ### Branches and jumps (05 R107, R108) -/

/-- An operation that leaves the state as it was and transfers control. -/
theorem goes_transfer {i : Instr} {p : Proc} {s : State} {npc : Word} {body : State → IRes}
    (he : exec i s = nextOf (runInstr p .all body s)) (h : Calm p s) (hb : body s = .jump s npc) :
    Goes i p s (s.cpu p) npc :=
  goes_jump he h (admits_all p) hb (.refl p s) rfl rfl rfl rfl rfl rfl

/-- The same with the link left in g29. -/
theorem goes_link {i : Instr} {p : Proc} {s : State} {npc v : Word} {body : State → IRes}
    (he : exec i s = nextOf (runInstr p .all body s)) (h : Calm p s) (hb : body s = .jump (s.setG p 29 v) npc) :
    Goes i p s ((s.cpu p).wr (bankInUse p (s.cpu p)) 29 v) npc :=
  goes_jump he h (admits_all p) hb ((OnlyCpu.refl p s).setG 29 v) (Cpu.wr_lc ..) (Cpu.wr_le ..) (Cpu.wr_pendIe ..)
    (Cpu.wr_pendIpl ..) (Cpu.wr_stepBank ..) (Cpu.wr_wait ..)

/-- An instruction whose own operation leaves `t` and transfers control. -/
theorem ends_jump {i : Instr} {p : Proc} {s t : State} {npc : Word} {who : Who} {body : State → IRes}
    (he : exec i s = nextOf (runInstr p who body s)) (h : Calm p s) (ha : who.admits p = true)
    (hb : body s = .jump t npc) (hp : Plain p t (s.cpu p).pc) : Ends i p s t (t.cpu p) npc :=
  ⟨_, exec_of_body he h.toReady ha hb, ends_retire _ _ false hp⟩

/-- A branch goes to its target where its condition holds, and on where it does not. -/
theorem branch_goes {i : Instr} {p : Proc} {s : State} {a b : RegNo} {off : BitVec 16} {c : Word → Word → Bool} {taken : Bool}
    (he : exec i s = nextOf (branchIf p a b off c s)) (h : Calm p s) (hc : c (s.g p a) (s.g p b) = taken) :
    Goes i p s (s.cpu p) (if taken then (s.cpu p).pc + 4 * off.signExtend 64 else (s.cpu p).pc + 4) := by
  cases taken with
  | true => exact goes_transfer he h (if_pos hc)
  | false => exact goes_done he h (admits_all p) (if_neg (by simp [hc])) (.refl p s) rfl rfl rfl rfl rfl rfl

theorem slt_eq_decide (x y : Word) : x.slt y = decide (x.toInt < y.toInt) := rfl

theorem not_slt_eq_decide (x y : Word) : (!x.slt y) = decide (y.toInt ≤ x.toInt) := by
  simp [BitVec.slt, ← decide_not]

theorem not_ult_eq_decide (x y : Word) : (!x.ult y) = decide (y.toNat ≤ x.toNat) := by
  simp [BitVec.ult, ← decide_not]

/-- Settles O5: a branch is its condition told in plain arithmetic, a jump its target. -/
theorem branchesAndJumps : Obligations.BranchesAndJumps := by
  intro p s h a b off far imm
  refine ⟨branch_goes rfl h rfl, branch_goes rfl h ?_, branch_goes rfl h rfl, branch_goes rfl h (not_slt_eq_decide _ _),
    branch_goes rfl h rfl, branch_goes rfl h (not_ult_eq_decide _ _), goes_transfer rfl h rfl, goes_link rfl h rfl,
    fun ha => ⟨goes_transfer rfl h (if_neg (not_not_intro ha)), goes_link rfl h (if_neg (not_not_intro ha))⟩,
    fun ha hc => ⟨?_, ?_⟩⟩
  · exact (decide_not ..).symm
  · exact raises_of rfl h hc (fun _ => if_pos ha) (fun e => nomatch e)
  · exact raises_of rfl h hc (fun _ => if_pos ha) (fun e => nomatch e)

/-! ### The loop end check (05 R110) -/

/-- The loop of level `lvl` ends a pass at `pc`. -/
def LoopEnds (k : Cpu) (lvl : Nat) (pc : Word) : Prop := mget 0 k.lc lvl ≠ 0 ∧ pc = mget 0 k.le lvl

section
variable {k : Cpu} {lvl : Nat} {pc npc : Word}

theorem loopCheck_none (h : ¬ LoopEnds k lvl pc) (t : Bool) : loopCheck k lvl pc npc t = (k, npc, t) :=
  if_neg fun c => h ⟨c.1, c.2.1⟩

theorem loopCheck_taken : loopCheck k lvl pc npc true = (k, npc, true) := if_neg (by simp)

/-- The next pass starts. -/
theorem loopCheck_next (h : LoopEnds k lvl pc) (hn : 1 < (mget 0 k.lc lvl).toNat) :
    loopCheck k lvl pc npc false = ({ k with lc := mset 0 k.lc lvl (mget 0 k.lc lvl - 1) }, mget 0 k.ls lvl, true) :=
  (if_pos ⟨h.1, h.2, rfl⟩).trans (if_pos hn)

/-- The last pass falls through. -/
theorem loopCheck_last (h : LoopEnds k lvl pc) (hn : mget 0 k.lc lvl = 1) :
    loopCheck k lvl pc npc false = ({ k with lc := mset 0 k.lc lvl 0 }, npc, false) :=
  (if_pos ⟨h.1, h.2, rfl⟩).trans (if_neg (by rw [hn]; decide))

/-- Writing the count of one level leaves whether the other ends. -/
theorem loopEnds_mset_ne {n : Nat} (h : n ≠ lvl) (v : Word) :
    LoopEnds { k with lc := mset 0 k.lc n v } lvl pc ↔ LoopEnds k lvl pc := by
  simp [LoopEnds, mget_mset_ne _ _ _ h]

theorem loopEnd_of {u w : Cpu} {t t' : Bool} {m q : Word} (h1 : loopCheck k 1 pc (pc + 4) false = (u, m, t))
    (h0 : loopCheck u 0 pc m t = (w, q, t')) : loopEnd k pc (pc + 4) = (w, q) := by
  simp only [loopEnd, bne_self_eq_false, h1, h0]

end

/-- With no write of IE or IPL pending, applying what is pending changes nothing. -/
theorem clearPending_none {k : Cpu} (h1 : k.pendIe = none) (h2 : k.pendIpl = none) :
    clearPending { k with st := withPending k } = k := by
  cases k
  simp_all [clearPending, withPending]

/-- A completion at which nothing but the loop end check acts. -/
theorem retire_loopEnd {p : Proc} {s : State} {pc npc : Word} {lc : FMap Word}
    (h : Plain p (s.setCpu p { s.cpu p with lc := [] }) pc)
    (hl : loopEnd (s.cpu p) pc (pc + 4) = ({ s.cpu p with lc := lc }, npc)) :
    OnlyCpu p s (retire s p pc (pc + 4) false) { s.cpu p with lc := lc, pc := npc } := by
  obtain ⟨-, hie, hipl, hstep, hcount, hwait⟩ := h
  rw [State.cpu_setCpu_same] at hie hipl hstep hwait
  have counted (k : Cpu) : countDone (s.setCpu p k) p = s.setCpu p k := countDone_none _ _ hcount
  have applied := clearPending_none (k := { s.cpu p with lc := lc }) hie hipl
  have waits : ({ s.cpu p with lc := lc, pc := npc, wait := .none } : Cpu) = { s.cpu p with lc := lc, pc := npc } := by
    rw [← hwait]
  simp only [retire, hl, Bool.false_eq_true, if_false, applied, counted]
  rw [waits, debugStep_unarmed (by rw [State.cpu_setCpu_same]; exact hstep)]
  exact (OnlyCpu.refl p s).setCpu _

/-- ADDI into g31 without an overflow comes to the loop end check alone. -/
theorem addi31_goes {p : Proc} {s : State} {a : RegNo} {imm : BitVec 16} {lc : FMap Word} {npc : Word} (h : Ready p s)
    (hp : Plain p (s.setCpu p { s.cpu p with lc := [] }) (s.cpu p).pc)
    (ho : outside 64 ((s.g p a).toInt + (imm.signExtend 64).toInt) = false)
    (hl : loopEnd (s.cpu p) (s.cpu p).pc ((s.cpu p).pc + 4) = ({ s.cpu p with lc := lc }, npc)) :
    Goes (.addi p 31 a imm) p s { s.cpu p with lc := lc } npc := by
  have body : putOv p 31 (s.g p a + sext16 imm) (addOverflows (s.g p a) (sext16 imm)) s = .done s := by
    have none : addOverflows (s.g p a) (sext16 imm) = false := (addOverflows_eq _ _).trans ho
    rw [none]
    simp [putOv, State.setG, State.setCpu_self s p h.form]
  exact ⟨_, exec_of_body rfl h (admits_all p) body, retire_loopEnd hp hl⟩

/-! ### LOOP (05 R109) -/

/-- The end of a body of two instructions or more is not the LOOP itself. -/
theorem ne_loopEnd (pc : Word) {off : BitVec 16} (h : 2 ≤ off.toInt) : pc ≠ pc + 4 * off.signExtend 64 := by
  intro e
  have zero : 4 * off.signExtend 64 = 0 := by simpa using e.symm
  have top := off.toInt_lt
  have value := congrArg BitVec.toInt zero
  rw [BitVec.toInt_mul, BitVec.toInt_signExtend_of_le (by decide), show (4 : Word).toInt = 4 from rfl,
    Int.bmod_eq_of_le (by omega) (by omega)] at value
  simp at value
  omega

/-- Core `k` with a loop of `n` passes opened on level `lvl`. -/
def withLoop (k : Cpu) (lvl : Nat) (le n : Word) : Cpu :=
  { k with ls := mset 0 k.ls lvl (k.pc + 4), le := mset 0 k.le lvl le, lc := mset 0 k.lc lvl n }

/-- No loop ends at the LOOP that opens one. -/
theorem plain_withLoop {p : Proc} {s : State} (h : Plain p s (s.cpu p).pc) {le : Word} (he : (s.cpu p).pc ≠ le) (lvl : Nat)
    (n : Word) : Plain p (s.setCpu p (withLoop (s.cpu p) lvl le n)) (s.cpu p).pc := by
  constructor
  case count => exact h.count
  all_goals rw [State.cpu_setCpu_same]
  case loop =>
    intro l hl
    rcases eq_or_ne lvl l with rfl | hne
    · exact .inr (by simpa [withLoop] using he)
    · simpa [withLoop, hne] using h.loop l hl
  case ie => exact h.ie
  case ipl => exact h.ipl
  case step => exact h.step
  case rest => exact h.rest

theorem loop_goes {p : Proc} {s : State} (h : Calm p s) {lvl a : RegNo} {off : BitVec 16} (hl : lvl.val ≤ 1)
    (ho : 2 ≤ off.toInt) :
    let k := s.cpu p
    let le := k.pc + 4 * off.signExtend 64
    Goes (.loop p lvl a off) p s (withLoop k lvl.val le (s.g p a)) (if s.g p a = 0 then le + 4 else k.pc + 4) := by
  intro k le
  have opened := plain_withLoop h.plain (ne_loopEnd _ ho) lvl.val (s.g p a)
  have allowed : ¬ (lvl.val > 1 ∨ off.toInt < 2) := by omega
  have only := (OnlyCpu.refl p s).setCpu (withLoop k lvl.val le (s.g p a))
  by_cases hn : s.g p a = 0
  · rw [if_pos hn]
    exact (ends_jump rfl h (admits_all p) ((if_neg allowed).trans (if_pos hn)) opened).of only
  · rw [if_neg hn]
    exact (ends_done rfl h (admits_all p) ((if_neg allowed).trans (if_neg hn)) opened).of only

/-- Settles O6: each way a body can end is what the check of level 1 and then that of level 0 come to. -/
theorem hardwareLoops : Obligations.HardwareLoops := by
  refine ⟨fun p s h lvl a off => ⟨loop_goes h, fun bad hc => ?_⟩, fun p s a imm h hp ho => ?_⟩
  · exact raises_of rfl h hc (fun _ => if_pos bad) (fun e => nomatch e)
  · refine ⟨fun e1 n1 => ?_, fun e1 n1 e0 => ?_, fun e1 e0 n0 => ?_, fun e1 e0 n0 => ?_, fun e1 n1 e0 n0 => ?_,
      fun e1 e0 => ?_⟩
    all_goals refine addi31_goes h hp ho ?_
    · exact loopEnd_of (loopCheck_next e1 n1) loopCheck_taken
    · exact loopEnd_of (loopCheck_last e1 n1) (loopCheck_none (mt (loopEnds_mset_ne (by decide) _).mp e0) _)
    · exact loopEnd_of (loopCheck_none e1 _) (loopCheck_next e0 n0)
    · exact loopEnd_of (loopCheck_none e1 _) (loopCheck_last e0 n0)
    · have other : mget 0 (mset 0 (s.cpu p).lc 1 0) 0 = mget 0 (s.cpu p).lc 0 := mget_mset_ne _ _ _ (by decide)
      have next := loopCheck_next (npc := (s.cpu p).pc + 4) ((loopEnds_mset_ne (n := 1) (by decide) 0).mpr e0)
        (by rw [other]; exact n0)
      rw [other] at next
      exact loopEnd_of (loopCheck_last e1 n1) next
    · exact loopEnd_of (loopCheck_none e1 _) (loopCheck_none e0 _)

end Sys2Proof.Machine
end

section
/-! The integer instruction family (spec 05): loads and stores (O7), alignment (O8), atomic instructions (O9). -/

namespace Sys2Proof.Machine

/-! ### Loads (05 R100; 07 R166) -/

/-- A load of `n` bytes at `ea` finds all its parts: `v` is what they hold, and reading them has left `t`. -/
def LoadFinds (p : Proc) (s s1 t : State) (ea : Word) (xs : List (XAddr × Seg)) (parts : List Part) (v n align : Nat) : Prop :=
  ea.toNat % align = 0 ∧ Reaches p s ea n aLoad xs s1 ∧
    sbPosted (s1.cpu p).sb = false ∧ sbPartly (s1.cpu p).sb xs = false ∧
    (∀ x ∈ xs, isDevice x.1.rtype = true → (s1.cpu p).sb = []) ∧
    loadParts s1 p xs = .ok parts t ∧ partsValue parts = some v ∧ v < 256 ^ n ∧ Plain p t (s.cpu p).pc

section
variable {i : Instr} {p : Proc} {c : Fin 16} {s s1 t : State} {d a : RegNo} {imm : BitVec 16} {xs : List (XAddr × Seg)}
  {parts : List Part} {v n align : Nat}

theorem LoadFinds.loadOp {ea : Word} (h : LoadFinds p s s1 t ea xs parts v n align) (dst : LoadDst) :
    loadOp p dst n align ea s = .done (loadResult t p dst v) := by
  obtain ⟨aligned, reaches, posted, partly, device, loaded, value, -, -⟩ := h
  exact loadOp_done aligned reaches posted device partly loaded value

theorem LoadFinds.lt {ea : Word} (h : LoadFinds p s s1 t ea xs parts v n align) : v < 256 ^ n := by
  obtain ⟨-, -, -, -, -, -, -, lt, -⟩ := h
  exact lt

theorem LoadFinds.plain {ea : Word} (h : LoadFinds p s s1 t ea xs parts v n align) : Plain p t (s.cpu p).pc := by
  obtain ⟨-, -, -, -, -, -, -, -, plain⟩ := h
  exact plain

/-- A load into a general register, whatever its extension makes of the value. -/
theorem loadG_ends {signed : Bool} {r : Word} (he : exec i s = nextOf (loadG p d a imm n signed s)) (h : Calm p s)
    (hf : LoadFinds p s s1 t (s.g p a + imm.signExtend 64) xs parts v n n)
    (hr : loadResult t p (.g d n signed) v = t.setG p d r) :
    Ends i p s t ((t.cpu p).wr (bankInUse p (t.cpu p)) d r) ((s.cpu p).pc + 4) :=
  (ends_done he h (admits_all p) ((hf.loadOp _).trans (congrArg IRes.done hr)) (hf.plain.setG d r)).of
    ((OnlyCpu.refl p t).setG d r)

theorem loadSigned_ends (he : exec i s = nextOf (loadG p d a imm n true s)) (h : Calm p s)
    (hn : n = 1 ∨ n = 2 ∨ n = 4 ∨ n = 8) (hf : LoadFinds p s s1 t (s.g p a + imm.signExtend 64) xs parts v n n) :
    Ends i p s t ((t.cpu p).wr (bankInUse p (t.cpu p)) d (signedBytes n v)) ((s.cpu p).pc + 4) :=
  loadG_ends he h hf (loadResult_signed t p d hf.lt hn)

theorem loadUnsigned_ends (he : exec i s = nextOf (loadG p d a imm n false s)) (h : Calm p s)
    (hf : LoadFinds p s s1 t (s.g p a + imm.signExtend 64) xs parts v n n) :
    Ends i p s t ((t.cpu p).wr (bankInUse p (t.cpu p)) d (BitVec.ofNat 64 v)) ((s.cpu p).pc + 4) :=
  loadG_ends he h hf rfl

/-- A load into a v register. -/
theorem loadV_ends (he : exec i s = nextOf (loadV (.core c) d a imm n align s)) (h : Calm (.core c) s) (hfp : fpReady c s)
    (hf : LoadFinds (.core c) s s1 t (s.g (.core c) a + imm.signExtend 64) xs parts v n align) :
    Ends i (.core c) s t (withV (t.cpu (.core c)) d (BitVec.ofNat 128 v)) ((s.cpu (.core c)).pc + 4) := by
  have only := (OnlyCpu.refl (.core c) t).putV d (BitVec.ofNat 128 v)
  exact (ends_fp he h hfp rfl (hf.loadOp _) (only.plain hf.plain rfl rfl rfl rfl rfl hf.plain.rest)).of only

/-! ### Stores (05 R100; 07 R166; 10 R220, R223) -/

/-- No part of a store must wait for the mirrored pair. -/
theorem noMirrorStall (hm : ∀ x ∈ xs, isLocal x.1.place = true → mirrorStalls s1 (x.1.place / 64) = false) :
    (xs.any fun x => isLocal x.1.place && mirrorStalls s1 (x.1.place / 64)) = false := by
  rw [List.any_eq_false]
  intro x hx
  cases hl : isLocal x.1.place with
  | true => simp [hm x hx hl]
  | false => simp

section
variable {ea : Word} (h0 : ea.toNat % align = 0) (h1 : Reaches p s ea n aStore xs s1)
  (hm : ∀ x ∈ xs, isLocal x.1.place = true → mirrorStalls s1 (x.1.place / 64) = false)
include h0 h1 hm

/-- A store enters the buffer. -/
theorem storeOp_pushed (hs : ∀ x ∈ xs, x.1.rtype ≠ .deviceStrict) (hp : pushStores p v xs s1 = some t) :
    storeOp p n align ea v s = .done t := by
  unfold storeOp
  rw [if_neg (not_not_intro h0)]
  refine withPlaces_of h1 ?_ (by simp)
  rw [if_neg (by simp [noMirrorStall hm]), if_neg (by simpa using hs), hp]

/-- A store to a Device-Strict page performs at once. -/
theorem storeOp_strict (hs : ∃ x ∈ xs, x.1.rtype = .deviceStrict) (hb : (s1.cpu p).sb = [])
    (hp : strictStore p v xs s1 = .done t) : storeOp p n align ea v s = .done t := by
  unfold storeOp
  rw [if_neg (not_not_intro h0)]
  refine withPlaces_of h1 ?_ (by simp)
  rw [if_neg (by simp [noMirrorStall hm]), if_pos (by simpa using hs), if_pos (by simp [hb]), hp]

/-- An instruction that stores, where it completes once its store is done. -/
theorem store_ends (hp : Plain p t (s.cpu p).pc)
    (hi : ∀ t, storeOp p n align ea v s = .done t → Plain p t (s.cpu p).pc → Ends i p s t (t.cpu p) ((s.cpu p).pc + 4)) :
    ((∀ x ∈ xs, x.1.rtype ≠ .deviceStrict) → pushStores p v xs s1 = some t → Ends i p s t (t.cpu p) ((s.cpu p).pc + 4)) ∧
    ((∃ x ∈ xs, x.1.rtype = .deviceStrict) → (s1.cpu p).sb = [] → strictStore p v xs s1 = .done t →
      Ends i p s t (t.cpu p) ((s.cpu p).pc + 4)) :=
  ⟨fun hs hv => hi t (storeOp_pushed h0 h1 hm hs hv) hp, fun hs hb hv => hi t (storeOp_strict h0 h1 hm hs hb hv) hp⟩

end

theorem storeG_ends (he : exec i s = nextOf (storeG p d a imm n s)) (h : Calm p s) (t : State)
    (hb : storeOp p n n (effAddr s p a imm) ((s.g p d).toNat % 256 ^ n) s = .done t) (hp : Plain p t (s.cpu p).pc) :
    Ends i p s t (t.cpu p) ((s.cpu p).pc + 4) :=
  ends_done he h (admits_all p) hb hp

theorem storeV_ends (he : exec i s = nextOf (storeV (.core c) d a imm n align s)) (h : Calm (.core c) s) (hfp : fpReady c s)
    (t : State) (hb : storeOp (.core c) n align (effAddr s (.core c) a imm) ((s.gv (.core c) d).toNat % 256 ^ n) s = .done t)
    (hp : Plain (.core c) t (s.cpu (.core c)).pc) : Ends i (.core c) s t (t.cpu (.core c)) ((s.cpu (.core c)).pc + 4) :=
  ends_fp he h hfp rfl hb hp

end

/-- Settles O7: a load is what its parts hold, extended; a store is done in the buffer or at once. -/
theorem loadsAndStores : Obligations.LoadsAndStores := by
  refine ⟨fun p s s1 t xs parts v d a imm h => ?_, fun p s s1 t xs d a imm h => ?_⟩
  · refine ⟨loadSigned_ends rfl h (by decide), loadSigned_ends rfl h (by decide), loadSigned_ends rfl h (by decide),
      loadUnsigned_ends rfl h, loadUnsigned_ends rfl h, loadUnsigned_ends rfl h, loadUnsigned_ends rfl h,
      ?_, ?_, ?_, ?_, ?_, ?_, ?_⟩
    all_goals
      rintro c rfl hfp
      exact loadV_ends rfl h hfp
  · refine ⟨?_, ?_, ?_, ?_, ?_, ?_, ?_, ?_, ?_, ?_, ?_⟩
    iterate 4 exact fun h0 h1 hm hp => store_ends h0 h1 hm hp (storeG_ends rfl h)
    all_goals
      rintro c rfl hfp h0 h1 hm hp
      exact store_ends h0 h1 hm hp (storeV_ends rfl h hfp)

/-! ### Alignment (05 R100, R104; 07 R166) -/

/-- An FP or SIMD instruction of a core that may run one raises what its own operation comes to. -/
theorem raises_fp {i : Instr} {c : Fin 16} {s : State} {body : State → IRes} {e : Exc}
    (he : exec i s = nextOf (runFp (.core c) noEarly body s)) (h : Calm (.core c) s) (hf : fpReady c s)
    (hb : body s = .exc e s) : Raises i (.core c) s e := by
  unfold Raises
  rw [he, runFp_ready h hf rfl, hb, finish_exc_core]
  rfl

/-- Settles O8: every access tests its alignment before anything else. -/
theorem alignmentTraps : Obligations.AlignmentTraps := by
  intro p s d a b imm h hc
  dsimp only
  and_intros
  iterate 8 exact fun ha => raises_of rfl h hc (fun _ => if_pos ha) nofun
  iterate 12
    rintro c rfl hf ha
    exact raises_fp rfl h hf (if_pos ha)
  iterate 6 exact fun ha => raises_of rfl h hc (fun _ => if_pos ha) nofun

/-! ### Atomic instructions (05 R104, R105) -/

section
variable {i : Instr} {p : Proc} {s s1 t : State} {x : XAddr} {g : Seg} {xs : List (XAddr × Seg)} {old n : Nat} {d a b : RegNo}
  {f : Nat → Nat → Nat → Option Nat}

theorem atomicOp_done (hs : (s.cpu p).sb = []) (h0 : (s.g p a).toNat % n = 0)
    (h1 : Reaches p s (s.g p a) n aAtomic ((x, g) :: xs) s1)
    (hat : atomicAt s1 p x n (f ((s1.g p d).toNat % 256 ^ n) ((s1.g p b).toNat % 256 ^ n)) = .ok old t) :
    atomicOp p d a b n f s = .done (loadResult t p (.g d n true) old) := by
  unfold atomicOp
  dsimp only
  rw [if_neg (not_not_intro h0), if_neg (by simp [hs])]
  exact withPlaces_of h1 (by simp only [hat]) (by simp)

/-- An atomic instruction completes with the old value in gd. `act` is what it does to the old value. -/
theorem atomic_ends {act : Nat → Option Nat} (he : exec i s = nextOf (atomicI p d a b n f s)) (h : Calm p s)
    (hs : (s.cpu p).sb = []) (hn : n = 1 ∨ n = 2 ∨ n = 4 ∨ n = 8)
    (hf : f ((s1.g p d).toNat % 256 ^ n) ((s1.g p b).toNat % 256 ^ n) = act) (h0 : (s.g p a).toNat % n = 0)
    (h1 : Reaches p s (s.g p a) n aAtomic ((x, g) :: xs) s1) (hat : atomicAt s1 p x n act = .ok old t)
    (ho : old < 256 ^ n) (hp : Plain p t (s.cpu p).pc) :
    Ends i p s t ((t.cpu p).wr (bankInUse p (t.cpu p)) d (signedBytes n old)) ((s.cpu p).pc + 4) := by
  have body : atomicOp p d a b n f s = .done (t.setG p d (signedBytes n old)) := by
    rw [atomicOp_done hs h0 h1 (hf.symm ▸ hat), loadResult_signed t p d ho hn]
  exact (ends_done he h (admits_all p) body (hp.setG d _)).of ((OnlyCpu.refl p t).setG d _)

end

theorem casFn_mod (n gd gb : Nat) : casFn n gd (gb % 256 ^ n) = fun old => if old = gd then some (gb % 256 ^ n) else none := by
  funext old
  rw [casFn, Nat.mod_mod]

theorem swpFn_mod (n gd gb : Nat) : swpFn n gd (gb % 256 ^ n) = fun _ => some (gb % 256 ^ n) := by
  funext old
  rw [swpFn, Nat.mod_mod]

/-- Settles O9: operands cut to the width are what the operation is asked with. -/
theorem atomicsComplete : Obligations.AtomicsComplete := by
  intro p s s1 t x g xs old d a b h hs
  exact ⟨atomic_ends rfl h hs (by decide) (casFn_mod 8 _ _), atomic_ends rfl h hs (by decide) (casFn_mod 4 _ _),
    atomic_ends rfl h hs (by decide) rfl, atomic_ends rfl h hs (by decide) rfl,
    atomic_ends rfl h hs (by decide) (swpFn_mod 8 _ _), atomic_ends rfl h hs (by decide) (swpFn_mod 4 _ _)⟩

end Sys2Proof.Machine
end

section
/-! The integer instruction family (spec 05): the TLB instructions (O13). -/

namespace Sys2Proof.Machine

/-! ### Entries that leave TLBs (05 R117; 09 R211) -/

/-- Core `k` without the TLB entries that satisfy `f`. -/
def withoutTlb (f : TlbEntry → Bool) (k : Cpu) : Cpu :=
  { k with tlbI := k.tlbI.filter fun e => !f e, tlbD := k.tlbD.filter fun e => !f e, tlb2 := k.tlb2.filter fun e => !f e }

theorem withoutTlb_twice (f : TlbEntry → Bool) (k : Cpu) : withoutTlb f (withoutTlb f k) = withoutTlb f k := by
  simp [withoutTlb, List.filter_filter]

/-- Nothing differs between `s` and `t` but that the cores `cs` have lost the TLB entries that satisfy `f`. -/
structure TlbsLost (f : TlbEntry → Bool) (cs : List (Fin 16)) (s t : State) : Prop where
  rest : { t with cpus := s.cpus } = s
  others : ∀ q, (∀ c, q ≠ .core c) → t.cpu q = s.cpu q
  core : ∀ c, t.cpu (.core c) = if c ∈ cs then withoutTlb f (s.cpu (.core c)) else s.cpu (.core c)

theorem tlbsLost_foldl (f : TlbEntry → Bool) (cs : List (Fin 16)) :
    ∀ s, TlbsLost f cs s (cs.foldl (fun s c => tlbDrop s c f) s) := by
  induction cs with
  | nil => exact fun s => ⟨rfl, fun _ _ => rfl, fun _ => rfl⟩
  | cons c cs ih =>
    intro s
    obtain ⟨rest, others, core⟩ := ih (tlbDrop s c f)
    have same : (tlbDrop s c f).cpu (.core c) = withoutTlb f (s.cpu (.core c)) := State.cpu_setCpu_same _ _ _
    refine ⟨congrArg (fun u : State => { u with cpus := s.cpus }) rest, fun q hq => ?_, fun c' => ?_⟩
    · rw [List.foldl_cons, others q hq]
      exact State.cpu_setCpu_ne _ _ (hq c)
    · rw [List.foldl_cons, core c']
      by_cases h : c' = c
      · subst h
        rw [same, withoutTlb_twice, ite_self, if_pos List.mem_cons_self]
      · have other : (tlbDrop s c f).cpu (.core c') = s.cpu (.core c') := State.cpu_setCpu_ne _ _ (by simpa using h)
        simp only [other, List.mem_cons, h, false_or]

theorem TlbsLost.plain {f : TlbEntry → Bool} {cs : List (Fin 16)} {s t : State} {c : Fin 16} {pc : Word}
    (h : TlbsLost f cs s t) (hp : Plain (.core c) s pc) : Plain (.core c) t pc := by
  have hc := h.core c
  have flds : t.flds = s.flds := by
    have e := congrArg State.flds h.rest
    exact e
  constructor
  case count =>
    have count := hp.count
    unfold setElems at count ⊢
    rwa [flds]
  all_goals
    rw [hc]
  case loop => split <;> exact hp.loop
  case ie => split <;> exact hp.ie
  case ipl => split <;> exact hp.ipl
  case step => split <;> exact hp.step
  case rest => split <;> exact hp.rest

theorem mem_allCores (c : Fin 16) : c ∈ allCores := by revert c; decide

/-- A TLBI may reach this core: it is meant for all, or is this core's own. -/
theorem mem_tlbiCores {c c' : Fin 16} {all : Bool} : c' ∈ (if all then allCores else [c]) ↔ all = true ∨ c' = c := by
  cases all <;> simp [mem_allCores]

/-- The instruction removes from the TLBs of core `c`, or of all cores, the entries of the core's partition, or of every
partition at the machine level, that satisfy `f`; but for the pc it changes nothing else. -/
def DropsTlb (i : Instr) (c : Fin 16) (s : State) (all : Bool) (f : TlbEntry → Bool) : Prop :=
  let k := s.cpu (.core c)
  Gives i s fun t => { t with cpus := s.cpus } = s ∧ (∀ q, (∀ c', q ≠ .core c') → t.cpu q = s.cpu q) ∧
    ∀ c' : Fin 16, let k' := s.cpu (.core c')
      let keep := fun ts : List TlbEntry => if all = true ∨ c' = c then ts.filter fun e =>
        !((k.st.ml || e.part.toNat == k.partition.toNat % 64) && f e) else ts
      t.cpu (.core c') = { k' with tlbI := keep k'.tlbI, tlbD := keep k'.tlbD, tlb2 := keep k'.tlb2,
                                   pc := if c' = c then k.pc + 4 else k'.pc }

section
variable {i : Instr} {p : Proc} {c : Fin 16} {s : State} {a b : RegNo} {all : Bool} {f : Word → Word → TlbEntry → Bool}

/-- A TLBI at ring 0, whose entries `f'` names. -/
theorem tlbi_drops {f' : TlbEntry → Bool} (he : exec i s = nextOf (tlbi (.core c) a b all f s)) (h : Calm (.core c) s)
    (hr : ringOf (s.cpu (.core c)) = 0) (hf : f (s.g (.core c) a) (s.g (.core c) b) = f') : DropsTlb i c s all f' := by
  subst hf
  obtain ⟨t, run, ends⟩ := ends_done he h rfl (if_neg (not_not_intro hr)) ((tlbsLost_foldl _ _ s).plain h.plain)
  have lost := tlbsLost_foldl (fun e => ((s.cpu (.core c)).st.ml || e.part.toNat == (s.cpu (.core c)).partition.toNat % 64) &&
    f (s.g (.core c) a) (s.g (.core c) b) e) (if all then allCores else [c]) s
  refine ⟨t, run, ?_, ?_, ?_⟩
  · exact (congrArg (fun u : State => { u with cpus := s.cpus }) ends.rest).trans lost.rest
  · exact fun q hq => (ends.others q (hq c)).trans (lost.others q hq)
  · intro c'
    dsimp only
    simp only [← mem_tlbiCores]
    by_cases hc : c' = c
    · subst hc
      have mem := mem_tlbiCores (c := c') (all := all).mpr (.inr rfl)
      rw [ends.cpu, lost.core, if_pos mem, if_pos mem, if_pos mem, if_pos mem, if_pos rfl]
      rfl
    · rw [ends.others _ (by simpa using hc), lost.core]
      by_cases mem : c' ∈ (if all then allCores else [c])
      · simp only [if_pos mem, if_neg hc]; rfl
      · simp only [if_neg mem, if_neg hc]

theorem tlbi_privileged (he : exec i s = nextOf (tlbi (.core c) a b all f s)) (h : Calm (.core c) s)
    (hr : ringOf (s.cpu (.core c)) ≠ 0) : Raises i (.core c) s privileged :=
  raises_of he h (canEnter_core c s) (fun _ => if_pos hr) nofun

theorem tlbi_illegal (he : exec i s = nextOf (tlbi p a b all f s)) (h : Calm p s) (hp : ∀ c, p ≠ .core c)
    (hc : canEnter p s) : Raises i p s illegal := by
  refine raises_of he h hc (fun ha => ?_) (fun _ => rfl)
  cases p with
  | core c => exact absurd rfl (hp c)
  | infuser i => cases ha
  | caddy => cases ha

end

/-- Settles O13: each TLBI names its entries, and is privileged on a core and ILLEGAL elsewhere. -/
theorem tlbInvalidation : Obligations.TlbInvalidation := by
  intro p s a b h
  refine ⟨?_, ?_, fun hp hc i hi => ?_⟩
  · rintro c rfl hr
    refine ⟨?_, ?_, ?_, ?_, ?_, ?_, ?_, ?_⟩ <;> exact tlbi_drops rfl h hr rfl
  · rintro c rfl hr i hi
    simp only [List.mem_cons, List.not_mem_nil, or_false] at hi
    rcases hi with rfl | rfl | rfl | rfl | rfl | rfl | rfl | rfl <;> exact tlbi_privileged rfl h hr
  · simp only [List.mem_cons, List.not_mem_nil, or_false] at hi
    rcases hi with rfl | rfl | rfl | rfl | rfl | rfl | rfl | rfl <;> exact tlbi_illegal rfl h hp hc

end Sys2Proof.Machine
end

section
/-! The integer instruction family (spec 05): fences and the maintenance of caches (O12). -/

namespace Sys2Proof.Machine

/-! ### Instructions that only complete, or only wait -/

section
variable {i : Instr} {p : Proc} {s t : State} {who : Who} {body : State → IRes}

theorem goes_still (he : exec i s = nextOf (runInstr p who body s)) (h : Calm p s) (ha : who.admits p = true)
    (hb : body s = .done s) : Goes i p s (s.cpu p) ((s.cpu p).pc + 4) :=
  goes_done he h ha hb (.refl p s) rfl rfl rfl rfl rfl rfl

/-- An instruction whose own operation leaves `t` and waits. -/
theorem gives_hold {w : Wait} (he : exec i s = nextOf (runInstr p who body s)) (h : Calm p s) (ha : who.admits p = true)
    (hb : body s = .hold t w) : Gives i s fun u => OnlyCpu p t u { t.cpu p with wait := w } :=
  ⟨_, exec_of_body he h.toReady ha hb, (OnlyCpu.refl p t).setCpu _⟩

end

/-! ### Fences (05 R113, R114; 10 R224, R225) -/

theorem fenceOp_empty {p : Proc} {s : State} (h : (s.cpu p).sb = []) : fenceOp p s = .done s := if_pos (by simp [h])

theorem fenceOp_waits {p : Proc} {s : State} (h : (s.cpu p).sb ≠ []) : fenceOp p s = .hold s .stall :=
  if_neg (by simpa using h)

/-- Nothing that FENCE.C waits for is outstanding. -/
theorem fenceC_ready {k : Cpu} (h : k.sb = []) (hw : k.wslots = []) : (!k.sb.isEmpty || !k.wslots.isEmpty) = false := by
  simp [h, hw]

theorem fenceCOp_waits {p : Proc} {s : State} (h : (s.cpu p).sb ≠ [] ∨ (s.cpu p).wslots ≠ []) :
    fenceCOp p s = .hold s .fenceC := if_pos (by simpa [imp_iff_not_or] using h)

/-! ### The refusals that FENCE.C reports (10 R227) -/

/-- What a processor has recorded of refused WRITEs: how many, and the first one's address and code. -/
def refusalRecord (k : Cpu) : Nat × Word × Nat := (k.refusals, k.refAddr, k.refCode)

/-- Nothing was recorded for `p` between `s` and `t`, and nothing was cleared. -/
def SameRefusals (p : Proc) (s t : State) : Prop := refusalRecord (t.cpu p) = refusalRecord (s.cpu p)

section
variable {p : Proc} {s t u : State}

theorem SameRefusals.refl (p : Proc) (s : State) : SameRefusals p s s := rfl

theorem SameRefusals.trans (h : SameRefusals p s t) (h' : SameRefusals p t u) : SameRefusals p s u := Eq.trans h' h

theorem SameRefusals.of_cpu (h : t.cpu p = s.cpu p) : SameRefusals p s t := congrArg refusalRecord h

theorem SameRefusals.ite {b : Prop} [Decidable b] (ht : SameRefusals p s t) (hu : SameRefusals p s u) :
    SameRefusals p s (if b then t else u) := by
  split
  · exact ht
  · exact hu

theorem SameRefusals.countCore (h : SameRefusals p s t) (ev : Nat) (c : Fin 16) : SameRefusals p s (countCore t ev c) :=
  h.trans (.of_cpu (cpu_countCore t ev c p))

/-- A write of any processor that keeps what it has recorded. -/
theorem SameRefusals.setCpu (p q : Proc) (s : State) {k : Cpu} (h : refusalRecord k = refusalRecord (s.cpu q)) :
    SameRefusals p s (s.setCpu q k) := by
  by_cases e : p = q
  · subst e
    rw [SameRefusals, State.cpu_setCpu_same, h]
  · exact .of_cpu (State.cpu_setCpu_ne s k e)

end

theorem dregsFree_sameRefusals (p : Proc) (s : State) (source cls code : Nat) : SameRefusals p s (dregsFree s source cls code) :=
  .of_cpu ((dregsFree_side [] s source cls code).cpu p)

theorem superEvent_sameRefusals (p : Proc) (s : State) (code : Nat) : SameRefusals p s (superEvent s code) := by
  unfold superEvent
  generalize coreList = l
  induction l generalizing s with
  | nil => exact .refl p s
  | cons c l ih =>
    rw [List.foldl_cons]
    refine .trans ?_ (ih _)
    exact .ite (.setCpu p _ s rfl) (.refl p s)

theorem steepBegin_sameRefusals (p : Proc) (s : State) (mode step : Nat) : SameRefusals p s (steepBegin s mode step) := by
  have fault : SameRefusals p s (steepFault (steepStart s mode step false)) :=
    .trans (.of_cpu rfl) (dregsFree_sameRefusals p ((steepStart s mode step false).setF F.KT_STEEPSTAT_STATE 0 5) _ _ _)
  exact .ite fault (.of_cpu rfl)

theorem holdSafe_sameRefusals (p : Proc) (s : State) : SameRefusals p s (holdSafe s) :=
  have raised : SameRefusals p s (raiseSource (s.setB F.KT_SAFECTL_HELD 0 true) 233) :=
    .of_cpu ((raiseSource_frame _ 233).cpu p)
  have held := raised.trans (superEvent_sameRefusals p _ 5)
  .ite (.refl p s) (.ite (held.trans (steepBegin_sameRefusals p _ _ _)) held)

theorem raiseTrigger_sameRefusals (p : Proc) (s : State) (b : Nat) (level : Bool) :
    SameRefusals p s (raiseTrigger s b level) := by
  have held (t : State) (h : t.cpu p = s.cpu p) : SameRefusals p s
      (holdSafe ((dregs t 0 clsSafety (0x10 + b) (trigDetail t)).setB F.KT_SAFECTL_ARMED 0 false)) :=
    .trans (.of_cpu (((dregs_side [] t _ _ _ _).cpu p).trans h)) (holdSafe_sameRefusals p _)
  unfold raiseTrigger
  refine .ite (.refl p s) (.ite ?_ ?_) <;> exact held _ rfl

theorem enterMachine_sameRefusals (s : State) (c : Fin 16) (offset : Word) (cause sub : Nat) (mepc : Word) (ea : Option Word) :
    SameRefusals (.core c) s (enterMachine s c offset cause sub mepc ea) := by
  unfold enterMachine
  refine .countCore (.setCpu _ _ s ?_) 0x08 c
  rfl

theorem doubleFault_sameRefusals (s : State) (c : Fin 16) (e : Exc) (mepc : Word) (frame : Bool) :
    SameRefusals (.core c) s (doubleFault s c e mepc frame) :=
  ((dregsFree_sameRefusals _ s _ _ _).trans (enterMachine_sameRefusals _ c _ _ _ _ _)).trans
    (raiseTrigger_sameRefusals _ _ 2 false)

theorem reserveFrame_sameRefusals (s : State) (c : Fin 16) (b : Nat) (mepc : Word) :
    SameRefusals (.core c) s (reserveFrame s c b mepc) := by
  refine .ite (.ite (doubleFault_sameRefusals s c _ mepc true) (.setCpu _ _ s ?_)) (.setCpu _ _ s rfl)
  rw [Cpu.wr_eq]
  rfl

theorem enterBank_sameRefusals (s : State) (c : Fin 16) (cause sub : Nat) (epc : Word) (ea : Option Word) (ring : BitVec 2)
    (mask reserve : Bool) (vec : Word) : SameRefusals (.core c) s (enterBank s c cause sub epc ea ring mask reserve vec) := by
  have entered (k : Cpu) (hk : refusalRecord k = refusalRecord (s.cpu (.core c))) :
      SameRefusals (.core c) s (countCore (s.setCpu (.core c) k) 0x08 c) := .countCore (.setCpu _ _ s hk) 0x08 c
  unfold enterBank
  refine .ite ((entered _ ?_).trans (reserveFrame_sameRefusals _ c _ epc)) (entered _ ?_) <;> rfl

/-- Outside an exception, with no frame owed, the entry keeps what the exception's own effect has left recorded. -/
theorem coreExc_sameRefusals {s : State} {c : Fin 16} (e : Exc) (epc : Word) (hx : (s.cpu (.core c)).st.exl = false)
    (ho : ((s.cpu (.core c)).bank (s.cpu (.core c)).st.bank.toNat).owes = false) :
    SameRefusals (.core c) (raised s c e) (coreExc s c e epc) := by
  have frame : writeFrame s c = .ok () s := by simp [writeFrame, ho]
  simp only [coreExc, hx, frame, Bool.false_eq_true, if_false]
  exact .ite (enterMachine_sameRefusals _ c _ _ _ _ _)
    (.ite (enterMachine_sameRefusals _ c _ _ _ _ _) (enterBank_sameRefusals _ c _ _ _ _ _ _ _ _))

/-- The exception of a FENCE.C. -/
def refused (k : Cpu) : Exc := ⟨cBusError, subOf beRemote aStore k.refCode, some k.refAddr⟩

theorem raised_refused (s : State) (c : Fin 16) :
    refusalRecord ((raised s c (refused (s.cpu (.core c)))).cpu (.core c)) = (0, 0, 0) := by
  have code : subOf beRemote aStore (s.cpu (.core c)).refCode % 1024 = subOf beRemote aStore 0 := by
    simp only [subOf, beRemote, aStore]
    omega
  unfold raised
  rw [if_pos ⟨rfl, code⟩, State.cpu_setCpu_same]
  rfl

theorem fenceC_raises {c : Fin 16} {s : State} (h : Calm (.core c) s) (hs : (s.cpu (.core c)).sb = [])
    (hw : (s.cpu (.core c)).wslots = []) (hr : (s.cpu (.core c)).refusals ≠ 0) :
    Raises (.fenceC (.core c)) (.core c) s (refused (s.cpu (.core c))) :=
  raises_of rfl h (canEnter_core c s)
    (fun _ => (if_neg (by simp [fenceC_ready hs hw])).trans (if_neg hr)) (fun ha => nomatch ha)

theorem fenceC_clears {c : Fin 16} {s : State} (h : Calm (.core c) s) (hs : (s.cpu (.core c)).sb = [])
    (hw : (s.cpu (.core c)).wslots = []) (hr : (s.cpu (.core c)).refusals ≠ 0) (hx : (s.cpu (.core c)).st.exl = false)
    (ho : ((s.cpu (.core c)).bank (s.cpu (.core c)).st.bank.toNat).owes = false) :
    Gives (.fenceC (.core c)) s fun t =>
      (t.cpu (.core c)).refusals = 0 ∧ (t.cpu (.core c)).refAddr = 0 ∧ (t.cpu (.core c)).refCode = 0 := by
  refine ⟨_, fenceC_raises h hs hw hr, ?_⟩
  have cleared := Eq.trans (coreExc_sameRefusals (refused (s.cpu (.core c))) (s.cpu (.core c)).pc hx ho) (raised_refused s c)
  simpa only [takeExc, refusalRecord, Prod.mk.injEq] using cleared

/-! ### Lines of a core's caches, by address (05 R115, R116; 11 R241) -/

section
variable {i : Instr} {p : Proc} {c : Fin 16} {s s1 t : State} {a : RegNo} {imm : BitVec 16} {x : XAddr} {ea : Word}

/-- One byte lies in one line. -/
theorem segs_one (ea : Word) : segs ea 1 = [⟨ea, 1, ea⟩] := if_pos (by omega)

theorem heldPlaces_none (h : (s.cpu p).wait = .none) : heldPlaces s p = [] := by rw [heldPlaces, h]

theorem resolveSegs_one (hx : resolveP s p ea aLoad aAtomic = .ok x s1) (hk : checkPlace s1 p x 1 aLoad = none) :
    resolveSegs s p 1 aLoad aAtomic [] [⟨ea, 1, ea⟩] = .ok [.ok (x, ⟨ea, 1, ea⟩)] s1 := by
  simp only [resolveSegs, hx, hk, XRes.bind]

section
variable {go : List (XAddr × Seg) → State → IRes} (hw : (s.cpu p).wait = .none)
  (hx : resolveP s p ea aLoad aAtomic = .ok x s1) (hk : checkPlace s1 p x 1 aLoad = none)
include hw hx hk

/-- A maintenance operation on the place of one byte. -/
theorem withPlaces_one_done (hg : go [(x, ⟨ea, 1, ea⟩)] s1 = .done t) :
    withPlaces s p ea 1 aLoad aAtomic none go = .done t := by
  have found : founds [.ok (x, ⟨ea, 1, ea⟩)] = [(x, ⟨ea, 1, ea⟩)] := rfl
  unfold withPlaces
  rw [heldPlaces_none hw, segs_one, resolveSegs_one hx hk]
  simp only [firstFault, Option.filter_none, found, hg]
  cases p <;> rfl

/-- One that must wait keeps its translation. -/
theorem withPlaces_one_hold (hg : go [(x, ⟨ea, 1, ea⟩)] s1 = .hold s1 .stall) :
    withPlaces s p ea 1 aLoad aAtomic none go = .hold s1 (.placed [x] false) := by
  have found : founds [.ok (x, ⟨ea, 1, ea⟩)] = [(x, ⟨ea, 1, ea⟩)] := rfl
  unfold withPlaces
  rw [heldPlaces_none hw, segs_one, resolveSegs_one hx hk]
  simp only [firstFault, Option.filter_none, found, hg]
  cases p <;> rfl

end

/-- IFLUSH of a core whose buffer holds no store to the line. -/
theorem iflush_ends (h : Calm (.core c) s) (hx : resolveP s (.core c) (effAddr s (.core c) a imm) aLoad aAtomic = .ok x s1)
    (hk : checkPlace s1 (.core c) x 1 aLoad = none) (hb : ∀ e ∈ (s1.cpu (.core c)).sb, e.line ≠ x.place / 64)
    (hp : Plain (.core c) (leaveL1is (lineToL2 s1 c (x.place / 64)) (x.place / 64)) (s.cpu (.core c)).pc) :
    let t := leaveL1is (lineToL2 s1 c (x.place / 64)) (x.place / 64)
    Ends (.iflush (.core c) a imm) (.core c) s t (t.cpu (.core c)) ((s.cpu (.core c)).pc + 4) := by
  have clear : sbHasLine s1 (.core c) (x.place / 64) = false := by simpa [sbHasLine] using hb
  refine ends_done rfl h rfl (withPlaces_one_done h.wait hx hk ?_) hp
  simp only [List.any_cons, clear, List.any_nil, Bool.or_self, Bool.false_eq_true, if_false, List.foldl_cons, List.foldl_nil]

/-- One that waits for a store to the line. -/
theorem iflush_waits (h : Calm (.core c) s) (hx : resolveP s (.core c) (effAddr s (.core c) a imm) aLoad aAtomic = .ok x s1)
    (hk : checkPlace s1 (.core c) x 1 aLoad = none) (hb : ∃ e ∈ (s1.cpu (.core c)).sb, e.line = x.place / 64) :
    Gives (.iflush (.core c) a imm) s fun t =>
      OnlyCpu (.core c) s1 t { s1.cpu (.core c) with wait := .placed [x] false } := by
  have buffered : sbHasLine s1 (.core c) (x.place / 64) = true := by simpa [sbHasLine] using hb
  refine gives_hold rfl h rfl (withPlaces_one_hold h.wait hx hk ?_)
  simp only [List.any_cons, buffered, Bool.true_or, if_true]

end

section
variable {i : Instr} {c : Fin 16} {s s1 t : State} {a : RegNo} {imm : BitVec 16} {x : XAddr} {clean inval : Bool}

/-- A CACHE operation by address is for a ring that may do it. -/
theorem cacheAddr_allowed (hr : inval = true → ringOf (s.cpu (.core c)) = 0) :
    ¬ (inval && ringOf (s.cpu (.core c)) != 0) = true := by
  cases inval with
  | false => simp
  | true => simp [hr]

/-- On a page of a Device type it has no effect. -/
theorem cacheAddr_device (he : exec i s = nextOf (cacheAddr (.core c) a imm clean inval s)) (h : Calm (.core c) s)
    (hr : inval = true → ringOf (s.cpu (.core c)) = 0)
    (hx : resolveP s (.core c) (effAddr s (.core c) a imm) aLoad aAtomic = .ok x s1) (hd : isDevice x.rtype = true)
    (hp : Plain (.core c) s1 (s.cpu (.core c)).pc) :
    Ends i (.core c) s s1 (s1.cpu (.core c)) ((s.cpu (.core c)).pc + 4) := by
  refine ends_done he h rfl ((if_neg (cacheAddr_allowed hr)).trans ?_) hp
  simp only [hx, XRes.then, hd, if_true]

/-- What the operation does to the line of a place, its gates open: it is written back where the L3 may hold it, and
discarded, as the operation names. -/
def maintained (x : XAddr) (clean inval : Bool) (t : State) : State :=
  let line := x.place / 64
  let t := if clean && l3Holds line && isLocal x.place then cleanLine t line else t
  if inval then discardLine t line else t

theorem cacheAddr_ends (he : exec i s = nextOf (cacheAddr (.core c) a imm clean inval s)) (h : Calm (.core c) s)
    (hr : inval = true → ringOf (s.cpu (.core c)) = 0)
    (hx : resolveP s (.core c) (effAddr s (.core c) a imm) aLoad aAtomic = .ok x s1)
    (hk : checkPlace s1 (.core c) x 1 aLoad = none) (hd : isDevice x.rtype = false)
    (hg : cacheGate s1 c x clean = .ok () t) (hp : Plain (.core c) (maintained x clean inval t) (s.cpu (.core c)).pc) :
    let u := maintained x clean inval t
    Ends i (.core c) s u (u.cpu (.core c)) ((s.cpu (.core c)).pc + 4) := by
  refine ends_done he h rfl ((if_neg (cacheAddr_allowed hr)).trans ?_) hp
  simp only [hx, XRes.then, hd, hk, hg, Res.toX, Bool.false_eq_true, if_false]
  rfl

theorem maintained_invalidate (x : XAddr) (t : State) : maintained x false true t = discardLine t (x.place / 64) := by
  simp [maintained]

theorem maintained_clean (x : XAddr) (inval : Bool) (t : State) : maintained x true inval t =
    let t := if l3Holds (x.place / 64) = true ∧ isLocal x.place = true then cleanLine t (x.place / 64) else t
    if inval then discardLine t (x.place / 64) else t := by
  simp [maintained]

/-- Invalidation is for ring 0. -/
theorem cacheAddr_privileged (he : exec i s = nextOf (cacheAddr (.core c) a imm clean true s)) (h : Calm (.core c) s)
    (hr : ringOf (s.cpu (.core c)) ≠ 0) : Raises i (.core c) s privileged :=
  raises_of he h (canEnter_core c s) (fun _ => if_pos (by simp [hr])) (fun ha => nomatch ha)

/-! ### Lines by set and way (05 R116; 11 R239, R240) -/

theorem cacheSw_ends {id : CacheId} {set : Nat} {ways : List Nat} (he : exec i s = nextOf (cacheSw (.core c) a clean inval s))
    (h : Calm (.core c) s) (hr : ringOf (s.cpu (.core c)) = 0) (hw : setWay c (s.g (.core c) a).toNat = some (id, set, ways))
    (hg : setWayGate s c id set = .ok () s1)
    (hp : Plain (.core c) (setWayOps s1 c id set ways clean inval) (s.cpu (.core c)).pc) :
    let t := setWayOps s1 c id set ways clean inval
    Ends i (.core c) s t (t.cpu (.core c)) ((s.cpu (.core c)).pc + 4) := by
  refine ends_done he h rfl ((if_neg (not_not_intro hr)).trans ?_) hp
  simp only [cacheSetWay, hw, hg, XRes.then]

theorem cacheSw_misses (he : exec i s = nextOf (cacheSw (.core c) a clean inval s)) (h : Calm (.core c) s)
    (hr : ringOf (s.cpu (.core c)) = 0) (hw : setWay c (s.g (.core c) a).toNat = none) :
    Raises i (.core c) s (busError beNoTarget aAtomic (s.g (.core c) a)) := by
  refine raises_of he h (canEnter_core c s) (fun _ => (if_neg (not_not_intro hr)).trans ?_) (fun ha => nomatch ha)
  simp only [cacheSetWay, hw, XRes.then]
  rfl

theorem cacheSw_privileged (he : exec i s = nextOf (cacheSw (.core c) a clean inval s)) (h : Calm (.core c) s)
    (hr : ringOf (s.cpu (.core c)) ≠ 0) : Raises i (.core c) s privileged :=
  raises_of he h (canEnter_core c s) (fun _ => if_pos hr) (fun ha => nomatch ha)

end

/-- On an Infuser and the Caddy a cache instruction is a FENCE, here with the store buffer empty. -/
theorem cacheFence_still {i : Instr} {p : Proc} {s : State} {body : State → IRes}
    (he : exec i s = nextOf (runInstr p .all body s)) (h : Calm p s) (hs : (s.cpu p).sb = []) (hb : body s = fenceOp p s) :
    Goes i p s (s.cpu p) ((s.cpu p).pc + 4) :=
  goes_still he h (admits_all p) (hb.trans (fenceOp_empty hs))

/-- Settles O12: each clause is the lemma about its instruction. -/
theorem fencesAndMaintenance : Obligations.FencesAndMaintenance := by
  intro p s s1 x a imm h
  refine ⟨fun hs => goes_still rfl h (admits_all p) (fenceOp_empty hs),
    fun hs => gives_hold rfl h (admits_all p) (fenceOp_waits hs),
    fun hs hw hr => goes_still rfl h (admits_all p) ((if_neg (by simp [fenceC_ready hs hw])).trans (if_pos hr)),
    fun hb => gives_hold rfl h (admits_all p) (fenceCOp_waits hb), ?_, ?_, ?_, ?_, ?_, ?_⟩
  · rintro c rfl hs hw hr
    exact ⟨fenceC_raises h hs hw hr, fenceC_clears h hs hw hr⟩
  · intro hp hs
    cases p with
    | core c => exact absurd rfl (hp c)
    | infuser j => refine ⟨?_, ?_, ?_, ?_, ?_, ?_, ?_⟩ <;> exact cacheFence_still rfl h hs rfl
    | caddy => refine ⟨?_, ?_, ?_, ?_, ?_, ?_, ?_⟩ <;> exact cacheFence_still rfl h hs rfl
  · rintro c rfl hx hk
    refine ⟨iflush_ends h hx hk, iflush_waits h hx hk, fun hd t => ⟨fun hg => ⟨?_, fun hr => ?_⟩, fun hg hr => ?_⟩⟩
    · have ends := cacheAddr_ends (i := .cacheC (.core c) a imm) (clean := true) (inval := false) rfl h nofun hx hk hd hg
      rwa [maintained_clean] at ends
    · have ends := cacheAddr_ends (i := .cacheCi (.core c) a imm) (clean := true) (inval := true) rfl h (fun _ => hr) hx hk hd hg
      rwa [maintained_clean] at ends
    · have ends := cacheAddr_ends (i := .cacheI (.core c) a imm) (clean := false) (inval := true) rfl h (fun _ => hr) hx hk hd hg
      rwa [maintained_invalidate] at ends
  · rintro c rfl hx hd
    exact ⟨cacheAddr_device rfl h nofun hx hd, fun hr =>
      ⟨cacheAddr_device rfl h (fun _ => hr) hx hd, cacheAddr_device rfl h (fun _ => hr) hx hd⟩⟩
  · rintro c rfl hr
    exact ⟨fun _ _ _ hw hg => cacheSw_ends rfl h hr hw hg, fun _ _ _ hw hg => cacheSw_ends rfl h hr hw hg,
      fun _ _ _ hw hg => cacheSw_ends rfl h hr hw hg, cacheSw_misses rfl h hr, cacheSw_misses rfl h hr,
      cacheSw_misses rfl h hr⟩
  · rintro c rfl hr i hi
    simp only [List.mem_cons, List.not_mem_nil, or_false] at hi
    rcases hi with rfl | rfl | rfl | rfl | rfl
    · exact cacheAddr_privileged rfl h hr
    · exact cacheAddr_privileged rfl h hr
    all_goals exact cacheSw_privileged rfl h hr

end Sys2Proof.Machine
end

section
/-! The integer instruction family (spec 05): waits, packet queues, and the timeouts of Remote accesses (O20). -/

namespace Sys2Proof.Machine

/-! ### WAIT and POUR.WAIT (05 R121, R122) -/

theorem edwCheckin_cpus (s : State) (n : Nat) : (edwCheckin s n).cpus = s.cpus := by
  have late (t : State) : (t.bumpF F.KT_EDWSTAT_LATECNT 0).cpus = t.cpus :=
    (bumpF_side (l := [F.KT_EDWSTAT_LATECNT]) t 0 rfl).cpus
  unfold edwCheckin
  dsimp only
  split
  · rfl
  · split
    · rfl
    · exact late _

/-- A check-in with the epoch-deadline watchdog leaves the processors alone. -/
theorem edwPourWait_cpus (s : State) (c : Nat) : (edwPourWait s c).cpus = s.cpus := by
  unfold edwPourWait
  generalize List.range 8 = l
  induction l generalizing s with
  | nil => rfl
  | cons n l ih =>
    rw [List.foldl_cons, ih]
    split
    · exact edwCheckin_cpus s n
    · rfl

section
variable {c : Fin 16} {s : State} {d a : RegNo} (h : Calm (.core c) s)
include h

theorem wait_writes (hr : ringOf (s.cpu (.core c)) = 0) (hw : wakeCond s c = true) :
    Writes (.wait (.core c) d) (.core c) s d 2 :=
  writes_of rfl h rfl ((if_neg (not_not_intro hr)).trans (if_pos hw))

theorem wait_privileged (hr : ringOf (s.cpu (.core c)) ≠ 0) : Raises (.wait (.core c) d) (.core c) s privileged :=
  raises_of rfl h (canEnter_core c s) (fun _ => if_pos hr) (fun ha => nomatch ha)

theorem pourWait_writes (ha : (s.g (.core c) a).toNat ≤ (s.cpu (.core c)).epochNo.toNat) :
    Writes (.pourWait (.core c) d a) (.core c) s d (s.cpu (.core c)).epochNo :=
  writes_of rfl h rfl (if_pos ha)

/-- A POUR.WAIT for a later epoch waits, wherever its check-in counts. -/
theorem pourWait_waits (ha : (s.cpu (.core c)).epochNo.toNat < (s.g (.core c) a).toNat) :
    Gives (.pourWait (.core c) d a) s fun t =>
      (t.cpu (.core c)).wait = .pour d (s.g (.core c) a) ∧ (t.cpu (.core c)).pc = (s.cpu (.core c)).pc := by
  obtain ⟨t, run, only⟩ := gives_hold (i := .pourWait (.core c) d a) rfl h rfl (if_neg (Nat.not_le.mpr ha))
  have same : (edwPourWait s c.val).cpu (.core c) = s.cpu (.core c) := by rw [State.cpu, edwPourWait_cpus, State.cpu]
  refine ⟨t, run, ?_⟩
  dsimp only
  rw [only.cpu, same]
  exact ⟨rfl, rfl⟩

end

/-! ### SEND (05 R118; 13 R294) -/

theorem OnlyCpu.router {p : Proc} {s t : State} {k : Cpu} (h : OnlyCpu p s t k) : t.router = s.router := by
  have e := congrArg State.router h.rest
  exact e

/-- `t` with one more entry in its send queue `q`. -/
def withSend (t : State) (q : Nat) (e : SqEntry) : State :=
  { t with router := { t.router with sq := mset [] t.router.sq q (mget [] t.router.sq q ++ [e]) } }

/-- A SEND to queue `q` that the queue admits and whose block can be read: it is `n` bytes of payload in the pieces `ps`, and
reading it has left `s3`. -/
structure SendsBlock (c : Fin 16) (s s3 : State) (a b : RegNo) (n : Nat) (ps : List (Nat × Nat)) : Prop where
  calm : Calm (.core c) s
  admitted : queueDenied s c (s.g (.core c) b).toNat F.NG_SQCFG_EN F.NG_SQCFG_PART F.NG_SQCFG_MINRING = false
  aligned : (s.g (.core c) a).toNat % 32 = 0
  drained : (s.cpu (.core c)).sb = []
  block : ∃ x s1 s2, blockPlace s c (s.g (.core c) a) = .ok x s1 ∧ blockPayload s1 c x (s.g (.core c) a) = .ok n s2 ∧
    blockPieces s2 c (s.g (.core c) a) x (32 + n) = .ok ps s3
  plain : Plain (.core c) s3 (s.cpu (.core c)).pc

theorem send_denied {c : Fin 16} {s : State} {d a b : RegNo} (h : Calm (.core c) s)
    (hq : queueDenied s c (s.g (.core c) b).toNat F.NG_SQCFG_EN F.NG_SQCFG_PART F.NG_SQCFG_MINRING = true) :
    Raises (.send (.core c) d a b) (.core c) s (queueExc (s.g (.core c) a)) :=
  raises_of rfl h (canEnter_core c s) (fun _ => if_pos hq) (fun ha => nomatch ha)

section
variable {c : Fin 16} {s s3 : State} {d a b : RegNo} {n : Nat} {ps : List (Nat × Nat)} (h : SendsBlock c s s3 a b n ps)
include h

/-- The block's length and the room of the queue decide. -/
theorem SendsBlock.sendOp : sendOp c d a b s =
    if 4096 < n then .done (s3.setG (.core c) d 3)
    else if 2 ^ min (s3.fl F.NG_SQCFG_DEPTH (s.g (.core c) b).toNat) 8 ≤ (mget [] s3.router.sq (s.g (.core c) b).toNat).length
      then .done (s3.setG (.core c) d 1)
      else .done ((withSend s3 (s.g (.core c) b).toNat ⟨ps, c⟩).setG (.core c) d 0) := by
  obtain ⟨x, s1, s2, place, payload, pieces⟩ := h.block
  unfold Machine.sendOp
  simp only [h.admitted, Bool.false_eq_true, if_false, h.aligned, ne_eq, not_true_eq_false, h.drained, List.isEmpty_nil,
    Bool.not_true, place, payload, pieces, XRes.then]
  rfl

/-- A SEND that leaves no entry tells why in gd. -/
theorem SendsBlock.tells {v : Word} (hb : Machine.sendOp c d a b s = .done (s3.setG (.core c) d v)) :
    Ends (.send (.core c) d a b) (.core c) s s3
      ((s3.cpu (.core c)).wr (bankInUse (.core c) (s3.cpu (.core c))) d v) ((s.cpu (.core c)).pc + 4) :=
  (ends_done rfl h.calm rfl hb (h.plain.setG d v)).of ((OnlyCpu.refl _ s3).setG d v)

theorem SendsBlock.tooLong (hn : 4096 < n) : Ends (.send (.core c) d a b) (.core c) s s3
    ((s3.cpu (.core c)).wr (bankInUse (.core c) (s3.cpu (.core c))) d 3) ((s.cpu (.core c)).pc + 4) :=
  h.tells (h.sendOp.trans (if_pos hn))

theorem SendsBlock.full (hn : n ≤ 4096) (hr : 2 ^ min (s3.fl F.NG_SQCFG_DEPTH (s.g (.core c) b).toNat) 8 ≤
    (mget [] s3.router.sq (s.g (.core c) b).toNat).length) : Ends (.send (.core c) d a b) (.core c) s s3
    ((s3.cpu (.core c)).wr (bankInUse (.core c) (s3.cpu (.core c))) d 1) ((s.cpu (.core c)).pc + 4) :=
  h.tells (h.sendOp.trans ((if_neg (Nat.not_lt.mpr hn)).trans (if_pos hr)))

/-- A SEND to a free entry takes it. -/
theorem SendsBlock.taken (hn : n ≤ 4096) (hr : (mget [] s3.router.sq (s.g (.core c) b).toNat).length <
    2 ^ min (s3.fl F.NG_SQCFG_DEPTH (s.g (.core c) b).toNat) 8) : Gives (.send (.core c) d a b) s fun t =>
    t.cpu (.core c) = { (s3.cpu (.core c)).wr (bankInUse (.core c) (s3.cpu (.core c))) d 0 with
                        pc := (s.cpu (.core c)).pc + 4 } ∧ t.mem = s3.mem ∧ t.flds = s3.flds ∧
    mget [] t.router.sq (s.g (.core c) b).toNat = mget [] s3.router.sq (s.g (.core c) b).toNat ++ [⟨ps, c⟩] := by
  have plain : Plain (.core c) (withSend s3 (s.g (.core c) b).toNat ⟨ps, c⟩) (s.cpu (.core c)).pc :=
    ⟨h.plain.loop, h.plain.ie, h.plain.ipl, h.plain.step, h.plain.count, h.plain.rest⟩
  obtain ⟨t, run, only⟩ := (ends_done (i := .send (.core c) d a b) rfl h.calm rfl
    (h.sendOp.trans ((if_neg (Nat.not_lt.mpr hn)).trans (if_neg (Nat.not_le.mpr hr)))) (plain.setG d 0)).of
    ((OnlyCpu.refl _ _).setG d 0)
  refine ⟨t, run, only.cpu, only.mem, only.flds, ?_⟩
  rw [only.router]
  exact mget_mset_same _ _ _ _

end

/-! ### RECV (05 R120; 13 R297) -/

/-- The completion of an instruction that leaves its processor as one at which nothing acts: counting apart, only the pc
moves, whatever counts. -/
theorem retire_frame {p : Proc} {s y : State} {pc : Word} (npc : Word) (h : Plain p y pc) (hk : s.cpu p = y.cpu p) :
    IcFrame countField (s.setCpu p { s.cpu p with pc := npc }) (retire s p pc npc false) := by
  obtain ⟨loop, hie, hipl, hstep, -, hwait⟩ := h
  rw [← hk] at loop hie hipl hstep hwait
  have waits : ({ s.cpu p with pc := npc, wait := .none } : Cpu) = { s.cpu p with pc := npc } := by rw [← hwait]
  have counted := countDone_frame (s.setCpu p { s.cpu p with pc := npc }) p
  simp only [retire, loopEnd_none _ _ _ loop, Bool.false_eq_true, if_false, clearPending_none hie hipl]
  rwa [waits, debugStep_unarmed (by rw [counted.cpu, State.cpu_setCpu_same]; exact hstep)]

theorem IcFrame.router {k : Fld → Bool} {s t : State} (h : IcFrame k s t) : t.router = s.router := by
  have e := congrArg State.router h.rest
  exact e

theorem rqLine_frame (s : State) (q : Nat) : IcFrame icField s (rqLine s q) := setLine_frame s _ _

/-- A RECV with ga in hand releases the oldest slot of queue `q` that it returned: ga names it. -/
def releases (s : State) (q : Nat) (ga : Word) : Bool :=
  ga != 0xFFFFFFFFFFFFFFFF && (mget {} s.router.rq q).returned != 0 && ga.toNat == oldestSlot s q

/-- A receive ring with its oldest returned slot released, or as it is. -/
def releaseSlot (r : RxRing) (frees : Bool) : RxRing :=
  if frees then { r with lens := r.lens.drop 1, returned := r.returned - 1 } else r

/-- The slot of a ring of `n` that RECV returns next, where it is filled. -/
def nextSlot (r : RxRing) (n : Nat) : Nat := (r.next + n - r.lens.length % n + r.returned) % n

/-- What RECV tells of that slot, and the ring with the slot returned. -/
def returnSlot (r : RxRing) (n : Nat) : Nat × RxRing :=
  match r.lens[r.returned]? with
  | some len => (nextSlot r n % 2 ^ 16 + len % 2 ^ 13 * 2 ^ 32, { r with returned := r.returned + 1 })
  | none => (2 ^ 63, r)

theorem returnSlot_filled {r : RxRing} {len : Nat} (h : r.lens[r.returned]? = some len) (n : Nat) :
    (returnSlot r n).1 = nextSlot r n % 2 ^ 16 + len % 2 ^ 13 * 2 ^ 32 := by rw [returnSlot, h]

theorem returnSlot_empty {r : RxRing} (h : r.lens[r.returned]? = none) (n : Nat) : (returnSlot r n).1 = 2 ^ 63 := by
  rw [returnSlot, h]

theorem returnSlot_le (r : RxRing) (n : Nat) : (returnSlot r n).1 ≤ 2 ^ 63 := by
  unfold returnSlot
  split <;> simp only <;> omega

/-- Returning a slot fills and frees none. -/
theorem returnSlot_lens (r : RxRing) (n : Nat) : (returnSlot r n).2.lens = r.lens := by
  unfold returnSlot
  split <;> rfl

/-- The receive ring `q` as RECV sees it once ga has released what it names. -/
def ringSeen (s : State) (q : Nat) (ga : Word) : RxRing := releaseSlot (mget {} s.router.rq q) (releases s q ga)

theorem ringSeen_next (s : State) (q : Nat) (ga : Word) : (ringSeen s q ga).next = (mget {} s.router.rq q).next := by
  unfold ringSeen releaseSlot
  split <;> rfl

theorem ringSeen_lens (s : State) (q : Nat) (ga : Word) : (ringSeen s q ga).lens =
    if releases s q ga = true then (mget {} s.router.rq q).lens.drop 1 else (mget {} s.router.rq q).lens :=
  apply_ite RxRing.lens _ _ _

theorem ringSeen_returned (s : State) (q : Nat) (ga : Word) : (ringSeen s q ga).returned =
    if releases s q ga = true then (mget {} s.router.rq q).returned - 1 else (mget {} s.router.rq q).returned :=
  apply_ite RxRing.returned _ _ _

/-- The word that RECV writes: what it tells of a slot, that ga released nothing, and an overrun. -/
def recvWord (s : State) (q : Nat) (ga : Word) : Nat :=
  (returnSlot (ringSeen s q ga) (ringSlots (s.fl F.NG_RQCFG_SLOTS q))).1 +
    b2n (ga != 0xFFFFFFFFFFFFFFFF && !releases s q ga) * 2 ^ 61 + b2n (s.fb F.NG_RQCFG_OVERRUN q) * 2 ^ 62

theorem b2n_le (b : Bool) : b2n b ≤ 1 := by cases b <;> decide

theorem recvWord_lt (s : State) (q : Nat) (ga : Word) : recvWord s q ga < 2 ^ 64 := by
  have slot := returnSlot_le (ringSeen s q ga) (ringSlots (s.fl F.NG_RQCFG_SLOTS q))
  have h1 := b2n_le (ga != 0xFFFFFFFFFFFFFFFF && !releases s q ga)
  have h2 := b2n_le (s.fb F.NG_RQCFG_OVERRUN q)
  unfold recvWord
  omega

section
variable {s : State} {q : Nat} {ga : Word} {lens : List Nat} {returned : Nat} (hl : (ringSeen s q ga).lens = lens)
  (hr : (ringSeen s q ga).returned = returned)
include hl hr

/-- The word of a filled slot, whose number counts from the ring's oldest. -/
theorem recvWord_filled {len : Nat} (h : lens[returned]? = some len) :
    let n := ringSlots (s.fl F.NG_RQCFG_SLOTS q)
    recvWord s q ga = ((mget {} s.router.rq q).next + n - lens.length % n + returned) % n % 2 ^ 16 + len % 2 ^ 13 * 2 ^ 32 +
      (b2n (ga != 0xFFFFFFFFFFFFFFFF && !releases s q ga) * 2 ^ 61 + b2n (s.fb F.NG_RQCFG_OVERRUN q) * 2 ^ 62) := by
  subst hl hr
  rw [recvWord, returnSlot_filled h, nextSlot, ringSeen_next, Nat.add_assoc]

/-- The word that tells of no filled slot. -/
theorem recvWord_empty (h : lens[returned]? = none) : recvWord s q ga =
    2 ^ 63 + (b2n (ga != 0xFFFFFFFFFFFFFFFF && !releases s q ga) * 2 ^ 61 + b2n (s.fb F.NG_RQCFG_OVERRUN q) * 2 ^ 62) := by
  subst hl hr
  rw [recvWord, returnSlot_empty h, Nat.add_assoc]

end

/-- What the RECV of a core leaves before the queue's source follows: gd, the ring, and no overrun. -/
def receives (s : State) (c : Fin 16) (d : RegNo) (q : Nat) (ga : Word) : State :=
  { (s.setB F.NG_RQCFG_OVERRUN q false).setG (.core c) d (BitVec.ofNat 64 (recvWord s q ga)) with
    router := { s.router with
      rq := mset {} s.router.rq q (returnSlot (ringSeen s q ga) (ringSlots (s.fl F.NG_RQCFG_SLOTS q))).2 } }

theorem recv_denied {c : Fin 16} {s : State} {d a b : RegNo} (h : Calm (.core c) s)
    (hq : queueDenied s c (s.g (.core c) b).toNat F.NG_RQCFG_EN F.NG_RQCFG_PART F.NG_RQCFG_MINRING = true) :
    Raises (.recv (.core c) d a b) (.core c) s (queueExc (s.g (.core c) a)) :=
  raises_of rfl h (canEnter_core c s) (fun _ => if_pos hq) (fun ha => nomatch ha)

theorem receives_lens (s : State) (c : Fin 16) (d : RegNo) (q : Nat) (ga : Word) :
    (mget {} (receives s c d q ga).router.rq q).lens = (ringSeen s q ga).lens := by
  rw [receives, mget_mset_same, returnSlot_lens]

theorem recvOp_receives {c : Fin 16} {s : State} {d a b : RegNo}
    (hq : queueDenied s c (s.g (.core c) b).toNat F.NG_RQCFG_EN F.NG_RQCFG_PART F.NG_RQCFG_MINRING = false)
    (hs : releases s (s.g (.core c) b).toNat (s.g (.core c) a) = true → (s.cpu (.core c)).sb = []) :
    recvOp c d a b s =
      .done (rqLine (receives s c d (s.g (.core c) b).toNat (s.g (.core c) a)) (s.g (.core c) b).toNat) := by
  have drained : ¬ (releases s (s.g (.core c) b).toNat (s.g (.core c) a) && !(s.cpu (.core c)).sb.isEmpty) = true := by
    simpa using hs
  exact (if_neg (by simp [hq])).trans (if_neg drained)

/-- A field outside the interrupt controller's and the counters' reads as before. -/
theorem IcFrame.fb {k : Fld → Bool} {s t : State} (h : IcFrame k s t) (f : Fld) (i : Nat) (hf : k f = false) :
    t.fb f i = s.fb f i := by rw [State.fb, State.fb, h.fl f i hf]

/-- A RECV that the queue admits, and that has no stores to wait for. -/
theorem recv_gives {c : Fin 16} {s : State} {d a b : RegNo} (h : Calm (.core c) s)
    (hq : queueDenied s c (s.g (.core c) b).toNat F.NG_RQCFG_EN F.NG_RQCFG_PART F.NG_RQCFG_MINRING = false)
    (hs : releases s (s.g (.core c) b).toNat (s.g (.core c) a) = true → (s.cpu (.core c)).sb = []) :
    let q := (s.g (.core c) b).toNat
    let ga := s.g (.core c) a
    Gives (.recv (.core c) d a b) s fun t => t.fb F.NG_RQCFG_OVERRUN q = false ∧
      (t.cpu (.core c)).pc = (s.cpu (.core c)).pc + 4 ∧ (mget {} t.router.rq q).lens = (ringSeen s q ga).lens ∧
      t.mem = s.mem ∧ (d ≠ 31 → (t.g (.core c) d).toNat = recvWord s q ga) := by
  intro q ga
  let v := BitVec.ofNat 64 (recvWord s q ga)
  have line := rqLine_frame (receives s c d q ga) q
  have core : (rqLine (receives s c d q ga) q).cpu (.core c) = (s.setG (.core c) d v).cpu (.core c) := line.cpu _
  have done := retire_frame ((s.cpu (.core c)).pc + 4) (h.plain.setG d v) core
  have hcpu := done.cpu (.core c)
  rw [State.cpu_setCpu_same, core] at hcpu
  have run : exec (.recv (.core c) d a b) s = .next (retire (rqLine (receives s c d q ga) q) (.core c) (s.cpu (.core c)).pc
      ((s.cpu (.core c)).pc + 4) false) :=
    exec_of_body (p := .core c) (r := .done (rqLine (receives s c d q ga) q)) rfl h.toReady rfl (recvOp_receives hq hs)
  generalize retire _ _ _ _ _ = t at done hcpu run
  refine ⟨t, run, ?_, congrArg Cpu.pc hcpu, ?_, ?_, fun hd => ?_⟩
  · rw [done.fb _ q rfl, State.fb_setCpu, line.fb _ q rfl]
    exact State.fb_setB_same s F.NG_RQCFG_OVERRUN q false (by decide)
  · rw [done.router, State.setCpu_router, line.router]
    exact receives_lens s c d q ga
  · rw [done.mem, State.setCpu_mem, line.mem]
    rfl
  · have word : t.g (.core c) d = (s.setG (.core c) d v).g (.core c) d := by
      rw [State.g, hcpu]
      rfl
    rw [word, s.g_setG_same _ v hd, BitVec.toNat_ofNat, Nat.mod_eq_of_lt (recvWord_lt s q ga)]

/-! ### The timeouts of Remote accesses (08 R193; 10 R226, R227) -/

section
variable {c : Fin 16} {s : State} {r : RTag} {x : WSlot}

/-- The timeout of a READ that was abandoned frees its tag. -/
theorem readTimeout_frees {g : Fin 8} (hr : (s.cpu (.core c)).rtags.find? (fun r => r.tag == g.val) = some r)
    (ha : r.abandoned = true) : Gives (.remoteReadTagTimeout c g) s fun t => OnlyCpu (.core c) s t
      { s.cpu (.core c) with rtags := (s.cpu (.core c)).rtags.filter fun r => r.tag != g.val } := by
  have freed : readFailed s c g.val rLate = freeTag s c g.val := by simp only [readFailed, hr, ha, if_true]
  exact ⟨_, congrArg Host.Outcome.next freed, (OnlyCpu.refl _ s).setCpu _⟩

/-- That of a READ for which a load waits raises REMOTE_NACK at the load. -/
theorem readTimeout_raises {g : Fin 8} {dst : LoadDst} {ea : Word} {ps : List Piece}
    (hr : (s.cpu (.core c)).rtags.find? (fun r => r.tag == g.val) = some r) (ha : r.abandoned = false)
    (hw : (s.cpu (.core c)).wait = .remote dst ea ps) : exec (.remoteReadTagTimeout c g) s =
      .next (takeExc (abandon (freeTag s c g.val) c) (.core c) ⟨cBusError, subOf beRemote aLoad rLate, some ea⟩
        (s.cpu (.core c)).pc) := by
  refine congrArg Host.Outcome.next ?_
  simp only [readFailed, hr, ha, hw, Bool.false_eq_true, if_false]

/-- Processor `k` with one more refusal recorded; the first one's address and code are kept. -/
def withRefusal (k : Cpu) (code : Nat) (va : Word) : Cpu :=
  if k.refusals = 0 then { k with refusals := 1, refAddr := va, refCode := code } else { k with refusals := k.refusals + 1 }

theorem recordRefusal_eq (s : State) (p : Proc) (code : Nat) (va : Word) :
    recordRefusal s p code va = s.setCpu p (withRefusal (s.cpu p) code va) := (apply_ite (s.setCpu p) _ _ _).symm

/-- The timeout of a WRITE frees its slot and records a refusal. -/
theorem writeTimeout_gives {w : Fin 64} (hx : (s.cpu (.core c)).wslots.find? (fun x => x.slot == w.val) = some x) :
    Gives (.remoteWriteTimeout c w) s fun t => OnlyCpu (.core c) s t (withRefusal
      { s.cpu (.core c) with wslots := (s.cpu (.core c)).wslots.filter fun x => x.slot != w.val } rLate x.va) := by
  have ended : writeEnded s c w.val (some rLate) = recordRefusal (s.setCpu (.core c)
      { s.cpu (.core c) with wslots := (s.cpu (.core c)).wslots.filter fun x => x.slot != w.val }) (.core c) rLate x.va := by
    simp only [writeEnded, hx]
  refine ⟨_, congrArg Host.Outcome.next ended, ?_⟩
  rw [recordRefusal_eq, State.cpu_setCpu_same]
  exact ((OnlyCpu.refl _ s).setCpu _).setCpu _

end

section
variable (k : Cpu) (code : Nat) (va : Word)

theorem withRefusal_refusals : (withRefusal k code va).refusals = k.refusals + 1 := by
  unfold withRefusal
  split
  · next h => rw [h]
  · rfl

theorem withRefusal_first (h : k.refusals = 0) : (withRefusal k code va).refAddr = va := by rw [withRefusal, if_pos h]

theorem withRefusal_later (h : k.refusals ≠ 0) : (withRefusal k code va).refAddr = k.refAddr := by
  rw [withRefusal, if_neg h]

theorem withRefusal_wslots : (withRefusal k code va).wslots = k.wslots := by unfold withRefusal; split <;> rfl

theorem withRefusal_g : (withRefusal k code va).g = k.g := by unfold withRefusal; split <;> rfl

end

/-- Settles O20: each clause is the lemma about its instruction, or about its timeout. -/
theorem waitsAndQueues : Obligations.WaitsAndQueues := by
  have ones : (-1 : Word) = 0xFFFFFFFFFFFFFFFF := by decide
  refine ⟨fun c s s1 s2 s3 x n ps d a b h => ?_, fun c s g w r x => ⟨readTimeout_frees, ?_, fun hx => ?_⟩⟩
  · refine ⟨wait_writes h, wait_privileged h, pourWait_writes h, pourWait_waits h, send_denied h, ?_, recv_denied h, ?_⟩
    · intro hq ha hs place payload pieces hp
      have block : SendsBlock c s s3 a b n ps := ⟨h, hq, ha, hs, ⟨x, s1, s2, place, payload, pieces⟩, hp⟩
      exact ⟨block.tooLong, block.full, block.taken⟩
    · intro hq
      dsimp only
      rw [ones]
      intro hs
      obtain ⟨t, run, overrun, hpc, hlens, hmem, word⟩ := recv_gives (d := d) h hq hs
      have lens := ringSeen_lens s (s.g (.core c) b).toNat (s.g (.core c) a)
      have returned := ringSeen_returned s (s.g (.core c) b).toNat (s.g (.core c) a)
      exact ⟨t, run, overrun, hpc, hlens.trans lens, hmem,
        fun hd len hl => (word hd).trans (recvWord_filled lens returned hl),
        fun hd hl => (word hd).trans (recvWord_empty lens returned hl)⟩
  · exact fun hr ha dst ea ps hw => readTimeout_raises hr ha hw
  · obtain ⟨t, run, only⟩ := writeTimeout_gives hx
    refine ⟨t, run, ?_⟩
    dsimp only
    rw [only.cpu, withRefusal_wslots, withRefusal_refusals, withRefusal_g]
    exact ⟨rfl, rfl, fun hr => withRefusal_first _ _ _ (by exact hr), fun hr => withRefusal_later _ _ _ (by exact hr), rfl,
      only.mem, only.flds⟩

end Sys2Proof.Machine
end

section
/-! The encoding and timing family (spec 06): control registers (O14). -/

namespace Sys2Proof.Machine

/-! ### The number, the ring, and then the register (06 R135, 04 R80, 05 R124) -/

/-- What MFC and MTC have in common: a number that names no register is ILLEGAL, a ring that may not is RING, and `op` does
the rest. -/
def withCtl (p : Proc) (n : BitVec 12) (write : Bool) (op : Ctl → State → IRes) (s : State) : IRes :=
  match ctlFor p (s.cpu p) n.toNat with
  | none => .exc illegal s
  | some r => if !ctlAllowed p (s.cpu p) r write then .exc privileged s else op r s

section
variable {p : Proc} {s : State} {n : BitVec 12} {r : Ctl} {write : Bool} {op : Ctl → State → IRes}

theorem withCtl_unnamed (hr : ctlFor p (s.cpu p) n.toNat = none) : withCtl p n write op s = .exc illegal s := by
  rw [withCtl, hr]

theorem withCtl_denied (hr : ctlFor p (s.cpu p) n.toNat = some r) (ha : ctlAllowed p (s.cpu p) r write = false) :
    withCtl p n write op s = .exc privileged s := by
  simp only [withCtl, hr, ha, Bool.not_false, if_true]

theorem withCtl_allowed (hr : ctlFor p (s.cpu p) n.toNat = some r) (ha : ctlAllowed p (s.cpu p) r write = true) :
    withCtl p n write op s = op r s := by
  simp only [withCtl, hr, ha, Bool.not_true, Bool.false_eq_true, if_false]

/-- An instruction on a control register that its ring may not access. -/
theorem ctl_privileged {i : Instr} (he : exec i s = nextOf (runInstr p .all (withCtl p n write op) s)) (h : Calm p s)
    (hr : ctlFor p (s.cpu p) n.toNat = some r) (ha : ctlAllowed p (s.cpu p) r write = false) (hc : canEnter p s) :
    Raises i p s privileged :=
  raises_of he h hc (fun _ => withCtl_denied hr ha) (fun e => nomatch e)

end

section
variable {c : Fin 16} {k : Cpu}

/-- Off the machine level a core has every register that a number names. -/
theorem ctlFor_core (hml : k.st.ml = false) (n : Nat) : ctlFor (.core c) k n = ctlOf n := by
  simp only [ctlFor, hml]
  cases ctlOf n <;> rfl

theorem ctlAllowed_core (hml : k.st.ml = false) {r : Ctl} {write : Bool} {m : Nat} (hr : ctlRing r write = some m) :
    ctlAllowed (.core c) k r write = decide (k.st.ring.toNat ≤ m) := by
  simp only [ctlAllowed, hml, hr, Bool.false_or]

/-- Every ring reads CYCLE. -/
theorem ctlAllowed_cycle (p : Proc) (k : Cpu) : ctlAllowed p k .cycle false = true := by
  cases p with
  | core c =>
    have ring : k.st.ring.toNat ≤ 3 := Nat.le_of_lt_succ k.st.ring.isLt
    simp [ctlAllowed, ctlRing, ring]
  | infuser i => rfl
  | caddy => rfl

end

/-! ### FP registers (07 R152, R154) -/

/-- A core that may run FP instructions does so at once. -/
theorem fpFirst_ready {c : Fin 16} {s : State} (hf : fpReady c s) (body : State → IRes) : fpFirst s c body = body s := by
  obtain ⟨enabled, written⟩ := hf
  simp [fpFirst, writeFrame, enabled, written]

/-! ### MFC (05 R124) -/

/-- MFC of a register that it may read. -/
def mfcReg (p : Proc) (d : RegNo) (r : Ctl) (s : State) : IRes :=
  match p, r with
  | .core c, .fpstat => fpFirst s c fun s => .done (s.setG p d (ctlRead s p .fpstat))
  | _, .cycle => let s := passCycles s p; .done (s.setG p d (ctlRead s p .cycle))
  | _, _ => .done (s.setG p d (ctlRead s p r))

section
variable {p : Proc} {s : State} {d : RegNo} {n : BitVec 12} {r : Ctl}

theorem exec_mfc : exec (.mfc p d n) s = nextOf (runInstr p .all (withCtl p n false (mfcReg p d)) s) := rfl

theorem mfcReg_reads (hc : r ≠ .cycle) (hf : r = .fpstat → ∀ c, p = .core c → fpReady c s) :
    mfcReg p d r s = .done (s.setG p d (ctlRead s p r)) := by
  unfold mfcReg
  split
  next c => exact fpFirst_ready (hf rfl c rfl) _
  next => exact absurd rfl hc
  next => rfl

theorem mfc_writes (h : Calm p s) (hr : ctlFor p (s.cpu p) n.toNat = some r) (ha : ctlAllowed p (s.cpu p) r false = true)
    (hc : r ≠ .cycle) (hf : r = .fpstat → ∀ c, p = .core c → fpReady c s) : Writes (.mfc p d n) p s d (ctlRead s p r) :=
  writes_of exec_mfc h (admits_all p) ((withCtl_allowed hr ha).trans (mfcReg_reads hc hf))

theorem mfc_unnamed (h : Calm p s) (hr : ctlFor p (s.cpu p) n.toNat = none) (hc : canEnter p s) :
    Raises (.mfc p d n) p s illegal :=
  raises_of exec_mfc h hc (fun _ => withCtl_unnamed hr) (fun e => nomatch e)

/-- What is plain stays so when a free value is taken. -/
theorem Plain.takeFree {pc : Word} (h : Plain p s pc) : Plain p { s with free := s.free + 1 } pc :=
  ⟨h.loop, h.ie, h.ipl, h.step, h.count, h.rest⟩

/-- MFC of CYCLE writes what CYCLE has counted to. -/
theorem mfc_cycle (h : Calm p s) (hr : ctlFor p (s.cpu p) n.toNat = some .cycle) :
    let k := s.cpu p
    let v := k.cycle + BitVec.ofNat 64 (Config.freeNat s.free)
    Gives (.mfc p d n) s fun t => OnlyCpu p { s with free := s.free + 1 } t
      { ({ k with cycle := v } : Cpu).wr (bankInUse p k) d v with pc := k.pc + 4 } := by
  intro k v
  have passed : OnlyCpu p { s with free := s.free + 1 } (passCycles s p) { k with cycle := v } := (OnlyCpu.refl p _).setCpu _
  have read : ctlRead (passCycles s p) p .cycle = v := congrArg Cpu.cycle passed.cpu
  have body : withCtl p n false (mfcReg p d) s = .done ((passCycles s p).setG p d v) := by
    rw [withCtl_allowed hr (ctlAllowed_cycle _ _), ← read]
    cases p <;> rfl
  have wrote := passed.setG d v
  refine ⟨_, exec_of_body exec_mfc h.toReady (admits_all p) body, wrote.trans ?_⟩
  have done := ends_retire _ (k.pc + 4) false (wrote.plain h.plain.takeFree (Cpu.wr_lc ..) (Cpu.wr_le ..) (Cpu.wr_pendIe ..)
    (Cpu.wr_pendIpl ..) (Cpu.wr_stepBank ..) ((Cpu.wr_wait ..).trans h.wait))
  rwa [wrote.cpu] at done

end

/-! ### STATUS as MFC reads it (04) -/

/-- Every field of STATUS stands at its bits. -/
theorem statusWord_fields (st : Status) (orphan : Bool) :
    let w := (statusWord st orphan).toNat
    w % 2 = b2n st.ie ∧ w / 2 % 8 = st.ipl.toNat ∧ w / 2 ^ 4 % 2 = b2n st.exl ∧ w / 2 ^ 5 % 4 = st.ring.toNat ∧
    w / 2 ^ 7 % 2 = b2n st.ov ∧ w / 2 ^ 8 % 2 = b2n st.dz ∧ w / 2 ^ 9 % 2 = b2n st.ovt ∧ w / 2 ^ 10 % 2 = b2n st.dzt ∧
    w / 2 ^ 11 % 2 = b2n st.fpe ∧ w / 2 ^ 12 % 2 = b2n st.fpd ∧ w / 2 ^ 14 % 2 = b2n st.legacy ∧
    w / 2 ^ 15 % 2 = b2n st.ml ∧ w / 2 ^ 16 % 16 = st.bank.toNat ∧ w / 2 ^ 20 = st.live.toNat := by
  have ipl := st.ipl.isLt
  have ring := st.ring.isLt
  have bank := st.bank.isLt
  have live := st.live.isLt
  have ie := b2n_le st.ie
  have exl := b2n_le st.exl
  have ov := b2n_le st.ov
  have dz := b2n_le st.dz
  have ovt := b2n_le st.ovt
  have dzt := b2n_le st.dzt
  have fpe := b2n_le st.fpe
  have fpd := b2n_le st.fpd
  have orph := b2n_le orphan
  have legacy := b2n_le st.legacy
  have ml := b2n_le st.ml
  simp only [statusWord, BitVec.toNat_ofNat]
  omega

/-! ### MTC (04 R86, R87; 05 R124) -/

/-- MTC to a register that it may write. -/
def mtcReg (p : Proc) (a : RegNo) (r : Ctl) (s : State) : IRes :=
  let v := s.g p a
  match p, r with
  | .core c, .fpstat => fpFirst s c fun s =>
      let k := s.cpu p
      .done (fpDirty (s.setCpu p { k with fpstat := fpstatWrite k.fpstat v }) p)
  | .core _, .status => .doneKeep (s.setCpu p (statusWrite p (s.cpu p) v))
  | _, .status => .done (s.setCpu p (statusWrite p (s.cpu p) v))
  | _, _ => .done (ctlWrite s p r v)

section
variable {p : Proc} {s : State} {a : RegNo} {n : BitVec 12} {r : Ctl}

theorem exec_mtc : exec (.mtc p n a) s = nextOf (runInstr p .all (withCtl p n true (mtcReg p a)) s) := rfl

theorem mtcReg_writes (hst : r ≠ .status) (hfp : r ≠ .fpstat) : mtcReg p a r s = .done (ctlWrite s p r (s.g p a)) := by
  unfold mtcReg
  split
  next => exact absurd rfl hfp
  next => exact absurd rfl hst
  next => exact absurd rfl hst
  next => rfl

theorem mtc_ends (h : Calm p s) (hr : ctlFor p (s.cpu p) n.toNat = some r) (ha : ctlAllowed p (s.cpu p) r true = true)
    (hst : r ≠ .status) (hfp : r ≠ .fpstat) (hp : Plain p (ctlWrite s p r (s.g p a)) (s.cpu p).pc) :
    Ends (.mtc p n a) p s (ctlWrite s p r (s.g p a)) ((ctlWrite s p r (s.g p a)).cpu p) ((s.cpu p).pc + 4) :=
  ends_done exec_mtc h (admits_all p) ((withCtl_allowed hr ha).trans (mtcReg_writes hst hfp)) hp

end

/-! ### What a register reads once it has been written -/

@[simp] theorem bankInUse_setBank (p : Proc) (k : Cpu) (n : Nat) (x : Bank) : bankInUse p (k.setBank n x) = bankInUse p k :=
  bankInUse_congr rfl

/-- The check of the debug rights that follows a write of PARTITION leaves PARTITION alone (23 R473). -/
theorem recheckDebug_partition (p : Proc) (s : State) : ((recheckDebug s).cpu p).partition = (s.cpu p).partition := by
  refine foldl_keeps (fun t : State => (t.cpu p).partition) (fun t c => ?_) allCores s
  dsimp only
  split
  · rfl
  · by_cases hp : p = .core c
    · rw [hp, State.cpu_setCpu_same]
    · rw [State.cpu_setCpu_ne _ _ hp]

/-- The bits that MTC writes, of a register whose other bits read as 0 (04 R88 names their tables). -/
def writableBits : Ctl → Option Word
  | .epc | .mepc | .ls _ | .le _ => some (~~~3)
  | .gatebase => some 0xFFFFFFFFF001
  | .vecbase => some 0xFFFFFFFFF000
  | .ptroot => some 0xFFFFFF000
  | .asid => some 0xFFFF
  | .partition => some 0x3F
  | .pwrmode => some 0x3FFFFFFF
  | .lc _ | .cycle => some (.allOnes 64)
  | .status | .estat | .eaddr | .eackstat | .mvec | .mstat | .fpstat | .epochno | .dbgctl => none

theorem ctlRead_ctlWrite {r : Ctl} {m : Word} (hm : writableBits r = some m) (s : State) (p : Proc) (v : Word) :
    ctlRead (ctlWrite s p r v) p r = v &&& m := by
  cases r <;> cases hm
  case partition => exact (recheckDebug_partition p _).trans (congrArg Cpu.partition (State.cpu_setCpu_same s p _))
  case epc | mepc =>
    simp only [ctlRead, ctlWrite, State.cpu_setCpu_same, bankWrite, bankInUse_setBank, Cpu.bank_setBank_same]
  all_goals simp only [ctlRead, ctlWrite, State.cpu_setCpu_same, mget_mset_same, BitVec.and_allOnes]

/-- A register all of whose bits MTC writes. -/
theorem ctlRead_ctlWrite_all {r : Ctl} (hm : writableBits r = some (.allOnes 64)) (s : State) (p : Proc) (v : Word) :
    ctlRead (ctlWrite s p r v) p r = v :=
  (ctlRead_ctlWrite hm s p v).trans BitVec.and_allOnes

theorem ctlRead_ctlWrite_mvec (s : State) (p : Proc) (v : Word) :
    ctlRead (ctlWrite s p .mvec v) p .mvec = mvecWrite (s.cpu p).mvec v := congrArg Cpu.mvec (State.cpu_setCpu_same s p _)

/-! ### MTC to STATUS and to FPSTAT of a core -/

/-- An instruction that completes with its processor's registers changed and IE and IPL left pending. -/
theorem goes_keep {i : Instr} {p : Proc} {s : State} {k : Cpu} {who : Who} {body : State → IRes}
    (he : exec i s = nextOf (runInstr p who body s)) (h : Calm p s) (ha : who.admits p = true)
    (hb : body s = .doneKeep (s.setCpu p k)) (hl : k.lc = (s.cpu p).lc) (h0 : k.le = (s.cpu p).le)
    (h3 : k.stepBank = (s.cpu p).stepBank) (hw : k.wait = (s.cpu p).wait) : Goes i p s k ((s.cpu p).pc + 4) := by
  refine ⟨_, exec_of_body he h.toReady ha hb, ?_⟩
  have acts := (OnlyCpu.refl p s).setCpu k
  have kept : finish p (s.cpu p).pc (.doneKeep (s.setCpu p k)) =
      (s.setCpu p k).setCpu p { k with pc := (s.cpu p).pc + 4, wait := .none } := by
    rw [finish, retire_keep, acts.cpu]
    · rw [acts.cpu, hl, h0]; exact h.plain.loop
    · rw [acts.cpu, h3]; exact h.plain.step
    · exact h.plain.count
  rw [kept, ← h.wait, ← hw]
  exact acts.setCpu _

/-- STATUS with the flags that every ring writes (R86). -/
def statusFlags (st : Status) (v : Word) : Status :=
  { st with ov := v.getLsbD 7, dz := v.getLsbD 8, ovt := v.getLsbD 9, dzt := v.getLsbD 10 }

section
variable {c : Fin 16} {k : Cpu}

/-- With nothing pending, rings 1 to 3 write the flags alone. -/
theorem statusWrite_flags (hie : k.pendIe = none) (hipl : k.pendIpl = none) (hml : k.st.ml = false) (hr : k.st.ring ≠ 0)
    (v : Word) : statusWrite (.core c) k v = { k with st := statusFlags k.st v } := by
  have machine : ¬ k.st.ml = true := Bool.eq_false_iff.mp hml
  have ring : (ringOf k == 0) = false := by
    simpa [ringOf, hml, ← BitVec.toNat_inj] using hr
  have e : withPending k = k.st := by simp [withPending, hie, hipl]
  simp only [statusWrite, ring, e, Bool.false_eq_true, if_false, if_neg machine, statusFlags]
  rw [← hie, ← hipl]

theorem statusWrite_ring0 (hie : k.pendIe = none) (hipl : k.pendIpl = none) (hml : k.st.ml = false) (hr : k.st.ring = 0)
    (v : Word) : statusWrite (.core c) k v =
      { k with st := { statusFlags k.st v with fpe := v.getLsbD 11, fpd := v.getLsbD 12 },
               pendIe := some (v.getLsbD 0), pendIpl := some (v.extractLsb' 1 3) } := by
  have machine : ¬ k.st.ml = true := Bool.eq_false_iff.mp hml
  have ring : (ringOf k == 0) = true := by simp [ringOf, hr]
  have e : withPending k = k.st := by simp [withPending, hie, hipl]
  simp only [statusWrite, ring, e, if_true, if_neg machine, statusFlags]

theorem statusWrite_machine (hie : k.pendIe = none) (hipl : k.pendIpl = none) (hml : k.st.ml = true) (v : Word) :
    statusWrite (.core c) k v =
      { k with st := { statusFlags k.st v with fpe := v.getLsbD 11, fpd := v.getLsbD 12, legacy := v.getLsbD 14 },
               pendIe := some (v.getLsbD 0), pendIpl := some (v.extractLsb' 1 3) } := by
  have ring : (ringOf k == 0) = true := by simp [ringOf, hml]
  have e : withPending k = k.st := by simp [withPending, hie, hipl]
  simp only [statusWrite, ring, e, if_true, if_pos hml, statusFlags]

end

section
variable {c : Fin 16} {s : State} {a : RegNo} {n : BitVec 12}

theorem mtc_status {k : Cpu} (h : Calm (.core c) s) (hr : ctlFor (.core c) (s.cpu (.core c)) n.toNat = some .status)
    (ha : ctlAllowed (.core c) (s.cpu (.core c)) .status true = true)
    (hk : statusWrite (.core c) (s.cpu (.core c)) (s.g (.core c) a) = k) (hl : k.lc = (s.cpu (.core c)).lc)
    (h0 : k.le = (s.cpu (.core c)).le) (h3 : k.stepBank = (s.cpu (.core c)).stepBank) (hw : k.wait = (s.cpu (.core c)).wait) :
    Goes (.mtc (.core c) n a) (.core c) s k ((s.cpu (.core c)).pc + 4) :=
  goes_keep exec_mtc h (admits_all _) ((withCtl_allowed hr ha).trans (hk ▸ rfl)) hl h0 h3 hw

theorem mtc_fpstat (h : Calm (.core c) s) (hr : ctlFor (.core c) (s.cpu (.core c)) n.toNat = some .fpstat)
    (ha : ctlAllowed (.core c) (s.cpu (.core c)) .fpstat true = true) (hf : fpReady c s) :
    let k := s.cpu (.core c)
    Goes (.mtc (.core c) n a) (.core c) s
      { k with fpstat := fpstatWrite k.fpstat (s.g (.core c) a), st := { k.st with fpd := true } } (k.pc + 4) :=
  goes_done exec_mtc h (admits_all _) ((withCtl_allowed hr ha).trans (fpFirst_ready hf _))
    (((OnlyCpu.refl _ s).setCpu _).onSt fun st => { st with fpd := true }) rfl rfl rfl rfl rfl rfl

end

/-- Settles O14: each clause is the lemma about reading, or writing, the register that it names. -/
theorem controlRegisters : Obligations.ControlRegisters := by
  refine ⟨fun p s d n h => ⟨fun r => mfc_writes h, mfc_cycle h, mfc_unnamed h, fun r => ctl_privileged exec_mfc h, ?_, ?_⟩,
    fun p s a n r h hr => ⟨ctl_privileged exec_mtc h hr, fun ha => ⟨mtc_ends h hr ha, ?_, ?_, ?_⟩⟩⟩
  · intro c hp hml e he
    have listed : ctlOf e.1 = some e.2.1 ∧ ctlRing e.2.1 false = some e.2.2 := by revert e he; decide
    obtain ⟨named, ring⟩ := listed
    subst hp
    exact ⟨(ctlFor_core hml _).trans named, ctlAllowed_core hml ring⟩
  · rintro c rfl
    exact statusWord_fields _ _
  · have bits {m : Word} (hm : writableBits r = some m) := ctlRead_ctlWrite hm s p (s.g p a)
    have all (hm : writableBits r = some (.allOnes 64)) := ctlRead_ctlWrite_all hm s p (s.g p a)
    have named {r' : Ctl} : r = r' → writableBits r = writableBits r' := congrArg writableBits
    refine ⟨fun e => bits (e.elim named named), fun e => bits (named e), fun e => bits (named e), fun e => bits (named e),
      fun e => bits (named e), fun e => bits (named e), fun l e => all (named e), fun l e => bits (e.elim named named),
      fun e => all (named e), ?_, ?_, ?_⟩
    · rintro (rfl | rfl | rfl) <;> rfl
    · rintro rfl locked
      exact (ctlRead_ctlWrite_mvec s p _).trans (if_pos locked)
    · rintro rfl unlocked
      exact (ctlRead_ctlWrite_mvec s p _).trans (if_neg (Bool.eq_false_iff.mp unlocked))
  · rintro c rfl rfl
    obtain ⟨-, hie, hipl, -, -, -⟩ := h.plain
    exact ⟨fun hml hring => mtc_status h hr ha (statusWrite_flags hie hipl hml hring _) rfl rfl rfl rfl,
      fun hml hring => mtc_status h hr ha (statusWrite_ring0 hie hipl hml hring _) rfl rfl rfl rfl,
      fun hml => mtc_status h hr ha (statusWrite_machine hie hipl hml _) rfl rfl rfl rfl⟩
  · rintro c rfl rfl hf
    exact mtc_fpstat h hr ha hf

end Sys2Proof.Machine
end

section
/-! The floating-point and SIMD family (spec 07): special operands of FP operations (O18). -/

namespace Sys2Proof.Machine

section
variable {f : Fmt} {md : FpMode} {x y z : Nat} {a b : FpVal} {n m : Bool} {u w : Nat} {d e : Int}

/-! ### Unpacked values (07 R162) -/

@[simp] theorem isNan_negVal (v : FpVal) : isNan (negVal v) = isNan v := by cases v <;> rfl

@[simp] theorem isSignal_negVal (v : FpVal) : isSignal (negVal v) = isSignal v := by cases v <;> rfl

/-- With FZ a lane whose exponent field is 0 reads as a zero of its sign. -/
theorem unpack_flushed (hz : md.fz = true) (h : x / 2 ^ fracBits f % 2 ^ expBits f = 0) :
    unpack f md.fz x = .fin (x.testBit (fmtBits f - 1)) 0 (expMin f - fracBits f) := by
  have finite : 0 ≠ 2 ^ expBits f - 1 := by cases f <;> decide
  simp only [unpack, hz, h, if_neg finite, if_true]

/-! ### Sums (07 R156, R157) -/

theorem addVal_nan (h : isNan a = true ∨ isNan b = true) : addVal f md a b = nanRes f (isSignal a || isSignal b) := by
  cases a with
  | nan s => rfl
  | inf n => cases b with
    | nan s => rfl
    | inf m | fin m w e => simp [isNan] at h
  | fin n u d => cases b with
    | nan s => rfl
    | inf m | fin m w e => simp [isNan] at h

theorem addVal_inf_unlike (f : Fmt) (md : FpMode) (n : Bool) : addVal f md (.inf n) (.inf (!n)) = nanRes f true :=
  if_neg (by simp)

theorem fpSub_nan (h : isNan (unpack f md.fz x) = true ∨ isNan (unpack f md.fz y) = true) :
    fpSub f md x y z = nanRes f (isSignal (unpack f md.fz x) || isSignal (unpack f md.fz y)) := by
  rw [fpSub, addVal_nan (by rwa [isNan_negVal]), isSignal_negVal]

theorem fpAdd_inf_unlike (hx : unpack f md.fz x = .inf n) (hy : unpack f md.fz y = .inf (!n)) :
    fpAdd f md x y z = nanRes f true := by
  rw [fpAdd, hx, hy, addVal_inf_unlike]

theorem fpSub_inf_like (hx : unpack f md.fz x = .inf n) (hy : unpack f md.fz y = .inf n) :
    fpSub f md x y z = nanRes f true := by
  rw [fpSub, hx, hy, negVal, addVal_inf_unlike]

/-! ### Products and quotients (07 R156, R157) -/

theorem fpMul_nan (h : isNan (unpack f md.fz x) = true ∨ isNan (unpack f md.fz y) = true) :
    fpMul f md x y z = nanRes f (isSignal (unpack f md.fz x) || isSignal (unpack f md.fz y)) :=
  if_pos (by simpa using h)

theorem fpMul_inf_zero (hx : unpack f md.fz x = .inf n) (hy : unpack f md.fz y = .fin m 0 e) :
    fpMul f md x y z = nanRes f true := by
  rw [fpMul, hx, hy]
  rfl

theorem fpDiv_nan (h : isNan (unpack f md.fz x) = true ∨ isNan (unpack f md.fz y) = true) :
    fpDiv f md x y z = nanRes f (isSignal (unpack f md.fz x) || isSignal (unpack f md.fz y)) := by
  unfold fpDiv
  cases hx : unpack f md.fz x with
  | nan s => rfl
  | inf n | fin n u d => cases hy : unpack f md.fz y with
    | nan s => rfl
    | inf m | fin m w e => simp [hx, hy, isNan] at h

/-- A finite divided by a zero. -/
theorem fpDiv_zero (hx : unpack f md.fz x = .fin n u d) (hy : unpack f md.fz y = .fin m 0 e) :
    fpDiv f md x y z = if u = 0 then nanRes f true else ⟨signBits f (n != m) + infBits f, { dz := true }⟩ := by
  rw [fpDiv, hx, hy]
  rfl

/-! ### Square roots (07 R155, R157) -/

theorem fpSqrt_zero (hx : unpack f md.fz x = .fin n 0 e) : fpSqrt f md x y z = zeroRes f n := by
  rw [fpSqrt, hx]
  rfl

theorem fpSqrt_negative (hx : unpack f md.fz x = .fin true u e) (hu : u ≠ 0) : fpSqrt f md x y z = nanRes f true := by
  rw [fpSqrt, hx]
  exact if_neg hu

/-! ### Conversion to an integer (07 R157) -/

theorem fpToInt_nan (h : isNan (unpack f md.fz x) = true) : fpToInt f md x y z = ⟨2 ^ 63, { nv := true }⟩ := by
  unfold fpToInt
  cases hx : unpack f md.fz x with
  | nan s => rfl
  | inf n | fin n u d => simp [hx, isNan] at h

theorem fpToInt_inf (hx : unpack f md.fz x = .inf n) :
    fpToInt f md x y z = ⟨if n then 2 ^ 63 else 2 ^ 63 - 1, { nv := true }⟩ := by
  rw [fpToInt, hx]

/-! ### Comparisons, minimum and maximum (07 R157) -/

theorem fpCmp_nan {quiet : Bool} {rel : Int → Int → Bool}
    (h : isNan (unpack f false x) = true ∨ isNan (unpack f false y) = true) :
    fpCmp quiet rel f md x y z = ⟨0, { nv := !quiet || isSignal (unpack f false x) || isSignal (unpack f false y) }⟩ :=
  if_pos (by simpa using h)

/-- With one NaN the other operand is picked. -/
theorem fpPick_nan {less : Bool} (hx : isNan (unpack f false x) = true) (hy : isNan (unpack f false y) = false) :
    (fpPick less f md x y z).bits = y := by
  simp [fpPick, hx, hy]

end

/-- Settles O18: each clause is the equation of its operation at those operands. -/
theorem fpSpecialOperands : Obligations.FpSpecialOperands := by
  intro f md x y z
  exact ⟨fun h => ⟨addVal_nan h, fpSub_nan h, fpMul_nan h, fpDiv_nan h⟩, fun n => fpAdd_inf_unlike, fun n => fpSub_inf_like,
    fun n m e => fpMul_inf_zero, fun n m u e d hx hu hy => (fpDiv_zero hx hy).trans (if_neg hu),
    fun n m e d hx hy => (fpDiv_zero hx hy).trans (if_pos rfl), fun m e => fpSqrt_negative, fun e => fpSqrt_zero,
    fpToInt_nan, fpToInt_inf, fpToInt_inf, fun h => ⟨fpCmp_nan h, fpCmp_nan h, fpCmp_nan h⟩,
    fun hx hy => ⟨fpPick_nan hx hy, fpPick_nan hx hy⟩, fun hz he => ⟨_, _, unpack_flushed hz he⟩⟩

end Sys2Proof.Machine
end

section
/-! The floating-point and SIMD family (spec 07): the integer SIMD instructions (O19). -/

namespace Sys2Proof.Machine

/-! ### Lanes of a register (07 R151) -/

/-- Bits below `m` are not touched by a cut at `m`. -/
theorem mod_div_mod_two_pow (x : Nat) {k w m : Nat} (h : k + w ≤ m) : x % 2 ^ m / 2 ^ k % 2 ^ w = x / 2 ^ k % 2 ^ w := by
  have cut : 2 ^ k * 2 ^ w ∣ 2 ^ m := by rw [← Nat.pow_add]; exact Nat.pow_dvd_pow 2 h
  rw [← Nat.mod_mul_right_div_self, Nat.mod_mod_of_dvd _ cut, Nat.mod_mul_right_div_self]

theorem laneOf_lt (v : VWord) (w i : Nat) : laneOf v w i < 2 ^ w := Nat.mod_lt _ (Nat.two_pow_pos w)

/-- A lane of lanes packed is the number that was packed there, cut to its width. -/
theorem packLanes_lane (w : Nat) (xs : List Nat) (n : Nat) :
    packLanes w xs / 2 ^ (w * n) % 2 ^ w = xs.getD n 0 % 2 ^ w := by
  induction xs generalizing n with
  | nil => simp [packLanes]
  | cons x xs ih =>
    cases n with
    | zero => simp [packLanes]
    | succ n =>
      have upper : packLanes w (x :: xs) / 2 ^ w = packLanes w xs := by
        rw [packLanes, Nat.add_mul_div_left _ _ (Nat.two_pow_pos w), Nat.div_eq_of_lt (Nat.mod_lt x (Nat.two_pow_pos w)),
          Nat.zero_add]
      rw [Nat.mul_succ, Nat.add_comm, Nat.pow_add, ← Nat.div_div_eq_div_mul, upper, ih, List.getD_cons_succ]

theorem laneOf_packLanes {w n : Nat} (xs : List Nat) (h : n < 128 / w) :
    laneOf (BitVec.ofNat 128 (packLanes w xs)) w n = xs.getD n 0 % 2 ^ w := by
  have fits : w * n + w ≤ 128 := by
    rw [← Nat.mul_succ, Nat.mul_comm]
    exact Nat.mul_le_of_le_div w _ _ h
  rw [laneOf, BitVec.toNat_ofNat, mod_div_mod_two_pow _ fits, packLanes_lane]

/-- A byte of a 32-bit lane is a lane of 8 bits. -/
theorem laneOf_byte (v : VWord) (n : Nat) {i : Nat} (h : i < 4) :
    laneOf v 32 n / 2 ^ (8 * i) % 2 ^ 8 = laneOf v 8 (4 * n + i) := by
  rw [laneOf, mod_div_mod_two_pow _ (by omega), Nat.div_div_eq_div_mul, ← Nat.pow_add, laneOf,
    show 8 * (4 * n + i) = 32 * n + 8 * i by omega]

/-! ### Results that fit their lanes (07 R163, R164) -/

theorem wrapLane_lt (w : Nat) (i : Int) : wrapLane w i < 2 ^ w := by
  have pos : (0 : Int) < 2 ^ w := by positivity
  have := Int.emod_lt_of_pos i pos
  rw [wrapLane]
  zify
  rwa [Int.toNat_of_nonneg (Int.emod_nonneg i pos.ne')]

/-- The number wrapped and the number itself differ by a multiple of 2^w. -/
theorem wrapLane_add_mul (w : Nat) (i : Int) : (wrapLane w i : Int) + i / 2 ^ w * 2 ^ w = i := by
  rw [wrapLane, Int.toNat_of_nonneg (Int.emod_nonneg i (by positivity)), Int.emod_add_ediv_mul]

/-- An operation on lanes of any width answers a lane of that width. -/
def LaneOp (op : Nat → Nat → Nat → Nat) : Prop := ∀ w x y, x < 2 ^ w → y < 2 ^ w → op w x y < 2 ^ w

theorem laneAdd_fits : LaneOp laneAdd := fun w _ _ _ _ => Nat.mod_lt _ (Nat.two_pow_pos w)

theorem laneSub_fits : LaneOp laneSub := fun w _ _ _ _ => Nat.mod_lt _ (Nat.two_pow_pos w)

theorem laneMul_fits : LaneOp laneMul := fun w _ _ _ _ => Nat.mod_lt _ (Nat.two_pow_pos w)

theorem laneMinU_fits : LaneOp laneMinU := fun _ x y hx _ => (Nat.min_le_left x y).trans_lt hx

theorem laneMaxU_fits : LaneOp laneMaxU := fun _ _ _ hx hy => Nat.max_lt.mpr ⟨hx, hy⟩

theorem laneMin_fits : LaneOp laneMin := fun _ _ _ hx hy => by
  unfold laneMin
  split <;> assumption

theorem laneMax_fits : LaneOp laneMax := fun _ _ _ hx hy => by
  unfold laneMax
  split <;> assumption

theorem laneShl_fits : LaneOp laneShl := fun w _ _ _ _ => by
  unfold laneShl
  split
  · exact Nat.mod_lt _ (Nat.two_pow_pos w)
  · exact Nat.two_pow_pos w

theorem laneShr_fits : LaneOp laneShr := fun w _ _ hx _ => by
  unfold laneShr
  split
  · exact (Nat.div_le_self _ _).trans_lt hx
  · exact Nat.two_pow_pos w

theorem laneSar_fits : LaneOp laneSar := fun w _ _ _ _ => wrapLane_lt w _

/-! ### FP and SIMD instructions that complete -/

/-- What the completion of an instruction reads of its processor: the loops, the writes of IE and IPL that are pending, an
armed step, and what is waited for. -/
def completionState (k : Cpu) : FMap Word × FMap Word × Option Bool × Option (BitVec 3) × Option (BitVec 4) × Wait :=
  (k.lc, k.le, k.pendIe, k.pendIpl, k.stepBank, k.wait)

theorem completionState_wr (k : Cpu) (b : Nat) (r : RegNo) (v : Word) :
    completionState (k.wr b r v) = completionState k := by
  rw [Cpu.wr_eq]
  rfl

section
variable {i : Instr} {c : Fin 16} {s t : State} {k : Cpu} {d a b : RegNo} {early : State → Option Exc}
  {body : State → IRes}

/-- An FP or SIMD instruction of a core that may run one completes with its processor's registers changed. -/
theorem goes_fp (he : exec i s = nextOf (runFp (.core c) early body s)) (h : Calm (.core c) s) (hf : fpReady c s)
    (h0 : early s = none) (hb : body s = .done t) (ho : OnlyCpu (.core c) s t k)
    (hk : completionState k = completionState (s.cpu (.core c))) : Goes i (.core c) s k ((s.cpu (.core c)).pc + 4) := by
  simp only [completionState, Prod.mk.injEq] at hk
  obtain ⟨lc, le, ie, ipl, step, wait⟩ := hk
  refine ⟨_, he, ?_⟩
  rw [runFp_ready h hf h0, hb]
  exact done_only h ho _ lc le ie ipl step (wait.trans h.wait) false

theorem goes_putV {v : VWord} (he : exec i s = nextOf (runFp (.core c) noEarly body s)) (h : Calm (.core c) s)
    (hf : fpReady c s) (hb : body s = .done (putV s (.core c) d v)) :
    Goes i (.core c) s (withV (s.cpu (.core c)) d v) ((s.cpu (.core c)).pc + 4) :=
  goes_fp he h hf rfl hb ((OnlyCpu.refl _ s).putV d v) rfl

theorem writes_fp {v : Word} (he : exec i s = nextOf (runFp (.core c) early body s)) (h : Calm (.core c) s)
    (hf : fpReady c s) (h0 : early s = none) (hb : body s = .done (s.setG (.core c) d v)) : Writes i (.core c) s d v :=
  goes_fp he h hf h0 hb ((OnlyCpu.refl _ s).setG d v) (completionState_wr ..)

/-- A check that comes before FP DISABLED fails. -/
theorem raises_early {e : Exc} (he : exec i s = nextOf (runFp (.core c) early body s)) (h : Calm (.core c) s)
    (h0 : early s = some e) : Raises i (.core c) s e := by
  rw [Raises, he, runFp_early h h0, finish_exc_core]
  rfl

/-- The instruction completes with `lane n` in each `w`-bit lane `n` of v`d`, which sets FPD, and nothing else changed. -/
def WritesLanes (i : Instr) (c : Fin 16) (s : State) (d : RegNo) (w : Nat) (lane : Nat → Nat) : Prop :=
  ∃ r : VWord, (∀ n, n < 128 / w → laneOf r w n = lane n) ∧
    Goes i (.core c) s (withV (s.cpu (.core c)) d r) ((s.cpu (.core c)).pc + 4)

theorem writesLanes_of {w : Nat} {lane : Nat → Nat} (he : exec i s = nextOf (runFp (.core c) noEarly body s))
    (h : Calm (.core c) s) (hf : fpReady c s) (fits : ∀ n, lane n < 2 ^ w)
    (hb : body s = .done (putV s (.core c) d (BitVec.ofNat 128 (packLanes w ((List.range (128 / w)).map lane))))) :
    WritesLanes i c s d w lane := by
  refine ⟨_, fun n hn => ?_, goes_putV he h hf hb⟩
  rw [laneOf_packLanes _ hn]
  simp [hn, Nat.mod_eq_of_lt (fits n)]

theorem writesLanes_simd {z : Esz} {op : Nat → Nat → Nat → Nat} (fits : LaneOp op)
    (he : exec i s = nextOf (simdOp (.core c) z d a b op s)) (h : Calm (.core c) s) (hf : fpReady c s) :
    WritesLanes i c s d (eszBits z) fun n =>
      op (eszBits z) (laneOf (s.gv (.core c) a) (eszBits z) n) (laneOf (s.gv (.core c) b) (eszBits z) n) :=
  writesLanes_of he h hf (fun n => fits _ _ _ (laneOf_lt _ _ n) (laneOf_lt _ _ n)) rfl

/-- Every lane of vd is ga cut to the width. -/
theorem writesLanes_vsplat {z : Esz} (h : Calm (.core c) s) (hf : fpReady c s) :
    WritesLanes (.vsplat (.core c) z d a) c s d (eszBits z) fun _ => (s.g (.core c) a).toNat % 2 ^ eszBits z := by
  refine ⟨_, fun n hn => ?_, goes_putV rfl h hf rfl⟩
  rw [laneOf_packLanes _ hn]
  simp [hn]

/-! ### Dot products (07 R163) -/

/-- What 32-bit lane `n` of a dot product comes to before it wraps: `acc`, and the products of the bytes of the lane. -/
def dotSum (num : Nat → Int) (x y : VWord) (acc n : Nat) : Int :=
  acc + num (laneOf x 8 (4 * n)) * num (laneOf y 8 (4 * n)) + num (laneOf x 8 (4 * n + 1)) * num (laneOf y 8 (4 * n + 1)) +
    num (laneOf x 8 (4 * n + 2)) * num (laneOf y 8 (4 * n + 2)) + num (laneOf x 8 (4 * n + 3)) * num (laneOf y 8 (4 * n + 3))

theorem dotLane_eq_wrapLane (num : Nat → Int) (x y : VWord) (acc n : Nat) :
    dotLane num (laneOf x 32 n) (laneOf y 32 n) acc = wrapLane 32 (dotSum num x y acc n) := by
  have four : List.range 4 = [0, 1, 2, 3] := rfl
  rw [dotLane, four, dotSum]
  simp only [List.map_cons, List.map_nil, List.sum_cons, List.sum_nil, laneOf_byte _ n (show 0 < 4 by decide),
    laneOf_byte _ n (show 1 < 4 by decide), laneOf_byte _ n (show 2 < 4 by decide), laneOf_byte _ n (show 3 < 4 by decide),
    add_zero, add_assoc]

/-- Each lane of a dot product is its sum but for a multiple of 2^32. -/
theorem goes_dot {num : Nat → Int} (he : exec i s = nextOf (dotOp (.core c) d a b num s)) (h : Calm (.core c) s)
    (hf : fpReady c s) :
    ∃ r : VWord, Goes i (.core c) s (withV (s.cpu (.core c)) d r) ((s.cpu (.core c)).pc + 4) ∧
      ∀ n, n < 4 → ∃ m : Int, (laneOf r 32 n : Int) + m * 2 ^ 32 =
        dotSum num (s.gv (.core c) a) (s.gv (.core c) b) (laneOf (s.gv (.core c) d) 32 n) n := by
  have lane (n : Nat) := dotLane_eq_wrapLane num (s.gv (.core c) a) (s.gv (.core c) b) (laneOf (s.gv (.core c) d) 32 n) n
  have fits (n : Nat) := (lane n).trans_lt (wrapLane_lt 32 _)
  obtain ⟨r, lanes, goes⟩ := writesLanes_of he h hf fits rfl
  refine ⟨r, goes, fun n hn => ?_⟩
  rw [(lanes n hn).trans (lane n)]
  exact ⟨_, wrapLane_add_mul 32 _⟩

end

/-- Settles O19: each lane is the operation's result, which fits. -/
theorem simdInstructions : Obligations.SimdInstructions := by
  intro c s z d a b p k h hf
  exact ⟨writesLanes_simd laneAdd_fits rfl h hf, writesLanes_simd laneSub_fits rfl h hf,
    writesLanes_simd laneMul_fits rfl h hf, writesLanes_simd laneMinU_fits rfl h hf, writesLanes_simd laneMaxU_fits rfl h hf,
    writesLanes_simd laneMin_fits rfl h hf, writesLanes_simd laneMax_fits rfl h hf, writesLanes_simd laneShl_fits rfl h hf,
    writesLanes_simd laneShr_fits rfl h hf, writesLanes_simd laneSar_fits rfl h hf,
    goes_putV rfl h hf rfl, goes_putV rfl h hf rfl, goes_putV rfl h hf rfl,
    goes_dot rfl h hf, goes_dot rfl h hf, writesLanes_vsplat h hf,
    fun hb => writes_fp rfl h hf (if_neg (Nat.not_le.mpr hb)) rfl, fun hb => raises_early rfl h (if_pos hb)⟩

end Sys2Proof.Machine
end

section
/-! The floating-point and SIMD family (spec 07): FP instructions, their flags and their traps (O17). -/

namespace Sys2Proof.Machine

/-! ### Flags and traps (07 R158, R160, R161) -/

/-- The enabled exception that an FP trap names, of those that the lanes of an operation raise. -/
def trapOf (k : Cpu) (rs : List FpRes) : Option Nat :=
  firstTrap (rs.foldl (fun z r => z ||| raisedBits r.fl) 0 &&& k.fpstat.extractLsb' 5 5)

/-- FPSTAT with the flags of an operation's lanes. -/
def flaggedStat (k : Cpu) (rs : List FpRes) : Word :=
  k.fpstat ||| (rs.foldl (fun z r => z ||| flagBits r.fl) 0).zeroExtend 64

/-- FPSTAT with the lanes that raised an enabled exception in TLANE. -/
def trappedStat (k : Cpu) (rs : List FpRes) : Word :=
  (k.fpstat &&& ~~~0xFF0000) ||| BitVec.ofNat 64 (tlaneOf (k.fpstat.extractLsb' 5 5) (rs.map (·.fl)) % 256 * 2 ^ 16)

/-- An FP instruction of core `c` whose lanes come to `rs`: it completes with `put` done, the flags raised and FPD set, or
raises FP with TLANE written and nothing else. -/
def FpEnds (i : Instr) (c : Fin 16) (s : State) (rs : List FpRes) (put : Cpu → Cpu) : Prop :=
  let k := s.cpu (.core c)
  (trapOf k rs = none →
    Goes i (.core c) s { put k with fpstat := flaggedStat k rs, st := { k.st with fpd := true } } (k.pc + 4)) ∧
  (∀ n, trapOf k rs = some n → exec i s =
    .next (takeExc (s.setCpu (.core c) { k with fpstat := trappedStat k rs }) (.core c) ⟨8, 2 + n, none⟩ k.pc))

/-- `done` writes the result that `put` writes, whatever FPSTAT has become, and leaves STATUS and the completion alone. -/
structure PutsResult (c : Fin 16) (s : State) (done : State → State) (put : Cpu → Cpu) : Prop where
  only : ∀ v, OnlyCpu (.core c) s (done (s.setCpu (.core c) { s.cpu (.core c) with fpstat := v }))
    { put (s.cpu (.core c)) with fpstat := v }
  st : (put (s.cpu (.core c))).st = (s.cpu (.core c)).st
  completion : completionState (put (s.cpu (.core c))) = completionState (s.cpu (.core c))

section
variable {i : Instr} {c : Fin 16} {s : State} {rs : List FpRes} {put : Cpu → Cpu} {done : State → State} {n : Nat}
  {d a b : RegNo} {early : State → Option Exc} {body : State → IRes}

theorem putsResult_v (c : Fin 16) (s : State) (d : RegNo) (v : VWord) :
    PutsResult c s (fun s => s.setV (.core c) d v) fun k => k.wrV d v :=
  ⟨fun _ => ((OnlyCpu.refl _ s).setCpu _).setV d v, rfl, rfl⟩

theorem wr_fpstat (k : Cpu) (m : Nat) (d : RegNo) (v w : Word) :
    ({ k with fpstat := w } : Cpu).wr m d v = { k.wr m d v with fpstat := w } := by
  unfold Cpu.wr
  split <;> rfl

theorem putsResult_g (c : Fin 16) (s : State) (d : RegNo) (v : Word) :
    PutsResult c s (fun s => s.setG (.core c) d v) fun k => k.wr (bankInUse (.core c) k) d v :=
  ⟨fun w => wr_fpstat (s.cpu (.core c)) _ d v w ▸ ((OnlyCpu.refl _ s).setCpu _).setG d v, Cpu.wr_st ..,
    completionState_wr ..⟩

theorem withFlags_untrapped (h : trapOf (s.cpu (.core c)) rs = none) :
    let flagged := s.setCpu (.core c) { s.cpu (.core c) with fpstat := flaggedStat (s.cpu (.core c)) rs }
    withFlags (.core c) (rs.map (·.fl)) s done =
      .done ((done flagged).onSt (.core c) fun st => { st with fpd := true }) := by
  rw [trapOf] at h
  simp only [withFlags, List.foldl_map, h]
  rfl

theorem withFlags_trapped (h : trapOf (s.cpu (.core c)) rs = some n) :
    let trapped := s.setCpu (.core c) { s.cpu (.core c) with fpstat := trappedStat (s.cpu (.core c)) rs }
    withFlags (.core c) (rs.map (·.fl)) s done = .exc ⟨8, 2 + n, none⟩ trapped := by
  rw [trapOf] at h
  simp only [withFlags, List.foldl_map, h]
  rfl

/-- An instruction whose own operation is `withFlags` of its lanes' results completes, or traps, as they say. -/
theorem fpEnds_of (he : exec i s = nextOf (runFp (.core c) early body s)) (h : Calm (.core c) s) (hf : fpReady c s)
    (h0 : early s = none) (hp : PutsResult c s done put) (hb : body s = withFlags (.core c) (rs.map (·.fl)) s done) :
    FpEnds i c s rs put := by
  refine ⟨fun ht => ?_, fun n ht => ?_⟩
  · have only := (hp.only (flaggedStat (s.cpu (.core c)) rs)).onSt fun st => { st with fpd := true }
    rw [← hp.st]
    exact goes_fp he h hf h0 (hb.trans (withFlags_untrapped ht)) only hp.completion
  · rw [he, runFp_ready h hf h0, hb, withFlags_trapped ht, finish_exc_core]
    rfl

/-! ### The operations of major 0x3C (07 R155) -/

/-- An operation on the lanes of v registers. -/
theorem fpOp_ends {f : Fmt} {packed : Bool} {op : LaneFp} (he : exec i s = nextOf (fpOp (.core c) f packed d a b op s))
    (h : Calm (.core c) s) (hf : fpReady c s) :
    let rs := lanesFp f packed op (fpMode s (.core c)) (s.gv (.core c) a) (s.gv (.core c) b) (s.gv (.core c) d)
    FpEnds i c s rs fun k => k.wrV d (BitVec.ofNat 128 (packLanes (fmtBits f) (rs.map (·.bits)))) :=
  fpEnds_of he h hf rfl (putsResult_v c s d _) rfl

/-- A conversion into lane 0 of a v register. -/
theorem fpScalar_ends {r : FpRes} (he : exec i s = nextOf (runFp (.core c) early body s)) (h : Calm (.core c) s)
    (hf : fpReady c s) (h0 : early s = none)
    (hb : body s = withFlags (.core c) [r.fl] s fun s => s.setV (.core c) d (BitVec.ofNat 128 r.bits)) :
    FpEnds i c s [r] fun k => k.wrV d (BitVec.ofNat 128 r.bits) :=
  fpEnds_of he h hf h0 (putsResult_v c s d _) hb

/-! ### FP DISABLED (07 R152) -/

theorem raises_disabled (he : exec i s = nextOf (runFp (.core c) noEarly body s)) (h : Calm (.core c) s)
    (off : (s.cpu (.core c)).st.fpe = false) : Raises i (.core c) s ⟨8, 1, none⟩ := by
  rw [Raises, he, runFp_disabled h off rfl, finish_exc_core]
  rfl

end

/-- Settles O17: each operation ends as the flags of its lanes' results say, and each instruction tests FPE first. -/
theorem fpInstructions : Obligations.FpInstructions := by
  refine ⟨?_, ?_⟩
  · intro c s f src packed d a b p k h hf
    exact ⟨fpOp_ends rfl h hf, fpOp_ends rfl h hf, fpOp_ends rfl h hf, fpOp_ends rfl h hf, fpOp_ends rfl h hf,
      fpOp_ends rfl h hf, fpOp_ends rfl h hf, fpOp_ends rfl h hf, fpOp_ends rfl h hf, fpOp_ends rfl h hf,
      fpOp_ends rfl h hf, fun hs => fpScalar_ends rfl h hf (if_neg hs) rfl, fpScalar_ends rfl h hf rfl rfl,
      fpEnds_of rfl h hf rfl (putsResult_g c s d _) rfl, writes_fp rfl h hf rfl rfl, goes_putV rfl h hf rfl,
      fun hs => raises_early rfl h (if_pos hs)⟩
  · intro c s f src z packed d a b imm p h off
    iterate 45 refine List.forall_mem_cons.mpr ⟨raises_disabled rfl h off, ?_⟩
    exact List.forall_mem_nil _

end Sys2Proof.Machine
end

section
/-! The exceptions and interrupts family (spec 08): sources of the interrupt controller, register writes by access code, and
the registers of the queues (O33). -/

namespace Sys2Proof.Machine

/-! ### What a source's event changes (08 R189, R190) -/

/-- Every field but a source's input and its ACTIVE, which no event changes. -/
def besideLatches (f : Fld) : Bool := f.id != F.IC_SRC_LINE.id && f.id != F.IC_SRC_ACTIVE.id

theorem besideLatches_byId : ById besideLatches := fun f g h => by simp only [besideLatches, h]

/-- A write of any other field keeps them. -/
theorem setF_latches (s : State) {f : Fld} (i v : Nat) (hf : besideLatches f = true) :
    FieldsKept besideLatches s (s.setF f i v) := .setF (.of_flds rfl) besideLatches_byId i v hf

section
variable (s : State) (n : Nat)

theorem icCommit_latches : FieldsKept besideLatches s (icCommit s n) := by
  unfold icCommit
  split
  · split
    · exact (setF_latches s n _ rfl).flds rfl
    · exact .of_flds rfl
  · exact .of_flds rfl

theorem icUnpend_latches : FieldsKept besideLatches s (icUnpend s n) :=
  (setF_latches s (f := F.IC_SRC_PENDING) n (b2n false) rfl).flds rfl

theorem icPend_latches : FieldsKept besideLatches s (icPend s n) :=
  .ite (.of_flds rfl) (.trans (setF_latches s n _ rfl) (icCommit_latches _ n))

theorem raiseSource_latches : FieldsKept besideLatches s (raiseSource s n) :=
  .ite (icPend_latches s n) (.ite (.of_flds rfl) (.trans (.of_flds rfl) (icPend_latches _ n)))

/-- A commitment makes nothing pending. -/
theorem icCommit_keepsPending (m : Nat) : (icCommit s n).fb F.IC_SRC_PENDING m = s.fb F.IC_SRC_PENDING m := by
  unfold icCommit
  split
  · split
    · exact State.fb_setF_id s _ _ _ (by decide)
    · rfl
  · rfl

theorem icUnpend_clearsPending : (icUnpend s n).fb F.IC_SRC_PENDING n = false :=
  State.fb_setB_same s F.IC_SRC_PENDING n false (by decide)

/-- An enabled source becomes pending. -/
theorem icPend_setsPending (h : s.fl F.IC_SRC_PRIO n ≠ 0) : (icPend s n).fb F.IC_SRC_PENDING n = true := by
  rw [icPend, if_neg h, icCommit_keepsPending]
  exact State.fb_setB_same s _ _ _ (by decide)

/-- An event of an enabled edge source reaches the controller. -/
theorem raiseSource_signalled : signalled s (raiseSource s n) n := by
  intro he hp
  rw [raiseSource, if_pos he]
  exact icPend_setsPending s n hp

theorem setLine_line (level : Bool) : (setLine s n level).fb F.IC_SRC_LINE n = level := by
  have set : (s.setB F.IC_SRC_LINE n level).fb F.IC_SRC_LINE n = level := State.fb_setB_same s _ _ _ (by decide)
  have latched {t : State} (h : FieldsKept besideLatches (s.setB F.IC_SRC_LINE n level) t) : t.fb F.IC_SRC_LINE n = level :=
    (h.fb _ _ rfl).trans set
  have still := FieldsKept.of_flds (k := besideLatches) (rfl : (s.setB F.IC_SRC_LINE n level).flds = _)
  refine latched (.ite (.ite (icPend_latches _ n) still) (.ite (.ite still (icPend_latches _ n)) (icUnpend_latches _ n)))

variable {s n}

/-- A rising input makes an enabled source pending. -/
theorem setLine_rises (was : s.fb F.IC_SRC_LINE n = false) (he : s.fl F.IC_SRC_PRIO n ≠ 0) :
    (setLine s n true).fb F.IC_SRC_PENDING n = true := by
  have pend : (icPend (s.setB F.IC_SRC_LINE n true) n).fb F.IC_SRC_PENDING n = true :=
    icPend_setsPending _ n (by rwa [State.fl_setB_id _ _ _ _ (by decide)])
  simp only [setLine, was, Bool.not_false, Bool.and_true, if_true, Bool.false_eq_true, if_false, ite_self]
  exact pend

/-- A falling input ends what is pending of a level source. -/
theorem setLine_falls_level (edge : s.fb F.IC_SRC_EDGE n = false) : (setLine s n false).fb F.IC_SRC_PENDING n = false := by
  have he : (s.setB F.IC_SRC_LINE n false).fb F.IC_SRC_EDGE n = false := (State.fb_setB_id s _ _ _ (by decide)).trans edge
  simp only [setLine, he, Bool.false_eq_true, if_false]
  exact icUnpend_clearsPending _ n

/-- An edge source keeps what is pending. -/
theorem setLine_falls_edge (edge : s.fb F.IC_SRC_EDGE n = true) :
    (setLine s n false).fb F.IC_SRC_PENDING n = s.fb F.IC_SRC_PENDING n := by
  have he : (s.setB F.IC_SRC_LINE n false).fb F.IC_SRC_EDGE n = true := (State.fb_setB_id s _ _ _ (by decide)).trans edge
  simp only [setLine, he, if_true, Bool.false_and, Bool.false_eq_true, if_false]
  exact State.fb_setB_id s _ _ _ (by decide)

end

theorem IcFrame.cpus {k : Fld → Bool} {s t : State} (h : IcFrame k s t) : t.cpus = s.cpus := by
  have e := congrArg State.cpus h.rest
  exact e

/-- PRIO = 0 disables a source: nothing of it is pending. -/
theorem icSettle_disabled {s : State} {n : Nat} (h : s.fl F.IC_SRC_PRIO n = 0) :
    (icSettle s n).fb F.IC_SRC_PENDING n = false := by
  rw [icSettle, if_pos h]
  exact icUnpend_clearsPending s n

/-! ### Fields of a register that take a write (00 R8) -/

/-- A write of registers alone: of their fields and of their shadows. -/
def OnlyRegs (s t : State) : Prop := { t with flds := s.flds, sh := s.sh } = s

section
variable {s t u : State}

theorem OnlyRegs.trans (h : OnlyRegs s t) (h' : OnlyRegs t u) : OnlyRegs s u := by
  rw [OnlyRegs, ← h'] at h
  exact h

theorem OnlyRegs.mem (h : OnlyRegs s t) : t.mem = s.mem := by
  have e := congrArg State.mem h
  exact e

theorem OnlyRegs.cpus (h : OnlyRegs s t) : t.cpus = s.cpus := by
  have e := congrArg State.cpus h
  exact e

end

section
variable (s : State) (w : Wr) (f : Fld) (i unit : Nat)

/-- A write of a field is of its element alone, or of its shadow, or of neither. -/
theorem putField_cases : putField s w f i unit = s ∨ (∃ v, putField s w f i unit = s.setF f i v) ∨
    (∃ v, putField s w f i unit = (s.setF f i v).dropSh f i) ∨ ∃ v, putField s w f i unit = s.setSh f i v := by
  unfold putField
  split
  · exact .inl rfl
  · cases f.acc with
    | ro => exact .inl rfl
    | wo => exact .inl rfl
    | rw => exact .inr (.inl ⟨_, rfl⟩)
    | rwl => exact .inr (.inl ⟨_, rfl⟩)
    | w1s => exact .inr (.inl ⟨_, rfl⟩)
    | w1c =>
      dsimp only
      split
      · split
        · exact .inl rfl
        · exact .inr (.inl ⟨_, rfl⟩)
      · exact .inr (.inl ⟨_, rfl⟩)
    | rwp =>
      dsimp only
      split
      · exact .inr (.inr (.inl ⟨_, rfl⟩))
      · exact .inr (.inr (.inr ⟨_, rfl⟩))

theorem putField_only : OnlyRegs s (putField s w f i unit) := by
  rcases putField_cases s w f i unit with h | ⟨v, h⟩ | ⟨v, h⟩ | ⟨v, h⟩ <;> rw [h] <;> rfl

theorem putField_other {g : Fld} (hg : f.id ≠ g.id) (j : Nat) : (putField s w f i unit).fl g j = s.fl g j := by
  have set (v : Nat) := State.fl_setF_id s i j v hg
  rcases putField_cases s w f i unit with h | ⟨v, h⟩ | ⟨v, h⟩ | ⟨v, h⟩ <;> rw [h]
  · exact set v
  · exact set v
  · rfl

theorem putFields_only (fs : List Fld) : OnlyRegs s (putFields s w fs i unit) := by
  induction fs generalizing s with
  | nil => rfl
  | cons f fs ih => exact (putField_only s w f i unit).trans (ih _)

theorem putFields_other {fs : List Fld} {g : Fld} (h : ∀ f ∈ fs, f.id ≠ g.id) (j : Nat) :
    (putFields s w fs i unit).fl g j = s.fl g j := by
  induction fs generalizing s with
  | nil => rfl
  | cons f fs ih =>
    exact (ih _ fun x hx => h x (List.mem_cons_of_mem f hx)).trans
      (putField_other s w f i unit (h f List.mem_cons_self) j)

variable {f}

/-- Among fields with numbers of their own, each takes the write as if it stood alone. -/
theorem putFields_own {fs : List Fld} (hn : (fs.map Fld.id).Nodup) (hf : f ∈ fs) :
    ∃ t : State, t.fl f i = s.fl f i ∧ (putFields s w fs i unit).fl f i = (putField t w f i unit).fl f i := by
  induction fs generalizing s with
  | nil => cases hf
  | cons g fs ih =>
    obtain ⟨hg, hn⟩ := List.nodup_cons.mp hn
    rcases List.mem_cons.mp hf with rfl | hf
    · exact ⟨s, rfl, putFields_other _ w i unit (fun x hx e => hg (List.mem_map.mpr ⟨x, hx, e⟩)) i⟩
    · obtain ⟨t, ht, e⟩ := ih (putField s w g i unit) hn hf
      exact ⟨t, ht.trans (putField_other s w g i unit (fun x => hg (List.mem_map.mpr ⟨f, hf, x.symm⟩)) i), e⟩

end

/-- A field that a whole write replaces: RW, or RWL in a register that is not locked. -/
def replaced (f : Fld) : Bool := decide ((f.acc = .rw ∨ f.acc = .rwl) ∧ f.lo ≤ f.hi ∧ f.hi ≤ 63)

section
variable {s : State} {q : Requester} {off : Nat} {v : Word} {f : Fld} {fs : List Fld} {i unit : Nat}

theorem putField_replaces (h : replaced f = true) : (putField s (.full q off v) f i unit).fl f i = bitsOf v f := by
  obtain ⟨ha, hb⟩ := of_decide_eq_true h
  have put : putField s (.full q off v) f i unit = s.setF f i (bitsOf v f) := by
    unfold putField
    rw [Wr.touches_full q off v f (by omega), Wr.new_full q off v f s i hb]
    rcases ha with ha | ha <;> simp [ha]
  rw [put, State.fl_setF_same, bitsOf_mod]

theorem putFields_replaces (hn : (fs.map Fld.id).Nodup) (hf : f ∈ fs) (h : replaced f = true) :
    (putFields s (.full q off v) fs i unit).fl f i = bitsOf v f := by
  obtain ⟨t, -, e⟩ := putFields_own s (.full q off v) i unit hn hf
  rw [e, putField_replaces h]

/-- A field that the part alone writes keeps its value. -/
theorem putFields_ro (hn : (fs.map Fld.id).Nodup) (hf : f ∈ fs) (ha : f.acc = .ro) :
    (putFields s (.full q off v) fs i unit).fl f i = s.fl f i := by
  obtain ⟨t, ht, e⟩ := putFields_own s (.full q off v) i unit hn hf
  rw [e, ← ht, putField, ha]
  exact congrArg (fun u : State => u.fl f i) (ite_self t)

/-- A one-bit W1C field is cleared by a 1. -/
theorem putFields_w1c (hn : (fs.map Fld.id).Nodup) (hf : f ∈ fs) (ha : f.acc = .w1c) (hw : f.hi = f.lo) (hl : f.lo ≤ 63)
    (hc : anyClears f = false) : (putFields s (.full q off v) fs i unit).fb f i = (s.fb f i && !v.getLsbD f.lo) := by
  obtain ⟨t, ht, e⟩ := putFields_own s (.full q off v) i unit hn hf
  have width : f.width = 1 := by simp [Fld.width, hw]
  have put : putField t (.full q off v) f i unit = t.setF f i (t.fl f i &&& (1 - b2n (v.getLsbD f.lo))) := by
    rw [putField, Wr.touches_full q off v f hl, ha, Wr.bits_full, bitsOf_one_bit v hw, width, hc]
    rfl
  rw [State.fb, e, put, State.fl_setF_same, width, State.fb, ht]
  cases v.getLsbD f.lo <;> simp [b2n]

end

/-! ### Accesses that are let through (03 R58; 18 R392) -/

/-- An access that is let through notes that its domain was used, and changes nothing else. -/
def OnlyPower (s t : State) : Prop := { t with pwr := s.pwr } = s

section
variable {s t : State}

theorem OnlyPower.flds (h : OnlyPower s t) : t.flds = s.flds := by
  have e := congrArg State.flds h
  exact e

theorem OnlyPower.sh (h : OnlyPower s t) : t.sh = s.sh := by
  have e := congrArg State.sh h
  exact e

theorem OnlyPower.mem (h : OnlyPower s t) : t.mem = s.mem := by
  have e := congrArg State.mem h
  exact e

theorem OnlyPower.cpus (h : OnlyPower s t) : t.cpus = s.cpus := by
  have e := congrArg State.cpus h
  exact e

theorem OnlyPower.router (h : OnlyPower s t) : t.router = s.router := by
  have e := congrArg State.router h
  exact e

theorem OnlyPower.fl (h : OnlyPower s t) (f : Fld) (i : Nat) : t.fl f i = s.fl f i := State.fl_congr h.flds f i
theorem OnlyPower.fb (h : OnlyPower s t) (f : Fld) (i : Nat) : t.fb f i = s.fb f i := State.fb_congr h.flds f i

/-- The requester's ring is as before. -/
theorem ringCode_congr (h : t.cpus = s.cpus) (c : Fin 16) : ringCode t c = ringCode s c := by
  rw [ringCode, ringCode, State.cpu, State.cpu, h]

theorem isMachine_congr (h : t.cpus = s.cpus) (q : Requester) : isMachine t q = isMachine s q := by
  cases q with
  | core c => simp only [isMachine, ringCode_congr h]
  | _ => rfl

theorem isRing0_congr (h : t.cpus = s.cpus) (q : Requester) : isRing0 t q = isRing0 s q := by
  cases q with
  | core c => simp only [isRing0, ringCode_congr h]
  | _ => rfl

theorem gate_only {u d : Option Nat} (h : gate s u d = .ok () t) : OnlyPower s t := by
  have dom {d : Nat} {t : State} (h : gateDom s d = .ok () t) : OnlyPower s t := by
    unfold gateDom at h
    dsimp only at h
    split at h
    · cases h; rfl
    · split at h <;> cases h
  have unit {t : State} {u : Nat} {t' : State} (h : gateUnit t u = .ok () t') : t' = t := by
    unfold gateUnit at h
    split at h
    · cases h; rfl
    · split at h <;> cases h
  unfold gate at h
  split at h
  · rename_i t' hd
    have ht : OnlyPower s t' := by
      cases d with
      | none => cases hd; rfl
      | some d => exact dom hd
    cases u with
    | none => cases h; exact ht
    | some u => rwa [unit h]
  · rename_i r hr
    exact absurd h (hr _ _)

theorem gateOff_only {off : Nat} (hg : target s off = .reg) (h : gateOff s off = .ok () t) : OnlyPower s t := by
  rw [gateOff, hg] at h
  dsimp only at h
  split at h
  · cases h
  · exact gate_only h

end

/-- The offsets of the register blocks lead to registers. -/
theorem target_reg (s : State) {off : Nat} (b : Nat × Nat) (hb : b ∈ regBlocks) (h : b.1 ≤ off ∧ off ≤ b.2) :
    target s off = .reg := by
  have hreg : (regBlocks.any fun b => b.1 ≤ off && off ≤ b.2) = true := by
    rw [List.any_eq_true]
    exact ⟨b, hb, by simpa using h⟩
  have low : 0xE00000000 ≤ off ∧ off ≤ 0xE06FFFFFF := by
    have within : ∀ b ∈ regBlocks, 0xE00000000 ≤ b.1 ∧ b.2 ≤ 0xE06FFFFFF := by decide
    have := within b hb
    omega
  rw [target, if_neg (by omega), if_neg (by omega), if_neg (by omega), if_pos hreg]

/-- A write of a whole register as a command of its own, where the unit answers. -/
theorem rowWrite_open {s : State} {off : Nat} (hg : target s off = .reg) (ho : openAt s off) (q : Requester) (v : Word)
    (f : State → Wr → State) : ∃ t, OnlyPower s t ∧ rowWrite q off v f s = .next (f t (.full q off v)) := by
  obtain ⟨t, h⟩ := ho
  exact ⟨t, gateOff_only hg h, by rw [rowWrite, h]⟩

/-! ### The registers of the interrupt controller (08 R188 to R190) -/

theorem icSourceChange_gives (s : State) (n : Fin 1024) (level : Bool) :
    Gives (.icSourceChange n level) s fun t => t.fb F.IC_SRC_LINE n = level ∧ (t.mem = s.mem ∧ t.cpus = s.cpus) ∧
      (level = true → s.fb F.IC_SRC_LINE n = false → s.fl F.IC_SRC_PRIO n ≠ 0 → t.fb F.IC_SRC_PENDING n = true) ∧
      (level = false → s.fb F.IC_SRC_EDGE n = false → t.fb F.IC_SRC_PENDING n = false) ∧
      (level = false → s.fb F.IC_SRC_EDGE n = true → t.fb F.IC_SRC_PENDING n = s.fb F.IC_SRC_PENDING n) := by
  have frame := setLine_frame s n level
  refine ⟨setLine s n level, rfl, setLine_line s n level, ⟨frame.mem, frame.cpus⟩, ?_, ?_, ?_⟩
  · rintro rfl was he
    exact setLine_rises was he
  · rintro rfl
    exact setLine_falls_level
  · rintro rfl
    exact setLine_falls_edge

/-- The fields of IC_SRC that a write may configure. -/
def srcConfig : List Fld := [F.IC_SRC_PRIO, F.IC_SRC_EDGE, F.IC_SRC_TARGETS]

theorem icSrc_reg (s : State) (n : Fin 1024) : target s (0xE00201000 + 8 * n.val) = .reg :=
  target_reg s (0xE00000000, 0xE008FFFFF) (by decide) (by omega)

section
variable {s : State} {q : Requester} {v : Word}

theorem icSrcWrite_gives {n : Fin 1024} (ho : openAt s (0xE00201000 + 8 * n.val)) (hs : s.fb F.IC_SRC_SECURE n = false) :
    Gives (.icSrcWrite q n v) s fun t => (∀ f ∈ srcConfig, t.fl f n = bitsOf v f) ∧
      (bitsOf v F.IC_SRC_PRIO = 0 → t.fb F.IC_SRC_PENDING n = false) ∧ t.mem = s.mem ∧ t.cpus = s.cpus := by
  obtain ⟨t, power, run⟩ := rowWrite_open (icSrc_reg s n) ho q v fun s w => icSrcRegWrite s w n
  have only := putFields_only t (.full q (0xE00201000 + 8 * n.val) v) n n srcConfig
  have config : ∀ f ∈ srcConfig, (putFields t (.full q (0xE00201000 + 8 * n.val) v) srcConfig n n).fl f n = bitsOf v f :=
    fun f hf => putFields_replaces (by decide) hf (by revert f; decide)
  have frame := icSettle_frame (putFields t (.full q (0xE00201000 + 8 * n.val) v) srcConfig n n) n
  refine ⟨_, run, ?_⟩
  rw [icSrcRegWrite, (power.fb _ _).trans hs, if_neg Bool.false_ne_true]
  exact ⟨fun f hf => (frame.fl f n (by revert f; decide)).trans (config f hf),
    fun h0 => icSettle_disabled ((config _ (by decide)).trans h0),
    frame.mem.trans (only.mem.trans power.mem), frame.cpus.trans (only.cpus.trans power.cpus)⟩

/-- The configuration of a secure source is locked. -/
theorem icSrcWrite_secure {n : Fin 1024} (ho : openAt s (0xE00201000 + 8 * n.val)) (hs : s.fb F.IC_SRC_SECURE n = true) :
    Gives (.icSrcWrite q n v) s fun t => (∀ f ∈ srcConfig, t.fl f n = s.fl f n) ∧
      t.fb F.IC_SRC_PENDING n = s.fb F.IC_SRC_PENDING n ∧ t.mem = s.mem ∧ t.cpus = s.cpus := by
  obtain ⟨t, power, run⟩ := rowWrite_open (icSrc_reg s n) ho q v fun s w => icSrcRegWrite s w n
  refine ⟨_, run, ?_⟩
  rw [icSrcRegWrite, if_pos ((power.fb _ _).trans hs)]
  exact ⟨fun f _ => power.fl f n, power.fb _ _, power.mem, power.cpus⟩

theorem icSwtrig_gives (ho : openAt s 0xE00200010) : Gives (.icSwtrig q v) s fun t =>
    signalled s t (bitsOf v F.IC_SWTRIG_SOURCE) ∧ t.mem = s.mem ∧ t.cpus = s.cpus := by
  have hg := target_reg s (off := 0xE00200010) (0xE00000000, 0xE008FFFFF) (by decide) (by decide)
  obtain ⟨t, power, run⟩ := rowWrite_open hg ho q v swtrigWrite
  have frame := raiseSource_frame t (bitsOf v F.IC_SWTRIG_SOURCE)
  refine ⟨_, run, ?_⟩
  rw [swtrigWrite, Wr.touches_full _ _ _ _ (by decide), if_pos rfl, Wr.bits_full]
  refine ⟨fun he hp => raiseSource_signalled t _ ?_ ?_, frame.mem.trans power.mem, frame.cpus.trans power.cpus⟩
  · rwa [power.fb]
  · rwa [power.fl]

end

/-! ### The registers of the queues (13 R294 to R297) -/

theorem atMachine_of {s : State} {w : Wr} (h : isMachine s w.q = true) (f : State → State) : atMachine s w f = f s := if_pos h

theorem atMachine_ignored {s : State} {w : Wr} (h : isMachine s w.q = false) (f : State → State) :
    atMachine s w f = ignoreWarn s w := if_neg (Bool.eq_false_iff.mp h)

theorem atRing0_of {s : State} {w : Wr} (h : isRing0 s w.q = true) (f : State → State) : atRing0 s w f = f s := if_pos h

theorem atRing0_ignored {s : State} {w : Wr} (h : isRing0 s w.q = false) (f : State → State) :
    atRing0 s w f = ignoreWarn s w := if_neg (Bool.eq_false_iff.mp h)

/-- The fields of a send queue's and of a receive queue's configuration, and with them the latter's OVERRUN. -/
def sqConfig : List Fld :=
  [F.NG_SQCFG_EN, F.NG_SQCFG_PART, F.NG_SQCFG_MINRING, F.NG_SQCFG_DEPTH, F.NG_SQCFG_IRQ, F.NG_SQCFG_RQ, F.NG_SQCFG_MGMT]
def rqConfig : List Fld :=
  [F.NG_RQCFG_EN, F.NG_RQCFG_PART, F.NG_RQCFG_MINRING, F.NG_RQCFG_STRIDE, F.NG_RQCFG_SLOTS, F.NG_RQCFG_IRQ]
def rqFields : List Fld := [F.NG_RQCFG_EN, F.NG_RQCFG_PART, F.NG_RQCFG_MINRING, F.NG_RQCFG_STRIDE, F.NG_RQCFG_SLOTS,
  F.NG_RQCFG_IRQ, F.NG_RQCFG_OVERRUN]

theorem queue_reg (s : State) {off : Nat} (h : 0xE01014000 ≤ off ∧ off ≤ 0xE010141FF) : target s off = .reg :=
  target_reg s (0xE01000000, 0xE02FFFFFF) (by decide) ⟨by omega, by omega⟩

/-- A one-bit field that takes the written value reads as that value's bit. -/
theorem State.fb_of_fl {s : State} {f : Fld} {i x : Nat} (h : s.fl f i = x) : s.fb f i = (x % 2 == 1) := by rw [State.fb, h]

section
variable {s : State} {q : Requester} {n : Fin 16} {v : Word}

/-- The new configuration, and what EN does to the queue. -/
theorem sqcfgWrite_eq {w : Wr} {i : Nat} (hm : isMachine s w.q = true) (ht : w.touches F.NG_SQCFG_EN = true) :
    let t := putFields s w sqConfig i i
    ∃ r, sqcfgWrite s w i = { t with router := r } ∧ (t.fb F.NG_SQCFG_EN i = false → mget [] r.sq i = []) ∧
      (t.fb F.NG_SQCFG_EN i = true → s.fb F.NG_SQCFG_EN i = false → mget 0 r.sent i = 0) := by
  rw [sqcfgWrite, atMachine_of hm, ← sqConfig]
  generalize putFields s w sqConfig i i = t
  dsimp only
  cases t.fb F.NG_SQCFG_EN i with
  | false =>
    simp only [ht, Bool.not_false, Bool.and_self, if_true]
    exact ⟨_, rfl, fun _ => mget_mset_same [] t.router.sq i [], nofun⟩
  | true =>
    cases s.fb F.NG_SQCFG_EN i with
    | false =>
      exact ⟨{ t.router with sent := mset 0 t.router.sent i 0 }, rfl, nofun, fun _ _ => mget_mset_same 0 t.router.sent i 0⟩
    | true => exact ⟨t.router, rfl, nofun, fun _ => nofun⟩

theorem ngSqcfgWrite_gives (ho : openAt s (0xE01014000 + 0x10 * n.val)) (hm : isMachine s q = true) :
    Gives (.ngSqcfgWrite q n v) s fun t => (∀ f ∈ sqConfig, t.fl f n = bitsOf v f) ∧
      (bitsOf v F.NG_SQCFG_EN = 0 → mget [] t.router.sq n = []) ∧
      (bitsOf v F.NG_SQCFG_EN = 1 → s.fb F.NG_SQCFG_EN n = false → mget 0 t.router.sent n = 0) ∧ t.mem = s.mem := by
  obtain ⟨t, power, run⟩ := rowWrite_open (queue_reg s (by omega)) ho q v fun s w => sqcfgWrite s w n
  have config : ∀ f ∈ sqConfig, (putFields t (.full q (0xE01014000 + 0x10 * n.val) v) sqConfig n n).fl f n = bitsOf v f :=
    fun f hf => putFields_replaces (by decide) hf (by revert f; decide)
  have en := State.fb_of_fl (config F.NG_SQCFG_EN (by decide))
  obtain ⟨r, write, discards, counts⟩ := sqcfgWrite_eq (i := n) (w := .full q (0xE01014000 + 0x10 * n.val) v)
    ((isMachine_congr power.cpus q).trans hm) (Wr.touches_full _ _ _ _ (by decide))
  refine ⟨_, run, ?_⟩
  rw [write]
  exact ⟨config, fun h0 => discards (by rw [en, h0]; rfl),
    fun h1 was => counts (by rw [en, h1]; rfl) ((power.fb _ _).trans was), (putFields_only _ _ _ _ _).mem.trans power.mem⟩

/-- A write of a machine-level register by another requester changes the fields of the record alone. -/
theorem machineWrite_refused {i : Instr} {off : Nat} {act : State → Wr → State}
    (hi : exec i s = rowWrite q off v act s) (ha : ∀ t w, isMachine t w.q = false → act t w = ignoreWarn t w)
    (hg : target s off = .reg) (ho : openAt s off) (hm : isMachine s q = false) :
    Gives i s fun t => (∀ f j, dregsField f = false → t.fl f j = s.fl f j) ∧ t.router = s.router := by
  obtain ⟨t, power, run⟩ := rowWrite_open hg ho q v act
  rw [ha t _ ((isMachine_congr power.cpus q).trans hm)] at run
  exact ⟨_, hi.trans run, fun f j hf => (fl_dregs _ _ _ _ _ _ hf).trans (power.fl f j),
    (dregs_router _ _ _ _ _).trans power.router⟩

theorem ngSqcfgWrite_refused (ho : openAt s (0xE01014000 + 0x10 * n.val)) (hm : isMachine s q = false) :
    Gives (.ngSqcfgWrite q n v) s fun t => (∀ f ∈ sqConfig, t.fl f n = s.fl f n) ∧ t.router = s.router := by
  obtain ⟨t, run, fields, router⟩ := machineWrite_refused (i := .ngSqcfgWrite q n v)
    (act := fun s w => sqcfgWrite s w n) rfl (fun _ _ h => atMachine_ignored h _) (queue_reg s (by omega)) ho hm
  exact ⟨t, run, fun f hf => fields f n (by revert f; decide), router⟩

theorem ngRqcfgWrite_refused (ho : openAt s (0xE01014100 + 0x10 * n.val)) (hm : isMachine s q = false) :
    Gives (.ngRqcfgWrite q n v) s fun t => (∀ f ∈ rqConfig, t.fl f n = s.fl f n) ∧ t.router = s.router := by
  obtain ⟨t, run, fields, router⟩ := machineWrite_refused (i := .ngRqcfgWrite q n v)
    (act := fun s w => rqcfgWrite s w n) rfl (fun _ _ h => atMachine_ignored h _) (queue_reg s (by omega)) ho hm
  exact ⟨t, run, fun f hf => fields f n (by revert f; decide), router⟩

/-- A receive queue's new configuration, with EN = 1 emptying its ring. -/
theorem rqcfgWrite_eq {w : Wr} {i : Nat} (hm : isMachine s w.q = true) :
    ∃ r, rqcfgWrite s w i = rqLine { putFields s w rqFields i i with router := r } i ∧
      (w.on F.NG_RQCFG_EN = true → mget {} r.rq i = {}) := by
  rw [rqcfgWrite, atMachine_of hm, ← rqFields]
  generalize putFields s w rqFields i i = t
  dsimp only
  cases w.on F.NG_RQCFG_EN with
  | true => exact ⟨{ t.router with rq := mset {} t.router.rq i {} }, rfl, fun _ => mget_mset_same {} t.router.rq i {}⟩
  | false => exact ⟨t.router, rfl, nofun⟩

theorem ngRqcfgWrite_gives (ho : openAt s (0xE01014100 + 0x10 * n.val)) (hm : isMachine s q = true) :
    Gives (.ngRqcfgWrite q n v) s fun t => (∀ f ∈ rqConfig, t.fl f n = bitsOf v f) ∧
      (bitsOf v F.NG_RQCFG_EN = 1 → mget {} t.router.rq n = {}) ∧
      (bitsOf v F.NG_RQCFG_OVERRUN = 1 → t.fb F.NG_RQCFG_OVERRUN n = false) ∧ t.mem = s.mem := by
  obtain ⟨t, power, run⟩ := rowWrite_open (queue_reg s (by omega)) ho q v fun s w => rqcfgWrite s w n
  obtain ⟨r, write, empties⟩ := rqcfgWrite_eq (i := n) (w := .full q (0xE01014100 + 0x10 * n.val) v)
    ((isMachine_congr power.cpus q).trans hm)
  have config : ∀ f ∈ rqConfig, (putFields t (.full q (0xE01014100 + 0x10 * n.val) v) rqFields n n).fl f n = bitsOf v f :=
    fun f hf => putFields_replaces (by decide) (by revert f; decide) (by revert f; decide)
  have overrun := putFields_w1c (s := t) (q := q) (off := 0xE01014100 + 0x10 * n.val) (v := v) (fs := rqFields) (i := n)
    (unit := n) (f := F.NG_RQCFG_OVERRUN) (by decide) (by decide) rfl rfl (by decide) (by decide)
  have frame := rqLine_frame { putFields t (.full q (0xE01014100 + 0x10 * n.val) v) rqFields n n with router := r } n
  refine ⟨_, run, ?_⟩
  rw [write]
  refine ⟨fun f hf => (frame.fl f n (by revert f; decide)).trans (config f hf), fun h1 => ?_, fun h1 => ?_,
    frame.mem.trans ((putFields_only _ _ _ _ _).mem.trans power.mem)⟩
  · rw [frame.router]
    exact empties (by rw [Wr.on, Wr.bits_full, h1]; rfl)
  · have one : v.getLsbD F.NG_RQCFG_OVERRUN.lo = true := by
      rw [bitsOf_one_bit v rfl] at h1
      by_contra h
      rw [Bool.not_eq_true] at h
      rw [h] at h1
      cases h1
    rw [frame.fb _ _ (by decide)]
    exact overrun.trans (by rw [one, Bool.not_true, Bool.and_false])

end

/-! ### Finding a register by its offset (01 R29) -/

/-- A group with no element at an offset is passed over. -/
theorem findReg_skip {off : Nat} {gs : List RegGroup} (h : ∀ g ∈ gs, elemOf g off = none) (hs : List RegGroup) :
    findReg off (gs ++ hs) = findReg off hs := by
  induction gs with
  | nil => rfl
  | cons g gs ih =>
    rw [List.cons_append, findReg, h g List.mem_cons_self]
    exact ih fun x hx => h x (List.mem_cons_of_mem g hx)

/-- The offset of an element names that element. -/
theorem elemOf_at {g : RegGroup} {i j : Nat} (hi : i < g.n1) (hj : j < g.n2) (hs : 0 < g.s2) (hr : g.n2 * g.s2 ≤ g.s1) :
    elemOf g (g.base + g.s1 * i + g.s2 * j) = some (i, j) := by
  have within : g.s2 * j < g.s1 := (Nat.mul_lt_mul_of_pos_left hj hs).trans_le (by rwa [Nat.mul_comm])
  have d : g.base + g.s1 * i + g.s2 * j - g.base = g.s1 * i + g.s2 * j := by omega
  have row : (g.s1 * i + g.s2 * j) / g.s1 = i := by rw [Nat.mul_add_div (by omega), Nat.div_eq_of_lt within, Nat.add_zero]
  have rest : (g.s1 * i + g.s2 * j) % g.s1 = g.s2 * j := by rw [Nat.mul_add_mod, Nat.mod_eq_of_lt within]
  simp only [elemOf, d, row, rest, Nat.mul_div_cancel_left j hs, Nat.mul_mod_right]
  exact if_pos (by simp [hi, hj, Nat.add_assoc])

theorem elemOf_outside {g : RegGroup} {off : Nat} (h : off < g.base ∨ (0 < g.s1 ∧ g.base + g.n1 * g.s1 ≤ off)) :
    elemOf g off = none := by
  refine if_neg fun hc => ?_
  simp only [Bool.and_eq_true, decide_eq_true_eq] at hc
  rcases h with h | ⟨hs, h⟩
  · omega
  · have : g.n1 ≤ (off - g.base) / g.s1 := (Nat.le_div_iff_mul_le hs).mpr (by omega)
    omega

/-- One register of every Infuser, at an offset in its block that is less than that of the parameters (20 R426). -/
def beforeParams (g : RegGroup) : Bool :=
  g.s1 == 0x1000 && g.n2 == 1 && g.s2 == 8 && decide (0xE02010000 ≤ g.base ∧ g.base + 8 ≤ 0xE02010100)

theorem elemOf_beforeParams {g : RegGroup} (h : beforeParams g = true) (i : Fin 32) {j : Nat} (hj : j < 32) :
    elemOf g (0xE02010100 + 0x1000 * i.val + 8 * j) = none := by
  simp only [beforeParams, Bool.and_eq_true, beq_iff_eq, decide_eq_true_eq] at h
  obtain ⟨⟨⟨h1, h2⟩, h3⟩, h4⟩ := h
  refine if_neg fun hc => ?_
  simp only [Bool.and_eq_true, decide_eq_true_eq, h1, h2, h3] at hc
  omega

theorem findReg_param (i : Fin 32) {j : Nat} (hj : j < 32) :
    findReg (0xE02010100 + 0x1000 * i.val + 8 * j) regGroups = some (G.IF_PARAM, i.val, j) := by
  have before : ∀ g ∈ regGroups0 ++ regGroups1 ++ regGroups2 ++ regGroups3 ++ regGroups4.take 5,
      beforeParams g = true ∨ 0xE02030000 ≤ g.base ∨ 0 < g.s1 ∧ g.base + g.n1 * g.s1 ≤ 0xE02010100 := by decide
  have parts : regGroups = (regGroups0 ++ regGroups1 ++ regGroups2 ++ regGroups3 ++ regGroups4.take 5) ++
      G.IF_PARAM :: (regGroups4.drop 6 ++ regGroups5 ++ regGroups6) := rfl
  have here : elemOf G.IF_PARAM (0xE02010100 + 0x1000 * i.val + 8 * j) = some (i.val, j) :=
    elemOf_at i.isLt hj (by decide) (by decide)
  rw [parts, findReg_skip, findReg, here]
  intro g hg
  rcases before g hg with h | h | h
  · exact elemOf_beforeParams h i hj
  · exact elemOf_outside (.inl (by omega))
  · exact elemOf_outside (.inr ⟨h.1, by omega⟩)

/-! ### Register writes (00 R8; 01 R29, R31; 14 R309) -/

/-- An offset of neither the Infusers' SRAM, the mailbox nor the PCIe windows: nothing but its register stands there. -/
def plainOffset (off : Nat) : Bool :=
  (sramOf off).isNone && (mbChannel off).isNone && !inOutbound off && !inMbBuffer off

/-- A core's write of a whole register that the unit lets through is the write of its group's element. -/
theorem registerWrite_reg {s t : State} {c : Fin 16} {addr : BitVec 36} {v : Word} {g : RegGroup} {i j : Nat}
    (hg : target s addr.toNat = .reg) (h8 : addr.toNat % 8 = 0) (ho : gateOff s addr.toNat = .ok () t)
    (hp : plainOffset addr.toNat = true) (hf : findReg addr.toNat regGroups = some (g, i, j)) :
    exec (.registerWrite (.core c) addr 1 v) s = .next (regWrite t (.full (.core c) addr.toNat v) g i j) := by
  have aligned : addr.toNat / 8 * 8 = addr.toNat := by omega
  simp only [plainOffset, Bool.and_eq_true, Option.isNone_iff_eq_none, Bool.not_eq_true'] at hp
  obtain ⟨⟨⟨hsram, hmb⟩, hout⟩, hbuf⟩ := hp
  have write : deviceWrite s (.core c) addr.toNat 8 v = .ok () (regWrite t (.full (.core c) addr.toNat v) g i j) := by
    simp [deviceWrite, ho, Res.bind, hsram, hmb, hout, hbuf, aligned, hf, Wr.at]
  change execRegisterWrite (.core c) addr 1 v s = _
  simp [execRegisterWrite, hg, h8, write]

/-- The flags of KT_RSTCAUSE, which a 1 clears, and what the part alone writes there (03). -/
def causeFlags : List Fld :=
  [F.KT_RSTCAUSE_POR, F.KT_RSTCAUSE_BOR, F.KT_RSTCAUSE_SWR, F.KT_RSTCAUSE_WDR, F.KT_RSTCAUSE_TFR, F.KT_RSTCAUSE_DBR]
def causeNotes : List Fld := [F.KT_RSTCAUSE_LAST, F.KT_RSTCAUSE_COUNT, F.KT_RSTCAUSE_TFR_CORE]

theorem rstcauseWrite_gives (s : State) (c : Fin 16) (v : Word) : Gives (.registerWrite (.core c) 0xE00000008 1 v) s fun t =>
    (∀ f ∈ causeFlags, t.fb f 0 = (s.fb f 0 && !v.getLsbD f.lo)) ∧ (∀ f ∈ causeNotes, t.fl f 0 = s.fl f 0) ∧
    t.mem = s.mem := by
  have hg : target s 0xE00000008 = .reg := target_reg s (0xE00000000, 0xE008FFFFF) (by decide) (by decide)
  have ho : gateOff s 0xE00000008 = .ok () s := by
    rw [gateOff, hg]
    simp [regUnit, gate]
  refine ⟨_, registerWrite_reg (addr := 0xE00000008) hg rfl ho rfl (g := G.KT_RSTCAUSE) (i := 0) (j := 0) rfl, ?_⟩
  change (∀ f ∈ causeFlags, (putFields s (.full (.core c) 0xE00000008 v) G.KT_RSTCAUSE.fields 0 0).fb f 0 = _) ∧
    (∀ f ∈ causeNotes, (putFields s (.full (.core c) 0xE00000008 v) G.KT_RSTCAUSE.fields 0 0).fl f 0 = _) ∧ _
  have flags : ∀ f ∈ causeFlags, f ∈ G.KT_RSTCAUSE.fields ∧ f.acc = .w1c ∧ f.hi = f.lo ∧ f.lo ≤ 63 ∧
      anyClears f = false := by decide
  have notes : ∀ f ∈ causeNotes, f ∈ G.KT_RSTCAUSE.fields ∧ f.acc = .ro := by decide
  refine ⟨fun f hf => ?_, fun f hf => ?_, (putFields_only _ _ _ _ _).mem⟩
  · obtain ⟨mem, acc, hi, lo, any⟩ := flags f hf
    exact putFields_w1c (by decide) mem acc hi lo any
  · obtain ⟨mem, acc⟩ := notes f hf
    exact putFields_ro (by decide) mem acc

section
variable {s : State} {c : Fin 16} {i : Fin 32} {j : Nat} {v : Word}

theorem bitsOf_param (v : Word) : bitsOf v F.IF_PARAM_DATA = v.toNat := by
  have := v.isLt
  simp only [bitsOf, F.IF_PARAM_DATA, Fld.width]
  omega

/-- While epochs run, the value written to a parameter goes to its shadow, which the next epoch pours (14 R309). -/
theorem putField_param_pending {t : State} (he : t.epochOn = true) (q : Requester) (off e unit : Nat) :
    putField t (.full q off v) F.IF_PARAM_DATA e unit = t.setSh F.IF_PARAM_DATA e v.toNat := by
  have runs : sourceStopped t .epoch unit = false := by simp [sourceStopped, he]
  have merge := Wr.merge_full q off v F.IF_PARAM_DATA (t.shv F.IF_PARAM_DATA e) (by decide)
  rw [bitsOf_param] at merge
  rw [putField, Wr.touches_full _ _ _ _ (by decide), merge]
  exact if_neg (Bool.eq_false_iff.mp runs)

/-- Otherwise it acts at once (14 R307). -/
theorem putField_param_now {t : State} (he : t.epochOn = false) (q : Requester) (off e unit : Nat) :
    putField t (.full q off v) F.IF_PARAM_DATA e unit = (t.setF F.IF_PARAM_DATA e v.toNat).dropSh F.IF_PARAM_DATA e := by
  have stands : sourceStopped t .epoch unit = true := by simp [sourceStopped, he]
  have merge := Wr.merge_full q off v F.IF_PARAM_DATA (t.shv F.IF_PARAM_DATA e) (by decide)
  rw [bitsOf_param] at merge
  rw [putField, Wr.touches_full _ _ _ _ (by decide), merge]
  exact if_pos stands

theorem plainOffset_infuser {off : Nat} (h : 0xE02000000 ≤ off ∧ off < 0xE02100000) : plainOffset off = true := by
  have below {n : Nat} (hn : n ≤ 0xE02000000) : decide (off < n) = false := decide_eq_false (by omega)
  have above {n : Nat} (hn : 0xE02100000 ≤ n) : decide (n ≤ off) = false := decide_eq_false (by omega)
  simp [plainOffset, sramOf, mbChannel, inOutbound, inMbBuffer, below, above, -decide_eq_false_iff_not]

/-- A write of a parameter of an Infuser that the unit lets through is one at ring 0 by its access code (20 R426). -/
theorem paramWrite_run (ho : openAt s (0xE02010100 + 0x1000 * i.val + 8 * j)) (hj : j < 32) :
    ∃ t, OnlyPower s t ∧ exec (.registerWrite (.core c) (BitVec.ofNat 36 (0xE02010100 + 0x1000 * i.val + 8 * j)) 1 v) s =
        .next (atRing0 t (.full (.core c) (0xE02010100 + 0x1000 * i.val + 8 * j) v) fun t =>
          putField t (.full (.core c) (0xE02010100 + 0x1000 * i.val + 8 * j) v) F.IF_PARAM_DATA (32 * i.val + j) i) := by
  obtain ⟨t, ho⟩ := ho
  have hn : (BitVec.ofNat 36 (0xE02010100 + 0x1000 * i.val + 8 * j)).toNat = 0xE02010100 + 0x1000 * i.val + 8 * j := by
    rw [BitVec.toNat_ofNat]
    omega
  have hg : target s (0xE02010100 + 0x1000 * i.val + 8 * j) = .reg :=
    target_reg s (0xE01000000, 0xE02FFFFFF) (by decide) ⟨by omega, by omega⟩
  have hp := plainOffset_infuser (off := 0xE02010100 + 0x1000 * i.val + 8 * j) ⟨by omega, by omega⟩
  have run := registerWrite_reg (c := c) (v := v) (hn.symm ▸ hg) (by rw [hn]; omega) (hn.symm ▸ ho) (hn.symm ▸ hp)
    (hn.symm ▸ findReg_param i hj)
  refine ⟨t, gateOff_only hg ho, run.trans ?_⟩
  rw [hn, Nat.mul_comm 32]
  rfl

theorem paramWrite_pending (ho : openAt s (0xE02010100 + 0x1000 * i.val + 8 * j)) (hj : j < 32)
    (hr : isRing0 s (.core c) = true) (he : s.epochOn = true) :
    Gives (.registerWrite (.core c) (BitVec.ofNat 36 (0xE02010100 + 0x1000 * i.val + 8 * j)) 1 v) s fun t =>
      t.shv F.IF_PARAM_DATA (32 * i.val + j) = v.toNat ∧
      t.fl F.IF_PARAM_DATA (32 * i.val + j) = s.fl F.IF_PARAM_DATA (32 * i.val + j) := by
  obtain ⟨t, power, run⟩ := paramWrite_run (c := c) (v := v) ho hj
  rw [atRing0_of ((isRing0_congr power.cpus _).trans hr), putField_param_pending ((power.fb _ _).trans he)] at run
  exact ⟨_, run, (State.shv_setSh_same _ _ _ _).trans (Nat.mod_eq_of_lt v.isLt), power.fl _ _⟩

theorem paramWrite_now (ho : openAt s (0xE02010100 + 0x1000 * i.val + 8 * j)) (hj : j < 32)
    (hr : isRing0 s (.core c) = true) (he : s.epochOn = false) :
    Gives (.registerWrite (.core c) (BitVec.ofNat 36 (0xE02010100 + 0x1000 * i.val + 8 * j)) 1 v) s fun t =>
      t.fl F.IF_PARAM_DATA (32 * i.val + j) = v.toNat := by
  obtain ⟨t, power, run⟩ := paramWrite_run (c := c) (v := v) ho hj
  rw [atRing0_of ((isRing0_congr power.cpus _).trans hr), putField_param_now ((power.fb _ _).trans he)] at run
  exact ⟨_, run, (State.fl_setF_same _ _ _ _).trans (Nat.mod_eq_of_lt v.isLt)⟩

/-- From another ring the write is ignored with a record (17 R491). -/
theorem paramWrite_refused (ho : openAt s (0xE02010100 + 0x1000 * i.val + 8 * j)) (hj : j < 32)
    (hr : isRing0 s (.core c) = false) :
    Gives (.registerWrite (.core c) (BitVec.ofNat 36 (0xE02010100 + 0x1000 * i.val + 8 * j)) 1 v) s fun t =>
      t.fl F.IF_PARAM_DATA (32 * i.val + j) = s.fl F.IF_PARAM_DATA (32 * i.val + j) ∧ t.sh = s.sh := by
  obtain ⟨t, power, run⟩ := paramWrite_run (c := c) (v := v) ho hj
  rw [atRing0_ignored ((isRing0_congr power.cpus _).trans hr)] at run
  exact ⟨_, run, (fl_dregs _ _ _ _ _ _ (by decide)).trans (power.fl _ _), (dregs_sh _ _ _ _ _).trans power.sh⟩

end

/-- The fabric's write of a block marked Never leaves a record and nothing else (01 R31). -/
theorem neverWrite_gives {s : State} {off : BitVec 36} (hg : target s off.toNat = .reg) (hn : neverFabric off.toNat = true)
    (hq : s.dregs.queue.length < 16) (l : Fin 34) (src : BitVec 18) (cmd : BitVec 4) (part : BitVec 6)
    (size : Fin 2) (v : Word) :
    Gives (.registerWrite (.fabric l src cmd part) off size v) s fun t => t.flds = s.flds ∧ t.sh = s.sh ∧ t.mem = s.mem ∧
      ∃ r, t.dregs.queue = s.dregs.queue ++ [r] ∧ r.cls = 1 ∧ r.code = 0x91 := by
  have run : exec (.registerWrite (.fabric l src cmd part) off size v) s =
      .next (warnNever s (.fabric l src cmd part) off.toNat src cmd) := by
    change execRegisterWrite _ off size v s = _
    simp [execRegisterWrite, hg, hn]
  refine ⟨_, run, ?_⟩
  rw [warnNever, dregs, dregsOfferRec, if_pos hq]
  exact ⟨rfl, rfl, rfl, _, rfl, rfl, rfl⟩

/-! ### O33 -/

/-- Settles O33: the sources of the interrupt controller, the queues' configuration, and writes by access code. -/
theorem unitRegisters : Obligations.UnitRegisters := by
  refine ⟨fun s q n level v => ?_, fun s q n v => ?_, fun s c i j v l src cmd part off size => ?_⟩
  · exact ⟨icSourceChange_gives s n level, icSrcWrite_gives, icSrcWrite_secure, icSwtrig_gives⟩
  · exact ⟨ngSqcfgWrite_gives, ngSqcfgWrite_refused, ngRqcfgWrite_gives, ngRqcfgWrite_refused⟩
  · exact ⟨rstcauseWrite_gives s c v, fun ho hr he => paramWrite_pending ho.1 ho.2 hr he,
      fun ho hr he => paramWrite_now ho.1 ho.2 hr he, fun ho hr => paramWrite_refused ho.1 ho.2 hr,
      fun hg hn hq => neverWrite_gives hg hn hq l src cmd part size v⟩

end Sys2Proof.Machine
end

section
/-! The exceptions and interrupts family (spec 08): the entries of a core at an instruction boundary (O22). -/

namespace Sys2Proof.Machine

/-! ### What entries leave alone beside the processor -/

section
variable (s : State) (n : Nat)

theorem countOne_latches : FieldsKept besideLatches s (countOne s n) := by
  have counted := setF_latches s (f := F.PC_CNT_COUNT) n (s.fl F.PC_CNT_COUNT n + 1) rfl
  have full := counted.trans (setF_latches _ (f := F.PC_CNT_OVF) n (b2n true) rfl)
  exact .ite (.ite (full.trans (raiseSource_latches _ 280)) full) counted

theorem countCore_latches (ev : Nat) (c : Fin 16) : FieldsKept besideLatches s (countCore s ev c) :=
  .ite (.of_flds rfl) (.foldl (fun t n => .ite (countOne_latches t n) (.of_flds rfl)) _ s)

/-- An event of one source makes no other pending. -/
theorem raiseSource_pending_ne {m : Nat} (h : n % 4096 ≠ m % 4096) :
    (raiseSource s m).fb F.IC_SRC_PENDING n = s.fb F.IC_SRC_PENDING n := by
  have pend (t : State) : (icPend t m).fb F.IC_SRC_PENDING n = t.fb F.IC_SRC_PENDING n := by
    unfold icPend
    split
    · rfl
    · rw [icCommit_keepsPending, State.fb, State.fb, State.setB, State.fl_setF_ix _ _ _ h.symm]
  unfold raiseSource
  split
  · exact pend s
  · split
    · rfl
    · exact pend _

/-- A counted event makes no source but 280 pending. -/
theorem countCore_pending_ne (h : n % 4096 ≠ 280) (ev : Nat) (c : Fin 16) :
    (countCore s ev c).fb F.IC_SRC_PENDING n = s.fb F.IC_SRC_PENDING n := by
  have one (t : State) (m : Nat) : (countOne t m).fb F.IC_SRC_PENDING n = t.fb F.IC_SRC_PENDING n := by
    have set (u : State) {f : Fld} (i v : Nat) (hf : f.id ≠ F.IC_SRC_PENDING.id) := State.fb_setF_id u i n v hf
    unfold countOne
    dsimp only
    split
    · split
      · rw [raiseSource_pending_ne _ _ (by simpa using h), State.setB, set _ _ _ (by decide), set _ _ _ (by decide)]
      · rw [State.setB, set _ _ _ (by decide), set _ _ _ (by decide)]
    · exact set _ _ _ (by decide)
  unfold countCore countEvent
  split
  · rfl
  · refine foldl_keeps (fun t : State => t.fb F.IC_SRC_PENDING n) (fun t m => ?_) _ s
    split
    · exact one t m
    · rfl

end

/-- What an entry leaves alone: memory, the inputs of the sources and what is active of them, and what is pending, but for the
source of the counters. -/
structure Aside (s t : State) : Prop where
  mem : t.mem = s.mem
  latches : FieldsKept besideLatches s t
  pending : ∀ n, n % 4096 ≠ 280 → t.fb F.IC_SRC_PENDING n = s.fb F.IC_SRC_PENDING n

section
variable {s t u : State}

theorem Aside.trans (h : Aside s t) (h' : Aside t u) : Aside s u :=
  ⟨h'.mem.trans h.mem, h.latches.trans h'.latches, fun n hn => (h'.pending n hn).trans (h.pending n hn)⟩

theorem aside_setCpu (s : State) (p : Proc) (k : Cpu) : Aside s (s.setCpu p k) := ⟨rfl, .of_flds rfl, fun _ _ => rfl⟩

theorem aside_countCore (s : State) (ev : Nat) (c : Fin 16) : Aside s (countCore s ev c) :=
  ⟨countCore_mem s ev c, countCore_latches s ev c, fun n hn => countCore_pending_ne s n hn ev c⟩

end

/-! ### The abandoned instruction (05 R123; 08 R182) -/

theorem interruptAbandons_gives (s : State) (c : Fin 16) : Aside s (interruptAbandons s c) ∧
    ∃ r, (interruptAbandons s c).cpu (.core c) = { s.cpu (.core c) with wait := .none, rtags := r } := by
  have abandons (t : State) : Aside t (abandon t c) ∧
      ∃ r, (abandon t c).cpu (.core c) = { t.cpu (.core c) with wait := .none, rtags := r } := by
    unfold abandon
    dsimp only
    split
    · exact ⟨aside_setCpu t _ _, _, State.cpu_setCpu_same _ _ _⟩
    · exact ⟨aside_setCpu t _ _, (t.cpu (.core c)).rtags, State.cpu_setCpu_same _ _ _⟩
  unfold interruptAbandons
  dsimp only
  split
  · obtain ⟨aside, r, hr⟩ := abandons (countCore s 0x09 c)
    exact ⟨(aside_countCore s 0x09 c).trans aside, r, hr.trans (by rw [cpu_countCore])⟩
  · exact abandons s

/-! ### What an entry saves, and the frame that it reserves (R83; 08 R178, R180) -/

/-- Core `k` has entered bank `b` as core `u`, at the vector `vec`: the bank holds where, why, and STATUS with the writes of IE
and IPL that were pending. -/
def EntrySaves (k u : Cpu) (b cause sub : Nat) (epc vec : Word) : Prop :=
  let x := u.bank b
  u.pc = vec ∧ x.epc = epc &&& ~~~3 ∧ x.cause = BitVec.ofNat 8 cause ∧ x.sub = BitVec.ofNat 16 sub ∧
  x.saved.bank = k.st.bank ∧ x.saved.ie = k.pendIe.getD k.st.ie ∧ x.saved.ipl = k.pendIpl.getD k.st.ipl ∧
  x.saved.exl = k.st.exl ∧ x.saved.fpd = (k.st.fpd || (k.bank k.st.bank.toNat).owes) ∧ u.st.bank = BitVec.ofNat 4 b ∧
  u.st.exl = true ∧ u.st.live.getLsbD b = true

/-- Nothing is waited for, and the entered bank has a lazy frame below g30, or none; every register is as before otherwise. -/
structure EntryFrame (k u : Cpu) (b : Nat) (reserves : Bool) : Prop where
  fres : (u.bank b).fres = reserves
  fwr : (u.bank b).fwr = false
  wait : u.wait = .none
  regs : ∀ (i : Nat) (r : RegNo), u.rd i r = if reserves = true ∧ i = b ∧ r = 30 then k.rd b 30 - 544 else k.rd i r

/-- The same of the core between two states, and memory as before. -/
def Framed (s t : State) (c : Fin 16) (b : Nat) (reserves : Bool) : Prop :=
  let k := s.cpu (.core c)
  let u := t.cpu (.core c)
  (u.bank b).fres = reserves ∧ (u.bank b).fwr = false ∧ u.wait = .none ∧ t.mem = s.mem ∧
  ∀ (i : Nat) (r : RegNo), u.rd i r = if reserves = true ∧ i = b ∧ r = 30 then k.rd b 30 - 544 else k.rd i r

/-- An entry of core `k` into the machine level. -/
structure MachineEntry (k u : Cpu) (offset : Word) (cause sub : Nat) (epc : Word) : Prop where
  saves : EntrySaves k u 9 cause sub epc (mvecBase k + offset)
  frame : EntryFrame k u 9 false
  ml : u.st.ml = true
  ie : u.st.ie = false
  dbgReq : u.dbgReq = k.dbgReq

section
variable {k u w : Cpu} {b cause sub : Nat} {epc vec offset : Word} {x : Bank}

theorem entrySaves_of_bank (hx : u.bank b = x) (hpc : u.pc = vec) (h1 : x.epc = epc &&& ~~~3)
    (h2 : x.cause = BitVec.ofNat 8 cause) (h3 : x.sub = BitVec.ofNat 16 sub) (h4 : x.saved = savedStatus k)
    (h5 : u.st.bank = BitVec.ofNat 4 b) (h6 : u.st.exl = true) (h7 : u.st.live.getLsbD b = true) :
    EntrySaves k u b cause sub epc vec := by
  subst hx
  exact ⟨hpc, h1, h2, h3, (congrArg Status.bank h4 :), (congrArg Status.ie h4 :), (congrArg Status.ipl h4 :),
    (congrArg Status.exl h4 :), (congrArg Status.fpd h4 :), h5, h6, h7⟩

/-- A bank that keeps what the entry saved, in a core that keeps the rest. -/
theorem EntrySaves.of_bank (h : EntrySaves k u b cause sub epc vec) (hx : w.bank b = x)
    (hpc : w.pc = u.pc) (hst : w.st = u.st) (h1 : x.epc = (u.bank b).epc) (h2 : x.cause = (u.bank b).cause)
    (h3 : x.sub = (u.bank b).sub) (h4 : x.saved = (u.bank b).saved) : EntrySaves k w b cause sub epc vec := by
  subst hx
  unfold EntrySaves at h ⊢
  dsimp only at h ⊢
  rwa [hpc, hst, h1, h2, h3, h4]

/-- A core whose registers are as before has no frame reserved. -/
theorem entryFrame_none (h1 : (u.bank b).fres = false) (h2 : (u.bank b).fwr = false) (hw : u.wait = .none) (hg : u.g = k.g) :
    EntryFrame k u b false := by
  refine ⟨h1, h2, hw, fun i r => ?_⟩
  rw [if_neg (fun h => nomatch h.1), Cpu.rd, Cpu.rd, hg]

theorem enterMachine_entry (s : State) (c : Fin 16) (offset : Word) (cause sub : Nat) (mepc : Word) (ea : Option Word) :
    MachineEntry (s.cpu (.core c)) ((enterMachine s c offset cause sub mepc ea).cpu (.core c)) offset cause sub mepc := by
  unfold enterMachine
  rw [cpu_countCore, State.cpu_setCpu_same]
  have bank (k : Cpu) (x : Bank) := Cpu.bank_setBank_same k 9 x
  refine ⟨entrySaves_of_bank (bank _ _) rfl rfl rfl rfl rfl rfl rfl ?_, entryFrame_none ?_ ?_ rfl rfl, rfl, rfl, rfl⟩
  · simp
  · exact congrArg Bank.fres (bank _ _)
  · exact congrArg Bank.fwr (bank _ _)

theorem enterMachine_aside (s : State) (c : Fin 16) (offset : Word) (cause sub : Nat) (mepc : Word) (ea : Option Word) :
    Aside s (enterMachine s c offset cause sub mepc ea) := (aside_setCpu s _ _).trans (aside_countCore _ 0x08 c)

/-- What an interrupt abandons, and the supervisory events, are no part of what an entry saves. -/
theorem MachineEntry.of_before {w : Wait} {r : List RTag} {e : BitVec 5} {m : Bool}
    (h : MachineEntry { k with wait := w, rtags := r, supPend := e, mustTake := m } u offset cause sub epc) :
    MachineEntry k u offset cause sub epc :=
  ⟨h.saves, ⟨h.frame.fres, h.frame.fwr, h.frame.wait, h.frame.regs⟩, h.ml, h.ie, h.dbgReq⟩

/-- A change of the bank beside what the entry saves there. -/
theorem MachineEntry.of_bank (h : MachineEntry k u offset cause sub epc) (h1 : x.epc = (u.bank 9).epc)
    (h2 : x.cause = (u.bank 9).cause) (h3 : x.sub = (u.bank 9).sub) (h4 : x.saved = (u.bank 9).saved)
    (h5 : x.fres = (u.bank 9).fres) (h6 : x.fwr = (u.bank 9).fwr) :
    MachineEntry k (u.setBank 9 x) offset cause sub epc := by
  have bank := Cpu.bank_setBank_same u 9 x
  exact ⟨h.saves.of_bank bank rfl rfl h1 h2 h3 h4, ⟨(congrArg Bank.fres bank).trans (h5.trans h.frame.fres),
    (congrArg Bank.fwr bank).trans (h6.trans h.frame.fwr), h.frame.wait, h.frame.regs⟩, h.ml, h.ie, h.dbgReq⟩

/-- An entry to the machine level at a boundary. -/
theorem enterMachineAt_entry (s : State) (c : Fin 16) (offset : Word) (cause sub : Nat) :
    MachineEntry (s.cpu (.core c)) ((enterMachineAt s c offset cause sub).cpu (.core c)) offset cause sub
      (s.cpu (.core c)).pc := by
  obtain ⟨-, r, hr⟩ := interruptAbandons_gives s c
  have pc : ((interruptAbandons s c).cpu (.core c)).pc = (s.cpu (.core c)).pc := by rw [hr]
  have entry := enterMachine_entry (interruptAbandons s c) c offset cause sub (s.cpu (.core c)).pc none
  rw [hr] at entry
  rw [enterMachineAt, pc]
  exact entry.of_before

/-- The entry itself raises no supervisory event and takes none. -/
theorem enterMachineAt_supPend (s : State) (c : Fin 16) (offset : Word) (cause sub : Nat) :
    ((enterMachineAt s c offset cause sub).cpu (.core c)).supPend = (s.cpu (.core c)).supPend := by
  obtain ⟨-, r, hr⟩ := interruptAbandons_gives s c
  rw [enterMachineAt, enterMachine, cpu_countCore, State.cpu_setCpu_same, hr]
  rfl

theorem enterMachineAt_aside (s : State) (c : Fin 16) (offset : Word) (cause sub : Nat) :
    Aside s (enterMachineAt s c offset cause sub) :=
  (interruptAbandons_gives s c).1.trans (enterMachine_aside _ c offset cause sub _ none)

end

/-! ### Records and triggers (08 R185, R186; 17 R368 to R371, R377 to R381) -/

/-- Nothing of the core but its pending supervisory events differs. -/
def EventsOnly (k u : Cpu) : Prop := ∃ e, u = { k with supPend := e }

/-- What a trigger leaves alone: of the processors everything but events, of the sources their inputs and what is active. -/
structure TripKeeps (s t : State) : Prop where
  cpus : ∀ p, EventsOnly (s.cpu p) (t.cpu p)
  latches : FieldsKept besideLatches s t

namespace TripKeeps
variable {s t u : State}

theorem of_cpus (h : t.cpus = s.cpus) (hl : FieldsKept besideLatches s t) : TripKeeps s t :=
  ⟨fun p => ⟨_, by rw [State.cpu, h]; rfl⟩, hl⟩

theorem refl (s : State) : TripKeeps s s := of_cpus rfl (.of_flds rfl)

theorem trans (h : TripKeeps s t) (h' : TripKeeps t u) : TripKeeps s u := by
  refine ⟨fun p => ?_, h.latches.trans h'.latches⟩
  obtain ⟨e, he⟩ := h.cpus p
  obtain ⟨e', he'⟩ := h'.cpus p
  exact ⟨e', by rw [he', he]⟩

theorem ite {c : Prop} [Decidable c] (ht : TripKeeps s t) (hu : TripKeeps s u) : TripKeeps s (if c then t else u) := by
  split
  · exact ht
  · exact hu

theorem setF (h : TripKeeps s t) {f : Fld} (i v : Nat) (hf : besideLatches f = true) : TripKeeps s (t.setF f i v) :=
  h.trans (of_cpus rfl (setF_latches t i v hf))

theorem bumpF (h : TripKeeps s t) {f : Fld} (i : Nat) (hf : besideLatches f = true) : TripKeeps s (t.bumpF f i) :=
  .ite (h.setF i _ hf) h

theorem raise (h : TripKeeps s t) (n : Nat) : TripKeeps s (raiseSource t n) :=
  h.trans (of_cpus (raiseSource_frame t n).cpus (raiseSource_latches t n))

end TripKeeps

theorem dregsQLost_tripKeeps (s : State) (r : DRec) : TripKeeps s (dregsQLost s r) := by
  have counted := TripKeeps.bumpF (.refl s) (f := F.DREGS_STAT_QLOST) 0 rfl
  have first := TripKeeps.ite (c := (s.bumpF F.DREGS_STAT_QLOST 0).fl F.DREGS_LOST_COUNT r.cls = 0)
    (counted.setF (f := F.DREGS_LOSTF_FIRST) r.cls r.time rfl) counted
  have last := (first.bumpF (f := F.DREGS_LOST_COUNT) r.cls rfl).setF (f := F.DREGS_LOSTL_LAST) r.cls r.time rfl
  exact .ite (last.raise 238) last

theorem dregs_tripKeeps (s : State) (source cls code detail : Nat) : TripKeeps s (dregs s source cls code detail) := by
  have queued (q : List DRec) : TripKeeps s { s with dregs := { s.dregs with queue := q } } := .of_cpus rfl (.of_flds rfl)
  unfold dregs dregsOfferRec
  dsimp only
  split
  · exact queued _
  · split
    · split
      · exact (queued _).trans (dregsQLost_tripKeeps _ _)
      · split
        · exact (queued _).trans (dregsQLost_tripKeeps _ _)
        · exact dregsQLost_tripKeeps s _
    · exact dregsQLost_tripKeeps s _

theorem dregsFree_tripKeeps (s : State) (source cls code : Nat) : TripKeeps s (dregsFree s source cls code) :=
  have taken : TripKeeps s { s with free := s.free + 1 } := .of_cpus rfl (.of_flds rfl)
  taken.trans (dregs_tripKeeps _ source cls code _)

theorem superEvent_tripKeeps (s : State) (code : Nat) : TripKeeps s (superEvent s code) := by
  have core (t : State) (p : Proc) (e : BitVec 5) : TripKeeps t (t.setCpu p { t.cpu p with supPend := e }) := by
    refine ⟨fun q => ?_, .of_flds rfl⟩
    by_cases h : q = p
    · subst h
      exact ⟨e, State.cpu_setCpu_same t q _⟩
    · exact ⟨_, State.cpu_setCpu_ne t _ h⟩
  unfold superEvent
  generalize coreList = l
  induction l generalizing s with
  | nil => exact .refl s
  | cons c l ih => exact .trans (.ite (core s _ _) (.refl s)) (ih _)

theorem steepBegin_tripKeeps (s : State) (mode step : Nat) : TripKeeps s (steepBegin s mode step) := by
  have started : TripKeeps s (steepStart s mode step false) :=
    (((TripKeeps.refl s).setF 0 mode rfl).setF 0 step rfl).trans (.of_cpus rfl (.of_flds rfl))
  exact .ite ((started.setF 0 5 rfl).trans (dregsFree_tripKeeps _ _ _ _)) started

theorem holdSafe_tripKeeps (s : State) : TripKeeps s (holdSafe s) :=
  have held := (((TripKeeps.refl s).setF 0 _ rfl).raise 233).trans (superEvent_tripKeeps _ 5)
  .ite (.refl s) (.ite (held.trans (steepBegin_tripKeeps _ _ _)) held)

theorem raiseTrigger_tripKeeps (s : State) (b : Nat) (level : Bool) : TripKeeps s (raiseTrigger s b level) := by
  have raised : TripKeeps s ((s.setBit F.KT_TRIGSTAT_RAISED 0 b true).setBit F.KT_TRIGSTAT_HIST 0 b true) :=
    ((TripKeeps.refl s).setF 0 _ rfl).setF 0 _ rfl
  have held {t : State} (ht : TripKeeps s t) : TripKeeps s (holdSafe (t.setB F.KT_SAFECTL_ARMED 0 false)) :=
    (ht.setF 0 _ rfl).trans (holdSafe_tripKeeps _)
  have recorded (detail : Nat) := held (raised.trans (dregs_tripKeeps _ 0 clsSafety (0x10 + b) detail))
  exact .ite (.refl s) (.ite (recorded _) ((recorded _).setF 0 _ rfl))

section
variable {k u w : Cpu} {cause sub : Nat} {epc offset : Word}

theorem MachineEntry.of_events (h : MachineEntry k u offset cause sub epc) (he : EventsOnly u w) :
    MachineEntry k w offset cause sub epc := by
  obtain ⟨e, rfl⟩ := he
  exact ⟨h.saves, ⟨h.frame.fres, h.frame.fwr, h.frame.wait, h.frame.regs⟩, h.ml, h.ie, h.dbgReq⟩

theorem doubleFault_gives (s : State) (c : Fin 16) (e : Exc) (mepc : Word) (frame : Bool) :
    let k := s.cpu (.core c)
    MachineEntry k ((doubleFault s c e mepc frame).cpu (.core c)) 0x040 cDouble
      (e.cause + k.st.bank.toNat * 2 ^ 8 + b2n frame * 2 ^ 12) mepc ∧ (doubleFault s c e mepc frame).mem = s.mem := by
  intro k
  have recorded := dregsFree_side [] s (0x40 + c.val) clsError 0x74
  have entry := enterMachine_entry (dregsFree s (0x40 + c.val) clsError 0x74) c 0x040 cDouble
    (e.cause + k.st.bank.toNat * 2 ^ 8 + b2n frame * 2 ^ 12) mepc e.eaddr
  rw [recorded.cpu] at entry
  exact ⟨entry.of_events ((raiseTrigger_tripKeeps _ 2 false).cpus _),
    (raiseTrigger_trip _ 2 false).mem.trans ((enterMachine_aside _ c _ _ _ _ _).mem.trans recorded.mem)⟩

end

/-! ### Entries of interrupts (R174, R175; 08 R178, R180, R183) -/

/-- Where an interrupt enters bank `b`: in bank S at the secure half of the MVEC table. -/
def interruptVector (k : Cpu) (b : Nat) : Word :=
  if b = 8 then mvecBase k + 0x1040 else vecBase k + BitVec.ofNat 64 (0x80 * b + 0x40)

/-- An entry of core `k` into bank `b` by an interrupt. -/
structure InterruptEntry (k u : Cpu) (b cause sub : Nat) (reserves : Bool) : Prop where
  saves : EntrySaves k u b cause sub k.pc (interruptVector k b)
  frame : EntryFrame k u b reserves
  ipl : u.st.ipl = if b = 8 then 7 else BitVec.ofNat 3 b
  ring : u.st.ring = 0
  dbgReq : u.dbgReq = k.dbgReq

/-- The same before the frame of the entered bank is settled. -/
structure InterruptSaved (k u : Cpu) (b cause sub : Nat) : Prop where
  saves : EntrySaves k u b cause sub k.pc (interruptVector k b)
  wait : u.wait = .none
  g : u.g = k.g
  mvec : u.mvec = k.mvec
  ipl : u.st.ipl = if b = 8 then 7 else BitVec.ofNat 3 b
  ring : u.st.ring = 0
  dbgReq : u.dbgReq = k.dbgReq

theorem enterInterrupt_eq (s : State) (c : Fin 16) {b : Nat} (hb : b ≤ 8) (cause sub : Nat) (src : Option Nat) :
    ∃ t, enterInterrupt s c b cause sub src = reserveFrame t c b (s.cpu (.core c)).pc ∧ Aside s t ∧
      InterruptSaved (s.cpu (.core c)) (t.cpu (.core c)) b cause sub := by
  obtain ⟨aside, r, hr⟩ := interruptAbandons_gives s c
  have live (l : BitVec 10) : (l ||| (1#10 <<< b)).getLsbD b = true := by
    have : b < 10 := by omega
    simp [this]
  have pc : ((interruptAbandons s c).cpu (.core c)).pc = (s.cpu (.core c)).pc := by rw [hr]
  rw [enterInterrupt]
  dsimp only
  rw [pc]
  refine ⟨_, rfl, (aside.trans (aside_setCpu _ _ _)).trans (aside_countCore _ 0x08 c), ?_⟩
  rw [cpu_countCore, State.cpu_setCpu_same, hr]
  exact ⟨entrySaves_of_bank (Cpu.bank_setBank_same _ _ _) rfl rfl rfl rfl rfl rfl rfl (live _),
    rfl, rfl, rfl, rfl, rfl, rfl⟩

/-! ### The lazy frame of the entered bank (R73; 08 R180, R183) -/

section
variable {k u : Cpu} {b cause sub : Nat} {s : State} {c : Fin 16} {mepc : Word}

/-- A frame is reserved where FPD was saved as 1. -/
theorem InterruptSaved.fpd (h : InterruptSaved k u b cause sub) :
    (u.bank b).saved.fpd = (k.st.fpd || (k.bank k.st.bank.toNat).owes) := by
  obtain ⟨-, -, -, -, -, -, -, -, fpd, -⟩ := h.saves
  exact fpd

theorem InterruptSaved.reserves_none (h : InterruptSaved k (s.cpu (.core c)) b cause sub)
    (hf : (k.st.fpd || (k.bank k.st.bank.toNat).owes) = false) :
    InterruptEntry k ((reserveFrame s c b mepc).cpu (.core c)) b cause sub false ∧ Aside s (reserveFrame s c b mepc) := by
  rw [reserveFrame]
  dsimp only
  rw [h.fpd, hf, if_neg Bool.false_ne_true]
  refine ⟨?_, aside_setCpu s _ _⟩
  rw [State.cpu_setCpu_same]
  have bank (x : Bank) := Cpu.bank_setBank_same (s.cpu (.core c)) b x
  exact ⟨h.saves.of_bank (bank _) rfl rfl rfl rfl rfl rfl,
    entryFrame_none (congrArg Bank.fres (bank _)) (congrArg Bank.fwr (bank _)) h.wait h.g, h.ipl, h.ring, h.dbgReq⟩

/-- A frame of 544 bytes below an aligned g30. -/
theorem InterruptSaved.reserves (h : InterruptSaved k (s.cpu (.core c)) b cause sub)
    (hf : (k.st.fpd || (k.bank k.st.bank.toNat).owes) = true) (ha : (k.rd b 30).toNat % 16 = 0) :
    InterruptEntry k ((reserveFrame s c b mepc).cpu (.core c)) b cause sub true ∧ Aside s (reserveFrame s c b mepc) := by
  have rd (i : Nat) (r : RegNo) : (s.cpu (.core c)).rd i r = k.rd i r := by rw [Cpu.rd, Cpu.rd, h.g]
  rw [reserveFrame]
  dsimp only
  rw [h.fpd, hf, if_pos rfl, rd, if_neg (not_not.mpr ha)]
  refine ⟨?_, aside_setCpu s _ _⟩
  rw [State.cpu_setCpu_same, Cpu.wr_eq]
  have regs (i : Nat) (r : RegNo) : ((s.cpu (.core c)).wr b 30 (k.rd b 30 - 544)).rd i r =
      if true = true ∧ i = b ∧ r = 30 then k.rd b 30 - 544 else k.rd i r := by
    split
    · rename_i hir
      obtain ⟨-, rfl, rfl⟩ := hir
      exact Cpu.rd_wr_same _ _ _ (by decide)
    · rename_i hir
      rw [Cpu.rd_wr_ne, rd]
      have r30 : (30 : RegNo).val = 30 := rfl
      intro e
      exact hir ⟨rfl, by omega, Fin.ext (by omega)⟩
  have bank (k : Cpu) (x : Bank) := Cpu.bank_setBank_same k b x
  exact ⟨h.saves.of_bank (bank _ _) rfl rfl rfl rfl rfl rfl,
    ⟨congrArg Bank.fres (bank _ _), congrArg Bank.fwr (bank _ _), h.wait, regs⟩, h.ipl, h.ring, h.dbgReq⟩

/-- Core `k` has entered the machine level as `u` by the double fault of a frame. -/
def FrameFault (k u : Cpu) (mepc : Word) : Prop :=
  let m := u.bank 9
  u.pc = (k.mvec &&& 0xFFFFFE000) + 0x40 ∧ m.cause = 0x0D ∧ m.sub.toNat / 4096 = 1 ∧ m.epc = mepc &&& ~~~3 ∧
  u.st.ml = true ∧ u.st.bank = 9

/-- A misaligned g30 is a double fault, and MEPC the interrupted pc. -/
theorem InterruptSaved.misaligned (h : InterruptSaved k (s.cpu (.core c)) b cause sub)
    (hf : (k.st.fpd || (k.bank k.st.bank.toNat).owes) = true) (ha : (k.rd b 30).toNat % 16 ≠ 0) :
    let u := (reserveFrame s c b mepc).cpu (.core c)
    FrameFault k u mepc ∧ u.dbgReq = k.dbgReq := by
  have rd : (s.cpu (.core c)).rd b 30 = k.rd b 30 := by rw [Cpu.rd, Cpu.rd, h.g]
  have fault : reserveFrame s c b mepc = doubleFault s c (Machine.misaligned aStore (k.rd b 30)) mepc true := by
    rw [reserveFrame]
    dsimp only
    rw [h.fpd, hf, if_pos rfl, rd, if_pos ha]
  intro u
  have entry := (doubleFault_gives s c (Machine.misaligned aStore (k.rd b 30)) mepc true).1
  rw [← fault] at entry
  obtain ⟨pc, epc, cause, sub, -, -, -, -, -, bank, -⟩ := entry.saves
  refine ⟨⟨pc.trans ?_, cause, ?_, epc, entry.ml, bank⟩, entry.dbgReq.trans h.dbgReq⟩
  · rw [mvecBase, h.mvec]
  · have inUse := (s.cpu (.core c)).st.bank.isLt
    have code : (Machine.misaligned aStore (k.rd b 30)).cause = 2 := rfl
    rw [sub, code, b2n, if_pos rfl, BitVec.toNat_ofNat]
    omega

end

/-! ### What a core takes at a boundary (08 R172, R186, R190, R192; 23 R473) -/

section
variable {s s' : State} {c : Fin 16} {i : Instr} {b cause sub : Nat} {src : Option Nat}

/-- The frame that an entry from core `k` reserves finds g30 of bank `b` aligned. -/
def Aligned (k : Cpu) (b : Nat) : Prop := (k.st.fpd || (k.bank k.st.bank.toNat).owes) = true → (k.rd b 30).toNat % 16 = 0

theorem enterInterrupt_aligned (s : State) (c : Fin 16) (hb : b ≤ 8) (cause sub : Nat) (src : Option Nat)
    (ha : Aligned (s.cpu (.core c)) b) :
    let k := s.cpu (.core c)
    let t := enterInterrupt s c b cause sub src
    InterruptEntry k (t.cpu (.core c)) b cause sub (k.st.fpd || (k.bank k.st.bank.toNat).owes) ∧ Aside s t := by
  obtain ⟨u, run, aside, saved⟩ := enterInterrupt_eq s c hb cause sub src
  dsimp only
  rw [run]
  cases hf : (s.cpu (.core c)).st.fpd || ((s.cpu (.core c)).bank (s.cpu (.core c)).st.bank.toNat).owes with
  | false =>
    obtain ⟨entry, aside'⟩ := saved.reserves_none (mepc := (s.cpu (.core c)).pc) hf
    exact ⟨entry, aside.trans aside'⟩
  | true =>
    obtain ⟨entry, aside'⟩ := saved.reserves (mepc := (s.cpu (.core c)).pc) hf (ha hf)
    exact ⟨entry, aside.trans aside'⟩

theorem enterInterrupt_misaligned (s : State) (c : Fin 16) (hb : b ≤ 8) (cause sub : Nat) (src : Option Nat)
    (ha : ¬ Aligned (s.cpu (.core c)) b) :
    let k := s.cpu (.core c)
    let u := (enterInterrupt s c b cause sub src).cpu (.core c)
    FrameFault k u k.pc ∧ u.dbgReq = k.dbgReq := by
  obtain ⟨t, run, -, saved⟩ := enterInterrupt_eq s c hb cause sub src
  obtain ⟨hf, hm⟩ := Classical.not_imp.mp ha
  dsimp only
  rw [run]
  exact saved.misaligned hf hm

/-- DEBUG REQUEST or not, the entry's dealings with the rest of the core are the same. -/
theorem enterInterrupt_dbgReq (s : State) (c : Fin 16) (hb : b ≤ 8) (cause sub : Nat) (src : Option Nat) :
    ((enterInterrupt s c b cause sub src).cpu (.core c)).dbgReq = (s.cpu (.core c)).dbgReq := by
  by_cases ha : Aligned (s.cpu (.core c)) b
  · exact (enterInterrupt_aligned s c hb cause sub src ha).1.dbgReq
  · exact (enterInterrupt_misaligned s c hb cause sub src ha).2

/-- A command that enters bank `b` as an interrupt, or where g30 is misaligned the machine level as a double fault. -/
def Enters (i : Instr) (c : Fin 16) (s : State) (b cause sub : Nat) (vec : Word) : Prop :=
  let k := s.cpu (.core c)
  (Aligned k b → Gives i s fun t => EntrySaves k (t.cpu (.core c)) b cause sub k.pc vec ∧
    Framed s t c b (k.st.fpd || (k.bank k.st.bank.toNat).owes)) ∧
  (¬ Aligned k b → Gives i s fun t => FrameFault k (t.cpu (.core c)) k.pc)

/-- A command that enters the machine level. -/
def EntersMachine (i : Instr) (c : Fin 16) (s : State) (cause sub : Nat) (vec : Word) : Prop :=
  let k := s.cpu (.core c)
  Gives i s fun t => EntrySaves k (t.cpu (.core c)) 9 cause sub k.pc vec ∧ Framed s t c 9 false ∧
    (t.cpu (.core c)).st.ml = true ∧ (t.cpu (.core c)).st.ie = false

/-- The entry of a state that differs from `s` in the core's DEBUG REQUEST at most. -/
theorem enters_of (run : exec i s = .next (enterInterrupt s' c b cause sub src)) {d : Bool}
    (hk : s'.cpu (.core c) = { s.cpu (.core c) with dbgReq := d }) (hm : s'.mem = s.mem) (hb : b ≤ 8) :
    Enters i c s b cause sub (interruptVector (s.cpu (.core c)) b) := by
  constructor
  · intro ha
    obtain ⟨entry, aside⟩ := enterInterrupt_aligned s' c hb cause sub src (by rw [hk]; exact ha)
    rw [hk] at entry
    exact ⟨_, run, entry.saves, entry.frame.fres, entry.frame.fwr, entry.frame.wait, aside.mem.trans hm, entry.frame.regs⟩
  · intro ha
    obtain ⟨fault, -⟩ := enterInterrupt_misaligned s' c hb cause sub src (by rw [hk]; exact ha)
    rw [hk] at fault
    exact ⟨_, run, fault⟩

/-- The vector of an interrupt of a level (R174). -/
theorem interruptVector_level (k : Cpu) {q : Nat} (hq : q ≤ 7) : interruptVector k q =
    (((k.vecbase.truncate 48 : BitVec 48).signExtend 64) &&& ~~~0xFFF) + BitVec.ofNat 64 0x40 + BitVec.ofNat 64 (0x80 * q) := by
  rw [interruptVector, if_neg (by omega), vecBase, Nat.add_comm (0x80 * q), BitVec.ofNat_add, ← BitVec.add_assoc]

/-- The vector of a secure interrupt (R175). -/
theorem interruptVector_secure (k : Cpu) : interruptVector k 8 = (k.mvec &&& 0xFFFFFE000) + 0x1040 := if_pos rfl

/-- An entry to the machine level from the registers that `s` has. -/
theorem entersMachine_of {t : State} {offset : Word} (run : exec i s = .next t)
    (h : MachineEntry (s.cpu (.core c)) (t.cpu (.core c)) offset cause sub (s.cpu (.core c)).pc) (hm : t.mem = s.mem) :
    EntersMachine i c s cause sub (((s.cpu (.core c)).mvec &&& 0xFFFFFE000) + offset) :=
  ⟨t, run, h.saves, ⟨h.frame.fres, h.frame.fwr, h.frame.wait, hm, h.frame.regs⟩, h.ml, h.ie⟩

end

/-! ### Claimed sources (08 R189, R190) -/

section
variable {s t : State} {c : Fin 16} {n : Nat}

theorem icTop_mem {l : List Nat} (h : icTop s l = some n) : n ∈ l := by
  induction l generalizing n with
  | nil => cases h
  | cons a l ih =>
    rw [icTop] at h
    split at h
    · cases h
      exact List.mem_cons_self
    · rename_i m hm
      split at h <;> cases h
      · exact List.mem_cons_of_mem a (ih hm)
      · exact List.mem_cons_self

/-- A source that a core takes is one of the controller's elements. -/
theorem levelTakes_lt (h : levelTakes s c = some n) : n < 4096 := by
  unfold levelTakes at h
  dsimp only at h
  split at h
  · cases h
  · have presented := icTop_mem (Option.eq_some_of_filter_eq_some h)
    obtain ⟨e, -, rfl⟩ := List.mem_map.mp (List.mem_filter.mp presented).1
    exact Nat.mod_lt _ (by decide)

theorem icClaim_cpu (s : State) (n : Nat) (p : Proc) : (icClaim s n).cpu p = s.cpu p := (icClaim_frame s n).cpu p

/-- Acceptance makes the source active and no longer pending; what enters after it leaves both. -/
theorem claimed_of (hn : n < 4096) (h : Aside (icClaim s n) t) :
    t.fb F.IC_SRC_ACTIVE n = true ∧ (n ≠ 280 → t.fb F.IC_SRC_PENDING n = false) := by
  constructor
  · exact (h.latches.fb _ _ rfl).trans (State.fb_setB_same _ _ _ _ (by decide))
  · intro h280
    rw [h.pending n (by rwa [Nat.mod_eq_of_lt hn])]
    exact (State.fb_setB_id _ _ _ _ (by decide)).trans (icUnpend_clearsPending s n)

end

/-! ### The commands -/

section
variable {s : State} {c : Fin 16} {n : Nat}

theorem interruptEntry_run (hb : atBoundary s c = true) (hm : (s.cpu (.core c)).mustTake = false)
    (hp : (s.cpu (.core c)).supPend = 0) (hs : secureTakes s c = none) (hd : debugTakes s c = false)
    (hl : levelTakes s c = some n) : exec (.interruptEntry c) s = .next (levelEntry s c n) := by
  change execInterruptEntry c s = _
  simp [execInterruptEntry, hb, hm, hp, hs, hd, hl]

/-- Under LEGACY a level is claimed and taken at the machine level (R91). -/
theorem levelEntry_legacy (run : exec (.interruptEntry c) s = .next (levelEntry s c n)) (hn : n < 4096)
    (h : (s.cpu (.core c)).st.legacy = true) :
    EntersMachine (.interruptEntry c) c s 0x0C n (((s.cpu (.core c)).mvec &&& 0xFFFFFE000) + 0xC0) ∧
    Gives (.interruptEntry c) s fun t => t.fb F.IC_SRC_ACTIVE n = true ∧ (n ≠ 280 → t.fb F.IC_SRC_PENDING n = false) := by
  have entry := enterMachineAt_entry (icClaim s n) c 0x0C0 cInterrupt n
  have aside := enterMachineAt_aside (icClaim s n) c 0x0C0 cInterrupt n
  rw [icClaim_cpu] at entry
  simp only [levelEntry, h, if_true] at run
  refine ⟨entersMachine_of run ?_ (aside.mem.trans (icClaim_frame s n).mem),
    _, run, claimed_of hn (aside.trans (aside_setCpu _ _ _))⟩
  rw [State.cpu_setCpu_same]
  exact entry.of_bank rfl rfl rfl rfl rfl rfl

/-- A level whose bank is live collides, and claims nothing (R186). -/
theorem levelEntry_collides (run : exec (.interruptEntry c) s = .next (levelEntry s c n))
    (hl : (s.cpu (.core c)).st.legacy = false) (h : (s.cpu (.core c)).st.live.getLsbD (s.fl F.IC_SRC_PRIO n) = true) :
    EntersMachine (.interruptEntry c) c s 0x0A (s.fl F.IC_SRC_PRIO n) (((s.cpu (.core c)).mvec &&& 0xFFFFFE000) + 0x40) ∧
    Gives (.interruptEntry c) s fun t => t.fb F.IC_SRC_ACTIVE n = s.fb F.IC_SRC_ACTIVE n := by
  have recorded := dregsFree_side [] s (0x40 + c.val) clsError 0x74
  have entry := enterMachineAt_entry (dregsFree s (0x40 + c.val) clsError 0x74) c 0x040 cCollision (s.fl F.IC_SRC_PRIO n)
  have aside := enterMachineAt_aside (dregsFree s (0x40 + c.val) clsError 0x74) c 0x040 cCollision (s.fl F.IC_SRC_PRIO n)
  have trip (t : State) := raiseTrigger_tripKeeps t 2 false
  rw [recorded.cpu] at entry
  simp only [levelEntry, hl, h, Bool.false_eq_true, if_false, if_true] at run
  refine ⟨entersMachine_of run (entry.of_events ((trip _).cpus _))
    ((raiseTrigger_trip _ 2 false).mem.trans (aside.mem.trans recorded.mem)), _, run, ?_⟩
  exact (((dregsFree_tripKeeps s _ _ _).latches.trans aside.latches).trans (trip _).latches).fb _ _ rfl

/-- Otherwise the level is claimed and enters its own bank (R172, R174). -/
theorem levelEntry_enters (run : exec (.interruptEntry c) s = .next (levelEntry s c n)) (hn : n < 4096)
    (hq : s.fl F.IC_SRC_PRIO n ≤ 7) (hl : (s.cpu (.core c)).st.legacy = false)
    (h : (s.cpu (.core c)).st.live.getLsbD (s.fl F.IC_SRC_PRIO n) = false) :
    let k := s.cpu (.core c)
    let q := s.fl F.IC_SRC_PRIO n
    Enters (.interruptEntry c) c s q 0x0C n (interruptVector k q) ∧
    (Aligned k q → Gives (.interruptEntry c) s fun t =>
      (t.fb F.IC_SRC_ACTIVE n = true ∧ (n ≠ 280 → t.fb F.IC_SRC_PENDING n = false)) ∧
      (t.cpu (.core c)).st.ipl = BitVec.ofNat 3 q ∧ (t.cpu (.core c)).st.ring = 0) := by
  intro k q
  simp only [levelEntry, hl, h, Bool.false_eq_true, if_false] at run
  refine ⟨enters_of run (icClaim_cpu s n _) (icClaim_frame s n).mem (by omega), fun ha => ?_⟩
  obtain ⟨entry, aside⟩ := enterInterrupt_aligned (icClaim s n) c (b := q) (by omega) cInterrupt n (some n)
    (by rw [icClaim_cpu]; exact ha)
  exact ⟨_, run, claimed_of hn aside, entry.ipl.trans (if_neg (by omega)), entry.ring⟩

/-- A secure source enters bank S (R172, R175). -/
theorem secureInterruptEntry_enters (hb : atBoundary s c = true) (hm : (s.cpu (.core c)).mustTake = false)
    (hp : (s.cpu (.core c)).supPend = 0) (hs : secureTakes s c = some n) :
    let k := s.cpu (.core c)
    Enters (.secureInterruptEntry c) c s 8 0x0C n (interruptVector k 8) ∧
    (Aligned k 8 → Gives (.secureInterruptEntry c) s fun t =>
      (t.cpu (.core c)).st.ipl = 7 ∧ (t.cpu (.core c)).st.ring = 0) := by
  intro k
  have run : exec (.secureInterruptEntry c) s = .next (enterInterrupt (icClaim s n) c 8 cInterrupt n (some n)) := by
    change execSecureInterruptEntry c s = _
    simp [execSecureInterruptEntry, hb, hm, hp, hs]
  refine ⟨enters_of run (icClaim_cpu s n _) (icClaim_frame s n).mem (by decide), fun ha => ?_⟩
  obtain ⟨entry, -⟩ := enterInterrupt_aligned (icClaim s n) c (b := 8) (by decide) cInterrupt n (some n)
    (by rw [icClaim_cpu]; exact ha)
  exact ⟨_, run, entry.ipl, entry.ring⟩

theorem debugLevel_le (k : Cpu) : debugLevel k ≤ 7 := by
  unfold debugLevel
  omega

/-- A DEBUG REQUEST enters the bank of its level, and is a request no more (23 R473). -/
theorem debugRequestEntry_enters (hb : atBoundary s c = true) (hm : (s.cpu (.core c)).mustTake = false)
    (hp : (s.cpu (.core c)).supPend = 0) (hs : secureTakes s c = none) (hd : debugTakes s c = true) :
    let k := s.cpu (.core c)
    Enters (.debugRequestEntry c) c s (debugLevel k) 0x0B 4 (interruptVector k (debugLevel k)) ∧
    Gives (.debugRequestEntry c) s fun t => (t.cpu (.core c)).dbgReq = false := by
  intro k
  have hq : debugLevel k ≤ 8 := (debugLevel_le k).trans (by decide)
  have hk := State.cpu_setCpu_same s (.core c) { k with dbgReq := false }
  have run : exec (.debugRequestEntry c) s =
      .next (enterInterrupt (s.setCpu (.core c) { k with dbgReq := false }) c (debugLevel k) cDebug 4 none) := by
    change execDebugRequestEntry c s = _
    simp [execDebugRequestEntry, hb, hm, hp, hs, hd, k]
  exact ⟨enters_of run hk rfl hq, _, run, (enterInterrupt_dbgReq _ c hq cDebug 4 none).trans (by rw [hk])⟩

/-- The lowest supervisory event is taken at the machine level, outside it (R78, R192). -/
theorem supervisoryEventEntry_enters {e : Nat} (hb : atBoundary s c = true) (hml : (s.cpu (.core c)).st.ml = false)
    (he : lowestEvent (s.cpu (.core c)).supPend = some e) :
    let k := s.cpu (.core c)
    EntersMachine (.supervisoryEventEntry c) c s 0x0C (0x8000 + e) ((k.mvec &&& 0xFFFFFE000) + 0x80) ∧
    Gives (.supervisoryEventEntry c) s fun t => (t.cpu (.core c)).supPend = k.supPend &&& ~~~(1#5 <<< (e - 1)) := by
  intro k
  have hk := State.cpu_setCpu_same s (.core c) { k with supPend := k.supPend &&& ~~~(1#5 <<< (e - 1)), mustTake := false }
  have run : exec (.supervisoryEventEntry c) s = .next (enterMachineAt (s.setCpu (.core c)
      { k with supPend := k.supPend &&& ~~~(1#5 <<< (e - 1)), mustTake := false }) c 0x080 cInterrupt (0x8000 + e)) := by
    change execSupervisoryEventEntry c s = _
    simp [execSupervisoryEventEntry, hb, hml, he, k]
  have entry := enterMachineAt_entry (s.setCpu (.core c)
    { k with supPend := k.supPend &&& ~~~(1#5 <<< (e - 1)), mustTake := false }) c 0x080 cInterrupt (0x8000 + e)
  have aside := enterMachineAt_aside (s.setCpu (.core c)
    { k with supPend := k.supPend &&& ~~~(1#5 <<< (e - 1)), mustTake := false }) c 0x080 cInterrupt (0x8000 + e)
  rw [hk] at entry
  exact ⟨entersMachine_of run entry.of_before aside.mem, _, run, (enterMachineAt_supPend _ c _ _ _).trans (by rw [hk])⟩

end

/-! ### O22 -/

/-- Settles O22: each entry is the lemma about its command. -/
theorem interruptEntries : Obligations.InterruptEntries := by
  intro c s n p k hb
  refine ⟨fun free hs hd hl hq => ?_, fun free hs => ?_, fun free hs hd => ?_,
    fun e hml he => supervisoryEventEntry_enters hb hml he⟩
  · have run := interruptEntry_run hb free.1 free.2 hs hd hl
    have hn := levelTakes_lt hl
    refine ⟨levelEntry_legacy run hn, levelEntry_collides run, fun hleg hlive => ?_⟩
    obtain ⟨entry, rest⟩ := levelEntry_enters run hn hq hleg hlive
    rw [interruptVector_level _ hq] at entry
    exact ⟨entry, rest⟩
  · obtain ⟨entry, rest⟩ := secureInterruptEntry_enters hb free.1 free.2 hs
    rw [interruptVector_secure] at entry
    exact ⟨entry, rest⟩
  · obtain ⟨entry, rest⟩ := debugRequestEntry_enters hb free.1 free.2 hs hd
    rw [interruptVector_level _ (debugLevel_le _)] at entry
    exact ⟨entry, rest⟩

end Sys2Proof.Machine
end

section
/-! The ordering family (spec 10): the bytes that a store buffer holds, how it serves a load, and how a store enters it
(O10). -/

namespace Sys2Proof.Machine

/-! ### The bytes that a store buffer holds (10 R218) -/

theorem storesByte_cons (o : Nat) (st : SbStore) (sts : List SbStore) : storesByte o (st :: sts) =
    (storesByte o sts).or
      (if st.off ≤ o ∧ o < st.off + st.size then some (st.val / 256 ^ (o - st.off) % 256) else none) := by
  cases h : storesByte o sts <;> simp [storesByte, h, cut]

/-- Later stores come first. -/
theorem storesByte_append (o : Nat) (xs ys : List SbStore) :
    storesByte o (xs ++ ys) = (storesByte o ys).or (storesByte o xs) := by
  induction xs with
  | nil => simp [storesByte]
  | cons x xs ih => rw [List.cons_append, storesByte_cons, ih, storesByte_cons, Option.or_assoc]

theorem storesByte_concat (sts : List SbStore) (st : SbStore) (o : Nat) : storesByte o (sts ++ [st]) =
    if st.off ≤ o ∧ o < st.off + st.size then some (st.val / 256 ^ (o - st.off) % 256) else storesByte o sts := by
  rw [storesByte_append, storesByte_cons]
  split <;> simp [storesByte]

theorem storesByte_lt {o b : Nat} {sts : List SbStore} (h : storesByte o sts = some b) : b < 256 := by
  induction sts with
  | nil => cases h
  | cons st sts ih =>
    rw [storesByte_cons, Option.or_eq_some_iff] at h
    obtain h | ⟨-, h⟩ := h
    · exact ih h
    · obtain ⟨-, h⟩ := Option.ite_none_right_eq_some.1 h
      rw [← Option.some.inj h]
      exact Nat.mod_lt _ (by decide)

theorem sbByte_cons (a : Nat) (e : SbEntry) (es : List SbEntry) : sbByte a (e :: es) =
    (sbByte a es).or (if e.line = a / 64 ∧ mergesType e.rtype = true then storesByte (a % 64) e.stores else none) := by
  cases h : sbByte a es <;> simp [sbByte, h]

/-- Later entries come first. -/
theorem sbByte_append (a : Nat) (xs ys : List SbEntry) : sbByte a (xs ++ ys) = (sbByte a ys).or (sbByte a xs) := by
  induction xs with
  | nil => simp [sbByte]
  | cons x xs ih => rw [List.cons_append, sbByte_cons, ih, sbByte_cons, Option.or_assoc]

theorem sbByte_concat (sb : List SbEntry) (e : SbEntry) (a : Nat) : sbByte a (sb ++ [e]) =
    (if e.line = a / 64 ∧ mergesType e.rtype = true then storesByte (a % 64) e.stores else none).or (sbByte a sb) := by
  rw [sbByte_append, sbByte_cons, sbByte, Option.none_or]

theorem sbByte_lt {a b : Nat} {sb : List SbEntry} (h : sbByte a sb = some b) : b < 256 := by
  induction sb with
  | nil => cases h
  | cons e es ih =>
    rw [sbByte_cons, Option.or_eq_some_iff] at h
    obtain h | ⟨-, h⟩ := h
    · exact ih h
    · exact storesByte_lt (Option.ite_none_right_eq_some.1 h).2

/-! ### How a store buffer serves a load (10 R218) -/

theorem sbForward_succ_eq_all {sb : List SbEntry} {a n v : Nat} : sbForward sb a (n + 1) = .all v ↔
    ∃ b w, sbByte a sb = some b ∧ sbForward sb (a + 1) n = .all w ∧ v = b + 256 * w := by
  cases hb : sbByte a sb <;> cases hw : sbForward sb (a + 1) n <;> simp [sbForward, hb, hw, eq_comm]
  split <;> simp

/-- A load of one byte is not held as soon as that byte is not: the empty rest of it counts as held whole. -/
theorem sbForward_succ_eq_none {sb : List SbEntry} {a n : Nat} : sbForward sb a (n + 1) = .none ↔
    sbByte a sb = none ∧ (n = 0 ∨ sbForward sb (a + 1) n = .none) := by
  cases n with
  | zero => cases hb : sbByte a sb <;> simp [sbForward, hb]
  | succ n =>
    rw [sbForward]
    cases hb : sbByte a sb <;> cases hw : sbForward sb (a + 1) (n + 1) <;> simp

/-- The lowest byte of a little-endian number, and the bytes above it. -/
theorem byte_of_add {b : Nat} (hb : b < 256) (w k : Nat) :
    (b + 256 * w) / 256 ^ k % 256 = if k = 0 then b else w / 256 ^ (k - 1) % 256 := by
  cases k with
  | zero => simp; omega
  | succ k =>
    have above : (b + 256 * w) / 256 = w := by omega
    simp [pow_succ', ← Nat.div_div_eq_div_mul, above]

theorem sbByte_of_sbForward_all {sb : List SbEntry} {a n v : Nat} (h : sbForward sb a n = .all v) :
    ∀ k, k < n → sbByte (a + k) sb = some (v / 256 ^ k % 256) := by
  induction n generalizing a v with
  | zero => exact fun k hk => absurd hk k.not_lt_zero
  | succ n ih =>
    obtain ⟨b, w, hb, hw, rfl⟩ := sbForward_succ_eq_all.1 h
    intro k hk
    rw [byte_of_add (sbByte_lt hb)]
    cases k with
    | zero => exact hb
    | succ k => simpa [Nat.add_assoc, Nat.add_comm 1 k] using ih hw k (by omega)

theorem sbForward_eq_none_iff {sb : List SbEntry} {a n : Nat} (hn : 0 < n) :
    sbForward sb a n = .none ↔ ∀ k, k < n → sbByte (a + k) sb = none := by
  induction n generalizing a with
  | zero => exact absurd hn (Nat.lt_irrefl 0)
  | succ n ih =>
    have rest : n = 0 ∨ sbForward sb (a + 1) n = .none ↔ ∀ k, k < n → sbByte (a + (k + 1)) sb = none := by
      obtain rfl | pos := n.eq_zero_or_pos
      · simp
      · simp [ih pos, pos.ne', Nat.add_assoc, Nat.add_comm 1]
    rw [sbForward_succ_eq_none, rest, Nat.forall_lt_succ_left]
    rfl

section
variable {s : State} {p : Proc} {x : XAddr} {g : Seg}

theorem loadPart_of_all {v : Nat} (hd : isDevice x.rtype = false) (hf : sbForward (s.cpu p).sb x.place g.len = .all v) :
    loadPart s p x g = .ok (.data v g.len) s := by
  simp [loadPart, hd, hf]

theorem loadPart_of_part (hd : isDevice x.rtype = false) (hf : sbForward (s.cpu p).sb x.place g.len = .part) :
    loadPart s p x g = .stall s := by
  simp [loadPart, hd, hf]

end

/-! ### How a store enters the store buffer (10 R220, R221) -/

/-- A store of type `ty` to `line` by processor `p` merges into the entry `e`, where `e` is the youngest. -/
def MergesInto (s : State) (p : Proc) (line : Nat) (ty : RType) (e : SbEntry) : Prop :=
  e.line = line ∧ e.rtype = ty ∧ e.begun = false ∧ mergesType ty = true ∧ neverMerges s p = false

section
variable {s : State} {p : Proc} {line : Nat} {ty : RType}

theorem sbPush_merged {es : List SbEntry} {e : SbEntry} (hsb : (s.cpu p).sb = es ++ [e]) (hm : MergesInto s p line ty e)
    (st : SbStore) : sbPush s p line ty st =
      some (s.setCpu p { s.cpu p with sb := es ++ [{ e with stores := e.stores ++ [st] }] }) := by
  obtain ⟨hl, ht, hb, htype, hp⟩ := hm
  simp [sbPush, hsb, hl, ht, hb, htype, hp]

theorem sbPush_fresh (h : ∀ es e, (s.cpu p).sb = es ++ [e] → ¬ MergesInto s p line ty e) (st : SbStore) :
    sbPush s p line ty st = if (s.cpu p).sb.length < 16 then
      some (s.setCpu p { s.cpu p with sb := (s.cpu p).sb ++ [{ line, rtype := ty, stores := [st] }] }) else none := by
  obtain hsb | ⟨es, e, hsb⟩ := (s.cpu p).sb.eq_nil_or_concat'
  · simp [sbPush, hsb]
  · have alone := h es e hsb
    have test : (e.line = line && e.rtype == ty && !e.begun && mergesType ty && !neverMerges s p) = false := by
      rw [← Bool.not_eq_true]
      simpa [MergesInto, and_assoc] using alone
    simp only [sbPush, hsb, List.getLast?_concat, test, Bool.false_eq_true, if_false]

end

/-! ### O10 -/

/-- Settles O10: a load is served byte by byte, each from the newest store, and a store merges or takes a new entry. -/
theorem storeBuffer : Obligations.StoreBuffer := by
  refine ⟨⟨fun sb a n v => sbByte_of_sbForward_all, fun sb a n => sbForward_eq_none_iff, fun sb e a => ?_,
    storesByte_concat, fun s p x g v hd => ⟨loadPart_of_all hd, loadPart_of_part hd⟩⟩,
    fun s p line ty st => ⟨fun es e hsb hm => sbPush_merged hsb hm st, fun h => ⟨fun hlen => ?_, fun hlen => ?_⟩⟩⟩
  · rw [sbByte_concat]
    split_ifs
    · cases storesByte (a % 64) e.stores <;> rfl
    · rfl
  · rw [sbPush_fresh h, if_pos hlen]
  · rw [sbPush_fresh h, if_neg (Nat.not_lt.2 hlen)]

end Sys2Proof.Machine
end

section
/-! The caches family (spec 11): the way masks and locks of the L3, and the enables of the caches with their sweeps
(O34). -/

namespace Sys2Proof.Machine

/-! ### Changes of the caches and of what lies beside them -/

/-- `t` is `s` but for the caches and for what `SideFrame` lets change. -/
def BesideCaches (k : Fld → Bool) (s t : State) : Prop := SideFrame k s { t with caches := s.caches }

theorem SideFrame.besideCaches {k : Fld → Bool} {s t : State} (h : SideFrame k s t) : BesideCaches k s t :=
  ⟨congrArg (fun u : State => { u with caches := s.caches }) h.rest, h.fl⟩

namespace BesideCaches
variable {k : Fld → Bool} {s t u : State}

theorem trans (h : BesideCaches k s t) (h' : BesideCaches k t u) : BesideCaches k s u :=
  SideFrame.trans h ⟨congrArg (fun x : State => { x with caches := s.caches }) h'.rest, h'.fl⟩

theorem ite {c : Prop} [Decidable c] (ht : BesideCaches k s t) (hu : BesideCaches k s u) :
    BesideCaches k s (if c then t else u) := by
  split
  · exact ht
  · exact hu

theorem mem (h : BesideCaches k s t) : t.mem = s.mem :=
  SideFrame.mem (t := { t with caches := s.caches }) h

theorem cpus (h : BesideCaches k s t) : t.cpus = s.cpus :=
  SideFrame.cpus (t := { t with caches := s.caches }) h

theorem fb (h : BesideCaches k s t) (f : Fld) (i : Nat) (hf : k f = false) : t.fb f i = s.fb f i := SideFrame.fb h f i hf

end BesideCaches

/-- The bits that say that a disabled cache holds orphans (11 R238). -/
def orphanBits : List Fld := [F.L3_CCTL_ORPHAN, F.L3_L2CTL_ORPHAN, F.L3_SLCTL_ORPHAN]

/-- The bits of a cache that the part alone writes: ORPHAN and SWEPT. -/
def sweepBits : List Fld := orphanBits ++ [F.L3_CCTL_DSWEPT, F.L3_CCTL_ISWEPT, F.L3_L2CTL_SWEPT, F.L3_SLCTL_SWEPT]

section
variable (s : State) (id : CacheId) (b : Bool)

theorem setB_side {l : List Fld} {f : Fld} (i : Nat) (hf : noteField l f = true) :
    SideFrame (noteField l) s (s.setB f i b) := (SideFrame.refl _ s).setF (noteField_byId l) i (b2n b) hf

theorem ignoreWarn_side (l : List Fld) (w : Wr) : SideFrame (noteField l) s (ignoreWarn s w) := dregs_side l s _ _ _ _

theorem dregsNamed_side (l : List Fld) (cls name : Nat) : SideFrame (noteField l) s (dregsNamed s cls name) :=
  have taken : SideFrame (noteField l) s { s with free := s.free + 2 } := ⟨rfl, fun _ _ _ => rfl⟩
  taken.trans (dregs_side l _ _ cls _ name)

theorem setOrphan_side : SideFrame (noteField orphanBits) s (setOrphan s id b) := by
  cases id with
  | l1i c => exact .refl _ s
  | _ => exact setB_side s b _ rfl

theorem setSweptFlag_side : SideFrame (noteField sweepBits) s (setSweptFlag s id b) := by
  cases id <;> exact setB_side s b _ rfl

/-! ### SWEPT and the orphans (11 R237, R238) -/

theorem sweptFlag_setSweptFlag : sweptFlag (setSweptFlag s id b) id = b := by
  cases id <;> exact State.fb_setB_same s _ _ b (by decide)

theorem SideFrame.sweptFlag {s t : State} (h : SideFrame (noteField orphanBits) s t) (id : CacheId) :
    sweptFlag t id = sweptFlag s id := by
  cases id <;> exact h.fb _ _ rfl

/-- Once SWEPT has cleared, a disable changes the ORPHAN bits and leaves a record. -/
theorem disableCache_orphans :
    SideFrame (noteField orphanBits) (setSweptFlag ((withPartner id).foldl unsweep s) id false) (disableCache s id) :=
  (setOrphan_side _ id _).trans (.ite (dregsNamed_side _ _ _ _) (.refl _ _))

theorem disableCache_clearsSwept : sweptFlag (disableCache s id) id = false :=
  ((disableCache_orphans s id).sweptFlag id).trans (sweptFlag_setSweptFlag _ id false)

theorem disableCache_beside : BesideCaches (noteField sweepBits) s (disableCache s id) := by
  have unswept : BesideCaches (noteField sweepBits) s ((withPartner id).foldl unsweep s) := by
    cases id <;> exact SideFrame.refl _ s
  have orphans := (disableCache_orphans s id).weaken (noteField_of_subset (l' := sweepBits) (by decide))
  exact unswept.trans ((setSweptFlag_side _ id false).trans orphans).besideCaches

/-- A cache whose enable has cleared stays disabled, and is swept no more. -/
theorem disabled_gives {en : Fld} (i : Nat) (hen : noteField sweepBits en = false) (hw : en.width ≠ 0) :
    let t := disableCache (s.setB en i false) id
    t.fb en i = false ∧ sweptFlag t id = false ∧ t.mem = s.mem ∧ t.cpus = s.cpus :=
  have beside := disableCache_beside (s.setB en i false) id
  ⟨(beside.fb en i hen).trans (State.fb_setB_same s en i false hw), disableCache_clearsSwept _ id, beside.mem, beside.cpus⟩

variable {s}

/-- A disabled cache is enabled exactly where it has been swept. -/
theorem enabled_iff_swept (w : Wr) {en sw : Fld} {i : Nat} (hen : noteField [] en = false) (hw : en.width ≠ 0)
    (was : s.fb en i = false) :
    let t := if s.fb sw i then s.setB en i true else ignoreWarn s w
    t.fb en i = s.fb sw i ∧ t.mem = s.mem ∧ t.cpus = s.cpus := by
  have refused := ignoreWarn_side s [] w
  cases s.fb sw i with
  | true => exact ⟨State.fb_setB_same s en i true hw, rfl, rfl⟩
  | false => exact ⟨(refused.fb en i hen).trans was, refused.mem, refused.cpus⟩

end

/-! ### Way masks and locks (11 R235, R236) -/

section
variable {s : State} {q : Requester} {off : Nat} {v : Word} {f : Fld} {i : Nat}

/-- A register of the 16 ways takes the low 16 bits that a machine-level core writes. -/
theorem waysWrite_machine (hm : isMachine s q = true) (ha : f.acc = .rw) (hl : f.lo = 0) (hh : f.hi = 15) :
    let t := atMachine s (.full q off v) fun s => putField s (.full q off v) f i 0
    t.fl f i = v.toNat % 65536 ∧ t.mem = s.mem ∧ t.cpus = s.cpus := by
  have bits : bitsOf v f = v.toNat % 65536 := by simp [bitsOf, Fld.width, hl, hh]
  rw [atMachine_of hm, putField_rw s q off v f i 0 ha (by omega), ← bits]
  exact ⟨(State.fl_setF_same s f i _).trans (bitsOf_mod v f), rfl, rfl⟩

/-- From any other requester the write is ignored. -/
theorem machineWrite_ignored (hm : isMachine s q = false) (hf : noteField [] f = false) (act : State → State) :
    (atMachine s (.full q off v) act).fl f i = s.fl f i := by
  rw [atMachine_ignored hm]
  exact (ignoreWarn_side s [] _).fl f i hf

end

/-! ### The enables of the L1 caches (11 R237) -/

section
variable {s : State} {w : Wr} {c : Fin 16}

theorem icInvalidate_beside (s : State) (c : Fin 16) : BesideCaches (noteField sweepBits) s (icInvalidate s c) :=
  setB_side (l := sweepBits) s true (f := F.L3_CCTL_ISWEPT) c.val rfl

/-- A write that would enable the data cache against R237 is ignored whole. -/
theorem cctlWrite_refused (hm : isMachine s w.q = true) (ask : (w.new F.L3_CCTL_DCEN s c.val == 1) = true)
    (was : s.fb F.L3_CCTL_DCEN c.val = false)
    (hr : s.fb F.L3_CCTL_DSWEPT c.val = false ∨ s.fb F.L3_L2CTL_EN (clusterOf c).val = false) :
    cctlWrite s w c = ignoreWarn s w := by
  rw [cctlWrite, atMachine_of hm]
  refine if_pos ?_
  rcases hr with h | h <;> simp [ask, was, h]

/-- A write that enables no cache against R237 is taken: the data cache is as asked, and its SWEPT clears with its
enable. -/
theorem cctlWrite_taken (hm : isMachine s w.q = true)
    (hd : (w.new F.L3_CCTL_DCEN s c.val == 1) = true → s.fb F.L3_CCTL_DCEN c.val = false →
      s.fb F.L3_CCTL_DSWEPT c.val = true ∧ s.fb F.L3_L2CTL_EN (clusterOf c).val = true)
    (hi : (w.new F.L3_CCTL_ICEN s c.val == 1) = true → s.fb F.L3_CCTL_ICEN c.val = true) :
    let t := cctlWrite s w c
    t.fb F.L3_CCTL_DCEN c.val = (w.new F.L3_CCTL_DCEN s c.val == 1) ∧ t.mem = s.mem ∧ t.cpus = s.cpus ∧
      (s.fb F.L3_CCTL_DCEN c.val = true → (w.new F.L3_CCTL_DCEN s c.val == 1) = false →
        t.fb F.L3_CCTL_DSWEPT c.val = false) := by
  rw [cctlWrite, atMachine_of hm]
  dsimp only
  generalize (w.new F.L3_CCTL_DCEN s c.val == 1) = d at *
  generalize (w.new F.L3_CCTL_ICEN s c.val == 1) = i at *
  -- Neither enable is one that R237 forbids: by `hd` the data cache's, by `hi` the instruction cache's.
  rw [if_neg (by grind)]
  let set := (s.setB F.L3_CCTL_DCEN c.val d).setB F.L3_CCTL_ICEN c.val i
  have dcen : set.fb F.L3_CCTL_DCEN c.val = d :=
    (State.fb_setB_id _ _ _ i (by decide)).trans (State.fb_setB_same s _ _ d (by decide))
  have unswept : BesideCaches (noteField sweepBits) set
      (if s.fb F.L3_CCTL_ICEN c.val && !i then set.setB F.L3_CCTL_ISWEPT c.val false else set) :=
    .ite (setB_side _ _ _ rfl).besideCaches (SideFrame.refl _ set)
  have invalidated := unswept.trans (.ite (c := w.on F.L3_CCTL_ICINV) (icInvalidate_beside _ c) (SideFrame.refl _ _))
  split
  · have beside := invalidated.trans (disableCache_beside _ (.l1d c))
    exact ⟨(beside.fb _ _ rfl).trans dcen, beside.mem, beside.cpus, fun _ _ => disableCache_clearsSwept _ (.l1d c)⟩
  · rename_i stays
    exact ⟨(invalidated.fb _ _ rfl).trans dcen, invalidated.mem, invalidated.cpus,
      fun was asked => absurd (by rw [was, asked]; rfl) stays⟩

end

section
variable {s : State} {q : Requester} {c : Fin 16} {v : Word}

/-- What a whole write asks of an enable bit. -/
theorem Wr.full_asks (q : Requester) (off : Nat) (v : Word) (f : Fld) (s : State) (i : Nat) (h : f.lo ≤ f.hi ∧ f.hi ≤ 63) :
    ((Wr.full q off v).new f s i == 1) = decide (bitsOf v f = 1) := by
  rw [Wr.new_full q off v f s i h, beq_eq_decide]

theorem l3CctlEnable_refused (hm : isMachine s q = true) (ask : bitsOf v F.L3_CCTL_DCEN = 1)
    (was : s.fb F.L3_CCTL_DCEN c.val = false)
    (hr : s.fb F.L3_CCTL_DSWEPT c.val = false ∨ s.fb F.L3_L2CTL_EN (clusterOf c).val = false) :
    Gives (.l3CctlEnable q c v) s fun t =>
      t.fb F.L3_CCTL_DCEN c.val = false ∧ t.fb F.L3_CCTL_ICEN c.val = s.fb F.L3_CCTL_ICEN c.val := by
  have asks := (Wr.full_asks q (0xE00700800 + 8 * c.val) v F.L3_CCTL_DCEN s c.val (by decide)).trans (decide_eq_true ask)
  have kept := ignoreWarn_side s [] (.full q (0xE00700800 + 8 * c.val) v)
  refine ⟨_, rfl, ?_⟩
  rw [cctlWrite_refused hm asks was hr]
  exact ⟨(kept.fb _ _ rfl).trans was, kept.fb _ _ rfl⟩

theorem l3CctlEnable_taken (hm : isMachine s q = true)
    (hd : bitsOf v F.L3_CCTL_DCEN = 1 → s.fb F.L3_CCTL_DCEN c.val = false →
      s.fb F.L3_CCTL_DSWEPT c.val = true ∧ s.fb F.L3_L2CTL_EN (clusterOf c).val = true)
    (hi : bitsOf v F.L3_CCTL_ICEN = 1 → s.fb F.L3_CCTL_ICEN c.val = true) :
    Gives (.l3CctlEnable q c v) s fun t => t.fb F.L3_CCTL_DCEN c.val = decide (bitsOf v F.L3_CCTL_DCEN = 1) ∧
      t.mem = s.mem ∧ t.cpus = s.cpus ∧ (s.fb F.L3_CCTL_DCEN c.val = true → ¬ bitsOf v F.L3_CCTL_DCEN = 1 →
        t.fb F.L3_CCTL_DSWEPT c.val = false) := by
  have taken := cctlWrite_taken (w := .full q (0xE00700800 + 8 * c.val) v) (c := c) hm
  rw [Wr.full_asks _ _ _ _ _ _ (by decide), Wr.full_asks _ _ _ _ _ _ (by decide), decide_eq_true_iff, decide_eq_true_iff,
    decide_eq_false_iff_not] at taken
  exact ⟨_, rfl, taken hd hi⟩

theorem icinv_gives (hm : isMachine s q = true) : Gives (.icinv q c) s fun t => t.fb F.L3_CCTL_ISWEPT c.val = true ∧
    t.fb F.L3_CCTL_DCEN c.val = s.fb F.L3_CCTL_DCEN c.val ∧ t.fb F.L3_CCTL_ICEN c.val = s.fb F.L3_CCTL_ICEN c.val ∧
    t.mem = s.mem ∧ t.cpus = s.cpus := by
  have beside := icInvalidate_beside s c
  refine ⟨_, rfl, ?_⟩
  rw [atMachine_of hm]
  exact ⟨State.fb_setB_same _ _ _ true (by decide), beside.fb _ _ rfl, beside.fb _ _ rfl, beside.mem, beside.cpus⟩

end

/-! ### The enables of the L2s and of the L3 slices (11 R237) -/

section
variable {s : State} {q : Requester} {n : Fin 4} {x : Fin 8} {v : Word}

theorem l3L2ctlWrite_enables (hm : isMachine s q = true) (ask : bitsOf v F.L3_L2CTL_EN = 1)
    (was : s.fb F.L3_L2CTL_EN n.val = false) : Gives (.l3L2ctlWrite q n v) s fun t =>
      t.fb F.L3_L2CTL_EN n.val = s.fb F.L3_L2CTL_SWEPT n.val ∧ t.mem = s.mem ∧ t.cpus = s.cpus := by
  refine ⟨_, rfl, ?_⟩
  rw [l2ctlWrite, atMachine_of hm]
  simp only [Wr.full_asks q _ v F.L3_L2CTL_EN s n.val (by decide), ask, was]
  exact enabled_iff_swept _ rfl (by decide) was

/-- The disable is ignored while an L1 cache of the cluster is enabled. -/
theorem l3L2ctlWrite_disables (hm : isMachine s q = true) (ask : ¬ bitsOf v F.L3_L2CTL_EN = 1)
    (was : s.fb F.L3_L2CTL_EN n.val = true) : Gives (.l3L2ctlWrite q n v) s fun t =>
      t.fb F.L3_L2CTL_EN n.val = anyL1On s n ∧ t.mem = s.mem ∧ t.cpus = s.cpus := by
  have refused := ignoreWarn_side s [] (.full q (0xE00700900 + 8 * n.val) v)
  refine ⟨_, rfl, ?_⟩
  rw [l2ctlWrite, atMachine_of hm]
  simp only [Wr.full_asks q _ v F.L3_L2CTL_EN s n.val (by decide), ask, was]
  cases anyL1On s n with
  | true => exact ⟨(refused.fb _ _ rfl).trans was, refused.mem, refused.cpus⟩
  | false =>
    obtain ⟨off, -, kept⟩ := disabled_gives s (.l2 n) (en := F.L3_L2CTL_EN) n.val rfl (by decide)
    exact ⟨off, kept⟩

theorem l3SlctlWrite_enables (hm : isMachine s q = true) (ask : bitsOf v F.L3_SLCTL_EN = 1)
    (was : s.fb F.L3_SLCTL_EN x.val = false) : Gives (.l3SlctlWrite q x v) s fun t =>
      t.fb F.L3_SLCTL_EN x.val = s.fb F.L3_SLCTL_SWEPT x.val ∧ t.mem = s.mem ∧ t.cpus = s.cpus := by
  refine ⟨_, rfl, ?_⟩
  rw [slctlWrite, atMachine_of hm]
  simp only [Wr.full_asks q _ v F.L3_SLCTL_EN s x.val (by decide), ask, was]
  exact enabled_iff_swept _ rfl (by decide) was

theorem l3SlctlWrite_disables (hm : isMachine s q = true) (ask : ¬ bitsOf v F.L3_SLCTL_EN = 1)
    (was : s.fb F.L3_SLCTL_EN x.val = true) : Gives (.l3SlctlWrite q x v) s fun t => t.fb F.L3_SLCTL_EN x.val = false ∧
      t.fb F.L3_SLCTL_SWEPT x.val = false ∧ t.mem = s.mem ∧ t.cpus = s.cpus := by
  refine ⟨_, rfl, ?_⟩
  rw [slctlWrite, atMachine_of hm]
  simp only [Wr.full_asks q _ v F.L3_SLCTL_EN s x.val (by decide), ask, was]
  exact disabled_gives s (.l3 x) x.val rfl (by decide)

end

/-! ### O34 -/

/-- Settles O34: each clause is the lemma about its command. -/
theorem cacheRegisters : Obligations.CacheRegisters := by
  intro s q c n x p v
  refine ⟨fun hm => ⟨_, rfl, waysWrite_machine hm rfl rfl rfl⟩, fun hm => ⟨_, rfl, waysWrite_machine hm rfl rfl rfl⟩,
    fun hm => ⟨⟨_, rfl, machineWrite_ignored hm rfl _⟩, _, rfl, machineWrite_ignored hm rfl _⟩,
    fun hm ask _ swept l2 noI => ?_, l3CctlEnable_refused, fun hm ask was noI => ?_, icinv_gives,
    l3L2ctlWrite_enables, l3L2ctlWrite_disables, l3SlctlWrite_enables, l3SlctlWrite_disables⟩
  · obtain ⟨t, run, dcen, mem, cpus, -⟩ := l3CctlEnable_taken hm (fun _ _ => ⟨swept, l2⟩) noI
    exact ⟨t, run, dcen.trans (decide_eq_true ask), mem, cpus⟩
  · obtain ⟨t, run, dcen, mem, -, unswept⟩ := l3CctlEnable_taken hm (fun h _ => absurd h ask) noI
    exact ⟨t, run, dcen.trans (decide_eq_false ask), mem.symm, unswept was ask⟩

end Sys2Proof.Machine
end

section
/-! The fabric links family (spec 12): what the operations on links leave alone. -/

namespace Sys2Proof.Machine

/-! ### What operations on links leave alone -/

/-- `t` is `s` but for fields, interrupt commitments, records, links, the Caddy's queue and the free values taken. -/
structure OnlyLinks (s t : State) : Prop where
  rest : { t with flds := s.flds, icCommit := s.icCommit, icPulse := s.icPulse, dregs := s.dregs, links := s.links,
                  caddy := s.caddy, free := s.free } = s

namespace OnlyLinks
variable {s t u : State}

theorem refl (s : State) : OnlyLinks s s := ⟨rfl⟩

theorem trans (h : OnlyLinks s t) (h' : OnlyLinks t u) : OnlyLinks s u :=
  ⟨by have h1 := h.rest; rw [← h'.rest] at h1; exact h1⟩

theorem ite {c : Prop} [Decidable c] (ht : OnlyLinks s t) (hu : OnlyLinks s u) : OnlyLinks s (if c then t else u) := by
  split
  · exact ht
  · exact hu

theorem mem (h : OnlyLinks s t) : t.mem = s.mem := by
  have e := congrArg State.mem h.rest
  exact e

theorem router (h : OnlyLinks s t) : t.router = s.router := by
  have e := congrArg State.router h.rest
  exact e

theorem time (h : OnlyLinks s t) : t.time = s.time := by
  have e := congrArg State.time h.rest
  exact e

theorem setF (h : OnlyLinks s t) (f : Fld) (i v : Nat) : OnlyLinks s (t.setF f i v) := ⟨h.rest⟩

theorem setB (h : OnlyLinks s t) (f : Fld) (i : Nat) (b : Bool) : OnlyLinks s (t.setB f i b) := h.setF f i _

theorem bumpF (h : OnlyLinks s t) (f : Fld) (i : Nat) : OnlyLinks s (t.bumpF f i) := .ite (h.setF f i _) h

theorem putLk (h : OnlyLinks s t) (n : Nat) (x : Link) : OnlyLinks s (putLk t n x) := ⟨h.rest⟩

theorem unqueue (h : OnlyLinks s t) (n : Nat) : OnlyLinks s (unqueue t n) := ⟨h.rest⟩

theorem takeFree (h : OnlyLinks s t) : OnlyLinks s t.takeFree.2 := ⟨h.rest⟩

theorem raiseSource (h : OnlyLinks s t) (n : Nat) : OnlyLinks s (raiseSource t n) :=
  h.trans ⟨congrArg (fun u : State => { u with dregs := t.dregs, links := t.links, caddy := t.caddy, free := t.free })
    (raiseSource_frame t n).rest⟩

theorem dregs (h : OnlyLinks s t) (source cls code detail : Nat) : OnlyLinks s (dregs t source cls code detail) :=
  h.trans ⟨congrArg (fun u : State => { u with links := t.links, caddy := t.caddy, free := t.free })
    (dregs_frame t source cls code detail).rest⟩

theorem dregsOpen (h : OnlyLinks s t) (cls : Nat) : OnlyLinks s (dregsOpen t cls) := h.takeFree.takeFree.takeFree.dregs _ _ _ _

theorem linkRecord (h : OnlyLinks s t) (n code cls : Nat) : OnlyLinks s (linkRecord t n code cls) := .ite (h.dregs _ _ _ _) h

theorem setLink (h : OnlyLinks s t) (n st reason : Nat) : OnlyLinks s (setLink t n st reason) := by
  have link := (h.setF F.NG_LINKSTAT_STATE n st).setF F.NG_LINKSTAT_REASON n reason
  have port := ((h.setF F.MR_PORTSTAT_STATE (n - 32) st).setF F.MR_PORTSTAT_REASON (n - 32) reason).setF
    (if n - 32 = 0 then F.MR_STAT_PORT0 else F.MR_STAT_PORT1) 0 (portSummary st)
  exact .ite (.ite link (link.raiseSource _)) (.ite ((port.raiseSource _).dregs _ _ _ _) port)

theorem flushHome (h : OnlyLinks s t) (n : Nat) : OnlyLinks s (flushHome t n) := by
  unfold Machine.flushHome
  split
  · exact h
  · exact .ite h (h.putLk _ _)

theorem leaveBond (h : OnlyLinks s t) (n : Nat) : OnlyLinks s (leaveBond t n) := by
  unfold Machine.leaveBond
  split
  · exact ((((h.putLk _ _).setB _ _ _).putLk _ _).flushHome _).linkRecord _ _ _
  · exact h

theorem leaveAll (h : OnlyLinks s t) (n : Nat) : OnlyLinks s (leaveAll t n) :=
  have stream : OnlyLinks s (leaveStream t n) := .ite h (.ite (h.putLk _ _) h)
  stream.leaveBond n

theorem linkTrain (h : OnlyLinks s t) (n st : Nat) (full : Bool) : OnlyLinks s (linkTrain t n st full) :=
  (((h.leaveAll n).unqueue n).putLk _ _).setLink _ _ _

theorem linkQuarantine (h : OnlyLinks s t) (n reason : Nat) : OnlyLinks s (linkQuarantine t n reason) :=
  .ite ((((h.leaveBond n).putLk _ _).setLink _ _ _).linkRecord _ _ _) h

theorem linkRetrain (h : OnlyLinks s t) (n : Nat) (full : Bool) : OnlyLinks s (linkRetrain t n full) := by
  have trained (x : Link) := (((h.putLk n x).bumpF F.NG_LINKERR_RETRAINS n).linkTrain n 6 full).linkRecord n 0x306 clsWarn
  exact .ite (.ite (((trained _).putLk _ _).linkQuarantine _ _) (trained _)) ((h.putLk _ _).linkTrain _ _ _)

theorem linkRefuse (h : OnlyLinks s t) (n reason code cls : Nat) : OnlyLinks s (linkRefuse t n reason code cls) :=
  (((h.leaveAll n).unqueue n).setLink _ _ _).linkRecord _ _ _

theorem portActivate (h : OnlyLinks s t) (n : Nat) : OnlyLinks s (portActivate t n) :=
  .ite (h.linkRefuse _ _ _ _) ((((h.setF _ _ _).setLink _ _ _).putLk _ _).flushHome _)

theorem linkActivate (h : OnlyLinks s t) (n : Nat) : OnlyLinks s (linkActivate t n) := by
  have active (x : Link) (r : Nat) := ((h.putLk n x).setLink n 5 r).linkRecord n 0x300 clsInfo
  have joined (x y z : Link) (r b : Nat) :=
    (((((active x r).putLk b y).setB F.NG_LINKSTAT_BONDED n true).putLk n z).flushHome b)
  refine .ite ((h.putLk _ _).setLink _ _ _) (.ite ((h.putLk _ _).portActivate _) (.ite (.ite ?_ ?_) ?_))
  · exact (joined _ _ _ _ _).linkRecord _ _ _
  · exact joined _ _ _ _ _
  · exact ((active _ _).putLk _ _).flushHome _

end OnlyLinks

end Sys2Proof.Machine
end

section
/-! The fabric links family (spec 12): the record, STATE and REASON of a link, and what it is after it has left a bond, begun
to train, retrained or been quarantined. -/

namespace Sys2Proof.Machine

/-! ### The record of a link -/

section
variable (s : State) (n m st reason code cls : Nat) (x : Link)

theorem lk_congr {s t : State} (h : t.links = s.links) (n : Nat) : lk t n = lk s n := by rw [lk, lk, h]

@[simp] theorem lk_putLk_same : lk (putLk s n x) n = x := mget_mset_same _ _ _ _

theorem lk_putLk_ne {n m : Nat} (h : m ≠ n) : lk (putLk s n x) m = lk s m := mget_mset_ne _ _ _ h.symm

@[simp] theorem linkRecord_links : (linkRecord s n code cls).links = s.links := by
  unfold linkRecord
  split
  · exact dregs_links _ _ _ _ _
  · rfl

@[simp] theorem setLink_links : (setLink s n st reason).links = s.links := by
  unfold setLink
  dsimp only
  split
  · split
    · rfl
    · exact raiseSource_links _ _
  · split
    · rw [dregs_links, raiseSource_links]; rfl
    · rfl

@[simp] theorem bumpF_links (f : Fld) (i : Nat) : (s.bumpF f i).links = s.links := by
  unfold State.bumpF
  dsimp only
  split <;> rfl

@[simp] theorem lk_linkRecord : lk (linkRecord s n code cls) m = lk s m := lk_congr (linkRecord_links _ _ _ _) m
@[simp] theorem lk_setLink : lk (setLink s n st reason) m = lk s m := lk_congr (setLink_links _ _ _ _) m
@[simp] theorem lk_bumpF (f : Fld) (i : Nat) : lk (s.bumpF f i) m = lk s m := lk_congr (bumpF_links _ _ _) m

theorem lk_flushHome_ne {m n : Nat} (h : m ≠ n) : lk (flushHome s n) m = lk s m := by
  unfold flushHome
  split
  · rfl
  · split
    · rfl
    · exact lk_putLk_ne _ _ h

/-- Nothing waits for credit: nothing leaves. -/
theorem flushHome_idle {s : State} {n : Nat} (h : (lk s n).unsent = 0) : flushHome s n = s := by
  unfold flushHome
  split
  · rfl
  · exact if_pos h

end

/-! ### STATE and REASON of a link -/

section
variable {s t : State} {k : Fld → Bool} {n m st reason : Nat}

theorem FieldsKept.lstate (h : FieldsKept k s t) (hl : k F.NG_LINKSTAT_STATE = false) (hp : k F.MR_PORTSTAT_STATE = false)
    (n : Nat) : lstate t n = lstate s n := by
  rw [Machine.lstate, Machine.lstate, h _ _ hl, h _ _ hp]

theorem lstate_congr (h : t.flds = s.flds) (n : Nat) : lstate t n = lstate s n :=
  FieldsKept.lstate (k := dregsField) (.of_flds h) rfl rfl n

/-- The fields that a change of a link's state puts, before the part reports it. -/
def linkPut (s : State) (n st reason : Nat) : State :=
  if n < 32 then (s.setF F.NG_LINKSTAT_STATE n st).setF F.NG_LINKSTAT_REASON n reason
  else ((s.setF F.MR_PORTSTAT_STATE (n - 32) st).setF F.MR_PORTSTAT_REASON (n - 32) reason).setF
    (if n - 32 = 0 then F.MR_STAT_PORT0 else F.MR_STAT_PORT1) 0 (portSummary st)

theorem raiseSource_dregsKept (s : State) (n : Nat) : FieldsKept dregsField s (raiseSource s n) :=
  (raiseSource_trip s n).fl.weaken icField_of_dregsField

theorem linkRecord_dregsKept (s : State) (n code cls : Nat) : FieldsKept dregsField s (linkRecord s n code cls) :=
  .ite (dregs_trip _ _ _ _ _).fl (.of_flds rfl)

/-- The report, a source and for a mirror port a record, changes none of them. -/
theorem setLink_reports (s : State) (n st reason : Nat) : FieldsKept dregsField (linkPut s n st reason) (setLink s n st reason) := by
  unfold setLink linkPut
  dsimp only
  split
  · exact .ite (.of_flds rfl) (raiseSource_dregsKept _ _)
  · exact .ite (.trans (raiseSource_dregsKept _ _) (dregs_trip _ _ _ _ _).fl) (.of_flds rfl)

theorem lstate_setLink_same (hst : st < 16) : lstate (setLink s n st reason) n = st := by
  rw [(setLink_reports s n st reason).lstate rfl rfl, lstate, linkPut]
  split
  · rw [State.fl_setF_id _ _ _ _ (by decide), State.fl_setF_same]
    exact Nat.mod_eq_of_lt hst
  · rw [State.fl_setF_id _ _ _ _ (by split <;> decide), State.fl_setF_id _ _ _ _ (by decide), State.fl_setF_same]
    exact Nat.mod_eq_of_lt hst

theorem lstate_setLink_ne (hn : n < 34) (hm : m < 34) (h : m ≠ n) : lstate (setLink s n st reason) m = lstate s m := by
  rw [(setLink_reports s n st reason).lstate rfl rfl, lstate, lstate, linkPut]
  split <;> split
  · rw [State.fl_setF_id _ _ _ _ (by decide), State.fl_setF_ix _ _ _ (by omega)]
  · rw [State.fl_setF_id _ _ _ _ (by split <;> decide), State.fl_setF_id _ _ _ _ (by decide),
      State.fl_setF_id _ _ _ _ (by decide)]
  · rw [State.fl_setF_id _ _ _ _ (by decide), State.fl_setF_id _ _ _ _ (by decide)]
  · rw [State.fl_setF_id _ _ _ _ (by split <;> decide), State.fl_setF_id _ _ _ _ (by decide),
      State.fl_setF_ix _ _ _ (by omega)]

theorem reason_setLink (hn : n < 32) (hr : reason < 16) : (setLink s n st reason).fl F.NG_LINKSTAT_REASON n = reason := by
  rw [setLink_reports s n st reason _ _ rfl, linkPut, if_pos hn, State.fl_setF_same]
  exact Nat.mod_eq_of_lt hr

@[simp] theorem lstate_linkRecord (s : State) (n code cls m : Nat) : lstate (linkRecord s n code cls) m = lstate s m :=
  (linkRecord_dregsKept s n code cls).lstate rfl rfl m

@[simp] theorem lstate_putLk (s : State) (n : Nat) (x : Link) (m : Nat) : lstate (putLk s n x) m = lstate s m := rfl
@[simp] theorem lstate_unqueue (s : State) (n m : Nat) : lstate (unqueue s n) m = lstate s m := rfl
@[simp] theorem lk_unqueue (s : State) (n m : Nat) : lk (unqueue s n) m = lk s m := rfl
@[simp] theorem lstate_flushHome (s : State) (h m : Nat) : lstate (flushHome s h) m = lstate s m :=
  lstate_congr (flushHome_flds s h) m

theorem lstate_setF {f : Fld} (hl : f.id ≠ F.NG_LINKSTAT_STATE.id) (hp : f.id ≠ F.MR_PORTSTAT_STATE.id) (s : State)
    (i v m : Nat) : lstate (s.setF f i v) m = lstate s m := by
  rw [lstate, lstate, State.fl_setF_id _ _ _ _ hl, State.fl_setF_id _ _ _ _ hp]

theorem lstate_bumpF {f : Fld} (hl : f.id ≠ F.NG_LINKSTAT_STATE.id) (hp : f.id ≠ F.MR_PORTSTAT_STATE.id) (s : State)
    (i m : Nat) : lstate (s.bumpF f i) m = lstate s m := by
  unfold State.bumpF
  dsimp only
  split
  · exact lstate_setF hl hp _ _ _ _
  · rfl

end

/-! ### Leaving a bond, or the mirror stream (12 R251; 15 R318) -/

section
variable {s : State} {n m b : Nat}

theorem bondOf_some (h : bondOf s n = some b) : n < 32 ∧ s.fb F.NG_LINKSTAT_BONDED n = true ∧ b = 33 + (lk s n).bond := by
  unfold bondOf at h
  split at h
  · rename_i hc
    rw [Bool.and_eq_true, decide_eq_true_eq] at hc
    exact ⟨hc.1, hc.2, (Option.some.inj h).symm⟩
  · cases h

theorem bondOf_unbonded (h : s.fb F.NG_LINKSTAT_BONDED n = false) : bondOf s n = none := by
  rw [bondOf, h, Bool.and_false, if_neg Bool.false_ne_true]

theorem bondOf_port (h : 32 ≤ n) : bondOf s n = none := by
  rw [bondOf, decide_eq_false (by omega), Bool.false_and, if_neg Bool.false_ne_true]

theorem bondOf_bonded (hn : n < 32) (h : s.fb F.NG_LINKSTAT_BONDED n = true) : bondOf s n = some (33 + (lk s n).bond) := by
  rw [bondOf, h, decide_eq_true hn, Bool.and_self, if_pos rfl]

theorem leaveBond_alone (h : bondOf s n = none) : leaveBond s n = s := by rw [leaveBond, h]

/-- What a member takes with it when it leaves its bond. -/
theorem lk_leaveBond (h : bondOf s n = some b) : lk (leaveBond s n) n =
    withSession (restart { lk s n with left := true, replay := 0, sent := [], unsent := 0 } 448) (lk s b) := by
  have hb : n ≠ b := by have := bondOf_some h; omega
  simp only [leaveBond, h, lk_linkRecord, lk_flushHome_ne _ hb, lk_putLk_same, lk_putLk_ne _ _ hb]
  rfl

/-- No link but the member, and no home but the bond's, sees it leave. -/
theorem lk_leaveBond_ne (hm : m ≠ n) (hb : m < 33) : lk (leaveBond s n) m = lk s m := by
  unfold leaveBond
  split
  · rename_i b h
    have hmb : m ≠ b := by have := bondOf_some h; omega
    rw [lk_linkRecord, lk_flushHome_ne _ hmb, lk_putLk_ne _ _ hm]
    exact lk_putLk_ne _ _ hmb
  · rfl

theorem leaveStream_link (hn : n < 32) : leaveStream s n = s := if_pos hn

theorem leaveAll_link (hn : n < 32) : leaveAll s n = leaveBond s n := by rw [leaveAll, leaveStream_link hn]

theorem leaveAll_port (hn : 32 ≤ n) : leaveAll s n = leaveStream s n := leaveBond_alone (bondOf_port hn)

theorem leaveBond_bondedKept (s : State) (n : Nat) : FieldsKept (noteField [F.NG_LINKSTAT_BONDED]) s (leaveBond s n) := by
  unfold leaveBond
  split
  · refine .trans (.trans ?_ (.of_flds (flushHome_flds _ _))) ((linkRecord_dregsKept _ _ _ _).weaken dregsField_of_noteField)
    exact .flds (.setF (.of_flds (putLk_flds s _ _)) (noteField_byId [F.NG_LINKSTAT_BONDED]) n _ rfl) (putLk_flds _ _ _)
  · exact .of_flds rfl

@[simp] theorem lstate_leaveBond (s : State) (n m : Nat) : lstate (leaveBond s n) m = lstate s m :=
  (leaveBond_bondedKept s n).lstate rfl rfl m

@[simp] theorem lstate_leaveAll (s : State) (n m : Nat) : lstate (leaveAll s n) m = lstate s m :=
  (lstate_leaveBond _ n m).trans (lstate_congr (leaveStream_flds s n) m)

/-- What a link keeps of its own record when it leaves what it is a member of: quarantine, retrains. -/
theorem lk_leaveAll_keeps (s : State) (n : Nat) : (lk (leaveAll s n) n).quar = (lk s n).quar ∧
    (lk (leaveAll s n) n).session = (lk s (sessHome s n)).session := by
  rcases Nat.lt_or_ge n 32 with hn | hn
  · rw [leaveAll_link hn, sessHome]
    cases h : bondOf s n with
    | none => rw [leaveBond_alone h]; exact ⟨rfl, rfl⟩
    | some b => rw [lk_leaveBond h]; exact ⟨rfl, rfl⟩
  · rw [leaveAll_port hn, sessHome, bondOf_port hn, leaveStream, if_neg (by omega), Option.getD_none]
    split
    · by_cases h : n = 32
      · rw [h, lk_putLk_same]; exact ⟨rfl, rfl⟩
      · rw [lk_putLk_ne _ _ h]; exact ⟨rfl, rfl⟩
    · exact ⟨rfl, rfl⟩

end

/-! ### Training, and the retrains that quarantine a link (12 R253, R265) -/

section
variable {s : State} {n m st reason : Nat} {full : Bool}

theorem linkTrain_lstate (hst : st < 16) : lstate (linkTrain s n st full) n = st := lstate_setLink_same hst

/-- What training begins with. -/
structure Begun (x y : Link) (session : Bool) : Prop where
  symbols : y.symbols = false
  locked : y.locked = false
  session : y.session = session
  quar : y.quar = x.quar
  untrained : y.untrained = true

theorem linkTrain_begun : Begun (lk s n) (lk (linkTrain s n st full) n) ((lk s (sessHome s n)).session && !full) := by
  obtain ⟨quar, session⟩ := lk_leaveAll_keeps s n
  unfold linkTrain
  dsimp only
  rw [lk_setLink, lk_putLk_same]
  exact ⟨rfl, rfl, congrArg (· && !full) session, quar, rfl⟩

theorem linkTrain_ne (hn : n < 32) (hm : m < 32) (h : m ≠ n) :
    lk (linkTrain s n st full) m = lk s m ∧ lstate (linkTrain s n st full) m = lstate s m := by
  constructor
  · rw [linkTrain, lk_setLink, lk_putLk_ne _ _ h, lk_unqueue, leaveAll_link hn, lk_leaveBond_ne h (by omega)]
  · rw [linkTrain, lstate_setLink_ne (by omega) (by omega) h, lstate_putLk, lstate_unqueue, lstate_leaveAll]

theorem linkQuarantine_lstate (hn : n < 32) : lstate (linkQuarantine s n reason) n = 8 := by
  rw [linkQuarantine, if_pos hn]
  exact (lstate_linkRecord _ _ _ _ _).trans (lstate_setLink_same (by decide))

theorem linkQuarantine_ne (hn : n < 32) (hm : m < 32) (h : m ≠ n) :
    lk (linkQuarantine s n reason) m = lk s m ∧ lstate (linkQuarantine s n reason) m = lstate s m := by
  rw [linkQuarantine, if_pos hn]
  constructor
  · rw [lk_linkRecord, lk_setLink, lk_putLk_ne _ _ h, lk_leaveBond_ne h (by omega)]
  · rw [lstate_linkRecord, lstate_setLink_ne (by omega) (by omega) h, lstate_putLk, lstate_leaveBond]

/-- A quarantined link holds its reason: LEGACY where it held that. -/
theorem linkQuarantine_quar (hn : n < 32) (hq : (lk s n).quar ≠ 3 ∨ reason = 3) (hr : reason < 16) :
    (lk (linkQuarantine s n reason) n).quar = reason ∧ (linkQuarantine s n reason).fl F.NG_LINKSTAT_REASON n = reason := by
  have reason_eq : (if (lk s n).quar = 3 then 3 else reason) = reason := by
    rcases hq with h | h
    · exact if_neg h
    · rw [h, ite_self]
  rw [linkQuarantine, if_pos hn]
  dsimp only
  rw [reason_eq]
  constructor
  · rw [lk_linkRecord, lk_setLink, lk_putLk_same]
  · exact (linkRecord_dregsKept _ _ _ _ _ _ rfl).trans (reason_setLink hn hr)

/-- A retrain of the link now is not one too many. -/
def retrainsOnly (s : State) (n : Nat) : Prop :=
  32 ≤ n ∨ (recent s 1000000000 (lk s n).retrainTimes).length + 1 < max 1 (s.fl F.NG_LINKCFG_QUAR_THR n)

/-- A link that retrains, its retrain counted. -/
def retrainCounted (s : State) (n : Nat) : State :=
  let s1 := putLk s n { lk s n with retrainTimes := s.time :: recent s 1000000000 (lk s n).retrainTimes, errTimes := [] }
  if n < 32 then s1.bumpF F.NG_LINKERR_RETRAINS n else s1

theorem sessHome_congr {s t : State} (hb : t.fb F.NG_LINKSTAT_BONDED n = s.fb F.NG_LINKSTAT_BONDED n)
    (hl : (lk t n).bond = (lk s n).bond) : sessHome t n = sessHome s n := by rw [sessHome, sessHome, bondOf, bondOf, hb, hl]

theorem retrainCounted_kept (s : State) (n : Nat) : FieldsKept (noteField [F.NG_LINKERR_RETRAINS]) s (retrainCounted s n) := by
  have put (x : Link) : FieldsKept (noteField [F.NG_LINKERR_RETRAINS]) s (putLk s n x) := .of_flds rfl
  exact .ite (.trans (put _) (.ite (.setF (.of_flds rfl) (noteField_byId _) _ _ rfl) (.of_flds rfl))) (put _)

theorem lk_retrainCounted (s : State) (n : Nat) : lk (retrainCounted s n) n =
    { lk s n with retrainTimes := s.time :: recent s 1000000000 (lk s n).retrainTimes, errTimes := [] } := by
  unfold retrainCounted
  dsimp only
  split
  · rw [lk_bumpF, lk_putLk_same]
  · rw [lk_putLk_same]

theorem lk_retrainCounted_ne (h : m ≠ n) : lk (retrainCounted s n) m = lk s m := by
  unfold retrainCounted
  dsimp only
  split
  · rw [lk_bumpF, lk_putLk_ne _ _ h]
  · rw [lk_putLk_ne _ _ h]

theorem retrainCounted_session (s : State) (n : Nat) :
    (lk (retrainCounted s n) (sessHome (retrainCounted s n) n)).session = (lk s (sessHome s n)).session := by
  have own := lk_retrainCounted s n
  rw [sessHome_congr ((retrainCounted_kept s n).fb _ _ rfl) (by rw [own])]
  by_cases h : sessHome s n = n
  · rw [h, own]
  · rw [lk_retrainCounted_ne h]

/-- A retrain that is not one too many trains the link; another quarantines it. -/
theorem linkRetrain_trains (h : retrainsOnly s n) :
    linkRetrain s n full = if n < 32 then linkRecord (linkTrain (retrainCounted s n) n 6 full) n 0x306 clsWarn
      else linkTrain (retrainCounted s n) n 6 full := by
  unfold linkRetrain retrainCounted
  dsimp only
  split
  · rename_i hn
    refine if_neg (Nat.not_le.mpr ?_)
    have thr := ((linkRecord_linkKept (linkTrain (retrainCounted s n) n 6 full) n 0x306 clsWarn) F.NG_LINKCFG_QUAR_THR n rfl).trans
      (((linkTrain_linkKept _ _ _ _) _ _ rfl).trans ((retrainCounted_kept s n) _ _ rfl))
    rw [retrainCounted, if_pos hn] at thr
    rw [thr, List.length_cons]
    exact h.resolve_left (Nat.not_le.mpr hn)
  · rfl

theorem linkRetrain_quarantines (h : ¬ retrainsOnly s n) : n < 32 ∧
    let t := linkRecord (linkTrain (retrainCounted s n) n 6 full) n 0x306 clsWarn
    linkRetrain s n full = linkQuarantine (putLk t n { lk t n with retrainTimes := [] }) n 4 := by
  obtain ⟨hn, thr⟩ := not_or.mp h
  have hn : n < 32 := Nat.not_le.mp hn
  have same := ((linkRecord_linkKept (linkTrain (retrainCounted s n) n 6 full) n 0x306 clsWarn) F.NG_LINKCFG_QUAR_THR n rfl).trans
    (((linkTrain_linkKept _ _ _ _) _ _ rfl).trans ((retrainCounted_kept s n) _ _ rfl))
  unfold linkRetrain
  rw [if_pos hn]
  unfold retrainCounted at same ⊢
  rw [if_pos hn] at same ⊢
  exact ⟨hn, if_pos (by rw [same, List.length_cons]; exact Nat.not_lt.mp thr)⟩

theorem linkRetrain_begun (h : retrainsOnly s n) : lstate (linkRetrain s n full) n = 6 ∧
    Begun (lk s n) (lk (linkRetrain s n full) n) ((lk s (sessHome s n)).session && !full) := by
  have begun := linkTrain_begun (s := retrainCounted s n) (n := n) (st := 6) (full := full)
  have state := linkTrain_lstate (s := retrainCounted s n) (n := n) (full := full) (by decide : 6 < 16)
  rw [retrainCounted_session] at begun
  have quar : (lk (retrainCounted s n) n).quar = (lk s n).quar := by rw [lk_retrainCounted]
  have begun : Begun (lk s n) _ _ := ⟨begun.symbols, begun.locked, begun.session, begun.quar.trans quar, begun.untrained⟩
  rw [linkRetrain_trains h]
  split
  · rw [lstate_linkRecord, lk_linkRecord]
    exact ⟨state, begun⟩
  · exact ⟨state, begun⟩

theorem linkRetrain_quarantined (h : ¬ retrainsOnly s n) : lstate (linkRetrain s n full) n = 8 := by
  obtain ⟨hn, e⟩ := linkRetrain_quarantines (full := full) h
  rw [e, linkQuarantine_lstate hn]

/-- A retrain of a link leaves every other link as it is. -/
theorem linkRetrain_ne (hn : n < 32) (hm : m < 32) (h : m ≠ n) :
    lk (linkRetrain s n full) m = lk s m ∧ lstate (linkRetrain s n full) m = lstate s m := by
  obtain ⟨own, state⟩ := linkTrain_ne (s := retrainCounted s n) (st := 6) (full := full) hn hm h
  rw [lk_retrainCounted_ne h] at own
  rw [(retrainCounted_kept s n).lstate rfl rfl] at state
  by_cases few : retrainsOnly s n
  · rw [linkRetrain_trains few, if_pos hn, lk_linkRecord, lstate_linkRecord]
    exact ⟨own, state⟩
  · rw [(linkRetrain_quarantines few).2, (linkQuarantine_ne hn hm h).1, (linkQuarantine_ne hn hm h).2, lk_putLk_ne _ _ h,
      lstate_putLk, lk_linkRecord, lstate_linkRecord]
    exact ⟨own, state⟩

end

end Sys2Proof.Machine
end

section
/-! The fabric links family (spec 12): a link or mirror port from OFF to ACTIVE, and what makes it train again (O35). -/

namespace Sys2Proof.Machine

/-! ### Retrains (12 R265) -/

/-- The command retrains the link, or quarantines it where that is one retrain too many. -/
def Retrains (cmd : Instr) (s : State) (n : Nat) : Prop :=
  (retrainsOnly s n → Gives cmd s fun t => lstate t n = 6 ∧ (lk t n).symbols = false ∧ (lk t n).locked = false ∧ t.mem = s.mem) ∧
  (¬ retrainsOnly s n → Gives cmd s fun t => lstate t n = 8 ∧ t.mem = s.mem)

theorem retrains_of_run {cmd : Instr} {s : State} {n : Nat} (run : exec cmd s = .next (linkRetrain s n false)) :
    Retrains cmd s n := by
  have mem := ((OnlyLinks.refl s).linkRetrain n false).mem
  refine ⟨fun h => ?_, fun h => ⟨_, run, linkRetrain_quarantined h, mem⟩⟩
  obtain ⟨state, begun⟩ := linkRetrain_begun (full := false) h
  exact ⟨_, run, state, begun.symbols, begun.locked, mem⟩

/-! ### NG_LINKCFG (12 R253, R254) -/

/-- The fields of a link's configuration. -/
def linkConfig : List Fld := [F.NG_LINKCFG_EN, F.NG_LINKCFG_BOND, F.NG_LINKCFG_RPF, F.NG_LINKCFG_VERLIM, F.NG_LINKCFG_CREDIT_TMO,
  F.NG_LINKCFG_RETRAIN_THR, F.NG_LINKCFG_QUAR_THR, F.NG_LINKCFG_TAG_THR, F.NG_LINKCFG_DENY_THR]

/-- A link whose configuration has been written, before EN acts. -/
def linkConfigured (s : State) (w : Wr) (n : Nat) : State :=
  let s1 := putFields s w linkConfig n n
  s1.setF F.NG_LINKCFG_CREDIT_TMO n (min 10000 (max 10 (s1.fl F.NG_LINKCFG_CREDIT_TMO n)))

section
variable {s t : State} {q : Requester} {off n : Nat} {v : Word} {w : Fin 32}

theorem linkConfigured_only (s : State) (w : Wr) (n : Nat) : OnlyRegs s (linkConfigured s w n) :=
  OnlyRegs.trans (putFields_only s w n n linkConfig) rfl

theorem OnlyRegs.links (h : OnlyRegs s t) : t.links = s.links := by
  have e := congrArg State.links h
  exact e

theorem OnlyPower.links (h : OnlyPower s t) : t.links = s.links := by
  have e := congrArg State.links h
  exact e

theorem linkConfigured_other (s : State) (w : Wr) (n : Nat) {g : Fld} (h : ∀ f ∈ linkConfig, f.id ≠ g.id) (j : Nat) :
    (linkConfigured s w n).fl g j = s.fl g j :=
  (State.fl_setF_id _ _ _ _ (h _ (by decide))).trans (putFields_other s w n n h j)

theorem linkConfigured_lstate (s : State) (w : Wr) (n m : Nat) : lstate (linkConfigured s w n) m = lstate s m := by
  rw [lstate, lstate, linkConfigured_other s w n (by decide), linkConfigured_other s w n (by decide)]

theorem linkConfigured_en (s : State) : (linkConfigured s (.full q off v) n).fl F.NG_LINKCFG_EN n = bitsOf v F.NG_LINKCFG_EN :=
  (State.fl_setF_id _ _ _ _ (by decide)).trans (putFields_replaces (by decide) (by decide) (by decide))

theorem linkConfigured_creditTmo (s : State) : (linkConfigured s (.full q off v) n).fl F.NG_LINKCFG_CREDIT_TMO n =
    min 10000 (max 10 (bitsOf v F.NG_LINKCFG_CREDIT_TMO)) := by
  have written : (putFields s (.full q off v) linkConfig n n).fl F.NG_LINKCFG_CREDIT_TMO n = bitsOf v F.NG_LINKCFG_CREDIT_TMO :=
    putFields_replaces (by decide) (by decide) (by decide)
  have fits : min 10000 (max 10 (bitsOf v F.NG_LINKCFG_CREDIT_TMO)) < 2 ^ F.NG_LINKCFG_CREDIT_TMO.width :=
    (min_le_left _ _).trans_lt (by decide)
  rw [linkConfigured, written, State.fl_setF_same, Nat.mod_eq_of_lt fits]

theorem linkcfg_reg (s : State) (w : Fin 32) : target s (0xE01001000 + 0x40 * w.val) = .reg :=
  target_reg s (0xE01000000, 0xE02FFFFFF) (by decide) ⟨by omega, by omega⟩

/-- What EN does, once the configuration has been written. -/
theorem linkcfgWrite_eq (s : State) (w : Wr) (n : Nat) : linkcfgWrite s w n =
    let t := linkConfigured s w n
    if !w.touches F.NG_LINKCFG_EN then t
    else if t.fb F.NG_LINKCFG_EN n then
      (if lstate t n = 0 ∨ lstate t n = 9 then linkTrain (putLk t n (stopped (lk t n))) n 1 true else t)
    else if lstate t n = 0 then t
    else unqueue (putLk (setLink (leaveAll t n) n 0 0) n (stopped (lk (leaveAll t n) n))) n := rfl

theorem linkcfgWrite_trains (hen : bitsOf v F.NG_LINKCFG_EN = 1) (hst : lstate s n = 0 ∨ lstate s n = 9) :
    linkcfgWrite s (.full q off v) n = linkTrain (putLk (linkConfigured s (.full q off v) n) n
      (stopped (lk (linkConfigured s (.full q off v) n) n))) n 1 true := by
  have en : (linkConfigured s (.full q off v) n).fb F.NG_LINKCFG_EN n = true := by rw [State.fb, linkConfigured_en, hen]; rfl
  rw [linkcfgWrite_eq]
  dsimp only
  rw [Wr.touches_full _ _ _ _ (by decide), if_neg (by decide), if_pos en, linkConfigured_lstate, if_pos hst]

theorem linkcfgWrite_stops (hen : bitsOf v F.NG_LINKCFG_EN = 0) (hst : lstate s n ≠ 0) :
    linkcfgWrite s (.full q off v) n = unqueue (putLk (setLink (leaveAll (linkConfigured s (.full q off v) n) n) n 0 0) n
      (stopped (lk (leaveAll (linkConfigured s (.full q off v) n) n) n))) n := by
  have en : (linkConfigured s (.full q off v) n).fb F.NG_LINKCFG_EN n = false := by rw [State.fb, linkConfigured_en, hen]; rfl
  rw [linkcfgWrite_eq]
  dsimp only
  rw [Wr.touches_full _ _ _ _ (by decide), if_neg (by decide), if_neg (Bool.eq_false_iff.mp en), linkConfigured_lstate,
    if_neg hst]

/-- EN = 1 trains a link that is OFF or REFUSED. -/
theorem linkcfg_trains (ho : openAt s (0xE01001000 + 0x40 * w.val)) (hen : bitsOf v F.NG_LINKCFG_EN = 1)
    (hst : lstate s w.val = 0 ∨ lstate s w.val = 9) : Gives (.ngLinkcfgWrite q w v) s fun t =>
      lstate t w.val = 1 ∧ (lk t w.val).session = false ∧ (lk t w.val).symbols = false ∧
      t.fl F.NG_LINKCFG_CREDIT_TMO w.val = min 10000 (max 10 (bitsOf v F.NG_LINKCFG_CREDIT_TMO)) := by
  obtain ⟨t, power, run⟩ := rowWrite_open (linkcfg_reg s w) ho q v fun s x => linkcfgWrite s x w.val
  rw [linkcfgWrite_trains hen (by rwa [lstate_congr power.flds])] at run
  refine ⟨_, run, linkTrain_lstate (by decide), ?_, linkTrain_begun.symbols, ?_⟩
  · rw [linkTrain_begun.session, Bool.not_true, Bool.and_false]
  · exact (linkTrain_linkKept _ _ _ _ _ _ rfl).trans (linkConfigured_creditTmo t)

/-- EN = 0 stops it; its quarantine stays, and that it has left its bond. -/
theorem linkcfg_stops (ho : openAt s (0xE01001000 + 0x40 * w.val)) (hen : bitsOf v F.NG_LINKCFG_EN = 0)
    (hst : lstate s w.val ≠ 0) : Gives (.ngLinkcfgWrite q w v) s fun t =>
      lstate t w.val = 0 ∧ (lk t w.val).quar = (lk s w.val).quar ∧
      (s.fb F.NG_LINKSTAT_BONDED w.val = false → lk t w.val = stopped (lk s w.val)) ∧
      (s.fb F.NG_LINKSTAT_BONDED w.val = true → (lk t w.val).left = true) := by
  obtain ⟨t, power, run⟩ := rowWrite_open (linkcfg_reg s w) ho q v fun s x => linkcfgWrite s x w.val
  rw [linkcfgWrite_stops hen (by rwa [lstate_congr power.flds])] at run
  have only := linkConfigured_only t (.full q (0xE01001000 + 0x40 * w.val) v) w.val
  have other := linkConfigured_other t (.full q (0xE01001000 + 0x40 * w.val) v) w.val (g := F.NG_LINKSTAT_BONDED) (by decide) w.val
  generalize linkConfigured t (.full q (0xE01001000 + 0x40 * w.val) v) w.val = u at run only other
  have own : lk u w.val = lk s w.val := lk_congr (only.links.trans power.links) _
  have bonded : u.fb F.NG_LINKSTAT_BONDED w.val = s.fb F.NG_LINKSTAT_BONDED w.val := by
    rw [State.fb, State.fb, other, power.fl]
  refine ⟨_, run, lstate_setLink_same (by decide), ?_, fun alone => ?_, fun member => ?_⟩
  · rw [lk_unqueue, lk_putLk_same, stopped, (lk_leaveAll_keeps u w.val).1, own]
  · rw [lk_unqueue, lk_putLk_same, leaveAll_link w.isLt, leaveBond_alone (bondOf_unbonded (bonded.trans alone)), own]
  · rw [lk_unqueue, lk_putLk_same, leaveAll_link w.isLt, lk_leaveBond (bondOf_bonded w.isLt (bonded.trans member))]
    rfl

end

/-! ### Symbols, absence and codeword lock (12 R243, R253, R263; 15 R316) -/

section
variable {s : State} {l : Fin 34}

/-- A link that trains is neither ABSENT nor REFUSED. -/
theorem training_state {n : Nat} (h : training s n = true) : ¬ (lstate s n = 2 ∨ lstate s n = 9) := by
  simp only [training, Bool.or_eq_true, Bool.and_eq_true, beq_iff_eq] at h
  omega

theorem symbols_noted (he : linkEnabled s l.val = true) (hc : linkClock s l.val = true) (ht : training s l.val = true) :
    Gives (.trainingSymbolsDetected l) s fun t => (lk t l.val).symbols = true ∧ lstate t l.val = lstate s l.val ∧
      t.flds = s.flds := by
  have run : exec (.trainingSymbolsDetected l) s = .next (putLk s l.val { lk s l.val with symbols := true }) := by
    change execTrainingSymbolsDetected l s = _
    simp [execTrainingSymbolsDetected, he, hc, training_state ht, ht]
  exact ⟨_, run, by rw [lk_putLk_same], rfl, rfl⟩

theorem symbols_train (he : linkEnabled s l.val = true) (hc : linkClock s l.val = true)
    (hst : lstate s l.val = 2 ∨ lstate s l.val = 9) :
    Gives (.trainingSymbolsDetected l) s fun t => (lk t l.val).symbols = true ∧ lstate t l.val = 1 := by
  have state : lstate (linkTrain s l.val 1 false) l.val = 1 := linkTrain_lstate (by decide)
  have trains : training (linkTrain s l.val 1 false) l.val = true := by rw [training, state]; rfl
  have run : exec (.trainingSymbolsDetected l) s = .next (putLk (linkTrain s l.val 1 false) l.val
      { lk (linkTrain s l.val 1 false) l.val with symbols := true }) := by
    change execTrainingSymbolsDetected l s = _
    simp [execTrainingSymbolsDetected, he, hc, hst, trains]
  exact ⟨_, run, by rw [lk_putLk_same], state⟩

theorem absent_gives (ht : training s l.val = true) (hl : (lk s l.val).locked = false) :
    Gives (.linkAbsent l) s fun t => lstate t l.val = 2 ∧ t.mem = s.mem := by
  have run : exec (.linkAbsent l) s = .next (linkRecord (setLink (putLk s l.val { lk s l.val with symbols := false }) l.val 2 0)
      l.val 0x301 clsWarn) := by
    change execLinkAbsent l s = _
    simp [execLinkAbsent, ht, hl]
  refine ⟨_, run, ?_, ((((OnlyLinks.refl s).putLk _ _).setLink _ _ _).linkRecord _ _ _).mem⟩
  rw [lstate_linkRecord, lstate_setLink_same (by decide)]

/-- A codeword lock that counts is measured, and judged by its flight time and its cabling. -/
theorem codewordLock_run (ht : training s l.val = true) (hs : (lk s l.val).symbols = true) (hc : linkClock s l.val = true)
    (delay : BitVec 20) (skew : Nat) (wrong : Bool) : exec (.codewordLock l delay skew wrong) s = .next (
      let s1 := putLk s l.val { lk s l.val with locked := true, skew := skew }
      if l.val < 32 then
        if 100000 < delay.toNat then setLink (s1.setF F.NG_LINKSTAT_DELAY l.val delay.toNat) l.val 9 10
        else s1.setF F.NG_LINKSTAT_DELAY l.val delay.toNat
      else
        let s2 := (s1.setF F.MR_PORTSTAT_DELAY (l.val - 32) delay.toNat).setF F.MR_PORTSTAT_PARTNER_PORT (l.val - 32)
          (if wrong then 1 - (l.val - 32) else l.val - 32)
        if 2000 < delay.toNat then setLink s2 l.val 9 10 else if wrong then setLink s2 l.val 9 11 else s2) := by
  change execCodewordLock l delay skew wrong s = _
  rw [execCodewordLock]
  exact congrArg _ (if_pos (by rw [ht, hs, hc]; rfl))

section
variable (ht : training s l.val = true) (hs : (lk s l.val).symbols = true) (hc : linkClock s l.val = true)
  {delay : BitVec 20} (skew : Nat) (wrong : Bool)
include ht hs hc

theorem codewordLock_link (hn : l.val < 32) (hd : delay.toNat ≤ 100000) :
    Gives (.codewordLock l delay skew wrong) s fun t => lk t l.val = { lk s l.val with locked := true, skew := skew } ∧
      lstate t l.val = lstate s l.val ∧ t.fl F.NG_LINKSTAT_DELAY l.val = delay.toNat := by
  have run := codewordLock_run ht hs hc delay skew wrong
  dsimp only at run
  rw [if_pos hn, if_neg (by omega)] at run
  refine ⟨_, run, lk_putLk_same _ _ _, ?_, ?_⟩
  · rw [lstate_setF (by decide) (by decide), lstate_putLk]
  · rw [State.fl_setF_same]
    exact Nat.mod_eq_of_lt delay.isLt

theorem codewordLock_far (hn : l.val < 32) (hd : 100000 < delay.toNat) :
    Gives (.codewordLock l delay skew wrong) s fun t => lstate t l.val = 9 ∧ t.fl F.NG_LINKSTAT_REASON l.val = 10 := by
  have run := codewordLock_run ht hs hc delay skew wrong
  dsimp only at run
  rw [if_pos hn, if_pos hd] at run
  exact ⟨_, run, lstate_setLink_same (by decide), reason_setLink hn (by decide)⟩

theorem codewordLock_port (hn : 32 ≤ l.val) (hd : delay.toNat ≤ 2000) :
    Gives (.codewordLock l delay skew wrong) s fun t =>
      lstate t l.val = (if wrong then 9 else lstate s l.val) ∧ t.fl F.MR_PORTSTAT_DELAY (l.val - 32) = delay.toNat := by
  have run := codewordLock_run ht hs hc delay skew wrong
  dsimp only at run
  rw [if_neg (by omega), if_neg (by omega)] at run
  have measured (t : State) (x : Nat) : ((t.setF F.MR_PORTSTAT_DELAY (l.val - 32) delay.toNat).setF F.MR_PORTSTAT_PARTNER_PORT
      (l.val - 32) x).fl F.MR_PORTSTAT_DELAY (l.val - 32) = delay.toNat := by
    rw [State.fl_setF_id _ _ _ _ (by decide), State.fl_setF_same]
    exact Nat.mod_eq_of_lt delay.isLt
  refine ⟨_, run, ?_⟩
  cases wrong with
  | true => exact ⟨lstate_setLink_same (by decide), (setLink_linkKept _ _ _ _ _ _ rfl).trans (measured _ _)⟩
  | false =>
    refine ⟨?_, measured _ _⟩
    change lstate (State.setF (State.setF _ _ _ _) _ _ _) _ = _
    rw [lstate_setF (by decide) (by decide), lstate_setF (by decide) (by decide), lstate_putLk]
    rfl

end

theorem helloTimeout_retrains (ht : training s l.val = true) (hl : (lk s l.val).locked = true) :
    Retrains (.helloTimeout l) s l.val :=
  retrains_of_run (congrArg Host.Outcome.next (if_pos (by rw [ht, hl]; rfl)))

theorem bondMemberLeave_retrains {w : Fin 32} (hb : s.fb F.NG_LINKSTAT_BONDED w.val = true) :
    Retrains (.bondMemberLeave w) s w.val :=
  retrains_of_run (congrArg Host.Outcome.next (if_pos (by rw [bondOf_bonded w.isLt hb]; rfl)))

theorem lockLoss_retrains (ht : trained s l.val = true) : Retrains (.codewordLockLoss l) s l.val :=
  retrains_of_run (congrArg Host.Outcome.next (if_pos ht))

/-- A link that loses its lock while it trains begins its training again. -/
theorem lockLoss_trains (ht : trained s l.val = false) (hl : hasLock s l.val = true) :
    Gives (.codewordLockLoss l) s fun t =>
      lstate t l.val = (if lstate s l.val = 6 ∨ lstate s l.val = 8 then 6 else 1) ∧ t.mem = s.mem := by
  have run : exec (.codewordLockLoss l) s =
      .next (linkTrain s l.val (if lstate s l.val = 6 ∨ lstate s l.val = 8 then 6 else 1) false) := by
    change execCodewordLockLoss l s = _
    simp only [execCodewordLockLoss, ht, hl, Bool.false_eq_true, if_false, if_true]
  exact ⟨_, run, linkTrain_lstate (by split <;> decide), ((OnlyLinks.refl s).linkTrain _ _ _).mem⟩

end

/-! ### ACTIVE (12 R249, R251 to R253, R260, R268) -/

section
variable {s : State} {n : Nat}

/-- What leaves on a home changes nothing that it has agreed. -/
theorem flushHome_agreed (s : State) (h m : Nat) :
    (lk (flushHome s h) m).quar = (lk s m).quar ∧ (lk (flushHome s h) m).serial = (lk s m).serial := by
  by_cases hm : m = h
  · subst hm
    unfold flushHome
    split
    · exact ⟨rfl, rfl⟩
    · split
      · exact ⟨rfl, rfl⟩
      · rw [lk_putLk_same]; exact ⟨rfl, rfl⟩
  · rw [lk_flushHome_ne _ hm]
    exact ⟨rfl, rfl⟩

/-- A link that holds a quarantine trains into it. -/
theorem linkActivate_quarantined (hq : (lk s n).quar ≠ 0) :
    linkActivate s n = setLink (trainedNow s n) n 8 (lk s n).quar := if_pos hq

/-- A link that has come up no longer waits to. -/
def upLink (x : Link) : Link := { x with untrained := false, waitsUp := false }

/-- A link that comes up joins its bond (12 R249, R252). -/
def joinsBond (s : State) (n : Nat) : Bool :=
  (lk s n).bondOk && bondFits (putLk s n (upLink (lk s n))) n && decide ((lk s n).skew ≤ 20)

/-- A link that has come up, before it sends anything. -/
def cameUp (s : State) (n : Nat) : State :=
  linkRecord (setLink (putLk s n (upLink (lk s n))) n 5
    (if ((lk s n).bondOk && bondFits (putLk s n (upLink (lk s n))) n) && !joinsBond s n then 9 else 0)) n 0x300 clsInfo

/-- Link `n`, of record `x`, joins its bond. -/
def inBond (s : State) (n : Nat) (x : Link) : State :=
  let b := 33 + x.bond
  let mates := (bondMates s n).length
  let y := restart (if mates = 0 && x.fresh then renumber (lk s b) else lk s b) (448 * (mates + 1))
  let s := putLk s b (if mates = 0 then withSession y x else y)
  putLk (s.setB F.NG_LINKSTAT_BONDED n true) n { lk s n with fresh := false, left := false }

theorem linkActivate_up (hn : n < 32) (hq : (lk s n).quar = 0) : linkActivate s n =
    let x := upLink (lk s n)
    let t := cameUp s n
    if joinsBond s n then
      if x.left then linkRecord (flushHome (inBond t n x) (33 + x.bond)) n 0x309 clsWarn
      else flushHome (inBond t n x) (33 + x.bond)
    else flushHome (putLk t n { restart x 448 with fresh := false }) n :=
  (if_neg (not_not.mpr hq)).trans (if_neg (Nat.not_le.mpr hn))

theorem cameUp_lstate (s : State) (n : Nat) : lstate (cameUp s n) n = 5 := by
  rw [cameUp, lstate_linkRecord, lstate_setLink_same (by decide)]

theorem lk_cameUp (s : State) (n : Nat) : lk (cameUp s n) n = upLink (lk s n) := by
  rw [cameUp, lk_linkRecord, lk_setLink, lk_putLk_same]

theorem cameUp_linkKept (s : State) (n : Nat) : FieldsKept linkField s (cameUp s n) :=
  .trans (.trans (.of_flds (putLk_flds s n _)) (setLink_linkKept _ _ _ _)) (linkRecord_linkKept _ _ _ _)

theorem inBond_lstate (s : State) (n : Nat) (x : Link) (m : Nat) : lstate (inBond s n x) m = lstate s m := by
  unfold inBond
  dsimp only
  rw [lstate_putLk, State.setB, lstate_setF (by decide) (by decide), lstate_putLk]

theorem lk_inBond (s : State) {n : Nat} (hn : n < 32) (x : Link) :
    lk (inBond s n x) n = { lk s n with fresh := false, left := false } := by
  unfold inBond
  dsimp only
  rw [lk_putLk_same, lk_putLk_ne _ _ (by omega)]

theorem inBond_linkKept (s : State) (n : Nat) (x : Link) : FieldsKept linkField s (inBond s n x) :=
  .flds (.setF (.of_flds (putLk_flds s _ _)) linkField_byId (f := F.NG_LINKSTAT_BONDED) n _ rfl) (putLk_flds _ _ _)

theorem inBond_bonded (s : State) (n : Nat) (x : Link) : (inBond s n x).fb F.NG_LINKSTAT_BONDED n = true :=
  State.fb_setB_same _ F.NG_LINKSTAT_BONDED n true (by decide)

/-- A link that comes up is ACTIVE, whether or not it joins a bond, and keeps what it has agreed. -/
theorem linkActivate_active (hn : n < 32) (hq : (lk s n).quar = 0) : lstate (linkActivate s n) n = 5 ∧
    (lk (linkActivate s n) n).quar = 0 ∧ (lk (linkActivate s n) n).serial = (lk s n).serial ∧
    FieldsKept linkField s (linkActivate s n) := by
  have came := cameUp_linkKept s n
  have bond := came.trans (inBond_linkKept (cameUp s n) n (upLink (lk s n)))
  have own := lk_cameUp s n
  have member := lk_inBond (cameUp s n) hn (upLink (lk s n))
  rw [linkActivate_up hn hq]
  dsimp only
  split
  · obtain ⟨quar, serial⟩ := flushHome_agreed (inBond (cameUp s n) n (upLink (lk s n))) (33 + (upLink (lk s n)).bond) n
    rw [member, own] at quar serial
    split
    · rw [lstate_linkRecord, lk_linkRecord, lstate_flushHome, inBond_lstate]
      exact ⟨cameUp_lstate s n, quar.trans hq, serial, (bond.flds (flushHome_flds _ _)).trans (linkRecord_linkKept _ _ _ _)⟩
    · rw [lstate_flushHome, inBond_lstate]
      exact ⟨cameUp_lstate s n, quar.trans hq, serial, bond.flds (flushHome_flds _ _)⟩
  · obtain ⟨quar, serial⟩ := flushHome_agreed (putLk (cameUp s n) n { restart (upLink (lk s n)) 448 with fresh := false }) n n
    rw [lk_putLk_same] at quar serial
    rw [lstate_flushHome, lstate_putLk]
    exact ⟨cameUp_lstate s n, quar.trans hq, serial, (came.flds (putLk_flds _ _ _)).flds (flushHome_flds _ _)⟩

/-- Trained, a link is ACTIVE, or QUARANTINED where it holds a quarantine. -/
theorem linkActivate_gives (hn : n < 32) : lstate (linkActivate s n) n = (if (lk s n).quar = 0 then 5 else 8) ∧
    (lk (linkActivate s n) n).serial = (lk s n).serial ∧ FieldsKept linkField s (linkActivate s n) := by
  by_cases hq : (lk s n).quar = 0
  · obtain ⟨state, -, serial, kept⟩ := linkActivate_active hn hq
    exact ⟨state.trans (if_pos hq).symm, serial, kept⟩
  · rw [linkActivate_quarantined hq, if_neg hq, lk_setLink, trainedNow, lk_putLk_same]
    exact ⟨lstate_setLink_same (by decide), rfl, .trans (.of_flds (putLk_flds s n _)) (setLink_linkKept _ _ _ _)⟩

/-- A link whose bond it fits joins that bond. -/
theorem linkActivate_joins (hn : n < 32) (hq : (lk s n).quar = 0) (hj : joinsBond s n = true) :
    lstate (linkActivate s n) n = 5 ∧ (linkActivate s n).fb F.NG_LINKSTAT_BONDED n = true := by
  have bonded := inBond_bonded (cameUp s n) n (upLink (lk s n))
  refine ⟨(linkActivate_active hn hq).1, ?_⟩
  rw [linkActivate_up hn hq]
  dsimp only
  rw [if_pos hj]
  split
  · exact ((linkRecord_dregsKept _ _ _ _).fb _ _ rfl).trans ((State.fb_congr (flushHome_flds _ _) _ _).trans bonded)
  · exact (State.fb_congr (flushHome_flds _ _) _ _).trans bonded

theorem linkRefuse_lstate {reason code cls : Nat} : lstate (linkRefuse s n reason code cls) n = 9 := by
  rw [linkRefuse, lstate_linkRecord, lstate_setLink_same (by decide)]

/-- The first port to come up gives the pair its version; one that found another is refused (15 R341). -/
def portRefused (s : State) (n : Nat) : Bool :=
  (lstate s (65 - n) == 5 || lstate s (65 - n) == 7) && s.fl F.MR_VER_AGREED 0 != (lk s n).ver

theorem portActivate_refused (h : portRefused s n = true) : portActivate s n = linkRefuse s n 1 0 clsWarn := if_pos h

theorem portActivate_gives (h : portRefused s n = false) : lstate (portActivate s n) n = 5 ∧
    (portActivate s n).fl F.MR_VER_AGREED 0 = (lk s n).ver % 2 ^ F.MR_VER_AGREED.width := by
  have e : portActivate s n = flushHome (putLk (setLink (s.setF F.MR_VER_AGREED 0 (lk s n).ver) n 5 0) 32
      (restart (lk (setLink (s.setF F.MR_VER_AGREED 0 (lk s n).ver) n 5 0) 32)
        (1536 + 1536 * b2n (lstate s (65 - n) == 5 || lstate s (65 - n) == 7)))) 32 := if_neg (Bool.eq_false_iff.mp h)
  rw [e, lstate_flushHome, lstate_putLk, lstate_setLink_same (by decide)]
  refine ⟨rfl, (State.fl_congr (flushHome_flds _ _) _ _).trans ?_⟩
  exact (setLink_linkKept _ _ _ _ _ _ rfl).trans (State.fl_setF_same _ _ _ _)

theorem linkActivate_port (hn : 32 ≤ n) (hq : (lk s n).quar = 0) :
    linkActivate s n = portActivate (putLk s n (upLink (lk s n))) n :=
  (if_neg (not_not.mpr hq)).trans (if_pos hn)

end

/-! ### HELLO (12 R249, R254, R255) -/

section
variable {s : State} {n : Nat} {h : Hello}

/-- The version that a HELLO agrees, and the capabilities. -/
def helloVer (h : Hello) : Nat := min 0x31 h.verHi.toNat
def helloCap (h : Hello) : Nat := h.cap.toNat &&& capsOf (helloVer h)

/-- A link that has taken an acceptable HELLO. -/
def greeted (s : State) (n : Nat) (h : Hello) : State :=
  let s := ((s.setF F.NG_LINKSTAT_VERSION n (helloVer h)).setF F.NG_LINKSTAT_CAP n (helloCap h)).setF F.NG_LINKSTAT_PARTNER_LINK n
    h.link.toNat
  let b := (lk s n).bond
  let s := putLk s n { lk s n with serial := h.serial, node := h.node }
  let ok := 1 ≤ b && b ≤ 8 && h.bond.toNat == b && bitAt (helloCap h) 4 && bondFits s n
  putLk s n { lk s n with bondOk := ok, session := (lk s n).session && bitAt (helloCap h) 3 }

theorem helloLink_eq (s : State) (n : Nat) (h : Hello) : helloLink s n h =
    if helloVer h < max (verLow (lk s n).verlim) h.verLo.toNat then linkRefuse s n 1 0x302 clsWarn
    else if helloVer h < 0x30 then
      if !bitAt ((greeted s n h).fl F.NG_POLICY_LEGACY_TRUST 0) n then linkQuarantine (trainedNow (greeted s n h) n) n 3
      else linkActivate (greeted s n h) n
    else if bitAt (helloCap h) 3 then linkToAuth (greeted s n h) n
    else linkActivate (greeted s n h) n := rfl

theorem lk_greeted (s : State) (n : Nat) (h : Hello) :
    (lk (greeted s n h) n).quar = (lk s n).quar ∧ (lk (greeted s n h) n).serial = h.serial := by
  unfold greeted
  dsimp only
  rw [lk_putLk_same, lk_putLk_same]
  exact ⟨rfl, rfl⟩

theorem capsOf_lt (ver : Nat) : capsOf ver < 2 ^ F.NG_LINKSTAT_CAP.width := by
  unfold capsOf
  split
  · decide
  · split
    · decide
    · split <;> decide

theorem greeted_agrees (s : State) (n : Nat) (h : Hello) : (greeted s n h).fl F.NG_LINKSTAT_VERSION n = helloVer h ∧
    (greeted s n h).fl F.NG_LINKSTAT_CAP n = helloCap h := by
  have ver : helloVer h < 2 ^ F.NG_LINKSTAT_VERSION.width := (min_le_left _ _).trans_lt (by decide)
  have cap : helloCap h < 2 ^ F.NG_LINKSTAT_CAP.width := Nat.and_lt_two_pow _ (capsOf_lt _)
  change (((s.setF F.NG_LINKSTAT_VERSION n (helloVer h)).setF F.NG_LINKSTAT_CAP n (helloCap h)).setF F.NG_LINKSTAT_PARTNER_LINK n
    h.link.toNat).fl _ n = _ ∧ (((s.setF F.NG_LINKSTAT_VERSION n (helloVer h)).setF F.NG_LINKSTAT_CAP n (helloCap h)).setF
    F.NG_LINKSTAT_PARTNER_LINK n h.link.toNat).fl _ n = _
  rw [State.fl_setF_id _ _ _ _ (by decide), State.fl_setF_id _ _ _ _ (by decide), State.fl_setF_same,
    State.fl_setF_id _ _ _ _ (by decide), State.fl_setF_same]
  exact ⟨Nat.mod_eq_of_lt ver, Nat.mod_eq_of_lt cap⟩

theorem greeted_other (s : State) (n : Nat) (h : Hello) {g : Fld} (i : Nat)
    (hg : ∀ f ∈ [F.NG_LINKSTAT_VERSION, F.NG_LINKSTAT_CAP, F.NG_LINKSTAT_PARTNER_LINK], f.id ≠ g.id) :
    (greeted s n h).fl g i = s.fl g i := by
  change (((s.setF F.NG_LINKSTAT_VERSION n (helloVer h)).setF F.NG_LINKSTAT_CAP n (helloCap h)).setF F.NG_LINKSTAT_PARTNER_LINK n
    h.link.toNat).fl g i = _
  rw [State.fl_setF_id _ _ _ _ (hg _ (by simp)), State.fl_setF_id _ _ _ _ (hg _ (by simp)),
    State.fl_setF_id _ _ _ _ (hg _ (by simp))]

theorem greeted_onlyLinks (s : State) (n : Nat) (h : Hello) : OnlyLinks s (greeted s n h) :=
  (((((OnlyLinks.refl s).setF _ _ _).setF _ _ _).setF _ _ _).putLk _ _).putLk _ _

theorem linkToAuth_gives (s : State) (n : Nat) : lstate (linkToAuth s n) n = 4 ∧ lk (linkToAuth s n) n = lk s n ∧
    FieldsKept linkField s (linkToAuth s n) := by
  have state : lstate (setLink s n 4 0) n = 4 := lstate_setLink_same (by decide)
  have kept := setLink_linkKept s n 4 0
  unfold linkToAuth
  dsimp only
  split
  · exact ⟨state, lk_setLink _ _ _ _ _, kept⟩
  · exact ⟨state, lk_setLink _ _ _ _ _, kept.flds rfl⟩

/-- A link in NEGOTIATE holds what it held. -/
theorem lk_negotiate (s : State) (n : Nat) : lk (setLink s n 3 0) n = lk s n := lk_setLink _ _ _ _ _

end

section
variable {s : State} {l : Fin 34} {h : Hello} (ht : training s l.val = true) (hl : (lk s l.val).locked = true) (hn : l.val < 32)
include ht hl hn

theorem linkHello_run : exec (.linkHello l h) s = .next (helloLink (setLink s l.val 3 0) l.val h) := by
  change execLinkHello l h s = _
  rw [execLinkHello]
  exact congrArg _ ((if_pos (by rw [ht, hl]; rfl)).trans (if_pos hn))

theorem linkHello_refused (hv : helloVer h < max (verLow (lk s l.val).verlim) h.verLo.toNat) :
    Gives (.linkHello l h) s fun t => lstate t l.val = 9 ∧ t.fl F.NG_LINKSTAT_REASON l.val = 1 := by
  have run := linkHello_run (h := h) ht hl hn
  rw [helloLink_eq, lk_negotiate, if_pos hv] at run
  refine ⟨_, run, linkRefuse_lstate, ?_⟩
  rw [linkRefuse]
  exact (linkRecord_dregsKept _ _ _ _ _ _ rfl).trans (reason_setLink hn (by decide))

section
variable (hv : max (verLow (lk s l.val).verlim) h.verLo.toNat ≤ helloVer h)
include hv

/-- A 3.x link authenticates where it agreed GCM, and otherwise comes up without a session (log 89). -/
theorem linkHello_agrees (h3 : 0x30 ≤ helloVer h) :
    Gives (.linkHello l h) s fun t => (bitAt (helloCap h) 3 = true → lstate t l.val = 4) ∧
      (¬ bitAt (helloCap h) 3 = true → lstate t l.val = (if (lk s l.val).quar = 0 then 5 else 8)) ∧
      t.fl F.NG_LINKSTAT_VERSION l.val = helloVer h ∧ t.fl F.NG_LINKSTAT_CAP l.val = helloCap h ∧
      (lk t l.val).serial = h.serial := by
  have run := linkHello_run (h := h) ht hl hn
  obtain ⟨quar, serial⟩ := lk_greeted (setLink s l.val 3 0) l.val h
  obtain ⟨ver, cap⟩ := greeted_agrees (setLink s l.val 3 0) l.val h
  rw [lk_negotiate] at quar
  rw [helloLink_eq, lk_negotiate, if_neg (by omega), if_neg (by omega)] at run
  by_cases gcm : bitAt (helloCap h) 3 = true
  · obtain ⟨state, own, kept⟩ := linkToAuth_gives (greeted (setLink s l.val 3 0) l.val h) l.val
    rw [if_pos gcm] at run
    exact ⟨_, run, fun _ => state, fun no => absurd gcm no, (kept _ _ rfl).trans ver, (kept _ _ rfl).trans cap,
      (congrArg Link.serial own).trans serial⟩
  · obtain ⟨state, own, kept⟩ := linkActivate_gives (s := greeted (setLink s l.val 3 0) l.val h) hn
    rw [if_neg gcm] at run
    rw [quar] at state
    exact ⟨_, run, fun yes => absurd yes gcm, fun _ => state, (kept _ _ rfl).trans ver, (kept _ _ rfl).trans cap, own.trans serial⟩

variable (h2 : helloVer h < 0x30)
include h2

/-- A 2.x link comes up where it is granted legacy trust. -/
theorem linkHello_trusted (hp : bitAt (s.fl F.NG_POLICY_LEGACY_TRUST 0) l.val = true) :
    Gives (.linkHello l h) s fun t => lstate t l.val = (if (lk s l.val).quar = 0 then 5 else 8) ∧ t.mem = s.mem := by
  have run := linkHello_run (h := h) ht hl hn
  have quar := (lk_greeted (setLink s l.val 3 0) l.val h).1
  have trust := (greeted_other (setLink s l.val 3 0) l.val h (g := F.NG_POLICY_LEGACY_TRUST) 0 (by decide)).trans
    (setLink_linkKept s l.val 3 0 _ _ rfl)
  have state := (linkActivate_gives (s := greeted (setLink s l.val 3 0) l.val h) hn).1
  rw [lk_negotiate] at quar
  rw [quar] at state
  rw [helloLink_eq, lk_negotiate, if_neg (by omega), if_pos h2, trust, hp, if_neg (by decide)] at run
  exact ⟨_, run, state, ((((OnlyLinks.refl s).setLink _ _ _).trans (greeted_onlyLinks _ _ _)).linkActivate _).mem⟩

theorem linkHello_legacy (hp : bitAt (s.fl F.NG_POLICY_LEGACY_TRUST 0) l.val = false) :
    Gives (.linkHello l h) s fun t => lstate t l.val = 8 ∧ (lk t l.val).quar = 3 ∧ t.fl F.NG_LINKSTAT_REASON l.val = 3 := by
  have run := linkHello_run (h := h) ht hl hn
  have trust := (greeted_other (setLink s l.val 3 0) l.val h (g := F.NG_POLICY_LEGACY_TRUST) 0 (by decide)).trans
    (setLink_linkKept s l.val 3 0 _ _ rfl)
  rw [helloLink_eq, lk_negotiate, if_neg (by omega), if_pos h2, trust, hp, if_pos (by decide)] at run
  exact ⟨_, run, linkQuarantine_lstate hn, linkQuarantine_quar hn (.inr rfl) (by decide)⟩

end

end

/-! ### Authentication (12 R253, R258 to R260; 15 R316, R341) -/

/-- The validity period that has been judged, or noted as unchecked (12 R259). -/
def authTimed (s : State) (n : Nat) : State :=
  let u := unqueue s n
  let m := if n < 32 then u.setB F.NG_LINKSTAT_UNTIMED n (!s.sup.rtc.isSome)
    else u.setB F.MR_PORTSTAT_UNTIMED (n - 32) (!s.sup.rtc.isSome)
  if s.sup.rtc.isSome then m else untimedRecord m n

/-- A certificate or transcript that fails. -/
def authFails (s : State) (n : Nat) (o : AuthOutcome) : Bool :=
  !certSigned s o || !o.transcript || (s.sup.rtc.isSome && !o.inValidity) || (32 ≤ n && !o.mirrorRole)

section
variable {s : State} {n : Nat}

theorem dregsOpen_kept (s : State) (cls : Nat) : FieldsKept dregsField s (dregsOpen s cls) :=
  .trans (.of_flds rfl) (dregsFree_trip _ _ _ _).fl

theorem untimedRecord_keeps (s : State) (n : Nat) : OnlyLinks s (untimedRecord s n) ∧
    FieldsKept dregsField s (untimedRecord s n) ∧ (untimedRecord s n).links = s.links := by
  unfold untimedRecord
  dsimp only
  split
  · exact ⟨(OnlyLinks.refl s).takeFree.linkRecord _ _ _, .trans (.of_flds rfl) (linkRecord_dregsKept s.takeFree.2 _ _ _),
      linkRecord_links s.takeFree.2 _ _ _⟩
  · exact ⟨(OnlyLinks.refl s).dregsOpen _, dregsOpen_kept _ _, dregs_links _ _ _ _ _⟩

/-- A judged validity period leaves UNTIMED, a record, and the Caddy's queue. -/
theorem authTimed_keeps (s : State) (n : Nat) : OnlyLinks s (authTimed s n) ∧
    FieldsKept (noteField [F.NG_LINKSTAT_UNTIMED, F.MR_PORTSTAT_UNTIMED]) s (authTimed s n) ∧ (authTimed s n).links = s.links := by
  have byId := noteField_byId [F.NG_LINKSTAT_UNTIMED, F.MR_PORTSTAT_UNTIMED]
  have queue : FieldsKept (noteField [F.NG_LINKSTAT_UNTIMED, F.MR_PORTSTAT_UNTIMED]) s (unqueue s n) := .of_flds rfl
  have noted (m : State) (hm : OnlyLinks s m ∧ FieldsKept (noteField [F.NG_LINKSTAT_UNTIMED, F.MR_PORTSTAT_UNTIMED]) s m ∧
      m.links = s.links) : OnlyLinks s (if s.sup.rtc.isSome then m else untimedRecord m n) ∧
      FieldsKept (noteField [F.NG_LINKSTAT_UNTIMED, F.MR_PORTSTAT_UNTIMED]) s (if s.sup.rtc.isSome then m else untimedRecord m n) ∧
      (if s.sup.rtc.isSome then m else untimedRecord m n).links = s.links := by
    obtain ⟨only, kept, links⟩ := hm
    obtain ⟨only', kept', links'⟩ := untimedRecord_keeps m n
    split
    · exact ⟨only, kept, links⟩
    · exact ⟨only.trans only', kept.trans (kept'.weaken dregsField_of_noteField), links'.trans links⟩
  refine noted _ ?_
  split
  · exact ⟨((OnlyLinks.refl s).unqueue n).setB _ _ _, queue.setF byId _ _ rfl, rfl⟩
  · exact ⟨((OnlyLinks.refl s).unqueue n).setB _ _ _, queue.setF byId _ _ rfl, rfl⟩

end

section
variable {s : State} {l : Fin 34} {o : AuthOutcome}

theorem certSigned_congr {s t : State} (h : t.fl F.LC_STATE_STATE 0 = s.fl F.LC_STATE_STATE 0) (o : AuthOutcome) :
    certSigned t o = certSigned s o := by rw [certSigned, certSigned, h]

section
variable (hst : lstate s l.val = 4) (hm : mayLeaveAuth s = true) (hc : s.clk.caddyPll = true) (ht : caddyTakes s l.val = true)
include hst hm hc ht

theorem auth_run : exec (.linkAuthentication l o) s = .next (if authFails s l.val o
    then linkRefuse (authTimed s l.val) l.val 2 0x303 clsError else sessionStart (authTimed s l.val) l.val o) := by
  have signed := certSigned_congr ((authTimed_keeps s l.val).2.1 F.LC_STATE_STATE 0 rfl) o
  change execLinkAuthentication l o s = _
  refine congrArg _ ((if_pos (by rw [hst, hm, hc]; rfl)).trans ((if_neg (by rw [ht]; decide)).trans ?_))
  rw [authFails, ← signed]
  rfl

theorem auth_starts (hs : certSigned s o = true) (htr : o.transcript = true) (hv : s.sup.rtc.isSome = true → o.inValidity = true)
    (hr : 32 ≤ l.val → o.mirrorRole = true) : Gives (.linkAuthentication l o) s fun t => lstate t l.val = 4 ∧
      (lk t l.val).session = true ∧ (lk t l.val).txCount = 0 ∧ (lk t l.val).rxCount = 0 ∧
      (lk t l.val).cert = some ⟨o.serial, o.manager, o.mirrorRole⟩ := by
  have run := auth_run (o := o) hst hm hc ht
  have sound : authFails s l.val o = false := by
    simp only [authFails, hs, htr, Bool.not_true, Bool.false_or, Bool.or_eq_false_iff, Bool.and_eq_false_imp,
      decide_eq_true_eq, Bool.not_eq_false']
    exact ⟨hv, hr⟩
  rw [sound, if_neg (by decide)] at run
  have state := ((authTimed_keeps s l.val).2.1.lstate rfl rfl l.val).trans hst
  refine ⟨_, run, state, ?_⟩
  rw [sessionStart, lk_putLk_same]
  exact ⟨rfl, rfl, rfl, rfl⟩

theorem auth_refuses (hf : certSigned s o = false ∨ o.transcript = false) :
    Gives (.linkAuthentication l o) s fun t => lstate t l.val = 9 ∧ t.mem = s.mem := by
  have run := auth_run (o := o) hst hm hc ht
  have fails : authFails s l.val o = true := by
    rcases hf with h | h <;> simp [authFails, h]
  rw [fails, if_pos rfl] at run
  exact ⟨_, run, linkRefuse_lstate, ((authTimed_keeps s l.val).1.linkRefuse _ _ _ _).mem⟩

end

section
variable (hst : lstate s l.val = 4) (hm : mayLeaveAuth s = true) (hs : (lk s l.val).session = true)
include hst hm hs

theorem keyconfirm_run : exec (.keyconfirm l) s = .next (linkActivate s l.val) :=
  congrArg Host.Outcome.next (if_pos (by rw [hst, hm, hs]; rfl))

/-- A link that holds no quarantine is ACTIVE; of the mirror ports, the first, or one of the same version. -/
theorem keyconfirm_active (hq : (lk s l.val).quar = 0) (hv : l.val < 32 ∨ (lk s l.val).ver = s.fl F.MR_VER_AGREED 0) :
    Gives (.keyconfirm l) s fun t => lstate t l.val = 5 ∧ t.mem = s.mem := by
  refine ⟨_, keyconfirm_run hst hm hs, ?_, ((OnlyLinks.refl s).linkActivate _).mem⟩
  rcases Nat.lt_or_ge l.val 32 with hn | hn
  · exact (linkActivate_active hn hq).1
  · have same : portRefused (putLk s l.val (upLink (lk s l.val))) l.val = false := by
      have agreed := hv.resolve_left (Nat.not_lt.mpr hn)
      simp only [portRefused, lk_putLk_same, upLink, agreed, bne_eq_false_iff_eq, Bool.and_eq_false_iff]
      exact .inr rfl
    rw [linkActivate_port hn hq, (portActivate_gives same).1]

theorem keyconfirm_refused (hq : (lk s l.val).quar = 0) (hn : 32 ≤ l.val) (hv : (lk s l.val).ver ≠ s.fl F.MR_VER_AGREED 0)
    (ho : lstate s (65 - l.val) = 5 ∨ lstate s (65 - l.val) = 7) :
    Gives (.keyconfirm l) s fun t => lstate t l.val = 9 ∧ t.mem = s.mem := by
  have refused : portRefused (putLk s l.val (upLink (lk s l.val))) l.val = true := by
    simp only [portRefused, lk_putLk_same, upLink, lstate_putLk, Bool.and_eq_true, Bool.or_eq_true, beq_iff_eq, bne_iff_ne]
    exact ⟨ho, fun e => hv e.symm⟩
  refine ⟨_, keyconfirm_run hst hm hs, ?_, ((OnlyLinks.refl s).linkActivate _).mem⟩
  rw [linkActivate_port hn hq, portActivate_refused refused, linkRefuse_lstate]

theorem keyconfirm_first (hq : (lk s l.val).quar = 0) (hn : 32 ≤ l.val) (h5 : lstate s (65 - l.val) ≠ 5)
    (h7 : lstate s (65 - l.val) ≠ 7) :
    Gives (.keyconfirm l) s fun t => lstate t l.val = 5 ∧
      t.fl F.MR_VER_AGREED 0 = (lk s l.val).ver % 2 ^ F.MR_VER_AGREED.width := by
  have first : portRefused (putLk s l.val (upLink (lk s l.val))) l.val = false := by
    simp only [portRefused, lstate_putLk, beq_false_of_ne h5, beq_false_of_ne h7, Bool.or_self, Bool.false_and]
  have gives := portActivate_gives first
  rw [lk_putLk_same] at gives
  refine ⟨_, keyconfirm_run hst hm hs, ?_⟩
  rw [linkActivate_port hn hq]
  exact gives

theorem keyconfirm_quarantined (hq : (lk s l.val).quar ≠ 0) :
    Gives (.keyconfirm l) s fun t => lstate t l.val = 8 ∧ t.mem = s.mem := by
  refine ⟨_, keyconfirm_run hst hm hs, ?_, ((OnlyLinks.refl s).linkActivate _).mem⟩
  rw [linkActivate_quarantined hq, lstate_setLink_same (by decide)]

end

theorem bondMates_congr {s t : State} {n : Nat} (hb : ∀ k, (lk t k).bond = (lk s k).bond)
    (hf : ∀ k, t.fb F.NG_LINKSTAT_BONDED k = s.fb F.NG_LINKSTAT_BONDED k) : bondMates t n = bondMates s n := by
  simp only [bondMates, hb, hf]

theorem bondFits_congr {s t : State} {n : Nat} (hb : ∀ k, (lk t k).bond = (lk s k).bond)
    (hs : ∀ k, (lk t k).serial = (lk s k).serial) (hf : t.flds = s.flds) : bondFits t n = bondFits s n := by
  have cap (k : Nat) : linkCap t k 8 = linkCap s k 8 := by rw [linkCap, linkCap, State.fl_congr hf]
  simp only [bondFits, bondMates_congr hb fun k => State.fb_congr hf _ k, hs, cap]

/-- A record that differs in nothing but bond and serial for no link leaves every link's bond and serial. -/
theorem lk_putLk_agreed {s : State} {n : Nat} {x : Link} (hb : x.bond = (lk s n).bond) (hs : x.serial = (lk s n).serial) (k : Nat) :
    (lk (putLk s n x) k).bond = (lk s k).bond ∧ (lk (putLk s n x) k).serial = (lk s k).serial := by
  by_cases h : k = n
  · rw [h, lk_putLk_same]; exact ⟨hb, hs⟩
  · rw [lk_putLk_ne _ _ h]; exact ⟨rfl, rfl⟩

/-- A later member joins its bond by a challenge under the bond's session. -/
theorem bondJoin_gives {w : Fin 32} (hst : lstate s w.val = 4) (hm : mayLeaveAuth s = true) (hb : (lk s w.val).bondOk = true)
    (hf : bondFits s w.val = true) (hq : (lk s w.val).quar = 0) (hs : (lk s (33 + (lk s w.val).bond)).session = true)
    (hne : bondMates s w.val ≠ []) (hk : (lk s w.val).skew ≤ 20) :
    Gives (.bondMemberJoin w) s fun t => lstate t w.val = 5 ∧ t.fb F.NG_LINKSTAT_BONDED w.val = true := by
  let u := putLk (unqueue s w.val) w.val { lk s w.val with session := true }
  have own : lk u w.val = { lk s w.val with session := true } := lk_putLk_same _ _ _
  have run : exec (.bondMemberJoin w) s = .next (linkActivate u w.val) :=
    congrArg Host.Outcome.next (if_pos (by
      rw [hst, hm, hb, hs, Bool.eq_false_iff.mpr (mt List.isEmpty_iff.mp hne)]
      rfl))
  have agreed (k : Nat) := lk_putLk_agreed (s := unqueue s w.val) (n := w.val) (x := { lk s w.val with session := true }) rfl rfl k
  have agreed' (k : Nat) := lk_putLk_agreed (s := u) (n := w.val) (x := upLink (lk u w.val)) rfl rfl k
  have fits : bondFits (putLk u w.val (upLink (lk u w.val))) w.val = bondFits s w.val :=
    bondFits_congr (fun k => (agreed' k).1.trans (agreed k).1) (fun k => (agreed' k).2.trans (agreed k).2) rfl
  have joins : joinsBond u w.val = true := by
    rw [joinsBond, fits, hf, own]
    simp only [hb, hk, Bool.and_self, decide_true]
  exact ⟨_, run, linkActivate_joins w.isLt (by rw [own]; exact hq) joins⟩

end

/-! ### O35 -/

/-- Settles O35: each command that trains a link or brings it up, by the state that it leaves the link in. -/
theorem linkTraining : Obligations.LinkTraining := by
  intro s q w v l delay skew wrong h o
  refine ⟨linkcfg_trains, linkcfg_stops, symbols_noted, symbols_train, absent_gives, fun ht hs hc => ?_, helloTimeout_retrains,
    fun ht hl hn => ?_, fun ha hg => ?_, fun ha hf => ?_, fun ha hs => ?_, bondJoin_gives, ?_, lockLoss_retrains, lockLoss_trains⟩
  · exact ⟨codewordLock_link ht hs hc skew wrong, codewordLock_far ht hs hc skew wrong, codewordLock_port ht hs hc skew wrong⟩
  · exact ⟨linkHello_refused ht hl hn, linkHello_agrees ht hl hn, fun hv h2 =>
      ⟨linkHello_trusted ht hl hn hv h2, linkHello_legacy ht hl hn hv h2⟩⟩
  · obtain ⟨⟨hst, hm⟩, hc, ht⟩ := ha
    obtain ⟨hs, htr, hv, hr⟩ := hg
    exact auth_starts hst hm hc ht hs htr hv hr
  · obtain ⟨⟨hst, hm⟩, hc, ht⟩ := ha
    exact auth_refuses hst hm hc ht hf
  · obtain ⟨hst, hm⟩ := ha
    exact ⟨keyconfirm_active hst hm hs, fun hq hn hv => ⟨keyconfirm_refused hst hm hs hq hn hv, keyconfirm_first hst hm hs hq hn⟩,
      keyconfirm_quarantined hst hm hs⟩
  · intro e hb
    rw [e]
    exact bondMemberLeave_retrains hb

end Sys2Proof.Machine
end

section
/-! The fabric links family (spec 12): flits, credit, replay, stalls and the change of keys on a link, and NG_LINKCTL (O36). -/

namespace Sys2Proof.Machine

/-! ### Where the credit and the session of a link are kept (12 R250, R260; 15 R318) -/

section
variable {s t : State} {n : Nat}

theorem bondOf_congr (hb : t.fb F.NG_LINKSTAT_BONDED n = s.fb F.NG_LINKSTAT_BONDED n) (hl : (lk t n).bond = (lk s n).bond) :
    bondOf t n = bondOf s n := by rw [bondOf, bondOf, hb, hl]

theorem homeOf_congr (hb : t.fb F.NG_LINKSTAT_BONDED n = s.fb F.NG_LINKSTAT_BONDED n) (hl : (lk t n).bond = (lk s n).bond) :
    homeOf t n = homeOf s n := by rw [homeOf, homeOf, bondOf_congr hb hl]

/-- A change of a record that leaves its bond leaves every bond. -/
theorem lk_putLk_bond {m : Nat} {x : Link} (h : x.bond = (lk s m).bond) (k : Nat) : (lk (putLk s m x) k).bond = (lk s k).bond := by
  by_cases hk : k = m
  · rw [hk, lk_putLk_same, h]
  · rw [lk_putLk_ne _ _ hk]

theorem homeOf_putLk {m : Nat} {x : Link} (h : x.bond = (lk s m).bond) (k : Nat) : homeOf (putLk s m x) k = homeOf s k :=
  homeOf_congr rfl (lk_putLk_bond h k)

theorem trained_congr (hl : lstate t n = lstate s n) (hu : (lk t n).untrained = (lk s n).untrained) : trained t n = trained s n := by
  rw [trained, trained, hl, hu]

end

/-! ### Credit that returns (12 R246, R264) -/

section
variable {s : State} {n c : Nat}

/-- A link stays in a state into which another is put. -/
theorem setLink_stays {k m st reason : Nat} (hst : st < 16) (h : lstate s m = st) : lstate (setLink s k st reason) m = st := by
  rw [(setLink_reports s k st reason).lstate rfl rfl, lstate, linkPut]
  rw [lstate] at h
  have put (f : Fld) (hw : f.width = 4) (i j : Nat) (hf : s.fl f j = st) : (s.setF f i st).fl f j = st := by
    rw [State.fl_setF, hw]
    split
    · exact Nat.mod_eq_of_lt hst
    · exact hf
  split <;> rename_i hm <;> simp only [hm, if_true, if_false] at h <;> split
  · rw [State.fl_setF_id _ _ _ _ (by decide)]
    exact put _ rfl _ _ h
  · rw [State.fl_setF_id _ _ _ _ (by split <;> decide), State.fl_setF_id _ _ _ _ (by decide), State.fl_setF_id _ _ _ _ (by decide)]
    exact h
  · rw [State.fl_setF_id _ _ _ _ (by decide), State.fl_setF_id _ _ _ _ (by decide)]
    exact h
  · rw [State.fl_setF_id _ _ _ _ (by split <;> decide), State.fl_setF_id _ _ _ _ (by decide)]
    exact put _ rfl _ _ h

/-- The stalls that end when credit comes to home `h`. -/
def endStalls (s : State) (h : Nat) : State :=
  ((List.range 34).filter fun k => homeOf s k == h && lstate s k == 7).foldl (fun s k => setLink s k 5 0) s

theorem endStalls_links (s : State) (h : Nat) : (endStalls s h).links = s.links :=
  foldl_keeps State.links (fun t k => setLink_links t k 5 0) _ s

theorem endStalls_onlyLinks (s : State) (h : Nat) : OnlyLinks s (endStalls s h) := by
  unfold endStalls
  generalize (List.range 34).filter _ = l
  suffices ∀ t, OnlyLinks s t → OnlyLinks s (l.foldl (fun s k => setLink s k 5 0) t) from this s (.refl s)
  induction l with
  | nil => exact fun t ht => ht
  | cons k l ih => exact fun t ht => ih _ (ht.setLink k 5 0)

theorem endStalls_ends (hn : n < 34) (h : lstate s n = 7) : lstate (endStalls s (homeOf s n)) n = 5 := by
  refine foldl_settles (P := fun t k => lstate t k = 5) (fun t k => lstate_setLink_same (by decide))
    (fun t k m hm => setLink_stays (by decide) hm) ?_ s
  rw [List.mem_filter, List.mem_range]
  exact ⟨hn, by simp [h]⟩

/-- The record of a home to which credit for `c` flits has returned. -/
def credited (c : Nat) (x : Link) : Link :=
  { x with credit := x.credit + (c - x.debt), debt := x.debt - c, replay := x.replay - c, sent := ackFlits c x.sent }

theorem credited_bond (c : Nat) (x : Link) : (credited c x).bond = x.bond := rfl

theorem creditReturn_run (hc : c ≠ 0) : creditReturn s n c =
    flushHome (endStalls (putLk s (homeOf s n) (credited c (lk s (homeOf s n)))) (homeOf s n)) (homeOf s n) := if_neg hc

theorem creditReturn_eq (hc : c ≠ 0) (hu : (lk s (homeOf s n)).unsent = 0) :
    creditReturn s n c = endStalls (putLk s (homeOf s n) (credited c (lk s (homeOf s n)))) (homeOf s n) := by
  rw [creditReturn_run hc, flushHome_idle]
  rw [lk_congr (endStalls_links _ _), lk_putLk_same]
  exact hu

/-- What returned credit does to the home of link `n` and to a stall of the link, from the record `x` that the home had. -/
structure CreditBack (x : Link) (n c st : Nat) (y : Link) (t : State) : Prop where
  credit : y.credit = x.credit + (c - x.debt)
  replay : y.replay = x.replay - c
  rxSeq : y.rxSeq = x.rxSeq
  held : y.held = x.held
  asked : y.asked = x.asked
  ahead : y.ahead = x.ahead
  stall : st = 7 → c ≠ 0 → lstate t n = 5

theorem creditReturn_back (hn : n < 34) (hu : (lk s (homeOf s n)).unsent = 0) :
    CreditBack (lk s (homeOf s n)) n c (lstate s n) (lk (creditReturn s n c) (homeOf s n)) (creditReturn s n c) := by
  by_cases hc : c = 0
  · have e : creditReturn s n c = s := if_pos hc
    rw [e, hc]
    exact ⟨by rw [Nat.zero_sub, Nat.add_zero], rfl, rfl, rfl, rfl, rfl, fun _ no => absurd rfl no⟩
  · rw [creditReturn_eq hc hu, lk_congr (endStalls_links _ _), lk_putLk_same]
    refine ⟨rfl, rfl, rfl, rfl, rfl, rfl, fun h7 _ => ?_⟩
    have home : homeOf (putLk s (homeOf s n) (credited c (lk s (homeOf s n)))) n = homeOf s n :=
      homeOf_putLk (credited_bond _ _) n
    have ends := endStalls_ends (s := putLk s (homeOf s n) (credited c (lk s (homeOf s n)))) hn h7
    rwa [home] at ends

theorem creditReturn_mem (s : State) (n c : Nat) : (creditReturn s n c).mem = s.mem := by
  by_cases hc : c = 0
  · have e : creditReturn s n c = s := if_pos hc
    rw [e]
  · rw [creditReturn_run hc]
    exact ((((OnlyLinks.refl s).putLk _ _).trans (endStalls_onlyLinks _ _)).flushHome _).mem

end

/-! ### Flits (12 R244 to R246, R250, R265) -/

/-- A flit that has come, a corrected codeword in it counted. -/
def flitSeen (s : State) (n : Nat) (f : Flit) : State := if f.corrected && n < 32 then s.bumpF F.NG_LINKERR_CORRECTED n else s

section
variable {s : State} {n : Nat} (f : Flit)

theorem flitSeen_kept (s : State) (n : Nat) (f : Flit) : FieldsKept (noteField [F.NG_LINKERR_CORRECTED]) s (flitSeen s n f) :=
  .ite (.ite (.setF (.of_flds rfl) (noteField_byId _) _ _ rfl) (.of_flds rfl)) (.of_flds rfl)

theorem flitSeen_links (s : State) (n : Nat) (f : Flit) : (flitSeen s n f).links = s.links := by
  unfold flitSeen
  split
  · exact bumpF_links _ _ _
  · rfl

theorem flitSeen_onlyLinks (s : State) (n : Nat) (f : Flit) : OnlyLinks s (flitSeen s n f) :=
  .ite ((OnlyLinks.refl s).bumpF _ _) (.refl s)

theorem lk_flitSeen (s : State) (n : Nat) (f : Flit) (m : Nat) : lk (flitSeen s n f) m = lk s m := lk_congr (flitSeen_links s n f) m

theorem lstate_flitSeen (s : State) (n : Nat) (f : Flit) (m : Nat) : lstate (flitSeen s n f) m = lstate s m :=
  (flitSeen_kept s n f).lstate rfl rfl m

theorem homeOf_flitSeen (s : State) (n : Nat) (f : Flit) (m : Nat) : homeOf (flitSeen s n f) m = homeOf s m :=
  homeOf_congr ((flitSeen_kept s n f).fb _ _ rfl) (by rw [lk_flitSeen])

theorem earlyWindow_flitSeen (s : State) (n : Nat) (f : Flit) (m : Nat) : earlyWindow (flitSeen s n f) m = earlyWindow s m := by
  have bonded (k : Nat) : (flitSeen s n f).fb F.NG_LINKSTAT_BONDED k = s.fb F.NG_LINKSTAT_BONDED k := (flitSeen_kept s n f).fb _ _ rfl
  have links : sessionLinks (flitSeen s n f) m = sessionLinks s m := by
    rw [sessionLinks, sessionLinks, bondOf_congr (bonded m) (by rw [lk_flitSeen]),
      bondMates_congr (fun k => by rw [lk_flitSeen]) bonded]
  simp only [earlyWindow, links, lstate_flitSeen]

end

theorem fl_flitSeen (s : State) (n : Nat) (f : Flit) {g : Fld} (h : noteField [F.NG_LINKERR_CORRECTED] g = false) (i : Nat) :
    (flitSeen s n f).fl g i = s.fl g i := flitSeen_kept s n f g i h

theorem fl_bumpF_id {s : State} {f g : Fld} (h : f.id ≠ g.id) {i j : Nat} : (s.bumpF f i).fl g j = s.fl g j := by
  unfold State.bumpF
  dsimp only
  split
  · exact State.fl_setF_id _ _ _ _ h
  · rfl

/-- An error that is alone in its millisecond is only counted. -/
theorem linkError_alone {s : State} {n : Nat} (hn : n < 32) (he : (lk s n).errTimes = [])
    (ht : 2 ≤ s.fl F.NG_LINKCFG_RETRAIN_THR n) :
    linkError s n = (putLk s n { lk s n with errTimes := [s.time] }).bumpF F.NG_LINKERR_UNCORR n := by
  have times : s.time :: recent s 1000000 (lk s n).errTimes = [s.time] := by rw [he]; rfl
  have thr : ((putLk s n { lk s n with errTimes := [s.time] }).bumpF F.NG_LINKERR_UNCORR n).fl F.NG_LINKCFG_RETRAIN_THR n =
      s.fl F.NG_LINKCFG_RETRAIN_THR n := fl_bumpF_id (by decide)
  unfold linkError
  dsimp only
  rw [times, if_pos hn, if_pos hn, thr]
  exact if_neg (by rw [List.length_singleton]; omega)

section
variable {s : State} {l : Fin 34} {f : Flit} (up : trained s l.val = true)
include up

/-- What a good flit on a trained link does, by its type. -/
theorem flit_good_run (good : f.good = true) : exec (.flitReceive l f) s = .next (
    if f.ftype = .data then dataFlit (flitSeen s l.val f) l.val f.seq.toNat f.credit.toNat
    else creditReturn (flitSeen s l.val f) l.val f.credit.toNat) := by
  have lock : ¬ (!hasLock s l.val) = true := by rw [hasLock, up, Bool.true_or, Bool.true_or, Bool.true_or]; decide
  have still : ¬ (!trained (flitSeen s l.val f) l.val) = true := by
    rw [trained_congr (lstate_flitSeen _ _ _ _) (by rw [lk_flitSeen]), up]; decide
  have bad : ¬ (!f.good) = true := by rw [good]; decide
  exact congrArg Host.Outcome.next ((if_neg lock).trans ((if_neg still).trans (if_neg bad)))

theorem flit_bad_run (bad : f.good = false) : exec (.flitReceive l f) s = .next (
    linkError (putLk (flitSeen s l.val f) (homeOf s l.val)
      { lk s (homeOf s l.val) with asked := some (lk s (homeOf s l.val)).rxSeq }) l.val) := by
  have lock : ¬ (!hasLock s l.val) = true := by rw [hasLock, up, Bool.true_or, Bool.true_or, Bool.true_or]; decide
  have still : ¬ (!trained (flitSeen s l.val f) l.val) = true := by
    rw [trained_congr (lstate_flitSeen _ _ _ _) (by rw [lk_flitSeen]), up]; decide
  have bad : (!f.good) = true := by rw [bad]; rfl
  rw [← homeOf_flitSeen s l.val f, ← lk_flitSeen s l.val f]
  exact congrArg Host.Outcome.next ((if_neg lock).trans ((if_neg still).trans (if_pos bad)))

end

/-- The record of a home that has taken the flit whose turn it was. -/
def tookFlit (x : Link) : Link := { x with rxSeq := (x.rxSeq + 1) % 4096, held := x.held + 1, asked := none }

section
variable {s : State} {l : Fin 34} {f : Flit}

/-- Credit that comes with a flit, once the flit has made the record of the home `x`. -/
theorem flit_credit {x : Link} (hx : x.bond = (lk s (homeOf s l.val)).bond) (hu : x.unsent = 0)
    (run : exec (.flitReceive l f) s =
      .next (creditReturn (putLk (flitSeen s l.val f) (homeOf s l.val) x) l.val f.credit.toNat)) :
    Gives (.flitReceive l f) s fun t =>
      CreditBack x l.val f.credit.toNat (lstate s l.val) (lk t (homeOf s l.val)) t ∧ t.mem = s.mem := by
  have home : homeOf (putLk (flitSeen s l.val f) (homeOf s l.val) x) l.val = homeOf s l.val :=
    (homeOf_putLk (hx.trans (by rw [lk_flitSeen])) _).trans (homeOf_flitSeen s l.val f l.val)
  have own : lk (putLk (flitSeen s l.val f) (homeOf s l.val) x) (homeOf s l.val) = x := lk_putLk_same _ _ _
  have back := creditReturn_back (s := putLk (flitSeen s l.val f) (homeOf s l.val) x) (c := f.credit.toNat) l.isLt
    (by rw [home, own]; exact hu)
  rw [home, own, lstate_putLk, lstate_flitSeen] at back
  exact ⟨_, run, back, (creditReturn_mem _ _ _).trans (flitSeen_onlyLinks s l.val f).mem⟩

section
variable (up : trained s l.val = true)
include up

/-- 12 R244: the flit of the next number is taken, and what it brings is held. -/
theorem flit_data_next (good : f.good = true) (data : f.ftype = .data) (next : f.seq.toNat = (lk s (homeOf s l.val)).rxSeq)
    (ha : (lk s (homeOf s l.val)).ahead = []) (hu : (lk s (homeOf s l.val)).unsent = 0) :
    Gives (.flitReceive l f) s fun t =>
      CreditBack (tookFlit (lk s (homeOf s l.val))) l.val f.credit.toNat (lstate s l.val) (lk t (homeOf s l.val)) t ∧
      t.mem = s.mem := by
  refine flit_credit (by rfl) (by exact hu) ?_
  have takes : takeFlits ((lk s (homeOf s l.val)).ahead.length + 1) (lk s (homeOf s l.val)) =
      tookFlit (lk s (homeOf s l.val)) := by
    have none_ahead : ¬ (lk s (homeOf s l.val)).ahead.contains (((lk s (homeOf s l.val)).rxSeq + 1) % 4096) = true := by
      rw [ha, List.contains_nil]; decide
    exact if_neg none_ahead
  rw [flit_good_run up good, if_pos data, dataFlit, homeOf_flitSeen, lk_flitSeen, if_pos next, takes]

/-- 12 R250: a flit ahead of its turn, in the window, waits for the others. -/
theorem flit_data_early (good : f.good = true) (data : f.ftype = .data) (other : f.seq.toNat ≠ (lk s (homeOf s l.val)).rxSeq)
    (early : flitLead (lk s (homeOf s l.val)) f.seq.toNat < earlyWindow s l.val) (hu : (lk s (homeOf s l.val)).unsent = 0) :
    Gives (.flitReceive l f) s fun t =>
      CreditBack { lk s (homeOf s l.val) with
        ahead := (lk s (homeOf s l.val)).ahead.filter (· != f.seq.toNat) ++ [f.seq.toNat] } l.val f.credit.toNat (lstate s l.val)
          (lk t (homeOf s l.val)) t ∧ t.mem = s.mem := by
  refine flit_credit (by rfl) (by exact hu) ?_
  rw [flit_good_run up good, if_pos data, dataFlit, homeOf_flitSeen, lk_flitSeen, earlyWindow_flitSeen]
  dsimp only
  rw [if_neg other, if_pos early]

/-- 12 R245: one beyond the window is discarded, and a replay asked for. -/
theorem flit_data_late (good : f.good = true) (data : f.ftype = .data) (other : f.seq.toNat ≠ (lk s (homeOf s l.val)).rxSeq)
    (late : earlyWindow s l.val ≤ flitLead (lk s (homeOf s l.val)) f.seq.toNat) :
    Gives (.flitReceive l f) s fun t => lk t (homeOf s l.val) =
      { lk s (homeOf s l.val) with asked := some (lk s (homeOf s l.val)).rxSeq } ∧ lstate t l.val = lstate s l.val := by
  refine ⟨putLk (flitSeen s l.val f) (homeOf s l.val) { lk s (homeOf s l.val) with asked := some (lk s (homeOf s l.val)).rxSeq },
    ?_, lk_putLk_same _ _ _, lstate_flitSeen _ _ _ _⟩
  rw [flit_good_run up good, if_pos data, dataFlit, homeOf_flitSeen, lk_flitSeen, earlyWindow_flitSeen]
  dsimp only
  rw [if_neg other, if_neg (Nat.not_lt.mpr late)]

/-- 12 R246: a flit that is not data returns credit only. -/
theorem flit_other (good : f.good = true) (data : f.ftype ≠ .data) (hu : (lk s (homeOf s l.val)).unsent = 0) :
    Gives (.flitReceive l f) s fun t =>
      CreditBack (lk s (homeOf s l.val)) l.val f.credit.toNat (lstate s l.val) (lk t (homeOf s l.val)) t ∧ t.mem = s.mem := by
  have back := creditReturn_back (s := flitSeen s l.val f) (c := f.credit.toNat) l.isLt
    (by rw [homeOf_flitSeen, lk_flitSeen]; exact hu)
  rw [homeOf_flitSeen, lk_flitSeen, lstate_flitSeen] at back
  exact ⟨_, (flit_good_run up good).trans (by rw [if_neg data]), back,
    (creditReturn_mem _ _ _).trans (flitSeen_onlyLinks s l.val f).mem⟩

/-- 12 R245, R265: a flit with an error asks for a replay; the first error of a millisecond does no more. -/
theorem flit_bad (bad : f.good = false) (home : homeOf s l.val = l.val) (he : (lk s l.val).errTimes = []) (hn : l.val < 32)
    (ht : 2 ≤ s.fl F.NG_LINKCFG_RETRAIN_THR l.val) :
    Gives (.flitReceive l f) s fun t => (lk t l.val).asked = some (lk s l.val).rxSeq ∧ (lk t l.val).rxSeq = (lk s l.val).rxSeq ∧
      lstate t l.val = lstate s l.val := by
  have run := flit_bad_run up bad
  have thr := fl_flitSeen s l.val f (g := F.NG_LINKCFG_RETRAIN_THR) rfl l.val
  rw [home, linkError_alone hn (by rw [lk_putLk_same]; exact he) (by exact thr.symm ▸ ht)] at run
  refine ⟨_, run, ?_, ?_, ?_⟩
  · rw [lk_bumpF, lk_putLk_same, lk_putLk_same]
  · rw [lk_bumpF, lk_putLk_same, lk_putLk_same]
  · rw [lstate_bumpF (by decide) (by decide), lstate_putLk, lstate_putLk, lstate_flitSeen]

end

end

/-! ### Replay, stalls and the change of keys (12 R245, R261, R262, R264) -/

section
variable {s t : State} {n : Nat}

theorem sessionRetrain_alone (h : bondOf s n = none) : sessionRetrain s n = linkRetrain s n true := by
  rw [sessionRetrain, sessionLinks, h]
  rfl

theorem sessionRetrain_member {b : Nat} (h : bondOf s n = some b) :
    sessionRetrain s n = (bondMates s n).foldl (fun s k => linkRetrain s k true) (linkRetrain s n true) := by
  rw [sessionRetrain, sessionLinks, h]
  rfl

/-- The mates of a link are other links. -/
theorem mem_bondMates {k : Nat} (h : k ∈ bondMates s n) : k < 32 ∧ n ≠ k := by
  simp only [bondMates, List.mem_filter, List.mem_range, Bool.and_eq_true, bne_iff_ne] at h
  exact ⟨h.1, h.2.1.1.symm⟩

/-- Retrains of other links leave a link as it is. -/
theorem retrains_ne (hn : n < 32) (ks : List Nat) (hk : ∀ k ∈ ks, k < 32 ∧ n ≠ k) (s : State) :
    lk (ks.foldl (fun s k => linkRetrain s k true) s) n = lk s n ∧
    lstate (ks.foldl (fun s k => linkRetrain s k true) s) n = lstate s n := by
  induction ks generalizing s with
  | nil => exact ⟨rfl, rfl⟩
  | cons k ks ih =>
    obtain ⟨⟨hk32, hne⟩, hks⟩ := List.forall_mem_cons.mp hk
    obtain ⟨own, state⟩ := ih hks (linkRetrain s k true)
    obtain ⟨own', state'⟩ := linkRetrain_ne (s := s) (full := true) hk32 hn hne
    exact ⟨own.trans own', state.trans state'⟩

/-- A session that retrains trains the link with the full exchange. -/
theorem sessionRetrain_begun (h : retrainsOnly s n) : lstate (sessionRetrain s n) n = 6 ∧
    Begun (lk s n) (lk (sessionRetrain s n) n) ((lk s (sessHome s n)).session && !true) := by
  have own := linkRetrain_begun (full := true) h
  cases hb : bondOf s n with
  | none => rwa [sessionRetrain_alone hb]
  | some b =>
    obtain ⟨rec, state⟩ := retrains_ne (bondOf_some hb).1 _ (fun _ => mem_bondMates) (linkRetrain s n true)
    rw [sessionRetrain_member hb, rec, state]
    exact own

theorem sessionRetrain_onlyLinks (s : State) (n : Nat) : OnlyLinks s (sessionRetrain s n) := by
  unfold sessionRetrain
  generalize sessionLinks s n = l
  suffices ∀ t, OnlyLinks s t → OnlyLinks s (l.foldl (fun s k => linkRetrain s k true) t) from this s (.refl s)
  induction l with
  | nil => exact fun t ht => ht
  | cons k l ih => exact fun t ht => ih _ (ht.linkRetrain k true)

/-- A record changes neither a link's retrains nor its session. -/
theorem retrainsOnly_linkRecord {m code cls : Nat} (h : retrainsOnly s n) : retrainsOnly (linkRecord s m code cls) n := by
  have thr := linkRecord_linkKept s m code cls F.NG_LINKCFG_QUAR_THR n rfl
  have time := ((OnlyLinks.refl s).linkRecord m code cls).time
  rwa [retrainsOnly, recent, time, lk_linkRecord, thr]

theorem sessHome_linkRecord {m code cls : Nat} : sessHome (linkRecord s m code cls) n = sessHome s n :=
  sessHome_congr ((linkRecord_dregsKept s m code cls).fb _ _ rfl) (by rw [lk_linkRecord])

end

section
variable {s : State} {l : Fin 34}

/-- What a command that trains a link leaves of its session. -/
def TrainsSession (cmd : Instr) (s : State) (n : Nat) (keeps : Bool) : Prop :=
  retrainsOnly s n → Gives cmd s fun t => lstate t n = 6 ∧ (lk t n).locked = false ∧
    (lk t n).session = ((lk s (sessHome s n)).session && keeps) ∧ t.mem = s.mem

theorem trainsSession_of_sessionRetrain {cmd : Instr} (run : exec cmd s = .next (sessionRetrain s l.val)) :
    TrainsSession cmd s l.val false := fun few =>
  have ⟨state, begun⟩ := sessionRetrain_begun few
  ⟨_, run, state, begun.locked, begun.session, (sessionRetrain_onlyLinks s l.val).mem⟩

theorem replay_noted {seq : BitVec 12} (up : trained s l.val = true) (hr : 0 < (lk s (homeOf s l.val)).replay) :
    Gives (.replayRequest l seq) s fun t =>
      lk t (homeOf s l.val) = { lk s (homeOf s l.val) with resend := some seq.toNat } ∧ t.flds = s.flds :=
  ⟨_, congrArg Host.Outcome.next (if_pos (by rw [up, decide_eq_true hr]; rfl)), lk_putLk_same _ _ _, rfl⟩

theorem creditTimeout_stalls (hst : lstate s l.val = 5) (hc : (lk s (homeOf s l.val)).credit = 0) :
    Gives (.creditTimeout l) s fun t => lstate t l.val = 7 ∧ t.links = s.links :=
  ⟨_, congrArg Host.Outcome.next (if_pos (by rw [hst, hc]; rfl)),
    (lstate_linkRecord _ _ _ _ _).trans (lstate_setLink_same (by decide)), (linkRecord_links _ _ _ _).trans (setLink_links _ _ _ _)⟩

theorem stallRetrain_trains (hst : lstate s l.val = 7) : TrainsSession (.stallRetrain l) s l.val true := fun few =>
  have ⟨state, begun⟩ := linkRetrain_begun (full := false) few
  ⟨_, congrArg Host.Outcome.next (if_pos hst), state, begun.locked, begun.session, ((OnlyLinks.refl s).linkRetrain _ _).mem⟩

section
variable (up : trained s l.val = true)
include up

section
variable (hs : (lk s (sessHome s l.val)).session = true) (hc : caddyReady s = true)
  (hd : rekeyDue s (lk s (sessHome s l.val)) = true)
include hs hc hd

theorem rekey_run : exec (.rekey l) s = .next (if l.val < 32 && linkCap s l.val 9 then
      putLk (newKeys s).2 (sessHome s l.val) { lk s (sessHome s l.val) with rekeying := true, nextKeys := (newKeys s).1 }
    else sessionRetrain s l.val) :=
  congrArg Host.Outcome.next (if_pos (by rw [up, hs, hc, hd]; rfl))

theorem rekey_inBand (hn : l.val < 32) (hcap : linkCap s l.val 9 = true) : Gives (.rekey l) s fun t =>
    (∃ keys, lk t (sessHome s l.val) = { lk s (sessHome s l.val) with rekeying := true, nextKeys := keys }) ∧ t.flds = s.flds :=
  ⟨_, (rekey_run up hs hc hd).trans (congrArg _ (if_pos (by rw [hcap, decide_eq_true hn]; rfl))), ⟨_, lk_putLk_same _ _ _⟩, rfl⟩

theorem rekey_retrains (hno : 32 ≤ l.val ∨ linkCap s l.val 9 = false) : TrainsSession (.rekey l) s l.val false := by
  refine trainsSession_of_sessionRetrain ((rekey_run up hs hc hd).trans (congrArg _ (if_neg ?_)))
  rw [Bool.and_eq_true, decide_eq_true_eq]
  rintro ⟨hn, hcap⟩
  rcases hno with h | h
  · omega
  · rw [h] at hcap; cases hcap

end

theorem rekeyMarker_switches (hr : (lk s (sessHome s l.val)).rekeying = true) : Gives (.rekeyMarker l) s fun t =>
    t.flds = s.flds ∧ lk t (sessHome s l.val) = { lk s (sessHome s l.val) with
      rekeying := false, txCount := 0, rxCount := 0, since := fabNow s, keys := (lk s (sessHome s l.val)).nextKeys } :=
  ⟨_, congrArg Host.Outcome.next (if_pos (by rw [up, hr]; rfl)), rfl, lk_putLk_same _ _ _⟩

theorem rekeyFail_retrains (hs : (lk s (sessHome s l.val)).session = true)
    (hc : carried (lk s (sessHome s l.val)) (2 ^ 44) = true) : TrainsSession (.rekeyFail l) s l.val false := by
  have run : exec (.rekeyFail l) s = .next (sessionRetrain (linkRecord s l.val 0x30A clsError) l.val) :=
    congrArg Host.Outcome.next (if_pos (by rw [up, hs, hc]; rfl))
  intro few
  obtain ⟨state, begun⟩ := sessionRetrain_begun (retrainsOnly_linkRecord (m := l.val) (code := 0x30A) (cls := clsError) few)
  refine ⟨_, run, state, begun.locked, ?_, ?_⟩
  · rw [begun.session, sessHome_linkRecord, lk_linkRecord]
    rfl
  · exact ((sessionRetrain_onlyLinks _ _).mem).trans ((OnlyLinks.refl s).linkRecord _ _ _).mem

end

end

/-! ### NG_LINKCTL (12 R265, R268) -/

/-- The commands of NG_LINKCTL. -/
def linkCommands : List Fld := [F.NG_LINKCTL_RETRAIN, F.NG_LINKCTL_QUARANTINE, F.NG_LINKCTL_RELEASE, F.NG_LINKCTL_CLRERR]

/-- A value gives the command `f` of NG_LINKCTL, and no other. -/
def onlyCommand (v : Word) (f : Fld) : Prop := ∀ g ∈ linkCommands, bitsOf v g = 1 ↔ g = f

section
variable {s t : State} {q : Requester} {off n : Nat} {v : Word} {f : Fld} {l : Fin 32}

theorem command_on {g : Fld} (h : onlyCommand v f) (hg : g ∈ linkCommands) : (Wr.full q off v).on g = decide (g = f) := by
  have wide : bitsOf v g < 2 := by
    have width : ∀ g ∈ linkCommands, 2 ^ g.width = 2 := by decide
    exact (bitsOf_lt v g).trans_eq (width g hg)
  rw [Wr.on, Wr.bits_full, Bool.eq_iff_iff, beq_iff_eq, decide_eq_true_eq, Nat.mod_eq_of_lt wide]
  exact h g hg

theorem linkctl_reg (s : State) (l : Fin 32) : target s (0xE01001018 + 0x40 * l.val) = .reg :=
  target_reg s (0xE01000000, 0xE02FFFFFF) (by decide) ⟨by omega, by omega⟩

/-- What a command of NG_LINKCTL does. -/
def commanded (f : Fld) (s : State) (n : Nat) : State :=
  if f = F.NG_LINKCTL_CLRERR then ctlClrerr s n
  else if f = F.NG_LINKCTL_RETRAIN then ctlRetrain s n
  else if f = F.NG_LINKCTL_QUARANTINE then ctlQuarantine s n
  else ctlRelease s n

theorem commanded_retrain (s : State) (n : Nat) : commanded F.NG_LINKCTL_RETRAIN s n = ctlRetrain s n := rfl
theorem commanded_quarantine (s : State) (n : Nat) : commanded F.NG_LINKCTL_QUARANTINE s n = ctlQuarantine s n := rfl
theorem commanded_release (s : State) (n : Nat) : commanded F.NG_LINKCTL_RELEASE s n = ctlRelease s n := rfl
theorem commanded_clrerr (s : State) (n : Nat) : commanded F.NG_LINKCTL_CLRERR s n = ctlClrerr s n := rfl

/-- QUARANTINE and RELEASE need the key. -/
def needsKey (f : Fld) : Bool := f = F.NG_LINKCTL_QUARANTINE || f = F.NG_LINKCTL_RELEASE

theorem linkctlWrite_runs (hr : isRing0 s q = true) (h : onlyCommand v f) (hf : f ∈ linkCommands) : linkctlWrite s (.full q off v) n =
    if needsKey f && bitsOf v F.NG_LINKCTL_KEY != 0x5155 then ignoreWarn s (.full q off v) else commanded f s n := by
  have on (g : Fld) (hg : g ∈ linkCommands) := command_on (q := q) (off := off) h hg
  rw [linkctlWrite, atRing0_of hr]
  simp only [on F.NG_LINKCTL_RETRAIN (by decide), on F.NG_LINKCTL_QUARANTINE (by decide), on F.NG_LINKCTL_RELEASE (by decide),
    on F.NG_LINKCTL_CLRERR (by decide), Wr.bits_full]
  simp only [linkCommands, List.mem_cons, List.not_mem_nil, or_false] at hf
  rcases hf with rfl | rfl | rfl | rfl <;> rfl

theorem command_gives {cmd : Instr} {P : State → Prop} (hcmd : exec cmd s = rowWrite q (0xE01001018 + 0x40 * l.val) v
      (fun s w => linkctlWrite s w l.val) s) (may : isRing0 s q = true ∧ openAt s (0xE01001018 + 0x40 * l.val))
    (h : onlyCommand v f) (hf : f ∈ linkCommands) (hk : needsKey f = true → bitsOf v F.NG_LINKCTL_KEY = 0x5155)
    (hP : ∀ t, OnlyPower s t → P (commanded f t l.val)) : Gives cmd s P := by
  obtain ⟨t, power, run⟩ := rowWrite_open (linkctl_reg s l) may.2 q v fun s w => linkctlWrite s w l.val
  rw [linkctlWrite_runs ((isRing0_congr power.cpus q).trans may.1) h hf] at run
  refine ⟨_, (hcmd.trans run).trans (congrArg _ (if_neg ?_)), hP t power⟩
  rw [Bool.and_eq_true, bne_iff_ne]
  exact fun no => no.2 (hk no.1)

theorem OnlyPower.time (h : OnlyPower s t) : t.time = s.time := by
  have e := congrArg State.time h
  exact e

theorem OnlyPower.lk (h : OnlyPower s t) (n : Nat) : lk t n = lk s n := lk_congr h.links n
theorem OnlyPower.lstate (h : OnlyPower s t) (n : Nat) : lstate t n = lstate s n := lstate_congr h.flds n

/-- 12 R265: RETRAIN, from any state in which the link runs. -/
theorem linkctl_retrains (may : isRing0 s q = true ∧ openAt s (0xE01001018 + 0x40 * l.val))
    (h : onlyCommand v F.NG_LINKCTL_RETRAIN) (h0 : lstate s l.val ≠ 0) (h9 : lstate s l.val ≠ 9)
    (few : (recent s 1000000000 (lk s l.val).retrainTimes).length + 1 < max 1 (s.fl F.NG_LINKCFG_QUAR_THR l.val)) :
    Gives (.linkctlRetrain q l v) s fun t => lstate t l.val = 6 ∧ (lk t l.val).locked = false ∧ t.mem = s.mem := by
  refine command_gives rfl may h (by decide) nofun fun t power => ?_
  have runs : ctlRetrain t l.val = linkRetrain t l.val false := by
    refine if_neg ?_
    rw [power.lstate]
    exact not_or.mpr ⟨h0, h9⟩
  have few : retrainsOnly t l.val := .inr (by rw [recent, power.lk, power.fl, power.time]; exact few)
  rw [commanded_retrain, runs]
  obtain ⟨state, begun⟩ := linkRetrain_begun (full := false) few
  exact ⟨state, begun.locked, ((OnlyLinks.refl t).linkRetrain _ _).mem.trans power.mem⟩

/-- 12 R268: QUARANTINE of a link that is up, for the reason COMMANDED. -/
theorem linkctl_quarantines (may : isRing0 s q = true ∧ openAt s (0xE01001018 + 0x40 * l.val))
    (h : onlyCommand v F.NG_LINKCTL_QUARANTINE) (hk : bitsOf v F.NG_LINKCTL_KEY = 0x5155) (hq : (lk s l.val).quar ≠ 3)
    (hst : lstate s l.val = 5 ∨ lstate s l.val = 7) :
    Gives (.linkctlQuarantine q l v) s fun t => lstate t l.val = 8 ∧ t.fl F.NG_LINKSTAT_REASON l.val = 7 ∧ (lk t l.val).quar = 7 := by
  refine command_gives rfl may h (by decide) (fun _ => hk) fun t power => ?_
  have runs : ctlQuarantine t l.val = linkQuarantine t l.val 7 :=
    if_pos (by rw [power.lstate]; exact hst)
  obtain ⟨quar, reason⟩ := linkQuarantine_quar (s := t) (reason := 7) l.isLt (.inl (by rw [power.lk]; exact hq)) (by decide)
  rw [commanded_quarantine, runs]
  exact ⟨linkQuarantine_lstate l.isLt, reason, quar⟩

/-- 12 R268: without the key it is ignored. -/
theorem linkctl_unkeyed (may : isRing0 s q = true ∧ openAt s (0xE01001018 + 0x40 * l.val))
    (h : onlyCommand v F.NG_LINKCTL_QUARANTINE) (hk : ¬ bitsOf v F.NG_LINKCTL_KEY = 0x5155) :
    Gives (.linkctlQuarantine q l v) s fun t => lstate t l.val = lstate s l.val ∧ t.links = s.links := by
  obtain ⟨t, power, run⟩ := rowWrite_open (linkctl_reg s l) may.2 q v fun s w => linkctlWrite s w l.val
  rw [linkctlWrite_runs ((isRing0_congr power.cpus q).trans may.1) h (by decide),
    if_pos (by rw [show needsKey F.NG_LINKCTL_QUARANTINE = true from rfl, Bool.true_and, bne_iff_ne]; exact hk)] at run
  exact ⟨_, run, ((dregs_trip t _ _ _ _).fl.lstate rfl rfl _).trans (power.lstate _), (dregs_links t _ _ _ _).trans power.links⟩

/-- 12 R268: RELEASE of a quarantine that was COMMANDED: the link trains on, or is up. -/
theorem linkctl_releases (may : isRing0 s q = true ∧ openAt s (0xE01001018 + 0x40 * l.val))
    (h : onlyCommand v F.NG_LINKCTL_RELEASE) (hk : bitsOf v F.NG_LINKCTL_KEY = 0x5155) (hq : (lk s l.val).quar = 7)
    (hst : lstate s l.val = 8) :
    Gives (.linkctlRelease q l v) s fun t =>
      lstate t l.val = (if (lk s l.val).untrained = true then 6 else 5) ∧ (lk t l.val).quar = 0 := by
  refine command_gives rfl may h (by decide) (fun _ => hk) fun t power => ?_
  let u := linkRecord (putLk t l.val { lk t l.val with quar := 0 }) l.val 0x308 clsInfo
  have own : lk u l.val = { lk s l.val with quar := 0 } := by rw [lk_linkRecord, lk_putLk_same, power.lk]
  have state : lstate u l.val = 8 := by rw [lstate_linkRecord, lstate_putLk, power.lstate, hst]
  have runs : ctlRelease t l.val =
      if (lk t l.val).untrained then setLink u l.val 6 0
      else if (lk t l.val).waitsUp ∨ ((lk t l.val).bondOk ∧ (bondOf u l.val).isNone) then linkActivate u l.val
      else setLink u l.val 5 0 := by
    refine (if_neg ?_).trans (if_neg (not_not.mpr state))
    rw [power.lk, hq, Bool.or_eq_true, Bool.and_eq_true]
    exact fun no => no.elim nofun fun no => nomatch no.1
  rw [commanded_release, runs, power.lk]
  split
  · exact ⟨lstate_setLink_same (by decide), by rw [lk_setLink, own]⟩
  · split
    · obtain ⟨up, quar, -⟩ := linkActivate_active (s := u) l.isLt (by rw [own])
      exact ⟨up, quar⟩
    · exact ⟨lstate_setLink_same (by decide), by rw [lk_setLink, own]⟩

/-- 12 R268: a LEGACY quarantine stays while LEGACY_TRUST does not grant the link. -/
theorem linkctl_keepsLegacy (may : isRing0 s q = true ∧ openAt s (0xE01001018 + 0x40 * l.val))
    (h : onlyCommand v F.NG_LINKCTL_RELEASE) (hk : bitsOf v F.NG_LINKCTL_KEY = 0x5155) (hq : (lk s l.val).quar = 3)
    (ht : bitAt (s.fl F.NG_POLICY_LEGACY_TRUST 0) l.val = false) :
    Gives (.linkctlRelease q l v) s fun t => lstate t l.val = lstate s l.val ∧ (lk t l.val).quar = 3 := by
  refine command_gives rfl may h (by decide) (fun _ => hk) fun t power => ?_
  have runs : ctlRelease t l.val = t := if_pos (by rw [power.lk, power.fl, hq, ht]; rfl)
  rw [commanded_release, runs, power.lstate, power.lk]
  exact ⟨rfl, hq⟩

/-- The counts of a link's errors. -/
def linkCounts : List Fld :=
  [F.NG_LINKERR_CORRECTED, F.NG_LINKERR_UNCORR, F.NG_LINKERR_RETRAINS, F.NG_LINKERR_TAGFAIL, F.NG_LINKERR_DENIED]

theorem ctlClrerr_zero (s : State) (n : Nat) : ∀ f ∈ linkCounts, (ctlClrerr s n).fl f n = 0 := by
  have stays {f g : Fld} {t : State} (hne : f.id ≠ g.id) (h : t.fl g n = 0) : (t.setF f n 0).fl g n = 0 :=
    (State.fl_setF_id t n n 0 hne).trans h
  have zero {f : Fld} {t : State} : (t.setF f n 0).fl f n = 0 := (State.fl_setF_same t f n 0).trans (Nat.zero_mod _)
  simp only [linkCounts, List.forall_mem_cons, List.not_mem_nil, false_implies, implies_true, and_true]
  exact ⟨stays (by decide) (stays (by decide) (stays (by decide) (stays (by decide) zero))),
    stays (by decide) (stays (by decide) (stays (by decide) zero)), stays (by decide) (stays (by decide) zero),
    stays (by decide) zero, zero⟩

theorem lstate_ctlClrerr (s : State) (n m : Nat) : lstate (ctlClrerr s n) m = lstate s m := by
  have same {f : Fld} (hl : f.id ≠ F.NG_LINKSTAT_STATE.id) (hp : f.id ≠ F.MR_PORTSTAT_STATE.id) (t : State) :
      lstate (t.setF f n 0) m = lstate t m := lstate_setF hl hp t n 0 m
  simp only [ctlClrerr, List.foldl_cons, List.foldl_nil]
  rw [same (by decide) (by decide), same (by decide) (by decide), same (by decide) (by decide), same (by decide) (by decide),
    same (by decide) (by decide)]

/-- 12 R268: CLRERR clears the counts. -/
theorem linkctl_clears (may : isRing0 s q = true ∧ openAt s (0xE01001018 + 0x40 * l.val))
    (h : onlyCommand v F.NG_LINKCTL_CLRERR) : Gives (.linkctlClrerr q l v) s fun t =>
      (∀ f ∈ linkCounts, t.fl f l.val = 0) ∧ t.links = s.links ∧ lstate t l.val = lstate s l.val := by
  refine command_gives rfl may h (by decide) nofun fun t power => ?_
  rw [commanded_clrerr]
  exact ⟨ctlClrerr_zero t l.val, power.links, (lstate_ctlClrerr t l.val l.val).trans (power.lstate _)⟩
end

/-! ### O36 -/

/-- Settles O36: each command of a link's traffic and each command of NG_LINKCTL, by what it leaves of the link. -/
theorem linkTraffic : Obligations.LinkTraffic := by
  refine ⟨fun s l f seq => ⟨fun up good data next ha hu => ?_,
      fun up good data other => ⟨flit_data_late up good data other, fun early hu => ?_⟩, fun up good data hu => ?_, flit_bad,
      replay_noted, creditTimeout_stalls, stallRetrain_trains,
      fun up hs hc hd => ⟨rekey_inBand up hs hc hd, rekey_retrains up hs hc hd⟩, rekeyMarker_switches, rekeyFail_retrains⟩,
    fun s c l v => ⟨linkctl_retrains, linkctl_quarantines, linkctl_unkeyed, linkctl_releases, linkctl_keepsLegacy,
      linkctl_clears⟩⟩
  · obtain ⟨t, run, back, mem⟩ := flit_data_next up good data next ha hu
    exact ⟨t, run, back.rxSeq, back.held, back.asked, back.credit, back.replay, back.stall, mem⟩
  · obtain ⟨t, run, back, mem⟩ := flit_data_early up good data other early hu
    refine ⟨t, run, back.rxSeq, back.held, ?_, back.credit, back.replay, back.stall, mem⟩
    rw [back.ahead]
    exact List.mem_append_right _ (List.mem_singleton_self _)
  · obtain ⟨t, run, back, mem⟩ := flit_other up good data hu
    exact ⟨t, run, back.rxSeq, back.held, back.credit, back.replay, back.stall, mem⟩

end Sys2Proof.Machine
end

section
/-! The fabric links family (spec 12): packets that arrive, and MGMT at this device (O40). -/

namespace Sys2Proof.Machine

/-! ### Arrival (12 R246, R267, R268) -/

section
variable {s : State} {n : Nat} {k : Packet}

theorem leaveBuffer_flds (s : State) (n : Nat) (k : Packet) : (leaveBuffer s n k).flds = s.flds := rfl

theorem counted_kept (s : State) (n : Nat) (k : Packet) : FieldsKept countField s (counted s n k) := fun f i hf =>
  ((countEvent_frame _ _ _ _).fl f i hf).trans (State.fl_congr (leaveBuffer_flds s n k) f i)

@[simp] theorem lstate_counted (s : State) (n : Nat) (k : Packet) (m : Nat) : lstate (counted s n k) m = lstate s m :=
  (counted_kept s n k).lstate rfl rfl m

/-- What arriving leaves of a header. -/
structure Arrives (k a : Packet) : Prop where
  cmd : a.cmd = k.cmd
  sub : a.sub = k.sub
  path : a.path = k.path
  src : a.src = k.src
  dst : a.dst = k.dst
  payload : a.payload = k.payload

theorem arriveHeader_arrives (s : State) (n : Nat) (k : Packet) : Arrives k (arriveHeader s n k) := by
  unfold arriveHeader
  dsimp only
  split
  · exact ⟨rfl, rfl, rfl, rfl, rfl, rfl⟩
  · split <;> exact ⟨rfl, rfl, rfl, rfl, rfl, rfl⟩

theorem arrived_arrives (s : State) (n : Nat) (k : Packet) : Arrives k (arrived s n k) := arriveHeader_arrives _ _ _

/-- A packet that a trained link brings, whose source the link may carry, is taken. -/
theorem arrive_takes (up : trained s n = true) (free : lstate s n ≠ 8)
    (source : reversePath (counted s n k) n (arrived s n k).src.toNat = true) (f : State → Packet → State) :
    arrive s n k f = f (counted s n k) (arrived s n k) := by
  have quarantined : ¬ (lstate (counted s n k) n = 8 && !passesQuarantine (arrived s n k)) = true := by
    rw [lstate_counted, decide_eq_false free, Bool.false_and]
    exact Bool.false_ne_true
  have strange : ¬ (!reversePath (counted s n k) n (arrived s n k).src.toNat) = true := by rw [source]; decide
  exact (if_neg (by rw [up]; decide)).trans ((if_neg quarantined).trans (if_neg strange))

end

/-! ### Delivery of a MGMT packet (12 R273, R278) -/

section
variable {s : State} {l : Fin 34} {k : Packet}

/-- A packet that comes for this device has its turn, and is delivered. -/
theorem linkRow_delivers {cmd : Nat} {fits : Bool} (h : Comes s l k cmd) (hf : fits = true) : linkRow s l k fits =
    .next (delivered (turned s l.val k) (some l) (arrived s l.val k) (deliver (turned s l.val k) (some l) (arrived s l.val k))) := by
  have run : linkRow s l k fits = .next (arrive s l.val k fun s k => localTurn s l k) :=
    congrArg Host.Outcome.next (if_pos (by rw [hf, h.here]; rfl))
  rw [run, arrive_takes h.up h.free h.source]
  rfl

theorem deliver_mgmt (h : Comes s l k pMgmt) : deliver (turned s l.val k) (some l) (arrived s l.val k) =
    takeMgmt (taking s l k) (some l) (arrived s l.val k) := by
  have cmd : (arrived s l.val k).cmd.toNat = 10 := by rw [(arrived_arrives s l.val k).cmd]; exact h.cmd
  unfold deliver
  dsimp only
  rw [cmd]
  rfl

/-- A MGMT packet that comes for this device, without a fault and with no reply in it, is performed or denied. -/
theorem takeMgmt_sound (h : Comes s l k pMgmt) {sub : BitVec 4} (hs : k.sub = sub) (hlt : sub.toNat < 8) :
    takeMgmt (taking s l k) (some l) (arrived s l.val k) =
      if mgmtWrites sub.toNat && !mgmtMay (taking s l k) (arrived s l.val k) then
        refuseHere (denyCount (taking s l k) l.val) (arrived s l.val k) rDenied
      else
        .ok () (mgmtReply (mgmtOp (taking s l k) (.fabric l (arrived s l.val k).src (arrived s l.val k).cmd (arrived s l.val k).part)
          (arrived s l.val k)).2 (some l) (arrived s l.val k) (mgmtOp (taking s l k) (.fabric l (arrived s l.val k).src
            (arrived s l.val k).cmd (arrived s l.val k).part) (arrived s l.val k)).1) := by
  have sub_eq : (arrived s l.val k).sub = sub := (arrived_arrives s l.val k).sub.trans hs
  have fault : requestFault (taking s l k) (arrived s l.val k) = none := h.sound
  have reply : ¬ sub = 8 := fun no => by rw [no] at hlt; exact absurd hlt (by decide)
  unfold takeMgmt
  rw [fault, sub_eq]
  dsimp only [Option.getD]
  rw [if_neg reply, if_neg (by omega)]

/-- The requester that a MGMT packet is performed for. -/
def mgmtRequester (s : State) (l : Fin 34) (k : Packet) : Requester :=
  .fabric l (arrived s l.val k).src (arrived s l.val k).cmd (arrived s l.val k).part

section
variable {cmd : Instr} {sub : BitVec 4} (hcmd : exec cmd s = linkRow s l k (isMgmt k sub.toNat))
  (h : Comes s l k pMgmt ∧ k.sub = sub)
include hcmd h

theorem mgmt_run {t : State} (ht : takeMgmt (taking s l k) (some l) (arrived s l.val k) = .ok () t) : exec cmd s = .next t := by
  have fits : isMgmt k sub.toNat = true := by rw [isMgmt, h.1.cmd, h.2, beq_self_eq_true, beq_self_eq_true]; rfl
  rw [hcmd, linkRow_delivers h.1 fits, deliver_mgmt h.1, ht]
  rfl

/-- 12 R273: a read, or a write with authority, is performed and answered. -/
theorem mgmt_replies (hlt : sub.toNat < 8)
    (hm : mgmtWrites sub.toNat = false ∨ mgmtMay (taking s l k) (arrived s l.val k) = true) {data : List Byte} {t : State}
    (op : mgmtOp (taking s l k) (mgmtRequester s l k) (arrived s l.val k) = (data, t)) :
    exec cmd s = .next (mgmtReply t (some l) (arrived s l.val k) data) := by
  refine mgmt_run hcmd h ((takeMgmt_sound h.1 h.2 hlt).trans ((if_neg ?_).trans ?_))
  · rcases hm with e | e <;> rw [e]
    · exact Bool.false_ne_true
    · rw [Bool.not_true, Bool.and_false]
      exact Bool.false_ne_true
  · rw [← mgmtRequester, op]

/-- 12 R273: a write without authority is denied. -/
theorem mgmt_denied (hlt : sub.toNat < 8) (hw : mgmtWrites sub.toNat = true)
    (hm : mgmtMay (taking s l k) (arrived s l.val k) = false) :
    exec cmd s = .next (refuse (denyCount (taking s l k) l.val) (arrived s l.val k) rDenied 0xFF) :=
  mgmt_run hcmd h ((takeMgmt_sound h.1 h.2 hlt).trans (if_pos (by rw [hw, hm]; rfl)))

end

/-- NG_NODEID of an unassigned device takes a node ID. -/
theorem nodeidPut_assigns {s : State} {id : Nat} (hu : s.fl F.NG_NODEID_ID 0 = 0x3FFFE) (hid : id < 0x3FFFE) :
    nodeidPut s id = some (timeChoose (s.setF F.NG_NODEID_ID 0 id)) :=
  (if_neg (by omega)).trans (if_neg (by omega))

theorem mgmtOp_assign {s : State} {q : Requester} {a : Packet} (hs : a.sub = 1) (hu : s.fl F.NG_NODEID_ID 0 = 0x3FFFE)
    (hn : mgmtWord a 0 < 0x3FFFE) : mgmtOp s q a = ([], timeChoose (s.setF F.NG_NODEID_ID 0 (mgmtWord a 0))) := by
  have fits : mgmtWord a 0 % 2 ^ 18 = mgmtWord a 0 := Nat.mod_eq_of_lt (by omega)
  unfold mgmtOp
  dsimp only
  rw [hs, fits, nodeidPut_assigns hu hn]
  rfl

end

/-! ### O40 -/

/-- Settles O40: each MGMT operation, by what it does at this device and what it answers, or that it is denied. -/
theorem fabricManagement : Obligations.FabricManagement := by
  intro s l k
  have sub {sub : BitVec 4} (h : Comes s l k pMgmt ∧ k.sub = sub) : (arrived s l.val k).sub = sub :=
    (arrived_arrives s l.val k).sub.trans h.2
  refine ⟨fun h => ?_, fun h may hu hn => ?_, fun h may => ?_, fun h => ?_, fun h => ?_, fun h may => ?_, fun h may => ?_,
    fun h may => ?_, fun e he h no => ?_⟩
  · exact mgmt_replies rfl h (by decide) (.inl rfl) (by unfold mgmtOp; rw [sub h]; rfl)
  · exact mgmt_replies rfl h (by decide) (.inr may) (mgmtOp_assign (sub h) hu hn)
  · exact mgmt_replies rfl h (by decide) (.inr may) (by unfold mgmtOp; rw [sub h]; rfl)
  · exact mgmt_replies rfl h (by decide) (.inl rfl) (by unfold mgmtOp; rw [sub h]; rfl)
  · exact mgmt_replies rfl h (by decide) (.inl rfl) (by unfold mgmtOp; rw [sub h]; rfl)
  · exact mgmt_replies rfl h (by decide) (.inr may) (by unfold mgmtOp; rw [sub h]; rfl)
  · exact mgmt_replies rfl h (by decide) (.inr may) (by unfold mgmtOp; rw [sub h]; rfl)
  · exact mgmt_replies rfl h (by decide) (.inr may) (by unfold mgmtOp; rw [sub h]; rfl)
  · simp only [List.mem_cons, List.not_mem_nil, or_false] at he
    rcases he with rfl | rfl | rfl | rfl | rfl <;> exact mgmt_denied rfl h (by dsimp only; decide) rfl no

end Sys2Proof.Machine
end

section
/-! The fabric links family (spec 13): accesses to memory leave the router as it is. -/

namespace Sys2Proof.Machine

/-! ### Counters, gates and lines of memory -/

/-- The state that an access leaves, however it ends. -/
def Res.state {α : Type} : Res α → State
  | .ok _ s => s
  | .fail _ s => s
  | .stall s => s

section
variable (s : State)

theorem bumpF_router (f : Fld) (i : Nat) : (s.bumpF f i).router = s.router := by
  unfold State.bumpF
  dsimp only
  split <;> rfl

theorem writeBytes_router (a n v : Nat) : (writeBytes s a n v).router = s.router := by
  obtain ⟨m, h⟩ := writeBytes_only n s a v
  rw [h]

theorem raiseTrigger_router (b : Nat) (level : Bool) : (raiseTrigger s b level).router = s.router := by
  have e := congrArg State.router (raiseTrigger_trip s b level).rest
  exact e

theorem askDom_router (d : Nat) : (askDom s d).router = s.router := by
  unfold askDom
  dsimp only
  split <;> rfl

theorem gateDom_router (d : Nat) : (gateDom s d).state.router = s.router := by
  unfold gateDom
  dsimp only
  split
  · rfl
  · split <;> rfl

theorem gateUnit_router (u : Nat) : (gateUnit s u).state.router = s.router := by
  unfold gateUnit
  split
  · rfl
  · split <;> rfl

theorem gate_router (u d : Option Nat) : (gate s u d).state.router = s.router := by
  have unit (t : State) : (match u with | none => Res.ok () t | some u => gateUnit t u).state.router = t.router := by
    cases u with
    | none => rfl
    | some u => exact gateUnit_router t u
  cases d with
  | none => exact unit s
  | some d =>
    have dom := gateDom_router s d
    unfold gate
    dsimp only
    cases h : gateDom s d with
    | ok _ t => rw [h] at dom; exact (unit t).trans dom
    | fail _ t => rw [h] at dom; exact dom
    | stall t => rw [h] at dom; exact dom

theorem gateOff_router (off : Nat) : (gateOff s off).state.router = s.router := by
  unfold gateOff
  split
  · split
    · rfl
    · exact gate_router _ _ _
  · split
    · rfl
    · exact gateUnit_router _ _
  · split <;> rfl
  · split
    · rfl
    · exact gate_router _ _ _
  · rfl

theorem sliceGate_router (line : Nat) : (sliceGate s line).state.router = s.router := by
  unfold sliceGate
  split
  · exact gate_router _ _ _
  · rfl

/-! ### The Strainers and the channels -/

theorem violation_router (x cls part kind : Nat) (region : Option Nat) (off size : Nat) (force : Bool) :
    (violation s x cls part kind region off size force).router = s.router := by
  have latched (safety : Bool) : (latchViolation s x cls part kind safety region off).router = s.router := by
    have counted : ∀ p, (countEvent (s.bumpF F.ST_VSTAT_COUNT x) 0x50 x p).router = s.router := fun p =>
      (countEvent_router _ _ _ _).trans (bumpF_router s _ _)
    unfold latchViolation
    dsimp only
    split
    · exact counted _
    · exact counted _
  unfold violation
  dsimp only
  split
  · rw [raiseTrigger_router, dregs_router, latched]
  · rw [dregs_router, latched]

theorem strain_router (x cls : Nat) (part : Option Nat) (kind : ReqKind) (off size : Nat) :
    (strain s x cls part kind off size).2.router = s.router := by
  unfold strain
  dsimp only
  split
  · rfl
  · split
    · split
      · rfl
      · exact violation_router _ _ _ _ _ _ _ _ _
    · exact violation_router _ _ _ _ _ _ _ _ _

theorem tracePut_router (typ b1 b45 b67 rest : Nat) (zero : Bool) : (tracePut s typ b1 b45 b67 rest zero).router = s.router := by
  unfold tracePut
  dsimp only [State.takeFree]
  split
  · rfl
  · split
    · rw [raiseSource_router]; exact bumpF_router _ _ _
    · exact bumpF_router _ _ _

theorem traceRaw_router (typ b1 b45 b67 rest : Nat) (zero : Bool) : (traceRaw s typ b1 b45 b67 rest zero).router = s.router := by
  unfold traceRaw
  rw [tracePut_router]
  split
  · exact tracePut_router _ _ _ _ _ _ _
  · rfl

theorem traceDram_router (ch : Nat) (part : Option Nat) (write budgeted : Bool) (size off : Nat) :
    (traceDram s ch part write budgeted size off).router = s.router := by
  unfold traceDram
  split
  · split
    · exact traceRaw_router _ _ _ _ _ _ _
    · rfl
  · rfl

theorem channelTakes_router (ch : Nat) (kind : ReqKind) (line : Nat) (budgeted : Bool) :
    (channelTakes s ch kind line budgeted).router = s.router := by
  unfold channelTakes
  dsimp only
  split <;> split <;> rfl

theorem charge_router (ch cls : Nat) (part : Option Nat) (kind : ReqKind) (off size : Nat) :
    (charge s ch cls part kind off size).router = s.router := by
  unfold charge
  dsimp only
  rw [traceDram_router, countEvent_router, channelTakes_router]
  split <;> split <;> rfl

theorem memAdmit_router (cls : Nat) (part : Option Nat) (kind : ReqKind) (off size : Nat) :
    (memAdmit s cls part kind off size).state.router = s.router := by
  have gated := gateOff_router s off
  unfold memAdmit memAdmitAs
  cases h : gateOff s off with
  | fail _ t => rw [h] at gated; exact gated
  | stall t => rw [h] at gated; exact gated
  | ok _ t =>
    rw [h] at gated
    dsimp only
    split
    · rename_i x _
      have strained := strain_router t x cls part kind off size
      split
      · rename_i u hu
        rw [hu] at strained
        have strained := strained.trans gated
        show (if x < 4 then charge u x cls part kind off size else u).router = s.router
        split
        · exact (charge_router _ _ _ _ _ _ _).trans strained
        · exact strained
      · rename_i u hu
        rw [hu] at strained
        exact strained.trans gated
    · exact gated

theorem admitPieces_router (cls : Nat) (part : Option Nat) (kind : ReqKind) :
    ∀ (l : List (Nat × Nat)) (s t : State), admitPieces s cls part kind l = some t → t.router = s.router
  | [], _, _, h => nomatch h
  | (off, n) :: rest, s, t, h => by
    unfold admitPieces at h
    split at h
    · rename_i x _
      have strained := strain_router s x cls part kind off n
      split at h
      · rename_i u hu
        rw [hu] at strained
        exact (admitPieces_router cls part kind rest u t h).trans strained
      · rename_i u hu
        rw [hu] at strained
        exact Option.some.inj h ▸ strained
    · exact admitPieces_router cls part kind rest s t h

/-! ### Lines of memory and of the caches -/

theorem lineKnown_router (off : Nat) : (lineKnown s off).router = s.router := by
  unfold lineKnown
  split
  · dsimp only
    split <;> split <;> rfl
  · rfl

theorem written_router (a n v off : Nat) : (lineKnown (writeBytes s a n v) off).router = s.router :=
  (lineKnown_router _ _).trans (writeBytes_router s a n v)

theorem eccCorrected_router (part : Option Nat) (c : Nat) : (eccCorrected s part c).router = s.router := by
  unfold eccCorrected
  dsimp only
  split
  · rw [dregs_router, raiseSource_router, countEvent_router, bumpF_router]
  · rw [countEvent_router, bumpF_router]

theorem eccUncorrectable_router (c off : Nat) : (eccUncorrectable s c off).router = s.router := by
  unfold eccUncorrectable
  dsimp only
  rw [dregs_router, raiseSource_router]
  split
  · exact bumpF_router _ _ _
  · exact bumpF_router _ _ _

theorem readLine_router (part : Option Nat) (off : Nat) : (readLine s part off).state.router = s.router := by
  unfold readLine
  dsimp only [State.takeFree]
  split
  · split
    · split
      · exact written_router _ _ _ _ _
      · exact (eccCorrected_router _ _ _).trans (written_router _ _ _ _ _)
      · exact eccUncorrectable_router _ _ _
    · split
      · rfl
      · exact (eccCorrected_router _ _ _).trans (lineKnown_router _ _)
      · exact eccUncorrectable_router _ _ _
  · rfl

theorem writeMem_router (part : Option Nat) (off n v : Nat) : (writeMem s part off n v).state.router = s.router := by
  have read := readLine_router s part off
  unfold writeMem
  split
  · cases h : readLine s part off with
    | ok d t => rw [h] at read; exact (written_router _ _ _ _ _).trans read
    | fail e t => rw [h] at read; exact read
    | stall t => rw [h] at read; exact read
  · exact written_router _ _ _ _ _

theorem touchLine_router (id : CacheId) (x : CLine) : (touchLine s id x).router = s.router := rfl

theorem dropLine_router (id : CacheId) (line : Nat) : (dropLine s id line).router = s.router := by
  unfold dropLine
  dsimp only
  split <;> rfl

theorem dropOn_router (id : CacheId) (line : Nat) : (dropOn s id line).router = s.router := by
  unfold dropOn
  split
  · exact dropLine_router _ _ _
  · rfl

theorem leaveL1_router (line : Nat) (c : Fin 16) : (leaveL1 s line c).router = s.router :=
  (dropOn_router _ _ _).trans (dropOn_router _ _ _)

theorem leaveL2_router (line : Nat) (n : Fin 4) : (leaveL2 s line n).router = s.router :=
  (foldl_keeps State.router (fun t c => dropOn_router t (.l1i c) line) _ _).trans (dropOn_router _ _ _)

theorem memWriteBack_router (x : CLine) : (memWriteBack s x).router = s.router := by
  unfold memWriteBack
  split
  · dsimp only
    rw [written_router]
    split
    · exact askDom_router _ _
    · rfl
  · rfl

theorem l3Put_router (part : Option Nat) (line data : Nat) (dirty : Bool) : (l3Put s part line data dirty).router = s.router := by
  have out (t : State) (v : CLine) (b : Bool) : (if b then memWriteBack t v else t).router = t.router := by
    split
    · exact memWriteBack_router _ _
    · rfl
  unfold l3Put
  dsimp only
  split
  · exact out _ _ _
  · split
    · exact (out _ _ _).trans (askDom_router _ _)
    · split
      · rfl
      · split
        · rw [countEvent_router, touchLine_router]
        · split
          · rw [countEvent_router, touchLine_router, out, dropLine_router]
          · exact out _ _ _

theorem l3Lookup_router (part : Option Nat) (line : Nat) : (l3Lookup s part line).router = s.router := by
  unfold l3Lookup
  split
  · exact countEvent_router _ _ _ _
  · rfl

theorem newestUsed_router {d : Nat} {t : State} (line : Nat) (h : newestUsed s line = some (d, t)) : t.router = s.router := by
  unfold newestUsed at h
  split at h
  · cases h; rfl
  · split at h
    · cases h; rfl
    · obtain ⟨x, -, e⟩ := Option.map_eq_some_iff.mp h
      cases e
      rfl

/-! ### Requests of engines -/

theorem snoopRead_router (cls : Nat) (part : Option Nat) (kind : ReqKind) (off n : Nat) :
    (snoopRead s cls part kind off n).state.router = s.router := by
  have sliced := sliceGate_router s (off / 64)
  unfold snoopRead
  dsimp only
  cases h : sliceGate s (off / 64) with
  | fail e t => rw [h] at sliced; exact sliced
  | stall t => rw [h] at sliced; exact sliced
  | ok _ t =>
    rw [h] at sliced
    have looked := (l3Lookup_router t (shownPart cls part) (off / 64)).trans sliced
    dsimp only
    generalize l3Lookup t (shownPart cls part) (off / 64) = u at looked
    split
    · rename_i d v hv
      split at hv
      · exact (newestUsed_router u _ hv).trans looked
      · cases hv
    · have admitted := (memAdmit_router u cls part kind off n).trans looked
      cases ha : memAdmit u cls part kind off n with
      | fail e v => rw [ha] at admitted; exact admitted
      | stall v => rw [ha] at admitted; exact admitted
      | ok _ v =>
        rw [ha] at admitted
        dsimp only
        split
        · rename_i d w hw
          exact (newestUsed_router v _ hw).trans admitted
        · split
          · have read := (readLine_router v (shownPart cls part) off).trans admitted
            cases hr : readLine v (shownPart cls part) off with
            | ok d w => rw [hr] at read; exact (l3Put_router _ _ _ _ _).trans read
            | fail e w => rw [hr] at read; exact read
            | stall w => rw [hr] at read; exact read
          · exact admitted

/-- The line leaves every cache but the L3. -/
theorem leaves_router (line : Nat) : (allClusters.foldl (fun s k => leaveL2 s line k)
    (allCores.foldl (fun s k => leaveL1 s line k) s)).router = s.router := by
  rw [foldl_keeps State.router (fun t k => leaveL2_router t line k), foldl_keeps State.router (fun t k => leaveL1_router t line k)]

theorem snoopPut_router (part : Option Nat) (off n v : Nat) : (snoopPut s part off n v).state.router = s.router := by
  have left := leaves_router s (off / 64)
  unfold snoopPut
  dsimp only
  generalize allClusters.foldl (fun s k => leaveL2 s (off / 64) k) (allCores.foldl (fun s k => leaveL1 s (off / 64) k) s) = t at left ⊢
  split
  · rw [writeMem_router, touchLine_router, left]
  · split
    · rw [writeMem_router, left]
    · rw [writeMem_router, left]

theorem snoopWrite_router (cls : Nat) (part : Option Nat) (kind : ReqKind) (off n v : Nat) :
    (snoopWrite s cls part kind off n v).state.router = s.router := by
  have admitted : ((sliceGate s (off / 64)).bind fun _ s => memAdmit s cls part kind off n).state.router = s.router := by
    have sliced := sliceGate_router s (off / 64)
    cases h : sliceGate s (off / 64) with
    | ok _ t => rw [h] at sliced; exact (memAdmit_router _ _ _ _ _ _).trans sliced
    | fail e t => rw [h] at sliced; exact sliced
    | stall t => rw [h] at sliced; exact sliced
  unfold snoopWrite
  cases h : (sliceGate s (off / 64)).bind fun _ s => memAdmit s cls part kind off n with
  | ok _ t => rw [h] at admitted; exact ((snoopPut_router _ _ _ _ _).trans (l3Lookup_router _ _ _)).trans admitted
  | fail e t => rw [h] at admitted; exact admitted
  | stall t => rw [h] at admitted; exact admitted

theorem engineRead_router (cls : Nat) (part : Option Nat) :
    ∀ (l : List (Nat × Nat)) (s : State), (engineRead s cls part l).2.2.router = s.router
  | [], _ => rfl
  | (off, n) :: rest, s => by
    have read := snoopRead_router s cls part 0 off n
    unfold engineRead
    dsimp only
    rw [engineRead_router cls part rest]
    split
    · cases h : snoopRead s cls part 0 off n with
      | ok v t => rw [h] at read; exact read
      | fail e t => rw [h] at read; exact read
      | stall t => rw [h] at read; exact read
    · rfl

theorem engineWrite_router (cls : Nat) (part : Option Nat) :
    ∀ (l : List (Nat × Nat)) (s : State) (bs : List Byte), (engineWrite s cls part bs l).2.router = s.router
  | [], _, _ => rfl
  | (off, n) :: rest, s, bs => by
    have write := snoopWrite_router s cls part 1 off n (bytesNat (bs.take n))
    unfold engineWrite
    dsimp only
    rw [engineWrite_router cls part rest]
    split
    · cases h : snoopWrite s cls part 1 off n (bytesNat (bs.take n)) with
      | ok v t => rw [h] at write; exact write
      | fail e t => rw [h] at write; exact write
      | stall t => rw [h] at write; exact write
    · rfl

theorem dmaRead_router (cls : Nat) (part : Option Nat) (off n : Nat) : (dmaRead s cls part off n).2.router = s.router := by
  unfold dmaRead rangeRead
  split
  · rename_i t ht
    exact admitPieces_router cls part 0 _ s t ht
  · exact engineRead_router cls part _ s

theorem dmaWrite_router (cls : Nat) (part : Option Nat) (off : Nat) (bs : List Byte) :
    (dmaWrite s cls part off bs).router = s.router := by
  unfold dmaWrite
  split
  · rename_i t ht
    exact admitPieces_router cls part 1 _ s t ht
  · exact engineWrite_router cls part _ s bs

theorem blockBytes_router : ∀ (l : List (Nat × Nat)) (s : State), (blockBytes s l).2.router = s.router
  | [], _ => rfl
  | (off, n) :: rest, s => (blockBytes_router rest (dmaRead s 3 none off n).2).trans (dmaRead_router s 3 none off n)

end

end Sys2Proof.Machine
end

section
/-! The fabric links family (spec 12, 13): what routing, refusing and answering packets leave alone. -/

namespace Sys2Proof.Machine

/-! ### What routing leaves alone -/

/-- The counters that packets that leave or are given up change. -/
def routeFields : List Fld := [F.TR_STAT_LOST, F.NG_REFCNT_DROPPED, F.NG_REFCNT_CODE1, F.NG_REFCNT_CODE2, F.NG_REFCNT_CODE3,
  F.NG_REFCNT_CODE4, F.NG_REFCNT_CODE5, F.NG_REFCNT_CODE6, F.NG_REFCNT_CODE7]

/-- `t` is `s` but for output queues, trace records, those counters, and interrupts. -/
structure OnlyRouting (s t : State) : Prop where
  rest : { t with flds := s.flds, icCommit := s.icCommit, icPulse := s.icPulse, trace := s.trace, free := s.free,
                  router := { t.router with out := s.router.out } } = s
  fl : FieldsKept (noteField routeFields) s t

namespace OnlyRouting
variable {s t u : State}

theorem refl (s : State) : OnlyRouting s s := ⟨rfl, .of_flds rfl⟩

theorem trans (h : OnlyRouting s t) (h' : OnlyRouting t u) : OnlyRouting s u :=
  ⟨by have h1 := h.rest; rw [← h'.rest] at h1; exact h1, h.fl.trans h'.fl⟩

theorem ite {c : Prop} [Decidable c] (ht : OnlyRouting s t) (hu : OnlyRouting s u) : OnlyRouting s (if c then t else u) := by
  split
  · exact ht
  · exact hu

theorem mem (h : OnlyRouting s t) : t.mem = s.mem := by
  have e := congrArg State.mem h.rest
  exact e

theorem links (h : OnlyRouting s t) : t.links = s.links := by
  have e := congrArg State.links h.rest
  exact e

theorem fab (h : OnlyRouting s t) : t.fab = s.fab := by
  have e := congrArg State.fab h.rest
  exact e

theorem router (h : OnlyRouting s t) : { t.router with out := s.router.out } = s.router := by
  have e := congrArg State.router h.rest
  exact e

theorem sq (h : OnlyRouting s t) : t.router.sq = s.router.sq := by
  have e := congrArg Router.sq h.router
  exact e

theorem sent (h : OnlyRouting s t) : t.router.sent = s.router.sent := by
  have e := congrArg Router.sent h.router
  exact e

theorem lk (h : OnlyRouting s t) (n : Nat) : lk t n = lk s n := lk_congr h.links n

theorem lstate (h : OnlyRouting s t) (n : Nat) : lstate t n = lstate s n := h.fl.lstate rfl rfl n

theorem of_ic (h : OnlyRouting s t) (h' : IcFrame icField t u) : OnlyRouting s u :=
  h.trans ⟨congrArg (fun v : State => { v with trace := t.trace, free := t.free, router := { v.router with out := t.router.out } })
    h'.rest, fun f i hf => h'.fl f i (icField_of_dregsField f (dregsField_of_noteField f hf))⟩

theorem raiseSource (h : OnlyRouting s t) (n : Nat) : OnlyRouting s (raiseSource t n) := h.of_ic (raiseSource_frame t n)

theorem bumpF (h : OnlyRouting s t) {f : Fld} (i : Nat) (hf : noteField routeFields f = true) : OnlyRouting s (t.bumpF f i) :=
  .ite ⟨h.rest, h.fl.setF (noteField_byId _) _ _ hf⟩ h

theorem putOut (h : OnlyRouting s t) (p : Nat) (l : List QPkt) : OnlyRouting s (putOut t p l) := ⟨h.rest, h.fl⟩

theorem enqueue (h : OnlyRouting s t) (p : Nat) (k : Packet) (remain : Nat) (viaLink : Bool) :
    OnlyRouting s (enqueue t p k remain viaLink) := h.putOut _ _

theorem tracePut (h : OnlyRouting s t) (typ b1 b45 b67 rest : Nat) (zero : Bool) :
    OnlyRouting s (tracePut t typ b1 b45 b67 rest zero) := by
  have free : OnlyRouting s t.takeFree.2 := ⟨h.rest, h.fl⟩
  have full := free.bumpF (f := F.TR_STAT_LOST) 0 rfl
  unfold Machine.tracePut
  dsimp only
  split
  · exact ⟨free.rest, free.fl⟩
  · have lost : OnlyRouting s { t.takeFree.2.bumpF F.TR_STAT_LOST 0 with trace :=
        { (t.takeFree.2.bumpF F.TR_STAT_LOST 0).trace with lost := (t.takeFree.2.bumpF F.TR_STAT_LOST 0).trace.lost + 1 } } :=
      ⟨full.rest, full.fl⟩
    split
    · exact lost.raiseSource _
    · exact lost

theorem tracePacket (h : OnlyRouting s t) (out : Bool) (k : Packet) : OnlyRouting s (tracePacket t out k) := by
  unfold Machine.tracePacket Machine.traceRaw
  exact .ite (.tracePut (.ite (h.tracePut _ _ _ _ _ _) h) _ _ _ _ _ _) h

theorem countDrop (h : OnlyRouting s t) : OnlyRouting s (countDrop t) := h.bumpF 0 rfl

theorem countRefusal (h : OnlyRouting s t) (code : Nat) : OnlyRouting s (countRefusal t code) := by
  have note : noteField routeFields (refField code) = true := by
    unfold refField
    split <;> rfl
  exact .ite ((h.bumpF 0 note).raiseSource _) (h.bumpF 0 note)

end OnlyRouting

/-! ### A packet that is routed -/

section
variable {s t : State} {k : Packet} {viaLink : Bool}

theorem tryRoute_only (h : tryRoute s k viaLink = .ok t) : OnlyRouting s t := by
  have goes {p remain : Nat} {a : Packet} {lead : Nat} (hg : (match lacks s p a with
      | some c => .error (c, p)
      | none => if tooLate s p a remain lead then .error (rLate, p)
        else .ok (enqueue s p (leaveHeader s p viaLink a) remain viaLink) : Except (Nat × Nat) State) = .ok t) : OnlyRouting s t := by
    split at hg
    · cases hg
    · split at hg
      · cases hg
      · cases hg; exact (OnlyRouting.refl s).enqueue _ _ _ _
  unfold tryRoute at h
  dsimp only at h
  split at h
  · split at h
    · split at h
      · exact goes h
      · cases h
    · cases h; exact (OnlyRouting.refl s).enqueue _ _ _ _
  · split at h
    · cases h; exact (OnlyRouting.refl s).enqueue _ _ _ _
    · exact goes h
    · cases h

theorem OnlyRouting.sendAnswer (h : OnlyRouting s t) (k : Packet) : OnlyRouting s (sendAnswer t k) := by
  unfold Machine.sendAnswer
  split
  · rename_i u hu
    exact (h.trans (tryRoute_only hu)).tracePacket _ _
  · exact .countDrop (.ite (h.raiseSource _) h)

theorem OnlyRouting.refuse (h : OnlyRouting s t) (k : Packet) (code port : Nat) : OnlyRouting s (refuse t k code port) :=
  .ite ((h.countRefusal _).sendAnswer _) (.countDrop (.ite (h.raiseSource _) h))

theorem OnlyRouting.routePacket (h : OnlyRouting s t) (k : Packet) (viaLink : Bool) : OnlyRouting s (routePacket t k viaLink) := by
  unfold Machine.routePacket
  split
  · rename_i u hu
    exact h.trans (tryRoute_only hu)
  · exact h.refuse _ _ _

theorem OnlyRouting.sendOwn (h : OnlyRouting s t) (k : Packet) : OnlyRouting s (sendOwn t k) := (h.tracePacket _ _).routePacket _ _

/-! ### Output queues -/

theorem outQ_putOut_same (s : State) (p : Nat) (l : List QPkt) : outQ (putOut s p l) p = l := mget_mset_same _ _ _ _

theorem outQ_putOut_ne (s : State) {p p' : Nat} (l : List QPkt) (h : p' ≠ p) : outQ (putOut s p l) p' = outQ s p' :=
  mget_mset_ne _ _ _ h.symm

theorem outQ_enqueue_same (s : State) (p : Nat) (k : Packet) (remain : Nat) (viaLink : Bool) :
    outQ (enqueue s p k remain viaLink) p = outQ s p ++ [⟨k, remain, fabNow s, viaLink, none⟩] := outQ_putOut_same _ _ _

theorem outQ_congr (h : t.router = s.router) (p : Nat) : outQ t p = outQ s p := by rw [outQ, outQ, h]

end

end Sys2Proof.Machine
end

section
/-! The fabric links family (spec 12, 13): packets that leave by a port, and blocks that leave a send queue (O41). -/

namespace Sys2Proof.Machine

/-! ### A port that may send (13 R286) -/

section
variable {s : State} {p : Nat}

theorem portUp_lanes (up : portUp s p = true) : sendLanes s (portHome p) ≠ [] := by
  have lane (h : Nat) (m : Nat) (hm : m ∈ homeMembers s h) (hs : lstate s m = 5) : sendLanes s h ≠ [] :=
    List.ne_nil_of_mem (List.mem_filter.mpr ⟨hm, by rw [hs]; rfl⟩)
  unfold portUp at up
  split at up
  · rename_i hp
    rw [hp]
    rcases Bool.or_eq_true_iff.mp up with h | h
    · exact lane 32 32 (List.mem_cons_self ..) (beq_iff_eq.mp h)
    · exact lane 32 33 (List.mem_cons_of_mem _ (List.mem_singleton_self _)) (beq_iff_eq.mp h)
  · obtain ⟨m, hm, hs⟩ := List.any_eq_true.mp up
    unfold members at hm
    split at hm
    · exact lane _ m hm (beq_iff_eq.mp hs)
    · cases hm

theorem portUp_transmits (up : portUp s p = true) : transmitStart s p = match (lk s (portHome p)).resend with
    | some seq => resendFlits s (portHome p) seq
    | none => if 0 < (lk s (portHome p)).unsent then flushHome s (portHome p) else sendEarliest s p :=
  if_neg (mt List.isEmpty_iff.mp (portUp_lanes up))

/-- The transmission of a port other than the local port. -/
theorem transmitStart_run {f : Fin 43} (hf : f.val < 41) : exec (.packetTransmitStart f) s = .next (transmitStart s f.val) :=
  congrArg Host.Outcome.next ((if_neg (by rw [portLocal]; omega)).trans (if_neg (by omega)))

/-! ### Flits that leave (12 R245, R246) -/

/-- What `n` flits that leave a home with the record `x`, for which credit allows some, make of it. -/
structure Sends (x : Link) (n : Nat) (y : Link) : Prop where
  credit : y.credit = x.credit - min x.credit n
  replay : y.replay = x.replay + min x.credit n
  unsent : y.unsent = n - min x.credit n

theorem sendOpen_sends (ps now m : Nat) (x : Link) : Sends x x.unsent (sendOpen ps now m x) := ⟨rfl, rfl, rfl⟩

theorem flushHome_sends {h : Nat} (lanes : sendLanes s h ≠ []) (hu : 0 < (lk s h).unsent) :
    flushHome s h = putLk s h (sendOpen (flitPs s h) (fabNow s) (sendLanes s h).length (lk s h)) := by
  unfold flushHome
  split
  · rename_i e
    exact absurd e lanes
  · rename_i e
    rw [if_neg (by omega)]

/-- 12 R245: flits that wait for credit leave first. -/
theorem transmit_waiting {f : Fin 43} (hf : f.val < 41) (up : portUp s f.val = true) (hr : (lk s (portHome f.val)).resend = none)
    (hu : 0 < (lk s (portHome f.val)).unsent) : Gives (.packetTransmitStart f) s fun t =>
      Sends (lk s (portHome f.val)) (lk s (portHome f.val)).unsent (lk t (portHome f.val)) ∧ t.mem = s.mem ∧ t.router = s.router ∧
      t.flds = s.flds := by
  have run := transmitStart_run (s := s) hf
  rw [portUp_transmits up, hr] at run
  dsimp only at run
  rw [if_pos hu, flushHome_sends (portUp_lanes up) hu] at run
  refine ⟨_, run, ?_, rfl, rfl, rfl⟩
  rw [lk_putLk_same]
  exact sendOpen_sends _ _ _ _

/-- 12 R245: flits that the partner asks for again leave before them. -/
theorem transmit_resends {f : Fin 43} (hf : f.val < 41) (up : portUp s f.val = true)
    (hr : (lk s (portHome f.val)).resend.isSome = true) : Gives (.packetTransmitStart f) s fun t =>
      (∃ busy, lk t (portHome f.val) = { lk s (portHome f.val) with resend := none, busy := busy }) ∧ t.router = s.router ∧
      t.flds = s.flds := by
  obtain ⟨seq, hseq⟩ := Option.isSome_iff_exists.mp hr
  have run := transmitStart_run (s := s) hf
  rw [portUp_transmits up, hseq] at run
  refine ⟨_, run, ?_, rfl, rfl⟩
  dsimp only
  rw [resendFlits, lk_putLk_same]
  split
  · exact ⟨_, rfl⟩
  · exact ⟨_, rfl⟩

/-! ### The packet of earliest deadline (13 R286, R288) -/

section
variable {q : QPkt} {rest : List QPkt} (head : earliest (outQ s p) = some (q, rest)) (up : portUp s p = true)
include head up

/-- What becomes of a port's packet of earliest deadline. -/
theorem sendEarliest_head : sendEarliest s p =
    if p ≠ portMirror && q.k.deadline.toNat * 1000 < (fabNow s + q.remain) * 1000 + tailPs (portSession s p) q.k then
      refuse (putOut s p rest) q.k rLate p
    else if (lk s (portHome p)).credit = 0 ∧ newFlits (portSession s p) (lk s (portHome p)).fill q.k ≠ 0 then s
    else transmit (putOut s p rest) p q (!rest.isEmpty) := by
  have ready : readyQ s p = (outQ s p, []) := if_pos up
  unfold sendEarliest
  rw [ready]
  dsimp only
  rw [head]
  rfl

end

/-- The record of a port's home once the transmission of a packet has begun. -/
def begunHome (s : State) (p : Nat) (q : QPkt) (more : Bool) : Link :=
  let x := lk s (portHome p)
  let auth := portSession s p
  let n := newFlits auth x.fill q.k
  sendOpen (flitPs s (portHome p)) (fabNow s) (lanes s p)
    { x with unsent := x.unsent + n, owed := 0, sent := x.sent ++ [⟨onWire s p (stamped s q.k), n, q.viaLink⟩],
             fill := if more then (x.fill + (wireBytes auth q.k + 7) / 8 * 8) % 72 else 0 }

/-- A packet that counts in its session changes the home's record in that count only. -/
theorem lk_sessionCount (s : State) (h e n : Nat) :
    ∃ tx, lk (putLk s e { lk s e with txCount := n }) h = { lk s h with txCount := tx } := by
  by_cases he : h = e
  · rw [he, lk_putLk_same]
    exact ⟨_, rfl⟩
  · rw [lk_putLk_ne _ _ he]
    exact ⟨(lk s h).txCount, rfl⟩

/-- What link `m`, which carries a packet's header, counts. -/
def onCarrier (q : QPkt) (m : Nat) (s : State) : State :=
  let t := putLk s (sessHome s m) { lk s (sessHome s m) with txCount := (lk s (sessHome s m)).txCount + 1 }
  if 32 ≤ m then t
  else
    let u := countEvent t 0x40 m (some q.k.part.toNat)
    if q.k.cmd.toNat = pNack ∧ q.k.src.toNat = ownNode u then countEvent u 0x42 m (some q.k.part.toNat) else u

theorem onCarrier_keeps (q : QPkt) (m : Nat) (s : State) (h : Nat) :
    (∃ tx, lk (onCarrier q m s) h = { lk s h with txCount := tx }) ∧ (onCarrier q m s).router = s.router ∧
    (onCarrier q m s).mem = s.mem := by
  obtain ⟨tx, own⟩ := lk_sessionCount s h (sessHome s m) ((lk s (sessHome s m)).txCount + 1)
  have counts {t u : State} (ev : Nat) (h : t.links = u.links ∧ t.router = u.router ∧ t.mem = u.mem) :
      (countEvent t ev m (some q.k.part.toNat)).links = u.links ∧ (countEvent t ev m (some q.k.part.toNat)).router = u.router ∧
      (countEvent t ev m (some q.k.part.toNat)).mem = u.mem := by
    rwa [countEvent_links, countEvent_router, countEvent_mem]
  have same : (onCarrier q m s).links = (putLk s (sessHome s m) { lk s (sessHome s m) with
        txCount := (lk s (sessHome s m)).txCount + 1 }).links ∧ (onCarrier q m s).router = s.router ∧
      (onCarrier q m s).mem = s.mem := by
    unfold onCarrier
    dsimp only
    split
    · exact ⟨rfl, rfl, rfl⟩
    · split
      · exact counts 0x42 (counts 0x40 ⟨rfl, rfl, rfl⟩)
      · exact counts 0x40 ⟨rfl, rfl, rfl⟩
  exact ⟨⟨tx, (lk_congr same.1 h).trans own⟩, same.2⟩

theorem transmit_eq (s : State) (p : Nat) (q : QPkt) (more : Bool) : transmit s p q more =
    match carrier s (portHome p) q with
    | some m => onCarrier q m (putLk s (portHome p) (begunHome s p q more))
    | none => putLk s (portHome p) (begunHome s p q more) := rfl

theorem transmit_home (s : State) (p : Nat) (q : QPkt) (more : Bool) :
    (∃ tx, lk (transmit s p q more) (portHome p) = { begunHome s p q more with txCount := tx }) ∧
    (transmit s p q more).router = s.router ∧ (transmit s p q more).mem = s.mem := by
  have begun : lk (putLk s (portHome p) (begunHome s p q more)) (portHome p) = begunHome s p q more := lk_putLk_same _ _ _
  rw [transmit_eq]
  cases carrier s (portHome p) q with
  | none => exact ⟨⟨(begunHome s p q more).txCount, begun⟩, rfl, rfl⟩
  | some m =>
    have keeps := onCarrier_keeps q m (putLk s (portHome p) (begunHome s p q more)) (portHome p)
    rwa [begun] at keeps

/-- The packet's flits join those that wait, of which there were none. -/
theorem begunHome_sends (s : State) (p : Nat) (q : QPkt) (more : Bool) (hu : (lk s (portHome p)).unsent = 0) :
    Sends (lk s (portHome p)) (newFlits (portSession s p) (lk s (portHome p)).fill q.k) (begunHome s p q more) ∧
    (begunHome s p q more).sent = (lk s (portHome p)).sent ++
      [⟨onWire s p (stamped s q.k), newFlits (portSession s p) (lk s (portHome p)).fill q.k, q.viaLink⟩] := by
  have flits : (lk s (portHome p)).unsent + newFlits (portSession s p) (lk s (portHome p)).fill q.k =
      newFlits (portSession s p) (lk s (portHome p)).fill q.k := by rw [hu, Nat.zero_add]
  unfold begunHome
  dsimp only
  rw [flits]
  exact ⟨⟨rfl, rfl, rfl⟩, rfl⟩

section
variable {f : Fin 43} {q : QPkt} {rest : List QPkt} (hf : f.val < 41)
  (head : earliest (outQ s f.val) = some (q, rest)) (up : portUp s f.val = true)
  (hr : (lk s (portHome f.val)).resend = none) (hu : (lk s (portHome f.val)).unsent = 0)
include hf head up hr hu

omit head in
theorem transmit_head_run : exec (.packetTransmitStart f) s = .next (sendEarliest s f.val) := by
  have run := transmitStart_run (s := s) hf
  rw [portUp_transmits up, hr] at run
  dsimp only at run
  rwa [if_neg (by omega)] at run

/-- 12 R286, R288: a packet whose deadline can no longer be met is refused. -/
theorem transmit_late (link : f.val < 40)
    (late : q.k.deadline.toNat * 1000 < (fabNow s + q.remain) * 1000 + tailPs (portSession s f.val) q.k) :
    exec (.packetTransmitStart f) s = .next (refuse (putOut s f.val rest) q.k rLate f.val) := by
  rw [transmit_head_run hf up hr hu, sendEarliest_head head up,
    if_pos (by rw [decide_eq_true late, decide_eq_true (by rw [portMirror]; omega)]; rfl)]

section
variable (ok : ¬ (f.val ≠ 40 ∧ q.k.deadline.toNat * 1000 < (fabNow s + q.remain) * 1000 + tailPs (portSession s f.val) q.k))
include ok

theorem transmit_inTime_run : exec (.packetTransmitStart f) s = .next (
    if (lk s (portHome f.val)).credit = 0 ∧ newFlits (portSession s f.val) (lk s (portHome f.val)).fill q.k ≠ 0 then s
    else transmit (putOut s f.val rest) f.val q (!rest.isEmpty)) := by
  rw [transmit_head_run hf up hr hu, sendEarliest_head head up,
    if_neg (by rw [Bool.and_eq_true, decide_eq_true_eq, decide_eq_true_eq]; exact ok)]

/-- 12 R246: a packet whose first flit finds no credit does not start. -/
theorem transmit_noCredit (hc : (lk s (portHome f.val)).credit = 0)
    (hn : newFlits (portSession s f.val) (lk s (portHome f.val)).fill q.k ≠ 0) : exec (.packetTransmitStart f) s = .next s := by
  rw [transmit_inTime_run hf head up hr hu ok, if_pos ⟨hc, hn⟩]

/-- 12 R245: otherwise its flits leave as credit allows. -/
theorem transmit_starts (hc : 0 < (lk s (portHome f.val)).credit ∨
      newFlits (portSession s f.val) (lk s (portHome f.val)).fill q.k = 0) :
    Gives (.packetTransmitStart f) s fun t => outQ t f.val = rest ∧
      Sends (lk s (portHome f.val)) (newFlits (portSession s f.val) (lk s (portHome f.val)).fill q.k) (lk t (portHome f.val)) ∧
      t.mem = s.mem ∧ (lk t (portHome f.val)).sent = (lk s (portHome f.val)).sent ++
        [⟨onWire s f.val (stamped s q.k), newFlits (portSession s f.val) (lk s (portHome f.val)).fill q.k, q.viaLink⟩] := by
  have run := transmit_inTime_run hf head up hr hu ok
  rw [if_neg (by omega)] at run
  obtain ⟨⟨tx, own⟩, router, mem⟩ := transmit_home (putOut s f.val rest) f.val q (!rest.isEmpty)
  obtain ⟨sends, sent⟩ := begunHome_sends (putOut s f.val rest) f.val q (!rest.isEmpty) hu
  refine ⟨_, run, (outQ_congr router _).trans (outQ_putOut_same _ _ _), ?_, mem, ?_⟩
  · rw [own]
    exact ⟨sends.credit, sends.replay, sends.unsent⟩
  · rw [own]
    exact sent

end

end

end

/-! ### The local port, and blocks that leave a send queue (13 R286, R295, R297) -/

section
variable {s t : State} {n : Nat} {k : Packet}

/-- Where nothing waits for a target, the local port delivers its packet of earliest deadline. -/
theorem local_delivers {f : Fin 43} {q : QPkt} {rest : List QPkt} (head : earliest (outQ s f.val) = some (q, rest)) (hf : f.val = 42)
    (hw : s.router.waiting = []) {u : State} (done : deliver (putOut s 42 rest) none q.k = .ok () u) :
    exec (.packetTransmitStart f) s = .next u := by
  have run : exec (.packetTransmitStart f) s = .next (localStart s) := congrArg Host.Outcome.next (if_pos hf)
  have resumed : resumeWaiting s.router.waiting.length s = s := by rw [hw]; rfl
  rw [run, localStart, resumed]
  rw [hf] at head
  rw [show earliest (outQ s portLocal) = some (q, rest) from head]
  dsimp only
  rw [show deliver (putOut s portLocal rest) none q.k = .ok () u from done]
  rfl

/-- The blocks of the send queues and their counts are as they were. -/
def QueuesKept (s t : State) : Prop := t.router.sq = s.router.sq ∧ t.router.sent = s.router.sent

theorem fillSlot_keeps (h : fillSlot s n k = .ok () t) : QueuesKept s t := by
  unfold fillSlot at h
  dsimp only at h
  split at h
  · cases h
  · cases h
    rw [QueuesKept, (rqLine_frame _ _).router]
    dsimp only
    rw [dmaWrite_router]
    exact ⟨rfl, rfl⟩

theorem countDrop_router (s : State) : (countDrop s).router = s.router := bumpF_router s _ _

theorem replyQueue_keeps (h : replyQueue s n k = .ok () t) : QueuesKept s t := by
  unfold replyQueue at h
  split at h
  · exact fillSlot_keeps h
  · cases h
    rw [QueuesKept, countDrop_router, setOverrun, raiseSource_router]
    exact ⟨rfl, rfl⟩

theorem queueTake_keeps (h : queueTake s n k = .ok () t) : QueuesKept s t := by
  unfold queueTake at h
  split at h
  · cases h
    have only := (OnlyRouting.refl s).sendOwn k
    exact ⟨only.sq, only.sent⟩
  · have refused := (OnlyRouting.refl s).countRefusal rDenied
    obtain ⟨sq, sent⟩ := replyQueue_keeps h
    exact ⟨sq.trans refused.sq, sent.trans refused.sent⟩

/-- SENT counts the block. -/
theorem queueSent_router (s : State) (n : Nat) : (queueSent s n).router =
    { s.router with sent := mset 0 s.router.sent n ((mget 0 s.router.sent n + 1) % 2 ^ 64) } := by
  unfold queueSent
  dsimp only
  split
  · rw [raiseSource_router, dmaWrite_router]
  · rw [dmaWrite_router]

theorem queueEngine_run {f : Fin 16} {e : SqEntry} {es : List SqEntry} (hq : mget [] s.router.sq f.val = e :: es)
    (hm : ∀ x ∈ e.pieces ++ [(s.fl F.NG_SQADDR_CPLADDR f.val * 8, 8)], mustWait s x.1 x.2 = false) (hr : s.ready 35 = true)
    {block : List Byte} {s1 s2 : State} (hb : blockBytes s e.pieces = (block, s1))
    (taken : let s1 := { s1 with router := { s1.router with sq := mset [] s1.router.sq f.val es } }
      queueTake s1 f.val (queuePacket s1 f.val e.core block) = .ok () s2) :
    exec (.queueEngineSend f) s = .next (queueSent s2 f.val) := by
  have none_waits : (e.pieces ++ [(s.fl F.NG_SQADDR_CPLADDR f.val * 8, 8)]).filter (fun x : Nat × Nat => mustWait s x.1 x.2) = [] :=
    List.filter_eq_nil_iff.mpr fun x hx => by rw [hm x hx]; exact Bool.false_ne_true
  have ready : gateUnit s 35 = .ok () s := if_pos hr
  show execQueueEngineSend f s = _
  unfold execQueueEngineSend
  rw [hq]
  dsimp only
  rw [none_waits, List.isEmpty_nil, if_neg (by decide), ready]
  dsimp only
  rw [hb]
  dsimp only at taken ⊢
  rw [taken]

theorem queueEngine_sends {f : Fin 16} {e : SqEntry} {es : List SqEntry} (hq : mget [] s.router.sq f.val = e :: es)
    (hm : ∀ x ∈ e.pieces ++ [(s.fl F.NG_SQADDR_CPLADDR f.val * 8, 8)], mustWait s x.1 x.2 = false) (hr : s.ready 35 = true)
    (block : List Byte) (s1 s2 : State) (hb : blockBytes s e.pieces = (block, s1)) :
    let s1 := { s1 with router := { s1.router with sq := mset [] s1.router.sq f.val es } }
    queueTake s1 f.val (queuePacket s1 f.val e.core block) = .ok () s2 →
    Gives (.queueEngineSend f) s fun t => mget [] t.router.sq f.val = es ∧
      mget 0 t.router.sent f.val = (mget 0 s.router.sent f.val + 1) % 2 ^ 64 := by
  intro u taken
  obtain ⟨sq, sent⟩ := queueTake_keeps taken
  have read : s1.router = s.router := by
    have kept := blockBytes_router e.pieces s
    rwa [hb] at kept
  refine ⟨_, queueEngine_run hq hm hr hb taken, ?_, ?_⟩
  · rw [queueSent_router, sq]
    exact mget_mset_same _ _ _ _
  · rw [queueSent_router, sent, mget_mset_same]
    rw [show u.router.sent = s.router.sent from by rw [← read]]

end

/-! ### O41 -/

/-- Settles O41: what a port's transmission does, by what waits at the port; and a block that leaves a send queue. -/
theorem packetsLeaving : Obligations.PacketsLeaving := by
  intro s p q rest n e es
  refine ⟨fun head hp up ok hc => ?_, fun hp up hr hu => ?_, fun head hp up late => ?_, fun head hp up ok hc hn => ?_,
    transmit_resends, local_delivers, queueEngine_sends⟩
  · obtain ⟨up, hr, hu⟩ := up
    obtain ⟨t, run, left, sends, mem, sent⟩ := transmit_starts hp head up hr hu ok hc
    exact ⟨t, run, left, ⟨sends.credit, sends.replay, sends.unsent, mem⟩, sent⟩
  · obtain ⟨t, run, sends, mem, router, flds⟩ := transmit_waiting hp up hr hu
    exact ⟨t, run, ⟨sends.credit, sends.replay, sends.unsent, mem⟩, router, flds⟩
  · obtain ⟨up, hr, hu⟩ := up
    exact transmit_late (by omega) head up hr hu hp late
  · obtain ⟨up, hr, hu⟩ := up
    exact transmit_noCredit hp head up hr hu ok hc hn

end Sys2Proof.Machine
end

section
/-! The fabric links family (spec 12): packets that cross the router, and those that it gives up (O37). -/

namespace Sys2Proof.Machine

/-! ### Packets that arrive and go on (12 R247, R267, R272; 15 R319) -/

section
variable {s : State} {n : Nat} {k : Packet}

theorem counted_router (s : State) (n : Nat) (k : Packet) : (counted s n k).router = s.router := by
  rw [counted, countEvent_router]
  rfl

theorem counted_mem (s : State) (n : Nat) (k : Packet) : (counted s n k).mem = s.mem := by
  rw [counted, countEvent_mem]
  rfl

theorem fabNow_counted (s : State) (n : Nat) (k : Packet) : fabNow (counted s n k) = fabNow s := counted_kept s n k _ _ rfl

/-- Where the link does not check reverse paths, every source passes. -/
theorem reversePath_unchecked (h : s.fb F.NG_LINKCFG_RPF n = false) (src : Nat) : reversePath s n src = true :=
  if_neg (by rw [h, Bool.and_false, Bool.false_and]; exact Bool.false_ne_true)

theorem isHere_routed {p remain : Nat} (hp : k.path = false) (route : routePkt s k = .out p remain) : isHere s k = false := by
  rw [isHere, hp, Bool.false_and, if_neg Bool.false_ne_true, route]
  exact beq_eq_false_iff_ne.mpr nofun

theorem routePacket_goes {p remain : Nat} (hp : k.path = false) (route : routePkt s k = .out p remain)
    (able : lacks s p k = none) (inTime : tooLate s p k remain 90 = false) :
    routePacket s k true = enqueue s p (leaveHeader s p true k) remain true := by
  have goes : tryRoute s k true = .ok (enqueue s p (leaveHeader s p true k) remain true) := by
    unfold tryRoute
    rw [hp, Bool.false_and, if_neg Bool.false_ne_true, route]
    dsimp only
    rw [able]
    dsimp only
    rw [if_pos rfl, inTime, if_neg Bool.false_ne_true]
  rw [routePacket, goes]

section
variable {l : Fin 32} (up : trained s l.val = true) (free : lstate s l.val ≠ 8)
include up free

/-- A packet that the router may carry joins the queue of its port. -/
theorem forward_goes {p remain : Nat} (source : reversePath (counted s l.val k) l.val (arrived s l.val k).src.toNat = true)
    (hm : k.cmd.toNat ≠ pMirror) (hp : k.path = false)
    (route : routePkt (counted s l.val k) (arrived s l.val k) = .out p remain)
    (able : lacks (counted s l.val k) p (arrived s l.val k) = none)
    (inTime : tooLate (counted s l.val k) p (arrived s l.val k) remain 90 = false) :
    Gives (.packetForward l k) s fun t => outQ t p = outQ s p ++
      [⟨leaveHeader (counted s l.val k) p true (arrived s l.val k), remain, fabNow s, true, none⟩] ∧ t.mem = s.mem := by
  have cmd : ¬ (arrived s l.val k).cmd.toNat = pMirror := by rw [(arrived_arrives s l.val k).cmd]; exact hm
  have path : (arrived s l.val k).path = false := (arrived_arrives s l.val k).path.trans hp
  have run : exec (.packetForward l k) s = .next (routePacket (counted s l.val k) (arrived s l.val k) true) :=
    congrArg Host.Outcome.next ((arrive_takes up free source _).trans ((if_neg cmd).trans
      (if_neg (by rw [isHere_routed path route]; exact Bool.false_ne_true))))
  rw [routePacket_goes path route able inTime] at run
  refine ⟨_, run, ?_, counted_mem s l.val k⟩
  rw [outQ_enqueue_same, outQ_congr (counted_router s l.val k), fabNow_counted]

/-- A MIRROR packet is dropped. -/
theorem forward_mirror (hr : s.fb F.NG_LINKCFG_RPF l.val = false) (hm : k.cmd.toNat = pMirror) :
    Gives (.packetForward l k) s fun t => t.router = s.router ∧ t.mem = s.mem := by
  have source : reversePath (counted s l.val k) l.val (arrived s l.val k).src.toNat = true :=
    reversePath_unchecked (((counted_kept s l.val k).fb _ _ rfl).trans hr) _
  have cmd : (arrived s l.val k).cmd.toNat = pMirror := by rw [(arrived_arrives s l.val k).cmd]; exact hm
  exact ⟨_, congrArg Host.Outcome.next ((arrive_takes up free source _).trans (if_pos cmd)),
    (countDrop_router _).trans (counted_router s l.val k),
    ((OnlyRouting.refl _).countDrop).mem.trans (counted_mem s l.val k)⟩

end

end

/-! ### The tail of a packet (12 R248, R266) -/

section
variable {α : Type} {fits : α → Bool} {f : α → α}

theorem alterFirst_some {a b : List α} {x : α} (hx : fits x = true) (ha : ∀ y ∈ a, fits y = false) :
    alterFirst fits f (a ++ x :: b) = some (a ++ f x :: b) := by
  induction a with
  | nil => exact if_pos hx
  | cons y a ih =>
    obtain ⟨hy, ha⟩ := List.forall_mem_cons.mp ha
    rw [List.cons_append, alterFirst, hy, if_neg Bool.false_ne_true, ih ha]
    rfl

theorem alterFirst_none {a : List α} (ha : ∀ y ∈ a, fits y = false) : alterFirst fits f a = none := by
  induction a with
  | nil => rfl
  | cons y a ih =>
    obtain ⟨hy, ha⟩ := List.forall_mem_cons.mp ha
    rw [alterFirst, hy, if_neg Bool.false_ne_true, ih ha]
    rfl

theorem alterLast_some {a b : List α} {x : α} (hx : fits x = true) (hb : ∀ y ∈ b, fits y = false) :
    alterLast fits f (a ++ x :: b) = some (a ++ f x :: b) := by
  rw [alterLast, List.reverse_append, List.reverse_cons, List.append_assoc, List.singleton_append,
    alterFirst_some hx fun y hy => hb y (List.mem_reverse.mp hy)]
  simp

theorem alterLast_none {a : List α} (ha : ∀ y ∈ a, fits y = false) : alterLast fits f a = none := by
  rw [alterLast, alterFirst_none fun y hy => ha y (List.mem_reverse.mp hy)]
  rfl

/-- The first number for which a search finds something. -/
theorem findSome?_range {β : Type} {g : Nat → Option β} {b : β} {n p : Nat} (hp : p < n) (hg : g p = some b)
    (before : ∀ q, q < p → g q = none) : (List.range n).findSome? g = some b := by
  induction n with
  | zero => omega
  | succ n ih =>
    rw [List.range_succ, List.findSome?_append]
    rcases Nat.lt_or_ge p n with h | h
    · rw [ih h]
      rfl
    · have none_before : (List.range n).findSome? g = none :=
        List.findSome?_eq_none_iff.mpr fun q hq => before q (by rw [List.mem_range] at hq; omega)
      have here : n = p := by omega
      rw [none_before, here, Option.none_or, List.findSome?_singleton, hg]

end

section
variable {s : State} {k : Packet} {p : Nat} {es fs : List QPkt} {e : QPkt}

/-- The newest queued copy of a packet is marked. -/
theorem markCopy_queued (hp : p < 43) (hq : outQ s p = es ++ e :: fs) (he : isCopy k e.viaLink e.k = true)
    (hf : ∀ f ∈ fs, ¬ isCopy k f.viaLink f.k = true) (first : ∀ p', p' < p → ∀ f ∈ outQ s p', ¬ isCopy k f.viaLink f.k = true) :
    markCopy k s = putOut s p (es ++ { e with k := invertTrailer e.k } :: fs) := by
  have here : markQueued k s p = some (putOut s p (es ++ { e with k := invertTrailer e.k } :: fs)) := by
    rw [markQueued, hq, alterLast_some (fits := fun q => isCopy k q.viaLink q.k) he fun f h => Bool.eq_false_iff.mpr (hf f h)]
    rfl
  have before : ∀ p', p' < p → markQueued k s p' = none := fun p' h => by
    rw [markQueued, alterLast_none fun f hm => Bool.eq_false_iff.mpr (first p' h f hm)]
    rfl
  rw [markCopy, findSome?_range hp here before]
  rfl

/-- A link on which a packet has failed its tag, the failure counted. -/
def tagFailed (s : State) (n : Nat) : State := if n < 32 then s.bumpF F.NG_LINKERR_TAGFAIL n else s

theorem tagFailed_only (s : State) (n : Nat) : OnlyLinks s (tagFailed s n) := .ite ((OnlyLinks.refl s).bumpF _ _) (.refl s)

/-- What the failure makes of the link itself. -/
def tagActs (s : State) (n : Nat) : State :=
  if n < 32 then
    let times := s.time :: recent s 1000000 (lk s n).tagTimes
    let t := putLk s n { lk s n with tagTimes := times }
    if max 1 (t.fl F.NG_LINKCFG_TAG_THR n) ≤ times.length && lstate t n != 8 then linkQuarantine t n 5 else t
  else s

theorem tagActs_only (s : State) (n : Nat) : OnlyLinks s (tagActs s n) := by
  have noted := (OnlyLinks.refl s).putLk n { lk s n with tagTimes := s.time :: recent s 1000000 (lk s n).tagTimes }
  exact .ite (.ite (noted.linkQuarantine n 5) noted) (.refl s)

section
variable {m : Fin 34} (up : trained s m.val = true) (session : (lk s (sessHome s m.val)).session = true)
include up session

omit up session in
theorem tail_good : Gives (.packetTailArrival m k true) s fun t => t.router = s.router ∧ t.flds = s.flds :=
  ⟨s, congrArg Host.Outcome.next (if_pos (by rw [Bool.or_true])), rfl, rfl⟩

theorem tail_bad_run : exec (.packetTailArrival m k false) s = .next (tagActs (markCopy k (tagFailed s m.val)) m.val) :=
  congrArg Host.Outcome.next (if_neg (by rw [up, session]; decide))

/-- A packet whose tag fails is marked corrupt where it waits. -/
theorem tail_bad (hp : p < 43) (hq : outQ s p = es ++ e :: fs) (he : isCopy k e.viaLink e.k = true)
    (hf : ∀ f ∈ fs, ¬ isCopy k f.viaLink f.k = true) (first : ∀ p', p' < p → ∀ f ∈ outQ s p', ¬ isCopy k f.viaLink f.k = true) :
    Gives (.packetTailArrival m k false) s fun t => outQ t p = es ++ { e with k := invertTrailer e.k } :: fs ∧
      (∀ p', p' ≠ p → outQ t p' = outQ s p') ∧ t.mem = s.mem := by
  have failed := tagFailed_only s m.val
  have same (p' : Nat) : outQ (tagFailed s m.val) p' = outQ s p' := outQ_congr failed.router p'
  have run := tail_bad_run (k := k) up session
  rw [markCopy_queued hp ((same p).trans hq) he hf fun p' h => by rw [same]; exact first p' h] at run
  have acts := tagActs_only (putOut (tagFailed s m.val) p (es ++ { e with k := invertTrailer e.k } :: fs)) m.val
  refine ⟨_, run, ?_, fun p' h => ?_, acts.mem.trans failed.mem⟩
  · rw [outQ_congr acts.router, outQ_putOut_same]
  · rw [outQ_congr acts.router, outQ_putOut_ne _ _ h, same]

end

end

/-! ### Packets given up (12 R256, R269) -/

section
variable {s t : State} {n : Nat} {k : Packet}

/-- A late packet whose command is not answered is only counted. -/
theorem refuse_late_router (h : answered k = false) (port : Nat) : (refuse s k rLate port).router = s.router := by
  have late : ¬ rLate = rNoRoute := by decide
  rw [refuse, h, if_neg Bool.false_ne_true, if_neg late, countDrop_router]

theorem refuses_late_router (port : Nat) (l : List QPkt) (hl : ∀ e ∈ l, answered e.k = false) (s : State) :
    (l.foldl (fun s e => refuse s e.k rLate port) s).router = s.router := by
  induction l generalizing s with
  | nil => rfl
  | cons e l ih =>
    obtain ⟨he, hl⟩ := List.forall_mem_cons.mp hl
    exact (ih hl _).trans (refuse_late_router he port)

/-- 12 R256: packets that have waited too long toward a partner without deadlines leave its queue. -/
theorem legacyTimeout_drops {l : Fin 32} (hv : linkVer s l.val ≠ 0) (hc : linkCap s l.val 0 = false)
    (hold : ∀ e ∈ outQ s l.val,
      decide (e.since + 1000 * max 1 (s.fl F.NG_POLICY_LEGACY_TMO 0) ≤ fabNow s) = true → answered e.k = false) :
    Gives (.legacyTimeout l) s fun t => outQ t l.val =
      (outQ s l.val).filter fun e => !decide (e.since + 1000 * max 1 (s.fl F.NG_POLICY_LEGACY_TMO 0) ≤ fabNow s) := by
  refine ⟨_, congrArg Host.Outcome.next (if_neg (by rw [hc, decide_eq_false hv]; decide)),
    (outQ_congr (refuses_late_router l.val _ (fun e he => ?_) _) _).trans (outQ_putOut_same _ _ _)⟩
  obtain ⟨mem, old⟩ := List.mem_filter.mp he
  exact hold e mem old

/-- A route goes by a port that can be used. -/
theorem routeVia_usable {carries : Nat → Bool} {dst p remain : Nat} (h : routeVia s carries dst = .out p remain) :
    portUsable s p = true := by
  have behind {alt remain p r : Nat} {d : Nat} (h : behindAlt s carries d alt remain = some (.out p r)) : portUsable s p = true := by
    unfold behindAlt at h
    split at h
    · cases h
    · split at h
      · rename_i able
        cases h
        exact (Bool.and_eq_true_iff.mp able).1
      · split at h
        · cases h
        · split at h <;> cases h
  unfold routeVia at h
  split at h
  · cases h
  · split at h
    · cases h
    · dsimp only at h
      split at h
      · cases h
      · split at h
        · rename_i able
          have able := (Bool.and_eq_true_iff.mp able).1
          split at h
          · cases h
            exact able
          · cases hb : behindAlt s carries dst (routeEntry s dst).2.1 (routeEntry s dst).2.2 with
            | none =>
              rw [hb] at h
              cases h
              exact able
            | some r =>
              rw [hb] at h
              obtain rfl : r = .out p remain := h
              exact behind hb
        · split at h
          · rename_i able
            have able := (Bool.and_eq_true_iff.mp (Bool.and_eq_true_iff.mp able).1).1
            split at h
            · cases h
            · cases h
              exact able
          · split at h
            · cases h
            · split at h <;> cases h

/-- The port of a link that is not ACTIVE cannot be used. -/
theorem portUsable_link (hn : n < 32) (h : portUsable s n = true) : lstate s n = 5 := by
  have member : members s n = [n] := by rw [members, if_pos (by omega), portHome, if_pos hn, homeMembers, if_pos hn]
  rw [portUsable, member] at h
  simp only [List.any_cons, List.any_nil, Bool.or_false, Bool.or_eq_true, beq_iff_eq] at h
  omega

section
variable (hn : n < 32) (hs : lstate s n ≠ 5)
include hn hs

/-- Nothing joins the queue of a link that is not ACTIVE by its route. -/
theorem tryRoute_avoids {viaLink : Bool} (hp : k.path = false) (h : tryRoute s k viaLink = .ok t) : outQ t n = outQ s n := by
  unfold tryRoute at h
  rw [hp, Bool.false_and, if_neg Bool.false_ne_true] at h
  dsimp only at h
  split at h
  · cases h
    exact outQ_putOut_ne _ _ (by rw [portLocal]; omega)
  · rename_i p remain route
    have other : n ≠ p := fun e => hs (portUsable_link hn (e ▸ routeVia_usable route))
    generalize (if viaLink then 90 else 39) = lead at h
    split at h
    · cases h
    · split at h
      · cases h
      · cases h
        exact outQ_putOut_ne _ _ other
  · cases h

theorem sendAnswer_avoids (hp : k.path = false) : outQ (sendAnswer s k) n = outQ s n := by
  have traced (t : State) : (tracePacket t true k).router = t.router := by
    unfold tracePacket
    split
    · exact traceRaw_router _ _ _ _ _ _ _
    · rfl
  unfold sendAnswer
  split
  · rename_i u hu
    exact (outQ_congr (traced u) n).trans (tryRoute_avoids hn hs hp hu)
  · refine outQ_congr ((countDrop_router _).trans ?_) n
    split
    · exact raiseSource_router _ _
    · rfl

theorem refuse_avoids (code port : Nat) : outQ (refuse s k code port) n = outQ s n := by
  have counted : (countRefusal s code).router = s.router := by
    unfold countRefusal
    dsimp only
    split
    · rw [raiseSource_router, bumpF_router]
    · exact bumpF_router _ _ _
  unfold refuse
  split
  · have state : lstate (countRefusal s code) n ≠ 5 := by rwa [((OnlyRouting.refl s).countRefusal code).lstate n]
    exact (sendAnswer_avoids hn state rfl).trans (outQ_congr counted n)
  · refine outQ_congr ((countDrop_router _).trans ?_) n
    split
    · exact raiseSource_router _ _
    · rfl

end

/-- A packet whose header the router still holds when its link fails. -/
def giveUp (p : Nat) (s : State) (k : Packet) : State :=
  if k.cmd.toNat == pMgmt then countDrop s else refuse s k rNoRoute p

theorem giveUp_only (p : Nat) (s : State) (k : Packet) : OnlyRouting s (giveUp p s k) :=
  .ite (OnlyRouting.refl s).countDrop ((OnlyRouting.refl s).refuse _ _ _)

theorem giveUp_avoids {p : Nat} (hn : n < 32) (hs : lstate s n ≠ 5) : outQ (giveUp p s k) n = outQ s n := by
  unfold giveUp
  split
  · exact outQ_congr (countDrop_router s) n
  · exact refuse_avoids hn hs _ _

theorem givenUp_keeps (p : Nat) (hn : n < 32) (l : List Packet) (s : State) (hs : lstate s n ≠ 5) :
    OnlyRouting s (l.foldl (giveUp p) s) ∧ outQ (l.foldl (giveUp p) s) n = outQ s n := by
  induction l generalizing s with
  | nil => exact ⟨.refl s, rfl⟩
  | cons k l ih =>
    have one := giveUp_only p s k
    obtain ⟨only, out⟩ := ih (giveUp p s k) (by rwa [one.lstate])
    exact ⟨one.trans only, out.trans (giveUp_avoids hn hs)⟩

/-- What is lost with a port, before what is held is given up. -/
def portEmptied (s : State) (p : Nat) : State :=
  putLk (putOut s p []) (portHome p) { lk s (portHome p) with sent := [], unsent := 0, replay := 0 }

/-- What is lost with a port. -/
def portLost (s : State) (p : Nat) : State :=
  ((lk s (portHome p)).sent.map (·.k) ++ (outQ s p).map (·.k)).foldl (giveUp p) (portEmptied s p)

/-- A link that has lost its packets. -/
def Lost (s : State) (n : Nat) : Prop := (lk s n).sent = [] ∧ (lk s n).replay = 0 ∧ outQ s n = [] ∧ lstate s n ≠ 5

theorem portLost_own (hn : n < 32) (hs : lstate s n ≠ 5) : Lost (portLost s n) n := by
  have home : portHome n = n := if_pos hn
  obtain ⟨only, out⟩ := givenUp_keeps n hn ((lk s (portHome n)).sent.map (·.k) ++ (outQ s n).map (·.k)) (portEmptied s n) hs
  have record : lk (portLost s n) n = { lk s n with sent := [], unsent := 0, replay := 0 } := by
    rw [portLost, only.lk, portEmptied, home, lk_putLk_same]
  refine ⟨by rw [record], by rw [record], out.trans (outQ_putOut_same _ _ _), ?_⟩
  rw [portLost, only.lstate]
  exact hs

theorem portLost_other {p : Nat} (hn : n < 32) (hp : n ≠ p) (hh : n ≠ portHome p) (h : Lost s n) : Lost (portLost s p) n := by
  obtain ⟨sent, replay, out, state⟩ := h
  obtain ⟨only, kept⟩ := givenUp_keeps p hn ((lk s (portHome p)).sent.map (·.k) ++ (outQ s p).map (·.k)) (portEmptied s p) state
  have record : lk (portLost s p) n = lk s n := by rw [portLost, only.lk, portEmptied, lk_putLk_ne _ _ hh]; rfl
  refine ⟨by rw [record, sent], by rw [record, replay], kept.trans ((outQ_putOut_ne _ _ hp).trans out), ?_⟩
  rw [portLost, only.lstate]
  exact state

/-- 12 R269: what a failed link was to carry is given up, and with a bond's last link what the bond was to. -/
theorem linkFailure_loses {l : Fin 32} (down : trained s l.val = false) (on : lstate s l.val ≠ 0) :
    Gives (.linkFailureTimeout l) s fun t => Lost t l.val := by
  have inactive : lstate s l.val ≠ 5 := fun e => by
    rw [trained, e] at down
    cases down
  have run : exec (.linkFailureTimeout l) s = .next ((failedPorts s l.val).foldl portLost s) :=
    congrArg Host.Outcome.next (if_neg (by rw [down, beq_eq_false_iff_ne.mpr on]; decide))
  have own := portLost_own l.isLt inactive
  refine ⟨_, run, ?_⟩
  unfold failedPorts
  dsimp only
  split
  · rename_i bond
    have far : 32 ≤ 31 + (lk s l.val).bond ∧ 31 + (lk s l.val).bond < 40 := by
      simp only [Bool.and_eq_true, decide_eq_true_eq] at bond
      omega
    have home : portHome (31 + (lk s l.val).bond) = 31 + (lk s l.val).bond + 2 := by
      rw [portHome, if_neg (by omega), if_pos far.2]
    exact portLost_other l.isLt (by omega) (by rw [home]; omega) own
  · exact own

end

/-! ### O37 -/

/-- Settles O37: packets that the router passes on, marks corrupt, or gives up. -/
theorem routerPackets : Obligations.RouterPackets := by
  intro s l m k p remain
  refine ⟨fun up free => forward_goes up free, forward_mirror, fun up session => ⟨tail_good, fun p es e fs => tail_bad up session⟩,
    legacyTimeout_drops, fun down on => ?_⟩
  obtain ⟨t, run, sent, replay, out, -⟩ := linkFailure_loses down on
  exact ⟨t, run, sent, replay, fun _ _ => out⟩

end Sys2Proof.Machine
end

section
/-! The fabric links family (spec 12, 14): node IDs, TIME packets, and the choice of a grandmaster (O42). -/

namespace Sys2Proof.Machine

/-! ### What the choice of a grandmaster leaves alone (14 R301, R302) -/

/-- The fields of EP_TSTAT that the choice changes. -/
def timeFields : List Fld := [F.EP_TSTAT_STATE, F.EP_TSTAT_UPLINK, F.EP_TSTAT_STEPS, F.EP_TSTAT_GMNODE]

/-- `t` is `s` but for those, interrupts, records, and what the servo still has to remove. -/
structure OnlyTime (s t : State) : Prop where
  rest : { t with flds := s.flds, icCommit := s.icCommit, icPulse := s.icPulse, dregs := s.dregs,
                  ep := { t.ep with slew := s.ep.slew, good := s.ep.good } } = s
  fl : FieldsKept (noteField timeFields) s t

namespace OnlyTime
variable {s t u : State}

theorem refl (s : State) : OnlyTime s s := ⟨rfl, .of_flds rfl⟩

theorem trans (h : OnlyTime s t) (h' : OnlyTime t u) : OnlyTime s u :=
  ⟨by have h1 := h.rest; rw [← h'.rest] at h1; exact h1, h.fl.trans h'.fl⟩

theorem ite {c : Prop} [Decidable c] (ht : OnlyTime s t) (hu : OnlyTime s u) : OnlyTime s (if c then t else u) := by
  split
  · exact ht
  · exact hu

theorem mem (h : OnlyTime s t) : t.mem = s.mem := by
  have e := congrArg State.mem h.rest
  exact e

theorem heard (h : OnlyTime s t) : t.ep.heard = s.ep.heard := by
  have e := congrArg (fun v : State => v.ep.heard) h.rest
  exact e

theorem setF (h : OnlyTime s t) {f : Fld} (i v : Nat) (hf : noteField timeFields f = true) : OnlyTime s (t.setF f i v) :=
  ⟨h.rest, h.fl.setF (noteField_byId _) _ _ hf⟩

theorem raiseSource (h : OnlyTime s t) (n : Nat) : OnlyTime s (raiseSource t n) :=
  have frame := raiseSource_frame t n
  h.trans ⟨congrArg (fun v : State => { v with dregs := t.dregs, ep := { v.ep with slew := t.ep.slew, good := t.ep.good } })
    frame.rest, fun f i hf => frame.fl f i (icField_of_dregsField f (dregsField_of_noteField f hf))⟩

theorem dregs (h : OnlyTime s t) (source cls code detail : Nat) : OnlyTime s (dregs t source cls code detail) :=
  have frame := dregs_frame t source cls code detail
  h.trans ⟨congrArg (fun v : State => { v with ep := { v.ep with slew := t.ep.slew, good := t.ep.good } })
    frame.rest, fun f i hf => frame.fl f i (dregsField_of_noteField f hf)⟩

theorem servoed (h : OnlyTime s t) (slew : Int) (good : Nat) :
    OnlyTime s { t with ep := { t.ep with slew := slew, good := good } } := ⟨h.rest, h.fl⟩

theorem setTime (h : OnlyTime s t) (st : Nat) : OnlyTime s (setTime t st) := by
  have ended : OnlyTime s (if st = tHoldover ∨ st = tGrandmaster then endSlew t else t) := .ite (h.servoed 0 t.ep.good) h
  exact .ite h (((ended.setF _ _ rfl).raiseSource _).dregs _ _ _ _)

theorem setGm (h : OnlyTime s t) (node : Nat) : OnlyTime s (setGm t node) := .ite h ((h.setF _ _ rfl).raiseSource _)

theorem timeChoose (h : OnlyTime s t) : OnlyTime s (timeChoose t) := by
  have chosen (up steps : Nat) := (h.setF (f := F.EP_TSTAT_UPLINK) 0 up rfl).setF (f := F.EP_TSTAT_STEPS) 0 steps rfl
  refine .ite (((chosen _ _).setGm _).setTime _) ?_
  split
  · have heard (up steps node : Nat) := (chosen up steps).setGm node
    exact .ite (heard _ _ _) (((heard _ _ _).servoed _ 0).setTime _)
  · exact .ite h (h.setTime _)

end OnlyTime

/-! ### The state of fabric time (14 R302) -/

section
variable {s : State} {st : Nat}

theorem raiseSource_tstat (s : State) (n : Nat) : (raiseSource s n).fl F.EP_TSTAT_STATE 0 = s.fl F.EP_TSTAT_STATE 0 :=
  (raiseSource_frame s n).fl _ _ rfl

theorem setTime_state (h : st < 8) : (setTime s st).fl F.EP_TSTAT_STATE 0 = st := by
  have fits : st % 2 ^ F.EP_TSTAT_STATE.width = st := Nat.mod_eq_of_lt h
  unfold setTime
  split
  · assumption
  · dsimp only
    rw [(dregs_frame _ _ _ _ _).fl _ _ rfl, raiseSource_tstat, State.fl_setF_same, fits]

/-- Where time goes on at the rate of its upstream, the servo is as it was. -/
theorem setTime_ep (h : ¬ (st = tHoldover ∨ st = tGrandmaster)) : (setTime s st).ep = s.ep := by
  unfold setTime
  split
  · rfl
  · dsimp only
    rw [dregs_ep, raiseSource_ep]
    rfl

end

/-! ### Node IDs (12 R271) -/

section
variable {s : State} {q : Requester} {v : Word}

theorem nodeid_reg (s : State) : target s 0xE01000000 = .reg :=
  target_reg s (0xE01000000, 0xE02FFFFFF) (by decide) ⟨by decide, by decide⟩

theorem nodeidWrite_eq (s : State) (q : Requester) (off : Nat) (v : Word) : nodeidWrite s (.full q off v) =
    (nodeidPut s (bitsOf v F.NG_NODEID_ID)).getD (ignoreWarn s (.full q off v)) := by
  rw [nodeidWrite, Wr.touches_full _ _ _ _ (by decide), if_pos rfl, Wr.new_full _ _ _ _ _ _ (by decide)]

/-- The choice that follows leaves the node ID that has been put. -/
theorem nodeid_put (s : State) (v : Word) :
    (timeChoose (s.setF F.NG_NODEID_ID 0 (bitsOf v F.NG_NODEID_ID))).fl F.NG_NODEID_ID 0 = bitsOf v F.NG_NODEID_ID := by
  rw [(OnlyTime.refl _).timeChoose.fl _ _ rfl, State.fl_setF_same, bitsOf_mod]

theorem nodeid_assigns (ho : openAt s 0xE01000000) (hid : bitsOf v F.NG_NODEID_ID < 0x3FFFE) (hu : s.fl F.NG_NODEID_ID 0 = 0x3FFFE) :
    Gives (.ngNodeidWrite q v) s fun t => t.fl F.NG_NODEID_ID 0 = bitsOf v F.NG_NODEID_ID ∧ t.mem = s.mem := by
  obtain ⟨t, power, run⟩ := rowWrite_open (nodeid_reg s) ho q v nodeidWrite
  rw [nodeidWrite_eq, nodeidPut_assigns ((power.fl _ _).trans hu) hid] at run
  exact ⟨_, run, nodeid_put t v, ((OnlyTime.refl _).timeChoose.mem).trans power.mem⟩

theorem nodeid_keeps (ho : openAt s 0xE01000000) (hid : bitsOf v F.NG_NODEID_ID < 0x3FFFE) (ha : s.fl F.NG_NODEID_ID 0 ≠ 0x3FFFE) :
    Gives (.ngNodeidWrite q v) s fun t => t.fl F.NG_NODEID_ID 0 = s.fl F.NG_NODEID_ID 0 := by
  obtain ⟨t, power, run⟩ := rowWrite_open (nodeid_reg s) ho q v nodeidWrite
  have refused : nodeidPut t (bitsOf v F.NG_NODEID_ID) = none :=
    (if_neg (by omega)).trans (if_pos (.inr (by rw [power.fl]; exact ha)))
  rw [nodeidWrite_eq, refused] at run
  exact ⟨_, run, ((dregs_frame t _ _ _ _).fl _ _ rfl).trans (power.fl _ _)⟩

theorem nodeid_unassigns (ho : openAt s 0xE01000000) (hid : bitsOf v F.NG_NODEID_ID = 0x3FFFE) :
    Gives (.ngNodeidWrite q v) s fun t => t.fl F.NG_NODEID_ID 0 = 0x3FFFE := by
  obtain ⟨t, power, run⟩ := rowWrite_open (nodeid_reg s) ho q v nodeidWrite
  have put : nodeidPut t (bitsOf v F.NG_NODEID_ID) = some (timeChoose (t.setF F.NG_NODEID_ID 0 (bitsOf v F.NG_NODEID_ID))) :=
    if_pos hid
  rw [nodeidWrite_eq, put] at run
  exact ⟨_, run, (nodeid_put t v).trans hid⟩

/-- 14 R301: EP_TCFG. -/
theorem tcfg_replaces (ho : openAt s 0xE00500028) (hm : isMachine s q = true) : Gives (.epTcfgWrite q v) s fun t =>
    ∀ f ∈ [F.EP_TCFG_GMPRIO, F.EP_TCFG_SYNCINT, F.EP_TCFG_STEPLIM], t.fl f 0 = bitsOf v f := by
  have reg : target s 0xE00500028 = .reg := target_reg s (0xE00000000, 0xE008FFFFF) (by decide) ⟨by decide, by decide⟩
  obtain ⟨t, power, run⟩ := rowWrite_open reg ho q v tcfgTimeWrite
  have may : isMachine t q = true := (isMachine_congr power.cpus q).trans hm
  rw [tcfgTimeWrite, atMachine_of may] at run
  refine ⟨_, run, fun f hf => ?_⟩
  have kept : ∀ f ∈ [F.EP_TCFG_GMPRIO, F.EP_TCFG_SYNCINT, F.EP_TCFG_STEPLIM], noteField timeFields f = false ∧ replaced f = true := by
    decide
  rw [(OnlyTime.refl _).timeChoose.fl _ _ (kept f hf).1]
  exact putFields_replaces (by decide) hf (kept f hf).2

end

/-! ### A grandmaster that is lost (14 R301, R304) -/

section
variable {s : State}

/-- An ANNOUNCE, or none, is what link `n` has heard. -/
def hear (s : State) (n : Nat) (a : Ann) : State := { s with ep := { s.ep with heard := mset {} s.ep.heard n a } }

theorem hear_chosen (s : State) (n : Nat) (a : Ann) :
    mget {} (timeChoose (hear s n a)).ep.heard n = a ∧ (timeChoose (hear s n a)).mem = s.mem := by
  have only := (OnlyTime.refl (hear s n a)).timeChoose
  refine ⟨?_, only.mem⟩
  rw [only.heard]
  exact mget_mset_same ({} : Ann) s.ep.heard n a

theorem gptp_loses (h : s.fl F.EP_ASCFG_MODE 0 = 2) : Gives .gptpPeerLoss s fun t =>
    t.fl F.EP_TSTAT_STATE 0 = 3 ∧ signalled s t 196 ∧ t.mem = s.mem := by
  have held := (OnlyTime.refl s).setTime tHoldover
  refine ⟨_, congrArg Host.Outcome.next (if_pos h), (raiseSource_tstat _ _).trans (setTime_state (by decide)),
    fun edge prio => raiseSource_signalled _ _ ?_ ?_, (held.raiseSource 196).mem⟩
  · rw [held.fl.fb _ _ rfl, edge]
  · rw [held.fl _ _ rfl]
    exact prio

theorem hasUpstream_of (h : s.fl F.EP_TSTAT_STATE 0 = 1 ∨ s.fl F.EP_TSTAT_STATE 0 = 2 ∨ s.fl F.EP_TSTAT_STATE 0 = 4) :
    hasUpstream s = true := by
  rcases h with h | h | h <;> rw [hasUpstream, h] <;> rfl

theorem grandmaster_forgotten
    (h : s.fl F.EP_TSTAT_STATE 0 = 1 ∨ s.fl F.EP_TSTAT_STATE 0 = 2 ∨ s.fl F.EP_TSTAT_STATE 0 = 4) :
    Gives .grandmasterLoss s fun t => mget {} t.ep.heard (s.fl F.EP_TSTAT_UPLINK 0) = {} ∧ t.mem = s.mem :=
  have ⟨heard, mem⟩ := hear_chosen s (s.fl F.EP_TSTAT_UPLINK 0) {}
  ⟨timeChoose (hear s (s.fl F.EP_TSTAT_UPLINK 0) {}), congrArg Host.Outcome.next (if_pos (hasUpstream_of h)), heard, mem⟩

end

/-! ### A TIME packet that arrives (12 R246, R267; 14 R299) -/

section
variable {s : State} {n : Nat}

theorem timeCounted_kept (s : State) (n : Nat) : FieldsKept countField s (timeCounted s n) := fun f i hf =>
  ((countEvent_frame _ _ _ _).fl f i hf).trans (State.fl_congr (leaveBuffer_flds s n blankPacket) f i)

theorem timeCounted_links (s : State) (n : Nat) : (timeCounted s n).links = (leaveBuffer s n blankPacket).links :=
  countEvent_links _ _ _ _

theorem timeCounted_ep (s : State) (n : Nat) : (timeCounted s n).ep = s.ep := (countEvent_ep _ _ _ _).trans rfl
theorem timeCounted_mem (s : State) (n : Nat) : (timeCounted s n).mem = s.mem := (countEvent_mem _ _ _ _).trans rfl
theorem timeCounted_router (s : State) (n : Nat) : (timeCounted s n).router = s.router := (countEvent_router _ _ _ _).trans rfl

theorem timeLink_counted (s : State) (n m : Nat) : timeLink (timeCounted s n) m = timeLink s m := by
  have kept := timeCounted_kept s n
  rw [timeLink, timeLink, linkCap, linkCap, linkVer, linkVer, kept.lstate rfl rfl, kept F.NG_LINKSTAT_CAP _ rfl,
    kept F.NG_LINKSTAT_VERSION _ rfl, kept F.NG_POLICY_LEGACY_TRUST _ rfl]

theorem timeLink_trained (h : timeLink s n = true) : trained s n = true := by
  have up := (Bool.and_eq_true_iff.mp (Bool.and_eq_true_iff.mp h).1).1
  rw [trained, up]
  rfl

theorem onTimeLink_counts (h : timeLink s n = true) (src : Nat) (f : State → State) : onTimeLink s n src f =
    if !reversePath (timeCounted s n) n src then countDrop (denyCount (timeCounted s n) n) else f (timeCounted s n) :=
  (if_neg (by rw [timeLink_trained h]; decide)).trans (if_neg (by rw [timeLink_counted, h]; decide))

theorem onTimeLink_takes (h : timeLink s n = true) {src : Nat} (source : reversePath (timeCounted s n) n src = true)
    (f : State → State) : onTimeLink s n src f = f (timeCounted s n) :=
  (onTimeLink_counts h src f).trans (if_neg (by rw [source]; decide))

/-- The packet counts in the session of its link. -/
theorem timeCounted_rxCount (s : State) (n : Nat) :
    (lk (timeCounted s n) (sessHome s n)).rxCount = (lk s (sessHome s n)).rxCount + 1 := by
  let u := putLk s (sessHome s n) { lk s (sessHome s n) with rxCount := (lk s (sessHome s n)).rxCount + 1 }
  have left (b : Nat) (x : Link) (hx : x.rxCount = (lk u b).rxCount) :
      (lk (putLk u b x) (sessHome s n)).rxCount = (lk s (sessHome s n)).rxCount + 1 := by
    have own : lk u (sessHome s n) = { lk s (sessHome s n) with rxCount := (lk s (sessHome s n)).rxCount + 1 } := lk_putLk_same _ _ _
    by_cases hb : sessHome s n = b
    · rw [← hb, lk_putLk_same, hx, ← hb, own]
    · rw [lk_putLk_ne _ _ hb, own]
  rw [lk_congr (timeCounted_links s n)]
  exact left (homeOf u n) _ rfl

theorem egress_congr {t : State} (hb : t.fb F.NG_LINKSTAT_BONDED n = s.fb F.NG_LINKSTAT_BONDED n)
    (hl : (lk t n).bond = (lk s n).bond) : egress t n = egress s n := by rw [egress, egress, bondOf_congr hb hl]

theorem leaveBuffer_bond (s : State) (n : Nat) (k : Packet) (m : Nat) : (lk (leaveBuffer s n k) m).bond = (lk s m).bond := by
  let u := putLk s (sessHome s n) { lk s (sessHome s n) with rxCount := (lk s (sessHome s n)).rxCount + 1 }
  have first : (lk u m).bond = (lk s m).bond := lk_putLk_bond
    (x := { lk s (sessHome s n) with rxCount := (lk s (sessHome s n)).rxCount + 1 }) rfl m
  have left (b : Nat) (x : Link) (hx : x.bond = (lk u b).bond) : (lk (putLk u b x) m).bond = (lk s m).bond :=
    (lk_putLk_bond hx m).trans first
  exact left (homeOf u n) _ rfl

theorem egress_timeCounted (s : State) (n m : Nat) : egress (timeCounted s n) m = egress s m :=
  egress_congr ((timeCounted_kept s n).fb _ _ rfl) (by rw [lk_congr (timeCounted_links s n), leaveBuffer_bond])

end

/-! ### SYNC (14 R299, R302) -/

/-- A SYNC from link `n` is counted, and its offset is the one measured last. -/
def syncMeasured (s : State) (n : Nat) (x : Int) : State := (timeCounted s n).setF F.EP_TSTAT_OFFSET 0 (offsetField x)

/-- Fabric time follows its upstream in state `st`, with `good` SYNCs within 2 ns. -/
def timeGoes (t : State) (good st : Nat) : State := setTime { t with ep := { t.ep with good := good } } st

/-- The limit of an offset that is slewed, in ns. -/
def stepLimit (s : State) : Int := (max 1 (s.fl F.EP_TCFG_STEPLIM 0) * 1000 : Nat)

section
variable {s : State} {n : Nat} {x : Int}

theorem syncMeasured_fl {f : Fld} (hf : countField f = false) (ho : F.EP_TSTAT_OFFSET.id ≠ f.id) (i : Nat) :
    (syncMeasured s n x).fl f i = s.fl f i := (State.fl_setF_id _ _ _ _ ho).trans (timeCounted_kept s n f i hf)

theorem syncMeasured_ep : (syncMeasured s n x).ep = s.ep := timeCounted_ep s n

theorem offsetField_lt (x : Int) : offsetField x < 2 ^ F.EP_TSTAT_OFFSET.width := (BitVec.ofInt 24 _).isLt

theorem syncMeasured_offset : (syncMeasured s n x).fl F.EP_TSTAT_OFFSET 0 = offsetField x :=
  (State.fl_setF_same _ _ _ _).trans (Nat.mod_eq_of_lt (offsetField_lt x))

theorem syncMeasured_limit : stepLimit (syncMeasured s n x) = stepLimit s := by
  rw [stepLimit, stepLimit, syncMeasured_fl (by decide) (by decide)]

theorem syncMeasured_epochOn : (syncMeasured s n x).epochOn = s.epochOn := by
  rw [State.epochOn, State.epochOn, State.fb, State.fb, syncMeasured_fl (by decide) (by decide)]

theorem timeGoes_gives (t : State) (good : Nat) {st : Nat} (h : st = 1 ∨ st = 2 ∨ st = 4) :
    (timeGoes t good st).fl F.EP_TSTAT_STATE 0 = st ∧ (timeGoes t good st).ep = { t.ep with good := good } ∧
    (timeGoes t good st).fl F.EP_TSTAT_OFFSET 0 = t.fl F.EP_TSTAT_OFFSET 0 ∧
    (timeGoes t good st).fl F.EP_NOW_VALUE 0 = t.fl F.EP_NOW_VALUE 0 := by
  have only := (OnlyTime.refl { t with ep := { t.ep with good := good } }).setTime st
  refine ⟨setTime_state (by omega), setTime_ep ?_, only.fl _ _ rfl, only.fl _ _ rfl⟩
  rw [tHoldover, tGrandmaster]
  omega

theorem servo_fl (t : State) (x : Int) (f : Fld) (i : Nat) : (servo t x).fl f i = t.fl f i := State.fl_congr rfl f i

section
variable {l : Fin 32} {src : BitVec 18} {offset stamp : BitVec 64}
  (time : timeLink s l.val = true ∧ reversePath (timeCounted s l.val) l.val src.toNat = true)
  (follows : s.fl F.EP_TSTAT_UPLINK 0 = l.val ∧
    (s.fl F.EP_TSTAT_STATE 0 = 1 ∨ s.fl F.EP_TSTAT_STATE 0 = 2 ∨ s.fl F.EP_TSTAT_STATE 0 = 4))
include time follows

/-- A SYNC of the upstream: what its offset makes of fabric time. -/
theorem sync_run : exec (.timeSync l src offset stamp) s = .next (
    let t := syncMeasured s l.val offset.toInt
    if stepLimit t < offset.toInt ∨ offset.toInt < -stepLimit t then
      if t.epochOn then timeGoes (servo t offset.toInt) 0 tFar
      else timeGoes (stepTime t (stamp.toNat + t.fl F.NG_LINKSTAT_DELAY l.val)) 0 tAcquire
    else if -2 ≤ offset.toInt ∧ offset.toInt ≤ 2 then
      let u : State := { servo t offset.toInt with ep := { (servo t offset.toInt).ep with good := min 16 (t.ep.good + 1) } }
      if u.ep.good = 16 then setTime u tLocked
      else if (timeCounted s l.val).fl F.EP_TSTAT_STATE 0 = tFar then setTime u tAcquire else u
    else timeGoes (servo t offset.toInt) 0 tAcquire) := by
  have kept := timeCounted_kept s l.val
  have followed : ¬ ((timeCounted s l.val).fl F.EP_TSTAT_UPLINK 0 ≠ l.val ∨
      ((timeCounted s l.val).fl F.EP_TSTAT_STATE 0 ≠ tAcquire ∧ (timeCounted s l.val).fl F.EP_TSTAT_STATE 0 ≠ tLocked ∧
        (timeCounted s l.val).fl F.EP_TSTAT_STATE 0 ≠ tFar)) := by
    rw [kept F.EP_TSTAT_UPLINK _ rfl, kept F.EP_TSTAT_STATE _ rfl, tAcquire, tLocked, tFar]
    omega
  exact congrArg Host.Outcome.next ((onTimeLink_takes time.1 time.2 _).trans (if_neg followed))

omit time follows in
theorem stepLimit_pos (s : State) : 1000 ≤ stepLimit s := by
  rw [stepLimit]
  omega

/-- The sixteenth successive SYNC within 2 ns: LOCKED. -/
theorem sync_locks (low : -2 ≤ offset.toInt) (high : offset.toInt ≤ 2) (good : 15 ≤ s.ep.good) :
    Gives (.timeSync l src offset stamp) s fun t => t.fl F.EP_TSTAT_STATE 0 = 2 ∧ t.ep.good = 16 ∧
      t.fl F.EP_TSTAT_OFFSET 0 = offsetField offset.toInt ∧ t.fl F.EP_NOW_VALUE 0 = s.fl F.EP_NOW_VALUE 0 := by
  have run := sync_run (offset := offset) (stamp := stamp) time follows
  have limit := stepLimit_pos s
  have sixteen : min 16 ((syncMeasured s l.val offset.toInt).ep.good + 1) = 16 := by rw [syncMeasured_ep]; omega
  dsimp only at run
  rw [syncMeasured_limit, if_neg (by omega), if_pos ⟨low, high⟩, sixteen, if_pos rfl] at run
  obtain ⟨state, ep, off, now⟩ := timeGoes_gives (servo (syncMeasured s l.val offset.toInt) offset.toInt) 16 (.inr (.inl rfl))
  refine ⟨_, run, state, congrArg Epochs.good ep, off.trans ?_, now.trans ?_⟩
  · rw [servo_fl, syncMeasured_offset]
  · rw [servo_fl, syncMeasured_fl (by decide) (by decide)]

/-- An offset beyond STEPLIM while epochs run: FAR. -/
theorem sync_far (far : stepLimit s < offset.toInt) (epochs : s.epochOn = true) :
    Gives (.timeSync l src offset stamp) s fun t => t.fl F.EP_TSTAT_STATE 0 = 4 ∧ t.ep.good = 0 ∧
      t.fl F.EP_NOW_VALUE 0 = s.fl F.EP_NOW_VALUE 0 := by
  have run := sync_run (offset := offset) (stamp := stamp) time follows
  dsimp only at run
  rw [syncMeasured_limit, if_pos (.inl far), syncMeasured_epochOn, if_pos epochs] at run
  obtain ⟨state, ep, off, now⟩ := timeGoes_gives (servo (syncMeasured s l.val offset.toInt) offset.toInt) 0 (.inr (.inr rfl))
  refine ⟨_, run, state, congrArg Epochs.good ep, now.trans ?_⟩
  rw [servo_fl, syncMeasured_fl (by decide) (by decide)]

/-- While none run one step removes it. -/
theorem sync_steps (far : stepLimit s < offset.toInt) (epochs : s.epochOn = false) :
    Gives (.timeSync l src offset stamp) s fun t => t.fl F.EP_TSTAT_STATE 0 = 1 ∧
      t.fl F.EP_NOW_VALUE 0 = (stamp.toNat + s.fl F.NG_LINKSTAT_DELAY l.val) % 2 ^ 64 := by
  have run := sync_run (offset := offset) (stamp := stamp) time follows
  dsimp only at run
  rw [syncMeasured_limit, if_pos (.inl far), syncMeasured_epochOn, epochs, if_neg Bool.false_ne_true,
    syncMeasured_fl (f := F.NG_LINKSTAT_DELAY) (by decide) (by decide)] at run
  obtain ⟨state, ep, off, now⟩ := timeGoes_gives
    (stepTime (syncMeasured s l.val offset.toInt) (stamp.toNat + s.fl F.NG_LINKSTAT_DELAY l.val)) 0 (.inl rfl)
  exact ⟨_, run, state, now.trans (State.fl_setF_same _ _ _ _)⟩

/-- Another offset is slewed: ACQUIRE. -/
theorem sync_acquires (high : 2 < offset.toInt) (near : offset.toInt ≤ stepLimit s) :
    Gives (.timeSync l src offset stamp) s fun t => t.fl F.EP_TSTAT_STATE 0 = 1 ∧ t.ep.good = 0 ∧
      t.ep.slew = offset.toInt * 2 ^ 32 ∧ t.fl F.EP_NOW_VALUE 0 = s.fl F.EP_NOW_VALUE 0 := by
  have run := sync_run (offset := offset) (stamp := stamp) time follows
  have limit := stepLimit_pos s
  dsimp only at run
  rw [syncMeasured_limit, if_neg (by omega), if_neg (by omega)] at run
  obtain ⟨state, ep, off, now⟩ := timeGoes_gives (servo (syncMeasured s l.val offset.toInt) offset.toInt) 0 (.inl rfl)
  refine ⟨_, run, state, congrArg Epochs.good ep, congrArg Epochs.slew ep, now.trans ?_⟩
  rw [servo_fl, syncMeasured_fl (by decide) (by decide)]

end

theorem sync_strange {l : Fin 32} {src : BitVec 18} {offset stamp : BitVec 64} (time : timeLink s l.val = true)
    (strange : reversePath (timeCounted s l.val) l.val src.toNat = false) :
    exec (.timeSync l src offset stamp) s = .next (countDrop (denyCount (timeCounted s l.val) l.val)) :=
  congrArg Host.Outcome.next ((onTimeLink_counts time _ _).trans (if_pos (by rw [strange]; rfl)))

end

end Sys2Proof.Machine
end

section
/-! The fabric links family (spec 14): TIME packets that this device sends, and the settlement of O42. -/

namespace Sys2Proof.Machine

/-! ### TIME packets that leave (14 R299, R301) -/

/-- A TIME packet for the neighbour on link `n`, as it is queued. -/
def timeEntry (s : State) (n sub : Nat) (payload : List Byte) : QPkt :=
  ⟨{ blankPacket with cmd := 9, sub := BitVec.ofNat 4 sub, dst := 0x3FFFF, src := BitVec.ofNat 18 (ownNode s), tag := 0xC000,
                      len := BitVec.ofNat 13 payload.length, deadline := BitVec.ofNat 64 (2 ^ 64 - 1), payload := payload },
    0, fabNow s, false, some n⟩

/-- The device's time, its node ID and the ports by which it sends are those of `s`. -/
structure SameTime (s t : State) : Prop where
  flds : t.flds = s.flds
  links : t.links = s.links

section
variable {s t : State} {n : Nat}

theorem SameTime.entry (h : SameTime s t) (n sub : Nat) (payload : List Byte) :
    timeEntry t n sub payload = timeEntry s n sub payload := by
  rw [timeEntry, timeEntry, ownNode, ownNode, fabNow, fabNow, State.fl_congr h.flds, State.fl_congr h.flds]

theorem SameTime.egress (h : SameTime s t) (n : Nat) : egress t n = egress s n :=
  egress_congr (State.fb_congr h.flds _ _) (by rw [lk_congr h.links])

theorem sendTime_eq (s : State) (n sub : Nat) (payload : List Byte) : sendTime s n sub payload =
    putOut s (egress s n) (outQ s (egress s n) ++ [timeEntry s n sub payload]) := rfl

theorem SameTime.sendTime (h : SameTime s t) (n sub : Nat) (payload : List Byte) : SameTime s (sendTime t n sub payload) :=
  ⟨h.flds, h.links⟩

/-- A TIME packet joins the queue by which its link's packets leave, and no other. -/
theorem outQ_sendTime (h : SameTime s t) (n sub : Nat) (payload : List Byte) (p : Nat) :
    outQ (Machine.sendTime t n sub payload) p = outQ t p ++ if egress s n = p then [timeEntry s n sub payload] else [] := by
  rw [sendTime_eq, h.entry, h.egress]
  split
  · rename_i e
    rw [e, outQ_putOut_same]
  · rename_i e
    rw [outQ_putOut_ne _ _ (Ne.symm e), List.append_nil]

/-- TIME packets, each with its SUB and payload, for the neighbour on link `n`. -/
def sendTimes (ks : List (Nat × List Byte)) (s : State) (n : Nat) : State := ks.foldl (fun s k => sendTime s n k.1 k.2) s

theorem sendTimes_same (ks : List (Nat × List Byte)) (h : SameTime s t) : SameTime s (sendTimes ks t n) ∧
    ∀ p, outQ (sendTimes ks t n) p = outQ t p ++ if egress s n = p then ks.map fun k => timeEntry s n k.1 k.2 else [] := by
  induction ks generalizing t with
  | nil =>
    refine ⟨h, fun p => ?_⟩
    rw [List.map_nil, ite_self, List.append_nil]
    rfl
  | cons k ks ih =>
    obtain ⟨same, out⟩ := ih (h.sendTime n k.1 k.2)
    refine ⟨same, fun p => (out p).trans ?_⟩
    rw [outQ_sendTime h]
    split
    · rw [List.append_assoc]
      rfl
    · rw [List.append_nil]

/-- The links of a list each send those packets. -/
theorem timeLinks_send (ks : List (Nat × List Byte)) (ns : List Nat) (h : SameTime s t) :
    SameTime s (ns.foldl (sendTimes ks) t) ∧ ∀ p, outQ (ns.foldl (sendTimes ks) t) p =
      outQ t p ++ (ns.filter fun n => egress s n = p).flatMap fun n => ks.map fun k => timeEntry s n k.1 k.2 := by
  induction ns generalizing t with
  | nil => exact ⟨h, fun p => (List.append_nil _).symm⟩
  | cons n ns ih =>
    obtain ⟨one, sent⟩ := sendTimes_same (n := n) ks h
    obtain ⟨same, out⟩ := ih one
    refine ⟨same, fun p => (out p).trans ?_⟩
    rw [sent p, List.filter_cons]
    by_cases e : egress s n = p
    · rw [if_pos e, if_pos (decide_eq_true e), List.flatMap_cons, List.append_assoc]
    · rw [if_neg e, if_neg (by rw [decide_eq_true_eq]; exact e), List.append_nil]

/-- A link that alone sends by its port is all that is left of a list of links for that port. -/
theorem filter_sole {ns : List Nat} {m : Nat} (nodup : ns.Nodup) (hm : m ∈ ns) (sole : ∀ k ∈ ns, egress s k = egress s m → k = m) :
    (ns.filter fun n => egress s n = egress s m) = [m] := by
  have only : (ns.filter fun n => egress s n = egress s m) = ns.filter (· == m) :=
    List.filter_congr fun k hk => by
      rw [Bool.eq_iff_iff, decide_eq_true_eq, beq_iff_eq]
      exact ⟨sole k hk, fun e => by rw [e]⟩
  rw [only, List.filter_beq, List.count_eq_one_of_mem nodup hm]
  rfl

end

section
variable {s : State}

/-- `t` has one packet more for the neighbour on link `n`, of a SUB, queued where the link's packets leave. -/
def AddsTime (s t : State) (n sub : Nat) : Prop :=
  ∃ k, outQ t (egress s n) = outQ s (egress s n) ++ [⟨k, 0, fabNow s, false, some n⟩] ∧ k.cmd = 9 ∧ k.sub.toNat = sub

theorem gptpExport_same (s : State) : SameTime s (gptpExport s) ∧ (gptpExport s).router = s.router := by
  unfold gptpExport
  dsimp only
  split <;> exact ⟨⟨rfl, rfl⟩, rfl⟩

theorem mem_timeLinks {m : Nat} (hm : m < 32) (ht : timeLink s m = true) : m ∈ timeLinks s :=
  List.mem_filter.mpr ⟨List.mem_range.mpr hm, ht⟩

theorem of_mem_timeLinks {m : Nat} (h : m ∈ timeLinks s) : m < 32 ∧ timeLink s m = true := by
  obtain ⟨hm, ht⟩ := List.mem_filter.mp h
  exact ⟨List.mem_range.mp hm, ht⟩

theorem timeLinks_nodup (s : State) : (timeLinks s).Nodup := List.nodup_range.filter _

/-- The links that bring no time to the device. -/
def downstream (s : State) : List Nat :=
  (timeLinks s).filter fun n => !hasUpstream s || n != s.fl F.EP_TSTAT_UPLINK 0

theorem mem_downstream {m : Nat} (hm : m < 32) (ht : timeLink s m = true)
    (hd : hasUpstream s = false ∨ m ≠ s.fl F.EP_TSTAT_UPLINK 0) : m ∈ downstream s := by
  refine List.mem_filter.mpr ⟨mem_timeLinks hm ht, ?_⟩
  rw [Bool.or_eq_true, Bool.not_eq_true', bne_iff_ne]
  exact hd

/-- 14 R299: a SYNC on each downstream link. -/
theorem sync_sends : Gives .syncInterval s fun t =>
    (∀ m, m < 32 → timeLink s m = true → (∀ m', m' < 32 → timeLink s m' = true → egress s m' = egress s m → m' = m) →
      hasUpstream s = false ∨ m ≠ s.fl F.EP_TSTAT_UPLINK 0 → AddsTime s t m 0) ∧ t.flds = s.flds ∧
    ∀ m, m < 32 → timeLink s m = true → hasUpstream s = false ∨ m ≠ s.fl F.EP_TSTAT_UPLINK 0 →
      ∃ e ∈ outQ t (egress s m), e.lane = some m ∧ e.since = fabNow s ∧ e.k.cmd = 9 ∧ e.k.sub.toNat = 0 := by
  obtain ⟨exported, router⟩ := gptpExport_same s
  obtain ⟨same, out⟩ := timeLinks_send [(0, natBytes 0 8)] (downstream s) exported
  have run : exec .syncInterval s = .next ((downstream s).foldl (sendTimes [(0, natBytes 0 8)]) (gptpExport s)) := rfl
  refine ⟨_, run, fun m hm ht sole hd => ?_, same.flds, fun m hm ht hd => ?_⟩
  · refine ⟨(timeEntry s m 0 (natBytes 0 8)).k, ?_, rfl, rfl⟩
    have others : ∀ k ∈ downstream s, egress s k = egress s m → k = m := fun k hk =>
      have ⟨hk32, hkt⟩ := of_mem_timeLinks (List.mem_filter.mp hk).1
      sole k hk32 hkt
    rw [out, outQ_congr router, filter_sole (ns := downstream s) ((timeLinks_nodup s).filter _) (mem_downstream hm ht hd) others]
    rfl
  · refine ⟨timeEntry s m 0 (natBytes 0 8), ?_, rfl, rfl, rfl, rfl⟩
    rw [out]
    refine List.mem_append_right _ (List.mem_flatMap.mpr ⟨m, List.mem_filter.mpr ⟨mem_downstream hm ht hd, by simp⟩, ?_⟩)
    exact List.mem_singleton_self _

/-- The body of the ANNOUNCE that the device sends. -/
def announceBody (s : State) : List Byte :=
  natBytes (s.fl F.EP_TSTAT_GMNODE 0) 4 ++ natBytes (gmInfo s).1 4 ++ natBytes (s.fl F.EP_TSTAT_STEPS 0) 4
    ++ natBytes (b2n (gmInfo s).2) 4

/-- 14 R299, R301: a DELAY_REQ and an ANNOUNCE on each link. -/
theorem announce_sends : Gives .announceInterval s fun t =>
    (∀ m, m < 32 → timeLink s m = true → (∀ m', m' < 32 → timeLink s m' = true → egress s m' = egress s m → m' = m) →
      (outQ t (egress s m)).length = (outQ s (egress s m)).length + 2) ∧ t.flds = s.flds := by
  obtain ⟨same, out⟩ := timeLinks_send [(1, []), (3, announceBody s)] (timeLinks s) ⟨rfl, rfl⟩
  have run : exec .announceInterval s = .next ((timeLinks s).foldl (sendTimes [(1, []), (3, announceBody s)]) s) := rfl
  refine ⟨_, run, fun m hm ht sole => ?_, same.flds⟩
  have others : ∀ k ∈ timeLinks s, egress s k = egress s m → k = m := fun k hk =>
    have ⟨hk32, hkt⟩ := of_mem_timeLinks hk
    sole k hk32 hkt
  rw [out, filter_sole (timeLinks_nodup s) (mem_timeLinks hm ht) others, List.length_append]
  rfl

/-- The measurements of a link's delay, and their mean. -/
def delayMean (s : State) (n : Nat) (ds : List Nat) : State :=
  { s with ep := { s.ep with delays := mset [] s.ep.delays n ds } }.setF F.NG_LINKSTAT_DELAY n (ds.sum / ds.length)

theorem delayMean_delays (s : State) (n : Nat) (ds : List Nat) : mget [] (delayMean s n ds).ep.delays n = ds := by
  have kept : (delayMean s n ds).ep.delays = mset [] s.ep.delays n ds := rfl
  rw [kept, mget_mset_same]

section
variable {l : Fin 32} {src : BitVec 18}
  (time : timeLink s l.val = true ∧ reversePath (timeCounted s l.val) l.val src.toNat = true)
include time

/-- 14 R299: a DELAY_REQ is answered. -/
theorem delayReq_answers : Gives (.timeDelayReq l src) s fun t => AddsTime s t l.val 2 ∧ t.mem = s.mem ∧
    (lk t (sessHome s l.val)).rxCount = (lk s (sessHome s l.val)).rxCount + 1 := by
  have run : exec (.timeDelayReq l src) s = .next (sendTime (timeCounted s l.val) l.val 2
      (natBytes (fabNow (timeCounted s l.val)) 8 ++ natBytes 0 8)) :=
    congrArg Host.Outcome.next (onTimeLink_takes time.1 time.2 _)
  have now : fabNow (timeCounted s l.val) = fabNow s := timeCounted_kept s l.val _ _ rfl
  refine ⟨_, run, ⟨(timeEntry (timeCounted s l.val) l.val 2 (natBytes (fabNow (timeCounted s l.val)) 8 ++ natBytes 0 8)).k, ?_,
    rfl, rfl⟩, timeCounted_mem s l.val, timeCounted_rxCount s l.val⟩
  rw [outQ_sendTime (s := timeCounted s l.val) ⟨rfl, rfl⟩, egress_timeCounted, if_pos rfl,
    outQ_congr (timeCounted_router s l.val), ← now]
  rfl

/-- 14 R299: the mean of the last 16 measurements is the link's DELAY. -/
theorem delayResp_means {oneWay : BitVec 20} : Gives (.timeDelayResp l src oneWay) s fun t =>
    mget [] t.ep.delays l.val = (oneWay.toNat :: mget [] s.ep.delays l.val).take 16 ∧
    t.fl F.NG_LINKSTAT_DELAY l.val = ((oneWay.toNat :: mget [] s.ep.delays l.val).take 16).sum /
      ((oneWay.toNat :: mget [] s.ep.delays l.val).take 16).length % 2 ^ 20 := by
  have run : exec (.timeDelayResp l src oneWay) s = .next (delayMean (timeCounted s l.val) l.val
      ((oneWay.toNat :: mget [] (timeCounted s l.val).ep.delays l.val).take 16)) :=
    congrArg Host.Outcome.next (onTimeLink_takes time.1 time.2 _)
  rw [timeCounted_ep] at run
  exact ⟨_, run, delayMean_delays _ _ _, State.fl_setF_same _ _ _ _⟩

/-- 14 R301: what a neighbour announces is heard. -/
theorem announce_heard {gm : BitVec 18} {prio steps : BitVec 8} {imports : Bool} :
    Gives (.timeAnnounce l src gm prio steps imports) s fun t => t.mem = s.mem ∧
      mget {} t.ep.heard l.val = if gm = 0x3FFFE then {} else ⟨true, gm.toNat, prio.toNat, steps.toNat, imports⟩ := by
  have run : exec (.timeAnnounce l src gm prio steps imports) s = .next (timeChoose (hear (timeCounted s l.val) l.val
      (if gm = 0x3FFFE then {} else ⟨true, gm.toNat, prio.toNat, steps.toNat, imports⟩))) :=
    congrArg Host.Outcome.next (onTimeLink_takes time.1 time.2 _)
  obtain ⟨heard, mem⟩ := hear_chosen (timeCounted s l.val) l.val
    (if gm = 0x3FFFE then {} else ⟨true, gm.toNat, prio.toNat, steps.toNat, imports⟩)
  exact ⟨_, run, mem.trans (timeCounted_mem s l.val), heard⟩

end

end

/-! ### O42 -/

/-- Settles O42: node IDs, and what each TIME packet and each loss makes of fabric time and of its grandmaster. -/
theorem fabricTime : Obligations.FabricTime := by
  intro s q l v offset stamp oneWay src gm prio steps imports
  exact ⟨nodeid_assigns, nodeid_keeps, nodeid_unassigns,
    fun time follows => ⟨sync_locks time follows, sync_far time follows, sync_steps time follows, sync_acquires time follows⟩,
    delayReq_answers, fun time => delayResp_means time, fun time => announce_heard time, sync_sends, announce_sends,
    sync_strange, grandmaster_forgotten, tcfg_replaces, gptp_loses⟩

end Sys2Proof.Machine
end

section
/-! The fabric packets family (spec 13): requests from a link, performed and answered at their destination, or refused (O38). -/

namespace Sys2Proof.Machine

/-! ### Delivery -/

theorem Comes.arrived_cmd {s : State} {l : Fin 34} {k : Packet} {c : Nat} (h : Comes s l k c) :
    (arrived s l.val k).cmd.toNat = c := by rw [(arrived_arrives s l.val k).cmd, h.cmd]

/-- `cmd` is the row that brings packet `k`, whose command is `c`, to this device by link `l`. -/
structure Brings (cmd : Instr) (s : State) (l : Fin 34) (k : Packet) (c : Nat) : Prop where
  comes : Comes s l k c
  runs : exec cmd s = linkRow s l k true

theorem Comes.brings {cmd : Instr} {s : State} {l : Fin 34} {k : Packet} {c : Nat} (h : Comes s l k c)
    (row : exec cmd s = linkRow s l k (k.cmd.toNat == c)) : Brings cmd s l k c :=
  ⟨h, by rw [row, h.cmd, beq_self_eq_true]⟩

section
variable {cmd : Instr} {s t : State} {l : Fin 34} {k : Packet} {c : Nat} (h : Brings cmd s l k c)
include h

theorem Brings.next (ht : deliver (turned s l.val k) (some l) (arrived s l.val k) = .ok () t) : exec cmd s = .next t := by
  rw [h.runs, linkRow_delivers h.comes rfl, ht]
  rfl

/-- 13 R286, R289: a request that is in time, and behind which none waits, is performed at once. -/
theorem Brings.performs (hc : c ∈ [pRead, pWrite, pAtomic, pMessage, pEvent]) (idle : (taking s l k).router.waiting = [])
    (ht : performRequest (taking s l k) (some l) (arrived s l.val k) = .ok () t) : exec cmd s = .next t := by
  have taken : deliver (turned s l.val k) (some l) (arrived s l.val k) =
      takeRequest (taking s l k) (some l) (arrived s l.val k) := by
    unfold deliver
    dsimp only
    rw [h.comes.arrived_cmd]
    simp only [List.mem_cons, List.not_mem_nil, or_false] at hc
    rcases hc with rfl | rfl | rfl | rfl | rfl <;> rfl
  have intime : requestFault (taking s l k) (arrived s l.val k) = none := h.comes.sound
  refine h.next (taken.trans ?_)
  simp only [takeRequest, intime, idle, List.all_nil, if_true, ht]

end

/-! ### Requests (13 R278, R279, R290 to R293) -/

/-- READ, WRITE and ATOMIC: the requests for an offset of the device. -/
def isAccess (k : Packet) : Bool := k.cmd.toNat == pRead || k.cmd.toNat == pWrite || k.cmd.toNat == pAtomic

/-- What is done with a request that a window has admitted. -/
def performAdmitted (s : State) (o : Origin) (k : Packet) : Res Unit :=
  if isAccess k then performAccess s o k else if k.cmd.toNat = pMessage then performMessage s k else performEvent s k

/-- For whom a request that link `l` brings is performed, once a window has given its type and partition. -/
def linkOrigin (l : Fin 34) (k : Packet) (ty part : Nat) : Origin :=
  ⟨1, some part, .fabric l k.src k.cmd (BitVec.ofNat 6 part), ty⟩

section
variable {s s3 t : State} {l : Fin 34} {k : Packet} (sub : subFault k = false)
  (access : isAccess k = true → accessFault s k (.fabric l k.src k.cmd k.part) = none)
include sub access

/-- A request that breaks no rule goes by what the windows decide. -/
theorem performRequest_admitted {ty part : Nat} (admits : admitPacket s l.val k = (.ok ty part, s3))
    (done : performAdmitted s3 (linkOrigin l k ty part) k = .ok () t) : performRequest s (some l) k = .ok () t := by
  have sound := ite_eq_right_iff.mpr access
  have own : admitted s (some l) k = (.ok (linkOrigin l k ty part), s3) := by rw [admitted, admits]; rfl
  unfold performAdmitted at done
  unfold isAccess at sound done
  simp only [performRequest, sub, sound, own, done, Bool.false_eq_true, if_false]

theorem performRequest_refused {code : Nat} (admits : admitPacket s l.val k = (.refuse code, s3)) :
    performRequest s (some l) k = .ok () (refuse s3 k code 0xFF) := by
  have sound := ite_eq_right_iff.mpr access
  have own : admitted s (some l) k = (.error code, s3) := by rw [admitted, admits]
  unfold isAccess at sound
  simp only [performRequest, sub, sound, own, Bool.false_eq_true, if_false]
  rfl

end

section
variable {s t : State} {o : Origin} {k : Packet}

theorem performAdmitted_read {bytes : List Byte} (hc : k.cmd.toNat = pRead)
    (done : requestRead s o k.addr.toNat k.len.toNat = .ok bytes t) :
    performAdmitted s o k = .ok () (answer t k pReadResp bytes) := by
  simp only [performAdmitted, isAccess, performAccess, hc, done]
  rfl

theorem performAdmitted_write (hc : k.cmd.toNat = pWrite) (done : requestWrite s o k.addr.toNat k.payload = .ok () t) :
    performAdmitted s o k = .ok () (if k.noack then t else answer t k pWriteAck []) := by
  simp only [performAdmitted, isAccess, performAccess, hc, done]
  rfl

theorem performAdmitted_atomic {old : Nat} (hc : k.cmd.toNat = pAtomic)
    (done : requestAtomic s o k.addr.toNat (if k.sub.getLsbD 2 then 8 else 4)
      (atomicFn k (if k.sub.getLsbD 2 then 8 else 4)) = .ok old t) :
    performAdmitted s o k = .ok () (answer t k pAtomicResp (natBytes old 8)) := by
  simp only [performAdmitted, isAccess, performAccess, hc, done]
  rfl

theorem performAdmitted_message (hc : k.cmd.toNat = pMessage) : performAdmitted s o k = performMessage s k := by
  simp only [performAdmitted, isAccess, hc]
  rfl

theorem performAdmitted_event (hc : k.cmd.toNat = pEvent) : performAdmitted s o k = performEvent s k := by
  simp only [performAdmitted, isAccess, hc]
  rfl

/-! ### MESSAGE and EVENT (13 R278, R296; 15 R331) -/

theorem performMessage_disabled (en : s.fb F.NG_RQCFG_EN (k.addr.toNat % 16) = false) :
    performMessage s k = .ok () (refuse s k rDenied 0xFF) := by
  refine if_pos (.inr (.inr (.inl ?_)))
  rw [en]
  rfl

/-- A MESSAGE for an enabled queue whose slots hold it goes by whether a slot is free. -/
theorem performMessage_enabled (short : k.payload.length ≤ 4096) (addr : k.addr.toNat < 16)
    (en : s.fb F.NG_RQCFG_EN (k.addr.toNat % 16) = true) (fits : rqFits s (k.addr.toNat % 16) k = true) :
    performMessage s k = if !rqFree s (k.addr.toNat % 16) then .ok () (refuse (setOverrun s (k.addr.toNat % 16)) k rBusy 0xFF)
      else fillSlot s (k.addr.toNat % 16) k := by
  have admissible : ¬ (16 ≤ k.addr.toNat ∨ 4096 < k.payload.length ∨ (!s.fb F.NG_RQCFG_EN (k.addr.toNat % 16)) = true ∨
      (!rqFits s (k.addr.toNat % 16) k) = true) := by
    rw [en, fits]
    simp only [Bool.not_true, Bool.false_eq_true, or_false]
    omega
  exact if_neg admissible

theorem performEvent_sets (hs : k.sub ≠ 1) (addr : k.addr.toNat < 64) :
    performEvent s k = .ok () (setLine (s.setBit F.NG_EVTPEND_EVT 0 k.addr.toNat true) 161 true) :=
  (if_neg hs).trans (if_neg (by omega))

/-- The bit of NG_EVTPEND and source 161, in the state that an EVENT leaves. -/
theorem evtpend_set {n : Nat} (hn : n < 64) :
    bitAt ((setLine (s.setBit F.NG_EVTPEND_EVT 0 n true) 161 true).fl F.NG_EVTPEND_EVT 0) n = true := by
  rw [fl_setLine _ _ _ _ rfl]
  exact bitAt_setBit_true s F.NG_EVTPEND_EVT 0 n hn

theorem performEvent_heartbeat (hs : k.sub = 1) (on : mrOn s = true) (partner : k.src.toNat = s.fl F.MR_CFG_PARTNER 0)
    (tag : k.tag.toNat / 2 ^ 14 = 3) : performEvent s k =
      .ok () (heartbeat s (k.tag.toNat / 2 ^ 11 % 8) (k.tag.toNat % 2 ^ 10) (bitAt k.tag.toNat 10) false true) := by
  refine (if_pos hs).trans (if_pos ?_)
  rw [on, partner, tag, beq_self_eq_true, beq_self_eq_true]
  rfl

end

/-! ### O38 -/

section
variable {cmd : Instr} {s s3 t : State} {l : Fin 34} {k : Packet} {c : Nat} (b : Brings cmd s l k c)
  (sub : subFault (arrived s l.val k) = false) (idle : (taking s l k).router.waiting = [])
include b sub idle

/-- 13 R290 to R293: an access that breaks no rule is performed where a window admits it. -/
theorem Brings.accesses (hc : c ∈ [pRead, pWrite, pAtomic])
    (access : accessFault (taking s l k) (arrived s l.val k)
      (.fabric l (arrived s l.val k).src (arrived s l.val k).cmd (arrived s l.val k).part) = none)
    {ty part : Nat} (admits : admitPacket (taking s l k) l.val (arrived s l.val k) = (.ok ty part, s3))
    (done : performAdmitted s3 (linkOrigin l (arrived s l.val k) ty part) (arrived s l.val k) = .ok () t) :
    exec cmd s = .next t :=
  b.performs (List.mem_append_left [pMessage, pEvent] hc) idle (performRequest_admitted sub (fun _ => access) admits done)

/-- 13 R291: an access that no window admits is refused. -/
theorem Brings.refuses (hc : c ∈ [pRead, pWrite, pAtomic])
    (access : accessFault (taking s l k) (arrived s l.val k)
      (.fabric l (arrived s l.val k).src (arrived s l.val k).cmd (arrived s l.val k).part) = none)
    {code : Nat} (admits : admitPacket (taking s l k) l.val (arrived s l.val k) = (.refuse code, s3)) :
    exec cmd s = .next (refuse s3 (arrived s l.val k) code 0xFF) :=
  b.performs (List.mem_append_left [pMessage, pEvent] hc) idle (performRequest_refused sub (fun _ => access) admits)

/-- 13 R278: a MESSAGE or an EVENT names no offset, and only a window decides. -/
theorem Brings.signals (hc : c ∈ [pMessage, pEvent])
    {ty part : Nat} (admits : admitPacket (taking s l k) l.val (arrived s l.val k) = (.ok ty part, s3))
    (done : performAdmitted s3 (linkOrigin l (arrived s l.val k) ty part) (arrived s l.val k) = .ok () t) :
    exec cmd s = .next t := by
  refine b.performs (List.mem_append_right [pRead, pWrite, pAtomic] hc) idle
    (performRequest_admitted sub (fun access => ?_) admits done)
  simp only [List.mem_cons, List.not_mem_nil, or_false] at hc
  rw [isAccess, b.comes.arrived_cmd] at access
  rcases hc with rfl | rfl <;> exact absurd access (by decide)

end

/-- Settles O38: each request is performed for the origin that its window gives it, or refused. -/
theorem fabricRequests : Obligations.FabricRequests := by
  intro s s3 s4 l k ty part bytes old code
  have sub_eq : (arrived s l.val k).sub = k.sub := (arrived_arrives s l.val k).sub
  refine ⟨fun ⟨h, sub, idle⟩ access admits done => ?_, fun ⟨h, sub, idle⟩ access admits done => ?_,
    fun ⟨h, sub, idle⟩ access admits done => ?_, fun ⟨h, sub, idle⟩ short admits addr en fits free done => ?_,
    fun ⟨h, sub, idle⟩ admits addr en => ?_, fun ⟨h, sub, idle⟩ short admits addr en fits full => ?_,
    fun ⟨h, sub, idle⟩ hs admits addr => ?_, fun ⟨h, sub, idle⟩ hs admits on partner tag => ?_,
    fun cmd hc ⟨h, sub, idle⟩ access admits => ?_⟩
  · exact (h.brings rfl).accesses sub idle (by decide) access admits (performAdmitted_read h.arrived_cmd done)
  · exact (h.brings rfl).accesses sub idle (by decide) access admits (performAdmitted_write h.arrived_cmd done)
  · exact (h.brings rfl).accesses sub idle (by decide) access admits (performAdmitted_atomic h.arrived_cmd done)
  · refine (h.brings rfl).signals sub idle (by decide) admits ((performAdmitted_message h.arrived_cmd).trans ?_)
    exact (performMessage_enabled short addr en fits).trans ((if_neg (by rw [free]; decide)).trans done)
  · exact (h.brings rfl).signals sub idle (by decide) admits
      ((performAdmitted_message h.arrived_cmd).trans (performMessage_disabled en))
  · refine (h.brings rfl).signals sub idle (by decide) admits ((performAdmitted_message h.arrived_cmd).trans ?_)
    exact (performMessage_enabled short addr en fits).trans (if_pos (by rw [full]; rfl))
  · have row : exec (.event l k) s = linkRow s l k (k.cmd.toNat == pEvent) := by
      rw [← Bool.and_true (k.cmd.toNat == pEvent), ← bne_iff_ne.mpr hs]
      rfl
    exact ⟨_, (h.brings row).signals sub idle (by decide) admits
      ((performAdmitted_event h.arrived_cmd).trans (performEvent_sets (sub_eq ▸ hs) addr)), evtpend_set addr,
      setLine_line _ _ _, setLine_mem _ _ _⟩
  · have row : exec (.mirrorFabricHeartbeat l k) s = linkRow s l k (k.cmd.toNat == pEvent) := by
      rw [← Bool.and_true (k.cmd.toNat == pEvent), ← beq_iff_eq.mpr hs]
      rfl
    exact (h.brings row).signals sub idle (by decide) admits
      ((performAdmitted_event h.arrived_cmd).trans (performEvent_heartbeat (sub_eq.trans hs) on partner tag))
  · have row : exec (if cmd = pRead then .read l k else if cmd = pWrite then .write l k else .atomic l k) s =
        linkRow s l k (k.cmd.toNat == cmd) := by
      simp only [List.mem_cons, List.not_mem_nil, or_false] at hc
      rcases hc with rfl | rfl | rfl <;> rfl
    exact (h.brings row).refuses sub idle hc access admits

end Sys2Proof.Machine
end

section
/-! The fabric packets family (spec 13): responses and NACKs that return to what asked (O39). -/

namespace Sys2Proof.Machine

/-! ### Where a response returns (13 R277) -/

section
variable {s : State} {k : Packet}

theorem returnTo_queue (hd : k.tag.toNat / 2 ^ 14 = 1) : returnTo s k = replyQueue s (k.tag.toNat / 2 ^ 10 % 16) k := by
  simp only [returnTo, hd]

theorem returnTo_infuser (hd : k.tag.toNat / 2 ^ 14 = 2) :
    returnTo s k = .ok () (replyInfuser s (Fin.ofNat 32 (k.tag.toNat / 2 ^ 9)) k) := by
  simp only [returnTo, hd]

section
variable {c : Fin 16} (core : k.tag.toNat / 2 ^ 14 = 0 ∧ Fin.ofNat 16 (k.tag.toNat / 2 ^ 10) = c)
include core

theorem returnTo_read (kind : k.tag.toNat / 256 % 4 = 0) (hc : k.cmd.toNat = pReadResp) :
    returnTo s k = .ok () (readArrives s c (k.tag.toNat % 64) k.payload) := by
  simp only [returnTo, core, kind, hc]
  rfl

theorem returnTo_readNack (kind : k.tag.toNat / 256 % 4 = 0) (hc : k.cmd.toNat = pNack) :
    returnTo s k = .ok () (readFailed s c (k.tag.toNat % 64) k.sub.toNat) := by
  simp only [returnTo, core, kind, hc]
  rfl

theorem returnTo_writeAck (kind : k.tag.toNat / 256 % 4 = 1) (hc : k.cmd.toNat = pWriteAck) :
    returnTo s k = .ok () (writeEnded s c (k.tag.toNat % 64) none) := by
  simp only [returnTo, core, kind, hc]
  rfl

end

/-- 23 R483, R487: a NACK for a packet of the device's own trace. -/
theorem returnTo_traceNack (ht : k.tag.toNat / 2 ^ 10 = 63) (hc : k.cmd.toNat = pNack) :
    returnTo s k = .ok () (raiseSource (s.bumpF F.TR_STAT_EXPNACK 0) 275) := by
  have hd : k.tag.toNat / 2 ^ 14 = 3 := by omega
  simp only [returnTo, hd, ht, hc, and_self, if_true]

end

/-! ### A core's own READs and WRITEs (08 R193; 13 R282) -/

section
variable {s : State} {c : Fin 16} {t : Nat} {r : RTag}

theorem readArrives_abandoned {bytes : List Byte} (found : (s.cpu (.core c)).rtags.find? (fun r => r.tag == t) = some r)
    (ended : r.abandoned = true) : readArrives s c t bytes = freeTag s c t := by
  simp only [readArrives, found, ended, if_true]

theorem readFailed_abandoned {code : Nat} (found : (s.cpu (.core c)).rtags.find? (fun r => r.tag == t) = some r)
    (ended : r.abandoned = true) : readFailed s c t code = freeTag s c t := by
  simp only [readFailed, found, ended, if_true]

theorem writeEnded_acked {w : WSlot} (found : (s.cpu (.core c)).wslots.find? (fun w => w.slot == t) = some w) :
    writeEnded s c t none = s.setCpu (.core c)
      { s.cpu (.core c) with wslots := (s.cpu (.core c)).wslots.filter fun w => w.slot != t } := by
  simp only [writeEnded, found]

/-- A load that waits for one piece alone completes with the bytes that arrive for it. -/
theorem readArrives_completes {bytes : List Byte} {dst : LoadDst} {ea : Word} {n : Nat}
    (found : (s.cpu (.core c)).rtags.find? (fun r => r.tag == t) = some r) (live : r.abandoned = false)
    (uncached : r.fill = false) (waits : (s.cpu (.core c)).wait = .remote dst ea [⟨r.tag, r.place, n, none⟩]) :
    readArrives s c t bytes = retire (loadResult (freeTag s c t) (.core c) dst (bytesNat (bytes.take n))) (.core c)
      (s.cpu (.core c)).pc ((s.cpu (.core c)).pc + 4) false := by
  have freed : (freeTag s c t).cpu (.core c) =
      { s.cpu (.core c) with rtags := (s.cpu (.core c)).rtags.filter fun r => r.tag != t } := State.cpu_setCpu_same _ _ _
  have whole : piecesBytes (fillPieces r bytes [⟨r.tag, r.place, n, none⟩]) = some (bytes.take n) := by
    simp [fillPieces, piecesBytes]
  simp only [readArrives, found, live, uncached, Bool.false_eq_true, if_false, Bool.false_and, freed, waits, whole]

end

/-! ### A load that waited completes -/

/-- A processor that waits goes on: at its completion nothing acts but what it waited for. -/
theorem retire_wakes {p : Proc} {s : State} {pc : Word} (npc : Word)
    (h : Plain p (s.setCpu p { s.cpu p with wait := .none }) pc) :
    (∀ r, (retire s p pc npc false).g p r = s.g p r) ∧ ((retire s p pc npc false).cpu p).pc = npc ∧
    ((retire s p pc npc false).cpu p).wait = .none ∧ (retire s p pc npc false).mem = s.mem := by
  obtain ⟨loop, hie, hipl, hstep, hcount, -⟩ := h
  rw [State.cpu_setCpu_same] at loop hie hipl hstep
  dsimp only at loop hie hipl hstep
  have counted (k : Cpu) : countDone (s.setCpu p k) p = s.setCpu p k := countDone_none _ _ hcount
  have done : retire s p pc npc false = s.setCpu p { s.cpu p with pc := npc, wait := .none } := by
    simp only [retire, loopEnd_none _ _ _ loop, Bool.false_eq_true, if_false, clearPending_none hie hipl, counted]
    rw [debugStep_unarmed (by rw [State.cpu_setCpu_same]; exact hstep)]
  rw [done, State.cpu_setCpu_same]
  refine ⟨fun r => ?_, rfl, rfl, rfl⟩
  rw [State.g, State.cpu_setCpu_same, bankInUse_congr rfl]
  rfl

/-- The end of a remote load frees its tag, and nothing that acts at a completion depends on a tag or on a register. -/
theorem plain_loaded {s : State} {c : Fin 16} {pc : Word} (t : Nat) (d : RegNo) (v : Word)
    (h : Plain (.core c) (s.setCpu (.core c) { s.cpu (.core c) with wait := .none }) pc) :
    Plain (.core c) (((freeTag s c t).setG (.core c) d v).setCpu (.core c)
      { ((freeTag s c t).setG (.core c) d v).cpu (.core c) with wait := .none }) pc := by
  obtain ⟨loop, hie, hipl, hstep, hcount, -⟩ := h
  rw [State.cpu_setCpu_same] at loop hie hipl hstep
  constructor <;> simp only [State.cpu_setCpu_same, State.setG, freeTag]
  · rw [Cpu.wr_eq]; exact loop
  · rw [Cpu.wr_pendIe]; exact hie
  · rw [Cpu.wr_pendIpl]; exact hipl
  · rw [Cpu.wr_stepBank]; exact hstep
  · exact hcount

/-- 08 R193; 13 R281: the load's register, and its processor at the next instruction. -/
theorem readArrives_loads {s : State} {c : Fin 16} {t : Nat} {r : RTag} {bytes : List Byte} {d : RegNo} {ea : Word}
    (found : (s.cpu (.core c)).rtags.find? (fun r => r.tag == t) = some r) (live : r.abandoned = false)
    (uncached : r.fill = false) (wakes : plainWake (.core c) s)
    (waits : (s.cpu (.core c)).wait = .remote (.g d 8 false) ea [⟨r.tag, r.place, 8, none⟩]) :
    (d ≠ 31 → (readArrives s c t bytes).g (.core c) d = BitVec.ofNat 64 (bytesNat (bytes.take 8))) ∧
    ((readArrives s c t bytes).cpu (.core c)).pc = (s.cpu (.core c)).pc + 4 ∧
    ((readArrives s c t bytes).cpu (.core c)).wait = .none ∧ (readArrives s c t bytes).mem = s.mem := by
  rw [readArrives_completes found live uncached waits]
  obtain ⟨regs, pc, wait, mem⟩ :=
    retire_wakes ((s.cpu (.core c)).pc + 4) (plain_loaded t d (BitVec.ofNat 64 (bytesNat (bytes.take 8))) wakes)
  exact ⟨fun hd => (regs d).trans (State.g_setG_same _ _ _ hd), pc, wait, mem⟩

/-! ### Reply queues and reply rings (13 R296; 20 R424) -/

theorem replyQueue_fits {s : State} {q : Nat} {k : Packet} (en : s.fb F.NG_RQCFG_EN q = true) (free : rqFree s q = true)
    (fits : rqFits s q k = true) : replyQueue s q k = fillSlot s q k := if_pos (by rw [en, free, fits]; rfl)

@[simp] theorem infOf_putInf (s : State) (i : Nat) (x : Infus) : infOf (putInf s i x) i = x := mget_mset_same _ _ _ _

/-- Where no EVT.WAIT waits, an event is latched and nothing else happens. -/
theorem infEvent_latches {s : State} {i : Fin 32} (e : Nat) (quiet : noEvtWait s i) :
    infEvent s i e = putInf s i.val { infOf s i.val with events := (infOf s i.val).events ||| (1#16 <<< e) } := by
  have waits : ((putInf s i.val { infOf s i.val with events := (infOf s i.val).events ||| (1#16 <<< e) }).cpu
    (.infuser i)).wait = (s.cpu (.infuser i)).wait := rfl
  unfold infEvent evtReturn
  dsimp only
  rw [waits]
  split
  · exact absurd ‹_› (quiet _ _)
  · rfl

theorem writeList_cpus (bs : List Byte) (s : State) (a : Nat) : (writeList s a bs).cpus = s.cpus := by
  obtain ⟨m, written⟩ := writeList_only bs s a
  rw [written]

/-- A reply that fits takes a slot of the ring, and latches event REPLY. -/
theorem replyInfuser_fills {s : State} {i : Fin 32} {k : Packet} (ring : (infOf s i.val).rrcfg % 2 ^ 20 ≠ 0)
    (room : (infOf s i.val).rrFill < rrSlots (infOf s i.val))
    (fits : (headerBytes k ++ k.payload).length ≤ ringStride (slice (infOf s i.val).rrcfg 22 20)) (quiet : noEvtWait s i) :
    infOf (replyInfuser s i k) i.val = { infOf s i.val with rrFill := (infOf s i.val).rrFill + 1,
                                                            events := (infOf s i.val).events ||| (1#16 <<< 1) } := by
  have kept : ¬ ((infOf s i.val).rrcfg % 2 ^ 20 = 0 ∨ rrSlots (infOf s i.val) ≤ (infOf s i.val).rrFill ∨
      ringStride (slice (infOf s i.val).rrcfg 22 20) < (headerBytes k ++ k.payload).length) := by omega
  simp only [replyInfuser, if_neg kept]
  rw [infEvent_latches, infOf_putInf, infOf_putInf]
  intro d m
  rw [State.cpu, putInf, writeList_cpus]
  exact quiet d m

/-! ### O39 -/

/-- `cmd` answers with the state that a packet leaves as it returns to what asked. -/
def Returns (cmd : Instr) (s : State) (l : Fin 34) (k : Packet) : Prop :=
  ∀ t, returnTo (taking s l k) (arrived s l.val k) = .ok () t → exec cmd s = .next t

section
variable {cmd : Instr} {s : State} {l : Fin 34} {k : Packet} {c : Nat}

/-- 13 R281: a response or NACK in time, and without a reserved code, returns. -/
theorem Brings.returns (b : Brings cmd s l k c) (hc : c ∈ [pReadResp, pWriteAck, pAtomicResp, pNack])
    (sound : responseSub (arrived s l.val k) = false) : Returns cmd s l k := by
  intro t ht
  have taken : deliver (turned s l.val k) (some l) (arrived s l.val k) = takeResponse (taking s l k) (arrived s l.val k) := by
    unfold deliver
    dsimp only
    rw [b.comes.arrived_cmd]
    simp only [List.mem_cons, List.not_mem_nil, or_false] at hc
    rcases hc with rfl | rfl | rfl | rfl <;> rfl
  have intime : requestFault (taking s l k) (arrived s l.val k) = none := b.comes.sound
  refine b.next (taken.trans ((if_neg ?_).trans ht))
  rw [intime, sound]
  decide

/-- 12 R273: a REPLY returns as a response does. -/
theorem mgmtReply_returns (h : Comes s l k pMgmt) (hs : k.sub = 8) : Returns (.mgmtReply l k) s l k := by
  intro t ht
  have sub_eq : (arrived s l.val k).sub = 8 := (arrived_arrives s l.val k).sub.trans hs
  have runs : exec (.mgmtReply l k) s = linkRow s l k true :=
    congrArg (linkRow s l k) (by rw [isMgmt, h.cmd, hs]; rfl)
  have intime : requestFault (taking s l k) (arrived s l.val k) = none := h.sound
  refine Brings.next ⟨h, runs⟩ ((deliver_mgmt h).trans ?_)
  unfold takeMgmt
  rw [intime]
  exact (if_pos sub_eq).trans ht

variable (back : Returns cmd s l k)
include back

/-- 13 R277, R296: to a queue. -/
theorem Returns.toQueue {s3 : State} (h : let q := (arrived s l.val k).tag.toNat / 2 ^ 10 % 16
    (arrived s l.val k).tag.toNat / 2 ^ 14 = 1 ∧ (taking s l k).fb F.NG_RQCFG_EN q = true ∧ rqFree (taking s l k) q = true ∧
      rqFits (taking s l k) q (arrived s l.val k) = true ∧ fillSlot (taking s l k) q (arrived s l.val k) = .ok () s3) :
    exec cmd s = .next s3 := by
  obtain ⟨queue, en, free, fits, fill⟩ := h
  exact back _ ((returnTo_queue queue).trans ((replyQueue_fits en free fits).trans fill))

/-- 20 R424: to the reply ring of an Infuser. -/
theorem Returns.toRing {i : Fin 32} (h : let x := infOf (taking s l k) i.val
    (arrived s l.val k).tag.toNat / 2 ^ 14 = 2 ∧ Fin.ofNat 32 ((arrived s l.val k).tag.toNat / 2 ^ 9) = i ∧
      x.rrcfg % 2 ^ 20 ≠ 0 ∧ x.rrFill < rrSlots x ∧
      (headerBytes (arrived s l.val k) ++ (arrived s l.val k).payload).length ≤ ringStride (slice x.rrcfg 22 20) ∧
      noEvtWait (taking s l k) i) :
    Gives cmd s fun t => (infOf t i.val).rrFill = (infOf (taking s l k) i.val).rrFill + 1 ∧
      (infOf t i.val).events.getLsbD 1 = true := by
  obtain ⟨dest, rfl, ring, room, fits, quiet⟩ := h
  refine ⟨_, back _ (returnTo_infuser dest), ?_⟩
  dsimp only
  rw [replyInfuser_fills ring room fits quiet]
  exact ⟨rfl, by simp⟩

end

/-- Settles O39: each response, NACK or REPLY returns where its tag says. -/
theorem fabricResponses : Obligations.FabricResponses := by
  intro s s3 l k c d ea r w i
  have reads (h : Comes s l k pReadResp) : responseSub (arrived s l.val k) = false → Returns (.readResp l k) s l k :=
    (h.brings rfl).returns (by decide)
  have acks (h : Comes s l k pWriteAck) : responseSub (arrived s l.val k) = false → Returns (.writeAck l k) s l k :=
    (h.brings rfl).returns (by decide)
  have atomics (h : Comes s l k pAtomicResp) : responseSub (arrived s l.val k) = false → Returns (.atomicResp l k) s l k :=
    (h.brings rfl).returns (by decide)
  have nacks (h : Comes s l k pNack) : responseSub (arrived s l.val k) = false → Returns (.nack l k) s l k :=
    (h.brings rfl).returns (by decide)
  refine ⟨fun h sound ⟨core, kind, found⟩ live uncached wakes waits => ?_, fun h sound ⟨core, kind, found⟩ ended => ?_,
    fun h sound ⟨core, kind, found⟩ => ?_, fun h sound => (atomics h sound).toQueue, fun h sound => (atomics h sound).toRing,
    fun h sound => (nacks h sound).toQueue, fun h sound => (nacks h sound).toRing,
    fun h sound ⟨core, kind, found⟩ ended => ?_, fun h sound trace => ?_,
    fun h hs => (mgmtReply_returns h hs).toQueue, fun h hs => (mgmtReply_returns h hs).toRing⟩
  · exact ⟨_, reads h sound _ (returnTo_read core kind h.arrived_cmd), readArrives_loads found live uncached wakes waits⟩
  · refine reads h sound _ ((returnTo_read core kind h.arrived_cmd).trans ?_)
    rw [readArrives_abandoned found ended]
  · refine acks h sound _ ((returnTo_writeAck core kind h.arrived_cmd).trans ?_)
    rw [writeEnded_acked found]
  · refine nacks h sound _ ((returnTo_readNack core kind h.arrived_cmd).trans ?_)
    rw [readFailed_abandoned found ended]
  · have counted : SideFrame (noteField [F.TR_STAT_EXPNACK]) (taking s l k) ((taking s l k).bumpF F.TR_STAT_EXPNACK 0) :=
      bumpF_side _ 0 rfl
    refine ⟨_, nacks h sound _ (returnTo_traceNack trace h.arrived_cmd), fun edge prio => ?_,
      (raiseSource_mem _ _).trans counted.mem⟩
    exact raiseSource_signalled _ 275 ((counted.fb _ _ rfl).trans edge) (by rwa [counted.fl _ _ rfl])

end Sys2Proof.Machine
end

section
/-! ### A step without a command, and the machine's front (O55 to O57)

An idle microsecond: what the pulses, the corrected fabric time, the counters of cycles and the trace leave alone. -/

namespace Sys2Proof.Machine

/-- Settles O55: the front of the queue is what `step` runs. -/
theorem stepRunsFront : Obligations.StepRunsFront := fun _ _ _ => rfl

/-- Settles O57: each row of the table ends in `.next`, directly or through `rowWrite`, `linkRow` or `mbRow`. -/
theorem everyCommandAnswers : Obligations.EveryCommandAnswers := by
  intro c s
  cases c <;> exact ⟨_, rfl⟩

/-! #### The counters of cycles -/

namespace TripFrame
variable {k : Fld → Bool} {s t : State}

theorem pending (h : TripFrame k s t) : t.pending = s.pending := by
  have e := congrArg State.pending h.rest
  exact e

theorem time (h : TripFrame k s t) : t.time = s.time := by
  have e := congrArg State.time h.rest
  exact e

theorem sup (h : TripFrame k s t) : t.sup = s.sup := by
  have e := congrArg State.sup h.rest
  exact e

theorem ep (h : TripFrame k s t) : t.ep = s.ep := by
  have e := congrArg State.ep h.rest
  exact e

theorem router (h : TripFrame k s t) : t.router = s.router := by
  have e := congrArg State.router h.rest
  exact e

theorem trace (h : TripFrame k s t) : t.trace = s.trace := by
  have e := congrArg State.trace h.rest
  exact e

end TripFrame

/-- The fields that counting cycles writes. -/
def cycleField (f : Fld) : Bool := icField f || [F.PC_CNT_COUNT, F.PC_CNT_OVF].any fun g => g.id == f.id

theorem cycleField_byId : ById cycleField := fun f g h => by
  simp only [cycleField, icField_byId f g h, h]

theorem icField_of_cycleField (f : Fld) (h : cycleField f = false) : icField f = false := by
  rw [cycleField, Bool.or_eq_false_iff] at h
  exact h.1

theorem takeFree_trip (k : Fld → Bool) (s : State) : TripFrame k s { s with free := s.free + 1 } := ⟨rfl, fun _ _ _ => rfl⟩

theorem setB_trip {s t : State} (h : TripFrame cycleField s t) {f : Fld} (i : Nat) (b : Bool) (hf : cycleField f = true) :
    TripFrame cycleField s (t.setB f i b) := h.setF cycleField_byId i _ hf

theorem idleCycles_trip (s : State) : TripFrame cycleField s (idleCycles s) := by
  unfold idleCycles
  suffices ∀ (l : List Nat) t, TripFrame cycleField s t → TripFrame cycleField s (l.foldl _ t) from this _ s (.refl _ s)
  intro l
  induction l with
  | nil => exact fun t h => h
  | cons n l ih =>
    refine fun t h => ih _ (.ite ?_ h)
    have counted := (h.trans (takeFree_trip _ t)).setF cycleField_byId n (t.fl F.PC_CNT_COUNT n + Config.freeNat t.free)
      (f := F.PC_CNT_COUNT) rfl
    have wrapped := setB_trip counted n true (f := F.PC_CNT_OVF) rfl
    exact .ite (.ite (wrapped.trans ((raiseSource_trip _ _).weaken icField_of_cycleField)) wrapped) counted

theorem pulsesEnd_trip (s : State) : TripFrame icField s (pulsesEnd s) := by
  unfold pulsesEnd
  generalize s.icPulse = l
  induction l generalizing s with
  | nil => exact .refl _ s
  | cons e l ih =>
    have h := icUnpend_frame s e.1
    have one : TripFrame icField s (icUnpend s e.1) :=
      ⟨congrArg (fun u : State => { u with dregs := s.dregs, cpus := s.cpus, steep := s.steep, free := s.free }) h.rest, h.fl⟩
    exact one.trans (ih _)

/-! #### The trace and the packets that wait -/

theorem traceDrain_empty {s : State} (h : s.trace.fifo = []) : ∀ n, traceDrain s n = s
  | 0 => rfl
  | n + 1 => by rw [traceDrain, h]

theorem idleTrace_empty {s : State} (hf : s.trace.fifo = []) (hl : s.trace.lost = 0) :
    ∃ x, idleTrace s = { s with trace := x } := by
  refine ⟨{ s.trace with held := s.trace.held && 128 ≤ s.trace.fifo.length }, ?_⟩
  rw [idleTrace, traceDrain_empty hf, traceReport]
  simp [hl]

theorem idlePackets_none {s : State} (h : s.router.waiting = []) : idlePackets s = s := by rw [idlePackets, h]; rfl

/-! #### Fabric time -/

theorem epochRuns_iff (s : State) : epochRuns s = true ↔ s.ready 41 = true ∧ sclkStopped s = false := by
  rw [epochRuns, sclkStopped, clockFails, Bool.and_eq_true, Bool.not_eq_true']

theorem servoCorrection_bounds (s : State) : -2 ^ 32 ≤ (servoCorrection s).1 ∧ (servoCorrection s).1 ≤ 2 ^ 32 := by
  simp only [servoCorrection, clampRate, maxSlew]
  omega

theorem servoCorrection_still {s : State} (hr : s.ep.rate = 0) (hs : s.ep.slew = 0) : (servoCorrection s).1 = 0 := by
  rw [servoCorrection, hr, hs]; rfl

/-- Fabric time in units of 2^-32 ns, a microsecond later. -/
def fabricNext (s : State) : Nat :=
  (((s.fl F.EP_NOW_VALUE 0 * nsUnit + s.ep.frac + idleNs * nsUnit : Nat) : Int) + (servoCorrection s).1).toNat

theorem idleTime_stopped {s : State} (h : epochRuns s = false) : (idleTime s).flds = s.flds := by
  rw [idleTime, h]; rfl

theorem idleTime_running {s : State} (h : epochRuns s = true) :
    (idleTime s).flds = (s.setF F.EP_NOW_VALUE 0 (fabricNext s / nsUnit)).flds ∧
      (idleTime s).ep.frac = fabricNext s % nsUnit := by
  rw [idleTime, h]; exact ⟨rfl, rfl⟩

theorem fabricNext_still {s : State} (hr : s.ep.rate = 0) (hs : s.ep.slew = 0) (hf : s.ep.frac < 2 ^ 32) :
    fabricNext s / nsUnit = s.fl F.EP_NOW_VALUE 0 + 1000 ∧ fabricNext s % nsUnit = s.ep.frac := by
  rw [fabricNext, servoCorrection_still hr hs]
  simp only [nsUnit, idleNs]
  omega

theorem fabricNext_bounds {s : State} (hf : s.ep.frac < 2 ^ 32) :
    s.fl F.EP_NOW_VALUE 0 + 999 ≤ fabricNext s / nsUnit ∧ fabricNext s / nsUnit ≤ s.fl F.EP_NOW_VALUE 0 + 1001 := by
  have := servoCorrection_bounds s
  simp only [fabricNext, nsUnit, idleNs]
  omega

/-- What `idleTime` leaves: the queue, the clocks, the packets that wait and the trace. -/
theorem idleTime_rest (s : State) : (idleTime s).pending = s.pending ∧ (idleTime s).time = s.time + 1000 ∧
    (idleTime s).sup = { s.sup with rtc := s.sup.rtc.map (· + 1) } ∧ (idleTime s).router = s.router ∧
    (idleTime s).trace = s.trace := by
  rw [idleTime]
  split <;> exact ⟨rfl, rfl, rfl, rfl, rfl⟩

/-! #### The microsecond -/

theorem idleCredit_eq (s : State) : ∃ x, idleCredit s = { s with links := x } := by
  unfold idleCredit
  generalize s.links = l
  suffices ∀ t : State, ∃ x, l.foldl _ t = { t with links := x } from this s
  induction l with
  | nil => exact fun t => ⟨t.links, rfl⟩
  | cons e l ih =>
    intro t
    rw [List.foldl_cons]
    split
    · exact ih t
    · obtain ⟨x, hx⟩ := ih (putLk t e.1 { e.2 with owed := 0 })
      exact ⟨x, hx⟩

/-- The state before the counters of cycles run. -/
def idleBefore (s : State) : State := idleCredit (idleTimers (idleTokens (idleWrites (idleWatchdog (idleTime (pulsesEnd s))))))

theorem idleWatchdog_eq (s : State) : ∃ x, idleWatchdog s = { s with flds := x } := by
  rw [idleWatchdog]
  split
  · exact ⟨_, rfl⟩
  · exact ⟨s.flds, rfl⟩

theorem idleServed_rest (s : State) :
    let t := idleCredit (idleTimers (idleTokens (idleWrites s)))
    t.flds = s.flds ∧ t.pending = s.pending ∧ t.time = s.time ∧ t.sup = s.sup ∧ t.ep = s.ep ∧
      t.router.waiting = s.router.waiting ∧ t.trace = s.trace := by
  obtain ⟨x, hx⟩ := idleCredit_eq (idleTimers (idleTokens (idleWrites s)))
  simp only [hx]
  exact ⟨rfl, rfl, rfl, rfl, rfl, rfl, rfl⟩

theorem idleBefore_flds (s : State) : (idleBefore s).flds = (idleWatchdog (idleTime (pulsesEnd s))).flds :=
  (idleServed_rest _).1

theorem idleBefore_rest (s : State) : (idleBefore s).pending = (idleTime (pulsesEnd s)).pending ∧
    (idleBefore s).time = (idleTime (pulsesEnd s)).time ∧ (idleBefore s).sup = (idleTime (pulsesEnd s)).sup ∧
    (idleBefore s).ep = (idleTime (pulsesEnd s)).ep ∧
    (idleBefore s).router.waiting = (idleTime (pulsesEnd s)).router.waiting ∧
    (idleBefore s).trace = (idleTime (pulsesEnd s)).trace := by
  have h := (idleServed_rest (idleWatchdog (idleTime (pulsesEnd s)))).2
  obtain ⟨y, hy⟩ := idleWatchdog_eq (idleTime (pulsesEnd s))
  rw [hy] at h
  rw [idleBefore, hy]
  exact h

/-- The parts of an idle microsecond that `IdleStep` speaks of: all but the watchdog's count and fabric time are as
`idleTime` leaves them. -/
structure IdleEnd (s t : State) : Prop where
  pending : t.pending = s.pending
  time : t.time = s.time + 1000
  sup : t.sup = { s.sup with rtc := s.sup.rtc.map (· + 1) }
  frac : t.ep.frac = (idleTime (pulsesEnd s)).ep.frac
  fl : ∀ f i, cycleField f = false → t.fl f i = (idleWatchdog (idleTime (pulsesEnd s))).fl f i

theorem idle_counted {s : State} (hp : s.sup.por = false) (hw : s.router.waiting = []) (hf : s.trace.fifo = [])
    (hl : s.trace.lost = 0) : IdleEnd s (idle s) := by
  have counted := idleCycles_trip (idleBefore s)
  have pulses := pulsesEnd_trip s
  obtain ⟨bpend, btime, bsup, bep, bwait, btrace⟩ := idleBefore_rest s
  obtain ⟨ipend, itime, isup, irouter, itrace⟩ := idleTime_rest (pulsesEnd s)
  have ctrace : (idleCycles (idleBefore s)).trace = s.trace :=
    counted.trace.trans (btrace.trans (itrace.trans pulses.trace))
  have cwait : (idleCycles (idleBefore s)).router.waiting = [] := by
    rw [counted.router, bwait, irouter, pulses.router, hw]
  obtain ⟨x, hx⟩ := idleTrace_empty (s := idleCycles (idleBefore s)) (by rw [ctrace, hf]) (by rw [ctrace, hl])
  have hidle : idle s = { idleCycles (idleBefore s) with trace := x } := by
    rw [idle, if_neg (by simp [hp]), ← idleBefore, hx]
    exact idlePackets_none cwait
  rw [hidle]
  exact {
    pending := counted.pending.trans (bpend.trans (ipend.trans pulses.pending))
    time := counted.time.trans (btime.trans (itime.trans (congrArg (· + 1000) pulses.time)))
    sup := counted.sup.trans (bsup.trans (isup.trans (by rw [pulses.sup])))
    frac := congrArg Epochs.frac (counted.ep.trans bep)
    fl := fun f i h => (counted.fl f i h).trans (State.fl_congr (idleBefore_flds s) f i) }

theorem epochRuns_pulsesEnd (s : State) : epochRuns (pulsesEnd s) = epochRuns s := by
  have h := pulsesEnd_trip s
  rw [epochRuns, epochRuns, h.clk, ready_congr (fun i => h.fl _ i rfl)]

theorem fl_now_pulsesEnd (s : State) : (pulsesEnd s).fl F.EP_NOW_VALUE 0 = s.fl F.EP_NOW_VALUE 0 :=
  (pulsesEnd_trip s).fl _ _ rfl

theorem fl_now_idleWatchdog (s : State) : (idleWatchdog s).fl F.EP_NOW_VALUE 0 = s.fl F.EP_NOW_VALUE 0 := by
  rw [idleWatchdog]
  split
  · exact State.fl_setF_id _ _ _ _ (by decide)
  · rfl

/-- The watchdog reads fields that fabric time does not write. -/
theorem fl_idleTime_ne (s : State) {f : Fld} (i : Nat) (h : F.EP_NOW_VALUE.id ≠ f.id) : (idleTime s).fl f i = s.fl f i := by
  cases hr : epochRuns s with
  | true => exact (State.fl_congr (idleTime_running hr).1 f i).trans (State.fl_setF_id s 0 i _ h)
  | false => exact State.fl_congr (idleTime_stopped hr) f i

theorem idleWatchdog_counts {s : State} (he : s.fb F.KT_WDCFG_EN 0 = true)
    (h : s.fl F.KT_WDKICK_ELAPSED 0 + 1 < max 1 (s.fl F.KT_WDCFG_TMO 0)) :
    (idleWatchdog s).fl F.KT_WDKICK_ELAPSED 0 = (s.fl F.KT_WDKICK_ELAPSED 0 + 1) % 2 ^ 24 := by
  rw [idleWatchdog, if_pos (by simp [he, wdTmo, h])]
  exact State.fl_setF_same s _ 0 _

/-- Settles O56: `IdleEnd` says what the microsecond leaves; fabric time advances by the servo's correction, the watchdog by
one. -/
theorem idleStep : Obligations.IdleStep := by
  intro s hpend now counts
  have hstep : step s = .next (idle s) := by rw [step, hpend]
  refine ⟨fun hp => by rw [hstep, idle, if_pos hp], fun hp hw hf hl => ⟨idle s, hstep, ?_⟩⟩
  obtain ⟨epend, etime, esup, efrac, efl⟩ := idle_counted hp hw hf hl
  have pulses := pulsesEnd_trip s
  have enow : (idle s).fl F.EP_NOW_VALUE 0 = (idleTime (pulsesEnd s)).fl F.EP_NOW_VALUE 0 :=
    (efl _ 0 rfl).trans (fl_now_idleWatchdog _)
  have runs : epochRuns (pulsesEnd s) = true ↔ counts := by rw [epochRuns_pulsesEnd]; exact epochRuns_iff s
  have advanced : counts → (idle s).fl F.EP_NOW_VALUE 0 = fabricNext (pulsesEnd s) / nsUnit % 2 ^ 64 ∧
      (idle s).ep.frac = fabricNext (pulsesEnd s) % nsUnit := fun hc => by
    obtain ⟨flds, frac⟩ := idleTime_running (runs.mpr hc)
    exact ⟨enow.trans ((State.fl_congr flds _ 0).trans (State.fl_setF_same _ _ 0 _)), efrac.trans frac⟩
  have hnow := fl_now_pulsesEnd s
  have hep := pulses.ep
  refine ⟨epend.trans hpend, etime, fun hc => ?_, fun hc _ hrate hslew hfrac => ?_, fun hc hfrac hlt => ?_, ?_, fun he ht => ?_⟩
  · have stopped : epochRuns (pulsesEnd s) = false := Bool.eq_false_iff.mpr fun h => hc (runs.mp h)
    exact (enow.trans (State.fl_congr (idleTime_stopped stopped) _ 0)).trans hnow
  · obtain ⟨h, h'⟩ := advanced hc
    obtain ⟨q, r⟩ := fabricNext_still (s := pulsesEnd s) (by rw [hep, hrate]) (by rw [hep, hslew]) (by rw [hep]; exact hfrac)
    exact ⟨by rw [h, q, hnow], by rw [h', r, hep]⟩
  · obtain ⟨lo, hi⟩ := fabricNext_bounds (s := pulsesEnd s) (by rw [hep]; exact hfrac)
    rw [(advanced hc).1]
    rw [hnow] at lo hi
    omega
  · rw [esup]
  · have kept : ∀ f : Fld, icField f = false → F.EP_NOW_VALUE.id ≠ f.id →
        (idleTime (pulsesEnd s)).fl f 0 = s.fl f 0 := fun f hi hn => (fl_idleTime_ne _ 0 hn).trans (pulses.fl f 0 hi)
    have hen := kept F.KT_WDCFG_EN rfl (by decide)
    have htmo := kept F.KT_WDCFG_TMO rfl (by decide)
    have hel := kept F.KT_WDKICK_ELAPSED rfl (by decide)
    rw [efl _ 0 rfl, idleWatchdog_counts (by rw [State.fb, hen]; exact he) (by rw [hel, htmo]; exact ht), hel]

end Sys2Proof.Machine
end

section
/-! ### What every step keeps (O58)

First the ways in which a state takes over the form of another. -/

namespace Sys2Proof.Machine

variable {pend : List Instr} {s t : State}

/-- The state that an access of an instruction leaves, however it ends. -/
def XRes.state {α : Type} : XRes α → State
  | .ok _ s => s
  | .exc _ s => s
  | .stall s => s

/-- The state that an instruction's own operation leaves. -/
def IRes.state : IRes → State
  | .done s => s
  | .jump s _ => s
  | .doneKeep s => s
  | .exc _ s => s
  | .hold s _ => s
  | .entered s => s

/-- The state that an operation may give, where it gives one, has the form. -/
def KeptIn (pend : List Instr) (o : Option State) : Prop := ∀ t, o = some t → Kept pend t

theorem KeptIn.some (h : Kept pend s) : KeptIn pend (some s) := fun _ e => Option.some.inj e ▸ h
theorem KeptIn.none : KeptIn pend none := fun _ e => nomatch e

theorem KeptIn.ite {c : Prop} [Decidable c] {a b : Option State} (ha : KeptIn pend a) (hb : KeptIn pend b) :
    KeptIn pend (if c then a else b) := by
  split
  · exact ha
  · exact hb

theorem KeptIn.getD {o : Option State} (ho : KeptIn pend o) (h : Kept pend s) : Kept pend (o.getD s) := by
  cases o with
  | none => exact h
  | some u => exact ho u rfl

namespace Kept

/-- A state that is the same where the form looks. -/
theorem beside {flds sh caches icCommit icPulse dregs ket steep dram warm caddy trace pwr sup clk links router inf
    ports gates disp touch cams usb pcie ep mir dbg time fab free} (h : Kept pend s) : Kept pend (State.mk flds sh
    s.mem s.cpus caches icCommit icPulse dregs ket steep dram warm caddy trace pwr sup clk links router inf ports
    gates disp touch cams usb pcie ep mir dbg time fab free s.pending) := h

/-! A state that a case split has named. -/

section
variable {α β : Type} {a : α} {b : β} {n : Nat} {e : Exc}

theorem snd {p : α × State} (h : Kept pend p.2) (e : p = (a, t)) : Kept pend t := by rw [e] at h; exact h

theorem snd2 {p : α × β × State} (h : Kept pend p.2.2) (e : p = (a, b, t)) : Kept pend t := by rw [e] at h; exact h

theorem res {r r' : Res α} (h : Kept pend r.state) (e : r = r') : Kept pend r'.state := e ▸ h
theorem ok {r : Res α} (h : Kept pend r.state) (e : r = .ok a t) : Kept pend t := h.res e
theorem fail {r : Res α} (h : Kept pend r.state) (e : r = .fail n t) : Kept pend t := h.res e
theorem stall {r : Res α} (h : Kept pend r.state) (e : r = .stall t) : Kept pend t := h.res e

theorem xres {r r' : XRes α} (h : Kept pend r.state) (e : r = r') : Kept pend r'.state := e ▸ h
theorem xok {r : XRes α} (h : Kept pend r.state) (e : r = .ok a t) : Kept pend t := h.xres e
theorem xexc {r : XRes α} {x : Exc} (h : Kept pend r.state) (e : r = .exc x t) : Kept pend t := h.xres e
theorem xstall {r : XRes α} (h : Kept pend r.state) (e : r = .stall t) : Kept pend t := h.xres e

theorem done (h : Kept pend s) : Kept pend (IRes.done s).state := h

theorem hold (h : Kept pend s) {w : Wait} : Kept pend (IRes.hold s w).state := h

theorem entered (h : Kept pend s) : Kept pend (IRes.entered s).state := h

theorem ires {r r' : IRes} (h : Kept pend r.state) (e : r = r') : Kept pend r'.state := e ▸ h
theorem held {r : IRes} {w : Wait} (h : Kept pend r.state) (e : r = .hold t w) : Kept pend t := h.ires e

end

theorem given {α : Type} {a : α} (h : Kept pend s) : ∀ x, some (a, s) = some x → Kept pend x.2 :=
  fun _ e => Option.some.inj e ▸ h

theorem absent {α : Type} : ∀ x : α × State, none = some x → Kept pend x.2 := fun _ e => nomatch e

theorem ite {c : Prop} [Decidable c] (hs : Kept pend s) (ht : Kept pend t) : Kept pend (if c then s else t) := by
  split
  · exact hs
  · exact ht

theorem foldl {α : Type} {step : State → α → State} (hs : ∀ t a, Kept pend t → Kept pend (step t a)) {l : List α}
    (h : Kept pend s) : Kept pend (l.foldl step s) := by
  induction l generalizing s with
  | nil => exact h
  | cons a l ih => exact ih (hs _ a h)

/-- Memory and the processors change only by writes that keep the form. -/
theorem setCpu (h : Kept pend s) {p c} : Kept pend (s.setCpu p c) :=
  have ⟨mem, cpus, queue⟩ := h
  ⟨mem, mwf_mset _ _ _ _ cpus, queue⟩

theorem writeByte (h : Kept pend s) {a b} : Kept pend (Machine.writeByte s a b) :=
  have ⟨mem, cpus, queue⟩ := h
  ⟨Memory.wf_writeByte s a b mem, cpus, queue⟩

theorem writeBytes (h : Kept pend s) {a n v} : Kept pend (Machine.writeBytes s a n v) := by
  induction n generalizing s a v with
  | zero => exact h
  | succ n ih => exact ih h.writeByte

theorem writeList (h : Kept pend s) {a bs} : Kept pend (Machine.writeList s a bs) := by
  induction bs generalizing s a with
  | nil => exact h
  | cons b bs ih => exact ih h.writeByte

end Kept

/-! `undo`'s equation by hand: Lean's own equations evaluate the reading of memory. -/

/-- One record of the journal undone, and what follows it. -/
def undoStep (s : State) (n : Nat) (rest : State → State) : State :=
  let from_ := journalAt s n
  if gateWaits s from_ 80 then askWake s from_ 80
  else
    let (r, t) := dmaRead s 4 none from_ 80
    let target := bytesNat (r.take 8)
    if gateWaits t target 64 then askWake t target 64
    else rest ((dmaWrite t 4 none target (r.drop 16)).setF F.MR_JFILL_RECORDS 0 n)

theorem undo_body (s : State) (n : Nat) (below : Nat.below (motive := fun _ => State → State) (n + 1)) :
    undo._f (n + 1) below s = undoStep s n below.1 := by
  obtain ⟨read, hread⟩ : ∃ read, read = dmaRead := ⟨_, rfl⟩
  delta undo._f undoStep
  rw [← hread]

theorem brecOn_succ_below {motive : Nat → Type} (F : (t : Nat) → Nat.below (motive := motive) t → motive t) (n : Nat) :
    (Nat.brecOn.go (n + 1) F).2.1 = Nat.brecOn n F := rfl

theorem undo_succ (s : State) (n : Nat) : undo s (n + 1) = undoStep s n fun t => undo t n := by
  have e : undo s (n + 1) = Nat.brecOn (motive := fun _ => State → State) (n + 1) undo._f s := by delta undo; rfl
  have rest : (Nat.brecOn.go (n + 1) undo._f).2.1 = fun t => undo t n := by
    rw [brecOn_succ_below]; delta undo; rfl
  rw [e]
  refine (congrFun (Nat.brecOn.eq (motive := fun _ => State → State) (n + 1) undo._f) s).trans ?_
  rw [undo_body, rest]

end Sys2Proof.Machine
end

section
/-! ### The operations of the model keep the form

One lemma per operation, in the order and under the names of the model: chained by dots, the proof about an
operation reads as its definition. -/

namespace Sys2Proof.Machine.Kept

variable {pend : List Instr} {s t : State}

/-! #### Regs -/

theorem setF (h : Kept pend s) {f i v} : Kept pend (State.setF s f i v) := h.beside

theorem setB (h : Kept pend s) {f i b} : Kept pend (State.setB s f i b) := h.setF

theorem setBit (h : Kept pend s) {f i k b} : Kept pend (State.setBit s f i k b) := h.setF

theorem bumpF (h : Kept pend s) {f i} : Kept pend (State.bumpF s f i) := .ite h.setF h

theorem setSh (h : Kept pend s) {f i v} : Kept pend (State.setSh s f i v) := h.beside

theorem dropSh (h : Kept pend s) {f i} : Kept pend (State.dropSh s f i) := h.beside

theorem pourF (h : Kept pend s) {f i} : Kept pend (State.pourF s f i) := h.setF.dropSh

theorem setReady (h : Kept pend s) {u b} : Kept pend (State.setReady s u b) := h.setBit

theorem takeFree (h : Kept pend s) : Kept pend (State.takeFree s).2 := h.beside


/-! #### Ops -/

theorem icCommit (h : Kept pend s) {n} : Kept pend (icCommit s n) := by
  unfold Machine.icCommit
  split
  · split
    · exact h.setF.beside
    · exact h
  · exact h

theorem icUnpend (h : Kept pend s) {n} : Kept pend (icUnpend s n) := h.setB.beside

theorem icPend (h : Kept pend s) {n} : Kept pend (icPend s n) := .ite h h.setB.icCommit

theorem raiseSource (h : Kept pend s) {n} : Kept pend (raiseSource s n) := .ite h.icPend (.ite h h.beside.icPend)

theorem pulsesEnd (h : Kept pend s) : Kept pend (pulsesEnd s) := .foldl (fun _ _ h => h.icUnpend) h

theorem setLine (h : Kept pend s) {n level} : Kept pend (setLine s n level) :=
  .ite (.ite h.setB.icPend h.setB) (.ite (.ite h.setB h.setB.icPend) h.setB.icUnpend)

theorem icSettle (h : Kept pend s) {n} : Kept pend (icSettle s n) :=
  .ite h.icUnpend (.ite h.icCommit (.ite h.icPend h.icUnpend))

theorem icCommitAll (h : Kept pend s) : Kept pend (icCommitAll s) := .foldl (fun _ _ h => h.icCommit) h

theorem icLeave (h : Kept pend s) {c} : Kept pend (icLeave s c) := .foldl (fun _ _ h => h.beside.icCommit) h

theorem icClaim (h : Kept pend s) {n} : Kept pend (icClaim s n) := h.icUnpend.setB

theorem icRelease (h : Kept pend s) {n} : Kept pend (icRelease s n) := .ite h.setB.icPend h.setB

theorem dregsLost (h : Kept pend s) {c t'} : Kept pend (dregsLost s c t') :=
  .ite (((Kept.bumpF (.ite h.setF h)).setF).raiseSource) ((Kept.bumpF (.ite h.setF h)).setF)

theorem dregsQLost (h : Kept pend s) {r} : Kept pend (dregsQLost s r) := h.bumpF.dregsLost

theorem dregsOfferRec (h : Kept pend s) {r} : Kept pend (dregsOfferRec s r) := by
  unfold Machine.dregsOfferRec
  dsimp only
  split
  · exact h.beside
  · split
    · split
      · exact h.beside.dregsQLost
      · split
        · exact h.beside.dregsQLost
        · exact h.dregsQLost
    · exact h.dregsQLost

theorem holdFab (h : Kept pend s) : Kept pend (holdFab s) := h.beside

theorem dregs (h : Kept pend s) {source cls code detail} : Kept pend (dregs s source cls code detail) := h.dregsOfferRec

theorem dregsFree (h : Kept pend s) {source cls code} : Kept pend (dregsFree s source cls code) := by
  unfold Machine.dregsFree
  split
  exact (h.takeFree.snd ‹_›).dregs

theorem dregsNamed (h : Kept pend s) {cls name} : Kept pend (dregsNamed s cls name) := by
  unfold Machine.dregsNamed
  split
  split
  exact ((h.takeFree.snd ‹_›).takeFree.snd ‹_›).dregs

theorem superEvent (h : Kept pend s) {code} : Kept pend (superEvent s code) := .foldl (fun _ _ h => .ite h.setCpu h) h

theorem steepStart (h : Kept pend s) {mode step fixed} : Kept pend (steepStart s mode step fixed) := h.setF.setF.beside

theorem steepFault (h : Kept pend s) : Kept pend (steepFault s) := h.setF.dregsFree

theorem steepBegin (h : Kept pend s) {mode step} : Kept pend (steepBegin s mode step) :=
  .ite h.steepStart.steepFault h.steepStart

theorem holdSafe (h : Kept pend s) : Kept pend (holdSafe s) :=
  .ite h (.ite h.setB.raiseSource.superEvent.steepBegin h.setB.raiseSource.superEvent)

theorem raiseTrigger (h : Kept pend s) {b level} : Kept pend (raiseTrigger s b level) :=
  .ite h (.ite h.setBit.setBit.dregs.setB.holdSafe h.setBit.setBit.dregs.setB.holdSafe.setBit)

theorem clearTrigger (h : Kept pend s) {b} : Kept pend (clearTrigger s b) := h.setBit

theorem warnIgnored (h : Kept pend s) {q off v} : Kept pend (warnIgnored s q off v) := h.dregs

theorem warnNever (h : Kept pend s) {q off src cmd} : Kept pend (warnNever s q off src cmd) := h.dregs


/-! #### Monitor -/

theorem countOne (h : Kept pend s) {n} : Kept pend (countOne s n) :=
  .ite (.ite h.setF.setB.raiseSource h.setF.setB) h.setF

theorem countEvent (h : Kept pend s) {ev unit part} : Kept pend (countEvent s ev unit part) :=
  .ite h (.foldl (fun _ _ h => .ite h.countOne h) h)

theorem countCore (h : Kept pend s) {ev c} : Kept pend (countCore s ev c) := h.countEvent

theorem tracePut (h : Kept pend s) {typ b1 b45 b67 rest zeroDelta} : Kept pend (tracePut s typ b1 b45 b67 rest
    zeroDelta) := by
  unfold Machine.tracePut
  split
  have g := h.takeFree.snd ‹_›
  exact .ite g.beside (.ite g.bumpF.beside.raiseSource g.bumpF.beside)

theorem traceSync (h : Kept pend s) : Kept pend (traceSync s) := h.tracePut

theorem traceRaw (h : Kept pend s) {typ b1 b45 b67 rest zeroDelta} : Kept pend (traceRaw s typ b1 b45 b67 rest
    zeroDelta) :=
  Kept.tracePut (.ite h.traceSync h)

theorem traceCore (h : Kept pend s) {c part kind size place} : Kept pend (traceCore s c part kind size place) :=
  .ite h.traceRaw h

theorem traceDram (h : Kept pend s) {ch part write budgeted size off} : Kept pend (traceDram s ch part write budgeted
    size off) := by
  unfold Machine.traceDram
  split
  · exact .ite h.traceRaw h
  · exact h

theorem tracePacket (h : Kept pend s) {out k} : Kept pend (tracePacket s out k) := .ite h.traceRaw h

theorem traceGate (h : Kept pend s) {start c x} : Kept pend (traceGate s start c x) :=
  .ite h (.ite (Kept.traceRaw (.ite h h.setB.traceSync)) (.ite h.traceRaw.setB h))

theorem cmpPair (h : Kept pend s) {c j a} : Kept pend (cmpPair s c j a).2 := by
  unfold Machine.cmpPair
  dsimp only
  split
  · exact h
  · split
    · exact Kept.setBit (.ite h.setBit h)
    · exact .ite h.setBit h
  · exact h

theorem cmpActs (h : Kept pend s) {c hits} : Kept pend (cmpActs s c hits).2 :=
  .ite (.foldl (fun _ _ h => h.traceGate) (.foldl (fun _ _ h => h.countCore) h)) (.foldl (fun _ _ h => h.traceGate)
    (.foldl (fun _ _ h => h.countCore) h))

theorem compare (h : Kept pend s) {c a} : Kept pend (compare s c a).2 := by
  unfold Machine.compare
  have pairs : ∀ (l : List Nat) (r : List Nat × State), Kept pend r.2 →
      Kept pend (l.foldl (fun r j => let (h, s) := Machine.cmpPair r.2 c j a; (r.1 ++ h, s)) r).2 := by
    intro l
    induction l with
    | nil => exact fun _ h => h
    | cons j l ih => exact fun r h => ih _ h.cmpPair
  dsimp only
  split
  · exact h
  · exact (pairs _ ([], s) h).cmpActs


/-! #### Mem -/

theorem bind (h : Kept pend r.state) {f : α → State → Res β} (hf : ∀ a1 t, Kept pend t → Kept pend (f a1 t).state) :
    Kept pend (Res.bind r f).state := by
  unfold Machine.Res.bind
  split
  · exact hf _ _ h
  · exact h
  · exact h

theorem orWait {α : Type} (h : Kept pend s) {r : Res α} (hr : Kept pend r.state) : Kept pend (Res.orWait s r).state := by
  cases r with
  | stall t => exact h.beside
  | ok a t => exact hr
  | fail e t => exact hr

theorem coreRequest {α : Type} (h : Kept pend s) {c part kind size place} {f : State → Res α}
    (hf : ∀ t, Kept pend t → Kept pend (f t).state) : Kept pend (coreRequest s c part kind size place f).state := by
  unfold Machine.coreRequest
  split
  · exact h.beside
  · exact h.orWait (hf _ h.traceCore)

theorem gateDom (h : Kept pend s) {d} : Kept pend (gateDom s d).state := by
  unfold Machine.gateDom
  dsimp only
  split
  · exact h.beside
  · split
    · exact h.beside.beside
    · exact h.beside.beside

theorem askDom (h : Kept pend s) {d} : Kept pend (askDom s d) := .ite h.beside h.beside.beside

theorem gateUnit (h : Kept pend s) {u} : Kept pend (gateUnit s u).state := by
  unfold Machine.gateUnit
  split
  · exact h
  · split
    · exact h
    · exact h

theorem gate (h : Kept pend s) {u d} : Kept pend (gate s u d).state := by
  unfold Machine.gate
  have dom : Kept pend (match d with | none => Res.ok () s | some d => Machine.gateDom s d).state := by
    split
    · exact h
    · exact h.gateDom
  split
  · split
    · exact dom.ok ‹_›
    · exact (dom.ok ‹_›).gateUnit
  · exact dom

theorem gateOff (h : Kept pend s) {off} : Kept pend (gateOff s off).state := by
  unfold Machine.gateOff
  split
  · split
    · exact h
    · exact h.gate
  · split
    · exact h
    · exact h.gateUnit
  · split
    · exact h
    · exact h
  · split
    · exact h
    · exact h.gate
  · exact h

theorem latchViolation (h : Kept pend s) {x cls part kind safety region off} : Kept pend (latchViolation s x cls part
    kind safety region off) :=
  .ite h.bumpF.countEvent.setF.setF.setF.setB.setB.setF.setF h.bumpF.countEvent

theorem violation (h : Kept pend s) {x cls part kind region off size forceSafety} : Kept pend (violation s x cls part
    kind region off size forceSafety) :=
  .ite h.latchViolation.dregs.raiseTrigger h.latchViolation.dregs

theorem strain (h : Kept pend s) {x cls part kind off size} : Kept pend (strain s x cls part kind off size).2 := by
  unfold Machine.strain
  split
  · exact h
  · dsimp only
    split
    · split
      · exact h
      · exact h.violation
    · exact h.violation

theorem servedWrites (h : Kept pend s) {p} : Kept pend (servedWrites s p) := h.beside

theorem serveBudgeted (h : Kept pend s) {ch} : Kept pend (serveBudgeted s ch) := h.servedWrites

theorem drainWrites (h : Kept pend s) {ch} : Kept pend (drainWrites s ch) := h.servedWrites

theorem acceptWrite (h : Kept pend s) {ch line budgeted} : Kept pend (acceptWrite s ch line budgeted) := h.beside

theorem channelTakes (h : Kept pend s) {ch kind line budgeted} : Kept pend (channelTakes s ch kind line budgeted) :=
  .ite (Kept.acceptWrite (.ite h h.serveBudgeted)) (.ite h h.serveBudgeted)

theorem useChecks (h : Kept pend s) {ch line} : Kept pend (useChecks s ch line) := h.beside

theorem charge (h : Kept pend s) {ch cls part kind off size} : Kept pend (charge s ch cls part kind off size) :=
  ((Kept.channelTakes (.ite h.useChecks.beside h.useChecks)).countEvent).traceDram

theorem memAdmitAs (h : Kept pend s) {cls part kind use off size} : Kept pend (memAdmitAs s cls part kind use off
    size).state := by
  unfold Machine.memAdmitAs
  split
  · have g := h.gateOff.ok ‹_›
    split
    · split
      · have g1 := g.strain.snd ‹_›
        exact .ite g1.charge g1
      · exact g.strain.snd ‹_›
    · exact g
  · exact h.gateOff

theorem memAdmit (h : Kept pend s) {cls part kind off size} : Kept pend (memAdmit s cls part kind off size).state :=
  h.memAdmitAs

theorem eccCorrected (h : Kept pend s) {part c} : Kept pend (eccCorrected s part c) :=
  .ite h.bumpF.countEvent.raiseSource.dregs h.bumpF.countEvent

theorem eccUncorrectable (h : Kept pend s) {c off} : Kept pend (eccUncorrectable s c off) :=
  (Kept.raiseSource (.ite h.bumpF h.bumpF.setF.setB)).dregs

theorem lineKnown (h : Kept pend s) {off} : Kept pend (lineKnown s off) := by
  unfold Machine.lineKnown
  split
  · exact .ite (.ite h.beside h) (Kept.beside (.ite h.beside h))
  · exact h

theorem readLine (h : Kept pend s) {part off} : Kept pend (readLine s part off).state := by
  unfold Machine.readLine
  split
  · split
    · split
      split
      have g1 := (h.takeFree.snd ‹_›).takeFree.snd ‹_›
      dsimp only
      split
      · exact g1.writeBytes.lineKnown
      · exact g1.writeBytes.lineKnown.eccCorrected
      · exact g1.eccUncorrectable
    · split
      · exact h
      · exact h.lineKnown.eccCorrected
      · exact h.eccUncorrectable
  · exact h

theorem writeMem (h : Kept pend s) {part off n v} : Kept pend (writeMem s part off n v).state := by
  unfold Machine.writeMem
  split
  · split
    · exact (h.readLine.ok ‹_›).writeBytes.lineKnown
    · exact h.readLine.fail ‹_›
    · exact h.readLine.stall ‹_›
  · exact h.writeBytes.lineKnown

theorem readMem (h : Kept pend s) {part off n} : Kept pend (readMem s part off n).state := by
  unfold Machine.readMem
  split
  · split
    · exact h.readLine.ok ‹_›
    · exact h.readLine.fail ‹_›
    · exact h.readLine.stall ‹_›
  · exact h


/-! #### Cache -/

theorem putSet (h : Kept pend s) {id set ls} : Kept pend (putSet s id set ls) := h.beside

theorem dropLine (h : Kept pend s) {id line} : Kept pend (dropLine s id line) := by
  unfold Machine.dropLine
  dsimp only
  split
  · exact h.putSet
  · exact h

theorem dropOn (h : Kept pend s) {id line} : Kept pend (dropOn s id line) := .ite h.dropLine h

theorem touchLine (h : Kept pend s) {id x} : Kept pend (touchLine s id x) := h.putSet

theorem alterLine (h : Kept pend s) {id x} : Kept pend (alterLine s id x) := h.putSet

theorem memWriteBack (h : Kept pend s) {x} : Kept pend (memWriteBack s x) :=
  .ite ((Kept.writeBytes (by split; exacts [h.askDom.acceptWrite, h])).lineKnown) h

theorem l3Put (h : Kept pend s) {part line data dirty} : Kept pend (l3Put s part line data dirty) := by
  unfold Machine.l3Put
  dsimp only
  split
  · exact .ite h.memWriteBack h
  · split
    · exact .ite h.askDom.memWriteBack h.askDom
    · split
      · exact h.touchLine
      · split
        · exact h.touchLine.countEvent
        · split
          · exact (Kept.touchLine (.ite h.dropLine.memWriteBack h.dropLine)).countEvent
          · exact .ite h.memWriteBack h

theorem newestUsed (h : Kept pend s) {line} : ∀ x, newestUsed s line = some x → Kept pend x.2 := by
  unfold Machine.newestUsed
  intro x e
  split at e
  · exact Option.some.inj e ▸ h
  · split at e
    · exact Option.some.inj e ▸ h
    · obtain ⟨y, _, rfl⟩ := Option.map_eq_some_iff.mp e
      exact h.touchLine

theorem leaveL1 (h : Kept pend s) {line c} : Kept pend (leaveL1 s line c) := h.dropOn.dropOn

theorem leaveL2 (h : Kept pend s) {line n} : Kept pend (leaveL2 s line n) := .foldl (fun _ _ h => h.dropOn) h.dropOn

theorem pullL1s (h : Kept pend s) {line cs} : Kept pend (pullL1s s line cs).2 := .foldl (fun _ _ h => h.leaveL1) h

theorem evictL2 (h : Kept pend s) {n part x} : Kept pend (evictL2 s n part x) := by
  unfold Machine.evictL2
  split
  have g := h.pullL1s.snd ‹_›
  exact .ite g.leaveL2.dropLine.l3Put g.leaveL2.dropLine

theorem fillL2 (h : Kept pend s) {n part line data dirty} : Kept pend (fillL2 s n part line data dirty) := by
  unfold Machine.fillL2
  dsimp only
  split
  · exact .ite h.l3Put h
  · split
    · exact h.touchLine
    · split
      · exact h.touchLine
      · split
        · exact h.evictL2.touchLine
        · exact h

theorem toVictim (h : Kept pend s) {c part x} : Kept pend (toVictim s c part x) := by
  unfold Machine.toVictim
  dsimp only
  split
  · exact h.putSet
  · split
    · exact .ite h.putSet.fillL2 h.putSet
    · exact h

theorem fillL1 (h : Kept pend s) {c part line data dirty} : Kept pend (fillL1 s c part line data dirty) := by
  unfold Machine.fillL1
  dsimp only
  split
  · exact h
  · split
    · exact h.touchLine
    · split
      · exact h.dropLine.toVictim.touchLine
      · exact h

theorem hitL1 (h : Kept pend s) {c part line} : ∀ x, hitL1 s c part line = some x → Kept pend x.2 := by
  unfold Machine.hitL1
  split
  · exact .given h.touchLine
  · split
    · exact .given h.dropLine.fillL1.countCore
    · exact .absent

theorem sliceGate (h : Kept pend s) {line} : Kept pend (sliceGate s line).state := by
  unfold Machine.sliceGate
  split
  · exact h.gate
  · exact h

theorem missGate (h : Kept pend s) {c line} : Kept pend (missGate s c line).state := by
  unfold Machine.missGate
  have l2 : Kept pend (if cacheOn s (.l2 (clusterOf c)) then Machine.gate s (some (16 + (clusterOf c).val))
      (some (16 + (clusterOf c).val)) else .ok () s).state := by
    split
    · exact h.gate
    · exact h
  dsimp only
  split
  · exact (l2.ok ‹_›).sliceGate
  · exact l2

theorem l3Lookup (h : Kept pend s) {part line} : Kept pend (l3Lookup s part line) := .ite h.countEvent h

theorem missLine (h : Kept pend s) {c part kind line} : Kept pend (missLine s c part kind line).state := by
  refine h.coreRequest fun t h => ?_
  have counted {k : State} (h : Kept pend k) {p : Bool} {ev} : Kept pend (if p then Machine.countCore k ev c else k) :=
    .ite h.countCore h
  split
  · exact h.missGate.fail ‹_›
  · exact h.missGate.stall ‹_›
  · next u hu =>
    have g := counted (h.missGate.ok hu) (p := kind != 2 && cacheOn u (.l1d c)) (ev := 0x03)
    generalize (if kind != 2 && cacheOn u (.l1d c) then Machine.countCore u 0x03 c else u) = v at g
    have seen := (counted g (p := cacheOn v (.l2 (clusterOf c))) (ev := 0x05)).l3Lookup (part := some part) (line := line)
    have l3 : Kept pend (match Machine.newestUsed (Machine.l3Lookup (if cacheOn v (.l2 (clusterOf c)) then
          Machine.countCore v 0x05 c else v) (some part) line) line with
        | some (d, s) => Res.ok d s
        | none =>
          match Machine.memAdmitAs (Machine.l3Lookup (if cacheOn v (.l2 (clusterOf c)) then
              Machine.countCore v 0x05 c else v) (some part) line) 0 (some part) kind 0 (line * 64) 64 with
          | .ok _ s =>
            (match Machine.readLine s (some part) (line * 64) with
             | .ok d s => .ok d (Machine.l3Put s (some part) line d false)
             | r => r)
          | .fail e s => .fail e s
          | .stall s => .stall s).state := by
      split
      · exact seen.newestUsed _ ‹_›
      · split
        · have r := (seen.memAdmitAs.ok ‹_›).readLine (part := some part) (off := line * 64)
          split
          · exact (r.ok ‹_›).l3Put
          · exact r
        · exact seen.memAdmitAs.fail ‹_›
        · exact seen.memAdmitAs.stall ‹_›
    dsimp only
    split
    · refine Kept.fillL2 (Kept.ok ?_ ‹_›)
      split
      · exact g
      · exact l3
    · split
      · exact g
      · exact l3

theorem cachedLine (h : Kept pend s) {c part kind line} : Kept pend (cachedLine s c part kind line).state := by
  unfold Machine.cachedLine
  split
  · exact h.hitL1 _ ‹_›
  · split
    · exact (h.missLine.ok ‹_›).fillL1
    · exact h.missLine

theorem fillL1i (h : Kept pend s) {c line data} : Kept pend (fillL1i s c line data) := by
  unfold Machine.fillL1i
  dsimp only
  split
  · exact h
  · split
    · exact h.touchLine
    · split
      · exact h.dropLine.touchLine
      · exact h

theorem fetchedLine (h : Kept pend s) {c part line} : Kept pend (fetchedLine s c part line).state := by
  unfold Machine.fetchedLine
  split
  · exact h.touchLine
  · split
    · exact (h.missLine.ok ‹_›).fillL1i
    · exact h.missLine

theorem snoopOut (h : Kept pend s) {c line} : Kept pend (snoopOut s c line) :=
  .foldl (fun _ _ h => h.leaveL2) (.foldl (fun _ _ h => h.leaveL1) h)

theorem putWb (h : Kept pend s) {c line x} : Kept pend (putWb s c line x).state := by
  unfold Machine.putWb
  dsimp only
  split
  · exact h.snoopOut.touchLine
  · split
    · exact h.snoopOut.touchLine
    · split
      · exact h.snoopOut.touchLine
      · exact h.snoopOut.writeMem

theorem storeWb (h : Kept pend s) {c part kind line upd} : Kept pend (storeWb s c part kind line upd).state := by
  unfold Machine.storeWb
  split
  · have g := h.cachedLine.ok ‹_›
    split
    · exact g.putWb.ok ‹_›
    · exact g.putWb.fail ‹_›
    · exact g.putWb.stall ‹_›
  · exact h.cachedLine

theorem updateIn (h : Kept pend s) {c line upd ids} : Kept pend (updateIn s c line upd ids) :=
  .foldl (fun _ _ h => by split; exacts [by split; exacts [.ite h.touchLine h.alterLine, h.alterLine, h.touchLine],
    h]) h

theorem otherClusters (h : Kept pend s) {c line} : Kept pend (otherClusters s c line) :=
  .foldl (fun _ _ h => Kept.leaveL2 (.foldl (fun _ _ h => h.leaveL1) h)) h

theorem storeThrough (h : Kept pend s) {c part line off n v} : Kept pend (storeThrough s c part line off n v).state :=
    by
  unfold Machine.storeThrough
  refine h.coreRequest fun _ h' => ?_
  split
  · exact ((h'.sliceGate.bind (fun _ _ h => h.memAdmit)).ok ‹_›).l3Lookup.updateIn.otherClusters.writeMem
  · have g2 := (h'.sliceGate.bind (fun _ _ h => h.memAdmit)).fail ‹_›
    exact .ite g2 (.foldl (fun _ _ h => h.dropOn) g2)
  · exact (h'.sliceGate.bind (fun _ _ h => h.memAdmit)).stall ‹_›

theorem snoopRead (h : Kept pend s) {cls part kind off n} : Kept pend (snoopRead s cls part kind off n).state := by
  unfold Machine.snoopRead
  dsimp only
  split
  · next t ht =>
    have seen := (h.sliceGate.ok ht).l3Lookup (part := shownPart cls part) (line := off / 64)
    generalize Machine.l3Lookup t (shownPart cls part) (off / 64) = u at seen
    have inL3 {k : Nat} : ∀ x, (if kind = 0 ∧ l3Holds (off / 64) then Machine.newestUsed u k else none) = some x →
        Kept pend x.2 := by
      split
      · exact seen.newestUsed
      · exact absent
    split
    · exact inL3 _ ‹_›
    · split
      · next v hv =>
        have g := (seen.memAdmit (cls := cls)).ok hv
        split
        · exact g.newestUsed _ ‹_›
        · split
          · split
            · exact (g.readLine.ok ‹_›).l3Put
            · exact g.readLine
          · exact g
      · exact seen.memAdmit.fail ‹_›
      · exact seen.memAdmit.stall ‹_›
  · exact h.sliceGate.fail ‹_›
  · exact h.sliceGate.stall ‹_›

theorem snoopPut (h : Kept pend s) {part off n v} : Kept pend (snoopPut s part off n v).state := by
  unfold Machine.snoopPut
  dsimp only
  split
  · exact (Kept.touchLine (.foldl (fun _ _ h => h.leaveL2) (.foldl (fun _ _ h => h.leaveL1) h))).writeMem
  · split
    · exact Kept.writeMem (.foldl (fun _ _ h => h.leaveL2) (.foldl (fun _ _ h => h.leaveL1) h))
    · exact Kept.writeMem (.foldl (fun _ _ h => h.leaveL2) (.foldl (fun _ _ h => h.leaveL1) h))

theorem snoopWrite (h : Kept pend s) {cls part kind off n v} : Kept pend (snoopWrite s cls part kind off n v).state :=
    by
  unfold Machine.snoopWrite
  split
  · exact ((h.sliceGate.bind (fun _ _ h => h.memAdmit)).ok ‹_›).l3Lookup.snoopPut
  · exact (h.sliceGate.bind (fun _ _ h => h.memAdmit)).fail ‹_›
  · exact (h.sliceGate.bind (fun _ _ h => h.memAdmit)).stall ‹_›

theorem cleanLine (h : Kept pend s) {line} : Kept pend (cleanLine s line) := by
  unfold Machine.cleanLine
  dsimp only
  split
  · exact Kept.memWriteBack (.foldl (fun _ _ h => by split; exacts [h.alterLine, h]) h)
  · exact h

theorem discardLine (h : Kept pend s) {line} : Kept pend (discardLine s line) :=
  .foldl (fun _ _ h => h.leaveL2) (.foldl (fun _ _ h => h.dropOn) h)

theorem emptyCache (h : Kept pend s) {id} : Kept pend (emptyCache s id) := h.beside

theorem unsweep (h : Kept pend s) {id} : Kept pend (unsweep s id) := h.beside

theorem setOrphan (h : Kept pend s) {id b} : Kept pend (setOrphan s id b) := by
  unfold Machine.setOrphan
  split
  · exact h.setB
  · exact h.setB
  · exact h.setB
  · exact h.setB
  · exact h

theorem refreshOrphan (h : Kept pend s) {id} : Kept pend (refreshOrphan s id) := h.setOrphan


/-! #### ResetOps -/

theorem dregsOpen (h : Kept pend s) {cls} : Kept pend (dregsOpen s cls) := by
  unfold Machine.dregsOpen
  split
  split
  exact ((h.takeFree.snd ‹_›).takeFree.snd ‹_›).dregsFree

theorem selfRefreshEntry (h : Kept pend s) : Kept pend (selfRefreshEntry s) :=
  .foldl (fun _ _ h => .ite h.drainWrites.setF.beside h) h

theorem traceStop (h : Kept pend s) : Kept pend (traceStop s) := h.setB

theorem causeBit (h : Kept pend s) {kind} : Kept pend (causeBit s kind) := by
  unfold Machine.causeBit
  split
  · exact h.setB
  · exact h.setB
  · exact h.setB
  · exact h.setB
  · exact h.setB
  · exact h.setB

theorem caddyToReset (h : Kept pend s) : Kept pend (caddyToReset s) := by
  have g : Kept pend ((List.range 32).foldl (fun s i => s.setB F.IF_STAT_CSIGN i false)
      (s.setCpu .caddy { ({} : Cpu) with epochNo := (s.cpu .caddy).epochNo })) := .foldl (fun _ _ h => h.setB) h.setCpu
  unfold Machine.caddyToReset
  dsimp only
  generalize (List.range 32).foldl _ _ = u at g ⊢
  obtain ⟨mem, cpus, queue⟩ := g
  exact ⟨mwf_filter _ _ _ mem, cpus, queue⟩

theorem caddyRegsReset (h : Kept pend s) : Kept pend (caddyRegsReset s) := .foldl (fun _ _ h => h.setF) h

theorem noteCause (h : Kept pend s) {kind} : Kept pend (noteCause s kind) := h.causeBit.beside

theorem warmKind (h : Kept pend s) {kind core} : Kept pend (warmKind s kind core) :=
  .ite h.setF.beside.setF.dregs h.setF.beside.dregsFree

theorem dropWarmRecord (h : Kept pend s) : Kept pend (dropWarmRecord s) := h.beside

theorem warmStart (h : Kept pend s) {kind core} : Kept pend (warmStart s kind core) :=
  .ite h.noteCause (.ite (.ite h.noteCause.dropWarmRecord.warmKind h.noteCause) (.ite
    h.noteCause.caddyToReset.caddyRegsReset h.noteCause.setB.setB.bumpF.warmKind.selfRefreshEntry.traceStop))

theorem mbDone (h : Kept pend s) {c} : Kept pend (mbDone s c) := .ite h.setF.raiseSource h.setF

theorem caddyRestart (h : Kept pend s) {cause} : Kept pend (caddyRestart s cause) :=
  by unfold Machine.caddyRestart; exact .ite (((((Kept.raiseSource (.foldl (fun _ _ h => .ite
    h.setB.bumpF.writeBytes.mbDone h.setB.bumpF)
    h.caddyToReset.dregsFree.setF.bumpF.setB)).beside).setB).dregsFree).beside) ((Kept.raiseSource (.foldl (fun _ _ h
    => .ite h.setB.bumpF.writeBytes.mbDone h.setB.bumpF) h.caddyToReset.dregsFree.setF.bumpF.setB)).beside)


/-! #### Trans -/

theorem toX (h : Kept pend r.state) {access va} : Kept pend (Res.toX r access va).state := by
  unfold Machine.Res.toX
  split
  · exact h
  · exact h
  · exact h

theorem xbind (h : Kept pend r.state) {f : α → State → XRes β} (hf : ∀ a1 t, Kept pend t → Kept pend (f a1 t).state) :
    Kept pend (XRes.bind r f).state := by
  unfold Machine.XRes.bind
  split
  · exact hf _ _ h
  · exact h
  · exact h

theorem walkRead (h : Kept pend s) {c part off} : Kept pend (walkRead s c part off).state := by
  unfold Machine.walkRead
  split
  · exact h
  · exact h
  · dsimp only
    split
    · exact h
    · refine h.coreRequest fun t h => ?_
      split
      · exact h.fillL2
      · split
        · exact h.missGate.fail ‹_›
        · exact h.missGate.stall ‹_›
        · next u hu =>
          have g := h.missGate.ok hu
          have seen : Kept pend (Machine.l3Lookup (if cacheOn u (.l2 (clusterOf c)) then Machine.countCore u 0x05 c else u)
            (some part) (off / 64)) := (Kept.ite g.countCore g).l3Lookup
          split
          · exact (seen.newestUsed _ ‹_›).fillL2
          · split
            · have g := seen.memAdmit.ok ‹_›
              split
              · exact (g.readLine.ok ‹_›).l3Put.fillL2
              · exact g.readLine.fail ‹_›
              · exact g.readLine.stall ‹_›
            · exact seen.memAdmit.fail ‹_›
            · exact seen.memAdmit.stall ‹_›

theorem walk (h : Kept pend s) {c part asid va access n level a} :
    Kept pend (walk s c part asid va access n level a).state := by
  induction n generalizing s level a with
  | zero => exact h
  | succ n ih =>
    unfold Machine.walk
    dsimp only
    split
    · exact h.walkRead.fail ‹_›
    · exact h.walkRead.stall ‹_›
    · have g := h.walkRead.ok ‹_›
      split
      · exact g
      · split
        · exact g
        · split
          · exact ih g
          · exact g

theorem keepWake (h : Kept pend s) {t'} : Kept pend (keepWake s t') := h.beside

theorem lookup (h : Kept pend s) {c va access} : Kept pend (lookup s c va access).state := by
  unfold Machine.lookup
  dsimp only
  split
  · exact h
  · split
    · exact h
    · split
      · exact h.setCpu
      · split
        · exact (h.countCore.walk.xok ‹_›).setCpu.setCpu
        · exact h.keepWake
        · exact h.countCore.walk

theorem translateAs (h : Kept pend s) {c va chk access ring} : Kept pend (translateAs s c va chk access ring).state := by
  refine h.lookup.xbind fun t u h => ?_
  dsimp only
  split
  · exact h
  · split
    · exact h
    · split
      · exact h
      · exact h

theorem resolveAs (h : Kept pend s) {c va chk access} : Kept pend (resolveAs s c va chk access).state := by
  unfold Machine.resolveAs
  dsimp only
  split
  · split
    · exact h
    · exact h
  · exact h.translateAs

theorem sbPush (h : Kept pend s) {p line rtype st} : KeptIn pend (sbPush s p line rtype st) := by
  unfold Machine.sbPush
  dsimp only
  split
  · split
    · exact .some h.setCpu
    · split
      · exact .some h.setCpu
      · exact .none
  · split
    · exact .some h.setCpu
    · exact .none


/-! #### Proc -/

theorem setG (h : Kept pend s) {p r v} : Kept pend (State.setG s p r v) := h.setCpu

theorem setV (h : Kept pend s) {p r v} : Kept pend (State.setV s p r v) := h.setCpu

theorem onSt (h : Kept pend s) {p f} : Kept pend (State.onSt s p f) := h.setCpu

theorem enterMachine (h : Kept pend s) {c offset cause sub mepc eaddr} : Kept pend (enterMachine s c offset cause sub
    mepc eaddr) :=
  h.setCpu.countCore

theorem doubleFault (h : Kept pend s) {c e' mepc frame} : Kept pend (doubleFault s c e' mepc frame) :=
  h.dregsFree.enterMachine.raiseTrigger

theorem tripleFault (h : Kept pend s) {c e'} : Kept pend (tripleFault s c e') := h.setCpu.dregs.warmStart

theorem reserveFrame (h : Kept pend s) {c b mepc} : Kept pend (reserveFrame s c b mepc) :=
  .ite (.ite h.doubleFault h.setCpu) h.setCpu

theorem pushFrame (h : Kept pend s) {c a l} : Kept pend (pushFrame s c a l).state := by
  induction l generalizing s with
  | nil => exact h
  | cons x l ih =>
    unfold Machine.pushFrame
    refine h.resolveAs.xbind fun x u h => ?_
    split
    · exact h
    · split
      · exact h
      · split
        · exact h
        · split
          · exact ih (h.sbPush _ ‹_›)
          · exact h

theorem writeFrame (h : Kept pend s) {c} : Kept pend (writeFrame s c).state := by
  unfold Machine.writeFrame
  dsimp only
  split
  · split
    · exact (h.pushFrame.xok ‹_›).setCpu
    · exact h.pushFrame.xexc ‹_›
    · exact h.keepWake
  · exact h

theorem enterBank (h : Kept pend s) {c cause sub epc eaddr ring maskIe reserve vec} : Kept pend (enterBank s c cause
    sub epc eaddr ring maskIe reserve vec) :=
  .ite h.setCpu.countCore.reserveFrame h.setCpu.countCore

theorem raised (h : Kept pend s) {c e'} : Kept pend (raised s c e') := .ite h.setCpu (.ite h.setB.setCpu h)

theorem coreExc (h : Kept pend s) {c e' epc} : Kept pend (coreExc s c e' epc) := by
  unfold Machine.coreExc
  dsimp only
  split
  · exact .ite h.tripleFault h.raised.enterMachine
  · split
    · exact h.raised.doubleFault
    · split
      · exact h.raised.enterMachine
      · split
        · exact (h.writeFrame.xexc ‹_›).doubleFault
        · exact (h.writeFrame.xstall ‹_›).setCpu
        · exact (h.writeFrame.xok ‹_›).raised.enterBank

theorem enterOne (h : Kept pend s) {p e' epc vec} : Kept pend (enterOne s p e' epc vec) := h.setCpu

theorem infuserStop (h : Kept pend s) {i state} : Kept pend (infuserStop s i state) := h.setCpu.setF.setB.setB

theorem infuserExc (h : Kept pend s) {i e' epc} : Kept pend (infuserExc s i e' epc) :=
  .ite h.infuserStop.setF.setF.raiseSource.dregsFree h.enterOne

theorem caddyExc (h : Kept pend s) {e' epc} : Kept pend (caddyExc s e' epc) := by
  unfold Machine.caddyExc
  split
  · exact h.caddyRestart
  · split
    exact (h.takeFree.snd ‹_›).enterOne

theorem takeExc (h : Kept pend s) {p e' epc} : Kept pend (takeExc s p e' epc) := by
  unfold Machine.takeExc
  split
  · exact h.coreExc
  · exact h.infuserExc
  · exact h.caddyExc

theorem countDone (h : Kept pend s) {p} : Kept pend (countDone s p) := by
  unfold Machine.countDone
  split
  · exact h.countCore
  · exact h.countEvent
  · exact h

theorem debugStep (h : Kept pend s) {p bank} : Kept pend (debugStep s p bank) := by
  unfold Machine.debugStep
  split
  · exact .ite (.ite h.setB.coreExc (.ite h.setB h.setB.setCpu)) h
  · exact h

theorem retire (h : Kept pend s) {p pc npc keepPending} : Kept pend (retire s p pc npc keepPending) :=
  h.setCpu.countDone.debugStep

theorem andThen (h : Kept pend r.state) {f : α → State → IRes} (hf : ∀ a1 t, Kept pend t → Kept pend (f a1 t).state) :
    Kept pend (XRes.then r f).state := by
  unfold Machine.XRes.then
  split
  · exact hf _ _ h
  · exact h
  · exact h

theorem finish (h : Kept pend r.state) {p pc} : Kept pend (finish p pc r) := by
  unfold Machine.finish
  split
  · exact h.retire
  · exact h.retire
  · exact h.retire
  · exact .ite h.setCpu h.takeExc
  · exact h.setCpu
  · exact h

theorem runInstr (h : Kept pend s) {p who} {body : State → IRes} (hbody : ∀ t, Kept pend t → Kept pend (body t).state) :
    Kept pend (runInstr p who body s) := by
  unfold Machine.runInstr
  have after (dbg : Bool) {pc} {u} (h : Kept pend u) : Kept pend (if dbg then Machine.finish p pc (.exc ⟨cDebug, 2, none⟩ u)
      else if who.admits p then Machine.finish p pc (body u) else Machine.finish p pc (.exc illegal u)) :=
    have refused {e} : Kept pend (Machine.finish p pc (.exc e u)) := Kept.finish (r := .exc e u) h
    .ite refused (.ite (hbody _ h).finish refused)
  dsimp only
  split
  · split
    · exact h.takeExc
    · cases p with
      | core c =>
        dsimp only
        split
        · exact after _ h.compare
        · exact after _ h
      | infuser i => exact after _ h
      | caddy => exact after _ h
  · exact h

theorem fpFirst (h : Kept pend s) {c} {body : State → IRes} (hbody : ∀ t, Kept pend t → Kept pend (body t).state) :
    Kept pend (fpFirst s c body).state := by
  unfold Machine.fpFirst
  split
  · exact h
  · split
    · exact hbody _ (h.writeFrame.xok ‹_›)
    · exact (h.writeFrame.xexc ‹_›).doubleFault
    · exact h.writeFrame.xstall ‹_›

theorem runFp (h : Kept pend s) {p early} {body : State → IRes} (hbody : ∀ t, Kept pend t → Kept pend (body t).state)
    : Kept pend (runFp p early body s) := by
  unfold Machine.runFp
  refine h.runInstr fun _ h' => ?_
  split
  · exact h'
  · split
    · exact h'.fpFirst (fun _ h => hbody _ h)
    · exact h'


/-! #### RegWrite -/

theorem ignoreWarn (h : Kept pend s) {w} : Kept pend (ignoreWarn s w) := h.warnIgnored

theorem atRing0 (h : Kept pend s) {w} {f : State → State} (hf : ∀ t, Kept pend t → Kept pend (f t)) : Kept pend
    (atRing0 s w f) :=
  .ite (hf _ h) h.ignoreWarn

theorem atMachine (h : Kept pend s) {w} {f : State → State} (hf : ∀ t, Kept pend t → Kept pend (f t)) : Kept pend
    (atMachine s w f) :=
  .ite (hf _ h) h.ignoreWarn

theorem putField (h : Kept pend s) {w f i unit} : Kept pend (putField s w f i unit) := by
  unfold Machine.putField
  split
  · exact h
  · split
    · exact h
    · exact h
    · exact h.setF
    · exact h.setF
    · exact .ite (.ite h h.setF) h.setF
    · exact h.setF
    · exact .ite h.setF.dropSh h.setSh

theorem putFields (h : Kept pend s) {w fs i unit} : Kept pend (putFields s w fs i unit) :=
  .foldl (fun _ _ h => h.putField) h

theorem rowFault (h : Kept pend s) {q code} : Kept pend (rowFault s q code) := by
  unfold Machine.rowFault
  have take {p : Proc} : Kept pend (if (s.cpu p).run == .running then
      Machine.takeExc s.takeFree.2 p (busError code aStore (Config.freeWord s.takeFree.1)) (s.takeFree.2.cpu p).pc
      else s) := .ite h.takeFree.takeExc h
  cases q with
  | core c => exact take
  | infuser i => exact take
  | caddy => exact take
  | _ => exact h


/-! #### CacheCtl -/

theorem waymaskWrite (h : Kept pend s) {w p} : Kept pend (waymaskWrite s w p) := h.atMachine (fun _ h => h.putField)

theorem l3LockRegWrite (h : Kept pend s) {w} : Kept pend (l3LockRegWrite s w) := h.atMachine (fun _ h => h.putField)

theorem setSweptFlag (h : Kept pend s) {id b} : Kept pend (setSweptFlag s id b) := by
  unfold Machine.setSweptFlag
  split
  · exact h.setB
  · exact h.setB
  · exact h.setB
  · exact h.setB
  · exact h.setB

theorem disableCache (h : Kept pend s) {id} : Kept pend (disableCache s id) :=
  .ite (((Kept.setSweptFlag (.foldl (fun _ _ h => h.unsweep) h)).refreshOrphan).dregsNamed) ((Kept.setSweptFlag
    (.foldl (fun _ _ h => h.unsweep) h)).refreshOrphan)

theorem icInvalidate (h : Kept pend s) {c} : Kept pend (icInvalidate s c) := h.emptyCache.setB

theorem cctlWrite (h : Kept pend s) {w c} : Kept pend (cctlWrite s w c) :=
  h.atMachine (fun _ h => .ite h.ignoreWarn (.ite (Kept.disableCache (.ite (Kept.icInvalidate (.ite h.setB.setB.setB
    h.setB.setB)) (.ite h.setB.setB.setB h.setB.setB))) (.ite (Kept.icInvalidate (.ite h.setB.setB.setB h.setB.setB))
    (.ite h.setB.setB.setB h.setB.setB))))

theorem l2ctlWrite (h : Kept pend s) {w n} : Kept pend (l2ctlWrite s w n) :=
  h.atMachine (fun _ h => .ite (.ite h.setB h.ignoreWarn) (.ite (.ite h.ignoreWarn h.setB.disableCache) h))

theorem slctlWrite (h : Kept pend s) {w x} : Kept pend (slctlWrite s w x) :=
  h.atMachine (fun _ h => .ite (.ite h.setB h.ignoreWarn) (.ite h.setB.disableCache h))

theorem sweepWay (h : Kept pend s) {id set w} : Kept pend (sweepWay s id set w) :=
  .ite h (.ite h.beside (.ite h.beside.beside.setSweptFlag h.beside.beside))

theorem invalidateIn (h : Kept pend s) {id x} : Kept pend (invalidateIn s id x) := by
  unfold Machine.invalidateIn
  split
  · exact .foldl (fun _ _ h => h.dropLine.dropLine.dropLine) h.dropLine
  · exact h.dropLine

theorem pushDown (h : Kept pend s) {c part id x} : Kept pend (pushDown s c part id x) := by
  unfold Machine.pushDown
  split
  · exact h.memWriteBack
  · exact h.l3Put
  · exact h.fillL2

theorem wayOp (h : Kept pend s) {c id set clean inval w} : Kept pend (wayOp s c id set clean inval w) := by
  unfold Machine.wayOp
  dsimp only
  have invalidate {t : State} {x} (h : Kept pend t) : Kept pend (if inval then Machine.invalidateIn t id x else t) :=
    .ite h.invalidateIn h
  split
  · refine invalidate (.ite ?_ h)
    split
    · exact h.pushDown.alterLine
    · exact h.pushDown
  · exact h

theorem resBind {α β : Type} {r : Res α} (h : Kept pend r.state) {f : α → State → Res β}
    (hf : ∀ a t, Kept pend t → Kept pend (f a t).state) : Kept pend (r.bind f).state := by
  cases r with
  | ok a t => exact hf a t h
  | fail e t => exact h
  | stall t => exact h

theorem setWayGate (h : Kept pend s) {c id set} : Kept pend (setWayGate s c id set).state := by
  unfold Machine.setWayGate
  dsimp only
  split
  · exact h.gate
  · refine h.gate.resBind fun _ t h => ?_
    split
    · exact h.gate
    · exact h
  · split
    · exact h.gate
    · exact h

theorem refreshOrphans (h : Kept pend s) {id} : Kept pend (refreshOrphans s id) := by
  unfold Machine.refreshOrphans
  split
  · exact .foldl (fun _ _ h => h.refreshOrphan) h.refreshOrphan
  · exact h.refreshOrphan

theorem setWayOps (h : Kept pend s) {c id set ways clean inval} : Kept pend (setWayOps s c id set ways clean inval) :=
  Kept.refreshOrphans (.foldl (fun _ _ h => .ite h.wayOp.sweepWay h.wayOp) h)

theorem cacheSetWay (h : Kept pend s) {c clean inval ga} : Kept pend (cacheSetWay s c clean inval ga).state := by
  unfold Machine.cacheSetWay
  split
  · exact h
  · split
    · exact h.setWayGate.fail ‹_›
    · exact h.setWayGate.stall ‹_›
    · exact (h.setWayGate.ok ‹_›).setWayOps

theorem cacheReturn (h : Kept pend s) {id} : Kept pend (cacheReturn s id) :=
  Kept.setOrphan (by split; exacts [(Kept.setSweptFlag (.foldl (fun _ _ h => h.emptyCache) h)).icInvalidate,
    Kept.setSweptFlag (.foldl (fun _ _ h => h.emptyCache) h)])

theorem cacheReset (h : Kept pend s) {id} : Kept pend (cacheReset s id) := by
  unfold Machine.cacheReset
  dsimp only
  split
  · exact (((((Kept.setSweptFlag (.foldl (fun _ _ h => h.emptyCache.unsweep)
      h)).setOrphan).emptyCache).setB).setB).setB
  · exact ((Kept.setSweptFlag (.foldl (fun _ _ h => h.emptyCache.unsweep) h)).setOrphan).setB
  · exact ((Kept.setSweptFlag (.foldl (fun _ _ h => h.emptyCache.unsweep) h)).setOrphan).setB
  · exact (Kept.setSweptFlag (.foldl (fun _ _ h => h.emptyCache.unsweep) h)).setOrphan
  · exact (Kept.setSweptFlag (.foldl (fun _ _ h => h.emptyCache.unsweep) h)).setOrphan

theorem clusterEmpty (h : Kept pend s) {n} : Kept pend (clusterEmpty s n) :=
  .foldl (fun _ _ h => h.emptyCache.emptyCache.emptyCache) h

theorem flushCore (h : Kept pend s) {c} : Kept pend (flushCore s c) :=
  .ite h (.foldl (fun _ _ h => .ite h.fillL2.dropLine.dropLine h) h)


/-! #### Domain -/

theorem resetElems (h : Kept pend s) {col lo hi f} : Kept pend (resetElems s col lo hi f) := .ite h h.beside

theorem resetGroups (h : Kept pend s) {col lo hi gs} : Kept pend (resetGroups s col lo hi gs) :=
  .foldl (fun _ _ h => .foldl (fun _ _ h => h.resetElems) h) h

theorem applyShadows (h : Kept pend s) {gs} : Kept pend (applyShadows s gs) :=
  .foldl (fun _ _ h => .foldl (fun _ _ h => .ite (.foldl (fun _ _ h => h.setF) h) h) h) h

theorem domUnready (h : Kept pend s) {d} : Kept pend (domUnready s d) := .foldl (fun _ _ h => h.setReady.beside) h

theorem coreLose (h : Kept pend s) {c run} : Kept pend (coreLose s c run) :=
  ((Kept.setCpu (.foldl (fun _ _ h => h.icRelease) h)).cacheReset).setB

theorem infuserRegs (h : Kept pend s) {col i} : Kept pend (infuserRegs s col i) := h.resetGroups.resetGroups.resetGroups

theorem domainRegs (h : Kept pend s) {col d} : Kept pend (domainRegs s col d) :=
  .ite h (.ite h.resetGroups (.ite h.resetGroups (.ite (.foldl (fun _ _ h => h.infuserRegs) h) (.ite h.resetGroups
    (.ite h.resetGroups (.ite h.resetGroups (.ite h.resetGroups h)))))))

theorem infuserLose (h : Kept pend s) {i} : Kept pend (infuserLose s i) :=
  have ⟨mem, cpus, queue⟩ := h.setCpu (p := .infuser i)
  ⟨mwf_mdrop _ _ _ _ mem, cpus, queue⟩

theorem portsStatus (h : Kept pend s) {lo hi} : Kept pend (portsStatus s lo hi) := h.beside

theorem channelLose (h : Kept pend s) {c} : Kept pend (channelLose s c) := h.setBit.setBit.beside

theorem wakeOver (h : Kept pend s) {d} : Kept pend (wakeOver s d) := h.beside

theorem domLose (h : Kept pend s) {d} : Kept pend (domLose s d) :=
  .ite h.domainRegs.coreLose (.ite h.domainRegs.cacheReset (.ite h.domainRegs.cacheReset (.ite
    h.domainRegs.channelLose (.ite h.domainRegs.beside (.ite h.domainRegs.beside (.ite (.foldl (fun _ _ h =>
    h.infuserLose) h.domainRegs) (.ite h.domainRegs.beside (.ite h.domainRegs.beside (.ite h.domainRegs.beside (.ite
    h.domainRegs.beside h.domainRegs))))))))))

theorem domOff (h : Kept pend s) {d} : Kept pend (domOff s d) := h.domLose.domUnready.setF.wakeOver

theorem domRet (h : Kept pend s) {d} : Kept pend (domRet s d) :=
  (Kept.setF (.ite h.domainRegs.flushCore (.ite h.domainRegs.clusterEmpty (.ite (.ite h.domainRegs.drainWrites.beside
    h.domainRegs) (.ite h.domainRegs.beside (.ite h.domainRegs.beside (.ite h.domainRegs.portsStatus (.ite
    h.domainRegs.portsStatus.beside h.domainRegs)))))))).wakeOver

theorem domBack (h : Kept pend s) {d} : Kept pend (domBack s d) :=
  (Kept.setF (.ite (Kept.beside (.ite (.foldl (fun _ _ h => h.setCpu) h) (.ite (.ite h.cacheReset (.ite h.cacheReset
    (.ite h.cacheReset h))) (.ite h.cacheReturn.setCpu (.ite h.cacheReturn (.ite h.cacheReturn (.ite h.applyShadows
    (.ite h.applyShadows (.ite h.applyShadows h))))))))) (.ite (.foldl (fun _ _ h => h.setCpu) h) (.ite (.ite
    h.cacheReset (.ite h.cacheReset (.ite h.cacheReset h))) (.ite h.cacheReturn.setCpu (.ite h.cacheReturn (.ite
    h.cacheReturn (.ite h.applyShadows (.ite h.applyShadows (.ite h.applyShadows h)))))))))).wakeOver


/-! #### Kettle -/

theorem disarm (h : Kept pend s) : Kept pend (disarm s) := h.setB.dregsFree

theorem saferelWrite (h : Kept pend s) {w} : Kept pend (saferelWrite s w) := by
  unfold Machine.saferelWrite
  split
  · exact .ite (.ite h.setB.setF (.ite h.setB.setB.dregsFree.raiseSource h.disarm)) h.ignoreWarn
  · exact h.ignoreWarn

theorem sovalWrite (h : Kept pend s) {w} : Kept pend (sovalWrite s w) := .ite h.putFields h.ignoreWarn

theorem safelvlWrite (h : Kept pend s) {w} : Kept pend (safelvlWrite s w) := .ite h.putField h.ignoreWarn

theorem safectlWrite (h : Kept pend s) {w} : Kept pend (safectlWrite s w) := h.atMachine (fun _ h => h.putField)

theorem settleSafeInputs (h : Kept pend s) : Kept pend (settleSafeInputs s) := .ite h.clearTrigger h

theorem refreshPair (h : Kept pend s) {n} : Kept pend (refreshPair s n) :=
  Kept.settleSafeInputs (.ite h.setBit h.setBit.setBit)

theorem sincfgWrite (h : Kept pend s) {w n} : Kept pend (sincfgWrite s w n) := .ite h h.putFields.refreshPair

theorem settleJoy (h : Kept pend s) : Kept pend (settleJoy s) :=
  by unfold Machine.settleJoy; exact .ite (Kept.raiseTrigger (.foldl (fun _ _ h => h.setB) h)) (.ite
    (Kept.clearTrigger (.foldl (fun _ _ h => h.setB) h)) (.foldl (fun _ _ h => h.setB) h))

theorem joyOne (h : Kept pend s) {j a b} : Kept pend (joyOne s j a b) :=
  .ite (.ite h.setF.setF.setB.beside.beside.raiseSource.dregsFree h.setF.setF.setB.beside)
    h.setF.setF.setB.setF.beside

theorem joyAll (h : Kept pend s) {j l} : Kept pend (joyAll s j l) := by
  induction l generalizing s j with
  | nil => exact h
  | cons x l ih => exact .ite (ih h.joyOne) h

theorem joyRailOff (h : Kept pend s) : Kept pend (joyRailOff s) :=
  by unfold Machine.joyRailOff; exact (Kept.beside (.foldl (fun _ _ h => h.setB) h)).settleJoy

theorem joycfgWrite (h : Kept pend s) {w j} : Kept pend (joycfgWrite s w j) := .ite h h.putFields.settleJoy

theorem wdExpire (h : Kept pend s) : Kept pend (wdExpire s) :=
  .ite h.setB.raiseTrigger.dregsFree.setF.warmStart h.setB.raiseTrigger.dregsFree.setF

theorem wdkickWrite (h : Kept pend s) {w} : Kept pend (wdkickWrite s w) :=
  h.atRing0 (fun _ h => .ite h.putField (.ite h.putField.setF h.putField.wdExpire))

theorem wdcfgWrite (h : Kept pend s) {w} : Kept pend (wdcfgWrite s w) :=
  h.atMachine (fun _ h => Kept.putField (.ite (Kept.setF (.ite h h.putFields)) (.ite h h.putFields)))

theorem takeTemps (h : Kept pend s) {ts} : Kept pend (takeTemps s ts) := h.beside.setF

theorem temperatureSample (h : Kept pend s) {ts} : Kept pend (temperatureSample s ts) :=
  .ite (.ite (((Kept.beside (.ite (.ite h.takeTemps h.takeTemps.beside.superEvent.dregs) (.ite h.takeTemps.beside
    h.takeTemps))).dregs).raiseTrigger) (Kept.beside (.ite (.ite h.takeTemps h.takeTemps.beside.superEvent.dregs)
    (.ite h.takeTemps.beside h.takeTemps)))) (.ite ((Kept.beside (.ite (.ite h.takeTemps
    h.takeTemps.beside.superEvent.dregs) (.ite h.takeTemps.beside h.takeTemps))).clearTrigger) (Kept.beside (.ite
    (.ite h.takeTemps h.takeTemps.beside.superEvent.dregs) (.ite h.takeTemps.beside h.takeTemps))))

theorem ktTempWrite (h : Kept pend s) {w} : Kept pend (ktTempWrite s w) := .ite h h.putField

theorem setLogSlot (h : Kept pend s) {i r} : Kept pend (setLogSlot s i r) := h.beside

theorem matchPut (h : Kept pend s) {r i} : Kept pend (matchPut s r i) := h.beside

theorem dregsReplace (h : Kept pend s) {r warn} : Kept pend (dregsReplace s r warn) := by
  unfold Machine.dregsReplace
  split
  · exact h.dregsLost.setLogSlot.matchPut
  · exact h.dregsLost

theorem dregsTake (h : Kept pend s) {r} : Kept pend (dregsTake s r) := by
  unfold Machine.dregsTake
  dsimp only
  split
  · split
    · exact .ite h.setLogSlot h.dregsLost
    · exact h.dregsLost
  · exact .ite (.ite h.setLogSlot.matchPut.setF.setF.raiseSource h.setLogSlot.matchPut.setF.setF) (.ite h.dregsReplace
      (.ite h.dregsReplace h.dregsLost))

theorem freeSlots (h : Kept pend s) {i n} : Kept pend (freeSlots s i n) := by
  induction n generalizing s i with
  | zero => exact h
  | succ n ih => exact ih h.setLogSlot.beside

theorem dregsReleaseWrite (h : Kept pend s) {w} : Kept pend (dregsReleaseWrite s w) :=
  h.atRing0 (fun _ h => h.freeSlots.setF)

theorem dregsSubmitWrite (h : Kept pend s) {w} : Kept pend (dregsSubmitWrite s w) := by
  unfold Machine.dregsSubmitWrite
  split
  · exact .ite h.dregsOfferRec h.ignoreWarn
  · exact h.ignoreWarn

theorem dregsLostWrite (h : Kept pend s) {w c} : Kept pend (dregsLostWrite s w c) := .ite h h.setF.setF.setF

theorem dregsStatWrite (h : Kept pend s) {w} : Kept pend (dregsStatWrite s w) := .ite h h.setF


/-! #### Power -/

theorem wakeDom (h : Kept pend s) {d} : Kept pend (wakeDom s d) := .ite h h.beside

theorem waitDone (h : Kept pend s) {c v} : Kept pend (waitDone s c v) := by
  unfold Machine.waitDone
  dsimp only
  split
  · exact h.setG.retire
  · exact h

theorem setLastReq (h : Kept pend s) {h' result refdom reason} : Kept pend (setLastReq s h' result refdom reason) :=
  h.setF.setF.setB.setF.setF

theorem enterCoreState (h : Kept pend s) {c state} : Kept pend (enterCoreState s c state) := by
  unfold Machine.enterCoreState
  split
  · exact h.domRet
  · exact h.domOff.icLeave
  · exact h

theorem finishHandshake (h : Kept pend s) {h'} : Kept pend (finishHandshake s h') :=
  .ite (((Kept.setLastReq (.ite (.foldl (fun _ _ h => h.domOff) h) h)).raiseSource).enterCoreState) ((Kept.setLastReq
    (.ite (.foldl (fun _ _ h => h.domOff) h) h)).raiseSource)

theorem refuseHandshake (h : Kept pend s) {h' d reason} : Kept pend (refuseHandshake s h' d reason) :=
  .ite h.setLastReq.raiseSource.dregs.waitDone h.setLastReq.raiseSource.dregs

theorem nextHandshake (h : Kept pend s) {n} : Kept pend (nextHandshake s n) := by
  induction n generalizing s with
  | zero => exact h
  | succ n ih =>
    unfold Machine.nextHandshake
    split
    · dsimp only
      split
      · exact ih h.beside.waitDone
      · split
        · exact ih h.beside.finishHandshake
        · exact .ite (ih h.beside.refuseHandshake) h.beside
    · exact h

theorem queueHandshake (h : Kept pend s) {h'} : Kept pend (queueHandshake s h') := h.beside.nextHandshake

theorem acceptDomain (h : Kept pend s) {x d rest} : Kept pend (acceptDomain s x d rest) := by
  unfold Machine.acceptDomain
  dsimp only
  have g : Kept pend (if deepEnough s d x.other || s.dom d = 1 then s else Machine.domRet s d) := .ite h h.domRet
  generalize (if deepEnough s d x.other || s.dom d = 1 then s else Machine.domRet s d) = u at g
  split
  · exact g.beside.setLastReq.raiseSource.waitDone.nextHandshake
  · split
    · exact g.beside.finishHandshake.nextHandshake
    · exact g.beside

theorem requestSleep (h : Kept pend s) {c} : Kept pend (requestSleep s c) := h.queueHandshake

theorem domreqWrite (h : Kept pend s) {w} : Kept pend (domreqWrite s w) :=
  h.atRing0 (fun _ h => .ite h (.ite h.wakeDom h.queueHandshake))

theorem domainReturn (h : Kept pend s) {d} : Kept pend (domainReturn s d) :=
  .ite (.ite h.domBack.setBit.setCpu (.ite h.domBack.waitDone h.domBack)) h

theorem vcmdWrite (h : Kept pend s) {w n} : Kept pend (vcmdWrite s w n) :=
  h.atRing0 (fun _ h => .ite h.putField.setF.setF.setB h.putField)

theorem monitorReads (h : Kept pend s) {n mv} : Kept pend (monitorReads s n mv) := h.setF.beside

theorem coreclkWrite (h : Kept pend s) {w} : Kept pend (coreclkWrite s w) := h.atRing0 (fun _ h => h.putField)

theorem steepDone (h : Kept pend s) : Kept pend (steepDone s) := h.setF

theorem steepTo (h : Kept pend s) {n} : Kept pend (steepTo s n) := .ite h.steepDone (.ite h.setF.steepFault h.setF)

theorem steepGo (h : Kept pend s) {n} : Kept pend (steepGo s n) := .ite h.beside.steepFault h.beside.steepTo

theorem steepNext (h : Kept pend s) : Kept pend (steepNext s) := h.steepGo

theorem steepRelease (h : Kept pend s) : Kept pend (steepRelease s) := h.beside

theorem railsBegin (h : Kept pend s) : Kept pend (railsBegin s) := .ite h.beside h

theorem steepContinue (h : Kept pend s) : Kept pend (steepContinue s) :=
  .ite h.steepDone.steepRelease.railsBegin h.steepDone

theorem steepctlWrite (h : Kept pend s) {w} : Kept pend (steepctlWrite s w) :=
  h.atRing0 (fun _ h => .ite ((Kept.setF (.ite h.putFields h)).beside) (.ite h.ignoreWarn (.ite h.putFields.steepBegin
    h.putFields)))

theorem steepTableWrite (h : Kept pend s) {w i} : Kept pend (steepTableWrite s w i) :=
  h.atRing0 (fun _ h => .ite h.putFields h.ignoreWarn)

theorem steepChannel (h : Kept pend s) {ch} : Kept pend (steepChannel s ch).2 := by
  unfold Machine.steepChannel
  split
  · exact h
  · split
    · exact h
    · split
      · exact h
      · split
        · exact h
        · split
          · exact h
          · split
            · exact h
            · split
              · exact h
              · split
                · split
                  exact h.takeFree.snd ‹_›
                · split
                  · exact h
                  · split
                    · exact h
                    · exact h

theorem steepReturn (h : Kept pend s) {e'} : Kept pend (steepReturn s e') := .ite h h.queueHandshake

theorem coldTable (h : Kept pend s) : Kept pend (coldTable s) :=
  .ite h.setF.setF.beside.steepContinue (Kept.beside (.ite h.setF.setF h.setF.setF.dregsFree))


/-! #### Ports -/

theorem putInf (h : Kept pend s) {i x} : Kept pend (putInf s i x) := h.beside

theorem evtReturn (h : Kept pend s) {i} : Kept pend (evtReturn s i) := by
  unfold Machine.evtReturn
  dsimp only
  split
  · exact .ite h h.putInf.setF.setG.retire
  · exact h

theorem infEvent (h : Kept pend s) {i e'} : Kept pend (infEvent s i e') := h.putInf.evtReturn

theorem putPort (h : Kept pend s) {g x} : Kept pend (putPort s g x) := h.beside

theorem portEvent (h : Kept pend s) {g bit} : Kept pend (portEvent s g bit) := .ite h.infEvent h

theorem frameIn (h : Kept pend s) {g tag time err bytes} : Kept pend (frameIn s g tag time err bytes) :=
  .ite h.putPort h.putPort.portEvent

theorem canConfine (h : Kept pend s) {c} : Kept pend (canConfine s c) := .ite h h.setF

theorem canReceived (h : Kept pend s) {c err} : Kept pend (canReceived s c err) := Kept.canConfine (.ite h.bumpF h.setF)

theorem canSent (h : Kept pend s) {c failed} : Kept pend (canSent s c failed) :=
  .ite h.setF.canConfine (.ite h.setF.setF h.setF.canConfine)

theorem charsEnd (h : Kept pend s) {g} : Kept pend (charsEnd s g) := .ite h h.putPort.frameIn

theorem charsIn (h : Kept pend s) {g err time l} : Kept pend (charsIn s g err time l) := by
  induction l generalizing s time with
  | nil => exact h
  | cons b l ih => exact ih (.ite h.putPort.charsEnd h.putPort)

theorem charsReceived (h : Kept pend s) {g time err bytes} : Kept pend (charsReceived s g time err bytes) :=
  .ite h (.ite h.charsIn h.charsIn.charsEnd)

theorem frameArrives (h : Kept pend s) {g time node bytes err} : Kept pend (frameArrives s g time node bytes err) :=
    by
  unfold Machine.frameArrives
  dsimp only
  split
  · exact h.charsReceived
  · split
    · exact .ite h.canReceived h
    · split
      · split
        · exact Kept.frameIn (.ite h.canReceived h)
        · exact .ite h.canReceived h
      · exact Kept.frameIn (.ite h.canReceived h)

theorem portGate (h : Kept pend s) {g} : Kept pend (portGate s g).state := h.gate

theorem portPut (h : Kept pend s) {g p} : Kept pend (portPut s g p) := .ite h.putPort.portEvent h.putPort

theorem onGroup (h : Kept pend s) {g r f} : Kept pend (onGroup s g r f) := by
  unfold Machine.onGroup
  split
  · split
    · exact (h.portGate.ok ‹_›).portPut
    · exact h.portGate.fail ‹_›
    · exact h.portGate.stall ‹_›
  · exact h

theorem ownSignal (h : Kept pend s) {i v} : Kept pend (ownSignal s i v) := .foldl (fun _ _ h => .ite h.raiseSource h) h

theorem ownTimer (h : Kept pend s) {i v} : Kept pend (ownTimer s i v) := h.putInf

theorem ownRelease (h : Kept pend s) {i v} : Kept pend (ownRelease s i v) := h.putInf

theorem ownWrite (h : Kept pend s) {i r v} : KeptIn pend (ownWrite s i r v) := by
  unfold Machine.ownWrite
  split
  · exact .some h
  · exact .some h.ownSignal
  · exact .some h.ownTimer
  · exact .some h.putInf
  · exact .some h
  · exact .some h.ownRelease
  · exact .some h
  · exact .none

theorem portRead (h : Kept pend s) {i a} : Kept pend (portRead s i a).state := by
  unfold Machine.portRead
  dsimp only
  split
  · split
    · exact h
    · exact h
  · split
    · exact h.portGate.bind (fun _ _ h => h.putPort)
    · exact h

theorem portWrite (h : Kept pend s) {i a v} : Kept pend (portWrite s i a v).state := by
  unfold Machine.portWrite
  dsimp only
  split
  · split
    · exact h.ownWrite _ ‹_›
    · exact h
  · split
    · exact h.portGate.bind (fun _ _ h => h.portPut)
    · exact h

theorem txOne (h : Kept pend s) {g} : Kept pend (txOne s g) := by
  unfold Machine.txOne
  dsimp only
  split
  · exact h
  · exact h.portPut

theorem canOne (h : Kept pend s) {g failed} : Kept pend (canOne s g failed) := by
  unfold Machine.canOne
  dsimp only
  split
  · exact h
  · split
    · exact h.canSent
    · split
      · exact h.canSent.putPort
      · exact h.canSent.txOne

theorem gateWrite (h : Kept pend s) {w n} {put : State → State} (hput : ∀ t, Kept pend t → Kept pend (put t)) : Kept
    pend (gateWrite s w n put) :=
  h.atRing0 (fun _ h => .ite (hput _ h) ((hput _ h).beside))

theorem gclWrite (h : Kept pend s) {w k} : Kept pend (gclWrite s w k) := h.gateWrite (fun _ h => h.putFields)

theorem gclbaseWrite (h : Kept pend s) {w n} : Kept pend (gclbaseWrite s w n) := h.gateWrite (fun _ h => h.putFields)

theorem canAbandon (h : Kept pend s) : Kept pend (canAbandon s) :=
  .foldl (fun _ _ h => Kept.putPort (.foldl (fun _ _ h => h.bumpF) h)) h


/-! #### Engine -/

theorem dmaGate (h : Kept pend s) {off} : Kept pend (dmaGate s off).state := by
  unfold Machine.dmaGate
  split
  · exact (h.gateOff.ok ‹_›).sliceGate
  · exact h.gateOff

theorem askWake (h : Kept pend s) {off len} : Kept pend (askWake s off len) :=
  .foldl (fun _ _ h => by split; exacts [h.dmaGate.stall ‹_›, h.dmaGate.ok ‹_›, h.dmaGate.fail ‹_›]) h

theorem admitPieces (h : Kept pend s) {cls part kind l} : KeptIn pend (admitPieces s cls part kind l) := by
  induction l generalizing s with
  | nil => exact .none
  | cons x l ih =>
    unfold Machine.admitPieces
    split
    · split
      · exact ih (h.strain.snd ‹_›)
      · exact .some (h.strain.snd ‹_›)
    · exact ih h

theorem engineRead (h : Kept pend s) {cls part l} : Kept pend (engineRead s cls part l).2.2 := by
  induction l generalizing s with
  | nil => exact h
  | cons x l ih =>
    unfold Machine.engineRead
    have piece : Kept pend (if isMemory s x.1 then
        match Machine.snoopRead s cls part 0 x.1 x.2 with
        | .ok v s => (true, v, s)
        | .fail _ s => (false, 0, s)
        | .stall s => (false, 0, s)
        else (false, 0, s)).2.2 := by
      split
      · split
        · exact h.snoopRead.ok ‹_›
        · exact h.snoopRead.fail ‹_›
        · exact h.snoopRead.stall ‹_›
      · exact h
    exact ih piece

theorem engineWrite (h : Kept pend s) {cls part bs l} : Kept pend (engineWrite s cls part bs l).2 := by
  induction l generalizing s bs with
  | nil => exact h
  | cons x l ih =>
    unfold Machine.engineWrite
    have piece : Kept pend (if isMemory s x.1 && target s x.1 != .rom && (cls == 4 || !mirrorDenied s (x.1 / 64)) then
        match Machine.snoopWrite s cls part 1 x.1 x.2 (bytesNat (bs.take x.2)) with
        | .ok _ s => (true, s)
        | .fail _ s => (false, s)
        | .stall s => (false, s)
        else (false, s)).2 := by
      split
      · split
        · exact h.snoopWrite.ok ‹_›
        · exact h.snoopWrite.fail ‹_›
        · exact h.snoopWrite.stall ‹_›
      · exact h
    exact ih piece

theorem rangeRead (h : Kept pend s) {cls part off n} : Kept pend (rangeRead s cls part off n).2.2 := by
  unfold Machine.rangeRead
  split
  · exact h.admitPieces _ ‹_›
  · exact h.engineRead

theorem dmaRead (h : Kept pend s) {cls part off n} : Kept pend (dmaRead s cls part off n).2 := h.rangeRead

theorem dmaWrite (h : Kept pend s) {cls part off bs} : Kept pend (dmaWrite s cls part off bs) := by
  unfold Machine.dmaWrite
  split
  · exact h.admitPieces _ ‹_›
  · exact h.engineWrite

theorem putCam (h : Kept pend s) {k x} : Kept pend (putCam s k x) := h.beside

theorem camAdvance (h : Kept pend s) {k} : Kept pend (camAdvance s k) := h.setF.setF.raiseSource

theorem incfgWrite (h : Kept pend s) {w k} : Kept pend (incfgWrite s w k) :=
  h.atRing0 (fun _ h => .ite (((Kept.putFields (.ite h.putField h)).putCam).setF) (.ite ((Kept.putFields (.ite
    h.putField h)).putCam) (Kept.putFields (.ite h.putField h))))

theorem codecTake (h : Kept pend s) : Kept pend (codecTake s) := .ite h h.setF.beside

theorem cqtailWrite (h : Kept pend s) {w} : Kept pend (cqtailWrite s w) := h.atRing0 (fun _ h => h.putField.codecTake)

theorem ringWrite (h : Kept pend s) {job out bs} : Kept pend (ringWrite s job out bs) := by
  unfold Machine.ringWrite
  split
  exact h.dmaWrite.dmaWrite

theorem codecData (h : Kept pend s) {job} : Kept pend (codecData s job) := by
  unfold Machine.codecData
  split
  split
  split
  exact (((h.takeFree.snd ‹_›).takeFree.snd ‹_›).takeFree.snd ‹_›).dmaRead.ringWrite.beside

theorem onJob (h : Kept pend s) {f : Nat → List Byte → State → State}
    (hf : ∀ a b t, Kept pend t → Kept pend (f a b t)) : Kept pend (onJob s f) := by
  unfold Machine.onJob
  split
  · exact h
  · exact .ite h.askWake (.ite h.dmaRead.askWake.askWake (hf _ _ _ h.dmaRead))

theorem outboundRequest (h : Kept pend s) {off n data} : Kept pend (outboundRequest s off n data) := h.beside

theorem putUsb (h : Kept pend s) {u x} : Kept pend (putUsb s u x) := h.beside

theorem usbEvent (h : Kept pend s) {u x3} : Kept pend (usbEvent s u x3) := by
  unfold Machine.usbEvent
  split
  · exact h.putUsb
  · exact h.putUsb
  · exact h.putUsb
  · exact .ite h.dmaWrite h
  · exact .ite h.dmaRead h
  · exact h


/-! #### Links -/

theorem putLk (h : Kept pend s) {n x} : Kept pend (putLk s n x) := h.beside

theorem linkRecord (h : Kept pend s) {n code cls} : Kept pend (linkRecord s n code cls) := .ite h.dregs h

theorem setLink (h : Kept pend s) {n st reason} : Kept pend (setLink s n st reason) :=
  .ite (.ite h.setF.setF h.setF.setF.raiseSource) (.ite h.setF.setF.setF.raiseSource.dregs h.setF.setF.setF)

theorem flushHome (h : Kept pend s) {h'} : Kept pend (flushHome s h') := by
  unfold Machine.flushHome
  split
  · exact h
  · exact .ite h h.putLk

theorem unqueue (h : Kept pend s) {n} : Kept pend (unqueue s n) := h.beside

theorem leaveBond (h : Kept pend s) {n} : Kept pend (leaveBond s n) := by
  unfold Machine.leaveBond
  split
  · exact h.putLk.setB.putLk.flushHome.linkRecord
  · exact h

theorem leaveStream (h : Kept pend s) {n} : Kept pend (leaveStream s n) := .ite h (.ite h.putLk h)

theorem leaveAll (h : Kept pend s) {n} : Kept pend (leaveAll s n) := h.leaveStream.leaveBond

theorem linkTrain (h : Kept pend s) {n st full} : Kept pend (linkTrain s n st full) := h.leaveAll.unqueue.putLk.setLink

theorem linkQuarantine (h : Kept pend s) {n reason} : Kept pend (linkQuarantine s n reason) :=
  .ite h.leaveBond.putLk.setLink.linkRecord h

theorem linkRetrain (h : Kept pend s) {n full} : Kept pend (linkRetrain s n full) :=
  .ite (.ite h.putLk.bumpF.linkTrain.linkRecord.putLk.linkQuarantine h.putLk.bumpF.linkTrain.linkRecord)
    h.putLk.linkTrain

theorem linkRefuse (h : Kept pend s) {n reason code cls} : Kept pend (linkRefuse s n reason code cls) :=
  h.leaveAll.unqueue.setLink.linkRecord

theorem trainedNow (h : Kept pend s) {n} : Kept pend (trainedNow s n) := h.putLk

theorem portActivate (h : Kept pend s) {n} : Kept pend (portActivate s n) :=
  .ite h.linkRefuse h.setF.setLink.putLk.flushHome

theorem linkActivate (h : Kept pend s) {n} : Kept pend (linkActivate s n) :=
  .ite h.trainedNow.setLink (.ite h.putLk.portActivate (.ite (.ite
    h.putLk.setLink.linkRecord.putLk.setB.putLk.flushHome.linkRecord
    h.putLk.setLink.linkRecord.putLk.setB.putLk.flushHome) h.putLk.setLink.linkRecord.putLk.flushHome))

theorem linkcfgWrite (h : Kept pend s) {w n} : Kept pend (linkcfgWrite s w n) :=
  .ite h.putFields.setF (.ite (.ite h.putFields.setF.putLk.linkTrain h.putFields.setF) (.ite h.putFields.setF
    h.putFields.setF.leaveAll.setLink.putLk.unqueue))

theorem linkToAuth (h : Kept pend s) {n} : Kept pend (linkToAuth s n) := .ite h.setLink h.setLink.beside

theorem helloLink (h : Kept pend s) {n h'} : Kept pend (helloLink s n h') :=
  .ite h.linkRefuse (.ite (.ite h.setF.setF.setF.putLk.putLk.trainedNow.linkQuarantine
    h.setF.setF.setF.putLk.putLk.linkActivate) (.ite h.setF.setF.setF.putLk.putLk.linkToAuth
    h.setF.setF.setF.putLk.putLk.linkActivate))

theorem helloPort (h : Kept pend s) {n h'} : Kept pend (helloPort s n h') :=
  .ite h.linkRefuse ((Kept.putLk (.ite h h.setB)).linkToAuth)

theorem untimedRecord (h : Kept pend s) {n} : Kept pend (untimedRecord s n) := by
  unfold Machine.untimedRecord
  split
  · split
    exact (h.takeFree.snd ‹_›).linkRecord
  · exact h.dregsOpen

theorem newKeys (h : Kept pend s) : Kept pend (newKeys s).2 := by
  unfold Machine.newKeys
  split
  split
  split
  split
  exact (((h.takeFree.snd ‹_›).takeFree.snd ‹_›).takeFree.snd ‹_›).takeFree.snd ‹_›

theorem sessionStart (h : Kept pend s) {n o} : Kept pend (sessionStart s n o) := by
  unfold Machine.sessionStart
  split
  exact (h.newKeys.snd ‹_›).putLk

theorem linkError (h : Kept pend s) {n} : Kept pend (linkError s n) :=
  .ite (Kept.linkRetrain (.ite h.putLk.bumpF h.putLk)) (.ite h.putLk.bumpF h.putLk)

theorem creditReturn (h : Kept pend s) {n c} : Kept pend (creditReturn s n c) :=
  .ite h (Kept.flushHome (.foldl (fun _ _ h => h.setLink) h.putLk))

theorem dataFlit (h : Kept pend s) {n seq credit} : Kept pend (dataFlit s n seq credit) :=
  .ite h.putLk.creditReturn (.ite h.putLk.creditReturn h.putLk)

theorem sessionRetrain (h : Kept pend s) {n} : Kept pend (sessionRetrain s n) := .foldl (fun _ _ h => h.linkRetrain) h

theorem ctlRetrain (h : Kept pend s) {n} : Kept pend (ctlRetrain s n) := .ite h h.linkRetrain

theorem ctlQuarantine (h : Kept pend s) {n} : Kept pend (ctlQuarantine s n) :=
  .ite h.linkQuarantine (.ite h h.putLk.linkRecord)

theorem ctlRelease (h : Kept pend s) {n} : Kept pend (ctlRelease s n) :=
  .ite h (.ite h.putLk.linkRecord (.ite h.putLk.linkRecord.setLink (.ite h.putLk.linkRecord.linkActivate
    h.putLk.linkRecord.setLink)))

theorem ctlClrerr (h : Kept pend s) {n} : Kept pend (ctlClrerr s n) := .foldl (fun _ _ h => h.setF) h

theorem linkctlWrite (h : Kept pend s) {w n} : Kept pend (linkctlWrite s w n) :=
  h.atRing0 (fun _ h => .ite h.ignoreWarn (.ite (Kept.ctlRelease (.ite (Kept.ctlQuarantine (.ite (Kept.ctlRetrain
    (.ite h.ctlClrerr h)) (.ite h.ctlClrerr h))) (.ite (Kept.ctlRetrain (.ite h.ctlClrerr h)) (.ite h.ctlClrerr h))))
    (.ite (Kept.ctlQuarantine (.ite (Kept.ctlRetrain (.ite h.ctlClrerr h)) (.ite h.ctlClrerr h))) (.ite
    (Kept.ctlRetrain (.ite h.ctlClrerr h)) (.ite h.ctlClrerr h)))))


/-! #### Router -/

theorem putOut (h : Kept pend s) {p q} : Kept pend (putOut s p q) := h.beside

theorem enqueue (h : Kept pend s) {p k remain viaLink} : Kept pend (enqueue s p k remain viaLink) := h.putOut

theorem enqueueLocal (h : Kept pend s) {k} : Kept pend (enqueueLocal s k) := h.enqueue

theorem enqueueMirror (h : Kept pend s) {k} : Kept pend (enqueueMirror s k) := h.enqueue

theorem countDrop (h : Kept pend s) : Kept pend (countDrop s) := h.bumpF

theorem countRefusal (h : Kept pend s) {code} : Kept pend (countRefusal s code) := .ite h.bumpF.raiseSource h.bumpF

theorem tryRoute (h : Kept pend s) {k viaLink} : ∀ t, tryRoute s k viaLink = .ok t → Kept pend t := by
  have go : ∀ (p remain : Nat) (k : Packet) (w : Nat) t, (match Machine.lacks s p k with
      | some c => Except.error (c, p)
      | none =>
        if Machine.tooLate s p k remain w then .error (Machine.rLate, p)
        else .ok (Machine.enqueue s p (leaveHeader s p viaLink k) remain viaLink)) = .ok t → Kept pend t := by
    intro p remain k w t e
    split at e
    · cases e
    · split at e
      · cases e
      · cases e
        exact h.enqueue
  unfold Machine.tryRoute
  intro t e
  dsimp only at e
  split at e
  · split at e
    · split at e
      · exact go _ _ _ _ _ e
      · cases e
    · cases e
      exact h.enqueueLocal
  · split at e
    · cases e
      exact h.enqueueLocal
    · exact go _ _ _ _ _ e
    · cases e

theorem sendAnswer (h : Kept pend s) {k} : Kept pend (sendAnswer s k) := by
  unfold Machine.sendAnswer
  split
  · exact (h.tryRoute _ ‹_›).tracePacket
  · exact Kept.countDrop (.ite h.raiseSource h)

theorem refuse (h : Kept pend s) {k code port} : Kept pend (refuse s k code port) :=
  .ite h.countRefusal.sendAnswer (Kept.countDrop (.ite h.raiseSource h))

theorem sendBy (h : Kept pend s) {n a} : Kept pend (sendBy s n a) := by
  unfold Machine.sendBy
  dsimp only
  split
  · exact h.refuse
  · exact .ite h.refuse h.tracePacket.enqueue

theorem refuseOn (h : Kept pend s) {n k code} : Kept pend (refuseOn s n k code) := .ite h.countRefusal.sendBy h.refuse

theorem routePacket (h : Kept pend s) {k viaLink} : Kept pend (routePacket s k viaLink) := by
  unfold Machine.routePacket
  split
  · exact h.tryRoute _ ‹_›
  · exact h.refuse

theorem sendOwn (h : Kept pend s) {k} : Kept pend (sendOwn s k) := h.tracePacket.routePacket

theorem denyCount (h : Kept pend s) {n} : Kept pend (denyCount s n) :=
  .ite (.ite h.bumpF.putLk.linkQuarantine h.bumpF.putLk) h

theorem leaveBuffer (h : Kept pend s) {n k} : Kept pend (leaveBuffer s n k) := h.putLk.putLk

theorem arrive (h : Kept pend s) {n k} {f : State → Packet → State} (hf : ∀ t a2, Kept pend t → Kept pend (f t a2)) :
    Kept pend (arrive s n k f) :=
  .ite h (.ite h.leaveBuffer.countEvent.refuseOn (.ite h.leaveBuffer.countEvent.denyCount.refuse (hf _ _
    h.leaveBuffer.countEvent)))

theorem markQueued (h : Kept pend s) {k p} : KeptIn pend (markQueued k s p) := by
  intro t e
  obtain ⟨q, _, rfl⟩ := Option.map_eq_some_iff.mp e
  exact h.putOut

theorem markSent (h : Kept pend s) {k p} : KeptIn pend (markSent k s p) := by
  intro t e
  obtain ⟨q, _, rfl⟩ := Option.map_eq_some_iff.mp e
  exact h.putLk

theorem markCopy (h : Kept pend s) {k} : Kept pend (markCopy k s) := by
  refine KeptIn.getD (fun t e => ?_) h
  rcases Option.or_eq_some_iff.mp e with e | ⟨_, e⟩
  · obtain ⟨p, _, e⟩ := List.exists_of_findSome?_eq_some e
    exact h.markQueued t e
  · obtain ⟨p, _, e⟩ := List.exists_of_findSome?_eq_some e
    exact h.markSent t e

theorem transmit (h : Kept pend s) {p q more} : Kept pend (transmit s p q more) := by
  unfold Machine.transmit
  dsimp only
  split
  · exact .ite h.putLk.putLk (.ite h.putLk.putLk.countEvent.countEvent h.putLk.putLk.countEvent)
  · exact h.putLk

theorem resendFlits (h : Kept pend s) {h' seq} : Kept pend (resendFlits s h' seq) := h.putLk

theorem sendEarliest (h : Kept pend s) {p} : Kept pend (sendEarliest s p) := by
  unfold Machine.sendEarliest
  split
  split
  · exact h
  · exact .ite h.putOut.refuse (.ite h h.putOut.transmit)

theorem transmitStart (h : Kept pend s) {p} : Kept pend (transmitStart s p) := by
  unfold Machine.transmitStart
  dsimp only
  split
  · exact h
  · split
    · exact h.resendFlits
    · exact .ite h.flushHome h.sendEarliest

theorem takeTokens (h : Kept pend s) {e' k} : KeptIn pend (takeTokens s e' k) := by
  unfold Machine.takeTokens
  split
  · exact .some h
  · dsimp only
    split
    · exact .some h.beside
    · exact .none

theorem windowViolation (h : Kept pend s) {n region k} : Kept pend (windowViolation s n region k) := h.latchViolation

theorem admitPacket (h : Kept pend s) {l k} : Kept pend (admitPacket s l k).2 := by
  unfold Machine.admitPacket
  dsimp only
  split
  · exact h
  · split
    · exact h.windowViolation.denyCount
    · split
      · exact h.windowViolation.denyCount
      · split
        · exact h.takeTokens _ ‹_›
        · exact h.denyCount


/-! #### Debug -/

theorem onDbg (h : Kept pend s) {f} : Kept pend (onDbg s f) := h.beside

theorem dbgRecord (h : Kept pend s) {cls code mask} : Kept pend (dbgRecord s cls code mask) := h.dregs

theorem releaseHeld (h : Kept pend s) : Kept pend (releaseHeld s) := Kept.setF (.foldl (fun _ _ h => .ite h.setCpu h) h)

theorem withdrawDebug (h : Kept pend s) {c} : Kept pend (withdrawDebug s c) := h.setB.setB.setCpu

theorem endGrant (h : Kept pend s) : Kept pend (endGrant s) :=
  .ite h (((Kept.releaseHeld (.foldl (fun _ _ h => h.withdrawDebug) (.foldl (fun _ _ h => h.setF)
    h))).raiseSource).dbgRecord)

theorem recheckDebug (h : Kept pend s) : Kept pend (recheckDebug s) := .foldl (fun _ _ h => .ite h h.setCpu) h

theorem presentCert (h : Kept pend s) {c sigOk} : Kept pend (presentCert s c sigOk).2 := by
  unfold Machine.presentCert
  generalize Machine.checkGrant s c sigOk = r
  obtain ⟨st, ends⟩ := r
  simp -zeta only
  extract_lets u mask v w x
  split
  · have hw : Kept pend w := Kept.setF (Kept.setB (Kept.setF (Kept.setF (Kept.setF h.setF))))
    have hx : Kept pend x := hw.onDbg.recheckDebug
    clear_value x
    dsimp only
    exact hx.raiseSource.dbgRecord
  · exact Kept.dbgRecord (Kept.raiseSource h.setF)

theorem grantClock (h : Kept pend s) : Kept pend (grantClock s) := .ite h.beside h.beside

theorem dbGrantWrite (h : Kept pend s) {w} : Kept pend (dbGrantWrite s w) := .ite (.ite h.endGrant h) h.ignoreWarn

theorem dbCatchWrite (h : Kept pend s) {w} : Kept pend (dbCatchWrite s w) :=
  .ite (.ite (((Kept.dbgRecord (.ite (Kept.releaseHeld (.ite h.putField h)) (.ite h.putField h))).onDbg).warmStart)
    (.ite (Kept.releaseHeld (.ite h.putField h)) (.ite h.putField h))) h.ignoreWarn

theorem corectlWrite (h : Kept pend s) {w c} : Kept pend (corectlWrite s w c) := .ite h.putFields.setCpu h.ignoreWarn

theorem cmpWrite (h : Kept pend s) {w x ctl} : Kept pend (cmpWrite s w x ctl) :=
  .ite (.ite (Kept.setBit (.ite h.putFields.putField h.putFields)) h.putField) h.ignoreWarn

theorem atTrace (h : Kept pend s) {w} {f : State → State} (hf : ∀ t, Kept pend t → Kept pend (f t)) : Kept pend
    (atTrace s w f) :=
  .ite (hf _ h) h.ignoreWarn

theorem trcfgWrite (h : Kept pend s) {w} : Kept pend (trcfgWrite s w) :=
  h.atTrace (fun _ h => .ite (Kept.setB (.ite h.putFields.setF h.putFields)) (.ite (.ite (Kept.setB (.ite
    h.putFields.setF h.putFields)) (.ite h.putFields.setF h.putFields)) (.ite (.ite h.putFields.setF h.putFields)
    ((Kept.setB (.ite h.putFields.setF h.putFields)).traceSync))))

theorem trstatWrite (h : Kept pend s) {w} : Kept pend (trstatWrite s w) :=
  h.atTrace (fun _ h => .ite (Kept.setF (.ite h.setF h)) (.ite h.setF h))

theorem showFull (h : Kept pend s) : Kept pend (showFull s) := .ite h.setB.raiseSource h.setB

theorem wrAdvance (h : Kept pend s) {n} : Kept pend (wrAdvance s n) := h.setF

theorem exportBlock (h : Kept pend s) {rs} : Kept pend (exportBlock s rs) := h.wrAdvance.sendOwn

theorem sinkOne (h : Kept pend s) {r} : Kept pend (sinkOne s r) := by
  unfold Machine.sinkOne
  dsimp only
  split
  · exact h.writeBytes.wrAdvance.showFull
  · exact .ite h.beside h.beside.dmaWrite.wrAdvance.showFull
  · exact .ite h.beside h.beside.exportBlock

theorem traceDrain (h : Kept pend s) {n} : Kept pend (traceDrain s n) := by
  induction n generalizing s with
  | zero => exact h
  | succ n ih =>
    unfold Machine.traceDrain
    split
    · exact h
    · dsimp only
      split
      · exact .ite h.showFull (ih (.ite (Kept.bumpF h.showFull.beside).beside.raiseSource
          (Kept.bumpF h.showFull.beside).beside))
      · exact ih (Kept.sinkOne h.showFull.beside)

theorem traceReport (h : Kept pend s) : Kept pend (traceReport s) := .ite h h.beside.traceRaw.traceSync

theorem traceFlush (h : Kept pend s) : Kept pend (traceFlush s) := Kept.beside (.ite h.traceDrain h)

theorem pcevtWrite (h : Kept pend s) {w n} : Kept pend (pcevtWrite s w n) := h.atMachine (fun _ h => h.putFields)

theorem pccntWrite (h : Kept pend s) {w n} : Kept pend (pccntWrite s w n) := h.atMachine (fun _ h => h.putFields)


/-! #### DramCtl -/

theorem onDram (h : Kept pend s) {f} : Kept pend (onDram s f) := h.beside

theorem contentsLost (h : Kept pend s) {c} : Kept pend (contentsLost s c) := h.onDram

theorem initChannel (h : Kept pend s) {keep c} : Kept pend (initChannel s keep c) :=
  (Kept.onDram (.ite h.drainWrites.setBit.setReady.beside h.drainWrites.setBit.setReady.beside.contentsLost)).setF

theorem fillChannel (h : Kept pend s) {c} : Kept pend (fillChannel s c) := .ite h.setBit h.setBit.onDram

theorem mctlWrite (h : Kept pend s) {w} : Kept pend (mctlWrite s w) :=
  h.atMachine (fun _ h => .foldl (fun _ _ h => h.fillChannel) (.foldl (fun _ _ h => h.initChannel) (.ite h.onDram h)))

theorem budgetCheck (h : Kept pend s) : Kept pend (budgetCheck s) := by
  unfold Machine.budgetCheck
  split
  exact .ite h.setB.raiseSource.dregs h.setB

theorem budgetReclip (h : Kept pend s) {p old} : Kept pend (budgetReclip s p old) :=
  .ite h (.foldl (fun _ _ h => h.onDram) h)

theorem budgetWrite (h : Kept pend s) {w p} : Kept pend (budgetWrite s w p) :=
  h.atMachine (fun _ h => .ite h.putFields h.putFields.budgetReclip.budgetCheck)


/-! #### Epoch -/

theorem endSlew (h : Kept pend s) : Kept pend (endSlew s) := h.beside

theorem setTime (h : Kept pend s) {st} : Kept pend (setTime s st) :=
  .ite h (((Kept.setF (.ite h.endSlew h)).raiseSource).dregs)

theorem setGm (h : Kept pend s) {node} : Kept pend (setGm s node) := .ite h h.setF.raiseSource

theorem timeChoose (h : Kept pend s) : Kept pend (timeChoose s) := by
  unfold Machine.timeChoose
  dsimp only
  split
  · exact h.setF.setF.setGm.setTime
  · split
    · exact .ite h.setF.setF.setGm h.setF.setF.setGm.beside.setTime
    · exact .ite h h.setTime

theorem nodeidPut (h : Kept pend s) {id} : KeptIn pend (nodeidPut s id) := by
  unfold Machine.nodeidPut
  split
  · exact .some h.setF.timeChoose
  · split
    · exact .none
    · exact .some h.setF.timeChoose

theorem nodeidWrite (h : Kept pend s) {w} : Kept pend (nodeidWrite s w) := .ite (h.nodeidPut.getD h.ignoreWarn) h

theorem timeCounted (h : Kept pend s) {n} : Kept pend (timeCounted s n) := h.leaveBuffer.countEvent

theorem onTimeLink (h : Kept pend s) {n src} {f : State → State} (hf : ∀ t, Kept pend t → Kept pend (f t)) : Kept pend
    (onTimeLink s n src f) :=
  .ite h (.ite h.timeCounted.countDrop (.ite h.timeCounted.denyCount.countDrop (hf _ h.timeCounted)))

theorem atLeast (h : Kept pend s) {t'} : Kept pend (atLeast s t') := h.setF.beside

theorem servo (h : Kept pend s) {offset} : Kept pend (servo s offset) := by
  unfold Machine.servo
  split
  exact (h.takeFree.snd ‹_›).beside

theorem stepTime (h : Kept pend s) {now} : Kept pend (stepTime s now) := h.setF.beside

theorem sendTime (h : Kept pend s) {n sub payload} : Kept pend (sendTime s n sub payload) := h.putOut

theorem gptpExport (h : Kept pend s) : Kept pend (gptpExport s) := .ite h.beside h

theorem followTime (h : Kept pend s) {x} : Kept pend (followTime s x) := .ite h.stepTime h.servo

theorem gptpIn (h : Kept pend s) {g time bytes} : Kept pend (gptpIn s g time bytes) := by
  unfold Machine.gptpIn
  split
  · exact h
  · split
    · exact h.beside
    · split
      have g := h.takeFree.snd ‹_›
      exact .ite g.followTime.beside.timeChoose g.followTime.beside
    · exact h

theorem tcfgTimeWrite (h : Kept pend s) {w} : Kept pend (tcfgTimeWrite s w) :=
  h.atMachine (fun _ h => h.putFields.timeChoose)

theorem spreadEpoch (h : Kept pend s) {k} : Kept pend (spreadEpoch s k) :=
  Kept.setCpu (.foldl (fun _ _ h => .ite h.setCpu h) (.foldl (fun _ _ h => .ite h.setCpu h) h))

theorem pourResume (h : Kept pend s) : Kept pend (pourResume s) :=
  .foldl (fun _ _ h => by dsimp only; split; exacts [.ite h.setG.retire h, h]) h

theorem epochReaches (h : Kept pend s) {k} : Kept pend (epochReaches s k) := h.spreadEpoch.pourResume

theorem epcfgWrite (h : Kept pend s) {w} : Kept pend (epcfgWrite s w) :=
  .ite h.putFields.putField.setF.epochReaches (.ite h.putFields.putField.stepTime.setTime h.putFields.putField)

theorem originWrite (h : Kept pend s) {w} : Kept pend (originWrite s w) := .ite h h.putField

theorem edwMiss (h : Kept pend s) {n k} : Kept pend (edwMiss s n k) :=
  .ite h.setBit.raiseSource.dregs.raiseTrigger h.setBit.raiseSource.dregs

theorem edwDue (h : Kept pend s) {n k} : Kept pend (edwDue s n k) := .ite (.ite h.beside h.beside.edwMiss) h

theorem edwCheckin (h : Kept pend s) {n} : Kept pend (edwCheckin s n) := .ite h (.ite h.beside h.beside.bumpF)

theorem edwPourWait (h : Kept pend s) {c} : Kept pend (edwPourWait s c) := .foldl (fun _ _ h => .ite h.edwCheckin h) h

theorem edwstatWrite (h : Kept pend s) {w} : Kept pend (edwstatWrite s w) :=
  .foldl (fun _ _ h => .ite h.edwCheckin h) h.putFields

theorem edwcfgWrite (h : Kept pend s) {w n} : Kept pend (edwcfgWrite s w n) :=
  h.atMachine (fun _ h => .ite h.putFields h.putFields.beside)

theorem edwTick (h : Kept pend s) {k} : Kept pend (edwTick s k) := (Kept.setF (.foldl (fun _ _ h => h.edwDue) h)).beside


/-! #### Mirror -/

theorem onMir (h : Kept pend s) {f} : Kept pend (onMir s f) := h.beside

theorem showPending (h : Kept pend s) : Kept pend (showPending s) := h.setF

theorem trackStore (h : Kept pend s) {line} : KeptIn pend (trackStore s line) := by
  unfold Machine.trackStore
  split
  · exact .some h
  · split
    · exact .none
    · split
      · exact .some h
      · split
        · exact .none
        · exact .some h.onMir.showPending

theorem mrEvent (h : Kept pend s) {src code cls} : Kept pend (mrEvent s src code cls) := h.raiseSource.dregsFree

theorem kettleCopy (h : Kept pend s) : Kept pend (kettleCopy s) := h.onMir

theorem copyStop (h : Kept pend s) : Kept pend (copyStop s) := h.setB.onMir

theorem roleTo (h : Kept pend s) {r} : Kept pend (roleTo s r) := .ite h h.setF.setB.setB.onMir.showPending.kettleCopy

theorem fallStale (h : Kept pend s) : Kept pend (fallStale s) :=
  .ite h.copyStop.roleTo.setF.mrEvent h.copyStop.roleTo.setF

theorem roleInfo (h : Kept pend s) {r} : Kept pend (roleInfo s r) := h.roleTo.mrEvent

theorem sendMirror (h : Kept pend s) {sub payload} : Kept pend (sendMirror s sub payload) := h.enqueueMirror

theorem sendPorts (h : Kept pend s) {payload} : Kept pend (sendPorts s payload) := .foldl (fun _ _ h => h.putOut) h

theorem mirrorRecord (h : Kept pend s) {line} : Kept pend (mirrorRecord s line).2 := by
  unfold Machine.mirrorRecord
  split
  exact h.dmaRead.snd ‹_›

theorem sendLine (h : Kept pend s) {line} : Kept pend (sendLine s line) := by
  unfold Machine.sendLine
  split
  exact (h.mirrorRecord.snd ‹_›).sendMirror.onMir.showPending

theorem mirrorIn (h : Kept pend s) {k sub} {f : State → State} (hf : ∀ t, Kept pend t → Kept pend (f t)) : Kept pend
    (mirrorIn s k sub f) := by
  unfold Machine.mirrorIn
  split
  · exact h
  · exact .ite h (.ite h.leaveBuffer.countDrop (hf _ h.leaveBuffer))

theorem journal (h : Kept pend s) {off} : Kept pend (journal s off) :=
  .ite h.fallStale (.ite h.dmaRead.dmaWrite.setF.mrEvent h.dmaRead.dmaWrite.setF)

theorem takeRecord (h : Kept pend s) {sub r} : Kept pend (takeRecord s sub r) :=
  .ite ((Kept.dmaWrite (.ite h.onMir.journal h.onMir)).onMir) (Kept.dmaWrite (.ite h.onMir.journal h.onMir))

theorem recordsIn (h : Kept pend s) {sub k} : Kept pend (recordsIn s sub k) :=
  .ite (.foldl (fun _ _ h => h.askWake) h) (h.mirrorIn (fun _ h => .ite h (.foldl (fun _ _ h => h.takeRecord) (.ite
    h.setB h))))

theorem commitGood (h : Kept pend s) {e' ho} : Kept pend (commitGood s e' ho) :=
  .ite ((Kept.sendMirror (.ite h.setF.setF.onMir.sendMirror.roleInfo h.setF.setF.onMir.sendMirror)).onMir) (.ite
    h.setF.setF.onMir.sendMirror.roleInfo h.setF.setF.onMir.sendMirror)

theorem copyBegin (h : Kept pend s) : Kept pend (copyBegin s) := .ite h.setB.onMir h

theorem heartbeat (h : Kept pend s) {role gen degraded carried serial} : Kept pend (heartbeat s role gen degraded
    carried serial) :=
  .ite (.ite h.setF.onMir.onMir h.setF.onMir) (.ite ((Kept.setF (.ite h.setF.onMir.onMir h.setF.onMir)).onMir) (.ite
    ((((((Kept.setF (.ite h.setF.onMir.onMir h.setF.onMir)).onMir).copyStop).roleTo).mrEvent).raiseTrigger) (.ite
    ((((Kept.setF (.ite h.setF.onMir.onMir h.setF.onMir)).onMir).setB).clearTrigger) ((Kept.setF (.ite
    h.setF.onMir.onMir h.setF.onMir)).onMir))))

theorem sendHeartbeat (h : Kept pend s) {b} : Kept pend (sendHeartbeat s b) :=
  .ite h.sendPorts.onMir.sendOwn h.sendPorts.onMir

theorem partnerLost (h : Kept pend s) : Kept pend (partnerLost s) := by
  unfold Machine.partnerLost
  split
  · exact h.copyStop.mrEvent
  · exact h.fallStale
  · exact Kept.onMir (.ite h.mrEvent h)
  · exact .ite h.copyStop.setB.mrEvent.raiseTrigger h.copyStop
  · exact h

theorem degradedHeartbeat (h : Kept pend s) : Kept pend (degradedHeartbeat s) := .ite h.sendPorts.onMir h

theorem undo (h : Kept pend s) {n} : Kept pend (undo s n) := by
  induction n generalizing s with
  | zero => exact h.setF.setB.onMir.raiseSource
  | succ n ih =>
    rw [undo_succ]
    unfold undoStep
    extract_lets source
    split
    · exact h.askWake
    · split
      next r t e =>
        have g : Kept pend t := h.dmaRead.snd e
        exact .ite g.askWake (ih g.dmaWrite.setF)

theorem verlimLow (h : Kept pend s) : Kept pend (verlimLow s) := h.setF

theorem mrcfgWrite (h : Kept pend s) {w} : Kept pend (mrcfgWrite s w) :=
  h.atMachine (fun _ h => .ite h.setB.ignoreWarn (.ite (.foldl (fun _ _ h => h.putLk.linkTrain)
    h.putFields.verlimLow.onMir) (.ite (.foldl (fun _ _ h => h.leaveAll.setLink.putLk) h.putFields.verlimLow)
    h.putFields.verlimLow)))

theorem mrClaim (h : Kept pend s) {w} : Kept pend (mrClaim s w) :=
  .ite (.ite (.ite h.copyStop.setF.roleInfo.copyBegin h.copyStop.setF.roleInfo) h.ignoreWarn) h

theorem mrAlone (h : Kept pend s) {w} : Kept pend (mrAlone s w) := h.atMachine (fun _ h => .ite h.setB.clearTrigger h)

theorem mrHandover (h : Kept pend s) : Kept pend (mrHandover s) := .ite h.onMir h

theorem mrctlWrite (h : Kept pend s) {w} : Kept pend (mrctlWrite s w) :=
  h.atRing0 (fun _ h => .ite h.ignoreWarn (.ite (Kept.mrAlone (.ite (Kept.mrHandover (.ite ((Kept.copyStop (.ite
    h.mrClaim h)).sendMirror) (.ite h.mrClaim h))) (.ite ((Kept.copyStop (.ite h.mrClaim h)).sendMirror) (.ite
    h.mrClaim h)))) (.ite (Kept.mrHandover (.ite ((Kept.copyStop (.ite h.mrClaim h)).sendMirror) (.ite h.mrClaim h)))
    (.ite ((Kept.copyStop (.ite h.mrClaim h)).sendMirror) (.ite h.mrClaim h)))))

theorem mrLocked (h : Kept pend s) {f : State → State} (hf : ∀ t, Kept pend t → Kept pend (f t)) : Kept pend (mrLocked
    s f) :=
  .ite h (hf _ h)

theorem takeover (h : Kept pend s) : Kept pend (takeover s) :=
  Kept.setB (.ite h.roleTo.setF.kettleCopy.mrEvent.raiseTrigger h.roleTo.setF.kettleCopy.mrEvent)

theorem roleTick (h : Kept pend s) : Kept pend (roleTick s) :=
  .ite h.roleInfo.clearTrigger.clearTrigger (.ite h.onMir (.ite h.takeover h))

theorem selfTick (h : Kept pend s) : Kept pend (selfTick s) := by
  unfold Machine.selfTick
  split
  · exact h.setB.onMir
  · exact h.setB.onMir.clearTrigger
  · exact h

theorem mirrorTick (h : Kept pend s) {k} : Kept pend (mirrorTick s k) := .ite h h.selfTick.roleTick.onMir


/-! #### Pour -/

theorem pourField (h : Kept pend s) {f} : Kept pend (pourField s f) := .foldl (fun _ _ h => h.pourF) h

theorem windowBucket (h : Kept pend s) {old e'} : Kept pend (windowBucket old s e') := .ite h h.beside

theorem windowBuckets (h : Kept pend s) {old} : Kept pend (windowBuckets old s) := .foldl (fun _ _ h => h.windowBucket) h

theorem budgetPour (h : Kept pend s) {old} : Kept pend (budgetPour old s) :=
  have g := h.foldl (fun _ _ h => h.budgetReclip)
  .ite g.budgetCheck g

theorem snapCounters (h : Kept pend s) : Kept pend (snapCounters s) := .foldl (fun _ _ h => h.setF) h

theorem imageFresh (h : Kept pend s) : Kept pend (imageFresh s) := .foldl (fun _ _ h => .ite h.setB.putInf h) h

theorem gatesPoured (h : Kept pend s) {old} : Kept pend (gatesPoured old s) := .foldl (fun _ _ h => .ite h.beside h) h

theorem traceAtPour (h : Kept pend s) : Kept pend (traceAtPour s) := .ite h.traceSync h

theorem pour (h : Kept pend s) {k t'} : Kept pend (pour s k t') := by
  unfold Machine.pour
  extract_lets old u v w
  have hu : Kept pend u := .foldl (fun _ _ h => h.pourField) h
  have hv : Kept pend v := .ite hu hu.setF
  have hw : Kept pend w := hv.windowBuckets.budgetPour.canAbandon.gatesPoured
  exact hw.traceAtPour.snapCounters.imageFresh


/-! #### Loss -/

theorem keepOnly (h : Kept pend s) {ids} : Kept pend (keepOnly s ids) := h.beside

theorem keepMem (h : Kept pend s) {sram} : Kept pend (keepMem s sram) :=
  have ⟨mem, cpus, queue⟩ := h
  ⟨mwf_filter _ _ _ mem, cpus, queue⟩

theorem dramLose (h : Kept pend s) : Kept pend (dramLose s) :=
  Kept.onDram (.foldl (fun _ _ h => .ite h h.contentsLost) h)

theorem mirrorLose (h : Kept pend s) : Kept pend (mirrorLose s) := h.onMir

theorem mirrorStale (h : Kept pend s) : Kept pend (mirrorStale s) := Kept.onMir (.ite h.mrEvent (.ite h h.mrEvent))

theorem socOff (h : Kept pend s) : Kept pend (socOff s) :=
  ((Kept.clearTrigger (.foldl (fun _ _ h => h.setReady)
    h.holdFab.keepOnly.keepMem.dramLose.mirrorLose)).clearTrigger).beside

theorem railOff (h : Kept pend s) {d} : Kept pend (railOff s d) := .ite h.domOff.icLeave h.domOff

theorem scrap (h : Kept pend s) : Kept pend (scrap s) :=
  (((Kept.socOff (.foldl (fun _ _ h => h.railOff) h)).domOff).caddyToReset).beside


/-! #### Caddy -/

theorem onCaddy (h : Kept pend s) {f} : Kept pend (onCaddy s f) := h.beside

theorem respond (h : Kept pend s) {n status body} : Kept pend (respond s n status body) :=
  h.writeBytes.writeBytes.writeList.mbDone

theorem mbJob (h : Kept pend s) {n cmd} {f : State → State} (hf : ∀ t, Kept pend t → Kept pend (f t)) : Kept pend
    (mbJob s n cmd f) :=
  .ite (.ite h.respond (.ite h.respond (hf _ h))) h

theorem mbJobOf (h : Kept pend s) {n cmd len} {f : State → State} (hf : ∀ t, Kept pend t → Kept pend (f t)) : Kept
    pend (mbJobOf s n cmd len f) :=
  h.mbJob (fun _ h => .ite (hf _ h) h.respond)

theorem mbctlWrite (h : Kept pend s) {w n} : Kept pend (mbctlWrite s w n) :=
  .ite h.putField.setF.onCaddy.wakeDom (.ite h.putField.setF h.putField)

theorem mbBufWrite (h : Kept pend s) {q n off len v} : Kept pend (mbBufWrite s q n off len v) :=
  .ite h.writeBytes h.warnIgnored

theorem mbstatWrite (h : Kept pend s) {w n} : Kept pend (mbstatWrite s w n) := h.putField

theorem regionPut (h : Kept pend s) {e' vs} : Kept pend (regionPut s e' vs) :=
  .ite (.foldl (fun _ _ h => h.setSh) h) (Kept.windowBuckets (.foldl (fun _ _ h => h.setF.dropSh) h))

theorem caddyCert (h : Kept pend s) {c sigOk} : Kept pend (caddyCert s c sigOk).2 := by
  unfold Machine.caddyCert
  split
  have g := h.presentCert.snd ‹_›
  split
  · exact .ite g.onCaddy.setB g.onCaddy
  · exact g

theorem completeRow (h : Kept pend s) {stuck r} : Kept pend (completeRow s stuck r) :=
  .ite h.setBit h.beside.setBit.dregs

theorem senseFuses (h : Kept pend s) {stuck} : Kept pend (senseFuses s stuck) :=
  .ite (Kept.setF (.ite (Kept.beside (.foldl (fun _ _ h => h.completeRow) h)) (.foldl (fun _ _ h => h.completeRow)
    h))) ((Kept.setF (.ite (Kept.beside (.foldl (fun _ _ h => h.completeRow) h)) (.foldl (fun _ _ h => h.completeRow)
    h))).dregs)

theorem fuseKey (h : Kept pend s) {r} : Kept pend (fuseKey s r) := h.beside

theorem trySecond (h : Kept pend s) : Kept pend (trySecond s) := .ite h.dregsFree.onCaddy h.onCaddy

theorem applyPolicy (h : Kept pend s) {p} : Kept pend (applyPolicy s p) :=
  .foldl (fun _ _ h => h.setF.setB) ((Kept.setF (.foldl (fun _ _ h => .ite h.setB.setF.setF.setF.icSettle h) (.foldl
    (fun _ _ h => .ite h.setF.setF.setF h) h))).setF)

theorem caddyMove (h : Kept pend s) : Kept pend (caddyMove s) := .ite h.beside h

theorem measured (h : Kept pend s) {m} : Kept pend (measured s m) := h.onCaddy

theorem enterFirmware (h : Kept pend s) : Kept pend (enterFirmware s) := by
  unfold Machine.enterFirmware
  extract_lets u v w x y
  have hu : Kept pend u := .ite h h.setF
  have hw : Kept pend w := .ite (Kept.setB hu).dregsFree (Kept.setB hu)
  have hx : Kept pend x := by
    unfold x
    split
    · exact .ite hw.applyPolicy hw
    · exact hw
  have hy : Kept pend y := by
    unfold y
    split
    · exact .ite hx.measured hx
    · exact hx
  exact hy.setReady.onCaddy.caddyMove

theorem firmwareGood (h : Kept pend s) {measure policy} : Kept pend (firmwareGood s measure policy) :=
  .ite ((Kept.onCaddy (.ite h.dregsFree h)).enterFirmware) ((Kept.onCaddy (.ite h.dregsFree h)).onCaddy)

theorem caddyRelease (h : Kept pend s) : Kept pend (caddyRelease s) := .ite h.setCpu.beside h

theorem bootRegions (h : Kept pend s) : Kept pend (bootRegions s) :=
  Kept.regionPut (.foldl (fun _ _ h => h.regionPut) h)


/-! #### Supply -/

theorem onSup (h : Kept pend s) {f} : Kept pend (onSup s f) := h.beside

theorem onClk (h : Kept pend s) {f} : Kept pend (onClk s f) := h.beside

theorem settleSupply (h : Kept pend s) : Kept pend (settleSupply s) := .ite h.clearTrigger h

theorem backupAbsent (h : Kept pend s) : Kept pend (backupAbsent s) := .ite h.setB h.setB.dregsFree.onSup

theorem showInputs (h : Kept pend s) : Kept pend (showInputs s) := h.setB.setB

theorem bringUp (h : Kept pend s) : Kept pend (bringUp s) :=
  .ite h.showInputs.setF.onSup.railsBegin (.ite h.showInputs.setF.setB.onSup h.showInputs.onSup)

theorem resetRecord (h : Kept pend s) : Kept pend (resetRecord s) := by
  unfold Machine.resetRecord
  split
  exact (h.takeFree.snd ‹_›).dregsFree

theorem supplyRelease (h : Kept pend s) {straps stuck temps} : Kept pend (supplyRelease s straps stuck temps) :=
  ((((Kept.takeTemps (.foldl (fun _ _ h => h.setF) (Kept.senseFuses (.ite (Kept.showInputs (.ite
    h.onSup.resetRecord.dregs h.onSup.resetRecord)) ((Kept.showInputs (.ite h.onSup.resetRecord.dregs
    h.onSup.resetRecord)).backupAbsent))))).steepStart).beside).coldTable).bringUp

theorem tornFuses (h : Kept pend s) : Kept pend (tornFuses s) := by
  unfold Machine.tornFuses
  split
  · split
    exact (h.takeFree.snd ‹_›).onSup.fuseKey
  · exact h

theorem porState (h : Kept pend s) : Kept pend (porState s) := by
  obtain ⟨_, _, queue⟩ := h
  exact .foldl (fun _ _ h => h.causeBit) ⟨rfl, rfl, queue⟩

theorem watchdogsOff (h : Kept pend s) : Kept pend (watchdogsOff s) :=
  Kept.beside (.foldl (fun _ _ h => h.setB) h.setB.setB)

theorem mainLoss (h : Kept pend s) : Kept pend (mainLoss s) :=
  .ite h (.ite h.onSup (.ite ((((((Kept.superEvent (.ite h.onSup.showInputs.raiseTrigger.selfRefreshEntry
    h.onSup.showInputs.raiseTrigger)).setF).setB).bumpF).watchdogsOff).onSup) (.ite
    h.onSup.showInputs.raiseTrigger.selfRefreshEntry h.onSup.showInputs.raiseTrigger)))

theorem portsFull (h : Kept pend s) : Kept pend (portsFull s) :=
  (Kept.setF (.foldl (fun _ _ h => h.setF.setF) h.setLink.setLink)).beside

theorem steepCold (h : Kept pend s) : Kept pend (steepCold s) := .ite h.steepBegin.beside h

theorem coreInReset (h : Kept pend s) {d} : Kept pend (coreInReset s d) := .ite h.setCpu h

theorem monSet (h : Kept pend s) {k} : Kept pend (monSet s k) := h.setBit

theorem switching (h : Kept pend s) {n} : Kept pend (switching s n) := h.setB

theorem clusterFallback (h : Kept pend s) {n} : Kept pend (clusterFallback s n) :=
  ((Kept.setB (.ite h.switching h)).setB).onClk

theorem linkStops (h : Kept pend s) {n} : Kept pend (linkStops s n) :=
  .ite h.linkRetrain (.ite h.linkTrain (.ite h.linkTrain h))

theorem clockResponse (h : Kept pend s) {k} : Kept pend (clockResponse s k) :=
  .ite h.onClk (.ite (Kept.onClk (.foldl (fun _ _ h => h.clusterFallback) h)) (.ite h.clusterFallback (.ite h.onClk
    (.ite h.onClk (.ite h.onClk (.ite h.onClk (.ite (.foldl (fun _ _ h => h.linkStops) h) (.ite (.foldl (fun _ _ h =>
    h.linkStops) h) (.ite (.foldl (fun _ _ h => h.linkStops) h) h)))))))))

theorem settleClocks (h : Kept pend s) : Kept pend (settleClocks s) := .ite h h.clearTrigger

theorem clocksBack (h : Kept pend s) : Kept pend (clocksBack s) :=
  Kept.caddyMove (.ite (Kept.onClk (.ite h.onClk h)) (.ite h.onClk h))

theorem monstatWrite (h : Kept pend s) {w} : Kept pend (monstatWrite s w) := h.putFields.clocksBack

theorem clockFault (h : Kept pend s) {k} : Kept pend (clockFault s k) :=
  .ite (((Kept.raiseTrigger (.ite h.holdFab.monSet.clockResponse.onClk.superEvent
    h.holdFab.monSet.clockResponse.onClk)).dregs).settleClocks) (Kept.dregs (.ite
    h.holdFab.monSet.clockResponse.onClk.superEvent h.holdFab.monSet.clockResponse.onClk))

theorem freqWrite (h : Kept pend s) {w n} : Kept pend (freqWrite s w n) :=
  .ite h (.ite ((Kept.setF (.ite (Kept.onClk (.ite h.switching h)) (.ite h.switching h))).setB) h.ignoreWarn)

theorem clusterWrite (h : Kept pend s) {w n} : Kept pend (clusterWrite s w n) :=
  .ite ((((Kept.setB (.ite h.freqWrite.ignoreWarn h.freqWrite)).clusterFallback).onClk).settleClocks) (.ite (Kept.setB
    (.ite h.freqWrite.ignoreWarn h.freqWrite)) (.ite (.ite (Kept.setB (.ite h.freqWrite.ignoreWarn h.freqWrite)) (.ite
    (((Kept.setB (.ite h.freqWrite.ignoreWarn h.freqWrite)).setB).switching) (((Kept.setB (.ite h.freqWrite.ignoreWarn
    h.freqWrite)).setB).onClk))) (.ite ((Kept.setB (.ite ((Kept.setB (.ite h.freqWrite.ignoreWarn
    h.freqWrite)).switching) (Kept.setB (.ite h.freqWrite.ignoreWarn h.freqWrite)))).onClk) (Kept.setB (.ite
    h.freqWrite.ignoreWarn h.freqWrite)))))

theorem coreStarts (h : Kept pend s) {c} : Kept pend (coreStarts s c) := .ite h (.ite h.setBit.onDbg.setCpu h.setCpu)

theorem rstctlWrite (h : Kept pend s) {w} : Kept pend (rstctlWrite s w) := .ite h.warmStart h.ignoreWarn

theorem unlisted {flds sh caches icCommit icPulse dregs ket steep dram warm caddy trace pwr sup clk links router inf
    ports gates disp touch cams usb pcie ep mir dbg time fab free} (h : Kept pend s) : Kept pend (State.mk flds sh
    s.mem [] caches icCommit icPulse dregs ket steep dram warm caddy trace pwr sup clk links router inf ports
    gates disp touch cams usb pcie ep mir dbg time fab free s.pending) :=
  have ⟨mem, _, queue⟩ := h
  ⟨mem, rfl, queue⟩

theorem warmHold (h : Kept pend s) {kind} : Kept pend (warmHold s kind) := by
  unfold Machine.warmHold
  extract_lets u v w x y z q
  have hu : Kept pend u := Kept.traceFlush (.ite h h.endGrant)
  have hw : Kept pend w := hu.holdFab.mirrorStale.caddyToReset.keepOnly.keepMem.dramLose.mirrorLose
  have hz : Kept pend y := (Kept.setF hw).clearTrigger.clearTrigger
  exact Kept.steepCold (.foldl (fun _ _ h => .ite h h.setF) hz.unlisted)


/-! #### InfCtl -/

theorem infOrdered (h : Kept pend s) {i k} : Kept pend (infOrdered s i k).2 := h.beside

theorem infRecord (h : Kept pend s) {i code cls} : Kept pend (infRecord s i code cls) := h.dregsFree

theorem infStart (h : Kept pend s) {i safety} : Kept pend (infStart s i safety) := h.setCpu.putInf.setF.setB.infRecord

theorem infStopNow (h : Kept pend s) {i machine} : Kept pend (infStopNow s i machine) :=
  .ite ((Kept.putInf (.ite h.infuserStop h.setCpu.putInf)).infRecord) (Kept.putInf (.ite h.infuserStop
    h.setCpu.putInf))

theorem ifctlWrite (h : Kept pend s) {w i} : Kept pend (ifctlWrite s w i) :=
  h.atRing0 (fun _ h => .ite h.ignoreWarn (.ite (.ite h.ignoreWarn (.ite (.ite h.infStart h.infRecord) h.infStart))
    (.ite (.ite h.ignoreWarn h.infStopNow) h)))

theorem entryWrite (h : Kept pend s) {w i} : Kept pend (entryWrite s w i) :=
  .ite h.ignoreWarn (.foldl (fun _ _ h => h.setF) h.putFields)

theorem ifcfgWrite (h : Kept pend s) {w i} : Kept pend (ifcfgWrite s w i) := h.atMachine (fun _ h => h.putField)

theorem pgrpWrite (h : Kept pend s) {w g} : Kept pend (pgrpWrite s w g) :=
  h.atRing0 (fun _ h => .ite h.ignoreWarn h.putFields)

theorem doorbellWrite (h : Kept pend s) {w i} : Kept pend (doorbellWrite s w i) := .ite h.infEvent h

theorem imageInWrite (h : Kept pend s) {i w v} : Kept pend (imageInWrite s i w v) :=
  .ite h.putInf.setSh h.putInf.setF.dropSh


/-! #### Compose -/

theorem putDisp (h : Kept pend s) {o x} : Kept pend (putDisp s o x) := h.beside

theorem lineMissed (h : Kept pend s) {o} : Kept pend (lineMissed s o) := h.bumpF.raiseSource

theorem fetchLayerLine (h : Kept pend s) {o l r} : Kept pend (fetchLayerLine s o l r).2 := by
  unfold Machine.fetchLayerLine
  have missed {u : State} (h : Kept pend u) : Kept pend (if (dispOf s o).late.contains (l, r) then u
      else Machine.lineMissed u o) := .ite h h.lineMissed
  dsimp only
  split
  · exact h
  · split
    · exact missed h
    · split
      · exact missed h.askWake
      · exact h.dmaRead

theorem foldlPair {α β : Type} {step : β × State → α → β × State}
    (hs : ∀ r a, Kept pend r.2 → Kept pend (step r a).2) {l : List α} {r : β × State} (h : Kept pend r.2) :
    Kept pend (l.foldl step r).2 := by
  induction l generalizing r with
  | nil => exact h
  | cons a l ih => exact ih (hs r a h)

theorem fetchLayer (h : Kept pend s) {o l} : Kept pend (fetchLayer s o l).2 := by
  unfold Machine.fetchLayer
  refine .foldlPair (fun r _ h => ?_) h
  exact h.fetchLayerLine

theorem frameFetched (h : Kept pend s) {o} : Kept pend (frameFetched s o).2 := by
  unfold Machine.frameFetched
  split
  · exact h
  · refine .foldlPair (fun r l h => ?_) h
    split
    next e => 
      refine Kept.snd ?_ e
      split
      · exact h.fetchLayer
      · exact h

theorem sunStrength (h : Kept pend s) {o} : Kept pend (sunStrength s o).2 := by
  unfold Machine.sunStrength
  dsimp only
  split
  · exact h.takeFree
  · exact h

theorem sunCurves (h : Kept pend s) {o ps} : Kept pend (sunCurves s o ps).2 := by
  unfold Machine.sunCurves
  split
  · exact h
  · split
    exact h.sunStrength.snd ‹_›

theorem backlight (h : Kept pend s) {o} : Kept pend (backlight s o).2 := by
  unfold Machine.backlight
  dsimp only
  split
  · exact h
  · split
    · exact h.takeFree
    · exact h


/-! #### Operator -/

theorem ocfgWrite (h : Kept pend s) {w o} : Kept pend (ocfgWrite s w o) :=
  h.atRing0 (fun _ h => .ite h.putFields.putField.setF.setF.putDisp (.ite h.putFields.putField.setF.putDisp
    h.putFields.putField))

theorem putEdid (h : Kept pend s) {o bs} : Kept pend (putEdid s o bs) := .foldl (fun _ _ h => h.setF) h

theorem displayPour (h : Kept pend s) {o} : Kept pend (displayPour s o) :=
  .foldl (fun _ _ h => .foldl (fun _ _ h => h.pourF) h) (.foldl (fun _ _ h => h.pourF) h)

theorem sentCrc (h : Kept pend s) {o ps} : Kept pend (sentCrc s o ps).2 := by
  unfold Machine.sentCrc
  split
  · split
    exact h.takeFree.snd ‹_›
  · exact h

theorem ambFresh (h : Kept pend s) {w o} : Kept pend (ambFresh s w o) := .ite h.putField.putDisp.setB h.putField

theorem ambWrite (h : Kept pend s) {w o} : Kept pend (ambWrite s w o) := by
  unfold Machine.ambWrite
  split
  · exact h.putField.ambFresh
  · split
    · exact .ite h.ambFresh.ignoreWarn h.ambFresh
    · exact h.ignoreWarn

theorem putTouch (h : Kept pend s) {t' x} : Kept pend (putTouch s t' x) := h.beside

theorem scanStart (h : Kept pend s) {t'} : Kept pend (scanStart s t') :=
  (Kept.setF (.ite ((Kept.setB (.foldl (fun _ _ h => h.pourF) h)).raiseSource) (.foldl (fun _ _ h => h.pourF)
    h))).putTouch

theorem tcfgWrite (h : Kept pend s) {w t'} : Kept pend (tcfgWrite s w t') :=
  h.atRing0 (fun _ h => .ite h.putFields.putField.setF.putTouch.scanStart (.ite h.putFields.putField.putTouch
    h.putFields.putField))

theorem putContact (h : Kept pend s) {k c} : Kept pend (putContact s k c) :=
  h.setF.setF.setF.setF.setF.setB.setF.setF.setF


/-! #### Device -/

theorem rqLine (h : Kept pend s) {q} : Kept pend (rqLine s q) := h.setLine

theorem sqcfgWrite (h : Kept pend s) {w q} : Kept pend (sqcfgWrite s w q) :=
  h.atMachine (fun _ h => .ite h.putFields.beside (.ite h.putFields.beside h.putFields))

theorem rqcfgWrite (h : Kept pend s) {w q} : Kept pend (rqcfgWrite s w q) :=
  h.atMachine (fun _ h => Kept.rqLine (.ite h.putFields.beside h.putFields))

theorem evtpendWrite (h : Kept pend s) {w} : Kept pend (evtpendWrite s w) := h.putField.setLine

theorem refcntWrite (h : Kept pend s) {w} : Kept pend (refcntWrite s w) := h.putFields

theorem icSrcRegWrite (h : Kept pend s) {w n} : Kept pend (icSrcRegWrite s w n) := .ite h h.putFields.icSettle

theorem swtrigWrite (h : Kept pend s) {w} : Kept pend (swtrigWrite s w) := .ite h.raiseSource h

theorem strained (h : Kept pend s) {q x kind off n} : Kept pend (strained s q x kind off n).state := by
  unfold Machine.strained
  split
  · exact h.strain.snd ‹_›
  · exact h.strain.snd ‹_›

theorem deviceRead (h : Kept pend s) {q off n} : Kept pend (deviceRead s q off n).state := by
  unfold Machine.deviceRead
  split
  · exact h
  · refine h.gateOff.bind fun _ _ h' => ?_
    split
    · exact h'.strained.bind (fun _ _ h => h)
    · split
      · split
        · exact h'
        · exact h'
      · split
        · exact h'
        · split
          · split
            · exact h'
            · split
              · exact h'
              · split
                exact h'.takeFree.snd ‹_›
          · split
            · split
              exact h'.outboundRequest.takeFree.snd ‹_›
            · exact h'

theorem plainWrite (h : Kept pend s) {w g i e'} : Kept pend (plainWrite s w g i e') := h.putFields

theorem writeActs0_kept : writeActs0.Forall fun a => ∀ s w i, Kept pend s → Kept pend (a.2 s w i) :=
  ⟨fun _ _ _ h => h.waymaskWrite, fun _ _ _ h => h.l3LockRegWrite, fun _ _ _ h => h.cctlWrite, fun _ _ _ h =>
    h.l2ctlWrite, fun _ _ _ h => h.slctlWrite, fun _ _ _ h => h.mbctlWrite, fun _ _ _ h => h.mbstatWrite, fun _ _ _
    h => h.dbGrantWrite, fun _ _ _ h => h.dbCatchWrite, fun _ _ _ h => h.corectlWrite, fun _ _ _ h => h.cmpWrite,
    fun _ _ _ h => h.cmpWrite, fun _ _ _ h => h.trcfgWrite, fun _ _ _ h => h.atTrace fun _ h => h.putFields, fun _ _
    _ h => h.atTrace fun _ h => h.putFields.showFull, fun _ _ _ h => h.trstatWrite, fun _ _ _ h => h.atTrace fun _ h
    => h.putFields, fun _ _ _ h => h.pcevtWrite, fun _ _ _ h => h.pccntWrite⟩

theorem writeActs1_kept : writeActs1.Forall fun a => ∀ s w i, Kept pend s → Kept pend (a.2 s w i) :=
  ⟨fun _ _ _ h => h.mctlWrite, fun _ _ _ h => h.budgetWrite, fun _ _ _ h => h.incfgWrite, fun _ _ _ h =>
    h.cqtailWrite, fun _ _ _ h => h.gclWrite, fun _ _ _ h => h.gclbaseWrite, fun _ _ _ h => h.nodeidWrite, fun _ _ _
    h => h.tcfgTimeWrite, fun _ _ _ h => h.epcfgWrite, fun _ _ _ h => h.originWrite, fun _ _ _ h => h.edwstatWrite,
    fun _ _ _ h => h.edwcfgWrite, fun _ _ _ h => h.ifctlWrite, fun _ _ _ h => h.entryWrite, fun _ _ _ h =>
    h.ifcfgWrite, fun _ _ _ h => h.pgrpWrite, fun _ _ _ h => h.doorbellWrite, fun _ _ _ h => h.saferelWrite, fun _ _
    _ h => h.sovalWrite, fun _ _ _ h => h.safelvlWrite, fun _ _ _ h => h.safectlWrite, fun _ _ _ h => h.sincfgWrite,
    fun _ _ _ h => h.joycfgWrite, fun _ _ _ h => h.wdkickWrite, fun _ _ _ h => h.wdcfgWrite, fun _ _ _ h =>
    h.ktTempWrite⟩

theorem writeActs2_kept : writeActs2.Forall fun a => ∀ s w i, Kept pend s → Kept pend (a.2 s w i) :=
  ⟨fun _ _ _ h => h.dregsReleaseWrite, fun _ _ _ h => h.dregsSubmitWrite, fun _ _ _ h => h.dregsLostWrite, fun _ _ _
    h => h.dregsStatWrite, fun _ _ _ h => h.linkcfgWrite, fun _ _ _ h => h.linkctlWrite, fun _ _ _ h =>
    h.mrcfgWrite, fun _ _ _ h => h.mrctlWrite, fun _ _ _ h => h.mrLocked fun _ h => h.putFields, fun _ _ _ h =>
    h.mrLocked fun _ h => h.putFields, fun _ _ _ h => h.ocfgWrite, fun _ _ _ h => h.ambWrite, fun _ _ _ h =>
    h.tcfgWrite, fun _ _ _ h => h.domreqWrite, fun _ _ _ h => h.vcmdWrite, fun _ _ _ h => h.coreclkWrite, fun _ _ _
    h => h.steepctlWrite, fun _ _ _ h => h.steepTableWrite, fun _ _ _ h => h.clusterWrite, fun _ _ _ h =>
    h.monstatWrite, fun _ _ _ h => h.rstctlWrite, fun _ _ _ h => h.icSrcRegWrite, fun _ _ _ h => h.swtrigWrite, fun
    _ _ _ h => h.sqcfgWrite, fun _ _ _ h => h.rqcfgWrite, fun _ _ _ h => h.evtpendWrite, fun _ _ _ h =>
    h.refcntWrite⟩

theorem lookup_of_forall {β : Type} {P : Nat × β → Prop} {l : List (Nat × β)} {k : Nat} {b : β} (h : l.Forall P)
    (e : l.lookup k = some b) : P (k, b) := by
  induction l with
  | nil => cases e
  | cons x l ih =>
    obtain ⟨hx, hl⟩ := (List.forall_cons _ _ _).mp h
    rw [List.lookup_cons] at e
    split at e
    · next hk =>
      obtain rfl := eq_of_beq hk
      cases e
      exact hx
    · exact ih hl e

theorem regWrite (h : Kept pend s) {w g i j} : Kept pend (regWrite s w g i j) := by
  unfold Machine.regWrite
  dsimp only
  split
  · next act hact =>
    have listed : writeActs.Forall fun a => ∀ s w i, Kept pend s → Kept pend (a.2 s w i) := by
      simp only [writeActs, List.forall_append]
      exact ⟨⟨writeActs0_kept, writeActs1_kept⟩, writeActs2_kept⟩
    exact lookup_of_forall listed hact _ _ _ h
  · exact .ite (h.atMachine fun _ h => h.plainWrite) (.ite (h.atRing0 fun _ h => h.plainWrite) h.plainWrite)

theorem deviceWrite (h : Kept pend s) {q off n v} : Kept pend (deviceWrite s q off n v).state := by
  unfold Machine.deviceWrite
  split
  · exact h
  · refine h.gateOff.bind fun _ _ h' => ?_
    split
    · exact h'.strained.bind (fun _ _ h => h.writeBytes)
    · split
      · exact h'
      · split
        · exact h'.outboundRequest
        · split
          · exact h'.mbBufWrite
          · split
            · exact h'.regWrite
            · exact .ite h'.warnIgnored h'


/-! #### Access -/

theorem resolveP (h : Kept pend s) {p va chk access} : Kept pend (resolveP s p va chk access).state := by
  unfold Machine.resolveP
  dsimp only
  split
  · exact h.resolveAs
  · split
    · exact h
    · exact h
  · split
    · exact h
    · exact h

theorem resolveSegs (h : Kept pend s) {p n chk access held l} : Kept pend (resolveSegs s p n chk access held l).state := by
  induction l generalizing s held with
  | nil => exact h
  | cons g l ih =>
    unfold Machine.resolveSegs
    have rest {t : State} (h : Kept pend t) {f : Found} : Kept pend
        ((Machine.resolveSegs t p n chk access (held.drop 1) l).bind fun fs s => .ok (f :: fs) s).state :=
      (ih h).xbind fun _ _ h => h
    have place : Kept pend (match held with
        | x :: _ => XRes.ok x s
        | [] => Machine.resolveP s p g.va chk access).state := by
      split
      · exact h
      · exact h.resolveP
    extract_lets again
    split
    · split
      · exact rest (place.xok ‹_›)
      · exact rest (place.xok ‹_›)
    · exact rest (place.xexc ‹_›)
    · exact place.xstall ‹_›

theorem keepPlaces (h : Kept pend r.state) {xs access} : Kept pend (keepPlaces xs access r).state := by
  unfold Machine.keepPlaces
  split
  · exact h
  · exact h
  · exact h

theorem withPlaces (h : Kept pend s) {p ea n chk access seen} {go : List (XAddr × Seg) → State → IRes}
    (hgo : ∀ xs t, Kept pend t → Kept pend (go xs t).state) : Kept pend (withPlaces s p ea n chk access seen go).state := by
  unfold Machine.withPlaces
  split
  · exact h.resolveSegs.xexc ‹_›
  · exact h.resolveSegs.xstall ‹_›
  · next fs u hu =>
    have g : Kept pend u := h.resolveSegs.xok hu
    extract_lets bad
    clear_value bad
    split
    · exact g
    · split
      next watch v hv =>
        have gv : Kept pend v := by
          refine Kept.snd ?_ hv
          split
          · exact g.compare
          · exact g
        split
        · exact gv
        · cases bad with
          | some e => exact gv
          | none =>
            refine Kept.keepPlaces ?_
            split
            · split
              · exact hgo _ _ g
              · exact hgo _ _ g
              · exact (hgo _ _ gv).held ‹_›
            · exact hgo _ _ gv

theorem iteSnd {α : Type} {c : Prop} [Decidable c] {a b : α × State} (ha : Kept pend a.2) (hb : Kept pend b.2) :
    Kept pend (if c then a else b).2 := by
  split
  · exact ha
  · exact hb

theorem ownLoad (h : Kept pend s) {p place n} : Kept pend (ownLoad s p place n).2 := by
  unfold Machine.ownLoad
  have taken := h.takeFree
  cases p with
  | infuser i => exact .iteSnd h h
  | _ => exact .iteSnd h (.iteSnd h taken)

theorem ncRead (h : Kept pend s) {c off n} : Kept pend (ncRead s c off n).state := by
  unfold Machine.ncRead
  refine h.coreRequest fun _ h' => ?_
  split
  · exact (h'.memAdmit.ok ‹_›).readMem
  · exact h'.memAdmit.fail ‹_›
  · exact h'.memAdmit.stall ‹_›

theorem placeRead (h : Kept pend s) {p x n} : Kept pend (placeRead s p x n).state := by
  unfold Machine.placeRead
  split
  · split
    exact h.ownLoad.snd ‹_›
  · split
    · dsimp only
      split
      · exact h.coreRequest (fun _ h => h.deviceRead)
      · exact h.deviceRead
    · split
      · exact h
      · split
        · split
          · exact h.ncRead
          · exact h.ncRead
          · exact h.ncRead
          · exact h.ncRead
          · split
            · exact h.cachedLine.ok ‹_›
            · exact h.cachedLine
        · exact h.snoopRead

theorem remoteHit (h : Kept pend s) {c line} : ∀ x, remoteHit s c line = some x → Kept pend x.2 := by
  unfold Machine.remoteHit
  intro x e
  dsimp only at e
  split at e
  · next y t ht =>
    cases e
    exact h.hitL1 _ ht
  · split at e
    · next d t ht =>
      have g : Kept pend t := h.newestUsed _ ht
      cases e
      exact g.fillL2.fillL1
    · obtain ⟨y, _, rfl⟩ := Option.map_eq_some_iff.mp e
      exact h.fillL2.fillL1

theorem loadPart (h : Kept pend s) {p x g} : Kept pend (loadPart s p x g).state := by
  unfold Machine.loadPart
  dsimp only
  split
  · exact h
  · exact h
  · split
    · exact by split; exacts [h.placeRead.ok ‹_›, by split; exacts [h.placeRead.fail ‹_›, h.placeRead.fail ‹_›],
        h.placeRead.stall ‹_›]
    · split
      · split
        · exact h.remoteHit _ ‹_›
        · exact h
      · exact h

theorem loadParts (h : Kept pend s) {p l} : Kept pend (loadParts s p l).state := by
  induction l generalizing s with
  | nil => exact h
  | cons x l ih => exact h.loadPart.xbind fun _ _ h => (ih h).xbind fun _ _ h => h

theorem fpDirty (h : Kept pend s) {p} : Kept pend (fpDirty s p) := by
  unfold Machine.fpDirty
  split
  · exact h.onSt
  · exact h

theorem putV (h : Kept pend s) {p d v} : Kept pend (putV s p d v) := h.setV.fpDirty

theorem loadResult (h : Kept pend s) {p dst v} : Kept pend (loadResult s p dst v) := by
  unfold Machine.loadResult
  split
  · exact h.setG
  · exact h.putV

theorem coreDeadline (h : Kept pend s) {c part node} : Kept pend (coreDeadline s c part node).2 := h.beside

theorem corePacket (h : Kept pend s) {c part cmd place len tag payload} : Kept pend (corePacket s c part cmd place len
    tag payload).2 := by
  unfold Machine.corePacket
  split
  exact h.coreDeadline.snd ‹_›

theorem sendReads (h : Kept pend s) {c ps ts} : Kept pend (sendReads s c ps ts).2 := by
  induction ps generalizing s ts with
  | nil =>
    unfold Machine.sendReads
    exact h
  | cons x ps ih =>
    cases x with
    | data v len =>
      unfold Machine.sendReads
      exact ih h
    | need place len fill =>
      cases ts with
      | nil =>
        unfold Machine.sendReads
        exact h
      | cons t ts =>
        unfold Machine.sendReads
        extract_lets source size
        split
        next k u hu =>
          have g : Kept pend u := Kept.snd h.traceCore.corePacket hu
          exact ih g.setCpu.sendOwn

theorem loadFinish (h : Kept pend s) {p dst ea parts} : Kept pend (loadFinish p dst ea parts s).state := by
  unfold Machine.loadFinish
  split
  · exact h.loadResult
  · split
    · dsimp only
      split
      · exact h.gateUnit.fail ‹_›
      · exact h.gateUnit.stall ‹_›
      · have g := h.gateUnit.ok ‹_›
        split
        · exact g
        · split
          · exact g.beside
          · exact g.sendReads
    · exact h

theorem loadOp (h : Kept pend s) {p dst n align ea} : Kept pend (loadOp p dst n align ea s).state := by
  unfold Machine.loadOp
  split
  · exact h
  · refine h.withPlaces fun _ _ h' => ?_
    dsimp only
    split
    · exact h'
    · split
      · exact h'.keepWake
      · exact h'.loadParts.andThen (fun _ _ h => h.loadFinish)

theorem ncWrite (h : Kept pend s) {c part off n v} : Kept pend (ncWrite s c part off n v).state := by
  unfold Machine.ncWrite
  refine h.coreRequest fun _ h' => ?_
  split
  · have g1 := (h'.sliceGate.bind (fun _ _ h => h.memAdmit)).ok ‹_›
    exact (Kept.updateIn (.ite g1.otherClusters g1)).writeMem
  · exact (h'.sliceGate.bind (fun _ _ h => h.memAdmit)).fail ‹_›
  · exact (h'.sliceGate.bind (fun _ _ h => h.memAdmit)).stall ‹_›

theorem strainerProgram (h : Kept pend s) {off n v} : Kept pend (strainerProgram s off n v) := by
  unfold Machine.strainerProgram
  split
  · next g i j _ =>
    have put := h.foldl (l := g.fields) (step := fun s f =>
      if f.pour = .epoch && (Wr.at .caddy off n (BitVec.ofNat 64 v)).touches f then
        let x := (Wr.at .caddy off n (BitVec.ofNat 64 v)).merge f (s.shv f (i * g.n2 + j))
        if s.epochOn then s.setSh f (i * g.n2 + j) x else (s.setF f (i * g.n2 + j) x).dropSh f (i * g.n2 + j)
      else s) fun _ _ h => .ite (.ite h.setSh h.setF.dropSh) h
    exact .ite put.windowBucket put
  · exact h

theorem ownStore (h : Kept pend s) {p place n v} : Kept pend (ownStore s p place n v) := by
  unfold Machine.ownStore
  split
  · split
    · split
      · split
        · exact (h.strain.snd ‹_›).writeBytes
        · exact h.strain.snd ‹_›
      · exact h.writeBytes
    · exact h.imageInWrite
  · exact .ite h.writeBytes (.ite h.strainerProgram h)

theorem atIssueRing (h : Kept pend s) {c ring} {f : State → Res Unit} (hf : ∀ t, Kept pend t → Kept pend (f t).state) :
    Kept pend (atIssueRing s c ring f).state := by
  unfold Machine.atIssueRing
  have run := hf _ (h.onSt (p := .core c) (f := fun x => { x with ring := BitVec.ofNat 2 ring, ml := ring == 4 }))
  have back {t : State} (h : Kept pend t) : Kept pend (t.onSt (.core c) fun x =>
      { x with ring := (s.cpu (.core c)).st.ring, ml := (s.cpu (.core c)).st.ml }) := h.onSt
  dsimp only
  split
  · exact back (run.ok ‹_›)
  · exact back (run.fail ‹_›)
  · exact back (run.stall ‹_›)

theorem placeWrite (h : Kept pend s) {p x part ring n v} : Kept pend (placeWrite s p x part ring n v).state := by
  unfold Machine.placeWrite
  extract_lets line device scratch
  have hdev (t : State) (h : Kept pend t) : Kept pend (device t).state := h.deviceWrite
  split
  · split
    · exact h.coreRequest fun _ h => h.atIssueRing hdev
    · exact hdev _ h
  · split
    · exact h
    · split
      · exact h
      · split
        · next c =>
          extract_lets through back
          have hthrough : Kept pend through.state := h.storeThrough
          have hback : Kept pend (back s).state := by
            unfold back
            split
            · exact h.storeWb.ok ‹_›
            · exact h.storeWb.fail ‹_›
            · exact h.storeWb.stall ‹_›
          split
          · split
            · exact hthrough
            · exact hback
          · split
            · exact hthrough
            · split
              · split
                · exact (hback.ok ‹_›).trackStore _ ‹_›
                · exact h
              · exact hback
          · exact hthrough
          · exact hthrough
          · exact h.ncWrite
        · exact h.snoopWrite

theorem remoteUpdate (h : Kept pend s) {c x n v} : Kept pend (remoteUpdate s c x n v) :=
  .ite (.foldl (fun _ _ h => .ite h.setCpu h) h.updateIn) h

theorem remoteWrite (h : Kept pend s) {c x part n v va begun} :
    Kept pend (remoteWrite s c x part n v va begun).state := by
  unfold Machine.remoteWrite
  dsimp only
  split
  · exact h
  · split
    · exact h
    · refine h.coreRequest fun t h => ?_
      split
      · exact (h.gateUnit.ok ‹_›).remoteUpdate.corePacket.setCpu.sendOwn
      · exact h.gateUnit

theorem joinedWrite (h : Kept pend s) {c x n v begun} : Kept pend (joinedWrite s c x n v begun) := by
  unfold Machine.joinedWrite
  dsimp only
  split
  · exact h.remoteUpdate.setCpu
  · exact h.remoteUpdate

theorem recordRefusal (h : Kept pend s) {p code va} : Kept pend (recordRefusal s p code va) := .ite h.setCpu h.setCpu

theorem drainStore (h : Kept pend s) {p e' st} : Kept pend (drainStore s p e' st).state := by
  unfold Machine.drainStore
  dsimp only
  split
  · exact h.ownStore
  · split
    · split
      · have g := h.placeWrite.fail ‹_›
        split
        · exact g.recordRefusal
        · exact g
      · exact h.placeWrite
    · split
      · split
        · exact h.joinedWrite
        · split
          · exact (h.remoteWrite.fail ‹_›).recordRefusal
          · exact h.remoteWrite
      · exact h

theorem sbHead (h : Kept pend s) {p e' left} : Kept pend (sbHead s p e' left) := h.setCpu

theorem drainStores (h : Kept pend s) {p e' l} : Kept pend (drainStores s p e' l) := by
  induction l generalizing s e' with
  | nil => exact h.sbHead
  | cons x l ih =>
    unfold Machine.drainStores
    split
    · exact ih (h.drainStore.ok ‹_›)
    · exact ih (h.drainStore.fail ‹_›)
    · exact (h.drainStore.stall ‹_›).sbHead

theorem drainHead (h : Kept pend s) {p} : Kept pend (drainHead s p) := by
  unfold Machine.drainHead
  split
  · exact h.drainStores
  · exact h

theorem stopDrained (h : Kept pend s) {p} : Kept pend (stopDrained s p) := by
  unfold Machine.stopDrained
  split
  · exact .ite h.putInf.infuserStop h
  · exact h

theorem strictParts (h : Kept pend s) {p v l} : Kept pend (strictParts p v l s).state := by
  induction l generalizing s v with
  | nil => exact h
  | cons x l ih =>
    unfold Machine.strictParts
    dsimp only
    split
    · exact ih h.ownStore
    · split
      · exact ih (h.placeWrite.ok ‹_›)
      · split
        · exact h.placeWrite.fail ‹_›
        · exact ih (h.placeWrite.fail ‹_›)
      · exact h.placeWrite.stall ‹_›

theorem strictStore (h : Kept pend s) {p v xs} : Kept pend (strictStore p v xs s).state := by
  unfold Machine.strictStore
  split
  · exact h.strictParts.xok ‹_›
  · exact h.strictParts.xexc ‹_›
  · exact h.keepWake

theorem pushStore (h : Kept pend s) {p x st} : KeptIn pend (pushStore s p x st) := h.sbPush

theorem pushStores (h : Kept pend s) {p v xs} : KeptIn pend (pushStores p v xs s) := by
  unfold Machine.pushStores
  extract_lets put
  split
  · exact .some h
  · exact h.pushStore
  · dsimp only
    intro t e
    obtain ⟨u, hu, e⟩ := Option.bind_eq_some_iff.mp e
    exact (h.pushStore _ hu).pushStore _ e

theorem storeOp (h : Kept pend s) {p n align ea v} : Kept pend (storeOp p n align ea v s).state := by
  unfold Machine.storeOp
  split
  · exact h
  · refine h.withPlaces fun _ _ h' => ?_
    split
    · exact h'
    · split
      · split
        · exact h'.strictStore
        · exact h'
      · split
        · exact h'.pushStores _ ‹_›
        · exact h'

theorem snoopAtomic (h : Kept pend s) {cls part off n f} : Kept pend (snoopAtomic s cls part off n f).state := by
  unfold Machine.snoopAtomic
  split
  · have g := h.snoopRead.ok ‹_›
    split
    · split
      · exact g.snoopPut.ok ‹_›
      · exact g.snoopPut.fail ‹_›
      · exact g.snoopPut.stall ‹_›
    · exact g
  · exact h.snoopRead

theorem scratchAtomic (h : Kept pend s) {c part off n f} : Kept pend (scratchAtomic s c part off n f).state := by
  refine h.coreRequest fun t h => ?_
  split
  · have g := (h.memAdmit.ok ‹_›).discardLine (line := off / 64)
    extract_lets u old
    clear_value old
    have hu : Kept pend u := g
    clear_value u
    split
    · exact hu.writeBytes
    · exact hu
  · exact h.memAdmit.fail ‹_›
  · exact h.memAdmit.stall ‹_›

theorem sliceAtomic (h : Kept pend s) {c part off n wt f} : Kept pend (sliceAtomic s c part off n wt f).state := by
  unfold Machine.sliceAtomic
  extract_lets line
  refine h.coreRequest fun t h => ?_
  have admitted : Kept pend ((Machine.sliceGate t (off / 64)).bind fun _ s => Machine.memAdmit s 0 (some part) 3 off n).state :=
    h.sliceGate.resBind fun _ _ h => h.memAdmit
  split
  · next u hu =>
    have seen : Kept pend (Machine.l3Lookup u (some part) (off / 64)) := (admitted.ok hu).l3Lookup
    extract_lets v old
    have hold : Kept pend old.state := by
      unfold old
      split
      · exact seen
      · exact seen.readMem
    clear_value old
    split
    · have g := Kept.ok hold rfl
      split
      · extract_lets upd w
        have hw : Kept pend w := .ite g.updateIn.otherClusters g
        split
        · exact hw.updateIn.writeMem.ok ‹_›
        · exact hw.updateIn.writeMem.fail ‹_›
        · exact hw.updateIn.writeMem.stall ‹_›
      · exact g
    · exact hold
  · exact admitted.fail ‹_›
  · exact admitted.stall ‹_›

theorem exclusiveAtomic (h : Kept pend s) {c part off n mirrored f} :
    Kept pend (exclusiveAtomic s c part off n mirrored f).state := by
  unfold Machine.exclusiveAtomic
  dsimp only
  split
  · next d u hu =>
    have g : Kept pend u := h.cachedLine.ok hu
    split
    · split
      · next t ht =>
        have tracked : Kept pend t := by
          split at ht
          · exact g.trackStore _ ht
          · exact Option.some.inj ht ▸ g
        split
        · exact tracked.putWb.ok ‹_›
        · exact tracked.putWb.fail ‹_›
        · exact g.orWait (tracked.putWb.stall ‹_›)
      · exact g
    · split
      · split
        · exact g.putWb.ok ‹_›
        · exact g.putWb.fail ‹_›
        · exact g.putWb.stall ‹_›
      · exact g.snoopOut
  · exact h.cachedLine

theorem atomicAt (h : Kept pend s) {p x n f} : Kept pend (atomicAt s p x n f).state := by
  unfold Machine.atomicAt
  split
  · split
    have g := h.ownLoad.snd ‹_›
    exact by split; exacts [g.ownStore, g]
  · split
    · exact h
    · split
      · dsimp only
        split
        · exact h.scratchAtomic
        · split
          · exact h.sliceAtomic
          · exact h.sliceAtomic
          · exact h.exclusiveAtomic
      · exact h.snoopAtomic

theorem atomicOp (h : Kept pend s) {p d a b n f} : Kept pend (atomicOp p d a b n f s).state := by
  unfold Machine.atomicOp
  dsimp only
  split
  · exact h
  · split
    · exact h
    · refine h.withPlaces fun xs t h => ?_
      have loaded {u : State} (h : Kept pend u) {v} : Kept pend (Machine.loadResult u p (.g d n true) v) := h.loadResult
      split
      · split
        · exact loaded (h.atomicAt.ok ‹_›)
        · split
          · exact h.atomicAt.fail ‹_›
          · exact loaded (h.atomicAt.fail ‹_›)
        · exact h.atomicAt.stall ‹_›
      · exact h


/-! #### Flags -/

theorem putG (h : Kept pend s) {p d v} : Kept pend (putG p d v s).state := h.setG

theorem putOv (h : Kept pend s) {p d v ov} : Kept pend (putOv p d v ov s).state := by
  unfold Machine.putOv
  split
  · split
    · exact h
    · exact h.setG.onSt.done
  · exact h.setG.done

theorem putDz (h : Kept pend s) {p d v} : Kept pend (putDz p d v s).state := by
  unfold Machine.putDz
  split
  · exact h
  · exact h.setG.onSt.done


/-! #### Operands -/

theorem alu2 (h : Kept pend s) {p d a b f} : Kept pend (alu2 p d a b f s) := h.runInstr (fun _ h => h.putG)

theorem alu1 (h : Kept pend s) {p d a f} : Kept pend (alu1 p d a f s) := h.runInstr (fun _ h => h.putG)

theorem aluOv (h : Kept pend s) {p d f} : Kept pend (aluOv p d f s) := h.runInstr (fun _ h => h.putOv)


/-! #### Branch -/

theorem branchIf (h : Kept pend s) {p a b off c} : Kept pend (branchIf p a b off c s) := by
  refine h.runInstr fun t h => ?_
  dsimp only
  split
  · exact h
  · exact h


/-! #### DebugPort -/

theorem portIr (h : Kept pend s) {code} : Kept pend (portIr s code) := h.onDbg

theorem portFail (h : Kept pend s) {e'} : Kept pend (portFail s e') := by
  unfold Machine.portFail
  split
  · exact h.onDbg
  · split
    · exact h.onDbg
    · split
      · exact h.onDbg
      · split
        · exact h.onDbg
        · split
          exact (h.takeFree.snd ‹_›).onDbg

theorem portGo (h : Kept pend s) {off isWrite data} : Kept pend (portGo s off isWrite data).state := by
  unfold Machine.portGo
  split
  · exact h
  · split
    · split
      · exact h.deviceWrite.ok ‹_›
      · exact h.deviceWrite.fail ‹_›
      · exact h.deviceWrite.stall ‹_›
    · exact h.deviceRead
  · split
    · exact h
    · exact h.snoopRead
  · split
    · exact h
    · split
      · split
        · exact h
        · split
          · exact h.snoopWrite.ok ‹_›
          · exact h.snoopWrite.fail ‹_›
          · exact h.snoopWrite.stall ‹_›
      · exact h.snoopRead


/-! #### Sys -/

theorem passCycles (h : Kept pend s) {p} : Kept pend (passCycles s p) := by
  unfold Machine.passCycles
  split
  exact (h.takeFree.snd ‹_›).setCpu

theorem ctlWrite (h : Kept pend s) {p r v} : Kept pend (ctlWrite s p r v) := by
  unfold Machine.ctlWrite
  dsimp only
  split
  · exact h.setCpu
  · exact h.setCpu
  · exact h.setCpu
  · exact h.setCpu
  · exact h.setCpu
  · exact h.setCpu
  · exact h.setCpu
  · exact h.setCpu
  · exact h.setCpu
  · exact h.setCpu.recheckDebug
  · exact h.setCpu
  · exact h.setCpu
  · exact h.setCpu
  · exact h.setCpu
  · exact h.setCpu
  · exact h.setCpu
  · exact h
  · exact h
  · exact h
  · exact h
  · exact h

theorem completeInto (h : Kept pend s) {p} {enter : State → Word → State}
    (henter : ∀ t npc, Kept pend t → Kept pend (enter t npc)) : Kept pend (completeInto s p enter) :=
  (henter _ _ h.setCpu).countDone

theorem readGate (h : Kept pend s) {c n} : Kept pend (readGate s c n).state := by
  unfold Machine.readGate
  extract_lets p at_ va x gate
  split
  · exact h
  · split
    · exact h
    · split
      · exact h
      · exact h
      · exact h.placeRead.toX.xbind fun _ _ h => h

theorem trapOp (h : Kept pend s) {c n} : Kept pend (trapOp c n s).state := by
  unfold Machine.trapOp
  dsimp only
  split
  · split
    · exact h
    · exact (h.completeInto fun _ _ h => h.enterMachine).entered
  · split
    · exact h
    · refine h.readGate.andThen fun _ _ h => ?_
      split
      · exact h
      · split
        · exact h
        · split
          · exact (h.writeFrame.xexc ‹_›).doubleFault.entered
          · exact h.writeFrame.xstall ‹_›
          · exact ((h.writeFrame.xok ‹_›).completeInto fun _ _ h => h.enterBank).entered

theorem armStep (h : Kept pend s) {c} : Kept pend (armStep s c) := .ite h.setCpu h

theorem tretCore (h : Kept pend s) {c} : Kept pend (tretCore c s).state := by
  unfold Machine.tretCore
  extract_lets p k n b v leaves b1 must
  split
  · exact h
  · split
    · exact h
    · split
      extract_lets k1 u w
      have hu : Kept pend u := h.setCpu
      have hw : Kept pend w := by
        unfold w
        split
        · exact .ite hu.icRelease hu
        · exact hu
      exact hw.countDone.debugStep.armStep.entered

theorem tretOne (h : Kept pend s) {p} : Kept pend (tretOne p s).state := h.setCpu

theorem blockPlace (h : Kept pend s) {c va} : Kept pend (blockPlace s c va).state := by
  refine h.resolveAs.xbind fun x t h => ?_
  split
  · exact h
  · split
    · exact h
    · exact h

theorem blockPayload (h : Kept pend s) {c x va} : Kept pend (blockPayload s c x va).state :=
  h.placeRead.toX.xbind fun _ _ h => h

theorem pagePieces (h : Kept pend s) {pages c va n} : Kept pend (pagePieces pages s c va n).state := by
  induction pages generalizing s va n with
  | zero => exact h
  | succ pages ih =>
    unfold Machine.pagePieces
    split
    · exact h
    · exact h.blockPlace.xbind fun _ _ h => (ih h).xbind fun _ _ h => h

theorem blockPieces (h : Kept pend s) {c ga x n} : Kept pend (blockPieces s c ga x n).state :=
  h.pagePieces.xbind fun _ _ h => h

theorem sendOp (h : Kept pend s) {c d a b} : Kept pend (sendOp c d a b s).state := by
  unfold Machine.sendOp
  dsimp only
  split
  · exact h
  · split
    · exact h
    · split
      · exact h
      · refine h.blockPlace.andThen fun x t h => h.blockPayload.andThen fun len t h => h.blockPieces.andThen fun ps t h => ?_
        extract_lets ring
        split
        · exact h.setG.done
        · split
          · exact h.setG.done
          · exact (Kept.setG h.beside).done

theorem recvOp (h : Kept pend s) {c d a b} : Kept pend (recvOp c d a b s).state := by
  unfold Machine.recvOp
  extract_lets p ga q old asks frees r n slot
  split
  · exact h
  · split
    · exact h
    · split
      extract_lets v u
      have hu : Kept pend u := h.setB.setG
      exact (Kept.rqLine hu.beside).done


/-! #### Entry -/

theorem abandon (h : Kept pend s) {c} : Kept pend (abandon s c) := by
  unfold Machine.abandon
  dsimp only
  split
  · exact h.setCpu
  · exact h.setCpu

theorem interruptAbandons (h : Kept pend s) {c} : Kept pend (interruptAbandons s c) :=
  Kept.abandon (by split; exacts [h.countCore, h])

theorem enterInterrupt (h : Kept pend s) {c b cause sub src} : Kept pend (enterInterrupt s c b cause sub src) :=
  h.interruptAbandons.setCpu.countCore.reserveFrame

theorem enterMachineAt (h : Kept pend s) {c offset cause sub} : Kept pend (enterMachineAt s c offset cause sub) :=
  h.interruptAbandons.enterMachine

theorem levelEntry (h : Kept pend s) {c n} : Kept pend (levelEntry s c n) :=
  .ite h.icClaim.enterMachineAt.setCpu (.ite h.dregsFree.enterMachineAt.raiseTrigger h.icClaim.enterInterrupt)

theorem fetchPlace (h : Kept pend s) {c pc} : Kept pend (fetchPlace s c pc).state := by
  unfold Machine.fetchPlace
  dsimp only
  split
  · exact h
  · exact h.resolveAs

theorem fetchLine (h : Kept pend s) {c x} : Kept pend (fetchLine s c x).state := by
  unfold Machine.fetchLine
  dsimp only
  split
  · exact h
  · split
    · split
      · exact h.fetchedLine.ok ‹_›
      · exact h.fetchedLine.fail ‹_›
      · exact h.fetchedLine.stall ‹_›
    · split
      · have g3 := h.memAdmit.ok ‹_›
        split
        · exact g3.readMem.ok ‹_›
        · exact g3.readMem.fail ‹_›
        · exact g3.readMem.stall ‹_›
      · exact h.memAdmit

theorem fetchAt (h : Kept pend s) {c pc} : Kept pend (fetchAt s c pc).state := by
  refine h.fetchPlace.xbind fun x t h => ?_
  split
  · exact h
  · split
    · exact h
    · exact h.fetchLine.toX

theorem freeTag (h : Kept pend s) {c t'} : Kept pend (freeTag s c t') := h.setCpu

theorem readFailed (h : Kept pend s) {c t' code} : Kept pend (readFailed s c t' code) := by
  unfold Machine.readFailed
  dsimp only
  split
  · exact h
  · split
    · exact h.freeTag
    · split
      · exact h.freeTag.abandon.takeExc
      · exact h.freeTag

theorem writeEnded (h : Kept pend s) {c t' code} : Kept pend (writeEnded s c t' code) := by
  unfold Machine.writeEnded
  dsimp only
  split
  · exact h
  · split
    · exact h.setCpu.recordRefusal
    · exact h.setCpu


/-! #### Fp -/

theorem withFlags (h : Kept pend s) {p fl} {done : State → State} (hdone : ∀ t, Kept pend t → Kept pend (done t)) :
    Kept pend (withFlags p fl s done).state := by
  unfold Machine.withFlags
  dsimp only
  split
  · exact h.setCpu
  · exact (hdone _ h.setCpu).fpDirty

theorem fpOp (h : Kept pend s) {p f packed d a b op} : Kept pend (fpOp p f packed d a b op s) :=
  h.runFp (fun _ h => h.withFlags (fun _ h => h.setV))


/-! #### MemInst -/

theorem loadG (h : Kept pend s) {p d a imm n signed} : Kept pend (loadG p d a imm n signed s) :=
  h.runInstr (fun _ h => h.loadOp)

theorem storeG (h : Kept pend s) {p src a imm n} : Kept pend (storeG p src a imm n s) :=
  h.runInstr (fun _ h => h.storeOp)

theorem atomicI (h : Kept pend s) {p d a b n f} : Kept pend (atomicI p d a b n f s) :=
  h.runInstr (fun _ h => h.atomicOp)

theorem fenceOp (h : Kept pend s) {p} : Kept pend (fenceOp p s).state := by
  unfold Machine.fenceOp
  split
  · exact h
  · exact h

theorem fenceCOp (h : Kept pend s) {p} : Kept pend (fenceCOp p s).state := by
  unfold Machine.fenceCOp
  dsimp only
  split
  · exact h
  · split
    · exact h
    · exact h

theorem lineToL2 (h : Kept pend s) {c line} : Kept pend (lineToL2 s c line) := by
  unfold Machine.lineToL2
  dsimp only
  split
  · exact h.fillL2.alterLine
  · exact h

theorem leaveL1is (h : Kept pend s) {line} : Kept pend (leaveL1is s line) := .foldl (fun _ _ h => h.dropLine) h

theorem cacheGate (h : Kept pend s) {c x clean} : Kept pend (cacheGate s c x clean).state := by
  unfold Machine.cacheGate
  extract_lets line
  split
  · exact h
  · refine h.missGate.resBind fun _ t h => ?_
    extract_lets dirty
    split
    · exact h.gateOff
    · exact h

theorem cacheAddr (h : Kept pend s) {p a imm clean inval} : Kept pend (cacheAddr p a imm clean inval s) := by
  refine h.runInstr fun t h => ?_
  dsimp only
  split
  · split
    · exact h
    · refine h.resolveP.andThen fun x t h => ?_
      split
      · exact h
      · split
        · exact h
        · refine h.cacheGate.toX.andThen fun _ t h => ?_
          have cleaned {b : Bool} {line} : Kept pend (if b then Machine.cleanLine t line else t) := .ite h.cleanLine h
          exact Kept.done (.ite cleaned.discardLine cleaned)
  · exact h.fenceOp

theorem cacheSw (h : Kept pend s) {p a clean inval} : Kept pend (cacheSw p a clean inval s) := by
  unfold Machine.cacheSw
  refine h.runInstr fun _ h' => ?_
  split
  · split
    · exact h'
    · exact h'.cacheSetWay.andThen (fun _ _ h => h)
  · exact h'.fenceOp

theorem tlbDrop (h : Kept pend s) {c f} : Kept pend (tlbDrop s c f) := h.setCpu

theorem tlbi (h : Kept pend s) {p a b all f} : Kept pend (tlbi p a b all f s) := by
  unfold Machine.tlbi
  refine h.runInstr fun _ h' => ?_
  split
  · dsimp only
    split
    · exact h'
    · exact .foldl (fun _ _ h => h.tlbDrop) h'
  · exact h'


/-! #### Pkt -/

theorem appendBytes (h : Kept pend s) {i u bs} : Kept pend (appendBytes s i u bs) := .ite h.putInf h


/-! #### Requests -/

theorem fillSlot (h : Kept pend s) {q k} : Kept pend (fillSlot s q k).state := by
  unfold Machine.fillSlot
  dsimp only
  split
  · exact h.askWake
  · exact h.dmaWrite.beside.rqLine

theorem setOverrun (h : Kept pend s) {q} : Kept pend (setOverrun s q) := h.setB.raiseSource

theorem replyQueue (h : Kept pend s) {q k} : Kept pend (replyQueue s q k).state := by
  unfold Machine.replyQueue
  split
  · exact h.fillSlot
  · exact h.setOverrun.countDrop

theorem replyInfuser (h : Kept pend s) {i k} : Kept pend (replyInfuser s i k) :=
  .ite h.countDrop.infEvent h.writeList.putInf.infEvent

theorem readArrives (h : Kept pend s) {c t' bytes} : Kept pend (readArrives s c t' bytes) := by
  unfold Machine.readArrives
  extract_lets p freed part data
  split
  · exact h.countDrop
  · next r _ =>
    extract_lets line
    split
    · exact h.freeTag
    · split
      next bs u hu =>
        have g : Kept pend u := by
          refine Kept.snd ?_ hu
          split
          · next d t e =>
            split at e
            · exact h.freeTag.remoteHit _ e
            · cases e
          · exact .ite h.freeTag.l3Put.fillL2.fillL1 h.freeTag
        split
        · extract_lets filled
          split
          · exact g.loadResult.retire
          · exact g.setCpu
        · exact g

theorem returnTo (h : Kept pend s) {k} : Kept pend (returnTo s k).state := by
  unfold Machine.returnTo
  dsimp only
  split
  · exact .ite (.ite h.readArrives (.ite h.readFailed h.countDrop)) (.ite (.ite h.writeEnded (.ite h.writeEnded
      h.countDrop)) h.countDrop)
  · exact h.replyQueue
  · exact h.replyInfuser
  · exact .ite h.bumpF.raiseSource h

theorem takeResponse (h : Kept pend s) {k} : Kept pend (takeResponse s k).state := by
  unfold Machine.takeResponse
  split
  · exact h.countDrop
  · exact h.returnTo

theorem answer (h : Kept pend s) {k cmd payload} : Kept pend (answer s k cmd payload) := h.sendAnswer

theorem refuseHere (h : Kept pend s) {k code} : Kept pend (refuseHere s k code).state := h.refuse

theorem accessFault (h : Kept pend s) {k o} : KeptIn pend (accessFault s k o) := by
  unfold Machine.accessFault
  exact .ite (.some h.warnNever) (.ite (.some h) (.ite (.some h) (.ite (.some h) (.ite (.some h) .none))))

theorem admitted (h : Kept pend s) {l k} : Kept pend (admitted s l k).2 := by
  unfold Machine.admitted
  split
  · exact h
  · split
    · exact h.admitPacket.snd ‹_›
    · exact h.admitPacket.snd ‹_›

theorem readPieces (h : Kept pend s) {o l} : Kept pend (readPieces s o l).state := by
  induction l generalizing s with
  | nil => exact h
  | cons x l ih =>
    unfold Machine.readPieces
    split
    · have g := ih (h.snoopRead.ok ‹_›)
      split
      · exact g.ok ‹_›
      · exact g
    · exact h.snoopRead.fail ‹_›
    · exact h.snoopRead.stall ‹_›

theorem writePieces (h : Kept pend s) {o bs l} : Kept pend (writePieces s o bs l).state := by
  induction l generalizing s bs with
  | nil => exact h
  | cons x l ih =>
    unfold Machine.writePieces
    split
    · exact ih (h.snoopWrite.ok ‹_›)
    · exact h.snoopWrite

theorem trackLines (h : Kept pend s) {l} : KeptIn pend (trackLines s l) := by
  induction l generalizing s with
  | nil => exact .some h
  | cons x l ih =>
    unfold Machine.trackLines
    split
    · exact ih (h.trackStore _ ‹_›)
    · exact .none

theorem memWaits (h : Kept pend s) {off n} : KeptIn pend (memWaits s off n) := by
  unfold Machine.memWaits
  split
  · exact .some h.askWake
  · split
    · exact .some h
    · exact .none

theorem requestRead (h : Kept pend s) {o off n} : Kept pend (requestRead s o off n).state := by
  unfold Machine.requestRead
  split
  · split
    · split
      · exact h.deviceRead.ok ‹_›
      · exact h.deviceRead.fail ‹_›
      · exact h.deviceRead.stall ‹_›
    · exact h
  · split
    · exact h.memWaits _ ‹_›
    · split
      · exact h.admitPieces _ ‹_›
      · exact h.readPieces

theorem requestWrite (h : Kept pend s) {o off bs} : Kept pend (requestWrite s o off bs).state := by
  unfold Machine.requestWrite
  extract_lets n
  split
  · split
    · exact h.deviceWrite
    · exact h
  · split
    · exact h
    · split
      · exact h
      · split
        · exact h.memWaits _ ‹_›
        · split
          · exact h.admitPieces _ ‹_›
          · have tracked : KeptIn pend (if o.cls = 1 ∧ o.type = 1 then Machine.trackLines s (rangeLines off n) else some s) :=
              .ite h.trackLines (.some h)
            split
            · exact (tracked _ ‹_›).writePieces
            · exact h

theorem requestAtomic (h : Kept pend s) {o off n f} : Kept pend (requestAtomic s o off n f).state := by
  unfold Machine.requestAtomic
  split
  · exact h
  · split
    · exact h
    · split
      · exact h
      · split
        · exact h.memWaits _ ‹_›
        · split
          · next old t ht =>
            have g : Kept pend t := h.snoopAtomic.ok ht
            have tracked : KeptIn pend (if o.cls = 1 ∧ o.type = 1 ∧ (f old).isSome then Machine.trackStore t (off / 64)
              else some t) := .ite g.trackStore (.some g)
            split
            · exact tracked _ ‹_›
            · exact h
          · exact h.snoopAtomic

theorem finishRequest (h : Kept pend r.state) {k} {done : α → State → State} (hdone : ∀ a1 t, Kept pend t → Kept pend
    (done a1 t)) : Kept pend (finishRequest k r done).state := by
  unfold Machine.finishRequest
  split
  · exact hdone _ _ h
  · exact h.refuseHere
  · exact h

theorem performAccess (h : Kept pend s) {o k} : Kept pend (performAccess s o k).state := by
  unfold Machine.performAccess
  dsimp only
  split
  · exact h.requestRead.finishRequest (fun _ _ h => h.answer)
  · split
    · exact h.requestWrite.finishRequest (fun _ _ h => .ite h h.answer)
    · exact h.requestAtomic.finishRequest (fun _ _ h => h.answer)

theorem performMessage (h : Kept pend s) {k} : Kept pend (performMessage s k).state := by
  unfold Machine.performMessage
  dsimp only
  split
  · exact h.refuseHere
  · split
    · exact h.setOverrun.refuseHere
    · exact h.fillSlot

theorem performEvent (h : Kept pend s) {k} : Kept pend (performEvent s k).state := by
  unfold Machine.performEvent
  split
  · dsimp only
    split
    · exact h.heartbeat
    · exact h.countDrop
  · split
    · exact h.refuseHere
    · exact h.setBit.setLine

theorem performRequest (h : Kept pend s) {l k} : Kept pend (performRequest s l k).state := by
  unfold Machine.performRequest
  extract_lets q c access
  split
  · exact h.refuseHere
  · split
    · next t ht =>
      have g : Kept pend t := by
        split at ht
        · exact h.accessFault _ ht
        · cases ht
      exact g.refuseHere
    · have adm := h.admitted (l := l) (k := k)
      split
      · exact (adm.snd ‹_›).refuseHere
      · next o u hu =>
        have g : Kept pend u := adm.snd hu
        have performed : Kept pend (if access then Machine.performAccess u o k
            else if c = pMessage then Machine.performMessage u k else Machine.performEvent u k).state := by
          split
          · exact g.performAccess
          · split
            · exact g.performMessage
            · exact g.performEvent
        split
        · exact (performed.stall ‹_›).beside
        · exact performed

theorem takeRequest (h : Kept pend s) {l k} : Kept pend (takeRequest s l k).state := by
  unfold Machine.takeRequest
  split
  · exact h.refuseHere
  · split
    · exact h.performRequest
    · exact h

theorem mgmtReply (h : Kept pend s) {l k data} : Kept pend (mgmtReply s l k data) := by
  unfold Machine.mgmtReply
  dsimp only
  split
  · exact .ite h.sendBy h.sendAnswer
  · exact h.sendAnswer

theorem routeWrites (h : Kept pend s) {q n l} : Kept pend (routeWrites s q n l) := by
  induction l generalizing s n with
  | nil => exact h
  | cons v l ih =>
    unfold Machine.routeWrites
    refine ih ?_
    split
    · split
      · exact h.plainWrite
      · exact h
    · exact h

theorem mgmtOp (h : Kept pend s) {q k} : Kept pend (mgmtOp s q k).2 := by
  unfold Machine.mgmtOp
  dsimp only
  split
  · exact h
  · exact h.nodeidPut.getD h.warnIgnored
  · exact h.routeWrites
  · exact h
  · exact h
  · exact h.ctlQuarantine
  · exact h.ctlRelease
  · exact h.ctlRetrain

theorem takeMgmt (h : Kept pend s) {l k} : Kept pend (takeMgmt s l k).state := by
  unfold Machine.takeMgmt
  extract_lets q
  split
  · split
    · exact h.countDrop
    · exact h.refuseHere
  · split
    · exact h.returnTo
    · split
      · exact h.refuseHere
      · split
        · split
          · exact h.denyCount.refuseHere
          · exact h.refuseHere
        · exact h.mgmtOp.mgmtReply

theorem deliver (h : Kept pend s) {l k} : Kept pend (deliver s l k).state := by
  unfold Machine.deliver
  dsimp only
  split
  · exact h.tracePacket.takeResponse
  · split
    · exact h.tracePacket.takeMgmt
    · split
      · exact h.tracePacket.takeRequest
      · split
        · exact h.tracePacket.countDrop
        · exact h.tracePacket.refuseHere

theorem delivered (h : Kept pend s) {l k r} (hr : Kept pend r.state) : Kept pend (delivered s l k r) := by
  cases r with
  | ok _ t => exact hr
  | fail _ t => exact hr
  | stall t => exact h.beside

theorem resume (h : Kept pend s) {w} : Kept pend (resume s w).state := by
  unfold Machine.resume
  dsimp only
  split
  · exact h.performRequest
  · exact h.returnTo

theorem resumeWaiting (h : Kept pend s) {n} : Kept pend (resumeWaiting n s) := by
  induction n generalizing s with
  | zero => exact h
  | succ n ih =>
    unfold Machine.resumeWaiting
    split
    · exact h
    · next w ws _ =>
      have tried : Kept pend (Machine.resume { s with router := { s.router with waiting := ws } } w).state :=
        Kept.resume h.beside
      split
      · exact ih (tried.ok ‹_›)
      · exact ih (tried.fail ‹_›)
      · exact h.beside

theorem localBefore (h : Kept pend s) {d n} : Kept pend (localBefore d n s) := by
  induction n generalizing s with
  | zero => exact h
  | succ n ih =>
    unfold Machine.localBefore
    split
    · exact h
    · exact .ite h (ih (h.putOut.delivered h.putOut.deliver))

theorem localTurn (h : Kept pend s) {l k} : Kept pend (localTurn s l k) := h.localBefore.delivered h.localBefore.deliver

theorem localStart (h : Kept pend s) : Kept pend (localStart s) := by
  unfold Machine.localStart
  extract_lets u
  have hu : Kept pend u := h.resumeWaiting
  split
  · exact hu
  · exact hu.putOut.delivered hu.putOut.deliver

theorem blockBytes (h : Kept pend s) {l} : Kept pend (blockBytes s l).2 := by
  induction l generalizing s with
  | nil => exact h
  | cons x l ih => exact ih h.dmaRead

theorem queueSent (h : Kept pend s) {q} : Kept pend (queueSent s q) :=
  .ite h.beside.dmaWrite.raiseSource h.beside.dmaWrite

theorem queueTake (h : Kept pend s) {q k} : Kept pend (queueTake s q k).state := by
  unfold Machine.queueTake
  split
  · exact h.sendOwn
  · exact h.countRefusal.replyQueue


/-! #### Simd -/

theorem simdOp (h : Kept pend s) {p e' d a b op} : Kept pend (simdOp p e' d a b op s) := h.runFp (fun _ h => h.putV)

theorem bitsOp (h : Kept pend s) {p d a b op} : Kept pend (bitsOp p d a b op s) := h.runFp (fun _ h => h.putV)

theorem dotOp (h : Kept pend s) {p d a b num} : Kept pend (dotOp p d a b num s) := h.runFp (fun _ h => h.putV)

theorem loadV (h : Kept pend s) {p d a imm n align} : Kept pend (loadV p d a imm n align s) :=
  h.runFp (fun _ h => h.loadOp)

theorem storeV (h : Kept pend s) {p src a imm n align} : Kept pend (storeV p src a imm n align s) :=
  h.runFp (fun _ h => h.storeOp)


/-! #### Tick -/

theorem servoCorrection (h : Kept pend s) : Kept pend (servoCorrection s).2 := h.beside

theorem idleFabric (h : Kept pend s) : Kept pend (idleFabric s) := by
  unfold Machine.idleFabric
  split
  exact (h.servoCorrection.snd ‹_›).setF.beside

theorem idleTime (h : Kept pend s) : Kept pend (idleTime s) := Kept.beside (.ite h.idleFabric.holdFab h.beside)

theorem idleWatchdog (h : Kept pend s) : Kept pend (idleWatchdog s) := .ite h.setF h

theorem idleTokens (h : Kept pend s) : Kept pend (idleTokens s) := h.beside

theorem idleWrites (h : Kept pend s) : Kept pend (idleWrites s) := h.servedWrites

theorem idleTimers (h : Kept pend s) : Kept pend (idleTimers s) := h.beside

theorem idleCycles (h : Kept pend s) : Kept pend (idleCycles s) :=
  .foldl (fun _ _ h => .ite (.ite (.ite h.takeFree.setF.setB.raiseSource h.takeFree.setF.setB) h.takeFree.setF) h) h

theorem idleTrace (h : Kept pend s) : Kept pend (idleTrace s) := h.traceDrain.beside.traceReport

theorem idleCredit (h : Kept pend s) : Kept pend (idleCredit s) := .foldl (fun _ _ h => .ite h h.putLk) h

theorem idlePackets (h : Kept pend s) : Kept pend (idlePackets s) := h.resumeWaiting

theorem idle (h : Kept pend s) : Kept pend (idle s) :=
  .ite h
    h.pulsesEnd.idleTime.idleWatchdog.idleWrites.idleTokens.idleTimers.idleCredit.idleCycles.idleTrace.idlePackets

end Sys2Proof.Machine.Kept
end

section
/-! ### The rows of the table

Every row ends in the next state, which keeps the form. -/

namespace Sys2Proof.Machine

variable {pend : List Instr} {s t : State}

/-- The state that a row leaves has the form. -/
def KeptAfter (pend : List Instr) (o : Host.Outcome State Fault Refusal) : Prop := ∀ t, o = .next t → Kept pend t

theorem KeptAfter.next (h : Kept pend s) : KeptAfter pend (.next s) := fun _ e => by
  cases e
  exact h

namespace Kept

theorem iteI {c : Prop} [Decidable c] {a b : IRes} (ha : Kept pend a.state) (hb : Kept pend b.state) :
    Kept pend (if c then a else b).state := by
  split
  · exact ha
  · exact hb

theorem rowWrite (h : Kept pend s) {q off v} {f : State → Wr → State} (hf : ∀ t w, Kept pend t → Kept pend (f t w)) :
    KeptAfter pend (rowWrite q off v f s) := by
  refine .next ?_
  split
  · exact hf _ _ (h.gateOff.ok ‹_›)
  · exact (h.gateOff.fail ‹_›).rowFault
  · exact h.gateOff.stall ‹_›

theorem linkRow (h : Kept pend s) {l k fits} : KeptAfter pend (linkRow s l k fits) :=
  .next (.ite (h.arrive fun _ _ h => h.localTurn) h)

theorem mbRow (h : Kept pend s) {q n bit} : KeptAfter pend (mbRow q n bit s) :=
  h.rowWrite fun _ _ h => .ite h.mbctlWrite h.rowFault

theorem execBorAssert (h : Kept pend s) : KeptAfter pend (execBorAssert s) := by
  unfold Machine.execBorAssert
  refine .next ?_
  split
  · exact h
  · extract_lets a joined b c d e u
    have ha : Kept pend a := h.tornFuses.endGrant
    have hb : Kept pend b := Kept.mirrorStale (.ite ha.dropWarmRecord ha)
    have hd : Kept pend d := hb.noteCause.keepOnly.setF
    have he : Kept pend e := .ite hd hd.bumpF
    obtain ⟨_, _, queue⟩ := he
    exact ⟨rfl, rfl, queue⟩

theorem execBoardRailEnable (h : Kept pend s) : KeptAfter pend (execBoardRailEnable s) := by
  unfold Machine.execBoardRailEnable
  refine .next ?_
  split
  · exact h
  · dsimp only
    split
    · exact h.railsBegin.onSup
    · exact h.railsBegin

theorem execCkClusterWrite (h : Kept pend s) {q n v} : KeptAfter pend (execCkClusterWrite q n v s) :=
  h.rowWrite fun _ _ h => h.clusterWrite

theorem execReadyBitSet (h : Kept pend s) {u} : KeptAfter pend (execReadyBitSet u s) := by
  unfold Machine.execReadyBitSet
  refine .next ?_
  extract_lets n t
  have g : Kept pend t := h.setReady
  split
  · exact h
  · split
    · split
      · exact g.applyPolicy
      · exact g
    · exact .ite g.coreStarts.icCommitAll g

theorem execJr (h : Kept pend s) {p a imm} : KeptAfter pend (execJr p a imm s) := by
  refine .next (h.runInstr fun t h => ?_)
  dsimp only
  split
  · exact h
  · exact h

theorem execJalr (h : Kept pend s) {p a imm} : KeptAfter pend (execJalr p a imm s) := by
  refine .next (h.runInstr fun t h => ?_)
  dsimp only
  split
  · exact h
  · exact h.setG

theorem execLoop (h : Kept pend s) {p x a imm} : KeptAfter pend (execLoop p x a imm s) := by
  refine .next (h.runInstr fun t h => ?_)
  dsimp only
  split
  · exact h
  · split
    · exact h.setCpu
    · exact h.setCpu

theorem execIflush (h : Kept pend s) {p a imm} : KeptAfter pend (execIflush p a imm s) := by
  refine .next (h.runInstr fun t h => ?_)
  split
  · refine h.withPlaces fun xs t h => ?_
    split
    · exact h
    · exact Kept.done (.foldl (fun _ _ h => h.lineToL2.leaveL1is) h)
  · exact h.fenceOp

theorem execSend (h : Kept pend s) {p d a b} : KeptAfter pend (execSend p d a b s) := by
  unfold Machine.execSend
  refine .next ?_
  refine h.runInstr fun _ h' => ?_
  split
  · exact h'.sendOp
  · exact h'

theorem execRecv (h : Kept pend s) {p d a b} : KeptAfter pend (execRecv p d a b s) := by
  unfold Machine.execRecv
  refine .next ?_
  refine h.runInstr fun _ h' => ?_
  split
  · exact h'.recvOp
  · exact h'

theorem execPourWait (h : Kept pend s) {p d a} : KeptAfter pend (execPourWait p d a s) := by
  refine .next (h.runInstr fun t h => ?_)
  split
  · extract_lets e
    split
    · exact h.setG.done
    · exact h.edwPourWait.hold
  · exact h

theorem execWait (h : Kept pend s) {p d} : KeptAfter pend (execWait p d s) := by
  unfold Machine.execWait
  refine .next ?_
  refine h.runInstr fun _ h' => ?_
  split
  · split
    · exact h'
    · split
      · exact h'.setG
      · exact h'.setCpu.requestSleep
  · exact h'

theorem execCoreWake (h : Kept pend s) {c} : KeptAfter pend (execCoreWake c s) := by
  unfold Machine.execCoreWake
  refine .next ?_
  split
  · split
    · exact Kept.waitDone (.ite h.beside.domBack h.beside)
    · exact h
  · exact h

theorem execMfc (h : Kept pend s) {p d n} : KeptAfter pend (execMfc p d n s) := by
  unfold Machine.execMfc
  refine .next ?_
  refine h.runInstr fun _ h' => ?_
  split
  · exact h'
  · split
    · exact h'
    · split
      · exact h'.fpFirst (fun _ h => h.setG)
      · exact h'.passCycles.setG
      · exact h'.setG

theorem execMtc (h : Kept pend s) {p n a} : KeptAfter pend (execMtc p n a s) := by
  refine .next (h.runInstr fun t h => ?_)
  split
  · exact h
  · split
    · exact h
    · dsimp only
      split
      · exact h.fpFirst fun _ h => h.setCpu.fpDirty.done
      · exact h.setCpu
      · exact h.setCpu
      · exact h.ctlWrite.done

theorem execTrap (h : Kept pend s) {p n} : KeptAfter pend (execTrap p n s) := by
  unfold Machine.execTrap
  refine .next ?_
  refine h.runInstr fun _ h' => ?_
  split
  · exact h'.trapOp
  · exact h'

theorem execTret (h : Kept pend s) {p} : KeptAfter pend (execTret p s) := by
  unfold Machine.execTret
  refine .next ?_
  refine h.runInstr fun _ h' => ?_
  split
  · exact h'.tretCore
  · exact h'.tretOne

theorem execMcall (h : Kept pend s) {p} : KeptAfter pend (execMcall p s) := by
  refine .next (h.runInstr fun t h => ?_)
  split
  · extract_lets k
    split
    · exact h
    · split
      · exact h
      · exact (h.completeInto fun _ _ h => h.enterMachine).entered
  · exact h

theorem execEack (h : Kept pend s) {p} : KeptAfter pend (execEack p s) := by
  unfold Machine.execEack
  refine .next ?_
  refine h.runInstr fun _ h' => ?_
  split
  · exact Kept.setCpu (by split; exacts [h'.passCycles, h'])
  · exact h'

theorem execPortRd (h : Kept pend s) {p d a} : KeptAfter pend (execPortRd p d a s) := by
  unfold Machine.execPortRd
  refine .next ?_
  refine h.runInstr fun _ h' => ?_
  split
  · split
    · exact (h'.portRead.ok ‹_›).setG
    · have g2 := h'.portRead.fail ‹_›
      split
      · exact g2
      · exact g2.setG
    · exact h'.portRead.stall ‹_›
  · exact h'

theorem execPortWr (h : Kept pend s) {p a b} : KeptAfter pend (execPortWr p a b s) := by
  unfold Machine.execPortWr
  refine .next ?_
  refine h.runInstr fun _ h' => ?_
  split
  · split
    · exact h'.portWrite.ok ‹_›
    · have g2 := h'.portWrite.fail ‹_›
      split
      · exact g2
      · exact g2
    · exact h'.portWrite.stall ‹_›
  · exact h'

theorem execPktHdr (h : Kept pend s) {p a b} : KeptAfter pend (execPktHdr p a b s) := by
  unfold Machine.execPktHdr
  refine .next ?_
  refine h.runInstr fun _ h' => ?_
  split
  · dsimp only
    split
    · exact h'
    · split
      · exact h'
      · split
        · exact h'
        · exact h'.putInf
  · exact h'

theorem execPktApp (h : Kept pend s) {p a b} : KeptAfter pend (execPktApp p a b s) := by
  refine .next (h.runInstr fun t h => ?_)
  split
  · extract_lets ga n u g
    split
    · split
      · exact h
      · split
        · exact h
        · exact h.putPort.appendBytes.done
    · split
      · exact h
      · split
        · exact h
        · exact h.appendBytes.done
  · exact h

theorem execPktSend (h : Kept pend s) {p d a} : KeptAfter pend (execPktSend p d a s) := by
  unfold Machine.execPktSend
  refine .next ?_
  refine h.runInstr fun _ h' => ?_
  split
  · dsimp only
    split
    · exact h'
    · split
      · exact h'.setG
      · split
        · exact h'.setG
        · split
          · exact h'.setG
          · exact h'.putInf.setG
  · exact h'

theorem execEvtWait (h : Kept pend s) {p d a} : KeptAfter pend (execEvtWait p d a s) := by
  refine .next ?_
  split
  · refine (h.runInstr fun t h => ?_).evtReturn
    exact h.setF
  · exact h.runInstr fun t h => h

theorem execEvtWaitTimeout (h : Kept pend s) {i} : KeptAfter pend (execEvtWaitTimeout i s) := by
  unfold Machine.execEvtWaitTimeout
  refine .next ?_
  dsimp only
  split
  · exact .ite h h.setF.setG.retire
  · exact h

theorem execInterruptEntry (h : Kept pend s) {c} : KeptAfter pend (execInterruptEntry c s) := by
  unfold Machine.execInterruptEntry
  refine .next ?_
  split
  · split
    · exact h.levelEntry
    · exact h
  · exact h

theorem execSecureInterruptEntry (h : Kept pend s) {c} : KeptAfter pend (execSecureInterruptEntry c s) := by
  unfold Machine.execSecureInterruptEntry
  refine .next ?_
  split
  · split
    · exact h.icClaim.enterInterrupt
    · exact h
  · exact h

theorem execSupervisoryEventEntry (h : Kept pend s) {c} : KeptAfter pend (execSupervisoryEventEntry c s) := by
  unfold Machine.execSupervisoryEventEntry
  refine .next ?_
  dsimp only
  split
  · split
    · exact h.setCpu.enterMachineAt
    · exact h
  · exact h

theorem execIcSrcWrite (h : Kept pend s) {q n v} : KeptAfter pend (execIcSrcWrite q n v s) :=
  h.rowWrite fun _ _ h => h.icSrcRegWrite

theorem execIcSwtrig (h : Kept pend s) {q v} : KeptAfter pend (execIcSwtrig q v s) :=
  h.rowWrite fun _ _ h => h.swtrigWrite

theorem execNgLinkcfgWrite (h : Kept pend s) {q n v} : KeptAfter pend (execNgLinkcfgWrite q n v s) :=
  h.rowWrite fun _ _ h => h.linkcfgWrite

theorem execRekey (h : Kept pend s) {l} : KeptAfter pend (execRekey l s) := by
  refine .next (.ite (.ite ?_ h.sessionRetrain) h)
  exact h.newKeys.putLk

theorem execLinkctlRetrain (h : Kept pend s) {q n v} : KeptAfter pend (execLinkctlRetrain q n v s) :=
  h.rowWrite fun _ _ h => h.linkctlWrite

theorem execLinkctlQuarantine (h : Kept pend s) {q n v} : KeptAfter pend (execLinkctlQuarantine q n v s) :=
  h.rowWrite fun _ _ h => h.linkctlWrite

theorem execLinkctlRelease (h : Kept pend s) {q n v} : KeptAfter pend (execLinkctlRelease q n v s) :=
  h.rowWrite fun _ _ h => h.linkctlWrite

theorem execLinkctlClrerr (h : Kept pend s) {q n v} : KeptAfter pend (execLinkctlClrerr q n v s) :=
  h.rowWrite fun _ _ h => h.linkctlWrite

theorem execNgNodeidWrite (h : Kept pend s) {q v} : KeptAfter pend (execNgNodeidWrite q v s) :=
  h.rowWrite fun _ _ h => h.nodeidWrite

theorem execAnnounceInterval (h : Kept pend s) : KeptAfter pend (execAnnounceInterval s) := by
  unfold Machine.execAnnounceInterval
  refine .next ?_
  split
  exact .foldl (fun _ _ h => h.sendTime.sendTime) h

theorem execEpTcfgWrite (h : Kept pend s) {q v} : KeptAfter pend (execEpTcfgWrite q v s) :=
  h.rowWrite fun _ _ h => h.tcfgTimeWrite

theorem execQueueEngineSend (h : Kept pend s) {n} : KeptAfter pend (execQueueEngineSend n s) := by
  unfold Machine.execQueueEngineSend
  refine .next ?_
  split
  · exact h
  · extract_lets cpl waits
    split
    · exact .foldl (fun _ _ h => h.askWake) h
    · split
      · next u hu =>
        have g : Kept pend u := h.gateUnit.ok hu
        split
        next block v hv =>
          extract_lets router w
          have hw : Kept pend w := Kept.beside (g.blockBytes.snd hv)
          split
          · exact (hw.queueTake.ok ‹_›).queueSent
          · exact (hw.queueTake.fail ‹_›).queueSent
          · exact g.beside
      · exact h.gateUnit.fail ‹_›
      · exact h.gateUnit.stall ‹_›

theorem execNgSqcfgWrite (h : Kept pend s) {q n v} : KeptAfter pend (execNgSqcfgWrite q n v s) :=
  h.rowWrite fun _ _ h => h.sqcfgWrite

theorem execNgRqcfgWrite (h : Kept pend s) {q n v} : KeptAfter pend (execNgRqcfgWrite q n v s) :=
  h.rowWrite fun _ _ h => h.rqcfgWrite

theorem execEpCfgWrite (h : Kept pend s) {q v} : KeptAfter pend (execEpCfgWrite q v s) :=
  h.rowWrite fun _ _ h => h.epcfgWrite

theorem execKtEdwstatKick (h : Kept pend s) {q v} : KeptAfter pend (execKtEdwstatKick q v s) :=
  h.rowWrite fun _ _ h => h.edwstatWrite

theorem execMirrorLineRead (h : Kept pend s) : KeptAfter pend (execMirrorLineRead s) := by
  unfold Machine.execMirrorLineRead
  refine .next ?_
  split
  · exact h
  · split
    · exact .ite h.askWake h.onMir.sendLine
    · split
      · exact h
      · split
        · exact .ite h.askWake h.onMir.sendLine
        · split
          · exact h
          · split
            · exact h
            · split
              · exact h.askWake
              · split
                exact (h.mirrorRecord.snd ‹_›).sendMirror.onMir

theorem execMirrorCommitSend (h : Kept pend s) {late} : KeptAfter pend (execMirrorCommitSend late s) := by
  unfold Machine.execMirrorCommitSend
  refine .next ?_
  split
  · exact .ite (.foldl (fun _ _ h => h.askWake) (.ite h.setB h)) (.ite ((((((Kept.sendMirror (.foldl (fun _ _ h => h.mirrorRecord.sendMirror) (.ite h.setB h))).setF).onMir).kettleCopy).bumpF).mrEvent) ((((Kept.sendMirror (.foldl (fun _ _ h => h.mirrorRecord.sendMirror) (.ite h.setB h))).setF).onMir).kettleCopy))
  · exact h

theorem execMrCfgWrite (h : Kept pend s) {q v} : KeptAfter pend (execMrCfgWrite q v s) :=
  h.rowWrite fun _ _ h => h.mrcfgWrite

theorem execMrCtlClaim (h : Kept pend s) {q v} : KeptAfter pend (execMrCtlClaim q v s) :=
  h.rowWrite fun _ _ h => h.mrctlWrite

theorem execMrCtlOffer (h : Kept pend s) {q v} : KeptAfter pend (execMrCtlOffer q v s) :=
  h.rowWrite fun _ _ h => h.mrctlWrite

theorem execMrCtlHandover (h : Kept pend s) {q v} : KeptAfter pend (execMrCtlHandover q v s) :=
  h.rowWrite fun _ _ h => h.mrctlWrite

theorem execMrCtlAlone (h : Kept pend s) {q v} : KeptAfter pend (execMrCtlAlone q v s) :=
  h.rowWrite fun _ _ h => h.mrctlWrite

theorem execCopyComplete (h : Kept pend s) : KeptAfter pend (execCopyComplete s) := by
  unfold Machine.execCopyComplete
  refine .next ?_
  split
  · exact h
  · split
    · exact .ite h h.copyStop.roleTo.mrEvent
    · split
      · exact .ite h.copyStop.mrEvent h
      · exact h

theorem execCaddyTakeMessage (h : Kept pend s) : KeptAfter pend (execCaddyTakeMessage s) := by
  unfold Machine.execCaddyTakeMessage
  refine .next ?_
  split
  · exact h.setF.onCaddy
  · exact h

theorem execStrainerSet (h : Kept pend s) {n body} : KeptAfter pend (execStrainerSet n body s) := by
  unfold Machine.execStrainerSet
  refine .next ?_
  refine h.mbJob fun _ h' => ?_
  dsimp only
  split
  · exact h'.respond
  · exact .ite h'.regionPut.respond h'.respond

theorem execLcRowProgrammed (h : Kept pend s) {row stuck} : KeptAfter pend (execLcRowProgrammed row stuck s) := by
  unfold Machine.execLcRowProgrammed
  refine .next ?_
  split
  · split
    · extract_lets sup u v w
      have hv : Kept pend v := (Kept.fuseKey h.beside).senseFuses.endGrant
      have hw : Kept pend w := by
        unfold w
        split
        · exact .ite hv.respond hv
        · exact hv
      exact .ite hw.scrap hw
    · exact h
  · exact h

theorem execDregsEventTake (h : Kept pend s) : KeptAfter pend (execDregsEventTake s) := by
  unfold Machine.execDregsEventTake
  refine .next ?_
  split
  · exact h
  · exact h.beside.dregsTake

theorem execDomainOfferAnswer (h : Kept pend s) : KeptAfter pend (execDomainOfferAnswer s) := by
  unfold Machine.execDomainOfferAnswer
  refine .next ?_
  split
  · split
    · split
      · exact h.acceptDomain
      · split
        · exact h.beside.refuseHandshake.nextHandshake
        · exact h.acceptDomain
    · exact h
  · exact h

theorem execDomainAnswerTimeout (h : Kept pend s) : KeptAfter pend (execDomainAnswerTimeout s) := by
  unfold Machine.execDomainAnswerTimeout
  refine .next ?_
  split
  · split
    · exact h.beside.refuseHandshake.nextHandshake
    · exact h
  · exact h

theorem execSteepWakeDone (h : Kept pend s) : KeptAfter pend (execSteepWakeDone s) := by
  unfold Machine.execSteepWakeDone
  refine .next ?_
  split
  · exact .ite h.beside.beside.steepGo (.ite h.beside.steepNext h)
  · exact h

theorem execSteepSample (h : Kept pend s) : KeptAfter pend (execSteepSample s) := by
  unfold Machine.execSteepSample
  refine .next ?_
  split
  · split
    exact (h.steepChannel.snd ‹_›).setF.steepNext
  · exact h

theorem execSteepSleepExpiry (h : Kept pend s) : KeptAfter pend (execSteepSleepExpiry s) := by
  unfold Machine.execSteepSleepExpiry
  refine .next ?_
  split
  · exact .ite h.beside.coldTable (.ite h.beside.steepTo h.beside)
  · exact h

theorem execMcCtlInit (h : Kept pend s) {q v} : KeptAfter pend (execMcCtlInit q v s) :=
  h.rowWrite fun _ _ h => h.mctlWrite

theorem execMcCtlFill (h : Kept pend s) {q v} : KeptAfter pend (execMcCtlFill q v s) :=
  h.rowWrite fun _ _ h => h.mctlWrite

theorem execFillComplete (h : Kept pend s) {n} : KeptAfter pend (execFillComplete n s) := by
  unfold Machine.execFillComplete
  refine .next ?_
  extract_lets c t u v
  split
  · have hu : Kept pend u :=
      have ⟨mem, cpus, queue⟩ := h.serveBudgeted (ch := c)
      ⟨mwf_filter _ _ _ mem, cpus, queue⟩
    exact hu.onDram.setBit
  · exact h

theorem execIfCtlStart (h : Kept pend s) {q i v} : KeptAfter pend (execIfCtlStart q i v s) :=
  h.rowWrite fun _ _ h => h.ifctlWrite

theorem execIfCtlStop (h : Kept pend s) {q i v} : KeptAfter pend (execIfCtlStop q i v s) :=
  h.rowWrite fun _ _ h => h.ifctlWrite

theorem execIfPgrpWrite (h : Kept pend s) {q g v} : KeptAfter pend (execIfPgrpWrite q g v s) :=
  h.rowWrite fun _ _ h => h.pgrpWrite

theorem execIfDoorbell (h : Kept pend s) {q i v} : KeptAfter pend (execIfDoorbell q i v s) :=
  h.rowWrite fun _ _ h => h.doorbellWrite

theorem execPacketBuilt (h : Kept pend s) {i b} : KeptAfter pend (execPacketBuilt i b s) := by
  unfold Machine.execPacketBuilt
  refine .next ?_
  extract_lets x y
  split
  · split
    · exact h
    · exact h.putInf.infOrdered.sendOwn.infEvent
  · exact h

theorem execCmCqtailWrite (h : Kept pend s) {q v} : KeptAfter pend (execCmCqtailWrite q v s) :=
  h.rowWrite fun _ _ h => h.cqtailWrite

theorem execUsbBusEvent (h : Kept pend s) {n e'} : KeptAfter pend (execUsbBusEvent n e' s) := by
  unfold Machine.execUsbBusEvent
  refine .next ?_
  split
  · exact h.askWake
  · exact h.usbEvent.raiseSource

theorem execDpOcfgEnable (h : Kept pend s) {q o v} : KeptAfter pend (execDpOcfgEnable q o v s) :=
  h.rowWrite fun _ _ h => h.ocfgWrite

theorem execDisplayFrameBoundary (h : Kept pend s) {o} : KeptAfter pend (execDisplayFrameBoundary o s) := by
  unfold Machine.execDisplayFrameBoundary
  refine .next ?_
  split
  · split
    next frame u hu =>
      have fetched : Kept pend u := h.frameFetched.snd hu
      extract_lets ps
      split
      next crc v hv =>
        have checked : Kept pend v := fetched.sentCrc.snd hv
        extract_lets a b c
        have poured : Kept pend c := checked.setF.setF.displayPour.setB
        split
        next curves w hw =>
          have curved : Kept pend w := poured.sunCurves.snd hw
          split
          next bl x hx =>
            have lit : Kept pend x := curved.backlight.snd hx
            exact Kept.raiseSource (.ite lit.setF.putDisp.setB lit.setF.putDisp)
  · exact h

theorem execDpAmbWrite (h : Kept pend s) {q o v} : KeptAfter pend (execDpAmbWrite q o v s) :=
  h.rowWrite fun _ _ h => h.ambWrite

theorem execTcCfgEnable (h : Kept pend s) {q t' v} : KeptAfter pend (execTcCfgEnable q t' v s) :=
  h.rowWrite fun _ _ h => h.tcfgWrite

theorem execTouchReport (h : Kept pend s) {t'} : KeptAfter pend (execTouchReport t' s) := by
  unfold Machine.execTouchReport
  refine .next ?_
  extract_lets x
  split
  · exact h
  · split
    · exact h
    · split
      extract_lets u v w y
      have hv : Kept pend v := .foldl (fun _ _ h => h.putContact) h.putTouch
      exact (Kept.setB (Kept.setB (Kept.setF hv))).raiseSource

theorem execIdcode (h : Kept pend s) : KeptAfter pend (execIdcode s) := by
  unfold Machine.execIdcode
  refine .next ?_
  split
  exact (h.takeFree.snd ‹_›).portIr.onDbg

theorem execAccess (h : Kept pend s) {addr isWrite data} : KeptAfter pend (execAccess addr isWrite data s) := by
  unfold Machine.execAccess
  refine .next ?_
  dsimp only
  split
  · exact h.portIr.onDbg
  · split
    · exact h.portIr.onDbg
    · split
      · exact (h.portIr.portGo.ok ‹_›).onDbg
      · have g1 := h.portIr.portGo.fail ‹_›
        exact Kept.portFail (.ite g1 g1.onDbg)
      · exact h.portIr.portGo.stall ‹_›

theorem execDbGrantRevoke (h : Kept pend s) {q} : KeptAfter pend (execDbGrantRevoke q s) :=
  h.rowWrite fun _ _ h => h.dbGrantWrite

theorem execDbCatchRelease (h : Kept pend s) {q v} : KeptAfter pend (execDbCatchRelease q v s) :=
  h.rowWrite fun _ _ h => h.dbCatchWrite

theorem execDbCatchDbr (h : Kept pend s) {q v} : KeptAfter pend (execDbCatchDbr q v s) :=
  h.rowWrite fun _ _ h => h.dbCatchWrite

theorem execDbCorectlStep (h : Kept pend s) {q c v} : KeptAfter pend (execDbCorectlStep q c v s) :=
  h.rowWrite fun _ _ h => h.corectlWrite

theorem execDbCorectlSkip (h : Kept pend s) {q c v} : KeptAfter pend (execDbCorectlSkip q c v s) :=
  h.rowWrite fun _ _ h => h.corectlWrite

theorem execDbCorectlRequest (h : Kept pend s) {q c v} : KeptAfter pend (execDbCorectlRequest q c v s) :=
  h.rowWrite fun _ _ h => h.corectlWrite

theorem execPcCntWrite (h : Kept pend s) {q n v} : KeptAfter pend (execPcCntWrite q n v s) :=
  h.rowWrite fun _ _ h => h.pccntWrite

theorem execRegisterWrite (h : Kept pend s) {q addr size v} : KeptAfter pend (execRegisterWrite q addr size v s) := by
  unfold Machine.execRegisterWrite
  refine .next ?_
  extract_lets off n
  split
  · split
    · exact h.warnNever
    · split
      · exact h
      · split
        · exact h.deviceWrite.ok ‹_›
        · exact h.deviceWrite.fail ‹_›
        · exact h.deviceWrite.stall ‹_›
  · split
    · exact h
    · split
      · exact h.deviceWrite.ok ‹_›
      · exact (h.deviceWrite.fail ‹_›).rowFault
      · exact h.deviceWrite.stall ‹_›
  · exact h

theorem execInstructionFetchFault (h : Kept pend s) {p} : KeptAfter pend (execInstructionFetchFault p s) := by
  unfold Machine.execInstructionFetchFault
  refine .next ?_
  dsimp only
  split
  · split
    · exact h
    · split
      · refine h.runInstr fun _ h'1 => ?_
        split
        · exact h'1.fetchAt.xexc ‹_›
        · exact h'1
      · exact h.fetchAt.xok ‹_›
      · exact h.fetchAt.xstall ‹_›
  · exact .ite h (h.runInstr (fun _ h => h))

end Kept

theorem exec_kept (h : Kept pend s) (c : Instr) : KeptAfter pend (exec c s) := by
  cases c with
  | aonMainLoss => exact .next h.mainLoss
  | computeDomainIsolation =>
    exact .next (.ite ((((Kept.socOff (.foldl (fun _ _ h => h.railOff) h)).setF).joyRailOff).beside) h)
  | mirrorPortReducedRetrain =>
    exact .next (.ite (Kept.onSup (.foldl (fun _ _ h => .ite h h.linkTrain.setB) h.dregsFree)) h)
  | mirrorCarriedReport =>
    exact .next (.ite ((Kept.onSup (.foldl (fun _ _ h => .ite h.linkActivate h) h)).degradedHeartbeat) h)
  | aonMainReturn =>
    exact .next (.ite h (.ite h.onSup.bringUp (.ite (((((((Kept.setB (.ite h.onSup.showInputs.setF (.foldl (fun
      _ _ h => h.contentsLost)
      h.onSup.showInputs.setF))).mirrorStale).portsFull).onSup).steepCold).railsBegin).settleSupply)
      h.onSup.showInputs.setF.settleSupply)))
  | borAssert => exact h.execBorAssert
  | borRelease | porRelease => exact .next (.ite h.supplyRelease h)
  | porAssert => exact .next h.tornFuses.porState
  | aonInputGood => exact .next (.ite h.onSup (.ite h.onSup.bringUp (.ite h h.onSup.showInputs)))
  | boardRailEnable => exact h.execBoardRailEnable
  | pgRise => exact .next (.ite (Kept.settleSupply (.foldl (fun _ _ h => .ite h.domBack.coreInReset h) h.setBit)) h)
  | pgTimeout => exact .next (.ite h.onSup.dregs.settleSupply h)
  | pgDrop =>
    exact .next (.ite (.ite (.ite h.setBit.mainLoss.joyRailOff h.setBit.mainLoss) (.foldl (fun _ _ h => .ite h
      h.contentsLost) (.ite ((Kept.mirrorStale (.ite (Kept.joyRailOff (.foldl (fun _ _ h => h.railOff)
      h.setBit.setBit.raiseTrigger.dregs.superEvent)) (.foldl (fun _ _ h => h.railOff)
      h.setBit.setBit.raiseTrigger.dregs.superEvent))).socOff) (.ite (Kept.joyRailOff (.foldl (fun _ _ h =>
      h.railOff) h.setBit.setBit.raiseTrigger.dregs.superEvent)) (.foldl (fun _ _ h => h.railOff)
      h.setBit.setBit.raiseTrigger.dregs.superEvent))))) h)
  | clockMonitorWindow =>
    exact .next (.ite h (.ite h.onClk.settleClocks.clocksBack (.ite h.monSet (.ite h.onClk.clockFault
      h.onClk))))
  | kclkMissingPulse => exact .next (.ite h h.clockFault)
  | xrefGood => exact .next (.ite h h.onClk.clocksBack)
  | spllLock => exact .next (.ite h.onClk h)
  | ckClusterWrite => exact h.execCkClusterWrite
  | cpllLock => exact .next (.ite ((Kept.setB (.ite h.switching h)).onClk) h)
  | clusterSourceSwitchDone => exact .next h.setB
  | caddyResetRelease => exact .next h.caddyRelease
  | manifestRead => exact .next (.ite h.onCaddy h)
  | signatureVerify => exact .next (.ite (.ite h.onCaddy.measured h.trySecond) h)
  | firmwareRead => exact .next (.ite (.ite h.firmwareGood h.trySecond) h)
  | loaderRead =>
    exact .next (.ite (.ite (.ite h.writeList.trySecond h.writeList) (.ite h.writeList.onCaddy.enterFirmware
      h.writeList.onCaddy.measured)) h)
  | coreRelease => exact .next (.ite h.bootRegions.onCaddy.beside h)
  | readyBitSet => exact h.execReadyBitSet
  | readinessTimeout => exact .next (.ite h h.beside.dregs)
  | caddyReadinessTimeout => exact .next (.ite h.dregsFree.caddyRestart h)
  | ktRstctlSwr => exact .next h.rstctlWrite
  | warmResetHold => exact .next (.ite h.warmHold h)
  | warmResetCaddyStart => exact .next (.ite h.portsFull.beside.caddyRelease h)
  | add | addw | addi | sub | subw | neg | negw => exact .next h.aluOv
  | mul | mulw | mulh | mulhu | and | or | xor | slt | sltu | shl | shr | sar | shlw | shrw | sarw =>
    exact .next h.alu2
  | div | divw => exact .next (h.runInstr (fun _ h => .iteI h.putDz h.putOv))
  | divu | divuw | rem | remw | remu | remuw => exact .next (h.runInstr (fun _ h => .iteI h.putDz h.putG))
  | andi | ori | xori | slti | sltiu | shli | shri | sari | clz | ctz | popc => exact .next h.alu1
  | lui => exact .next (h.runInstr (fun _ h => h.putG))
  | lb | lh | lw | ld | lbu | lhu | lwu => exact .next h.loadG
  | sb | sh | sw | sd => exact .next h.storeG
  | cas | casw | amoadd | amoaddw | amoswp | amoswpw => exact .next h.atomicI
  | beq | bne | blt | bge | bltu | bgeu => exact .next h.branchIf
  | j | brk => exact .next (h.runInstr (fun _ h => h))
  | jal => exact .next (h.runInstr (fun _ h => h.setG))
  | jr => exact h.execJr
  | jalr => exact h.execJalr
  | loop => exact h.execLoop
  | fence => exact .next (h.runInstr (fun _ h => h.fenceOp))
  | fenceC => exact .next (h.runInstr (fun _ h => h.fenceCOp))
  | iflush => exact h.execIflush
  | cacheC | cacheI | cacheCi => exact .next h.cacheAddr
  | cacheCsw | cacheIsw | cacheCisw => exact .next h.cacheSw
  | tlbiAll | tlbiAsid | tlbiVa | tlbiVaa | tlbiAllB | tlbiAsidB | tlbiVaB | tlbiVaaB => exact .next h.tlbi
  | send => exact h.execSend
  | recv => exact h.execRecv
  | pourWait => exact h.execPourWait
  | wait => exact h.execWait
  | coreWake => exact h.execCoreWake
  | mfc => exact h.execMfc
  | mtc => exact h.execMtc
  | trap => exact h.execTrap
  | tret => exact h.execTret
  | mcall => exact h.execMcall
  | eack => exact h.execEack
  | fadd | fsub | fmul | fdiv | fsqrt | fmin | fmax | fmadd | feq | flt | fle => exact .next h.fpOp
  | fcvt | icvtf => exact .next (h.runFp (fun _ h => h.withFlags (fun _ h => h.setV)))
  | fcvti => exact .next (h.runFp (fun _ h => h.withFlags (fun _ h => h.setG)))
  | fmvg | vextr => exact .next (h.runFp (fun _ h => h.setG))
  | fmvv | vsplat => exact .next (h.runFp (fun _ h => h.putV))
  | vadd | vsub | vmul | vmin | vminu | vmax | vmaxu | vshl | vshr | vsar => exact .next h.simdOp
  | vand | vor | vxor => exact .next h.bitsOp
  | vdot | vdotu => exact .next h.dotOp
  | vlB | vlH | vlW | vlD | flH | flW | flD => exact .next h.loadV
  | vsB | vsH | vsW | vsD | fsH | fsW | fsD => exact .next h.storeV
  | portRd => exact h.execPortRd
  | portWr => exact h.execPortWr
  | pktHdr => exact h.execPktHdr
  | pktApp => exact h.execPktApp
  | pktSend => exact h.execPktSend
  | evtWait => exact h.execEvtWait
  | evtWaitTimeout => exact h.execEvtWaitTimeout
  | infuserEvent => exact .next h.infEvent
  | portSignal => exact .next h.ownSignal
  | portTimerStart => exact .next h.ownTimer
  | infuserTimerExpiry => exact .next (.ite h h.putInf.infEvent)
  | portRrrel => exact .next h.ownRelease
  | portRxstatRead | portRxfifoRead | portStatRead | portTxlenWrite | portTxfifoWrite | portTxend | portTxtsRead
      | portCtrlWrite =>
    exact .next h.onGroup
  | interruptEntry => exact h.execInterruptEntry
  | secureInterruptEntry => exact h.execSecureInterruptEntry
  | supervisoryEventEntry => exact h.execSupervisoryEventEntry
  | debugRequestEntry => exact .next (.ite h.setCpu.enterInterrupt h)
  | icSourceChange => exact .next h.setLine
  | icSrcWrite => exact h.execIcSrcWrite
  | icSwtrig => exact h.execIcSwtrig
  | remoteReadTagTimeout => exact .next h.readFailed
  | remoteWriteTimeout => exact .next h.writeEnded
  | storeDrain => exact .next h.drainHead.stopDrained
  | l3WaymaskWrite => exact .next h.waymaskWrite
  | l3LockWrite => exact .next h.l3LockRegWrite
  | l3CctlEnable => exact .next h.cctlWrite
  | icinv => exact .next (h.atMachine (fun _ h => h.icInvalidate))
  | l3L2ctlWrite => exact .next h.l2ctlWrite
  | l3SlctlWrite => exact .next h.slctlWrite
  | ngLinkcfgWrite => exact h.execNgLinkcfgWrite
  | trainingSymbolsDetected => exact .next (.ite h (.ite (Kept.putLk (.ite h.linkTrain h)) (.ite h.linkTrain h)))
  | linkAbsent => exact .next (.ite h.putLk.setLink.linkRecord h)
  | codewordLock =>
    exact .next (.ite (.ite (.ite h.putLk.setF.setLink h.putLk.setF) (.ite h.putLk.setF.setF.setLink (.ite
      h.putLk.setF.setF.setLink h.putLk.setF.setF))) h)
  | linkHello => exact .next (.ite (.ite h.setLink.helloLink h.setLink.helloPort) h)
  | helloTimeout | bondMemberLeave | stallRetrain => exact .next (.ite h.linkRetrain h)
  | linkAuthentication =>
    exact .next (.ite (.ite (.ite h h.beside) (.ite (Kept.linkRefuse (.ite (.ite h.unqueue.setB h.unqueue.setB)
      (Kept.untimedRecord (.ite h.unqueue.setB h.unqueue.setB)))) (Kept.sessionStart (.ite (.ite h.unqueue.setB
      h.unqueue.setB) (Kept.untimedRecord (.ite h.unqueue.setB h.unqueue.setB)))))) h)
  | keyconfirm => exact .next (.ite h.linkActivate h)
  | bondMemberJoin => exact .next (.ite h.unqueue.putLk.linkActivate h)
  | codewordLockLoss => exact .next (.ite h.linkRetrain (.ite h.linkTrain h))
  | flitReceive =>
    exact .next (.ite h (.ite (.ite (.ite h.bumpF h) (Kept.linkError (.ite h.bumpF h))) (.ite ((Kept.putLk (.ite
      h.bumpF h)).linkError) (.ite (Kept.dataFlit (.ite h.bumpF h)) (Kept.creditReturn (.ite h.bumpF h))))))
  | replayRequest | rekeyMarker => exact .next (.ite h.putLk h)
  | creditTimeout => exact .next (.ite h.setLink.linkRecord h)
  | packetForward => exact .next (h.arrive (fun _ _ h => .ite h.countDrop (.ite (.ite h.localTurn h) h.routePacket)))
  | packetTailArrival =>
    exact .next (.ite h (.ite (.ite (((Kept.markCopy (.ite h.bumpF h)).putLk).linkQuarantine) ((Kept.markCopy
      (.ite h.bumpF h)).putLk)) (Kept.markCopy (.ite h.bumpF h))))
  | packetTransmitStart => exact .next (.ite h.localStart (.ite h h.transmitStart))
  | legacyTimeout => exact .next (.ite h (.foldl (fun _ _ h => h.refuse) h.putOut))
  | linkFailureTimeout =>
    exact .next (.ite h (.foldl (fun _ _ h => .foldl (fun _ _ h => .ite h.countDrop h.refuse) h.putOut.putLk)
      h))
  | rekey => exact h.execRekey
  | rekeyFail => exact .next (.ite h.linkRecord.sessionRetrain h)
  | linkctlRetrain => exact h.execLinkctlRetrain
  | linkctlQuarantine => exact h.execLinkctlQuarantine
  | linkctlRelease => exact h.execLinkctlRelease
  | linkctlClrerr => exact h.execLinkctlClrerr
  | ngNodeidWrite => exact h.execNgNodeidWrite
  | read | readResp | write | writeAck | atomic | atomicResp | message | event | mirrorFabricHeartbeat | nack |
      mgmtEnumerate | mgmtAssign | mgmtRouteWrite | mgmtRouteRead | mgmtStatusRead | mgmtQuarantine |
      mgmtRelease | mgmtRetrain | mgmtReply =>
    exact h.linkRow
  | timeSync =>
    exact .next (h.onTimeLink (fun _ h => .ite h (.ite (.ite h.setF.servo.beside.setTime
      h.setF.stepTime.beside.setTime) (.ite (.ite h.setF.servo.beside.setTime (.ite h.setF.servo.beside.setTime
      h.setF.servo.beside)) h.setF.servo.beside.setTime))))
  | timeDelayReq => exact .next (h.onTimeLink (fun _ h => h.sendTime))
  | timeDelayResp => exact .next (h.onTimeLink (fun _ h => h.beside.setF))
  | timeAnnounce => exact .next (h.onTimeLink (fun _ h => h.beside.timeChoose))
  | syncInterval => exact .next (.foldl (fun _ _ h => h.sendTime) h.gptpExport)
  | announceInterval => exact h.execAnnounceInterval
  | grandmasterLoss => exact .next (.ite h.beside.timeChoose h)
  | epTcfgWrite => exact h.execEpTcfgWrite
  | gptpPeerLoss => exact .next (.ite h.setTime.raiseSource h)
  | queueEngineSend => exact h.execQueueEngineSend
  | ngSqcfgWrite => exact h.execNgSqcfgWrite
  | ngRqcfgWrite => exact h.execNgRqcfgWrite
  | epCfgWrite => exact h.execEpCfgWrite
  | epochTick =>
    exact .next (.ite h ((Kept.edwTick (.foldl (fun _ _ h => .ite h.infEvent h)
      h.atLeast.setF.raiseSource.pour.epochReaches)).mirrorTick))
  | epochGuard => exact .next (.ite (.foldl (fun _ _ h => h.infEvent) h.atLeast.raiseSource) h)
  | edwDeadline => exact .next h.edwDue
  | ktEdwstatKick => exact h.execKtEdwstatKick
  | mirrorLineRead => exact h.execMirrorLineRead
  | mirrorCommitSend => exact h.execMirrorCommitSend
  | mirrorLines | mirrorCopy | mirrorCkpt => exact .next h.recordsIn
  | mirrorCommit => exact .next (h.mirrorIn (fun _ h => .ite h.onMir (.ite h.onMir.commitGood h.onMir.fallStale)))
  | mirrorCommitAck => exact .next (h.mirrorIn (fun _ h => .ite h.setF h))
  | mirrorHeartbeat => exact .next (h.mirrorIn (fun _ h => h.heartbeat))
  | mirrorOffer => exact .next (h.mirrorIn (fun _ h => .ite (.ite h.copyBegin h) (.ite h.onMir h)))
  | mirrorHandoverAck => exact .next (h.mirrorIn (fun _ h => .ite h.copyStop.roleInfo.onMir h))
  | heartbeatBoundary =>
    exact .next (.ite h (.ite h.atLeast.onMir.sendHeartbeat.onMir (.ite h.atLeast.onMir.sendHeartbeat.onMir
      (.ite h.atLeast.onMir.sendHeartbeat.onMir.setF.partnerLost h.atLeast.onMir.sendHeartbeat.onMir.setF))))
  | kettleDegradedHeartbeat => exact .next h.degradedHeartbeat
  | rollbackComplete => exact .next (.ite h.undo h)
  | commitMissing => exact .next (.ite h.fallStale h)
  | handoverAckTimeout => exact .next (.ite h.onMir.setB.mrEvent.raiseTrigger h)
  | mrCfgWrite => exact h.execMrCfgWrite
  | mrCtlClaim => exact h.execMrCtlClaim
  | mrCtlOffer => exact h.execMrCtlOffer
  | mrCtlHandover => exact h.execMrCtlHandover
  | mrCtlAlone => exact h.execMrCtlAlone
  | copyComplete => exact h.execCopyComplete
  | mbGo | mbAck => exact h.mbRow
  | caddyTakeMessage => exact h.execCaddyTakeMessage
  | mbResponse => exact .next (h.mbJob (fun _ h => .ite h.respond h.respond))
  | mbHello => exact .next (h.mbJobOf (fun _ h => h.onCaddy.respond))
  | strainerSet => exact h.execStrainerSet
  | strainerClear =>
    exact .next (h.mbJob (fun _ h => .ite h.respond (.ite (Kept.respond (.foldl (fun _ _ h => h.setF) h))
      h.respond)))
  | countersign =>
    exact .next (h.mbJob (fun _ h => .ite h.respond (.ite h.respond (.ite h.respond h.onCaddy.setB.regionPut))))
  | countersignComplete =>
    exact .next (h.mbJob (fun _ h => .ite h (.ite h.setB.onCaddy.setB.putInf.respond
      h.setB.onCaddy.regionPut.respond)))
  | debugGrant => exact .next (h.mbJobOf (fun _ h => h.caddyCert.respond))
  | lcTransition =>
    exact .next (h.mbJob (fun _ h => .ite (.ite h h.respond) (.ite (Kept.respond (.ite h.onCaddy h)) (.ite
      (Kept.respond (.ite h.onCaddy h)) (Kept.beside (.ite h.onCaddy h))))))
  | lcRowProgrammed => exact h.execLcRowProgrammed
  | sign | measureRead => exact .next (h.mbJobOf (fun _ h => .ite h.respond h.respond))
  | recovery =>
    exact .next (h.mbJob (fun _ h => .ite h.respond (.ite h.onCaddy.respond (.ite
      h.onCaddy.respond.onCaddy.firmwareGood h.onCaddy.respond))))
  | caddyWatchdogExpiry => exact .next (.ite h.caddyRestart h)
  | ktSaferelArm | ktSaferelRelease => exact .next h.saferelWrite
  | armCountExpiry => exact .next (.ite h.disarm h)
  | ktSovalWrite => exact .next h.sovalWrite
  | ktSafelvlWrite => exact .next h.safelvlWrite
  | safeInputChange => exact .next h.setBit.setBit.refreshPair
  | safeInputDiscrepancy => exact .next (.ite h.setBit.raiseSource.dregsFree.raiseTrigger h)
  | joystickSample => exact .next (.ite h.joyAll.settleJoy h)
  | watchdogKick => exact .next h.wdkickWrite
  | watchdogExpiry => exact .next (.ite h.wdExpire h)
  | watchdogWarning => exact .next (.ite h.setF.raiseSource h)
  | temperatureSample => exact .next h.temperatureSample
  | dregsEventTake => exact h.execDregsEventTake
  | dregsRelease => exact .next h.dregsReleaseWrite
  | dregsSubmit => exact .next h.dregsSubmitWrite
  | domainOfferAnswer => exact h.execDomainOfferAnswer
  | domainAnswerTimeout => exact h.execDomainAnswerTimeout
  | pwDomreqWake | pwDomreqRet | pwDomreqOff => exact .next h.domreqWrite
  | domainWakeTimeout => exact .next (.ite h.wakeOver.beside.dregs h)
  | domainReturn => exact .next h.domainReturn
  | pwVcmdWrite => exact .next h.vcmdWrite
  | voltageCommandComplete => exact .next (.ite h.monitorReads.setF.setB.raiseSource h)
  | voltageCommandFail => exact .next (.ite h.setB.dregsFree h)
  | pwCoreclkWrite => exact .next h.coreclkWrite
  | ktSteepctlStart | ktSteepctlAck => exact .next h.steepctlWrite
  | steepEnd => exact .next (.ite h.steepDone h)
  | steepWake => exact .next (.ite h.beside.beside.wakeDom h)
  | steepWakeDone => exact h.execSteepWakeDone
  | steepSample => exact h.execSteepSample
  | steepCompare => exact .next (.ite (.ite h.steepGo h.steepGo) h)
  | steepActContinue => exact .next (.ite h.steepContinue h)
  | steepActSignal => exact .next (.ite h.raiseSource.steepNext (.ite h.steepNext h))
  | steepActRecord => exact .next (.ite h.dregsFree.steepNext h)
  | steepSleep => exact .next (.ite (Kept.beside (.foldl (fun _ _ h => h.steepReturn) h)) h)
  | steepSleepExpiry => exact h.execSteepSleepExpiry
  | steepJump => exact .next (.ite h.steepGo h)
  | mcCtlInit => exact h.execMcCtlInit
  | mcCtlFill => exact h.execMcCtlFill
  | channelTrained => exact .next (.ite h.onDram.setBit.setReady h)
  | fillComplete => exact h.execFillComplete
  | scrubRead =>
    exact .next (.ite (Kept.onDram (by split; exacts [h.serveBudgeted.countEvent.readLine.ok ‹_›,
      h.serveBudgeted.countEvent.readLine.fail ‹_›, h.serveBudgeted.countEvent.readLine.stall ‹_›])) h)
  | refresh | refreshRateRead => exact .next (.ite h.onDram h)
  | ifCtlStart => exact h.execIfCtlStart
  | ifCtlStop => exact h.execIfCtlStop
  | ifPgrpWrite => exact h.execIfPgrpWrite
  | ifDoorbell => exact h.execIfDoorbell
  | packetBuilt => exact h.execPacketBuilt
  | frameReceived => exact .next (.ite h (.ite h.frameArrives h.frameArrives.gptpIn))
  | frameTransmitted =>
    exact .next (.ite h (.ite h.portPut.canOne (.ite h.portPut (.foldl (fun _ _ h => h.txOne) h.portPut))))
  | gateCycleStart => exact .next (.ite h.beside h)
  | canSlotQueue => exact .next (.ite h.atLeast.putPort h)
  | canBusOffRecovery => exact .next (.ite h.setF.setF.setF h)
  | portLinkChange =>
    exact .next (.ite h (Kept.portEvent (.ite (.ite h.putPort.raiseSource h.putPort) (Kept.dregsFree (.ite
      h.putPort.raiseSource h.putPort)))))
  | csiPacket =>
    exact .next (.ite (.ite h.askWake (.ite ((Kept.putCam (.ite (.ite h.dmaWrite h) (Kept.bumpF (.ite h.dmaWrite
      h)))).frameIn) (Kept.putCam (.ite (.ite h.dmaWrite h) (Kept.bumpF (.ite h.dmaWrite h)))))) h)
  | cameraFrameStart => exact .next (.ite (Kept.putCam (.foldl (fun _ _ h => h.pourF) (.ite h.camAdvance.bumpF h))) h)
  | cameraFrameEnd => exact .next (.ite h.putCam.camAdvance h)
  | cmCqtailWrite => exact h.execCmCqtailWrite
  | codecJobComplete =>
    exact .next (h.onJob (fun _ _ _ h => .ite h ((((Kept.dmaWrite (.ite h
      h.codecData)).beside).raiseSource).codecTake)))
  | codecSliceReady => exact .next (h.onJob (fun _ _ _ h => .ite h.codecData.beside.raiseSource h))
  | pcieInboundRequest => exact .next (.ite (.ite h.askWake (.ite h.dmaWrite h.dmaRead)) h)
  | pcieMsi | pcieLinkChange => exact .next h.raiseSource
  | usbBusEvent => exact h.execUsbBusEvent
  | dpOcfgEnable => exact h.execDpOcfgEnable
  | displayLinkTrainingDone => exact .next (.ite (Kept.raiseSource (.ite h.putEdid.setF h.putEdid.setF.dregsFree)) h)
  | hpdChange => exact .next (.ite h (.ite h.setB.raiseSource.putDisp.setF h.setB.raiseSource))
  | hpdLoss => exact .next (.ite h.putDisp h)
  | displayFrameBoundary => exact h.execDisplayFrameBoundary
  | displayLine => exact .next (.ite h.raiseSource h)
  | layerUnderrun => exact .next (.ite h.putDisp.lineMissed h)
  | dpAmbWrite => exact h.execDpAmbWrite
  | tcCfgEnable => exact h.execTcCfgEnable
  | touchScanStart => exact .next (.ite h.scanStart h)
  | touchScanEnd =>
    exact .next (.ite h (.ite (.ite ((Kept.putTouch (.ite h.setF.raiseSource h.setF)).raiseSource)
      (Kept.putTouch (.ite h.setF.raiseSource h.setF))) (Kept.putTouch (.ite h.setF.raiseSource h.setF))))
  | touchReport => exact h.execTouchReport
  | bypass | samplePreload | extest => exact .next h.portIr
  | idcode => exact h.execIdcode
  | kstat => exact .next (.ite h.portIr.onDbg (.ite h.portIr.onDbg h.portIr))
  | cert => exact .next (.ite h.portIr.caddyCert h.portIr)
  | access => exact h.execAccess
  | grantExpiry => exact .next (.ite h h.grantClock.endGrant)
  | dbGrantRevoke => exact h.execDbGrantRevoke
  | dbCatchRelease => exact h.execDbCatchRelease
  | dbCatchDbr => exact h.execDbCatchDbr
  | dbCorectlStep => exact h.execDbCorectlStep
  | dbCorectlSkip => exact h.execDbCorectlSkip
  | dbCorectlRequest => exact h.execDbCorectlRequest
  | pcCntWrite => exact h.execPcCntWrite
  | registerWrite => exact h.execRegisterWrite
  | illegalInstruction => exact .next (.ite h (h.runInstr (fun _ h => h)))
  | instructionFetchFault => exact h.execInstructionFetchFault
  | aonBkpLoss =>
    exact .next (.ite h.onSup (.ite (.ite h.onSup.bringUp h.onSup.showInputs) h.onSup.showInputs.backupAbsent))
  | voltageMonitorCap => exact .next h.monitorReads

/-- Settles O58: a row keeps the form (`exec_kept`), and so does a microsecond without a command (`Kept.idle`). -/
theorem stepKeepsForm : Obligations.StepKeepsForm := by
  intro s t q h hs
  obtain ⟨mem, cpus, queue⟩ := h
  unfold step at hs
  cases hq : s.pending with
  | nil =>
    rw [hq] at hs
    cases hs
    obtain rfl : q = [] := queue.symm.trans hq
    exact Kept.idle ⟨mem, cpus, hq⟩
  | cons c rest =>
    rw [hq] at hs
    obtain rfl : q = c :: rest := queue.symm.trans hq
    exact exec_kept (s := { s with pending := rest }) ⟨mem, cpus, rfl⟩ c t hs

end Sys2Proof.Machine
end

section
/-! ### Events and records beside a command

What a raised source and a record leave, in the terms in which the families below use it. -/

namespace Sys2Proof.Machine

/-- What a row answers, by the equation of the operation that it runs. -/
theorem gives_of {i : Instr} {s t u : State} {P : State → Prop} (he : exec i s = .next t) (e : t = u) (hp : P u) : Gives i s P :=
  ⟨u, he.trans (congrArg _ e), hp⟩

/-- The controller learns of an event that is raised where its registers are still those of `s`. -/
theorem signalled_raiseSource {k : Fld → Bool} {s t : State} (h : FieldsKept k s t) (n : Nat)
    (he : k F.IC_SRC_EDGE = false) (hp : k F.IC_SRC_PRIO = false) : signalled s (raiseSource t n) n := fun edge prio =>
  raiseSource_signalled t n ((h.fb _ n he).trans edge) (by rwa [h _ n hp])

/-- What is pending stays pending while other events come. -/
theorem icPend_staysPending {s : State} {m : Nat} (n : Nat) (h : s.fb F.IC_SRC_PENDING m = true) :
    (icPend s n).fb F.IC_SRC_PENDING m = true := by
  unfold icPend
  split
  · exact h
  · rw [icCommit_keepsPending, State.fb, State.setB, State.fl_setF]
    split
    · rfl
    · exact h

theorem raiseSource_staysPending {s : State} {m : Nat} (n : Nat) (h : s.fb F.IC_SRC_PENDING m = true) :
    (raiseSource s n).fb F.IC_SRC_PENDING m = true := by
  unfold raiseSource
  split
  · exact icPend_staysPending n h
  · split
    · exact h
    · exact icPend_staysPending n h

theorem shv_setSh_id (s : State) {f g : Fld} (i j v : Nat) (h : f.id ≠ g.id) : (s.setSh f i v).shv g j = s.shv g j := by
  have e : mget 0 (s.setSh f i v).sh (fkey g j) = mget 0 s.sh (fkey g j) := by
    exact mget_mset_ne (0 : Nat) s.sh (v % 2 ^ f.width + 1) (fkey_ne_id i j h)
  rw [State.shv, State.shv, e]
  rfl

theorem shv_congr {s t : State} {f : Fld} {i : Nat} (hs : t.sh = s.sh) (hf : t.fl f i = s.fl f i) : t.shv f i = s.shv f i := by
  rw [State.shv, State.shv, hs, hf]

section
variable {s : State} {f : Fld} {i unit : Nat} {v : Word}

/-- While its source runs, a whole write of an RWP field waits in the shadow (04 R77). -/
theorem putField_rwp_waits (q : Requester) (off : Nat) (ha : f.acc = .rwp) (hb : f.lo ≤ f.hi ∧ f.hi ≤ 63)
    (hs : sourceStopped s f.pour unit = false) : putField s (.full q off v) f i unit = s.setSh f i (bitsOf v f) := by
  unfold putField
  rw [Wr.touches_full _ _ _ _ (by omega), Wr.merge_full _ _ _ _ _ hb, ha]
  exact if_neg (Bool.eq_false_iff.mp hs)

/-- With its source stopped it acts at once. -/
theorem putField_rwp_acts (q : Requester) (off : Nat) (ha : f.acc = .rwp) (hb : f.lo ≤ f.hi ∧ f.hi ≤ 63)
    (hs : sourceStopped s f.pour unit = true) :
    putField s (.full q off v) f i unit = (s.setF f i (bitsOf v f)).dropSh f i := by
  unfold putField
  rw [Wr.touches_full _ _ _ _ (by omega), Wr.merge_full _ _ _ _ _ hb, ha]
  exact if_pos hs

end

end Sys2Proof.Machine
end

section
/-! ### The Kettle: safe outputs (O46) -/

namespace Sys2Proof.Machine

variable {s : State} {q : Requester} {v : Word} {c : Fin 16}

theorem disarm_side (s : State) : SideFrame (noteField [F.KT_SAFECTL_ARMED]) s (disarm s) :=
  ((SideFrame.refl _ s).setF (noteField_byId _) 0 _ rfl).trans (dregsFree_side _ _ _ _ _)

theorem disarm_armed (s : State) : (disarm s).fb F.KT_SAFECTL_ARMED 0 = false :=
  ((dregsFree_trip _ _ _ _).fl.fb _ _ rfl).trans (State.fb_setB_same s _ 0 _ (by decide))

theorem bits_key (off : Nat) : (Wr.full q off v).bits F.KT_SAFEREL_KEY = v.toNat % 65536 := by
  simp [Wr.bits_full, bitsOf, F.KT_SAFEREL_KEY, Fld.width]

theorem saferelWrite_arms (off : Nat) (hr : isRing0 s (.core c) = true) (hk : v.toNat % 65536 = 0x4152)
    (hh : s.fb F.KT_SAFECTL_HELD 0 = true) (hq : s.fl F.KT_TRIGSTAT_RAISED 0 = 0) :
    saferelWrite s (.full (.core c) off v) = (s.setB F.KT_SAFECTL_ARMED 0 true).setF F.KT_SAFECTL_ARMCORE 0 c.val := by
  have key : (Wr.full (.core c) off v).bits F.KT_SAFEREL_KEY = 0x4152 := (bits_key off).trans hk
  simp [saferelWrite, Wr.q_full, hr, key, hh, hq]

theorem saferelWrite_frees (off : Nat) (hr : isRing0 s (.core c) = true) (hk : v.toNat % 65536 = 0x524C)
    (ha : s.fb F.KT_SAFECTL_ARMED 0 = true) (hc : s.fl F.KT_SAFECTL_ARMCORE 0 = c.val) (hq : s.fl F.KT_TRIGSTAT_RAISED 0 = 0) :
    saferelWrite s (.full (.core c) off v) =
      raiseSource (dregsFree ((s.setB F.KT_SAFECTL_ARMED 0 false).setB F.KT_SAFECTL_HELD 0 false) 0 clsSafety 0x20) 234 := by
  have key : (Wr.full (.core c) off v).bits F.KT_SAFEREL_KEY = 0x524C := (bits_key off).trans hk
  simp [saferelWrite, Wr.q_full, hr, key, ha, hc, hq]

theorem saferelWrite_disarms (off : Nat) (hr : isRing0 s (.core c) = true)
    (ha : ¬ (v.toNat % 65536 = 0x4152 ∧ s.fb F.KT_SAFECTL_HELD 0 = true ∧ s.fl F.KT_TRIGSTAT_RAISED 0 = 0))
    (hf : ¬ (v.toNat % 65536 = 0x524C ∧ s.fb F.KT_SAFECTL_ARMED 0 = true ∧ s.fl F.KT_SAFECTL_ARMCORE 0 = c.val ∧
      s.fl F.KT_TRIGSTAT_RAISED 0 = 0)) : saferelWrite s (.full (.core c) off v) = disarm s := by
  unfold saferelWrite
  simp only [Wr.q_full, hr, if_true, bits_key]
  rw [if_neg (by simpa [and_assoc] using ha), if_neg (by simpa [and_assoc] using hf)]

theorem saferelWrite_ignored (off : Nat) (hr : isRing0 s q = false) :
    saferelWrite s (.full q off v) = ignoreWarn s (.full q off v) := by
  unfold saferelWrite
  cases q with
  | core c => simp [Wr.q_full, hr]
  | _ => rfl

/-- The fields that the safe outputs' registers hold of a release. -/
def releaseFields : List Fld := [F.KT_SAFECTL_ARMED, F.KT_SAFECTL_HELD]

/-- The release changes its own registers alone, and tells of it. -/
theorem release_ends (s : State) :
    let t := raiseSource (dregsFree ((s.setB F.KT_SAFECTL_ARMED 0 false).setB F.KT_SAFECTL_HELD 0 false) 0 clsSafety 0x20) 234
    t.fb F.KT_SAFECTL_HELD 0 = false ∧ t.fb F.KT_SAFECTL_ARMED 0 = false ∧ signalled s t 234 ∧ t.mem = s.mem ∧ t.cpus = s.cpus := by
  have byId := noteField_byId releaseFields
  have clears : SideFrame (noteField releaseFields) s ((s.setB F.KT_SAFECTL_ARMED 0 false).setB F.KT_SAFECTL_HELD 0 false) :=
    ((SideFrame.refl _ s).setF byId 0 _ rfl).setF byId 0 _ rfl
  have noted := clears.trans (dregsFree_side releaseFields _ 0 clsSafety 0x20)
  have told := noted.trans (raiseSource_side releaseFields _ 234)
  have after {f : Fld} (hf : dregsField f = false) :=
    (raiseSource_side [] (dregsFree ((s.setB F.KT_SAFECTL_ARMED 0 false).setB F.KT_SAFECTL_HELD 0 false) 0 clsSafety 0x20) 234).fb
      f 0 (by simpa [noteField] using hf)
  have noting {f : Fld} (hf : dregsField f = false) :=
    (dregsFree_side [] ((s.setB F.KT_SAFECTL_ARMED 0 false).setB F.KT_SAFECTL_HELD 0 false) 0 clsSafety 0x20).fb
      f 0 (by simpa [noteField] using hf)
  refine ⟨?_, ?_, signalled_raiseSource noted.fl 234 rfl rfl, told.mem, told.cpus⟩
  · rw [after rfl, noting rfl]
    exact State.fb_setB_same _ _ 0 _ (by decide)
  · rw [after rfl, noting rfl, State.fb_setB_id _ _ _ _ (by decide)]
    exact State.fb_setB_same _ _ 0 _ (by decide)

/-! #### The values of the outputs -/

theorem sovalWrite_waits (hm : mayWriteSoval s q = true) (he : s.epochOn = true) (off : Nat) :
    sovalWrite s (.full q off v) =
      (s.setSh F.KT_SOVAL_VALUE 0 (bitsOf v F.KT_SOVAL_VALUE)).setSh F.KT_SOVAL_OE 0 (bitsOf v F.KT_SOVAL_OE) := by
  have runs (t : State) (h : t.epochOn = true) (f : Fld) (hf : f.pour = .epoch) : sourceStopped t f.pour 0 = false := by
    rw [hf, sourceStopped, h]; rfl
  unfold sovalWrite
  rw [Wr.q_full, if_pos hm, putFields, List.foldl_cons, List.foldl_cons, List.foldl_nil,
    putField_rwp_waits q off rfl (by decide) (runs s he F.KT_SOVAL_VALUE rfl)]
  exact putField_rwp_waits q off rfl (by decide) (runs _ he F.KT_SOVAL_OE rfl)

theorem sovalWrite_acts (hm : mayWriteSoval s q = true) (he : s.epochOn = false) (off : Nat) :
    sovalWrite s (.full q off v) =
      (((s.setF F.KT_SOVAL_VALUE 0 (bitsOf v F.KT_SOVAL_VALUE)).dropSh F.KT_SOVAL_VALUE 0).setF F.KT_SOVAL_OE 0
        (bitsOf v F.KT_SOVAL_OE)).dropSh F.KT_SOVAL_OE 0 := by
  have stands (t : State) (h : t.epochOn = false) (f : Fld) (hf : f.pour = .epoch) : sourceStopped t f.pour 0 = true := by
    rw [hf, sourceStopped, h]; rfl
  have still : ((s.setF F.KT_SOVAL_VALUE 0 (bitsOf v F.KT_SOVAL_VALUE)).dropSh F.KT_SOVAL_VALUE 0).epochOn = false := by
    rw [← he]
    exact State.fb_setF_id s 0 0 _ (by decide)
  unfold sovalWrite
  rw [Wr.q_full, if_pos hm, putFields, List.foldl_cons, List.foldl_cons, List.foldl_nil,
    putField_rwp_acts q off rfl (by decide) (stands s he F.KT_SOVAL_VALUE rfl)]
  exact putField_rwp_acts q off rfl (by decide) (stands _ still F.KT_SOVAL_OE rfl)

theorem safelvlWrite_takes (hh : s.fb F.KT_SAFECTL_HELD 0 = true) (hl : s.fb F.KT_SAFECTL_LOCK 0 = false) (off : Nat) :
    safelvlWrite s (.full q off v) = s.setF F.KT_SAFELVL_LVL 0 v.toNat := by
  have whole : bitsOf v F.KT_SAFELVL_LVL = v.toNat := by
    have := v.isLt
    simp only [bitsOf, F.KT_SAFELVL_LVL, Fld.width]
    omega
  unfold safelvlWrite
  rw [if_pos (by simp [hh, hl]), putField, Wr.touches_full _ _ _ _ (by decide), Wr.new_full _ _ _ _ _ _ (by decide), whole]
  rfl

theorem safelvlWrite_ignored (h : s.fb F.KT_SAFECTL_HELD 0 = false ∨ s.fb F.KT_SAFECTL_LOCK 0 = true) (w : Wr) :
    safelvlWrite s w = ignoreWarn s w := by
  unfold safelvlWrite
  rw [if_neg]
  rcases h with h | h <;> simp [h]

/-- Settles O46: the keys arm and release (`saferelWrite_*`), and every other write leaves a record. -/
theorem safeOutputs : Obligations.SafeOutputs := by
  intro s c q v key me ring0 held armed mine quiet kept arms frees soval
  have ignored (t : State) (w : Wr) := ignoreWarn_side (s := t) [] w
  refine ⟨fun hr ha => ?_, fun hr hf => ?_, fun hr ha hf cmd hcmd => ?_, fun hr cmd hcmd => ?_, fun ha => ?_, fun hm he => ?_,
    fun hm he => ?_, fun hm => ?_, fun hh hl => ?_, fun h => ?_⟩
  · obtain ⟨hk, hh, hq⟩ := ha
    refine gives_of rfl (saferelWrite_arms _ hr hk hh hq) ⟨?_, ?_, ?_, rfl, rfl, rfl⟩
    · exact (State.fb_setF_id _ _ _ _ (by decide)).trans (State.fb_setB_same s _ 0 true (by decide))
    · exact (State.fl_setF_same _ _ _ _).trans (Nat.mod_eq_of_lt c.isLt)
    · exact ((State.fb_setF_id _ _ _ _ (by decide)).trans (State.fb_setB_id s _ _ _ (by decide))).trans hh
  · obtain ⟨hk, ha, hc, hq⟩ := hf
    obtain ⟨hheld, harmed, told, hmem, hcpus⟩ := release_ends s
    exact gives_of rfl (saferelWrite_frees _ hr hk ha hc hq) ⟨hheld, harmed, told, hmem, hcpus⟩
  · have e := saferelWrite_disarms (c := c) 0xE00000518 hr ha hf
    have side := disarm_side s
    simp only [List.mem_cons, List.not_mem_nil, or_false] at hcmd
    rcases hcmd with rfl | rfl <;>
      exact gives_of rfl e ⟨disarm_armed s, side.fb _ _ rfl, side.mem, side.cpus⟩
  · have e := saferelWrite_ignored (v := v) 0xE00000518 hr
    have side := ignored s (.full q 0xE00000518 v)
    simp only [List.mem_cons, List.not_mem_nil, or_false] at hcmd
    rcases hcmd with rfl | rfl <;>
      exact gives_of rfl e ⟨side.fb _ _ rfl, side.fb _ _ rfl, side.mem, side.cpus⟩
  · have side := disarm_side s
    exact gives_of rfl (if_pos ha) ⟨disarm_armed s, side.fb _ _ rfl, side.mem, side.cpus⟩
  · refine gives_of rfl (sovalWrite_waits hm he _) fun f hf => ?_
    simp only [soval, List.mem_cons, List.not_mem_nil, or_false] at hf
    rcases hf with rfl | rfl
    · exact ⟨(shv_setSh_id _ _ _ _ (by decide)).trans ((State.shv_setSh_same _ _ _ _).trans (bitsOf_mod _ _)), rfl⟩
    · exact ⟨(State.shv_setSh_same _ _ _ _).trans (bitsOf_mod _ _), rfl⟩
  · refine gives_of rfl (sovalWrite_acts hm he _) fun f hf => ?_
    simp only [soval, List.mem_cons, List.not_mem_nil, or_false] at hf
    rcases hf with rfl | rfl
    · exact (State.fl_setF_id _ _ _ _ (by decide)).trans ((State.fl_setF_same _ _ _ _).trans (bitsOf_mod _ _))
    · exact (State.fl_setF_same _ _ _ _).trans (bitsOf_mod _ _)
  · refine gives_of rfl (if_neg (Bool.eq_false_iff.mp hm)) fun f hf => ?_
    have side := ignored s (.full q 0xE00000508 v)
    have field : noteField [] f = false := by
      simp only [soval, List.mem_cons, List.not_mem_nil, or_false] at hf
      rcases hf with rfl | rfl <;> rfl
    exact ⟨shv_congr (dregs_sh _ _ _ _ _) (side.fl _ _ field), side.fl _ _ field⟩
  · exact gives_of rfl (safelvlWrite_takes hh hl _)
      ⟨(State.fl_setF_same _ _ _ _).trans (Nat.mod_eq_of_lt v.isLt), rfl, rfl⟩
  · have side := ignored s (.full q 0xE00000500 v)
    exact gives_of rfl (safelvlWrite_ignored h _) ⟨side.fl _ _ rfl, side.mem, side.cpus⟩

end Sys2Proof.Machine
end

section
/-! ### The Kettle: the log (O48) -/

namespace Sys2Proof.Machine

variable {s : State}

/-! #### Slots of the log (17 R377) -/

theorem logSlot_congr {s t : State} (h : t.dregs.slots = s.dregs.slots) (i : Nat) : logSlot t i = logSlot s i := by
  rw [logSlot, logSlot, h]

theorem logSlot_setLogSlot (s : State) {i j : Nat} (r : Option DRec) (h : i % 1024 = j % 1024) :
    logSlot (setLogSlot s i r) j = r := by
  rw [logSlot, ← h]
  exact mget_mset_same _ _ _ _

theorem logSlot_setLogSlot_ne (s : State) {i j : Nat} (r : Option DRec) (h : i % 1024 ≠ j % 1024) :
    logSlot (setLogSlot s i r) j = logSlot s j := mget_mset_ne none s.dregs.slots r h

theorem logSlot_matchPut (s : State) (r : DRec) (i j : Nat) : logSlot (matchPut s r i) j = logSlot s j := rfl

/-- What a record in the log leaves of everything else. -/
theorem dregsLost_side (s : State) (c t : Nat) : SideFrame (noteField []) s (dregsLost s c t) := by
  have h := dregsLost_frame (DregsFrame.refl s) c t
  exact ⟨congrArg (fun u : State => { u with sh := s.sh, dram := s.dram, links := s.links, router := s.router, free := s.free })
    h.rest, fun f i hf => h.fl f i (dregsField_of_noteField f hf)⟩

theorem bumpF_dregs (s : State) (f : Fld) (i : Nat) : (s.bumpF f i).dregs = s.dregs := by
  unfold State.bumpF
  dsimp only
  split
  · rfl
  · rfl

/-- A lost record is counted and leaves the log alone (17 R381). -/
theorem dregsLost_dregs (s : State) (c t : Nat) : (dregsLost s c t).dregs = s.dregs := by
  unfold dregsLost
  dsimp only
  split
  · rw [raiseSource_dregs, State.setF_dregs, bumpF_dregs, State.setF_dregs]
  · rw [State.setF_dregs, bumpF_dregs]

/-- The registers of the losses of a class (17 R381), where a source's event follows or not. -/
theorem dregsLost_last (s : State) (c t : Nat) : (dregsLost s c t).fl F.DREGS_LOSTL_LAST c = t % 2 ^ 64 := by
  unfold dregsLost
  dsimp only
  split
  · rw [(raiseSource_frame _ _).fl _ _ rfl, State.fl_setF_same]; rfl
  · rw [State.fl_setF_same]; rfl

theorem dregsLost_begins {c : Nat} (h : s.fl F.DREGS_LOST_COUNT c = 0) (t : Nat) :
    (dregsLost s c t).fl F.DREGS_LOST_COUNT c = 1 ∧ (dregsLost s c t).fl F.DREGS_LOSTF_FIRST c = t % 2 ^ 64 ∧
      signalled s (dregsLost s c t) 238 := by
  have first : (s.setF F.DREGS_LOSTF_FIRST c t).fl F.DREGS_LOST_COUNT c = 0 := (State.fl_setF_id _ _ _ _ (by decide)).trans h
  have counted : (s.setF F.DREGS_LOSTF_FIRST c t).bumpF F.DREGS_LOST_COUNT c =
      (s.setF F.DREGS_LOSTF_FIRST c t).setF F.DREGS_LOST_COUNT c 1 := by
    rw [State.bumpF, first]
    rfl
  have e : dregsLost s c t = raiseSource
      (((s.setF F.DREGS_LOSTF_FIRST c t).setF F.DREGS_LOST_COUNT c 1).setF F.DREGS_LOSTL_LAST c t) 238 := by
    rw [dregsLost, h, if_pos rfl, if_pos rfl, counted]
  have lost := noteField_byId []
  have noted : FieldsKept (noteField []) s
      (((s.setF F.DREGS_LOSTF_FIRST c t).setF F.DREGS_LOST_COUNT c 1).setF F.DREGS_LOSTL_LAST c t) :=
    (((FieldsKept.of_flds rfl).setF lost c _ rfl).setF lost c _ rfl).setF lost c _ rfl
  rw [e]
  refine ⟨?_, ?_, signalled_raiseSource noted 238 rfl rfl⟩
  · rw [(raiseSource_frame _ _).fl _ _ rfl, State.fl_setF_id _ _ _ _ (by decide), State.fl_setF_same]; rfl
  · rw [(raiseSource_frame _ _).fl _ _ rfl, State.fl_setF_id _ _ _ _ (by decide), State.fl_setF_id _ _ _ _ (by decide),
      State.fl_setF_same]
    rfl

/-! #### Taking an event from the queue (17 R378 to R381) -/

/-- The state whose queue has given up its front. -/
def unqueued (s : State) (rest : List DRec) : State := { s with dregs := { s.dregs with queue := rest } }

theorem eventTake_front {r : DRec} {rest : List DRec} (h : s.dregs.queue = r :: rest) :
    exec .dregsEventTake s = .next (dregsTake (unqueued s rest) r) := by
  show execDregsEventTake s = _
  rw [execDregsEventTake, h]
  rfl

/-- The state that has filled the next slot with a record. -/
def slotTaken (s : State) (r : DRec) : State :=
  let head := s.fl F.DREGS_STAT_HEAD 0
  ((matchPut (setLogSlot s head (some r)) r head).setF F.DREGS_STAT_HEAD 0 ((head + 1) % 1024)).setF F.DREGS_STAT_FILL 0
    (s.fl F.DREGS_STAT_FILL 0 + 1)

theorem dregsTake_takes {r : DRec} (h : s.fl F.DREGS_STAT_FILL 0 < 896) : dregsTake s r =
    if s.fl F.DREGS_STAT_FILL 0 + 1 = 896 then raiseSource (slotTaken s r) 237 else slotTaken s r := by
  unfold dregsTake
  dsimp only
  rw [if_neg (by omega)]
  dsimp only
  rw [if_pos (by omega)]
  rfl

theorem dregsTake_merges {r x : DRec} {m : DMatch} (h : 896 ≤ s.fl F.DREGS_STAT_FILL 0)
    (hm : s.dregs.table.find? (·.is r) = some m) (hx : logSlot s m.slot = some x) (hr : x.repeats < 0xFFFF) :
    dregsTake s r = setLogSlot s m.slot (some { x with repeats := x.repeats + 1 }) := by
  unfold dregsTake
  dsimp only
  rw [if_pos h, hm]
  dsimp only
  rw [hx]
  exact if_pos hr

theorem dregsTake_unmatched {r : DRec} (h : 1024 ≤ s.fl F.DREGS_STAT_FILL 0) (hm : s.dregs.table.find? (·.is r) = none) :
    dregsTake s r = if r.cls = clsFatal || r.cls = clsSafety then dregsReplace s r true
      else if r.cls = clsError then dregsReplace s r false else dregsLost s r.cls r.time := by
  unfold dregsTake
  dsimp only
  rw [if_pos (by omega), hm]
  dsimp only
  exact if_neg (by omega)

/-- With no slot free, a record of a class above Warn takes the slot of the oldest record of class Info. -/
theorem dregsReplace_info {r x : DRec} {warn : Bool} (hx : logSlot s (s.fl F.DREGS_STAT_HEAD 0) = some x) (hc : x.cls = 0) :
    dregsReplace s r warn =
      matchPut (setLogSlot (dregsLost s 0 x.time) (s.fl F.DREGS_STAT_HEAD 0 % 1024) (some { r with replaced := true })) r
        (s.fl F.DREGS_STAT_HEAD 0 % 1024) := by
  have oldest : oldestOf s warn (s.fl F.DREGS_STAT_HEAD 0) 1024 = some (s.fl F.DREGS_STAT_HEAD 0 % 1024) := by
    rw [oldestOf, hx]
    exact if_pos (by simp [hc, clsInfo])
  have same : logSlot s (s.fl F.DREGS_STAT_HEAD 0 % 1024) = some x := by
    rw [← hx, logSlot, logSlot, Nat.mod_mod]
  rw [dregsReplace, oldest]
  dsimp only
  rw [same]
  simp only [Option.getD_some, hc]

/-! #### Releasing slots (17 R382) -/

theorem freeSlots_rest (s : State) (i n : Nat) : ∃ d, freeSlots s i n = { s with dregs := d } := by
  induction n generalizing s i with
  | zero => exact ⟨s.dregs, rfl⟩
  | succ n ih =>
    obtain ⟨d, hd⟩ := ih _ (i + 1)
    exact ⟨d, hd⟩

/-- The state after one slot is released. -/
def slotFreed (s : State) (i : Nat) : State :=
  let t := setLogSlot s i ((logSlot s i).map fun r => { r with valid := false })
  { t with dregs := { t.dregs with table := t.dregs.table.filter fun m => m.slot != i % 1024 } }

theorem logSlot_slotFreed (s : State) {i j : Nat} (h : i % 1024 = j % 1024) :
    logSlot (slotFreed s i) j = (logSlot s i).map fun r => { r with valid := false } := logSlot_setLogSlot s _ h

theorem logSlot_slotFreed_ne (s : State) {i j : Nat} (h : i % 1024 ≠ j % 1024) :
    logSlot (slotFreed s i) j = logSlot s j := logSlot_setLogSlot_ne s _ h

/-- No slot among those released holds a valid record. -/
def Freed (s : State) (j : Nat) : Prop := ∀ y, logSlot s j = some y → y.valid = false

theorem slotFreed_freed (s : State) {i j : Nat} (h : i % 1024 = j % 1024) : Freed (slotFreed s i) j := by
  intro y hy
  rw [logSlot_slotFreed s h] at hy
  obtain ⟨z, _, rfl⟩ := Option.map_eq_some_iff.mp hy
  rfl

theorem Freed.slotFreed {j : Nat} (h : Freed s j) (i : Nat) : Freed (slotFreed s i) j := by
  by_cases hi : i % 1024 = j % 1024
  · exact slotFreed_freed s hi
  · exact fun y hy => h y ((logSlot_slotFreed_ne s hi).symm.trans hy)

theorem Freed.freeSlots {j : Nat} (h : Freed s j) (i n : Nat) : Freed (freeSlots s i n) j := by
  induction n generalizing s i with
  | zero => exact h
  | succ n ih => exact ih (h.slotFreed i) (i + 1)

theorem freeSlots_freed (s : State) (i : Nat) {n k : Nat} (h : k < n) : Freed (freeSlots s i n) (i + k) := by
  induction n generalizing s i k with
  | zero => exact absurd h (Nat.not_lt_zero k)
  | succ n ih =>
    cases k with
    | zero => exact Freed.freeSlots (slotFreed_freed s rfl) (i + 1) n
    | succ k =>
      rw [show i + (k + 1) = i + 1 + k by omega]
      exact ih (slotFreed s i) (i + 1) (Nat.lt_of_succ_lt_succ h)

theorem freeSlots_others (s : State) {i n j : Nat} (h : ∀ k, k < n → (i + k) % 1024 ≠ j % 1024) :
    logSlot (freeSlots s i n) j = logSlot s j := by
  induction n generalizing s i with
  | zero => rfl
  | succ n ih =>
    refine (ih (slotFreed s i) fun k hk => ?_).trans (logSlot_slotFreed_ne s (h 0 (Nat.succ_pos n)))
    rw [show i + 1 + k = i + (k + 1) by omega]
    exact h (k + 1) (Nat.succ_lt_succ hk)

/-! #### Offering a record -/

/-- A record that finds room in the queue waits there, and nothing else happens (17 R378). -/
theorem dregsOfferRec_queued (r : DRec) (h : s.dregs.queue.length < 16) :
    dregsOfferRec s r = { s with dregs := { s.dregs with queue := s.dregs.queue ++ [r] } } := if_pos h

theorem ignoreWarn_queued (w : Wr) (h : s.dregs.queue.length < 16) : ∃ y : DRec,
    ignoreWarn s w = { s with dregs := { s.dregs with queue := s.dregs.queue ++ [y] } } ∧ y.cls = 1 ∧ y.code = 0x90 ∧
      y.source = 5 ∧ y.time = fabCopy s ∧ y.est = !epochRuns s ∧ y.repeats = 0 ∧ y.software = false :=
  ⟨_, dregsOfferRec_queued _ h, rfl, rfl, rfl, rfl, rfl, rfl, rfl⟩

/-- An offer changes the queue alone: the log changes only where its queue is taken from. -/
theorem dregsOfferRec_slots (s : State) (r : DRec) : (dregsOfferRec s r).dregs.slots = s.dregs.slots := by
  have lost (t : State) (x : DRec) : (dregsQLost t x).dregs.slots = t.dregs.slots := by
    rw [dregsQLost, dregsLost_dregs, bumpF_dregs]
  unfold dregsOfferRec
  dsimp only
  split
  · rfl
  · split
    · split
      · exact lost _ _
      · split
        · exact lost _ _
        · exact lost _ _
    · exact lost _ _

/-- Settles O48: `dregsTake` by its cases, the slots released by `freeSlots_freed` and `freeSlots_others`. -/
theorem dregsLog : Obligations.DregsLog := by
  intro s c q v r x m rest head fill front found n oldest kept good offered
  have byId := noteField_byId [F.DREGS_STAT_HEAD, F.DREGS_STAT_FILL]
  refine ⟨fun hq hf => ?_, fun hq hf hm hx hr => ?_, fun hq hf hm hr => ?_, fun hq hf hm hr hr' hx hc => ?_,
    fun hr hf => ?_, fun hr => ?_, fun hg => ?_, fun hg => ?_⟩
  · have hfill : (slotTaken (unqueued s rest) r).fl F.DREGS_STAT_FILL 0 = fill s + 1 := by
      rw [slotTaken, State.fl_setF_same]
      exact Nat.mod_eq_of_lt (show fill s + 1 < 2 ^ 11 by omega)
    have hhead : (slotTaken (unqueued s rest) r).fl F.DREGS_STAT_HEAD 0 = (head s + 1) % 1024 := by
      rw [slotTaken, State.fl_setF_id _ _ _ _ (by decide), State.fl_setF_same]
      exact Nat.mod_eq_of_lt (Nat.mod_lt _ (by omega))
    have own : logSlot (slotTaken (unqueued s rest) r) (head s) = some r :=
      (logSlot_congr (s := setLogSlot (unqueued s rest) (head s) (some r)) rfl _).trans (logSlot_setLogSlot _ _ rfl)
    have others (i : Nat) (hi : i % 1024 ≠ head s % 1024) : logSlot (slotTaken (unqueued s rest) r) i = logSlot s i :=
      (logSlot_congr (s := setLogSlot (unqueued s rest) (head s) (some r)) rfl i).trans
        (logSlot_setLogSlot_ne (unqueued s rest) _ (Ne.symm hi))
    have fields : FieldsKept (noteField [F.DREGS_STAT_HEAD, F.DREGS_STAT_FILL]) s (slotTaken (unqueued s rest) r) :=
      ((FieldsKept.of_flds rfl).setF byId 0 _ rfl).setF byId 0 _ rfl
    by_cases full : fill s + 1 = 896
    · refine gives_of (eventTake_front hq) ((dregsTake_takes (s := unqueued s rest) hf).trans (if_pos full)) ?_
      have told := raiseSource_frame (slotTaken (unqueued s rest) r) 237
      have same := raiseSource_dregs (slotTaken (unqueued s rest) r) 237
      exact ⟨congrArg Dregs.queue same, (logSlot_congr (congrArg Dregs.slots same) _).trans own,
        (told.fl _ _ rfl).trans hhead, (told.fl _ _ rfl).trans hfill, fun _ => signalled_raiseSource fields 237 rfl rfl,
        ⟨raiseSource_mem _ _, raiseSource_cpus _ _⟩,
        fun i hi => (logSlot_congr (congrArg Dregs.slots same) i).trans (others i hi)⟩
    · exact gives_of (eventTake_front hq) ((dregsTake_takes (s := unqueued s rest) hf).trans (if_neg full))
        ⟨rfl, own, hhead, hfill, fun h => absurd (congrArg (· + 1) h) full, ⟨rfl, rfl⟩, others⟩
  · exact gives_of (eventTake_front hq) (dregsTake_merges (s := unqueued s rest) hf hm hx hr)
      ⟨rfl, logSlot_setLogSlot _ _ rfl, rfl, rfl, rfl⟩
  · have e : dregsTake (unqueued s rest) r = dregsLost (unqueued s rest) r.cls r.time := by
      rw [dregsTake_unmatched (s := unqueued s rest) hf hm, if_neg, if_neg]
      · show ¬ r.cls = 2
        omega
      · have h3 : decide (r.cls = clsFatal) = false := decide_eq_false (show ¬ r.cls = 3 by omega)
        have h4 : decide (r.cls = clsSafety) = false := decide_eq_false (show ¬ r.cls = 4 by omega)
        rw [h3, h4]
        decide
    have side := dregsLost_side (unqueued s rest) r.cls r.time
    have same := dregsLost_dregs (unqueued s rest) r.cls r.time
    exact gives_of (eventTake_front hq) e ⟨congrArg Dregs.queue same, (congrArg Dregs.slots same :),
      side.fl _ _ rfl,
      side.fl _ _ rfl, dregsLost_last _ _ _, fun h => dregsLost_begins (s := unqueued s rest) h _, side.mem, side.cpus⟩
  · have e : ∃ warn, dregsTake (unqueued s rest) r = dregsReplace (unqueued s rest) r warn := by
      have hf' : 1024 ≤ (unqueued s rest).fl F.DREGS_STAT_FILL 0 := Nat.le_of_eq hf.symm
      rw [dregsTake_unmatched hf' hm]
      split
      · exact ⟨true, rfl⟩
      · next h =>
        refine ⟨false, if_pos ?_⟩
        rw [Bool.or_eq_true, not_or, decide_eq_true_iff, decide_eq_true_iff] at h
        have h3 : ¬ r.cls = 3 := h.1
        have h4 : ¬ r.cls = 4 := h.2
        show r.cls = 2
        omega
    obtain ⟨warn, e⟩ := e
    have side := dregsLost_side (unqueued s rest) 0 x.time
    exact gives_of (eventTake_front hq) (e.trans (dregsReplace_info (s := unqueued s rest) hx hc))
      ⟨congrArg Dregs.queue (dregsLost_dregs (unqueued s rest) 0 x.time),
        (logSlot_matchPut _ _ _ _).trans (logSlot_setLogSlot _ _ (Nat.mod_mod _ _)),
        side.fl F.DREGS_STAT_HEAD 0 rfl, side.fl F.DREGS_STAT_FILL 0 rfl, dregsLost_last _ _ _, side.mem, side.cpus⟩
  · have hn : n ≤ 1024 := Nat.le_trans (Nat.min_le_right _ _) hf
    have e : dregsReleaseWrite s (.full q 0xE00001008 v) =
        (freeSlots s oldest n).setF F.DREGS_STAT_FILL 0 (fill s - n) := by
      rw [dregsReleaseWrite, atRing0_of (w := .full q 0xE00001008 v) hr, Wr.bits_full]
    obtain ⟨d, hd⟩ := freeSlots_rest s oldest n
    have slots (i : Nat) : logSlot ((freeSlots s oldest n).setF F.DREGS_STAT_FILL 0 (fill s - n)) i =
        logSlot (freeSlots s oldest n) i := rfl
    have hhead : (freeSlots s oldest n).fl F.DREGS_STAT_HEAD 0 = head s := by rw [hd]; rfl
    refine gives_of rfl e ⟨?_, (State.fl_setF_id _ _ _ _ (by decide)).trans hhead, ⟨by rw [hd]; rfl, by rw [hd]; rfl⟩,
      fun k y hk hy => freeSlots_freed s oldest hk y hy, fun k hk hlt => ?_⟩
    · exact (State.fl_setF_same _ _ _ _).trans (Nat.mod_eq_of_lt (show fill s - n < 2 ^ 11 by omega))
    · refine (slots _).trans (freeSlots_others s fun j hj => ?_)
      omega
  · have side := ignoreWarn_side (s := s) [] (.full q 0xE00001008 v)
    refine gives_of rfl (atRing0_ignored (w := .full q 0xE00001008 v) hr _) ⟨side.fl _ _ rfl, ?_, side.mem, side.cpus⟩
    exact dregsOfferRec_slots s _
  · obtain ⟨hr, hcls, hcode⟩ := hg
    intro hq
    have e : dregsSubmitWrite s (.full (.core c) 0xE00001010 v) =
        dregsOfferRec s { time := fabCopy s, source := 0xF00 + c.val, cls := bitsOf v F.DREGS_SUBMIT_CLASS, code := bitsOf v F.DREGS_SUBMIT_CODE,
                          detail := bitsOf v F.DREGS_SUBMIT_DETAIL, est := !epochRuns s, software := true } := by
      simp only [dregsSubmitWrite, Wr.q_full, Wr.bits_full]
      exact if_pos (by simp [hr, hcls, hcode])
    exact gives_of rfl (e.trans (dregsOfferRec_queued _ hq)) ⟨rfl, ⟨rfl, rfl⟩, _, rfl, rfl, rfl, rfl, rfl, rfl, rfl, rfl, fun _ => rfl⟩
  · intro hq
    have e : dregsSubmitWrite s (.full (.core c) 0xE00001010 v) = ignoreWarn s (.full (.core c) 0xE00001010 v) := by
      simp only [dregsSubmitWrite, Wr.q_full, Wr.bits_full]
      exact if_neg (by simpa [good, and_assoc] using hg)
    obtain ⟨y, hy, cls, code, source, time, est, repeats, software⟩ := ignoreWarn_queued (.full (.core c) 0xE00001010 v) hq
    refine gives_of rfl (e.trans hy) ⟨rfl, ⟨rfl, rfl⟩, y, rfl, cls, code, source, time, est, repeats, software, fun h => ?_⟩
    cases h

end Sys2Proof.Machine
end

section
/-! ### What stays pending while a command goes on, and what a trigger does -/

namespace Sys2Proof.Machine

/-- Every source that is pending stays pending. -/
def PendingStays (s t : State) : Prop := ∀ m, s.fb F.IC_SRC_PENDING m = true → t.fb F.IC_SRC_PENDING m = true

namespace PendingStays
variable {s t u : State}

theorem refl (s : State) : PendingStays s s := fun _ h => h

theorem trans (h : PendingStays s t) (h' : PendingStays t u) : PendingStays s u := fun m hm => h' m (h m hm)

theorem of_kept {k : Fld → Bool} (h : FieldsKept k s t) (hk : k F.IC_SRC_PENDING = false) : PendingStays s t :=
  fun m hm => (h.fb _ m hk).trans hm

theorem of_flds (h : t.flds = s.flds) : PendingStays s t := .of_kept (k := fun _ => false) (.of_flds h) rfl

theorem setF (h : PendingStays s t) (f : Fld) (i v : Nat) (hf : f.id ≠ F.IC_SRC_PENDING.id) : PendingStays s (t.setF f i v) :=
  h.trans fun m hm => (State.fb_setF_id t i m v hf).trans hm

theorem bumpF (h : PendingStays s t) (f : Fld) (i : Nat) (hf : f.id ≠ F.IC_SRC_PENDING.id) : PendingStays s (t.bumpF f i) := by
  unfold State.bumpF
  dsimp only
  split
  · exact h.setF f i _ hf
  · exact h

theorem raise (h : PendingStays s t) (n : Nat) : PendingStays s (raiseSource t n) :=
  h.trans fun _ hm => raiseSource_staysPending n hm

theorem ite {c : Prop} [Decidable c] (ht : PendingStays s t) (hu : PendingStays s u) : PendingStays s (if c then t else u) := by
  split
  · exact ht
  · exact hu

end PendingStays

variable {s t u : State}

/-- What the controller has learnt of, it keeps while other events come. -/
theorem signalled_stays {n : Nat} (h : signalled s t n) (h' : PendingStays t u) : signalled s u n :=
  fun edge prio => h' n (h edge prio)

/-- What is signalled where the registers of the sources are still those of `s`. -/
theorem signalled_since {n : Nat} {k : Fld → Bool} (h : FieldsKept k s t) (he : k F.IC_SRC_EDGE = false)
    (hp : k F.IC_SRC_PRIO = false) (h' : signalled t u n) : signalled s u n :=
  fun edge prio => h' ((h.fb _ n he).trans edge) (by rwa [h _ n hp])

theorem dregsQLost_pendingStays (s : State) (r : DRec) : PendingStays s (dregsQLost s r) := by
  have counted := PendingStays.bumpF (.refl s) F.DREGS_STAT_QLOST 0 (by decide)
  have first := PendingStays.ite (c := (s.bumpF F.DREGS_STAT_QLOST 0).fl F.DREGS_LOST_COUNT r.cls = 0)
    (counted.setF F.DREGS_LOSTF_FIRST r.cls r.time (by decide)) counted
  have last := (first.bumpF F.DREGS_LOST_COUNT r.cls (by decide)).setF F.DREGS_LOSTL_LAST r.cls r.time (by decide)
  exact .ite (last.raise 238) last

theorem dregs_pendingStays (s : State) (source cls code detail : Nat) : PendingStays s (dregs s source cls code detail) := by
  have queued (q : List DRec) : PendingStays s { s with dregs := { s.dregs with queue := q } } := .of_flds rfl
  unfold dregs dregsOfferRec
  dsimp only
  split
  · exact queued _
  · split
    · split
      · exact (queued _).trans (dregsQLost_pendingStays _ _)
      · split
        · exact (queued _).trans (dregsQLost_pendingStays _ _)
        · exact dregsQLost_pendingStays s _
    · exact dregsQLost_pendingStays s _

theorem dregsFree_pendingStays (s : State) (source cls code : Nat) : PendingStays s (dregsFree s source cls code) :=
  .trans (t := { s with free := s.free + 1 }) (.of_flds rfl) (dregs_pendingStays _ source cls code _)

theorem superEvent_pendingStays (s : State) (code : Nat) : PendingStays s (superEvent s code) :=
  .of_kept (superEvent_trip (fun _ => false) s code).fl rfl

theorem steepBegin_pendingStays (s : State) (mode step : Nat) : PendingStays s (steepBegin s mode step) := by
  have started : PendingStays s (steepStart s mode step false) :=
    (((PendingStays.refl s).setF _ 0 mode (by decide)).setF _ 0 step (by decide)).trans (.of_flds rfl)
  exact .ite ((started.setF F.KT_STEEPSTAT_STATE 0 5 (by decide)).trans (dregsFree_pendingStays _ _ _ _)) started

theorem holdSafe_pendingStays (s : State) : PendingStays s (holdSafe s) :=
  have held := (((PendingStays.refl s).setF F.KT_SAFECTL_HELD 0 _ (by decide)).raise 233).trans (superEvent_pendingStays _ 5)
  .ite (.refl s) (.ite (held.trans (steepBegin_pendingStays _ _ _)) held)

theorem raiseTrigger_pendingStays (s : State) (b : Nat) (level : Bool) : PendingStays s (raiseTrigger s b level) := by
  have raised : PendingStays s ((s.setBit F.KT_TRIGSTAT_RAISED 0 b true).setBit F.KT_TRIGSTAT_HIST 0 b true) :=
    ((PendingStays.refl s).setF _ 0 _ (by decide)).setF _ 0 _ (by decide)
  have held (detail : Nat) := ((raised.trans (dregs_pendingStays _ 0 clsSafety (0x10 + b) detail)).setF F.KT_SAFECTL_ARMED 0
    (b2n false) (by decide)).trans (holdSafe_pendingStays _)
  exact .ite (.refl s) (.ite (held _) ((held _).setF _ 0 _ (by decide)))

/-! #### Bits of a field -/

theorem testBit_withBit_false (n k : Nat) : (withBit n k false).testBit k = false := by
  unfold withBit
  split
  · assumption
  · rename_i h
    have set : n.testBit k = true := by simpa using h
    have split : n = 2 ^ k + (n - 2 ^ k) := by have := Nat.ge_two_pow_of_testBit set; omega
    have := Nat.testBit_two_pow_add_eq (n - 2 ^ k) k
    rw [← split, set] at this
    simpa using this.symm

theorem bitAt_setBit (s : State) (f : Fld) (i : Nat) {k : Nat} (b : Bool) (hk : k < f.width) :
    bitAt ((s.setBit f i k b).fl f i) k = b := by
  cases b
  · simp [bitAt, State.setBit, Nat.testBit_mod_two_pow, testBit_withBit_false]
  · exact bitAt_setBit_true s f i k hk

namespace TripFrame
variable {k : Fld → Bool} {s t : State}

theorem warm (h : TripFrame k s t) : t.warm = s.warm := by
  rw [← h.rest]

theorem ket (h : TripFrame k s t) : t.ket = s.ket := by
  rw [← h.rest]

end TripFrame

/-! #### HELD, and the history of the triggers (17 R364, R368) -/

theorem steepBegin_held (s : State) (mode step : Nat) :
    (steepBegin s mode step).fb F.KT_SAFECTL_HELD 0 = s.fb F.KT_SAFECTL_HELD 0 := by
  have started : (steepStart s mode step false).fb F.KT_SAFECTL_HELD 0 = s.fb F.KT_SAFECTL_HELD 0 :=
    (State.fb_setF_id _ _ _ _ (by decide)).trans (State.fb_setF_id _ _ _ _ (by decide))
  unfold steepBegin
  dsimp only
  split
  · exact ((dregsFree_trip _ _ _ _).fl.fb _ _ rfl).trans ((State.fb_setF_id _ _ _ _ (by decide)).trans started)
  · exact started

theorem holdSafe_held (s : State) : (holdSafe s).fb F.KT_SAFECTL_HELD 0 = true := by
  have driven : (superEvent (raiseSource (s.setB F.KT_SAFECTL_HELD 0 true) 233) 5).fb F.KT_SAFECTL_HELD 0 = true :=
    ((superEvent_trip (fun _ => false) _ 5).fl.fb _ _ rfl).trans (((raiseSource_trip _ _).fl.fb _ _ rfl).trans
      (State.fb_setB_same s _ 0 true (by decide)))
  unfold holdSafe
  dsimp only
  split
  · assumption
  · split
    · exact (steepBegin_held _ _ _).trans driven
    · exact driven

theorem raiseTrigger_held {b : Nat} {level : Bool} (h : (level && bitAt (s.fl F.KT_TRIGSTAT_RAISED 0) b) = false) :
    (raiseTrigger s b level).fb F.KT_SAFECTL_HELD 0 = true := by
  unfold raiseTrigger
  rw [if_neg (by simp [h])]
  dsimp only
  split
  · exact holdSafe_held _
  · exact (State.fb_setF_id _ _ _ _ (by decide)).trans (holdSafe_held _)

/-- A trigger that is no level stays in the history alone. -/
theorem raiseTrigger_hist (s : State) {b : Nat} (hb : b < F.KT_TRIGSTAT_HIST.width) :
    bitAt ((raiseTrigger s b false).fl F.KT_TRIGSTAT_HIST 0) b = true := by
  unfold raiseTrigger
  simp only [Bool.false_and, Bool.false_eq_true, if_false]
  rw [State.setBit, State.fl_setF_id _ _ _ _ (by decide), (holdSafe_trip _).fl _ _ rfl,
    State.fl_setB_id _ _ _ _ (by decide), fl_dregs _ _ _ _ _ _ rfl]
  exact bitAt_setBit_true _ _ 0 b hb

end Sys2Proof.Machine
end

section
/-! ### The Kettle: safety inputs, joysticks, the watchdog and temperatures (O47) -/

namespace Sys2Proof.Machine

variable {s : State} {q : Requester} {v : Word}

/-! #### Safety inputs (17 R372) -/

/-- Pair `n` with its levels as they come in. -/
def withPair (s : State) (n : Nat) (a b : Bool) : State := (s.setBit F.KT_SINSTAT_A 0 n a).setBit F.KT_SINSTAT_B 0 n b

theorem withPair_a (s : State) {n : Nat} (hn : n < 16) (a b : Bool) : bitAt ((withPair s n a b).fl F.KT_SINSTAT_A 0) n = a := by
  rw [withPair, State.setBit, State.fl_setF_id _ _ _ _ (by decide)]
  exact bitAt_setBit s _ 0 a hn

theorem withPair_b (s : State) {n : Nat} (hn : n < 16) (a b : Bool) : bitAt ((withPair s n a b).fl F.KT_SINSTAT_B 0) n = b :=
  bitAt_setBit _ _ 0 b hn

theorem withPair_breaks (s : State) {n : Nat} (hn : n < 16) (a b : Bool) :
    pairBreaks (withPair s n a b) n = if s.fb F.KT_SINCFG_ANTI n = true then a == b else a != b := by
  have anti : (withPair s n a b).fb F.KT_SINCFG_ANTI n = s.fb F.KT_SINCFG_ANTI n :=
    (State.fb_setF_id _ _ _ _ (by decide)).trans (State.fb_setF_id _ _ _ _ (by decide))
  simp [pairBreaks, withPair_a s hn, withPair_b s hn, anti]

theorem settleSafeInputs_trip (s : State) : TripFrame trigField s (settleSafeInputs s) :=
  .ite (clearTrigger_trip s 7) (.refl _ s)

theorem settleSafeInputs_cpus (s : State) : (settleSafeInputs s).cpus = s.cpus := by
  unfold settleSafeInputs
  split <;> rfl

/-- What a refresh shows of a pair: whether it breaks, and RAISED ends once it does not. -/
theorem refreshPair_shows (s : State) {n : Nat} (hn : n < 16) :
    let t := refreshPair s n
    t.fl F.KT_SINSTAT_A 0 = s.fl F.KT_SINSTAT_A 0 ∧ t.fl F.KT_SINSTAT_B 0 = s.fl F.KT_SINSTAT_B 0 ∧
      bitAt (t.fl F.KT_SINSTAT_DISC 0) n = pairBreaks s n ∧
      (pairBreaks s n = false → bitAt (t.fl F.KT_SINSTAT_RAISED 0) n = false) ∧ t.mem = s.mem ∧ t.cpus = s.cpus := by
  intro t
  have shown : bitAt ((s.setBit F.KT_SINSTAT_DISC 0 n (pairBreaks s n)).fl F.KT_SINSTAT_DISC 0) n = pairBreaks s n :=
    bitAt_setBit s _ 0 _ hn
  have settled (u : State) := settleSafeInputs_trip u
  by_cases h : (pairBreaks s n && (s.setBit F.KT_SINSTAT_DISC 0 n (pairBreaks s n)).fb F.KT_SINCFG_EN n) = true
  · have e : t = settleSafeInputs (s.setBit F.KT_SINSTAT_DISC 0 n (pairBreaks s n)) := congrArg settleSafeInputs (if_pos h)
    rw [e, (settled _).fl _ _ rfl, (settled _).fl _ _ rfl, (settled _).fl _ _ rfl, (settled _).mem, settleSafeInputs_cpus]
    refine ⟨State.fl_setF_id _ _ _ _ (by decide), State.fl_setF_id _ _ _ _ (by decide), shown, fun hb => ?_, rfl, rfl⟩
    simp [hb] at h
  · have e : t = settleSafeInputs ((s.setBit F.KT_SINSTAT_DISC 0 n (pairBreaks s n)).setBit F.KT_SINSTAT_RAISED 0 n false) :=
      congrArg settleSafeInputs (if_neg h)
    rw [e, (settled _).fl _ _ rfl, (settled _).fl _ _ rfl, (settled _).fl _ _ rfl, (settled _).fl _ _ rfl, (settled _).mem,
      settleSafeInputs_cpus]
    refine ⟨?_, ?_, ?_, fun _ => bitAt_setBit _ _ 0 false hn, rfl, rfl⟩
    · exact (State.fl_setF_id _ _ _ _ (by decide)).trans (State.fl_setF_id _ _ _ _ (by decide))
    · exact (State.fl_setF_id _ _ _ _ (by decide)).trans (State.fl_setF_id _ _ _ _ (by decide))
    · rw [State.setBit, State.fl_setF_id _ _ _ _ (by decide)]
      exact shown

theorem safeInputDiscrepancy_gives (s : State) (n : Fin 16) (he : s.fb F.KT_SINCFG_EN n.val = true)
    (hb : pairBreaks s n.val = true) (hr : bitAt (s.fl F.KT_SINSTAT_RAISED 0) n.val = false) :
    Gives (.safeInputDiscrepancy n) s fun t => bitAt (t.fl F.KT_SINSTAT_RAISED 0) n.val = true ∧ signalled s t 235 ∧
      bitAt (t.fl F.KT_TRIGSTAT_RAISED 0) 7 = true ∧
      (bitAt (s.fl F.KT_TRIGSTAT_RAISED 0) 7 = false → t.fb F.KT_SAFECTL_HELD 0 = true) := by
  let noted := s.setBit F.KT_SINSTAT_RAISED 0 n.val true
  let told := dregsFree (raiseSource noted 235) (0x10 + n.val) clsSafety 0x70
  have kept : FieldsKept dregsField noted told :=
    .trans ((raiseSource_trip noted 235).fl.weaken icField_of_dregsField) (dregsFree_trip _ _ _ _).fl
  have source : FieldsKept (fun f => f.id == F.KT_SINSTAT_RAISED.id) s noted :=
    .setF (.of_flds rfl) (fun f g h => by simp only [h]) 0 _ rfl
  have told235 : signalled s told 235 := signalled_stays (signalled_raiseSource source 235 rfl rfl) (dregsFree_pendingStays _ _ _ _)
  refine gives_of rfl (if_pos (by simp [he, hb, hr])) ⟨?_, ?_, raiseTrigger_raised _ 7 (by decide), fun h7 => ?_⟩
  · rw [(raiseTrigger_trip told 7 true).fl _ _ rfl, kept _ _ rfl]
    exact bitAt_setBit_true s _ 0 _ n.isLt
  · exact signalled_stays told235 (raiseTrigger_pendingStays told 7 true)
  · refine raiseTrigger_held (s := told) ?_
    rw [kept _ _ rfl, source _ _ rfl, h7]
    rfl

/-! #### The watchdog (17 R375) -/

/-- The fields of an expiry. -/
def expiryField (f : Fld) : Bool := trigField f || [F.KT_WDKICK_EXPIRED, F.KT_WDKICK_ELAPSED].any fun g => g.id == f.id

theorem expiryField_byId : ById expiryField := fun f g h => by simp only [expiryField, trigField_byId f g h, h]

theorem trigField_of_expiryField (f : Fld) (h : expiryField f = false) : trigField f = false := (Bool.or_eq_false_iff.mp h).1

/-- The expiry without the reset that RSTEN asks for. -/
def wdExpired (s : State) : State :=
  (dregsFree (raiseTrigger (s.setB F.KT_WDKICK_EXPIRED 0 true) 0 false) 0x30 clsSafety 0x73).setF F.KT_WDKICK_ELAPSED 0 0

theorem wdExpired_trip (s : State) : TripFrame expiryField s (wdExpired s) :=
  have raised := ((TripFrame.refl _ s).setF expiryField_byId (f := F.KT_WDKICK_EXPIRED) 0 _ rfl).trans
    ((raiseTrigger_trip _ 0 false).weaken trigField_of_expiryField)
  (raised.trans ((dregsFree_trip _ _ _ _).weaken fun f hf =>
    dregsField_of_holdField f (holdField_of_trigField f (trigField_of_expiryField f hf)))).setF expiryField_byId 0 0 rfl

theorem wdExpired_shows (s : State) : (wdExpired s).fb F.KT_WDKICK_EXPIRED 0 = true ∧ (wdExpired s).fl F.KT_WDKICK_ELAPSED 0 = 0 ∧
    bitAt ((wdExpired s).fl F.KT_TRIGSTAT_HIST 0) 0 = true ∧ (wdExpired s).fb F.KT_SAFECTL_HELD 0 = true := by
  have noted (t : State) := dregsFree_trip t 0x30 clsSafety 0x73
  refine ⟨?_, State.fl_setF_same _ _ _ _, ?_, ?_⟩
  · rw [wdExpired, State.fb_setF_id _ _ _ _ (by decide), (noted _).fl.fb _ _ rfl, (raiseTrigger_trip _ _ _).fl.fb _ _ rfl]
    exact State.fb_setB_same s _ 0 true (by decide)
  · rw [wdExpired, State.fl_setF_id _ _ _ _ (by decide), (noted _).fl _ _ rfl]
    exact raiseTrigger_hist _ (by decide)
  · rw [wdExpired, State.fb_setF_id _ _ _ _ (by decide), (noted _).fl.fb _ _ rfl]
    exact raiseTrigger_held rfl

theorem wdExpire_eq (s : State) :
    wdExpire s = if s.fb F.KT_WDCFG_RSTEN 0 = true then warmStart (wdExpired s) 3 0 else wdExpired s := by
  rw [← (wdExpired_trip s).fl.fb _ _ rfl]
  rfl

/-- With RSTEN the expiry is a warm cause (03 R61, R62). -/
theorem wdExpire_resets (hr : s.fb F.KT_WDCFG_RSTEN 0 = true) (hs : supplied s) (ha : s.warm.active = false)
    (hc : s.fb F.KT_SUPPLY_CARRIED 0 = false) :
    (wdExpire s).warm.active = true ∧ (wdExpire s).fl F.KT_RSTCAUSE_LAST 0 = 3 ∧
      (wdExpire s).fb F.KT_SAFECTL_HELD 0 = true := by
  have trip := wdExpired_trip s
  have alive : supplied (wdExpired s) := by rwa [supplied, trip.sup]
  have idle : (wdExpired s).warm.active = false := by rw [trip.warm, ha]
  have h := warmStart_begins (kind := 3) 0 (by decide) alive idle ((trip.fl.fb _ _ rfl).trans hc)
  have held := warmNoted_held (noteCause (wdExpired s) 3)
  rw [wdExpire_eq, if_pos hr]
  generalize warmStart (wdExpired s) 3 0 = t at h
  generalize warmNoted (noteCause (wdExpired s) 3) = w at h held
  rw [h.warm, h.fl _ _ rfl, h.fb _ _ rfl]
  exact ⟨rfl, State.fl_setF_same w _ 0 3, (State.fb_setF_id w (f := F.KT_RSTCAUSE_LAST) 0 0 3 (by decide)).trans held⟩

/-- KT_WDKICK clears EXPIRED where the write has a 1, before the key counts. -/
theorem putField_expired (s : State) (q : Requester) (off : Nat) (v : Word) :
    putField s (.full q off v) F.KT_WDKICK_EXPIRED 0 0 =
      s.setF F.KT_WDKICK_EXPIRED 0 (s.fl F.KT_WDKICK_EXPIRED 0 &&& (1 - b2n (v.getLsbD 40))) := by
  rw [putField, Wr.touches_full q off v _ (by decide), Wr.bits_full, bitsOf_one_bit v rfl]
  rfl

theorem wdkickWrite_eq (hr : isRing0 s q = true) (hon : s.fb F.KT_WDCFG_EN 0 = true) (off : Nat) :
    wdkickWrite s (.full q off v) =
      let t := putField s (.full q off v) F.KT_WDKICK_EXPIRED 0 0
      if v.toNat % 65536 = 0 then t
      else if v.toNat % 65536 = 0x574B ∧ s.fl F.KT_WDCFG_WMIN 0 ≤ s.fl F.KT_WDKICK_ELAPSED 0 then t.setF F.KT_WDKICK_ELAPSED 0 0
      else wdExpire t := by
  have key : (Wr.full q off v).bits F.KT_WDKICK_KEY = v.toNat % 65536 := by
    simp [Wr.bits_full, bitsOf, F.KT_WDKICK_KEY, Fld.width]
  have same {f : Fld} (hf : F.KT_WDKICK_EXPIRED.id ≠ f.id) (x : Nat) : (s.setF F.KT_WDKICK_EXPIRED 0 x).fl f 0 = s.fl f 0 :=
    State.fl_setF_id s 0 0 x hf
  unfold wdkickWrite
  rw [atRing0_of (by exact hr)]
  dsimp only
  rw [key, putField_expired, same (by decide), same (by decide), State.fb, same (by decide)]
  have on : (s.fl F.KT_WDCFG_EN 0 % 2 == 1) = true := hon
  simp [beq_iff_eq.mp on]

/-! #### Temperatures (17 R369) -/

/-- No supervisory event that is pending at a core is lost. -/
def EventsStay (s t : State) : Prop :=
  ∀ (c : Fin 16) (k : Nat), (s.cpu (.core c)).supPend.getLsbD k = true → (t.cpu (.core c)).supPend.getLsbD k = true

namespace EventsStay
variable {s t u : State}

theorem of_cpus (h : t.cpus = s.cpus) : EventsStay s t := fun c k hk => by rwa [State.cpu, h]

theorem refl (s : State) : EventsStay s s := fun _ _ h => h

theorem trans (h : EventsStay s t) (h' : EventsStay t u) : EventsStay s u := fun c k hk => h' c k (h c k hk)

theorem setF (h : EventsStay s t) (f : Fld) (i v : Nat) : EventsStay s (t.setF f i v) := h.trans (.of_cpus rfl)

theorem ite {c : Prop} [Decidable c] (ht : EventsStay s t) (hu : EventsStay s u) : EventsStay s (if c then t else u) := by
  split
  · exact ht
  · exact hu

end EventsStay

/-- A supervisory event of one core. -/
def superOne (code : Nat) (s : State) (c : Nat) : State :=
  if s.dom c ≤ 1 then
    s.setCpu (.core (Fin.ofNat 16 c)) { s.cpu (.core (Fin.ofNat 16 c)) with
      supPend := (s.cpu (.core (Fin.ofNat 16 c))).supPend ||| (1#5 <<< (code - 1)) }
  else s

theorem superEvent_eq (s : State) (code : Nat) : superEvent s code = coreList.foldl (superOne code) s := rfl

theorem superOne_dom (code : Nat) (s : State) (c d : Nat) : (superOne code s c).dom d = s.dom d := by
  unfold superOne
  split <;> rfl

theorem superOne_eventsStay (code : Nat) (s : State) (c : Nat) : EventsStay s (superOne code s c) := by
  refine .ite (fun d k hk => ?_) (.of_cpus rfl)
  by_cases h : Proc.core d = .core (Fin.ofNat 16 c)
  · rw [← h, State.cpu_setCpu_same]
    simp [hk]
  · rwa [State.cpu_setCpu_ne _ _ h]

theorem superEvent_eventsStay (s : State) (code : Nat) : EventsStay s (superEvent s code) := by
  rw [superEvent_eq]
  generalize coreList = l
  induction l generalizing s with
  | nil => exact .of_cpus rfl
  | cons c l ih => exact .trans (superOne_eventsStay code s c) (ih _)

/-- Every core that is on learns of the event (08 R184). -/
theorem superEvent_tells (s : State) {code : Nat} (hc : code - 1 < 5) (c : Fin 16) (hd : s.dom c.val ≤ 1) :
    ((superEvent s code).cpu (.core c)).supPend.getLsbD (code - 1) = true := by
  let told (t : State) (d : Nat) : Prop :=
    t.dom d ≤ 1 → (t.cpu (.core (Fin.ofNat 16 d))).supPend.getLsbD (code - 1) = true
  have own (t : State) (d : Nat) : told (superOne code t d) d := by
    intro h
    rw [superOne_dom] at h
    rw [superOne, if_pos h, State.cpu_setCpu_same]
    simp [hc]
  have keep (t : State) (d e : Nat) (h : told t e) : told (superOne code t d) e := fun he =>
    superOne_eventsStay code t d _ _ (h (by rwa [superOne_dom] at he))
  have mem : c.val ∈ coreList := List.mem_range.mpr c.isLt
  have dom : (superEvent s code).dom c.val ≤ 1 := by
    rw [State.dom, (superEvent_trip (fun _ => false) s code).fl _ _ rfl]
    exact hd
  have := foldl_settles own keep mem s dom
  rwa [show Fin.ofNat 16 c.val = c from Fin.ext (Nat.mod_eq_of_lt c.isLt)] at this

theorem dregs_eventsStay (s : State) (source cls code detail : Nat) : EventsStay s (dregs s source cls code detail) :=
  .of_cpus (dregs_side [] s source cls code detail).cpus

theorem steepBegin_eventsStay (s : State) (mode step : Nat) : EventsStay s (steepBegin s mode step) := by
  obtain ⟨x, h⟩ := steepBegin_side s mode step
  exact .of_cpus h.cpus

theorem holdSafe_eventsStay (s : State) : EventsStay s (holdSafe s) :=
  have driven : EventsStay s (raiseSource (s.setB F.KT_SAFECTL_HELD 0 true) 233) :=
    ((EventsStay.refl s).setF _ 0 _).trans (.of_cpus (raiseSource_frame _ 233).cpus)
  have held := driven.trans (superEvent_eventsStay _ 5)
  .ite (.refl s) (.ite (held.trans (steepBegin_eventsStay _ _ _)) held)

theorem raiseTrigger_eventsStay (s : State) (b : Nat) (level : Bool) : EventsStay s (raiseTrigger s b level) := by
  have raised : EventsStay s ((s.setBit F.KT_TRIGSTAT_RAISED 0 b true).setBit F.KT_TRIGSTAT_HIST 0 b true) :=
    ((EventsStay.refl s).setF _ 0 _).setF _ 0 _
  have held (detail : Nat) := ((raised.trans (dregs_eventsStay _ 0 clsSafety (0x10 + b) detail)).setF F.KT_SAFECTL_ARMED 0
    (b2n false)).trans (holdSafe_eventsStay _)
  exact .ite (.refl s) (.ite (held _) ((held _).setF _ 0 _))

theorem eight_of_length {ts : List Byte} (h : ts.length = 8) (s : State) : eight s ts = ts := by
  refine List.ext_getElem (by simp [eight, h]) fun n h1 h2 => ?_
  simp [eight, List.getElem?_eq_getElem h2]

theorem eight_nil (h : s.ket.temps.length = 8) : eight s [] = s.ket.temps := by
  refine List.ext_getElem (by simp [eight, h]) fun n h1 h2 => ?_
  simp [eight, List.getElem?_eq_getElem h2]

/-- The greatest of the degrees, where all are at most `h` and one is `h`. -/
theorem foldl_max_degrees {h : Int} : ∀ (l : List Byte) (m : Int), m ≤ h → (∀ b ∈ l, b.toInt ≤ h) → (m = h ∨ ∃ b ∈ l, b.toInt = h) →
    l.foldl (fun m b => max m (degrees b)) m = h
  | [], m, _, _, hx => by simpa using hx
  | b :: l, m, hm, hl, hx => by
    have hb : b.toInt ≤ h := hl b (by simp)
    refine foldl_max_degrees l _ (max_le hm hb) (fun x hx => hl x (List.mem_cons_of_mem _ hx)) ?_
    rcases hx with hx | ⟨x, hx, e⟩
    · exact .inl (by simp only [degrees]; omega)
    · rcases List.mem_cons.mp hx with rfl | hx
      · exact .inl (by simp only [degrees]; omega)
      · exact .inr ⟨x, hx, e⟩

theorem hottest_takeTemps {ts : List Byte} {h : Int} (hl : ts.length = 8) (hall : ∀ t ∈ ts, t.toInt ≤ h)
    (hex : ∃ t ∈ ts, t.toInt = h) : hottest (takeTemps s ts) = h ∧
      (takeTemps s ts).fl F.KT_TEMP_HOT 0 = (BitVec.ofInt 8 h).toNat := by
  have least : (-128 : Int) ≤ h := by
    obtain ⟨b, -, rfl⟩ := hex
    have := BitVec.le_toInt b
    simpa using this
  have of_temps (t : State) (ht : t.ket.temps = ts) : hottest t = h := by
    rw [hottest, eight_nil (by rw [ht, hl]), ht]
    exact foldl_max_degrees ts _ least hall (.inr hex)
  have held : ({ s with ket := { s.ket with temps := eight s ts } } : State).ket.temps = ts := eight_of_length hl s
  refine ⟨of_temps _ held, ?_⟩
  rw [takeTemps, State.fl_setF_same, of_temps _ held]
  exact Nat.mod_eq_of_lt (BitVec.isLt _)

/-- The warning of a sample within ten degrees of the trip point. -/
def tempWarn (s : State) (detail : Nat) : State :=
  if tripPoint s - 10 ≤ hottest s then
    (if s.ket.tempWarned then s
     else dregs (superEvent { s with ket := { s.ket with tempWarned := true } } 4) 0x50 clsWarn 0x77 detail)
  else if hottest s < tripPoint s - 15 then { s with ket := { s.ket with tempWarned := false } } else s

/-- A sample below the trip point, the `cool`th in a row that is cool: the trigger ends with the second. -/
def tempCooled (s : State) (cool : Nat) : State :=
  let t := { s with ket := { s.ket with tempHot := false, tempCool := min cool 2 } }
  if 2 ≤ cool then clearTrigger t 5 else t

/-- The trigger of a second sample at the trip point, and its end once two samples are cool. -/
def tempTrip (s : State) (hot trip : Int) (detail : Nat) : State :=
  if trip ≤ hot then
    let t := { s with ket := { s.ket with tempHot := true, tempCool := 0 } }
    if s.ket.tempHot && !bitAt (s.fl F.KT_TRIGSTAT_RAISED 0) 5 then
      raiseTrigger (dregs t 0x50 clsSafety 0x76 detail) 5 true else t
  else tempCooled s (if hot < trip - 5 then s.ket.tempCool + 1 else 0)

theorem temperatureSample_eq (s : State) (ts : List Byte) :
    temperatureSample s ts =
      let t := takeTemps s ts
      tempTrip (tempWarn t (bytesNat (eight t []))) (hottest t) (tripPoint t) (bytesNat (eight t [])) := rfl

/-- What the warning leaves alone. -/
theorem tempWarn_kept (s : State) (detail : Nat) :
    FieldsKept dregsField s (tempWarn s detail) ∧ (tempWarn s detail).ket.tempHot = s.ket.tempHot ∧
      (tempWarn s detail).ket.tempCool = s.ket.tempCool ∧ (tempWarn s detail).mem = s.mem := by
  have warned := (superEvent_trip dregsField { s with ket := { s.ket with tempWarned := true } } 4).trans
    (dregs_trip (superEvent { s with ket := { s.ket with tempWarned := true } } 4) 0x50 clsWarn 0x77 detail)
  unfold tempWarn
  split
  · split
    · exact ⟨.of_flds rfl, rfl, rfl, rfl⟩
    · exact ⟨fun f i hf => (warned.fl f i hf).trans rfl, by rw [warned.ket], by rw [warned.ket], warned.mem⟩
  · split <;> exact ⟨.of_flds rfl, rfl, rfl, rfl⟩

theorem tempWarn_tells (detail : Nat) (hw : tripPoint s - 10 ≤ hottest s) (ht : s.ket.tempWarned = false) (c : Fin 16)
    (hd : s.dom c.val ≤ 1) : ((tempWarn s detail).cpu (.core c)).supPend.getLsbD 3 = true := by
  have e : tempWarn s detail =
      dregs (superEvent { s with ket := { s.ket with tempWarned := true } } 4) 0x50 clsWarn 0x77 detail := by
    rw [tempWarn, if_pos hw, if_neg (by simp [ht])]
  rw [e]
  exact dregs_eventsStay _ _ _ _ _ c 3 (superEvent_tells _ (code := 4) (by decide) c hd)

theorem tempCooled_side (s : State) (cool : Nat) :
    FieldsKept trigField s (tempCooled s cool) ∧ (tempCooled s cool).mem = s.mem ∧ (tempCooled s cool).cpus = s.cpus ∧
      (tempCooled s cool).ket.tempHot = false := by
  have same : FieldsKept trigField s { s with ket := { s.ket with tempHot := false, tempCool := min cool 2 } } := .of_flds rfl
  unfold tempCooled
  dsimp only
  split
  · exact ⟨same.trans (clearTrigger_trip _ 5).fl, rfl, rfl, rfl⟩
  · exact ⟨same, rfl, rfl, rfl⟩

theorem tempCooled_ends {cool : Nat} (h : 2 ≤ cool) : bitAt ((tempCooled s cool).fl F.KT_TRIGSTAT_RAISED 0) 5 = false := by
  rw [tempCooled, if_pos h]
  exact bitAt_setBit _ _ 0 false (by decide)

theorem tempTrip_side (s : State) (hot trip : Int) (detail : Nat) :
    FieldsKept trigField s (tempTrip s hot trip detail) ∧ (tempTrip s hot trip detail).mem = s.mem ∧
      EventsStay s (tempTrip s hot trip detail) := by
  unfold tempTrip
  dsimp only
  split
  · split
    · have raised (u : State) := (dregs_trip_trig u 0x50 clsSafety 0x76 detail).trans (raiseTrigger_trip _ 5 true)
      have events (u : State) := (dregs_eventsStay u 0x50 clsSafety 0x76 detail).trans (raiseTrigger_eventsStay _ 5 true)
      exact ⟨.trans (.of_flds rfl) (raised { s with ket := { s.ket with tempHot := true, tempCool := 0 } }).fl,
        (raised _).mem, .trans (.of_cpus rfl) (events { s with ket := { s.ket with tempHot := true, tempCool := 0 } })⟩
    · exact ⟨.of_flds rfl, rfl, .of_cpus rfl⟩
  · obtain ⟨kept, mem, cpus, -⟩ := tempCooled_side s (if hot < trip - 5 then s.ket.tempCool + 1 else 0)
    exact ⟨kept, mem, .of_cpus cpus⟩

theorem tempTrip_hot {hot trip : Int} (detail : Nat) (h : trip ≤ hot) :
    (tempTrip s hot trip detail).ket.tempHot = true ∧
      (s.ket.tempHot = true → bitAt ((tempTrip s hot trip detail).fl F.KT_TRIGSTAT_RAISED 0) 5 = true ∧
        (bitAt (s.fl F.KT_TRIGSTAT_RAISED 0) 5 = false → (tempTrip s hot trip detail).fb F.KT_SAFECTL_HELD 0 = true)) := by
  rw [tempTrip, if_pos h]
  dsimp only
  split
  case isTrue hs =>
    refine ⟨?_, fun _ => ⟨raiseTrigger_raised _ 5 (by decide), fun hr => raiseTrigger_held ?_⟩⟩
    · rw [(raiseTrigger_trip _ _ _).ket, (dregs_trip _ _ _ _ _).ket]
    · rw [fl_dregs _ _ _ _ _ _ rfl]
      exact hr
  case isFalse hs =>
    refine ⟨rfl, fun hh => ?_⟩
    have raised : bitAt (s.fl F.KT_TRIGSTAT_RAISED 0) 5 = true := by simpa [hh] using hs
    exact ⟨raised, fun hr => absurd raised (by simp [hr])⟩

theorem tempTrip_cool {hot trip : Int} (detail : Nat) (h : hot < trip) :
    (tempTrip s hot trip detail).ket.tempHot = false ∧
      (hot < trip - 5 → 1 ≤ s.ket.tempCool → bitAt ((tempTrip s hot trip detail).fl F.KT_TRIGSTAT_RAISED 0) 5 = false) := by
  rw [tempTrip, if_neg (by omega)]
  exact ⟨(tempCooled_side s _).2.2.2, fun hc h1 => tempCooled_ends (by rw [if_pos hc]; omega)⟩

/-! #### Joysticks (17 R373, R374) -/

/-- What an input's samples show. -/
def joyFields : List Fld := [F.KT_JOYVAL_A, F.KT_JOYVAL_B, F.KT_JOYVAL_POS, F.KT_JOYVAL_VALID, F.KT_JOYVAL_RAISED]

/-- What the samples of other inputs leave of input `j`. -/
structure JoyApart (j : Nat) (s t : State) : Prop where
  fl : FieldsKept (noteField joyFields) s t
  own : ∀ f ∈ joyFields, t.fl f j = s.fl f j
  held : t.ket.joyHeld.getLsbD j = s.ket.joyHeld.getLsbD j
  reported : t.ket.joyReported.getLsbD j = s.ket.joyReported.getLsbD j
  pending : PendingStays s t

namespace JoyApart
variable {j k : Nat} {s t u : State}

theorem refl (j : Nat) (s : State) : JoyApart j s s := ⟨.of_flds rfl, fun _ _ => rfl, rfl, rfl, .refl s⟩

theorem trans (h : JoyApart j s t) (h' : JoyApart j t u) : JoyApart j s u :=
  ⟨h.fl.trans h'.fl, fun f hf => (h'.own f hf).trans (h.own f hf), h'.held.trans h.held, h'.reported.trans h.reported,
    h.pending.trans h'.pending⟩

/-- A field of another input is set. -/
theorem setF (h : JoyApart j s t) (hk : k % 4096 ≠ j % 4096) {f : Fld} (v : Nat) (hf : f ∈ joyFields) :
    JoyApart j s (t.setF f k v) := by
  have field : noteField joyFields f = true := by
    rw [noteField, Bool.or_eq_true_iff, List.any_eq_true]
    exact .inr ⟨f, hf, by simp⟩
  have pend : f.id ≠ F.IC_SRC_PENDING.id := by
    simp only [joyFields, List.mem_cons, List.not_mem_nil, or_false] at hf
    rcases hf with rfl | rfl | rfl | rfl | rfl <;> decide
  refine ⟨h.fl.setF (noteField_byId _) k v field, fun g hg => ?_, h.held, h.reported, h.pending.setF f k v pend⟩
  by_cases e : f.id = g.id
  · rw [← h.own g hg]
    have : f = g := List.inj_on_of_nodup_map (l := joyFields) (by decide) hf hg e
    subst this
    exact State.fl_setF_ix t f v hk
  · exact (State.fl_setF_id t k j v e).trans (h.own g hg)

/-- What the Kettle keeps of the inputs changes for another one. -/
theorem ket (h : JoyApart j s t) {x : Kettle} (hh : x.joyHeld.getLsbD j = t.ket.joyHeld.getLsbD j)
    (hr : x.joyReported.getLsbD j = t.ket.joyReported.getLsbD j) : JoyApart j s { t with ket := x } :=
  ⟨h.fl, h.own, hh.trans h.held, hr.trans h.reported, h.pending⟩

theorem of_side (h : SideFrame (noteField []) s t) (hp : PendingStays s t) : JoyApart j s t := by
  have hk : t.ket = s.ket := by have e := congrArg State.ket h.rest; exact e
  refine ⟨h.fl.weaken (noteField_of_subset (by simp)), fun f hf => h.fl f j ?_, by rw [hk], by rw [hk], hp⟩
  simp only [joyFields, List.mem_cons, List.not_mem_nil, or_false] at hf
  rcases hf with rfl | rfl | rfl | rfl | rfl <;> rfl

end JoyApart

/-- The second reading of an input as the cross-check compares it, and whether a pair of readings is in range and agrees. -/
def joyOther (s : State) (j : Nat) (b : BitVec 12) : Nat := if s.fb F.KT_JOYCFG_MIRROR j then 4095 - b.toNat else b.toNat
def joyOut (s : State) (j : Nat) (a b : BitVec 12) : Bool :=
  a.toNat < s.fl F.KT_JOYCFG_LO j || s.fl F.KT_JOYCFG_HI j < a.toNat || b.toNat < s.fl F.KT_JOYCFG_LO j ||
    s.fl F.KT_JOYCFG_HI j < b.toNat
def joyApart (s : State) (j : Nat) (a b : BitVec 12) : Bool :=
  s.fl F.KT_JOYCFG_WIN j < (a.toNat - joyOther s j b) + (joyOther s j b - a.toNat)

/-- The readings of input `j` as they are shown. -/
def joyRead (s : State) (j : Nat) (a b : BitVec 12) : State :=
  ((s.setF F.KT_JOYVAL_A j a.toNat).setF F.KT_JOYVAL_B j b.toNat).setB F.KT_JOYVAL_VALID j true

/-- A sample that fails is counted, and one that is to be told of. -/
def joyFailed (s : State) (j : Nat) : State :=
  { s with ket := { s.ket with joyFail := mset 0 s.ket.joyFail j (mget 0 s.ket.joyFail j + 1), joyPass := mset 0 s.ket.joyPass j 0 } }
def joyTold (s : State) (j : Nat) : State :=
  { s with ket := { s.ket with joyHeld := s.ket.joyHeld ||| (1#8 <<< j), joyReported := s.ket.joyReported ||| (1#8 <<< j) } }

/-- A sample that fails. -/
def joyFail (s : State) (j code : Nat) : State :=
  if s.fb F.KT_JOYCFG_EN j && joyFilt s j ≤ mget 0 s.ket.joyFail j + 1 && !s.ket.joyReported.getLsbD j then
    dregsFree (raiseSource (joyTold (joyFailed s j) j) 236) (0x20 + j) clsSafety code
  else joyFailed s j

theorem joyFail_kept (s : State) (j code : Nat) : FieldsKept (noteField []) s (joyFail s j code) := by
  have told : FieldsKept (noteField []) s (joyTold (joyFailed s j) j) := .of_flds rfl
  unfold joyFail
  split
  · exact told.trans ((raiseSource_side [] _ 236).trans (dregsFree_side [] _ _ _ _)).fl
  · exact .of_flds rfl

/-- A sample that passes. -/
def joyPassed (s : State) (j pos : Nat) : State :=
  let run := mget 0 s.ket.joyPass j + 1
  { s.setF F.KT_JOYVAL_POS j pos with
    ket := { s.ket with
      joyFail := mset 0 s.ket.joyFail j 0
      joyPass := mset 0 s.ket.joyPass j (min run 255)
      joyHeld := if joyFilt s j ≤ run then s.ket.joyHeld &&& ~~~(1#8 <<< j) else s.ket.joyHeld
      joyReported := s.ket.joyReported &&& ~~~(1#8 <<< j) } }

theorem joyOne_eq (s : State) (j : Nat) (a b : BitVec 12) :
    joyOne s j a b = if joyOut s j a b || joyApart s j a b then joyFail (joyRead s j a b) j (if joyOut s j a b then 0x72 else 0x71)
      else joyPassed (joyRead s j a b) j ((a.toNat + joyOther s j b) / 2) := rfl

/-- The sample agrees within the window exactly when neither reading is further from the other. -/
theorem joy_passes_iff (s : State) (j : Nat) (a b : BitVec 12) :
    (joyOut s j a b || joyApart s j a b) = false ↔
      s.fl F.KT_JOYCFG_LO j ≤ a.toNat ∧ a.toNat ≤ s.fl F.KT_JOYCFG_HI j ∧ s.fl F.KT_JOYCFG_LO j ≤ b.toNat ∧
        b.toNat ≤ s.fl F.KT_JOYCFG_HI j ∧ a.toNat ≤ joyOther s j b + s.fl F.KT_JOYCFG_WIN j ∧
        joyOther s j b ≤ a.toNat + s.fl F.KT_JOYCFG_WIN j := by
  simp only [joyOut, joyApart, Bool.or_eq_false_iff, decide_eq_false_iff_not, not_lt]
  omega

theorem joyBit_getLsbD {j k : Nat} (hj : j < 8) : (1#8 <<< k).getLsbD j = decide (j = k) := by
  simp only [BitVec.getLsbD_shiftLeft, BitVec.getLsbD_one, hj, decide_true, Bool.true_and]
  by_cases h : j < k
  · simp [h, Nat.ne_of_lt h]
  · simp only [h, decide_false, Bool.not_false, Bool.true_and, show (0 : Nat) < 8 by decide, decide_true]
    exact decide_eq_decide.mpr (by omega)

/-- A sample of another input leaves input `j` alone. -/
theorem joyOne_apart {j k : Nat} (hj : j < 8) (hk : k < 8) (h : k ≠ j) (s : State) (a b : BitVec 12) :
    JoyApart j s (joyOne s k a b) := by
  have apart : k % 4096 ≠ j % 4096 := by omega
  have bit : (1#8 <<< k).getLsbD j = false := by rw [joyBit_getLsbD hj, decide_eq_false (Ne.symm h)]
  have read : JoyApart j s (joyRead s k a b) :=
    (((JoyApart.refl j s).setF apart _ (by simp [joyFields])).setF apart _ (by simp [joyFields])).setF apart _ (by simp [joyFields])
  have failed : JoyApart j s (joyFailed (joyRead s k a b) k) := read.ket rfl rfl
  rw [joyOne_eq]
  split
  · unfold joyFail
    split
    · have told : JoyApart j s (joyTold (joyFailed (joyRead s k a b) k) k) :=
        failed.ket (by simp [bit]) (by simp [bit])
      refine told.trans (.of_side ((raiseSource_side [] _ 236).trans (dregsFree_side [] _ _ _ _)) ?_)
      exact .trans (.raise (.refl _) 236) (dregsFree_pendingStays _ _ _ _)
    · exact failed
  · have shown := read.setF apart (f := F.KT_JOYVAL_POS) ((a.toNat + joyOther s k b) / 2) (by simp [joyFields])
    refine shown.ket ?_ ?_
    · dsimp only
      split
      · rw [BitVec.getLsbD_and, BitVec.getLsbD_not, bit]
        simp [hj]
      · rfl
    · rw [BitVec.getLsbD_and, BitVec.getLsbD_not, bit]
      simp [hj]

/-- What a sample shows of its own input. -/
theorem joyOne_shows {j : Nat} (s : State) (a b : BitVec 12) :
    let t := joyOne s j a b
    t.fl F.KT_JOYVAL_A j = a.toNat ∧ t.fl F.KT_JOYVAL_B j = b.toNat ∧ t.fb F.KT_JOYVAL_VALID j = true ∧
      t.fl F.KT_JOYVAL_POS j = if joyOut s j a b || joyApart s j a b then s.fl F.KT_JOYVAL_POS j
        else (a.toNat + joyOther s j b) / 2 := by
  intro t
  have readA : (joyRead s j a b).fl F.KT_JOYVAL_A j = a.toNat := by
    rw [joyRead, State.fl_setB_id _ _ _ _ (by decide), State.fl_setF_id _ _ _ _ (by decide), State.fl_setF_same]
    exact Nat.mod_eq_of_lt a.isLt
  have readB : (joyRead s j a b).fl F.KT_JOYVAL_B j = b.toNat := by
    rw [joyRead, State.fl_setB_id _ _ _ _ (by decide), State.fl_setF_same]
    exact Nat.mod_eq_of_lt b.isLt
  have valid : (joyRead s j a b).fb F.KT_JOYVAL_VALID j = true := State.fb_setB_same _ _ j true (by decide)
  have pos : (joyRead s j a b).fl F.KT_JOYVAL_POS j = s.fl F.KT_JOYVAL_POS j := by
    rw [joyRead, State.fl_setB_id _ _ _ _ (by decide), State.fl_setF_id _ _ _ _ (by decide), State.fl_setF_id _ _ _ _ (by decide)]
  by_cases h : (joyOut s j a b || joyApart s j a b) = true
  · have e : t = joyFail (joyRead s j a b) j (if joyOut s j a b then 0x72 else 0x71) := (joyOne_eq s j a b).trans (if_pos h)
    have kept (code : Nat) := joyFail_kept (joyRead s j a b) j code
    rw [e, kept _ _ _ rfl, kept _ _ _ rfl, kept _ _ _ rfl, (kept _).fb _ _ rfl, if_pos h]
    exact ⟨readA, readB, valid, pos⟩
  · have e : t = joyPassed (joyRead s j a b) j ((a.toNat + joyOther s j b) / 2) := (joyOne_eq s j a b).trans (if_neg h)
    have other : joyOther s j b < 4096 := by
      have := b.isLt
      unfold joyOther
      split <;> omega
    have half : (a.toNat + joyOther s j b) / 2 % 4096 = (a.toNat + joyOther s j b) / 2 := by have := a.isLt; omega
    rw [e, if_neg h]
    refine ⟨?_, ?_, ?_, (State.fl_setF_same (joyRead s j a b) _ _ _).trans half⟩
    · exact (State.fl_setF_id (joyRead s j a b) (f := F.KT_JOYVAL_POS) _ _ _ (by decide)).trans readA
    · exact (State.fl_setF_id (joyRead s j a b) (f := F.KT_JOYVAL_POS) _ _ _ (by decide)).trans readB
    · exact (State.fb_setF_id (joyRead s j a b) (f := F.KT_JOYVAL_POS) _ _ _ (by decide)).trans valid

theorem joyOne_kept (s : State) (j : Nat) (a b : BitVec 12) : FieldsKept (noteField joyFields) s (joyOne s j a b) := by
  have byId := noteField_byId joyFields
  have read : FieldsKept (noteField joyFields) s (joyRead s j a b) :=
    .setF (.setF (.setF (.of_flds rfl) byId (f := F.KT_JOYVAL_A) j _ rfl) byId (f := F.KT_JOYVAL_B) j _ rfl) byId
      (f := F.KT_JOYVAL_VALID) j _ rfl
  have passed : FieldsKept (noteField joyFields) (joyRead s j a b)
      (joyPassed (joyRead s j a b) j ((a.toNat + joyOther s j b) / 2)) :=
    .trans (.setF (.of_flds rfl) byId (f := F.KT_JOYVAL_POS) j _ rfl) (.of_flds rfl)
  rw [joyOne_eq]
  exact .ite (read.trans ((joyFail_kept _ j _).weaken (noteField_of_subset (by simp)))) (read.trans passed)

/-- A first failure of an enabled input without a filter holds it at once, and is told of. -/
theorem joyOne_reports {j : Nat} (hj : j < 8) (s : State) (a b : BitVec 12) (hf : (joyOut s j a b || joyApart s j a b) = true)
    (he : s.fb F.KT_JOYCFG_EN j = true) (hx : s.fl F.KT_JOYCFG_FILT j ≤ 1) (hr : s.ket.joyReported.getLsbD j = false) :
    (joyOne s j a b).ket.joyHeld.getLsbD j = true ∧ signalled s (joyOne s j a b) 236 := by
  have read {f : Fld} (hf : noteField joyFields f = false) (i : Nat) : (joyRead s j a b).fl f i = s.fl f i :=
    have byId := noteField_byId joyFields
    FieldsKept.setF (.setF (.setF (.of_flds rfl) byId (f := F.KT_JOYVAL_A) j _ rfl) byId (f := F.KT_JOYVAL_B) j _ rfl)
      byId (f := F.KT_JOYVAL_VALID) j _ rfl f i hf
  have told : joyFail (joyRead s j a b) j (if joyOut s j a b then 0x72 else 0x71) =
      dregsFree (raiseSource (joyTold (joyFailed (joyRead s j a b) j) j) 236) (0x20 + j) clsSafety
        (if joyOut s j a b then 0x72 else 0x71) := by
    refine if_pos ?_
    have en : (joyRead s j a b).fb F.KT_JOYCFG_EN j = true := (congrArg (· % 2 == 1) (read rfl j)).trans he
    have filt : joyFilt (joyRead s j a b) j ≤ mget 0 (joyRead s j a b).ket.joyFail j + 1 := by
      rw [joyFilt, read rfl]
      omega
    have fresh : (joyRead s j a b).ket.joyReported.getLsbD j = false := hr
    simp [en, filt, fresh]
  rw [joyOne_eq, if_pos hf, told]
  generalize hu : joyTold (joyFailed (joyRead s j a b) j) j = u
  have held : u.ket.joyHeld.getLsbD j = true := by
    subst hu
    simp [joyTold, joyBit_getLsbD hj]
  have side := (raiseSource_side [] u 236).trans (dregsFree_side [] _ (0x20 + j) clsSafety (if joyOut s j a b then 0x72 else 0x71))
  have ket : (dregsFree (raiseSource u 236) (0x20 + j) clsSafety (if joyOut s j a b then 0x72 else 0x71)).ket = u.ket := by
    have e := congrArg State.ket side.rest
    exact e
  refine ⟨by rw [ket, held], signalled_stays (signalled_raiseSource (k := noteField joyFields) ?_ 236 rfl rfl)
    (dregsFree_pendingStays _ _ _ _)⟩
  subst hu
  exact fun f i hf => read hf i

theorem joyAll_beyond {j : Nat} (hj : j < 8) : ∀ (x : List (BitVec 12 × BitVec 12)) (s : State) (k : Nat), j < k →
    JoyApart j s (joyAll s k x)
  | [], s, _, _ => .refl j s
  | (a, b) :: x, s, k, hk => by
    rw [joyAll]
    split
    case isTrue h8 => exact (joyOne_apart hj h8 (by omega) s a b).trans (joyAll_beyond hj x _ _ (by omega))
    case isFalse => exact .refl j s

/-- The sample of input `j` is taken between those of the others. -/
theorem joyAll_at {j : Nat} (hj : j < 8) {u w : BitVec 12} : ∀ (x : List (BitVec 12 × BitVec 12)) (s : State) (k : Nat), k ≤ j →
    x[j - k]? = some (u, w) → ∃ t, JoyApart j s t ∧ JoyApart j (joyOne t j u w) (joyAll s k x)
  | [], _, _, _, hx => by simp at hx
  | (a, b) :: x, s, k, hk, hx => by
    rw [joyAll, if_pos (by omega)]
    by_cases e : k = j
    · subst e
      simp only [Nat.sub_self, List.getElem?_cons_zero, Option.some.injEq, Prod.mk.injEq] at hx
      obtain ⟨rfl, rfl⟩ := hx
      exact ⟨s, .refl k s, joyAll_beyond hj x _ _ (Nat.lt_succ_self k)⟩
    · have next : x[j - (k + 1)]? = some (u, w) := by
        rw [← hx, show j - k = (j - (k + 1)) + 1 by omega, List.getElem?_cons_succ]
      obtain ⟨t, before, after⟩ := joyAll_at hj x (joyOne s k a b) (k + 1) (by omega) next
      exact ⟨t, (joyOne_apart hj (by omega) e s a b).trans before, after⟩

/-- What each step settles of its own element, and no step of the list unsettles, holds of every element in the end. -/
theorem foldl_settles_of_mem {α : Type} {P : State → α → Prop} {step : State → α → State} {l : List α}
    (own : ∀ t, ∀ a ∈ l, P (step t a) a) (keep : ∀ t, ∀ a ∈ l, ∀ b ∈ l, P t b → P (step t a) b) {a : α} (ha : a ∈ l) (t : State) :
    P (l.foldl step t) a := by
  have settled (k : List α) (hk : k ⊆ l) (t : State) (h : P t a) : P (k.foldl step t) a := by
    induction k generalizing t with
    | nil => exact h
    | cons b k ih => exact ih (List.subset_of_cons_subset hk) _ (keep t b (hk (by simp)) a ha h)
  have reached (k : List α) (hk : k ⊆ l) (t : State) (hm : a ∈ k) : P (k.foldl step t) a := by
    induction k generalizing t with
    | nil => cases hm
    | cons b k ih =>
      have rest := List.subset_of_cons_subset hk
      rcases List.mem_cons.mp hm with rfl | hm
      · exact settled k rest _ (own t _ ha)
      · exact ih rest _ hm
  exact reached l (List.Subset.refl l) t ha

/-- RAISED of one input, from its own registers. -/
def joyRaise (s : State) (j : Nat) : State :=
  s.setB F.KT_JOYVAL_RAISED j (s.fb F.KT_JOYCFG_EN j && (!s.fb F.KT_JOYVAL_VALID j || s.ket.joyHeld.getLsbD j))

def joyRaiseAll (s : State) : State := (List.range 8).foldl joyRaise s

theorem settleJoy_eq (s : State) : settleJoy s =
    let t := joyRaiseAll s
    if (List.range 8).any fun j => t.fb F.KT_JOYVAL_RAISED j then raiseTrigger t 6 true
    else if (List.range 8).all fun j => !t.fb F.KT_JOYCFG_EN j || joyFilt t j ≤ mget 0 t.ket.joyPass j then clearTrigger t 6
    else t := rfl

theorem joyRaiseAll_kept (s : State) : FieldsKept (fun f => f.id == F.KT_JOYVAL_RAISED.id) s (joyRaiseAll s) := by
  have one (l : List Nat) (t : State) (h : FieldsKept (fun f => f.id == F.KT_JOYVAL_RAISED.id) s t) :
      FieldsKept (fun f => f.id == F.KT_JOYVAL_RAISED.id) s (l.foldl joyRaise t) := by
    induction l generalizing t with
    | nil => exact h
    | cons j l ih => exact ih _ (h.setF (fun f g e => by simp only [e]) j _ rfl)
  exact one _ s (.of_flds rfl)

theorem joyRaise_ket (s : State) (j : Nat) : (joyRaise s j).ket = s.ket := rfl

/-- An enabled input that is held shows RAISED. -/
theorem joyRaiseAll_raises {j : Nat} (hj : j < 8) (he : s.fb F.KT_JOYCFG_EN j = true) (hh : s.ket.joyHeld.getLsbD j = true) :
    (joyRaiseAll s).fb F.KT_JOYVAL_RAISED j = true := by
  let raised (t : State) (i : Nat) : Prop :=
    t.fb F.KT_JOYCFG_EN i = true → t.ket.joyHeld.getLsbD i = true → t.fb F.KT_JOYVAL_RAISED i = true
  have before {t : State} {i k : Nat} (he : (joyRaise t i).fb F.KT_JOYCFG_EN k = true) : t.fb F.KT_JOYCFG_EN k = true :=
    (State.fb_setB_id _ _ _ _ (by decide)).symm.trans he
  have own (t : State) (i : Nat) (_ : i ∈ List.range 8) : raised (joyRaise t i) i := fun he hh => by
    have hh' : t.ket.joyHeld.getLsbD i = true := hh
    rw [joyRaise, State.fb_setB_same _ _ _ _ (by decide)]
    simp only [before he, hh', Bool.or_true, Bool.and_true]
  have keep (t : State) (i : Nat) (hi : i ∈ List.range 8) (k : Nat) (hk : k ∈ List.range 8) (h : raised t k) :
      raised (joyRaise t i) k := fun he hh => by
    by_cases e : i = k
    · subst e
      exact own t i hi he hh
    · have apart : i % 4096 ≠ k % 4096 := by have := List.mem_range.mp hi; have := List.mem_range.mp hk; omega
      rw [State.fb, joyRaise, State.setB, State.fl_setF_ix _ _ _ apart]
      exact h (before he) hh
  have ket : (joyRaiseAll s).ket = s.ket := foldl_keeps State.ket joyRaise_ket _ s
  have holds : raised (joyRaiseAll s) j := foldl_settles_of_mem own keep (List.mem_range.mpr hj) s
  exact holds (((joyRaiseAll_kept s).fb _ _ rfl).trans he) (by rw [ket, hh])

/-- What settling the inputs leaves: their readings. -/
theorem settleJoy_kept {f : Fld} (i : Nat) (ht : trigField f = false) (hf : f.id ≠ F.KT_JOYVAL_RAISED.id) :
    (settleJoy s).fl f i = s.fl f i := by
  have own : (joyRaiseAll s).fl f i = s.fl f i := joyRaiseAll_kept s f i (by simpa using hf)
  rw [settleJoy_eq]
  dsimp only
  split
  · exact ((raiseTrigger_trip _ 6 true).fl _ _ ht).trans own
  · split
    · exact ((clearTrigger_trip _ 6).fl _ _ ht).trans own
    · exact own

/-- An input that is held raises its trigger. -/
theorem settleJoy_raises {j : Nat} (hj : j < 8) (he : s.fb F.KT_JOYCFG_EN j = true) (hh : s.ket.joyHeld.getLsbD j = true) :
    (settleJoy s).fb F.KT_JOYVAL_RAISED j = true ∧ bitAt ((settleJoy s).fl F.KT_TRIGSTAT_RAISED 0) 6 = true ∧
      PendingStays s (settleJoy s) := by
  have raised := joyRaiseAll_raises hj he hh
  have any : ((List.range 8).any fun j => (joyRaiseAll s).fb F.KT_JOYVAL_RAISED j) = true :=
    List.any_eq_true.mpr ⟨j, List.mem_range.mpr hj, raised⟩
  rw [settleJoy_eq]
  dsimp only
  rw [if_pos any]
  exact ⟨((raiseTrigger_trip _ 6 true).fl.fb _ _ rfl).trans raised, raiseTrigger_raised _ 6 (by decide),
    .trans (.of_kept (joyRaiseAll_kept s) rfl) (raiseTrigger_pendingStays _ 6 true)⟩

/-- The cross-check reads the input's configuration alone. -/
theorem joyCheck_congr {t : State} {j : Nat} (h : FieldsKept (noteField joyFields) s t) (a b : BitVec 12) :
    joyOut t j a b = joyOut s j a b ∧ joyApart t j a b = joyApart s j a b ∧ joyOther t j b = joyOther s j b := by
  have other : joyOther t j b = joyOther s j b := by rw [joyOther, joyOther, h.fb _ _ rfl]
  exact ⟨by rw [joyOut, joyOut, h _ _ rfl, h _ _ rfl], by rw [joyApart, joyApart, other, h _ _ rfl], other⟩

theorem joystickSample_gives {x : List (BitVec 12 × BitVec 12)} {j : Fin 8} {u w : BitVec 12}
    (hpg : bitAt (s.fl F.KT_SUPPLY_PG 0) 1 = true) (hx : x[j.val]? = some (u, w)) :
    Gives (.joystickSample x) s fun t => t.fl F.KT_JOYVAL_A j.val = u.toNat ∧ t.fl F.KT_JOYVAL_B j.val = w.toNat ∧
      t.fb F.KT_JOYVAL_VALID j.val = true ∧
      t.fl F.KT_JOYVAL_POS j.val = (if joyOut s j.val u w || joyApart s j.val u w then s.fl F.KT_JOYVAL_POS j.val
        else (u.toNat + joyOther s j.val w) / 2) ∧
      ((joyOut s j.val u w || joyApart s j.val u w) = true → s.fb F.KT_JOYCFG_EN j.val = true → s.fl F.KT_JOYCFG_FILT j.val ≤ 1 →
        s.ket.joyReported.getLsbD j.val = false → t.fb F.KT_JOYVAL_RAISED j.val = true ∧
        bitAt (t.fl F.KT_TRIGSTAT_RAISED 0) 6 = true ∧ signalled s t 236) := by
  obtain ⟨m, before, after⟩ := joyAll_at j.isLt x s 0 (Nat.zero_le _) hx
  obtain ⟨shownA, shownB, valid, pos⟩ := joyOne_shows m (j := j.val) u w
  obtain ⟨out, apart, other⟩ := joyCheck_congr (j := j.val) before.fl u w
  rw [out, apart, other, before.own _ (by simp [joyFields])] at pos
  have same {f : Fld} (hf : f ∈ joyFields) (ht : trigField f = false) (hr : f.id ≠ F.KT_JOYVAL_RAISED.id) :
      (settleJoy (joyAll s 0 x)).fl f j.val = (joyOne m j.val u w).fl f j.val :=
    (settleJoy_kept _ ht hr).trans (after.own f hf)
  refine gives_of rfl (if_pos hpg) ⟨(same (by simp [joyFields]) rfl (by decide)).trans shownA,
    (same (by simp [joyFields]) rfl (by decide)).trans shownB,
    (congrArg (· % 2 == 1) (same (f := F.KT_JOYVAL_VALID) (by simp [joyFields]) rfl (by decide))).trans valid,
    (same (by simp [joyFields]) rfl (by decide)).trans pos, fun hfail he hx hr => ?_⟩
  have filt : m.fl F.KT_JOYCFG_FILT j.val ≤ 1 := by rwa [before.fl _ _ rfl]
  obtain ⟨held, told⟩ := joyOne_reports j.isLt m u w (by rwa [out, apart]) ((before.fl.fb _ _ rfl).trans he) filt
    (before.reported.trans hr)
  have en : (joyAll s 0 x).fb F.KT_JOYCFG_EN j.val = true :=
    (after.fl.fb _ _ rfl).trans (((joyOne_kept m j.val u w).fb _ _ rfl).trans ((before.fl.fb _ _ rfl).trans he))
  obtain ⟨raised, trigger, stays⟩ := settleJoy_raises j.isLt en (after.held.trans held)
  exact ⟨raised, trigger, signalled_stays (signalled_stays (signalled_since before.fl rfl rfl told) after.pending) stays⟩

/-- Settles O47: safety inputs (`refreshPair_shows`), joysticks (`joyAll_at`, `settleJoy_raises`), the watchdog
(`wdExpired_shows`, `wdExpire_resets`) and temperatures (`tempWarn`, `tempTrip`). -/
theorem safetyInputs : Obligations.SafetyInputs := by
  intro s q v n a b x j u w temps h c raised hist held differs pair bp lo hi passes elapsed tmo on expires key early trip hottestIs
  have expired {t : State} (cmd : Instr) (he : exec cmd s = .next (wdExpire t))
      (rst : t.fb F.KT_WDCFG_RSTEN 0 = s.fb F.KT_WDCFG_RSTEN 0) (carried : t.fb F.KT_SUPPLY_CARRIED 0 = s.fb F.KT_SUPPLY_CARRIED 0)
      (sup : t.sup = s.sup) (warm : t.warm = s.warm) (mem : t.mem = s.mem) : expires cmd := by
    refine ⟨fun hr => ?_, fun hr hs ha hc => ?_⟩
    · obtain ⟨shown, zero, told, safe⟩ := wdExpired_shows t
      have side := wdExpired_trip t
      have e : wdExpire t = wdExpired t := (wdExpire_eq t).trans (if_neg (by simp [rst, hr]))
      exact gives_of he e ⟨shown, zero, told, safe, side.warm.trans warm, side.mem.trans mem⟩
    · exact gives_of he rfl (wdExpire_resets (rst.trans hr) (by rwa [supplied, sup]) (by rw [warm, ha]) (carried.trans hc))
  refine ⟨?_, safeInputDiscrepancy_gives s n, fun hpg hx => ?_, fun hr hon hk he => ?_, fun hr hon hk0 hk => ?_, fun hr => ?_,
    fun hon => ?_, fun hon => ?_, fun hh => ?_⟩
  · obtain ⟨sa, sb, disc, calm, mem, cpus⟩ := refreshPair_shows (withPair s n.val a b) n.isLt
    rw [withPair_breaks s n.isLt] at disc calm
    exact gives_of rfl rfl ⟨(congrArg (bitAt · n.val) sa).trans (withPair_a s n.isLt a b),
      (congrArg (bitAt · n.val) sb).trans (withPair_b s n.isLt a b), disc, calm, mem, cpus⟩
  · have passes_iff := joy_passes_iff s j.val u w
    have fails : ¬ passes ↔ (joyOut s j.val u w || joyApart s j.val u w) = true := by
      rw [← Bool.not_eq_false]
      exact not_congr passes_iff.symm
    obtain ⟨t, e, shownA, shownB, valid, pos, reports⟩ := joystickSample_gives hpg hx
    refine ⟨t, e, shownA, shownB, valid, fun hp => ?_, fun hp => ?_, fun hp => reports (fails.mp hp)⟩
    · rw [pos, passes_iff.mpr hp]
      rfl
    · rw [pos, fails.mp hp]
      rfl
  · obtain ⟨hkey, hearly⟩ := And.intro hk (Nat.le_of_not_lt he)
    have e := (wdkickWrite_eq hr hon 0xE00000808 (v := v)).trans
      ((if_neg (show v.toNat % 65536 ≠ 0 by simp only [key] at hkey; omega)).trans (if_pos ⟨hkey, hearly⟩))
    refine gives_of rfl e ?_
    rw [putField_expired]
    refine ⟨State.fl_setF_same _ _ _ _, ?_, rfl, rfl⟩
    rw [State.fb_setF_id _ _ _ _ (by decide), State.fb, State.fl_setF_same, State.fb]
    cases v.getLsbD 40 <;> simp [b2n, F.KT_WDKICK_EXPIRED, Fld.width]
  · have e := (wdkickWrite_eq hr hon 0xE00000808 (v := v)).trans ((if_neg hk0).trans (if_neg (fun h => ?_)))
    · have put := putField_expired s q 0xE00000808 v
      refine expired _ (congrArg Host.Outcome.next e) ?_ ?_ ?_ ?_ ?_ <;> rw [put]
      · exact State.fb_setF_id _ _ _ _ (by decide)
      · exact State.fb_setF_id _ _ _ _ (by decide)
      all_goals rfl
    · obtain ⟨hkey, hw⟩ := h
      rcases hk with hk | hk
      · exact hk hkey
      · exact absurd hk (Nat.not_lt.mpr hw)
  · have side := ignoreWarn_side (s := s) [] (.full q 0xE00000808 v)
    exact gives_of rfl (atRing0_ignored hr _) ⟨side.fl _ _ rfl, side.mem, side.cpus⟩
  · have e : exec .watchdogExpiry s = .next (wdExpire s) := congrArg Host.Outcome.next (if_pos hon)
    exact expired .watchdogExpiry e rfl rfl rfl rfl rfl
  · have kept : FieldsKept (fun f => f.id == F.KT_WDKICK_ELAPSED.id) s (s.setF F.KT_WDKICK_ELAPSED 0 (max (elapsed s) (tmo - tmo / 8))) :=
      .setF (.of_flds rfl) (fun f g e => by simp only [e]) 0 _ rfl
    have frame := raiseSource_frame (s.setF F.KT_WDKICK_ELAPSED 0 (max (elapsed s) (tmo - tmo / 8))) 232
    exact gives_of rfl (if_pos hon) ⟨(frame.fl _ _ rfl).trans (State.fl_setF_same s _ 0 _), signalled_raiseSource kept 232 rfl rfl,
      frame.mem, frame.cpus⟩
  · obtain ⟨hl, hall, hex⟩ := hh
    obtain ⟨hot, shown⟩ := hottest_takeTemps (s := s) hl hall hex
    have hotTrip : tripPoint (takeTemps s temps) = trip := by
      unfold tripPoint
      rw [takeTemps, State.fl_setF_id _ _ _ _ (by decide)]
      rfl
    have flKept {f : Fld} (hf : F.KT_TEMP_HOT.id ≠ f.id) (i : Nat) : (takeTemps s temps).fl f i = s.fl f i :=
      State.fl_setF_id _ 0 i _ hf
    generalize hd : bytesNat (eight (takeTemps s temps) []) = detail
    have e : temperatureSample s temps = tempTrip (tempWarn (takeTemps s temps) detail) h trip detail := by
      rw [temperatureSample_eq, ← hd, ← hot, ← hotTrip]
    obtain ⟨warnKept, warnHot, warnCool, warnMem⟩ := tempWarn_kept (takeTemps s temps) detail
    obtain ⟨tripKept, tripMem, tripEvents⟩ := tempTrip_side (tempWarn (takeTemps s temps) detail) h trip detail
    have raisedIs : (tempWarn (takeTemps s temps) detail).fl F.KT_TRIGSTAT_RAISED 0 = s.fl F.KT_TRIGSTAT_RAISED 0 :=
      (warnKept _ _ rfl).trans (flKept (by decide) 0)
    refine gives_of rfl e ⟨(tripKept _ _ rfl).trans ((warnKept _ _ rfl).trans shown), tripMem.trans warnMem, fun ht => ?_, fun ht => ?_,
      fun ht hs => ?_, fun hc h1 => ?_, fun hw hn hd => ?_⟩
    · exact (tempTrip_hot detail ht).1
    · exact (tempTrip_cool detail ht).1
    · have := (tempTrip_hot (s := tempWarn (takeTemps s temps) detail) detail ht).2 (warnHot.trans hs)
      rwa [raisedIs] at this
    · exact (tempTrip_cool detail (by omega)).2 hc (by rw [warnCool]; exact h1)
    · have dom : (takeTemps s temps).dom c.val ≤ 1 := (flKept (f := F.PW_DOM_STATE) (by decide) c.val).trans_le hd
      have warm : tripPoint (takeTemps s temps) - 10 ≤ hottest (takeTemps s temps) := by rwa [hotTrip, hot]
      have first : (takeTemps s temps).ket.tempWarned = false := hn
      exact tripEvents c 3 (tempWarn_tells detail warm first c dom)

end Sys2Proof.Machine
end

section
/-! ### Fabric time: the epoch unit (O43) -/

namespace Sys2Proof.Machine

/-- Epochs run, with a guard, and fabric time holds 2^64, which is beyond the 64 bits of its field. -/
def nowBeyondWidth : State :=
  { flds := [(fkey F.EP_CFG_EN 0, 1), (fkey F.EP_CFG_GUARD 0, 1), (fkey F.EP_NOW_VALUE 0, 2 ^ 64)] }

/-- The guard puts the greater of fabric time and its own instant into EP_NOW, cut to 0. -/
theorem epochGuard_wraps : Gives .epochGuard nowBeyondWidth fun t => t.fl F.EP_NOW_VALUE 0 = 0 := ⟨_, rfl, by decide +kernel⟩

/-- The guard's instant before the first tick: the reset period of 1 ms less 100 ns. -/
theorem guardInstant : tickAt nowBeyondWidth (nowBeyondWidth.fl F.EP_EPOCH_VALUE 0 + 1) -
    nowBeyondWidth.fl F.EP_CFG_GUARD 0 * 100 = 999900 := by decide +kernel

/-- Refutes O43 at its clause on EPOCH_GUARD: the clause asks that fabric time is at least the guard's instant, and not that
the fabric time before it fits its field. A write cuts the greater of both to 64 bits, so that where fabric time does not
fit it is 0 after the guard. Where it fits, the clause holds. -/
theorem not_epochUnit : ¬ Obligations.EpochUnit := by
  intro h
  obtain ⟨-, -, guard, -⟩ := h nowBeyondWidth .caddy 0 0 0
  obtain ⟨t, ht, -, -, reached, -⟩ := guard (by decide +kernel) (by decide +kernel)
  obtain ⟨u, hu, wraps⟩ := epochGuard_wraps
  have e : t = u := by
    rw [ht] at hu
    exact Host.Outcome.next.inj hu
  rw [guardInstant, e] at reached
  exact absurd (reached.trans_eq wraps) (by decide)

end Sys2Proof.Machine
end

section
/-! ### An Infuser's own SRAM (O11) -/

namespace Sys2Proof.Machine

variable {i : Fin 32} {s : State} {ea : Word} {o : Nat}

/-! #### Where its addresses lead (20 R416) -/

theorem infuserAddr_sram (hea : ea.toNat = 2 ^ 36 + o) (ho : o < 0x10000) :
    infuserAddr s i ea = some ⟨infSram i + o, .normalWb⟩ := by
  have above : ¬ ea.toNat < privBase := by rw [hea, privBase]; omega
  have offset : ea.toNat - privBase = o := by rw [hea, privBase]; omega
  simp only [infuserAddr, offset]
  rw [if_neg above, if_pos ho]

theorem target_sram (ho : o < 0x10000) : target s (infSram i + o) = .reg := by
  have hi := i.isLt
  have block : (regBlocks.any fun b => decide (b.1 ≤ infSram i + o) && decide (infSram i + o ≤ b.2)) = true := by
    refine List.any_eq_true.mpr ⟨(0xE01000000, 0xE02FFFFFF), by simp [regBlocks], ?_⟩
    unfold infSram
    exact Bool.and_eq_true_iff.mpr ⟨decide_eq_true (by omega), decide_eq_true (by omega)⟩
  unfold target
  rw [if_neg (by unfold infSram; omega), if_neg (by unfold infSram; omega), if_neg (by unfold infSram; omega)]
  exact if_pos block

theorem isPrivate_sram (ho : o < 0x10000) : isPrivate s (.infuser i) ⟨infSram i + o, .normalWb⟩ = true := by
  simp [isPrivate, target_sram ho]

theorem checkPlace_sram (ho : o < 0x10000) (n chk : Nat) :
    checkPlace s (.infuser i) ⟨infSram i + o, .normalWb⟩ n chk = none := by
  have writable : ownReadOnly (.infuser i) (infSram i + o) = false := by
    have hi := i.isLt
    unfold ownReadOnly infSram infRegs
    exact Bool.and_eq_false_iff.mpr (.inl (decide_eq_false (by omega)))
  unfold checkPlace
  dsimp only
  rw [if_pos (isPrivate_sram ho), writable]
  simp [isDevice]

/-- An access within one line of the SRAM has one place. -/
theorem reaches_sram (hw : (s.cpu (.infuser i)).wait = .none) (hea : ea.toNat = 2 ^ 36 + o) (ho : o < 0x10000) {n : Nat}
    (hn : o % 64 + n ≤ 64) (chk : Nat) :
    Reaches (.infuser i) s ea n chk [(⟨infSram i + o, .normalWb⟩, ⟨ea, n, ea⟩)] s := by
  have one : segs ea n = [⟨ea, n, ea⟩] := if_pos (by rw [hea]; omega)
  refine ⟨[.ok (⟨infSram i + o, .normalWb⟩, ⟨ea, n, ea⟩)], ?_, rfl, rfl, trivial⟩
  simp only [one, heldPlaces_none hw, resolveSegs, resolveP, infuserAddr_sram hea ho, checkPlace_sram ho, XRes.bind]

/-! #### Loads, stores and atomic operations -/

theorem ownLoad_sram (o n : Nat) : ownLoad s (.infuser i) (infSram i + o) n = (readBytes s (infSram i + o) n, s) :=
  if_pos (Nat.le_add_right _ _)

theorem readBytes_lt (s : State) (n : Nat) : ∀ a, readBytes s a n < 256 ^ n := by
  induction n with
  | zero => exact fun _ => Nat.one_pos
  | succ n ih =>
    intro a
    have := ih (a + 1)
    have := (readByte s a).isLt
    rw [readBytes, Nat.pow_succ]
    omega

/-- With nothing buffered no byte is forwarded. -/
theorem sbForward_nil {n : Nat} (hn : 0 < n) (a : Nat) : sbForward [] a n = .none :=
  (sbForward_eq_none_iff hn).mpr fun _ _ => rfl

theorem loadPart_sram (hb : (s.cpu (.infuser i)).sb = []) (ho : o < 0x10000) {n : Nat} (hn : 0 < n) (ea : Word) :
    loadPart s (.infuser i) ⟨infSram i + o, .normalWb⟩ ⟨ea, n, ea⟩ = .ok (.data (readBytes s (infSram i + o) n) n) s := by
  have read : placeRead s (.infuser i) ⟨infSram i + o, .normalWb⟩ n = .ok (readBytes s (infSram i + o) n) s := by
    rw [placeRead, if_pos (isPrivate_sram ho), ownLoad_sram]
    exact nofun
  simp only [loadPart, isDevice, hb, sbForward_nil hn, isPrivate_sram ho, read, Bool.true_or, if_true]
  rfl

section
variable {n : Nat} (h : Calm (.infuser i) s) (hb : (s.cpu (.infuser i)).sb = []) (hea : ea.toNat = 2 ^ 36 + o)
  (ho : o < 0x10000) (h0 : ea.toNat % n = 0) (hn : 0 < n) (hl : o % 64 + n ≤ 64)
include h hea ho

include hb h0 hn hl in
theorem loadFinds_sram :
    LoadFinds (.infuser i) s s s ea [(⟨infSram i + o, .normalWb⟩, ⟨ea, n, ea⟩)] [.data (readBytes s (infSram i + o) n) n]
      (readBytes s (infSram i + o) n) n n := by
  refine ⟨h0, reaches_sram h.plain.rest hea ho hl _, by rw [hb]; rfl, ?_, fun _ _ _ => hb, ?_, ?_, readBytes_lt s n _, h.plain⟩
  · simp [sbPartly, hb, sbForward_nil hn, isDevice]
  · simp only [loadParts, loadPart_sram hb ho hn, XRes.bind]
  · simp [partsValue]

end

/-- A store joins an empty buffer. -/
theorem storeOp_sram {n v : Nat} (hw : (s.cpu (.infuser i)).wait = .none) (hb : (s.cpu (.infuser i)).sb = [])
    (hea : ea.toNat = 2 ^ 36 + o) (ho : o < 0x10000) (h0 : ea.toNat % n = 0) (hl : o % 64 + n ≤ 64)
    (hm : mirrorStalls s ((infSram i + o) / 64) = false) :
    storeOp (.infuser i) n n ea v s = .done (s.setCpu (.infuser i) { s.cpu (.infuser i) with
      sb := [{ line := (infSram i + o) / 64, rtype := .normalWb,
               stores := [{ off := (infSram i + o) % 64, size := n, val := v % 256 ^ n, va := ea }] }] }) := by
  refine storeOp_pushed h0 (reaches_sram hw hea ho hl _) (fun x hx _ => ?_) (fun x hx => ?_) ?_
  · rw [List.mem_singleton.mp hx]
    exact hm
  · rw [List.mem_singleton.mp hx]
    exact nofun
  · refine (sbPush_fresh (fun es e he => ?_) _).trans ?_
    · rw [hb] at he
      simp at he
    · rw [hb]
      rfl

/-- What an atomic operation leaves in the SRAM. -/
def swapped (s : State) (place n : Nat) (new : Option Nat) : State :=
  match new with
  | some v => writeBytes s place n v
  | none => s

theorem swapped_only (s : State) (place n : Nat) (new : Option Nat) : ∃ m, swapped s place n new = { s with mem := m } := by
  cases new with
  | none => exact ⟨s.mem, rfl⟩
  | some v => exact writeBytes_only n s place v

theorem ownStore_sram (hc : countersigned s i = false) (n v : Nat) :
    ownStore s (.infuser i) (infSram i + o) n v = writeBytes s (infSram i + o) n v := by
  have le : infSram i ≤ infSram i + o := Nat.le_add_right _ _
  exact (if_pos le).trans (if_neg (by simp [hc]))

theorem atomicAt_sram (hc : countersigned s i = false) (ho : o < 0x10000) (n : Nat) (f : Nat → Option Nat) :
    atomicAt s (.infuser i) ⟨infSram i + o, .normalWb⟩ n f =
      .ok (readBytes s (infSram i + o) n) (swapped s (infSram i + o) n (f (readBytes s (infSram i + o) n))) := by
  unfold atomicAt
  rw [if_pos (isPrivate_sram ho), ownLoad_sram]
  dsimp only
  cases f (readBytes s (infSram i + o) n) with
  | none => rfl
  | some v => exact congrArg _ (ownStore_sram hc n v)

/-- A written range, byte by byte. -/
theorem readByte_writeBytes (s : State) (a n v x : Nat) : readByte (writeBytes s a n v) x =
    if a ≤ x ∧ x < a + n then BitVec.ofNat 8 (v / 256 ^ (x - a)) else readByte s x := by
  split
  case isTrue h =>
    have := readByte_writeBytes_in n s a v (x - a) (by omega)
    rwa [Nat.add_sub_cancel' h.1] at this
  case isFalse h => exact readByte_writeBytes_out n s a v x (by omega)

theorem cas_sram {d a b : RegNo} (h : Calm (.infuser i) s) (hb : (s.cpu (.infuser i)).sb = []) (hc : countersigned s i = false)
    (ho : o < 0x10000) (ha : (s.g (.infuser i) a).toNat = 2 ^ 36 + o) (h8 : o % 8 = 0) :
    Gives (.cas (.infuser i) d a b) s fun t =>
      (d ≠ 31 → t.g (.infuser i) d = BitVec.ofNat 64 (readBytes s (infSram i + o) 8)) ∧
      t.mem = (swapped s (infSram i + o) 8 (if readBytes s (infSram i + o) 8 = (s.g (.infuser i) d).toNat % 256 ^ 8
        then some ((s.g (.infuser i) b).toNat % 256 ^ 8) else none)).mem := by
  have swap := atomicAt_sram (s := s) hc ho 8 fun old =>
    if old = (s.g (.infuser i) d).toNat % 256 ^ 8 then some ((s.g (.infuser i) b).toNat % 256 ^ 8) else none
  generalize hn : (if readBytes s (infSram i + o) 8 = (s.g (.infuser i) d).toNat % 256 ^ 8
    then some ((s.g (.infuser i) b).toNat % 256 ^ 8) else none) = new at swap
  obtain ⟨m, hmem⟩ := swapped_only s (infSram i + o) 8 new
  rw [hmem] at swap
  have plain : Plain (.infuser i) { s with mem := m } (s.cpu (.infuser i)).pc :=
    ⟨h.plain.loop, h.plain.ie, h.plain.ipl, h.plain.step, h.plain.count, h.plain.rest⟩
  obtain ⟨t, run, only⟩ := atomic_ends (i := .cas (.infuser i) d a b) rfl h hb (by decide) (casFn_mod 8 _ _) (by rw [ha]; omega)
    (reaches_sram h.plain.rest ha ho (by omega) _) swap (readBytes_lt s 8 _) plain
  refine ⟨t, run, fun hd => ?_, only.mem.trans ?_⟩
  · rw [only.g]
    refine (Cpu.rd_wr_same _ _ _ hd).trans ?_
    rw [signedBytes, BitVec.signExtend_eq]
  · rw [hmem]

theorem readByte_swapped (s : State) (place n v x : Nat) {c : Prop} [Decidable c] :
    readByte (swapped s place n (if c then some v else none)) x =
      if c ∧ place ≤ x ∧ x < place + n then BitVec.ofNat 8 (v / 256 ^ (x - place)) else readByte s x := by
  by_cases h : c
  · rw [if_pos h]
    exact (readByte_writeBytes s place n v x).trans (if_congr (and_iff_right h).symm rfl rfl)
  · rw [if_neg h]
    exact (if_neg fun both => h both.1).symm

/-! #### The drain (06 R146) -/

theorem infuserStop_sb (s : State) (j : Fin 32) (st : Nat) (i : Fin 32) :
    ((infuserStop s j st).cpu (.infuser i)).sb = (s.cpu (.infuser i)).sb ∧ (infuserStop s j st).mem = s.mem := by
  refine ⟨?_, rfl⟩
  by_cases e : Proc.infuser i = .infuser j
  · injection e with e
    subst e
    have same := State.cpu_setCpu_same s (.infuser i) { s.cpu (.infuser i) with run := .stopped, wait := .none }
    have e := congrArg Cpu.sb same
    exact e
  · exact congrArg Cpu.sb (State.cpu_setCpu_ne s { s.cpu (.infuser j) with run := .stopped, wait := .none } e)

theorem stopDrained_keeps (s : State) : ((stopDrained s (.infuser i)).cpu (.infuser i)).sb = (s.cpu (.infuser i)).sb ∧
    (stopDrained s (.infuser i)).mem = s.mem := by
  unfold stopDrained
  dsimp only
  split
  · exact infuserStop_sb (putInf s i.val { infOf s i.val with stopping := false }) i 0 i
  · exact ⟨rfl, rfl⟩

theorem storeDrain_sram {e : SbEntry} {n v : Nat} {va : Word} (hc : countersigned s i = false) (ho : o < 0x10000)
    (hb : (s.cpu (.infuser i)).sb = [e]) (hl : e.line = (infSram i + o) / 64) (ht : e.rtype = .normalWb)
    (hs : e.stores = [{ off := (infSram i + o) % 64, size := n, val := v, va := va }]) :
    Gives (.storeDrain (.infuser i)) s fun t => (t.cpu (.infuser i)).sb = [] ∧ t.mem = (writeBytes s (infSram i + o) n v).mem := by
  have place : e.line * 64 + (infSram i + o) % 64 = infSram i + o := by rw [hl]; omega
  have own : drainStore s (.infuser i) e { off := (infSram i + o) % 64, size := n, val := v, va := va } =
      .ok () (writeBytes s (infSram i + o) n v) := by
    unfold drainStore
    simp only [place, ht]
    rw [if_pos (isPrivate_sram ho), ownStore_sram hc]
  have drained : drainHead s (.infuser i) =
      sbHead (writeBytes s (infSram i + o) n v) (.infuser i) { e with begun := true } [] := by
    simp only [drainHead, hb, hs, drainStores, own]
  obtain ⟨m, hm⟩ := writeBytes_only n s (infSram i + o) v
  obtain ⟨sb, mem⟩ := stopDrained_keeps (i := i) (drainHead s (.infuser i))
  refine ⟨_, rfl, sb.trans ?_, mem.trans ?_⟩
  · rw [drained, sbHead, State.cpu_setCpu_same]
    have : ((writeBytes s (infSram i + o) n v).cpu (.infuser i)).sb = [e] := by rw [hm]; exact hb
    simp [this]
  · rw [drained]
    rfl

/-- Settles O11: each access of one line of the SRAM has one place, which is the Infuser's own. -/
theorem infuserMemory : Obligations.InfuserMemory := by
  intro i s d a b imm o p k ea place old hea ho hm hc
  refine ⟨fun h hb => ?_, fun e n v va hb hl ht hs _ => ?_⟩
  · have loads {n : Nat} (h0 : ea.toNat % n = 0) (hn : 0 < n) (hl : o % 64 + n ≤ 64) := loadFinds_sram h hb hea ho h0 hn hl
    refine ⟨?_, ?_, fun h4 => ⟨?_, ?_⟩, fun h8 => ?_, fun h8 h0 => ?_⟩
    · exact loadSigned_ends rfl h (by decide) (loads (Nat.mod_one _) (by decide) (by omega))
    · exact loadUnsigned_ends rfl h (loads (Nat.mod_one _) (by decide) (by omega))
    · exact loadSigned_ends rfl h (by decide) (loads (by rw [hea]; omega) (by decide) (by omega))
    · have stored := storeOp_sram (v := (s.g p d).toNat % 256 ^ 4) (n := 4) h.plain.rest hb hea ho (by rw [hea]; omega)
        (by omega) hm
      rw [Nat.mod_mod] at stored
      have only := (OnlyCpu.refl p s).setCpu { s.cpu p with
        sb := [{ line := place / 64, rtype := .normalWb,
                 stores := [{ off := place % 64, size := 4, val := (s.g p d).toNat % 2 ^ 32, va := ea }] }] }
      exact ⟨_, rfl, rfl, rfl, (storeG_ends rfl h _ stored (only.plain h.plain rfl rfl rfl rfl rfl h.plain.rest)).of only⟩
    · exact loadUnsigned_ends rfl h (loads (by rw [hea]; omega) (by decide) (by omega))
    · subst h0
      have at0 : (s.g p a).toNat = 2 ^ 36 + o := by
        have e : s.g p a + BitVec.signExtend 64 (0 : BitVec 16) = s.g p a := by simp
        rwa [← e]
      obtain ⟨t, run, value, mem⟩ := cas_sram (d := d) (b := b) h hb hc ho at0 h8
      refine ⟨t, run, value, fun x => ?_⟩
      have whole (w : Word) : w.toNat % 256 ^ 8 = w.toNat := Nat.mod_eq_of_lt w.isLt
      have bytes := readByte_swapped (c := readBytes s (infSram i + o) 8 = (s.g p d).toNat) s (infSram i + o) 8 (s.g p b).toNat x
      rw [whole, whole] at mem
      exact (congrArg (fun m => mget memDefault m x) mem).trans bytes
  · obtain ⟨t, run, sb, mem⟩ := storeDrain_sram hc ho hb hl ht hs
    exact ⟨t, run, sb, fun x => by rw [readByte, mem]; exact readByte_writeBytes s place n v x⟩

end Sys2Proof.Machine
end

section
/-! ### The debug port (O54) -/

namespace Sys2Proof.Machine

/-- A grant of level full through the port, whose data register still holds the 1 of an earlier access. -/
def dataLeft : State :=
  { flds := [(fkey F.DB_GRANT_PORT 0, 1), (fkey F.DB_GRANT_LEVEL 0, 2)], dbg := { data := 1 } }

/-- A read at which nothing stands answers NO_TARGET with zeros, as every read that fails does (16 R358, 19 R406). -/
theorem access_hole_reads_zero : Gives (.access 0 false 0) dataLeft fun t => t.dbg.status = 3 ∧ t.dbg.data = 0 :=
  ⟨_, rfl, by decide +kernel⟩

/-- Refutes O54 at its clause on an address without a target: the clause asks that the access changes the port's instruction
register and status alone, and a read that fails also returns zeros, which take the place of the data that the port held. -/
theorem not_debugPort : ¬ Obligations.DebugPort := by
  intro h
  obtain ⟨-, -, -, -, -, -, -, -, -, -, -, -, -, -, -, hole, -⟩ := h dataLeft 0 false false 0 [] 0 dataLeft
  obtain ⟨t, ht, e⟩ := hole (by decide +kernel) (by decide) (by decide +kernel)
  obtain ⟨u, hu, -, zero⟩ := access_hole_reads_zero
  have same : t = u := by
    rw [ht] at hu
    exact Host.Outcome.next.inj hu
  rw [← same, e] at zero
  exact absurd zero (by decide)

end Sys2Proof.Machine
end

section
/-! ### Debug control and the counters' registers (O53) -/

namespace Sys2Proof.Machine

/-! #### What is done to every core -/

section
variable {step : State → Fin 16 → State} {g : Cpu → Cpu}

theorem foldl_cores {l : List (Fin 16)} (hl : l.Nodup) (own : ∀ t c, (step t c).cpu (.core c) = g (t.cpu (.core c)))
    (other : ∀ t c c', c' ≠ c → (step t c).cpu (.core c') = t.cpu (.core c')) (s : State) (c : Fin 16) :
    (l.foldl step s).cpu (.core c) = if c ∈ l then g (s.cpu (.core c)) else s.cpu (.core c) := by
  induction l generalizing s with
  | nil => rfl
  | cons a l ih =>
    obtain ⟨ha, hl⟩ := List.nodup_cons.mp hl
    rw [List.foldl_cons, ih hl]
    by_cases e : c = a
    · subst e
      rw [if_neg ha, if_pos List.mem_cons_self, own]
    · rw [other s a c e]
      exact if_congr (by simp [e]) rfl rfl

/-- What each step does to its own core, and to no other, is done to every core. -/
theorem foldl_allCores (own : ∀ t c, (step t c).cpu (.core c) = g (t.cpu (.core c)))
    (other : ∀ t c c', c' ≠ c → (step t c).cpu (.core c') = t.cpu (.core c')) (s : State) (c : Fin 16) :
    (allCores.foldl step s).cpu (.core c) = g (s.cpu (.core c)) :=
  (foldl_cores (by decide) own other s c).trans (if_pos (mem_allCores c))

end

/-! #### The end of a grant (23 R470) -/

/-- The fields of a grant, and all that its end clears. -/
def grantFields' : List Fld := [F.DB_GRANT_LEVEL, F.DB_GRANT_PORT, F.DB_GRANT_ONCHIP, F.DB_GRANT_UNTIMED, F.DB_GRANTMASK_PMASK]
def endFields : List Fld := grantFields' ++ [F.DB_CORECTL_STEP, F.DB_CORECTL_SKIP, F.DB_CATCH_HELD]

variable {s t u : State} {c : Fin 16} {q : Requester} {v : Word}

/-- The grant has ended: nothing of it is left, and core `c` has nothing pending of it. -/
structure GrantEnded (c : Fin 16) (s t : State) : Prop where
  fields : ∀ f ∈ grantFields', t.fl f 0 = 0
  step : t.fl F.DB_CORECTL_STEP c.val = 0
  skip : t.fl F.DB_CORECTL_SKIP c.val = 0
  req : (t.cpu (.core c)).dbgReq = false
  bank : (t.cpu (.core c)).stepBank = none
  run : (t.cpu (.core c)).run = if (s.cpu (.core c)).run = .held then .running else (s.cpu (.core c)).run
  held : t.fl F.DB_CATCH_HELD 0 = 0
  told : signalled s t 272
  mem : t.mem = s.mem

/-- The same, seen from a state with the same registers, processors and memory. -/
theorem GrantEnded.from (h : GrantEnded c u t) (hf : u.flds = s.flds) (hc : u.cpus = s.cpus) (hm : u.mem = s.mem) :
    GrantEnded c s t := by
  refine ⟨h.fields, h.step, h.skip, h.req, h.bank, ?_, h.held, fun he hp => h.told ?_ ?_, h.mem.trans hm⟩
  · rw [h.run, State.cpu, hc]
    rfl
  · rwa [State.fb_congr hf]
  · rwa [State.fl_congr hf]

/-- The registers of the grant take 0. -/
def grantCleared (s : State) : State := grantFields'.foldl (fun s f => s.setF f 0 0) s

theorem grantCleared_kept (s : State) : FieldsKept (noteField grantFields') s (grantCleared s) := by
  have byId := noteField_byId grantFields'
  exact .setF (.setF (.setF (.setF (.setF (.of_flds rfl) byId (f := F.DB_GRANT_LEVEL) 0 0 rfl) byId (f := F.DB_GRANT_PORT) 0 0 rfl)
    byId (f := F.DB_GRANT_ONCHIP) 0 0 rfl) byId (f := F.DB_GRANT_UNTIMED) 0 0 rfl) byId (f := F.DB_GRANTMASK_PMASK) 0 0 rfl

theorem grantCleared_zero (s : State) : ∀ f ∈ grantFields', (grantCleared s).fl f 0 = 0 := by
  intro f hf
  have own (t : State) (a : Fld) (_ : a ∈ grantFields') : (t.setF a 0 0).fl a 0 = 0 := by
    rw [State.fl_setF_same, Nat.zero_mod]
  have keep (t : State) (a : Fld) (_ : a ∈ grantFields') (b : Fld) (_ : b ∈ grantFields') (h : t.fl b 0 = 0) :
      (t.setF a 0 0).fl b 0 = 0 := by
    by_cases e : a.id = b.id
    · have : a = b := List.inj_on_of_nodup_map (l := grantFields') (by decide) ‹_› ‹_› e
      rw [this, State.fl_setF_same, Nat.zero_mod]
    · rwa [State.fl_setF_id _ _ _ _ e]
  exact foldl_settles_of_mem (P := fun t f => t.fl f 0 = 0) own keep hf s

/-- The fields that withdrawing what is pending at a core changes. -/
theorem withdrawDebug_kept (s : State) (c : Fin 16) :
    FieldsKept (noteField [F.DB_CORECTL_STEP, F.DB_CORECTL_SKIP]) s (withdrawDebug s c) := by
  have byId := noteField_byId [F.DB_CORECTL_STEP, F.DB_CORECTL_SKIP]
  exact .trans (.setF (.setF (.of_flds rfl) byId (f := F.DB_CORECTL_STEP) c.val (b2n false) rfl) byId
    (f := F.DB_CORECTL_SKIP) c.val (b2n false) rfl) (.of_flds rfl)

theorem foldl_kept {k : Fld → Bool} {α : Type} {step : State → α → State} (h : ∀ t a, FieldsKept k t (step t a)) (l : List α)
    (s : State) : FieldsKept k s (l.foldl step s) := by
  induction l generalizing s with
  | nil => exact .of_flds rfl
  | cons a l ih => exact (h s a).trans (ih _)

/-- STEP and SKIP of every core are 0 after it. -/
theorem withdrawAll_zero (s : State) (c : Fin 16) :
    (allCores.foldl withdrawDebug s).fl F.DB_CORECTL_STEP c.val = 0 ∧
      (allCores.foldl withdrawDebug s).fl F.DB_CORECTL_SKIP c.val = 0 := by
  let zero (t : State) (c : Fin 16) : Prop := t.fl F.DB_CORECTL_STEP c.val = 0 ∧ t.fl F.DB_CORECTL_SKIP c.val = 0
  have apart {a b : Fin 16} (h : a ≠ b) : a.val % 4096 ≠ b.val % 4096 := by
    have := Fin.val_ne_of_ne h
    omega
  have shown (t : State) (a : Fin 16) (f : Fld) (i : Nat) : (withdrawDebug t a).fl f i =
      ((t.setB F.DB_CORECTL_STEP a.val false).setB F.DB_CORECTL_SKIP a.val false).fl f i := rfl
  have step (t : State) (a b : Fin 16) : (withdrawDebug t a).fl F.DB_CORECTL_STEP b.val =
      if a = b then 0 else t.fl F.DB_CORECTL_STEP b.val := by
    rw [shown, State.fl_setB_id _ _ _ _ (by decide), State.setB]
    split
    case isTrue h => rw [h, State.fl_setF_same]; rfl
    case isFalse h => exact State.fl_setF_ix _ _ _ (apart h)
  have skip (t : State) (a b : Fin 16) : (withdrawDebug t a).fl F.DB_CORECTL_SKIP b.val =
      if a = b then 0 else t.fl F.DB_CORECTL_SKIP b.val := by
    rw [shown, State.setB]
    split
    case isTrue h => rw [h, State.fl_setF_same]; rfl
    case isFalse h => rw [State.fl_setF_ix _ _ _ (apart h), State.fl_setB_id _ _ _ _ (by decide)]
  have own (t : State) (a : Fin 16) : zero (withdrawDebug t a) a := ⟨by simp [step], by simp [skip]⟩
  have keep (t : State) (a b : Fin 16) (h : zero t b) : zero (withdrawDebug t a) b := by
    obtain ⟨h1, h2⟩ := h
    exact ⟨by simp [step, h1], by simp [skip, h2]⟩
  exact foldl_settles own keep (mem_allCores c) s

theorem withdrawAll_cpu (s : State) (c : Fin 16) : (allCores.foldl withdrawDebug s).cpu (.core c) =
    { s.cpu (.core c) with dbgReq := false, stepBank := none } := by
  refine foldl_allCores (g := fun k => { k with dbgReq := false, stepBank := none }) (fun t a => ?_) (fun t a b h => ?_) s c
  · exact State.cpu_setCpu_same _ _ _
  · exact State.cpu_setCpu_ne _ _ (by simpa using h)

/-- A held core begins to run. -/
def released (k : Cpu) : Cpu := if k.run = .held then { k with run := .running } else k

/-- The release of one core. -/
def releaseOne (s : State) (c : Fin 16) : State :=
  if (s.cpu (.core c)).run = .held then s.setCpu (.core c) { s.cpu (.core c) with run := .running } else s

theorem releaseHeld_eq (s : State) : releaseHeld s = (allCores.foldl releaseOne s).setF F.DB_CATCH_HELD 0 0 := rfl

theorem releaseHeld_cpu (s : State) (c : Fin 16) : (releaseHeld s).cpu (.core c) = released (s.cpu (.core c)) := by
  have own (t : State) (a : Fin 16) : (releaseOne t a).cpu (.core a) = released (t.cpu (.core a)) := by
    unfold releaseOne released
    split
    · exact State.cpu_setCpu_same _ _ _
    · rfl
  have other (t : State) (a b : Fin 16) (h : b ≠ a) : (releaseOne t a).cpu (.core b) = t.cpu (.core b) := by
    unfold releaseOne
    split
    · exact State.cpu_setCpu_ne _ _ (by simpa using h)
    · rfl
  rw [releaseHeld_eq, State.cpu, State.setF_cpus]
  exact foldl_allCores own other s c

theorem released_run (k : Cpu) : (released k).run = if k.run = .held then .running else k.run := by
  unfold released
  split <;> rfl

theorem releaseHeld_kept (s : State) : FieldsKept (noteField [F.DB_CATCH_HELD]) s (releaseHeld s) := by
  rw [releaseHeld_eq]
  have one (t : State) (a : Fin 16) : FieldsKept (noteField [F.DB_CATCH_HELD]) t (releaseOne t a) := by
    unfold releaseOne
    split <;> exact .of_flds rfl
  exact .setF (foldl_kept one allCores s) (noteField_byId _) (f := F.DB_CATCH_HELD) 0 0 rfl

theorem releaseHeld_held (s : State) : (releaseHeld s).fl F.DB_CATCH_HELD 0 = 0 := by
  rw [releaseHeld_eq, State.fl_setF_same, Nat.zero_mod]

/-- What the end of a grant is, step by step. -/
theorem endGrant_eq (hl : s.fl F.DB_GRANT_LEVEL 0 ≠ 0) : endGrant s =
    dbgRecord (raiseSource (releaseHeld (allCores.foldl withdrawDebug (grantCleared s))) 272) clsInfo 0xB02
      (s.fl F.DB_GRANTMASK_PMASK 0) := by
  unfold endGrant
  rw [if_neg hl]
  rfl

/-- Nothing but registers and processors differs. -/
def OnlyCores (s t : State) : Prop := { t with flds := s.flds, sh := s.sh, cpus := s.cpus } = s

namespace OnlyCores

theorem trans (h : OnlyCores s t) (h' : OnlyCores t u) : OnlyCores s u := by
  rw [OnlyCores, ← h'] at h
  exact h

theorem foldl {α : Type} {step : State → α → State} (h : ∀ t a, OnlyCores t (step t a)) (l : List α) (s : State) :
    OnlyCores s (l.foldl step s) := by
  induction l generalizing s with
  | nil => rfl
  | cons a l ih => exact (h s a).trans (ih _)

theorem of_regs (h : OnlyRegs s t) : OnlyCores s t := by
  have e := congrArg (fun u : State => { u with cpus := s.cpus }) h
  exact e

theorem mem (h : OnlyCores s t) : t.mem = s.mem := by
  have e := congrArg State.mem h
  exact e

theorem time (h : OnlyCores s t) : t.time = s.time := by
  have e := congrArg State.time h
  exact e

theorem sup (h : OnlyCores s t) : t.sup = s.sup := by
  have e := congrArg State.sup h
  exact e

theorem warm (h : OnlyCores s t) : t.warm = s.warm := by
  have e := congrArg State.warm h
  exact e

end OnlyCores

theorem releaseHeld_only (s : State) : OnlyCores s (releaseHeld s) := by
  have one (t : State) (a : Fin 16) : OnlyCores t (releaseOne t a) := by
    unfold releaseOne
    split <;> rfl
  rw [releaseHeld_eq]
  have set (t : State) : OnlyCores t (t.setF F.DB_CATCH_HELD 0 0) := rfl
  exact (OnlyCores.foldl one allCores s).trans (set _)

theorem grantEnd_only (s : State) : OnlyCores s (releaseHeld (allCores.foldl withdrawDebug (grantCleared s))) := by
  have cleared : OnlyCores s (grantCleared s) := rfl
  have one (t : State) (a : Fin 16) : OnlyCores t (withdrawDebug t a) := rfl
  exact (cleared.trans (.foldl one allCores _)).trans (releaseHeld_only _)

theorem endGrant_ends (hl : s.fl F.DB_GRANT_LEVEL 0 ≠ 0) (c : Fin 16) : GrantEnded c s (endGrant s) := by
  rw [endGrant_eq hl]
  generalize s.fl F.DB_GRANTMASK_PMASK 0 = mask
  have mem := (grantEnd_only s).mem
  have cleared := grantCleared_kept s
  have zero := grantCleared_zero s
  have clearedCpus : (grantCleared s).cpus = s.cpus := rfl
  generalize grantCleared s = a at cleared zero clearedCpus mem
  have withdrawn := foldl_kept withdrawDebug_kept allCores a
  obtain ⟨step, skip⟩ := withdrawAll_zero a c
  have cpu := withdrawAll_cpu a c
  generalize allCores.foldl withdrawDebug a = b at withdrawn step skip cpu mem
  have freed := releaseHeld_kept b
  have held := releaseHeld_held b
  have freedCpu := releaseHeld_cpu b c
  generalize releaseHeld b = d at freed held freedCpu mem
  have told := (raiseSource_side [] d 272).trans (dregs_side [] _ 0x400 clsInfo 0xB02 (grantWord (raiseSource d 272) + mask * 2 ^ 64))
  have told272 : signalled d (dbgRecord (raiseSource d 272) clsInfo 0xB02 mask) 272 :=
    signalled_stays (signalled_raiseSource (k := fun _ => false) (.of_flds rfl) 272 rfl rfl) (dregs_pendingStays _ _ _ _ _)
  generalize hu : dbgRecord (raiseSource d 272) clsInfo 0xB02 mask = u at told272
  have told : SideFrame (noteField []) d u := hu ▸ told
  have ucpu : u.cpu (.core c) = released { s.cpu (.core c) with dbgReq := false, stepBank := none } := by
    rw [State.cpu, told.cpus, ← State.cpu, freedCpu, cpu, State.cpu, clearedCpus]
    rfl
  have all : FieldsKept (noteField endFields) s d :=
    ((cleared.weaken (noteField_of_subset (by simp [endFields]))).trans
      (withdrawn.weaken (noteField_of_subset (by simp [endFields])))).trans (freed.weaken (noteField_of_subset (by simp [endFields])))
  refine ⟨fun f hf => ?_, ?_, ?_, ?_, ?_, ?_, ?_, signalled_since all rfl rfl told272, ?_⟩
  · have other : noteField [] f = false ∧ noteField [F.DB_CATCH_HELD] f = false ∧
        noteField [F.DB_CORECTL_STEP, F.DB_CORECTL_SKIP] f = false := by
      simp only [grantFields', List.mem_cons, List.not_mem_nil, or_false] at hf
      rcases hf with rfl | rfl | rfl | rfl | rfl <;> exact ⟨rfl, rfl, rfl⟩
    obtain ⟨h1, h2, h3⟩ := other
    rw [told.fl _ _ h1, freed _ _ h2, withdrawn _ _ h3, zero f hf]
  · rw [told.fl _ _ rfl, freed _ _ rfl, step]
  · rw [told.fl _ _ rfl, freed _ _ rfl, skip]
  · rw [ucpu, released]
    split <;> rfl
  · rw [ucpu, released]
    split <;> rfl
  · rw [ucpu, released_run]
  · rw [told.fl _ _ rfl, held]
  · rw [told.mem, mem]

/-! #### DB_GRANT and its expiry -/

theorem grantClock_flds (s : State) : (grantClock s).flds = s.flds ∧ (grantClock s).cpus = s.cpus ∧ (grantClock s).mem = s.mem := by
  unfold grantClock
  split <;> exact ⟨rfl, rfl, rfl⟩

/-- The clock that the grant ends by has come to its end. -/
theorem grantClock_reached (s : State) :
    (s.fb F.DB_GRANT_UNTIMED 0 = true → s.dbg.ends ≤ kclkSeconds (grantClock s)) ∧
      (s.fb F.DB_GRANT_UNTIMED 0 = false → ∀ r, (grantClock s).sup.rtc = some r → s.dbg.ends ≤ rtcSeconds r) := by
  refine ⟨fun h => ?_, fun h r hr => ?_⟩
  · rw [grantClock, if_pos h, kclkSeconds]
    exact (Nat.le_div_iff_mul_le (by decide)).mpr (Nat.le_max_right _ _)
  · rw [grantClock, if_neg (by simp [h])] at hr
    obtain ⟨r0, -, rfl⟩ := Option.map_eq_some_iff.mp hr
    exact (Nat.le_div_iff_mul_le (by decide)).mpr (Nat.le_max_left _ _)

theorem endGrant_clock (hl : s.fl F.DB_GRANT_LEVEL 0 ≠ 0) : (endGrant s).time = s.time ∧ (endGrant s).sup = s.sup := by
  rw [endGrant_eq hl]
  have only := grantEnd_only s
  generalize releaseHeld (allCores.foldl withdrawDebug (grantCleared s)) = d at only
  have told := (raiseSource_side [] d 272).trans (dregs_side [] _ 0x400 clsInfo 0xB02
    (grantWord (raiseSource d 272) + s.fl F.DB_GRANTMASK_PMASK 0 * 2 ^ 64))
  exact ⟨told.time.trans only.time, told.sup.trans only.sup⟩

theorem grantExpiry_gives (hl : s.fl F.DB_GRANT_LEVEL 0 ≠ 0) (c : Fin 16) : Gives .grantExpiry s fun t => GrantEnded c s t ∧
    (s.fb F.DB_GRANT_UNTIMED 0 = true → s.dbg.ends ≤ kclkSeconds t) ∧
    (s.fb F.DB_GRANT_UNTIMED 0 = false → ∀ r, t.sup.rtc = some r → s.dbg.ends ≤ rtcSeconds r) := by
  obtain ⟨flds, cpus, mem⟩ := grantClock_flds s
  have level : (grantClock s).fl F.DB_GRANT_LEVEL 0 ≠ 0 := by rwa [State.fl_congr flds]
  obtain ⟨untimed, timed⟩ := grantClock_reached s
  obtain ⟨time, sup⟩ := endGrant_clock level
  refine gives_of rfl (if_neg hl) ⟨(endGrant_ends level c).from flds cpus mem, fun h => ?_, fun h r hr => ?_⟩
  · rw [kclkSeconds, time]
    exact untimed h
  · exact timed h r (by rwa [sup] at hr)

/-- What the requester may write is as before where only the power state differs. -/
theorem mayDebug_congr (hc : t.cpus = s.cpus) (hf : t.flds = s.flds) (w : Wr) (level : Nat) :
    mayDebug t w level = mayDebug s w level := by
  rw [mayDebug, mayDebug, isMachine_congr hc, portLevel, portLevel, State.fb_congr hf, State.fl_congr hf]

/-- The port has a grant of level full. -/
def portFull (s : State) (q : Requester) : Prop :=
  q = .debugPort ∧ s.fb F.DB_GRANT_PORT 0 = true ∧ 2 ≤ s.fl F.DB_GRANT_LEVEL 0

theorem mayDebug_full_iff (w : Wr) : mayDebug s w 2 = true ↔ isMachine s w.q = true ∨ portFull s w.q := by
  unfold mayDebug portLevel portFull
  cases hp : s.fb F.DB_GRANT_PORT 0 <;> simp

theorem isRing0_of_isMachine (h : isMachine s q = true) : isRing0 s q = true := by
  cases q with
  | core c =>
    rw [isMachine] at h
    simp [isRing0, h]
  | _ => cases h

/-- Who may end the grant. -/
theorem mayRevoke_iff (w : Wr) : (isRing0 s w.q || mayDebug s w 2) = true ↔ isRing0 s w.q = true ∨ portFull s w.q := by
  rw [Bool.or_eq_true_iff, mayDebug_full_iff]
  constructor
  · rintro (h | h | h)
    · exact .inl h
    · exact .inl (isRing0_of_isMachine h)
    · exact .inr h
  · rintro (h | h)
    · exact .inl h
    · exact .inr (.inr h)

theorem debug_reg (s : State) {off : Nat} (h : 0xE04000000 ≤ off ∧ off ≤ 0xE06FFFFFF) : target s off = .reg :=
  target_reg s (0xE04000000, 0xE06FFFFFF) (by decide) h

theorem dbGrantRevoke_gives (ho : openAt s 0xE05000000) (hm : isRing0 s q = true ∨ portFull s q)
    (hl : s.fl F.DB_GRANT_LEVEL 0 ≠ 0) (c : Fin 16) : Gives (.dbGrantRevoke q) s (GrantEnded c s) := by
  obtain ⟨t, power, run⟩ := rowWrite_open (debug_reg s (by decide)) ho q 0x100 dbGrantWrite
  refine gives_of run (u := endGrant t) ?_ ?_
  · have may : (isRing0 t (Wr.full q 0xE05000000 0x100).q || mayDebug t (Wr.full q 0xE05000000 0x100) 2) = true := by
      rw [isRing0_congr power.cpus, mayDebug_congr power.cpus power.flds]
      exact (mayRevoke_iff _).mpr hm
    have revokes : (Wr.full q 0xE05000000 0x100).on F.DB_GRANT_REVOKE = true := by
      rw [Wr.on_full _ _ _ rfl]
      decide
    rw [dbGrantWrite, if_pos may, if_pos revokes]
  · exact (endGrant_ends (by rwa [power.fl]) c).from power.flds power.cpus power.mem

theorem dbGrantRevoke_refused (ho : openAt s 0xE05000000) (h0 : isRing0 s q = false) (hp : ¬ portFull s q) :
    Gives (.dbGrantRevoke q) s fun t => (∀ f ∈ grantFields', t.fl f 0 = s.fl f 0) ∧ t.cpus = s.cpus := by
  obtain ⟨t, power, run⟩ := rowWrite_open (debug_reg s (by decide)) ho q 0x100 dbGrantWrite
  have may : ¬ (isRing0 t (Wr.full q 0xE05000000 0x100).q || mayDebug t (Wr.full q 0xE05000000 0x100) 2) = true := by
    rw [isRing0_congr power.cpus, mayDebug_congr power.cpus power.flds]
    intro h
    rcases (mayRevoke_iff _).mp h with h | h
    · exact absurd (h0.symm.trans h) (by decide)
    · exact hp h
  have side := ignoreWarn_side (s := t) [] (.full q 0xE05000000 0x100)
  refine gives_of run (if_neg may) ⟨fun f hf => ?_, side.cpus.trans power.cpus⟩
  refine (side.fl f 0 ?_).trans (power.fl f 0)
  simp only [grantFields', List.mem_cons, List.not_mem_nil, or_false] at hf
  rcases hf with rfl | rfl | rfl | rfl | rfl <;> rfl

/-! #### DB_CATCH (23 R474; 03 R61) -/

/-- DB_CATCH through the port at level full, before its KEY counts. -/
def catchPut (s : State) (w : Wr) : State :=
  let t := if bitAt (s.fl F.DB_GRANTMASK_PMASK 0) 0 then putField s w F.DB_CATCH_CORES 0 0 else s
  if w.on F.DB_CATCH_RELEASE then releaseHeld t else t

theorem dbCatchWrite_exact {w : Wr} (hq : w.q = .debugPort) (hl : portLevel s = 2) : dbCatchWrite s w =
    let t := catchPut s w
    if w.touches F.DB_CATCH_KEY && w.bits F.DB_CATCH_KEY == 0x4442 then
      warmStart (onDbg (dbgRecord t clsInfo 0xB03 (t.fl F.DB_GRANTMASK_PMASK 0)) fun d =>
        { d with marked := BitVec.ofNat 16 ((dbgRecord t clsInfo 0xB03 (t.fl F.DB_GRANTMASK_PMASK 0)).fl F.DB_CATCH_CORES 0) }) 5 0
    else t := by
  have port : (w.q == .debugPort && portLevel s == 2) = true := by simp [hq, hl]
  unfold dbCatchWrite
  rw [if_pos port]
  rfl

/-- The cores that DB_CATCH names after a write. -/
def catchCores (s : State) (v : Word) : Nat :=
  if bitAt (s.fl F.DB_GRANTMASK_PMASK 0) 0 = true then bitsOf v F.DB_CATCH_CORES else s.fl F.DB_CATCH_CORES 0

theorem catchPut_cores (off : Nat) : (catchPut s (.full q off v)).fl F.DB_CATCH_CORES 0 = catchCores s v := by
  have put : (if bitAt (s.fl F.DB_GRANTMASK_PMASK 0) 0 then putField s (.full q off v) F.DB_CATCH_CORES 0 0 else s).fl
      F.DB_CATCH_CORES 0 = catchCores s v := by
    unfold catchCores
    split
    · exact putField_replaces (by decide)
    · rfl
  unfold catchPut
  dsimp only
  split
  · exact (releaseHeld_kept _ _ _ rfl).trans put
  · exact put

theorem catchPut_only (w : Wr) : OnlyCores s (catchPut s w) := by
  have put : OnlyCores s (if bitAt (s.fl F.DB_GRANTMASK_PMASK 0) 0 then putField s w F.DB_CATCH_CORES 0 0 else s) := by
    split
    · exact .of_regs (putField_only s w _ 0 0)
    · rfl
  unfold catchPut
  dsimp only
  split
  · exact put.trans (releaseHeld_only _)
  · exact put

theorem catchPut_other (w : Wr) {f : Fld} (i : Nat) (h1 : F.DB_CATCH_CORES.id ≠ f.id) (h2 : noteField [F.DB_CATCH_HELD] f = false) :
    (catchPut s w).fl f i = s.fl f i := by
  have put : (if bitAt (s.fl F.DB_GRANTMASK_PMASK 0) 0 then putField s w F.DB_CATCH_CORES 0 0 else s).fl f i = s.fl f i := by
    split
    · exact putField_other s w F.DB_CATCH_CORES 0 0 h1 i
    · rfl
  unfold catchPut
  dsimp only
  split
  · exact (releaseHeld_kept _ f i h2).trans put
  · exact put

/-- RELEASE lets every held core begin. -/
theorem catchPut_releases {w : Wr} (hr : w.on F.DB_CATCH_RELEASE = true) (c : Fin 16) :
    ((catchPut s w).cpu (.core c)) = released (s.cpu (.core c)) ∧ (catchPut s w).fl F.DB_CATCH_HELD 0 = 0 := by
  have put : (if bitAt (s.fl F.DB_GRANTMASK_PMASK 0) 0 then putField s w F.DB_CATCH_CORES 0 0 else s).cpus = s.cpus := by
    split
    · exact (putField_only s w _ 0 0).cpus
    · rfl
  unfold catchPut
  dsimp only
  rw [if_pos hr, releaseHeld_cpu, State.cpu, put]
  exact ⟨rfl, releaseHeld_held _⟩

/-- The port at level full alone, which DB_CATCH asks for. -/
theorem portLevel_exact (hf : portFull s q) (he : s.fl F.DB_GRANT_LEVEL 0 = 2) : portLevel s = 2 := by
  obtain ⟨-, port, -⟩ := hf
  rw [portLevel, if_pos port, he]

theorem portLevel_congr (hf : t.flds = s.flds) : portLevel t = portLevel s := by
  rw [portLevel, portLevel, State.fb_congr hf, State.fl_congr hf]

theorem catchCores_congr (hf : t.flds = s.flds) : catchCores t v = catchCores s v := by
  rw [catchCores, catchCores, State.fl_congr hf, State.fl_congr hf]

theorem dbCatchRelease_gives (ho : openAt s 0xE05000010) (hf : portFull s q) (he : s.fl F.DB_GRANT_LEVEL 0 = 2)
    (hr : bitsOf v F.DB_CATCH_RELEASE = 1) (hk : bitsOf v F.DB_CATCH_KEY ≠ 0x4442) (c : Fin 16) :
    Gives (.dbCatchRelease q v) s fun t => (t.cpu (.core c)).run = (if (s.cpu (.core c)).run = .held then .running
      else (s.cpu (.core c)).run) ∧ t.fl F.DB_CATCH_HELD 0 = 0 ∧ t.fl F.DB_CATCH_CORES 0 = catchCores s v ∧ t.mem = s.mem ∧
      t.warm = s.warm := by
  obtain ⟨t, power, run⟩ := rowWrite_open (debug_reg s (by decide)) ho q v dbCatchWrite
  have unkeyed : ((Wr.full q 0xE05000010 v).touches F.DB_CATCH_KEY && (Wr.full q 0xE05000010 v).bits F.DB_CATCH_KEY == 0x4442) =
      false := by
    rw [Wr.bits_full]
    simp [hk]
  have releases : (Wr.full q 0xE05000010 v).on F.DB_CATCH_RELEASE = true := by
    rw [Wr.on, Wr.bits_full, hr]
    rfl
  have level := (portLevel_congr power.flds).trans (portLevel_exact hf he)
  have e : dbCatchWrite t (.full q 0xE05000010 v) = catchPut t (.full q 0xE05000010 v) := by
    rw [dbCatchWrite_exact (by exact hf.1) level]
    dsimp only
    rw [unkeyed]
    rfl
  obtain ⟨cpu, held⟩ := catchPut_releases (s := t) releases c
  have only := catchPut_only (s := t) (.full q 0xE05000010 v)
  have warm : t.warm = s.warm := by have e := congrArg State.warm power; exact e
  refine gives_of run e ⟨?_, held, (catchPut_cores _).trans (catchCores_congr power.flds), only.mem.trans power.mem,
    only.warm.trans warm⟩
  rw [cpu, released_run, State.cpu, power.cpus]
  rfl

theorem SideFrame.dbg {k : Fld → Bool} (h : SideFrame k s t) : t.dbg = s.dbg := by
  have e := congrArg State.dbg h.rest
  exact e

/-- A debug reset leaves what the debug unit has marked. -/
theorem warmStart_dbr (hs : supplied s) (ha : s.warm.active = false) (hc : s.fb F.KT_SUPPLY_CARRIED 0 = false) :
    (warmStart s 5 0).warm.active = true ∧ (warmStart s 5 0).fl F.KT_RSTCAUSE_LAST 0 = 5 ∧ (warmStart s 5 0).dbg = s.dbg := by
  have h := warmStart_begins (kind := 5) 0 (by decide) hs ha hc
  have dbg : (warmNoted (noteCause s 5)).dbg = s.dbg := (warmNoted_side _).dbg.trans (causeBit_side s 5).dbg
  generalize warmStart s 5 0 = t at h
  generalize warmNoted (noteCause s 5) = w at h dbg
  rw [h.warm, h.fl _ _ rfl, h.dbg]
  exact ⟨rfl, State.fl_setF_same w _ 0 5, dbg⟩

/-- The key starts a warm reset of kind DBR, with the cores that DB_CATCH names marked (03 R61). -/
theorem dbCatchDbr_gives (ho : openAt s 0xE05000010) (hf : portFull s q) (he : s.fl F.DB_GRANT_LEVEL 0 = 2)
    (hk : bitsOf v F.DB_CATCH_KEY = 0x4442) (hs : supplied s) (ha : s.warm.active = false) (hc : s.fb F.KT_SUPPLY_CARRIED 0 = false) :
    Gives (.dbCatchDbr q v) s fun t => t.warm.active = true ∧ t.fl F.KT_RSTCAUSE_LAST 0 = 5 ∧
      t.dbg.marked = BitVec.ofNat 16 (catchCores s v) := by
  obtain ⟨t, power, run⟩ := rowWrite_open (debug_reg s (by decide)) ho q v dbCatchWrite
  have keyed : ((Wr.full q 0xE05000010 v).touches F.DB_CATCH_KEY && (Wr.full q 0xE05000010 v).bits F.DB_CATCH_KEY == 0x4442) =
      true := by
    rw [Wr.bits_full, hk, Wr.touches_full _ _ _ _ (by decide)]
    rfl
  have level := (portLevel_congr power.flds).trans (portLevel_exact hf he)
  have cores := (catchPut_cores (s := t) (q := q) (v := v) 0xE05000010).trans (catchCores_congr power.flds)
  have only := catchPut_only (s := t) (.full q 0xE05000010 v)
  have carried := (congrArg (· % 2 == 1) (catchPut_other (s := t) (.full q 0xE05000010 v) (f := F.KT_SUPPLY_CARRIED) 0
    (by decide) rfl)).trans ((power.fb _ _).trans hc)
  have e := dbCatchWrite_exact (s := t) (w := .full q 0xE05000010 v) (by exact hf.1) level
  dsimp only at e
  rw [keyed, if_pos rfl] at e
  generalize catchPut t (.full q 0xE05000010 v) = p at e cores only carried
  have record := dregs_side [] p 0x400 clsInfo 0xB03 (grantWord p + p.fl F.DB_GRANTMASK_PMASK 0 * 2 ^ 64)
  generalize hr : dbgRecord p clsInfo 0xB03 (p.fl F.DB_GRANTMASK_PMASK 0) = r at e
  have record : SideFrame (noteField []) p r := hr ▸ record
  have sup : t.sup = s.sup := by have e := congrArg State.sup power; exact e
  have warm : t.warm = s.warm := by have e := congrArg State.warm power; exact e
  generalize hx : onDbg r (fun d => { d with marked := BitVec.ofNat 16 (r.fl F.DB_CATCH_CORES 0) }) = x at e
  have xflds : x.flds = r.flds := by rw [← hx]; rfl
  have xsup : x.sup = s.sup := by rw [← hx]; exact record.sup.trans (only.sup.trans sup)
  have xwarm : x.warm = s.warm := by rw [← hx]; exact record.warm.trans (only.warm.trans warm)
  have marked : x.dbg.marked = BitVec.ofNat 16 (catchCores s v) := by
    rw [← hx, ← cores, ← record.fl _ _ rfl]
    rfl
  obtain ⟨active, last, dbg⟩ := warmStart_dbr (s := x) (by rwa [supplied, xsup]) (by rw [xwarm, ha])
    (by rw [State.fb_congr xflds, record.fb _ _ rfl]; exact carried)
  exact gives_of run e ⟨active, last, by rw [dbg, marked]⟩

theorem dbCatchWrite_refused {w : Wr} (h : w.q ≠ .debugPort) : dbCatchWrite s w = ignoreWarn s w :=
  if_neg (by simp [h])

theorem dbCatch_refused {i : Instr} (hi : exec i s = rowWrite q 0xE05000010 v dbCatchWrite s) (ho : openAt s 0xE05000010)
    (hq : q ≠ .debugPort) : Gives i s fun t => t.fl F.DB_CATCH_CORES 0 = s.fl F.DB_CATCH_CORES 0 ∧ t.warm = s.warm ∧
      t.cpus = s.cpus := by
  obtain ⟨t, power, run⟩ := rowWrite_open (debug_reg s (by decide)) ho q v dbCatchWrite
  have side := ignoreWarn_side (s := t) [] (.full q 0xE05000010 v)
  have warm : t.warm = s.warm := by have e := congrArg State.warm power; exact e
  exact gives_of (hi.trans run) (dbCatchWrite_refused hq)
    ⟨(side.fl _ _ rfl).trans (power.fl _ _), side.warm.trans warm, side.cpus.trans power.cpus⟩

/-! #### DB_CORECTL (23 R473, R475) -/

/-- Who may control a core. -/
def mayControl (s : State) (q : Requester) : Prop := isMachine s q = true ∨ portFull s q ∨ fullRing0 s q = true

theorem partOf_congr (h : t.cpus = s.cpus) (c : Fin 16) : partOf t c = partOf s c := by
  rw [partOf, partOf, State.cpu, State.cpu, h]

theorem fullRing0_congr (hc : t.cpus = s.cpus) (hf : t.flds = s.flds) (q : Requester) : fullRing0 t q = fullRing0 s q := by
  cases q with
  | core c => simp only [fullRing0, ringCode_congr hc, partOf_congr hc, onChip, State.fl_congr hf, State.fb_congr hf]
  | _ => rfl

theorem mayControl_iff (w : Wr) : (mayDebug s w 2 || fullRing0 s w.q) = true ↔ mayControl s w.q := by
  rw [Bool.or_eq_true_iff, mayDebug_full_iff, or_assoc]
  rfl

theorem mayControl_congr (hc : t.cpus = s.cpus) (hf : t.flds = s.flds) : mayControl t q ↔ mayControl s q := by
  unfold mayControl portFull
  rw [isMachine_congr hc, fullRing0_congr hc hf, State.fb_congr hf, State.fl_congr hf]

/-- The write asks for a DEBUG REQUEST that the core admits. -/
def asksDebug (s : State) (q : Requester) (c : Fin 16) (v : Word) : Prop :=
  bitsOf v F.DB_CORECTL_REQUEST = 1 ∧ q = .debugPort ∧ (s.cpu (.core c)).dbgctl.getLsbD 0 = true ∧
    bitAt (s.fl F.DB_GRANTMASK_PMASK 0) (partOf s c) = true

theorem Wr.on_full_iff (q : Requester) (off : Nat) (v : Word) {f : Fld} (h : f.hi = f.lo) :
    (Wr.full q off v).on f = true ↔ bitsOf v f = 1 := by
  rw [Wr.on_full q off v h, bitsOf_one_bit v h]
  cases v.getLsbD f.lo <;> simp [b2n]

/-- The core after a write of its DB_CORECTL. -/
def corectlCpu (s : State) (w : Wr) (c : Fin 16) : Cpu :=
  let k := s.cpu (.core c)
  { k with
    stepBank := none
    dbgReq := k.dbgReq || (w.on F.DB_CORECTL_REQUEST && w.q == .debugPort && k.dbgctl.getLsbD 0
      && bitAt (s.fl F.DB_GRANTMASK_PMASK 0) (partOf s c)) }

theorem corectlWrite_eq {w : Wr} (hm : mayControl s w.q) (c : Fin 16) : corectlWrite s w c =
    let t := putFields s w [F.DB_CORECTL_STEP, F.DB_CORECTL_SKIP] c.val c.val
    t.setCpu (.core c) (corectlCpu t w c) := if_pos ((mayControl_iff w).mpr hm)

theorem corectlCpu_req {u : State} (hc : u.cpus = s.cpus) (hm : u.fl F.DB_GRANTMASK_PMASK 0 = s.fl F.DB_GRANTMASK_PMASK 0)
    (off : Nat) (c : Fin 16) : (corectlCpu u (.full q off v) c).dbgReq = true ↔
      (s.cpu (.core c)).dbgReq = true ∨ asksDebug s q c v := by
  have cpu : u.cpu (.core c) = s.cpu (.core c) := by rw [State.cpu, State.cpu, hc]
  simp only [corectlCpu, cpu, hm, partOf_congr hc, asksDebug, Bool.or_eq_true, Bool.and_eq_true, Wr.on_full_iff q off v (f := F.DB_CORECTL_REQUEST) rfl,
    Wr.q_full, beq_iff_eq, and_assoc]

/-- Core `c` and its DB_CORECTL after a write of it. -/
structure CorectlPut (s : State) (q : Requester) (v : Word) (c : Fin 16) (t : State) : Prop where
  step : t.fl F.DB_CORECTL_STEP c.val = bitsOf v F.DB_CORECTL_STEP
  skip : t.fl F.DB_CORECTL_SKIP c.val = bitsOf v F.DB_CORECTL_SKIP
  bank : (t.cpu (.core c)).stepBank = none
  req : (t.cpu (.core c)).dbgReq = true ↔ (s.cpu (.core c)).dbgReq = true ∨ asksDebug s q c v
  mem : t.mem = s.mem

theorem corectlPut_of {u : State} {off : Nat} (only : OnlyRegs s u) (step : u.fl F.DB_CORECTL_STEP c.val = bitsOf v F.DB_CORECTL_STEP)
    (skip : u.fl F.DB_CORECTL_SKIP c.val = bitsOf v F.DB_CORECTL_SKIP)
    (mask : u.fl F.DB_GRANTMASK_PMASK 0 = s.fl F.DB_GRANTMASK_PMASK 0) :
    CorectlPut s q v c (u.setCpu (.core c) (corectlCpu u (.full q off v) c)) where
  step := (State.fl_setCpu _ _ _ _ _).trans step
  skip := (State.fl_setCpu _ _ _ _ _).trans skip
  bank := by rw [State.cpu_setCpu_same]; rfl
  req := by rw [State.cpu_setCpu_same]; exact corectlCpu_req only.cpus mask off c
  mem := only.mem

theorem corectlWrite_puts (hm : mayControl s q) (off : Nat) (c : Fin 16) :
    CorectlPut s q v c (corectlWrite s (.full q off v) c) := by
  rw [corectlWrite_eq (w := .full q off v) hm]
  exact corectlPut_of (putFields_only s _ _ _ _) (putFields_replaces (by decide) (by simp) (by decide))
    (putFields_replaces (by decide) (by simp) (by decide)) (putFields_other s _ _ _ (by decide) 0)

theorem corectl_gives {i : Instr} {off : Nat} (hi : exec i s = rowWrite q off v (fun s w => corectlWrite s w c) s)
    (hg : target s off = .reg) (ho : openAt s off) (hm : mayControl s q) : Gives i s (CorectlPut s q v c) := by
  obtain ⟨t, power, run⟩ := rowWrite_open hg ho q v fun s w => corectlWrite s w c
  have put := corectlWrite_puts (v := v) ((mayControl_congr power.cpus power.flds).mpr hm) off c
  refine ⟨_, hi.trans run, put.step, put.skip, put.bank, put.req.trans ?_, put.mem.trans power.mem⟩
  rw [asksDebug, asksDebug, State.cpu, State.cpu, power.cpus, partOf_congr power.cpus, power.fl]

theorem corectl_refused {i : Instr} {off : Nat} (hi : exec i s = rowWrite q off v (fun s w => corectlWrite s w c) s)
    (hg : target s off = .reg) (ho : openAt s off) (hm : ¬ mayControl s q) : Gives i s fun t =>
      t.fl F.DB_CORECTL_STEP c.val = s.fl F.DB_CORECTL_STEP c.val ∧ t.fl F.DB_CORECTL_SKIP c.val = s.fl F.DB_CORECTL_SKIP c.val ∧
      t.cpus = s.cpus := by
  obtain ⟨t, power, run⟩ := rowWrite_open hg ho q v fun s w => corectlWrite s w c
  have side := ignoreWarn_side (s := t) [] (.full q off v)
  have e : corectlWrite t (.full q off v) c = ignoreWarn t (.full q off v) := if_neg fun h =>
    hm ((mayControl_congr power.cpus power.flds).mp ((mayControl_iff (.full q off v)).mp h))
  exact gives_of (hi.trans run) e ⟨(side.fl _ _ rfl).trans (power.fl _ _), (side.fl _ _ rfl).trans (power.fl _ _),
    side.cpus.trans power.cpus⟩

/-! #### The counters (23 R486) -/

theorem pcCntWrite_gives {n : Fin 32} (ho : openAt s (0xE06000008 + 0x10 * n.val)) (hm : isMachine s q = true) :
    Gives (.pcCntWrite q n v) s fun t => t.fl F.PC_CNT_COUNT n.val = bitsOf v F.PC_CNT_COUNT ∧
      t.fb F.PC_CNT_OVF n.val = (s.fb F.PC_CNT_OVF n.val && !v.getLsbD 48) ∧ t.mem = s.mem ∧ t.cpus = s.cpus := by
  obtain ⟨t, power, run⟩ := rowWrite_open (debug_reg s (by omega)) ho q v fun s w => pccntWrite s w n.val
  have only := putFields_only t (.full q (0xE06000008 + 0x10 * n.val) v) n.val n.val [F.PC_CNT_COUNT, F.PC_CNT_OVF]
  refine gives_of run (atMachine_of ((isMachine_congr power.cpus q).trans hm) _) ⟨putFields_replaces (by decide) (by simp) (by decide),
    ?_, only.mem.trans power.mem, only.cpus.trans power.cpus⟩
  rw [putFields_w1c (by decide) (by simp) rfl rfl (by decide) rfl, power.fb]
  rfl

theorem pcCntWrite_refused {n : Fin 32} (ho : openAt s (0xE06000008 + 0x10 * n.val)) (hm : isMachine s q = false) :
    Gives (.pcCntWrite q n v) s fun t => t.fl F.PC_CNT_COUNT n.val = s.fl F.PC_CNT_COUNT n.val := by
  obtain ⟨t, run, kept, -⟩ := machineWrite_refused (i := .pcCntWrite q n v) (act := fun s w => pccntWrite s w n.val) rfl
    (fun t w h => atMachine_ignored h _) (debug_reg s (by omega)) ho hm
  exact ⟨t, run, kept _ _ rfl⟩

/-- Settles O53: the end of a grant (`endGrant_ends`), DB_CATCH, DB_CORECTL and the counters. -/
theorem debugControl : Obligations.DebugControl := by
  intro s q c n v k grant runs ended full exact' some_ open_ catches key cores ctl may asks controls
  have reaches : target s (0xE05010000 + 0x100 * c.val) = .reg := debug_reg s (by omega)
  refine ⟨fun hl => ?_, fun hl => ?_, fun ho hm hl => ?_, fun ho h0 hp => ?_, fun ho hf hr hk => ?_, fun ho hf hk hs ha hc => ?_,
    fun ho hq cmd hcmd => ?_, fun ho hm cmd hcmd => ?_, fun ho hm cmd hcmd => ?_, pcCntWrite_gives, pcCntWrite_refused⟩
  · obtain ⟨t, run, h, untimed, timed⟩ := grantExpiry_gives hl c
    exact ⟨t, run, ⟨h.fields, h.step, h.skip, h.req, h.bank, ⟨h.run, h.held⟩, h.told, h.mem⟩, untimed, timed⟩
  · exact gives_of rfl (if_pos (not_not.mp hl)) rfl
  · obtain ⟨t, run, h⟩ := dbGrantRevoke_gives ho hm hl c
    exact ⟨t, run, h.fields, h.step, h.skip, h.req, h.bank, ⟨h.run, h.held⟩, h.told, h.mem⟩
  · exact dbGrantRevoke_refused ho h0 hp
  · obtain ⟨t, run, first, held, named, mem, warm⟩ := dbCatchRelease_gives ho hf.1 hf.2 hr hk c
    exact ⟨t, run, ⟨first, held⟩, named, mem, warm⟩
  · exact dbCatchDbr_gives ho hf.1 hf.2 hk hs ha hc
  · simp only [List.mem_cons, List.not_mem_nil, or_false] at hcmd
    rcases hcmd with rfl | rfl <;> exact dbCatch_refused rfl ho hq
  · simp only [controls, List.mem_cons, List.not_mem_nil, or_false] at hcmd
    rcases hcmd with rfl | rfl | rfl
    all_goals
      refine Exists.imp (fun t => And.imp_right fun put => ?_) (corectl_gives (v := v) rfl reaches ho hm)
      exact ⟨put.step, put.skip, put.bank, put.req, put.mem⟩
  · simp only [controls, List.mem_cons, List.not_mem_nil, or_false] at hcmd
    rcases hcmd with rfl | rfl | rfl <;> exact corectl_refused rfl reaches ho hm

end Sys2Proof.Machine
end

section
/-! ### A Steep table (O24) -/

namespace Sys2Proof.Machine

variable {s u t : State} {n : Nat}

/-- The table of `u` goes on at step `n`. -/
structure SteppedTo (u : State) (n : Nat) (t : State) : Prop where
  step : t.fl F.KT_STEEPSTAT_STEP 0 = n
  state : t.fl F.KT_STEEPSTAT_STATE 0 = u.fl F.KT_STEEPSTAT_STATE 0
  acc : t.fl F.KT_STEEPSTAT_ACC 0 = u.fl F.KT_STEEPSTAT_ACC 0
  mem : t.mem = u.mem

theorem steepTo_steps (hn : n < 32) (hop : u.fl F.KT_STEEP_OP n < 7) : SteppedTo u n (steepTo u n) := by
  have step : (u.setF F.KT_STEEPSTAT_STEP 0 n).fl F.KT_STEEPSTAT_STEP 0 = n :=
    (State.fl_setF_same _ _ _ _).trans (Nat.mod_eq_of_lt hn)
  have valid : ¬ 7 ≤ steepOp (u.setF F.KT_STEEPSTAT_STEP 0 n) := by
    rw [steepOp, step, State.fl_setF_id _ _ _ _ (by decide)]
    omega
  have e : steepTo u n = u.setF F.KT_STEEPSTAT_STEP 0 n := (if_neg (by omega)).trans (if_neg valid)
  rw [e]
  exact ⟨step, State.fl_setF_id _ _ _ _ (by decide), State.fl_setF_id _ _ _ _ (by decide), rfl⟩

theorem steepGo_steps (hrun : u.steep.run < 255) (hn : n < 32) (hop : u.fl F.KT_STEEP_OP n < 7) :
    SteppedTo u n (steepGo u n) := by
  have e : steepGo u n = steepTo { u with steep := { u.steep with run := u.steep.run + 1 } } n :=
    if_neg (Nat.not_le.mpr (Nat.succ_lt_succ hrun))
  rw [e]
  obtain ⟨step, state, acc, mem⟩ := steepTo_steps (u := { u with steep := { u.steep with run := u.steep.run + 1 } }) hn hop
  exact ⟨step, state, acc, mem⟩

/-- The step after the one at which the table stands. -/
theorem steepNext_steps {i : Nat} (hi : u.fl F.KT_STEEPSTAT_STEP 0 = i) (hrun : u.steep.run < 255) (hn : i + 1 < 32)
    (hop : u.fl F.KT_STEEP_OP (i + 1) < 7) : SteppedTo u (i + 1) (steepNext u) := by
  rw [steepNext, hi]
  exact steepGo_steps hrun hn hop

/-- What the operation of a step has done before the table goes on: no field of the table has changed. -/
theorem SteppedTo.after {l : List Fld} (h : SteppedTo u n t) (side : SideFrame (noteField l) s u)
    (hs : noteField l F.KT_STEEPSTAT_STATE = false) (ha : noteField l F.KT_STEEPSTAT_ACC = false) : SteppedTo s n t :=
  ⟨h.step, h.state.trans (side.fl _ _ hs), h.acc.trans (side.fl _ _ ha), h.mem.trans side.mem⟩

theorem steepNext_after (side : SideFrame (noteField []) s u) (hrun : s.steep.run < 255)
    (hn : s.fl F.KT_STEEPSTAT_STEP 0 + 1 < 32) (hop : s.fl F.KT_STEEP_OP (s.fl F.KT_STEEPSTAT_STEP 0 + 1) < 7) :
    SteppedTo s (s.fl F.KT_STEEPSTAT_STEP 0 + 1) (steepNext u) :=
  (steepNext_steps (side.fl _ _ rfl) (side.steep ▸ hrun) hn ((side.fl F.KT_STEEP_OP _ rfl).symm ▸ hop)).after side rfl rfl

/-- The table runs a step, and waits for nothing. -/
def SteepReady (s : State) : Prop :=
  1 ≤ s.fl F.KT_STEEPSTAT_STATE 0 ∧ s.fl F.KT_STEEPSTAT_STATE 0 ≤ 3 ∧ s.steep.fixed = false ∧ s.steep.wakeDom = none ∧
    s.steep.sleeping = none ∧ s.steep.run < 255

theorem steepAt_of {op : Nat} (h : SteepReady s) (hop : s.fl F.KT_STEEP_OP (s.fl F.KT_STEEPSTAT_STEP 0) = op) :
    steepAt s op = true := by
  obtain ⟨lo, hi, fixed, wake, sleep, -⟩ := h
  simp [steepAt, steepRuns, steepOp, lo, hi, fixed, wake, sleep, hop]

theorem SteepReady.run (h : SteepReady s) : s.steep.run < 255 := h.2.2.2.2.2

theorem steepActs_of {a : Nat} (h : SteepReady s) (hop : s.fl F.KT_STEEP_OP (s.fl F.KT_STEEPSTAT_STEP 0) = 4)
    (ha : s.fl F.KT_STEEP_ARG (s.fl F.KT_STEEPSTAT_STEP 0) = a) : steepActs s a = true := by
  rw [steepActs, steepAt_of h hop, ha, beq_self_eq_true, Bool.true_and]

/-! #### KT_STEEPCTL -/

section
variable {c : Fin 16} {v : Word}

def steepctlFields : List Fld :=
  [F.KT_STEEPCTL_COLD, F.KT_STEEPCTL_RECOV, F.KT_STEEPCTL_CSTEP, F.KT_STEEPCTL_RSTEP, F.KT_STEEPCTL_TSTEP]

def steepctlPut (s : State) (c : Fin 16) (v : Word) : State := putFields s (.full (.core c) 0xE00003000 v) steepctlFields 0 0

/-- A table that starts at a valid operation. -/
theorem steepBegin_starts {mode : Nat} (hn : n < 32) (hm : mode < 8) (hop : u.fl F.KT_STEEP_OP n < 7) :
    (steepBegin u mode n).fl F.KT_STEEPSTAT_STATE 0 = mode ∧ (steepBegin u mode n).fl F.KT_STEEPSTAT_STEP 0 = n := by
  have step : (steepStart u mode n false).fl F.KT_STEEPSTAT_STEP 0 = n :=
    (State.fl_setF_same _ _ _ _).trans (Nat.mod_eq_of_lt hn)
  have state : (steepStart u mode n false).fl F.KT_STEEPSTAT_STATE 0 = mode :=
    (State.fl_setF_id _ _ _ _ (by decide)).trans ((State.fl_setF_same _ _ _ _).trans (Nat.mod_eq_of_lt hm))
  have op : (steepStart u mode n false).fl F.KT_STEEP_OP n = u.fl F.KT_STEEP_OP n :=
    (State.fl_setF_id _ _ _ _ (by decide)).trans (State.fl_setF_id _ _ _ _ (by decide))
  have e : steepBegin u mode n = steepStart u mode n false := if_neg (by rw [steepOp, step, op]; omega)
  rw [e]
  exact ⟨state, step⟩

theorem ktSteepctlStart_gives (h0 : isRing0 s (.core c) = true)
    (hst : s.fl F.KT_STEEPSTAT_STATE 0 = 0 ∨ s.fl F.KT_STEEPSTAT_STATE 0 = 4) (hstart : v.getLsbD 17 = true)
    (hack : v.getLsbD 18 = false) (hop : s.fl F.KT_STEEP_OP (bitsOf v F.KT_STEEPCTL_TSTEP) < 7) :
    Gives (.ktSteepctlStart (.core c) v) s fun t => t.fl F.KT_STEEPSTAT_STATE 0 = 2 ∧
      t.fl F.KT_STEEPSTAT_STEP 0 = bitsOf v F.KT_STEEPCTL_TSTEP := by
  have tstep : (steepctlPut s c v).fl F.KT_STEEPCTL_TSTEP 0 = bitsOf v F.KT_STEEPCTL_TSTEP :=
    putFields_replaces (by decide) (by simp [steepctlFields]) (by decide)
  have ops : (steepctlPut s c v).fl F.KT_STEEP_OP (bitsOf v F.KT_STEEPCTL_TSTEP) < 7 :=
    by
    rw [steepctlPut, putFields_other s _ _ _ (by decide)]
    exact hop
  have writes : steepctlWrite s (.full (.core c) 0xE00003000 v) =
      steepBegin (steepctlPut s c v) 2 ((steepctlPut s c v).fl F.KT_STEEPCTL_TSTEP 0) := by
    have ack : (Wr.full (.core c) 0xE00003000 v).on F.KT_STEEPCTL_ACK = false := (Wr.on_full _ _ _ rfl).trans hack
    have start : (Wr.full (.core c) 0xE00003000 v).on F.KT_STEEPCTL_START = true := (Wr.on_full _ _ _ rfl).trans hstart
    rw [steepctlWrite, atRing0_of h0]
    simp only [ack, start, Bool.false_eq_true, if_false, if_true, true_and]
    exact if_neg (by omega)
  refine gives_of rfl writes ?_
  rw [tstep]
  exact steepBegin_starts (bitsOf_lt v F.KT_STEEPCTL_TSTEP) (by decide) ops

/-- The table of `u` after an acknowledgement (18 R400). -/
def steepAcked (u : State) : State :=
  let u := u.setF F.KT_STEEPSTAT_STATE 0 0
  { u with steep := { u.steep with fixed := false, wakeDom := none, sleeping := none } }

theorem steepAcked_idle (u : State) : (steepAcked u).fl F.KT_STEEPSTAT_STATE 0 = 0 ∧ (steepAcked u).steep.sleeping = none :=
  ⟨State.fl_setF_same u F.KT_STEEPSTAT_STATE 0 0, rfl⟩

theorem ktSteepctlAck_gives (h0 : isRing0 s (.core c) = true) (hack : v.getLsbD 18 = true) :
    Gives (.ktSteepctlAck (.core c) v) s fun t => t.fl F.KT_STEEPSTAT_STATE 0 = 0 ∧ t.steep.sleeping = none := by
  have ack : (Wr.full (.core c) 0xE00003000 v).on F.KT_STEEPCTL_ACK = true := (Wr.on_full _ _ _ rfl).trans hack
  exact gives_of rfl ((atRing0_of h0 _).trans (if_pos ack)) (steepAcked_idle _)

end

/-! #### The operations -/

theorem steepEnd_gives (h : SteepReady s) (hop : s.fl F.KT_STEEP_OP (s.fl F.KT_STEEPSTAT_STEP 0) = 0) :
    Gives .steepEnd s fun t => t.fl F.KT_STEEPSTAT_STATE 0 = 4 ∧ t.mem = s.mem :=
  gives_of rfl (if_pos (steepAt_of h hop)) ⟨State.fl_setF_same _ _ _ _, rfl⟩

theorem wakeDom_steep (s : State) (d : Nat) : (wakeDom s d).steep = s.steep := by
  unfold wakeDom
  split <;> rfl

theorem wakeDom_flds (s : State) (d : Nat) : (wakeDom s d).flds = s.flds := by
  unfold wakeDom
  split <;> rfl

theorem wakeDom_waking {d : Nat} (h : s.dom d ≠ 0) (hd : d ≤ 46) : mget false (wakeDom s d).pwr.waking d = true := by
  rw [wakeDom, if_neg (by simp [h, hd])]
  exact mget_mset_same false s.pwr.waking d true

theorem steepWake_gives (h : SteepReady s) (hop : s.fl F.KT_STEEP_OP (s.fl F.KT_STEEPSTAT_STEP 0) = 1) :
    let arg := s.fl F.KT_STEEP_ARG (s.fl F.KT_STEEPSTAT_STEP 0)
    Gives .steepWake s fun t => t.steep.wakeDom = some arg ∧
      (s.dom arg ≠ 0 → arg ≤ 46 → mget false t.pwr.waking arg = true) ∧
      t.fl F.KT_STEEPSTAT_STATE 0 = s.fl F.KT_STEEPSTAT_STATE 0 := by
  intro arg
  refine gives_of rfl (if_pos (steepAt_of h hop)) ⟨?_, fun hd ha => wakeDom_waking hd ha, State.fl_congr (wakeDom_flds _ arg) _ _⟩
  exact congrArg Steep.wakeDom (wakeDom_steep _ arg)

theorem steepWakeDone_gives {d : Nat} (hw : s.steep.wakeDom = some d) (hrun : s.steep.run < 255) :
    (d ≤ 46 → s.steep.failed = false → powered s d = true → heldInReset s d = false → s.dom d = 0 →
      s.fl F.KT_STEEPSTAT_STEP 0 + 1 < 32 → s.fl F.KT_STEEP_OP (s.fl F.KT_STEEPSTAT_STEP 0 + 1) < 7 →
      Gives .steepWakeDone s (SteppedTo s (s.fl F.KT_STEEPSTAT_STEP 0 + 1))) ∧
    (46 < d ∨ s.steep.failed = true ∨ powered s d = false ∨ heldInReset s d = true →
      s.fl F.KT_STEEP_A (s.fl F.KT_STEEPSTAT_STEP 0) < 32 →
      s.fl F.KT_STEEP_OP (s.fl F.KT_STEEP_A (s.fl F.KT_STEEPSTAT_STEP 0)) < 7 →
      Gives .steepWakeDone s (SteppedTo s (s.fl F.KT_STEEP_A (s.fl F.KT_STEEPSTAT_STEP 0)))) := by
  constructor
  · intro hd failed on held dom hn hop
    refine gives_of rfl (u := steepNext { s with steep := { s.steep with wakeDom := none, failed := false } }) ?_ ?_
    · simp only [hw, failed, on, held, dom]
      exact (if_neg (by simp [hd])).trans (if_pos trivial)
    · obtain ⟨step, state, acc, mem⟩ := steepNext_steps (u := { s with steep := { s.steep with wakeDom := none, failed := false } })
        rfl hrun hn hop
      exact ⟨step, state, acc, mem⟩
  · intro hbad hn hop
    refine gives_of rfl (u := steepGo { s with steep := { s.steep with
      wakeDom := none, failed := false, woken := s.steep.woken.filter fun e => e.1 != d } }
        (s.fl F.KT_STEEP_A (s.fl F.KT_STEEPSTAT_STEP 0))) ?_ ?_
    · simp only [hw]
      exact if_pos (by simpa [or_assoc] using hbad)
    · obtain ⟨step, state, acc, mem⟩ := steepGo_steps (u := { s with steep := { s.steep with
        wakeDom := none, failed := false, woken := s.steep.woken.filter fun e => e.1 != d } }) hrun hn hop
      exact ⟨step, state, acc, mem⟩

theorem steepSample_gives (h : SteepReady s) (hop : s.fl F.KT_STEEP_OP (s.fl F.KT_STEEPSTAT_STEP 0) = 2)
    (ha : s.fl F.KT_STEEP_ARG (s.fl F.KT_STEEPSTAT_STEP 0) = 0x31) (hi : s.fl F.KT_STEEPSTAT_STEP 0 < 31)
    (hop' : s.fl F.KT_STEEP_OP (s.fl F.KT_STEEPSTAT_STEP 0 + 1) < 7) :
    Gives .steepSample s fun t => t.fl F.KT_STEEPSTAT_ACC 0 = s.fl F.KT_SUPPLY_PG 0 % 65536 ∧
      t.fl F.KT_STEEPSTAT_STEP 0 = s.fl F.KT_STEEPSTAT_STEP 0 + 1 := by
  have sampled : SteppedTo (s.setF F.KT_STEEPSTAT_ACC 0 (s.fl F.KT_SUPPLY_PG 0)) (s.fl F.KT_STEEPSTAT_STEP 0 + 1)
      (steepNext (s.setF F.KT_STEEPSTAT_ACC 0 (s.fl F.KT_SUPPLY_PG 0))) :=
    steepNext_steps (State.fl_setF_id _ _ _ _ (by decide)) h.run (by omega)
      (by rw [State.fl_setF_id _ _ _ _ (by decide)]; exact hop')
  refine gives_of rfl (u := steepNext (s.setF F.KT_STEEPSTAT_ACC 0 (s.fl F.KT_SUPPLY_PG 0))) ?_
    ⟨sampled.acc.trans (State.fl_setF_same _ _ _ _), sampled.step⟩
  rw [if_pos (steepAt_of h hop), ha]
  rfl

theorem steepCompare_gives (h : SteepReady s) (hop : s.fl F.KT_STEEP_OP (s.fl F.KT_STEEPSTAT_STEP 0) = 3) :
    let i := s.fl F.KT_STEEPSTAT_STEP 0
    let within := signed16 (s.fl F.KT_STEEP_LO i) ≤ signed16 (s.fl F.KT_STEEPSTAT_ACC 0) ∧
      signed16 (s.fl F.KT_STEEPSTAT_ACC 0) ≤ signed16 (s.fl F.KT_STEEP_HI i)
    (within → s.fl F.KT_STEEP_A i < 32 → s.fl F.KT_STEEP_OP (s.fl F.KT_STEEP_A i) < 7 →
      Gives .steepCompare s (SteppedTo s (s.fl F.KT_STEEP_A i))) ∧
    (¬ within → s.fl F.KT_STEEP_B i < 32 → s.fl F.KT_STEEP_OP (s.fl F.KT_STEEP_B i) < 7 →
      Gives .steepCompare s (SteppedTo s (s.fl F.KT_STEEP_B i))) :=
  ⟨fun hw hn hop' => gives_of rfl ((if_pos (steepAt_of h hop)).trans (if_pos hw)) (steepGo_steps h.run hn hop'),
    fun hw hn hop' => gives_of rfl ((if_pos (steepAt_of h hop)).trans (if_neg hw)) (steepGo_steps h.run hn hop')⟩

theorem railsBegin_sup (s : State) : ∃ x, railsBegin s = { s with sup := x } := by
  unfold railsBegin
  split
  · exact ⟨_, rfl⟩
  · exact ⟨_, rfl⟩

theorem steepActContinue_gives (h : SteepReady s) (hop : s.fl F.KT_STEEP_OP (s.fl F.KT_STEEPSTAT_STEP 0) = 4)
    (ha : s.fl F.KT_STEEP_ARG (s.fl F.KT_STEEPSTAT_STEP 0) = 0) :
    Gives .steepActContinue s fun t => t.fl F.KT_STEEPSTAT_STATE 0 = 4 ∧
      (s.fl F.KT_STEEPSTAT_STATE 0 = 1 → t.steep.holds = false) := by
  by_cases cold : s.fl F.KT_STEEPSTAT_STATE 0 = 1
  · obtain ⟨x, e⟩ := railsBegin_sup (steepRelease (steepDone s))
    exact gives_of rfl ((if_pos (steepActs_of h hop ha)).trans ((if_pos cold).trans e))
      ⟨State.fl_setF_same _ F.KT_STEEPSTAT_STATE 0 4, fun _ => rfl⟩
  · exact gives_of rfl ((if_pos (steepActs_of h hop ha)).trans (if_neg cold))
      ⟨State.fl_setF_same _ F.KT_STEEPSTAT_STATE 0 4, fun h1 => absurd h1 cold⟩

theorem steepSleep_gives (h : SteepReady s) (hop : s.fl F.KT_STEEP_OP (s.fl F.KT_STEEPSTAT_STEP 0) = 5)
    (hw : s.steep.woken = []) : Gives .steepSleep s fun t =>
      t.steep.sleeping = some (max 1 (s.fl F.KT_STEEP_ARG (s.fl F.KT_STEEPSTAT_STEP 0))) ∧
      t.fl F.KT_STEEPSTAT_STATE 0 = s.fl F.KT_STEEPSTAT_STATE 0 := by
  refine gives_of rfl (if_pos (steepAt_of h hop)) ⟨rfl, State.fl_congr ?_ _ _⟩
  rw [hw]
  rfl

theorem steepSleepExpiry_gives {ms : Nat} (hs : s.steep.sleeping = some ms) (hf : s.steep.fixed = false)
    (lo : 1 ≤ s.fl F.KT_STEEPSTAT_STATE 0) (hi : s.fl F.KT_STEEPSTAT_STATE 0 ≤ 3)
    (hn : s.fl F.KT_STEEPSTAT_STEP 0 + 1 < 32) (hop : s.fl F.KT_STEEP_OP (s.fl F.KT_STEEPSTAT_STEP 0 + 1) < 7) :
    Gives .steepSleepExpiry s (SteppedTo s (s.fl F.KT_STEEPSTAT_STEP 0 + 1)) := by
  have woken := steepTo_steps (u := { s with steep := { s.steep with sleeping := none } }) hn hop
  refine gives_of rfl (u := steepTo { s with steep := { s.steep with sleeping := none } } (s.fl F.KT_STEEPSTAT_STEP 0 + 1)) ?_
    ⟨woken.step, woken.state, woken.acc, woken.mem⟩
  have runs : steepRuns { s with steep := { s.steep with sleeping := none } } = true := by
    rw [steepRuns, Bool.and_eq_true]
    exact ⟨decide_eq_true lo, decide_eq_true hi⟩
  simp only [hs, hf, Bool.false_eq_true, if_false]
  exact if_pos runs

/-- Settles O24: each operation at which a table stands, and KT_STEEPCTL; a table goes on at a valid step (`SteppedTo`). -/
theorem steepTable : Obligations.SteepTable := by
  intro s c v q i st step acc opOk runs op arg goes signed
  have go {cmd : Instr} {n : Nat} (h : n < 32 → s.fl F.KT_STEEP_OP n < 7 → Gives cmd s (SteppedTo s n)) : goes cmd n :=
    fun hn hop => (h hn hop).imp fun t => And.imp_right fun stepped => ⟨stepped.step, stepped.state, stepped.mem⟩
  refine ⟨ktSteepctlStart_gives, ktSteepctlAck_gives, fun h => steepEnd_gives h, fun h => steepWake_gives h,
    fun d hd hrun => ⟨fun h1 h2 h3 h4 h5 => go ((steepWakeDone_gives hd hrun).1 h1 h2 h3 h4 h5),
      fun h => go ((steepWakeDone_gives hd hrun).2 h)⟩,
    fun h => steepSample_gives h, fun h hop => ⟨fun hw => go ((steepCompare_gives h hop).1 hw), fun hw => go ((steepCompare_gives h hop).2 hw)⟩,
    fun h => steepActContinue_gives h, fun h hop ha => go fun hn hop' => ?_, fun h hop ha => go fun hn hop' => ?_,
    fun h => steepSleep_gives h, fun n hs hf lo hi => go (steepSleepExpiry_gives hs hf lo hi),
    fun h hop => go fun hn hop' => gives_of rfl (if_pos (steepAt_of h hop)) (steepGo_steps (SteepReady.run h) hn hop')⟩
  · exact gives_of rfl (if_pos (steepActs_of h hop ha)) (steepNext_after (raiseSource_side _ _ _) (SteepReady.run h) hn hop')
  · exact gives_of rfl (if_pos (steepActs_of h hop ha)) (steepNext_after (dregsFree_side _ _ _ _ _) (SteepReady.run h) hn hop')

end Sys2Proof.Machine
end

section
/-! ### Strainer regions and countersigned programs (O30) -/

namespace Sys2Proof.Machine

variable {s t : State}

/-! #### A list of fields put one after the other -/

section
variable {step : State → Fld × Nat → State} {get : State → Fld → Nat}
  (other : ∀ t v (g : Fld), v.1.id ≠ g.id → get (step t v) g = get t g)
include other

theorem foldl_otherField {vs : List (Fld × Nat)} {g : Fld} (hg : ∀ v ∈ vs, v.1.id ≠ g.id) (s : State) :
    get (vs.foldl step s) g = get s g := by
  induction vs generalizing s with
  | nil => rfl
  | cons v vs ih =>
    exact (ih (fun x hx => hg x (List.mem_cons_of_mem v hx)) _).trans (other s v g (hg v List.mem_cons_self))

theorem foldl_ownField {vs : List (Fld × Nat)} (hn : (vs.map (·.1.id)).Nodup)
    (own : ∀ t v, get (step t v) v.1 = v.2 % 2 ^ v.1.width) {v : Fld × Nat} (hv : v ∈ vs) (s : State) :
    get (vs.foldl step s) v.1 = v.2 % 2 ^ v.1.width := by
  induction vs generalizing s with
  | nil => cases hv
  | cons w vs ih =>
    obtain ⟨hw, hn⟩ := List.nodup_cons.mp hn
    rcases List.mem_cons.mp hv with rfl | hv
    · exact (foldl_otherField other (fun x hx e => hw (List.mem_map.mpr ⟨x, hx, e⟩)) (step s v)).trans (own s v)
    · exact ih hn hv _

end

/-! #### The fields of a region (16 R355) -/

/-- Whatever holds of the four kinds of region holds of every one. -/
theorem regionFields_cases {P : List (Fld × Nat) → Prop} (x : Nat) (hd : P (regionFields 0)) (hs : P (regionFields 4))
    (hi : P (regionFields 8)) (hw : P (regionFields 40)) : P (regionFields x) := by
  by_cases h40 : x < 40
  · by_cases h4 : x < 4
    · rwa [show regionFields x = regionFields 0 by simp only [regionFields, h40, strainFlds, h4]; rfl]
    · by_cases h8 : x < 8
      · rwa [show regionFields x = regionFields 4 by simp only [regionFields, h40, strainFlds, h4, h8]; rfl]
      · rwa [show regionFields x = regionFields 8 by simp only [regionFields, h40, strainFlds, h4, h8]; rfl]
  · rwa [show regionFields x = regionFields 40 by simp only [regionFields, h40]; rfl]

/-- The fields of a region are fields of their own. -/
theorem regionFields_nodup (x : Nat) : ((regionFields x).map (·.1.id)).Nodup := by
  refine regionFields_cases (P := fun l => (l.map (·.1.id)).Nodup) x ?_ ?_ ?_ ?_ <;> decide

def regionApart : List Fld := [F.MB_STAT_STATE, F.IF_STAT_CSIGN, F.IF_STAT_HASHV]

/-- No field of a region is one of the mailbox's, an Infuser's status or a record's. -/
theorem regionFields_apart (x : Nat) : ∀ f ∈ regionFields x, noteField regionApart f.1 = false := by
  refine regionFields_cases (P := fun l => ∀ f ∈ l, noteField regionApart f.1 = false) x ?_ ?_ ?_ ?_ <;> decide

/-! #### Putting a region -/

variable {x e : Nat} {vs : List (Fld × Nat)}

theorem regionPut_shadow (h : s.epochOn = true) (e : Nat) (vs : List (Fld × Nat)) :
    regionPut s e vs = vs.foldl (fun s v => s.setSh v.1 e v.2) s := if_pos h

/-- The fields of a region made active at once. -/
def regionActive (s : State) (e : Nat) (vs : List (Fld × Nat)) : State :=
  vs.foldl (fun s v => (s.setF v.1 e v.2).dropSh v.1 e) s

theorem windowBuckets_flds (old s : State) : (windowBuckets old s).flds = s.flds :=
  foldl_keeps State.flds (fun t a => by unfold windowBucket; split <;> rfl) _ s

theorem regionPut_active (h : s.epochOn = false) (e : Nat) (vs : List (Fld × Nat)) :
    (regionPut s e vs).flds = (regionActive s e vs).flds := by
  rw [regionPut, if_neg (by simp [h])]
  exact windowBuckets_flds s (regionActive s e vs)

theorem regionActive_own (hn : (vs.map (·.1.id)).Nodup) {v : Fld × Nat} (hv : v ∈ vs) :
    (regionActive s e vs).fl v.1 e = v.2 % 2 ^ v.1.width :=
  foldl_ownField (get := fun s f => s.fl f e) (step := fun s v => (s.setF v.1 e v.2).dropSh v.1 e)
    (fun t v _ h => State.fl_setF_id t e e v.2 h) hn (fun t v => State.fl_setF_same t v.1 e v.2) hv s

theorem regionShadow_own (hn : (vs.map (·.1.id)).Nodup) {v : Fld × Nat} (hv : v ∈ vs) :
    (vs.foldl (fun s v => s.setSh v.1 e v.2) s).shv v.1 e = v.2 % 2 ^ v.1.width :=
  foldl_ownField (get := fun s f => s.shv f e) (fun t v _ h => shv_setSh_id t e e v.2 h) hn
    (fun t v => State.shv_setSh_same t v.1 e v.2) hv s

theorem regionShadow_flds (s : State) (e : Nat) (vs : List (Fld × Nat)) :
    (vs.foldl (fun s v => s.setSh v.1 e v.2) s).flds = s.flds := by
  induction vs generalizing s with
  | nil => rfl
  | cons v vs ih => exact ih _

/-- A field that is none of the region's keeps its active value. -/
theorem regionPut_other {g : Fld} (hg : ∀ v ∈ vs, v.1.id ≠ g.id) (j : Nat) : (regionPut s e vs).fl g j = s.fl g j := by
  cases h : s.epochOn with
  | true => rw [regionPut_shadow h, State.fl_congr (regionShadow_flds s e vs)]
  | false =>
    rw [State.fl_congr (regionPut_active h e vs)]
    exact foldl_otherField (get := fun s f => s.fl f j) (step := fun s v => (s.setF v.1 e v.2).dropSh v.1 e) (fun t v _ h => State.fl_setF_id t e j v.2 h) hg s

theorem regionPut_kept (hv : ∀ v ∈ vs, ∃ f ∈ regionFields x, f.1 = v.1) {g : Fld} (hg : noteField regionApart g = true) (j : Nat) :
    (regionPut s e vs).fl g j = s.fl g j := by
  refine regionPut_other (fun v h same => ?_) j
  obtain ⟨f, hf, e⟩ := hv v h
  have apart := regionFields_apart x f hf
  rw [noteField_byId _ f.1 g ((congrArg Fld.id e).trans same), hg] at apart
  cases apart

section
variable {ctl range rate : Nat}

/-- What the three registers bring to a field of a region. -/
def regionValue (ctl range rate : Nat) (f : Fld × Nat) : Nat :=
  slice (match f.2 with | 0 => ctl | 1 => range | _ => rate) f.1.hi f.1.lo

theorem regionValue_mod (ctl range rate : Nat) (f : Fld × Nat) :
    regionValue ctl range rate f % 2 ^ f.1.width = regionValue ctl range rate f := Nat.mod_mod _ _

theorem regionValues_nodup (x ctl range rate : Nat) : ((regionValues x ctl range rate).map (·.1.id)).Nodup := by
  rw [regionValues, List.map_map]
  exact regionFields_nodup x

theorem regionValues_fields (x ctl range rate : Nat) : ∀ v ∈ regionValues x ctl range rate, ∃ f ∈ regionFields x, f.1 = v.1 := by
  intro v hv
  obtain ⟨f, hf, rfl⟩ := List.mem_map.mp hv
  exact ⟨f, hf, rfl⟩

theorem mem_regionValues {f : Fld × Nat} (hf : f ∈ regionFields x) :
    (f.1, regionValue ctl range rate f) ∈ regionValues x ctl range rate := List.mem_map_of_mem hf

theorem regionPut_values (h : s.epochOn = false) {f : Fld × Nat} (hf : f ∈ regionFields x) :
    (regionPut s e (regionValues x ctl range rate)).fl f.1 e = regionValue ctl range rate f := by
  rw [State.fl_congr (regionPut_active h e _)]
  exact (regionActive_own (regionValues_nodup ..) (mem_regionValues hf)).trans (regionValue_mod ..)

theorem regionPut_shadows (h : s.epochOn = true) {f : Fld × Nat} (hf : f ∈ regionFields x) :
    (regionPut s e (regionValues x ctl range rate)).shv f.1 e = regionValue ctl range rate f := by
  rw [regionPut_shadow h]
  exact (regionShadow_own (regionValues_nodup ..) (mem_regionValues hf)).trans (regionValue_mod ..)

theorem regionPut_unpoured (h : s.epochOn = true) (f : Fld) (i : Nat) : (regionPut s e vs).fl f i = s.fl f i := by
  rw [regionPut_shadow h, State.fl_congr (regionShadow_flds s e vs)]

end

/-! #### Responses -/

theorem respond_sh (s : State) (n status : Nat) (body : List Byte) : (respond s n status body).sh = s.sh := by
  have put (t : State) (b : List Byte) (a : Nat) : (writeList t a b).sh = t.sh := by
    obtain ⟨m, h⟩ := writeList_only b t a
    rw [h]
  have done (t : State) : (mbDone t n).sh = t.sh := by
    unfold mbDone
    dsimp only
    split
    · rw [raiseSource_sh, State.setF_sh]
    · rfl
  have bytes (t : State) (a n v : Nat) : (writeBytes t a n v).sh = t.sh := by
    obtain ⟨m, h⟩ := writeBytes_only n t a v
    rw [h]
  rw [respond, done, put, bytes, bytes]

/-- A response changes no field of a region. -/
theorem respond_regionField {f : Fld × Nat} (hf : f ∈ regionFields x) (s : State) (n status : Nat) (body : List Byte) (i : Nat) :
    (respond s n status body).fl f.1 i = s.fl f.1 i :=
  (respond_kept s n status body).1 f.1 i (noteField_of_subset (by simp [regionApart]) f.1 (regionFields_apart x f hf))

section
variable {n : Fin 8} {body : RegionBody} {k : Nat}

theorem strainerSet_gives (hb : busyWith s n.val cmdStrainerSet) (hp : policyAllows s n.val body.strainer.val = true)
    (hk : regionIndex body.strainer.val body.region.val = some k) : ∃ b, exec (.strainerSet n body) s = .next
      (respond (regionPut s k (regionValues body.strainer.val body.ctl.toNat body.range.toNat body.rate.toNat)) n.val stOk b) := by
  have run : exec (.strainerSet n body) s = .next (mbJob s n.val cmdStrainerSet _) := rfl
  rw [mbJob_busy hb] at run
  simp only [hk, hp, if_true] at run
  exact ⟨_, run⟩

theorem strainerSet_denied (hb : busyWith s n.val cmdStrainerSet) (hp : policyAllows s n.val body.strainer.val = false)
    (hk : (regionIndex body.strainer.val body.region.val).isSome = true) :
    Gives (.strainerSet n body) s fun t => replied t n.val stDenied ∧ t.sh = s.sh := by
  obtain ⟨k, hk⟩ := Option.isSome_iff_exists.mp hk
  have run : exec (.strainerSet n body) s = .next (mbJob s n.val cmdStrainerSet _) := rfl
  rw [mbJob_busy hb] at run
  simp only [hk, hp] at run
  exact ⟨_, run, respond_replied s n.val (by decide) _, respond_sh ..⟩

end

/-! #### Clearing a violation record -/

def vstatFields : List Fld := [F.ST_VSTAT_COUNT, F.ST_VSTAT_CLASS, F.ST_VSTAT_PART, F.ST_VSTAT_KIND, F.ST_VSTAT_SAFETY,
  F.ST_VSTAT_NOMATCH, F.ST_VSTAT_REGION, F.ST_VADDR_ADDR]

theorem vstat_cleared (s : State) (x : Nat) {f : Fld} (hf : f ∈ vstatFields) :
    (vstatFields.foldl (fun s f => s.setF f x 0) s).fl f x = 0 := by
  refine foldl_settles_of_mem (P := fun t f => t.fl f x = 0) (fun t f _ => ?_) (fun t f hf g hg h => ?_) hf s
  · exact (State.fl_setF_same t f x 0).trans (Nat.zero_mod _)
  · by_cases e : f = g
    · subst e
      exact (State.fl_setF_same t f x 0).trans (Nat.zero_mod _)
    · have apart : ∀ f ∈ vstatFields, ∀ g ∈ vstatFields, f ≠ g → f.id ≠ g.id := by decide
      exact (State.fl_setF_id t x x 0 (apart f hf g hg e)).trans h

theorem strainerClear_gives {n : Fin 8} {x : Fin 72} (hb : busyWith s n.val cmdStrainerClear)
    (hp : policyAllows s n.val x.val = true) (hx : x.val < 5 ∨ 8 ≤ x.val) :
    Gives (.strainerClear n x) s fun t => replied t n.val stOk ∧ t.fl F.ST_VSTAT_COUNT x.val = 0 ∧ t.fl F.ST_VADDR_ADDR x.val = 0 := by
  have kept := (respond_kept (vstatFields.foldl (fun s f => s.setF f x.val 0) s) n.val stOk []).1
  refine gives_of rfl ((mbJob_busy hb _).trans ((if_neg (by omega)).trans (if_pos hp)))
    ⟨respond_replied _ n.val (by decide) _, (kept _ _ rfl).trans (vstat_cleared s _ (by decide)),
      (kept _ _ rfl).trans (vstat_cleared s _ (by decide))⟩

/-! #### Countersigning (16 R361) -/

section
variable {n : Fin 8} {i : Fin 32}

theorem countersign_gives {base : BitVec 16} {size : Nat} (hb : busyWith s n.val cmdCountersign) (hk : keysRefused s = false)
    (h0 : 0 < size) (hs : base.toNat + size ≤ 2 ^ 16) (hi : s.fl F.IF_STAT_STATE i.val = 0)
    (hc : s.fb F.IF_STAT_CSIGN i.val = false) : Gives (.countersign n i base size) s fun t =>
      t.fb F.IF_STAT_CSIGN i.val = true ∧ t.fl F.MB_STAT_STATE n.val = 2 ∧ t.mem = s.mem := by
  have run : exec (.countersign n i base size) s = .next (mbJob s n.val cmdCountersign _) := rfl
  rw [mbJob_busy hb, if_neg (by omega), if_neg (by simp [hk]), if_neg (by simp [hi, hc])] at run
  refine ⟨_, run, ?_, ?_, (regionPut_side _ _ _).mem⟩
  · rw [State.fb, regionPut_kept (regionValues_fields _ _ _ _) rfl]
    exact State.fb_setB_same _ _ _ true (by decide)
  · rw [regionPut_kept (regionValues_fields _ _ _ _) rfl]
    exact (State.fl_setB_id _ _ _ _ (by decide)).trans hb.1

/-- The countersigning is over, and region 0 has its former fields to take again. -/
def csignOver (s : State) (i : Nat) : State :=
  onCaddy (s.setB F.IF_STAT_CSIGN i false) fun c => { c with formerR0 := mset [] c.formerR0 i [] }

theorem csignOver_csign (s : State) (i : Nat) : (csignOver s i).fb F.IF_STAT_CSIGN i = false :=
  State.fb_setB_same s F.IF_STAT_CSIGN i false (by decide)

theorem csignOver_keys (s : State) (i : Nat) : keysRefused (csignOver s i) = keysRefused s := by
  have lc : (csignOver s i).fl F.LC_STATE_STATE 0 = s.fl F.LC_STATE_STATE 0 :=
    State.fl_setB_id (f := F.IF_STAT_CSIGN) s i 0 false (by decide)
  rw [keysRefused, keysRefused, lc]

theorem countersignComplete_run (hb : busyWith s n.val cmdCountersign) (hf : mget [] s.caddy.formerR0 i.val ≠ [])
    (hp : ∀ f ∈ (regionFields (8 + i.val)).map (·.1), mget 0 s.sh (fkey f (4 * i.val)) = 0) (ok : Bool) :
    ∃ x vs, (∀ v ∈ vs, ∃ f ∈ regionFields (8 + i.val), f.1 = v.1) ∧ exec (.countersignComplete n i ok) s = .next
      (if ok && !keysRefused s then respond (putInf ((csignOver s i.val).setB F.IF_STAT_HASHV i.val true) i.val x) n.val stOk []
       else respond (regionPut (csignOver s i.val) (4 * i.val) vs) n.val stBadSignature []) := by
  have run : exec (.countersignComplete n i ok) s = .next (mbJob s n.val cmdCountersign _) := rfl
  have ready : ¬ (((mget [] s.caddy.formerR0 i.val).isEmpty ||
      (regionFields (8 + i.val)).any fun f => mget 0 s.sh (fkey f.1 (4 * i.val)) != 0) = true) := by
    simpa [hf] using hp
  rw [mbJob_busy hb, if_neg ready] at run
  rw [← csignOver_keys s i.val]
  refine ⟨_, _, fun v hv => ?_, run⟩
  obtain ⟨p, hp, rfl⟩ := List.mem_map.mp hv
  exact ⟨p.1, (List.of_mem_zip hp).1, rfl⟩

theorem countersignComplete_gives (hb : busyWith s n.val cmdCountersign) (hf : mget [] s.caddy.formerR0 i.val ≠ [])
    (hp : ∀ f ∈ (regionFields (8 + i.val)).map (·.1), mget 0 s.sh (fkey f (4 * i.val)) = 0) (ok : Bool) :
    Gives (.countersignComplete n i ok) s fun t => t.fb F.IF_STAT_CSIGN i.val = false ∧
      (ok = true → keysRefused s = false → replied t n.val stOk ∧ t.fb F.IF_STAT_HASHV i.val = true) ∧
      (ok = false ∨ keysRefused s = true → replied t n.val stBadSignature ∧
        t.fb F.IF_STAT_HASHV i.val = s.fb F.IF_STAT_HASHV i.val) := by
  obtain ⟨x, vs, hvs, run⟩ := countersignComplete_run hb hf hp ok
  by_cases h : (ok && !keysRefused s) = true
  · obtain ⟨rfl, keys⟩ : ok = true ∧ keysRefused s = false := by simpa using h
    let u := (csignOver s i.val).setB F.IF_STAT_HASHV i.val true
    have kept := (respond_kept (putInf u i.val x) n.val stOk []).1
    have ended : u.fb F.IF_STAT_CSIGN i.val = false :=
      (State.fb_setB_id (f := F.IF_STAT_HASHV) _ i.val i.val true (by decide)).trans (csignOver_csign s i.val)
    have hashed : u.fb F.IF_STAT_HASHV i.val = true := State.fb_setB_same _ F.IF_STAT_HASHV i.val true (by decide)
    refine gives_of run (if_pos h) ⟨(kept.fb _ _ rfl).trans ended,
      fun _ _ => ⟨respond_replied _ _ (by decide) _, (kept.fb _ _ rfl).trans hashed⟩, fun bad => ?_⟩
    simp [keys] at bad
  · have kept := (respond_kept (regionPut (csignOver s i.val) (4 * i.val) vs) n.val stBadSignature []).1
    have put (g : Fld) (hg : noteField regionApart g = true) :
        (regionPut (csignOver s i.val) (4 * i.val) vs).fb g i.val = (csignOver s i.val).fb g i.val := by
      rw [State.fb, regionPut_kept hvs hg, State.fb]
    refine gives_of run (if_neg h) ⟨(kept.fb _ _ rfl).trans ((put _ rfl).trans (csignOver_csign s i.val)),
      fun hok keys => absurd (by simp [hok, keys]) h, fun _ => ⟨respond_replied _ _ (by decide) _,
        (kept.fb _ _ rfl).trans ((put _ rfl).trans (State.fb_setB_id (f := F.IF_STAT_CSIGN) s i.val i.val false (by decide)))⟩⟩

end

/-- Settles O30: a region is put in its shadows while an epoch runs, at once otherwise; `regionPut` keeps all other fields. -/
theorem strainerMessages : Obligations.StrainerMessages := by
  intro s n body x i base size ok e fields value csign poured
  refine ⟨fun hb hp k hk => ⟨fun ho => ?_, fun ho => ?_⟩, strainerSet_denied, strainerClear_gives, countersign_gives,
    fun hb hf hp => countersignComplete_gives hb hf hp ok⟩
  · obtain ⟨b, run⟩ := strainerSet_gives hb hp hk
    refine ⟨_, run, respond_replied _ n.val (by decide) _, fun f hf => ⟨?_, ?_⟩⟩
    · exact (shv_congr (respond_sh ..) (respond_regionField hf ..)).trans (regionPut_shadows ho hf)
    · exact (respond_regionField hf ..).trans (regionPut_unpoured ho f.1 k)
  · obtain ⟨b, run⟩ := strainerSet_gives hb hp hk
    exact ⟨_, run, respond_replied _ n.val (by decide) _,
      fun f hf => (respond_regionField hf ..).trans (regionPut_values ho hf)⟩

end Sys2Proof.Machine
end

section
/-! ### What a power domain loses, and the rest of the power part (18 R385, R395) -/

namespace Sys2Proof.Machine

variable {s t : State}

/-- The supplies, the handshakes and the life-cycle state: what no domain holds. -/
def powerView (s : State) : Supply × Option Sleep × List Sleep × Nat :=
  (s.sup, s.pwr.current, s.pwr.queue, s.fl F.LC_STATE_STATE 0)

theorem powerView_of (hsup : t.sup = s.sup) (hpwr : t.pwr = s.pwr) (hfl : t.fl F.LC_STATE_STATE 0 = s.fl F.LC_STATE_STATE 0) :
    powerView t = powerView s := by
  rw [powerView, powerView, hsup, hpwr, hfl]

theorem powerView_setF (s : State) {f : Fld} (i v : Nat) (h : f.id ≠ F.LC_STATE_STATE.id) :
    powerView (s.setF f i v) = powerView s := powerView_of rfl rfl (State.fl_setF_id s i 0 v h)

theorem powerView_setB (s : State) {f : Fld} (i : Nat) (b : Bool) (h : f.id ≠ F.LC_STATE_STATE.id) :
    powerView (s.setB f i b) = powerView s := powerView_setF s i _ h

theorem ite_keeps {β : Type} {view : State → β} {c : Prop} [Decidable c] {u : State} (ht : view t = view s) (hu : view u = view s) :
    view (if c then t else u) = view s := by
  split
  · exact ht
  · exact hu

/-! #### Registers that take their reset values -/

theorem mget_mdrop_out {α : Type} (d : α) (m : FMap α) {lo hi k : Nat} (h : k < lo ∨ hi ≤ k) :
    mget d (mdrop m lo hi) k = mget d m k := by
  refine mget_filter d _ m fun v => ?_
  rcases h with h | h
  · simp [Nat.not_le.mpr h, Bool.eq_false_iff, Nat.ble_eq]
  · simp [Nat.not_lt.mpr h, Bool.eq_false_iff, Nat.blt_eq]

theorem fkey_out {f g : Fld} (h : f.id ≠ g.id) {lo hi : Nat} (hhi : hi ≤ 4096) (i : Nat) :
    fkey g i < f.id * 4096 + lo ∨ f.id * 4096 + hi ≤ fkey g i := by
  have hi4 : i % 4096 < 4096 := Nat.mod_lt _ (by decide)
  unfold fkey
  omega

theorem fl_resetElems {f g : Fld} (h : f.id ≠ g.id) (col : Nat) {lo hi : Nat} (hhi : hi ≤ 4096) (s : State) (i : Nat) :
    (resetElems s col lo hi f).fl g i = s.fl g i := by
  unfold resetElems
  split
  · rfl
  · exact mget_mdrop_out _ _ (fkey_out h hhi i)

theorem resetElems_keeps {β : Type} {view : State → β} (hv : ∀ (s : State) (m m' : FMap Nat), view { s with flds := m, sh := m' } = view s)
    (s : State) (col lo hi : Nat) (f : Fld) : view (resetElems s col lo hi f) = view s := by
  unfold resetElems
  split
  · rfl
  · exact hv ..

/-- What the reset of a field changes of no view, that of groups changes of none. -/
theorem resetGroups_keeps {β : Type} {view : State → β} {gs : List RegGroup} {col lo hi : Nat}
    (h : ∀ g ∈ gs, ∀ f ∈ g.fields, ∀ s, view (resetElems s col lo hi f) = view s) (s : State) :
    view (resetGroups s col lo hi gs) = view s := by
  have fields (l : List Fld) (hl : ∀ f ∈ l, ∀ s, view (resetElems s col lo hi f) = view s) (s : State) :
      view (l.foldl (fun s f => resetElems s col lo hi f) s) = view s := by
    induction l generalizing s with
    | nil => rfl
    | cons f l ih => exact (ih (fun x hx => hl x (List.mem_cons_of_mem f hx)) _).trans (hl f List.mem_cons_self s)
  rw [resetGroups]
  induction gs generalizing s with
  | nil => rfl
  | cons g gs ih =>
    exact (ih (fun x hx => h x (List.mem_cons_of_mem g hx)) _).trans (fields g.fields (h g List.mem_cons_self) s)

theorem powerView_resetElems {f : Fld} (h : f.id ≠ F.LC_STATE_STATE.id) (col : Nat) {lo hi : Nat} (hhi : hi ≤ 4096) (s : State) :
    powerView (resetElems s col lo hi f) = powerView s :=
  powerView_of (resetElems_keeps (view := State.sup) (fun _ _ _ => rfl) ..) (resetElems_keeps (view := State.pwr) (fun _ _ _ => rfl) ..)
    (fl_resetElems h col hhi s 0)

/-- The groups hold no state of the life cycle. -/
def Plainly (gs : List RegGroup) : Prop := ∀ g ∈ gs, ∀ f ∈ g.fields, f.id ≠ F.LC_STATE_STATE.id

theorem powerView_resetGroups {gs : List RegGroup} (hg : Plainly gs) (col : Nat) (lo : Nat) {hi : Nat} (hhi : hi ≤ 4096) (s : State) :
    powerView (resetGroups s col lo hi gs) = powerView s :=
  resetGroups_keeps (fun g h f hf s => powerView_resetElems (hg g h f hf) col hhi s) s

theorem powerView_infuserRegs (s : State) (col : Nat) (i : Fin 32) : powerView (infuserRegs s col i) = powerView s := by
  have plain : Plainly infuserGroups ∧ Plainly [G.IF_PARAM] ∧ Plainly [G.IF_IMGOUT, G.IF_IMGIN] := by unfold Plainly; decide
  rw [infuserRegs, powerView_resetGroups plain.2.2 _ _ (by omega), powerView_resetGroups plain.2.1 _ _ (by omega),
    powerView_resetGroups plain.1 _ _ (by omega)]

theorem powerView_domainRegs (s : State) (col d : Nat) : powerView (domainRegs s col d) = powerView s := by
  have plain : Plainly linkGroups ∧ Plainly [G.MR_PORTSTAT] ∧ Plainly displayGroups ∧ Plainly touchGroups ∧
      Plainly cameraGroups ∧ Plainly networkGroups := by unfold Plainly; decide
  obtain ⟨link, port, display, touch, camera, network⟩ := plain
  unfold domainRegs
  split_ifs
  · rfl
  · exact powerView_resetGroups link _ _ (by omega) s
  · exact powerView_resetGroups port _ _ (by omega) s
  · exact foldl_keeps powerView (fun t i => powerView_infuserRegs t col i) _ s
  · exact powerView_resetGroups display _ _ (by omega) s
  · exact powerView_resetGroups touch _ _ (by omega) s
  · exact powerView_resetGroups camera _ _ (by omega) s
  · exact powerView_resetGroups network _ _ (by omega) s
  · rfl

/-! #### Caches, cores and channels -/

theorem powerView_setSweptFlag (s : State) (id : CacheId) (b : Bool) : powerView (setSweptFlag s id b) = powerView s := by
  cases id <;> exact powerView_setB s _ b (by decide)

theorem powerView_setOrphan (s : State) (id : CacheId) (b : Bool) : powerView (setOrphan s id b) = powerView s := by
  cases id with
  | l1i c => rfl
  | l1d c => exact powerView_setB s _ b (by decide)
  | victim c => exact powerView_setB s _ b (by decide)
  | l2 n => exact powerView_setB s _ b (by decide)
  | l3 n => exact powerView_setB s _ b (by decide)

/-- A cache that has lost its contents, and the flags that show them. -/
def cacheBare (s : State) (id : CacheId) : State :=
  setOrphan (setSweptFlag ((withPartner id).foldl (fun s x => unsweep (emptyCache s x) x) s) id false) id false

/-- The reset of a cache disables it. -/
theorem cacheReset_eq (s : State) (id : CacheId) : cacheReset s id = (match id with
    | .l1d c => (((emptyCache (cacheBare s id) (.l1i c)).setB F.L3_CCTL_DCEN c.val false).setB F.L3_CCTL_ICEN c.val false).setB
        F.L3_CCTL_ISWEPT c.val false
    | .l2 n => (cacheBare s id).setB F.L3_L2CTL_EN n.val false
    | .l3 x => (cacheBare s id).setB F.L3_SLCTL_EN x.val false
    | .victim _ => cacheBare s id
    | .l1i _ => cacheBare s id) := by
  cases id <;> rfl

theorem powerView_cacheReset (s : State) (id : CacheId) : powerView (cacheReset s id) = powerView s := by
  have emptied : powerView ((withPartner id).foldl (fun s x => unsweep (emptyCache s x) x) s) = powerView s :=
    foldl_keeps powerView (step := fun s x => unsweep (emptyCache s x) x) (fun _ _ => rfl) _ s
  have bare : powerView (cacheBare s id) = powerView s :=
    (powerView_setOrphan _ id false).trans ((powerView_setSweptFlag _ id false).trans emptied)
  rw [cacheReset_eq, ← bare]
  generalize cacheBare s id = u
  cases id with
  | l1d c =>
    exact (powerView_setB (f := F.L3_CCTL_ISWEPT) _ _ false (by decide)).trans
      ((powerView_setB (f := F.L3_CCTL_ICEN) _ _ false (by decide)).trans (powerView_setB (f := F.L3_CCTL_DCEN) _ _ false (by decide)))
  | l2 n => exact powerView_setB u (f := F.L3_L2CTL_EN) _ false (by decide)
  | l3 n => exact powerView_setB u (f := F.L3_SLCTL_EN) _ false (by decide)
  | victim c => rfl
  | l1i c => rfl

theorem powerView_icRelease (s : State) (n : Nat) : powerView (icRelease s n) = powerView s :=
  powerView_of (icRelease_sup s n) (icRelease_pwr s n) (fl_icRelease s n 0 (by decide))

theorem powerView_icLeave (s : State) (c : Nat) : powerView (icLeave s c) = powerView s :=
  foldl_keeps powerView (step := fun s n => icCommit { s with icCommit := mset false s.icCommit n false } n)
    (fun _ n => powerView_of (icCommit_sup _ n) (icCommit_pwr _ n) (fl_icCommit _ n 0 (by decide))) _ s

theorem powerView_coreLose (s : State) (c : Fin 16) (run : Run) : powerView (coreLose s c run) = powerView s := by
  have released : powerView ((acceptedBy s c).foldl icRelease s) = powerView s := foldl_keeps powerView powerView_icRelease _ s
  rw [coreLose, powerView_setB _ _ _ (by decide), powerView_cacheReset, ← released]
  exact powerView_of rfl rfl (State.fl_setCpu _ _ _ _ _)

theorem powerView_channelLose (s : State) (c : Nat) : powerView (channelLose s c) = powerView s := by
  exact (powerView_setF (f := F.MC_STAT_FILLING) _ 0 _ (by decide)).trans (powerView_setF (f := F.MC_STAT_TRAINED) s 0 _ (by decide))

theorem powerView_domLose (s : State) (d : Nat) : powerView (domLose s d) = powerView s := by
  rw [← powerView_domainRegs s colDoff d]
  unfold domLose
  dsimp only
  generalize domainRegs s colDoff d = u
  exact ite_keeps (powerView_coreLose ..) <| ite_keeps (powerView_cacheReset ..) <| ite_keeps (powerView_cacheReset ..) <|
    ite_keeps (powerView_channelLose ..) <| ite_keeps rfl <| ite_keeps rfl <|
    ite_keeps (foldl_keeps powerView (step := infuserLose) (fun _ _ => rfl) _ u) <| ite_keeps rfl <| ite_keeps rfl <|
    ite_keeps rfl <| ite_keeps rfl rfl

theorem powerView_setReady (s : State) (u : Nat) (b : Bool) : powerView (s.setReady u b) = powerView s :=
  powerView_setF s _ _ (by decide)

theorem powerView_domUnready (s : State) (d : Nat) : powerView (domUnready s d) = powerView s :=
  foldl_keeps powerView (step := fun s u =>
    { (s.setReady u false) with pwr := { s.pwr with timedOut := mset false s.pwr.timedOut u false } })
    (fun t u => powerView_setReady t u false) _ s

theorem powerView_domOff (s : State) (d : Nat) : powerView (domOff s d) = powerView s :=
  (powerView_setF (domUnready (domLose s d) d) d 2 (f := F.PW_DOM_STATE) (by decide)).trans
    ((powerView_domUnready _ d).trans (powerView_domLose s d))

theorem powerView_railOff (s : State) (d : Nat) : powerView (railOff s d) = powerView s := by
  unfold railOff
  split
  · exact (powerView_icLeave _ d).trans (powerView_domOff s d)
  · exact powerView_domOff s d

end Sys2Proof.Machine
end

section
/-! ### Messages of the mailbox (O29) -/

namespace Sys2Proof.Machine

variable {s t : State}

/-! #### A SCRAPPED part (03 R69) -/

/-- The identifiers of the fields that stay with the SoC off. -/
def socKeptIds : List Nat := keptIds colDoff ++ kettleFields.map (·.id) ++ [F.PW_DOM_STATE.id] ++ portIds

theorem socKeptIds_lc : socKeptIds.contains F.LC_STATE_STATE.id = true := by decide +kernel

theorem fkey_lc : fkey F.LC_STATE_STATE 0 / 4096 = F.LC_STATE_STATE.id := by decide

theorem keepOnly_lc (s : State) : (keepOnly s socKeptIds).fl F.LC_STATE_STATE 0 = s.fl F.LC_STATE_STATE 0 :=
  mget_filter _ _ _ fun _ => (congrArg socKeptIds.contains fkey_lc).trans socKeptIds_lc

theorem powerView_keepOnly (s : State) : powerView (keepOnly s socKeptIds) = powerView s :=
  powerView_of rfl rfl (keepOnly_lc s)

theorem powerView_dramLose (s : State) : powerView (dramLose s) = powerView s :=
  foldl_keeps powerView (step := fun s c => if s.dram.selfRef.getLsbD c then s else contentsLost s c)
    (fun _ _ => ite_keeps rfl rfl) _ s

theorem powerView_clearTrigger (s : State) (b : Nat) : powerView (clearTrigger s b) = powerView s :=
  powerView_setF (f := F.KT_TRIGSTAT_RAISED) s 0 _ (by decide)

/-- The SoC's readiness and contents gone. -/
def socLost (s : State) : State :=
  socUnits.foldl (fun s u => s.setReady u false) (mirrorLose (dramLose (keepMem (keepOnly (holdFab s) socKeptIds) false)))

theorem powerView_socLost (s : State) : powerView (socLost s) = powerView s := by
  have unready := foldl_keeps powerView (step := fun s u => s.setReady u false) (fun t u => powerView_setReady t u false)
    socUnits (mirrorLose (dramLose (keepMem (keepOnly (holdFab s) socKeptIds) false)))
  have mirror (t : State) : powerView (mirrorLose t) = powerView t := rfl
  have mem (t : State) : powerView (keepMem t false) = powerView t := rfl
  have fab : powerView (holdFab s) = powerView s := rfl
  rw [mirror, powerView_dramLose, mem, powerView_keepOnly, fab] at unready
  exact unready

/-- The sequencers that have nothing left with the SoC off. -/
def socCleared (s : State) : State :=
  let s := clearTrigger (clearTrigger s 9) 10
  { s with caches := {}, icCommit := [], icPulse := [], links := mrange s.links 32 34, router := {}, trace := {}, ep := {}, dbg := {},
           pwr := { capMhz := s.pwr.capMhz },
           caddy := { s.caddy with loaded := false, loaderMeasure := none, coresReleased := false, released := 0, formerR0 := [], linkQueue := [] },
           clk := { s.clk with spllSel := false, relock := 0, dramFirc := false, canFirc := false } }

theorem socCleared_shows (s : State) : (socCleared s).sup = (clearTrigger (clearTrigger s 9) 10).sup ∧
    (socCleared s).flds = (clearTrigger (clearTrigger s 9) 10).flds := ⟨rfl, rfl⟩

theorem socOff_eq (s : State) : socOff s = socCleared (socLost s) := rfl

/-- With the SoC off, neither the supplies nor the life cycle change. -/
theorem socOff_shows (s : State) : (socOff s).sup = s.sup ∧ (socOff s).fl F.LC_STATE_STATE 0 = s.fl F.LC_STATE_STATE 0 := by
  have view : powerView (clearTrigger (clearTrigger (socLost s) 9) 10) = powerView s := by
    rw [powerView_clearTrigger, powerView_clearTrigger, powerView_socLost]
  have shows := socCleared_shows (socLost s)
  rw [socOff_eq]
  exact ⟨shows.1.trans (congrArg (fun v => v.1) view), (State.fl_congr shows.2 _ _).trans (congrArg (fun v => v.2.2.2) view)⟩

theorem caddyToReset_shows (s : State) :
    (caddyToReset s).sup = s.sup ∧ (caddyToReset s).fl F.LC_STATE_STATE 0 = s.fl F.LC_STATE_STATE 0 := by
  obtain ⟨u, hu, e⟩ := caddyToReset_eq s
  rw [e]
  refine ⟨hu.sup, ?_⟩
  exact (State.fl_setF_id (f := F.KT_READY_READY) u _ 0 _ (by decide)).trans ((hu.fl _ _ rfl).trans (State.fl_setCpu ..))

/-- The Caddy of a SCRAPPED part is held off. -/
def scrapHeld (s : State) : State :=
  { s with caddy := { s.caddy with phase := .heldOff, loaded := false, loaderMeasure := none, coresReleased := false, released := 0 } }

theorem scrap_eq (s : State) : scrap s = scrapHeld (caddyToReset (domOff (socOff (computeDomains.foldl railOff s)) 36)) := rfl

theorem scrap_shows (s : State) : (scrap s).sup = s.sup ∧ (scrap s).fl F.LC_STATE_STATE 0 = s.fl F.LC_STATE_STATE 0 := by
  have rails := foldl_keeps powerView powerView_railOff computeDomains s
  rw [scrap_eq]
  generalize computeDomains.foldl railOff s = a at rails ⊢
  obtain ⟨sup1, lc1⟩ := socOff_shows a
  generalize socOff a = b at sup1 lc1 ⊢
  have mirror := powerView_domOff b 36
  generalize domOff b 36 = d at mirror ⊢
  obtain ⟨sup2, lc2⟩ := caddyToReset_shows d
  generalize caddyToReset d = e at sup2 lc2 ⊢
  have sup3 : d.sup = b.sup := congrArg (fun v => v.1) mirror
  have lc3 : d.fl F.LC_STATE_STATE 0 = b.fl F.LC_STATE_STATE 0 := congrArg (fun v => v.2.2.2) mirror
  have sup0 : a.sup = s.sup := congrArg (fun v => v.1) rails
  have lc0 : a.fl F.LC_STATE_STATE 0 = s.fl F.LC_STATE_STATE 0 := congrArg (fun v => v.2.2.2) rails
  exact ⟨sup2.trans (by rw [sup3, sup1, sup0]), lc2.trans (by rw [lc3, lc1, lc0])⟩

/-! #### A fuse row is programmed (03 R70) -/

/-- The fields that the fuses show. -/
def fuseFields : List Fld := [F.LC_STATE_TORN, F.LC_STATE_STATE]

/-- No fuse is lost, and a row that is being programmed still is. -/
structure Sensed (s t : State) : Prop where
  programming : t.sup.programming = s.sup.programming
  fuses : ∀ b, s.sup.fuses.getLsbD b = true → t.sup.fuses.getLsbD b = true
  fl : FieldsKept (noteField fuseFields) s t

theorem Sensed.trans {u : State} (h : Sensed s t) (h' : Sensed t u) : Sensed s u :=
  ⟨h'.programming.trans h.programming, fun b hb => h'.fuses b (h.fuses b hb), h.fl.trans h'.fl⟩

theorem Sensed.of_side (h : SideFrame (noteField fuseFields) s t) : Sensed s t :=
  ⟨by rw [h.sup], fun b hb => by rwa [h.sup], h.fl⟩

theorem Sensed.programRow (s : State) (stuck : BitVec 80) (r : Nat) :
    Sensed s { s with sup := { s.sup with fuses := Machine.programRow s.sup.fuses stuck r } } :=
  ⟨rfl, fun b hb => by rw [Machine.programRow, BitVec.getLsbD_or, hb, Bool.true_or], .of_flds rfl⟩

theorem Sensed.setF (s : State) {f : Fld} (i v : Nat) (hf : noteField fuseFields f = true) : Sensed s (s.setF f i v) :=
  .of_side (.setF (.refl _ s) (noteField_byId _) i v hf)

theorem completeRow_sensed (s : State) (stuck : BitVec 80) (r : Nat) : Sensed s (completeRow s stuck r) := by
  unfold completeRow
  dsimp only
  split
  · exact .setF s 0 _ rfl
  · exact ((Sensed.programRow s stuck r).trans (.setF _ 0 _ (f := F.LC_STATE_TORN) rfl)).trans (.of_side (dregs_side _ _ _ _ _ _))

theorem senseFuses_sensed (s : State) (stuck : BitVec 80) : Sensed s (senseFuses s stuck) := by
  have rows (l : List Nat) (s : State) : Sensed s (l.foldl (fun s r => completeRow s stuck r) s) := by
    induction l generalizing s with
    | nil => exact ⟨rfl, fun _ h => h, .of_flds rfl⟩
    | cons r l ih => exact (completeRow_sensed s stuck r).trans (ih _)
  refine (rows (List.range 5) s).trans ?_
  unfold senseFuses
  dsimp only
  generalize (List.range 5).foldl (fun s r => completeRow s stuck r) s = a
  have burnt : Sensed a (if lcOf a.sup.fuses = 5 ∧ rowBits a.sup.fuses 4 = 0 then
      { a with sup := { a.sup with fuses := programRow a.sup.fuses stuck 4 } } else a) := by
    split
    · exact .programRow a stuck 4
    · exact ⟨rfl, fun _ h => h, .of_flds rfl⟩
  generalize (if lcOf a.sup.fuses = 5 ∧ rowBits a.sup.fuses 4 = 0 then
      { a with sup := { a.sup with fuses := programRow a.sup.fuses stuck 4 } } else a) = b at burnt
  have shown := burnt.trans (.setF b 0 (lcOf a.sup.fuses) (f := F.LC_STATE_STATE) rfl)
  split
  · exact shown
  · exact shown.trans (.of_side (dregs_side _ _ _ _ _ _))

/-- The end of a grant leaves the mailbox and the fuses. -/
theorem endGrant_mailbox (s : State) : (endGrant s).fl F.MB_STAT_STATE = s.fl F.MB_STAT_STATE ∧ (endGrant s).sup = s.sup := by
  by_cases hl : s.fl F.DB_GRANT_LEVEL 0 = 0
  · rw [endGrant, if_pos hl]
    exact ⟨rfl, rfl⟩
  · refine ⟨funext fun n => ?_, (endGrant_clock hl).2⟩
    rw [endGrant_eq hl]
    have kept := ((grantCleared_kept s).weaken (noteField_of_subset (l' := endFields) (by simp [endFields]))).trans
      (((foldl_kept withdrawDebug_kept allCores _).weaken (noteField_of_subset (l' := endFields) (by simp [endFields]))).trans
        ((releaseHeld_kept _).weaken (noteField_of_subset (l' := endFields) (by simp [endFields]))))
    exact (((raiseSource_side [] _ 272).trans (dregs_side [] _ 0x400 clsInfo 0xB02 _)).fl _ _ rfl).trans (kept _ _ rfl)

theorem respond_sup (s : State) (n status : Nat) (body : List Byte) : (respond s n status body).sup = s.sup := by
  obtain ⟨m1, h1⟩ := writeBytes_only 2 s (mbBuf n + 4) (body.take 4080).length
  obtain ⟨m2, h2⟩ := writeBytes_only 8 { s with mem := m1 } (mbBuf n + 8) status
  obtain ⟨m3, h3⟩ := writeList_only (body.take 4080) { s with mem := m2 } (mbBuf n + 16)
  unfold respond
  dsimp only
  rw [(mbDone_side _ n).sup, h1, h2, h3]

theorem programRow_set (fuses stuck : BitVec 80) {r b : Nat} (hr : r < 5) (hb : b < 16)
    (h : stuck.getLsbD (16 * r + b) = false) : (programRow fuses stuck r).getLsbD (16 * r + b) = true := by
  have low : ∀ b < 16, (0xFFFF#80).getLsbD b = true := by decide
  simp [programRow, rowMask, h, BitVec.getLsbD_shiftLeft, low b hb]
  omega

/-- The row is programmed, with the owner key where it comes with it. -/
def rowBurnt (s : State) (stuck : BitVec 80) (r : Nat) : State :=
  fuseKey { s with sup := { s.sup with fuses := programRow s.sup.fuses stuck r } } r

/-- The response to the message that asked for the row, and the end of a SCRAPPED part. -/
def rowDone (s : State) (n : Nat) : State :=
  let s := if s.fl F.MB_STAT_STATE n = 2 then respond s n stOk [] else s
  if s.fl F.LC_STATE_STATE 0 = 5 then scrap s else s

theorem lcRowProgrammed_run {n : Nat} {row : Fin 5} (hp : s.sup.programming = some (row.val, some n)) (stuck : BitVec 80) :
    exec (.lcRowProgrammed row stuck) s = .next (rowDone (endGrant (senseFuses (rowBurnt s stuck row.val) stuck)) n) := by
  have e : exec (.lcRowProgrammed row stuck) s = execLcRowProgrammed row stuck s := rfl
  rw [e, execLcRowProgrammed, hp]
  exact congrArg Host.Outcome.next (if_pos rfl)

theorem rowDone_shows {n : Nat} (hs : s.fl F.MB_STAT_STATE n = 2) : (rowDone s n).sup = s.sup ∧
    ((rowDone s n).fl F.LC_STATE_STATE 0 ≠ 5 → (rowDone s n).fl F.MB_STAT_STATE n = 3) := by
  unfold rowDone
  dsimp only
  rw [if_pos hs, ← respond_sup s n stOk []]
  obtain ⟨replied, -⟩ := respond_replied s n (status := stOk) (by decide) []
  generalize respond s n stOk [] = u at replied
  split
  · rename_i h5
    obtain ⟨sup, lc⟩ := scrap_shows u
    exact ⟨sup, fun h => absurd (lc.trans h5) h⟩
  · exact ⟨rfl, fun _ => replied⟩

theorem lcRowProgrammed_gives {n : Fin 8} {row : Fin 5} {stuck : BitVec 80}
    (hp : s.sup.programming = some (row.val, some n.val)) (hs : s.fl F.MB_STAT_STATE n.val = 2) :
    Gives (.lcRowProgrammed row stuck) s fun t => t.sup.programming = none ∧
      (t.fl F.LC_STATE_STATE 0 ≠ 5 → t.fl F.MB_STAT_STATE n.val = 3) ∧
      ∀ b, b < 16 → stuck.getLsbD (16 * row.val + b) = false → t.sup.fuses.getLsbD (16 * row.val + b) = true := by
  have run := lcRowProgrammed_run hp stuck
  have burnt : (rowBurnt s stuck row.val).sup.programming = none ∧
      (rowBurnt s stuck row.val).sup.fuses = programRow s.sup.fuses stuck row.val ∧
      (rowBurnt s stuck row.val).flds = s.flds := ⟨rfl, rfl, rfl⟩
  generalize rowBurnt s stuck row.val = a at run burnt
  obtain ⟨none_, fuses, flds⟩ := burnt
  have sensed := senseFuses_sensed a stuck
  generalize senseFuses a stuck = b at run sensed
  obtain ⟨box, ended⟩ := endGrant_mailbox b
  generalize endGrant b = d at run box ended
  have busy : d.fl F.MB_STAT_STATE n.val = 2 :=
    (congrFun box n.val).trans ((sensed.fl _ _ rfl).trans ((State.fl_congr flds _ _).trans hs))
  obtain ⟨sup, replied⟩ := rowDone_shows busy
  refine ⟨_, run, ?_, replied, fun i hi h => ?_⟩
  · rw [sup, ended, sensed.programming, none_]
  · rw [sup, ended]
    exact sensed.fuses _ (fuses ▸ programRow_set _ _ row.isLt hi h)

/-! #### Doorbells (16 R351) -/

section
variable {q : Requester} {n : Fin 8}

theorem mailbox_reg (s : State) (n : Fin 8) : target s (0xE00300000 + 0x40 * n.val) = .reg :=
  target_reg s (0xE00000000, 0xE008FFFFF) (by decide) ⟨by omega, by omega⟩

theorem mbAllowed_congr (power : OnlyPower s t) (q : Requester) (n : Nat) : mbAllowed t q n = mbAllowed s q n := by
  have caddy : t.caddy = s.caddy := by
    have e := congrArg State.caddy power
    exact e
  have rom : romPort t = romPort s := by rw [romPort, romPort, caddy, portLevel, portLevel, power.fb, power.fl]
  cases q with
  | core c =>
    simp only [mbAllowed, rom, State.cpu, power.cpus, power.fb, power.fl, partOf_congr power.cpus]
    rfl
  | debugPort => simp only [mbAllowed, rom]
  | _ => rfl

/-- The word that a doorbell writes. -/
def bellWord (s : State) (n bit : Nat) : Word := BitVec.ofNat 64 (bit + 4 * s.fl F.MB_CTL_IRQ n)

theorem bellWord_bits (s : State) (n bit : Nat) :
    (bellWord s n bit).getLsbD 0 = decide (bit % 2 = 1) ∧ (bellWord s n bit).getLsbD 1 = decide (bit / 2 % 2 = 1) := by
  have lo : (bit + 4 * s.fl F.MB_CTL_IRQ n) % 2 = bit % 2 := by omega
  have hi : (bit + 4 * s.fl F.MB_CTL_IRQ n) / 2 % 2 = bit / 2 % 2 := by omega
  constructor
  · rw [bellWord, BitVec.getLsbD_ofNat, Nat.testBit_zero, lo]
    rfl
  · rw [bellWord, BitVec.getLsbD_ofNat, Nat.testBit_succ, Nat.testBit_zero, hi]
    rfl

theorem mbRow_open {bit : Nat} (ho : openAt s (0xE00300000 + 0x40 * n.val)) (ha : mbAllowed s q n.val = true) :
    ∃ t, OnlyPower s t ∧ mbRow q n bit s = .next (mbctlWrite t (.full q (0xE00300000 + 0x40 * n.val) (bellWord s n.val bit)) n.val) := by
  obtain ⟨t, power, run⟩ := rowWrite_open (mailbox_reg s n) ho q (bellWord s n.val bit)
    fun s w => if mbAllowed s q n.val then mbctlWrite s w n.val else rowFault s q beStrainer
  exact ⟨t, power, run.trans (congrArg _ (if_pos ((mbAllowed_congr power q n.val).trans ha)))⟩

theorem wakeDom_sides (s : State) (d : Nat) : (wakeDom s d).mem = s.mem ∧ (wakeDom s d).cpus = s.cpus := by
  unfold wakeDom
  split <;> exact ⟨rfl, rfl⟩

theorem mbGo_gives (ho : openAt s (0xE00300000 + 0x40 * n.val)) (ha : mbAllowed s q n.val = true)
    (hs : s.fl F.MB_STAT_STATE n.val = 0) : Gives (.mbGo q n) s fun t =>
      t.fl F.MB_STAT_STATE n.val = 1 ∧ t.mem = s.mem ∧ t.cpus = s.cpus := by
  obtain ⟨t, power, run⟩ := mbRow_open (bit := 1) ho ha
  let w : Wr := .full q (0xE00300000 + 0x40 * n.val) (bellWord s n.val 1)
  have go : (w.on F.MB_CTL_GO && t.fl F.MB_STAT_STATE n.val == 0) = true := by
    rw [Wr.on_full _ _ _ rfl, power.fl, hs]
    exact congrArg (· && _) (bellWord_bits s n.val _).1
  have only := putField_only t w F.MB_CTL_IRQ n.val 0
  have e : mbctlWrite t w n.val = _ := if_pos go
  refine gives_of run e ⟨?_, (wakeDom_sides _ _).1.trans (only.mem.trans power.mem), (wakeDom_sides _ _).2.trans (only.cpus.trans power.cpus)⟩
  rw [State.fl_congr (wakeDom_flds _ _)]
  exact State.fl_setF_same _ F.MB_STAT_STATE n.val 1

theorem mbAck_gives (ho : openAt s (0xE00300000 + 0x40 * n.val)) (ha : mbAllowed s q n.val = true)
    (hs : s.fl F.MB_STAT_STATE n.val = 3) : Gives (.mbAck q n) s fun t =>
      t.fl F.MB_STAT_STATE n.val = 0 ∧ t.mem = s.mem ∧ t.cpus = s.cpus := by
  obtain ⟨t, power, run⟩ := mbRow_open (bit := 2) ho ha
  let w : Wr := .full q (0xE00300000 + 0x40 * n.val) (bellWord s n.val 2)
  have go : ¬ (w.on F.MB_CTL_GO && t.fl F.MB_STAT_STATE n.val == 0) = true := by
    rw [power.fl, hs]
    simp
  have ack : (w.on F.MB_CTL_ACK && t.fl F.MB_STAT_STATE n.val == 3) = true := by
    rw [Wr.on_full _ _ _ rfl, power.fl, hs]
    exact congrArg (· && _) (bellWord_bits s n.val _).2
  have only := putField_only t w F.MB_CTL_IRQ n.val 0
  have e : mbctlWrite t w n.val = _ := (if_neg go).trans (if_pos ack)
  exact gives_of run e ⟨State.fl_setF_same _ F.MB_STAT_STATE n.val 0, only.mem.trans power.mem, only.cpus.trans power.cpus⟩

theorem caddyTakeMessage_gives (hs : s.fl F.MB_STAT_STATE n.val = 1) (hv : serves s n.val = true)
    (hl : ∀ m, m < n.val → s.fl F.MB_STAT_STATE m ≠ 1) : Gives .caddyTakeMessage s fun t => t.fl F.MB_STAT_STATE n.val = 2 ∧
      (t.mem = s.mem ∧ t.cpus = s.cpus) ∧ ∀ m, m < 8 → m ≠ n.val → t.fl F.MB_STAT_STATE m = s.fl F.MB_STAT_STATE m := by
  have found : (List.range 8).find? (fun n => s.fl F.MB_STAT_STATE n == 1 && serves s n) = some n.val := by
    rw [List.find?_range_eq_some]
    refine ⟨by simp [hs, hv], by simp, fun j hj => ?_⟩
    simp [hl j hj]
  have e : execCaddyTakeMessage s = .next (onCaddy (s.setF F.MB_STAT_STATE n.val 2) fun c =>
      { c with strobes := c.strobes &&& ~~~(1#8 <<< n.val) }) := by
    rw [execCaddyTakeMessage, found]
  refine gives_of e rfl ⟨State.fl_setF_same s F.MB_STAT_STATE n.val 2, ⟨rfl, rfl⟩, fun m hm hne => ?_⟩
  exact State.fl_setF_ix s F.MB_STAT_STATE 2 (by omega)

end

/-! #### Responses -/

theorem respond_tells (s : State) (n status : Nat) (body : List Byte) {i : Nat} (hi : i < body.length) (hm : i < 4080) :
    readByte (respond s n status body) (mbBuf n + 16 + i) = body.getD i 0 := by
  have same : (body.take 4080).getD i 0 = body.getD i 0 := by
    rw [List.getD_eq_getElem?_getD, List.getD_eq_getElem?_getD, List.getElem?_take_of_lt hm]
  rw [← same, respond, readByte, (mbDone_side _ n).mem]
  exact readByte_writeList_in (body.take 4080) _ _ i (by rw [List.length_take]; omega)

theorem respond_cpus (s : State) (n status : Nat) (body : List Byte) : (respond s n status body).cpus = s.cpus := by
  obtain ⟨m1, h1⟩ := writeBytes_only 2 s (mbBuf n + 4) (body.take 4080).length
  obtain ⟨m2, h2⟩ := writeBytes_only 8 { s with mem := m1 } (mbBuf n + 8) status
  rw [respond, (mbDone_side _ n).cpus, writeList_cpus, h1, h2]

/-- A job of a wrong length is refused. -/
theorem mbJobOf_refused {n cmd len : Nat} (hb : busyWith s n cmd) (hl : bodyLength s n ≠ len) (f : State → State) :
    mbJobOf s n cmd len f = respond s n stBadCommand [] := (mbJob_busy hb _).trans (if_neg hl)

theorem mbJobOf_runs {n cmd len : Nat} (hb : busyWith s n cmd) (hl : bodyLength s n = len) (f : State → State) :
    mbJobOf s n cmd len f = f s := (mbJob_busy hb _).trans (if_pos hl)

theorem refused_gives {i : Instr} {n : Fin 8} {cmd len : Nat} {f : State → State} (hi : exec i s = .next (mbJobOf s n.val cmd len f))
    (hb : busyWith s n.val cmd) (hl : bodyLength s n.val ≠ len) :
    Gives i s fun t => replied t n.val stBadCommand ∧ t.cpus = s.cpus :=
  gives_of hi (mbJobOf_refused hb hl f) ⟨respond_replied s n.val (by decide) [], respond_cpus s n.val _ _⟩

/-! #### Debug grants (23 R469) -/

section
variable {c : Cert} {sigOk : Bool}

theorem checkGrant_level (h : (checkGrant s c sigOk).1 = stOk) : c.level = 1 ∨ c.level = 2 := by
  by_contra hl
  have formed : c.version ≠ 0x0100 ∨ (c.level ≠ 1 ∧ c.level ≠ 2) ∨ c.reserved ≠ 0 ∨ 4 ≤ c.scope.toNat :=
    .inr (.inl (not_or.mp hl))
  unfold checkGrant at h
  dsimp only at h
  rw [if_pos formed] at h
  split at h <;> exact absurd h (by decide)

/-- The fields of a grant that has been accepted. -/
def grantPut (s : State) (c : Cert) : State :=
  let s := s.setF F.DB_GRANT_STATUS 0 stOk
  let s := ((s.setF F.DB_GRANT_LEVEL 0 c.level.toNat).setF F.DB_GRANT_PORT 0 (c.scope.toNat % 2)).setF
    F.DB_GRANT_ONCHIP 0 (c.scope.toNat / 2 % 2)
  (s.setB F.DB_GRANT_UNTIMED 0 s.sup.rtc.isNone).setF F.DB_GRANTMASK_PMASK 0 c.pmask.toNat

theorem grantPut_fields (s : State) (c : Cert) : (grantPut s c).fl F.DB_GRANT_LEVEL 0 = c.level.toNat % 4 ∧
    (grantPut s c).fl F.DB_GRANTMASK_PMASK 0 = c.pmask.toNat := by
  constructor
  · unfold grantPut State.setB
    dsimp only
    rw [State.fl_setF_id _ _ _ _ (by decide), State.fl_setF_id _ _ _ _ (by decide), State.fl_setF_id _ _ _ _ (by decide),
      State.fl_setF_id _ _ _ _ (by decide), State.fl_setF_same]
    rfl
  · exact (State.fl_setF_same _ F.DB_GRANTMASK_PMASK 0 _).trans (Nat.mod_eq_of_lt c.pmask.isLt)

theorem presentCert_taken (h : (checkGrant s c sigOk).1 = stOk) : presentCert s c sigOk = (stOk,
    dbgRecord (raiseSource (recheckDebug (onDbg (grantPut s c) fun d => { d with ends := (checkGrant s c sigOk).2 })) 272)
      clsInfo 0xB00 c.pmask.toNat) := by
  unfold presentCert
  rcases hg : checkGrant s c sigOk with ⟨st, ends⟩
  rw [hg] at h
  dsimp only at h ⊢
  subst h
  exact if_pos rfl

theorem presentCert_failed (h : (checkGrant s c sigOk).1 ≠ stOk) : presentCert s c sigOk = ((checkGrant s c sigOk).1,
    dbgRecord (raiseSource (s.setF F.DB_GRANT_STATUS 0 (checkGrant s c sigOk).1) 272) clsWarn 0xB01 c.pmask.toNat) := by
  unfold presentCert
  rcases hg : checkGrant s c sigOk with ⟨st, ends⟩
  rw [hg] at h
  exact if_neg h

theorem recheckDebug_flds (s : State) : (recheckDebug s).flds = s.flds :=
  foldl_keeps State.flds (step := fun s c =>
    let p := Proc.core c
    if 2 ≤ s.fl F.DB_GRANT_LEVEL 0 && bitAt (s.fl F.DB_GRANTMASK_PMASK 0) (partOf s c) then s
    else s.setCpu p { s.cpu p with dbgReq := false }) (fun _ _ => ite_keeps (view := State.flds) rfl rfl) _ s

theorem dbgRecord_raise_side (s : State) (n cls code mask : Nat) :
    SideFrame (noteField []) s (dbgRecord (raiseSource s n) cls code mask) :=
  (raiseSource_side [] s n).trans (dregs_side [] _ 0x400 cls code _)

theorem presentCert_grants (h : (checkGrant s c sigOk).1 = stOk) : (presentCert s c sigOk).1 = stOk ∧
    (presentCert s c sigOk).2.fl F.DB_GRANT_LEVEL 0 = c.level.toNat ∧
    (presentCert s c sigOk).2.fl F.DB_GRANTMASK_PMASK 0 = c.pmask.toNat := by
  rw [presentCert_taken h]
  obtain ⟨level, mask⟩ := grantPut_fields s c
  have small : c.level.toNat % 4 = c.level.toNat := by
    rcases checkGrant_level h with e | e <;> rw [e] <;> rfl
  have put : (onDbg (grantPut s c) fun d => { d with ends := (checkGrant s c sigOk).2 }).flds = (grantPut s c).flds := rfl
  generalize (onDbg (grantPut s c) fun d => { d with ends := (checkGrant s c sigOk).2 }) = a at put
  have flds := (recheckDebug_flds a).trans put
  have side := dbgRecord_raise_side (recheckDebug a) 272 clsInfo 0xB00 c.pmask.toNat
  generalize recheckDebug a = b at flds side
  exact ⟨rfl, (side.fl _ _ rfl).trans ((State.fl_congr flds _ _).trans (level.trans small)),
    (side.fl _ _ rfl).trans ((State.fl_congr flds _ _).trans mask)⟩

theorem presentCert_refuses (h : (checkGrant s c sigOk).1 ≠ stOk) : (presentCert s c sigOk).1 = (checkGrant s c sigOk).1 ∧
    (presentCert s c sigOk).2.fl F.DB_GRANT_LEVEL 0 = s.fl F.DB_GRANT_LEVEL 0 := by
  rw [presentCert_failed h]
  exact ⟨rfl, ((dbgRecord_raise_side _ _ _ _ _).fl _ _ rfl).trans (State.fl_setF_id _ _ _ _ (by decide))⟩

/-- The ROM's own part in a grant changes no field of the grant. -/
theorem caddyCert_fields (s : State) (c : Cert) (sigOk : Bool) : (caddyCert s c sigOk).1 = (presentCert s c sigOk).1 ∧
    FieldsKept (noteField [F.MB_STAT_EN]) (presentCert s c sigOk).2 (caddyCert s c sigOk).2 := by
  unfold caddyCert
  rcases presentCert s c sigOk with ⟨st, u⟩
  dsimp only
  split
  · refine ⟨rfl, ?_⟩
    dsimp only
    split
    · exact .setF (.of_flds rfl) (noteField_byId _) (f := F.MB_STAT_EN) 0 (b2n true) rfl
    · exact .of_flds rfl
  · exact ⟨rfl, .of_flds rfl⟩

theorem checkGrant_status (s : State) (c : Cert) (sigOk : Bool) : (checkGrant s c sigOk).1 < 2 ^ 16 := by
  unfold checkGrant
  dsimp only
  repeat' split
  all_goals simp [stDenied, stBadCommand, stBadSignature, stOk]

section
variable {n : Fin 8}

theorem debugGrant_run (hb : busyWith s n.val cmdDebugGrant) (hl : bodyLength s n.val = 136) (sigOk : Bool) :
    exec (.debugGrant n sigOk) s = .next (respond (caddyCert s (certOf (bodyBytes s n.val 136)) sigOk).2 n.val
      (caddyCert s (certOf (bodyBytes s n.val 136)) sigOk).1 []) := by
  have e : exec (.debugGrant n sigOk) s = .next (mbJobOf s n.val cmdDebugGrant 136 _) := rfl
  rw [e, mbJobOf_runs hb hl]

theorem debugGrant_gives (hb : busyWith s n.val cmdDebugGrant) (hl : bodyLength s n.val = 136)
    (h : (checkGrant s (certOf (bodyBytes s n.val 136)) sigOk).1 = stOk) : Gives (.debugGrant n sigOk) s fun t =>
      replied t n.val stOk ∧ t.fl F.DB_GRANT_LEVEL 0 = (certOf (bodyBytes s n.val 136)).level.toNat ∧
      t.fl F.DB_GRANTMASK_PMASK 0 = (certOf (bodyBytes s n.val 136)).pmask.toNat := by
  have run := debugGrant_run hb hl sigOk
  obtain ⟨status, kept⟩ := caddyCert_fields s (certOf (bodyBytes s n.val 136)) sigOk
  obtain ⟨ok, level, mask⟩ := presentCert_grants h
  rw [status, ok] at run
  have shown := (respond_kept (caddyCert s (certOf (bodyBytes s n.val 136)) sigOk).2 n.val stOk []).1
  exact ⟨_, run, respond_replied _ n.val (by decide) [], (shown _ _ rfl).trans ((kept _ _ rfl).trans level),
    (shown _ _ rfl).trans ((kept _ _ rfl).trans mask)⟩

theorem debugGrant_refused (hb : busyWith s n.val cmdDebugGrant) (hl : bodyLength s n.val = 136)
    (h : (checkGrant s (certOf (bodyBytes s n.val 136)) sigOk).1 ≠ stOk) : Gives (.debugGrant n sigOk) s fun t =>
      replied t n.val (checkGrant s (certOf (bodyBytes s n.val 136)) sigOk).1 ∧
      t.fl F.DB_GRANT_LEVEL 0 = s.fl F.DB_GRANT_LEVEL 0 := by
  have run := debugGrant_run hb hl sigOk
  obtain ⟨status, kept⟩ := caddyCert_fields s (certOf (bodyBytes s n.val 136)) sigOk
  obtain ⟨failed, level⟩ := presentCert_refuses h
  rw [status, failed] at run
  have shown := (respond_kept (caddyCert s (certOf (bodyBytes s n.val 136)) sigOk).2 n.val
    (checkGrant s (certOf (bodyBytes s n.val 136)) sigOk).1 []).1
  exact ⟨_, run, respond_replied _ n.val (checkGrant_status ..) [], (shown _ _ rfl).trans ((kept _ _ rfl).trans level)⟩

end
end

/-! #### Life-cycle transitions (03 R69; 16 R354) -/

section
variable {n : Fin 8} {target : BitVec 3} {owner maker rma : Bool} {keyHash : Nat}

/-- The part goes to that state next, or is SCRAPPED. -/
theorem lcAllowed_iff (s : State) (target : BitVec 3) : lcAllowed (s.fl F.LC_STATE_STATE 0) target.toNat = true ↔
    s.fl F.LC_STATE_STATE 0 < 5 ∧ (target = 5 ∨ target.toNat = s.fl F.LC_STATE_STATE 0 + 1) := by
  have five : target = 5 ↔ target.toNat = 5 := by rw [BitVec.toNat_eq]; rfl
  rw [five]
  simp only [lcAllowed, Bool.and_eq_true, Bool.or_eq_true, decide_eq_true_eq, beq_iff_eq]
  omega

theorem lcSigned_iff (s : State) (owner maker rma : Bool)
    (ha : s.fl F.LC_STATE_STATE 0 < 5 ∧ (target = 5 ∨ target.toNat = s.fl F.LC_STATE_STATE 0 + 1)) :
    lcSigned (s.fl F.LC_STATE_STATE 0) target.toNat (owner && !keysRefused s) maker rma = true ↔
      (target = 1 ∨ target = 2 → maker = true) ∧ (target = 3 → owner = true ∧ keysRefused s = false) ∧
      (target = 4 → (owner = true ∧ keysRefused s = false) ∧ rma = true) ∧
      (target = 5 → (owner = true ∧ keysRefused s = false) ∨ (rma = true ∧ s.fl F.LC_STATE_STATE 0 = 4)) := by
  have known : target = 1 ∨ target = 2 ∨ target = 3 ∨ target = 4 ∨ target = 5 := by
    simp only [BitVec.toNat_eq] at ha ⊢
    simp only [show (5 : BitVec 3).toNat = 5 from rfl, show (1 : BitVec 3).toNat = 1 from rfl, show (2 : BitVec 3).toNat = 2 from rfl,
      show (3 : BitVec 3).toNat = 3 from rfl, show (4 : BitVec 3).toNat = 4 from rfl] at ha ⊢
    omega
  rcases known with rfl | rfl | rfl | rfl | rfl <;> simp [lcSigned]

/-- The Caddy once the channel's nonce is used. -/
def nonceUsed (s : State) (n : Nat) : State := onCaddy s fun c => { c with nonces := mset [] c.nonces n [] }

theorem lcTransition_run (hb : busyWith s n.val cmdLcTransition) (hp : s.sup.programming = none) :
    exec (.lcTransition n target Config.serial true owner maker rma keyHash) s = .next
      (if (!lcAllowed (s.fl F.LC_STATE_STATE 0) target.toNat || Config.serial != Config.serial) = true then
         respond (nonceUsed s n.val) n.val stDenied []
       else if (!(!(mget [] s.caddy.nonces n.val).isEmpty) ||
           !lcSigned (s.fl F.LC_STATE_STATE 0) target.toNat (owner && !keysRefused s) maker rma) = true then
         respond (nonceUsed s n.val) n.val stBadSignature []
       else { (nonceUsed s n.val) with sup := { s.sup with
         programming := some (target.toNat - 1, some n.val), newKey := if target.toNat = 2 then keyHash else 0 } }) := by
  have e : exec (.lcTransition n target Config.serial true owner maker rma keyHash) s =
    .next (mbJob s n.val cmdLcTransition _) := rfl
  rw [e, mbJob_busy hb, if_neg (by simp [hp])]
  rfl

theorem lcTransition_gives (hb : busyWith s n.val cmdLcTransition) (hp : s.sup.programming = none)
    {allowed signed : Prop} (ha : allowed ↔ lcAllowed (s.fl F.LC_STATE_STATE 0) target.toNat = true)
    (hs : allowed → (signed ↔ lcSigned (s.fl F.LC_STATE_STATE 0) target.toNat (owner && !keysRefused s) maker rma = true)) :
    let asks := Gives (.lcTransition n target Config.serial true owner maker rma keyHash) s
    (¬ allowed → asks fun t => replied t n.val stDenied ∧ t.sup = s.sup) ∧
    (allowed → mget [] s.caddy.nonces n.val ≠ [] → ¬ signed → asks fun t => replied t n.val stBadSignature ∧ t.sup = s.sup) ∧
    (allowed → mget [] s.caddy.nonces n.val ≠ [] → signed → asks fun t =>
      t.sup.programming = some (target.toNat - 1, some n.val) ∧ (target = 2 → t.sup.newKey = keyHash) ∧
      t.fl F.MB_STAT_STATE n.val = 2 ∧ mget [] t.caddy.nonces n.val = [] ∧ t.mem = s.mem) := by
  have run := lcTransition_run (owner := owner) (maker := maker) (rma := rma) (keyHash := keyHash) (target := target) hb hp
  refine ⟨fun h => ?_, fun h hn hsig => ?_, fun h hn hsig => ?_⟩
  · exact gives_of run (if_pos (by simp [Bool.eq_false_iff.mpr (mt ha.mpr h)])) ⟨respond_replied _ _ (by decide) [], respond_sup ..⟩
  · have bad := Bool.eq_false_iff.mpr (mt (hs h).mpr hsig)
    exact gives_of run ((if_neg (by simp [ha.mp h])).trans (if_pos (by simp [bad])))
      ⟨respond_replied _ _ (by decide) [], respond_sup ..⟩
  · refine gives_of run ((if_neg (by simp [ha.mp h])).trans (if_neg (by simp [(hs h).mp hsig, hn])))
      ⟨rfl, ?_, hb.1, mget_mset_same [] _ n.val [], rfl⟩
    rintro rfl
    rfl

end

/-- Settles O29: doorbells, the Caddy's taking of a message, and its answers (`respond_replied`, `respond_tells`). -/
theorem mailboxMessages : Obligations.MailboxMessages := by
  intro s q n status body nonce row stuck sigOk owner maker rma keyHash target state reached length cert busy command kept lc
    allowed owned signed asks tells version
  refine ⟨mbGo_gives, mbAck_gives, caddyTakeMessage_gives, fun hb hk => ?_, fun hb hk => ?_, fun hb hl => ?_, fun hb hl hk => ?_,
    fun hb hl hk => ?_, fun hb hl hk => ?_, fun e he hb hl => ?_, debugGrant_gives, debugGrant_refused,
    fun hb hp => lcTransition_gives hb hp (lcAllowed_iff s target).symm fun ha => (lcSigned_iff s owner maker rma ha).symm,
    lcRowProgrammed_gives⟩
  · exact gives_of rfl ((mbJob_busy hb _).trans (if_pos hk)) ⟨respond_replied s n.val status.isLt body, fun i => respond_tells s n.val _ body⟩
  · exact gives_of rfl ((mbJob_busy hb _).trans (if_neg (Bool.eq_false_iff.mp hk))) (respond_replied s n.val (by decide) [])
  · exact gives_of rfl (mbJobOf_runs hb hl _) ⟨respond_replied _ n.val (by decide) _, fun i => respond_tells _ n.val _ _,
      ((congrArg Caddy.nonces (respond_kept _ n.val _ _).2).symm ▸ mget_mset_same [] _ n.val _)⟩
  · exact gives_of rfl ((mbJobOf_runs hb hl _).trans (if_neg (by simp [hk])))
      ⟨respond_replied s n.val (by decide) body, fun i => respond_tells s n.val _ body⟩
  · exact gives_of rfl ((mbJobOf_runs hb hl _).trans (if_pos hk)) (respond_replied s n.val (by decide) [])
  · exact gives_of rfl ((mbJobOf_runs hb hl _).trans (if_neg (by simp [hk]))) (respond_replied s n.val (by decide) _)
  · simp only [List.mem_cons, List.not_mem_nil, or_false] at he
    rcases he with rfl | rfl | rfl | rfl <;> exact refused_gives rfl hb hl

end Sys2Proof.Machine
end

section
/-! ### The memory channels (O49) -/

namespace Sys2Proof.Machine

variable {s t : State}

/-! #### Channels one after the other -/

/-- What one channel's step does to what the others leave alone. -/
theorem foldl_at {β : Type} {view : State → β} {step : State → Nat → State} {l : List Nat} (hn : l.Nodup) {c : Nat} (hc : c ∈ l)
    (other : ∀ t, ∀ a ∈ l, a ≠ c → view (step t a) = view t) (s : State) :
    ∃ u, view u = view s ∧ view (l.foldl step s) = view (step u c) := by
  have without (k : List Nat) (hk : k ⊆ l) (hck : c ∉ k) (s : State) : view (k.foldl step s) = view s := by
    induction k generalizing s with
    | nil => rfl
    | cons a k ih =>
      have ha : a ≠ c := fun e => hck (e ▸ List.mem_cons_self)
      exact (ih (List.subset_of_cons_subset hk) (fun h => hck (List.mem_cons_of_mem a h)) _).trans (other s a (hk List.mem_cons_self) ha)
  obtain ⟨k1, k2, rfl⟩ := List.append_of_mem hc
  have apart := List.nodup_middle.mp hn
  obtain ⟨out, -⟩ := List.nodup_cons.mp apart
  refine ⟨k1.foldl step s, without k1 (by simp) (fun h => out (List.mem_append_left _ h)) s, ?_⟩
  rw [List.foldl_append, List.foldl_cons]
  exact without k2 (fun a h => by simp [h]) (fun h => out (List.mem_append_right _ h)) _

theorem channelsOf_nodup (m : Nat) : (channelsOf m).Nodup := List.Nodup.filter _ List.nodup_range

theorem mem_channelsOf {m a : Nat} : a ∈ channelsOf m ↔ a < 4 ∧ bitAt m a = true := by
  simp [channelsOf]

theorem chBit_getLsbD : ∀ a c : Fin 4, (chBit a.val).getLsbD c.val = decide (a = c) := by decide

theorem bitAt_setBit_ne (s : State) (f : Fld) (i : Nat) {k j : Nat} (b : Bool) (hj : j < f.width) (h : j ≠ k) :
    bitAt ((s.setBit f i k b).fl f i) j = bitAt (s.fl f i) j := by
  rw [State.setBit, State.fl_setF_same, bitAt, Nat.testBit_mod_two_pow, testBit_withBit_ne _ _ h, decide_eq_true hj, Bool.true_and]
  rfl

/-! #### The state of one channel -/

/-- What shows of channel `c`. -/
structure Channel where
  trained : Bool
  filling : Bool
  ready : Bool
  inInit : Bool
  selfRef : Bool
  undef : Bool
  writes : List DramWrite
  usable : Nat

def channel (c : Nat) (s : State) : Channel where
  trained := bitAt (s.fl F.MC_STAT_TRAINED 0) c
  filling := bitAt (s.fl F.MC_STAT_FILLING 0) c
  ready := s.ready (29 + c)
  inInit := s.dram.inInit.getLsbD c
  selfRef := s.dram.selfRef.getLsbD c
  undef := s.dram.undef.getLsbD c
  writes := channelWrites s c
  usable := s.dram.usable

/-- A change of no channel's bits, in registers of its own. -/
theorem channel_congr (c : Nat) (hd : t.dram = s.dram) (ht : t.fl F.MC_STAT_TRAINED 0 = s.fl F.MC_STAT_TRAINED 0)
    (hf : t.fl F.MC_STAT_FILLING 0 = s.fl F.MC_STAT_FILLING 0) (hr : ∀ i, t.fl F.KT_READY_READY i = s.fl F.KT_READY_READY i) :
    channel c t = channel c s := by
  simp only [channel, channelWrites, hd, ht, hf, ready_congr hr]

theorem drainWrites_other {a c : Nat} (h : a ≠ c) (s : State) : channelWrites (drainWrites s a) c = channelWrites s c := by
  simp only [channelWrites, drainWrites, servedWrites, List.filter_filter]
  refine List.filter_congr fun w _ => ?_
  by_cases e : w.channel = c
  · simp [e, Ne.symm h]
  · simp [e]

theorem drainWrites_own (s : State) (c : Nat) : channelWrites (drainWrites s c) c = [] := by
  simp [channelWrites, drainWrites, servedWrites]

/-- INIT keeps the contents of channel `a`. -/
def initKeeps (s : State) (keep : Bool) (a : Nat) : Bool :=
  keep && (bitAt (s.fl F.MC_STAT_TRAINED 0) a || s.dram.selfRef.getLsbD a)

theorem initChannel_flds (s : State) (keep : Bool) (a : Nat) : (initChannel s keep a).flds =
    (((s.setBit F.MC_STAT_TRAINED 0 a false).setReady (29 + a) false).setF F.PW_DOM_STATE (28 + a) 0).flds := by
  unfold initChannel
  dsimp only
  split <;> rfl

theorem initChannel_sides (s : State) (keep : Bool) (a : Nat) :
    (initChannel s keep a).mem = s.mem ∧ (initChannel s keep a).cpus = s.cpus := by
  unfold initChannel
  dsimp only
  split <;> exact ⟨rfl, rfl⟩

theorem initChannel_dram (s : State) (keep : Bool) (a : Nat) :
    (initChannel s keep a).dram.inInit = s.dram.inInit ||| chBit a ∧
    (initChannel s keep a).dram.selfRef = s.dram.selfRef &&& ~~~(chBit a) ∧
    (initChannel s keep a).dram.undef = (if initKeeps s keep a then s.dram.undef else s.dram.undef ||| chBit a) ∧
    (∀ c, channelWrites (initChannel s keep a) c = channelWrites (drainWrites s a) c) ∧
    (initChannel s keep a).dram.usable = s.dram.usable := by
  have lost (c : Nat) : channelWrites (contentsLost (drainWrites s a) a) c = channelWrites (drainWrites s a) c := by
    simp only [channelWrites, contentsLost, onDram, drainWrites, servedWrites, List.filter_filter]
    exact List.filter_congr fun w _ => by cases h : w.channel == a <;> simp [bne, h]
  unfold initChannel
  dsimp only
  split
  · rename_i h
    have kept : initKeeps s keep a = true := h
    exact ⟨rfl, rfl, (if_pos kept).symm, fun _ => rfl, rfl⟩
  · rename_i h
    have gone : ¬ initKeeps s keep a = true := h
    exact ⟨rfl, rfl, (if_neg gone).symm, lost, rfl⟩

/-- INIT of another channel. -/
theorem initChannel_other {a c : Nat} (ha : a < 4) (hc : c < 4) (h : a ≠ c) (keep : Bool) (s : State) :
    channel c (initChannel s keep a) = channel c s := by
  obtain ⟨inInit, selfRef, undef, writes, usable⟩ := initChannel_dram s keep a
  have bit : (chBit a).getLsbD c = false := (chBit_getLsbD ⟨a, ha⟩ ⟨c, hc⟩).trans (decide_eq_false (by simpa using h))
  have fl := fun f i => State.fl_congr (initChannel_flds s keep a) f i
  have trained : bitAt ((initChannel s keep a).fl F.MC_STAT_TRAINED 0) c = bitAt (s.fl F.MC_STAT_TRAINED 0) c := by
    rw [fl, State.fl_setF_id _ _ _ _ (by decide), State.setReady, State.setBit, State.fl_setF_id _ _ _ _ (by decide)]
    exact bitAt_setBit_ne s _ 0 false (show c < F.MC_STAT_TRAINED.width from hc) (Ne.symm h)
  have filling : (initChannel s keep a).fl F.MC_STAT_FILLING 0 = s.fl F.MC_STAT_FILLING 0 := by
    rw [fl, State.fl_setF_id _ _ _ _ (by decide), State.setReady, State.setBit, State.fl_setF_id _ _ _ _ (by decide), State.setBit,
      State.fl_setF_id _ _ _ _ (by decide)]
  have ready : (initChannel s keep a).ready (29 + c) = s.ready (29 + c) := by
    have e := ready_setReady_ne (s.setBit F.MC_STAT_TRAINED 0 a false) (u := 29 + a) (w := 29 + c) false (by omega) (by omega) (by omega)
    have kept : ∀ i, (initChannel s keep a).fl F.KT_READY_READY i =
        ((s.setBit F.MC_STAT_TRAINED 0 a false).setReady (29 + a) false).fl F.KT_READY_READY i :=
      fun i => (fl _ _).trans (State.fl_setF_id _ _ _ _ (by decide))
    have before : ∀ i, (s.setBit F.MC_STAT_TRAINED 0 a false).fl F.KT_READY_READY i = s.fl F.KT_READY_READY i :=
      fun i => State.fl_setF_id _ _ _ _ (by decide)
    rw [ready_congr kept, e, ready_congr before]
  have undef' : (initChannel s keep a).dram.undef.getLsbD c = s.dram.undef.getLsbD c := by
    rw [undef]
    split
    · rfl
    · rw [BitVec.getLsbD_or, bit, Bool.or_false]
  have self : (initChannel s keep a).dram.selfRef.getLsbD c = s.dram.selfRef.getLsbD c := by
    rw [selfRef, BitVec.getLsbD_and, BitVec.getLsbD_not, bit, decide_eq_true hc]
    simp
  have inInit' : (initChannel s keep a).dram.inInit.getLsbD c = s.dram.inInit.getLsbD c := by
    rw [inInit, BitVec.getLsbD_or, bit, Bool.or_false]
  simp only [channel, trained, filling, ready, inInit', self, undef', writes, drainWrites_other h, usable]

/-- INIT of channel `c` itself. -/
theorem initChannel_own {c : Nat} (hc : c < 4) (keep : Bool) (s : State) : channel c (initChannel s keep c) =
    { channel c s with trained := false, ready := false, inInit := true, selfRef := false, writes := [],
                       undef := (channel c s).undef || !(keep && ((channel c s).trained || (channel c s).selfRef)) } := by
  obtain ⟨inInit, selfRef, undef, writes, usable⟩ := initChannel_dram s keep c
  have bit : (chBit c).getLsbD c = true := (chBit_getLsbD ⟨c, hc⟩ ⟨c, hc⟩).trans (decide_eq_true rfl)
  have fl := fun f i => State.fl_congr (initChannel_flds s keep c) f i
  have trained : bitAt ((initChannel s keep c).fl F.MC_STAT_TRAINED 0) c = false := by
    rw [fl, State.fl_setF_id _ _ _ _ (by decide), State.setReady, State.setBit, State.fl_setF_id _ _ _ _ (by decide)]
    exact bitAt_setBit s _ 0 false hc
  have filling : (initChannel s keep c).fl F.MC_STAT_FILLING 0 = s.fl F.MC_STAT_FILLING 0 := by
    rw [fl, State.fl_setF_id _ _ _ _ (by decide), State.setReady, State.setBit, State.fl_setF_id _ _ _ _ (by decide), State.setBit,
      State.fl_setF_id _ _ _ _ (by decide)]
  have ready : (initChannel s keep c).ready (29 + c) = false := by
    have kept : ∀ i, (initChannel s keep c).fl F.KT_READY_READY i =
        ((s.setBit F.MC_STAT_TRAINED 0 c false).setReady (29 + c) false).fl F.KT_READY_READY i :=
      fun i => (fl _ _).trans (State.fl_setF_id _ _ _ _ (by decide))
    rw [ready_congr kept, ready_setReady_same]
  have undef' : (initChannel s keep c).dram.undef.getLsbD c = (s.dram.undef.getLsbD c || !initKeeps s keep c) := by
    rw [undef]
    cases initKeeps s keep c
    · exact (BitVec.getLsbD_or ..).trans (by rw [bit]; rfl)
    · simp
  have self : (initChannel s keep c).dram.selfRef.getLsbD c = false := by
    rw [selfRef, BitVec.getLsbD_and, BitVec.getLsbD_not, bit]
    simp
  have inInit' : (initChannel s keep c).dram.inInit.getLsbD c = true := by
    rw [inInit, BitVec.getLsbD_or, bit, Bool.or_true]
  simp only [channel, trained, filling, ready, inInit', self, undef', writes, drainWrites_own, usable]
  rfl

/-! #### A fill is asked for (19 R407) -/

theorem fillChannel_eq (s : State) (a : Nat) : fillChannel s a = (if bitAt (s.fl F.MC_STAT_TRAINED 0) a
    then s.setBit F.MC_STAT_FILLING 0 a true
    else onDram (s.setBit F.MC_STAT_FILLING 0 a true) fun d => { d with fillHeld := d.fillHeld ||| chBit a }) := by
  have e : (s.setBit F.MC_STAT_FILLING 0 a true).fl F.MC_STAT_TRAINED 0 = s.fl F.MC_STAT_TRAINED 0 :=
    State.fl_setF_id (f := F.MC_STAT_FILLING) _ _ _ _ (by decide)
  rw [← e]
  rfl

theorem fillChannel_channel (s : State) (a c : Nat) : channel c (fillChannel s a) =
    { channel c s with filling := bitAt ((s.setBit F.MC_STAT_FILLING 0 a true).fl F.MC_STAT_FILLING 0) c } := by
  have trained : (s.setBit F.MC_STAT_FILLING 0 a true).fl F.MC_STAT_TRAINED 0 = s.fl F.MC_STAT_TRAINED 0 :=
    State.fl_setF_id (f := F.MC_STAT_FILLING) _ _ _ _ (by decide)
  have ready : ∀ i, (s.setBit F.MC_STAT_FILLING 0 a true).fl F.KT_READY_READY i = s.fl F.KT_READY_READY i :=
    fun i => State.fl_setF_id (f := F.MC_STAT_FILLING) _ _ _ _ (by decide)
  have bare : channel c (s.setBit F.MC_STAT_FILLING 0 a true) =
      { channel c s with filling := bitAt ((s.setBit F.MC_STAT_FILLING 0 a true).fl F.MC_STAT_FILLING 0) c } := by
    simp only [channel, trained, ready_congr ready]
    rfl
  rw [fillChannel_eq, ← bare]
  split <;> rfl

theorem fillChannel_sides (s : State) (a : Nat) : (fillChannel s a).mem = s.mem ∧ (fillChannel s a).cpus = s.cpus := by
  unfold fillChannel
  dsimp only
  split <;> exact ⟨rfl, rfl⟩

/-- The other channels' FILLING stays. -/
theorem fillChannel_other {a c : Nat} (hc : c < 4) (h : a ≠ c) (s : State) : channel c (fillChannel s a) = channel c s := by
  rw [fillChannel_channel, bitAt_setBit_ne s _ 0 true (show c < F.MC_STAT_FILLING.width from hc) (Ne.symm h)]
  rfl

theorem fillChannel_own {c : Nat} (hc : c < 4) (s : State) : channel c (fillChannel s c) = { channel c s with filling := true } := by
  rw [fillChannel_channel, bitAt_setBit s _ 0 true (show c < F.MC_STAT_FILLING.width from hc)]

/-- Whether channel `c` is trained, and a fill of it held. -/
def heldView (c : Nat) (s : State) : Bool × Bool := (bitAt (s.fl F.MC_STAT_TRAINED 0) c, s.dram.fillHeld.getLsbD c)

theorem fillChannel_trained (s : State) (a c : Nat) :
    bitAt ((fillChannel s a).fl F.MC_STAT_TRAINED 0) c = bitAt (s.fl F.MC_STAT_TRAINED 0) c :=
  congrArg Channel.trained (fillChannel_channel s a c)

theorem fillChannel_held (s : State) (a : Nat) : (fillChannel s a).dram.fillHeld =
    if bitAt (s.fl F.MC_STAT_TRAINED 0) a then s.dram.fillHeld else s.dram.fillHeld ||| chBit a := by
  rw [fillChannel_eq]
  split <;> rfl

theorem heldView_other {a c : Nat} (ha : a < 4) (hc : c < 4) (h : a ≠ c) (s : State) : heldView c (fillChannel s a) = heldView c s := by
  have bit : (chBit a).getLsbD c = false := (chBit_getLsbD ⟨a, ha⟩ ⟨c, hc⟩).trans (decide_eq_false (by simpa using h))
  have held : (fillChannel s a).dram.fillHeld.getLsbD c = s.dram.fillHeld.getLsbD c := by
    rw [fillChannel_held]
    split
    · rfl
    · rw [BitVec.getLsbD_or, bit, Bool.or_false]
  rw [heldView, heldView, fillChannel_trained, held]

/-! #### MC_CTL (19 R407, R413) -/

section
variable {q : Requester} {v : Word} {n : Fin 4}

/-- The part counts its usable bytes. -/
def withUsable (s : State) (n : Nat) : State := onDram s fun d => { d with usable := n }

/-- The channels as MC_CTL has them set up. -/
def mctlInit (s : State) (w : Wr) : State :=
  (channelsOf (w.bits F.MC_CTL_INIT)).foldl (fun s c => initChannel s (w.on F.MC_CTL_KEEP) c)
    (if w.bits F.MC_CTL_INIT ≠ 0 then withUsable s (usableBytes (s.fl F.MC_CFG_CAP 0)) else s)

theorem withUsable_sides (s : State) (n : Nat) : (withUsable s n).mem = s.mem ∧ (withUsable s n).cpus = s.cpus := ⟨rfl, rfl⟩

theorem withUsable_channel (s : State) (n c : Nat) : channel c (withUsable s n) = { channel c s with usable := n } := rfl

theorem mctlWrite_of {w : Wr} (h : isMachine s w.q = true) : mctlWrite s w =
    (channelsOf (w.bits F.MC_CTL_FILL)).foldl fillChannel (mctlInit s w) := atMachine_of h _

theorem fills_sides (l : List Nat) (s : State) : (l.foldl fillChannel s).mem = s.mem ∧ (l.foldl fillChannel s).cpus = s.cpus :=
  ⟨foldl_keeps State.mem (fun t a => (fillChannel_sides t a).1) l s, foldl_keeps State.cpus (fun t a => (fillChannel_sides t a).2) l s⟩

theorem mctlInit_sides (s : State) (w : Wr) : (mctlInit s w).mem = s.mem ∧ (mctlInit s w).cpus = s.cpus := by
  have mem (t : State) := foldl_keeps State.mem (fun t a => (initChannel_sides t (w.on F.MC_CTL_KEEP) a).1) (channelsOf (w.bits F.MC_CTL_INIT)) t
  have cpus (t : State) := foldl_keeps State.cpus (fun t a => (initChannel_sides t (w.on F.MC_CTL_KEEP) a).2) (channelsOf (w.bits F.MC_CTL_INIT)) t
  have sized := withUsable_sides s (usableBytes (s.fl F.MC_CFG_CAP 0))
  rw [mctlInit, mem, cpus]
  generalize withUsable s (usableBytes (s.fl F.MC_CFG_CAP 0)) = a at sized
  split
  · exact sized
  · exact ⟨rfl, rfl⟩

theorem power_channel (power : OnlyPower s t) (c : Nat) : channel c t = channel c s := by
  have dram : t.dram = s.dram := by
    have e := congrArg State.dram power
    exact e
  exact channel_congr c dram (power.fl _ _) (power.fl _ _) fun i => power.fl _ i

/-- Whatever a fill does, the rest of a channel stays. -/
theorem fills_rest (c : Nat) (l : List Nat) (s : State) :
    { channel c (l.foldl fillChannel s) with filling := false } = { channel c s with filling := false } :=
  foldl_keeps (fun t => { channel c t with filling := false }) (fun t a => by
    have e := congrArg (fun h => { h with filling := false }) (fillChannel_channel t a c)
    exact e) l s

/-- The channel after the INIT that names it. -/
theorem mctlInit_channel {w : Wr} {c : Nat} (hc : c < 4) (hi : bitAt (w.bits F.MC_CTL_INIT) c = true) :
    channel c (mctlInit s w) = { channel c s with
      trained := false, ready := false, inInit := true, selfRef := false, writes := [], usable := usableBytes (s.fl F.MC_CFG_CAP 0),
      undef := (channel c s).undef || !(w.on F.MC_CTL_KEEP && ((channel c s).trained || (channel c s).selfRef)) } := by
  have some_ : w.bits F.MC_CTL_INIT ≠ 0 := fun e => by rw [e] at hi; simp [bitAt] at hi
  obtain ⟨u, hu, e⟩ := foldl_at (view := channel c) (step := fun s c => initChannel s (w.on F.MC_CTL_KEEP) c)
    (channelsOf_nodup _) (mem_channelsOf.mpr ⟨hc, hi⟩)
    (fun t a ha h => initChannel_other (mem_channelsOf.mp ha).1 hc h (w.on F.MC_CTL_KEEP) t)
    (withUsable s (usableBytes (s.fl F.MC_CFG_CAP 0)))
  rw [mctlInit, if_pos some_, e, initChannel_own hc, hu, withUsable_channel]

theorem mcCtlInit_gives (ho : openAt s 0xE00800008 ∧ isMachine s q = true) (hi : bitAt (bitsOf v F.MC_CTL_INIT) n.val = true) :
    Gives (.mcCtlInit q v) s fun t => bitAt (t.fl F.MC_STAT_TRAINED 0) n.val = false ∧ t.ready (29 + n.val) = false ∧
      t.dram.inInit.getLsbD n.val = true ∧ t.dram.usable = usableBytes (s.fl F.MC_CFG_CAP 0) ∧
      (¬ bitsOf v F.MC_CTL_KEEP = 1 → t.dram.undef.getLsbD n.val = true) ∧ channelWrites t n.val = [] ∧
      (bitsOf v F.MC_CTL_KEEP = 1 → bitAt (s.fl F.MC_STAT_TRAINED 0) n.val = true ∨ s.dram.selfRef.getLsbD n.val = true →
        t.dram.undef.getLsbD n.val = s.dram.undef.getLsbD n.val) ∧ t.mem = s.mem ∧ t.cpus = s.cpus := by
  have reg : target s 0xE00800008 = .reg := target_reg s (0xE00000000, 0xE008FFFFF) (by decide) (by decide)
  obtain ⟨t, power, run⟩ := rowWrite_open reg ho.1 q v mctlWrite
  let w : Wr := .full q 0xE00800008 v
  rw [mctlWrite_of ((isMachine_congr power.cpus q).trans ho.2)] at run
  have named : bitAt (w.bits F.MC_CTL_INIT) n.val = true := by rwa [Wr.bits_full]
  have keep : w.on F.MC_CTL_KEEP = true ↔ bitsOf v F.MC_CTL_KEEP = 1 := Wr.on_full_iff _ _ _ rfl
  have rest := fills_rest n.val (channelsOf (w.bits F.MC_CTL_FILL)) (mctlInit t w)
  have sides := fills_sides (channelsOf (w.bits F.MC_CTL_FILL)) (mctlInit t w)
  have initSides := mctlInit_sides t w
  rw [mctlInit_channel n.isLt named, power_channel power, power.fl] at rest
  generalize (channelsOf (w.bits F.MC_CTL_FILL)).foldl fillChannel (mctlInit t w) = u at rest sides run
  have undef := congrArg Channel.undef rest
  refine ⟨u, run, congrArg Channel.trained rest, congrArg Channel.ready rest, congrArg Channel.inInit rest, congrArg Channel.usable rest,
    fun hk => undef.trans ?_, congrArg Channel.writes rest, fun hk h => undef.trans ?_, sides.1.trans (initSides.1.trans power.mem),
    sides.2.trans (initSides.2.trans power.cpus)⟩
  · simp [Bool.eq_false_iff.mpr (mt keep.mp hk)]
  · have kept : ((channel n.val s).trained || (channel n.val s).selfRef) = true := Bool.or_eq_true_iff.mpr h
    simp only [keep.mpr hk, kept, Bool.and_self, Bool.not_true, Bool.or_false]
    rfl

theorem mcCtlFill_gives (ho : openAt s 0xE00800008 ∧ isMachine s q = true) (hi : bitsOf v F.MC_CTL_INIT = 0)
    (hf : bitAt (bitsOf v F.MC_CTL_FILL) n.val = true) : Gives (.mcCtlFill q v) s fun t =>
      bitAt (t.fl F.MC_STAT_FILLING 0) n.val = true ∧
      bitAt (t.fl F.MC_STAT_TRAINED 0) n.val = bitAt (s.fl F.MC_STAT_TRAINED 0) n.val ∧
      (bitAt (s.fl F.MC_STAT_TRAINED 0) n.val = false → t.dram.fillHeld.getLsbD n.val = true) ∧ t.mem = s.mem ∧ t.cpus = s.cpus := by
  have reg : target s 0xE00800008 = .reg := target_reg s (0xE00000000, 0xE008FFFFF) (by decide) (by decide)
  obtain ⟨t, power, run⟩ := rowWrite_open reg ho.1 q v mctlWrite
  let w : Wr := .full q 0xE00800008 v
  rw [mctlWrite_of ((isMachine_congr power.cpus q).trans ho.2)] at run
  have bare : mctlInit t w = t := by
    have none_ : w.bits F.MC_CTL_INIT = 0 := (Wr.bits_full ..).trans hi
    rw [mctlInit, none_]
    rfl
  have named : n.val ∈ channelsOf (w.bits F.MC_CTL_FILL) := mem_channelsOf.mpr ⟨n.isLt, by rwa [Wr.bits_full]⟩
  rw [bare] at run
  obtain ⟨a, ha, filled⟩ := foldl_at (view := channel n.val) (step := fillChannel) (channelsOf_nodup _) named
    (fun t a _ h => fillChannel_other n.isLt h t) t
  obtain ⟨b, hb, held⟩ := foldl_at (view := heldView n.val) (step := fillChannel) (channelsOf_nodup _) named
    (fun t a ha h => heldView_other (mem_channelsOf.mp ha).1 n.isLt h t) t
  have sides := fills_sides (channelsOf (w.bits F.MC_CTL_FILL)) t
  rw [fillChannel_own n.isLt, ha, power_channel power] at filled
  refine ⟨_, run, congrArg Channel.filling filled, congrArg Channel.trained filled, fun ht => ?_, sides.1.trans power.mem,
    sides.2.trans power.cpus⟩
  have untrained : bitAt (b.fl F.MC_STAT_TRAINED 0) n.val = false := by
    have e : bitAt (b.fl F.MC_STAT_TRAINED 0) n.val = bitAt (t.fl F.MC_STAT_TRAINED 0) n.val := congrArg Prod.fst hb
    rw [e, power.fl, ht]
  refine (congrArg Prod.snd held).trans ?_
  have bit : (chBit n.val).getLsbD n.val = true := (chBit_getLsbD n n).trans (decide_eq_true rfl)
  rw [heldView, fillChannel_held, untrained]
  simp [bit]

end

/-! #### Refusals, and the end of training (19 R413) -/

section
variable {q : Requester} {v : Word} {n : Fin 4}

theorem mctl_refused {i : Instr} (hi : exec i s = rowWrite q 0xE00800008 v mctlWrite s) (ho : openAt s 0xE00800008)
    (hm : isMachine s q = false) : Gives i s fun t => t.dram = s.dram ∧
      bitAt (t.fl F.MC_STAT_TRAINED 0) n.val = bitAt (s.fl F.MC_STAT_TRAINED 0) n.val ∧
      bitAt (t.fl F.MC_STAT_FILLING 0) n.val = bitAt (s.fl F.MC_STAT_FILLING 0) n.val ∧ t.mem = s.mem ∧ t.cpus = s.cpus := by
  have reg : target s 0xE00800008 = .reg := target_reg s (0xE00000000, 0xE008FFFFF) (by decide) (by decide)
  obtain ⟨t, power, run⟩ := rowWrite_open reg ho q v mctlWrite
  let w : Wr := .full q 0xE00800008 v
  have side := ignoreWarn_side (s := t) [] w
  have dram : (ignoreWarn t w).dram = t.dram := dregs_dram ..
  have before : t.dram = s.dram := by
    have e := congrArg State.dram power
    exact e
  exact gives_of (hi.trans run) (atMachine_ignored ((isMachine_congr power.cpus q).trans hm) _)
    ⟨dram.trans before, by rw [side.fl _ _ rfl, power.fl], by rw [side.fl _ _ rfl, power.fl], side.mem.trans power.mem,
      side.cpus.trans power.cpus⟩

theorem channelTrained_gives (hi : s.dram.inInit.getLsbD n.val = true) (hp : powered s (28 + n.val) = true) :
    Gives (.channelTrained n) s fun t => bitAt (t.fl F.MC_STAT_TRAINED 0) n.val = true ∧ t.ready (29 + n.val) = true ∧
      t.dram.inInit.getLsbD n.val = false ∧ t.dram.undef.getLsbD n.val = s.dram.undef.getLsbD n.val ∧ t.mem = s.mem ∧ t.cpus = s.cpus := by
  have bit : (chBit n.val).getLsbD n.val = true := (chBit_getLsbD n n).trans (decide_eq_true rfl)
  refine gives_of rfl (if_pos (Bool.and_eq_true_iff.mpr ⟨hi, hp⟩)) ⟨?_, ready_setReady_same _ _ _, ?_, rfl, rfl, rfl⟩
  · rw [State.setReady, State.setBit, State.fl_setF_id _ _ _ _ (by decide)]
    exact bitAt_setBit _ F.MC_STAT_TRAINED 0 true n.isLt
  · have e : (s.dram.inInit &&& ~~~(chBit n.val)).getLsbD n.val = false := by
      rw [BitVec.getLsbD_and, BitVec.getLsbD_not, bit]
      simp
    exact e

/-! #### The end of a fill (19 R407) -/

/-- The lines of channel `c` are zeros. -/
def zeroed (s : State) (c : Nat) : State :=
  { s with mem := s.mem.filter fun e => decide (s.dram.usable ≤ e.1) || decide (e.1 / 256 % 4 ≠ c) }

theorem mget_filter_none {α : Type} (d : α) (p : Nat × α → Bool) (m : FMap α) {k : Nat} (h : ∀ v, p (k, v) = false) :
    mget d (m.filter p) k = d := by
  induction m with
  | nil => rfl
  | cons e m ih =>
    obtain ⟨j, v⟩ := e
    by_cases hp : p (j, v) = true
    · have hj : j ≠ k := fun e => absurd (h v) (by rw [← e, hp]; simp)
      simp [hp, mget, hj, ih]
    · simp [hp, ih]

theorem readByte_zeroed_in {a c : Nat} (hu : a < s.dram.usable) (hc : a / 256 % 4 = c) : readByte (zeroed s c) a = 0 :=
  mget_filter_none memDefault _ s.mem fun _ => by simp [hc, hu]

theorem readByte_zeroed_out {a c : Nat} (h : s.dram.usable ≤ a ∨ a / 256 % 4 ≠ c) : readByte (zeroed s c) a = readByte s a :=
  mget_filter memDefault _ s.mem fun _ => by simpa using h

theorem fillComplete_gives {a : Nat} (hf : bitAt (s.fl F.MC_STAT_FILLING 0) n.val = true)
    (ht : bitAt (s.fl F.MC_STAT_TRAINED 0) n.val = true) : Gives (.fillComplete n) s fun t =>
      bitAt (t.fl F.MC_STAT_FILLING 0) n.val = false ∧ t.dram.undef.getLsbD n.val = false ∧
      (a < s.dram.usable → a / 256 % 4 = n.val → readByte t a = 0) ∧
      (s.dram.usable ≤ a ∨ a / 256 % 4 ≠ n.val → readByte t a = readByte s a) ∧ t.cpus = s.cpus := by
  have bit : (chBit n.val).getLsbD n.val = true := (chBit_getLsbD n n).trans (decide_eq_true rfl)
  refine gives_of rfl (if_pos (Bool.and_eq_true_iff.mpr ⟨hf, ht⟩)) ⟨bitAt_setBit _ F.MC_STAT_FILLING 0 false n.isLt, ?_,
    fun hu hc => readByte_zeroed_in (s := s) hu hc, fun h => readByte_zeroed_out (s := s) h, rfl⟩
  have e : (s.dram.undef &&& ~~~(chBit n.val)).getLsbD n.val = false := by
    rw [BitVec.getLsbD_and, BitVec.getLsbD_not, bit]
    simp
  exact e

end

/-! #### Reading a line (19 R405, R406) -/

section
variable {line : Nat} {n : Fin 4}

theorem bumpF_sides (s : State) (f : Fld) (i : Nat) : (s.bumpF f i).dram = s.dram ∧ (s.bumpF f i).mem = s.mem ∧
    (s.bumpF f i).cpus = s.cpus := by
  unfold State.bumpF
  dsimp only
  split <;> exact ⟨rfl, rfl, rfl⟩

theorem eccCorrected_sides (s : State) (part : Option Nat) (c : Nat) : (eccCorrected s part c).dram = s.dram ∧
    (eccCorrected s part c).mem = s.mem ∧ (eccCorrected s part c).cpus = s.cpus := by
  obtain ⟨dram, mem, cpus⟩ := bumpF_sides s F.MC_ECCSTAT_CE c
  unfold eccCorrected
  dsimp only
  split
  · simp [dram, mem, cpus]
  · simp [dram, mem, cpus]

theorem eccUncorrectable_sides (s : State) (c off : Nat) : (eccUncorrectable s c off).dram = s.dram ∧
    (eccUncorrectable s c off).mem = s.mem ∧ (eccUncorrectable s c off).cpus = s.cpus := by
  obtain ⟨dram, mem, cpus⟩ := bumpF_sides s F.MC_ECCSTAT_UE c
  unfold eccUncorrectable
  dsimp only
  split
  · simp [dram, mem, cpus]
  · simp [dram, mem, cpus]

theorem readLine_clean (part : Option Nat) (ht : target s line = .dram n) (hu : lineUndef s line = false)
    (hf : lineFlips s line = 0) (ha : line % 64 = 0) : readLine s part line = .ok (readBytes s line 64) s := by
  have al : line / 64 * 64 = line := by omega
  simp only [readLine, ht, hu, hf, al, Bool.false_eq_true, if_false]

theorem readLine_corrected (part : Option Nat) (ht : target s line = .dram n) (hu : lineUndef s line = false)
    (hf : lineFlips s line = 1) (ha : line % 64 = 0) : ∃ t, readLine s part line = .ok (readBytes s line 64) t ∧
      lineFlips t line = 0 ∧ t.mem = s.mem ∧ t.cpus = s.cpus := by
  have al : line / 64 * 64 = line := by omega
  have read : readLine s part line = .ok (readBytes s line 64) (eccCorrected (lineKnown s line) part n.val) := by
    simp only [readLine, ht, hu, hf, al, Bool.false_eq_true, if_false]
  have known : lineKnown s line = { s with dram := { s.dram with flips := mset 0 s.dram.flips (line / 64) 0 } } := by
    simp only [lineKnown, ht, hu, hf, Bool.false_eq_true, if_false]
    rfl
  obtain ⟨dram, mem, cpus⟩ := eccCorrected_sides (lineKnown s line) part n.val
  refine ⟨_, read, ?_, mem.trans (by rw [known]), cpus.trans (by rw [known])⟩
  rw [lineFlips, dram, known]
  exact mget_mset_same 0 s.dram.flips (line / 64) 0

theorem readLine_bad (part : Option Nat) (ht : target s line = .dram n) (hu : lineUndef s line = false)
    (hf : 2 ≤ lineFlips s line) (ha : line % 64 = 0) : ∃ t, readLine s part line = .fail beEcc t ∧
      lineFlips t line = lineFlips s line ∧ t.mem = s.mem ∧ t.cpus = s.cpus := by
  obtain ⟨k, hk⟩ : ∃ k, lineFlips s line = k + 2 := ⟨lineFlips s line - 2, by omega⟩
  obtain ⟨dram, mem, cpus⟩ := eccUncorrectable_sides s n.val line
  have al : line / 64 * 64 = line := by omega
  have read : readLine s part line = .fail beEcc (eccUncorrectable s n.val line) := by
    simp only [readLine, ht, hu, hk, al, Bool.false_eq_true, if_false]
  exact ⟨_, read, by rw [lineFlips, lineFlips, dram], mem, cpus⟩

/-! #### Scrub and refresh (19 R407, R412) -/

theorem scrubRead_gives {addr : BitVec 36} {upset : Fin 3} (hp : s.fl F.MC_SCRUB_PERIOD 0 ≠ 0)
    (ht : target s (addr.toNat / 64 * 64) = .dram n) (hr : bitAt (s.fl F.MC_STAT_TRAINED 0) n.val = true)
    (hs : s.dram.selfRef.getLsbD n.val = false)
    (hb : lineBad (countEvent (serveBudgeted s n.val) 0x31 n.val none) (addr.toNat / 64 * 64) = false) :
    Gives (.scrubRead n addr upset) s fun t => mget 0 t.dram.flips (addr.toNat / 64 * 64 / 64) = upset.val ∧
      t = { countEvent (serveBudgeted s n.val) 0x31 n.val none with dram := t.dram } := by
  have clean := Bool.or_eq_false_iff.mp hb
  have same : target (countEvent (serveBudgeted s n.val) 0x31 n.val none) (addr.toNat / 64 * 64) = .dram n := by
    rw [← ht, target, target, countEvent_dram]
    rfl
  have none_ : lineFlips (countEvent (serveBudgeted s n.val) 0x31 n.val none) (addr.toNat / 64 * 64) = 0 := by simpa using clean.2
  have read := readLine_clean none same clean.1 none_ (by omega)
  have run : exec (.scrubRead n addr upset) s = execScrubRead n addr upset s := rfl
  unfold execScrubRead at run
  dsimp only at run
  rw [if_pos ⟨hp, ht, hr, hs⟩, read] at run
  generalize countEvent (serveBudgeted s n.val) 0x31 n.val none = u at run none_
  refine ⟨_, run, ?_, rfl⟩
  refine (mget_mset_same 0 u.dram.flips _ _).trans ?_
  rw [lineFlips] at none_
  rw [none_, Nat.max_zero]

theorem refresh_gives (s : State) (n : Fin 4) (bank : Fin 32) (postpone : Bool) :
    let owed := fun (t : State) => mget 0 t.dram.refreshes (32 * n.val + bank.val)
    let refreshes := bitAt (s.fl F.MC_STAT_TRAINED 0) n.val = true ∧ s.dram.selfRef.getLsbD n.val = false
    let puts := postpone = true ∧ owed s < 8 ∧ otherBankWaits s n.val bank.val = false
    Gives (.refresh n bank postpone) s fun t => (t.mem = s.mem ∧ t.cpus = s.cpus) ∧ t.flds = s.flds ∧
      (refreshes → puts → owed t = owed s + 1) ∧ (refreshes → ¬ puts → owed t = 0) ∧ (¬ refreshes → t = s) := by
  intro owed refreshes puts
  by_cases h : refreshes
  · have due : (bitAt (s.fl F.MC_STAT_TRAINED 0) n.val && !s.dram.selfRef.getLsbD n.val) = true := by
      rw [h.1, h.2]
      rfl
    have off : (postpone && decide (owed s < 8) && !otherBankWaits s n.val bank.val) = true ↔ puts := by simp [puts, and_assoc]
    refine gives_of rfl (if_pos due) ⟨⟨rfl, rfl⟩, rfl, fun _ hp => ?_, fun _ hp => ?_, fun no => absurd h no⟩
    · exact (mget_mset_same 0 _ _ _).trans (if_pos (off.mpr hp))
    · exact (mget_mset_same 0 _ _ _).trans (if_neg (mt off.mp hp))
  · have idle : ¬ (bitAt (s.fl F.MC_STAT_TRAINED 0) n.val && !s.dram.selfRef.getLsbD n.val) = true := by
      simpa [refreshes] using h
    exact gives_of rfl (if_neg idle) ⟨⟨rfl, rfl⟩, rfl, fun yes => absurd yes h, fun yes => absurd yes h, fun _ => rfl⟩

end

/-- Settles O49: MC_CTL channel by channel (`channel`), the ends of training and fill, and the reading of a line. -/
theorem dramChannels : Obligations.DramChannels := by
  intro s q v n bank rate addr a upset postpone part c opens init keep fill trained filling undef kept line served flips owed
    refreshes puts
  have aligned : line % 64 = 0 := Nat.mul_mod_left _ _
  refine ⟨mcCtlInit_gives, mcCtlFill_gives, fun ho hm cmd hcmd => ?_, channelTrained_gives, fillComplete_gives, scrubRead_gives,
    fun ht hu => ⟨fun hf => readLine_clean part ht hu hf aligned, fun hf => readLine_corrected part ht hu hf aligned,
      fun hf => readLine_bad part ht hu hf aligned⟩, refresh_gives s n bank postpone, fun ht => ?_⟩
  · simp only [List.mem_cons, List.not_mem_nil, or_false] at hcmd
    rcases hcmd with rfl | rfl <;> exact mctl_refused rfl ho hm
  · exact gives_of rfl (if_pos ht) ⟨mget_mset_same 0 _ _ _, ⟨rfl, rfl⟩, rfl⟩

end Sys2Proof.Machine
end

section
/-! ### Infusers: events, start and stop, port groups and packets (O31) -/

namespace Sys2Proof.Machine

variable {s t u : State} {p : Proc} {pc : Word}

/-! #### A processor that waits goes on -/

/-- What changes neither what acts at a completion nor the counters leaves a waiting processor plain. -/
theorem plainWake_of (h : Plain p (s.setCpu p { s.cpu p with wait := .none }) pc)
    (hk : (t.cpu p).lc = (s.cpu p).lc ∧ (t.cpu p).le = (s.cpu p).le ∧ (t.cpu p).pendIe = (s.cpu p).pendIe ∧
      (t.cpu p).pendIpl = (s.cpu p).pendIpl ∧ (t.cpu p).stepBank = (s.cpu p).stepBank)
    (hc : setElems t F.PC_EVT_EN = setElems s F.PC_EVT_EN) : Plain p (t.setCpu p { t.cpu p with wait := .none }) pc := by
  obtain ⟨loop, hie, hipl, hstep, hcount, -⟩ := h
  rw [State.cpu_setCpu_same] at loop hie hipl hstep
  obtain ⟨lc, le, ie, ipl, step⟩ := hk
  constructor <;> simp only [State.cpu_setCpu_same]
  · rw [lc, le]; exact loop
  · rw [ie]; exact hie
  · rw [ipl]; exact hipl
  · rw [step]; exact hstep
  · exact hc.trans hcount

theorem setG_plain (s : State) (p : Proc) (d : RegNo) (v : Word) :
    ((s.setG p d v).cpu p).lc = (s.cpu p).lc ∧ ((s.setG p d v).cpu p).le = (s.cpu p).le ∧
      ((s.setG p d v).cpu p).pendIe = (s.cpu p).pendIe ∧ ((s.setG p d v).cpu p).pendIpl = (s.cpu p).pendIpl ∧
      ((s.setG p d v).cpu p).stepBank = (s.cpu p).stepBank := by
  simp only [State.setG, State.cpu_setCpu_same]
  rw [Cpu.wr_eq]
  exact ⟨rfl, rfl, rfl, rfl, rfl⟩

/-- A completion at which nothing else acts moves the pc, and the processor waits no more. -/
theorem retire_awake (npc : Word) (h : Plain p (s.setCpu p { s.cpu p with wait := .none }) pc) :
    retire s p pc npc false = s.setCpu p { s.cpu p with pc := npc, wait := .none } := by
  obtain ⟨loop, hie, hipl, hstep, hcount, -⟩ := h
  rw [State.cpu_setCpu_same] at loop hie hipl hstep
  dsimp only at loop hie hipl hstep
  have counted (k : Cpu) : countDone (s.setCpu p k) p = s.setCpu p k := countDone_none _ _ hcount
  simp only [retire, loopEnd_none _ _ _ loop, Bool.false_eq_true, if_false, clearPending_none hie hipl, counted]
  rw [debugStep_unarmed (by rw [State.cpu_setCpu_same]; exact hstep)]

/-- A wait that ends with a result: its register, the next instruction, and no other change. -/
structure Awakes (p : Proc) (s : State) (d : RegNo) (v : Word) (t : State) : Prop where
  reg : d ≠ 31 → t.g p d = v
  pc : (t.cpu p).pc = (s.cpu p).pc + 4
  wait : (t.cpu p).wait = .none
  rest : { t with cpus := s.cpus } = s

theorem retire_awakes (d : RegNo) (v : Word) (h : plainWake p s) :
    Awakes p s d v (retire (s.setG p d v) p (s.cpu p).pc ((s.cpu p).pc + 4) false) := by
  have plain := plainWake_of (t := s.setG p d v) h (setG_plain s p d v) rfl
  obtain ⟨regs, pc, wait, -⟩ := retire_wakes ((s.cpu p).pc + 4) plain
  refine ⟨fun hd => (regs d).trans (State.g_setG_same _ _ _ hd), pc, wait, ?_⟩
  rw [retire_awake _ plain]
  rfl

namespace Awakes
variable {d : RegNo} {v : Word}

theorem flds (h : Awakes p s d v t) : t.flds = s.flds := by
  have e := congrArg State.flds h.rest
  exact e

theorem mem (h : Awakes p s d v t) : t.mem = s.mem := by
  have e := congrArg State.mem h.rest
  exact e

theorem inf (h : Awakes p s d v t) : t.inf = s.inf := by
  have e := congrArg State.inf h.rest
  exact e

end Awakes

/-! #### Events (20 R420, R421) -/

section
variable {i : Fin 32} {d : RegNo} {m : Word}

theorem truncate_getLsbD (m : Word) {e : Nat} (he : e < 16) : (m.truncate 16).getLsbD e = m.getLsbD e := by
  simp [he]

theorem eventBit : ∀ e : Fin 15, (1#16 <<< e.val).getLsbD e.val = true := by decide

/-- The events that an EVT.WAIT of mask `m` returns. -/
def evtGot (s : State) (i : Fin 32) (m : Word) : BitVec 16 := (infOf s i.val).events &&& m.truncate 16

/-- The Infuser as its EVT.WAIT returns: those events cleared. -/
def evtTaken (s : State) (i : Fin 32) (m : Word) : State :=
  (putInf s i.val { infOf s i.val with events := (infOf s i.val).events &&& ~~~(evtGot s i m) }).setF F.IF_STAT_STATE i.val 1

theorem evtReturn_eq (hw : (s.cpu (.infuser i)).wait = .evt d m) (hg : evtGot s i m ≠ 0) : evtReturn s i =
    retire ((evtTaken s i m).setG (.infuser i) d ((evtGot s i m).zeroExtend 64)) (.infuser i) (s.cpu (.infuser i)).pc
      ((s.cpu (.infuser i)).pc + 4) false := by
  rw [evtReturn, hw]
  exact if_neg hg

/-- A step that leaves the processors and the counters' events leaves a wait plain. -/
theorem plainWake_same (h : plainWake p s) (hc : t.cpus = s.cpus) (he : setElems t F.PC_EVT_EN = setElems s F.PC_EVT_EN) :
    plainWake p t := by
  have cpu : t.cpu p = s.cpu p := by rw [State.cpu, State.cpu, hc]
  rw [plainWake, cpu]
  have plain := plainWake_of (t := t) h (by rw [cpu]; exact ⟨rfl, rfl, rfl, rfl, rfl⟩) he
  rwa [cpu] at plain

theorem infuserEvent_wakes {e : Fin 15} (hw : (s.cpu (.infuser i)).wait = .evt d m) (hm : m.getLsbD e.val = true)
    (hp : plainWake (.infuser i) s) : Gives (.infuserEvent i e) s fun t =>
      (d ≠ 31 → t.g (.infuser i) d = (((infOf s i.val).events ||| (1#16 <<< e.val)) &&& m.truncate 16).zeroExtend 64) ∧
      (t.cpu (.infuser i)).pc = (s.cpu (.infuser i)).pc + 4 ∧ (t.cpu (.infuser i)).wait = .none ∧
      (infOf t i.val).events.getLsbD e.val = false ∧ t.mem = s.mem := by
  let a := putInf s i.val { infOf s i.val with events := (infOf s i.val).events ||| (1#16 <<< e.val) }
  have events : (infOf a i.val).events = (infOf s i.val).events ||| (1#16 <<< e.val) := by rw [infOf_putInf]
  have bit : (1#16 <<< e.val).getLsbD e.val = true := eventBit e
  have got : (evtGot a i m).getLsbD e.val = true := by
    rw [evtGot, events, BitVec.getLsbD_and, BitVec.getLsbD_or, bit, truncate_getLsbD m (by omega), hm, Bool.or_true, Bool.and_true]
  have some_ : evtGot a i m ≠ 0 := fun e0 => by rw [e0] at got; simp at got
  have wakes : plainWake (.infuser i) (evtTaken a i m) :=
    plainWake_same hp rfl (setElems_setF _ _ _ (by decide))
  have woken := retire_awakes d ((evtGot a i m).zeroExtend 64) wakes
  have run : exec (.infuserEvent i e) s = .next (evtReturn a i) := rfl
  rw [evtReturn_eq (s := a) hw some_] at run
  refine ⟨_, run, fun hd => (woken.reg hd).trans (by rw [evtGot, events]), woken.pc, woken.wait, ?_, woken.mem⟩
  have left : infOf (evtTaken a i m) i.val = { infOf a i.val with events := (infOf a i.val).events &&& ~~~(evtGot a i m) } := infOf_putInf _ _ _
  have shown := congrArg (fun l => (mget {} l i.val).events.getLsbD e.val) woken.inf
  refine shown.trans ((congrArg (fun x : Infus => x.events.getLsbD e.val) left).trans ?_)
  dsimp only
  rw [BitVec.getLsbD_and, BitVec.getLsbD_not, got]
  simp

theorem evtWaitTimeout_gives (hw : (s.cpu (.infuser i)).wait = .evt d m) (hm : slice m.toNat 47 16 ≠ 0)
    (hp : plainWake (.infuser i) s) : Gives (.evtWaitTimeout i) s fun t => (d ≠ 31 → t.g (.infuser i) d = 0) ∧
      (t.cpu (.infuser i)).pc = (s.cpu (.infuser i)).pc + 4 ∧ (t.cpu (.infuser i)).wait = .none ∧
      t.fl F.IF_STAT_STATE i.val = 1 ∧ t.mem = s.mem := by
  have wakes : plainWake (.infuser i) (s.setF F.IF_STAT_STATE i.val 1) := plainWake_same hp rfl (setElems_setF _ _ _ (by decide))
  have woken := retire_awakes d 0 wakes
  have run : exec (.evtWaitTimeout i) s = execEvtWaitTimeout i s := rfl
  rw [execEvtWaitTimeout] at run
  dsimp only at run
  rw [hw] at run
  dsimp only at run
  rw [if_neg hm] at run
  refine ⟨_, run, woken.reg, woken.pc, woken.wait, ?_, woken.mem⟩
  exact (State.fl_congr woken.flds _ _).trans (State.fl_setF_same _ F.IF_STAT_STATE i.val 1)

/-- Raising a source, or not. -/
def raiseWhere (on : Nat → Bool) (src : Nat → Nat) (s : State) (e : Nat) : State := if on e then raiseSource s (src e) else s

theorem raiseWhere_side (on : Nat → Bool) (src : Nat → Nat) (s : State) (e : Nat) : SideFrame (noteField []) s (raiseWhere on src s e) :=
  .ite (raiseSource_side [] s _) (.refl _ s)

/-- Sources raised one after the other have all reached the interrupt controller. -/
theorem raiseEach_signalled {on : Nat → Bool} {src : Nat → Nat} {l : List Nat} {e : Nat} (he : e ∈ l) (hon : on e = true) (s : State) :
    signalled s (l.foldl (raiseWhere on src) s) (src e) := by
  have stay (t : State) (a : Nat) : PendingStays t (raiseWhere on src t a) := .ite ((PendingStays.refl t).raise _) (.refl t)
  have config (t : State) (a n : Nat) : (raiseWhere on src t a).fb F.IC_SRC_EDGE n = t.fb F.IC_SRC_EDGE n ∧
      (raiseWhere on src t a).fl F.IC_SRC_PRIO n = t.fl F.IC_SRC_PRIO n :=
    ⟨(raiseWhere_side on src t a).fb _ _ rfl, (raiseWhere_side on src t a).fl _ _ rfl⟩
  have all : on e = true → signalled (l.foldl (raiseWhere on src) s) (l.foldl (raiseWhere on src) s) (src e) :=
    foldl_settles (P := fun t e => on e = true → signalled t t (src e)) (fun t a h edge prio => by
      rw [(config t a _).1] at edge
      rw [(config t a _).2] at prio
      have raised : raiseWhere on src t a = raiseSource t (src a) := if_pos h
      rw [raised]
      exact raiseSource_signalled t (src a) edge prio) (fun t a b h hb edge prio => by
      rw [(config t a _).1] at edge
      rw [(config t a _).2] at prio
      exact stay t a _ (h hb edge prio)) he s
  have side : SideFrame (noteField []) s (l.foldl (raiseWhere on src) s) := .foldl (raiseWhere_side on src) l s
  intro edge prio
  refine all hon ?_ ?_
  · rwa [side.fb _ _ rfl]
  · rwa [side.fl _ _ rfl]

theorem portSignal_gives (s : State) (i : Fin 32) (v : Word) : Gives (.portSignal i v) s fun t =>
    (∀ e, e < 15 → v.getLsbD e = true → signalled s t (512 + 16 * i.val + e)) ∧ t.mem = s.mem ∧ t.cpus = s.cpus := by
  have side : SideFrame (noteField []) s ((List.range 15).foldl (raiseWhere v.getLsbD (512 + 16 * i.val + ·)) s) :=
    .foldl (raiseWhere_side _ _) _ s
  exact ⟨_, rfl, fun e he hv => raiseEach_signalled (List.mem_range.mpr he) hv s, side.mem, side.cpus⟩

theorem infuserEvent_latches {e : Nat} (quiet : noEvtWait s i) : (infOf (infEvent s i e) i.val).events =
      (infOf s i.val).events ||| (1#16 <<< e) ∧ (infEvent s i e).flds = s.flds ∧ (infEvent s i e).mem = s.mem ∧
      (infEvent s i e).cpus = s.cpus := by
  rw [infEvent_latches e quiet, infOf_putInf]
  exact ⟨rfl, rfl, rfl, rfl⟩

theorem infuserTimerExpiry_gives (ht : (infOf s i.val).timer ≠ 0) (quiet : noEvtWait s i) : Gives (.infuserTimerExpiry i) s fun t =>
    (infOf t i.val).timer = 0 ∧ (infOf t i.val).events = (infOf s i.val).events ||| 8 ∧ t.flds = s.flds ∧ t.mem = s.mem ∧ t.cpus = s.cpus := by
  have run : exec (.infuserTimerExpiry i) s = .next (infEvent (putInf s i.val { infOf s i.val with timer := 0 }) i 3) :=
    congrArg Host.Outcome.next (if_neg ht)
  rw [infEvent_latches (s := putInf s i.val { infOf s i.val with timer := 0 }) 3 quiet, infOf_putInf] at run
  refine ⟨_, run, ?_, ?_, rfl, rfl, rfl⟩
  · rw [infOf_putInf]
  · rw [infOf_putInf]
    rfl

end

/-! #### Start and stop (20 R427, R429) -/

section
variable {q : Requester} {i : Fin 32} {v : Word}

theorem infuser_reg (s : State) {off : Nat} (h : 0xE01000000 ≤ off ∧ off ≤ 0xE02FFFFFF) : target s off = .reg :=
  target_reg s (0xE01000000, 0xE02FFFFFF) (by decide) h

/-- An accepted START: what it sets. -/
structure InfStarted (s : State) (i : Fin 32) (safety : Bool) (t : State) : Prop where
  state : t.fl F.IF_STAT_STATE i.val = 1
  safety : t.fb F.IF_STAT_SAFETY i.val = safety
  run : (t.cpu (.infuser i)).run = .running
  pc : (t.cpu (.infuser i)).pc = 0x1000000000 + BitVec.ofNat 64 (s.fl F.IF_ENTRY_ENTRY i.val)
  mem : t.mem = s.mem

theorem infStart_started (s : State) (i : Fin 32) (safety : Bool) : InfStarted s i safety (infStart s i safety) := by
  let k := s.cpu (.infuser i)
  let a := s.setCpu (.infuser i) { k with
    run := .running, wait := .none, pc := 0x1000000000 + BitVec.ofNat 64 (s.fl F.IF_ENTRY_ENTRY i.val), st := { k.st with exl := false } }
  let b := ((putInf a i.val (buildersEmpty (infOf a i.val))).setF F.IF_STAT_STATE i.val 1).setB F.IF_STAT_SAFETY i.val safety
  have side : SideFrame (noteField []) b (infStart s i safety) := dregsFree_side [] b _ _ _
  have cpu : b.cpu (.infuser i) = _ := State.cpu_setCpu_same s (.infuser i) _
  refine ⟨?_, ?_, ?_, ?_, side.mem⟩
  · exact (side.fl _ _ rfl).trans ((State.fl_setB_id _ _ _ _ (by decide)).trans (State.fl_setF_same _ F.IF_STAT_STATE i.val 1))
  · exact (side.fb _ _ rfl).trans (State.fb_setB_same _ F.IF_STAT_SAFETY i.val safety (by decide))
  · rw [side.cpu, cpu]
  · rw [side.cpu, cpu]

/-- A core of ring 0 that writes IF_CTL, once its access is let through. -/
structure Controls (s : State) (q : Requester) (i : Fin 32) (v : Word) (t : State) : Prop where
  power : OnlyPower s t
  ring0 : isRing0 t q = true
  machine : isMachine t q = isMachine s q
  start : (Wr.full q (0xE02010000 + 0x1000 * i.val) v).on F.IF_CTL_START = true ↔ bitsOf v F.IF_CTL_START = 1
  stop : (Wr.full q (0xE02010000 + 0x1000 * i.val) v).on F.IF_CTL_STOP = true ↔ bitsOf v F.IF_CTL_STOP = 1
  cls : (Wr.full q (0xE02010000 + 0x1000 * i.val) v).on F.IF_CTL_CLASS = true ↔ bitsOf v F.IF_CTL_CLASS = 1

theorem ifctl_open {cmd : Instr} (hi : exec cmd s = rowWrite q (0xE02010000 + 0x1000 * i.val) v (fun s w => ifctlWrite s w i) s)
    (h : isRing0 s q = true ∧ openAt s (0xE02010000 + 0x1000 * i.val)) :
    ∃ t, Controls s q i v t ∧ exec cmd s = .next (ifctlWrite t (.full q (0xE02010000 + 0x1000 * i.val) v) i) := by
  obtain ⟨t, power, run⟩ := rowWrite_open (infuser_reg s (by omega)) h.2 q v fun s w => ifctlWrite s w i
  exact ⟨t, ⟨power, (isRing0_congr power.cpus q).trans h.1, isMachine_congr power.cpus q, Wr.on_full_iff _ _ _ rfl,
    Wr.on_full_iff _ _ _ rfl, Wr.on_full_iff _ _ _ rfl⟩, hi.trans run⟩

theorem infRuns_congr (power : OnlyPower s t) (i : Nat) : infRuns t i = infRuns s i := by rw [infRuns, infRuns, power.fl]

section
variable (c : Controls s q i v t)
include c

/-- What a START may meet: the Infuser stands still, is ready, and is not being countersigned. -/
theorem ifctl_start (hs : bitsOf v F.IF_CTL_START = 1) (hp : ¬ bitsOf v F.IF_CTL_STOP = 1) (hr : infRuns s i.val = false)
    (hy : s.ready (64 + i.val) = true) (hc : s.fb F.IF_STAT_CSIGN i.val = false) :
    ifctlWrite t (.full q (0xE02010000 + 0x1000 * i.val) v) i =
      if (Wr.full q (0xE02010000 + 0x1000 * i.val) v).on F.IF_CTL_CLASS then
        (if isMachine t q && t.fb F.IF_STAT_HASHV i.val && entryCountersigned t i.val then infStart t i true
         else infRecord t i.val 0x803 clsWarn)
      else infStart t i false := by
  have stop := Bool.eq_false_iff.mpr (mt c.stop.mp hp)
  have ready : t.ready (64 + i.val) = true := (ready_congr (fun j => c.power.fl _ j) _).trans hy
  have still : (infRuns t i.val || !t.ready (64 + i.val) || t.fb F.IF_STAT_CSIGN i.val) = false := by
    rw [infRuns_congr c.power, hr, ready, c.power.fb, hc]
    rfl
  rw [ifctlWrite, atRing0_of c.ring0]
  simp only [c.start.mpr hs, stop, Bool.and_false, Bool.false_eq_true, if_false, if_true, still]
  rfl

theorem ifctl_stop (hp : bitsOf v F.IF_CTL_STOP = 1) (hs : ¬ bitsOf v F.IF_CTL_START = 1) (hr : infRuns s i.val = true) :
    ifctlWrite t (.full q (0xE02010000 + 0x1000 * i.val) v) i =
      if s.fb F.IF_STAT_SAFETY i.val && !isMachine s q then ignoreWarn t (.full q (0xE02010000 + 0x1000 * i.val) v)
      else infStopNow t i (isMachine s q) := by
  have start := Bool.eq_false_iff.mpr (mt c.start.mp hs)
  rw [ifctlWrite, atRing0_of c.ring0]
  simp only [start, c.stop.mpr hp, Bool.false_and, Bool.false_eq_true, if_false, if_true, infRuns_congr c.power, hr, Bool.not_true,
    Bool.false_or, c.power.fb, Wr.q_full, c.machine]

end

theorem entryCountersigned_congr (power : OnlyPower s t) (i : Nat) : entryCountersigned t i = entryCountersigned s i := by
  have inf : t.inf = s.inf := by
    have e := congrArg State.inf power
    exact e
  simp only [entryCountersigned, infOf, inf, power.fl]

theorem InfStarted.of_power {safety : Bool} (power : OnlyPower s t) (h : InfStarted t i safety u) : InfStarted s i safety u :=
  ⟨h.state, h.safety, h.run, by rw [h.pc, power.fl], h.mem.trans power.mem⟩

/-- The Infuser at its STOP, before its builders are emptied: STOPPED, or stopping while stores wait. -/
def stopBegun (s : State) (i : Fin 32) : State :=
  if (s.cpu (.infuser i)).sb.isEmpty then infuserStop s i 0
  else putInf (s.setCpu (.infuser i) { s.cpu (.infuser i) with run := .stopped, wait := .none }) i.val { infOf s i.val with stopping := true }

theorem infStopNow_side (s : State) (i : Fin 32) (machine : Bool) :
    SideFrame (noteField []) (putInf (stopBegun s i) i.val (buildersEmpty (infOf (stopBegun s i) i.val))) (infStopNow s i machine) :=
  .ite (dregsFree_side [] _ _ _ _) (.refl _ _)

theorem infuserStop_shows (s : State) (i : Fin 32) : (infuserStop s i 0).fl F.IF_STAT_STATE i.val = 0 ∧
    ((infuserStop s i 0).cpu (.infuser i)).run = .stopped ∧ (infuserStop s i 0).mem = s.mem := by
  have cpu : (infuserStop s i 0).cpu (.infuser i) = { s.cpu (.infuser i) with run := .stopped, wait := .none } :=
    State.cpu_setCpu_same s (.infuser i) _
  refine ⟨?_, by rw [cpu], rfl⟩
  exact (State.fl_setB_id _ _ _ _ (by decide)).trans ((State.fl_setB_id _ _ _ _ (by decide)).trans
    (State.fl_setF_same _ F.IF_STAT_STATE i.val 0))

theorem infStopNow_drained (hb : (s.cpu (.infuser i)).sb = []) (machine : Bool) :
    (infStopNow s i machine).fl F.IF_STAT_STATE i.val = 0 ∧ ((infStopNow s i machine).cpu (.infuser i)).run = .stopped ∧
      (infStopNow s i machine).mem = s.mem := by
  have side := infStopNow_side s i machine
  have begun : stopBegun s i = infuserStop s i 0 := if_pos (by rw [hb]; rfl)
  obtain ⟨state, run, mem⟩ := infuserStop_shows s i
  rw [begun] at side
  generalize infuserStop s i 0 = a at side state run mem
  exact ⟨(side.fl _ _ rfl).trans state, (congrArg Cpu.run (side.cpu _)).trans run, side.mem.trans mem⟩

theorem SideFrame.inf {k : Fld → Bool} (h : SideFrame k s t) : t.inf = s.inf := by
  have e := congrArg State.inf h.rest
  exact e

/-- With stores that wait, they stay for the buffer to drain. -/
theorem infStopNow_waits (hb : (s.cpu (.infuser i)).sb ≠ []) (machine : Bool) :
    (infStopNow s i machine).fl F.IF_STAT_STATE i.val = s.fl F.IF_STAT_STATE i.val ∧
      (infOf (infStopNow s i machine) i.val).stopping = true ∧ ((infStopNow s i machine).cpu (.infuser i)).run = .stopped ∧
      ((infStopNow s i machine).cpu (.infuser i)).sb = (s.cpu (.infuser i)).sb ∧ (infStopNow s i machine).mem = s.mem := by
  have side := infStopNow_side s i machine
  have begun : stopBegun s i = putInf (s.setCpu (.infuser i) { s.cpu (.infuser i) with run := .stopped, wait := .none }) i.val
      { infOf s i.val with stopping := true } := if_neg (by simp [hb])
  have cpu := State.cpu_setCpu_same s (.infuser i) { s.cpu (.infuser i) with run := .stopped, wait := .none }
  have fl := State.fl_setCpu s (.infuser i) { s.cpu (.infuser i) with run := .stopped, wait := .none } F.IF_STAT_STATE i.val
  have mem : (s.setCpu (.infuser i) { s.cpu (.infuser i) with run := .stopped, wait := .none }).mem = s.mem := rfl
  rw [begun] at side
  generalize s.setCpu (.infuser i) { s.cpu (.infuser i) with run := .stopped, wait := .none } = a at side cpu fl mem
  rw [infOf_putInf] at side
  have halted : (a.cpu (.infuser i)).run = .stopped := by rw [cpu]
  have sb : (a.cpu (.infuser i)).sb = (s.cpu (.infuser i)).sb := by rw [cpu]
  have shown := congrArg (fun l => (mget {} l i.val : Infus).stopping) side.inf
  have kept := side.cpu (.infuser i)
  refine ⟨(side.fl _ _ rfl).trans fl, shown.trans ?_, (congrArg Cpu.run kept).trans halted, (congrArg Cpu.sb kept).trans sb,
    side.mem.trans mem⟩
  exact congrArg Infus.stopping (infOf_putInf _ _ _)

/-- The buffer of an Infuser that is stopping has drained. -/
theorem storeDrain_stops (hx : (infOf s i.val).stopping = true) (hb : (s.cpu (.infuser i)).sb = []) :
    Gives (.storeDrain (.infuser i)) s fun t => t.fl F.IF_STAT_STATE i.val = 0 ∧ (infOf t i.val).stopping = false ∧ t.mem = s.mem := by
  have idle : drainHead s (.infuser i) = s := by
    unfold drainHead
    rw [hb]
  have run : exec (.storeDrain (.infuser i)) s = .next (stopDrained (drainHead s (.infuser i)) (.infuser i)) := rfl
  have stops : stopDrained s (.infuser i) = infuserStop (putInf s i.val { infOf s i.val with stopping := false }) i 0 :=
    if_pos (by rw [hx, hb]; rfl)
  rw [idle, stops] at run
  obtain ⟨state, -, mem⟩ := infuserStop_shows (putInf s i.val { infOf s i.val with stopping := false }) i
  refine ⟨_, run, state, ?_, mem⟩
  exact congrArg Infus.stopping (infOf_putInf s i.val { infOf s i.val with stopping := false })

end

/-! #### Port groups, doorbells and packets (20 R419, R421, R423) -/

section
variable {q : Requester} {i : Fin 32} {g : Fin 56} {b : Fin 2} {v : Word} {k : Packet}

theorem ifPgrpWrite_gives (h0 : isRing0 s q = true) (ho : openAt s (0xE02000000 + 8 * g.val))
    (hw : infRuns s (s.fl F.IF_PGRP_OWNER g.val) = false) (hn : infRuns s (bitsOf v F.IF_PGRP_OWNER) = false) :
    Gives (.ifPgrpWrite q g v) s fun t => (t.fl F.IF_PGRP_OWNER g.val = bitsOf v F.IF_PGRP_OWNER ∧
      t.fl F.IF_PGRP_VALID g.val = bitsOf v F.IF_PGRP_VALID ∧ t.fl F.IF_PGRP_EVT g.val = bitsOf v F.IF_PGRP_EVT) ∧ t.mem = s.mem := by
  obtain ⟨t, power, run⟩ := rowWrite_open (infuser_reg s (by omega)) ho q v fun s w => pgrpWrite s w g.val
  let w : Wr := .full q (0xE02000000 + 8 * g.val) v
  have only := putFields_only t w g.val g.val [F.IF_PGRP_OWNER, F.IF_PGRP_VALID, F.IF_PGRP_EVT]
  have owner : w.new F.IF_PGRP_OWNER t g.val = bitsOf v F.IF_PGRP_OWNER := Wr.new_full _ _ _ _ _ _ (by decide)
  have free (c : Bool) : (c && ((t.fb F.IF_PGRP_VALID g.val && infRuns t (t.fl F.IF_PGRP_OWNER g.val)) ||
      infRuns t (w.new F.IF_PGRP_OWNER t g.val))) = false := by
    rw [owner, infRuns_congr power, infRuns_congr power, power.fl, hw, hn, Bool.and_false, Bool.or_false, Bool.and_false]
  refine gives_of run ((atRing0_of ((isRing0_congr power.cpus q).trans h0) _).trans (if_neg (Bool.eq_false_iff.mp (free _))))
    ⟨⟨?_, ?_, ?_⟩, only.mem.trans power.mem⟩ <;> exact putFields_replaces (by decide) (by simp) (by decide)

theorem noEvtWait_congr (h : t.cpus = s.cpus) (quiet : noEvtWait s i) : noEvtWait t i := by
  intro d m
  rw [State.cpu, h]
  exact quiet d m

theorem ifDoorbell_gives (ho : openAt s (0xE02010020 + 0x1000 * i.val)) (hr : bitsOf v F.IF_DOORBELL_RING = 1)
    (quiet : noEvtWait s i) : Gives (.ifDoorbell q i v) s fun t =>
      (infOf t i.val).events = (infOf s i.val).events ||| (1#16 <<< 12) ∧ t.cpus = s.cpus ∧ t.mem = s.mem := by
  obtain ⟨t, power, run⟩ := rowWrite_open (infuser_reg s (by omega)) ho q v fun s w => doorbellWrite s w i
  have ring : (Wr.full q (0xE02010020 + 0x1000 * i.val) v).on F.IF_DOORBELL_RING = true := (Wr.on_full_iff _ _ _ rfl).mpr hr
  obtain ⟨events, -, mem, cpus⟩ := infuserEvent_latches (e := 12) (noEvtWait_congr power.cpus quiet)
  have inf : infOf t i.val = infOf s i.val := by
    have e := congrArg (fun u : State => infOf u i.val) power
    exact e
  exact gives_of run (if_pos ring) ⟨by rw [events, inf], cpus.trans power.cpus, mem.trans power.mem⟩

/-- The Infuser whose builder `b` has given up its packet. -/
def builderSent (x : Infus) (b : Fin 2) (order : List Bool) : Infus :=
  if b = 0 then { x with order := order, b0 := { x.b0 with held := none } } else { x with order := order, b1 := { x.b1 with held := none } }

theorem infOrdered_only (s : State) (i : Fin 32) (k : Packet) : ∃ r, (infOrdered s i k).2 = { s with router := r } := ⟨_, rfl⟩

theorem packetBuilt_gives (quiet : noEvtWait s i) (hk : (if b = 0 then (infOf s i.val).b0 else (infOf s i.val).b1).held = some k)
    (ho : (infOf s i.val).order.head? = some (b == 1)) : Gives (.packetBuilt i b) s fun t =>
      (if b = 0 then (infOf t i.val).b0 else (infOf t i.val).b1).held = none ∧
      (infOf t i.val).events = (infOf s i.val).events ||| (1#16 <<< 2) ∧ t.cpus = s.cpus ∧ t.mem = s.mem := by
  obtain ⟨rest, order⟩ : ∃ rest, (infOf s i.val).order = (b == 1) :: rest := by
    cases h : (infOf s i.val).order with
    | nil => rw [h] at ho; cases ho
    | cons first rest =>
      rw [h] at ho
      exact ⟨rest, by rw [Option.some.inj ho]⟩
  let a := putInf s i.val (builderSent (infOf s i.val) b rest)
  have run : exec (.packetBuilt i b) s = .next (infEvent (sendOwn (infOrdered a i k).2 (infOrdered a i k).1) i 2) := by
    have e : exec (.packetBuilt i b) s = execPacketBuilt i b s := rfl
    rw [e, execPacketBuilt]
    dsimp only
    rw [hk, order]
    dsimp only
    rw [if_neg (by simp)]
    by_cases hb : b = 0
    · subst hb
      rfl
    · rw [if_neg hb, if_neg hb, show a = putInf s i.val { infOf s i.val with order := rest, b1 := { (infOf s i.val).b1 with held := none } }
        from congrArg (putInf s i.val) (if_neg hb)]
  obtain ⟨r, ordered⟩ := infOrdered_only a i k
  have only := (OnlyRouting.refl (infOrdered a i k).2).sendOwn (infOrdered a i k).1
  have cpus : (sendOwn (infOrdered a i k).2 (infOrdered a i k).1).cpus = s.cpus := by
    have e := congrArg State.cpus only.rest
    have e' := congrArg State.cpus ordered
    exact e.trans e'
  have inf : infOf (sendOwn (infOrdered a i k).2 (infOrdered a i k).1) i.val = builderSent (infOf s i.val) b rest := by
    have e := congrArg (fun u : State => infOf u i.val) only.rest
    have e' := congrArg (fun u : State => infOf u i.val) ordered
    exact e.trans (e'.trans (infOf_putInf s i.val _))
  have mem : (sendOwn (infOrdered a i k).2 (infOrdered a i k).1).mem = s.mem := by
    have e' := congrArg State.mem ordered
    exact only.mem.trans e'
  rw [infEvent_latches 2 (noEvtWait_congr cpus quiet), inf] at run
  refine ⟨_, run, ?_, ?_, cpus, mem⟩
  · rw [infOf_putInf, builderSent]
    split
    · rfl
    · rfl
  · rw [infOf_putInf, builderSent]
    split
    · rfl
    · rfl

end

/-- Settles O31: an EVT.WAIT that returns (`retire_awakes`), START and STOP at IF_CTL, port groups, doorbells and packets. -/
theorem infuserUnits : Obligations.InfuserUnits := by
  refine ⟨fun s i e v m d => ?_, fun s c i g b v k => ?_⟩
  · intro p k x kept sets
    refine ⟨fun quiet => ?_, infuserEvent_wakes, evtWaitTimeout_gives, portSignal_gives s i v, ?_, infuserTimerExpiry_gives, ?_⟩
    · exact ⟨_, rfl, infuserEvent_latches quiet⟩
    · exact ⟨_, rfl, congrArg Infus.timer (infOf_putInf _ _ _), rfl, rfl, rfl⟩
    · exact ⟨_, rfl, congrArg Infus.rrFill (infOf_putInf _ _ _), congrArg Infus.rrNext (infOf_putInf _ _ _), rfl, rfl, rfl⟩
  · intro p q x bit ctl state mayStart starts fields
    have started (safety : Bool) {t : State} (h : InfStarted s i safety t) : state t = 1 ∧ t.fb F.IF_STAT_SAFETY i.val = safety ∧
        (t.cpu p).run = .running ∧ (t.cpu p).pc = 0x1000000000 + BitVec.ofNat 64 (s.fl F.IF_ENTRY_ENTRY i.val) ∧ t.mem = s.mem :=
      ⟨h.state, h.safety, h.run, h.pc, h.mem⟩
    refine ⟨fun ⟨h, hs, hp, hr, hy, hc⟩ hcls => ?_, fun ⟨h, hs, hp, hr, hy, hc⟩ hcls hm hv he => ?_,
      fun ⟨h, hs, hp, hr, hy, hc⟩ hcls hm => ?_, fun h hp hs hr hsafe => ⟨fun hb => ?_, fun hb => ?_⟩, storeDrain_stops,
      fun h hp hs hr hsafe hm => ?_, ifPgrpWrite_gives, ifDoorbell_gives, packetBuilt_gives⟩
    · obtain ⟨t, c, run⟩ := ifctl_open (cmd := .ifCtlStart q i v) rfl h
      rw [ifctl_start c hs hp hr hy hc, if_neg (mt c.cls.mp hcls)] at run
      exact ⟨_, run, started false (.of_power c.power (infStart_started t i false))⟩
    · obtain ⟨t, c, run⟩ := ifctl_open (cmd := .ifCtlStart q i v) rfl h
      rw [ifctl_start c hs hp hr hy hc, if_pos (c.cls.mpr hcls), c.machine, hm, c.power.fb, hv, entryCountersigned_congr c.power, he] at run
      exact ⟨_, run, started true (.of_power c.power (infStart_started t i true))⟩
    · obtain ⟨t, c, run⟩ := ifctl_open (cmd := .ifCtlStart q i v) rfl h
      rw [ifctl_start c hs hp hr hy hc, if_pos (c.cls.mpr hcls), c.machine, hm] at run
      have side := dregsFree_side [] t (0x300 + i.val) clsWarn 0x803
      exact ⟨_, run, (side.fl _ _ rfl).trans (c.power.fl _ _), side.cpus.trans c.power.cpus⟩
    · obtain ⟨t, c, run⟩ := ifctl_open (cmd := .ifCtlStop q i v) rfl h
      rw [ifctl_stop c hp hs hr, hsafe] at run
      obtain ⟨st, halted, mem⟩ := infStopNow_drained (s := t) (i := i) (by rw [State.cpu, c.power.cpus]; exact hb) (isMachine s q)
      exact ⟨_, run, st, halted, mem.trans c.power.mem⟩
    · obtain ⟨t, c, run⟩ := ifctl_open (cmd := .ifCtlStop q i v) rfl h
      rw [ifctl_stop c hp hs hr, hsafe] at run
      have cpu : t.cpu p = s.cpu p := by rw [State.cpu, State.cpu, c.power.cpus]
      obtain ⟨st, stopping, halted, sb, mem⟩ := infStopNow_waits (s := t) (i := i) (by rw [cpu]; exact hb) (isMachine s q)
      exact ⟨_, run, st.trans (c.power.fl _ _), stopping, halted, sb.trans (congrArg Cpu.sb cpu), mem.trans c.power.mem⟩
    · obtain ⟨t, c, run⟩ := ifctl_open (cmd := .ifCtlStop q i v) rfl h
      rw [ifctl_stop c hp hs hr, hsafe, hm] at run
      have side := ignoreWarn_side (s := t) [] (.full q (0xE02010000 + 0x1000 * i.val) v)
      exact ⟨_, run, (side.fl _ _ rfl).trans (c.power.fl _ _), side.cpus.trans c.power.cpus⟩

end Sys2Proof.Machine
end

section
/-! ### An Infuser's port instructions (O21) -/

namespace Sys2Proof.Machine

/-- A doubleword that waits in Infuser 0's store buffer. -/
def sramStore : SbEntry :=
  { line := 0xE02100000 / 64, rtype := .normalWb, stores := [{ off := 0, size := 8, val := 5, va := 0x1000000000 }] }

/-- Infuser 0 runs a safety-class program, its store buffer holds a store, and g3 names a register of a group it does not
own. -/
def strayPort : State :=
  (({ flds := [(fkey F.IF_STAT_SAFETY 0, 1)] } : State).setCpu (.infuser 0) { run := .running, sb := [sramStore] }).setG
    (.infuser 0) 3 (54 * 256)

theorem strayPort_calm : Calm (.infuser 0) strayPort where
  form := by decide +kernel
  run := by decide +kernel
  clock := by decide +kernel
  taken := by decide +kernel
  wait := by decide +kernel
  debug := trivial
  plain := ⟨by decide +kernel, by decide +kernel, by decide +kernel, by decide +kernel, by decide +kernel, by decide +kernel⟩

/-- Its PORT.RD waits for the store to drain, as the exception's entry does there (10 R221). -/
theorem strayPort_waits : Gives (.portRd (.infuser 0) 4 3) strayPort fun t => (t.cpu (.infuser 0)).wait = .stall := ⟨_, rfl, by decide +kernel⟩

/-- The exception's entry itself leaves no wait. -/
theorem strayPort_enters : ((takeExc strayPort (.infuser 0) ⟨3, 3 + 256, some (strayPort.g (.infuser 0) 3)⟩ (strayPort.cpu (.infuser 0)).pc).cpu (.infuser 0)).wait =
    .none := by decide +kernel

/-- Refutes O21 at its clause on a PORT.RD that finds NO_TARGET: the clause says that the exception is entered, and does not
ask that the store buffer is empty. An Infuser with a safety-class program never merges stores, and such a processor waits
with an exception's entry until its store buffer has drained (10 R221). Where it `canEnter`, the clause holds. -/
theorem not_infuserPorts : ¬ Obligations.InfuserPorts := by
  intro h
  obtain ⟨-, -, noTarget, -, -, -, unowned, -⟩ := h.1 0 strayPort 4 3 0 0 strayPort strayPort_calm
  have entered := noTarget (unowned (by decide +kernel) (by decide +kernel)).1
  obtain ⟨t, ht, waits⟩ := strayPort_waits
  have e := Host.Outcome.next.inj (ht.symm.trans entered)
  rw [e] at waits
  exact absurd (strayPort_enters.symm.trans waits) (by decide)

end Sys2Proof.Machine
end

section
/-! ### Port groups and networks (O32) -/

namespace Sys2Proof.Machine

/-- Epochs run from 1 ns on, slot 0 of CAN controller 0 is VALID, and fabric time holds 2^64, which is beyond the 64 bits of
its field. -/
def slotBeyondWidth : State :=
  { flds := [(fkey F.EP_CFG_EN 0, 1), (fkey F.EP_ORIGIN_ORIGIN 0, 1), (fkey F.EP_NOW_VALUE 0, 2 ^ 64),
      (fkey F.NW_CANSLOT_VALID 0, 1)] }

/-- The slot's queueing puts the greater of fabric time and the slot's instant into EP_NOW, cut to 0. -/
theorem slotQueue_wraps : Gives (.canSlotQueue 0 0) slotBeyondWidth fun t => t.fl F.EP_NOW_VALUE 0 = 0 := ⟨_, rfl, by decide +kernel⟩

/-- The slot's instant: the tick of epoch 0, as OFFSET is 0. -/
theorem slotInstant : tickAt slotBeyondWidth (slotBeyondWidth.fl F.EP_EPOCH_VALUE 0) +
    slotBeyondWidth.fl F.NW_CANSLOT_OFFSET 0 * 1000 = 1 := by decide +kernel

/-- Refutes O32 at its clause on CAN_SLOT_QUEUE: the clause asks that the slot's instant fits 64 bits, and not that the
fabric time before it does. A write cuts the greater of both to 64 bits, so that where fabric time does not fit it is 0 as
the slot is queued. Where it fits, the clause holds. -/
theorem not_portsAndNetworks : ¬ Obligations.PortsAndNetworks := by
  intro h
  obtain ⟨-, slots, -⟩ := h
  obtain ⟨-, queues, -⟩ := slots slotBeyondWidth 0 0 0 true 0
  obtain ⟨t, ht, reached, -⟩ := queues (by decide +kernel) (by decide +kernel) (by decide +kernel) (by decide +kernel)
    (by decide +kernel)
  obtain ⟨u, hu, wraps⟩ := slotQueue_wraps
  have e : t = u := Host.Outcome.next.inj (ht.symm.trans hu)
  have instant : 1 ≤ t.fl F.EP_NOW_VALUE 0 := slotInstant.symm.trans_le reached
  rw [e] at instant
  exact absurd (instant.trans_eq wraps) (by decide)

end Sys2Proof.Machine
end

section
/-! ### Pours, and registers whose fields pour (04 R76, R77) -/

namespace Sys2Proof.Machine

variable {s t u : State}

/-! #### Pouring a list of fields -/

theorem shv_setF_id (s : State) {f g : Fld} (i j v : Nat) (h : f.id ≠ g.id) : (s.setF f i v).shv g j = s.shv g j :=
  shv_congr rfl (State.fl_setF_id s i j v h)

theorem shv_dropSh_id (s : State) {f g : Fld} (i j : Nat) (h : f.id ≠ g.id) : (s.dropSh f i).shv g j = s.shv g j := by
  have e : mget 0 (s.dropSh f i).sh (fkey g j) = mget 0 s.sh (fkey g j) := mget_mset_ne (0 : Nat) s.sh 0 (fkey_ne_id i j h)
  rw [State.shv, State.shv, e]
  rfl

theorem fl_pourF_same (s : State) (f : Fld) (i : Nat) : (s.pourF f i).fl f i = s.shv f i % 2 ^ f.width :=
  State.fl_setF_same s f i _

theorem fl_pourF_id (s : State) {f g : Fld} (i j : Nat) (h : f.id ≠ g.id) : (s.pourF f i).fl g j = s.fl g j :=
  State.fl_setF_id s i j _ h

theorem shv_pourF_id (s : State) {f g : Fld} (i j : Nat) (h : f.id ≠ g.id) : (s.pourF f i).shv g j = s.shv g j :=
  (shv_dropSh_id _ i j h).trans (shv_setF_id s i j _ h)

/-- The fields of a list pour, all at element `i`. -/
def pourAll (s : State) (fs : List Fld) (i : Nat) : State := fs.foldl (fun s f => s.pourF f i) s

theorem pourAll_only (s : State) (fs : List Fld) (i : Nat) : OnlyRegs s (pourAll s fs i) := by
  induction fs generalizing s with
  | nil => rfl
  | cons f fs ih => exact OnlyRegs.trans (t := s.pourF f i) rfl (ih _)

section
variable {fs : List Fld} {f g : Fld} {i : Nat}

theorem pourAll_other (h : ∀ f ∈ fs, f.id ≠ g.id) (s : State) (i j : Nat) : (pourAll s fs i).fl g j = s.fl g j := by
  induction fs generalizing s with
  | nil => rfl
  | cons f fs ih =>
    exact (ih (fun x hx => h x (List.mem_cons_of_mem f hx)) _).trans (fl_pourF_id s i j (h f List.mem_cons_self))

theorem pourAll_own (hn : (fs.map Fld.id).Nodup) (hf : f ∈ fs) (s : State) (i : Nat) :
    (pourAll s fs i).fl f i = s.shv f i % 2 ^ f.width := by
  induction fs generalizing s with
  | nil => cases hf
  | cons g fs ih =>
    obtain ⟨hg, hn⟩ := List.nodup_cons.mp hn
    rcases List.mem_cons.mp hf with rfl | hf
    · exact (pourAll_other (fun x hx e => hg (List.mem_map.mpr ⟨x, hx, e⟩)) _ i i).trans (fl_pourF_same s f i)
    · exact (ih hn hf _).trans
        (congrArg (· % 2 ^ f.width) (shv_pourF_id s i i fun e => hg (List.mem_map.mpr ⟨f, hf, e.symm⟩)))

/-- Only the fields that pour change. -/
theorem pourAll_kept {k : Fld → Bool} (h : ∀ g, k g = false → ∀ f ∈ fs, f.id ≠ g.id) (s : State) (i : Nat) :
    FieldsKept k s (pourAll s fs i) := fun g j hg => pourAll_other (h g hg) s i j

end

/-! #### A whole write of a register with fields that pour -/

section
variable {f : Fld} {fs : List Fld} {q : Requester} {off : Nat} {v : Word} {i unit : Nat}

theorem shv_putField_other (s : State) (w : Wr) {g : Fld} (h : f.id ≠ g.id) (j : Nat) :
    (putField s w f i unit).shv g j = s.shv g j := by
  rcases putField_cases s w f i unit with e | ⟨x, e⟩ | ⟨x, e⟩ | ⟨x, e⟩ <;> rw [e]
  · exact shv_setF_id s i j x h
  · exact (shv_dropSh_id _ i j h).trans (shv_setF_id s i j x h)
  · exact shv_setSh_id s i j x h

/-- A field of a register as the register's write reaches it: no other field's write has changed it, or what `K` says. -/
theorem putFields_reaches {K : State → Prop} {w : Wr} (keep : ∀ t, ∀ g ∈ fs, K t → K (putField t w g i unit))
    (hn : (fs.map Fld.id).Nodup) (hf : f ∈ fs) (hs : K s) : ∃ t : State, K t ∧ t.fl f i = s.fl f i ∧
      (putFields s w fs i unit).fl f i = (putField t w f i unit).fl f i ∧
      (putFields s w fs i unit).shv f i = (putField t w f i unit).shv f i := by
  have rest (gs : List Fld) (hg : ∀ g ∈ gs, g.id ≠ f.id) (t : State) : (putFields t w gs i unit).shv f i = t.shv f i := by
    induction gs generalizing t with
    | nil => rfl
    | cons g gs ih =>
      exact (ih (fun x hx => hg x (List.mem_cons_of_mem g hx)) _).trans (shv_putField_other t w (hg g List.mem_cons_self) i)
  induction fs generalizing s with
  | nil => cases hf
  | cons g fs ih =>
    obtain ⟨hg, hn⟩ := List.nodup_cons.mp hn
    rcases List.mem_cons.mp hf with rfl | hf
    · have apart : ∀ g ∈ fs, g.id ≠ f.id := fun x hx e => hg (List.mem_map.mpr ⟨x, hx, e⟩)
      exact ⟨s, hs, rfl, putFields_other _ w i unit apart i, rest fs apart _⟩
    · obtain ⟨t, ht, same, active, shadow⟩ := ih (fun t g hg => keep t g (List.mem_cons_of_mem _ hg)) hn hf
        (keep s g List.mem_cons_self hs)
      exact ⟨t, ht, same.trans (putField_other s w g i unit (fun e => hg (List.mem_map.mpr ⟨f, hf, e.symm⟩)) i), active, shadow⟩

/-- An RWP field of a register whose frames are poured by a unit with the enable `en`, which the register's write leaves. -/
structure PouredBy (en f : Fld) (fs : List Fld) (unit : Nat) : Prop where
  rwp : f.acc = .rwp ∧ f.lo ≤ f.hi ∧ f.hi ≤ 63
  src : ∀ s : State, sourceStopped s f.pour unit = !s.fb en unit
  apart : ∀ g ∈ fs, g.id ≠ en.id
  nodup : (fs.map Fld.id).Nodup
  mem : f ∈ fs

variable {en : Fld} (p : PouredBy en f fs unit)
include p

/-- With the unit stopped, the write acts at once. -/
theorem PouredBy.acts (h : s.fb en unit = false) : (putFields s (.full q off v) fs i unit).fl f i = bitsOf v f ∧
    (putFields s (.full q off v) fs i unit).shv f i = bitsOf v f := by
  obtain ⟨rwp, lo, hi⟩ := p.rwp
  obtain ⟨t, ht, -, active, shadow⟩ := putFields_reaches (K := fun t => t.fb en unit = false) (w := .full q off v)
    (fun t g hg ht => (congrArg (fun n => n % 2 == 1) (putField_other t _ g i unit (p.apart g hg) unit)).trans ht) p.nodup p.mem h
  rw [active, shadow, putField_rwp_acts q off rwp ⟨lo, hi⟩ (by rw [p.src, ht]; rfl)]
  exact ⟨(State.fl_setF_same t f i _).trans (bitsOf_mod v f),
    (State.shv_dropSh_same _ f i).trans ((State.fl_setF_same t f i _).trans (bitsOf_mod v f))⟩

/-- While it runs, the write waits in the shadow. -/
theorem PouredBy.waits (h : s.fb en unit = true) : (putFields s (.full q off v) fs i unit).fl f i = s.fl f i ∧
    (putFields s (.full q off v) fs i unit).shv f i = bitsOf v f := by
  obtain ⟨rwp, lo, hi⟩ := p.rwp
  obtain ⟨t, ht, same, active, shadow⟩ := putFields_reaches (K := fun t => t.fb en unit = true) (w := .full q off v)
    (fun t g hg ht => (congrArg (fun n => n % 2 == 1) (putField_other t _ g i unit (p.apart g hg) unit)).trans ht) p.nodup p.mem h
  rw [active, shadow, putField_rwp_waits q off rwp ⟨lo, hi⟩ (by rw [p.src, ht]; rfl)]
  exact ⟨same, (State.shv_setSh_same t f i _).trans (bitsOf_mod v f)⟩

end

end Sys2Proof.Machine
end

section
/-! ### The touch front ends (O52) -/

namespace Sys2Proof.Machine

variable {s t u : State} {i : Nat}

theorem touchOf_putTouch (s : State) (i : Nat) (x : Touch) : touchOf (putTouch s i x) i = x := mget_mset_same _ _ _ _

/-! #### The start of a scan (21 R442, R443) -/

def touchPoured : List Fld := scanFields ++ hopFields

/-- What a scan's start may change. -/
def startFields : List Fld := touchPoured ++ [F.TC_STAT_CFGERR, F.TC_STAT_FIDX]

/-- GLOVE without CYC of 16 or more. -/
def gloveBad (s : State) (i : Nat) : Bool := s.fb F.TC_CFG_GLOVE i && s.fl F.TC_CFG_CYC i < 16

/-- The scan's settings judged: CFGERR. -/
def scanJudged (s : State) (i : Nat) : State :=
  if gloveBad s i && !s.fb F.TC_STAT_CFGERR i then raiseSource (s.setB F.TC_STAT_CFGERR i true) (315 + 4 * i) else s

/-- The candidate that the scan drives. -/
def scanCandidate (s : State) (i : Nat) : State :=
  s.setF F.TC_STAT_FIDX i (if s.fb F.TC_CFG_HOP i then (touchOf s i).next else 0)

theorem scanStart_eq (s : State) (i : Nat) : scanStart s i =
    putTouch (scanCandidate (scanJudged (pourAll s touchPoured i) i) i) i
      { touchOf (scanJudged (pourAll s touchPoured i) i) i with scanning := true } := rfl

theorem scanJudged_side (s : State) (i : Nat) : SideFrame (noteField [F.TC_STAT_CFGERR]) s (scanJudged s i) :=
  .ite (.trans (.setF (.refl _ s) (noteField_byId _) (f := F.TC_STAT_CFGERR) i _ rfl) (raiseSource_side _ _ _)) (.refl _ s)

theorem touch_scanJudged (s : State) (i : Nat) : touchOf (scanJudged s i) i = touchOf s i := by
  have e := congrArg (fun u : State => touchOf u i) (scanJudged_side s i).rest
  exact e

theorem scanJudged_err (h : gloveBad s i = true) : (scanJudged s i).fb F.TC_STAT_CFGERR i = true ∧
    (s.fb F.TC_STAT_CFGERR i = false → signalled s (scanJudged s i) (315 + 4 * i)) := by
  rw [scanJudged, h]
  cases e : s.fb F.TC_STAT_CFGERR i with
  | true => exact ⟨e, fun hf => Bool.noConfusion hf⟩
  | false =>
    refine ⟨((raiseSource_side [] _ _).fb _ _ rfl).trans (State.fb_setB_same s _ i true (by decide)), fun _ => ?_⟩
    have set : FieldsKept (noteField startFields) s (s.setB F.TC_STAT_CFGERR i true) :=
      .setF (.of_flds rfl) (noteField_byId _) (f := F.TC_STAT_CFGERR) i _ rfl
    exact signalled_raiseSource set _ rfl rfl

/-- A scan's start. -/
structure ScanStarted (s : State) (i : Nat) (t : State) : Prop where
  touch : touchOf t i = { touchOf s i with scanning := true }
  poured : ∀ f ∈ touchPoured, t.fl f i = s.shv f i % 2 ^ f.width
  candidate : t.fl F.TC_STAT_FIDX i = if t.fb F.TC_CFG_HOP i = true then (touchOf s i).next % 8 else 0
  err : t.fb F.TC_CFG_GLOVE i = true → t.fl F.TC_CFG_CYC i < 16 → t.fb F.TC_STAT_CFGERR i = true ∧
    (s.fb F.TC_STAT_CFGERR i = false → signalled s t (315 + 4 * i))
  fl : FieldsKept (noteField startFields) s t
  mem : t.mem = s.mem
  cpus : t.cpus = s.cpus

theorem scanStart_started (s : State) (i : Nat) : ScanStarted s i (scanStart s i) := by
  rw [scanStart_eq]
  have apart : ∀ g, noteField touchPoured g = false → ∀ f ∈ touchPoured, f.id ≠ g.id := fun g hg f hf e => by
    simp only [noteField, Bool.or_eq_false_iff, List.any_eq_false] at hg
    exact hg.2 f hf (by simp [e])
  have only := pourAll_only s touchPoured i
  have poured : FieldsKept (noteField touchPoured) s (pourAll s touchPoured i) := pourAll_kept apart s i
  have own (f : Fld) (hf : f ∈ touchPoured) := pourAll_own (by decide) hf s i
  generalize pourAll s touchPoured i = p at only poured own ⊢
  have side := scanJudged_side p i
  have err := scanJudged_err (s := p) (i := i)
  have touch : touchOf (scanJudged p i) i = touchOf s i := by
    have e := congrArg (fun u : State => touchOf u i) only
    exact (touch_scanJudged p i).trans e
  generalize scanJudged p i = j at side err touch ⊢
  have judged : FieldsKept (noteField startFields) s j :=
    (poured.weaken (noteField_of_subset (List.subset_append_left _ _))).trans (side.fl.weaken (noteField_of_subset (by simp)))
  have last (g : Fld) (hg : F.TC_STAT_FIDX.id ≠ g.id) (hn : noteField [F.TC_STAT_CFGERR] g = false) :
      (scanCandidate j i).fl g i = p.fl g i :=
    (State.fl_setF_id _ _ _ _ hg).trans (side.fl _ _ hn)
  have hop : (scanCandidate j i).fb F.TC_CFG_HOP i = j.fb F.TC_CFG_HOP i :=
    State.fb_setF_id _ _ _ _ (by decide)
  refine ⟨(touchOf_putTouch _ _ _).trans (congrArg (fun x => { x with scanning := true }) touch), fun f hf => ?_, ?_,
    fun glove cyc => ?_, ?_, side.mem.trans only.mem, side.cpus.trans only.cpus⟩
  · have away : F.TC_STAT_FIDX.id ≠ f.id ∧ noteField [F.TC_STAT_CFGERR] f = false := by
      revert f
      decide
    exact (last f away.1 away.2).trans (own f hf)
  · show (scanCandidate j i).fl F.TC_STAT_FIDX i =
      if (scanCandidate j i).fb F.TC_CFG_HOP i = true then (touchOf s i).next % 8 else 0
    rw [hop, scanCandidate, State.fl_setF_same, touch]
    split
    · rfl
    · rfl
  · have bad : gloveBad p i = true := by
      have g := (State.fb_setF_id j i i _ (f := F.TC_STAT_FIDX) (g := F.TC_CFG_GLOVE) (by decide)).symm.trans glove
      rw [gloveBad, ← side.fb _ _ rfl, g, ← last _ (by decide) rfl]
      exact decide_eq_true cyc
    obtain ⟨set, tells⟩ := err bad
    refine ⟨(State.fb_setF_id _ _ _ _ (by decide)).trans set, fun clear => ?_⟩
    have told := tells ((poured.fb _ _ rfl).trans clear)
    exact signalled_stays (signalled_since poured rfl rfl told) (.setF (.refl _) F.TC_STAT_FIDX i _ (by decide))
  · exact judged.setF (noteField_byId _) (f := F.TC_STAT_FIDX) i _ rfl

/-! #### TC_CFG (21 R442) -/

section
variable {q : Requester} {v : Word} {n : Fin 2} {f : Fld}

/-- A whole write of TC_CFG in its registers. -/
def touchWritten (s : State) (q : Requester) (v : Word) (i : Nat) : State :=
  let w : Wr := .full q (0xE03100000 + 0x1000 * i) v
  putField (putFields s w scanFields i i) w F.TC_CFG_EN i i

theorem touchWritten_only (s : State) (q : Requester) (v : Word) (i : Nat) : OnlyRegs s (touchWritten s q v i) :=
  (putFields_only s _ i i scanFields).trans (putField_only _ _ _ i i)

theorem touchWritten_en : (touchWritten s q v i).fl F.TC_CFG_EN i = bitsOf v F.TC_CFG_EN :=
  putField_replaces (unit := i) (by decide)

theorem touchPouredBy (hf : f ∈ scanFields) : PouredBy F.TC_CFG_EN f scanFields i := by
  refine ⟨?_, fun s => ?_, by decide, by decide, hf⟩
  · revert f
    decide
  · have src : f.pour = .touch := by
      revert f
      decide
    rw [src]
    rfl

theorem touchWritten_field (hf : f ∈ scanFields) : (touchWritten s q v i).shv f i = bitsOf v f ∧
    (s.fb F.TC_CFG_EN i = true → (touchWritten s q v i).fl f i = s.fl f i) := by
  have apart : F.TC_CFG_EN.id ≠ f.id := by
    revert f
    decide
  have shadow := shv_putField_other (f := F.TC_CFG_EN) (i := i) (unit := i)
    (putFields s (.full q (0xE03100000 + 0x1000 * i) v) scanFields i i) (.full q (0xE03100000 + 0x1000 * i) v) apart i
  refine ⟨shadow.trans ?_, fun on => (putField_other _ _ _ i i apart i).trans ((touchPouredBy hf).waits on).1⟩
  cases on : s.fb F.TC_CFG_EN i with
  | true => exact ((touchPouredBy hf).waits on).2
  | false => exact ((touchPouredBy hf).acts on).2

/-- What a whole write of TC_CFG leaves in its registers. -/
structure TouchWrites (s : State) (v : Word) (i : Nat) (u : State) : Prop where
  only : OnlyRegs s u
  en : u.fb F.TC_CFG_EN i = decide (bitsOf v F.TC_CFG_EN % 2 = 1)
  shadow : ∀ f ∈ scanFields, u.shv f i = bitsOf v f
  kept : ∀ f ∈ scanFields, s.fb F.TC_CFG_EN i = true → u.fl f i = s.fl f i

/-- What the write of EN does next. -/
def touchFollows (was : Bool) (u : State) (i : Nat) : State :=
  if u.fb F.TC_CFG_EN i && !was then scanStart (putTouch (u.setF F.TC_STAT_SEQ i 0) i {}) i
  else if !u.fb F.TC_CFG_EN i && was then putTouch u i {}
  else u

/-- TC_CFG as a core of ring 0 writes it. -/
theorem tcCfg_open (ho : openAt s (0xE03100000 + 0x1000 * n.val)) (hr : isRing0 s q = true) : ∃ t u, OnlyPower s t ∧
    TouchWrites t v n.val u ∧ exec (.tcCfgEnable q n v) s = .next (touchFollows (s.fb F.TC_CFG_EN n.val) u n.val) := by
  obtain ⟨t, power, run⟩ := rowWrite_open (target_reg s (0xE03000000, 0xE032FFFFF) (by decide) ⟨by omega, by omega⟩) ho q v
    fun s w => tcfgWrite s w n.val
  refine ⟨t, touchWritten t q v n.val, power, ⟨touchWritten_only t q v n.val, ?_, fun f hf => (touchWritten_field hf).1,
    fun f hf => (touchWritten_field hf).2⟩, run.trans ?_⟩
  · rw [State.fb, touchWritten_en]
    rfl
  · rw [tcfgWrite, atRing0_of ((isRing0_congr power.cpus q).trans hr), ← power.fb]
    rfl

variable (ho : openAt s (0xE03100000 + 0x1000 * n.val)) (hr : isRing0 s q = true)
include ho hr

theorem tcCfgEnable_starts (he : bitsOf v F.TC_CFG_EN = 1) (hon : ¬ s.fb F.TC_CFG_EN n.val = true) :
    Gives (.tcCfgEnable q n v) s fun t => (touchOf t n.val).scanning = true ∧ t.fl F.TC_STAT_SEQ n.val = 0 ∧
      t.fl F.TC_CFG_RATE n.val = bitsOf v F.TC_CFG_RATE ∧ t.fl F.TC_CFG_THR n.val = bitsOf v F.TC_CFG_THR ∧
      (t.mem = s.mem ∧ t.cpus = s.cpus) := by
  obtain ⟨t, u, power, written, run⟩ := tcCfg_open (v := v) ho hr
  have en : u.fb F.TC_CFG_EN n.val = true := by rw [written.en, he]; rfl
  have started := scanStart_started (putTouch (u.setF F.TC_STAT_SEQ n.val 0) n.val {}) n.val
  have poured (f : Fld) (hf : f ∈ scanFields) :
      (scanStart (putTouch (u.setF F.TC_STAT_SEQ n.val 0) n.val {}) n.val).fl f n.val = bitsOf v f := by
    have apart : F.TC_STAT_SEQ.id ≠ f.id := by
      revert f
      decide
    have shadow := (shv_setF_id u n.val n.val 0 apart).trans (written.shadow f hf)
    exact (started.poured f (List.mem_append_left _ hf)).trans ((congrArg (· % 2 ^ f.width) shadow).trans (bitsOf_mod v f))
  exact gives_of run (by rw [touchFollows, en, Bool.eq_false_iff.mpr hon]; rfl) ⟨by rw [started.touch],
    (started.fl _ _ rfl).trans (State.fl_setF_same u F.TC_STAT_SEQ n.val 0), poured _ (by decide), poured _ (by decide),
    started.mem.trans (written.only.mem.trans power.mem), started.cpus.trans (written.only.cpus.trans power.cpus)⟩

theorem tcCfgEnable_waits (he : bitsOf v F.TC_CFG_EN = 1) (hon : s.fb F.TC_CFG_EN n.val = true) :
    Gives (.tcCfgEnable q n v) s fun t => t.fl F.TC_CFG_THR n.val = s.fl F.TC_CFG_THR n.val ∧
      t.shv F.TC_CFG_THR n.val = bitsOf v F.TC_CFG_THR ∧ t.touch = s.touch ∧ (t.mem = s.mem ∧ t.cpus = s.cpus) := by
  obtain ⟨t, u, power, written, run⟩ := tcCfg_open (v := v) ho hr
  have en : u.fb F.TC_CFG_EN n.val = true := by rw [written.en, he]; rfl
  have touch : u.touch = s.touch := by
    have e := congrArg State.touch written.only
    have e' := congrArg State.touch power
    exact e.trans e'
  exact gives_of run (by rw [touchFollows, en, hon]; rfl)
    ⟨(written.kept _ (by decide) ((power.fb _ _).trans hon)).trans (power.fl _ _), written.shadow _ (by decide), touch,
      written.only.mem.trans power.mem, written.only.cpus.trans power.cpus⟩

theorem tcCfgEnable_stops (he : bitsOf v F.TC_CFG_EN = 0) (hon : s.fb F.TC_CFG_EN n.val = true) :
    Gives (.tcCfgEnable q n v) s fun t => touchOf t n.val = {} ∧ t.fb F.TC_CFG_EN n.val = false ∧
      (t.mem = s.mem ∧ t.cpus = s.cpus) := by
  obtain ⟨t, u, power, written, run⟩ := tcCfg_open (v := v) ho hr
  have en : u.fb F.TC_CFG_EN n.val = false := by rw [written.en, he]; rfl
  exact gives_of run (u := putTouch u n.val {}) (by rw [touchFollows, en, hon]; rfl) ⟨touchOf_putTouch _ _ _, en,
    written.only.mem.trans power.mem, written.only.cpus.trans power.cpus⟩

end

/-! #### The end of a scan (21 R442 to R445) -/

theorem isFound_iff (s : State) (i : Nat) (c : Contact) :
    ((s.fb F.TC_CFG_GLOVE i = true ∧ 16 ≤ s.fl F.TC_CFG_CYC i) → (isFound s i c = true ↔ s.fl F.TC_CFG_THR i ≤ 16 * c.signal.toNat)) ∧
    (¬ (s.fb F.TC_CFG_GLOVE i = true ∧ 16 ≤ s.fl F.TC_CFG_CYC i) → (isFound s i c = true ↔ s.fl F.TC_CFG_THR i ≤ c.signal.toNat)) ∧
    (isFilm s i c = true ↔ s.fb F.TC_CFG_WATER i = true ∧ s.fb F.TC_CFG_SELF i = true ∧
      ¬ (s.fl F.TC_CFG_SELFTHR i < c.selfDrive.toNat ∧ s.fl F.TC_CFG_SELFTHR i < c.selfSense.toNat)) := by
  have glove : gloveOn s i = true ↔ s.fb F.TC_CFG_GLOVE i = true ∧ 16 ≤ s.fl F.TC_CFG_CYC i := by simp [gloveOn]
  refine ⟨fun h => ?_, fun h => ?_, ?_⟩
  · rw [isFound, if_pos (glove.mpr h), decide_eq_true_eq]
    omega
  · rw [isFound, if_neg (mt glove.mp h), decide_eq_true_eq]
  · simp only [isFilm, waterOn, Bool.and_eq_true, Bool.not_eq_true', Bool.and_eq_false_iff, decide_eq_false_iff_not, and_assoc]
    refine and_congr_right fun _ => and_congr_right fun _ => ?_
    omega

/-- The fields by which a scan judges contacts and noise. -/
def judgeFields : List Fld := [F.TC_CFG_GLOVE, F.TC_CFG_CYC, F.TC_CFG_THR, F.TC_CFG_WATER, F.TC_CFG_SELF, F.TC_CFG_SELFTHR]

/-- Contacts are judged by the scan's settings alone. -/
theorem judged_congr (h : ∀ f ∈ judgeFields, t.fl f i = s.fl f i) : isFound t i = isFound s i ∧ isFilm t i = isFilm s i ∧
    touched t i = touched s i := by
  have fb (f : Fld) (hf : f ∈ judgeFields) : t.fb f i = s.fb f i := by rw [State.fb, h f hf, State.fb]
  have glove : gloveOn t i = gloveOn s i := by rw [gloveOn, gloveOn, fb _ (by decide), h _ (by decide)]
  have water : waterOn t i = waterOn s i := by rw [waterOn, waterOn, fb _ (by decide), fb _ (by decide)]
  refine ⟨funext fun c => ?_, funext fun c => ?_, funext fun c => ?_⟩
  · rw [isFound, isFound, glove, h _ (by decide)]
  · rw [isFilm, isFilm, water, h _ (by decide)]
  · rw [touched, touched, glove, h _ (by decide)]

/-- Water that has just become large enough is told. -/
def wetTold (s : State) (i : Nat) (raise : Bool) : State := if raise then raiseSource s (314 + 4 * i) else s

/-- The front end after a scan whose contacts are judged. -/
def scanJudges (x : Touch) (films : List Contact) (found : List Touched) : Touch :=
  { x with scanning := false, wet := !films.isEmpty,
           wetRaised := !films.isEmpty && (x.wetRaised || films.any fun c => 100 ≤ c.size.toNat), found := some found }

/-- Noise beyond NOISETHR at the candidate in use. -/
def loudAt (s : State) (i : Nat) (noises : List Nat) : Bool :=
  decide (s.fl F.TC_CFG_NOISETHR i < noises.getD (s.fl F.TC_STAT_FIDX i) 0)

/-- The scan's noise is judged. -/
def noiseJudged (s : State) (i : Nat) (x : Touch) (noises : List Nat) : State :=
  if s.fb F.TC_CFG_HOP i then
    if loudAt s i noises && decide (1 ≤ x.noisy) then
      raiseSource (putTouch s i { x with noisy := 0, next := quietest (noises.take 8) }) (313 + 4 * i)
    else putTouch s i { x with noisy := if loudAt s i noises then 1 else 0 }
  else putTouch s i { x with noisy := 0 }

theorem wetTold_side (s : State) (i : Nat) (raise : Bool) : SideFrame (noteField []) s (wetTold s i raise) :=
  .ite (raiseSource_side _ _ _) (.refl _ s)

/-- What noise does: the front end but for NOISY and the next candidate, and what is told. -/
structure NoiseJudged (s : State) (i : Nat) (x : Touch) (noises : List Nat) (t : State) : Prop where
  touch : ∃ a b, touchOf t i = { x with noisy := a, next := b }
  hops : s.fb F.TC_CFG_HOP i = true → loudAt s i noises = true → 1 ≤ x.noisy →
    (touchOf t i).next = quietest (noises.take 8) ∧ signalled s t (313 + 4 * i)
  notes : s.fb F.TC_CFG_HOP i = true → loudAt s i noises = true → x.noisy = 0 → (touchOf t i).noisy = 1 ∧ (touchOf t i).next = x.next
  quiet : s.fb F.TC_CFG_HOP i = false ∨ loudAt s i noises = false → (touchOf t i).noisy = 0 ∧ (touchOf t i).next = x.next
  fl : FieldsKept (noteField []) s t
  pending : PendingStays s t
  mem : t.mem = s.mem
  cpus : t.cpus = s.cpus

theorem touchOf_raiseSource (s : State) (n i : Nat) : touchOf (raiseSource s n) i = touchOf s i := by
  have e := congrArg (fun u : State => touchOf u i) (raiseSource_side [] s n).rest
  exact e

theorem noiseJudged_of_put {x : Touch} {noises : List Nat} (s : State) (i : Nat) (y : Touch) (hy : ∃ a b, y = { x with noisy := a, next := b })
    (hops : ¬ (s.fb F.TC_CFG_HOP i = true ∧ loudAt s i noises = true ∧ 1 ≤ x.noisy))
    (notes : s.fb F.TC_CFG_HOP i = true → loudAt s i noises = true → x.noisy = 0 → y.noisy = 1 ∧ y.next = x.next)
    (quiet : s.fb F.TC_CFG_HOP i = false ∨ loudAt s i noises = false → y.noisy = 0 ∧ y.next = x.next) :
    NoiseJudged s i x noises (putTouch s i y) := by
  have put := touchOf_putTouch s i y
  constructor
  case touch => rw [put]; exact hy
  case hops => exact fun h l n => absurd ⟨h, l, n⟩ hops
  case notes => rw [put]; exact notes
  case quiet => rw [put]; exact quiet
  case fl => exact .of_flds rfl
  case pending => exact .of_flds rfl
  case mem => rfl
  case cpus => rfl

theorem noiseJudged_judged (s : State) (i : Nat) (x : Touch) (noises : List Nat) :
    NoiseJudged s i x noises (noiseJudged s i x noises) := by
  unfold noiseJudged
  cases hop : s.fb F.TC_CFG_HOP i with
  | false => exact noiseJudged_of_put s i _ ⟨_, _, rfl⟩ (by simp [hop]) (by simp [hop]) fun _ => ⟨rfl, rfl⟩
  | true =>
    cases loud : loudAt s i noises with
    | false => exact noiseJudged_of_put s i _ ⟨_, _, rfl⟩ (by simp [loud]) (by simp [loud]) fun _ => ⟨rfl, rfl⟩
    | true =>
      by_cases noisy : 1 ≤ x.noisy
      · rw [if_pos rfl, if_pos (by simp [noisy])]
        let y := putTouch s i { x with noisy := 0, next := quietest (noises.take 8) }
        have side := raiseSource_side [] y (313 + 4 * i)
        have put : touchOf (raiseSource y (313 + 4 * i)) i = { x with noisy := 0, next := quietest (noises.take 8) } :=
          (touchOf_raiseSource y _ i).trans (touchOf_putTouch s i _)
        have same : FieldsKept (noteField []) s y := .of_flds rfl
        constructor
        case touch => exact ⟨_, _, put⟩
        case hops => exact fun _ _ _ => ⟨by rw [put], signalled_raiseSource same _ rfl rfl⟩
        case notes => exact fun _ _ h => absurd noisy (by omega)
        case quiet => simp [hop, loud]
        case fl => exact same.trans side.fl
        case pending => exact PendingStays.raise (t := y) (.of_flds rfl) _
        case mem => exact side.mem
        case cpus => exact side.cpus
      · rw [if_pos rfl, if_neg (by simp [noisy]), if_pos rfl]
        exact noiseJudged_of_put s i _ ⟨_, _, rfl⟩ (by simp [noisy]) (fun _ _ _ => ⟨rfl, rfl⟩) (by simp [hop, loud])

/-- The films among what a scan finds, and the contacts. -/
def filmsOf (s : State) (i : Nat) (contacts : List Contact) : List Contact := (contacts.filter (isFound s i)).filter (isFilm s i)
def contactsOf (s : State) (i : Nat) (contacts : List Contact) : List Touched :=
  ((contacts.filter (isFound s i)).filter fun c => !isFilm s i c).map (touched s i)

theorem touchScanEnd_run {n : Fin 2} {contacts : List Contact} {noises : List Nat} (h : (touchOf s n.val).scanning = true) :
    exec (.touchScanEnd n contacts noises) s = .next (noiseJudged (wetTold
      (s.setF F.TC_STAT_PERIOD n.val (scanPeriod s n.val)) n.val
      (((filmsOf s n.val contacts).any fun c => 100 ≤ c.size.toNat) && !(touchOf s n.val).wetRaised)) n.val
      (scanJudges (touchOf s n.val) (filmsOf s n.val contacts) (contactsOf s n.val contacts)) noises) := by
  have run : exec (.touchScanEnd n contacts noises) s = execTouchScanEnd n contacts noises s := rfl
  rw [run, execTouchScanEnd]
  dsimp only
  rw [if_neg (by simp [h])]
  have period : FieldsKept (noteField [F.TC_STAT_PERIOD]) s (s.setF F.TC_STAT_PERIOD n.val (scanPeriod s n.val)) :=
    .setF (.of_flds rfl) (noteField_byId _) (f := F.TC_STAT_PERIOD) _ _ rfl
  have same : ∀ f ∈ judgeFields, noteField [F.TC_STAT_PERIOD] f = false := by decide
  obtain ⟨found, film, -⟩ := judged_congr fun f hf => period f n.val (same f hf)
  rw [found, film]
  let u := wetTold (s.setF F.TC_STAT_PERIOD n.val (scanPeriod s n.val)) n.val
    (((filmsOf s n.val contacts).any fun c => 100 ≤ c.size.toNat) && !(touchOf s n.val).wetRaised)
  have told : SideFrame (noteField []) _ u := wetTold_side _ n.val _
  obtain ⟨-, film', touches⟩ := judged_congr fun f hf => (period.trans (told.fl.weaken (noteField_of_subset (by simp)))) f n.val (same f hf)
  have e : contactsOf s n.val contacts = ((contacts.filter (isFound s n.val)).filter fun c => !isFilm u n.val c).map (touched u n.val) := by
    rw [contactsOf, film', touches]
  rw [e]
  rfl

theorem touchScanEnd_gives {n : Fin 2} {contacts : List Contact} {noises : List Nat} (h : (touchOf s n.val).scanning = true) :
    Gives (.touchScanEnd n contacts noises) s fun t =>
      let x := touchOf s n.val
      let films := filmsOf s n.val contacts
      let loud := s.fl F.TC_CFG_NOISETHR n.val < noises.getD (s.fl F.TC_STAT_FIDX n.val) 0
      (touchOf t n.val).scanning = false ∧ t.fl F.TC_STAT_PERIOD n.val = scanPeriod s n.val ∧
      (touchOf t n.val).wet = !films.isEmpty ∧ (touchOf t n.val).found = some (contactsOf s n.val contacts) ∧
      ((∃ f ∈ films, 100 ≤ f.size.toNat) → x.wetRaised = false → (touchOf t n.val).wetRaised = true ∧ signalled s t (314 + 4 * n.val)) ∧
      (films = [] → (touchOf t n.val).wetRaised = false) ∧
      (s.fb F.TC_CFG_HOP n.val = true → loud → 1 ≤ x.noisy → (touchOf t n.val).next = quietest (noises.take 8) ∧
        signalled s t (313 + 4 * n.val)) ∧
      (s.fb F.TC_CFG_HOP n.val = true → loud → x.noisy = 0 → (touchOf t n.val).noisy = 1 ∧ (touchOf t n.val).next = x.next) ∧
      (s.fb F.TC_CFG_HOP n.val = false ∨ ¬ loud → (touchOf t n.val).noisy = 0 ∧ (touchOf t n.val).next = x.next) ∧
      (t.mem = s.mem ∧ t.cpus = s.cpus) := by
  refine ⟨_, touchScanEnd_run h, ?_⟩
  let p := s.setF F.TC_STAT_PERIOD n.val (scanPeriod s n.val)
  have period : FieldsKept (noteField [F.TC_STAT_PERIOD]) s p :=
    .setF (.of_flds rfl) (noteField_byId _) (f := F.TC_STAT_PERIOD) _ _ rfl
  have atPeriod : p.fl F.TC_STAT_PERIOD n.val = scanPeriod s n.val := by
    rw [State.fl_setF_same]
    exact Nat.mod_eq_of_lt (Nat.lt_of_le_of_lt (Nat.min_le_left _ _) (by decide))
  let raise := ((filmsOf s n.val contacts).any fun c => 100 ≤ c.size.toNat) && !(touchOf s n.val).wetRaised
  have told : raise = true → signalled s (wetTold p n.val raise) (314 + 4 * n.val) := fun e => by
    rw [e]
    exact signalled_raiseSource period _ rfl rfl
  have side := wetTold_side p n.val raise
  let x := scanJudges (touchOf s n.val) (filmsOf s n.val contacts) (contactsOf s n.val contacts)
  have judged := noiseJudged_judged (wetTold p n.val raise) n.val x noises
  have big : (∃ f ∈ filmsOf s n.val contacts, 100 ≤ f.size.toNat) → ((filmsOf s n.val contacts).any fun c => 100 ≤ c.size.toNat) = true :=
    fun ⟨f, hf, size⟩ => List.any_eq_true.mpr ⟨f, hf, decide_eq_true size⟩
  have raised (films : ∃ f ∈ filmsOf s n.val contacts, 100 ≤ f.size.toNat) (clear : (touchOf s n.val).wetRaised = false) :
      raise = true := Bool.and_eq_true_iff.mpr ⟨big films, by rw [clear]; rfl⟩
  have ends : noiseJudged (wetTold p n.val raise) n.val x noises = noiseJudged (wetTold (s.setF F.TC_STAT_PERIOD n.val (scanPeriod s n.val)) n.val
      (((filmsOf s n.val contacts).any fun c => 100 ≤ c.size.toNat) && !(touchOf s n.val).wetRaised)) n.val
      (scanJudges (touchOf s n.val) (filmsOf s n.val contacts) (contactsOf s n.val contacts)) noises := rfl
  rw [← ends]
  generalize noiseJudged (wetTold p n.val raise) n.val x noises = t at judged ⊢
  have before := period.trans (side.fl.weaken (noteField_of_subset (l' := [F.TC_STAT_PERIOD]) (by simp)))
  have hop : (wetTold p n.val raise).fb F.TC_CFG_HOP n.val = s.fb F.TC_CFG_HOP n.val := before.fb _ _ rfl
  have loud : loudAt (wetTold p n.val raise) n.val noises =
      decide (s.fl F.TC_CFG_NOISETHR n.val < noises.getD (s.fl F.TC_STAT_FIDX n.val) 0) := by
    rw [loudAt, before _ _ rfl, before _ _ rfl]
  obtain ⟨a, b, touch⟩ := judged.touch
  have wetRaised : (touchOf t n.val).wetRaised = x.wetRaised := by rw [touch]
  refine ⟨congrArg Touch.scanning touch, ((judged.fl _ _ rfl).trans (side.fl _ _ rfl)).trans atPeriod, congrArg Touch.wet touch,
    congrArg Touch.found touch, fun films clear => ⟨wetRaised.trans ?_, signalled_stays (told (raised films clear)) judged.pending⟩, fun none => wetRaised.trans ?_,
    fun h l n => ?_, fun h l n => judged.notes (hop.trans h) (loud.trans (decide_eq_true l)) n,
    fun h => judged.quiet (h.imp hop.trans fun l => loud.trans (decide_eq_false l)),
    judged.mem.trans side.mem, judged.cpus.trans side.cpus⟩
  · obtain ⟨f, hf, size⟩ := films
    have some : (filmsOf s n.val contacts).isEmpty = false := by
      cases e : filmsOf s n.val contacts with
      | nil => rw [e] at hf; cases hf
      | cons => rfl
    show (!(filmsOf s n.val contacts).isEmpty && _) = true
    rw [some, big ⟨f, hf, size⟩]
    simp
  · show (!(filmsOf s n.val contacts).isEmpty && _) = false
    rw [none]
    rfl
  · obtain ⟨next, tells⟩ := judged.hops (hop.trans h) (loud.trans (decide_eq_true l)) n
    exact ⟨next, signalled_since before rfl rfl tells⟩

/-! #### The contact report (21 R446) -/

/-- The fields of an entry, and what an entry holds of a contact. -/
def contactFields : List Fld := [F.TC_REP_X, F.TC_REP_Y, F.TC_REP_ID, F.TC_REP_SIZE, F.TC_REP_SIGNAL, F.TC_REP_VALID,
  F.TC_REP_GLOVED, F.TC_REP_NEW, F.TC_REP_LIFT]

def contactWrites (c : Option Touched) : List (Fld × Nat) :=
  let v := fun (f : Touched → Nat) => (c.map f).getD 0
  [(F.TC_REP_X, v fun c => c.x), (F.TC_REP_Y, v fun c => c.y), (F.TC_REP_ID, v fun c => c.id), (F.TC_REP_SIZE, v fun c => c.size),
    (F.TC_REP_SIGNAL, v fun c => c.signal), (F.TC_REP_VALID, b2n c.isSome), (F.TC_REP_GLOVED, v fun c => b2n c.gloved),
    (F.TC_REP_NEW, v fun c => b2n c.fresh), (F.TC_REP_LIFT, v fun c => b2n c.lift)]

theorem contactWrites_fields (c : Option Touched) : (contactWrites c).map Prod.fst = contactFields := rfl

theorem putContact_eq (s : State) (k : Nat) (c : Option Touched) :
    putContact s k c = (contactWrites c).foldl (fun s w => s.setF w.1 k w.2) s := rfl

theorem putContact_own {c : Option Touched} {w : Fld × Nat} (hw : w ∈ contactWrites c) (s : State) (k : Nat) :
    (putContact s k c).fl w.1 k = w.2 % 2 ^ w.1.width := by
  have nodup : ((contactWrites c).map (·.1.id)).Nodup := by
    have e : (contactWrites c).map (·.1.id) = contactFields.map Fld.id := rfl
    rw [e]
    decide
  exact foldl_ownField (get := fun s f => s.fl f k) (step := fun s w => s.setF w.1 k w.2)
    (fun t w _ h => State.fl_setF_id t k k w.2 h) nodup (fun t w => State.fl_setF_same t w.1 k w.2) hw s

theorem fl_setF_apart (s : State) {f g : Fld} {j k : Nat} (v : Nat) (h : k % 4096 ≠ j % 4096) : (s.setF f k v).fl g j = s.fl g j := by
  have hk : fkey f k ≠ fkey g j := by
    simp only [fkey, ne_eq]
    omega
  unfold State.fl State.setF
  by_cases hv : v % 2 ^ f.width = f.reset
  · simp [mset, hv, mget_mdel_ne _ _ hk]
  · simp [mset, hv, mget_mput_ne _ _ _ hk]

theorem putContact_apart (s : State) {j k : Nat} (h : k % 4096 ≠ j % 4096) (c : Option Touched) (g : Fld) :
    (putContact s k c).fl g j = s.fl g j :=
  foldl_keeps (fun s => s.fl g j) (step := fun (s : State) (w : Fld × Nat) => s.setF w.1 k w.2)
    (fun t w => fl_setF_apart t w.2 h) (contactWrites c) s

theorem putContact_kept (s : State) (k : Nat) (c : Option Touched) : FieldsKept (noteField contactFields) s (putContact s k c) := by
  have within : ∀ w ∈ contactWrites c, noteField contactFields w.1 = true := fun w hw => by
    have hf : w.1 ∈ contactFields := contactWrites_fields c ▸ List.mem_map_of_mem hw
    revert hf
    generalize w.1 = f
    revert f
    decide
  rw [putContact_eq]
  generalize contactWrites c = ws at within
  induction ws generalizing s with
  | nil => exact .of_flds rfl
  | cons w ws ih =>
    exact (FieldsKept.setF (.of_flds rfl) (noteField_byId _) k w.2 (within w List.mem_cons_self)).trans
      (ih _ fun x hx => within x (List.mem_cons_of_mem w hx))

/-- The entries of front end `i` become those of the report. -/
def reportPut (s : State) (i : Nat) (report : List Touched) : State :=
  (List.range 10).foldl (fun s k => putContact s (10 * i + k) report[k]?) s

theorem reportPut_kept (s : State) (i : Nat) (report : List Touched) :
    FieldsKept (noteField contactFields) s (reportPut s i report) := foldl_kept (fun t _ => putContact_kept t _ _) _ s

theorem reportPut_only (s : State) (i : Nat) (report : List Touched) : OnlyRegs s (reportPut s i report) := by
  unfold reportPut
  generalize List.range 10 = l
  induction l generalizing s with
  | nil => rfl
  | cons k l ih => exact OnlyRegs.trans (t := putContact s (10 * i + k) report[k]?) rfl (ih _)

theorem reportPut_entry {report : List Touched} {n : Nat} (hn : n < 10) {w : Fld × Nat} (hw : w ∈ contactWrites report[n]?)
    (s : State) : (reportPut s i report).fl w.1 (10 * i + n) = w.2 % 2 ^ w.1.width := by
  obtain ⟨u, -, e⟩ := foldl_at (view := fun t => t.fl w.1 (10 * i + n)) (step := fun s k => putContact s (10 * i + k) report[k]?)
    List.nodup_range (List.mem_range.mpr hn)
    (fun t a ha hne => putContact_apart t (by have := List.mem_range.mp ha; omega) _ _) s
  exact e.trans (putContact_own hw u _)

/-- TOUCH_REPORT's last step: SEQ, OVERFLOW and WETFLAG, and what is told. -/
def reportTold (s : State) (i : Nat) (beyond wet : Bool) : State :=
  raiseSource (((s.setF F.TC_STAT_SEQ i (s.fl F.TC_STAT_SEQ i + 1)).setB F.TC_STAT_OVERFLOW i beyond).setB F.TC_STAT_WETFLAG i wet)
    (312 + 4 * i)

theorem touchReport_run {n : Fin 2} {now : List Touched} (hon : s.fb F.TC_CFG_EN n.val = true)
    (h : (touchOf s n.val).found = some now) : exec (.touchReport n) s = .next (reportTold (reportPut
      (putTouch s n.val { touchOf s n.val with found := none, tracks := (reportOf (touchOf s n.val).tracks now).1.filter fun c => !c.lift })
      n.val (reportOf (touchOf s n.val).tracks now).1) n.val (reportOf (touchOf s n.val).tracks now).2 (touchOf s n.val).wet) := by
  have run : exec (.touchReport n) s = execTouchReport n s := rfl
  rw [run, execTouchReport]
  dsimp only
  rw [h]
  dsimp only
  rw [if_neg (by simp [hon])]
  rfl

theorem touchReport_none {n : Fin 2} (h : (touchOf s n.val).found = none) : exec (.touchReport n) s = .next s := by
  have run : exec (.touchReport n) s = execTouchReport n s := rfl
  rw [run, execTouchReport]
  dsimp only
  rw [h]

theorem reportTold_side (s : State) (i : Nat) (beyond wet : Bool) :
    SideFrame (noteField [F.TC_STAT_SEQ, F.TC_STAT_OVERFLOW, F.TC_STAT_WETFLAG]) s (reportTold s i beyond wet) :=
  have byId := noteField_byId [F.TC_STAT_SEQ, F.TC_STAT_OVERFLOW, F.TC_STAT_WETFLAG]
  .trans (.setF (.setF (.setF (.refl _ s) byId (f := F.TC_STAT_SEQ) i _ rfl) byId (f := F.TC_STAT_OVERFLOW) i (b2n beyond) rfl) byId
    (f := F.TC_STAT_WETFLAG) i (b2n wet) rfl) (raiseSource_side _ _ _)

theorem reportTold_sets (s : State) (i : Nat) (beyond wet : Bool) :
    (reportTold s i beyond wet).fl F.TC_STAT_SEQ i = (s.fl F.TC_STAT_SEQ i + 1) % 2 ^ 32 ∧
    (reportTold s i beyond wet).fb F.TC_STAT_OVERFLOW i = beyond ∧ (reportTold s i beyond wet).fb F.TC_STAT_WETFLAG i = wet := by
  let u := s.setF F.TC_STAT_SEQ i (s.fl F.TC_STAT_SEQ i + 1)
  have side := raiseSource_side [] ((u.setB F.TC_STAT_OVERFLOW i beyond).setB F.TC_STAT_WETFLAG i wet) (312 + 4 * i)
  refine ⟨(side.fl _ _ rfl).trans ?_, (side.fb _ _ rfl).trans ?_, (side.fb _ _ rfl).trans (State.fb_setB_same _ _ _ _ (by decide))⟩
  · exact (State.fl_setF_id _ _ _ _ (by decide)).trans ((State.fl_setF_id _ _ _ _ (by decide)).trans (State.fl_setF_same s _ i _))
  · exact (State.fb_setF_id _ _ _ _ (by decide)).trans (State.fb_setB_same u _ i beyond (by decide))

/-- An entry of the report: that of a contact, or empty. -/
structure EntryIs (t : State) (k : Nat) (c : Option Touched) : Prop where
  holds : ∀ w ∈ contactWrites c, t.fl w.1 k = w.2 % 2 ^ w.1.width

theorem b2n_flag {t : State} {f : Fld} {k : Nat} {b : Bool} (hw : f.width ≠ 0) (h : t.fl f k = b2n b % 2 ^ f.width) : t.fb f k = b := by
  have one : (2 : Nat) ∣ 2 ^ f.width := dvd_pow_self 2 hw
  rw [State.fb, h, Nat.mod_mod_of_dvd _ one]
  cases b <;> rfl

theorem EntryIs.empty {k : Nat} (h : EntryIs t k none) : t.fl F.TC_REP_VALID k = 0 ∧ t.fl F.TC_REP_X k = 0 ∧ t.fl F.TC_REP_ID k = 0 :=
  ⟨h.holds (F.TC_REP_VALID, 0) (by decide), h.holds (F.TC_REP_X, 0) (by decide), h.holds (F.TC_REP_ID, 0) (by decide)⟩

theorem EntryIs.contact {k : Nat} {e : Touched} (h : EntryIs t k (some e)) : t.fl F.TC_REP_VALID k = 1 ∧
    t.fl F.TC_REP_X k = e.x % 2 ^ 12 ∧ t.fl F.TC_REP_Y k = e.y % 2 ^ 12 ∧ t.fl F.TC_REP_ID k = e.id % 16 ∧
    t.fl F.TC_REP_SIZE k = e.size % 256 ∧ t.fl F.TC_REP_SIGNAL k = e.signal % 2 ^ 12 ∧ t.fb F.TC_REP_GLOVED k = e.gloved ∧
    t.fb F.TC_REP_NEW k = e.fresh ∧ t.fb F.TC_REP_LIFT k = e.lift :=
  ⟨h.holds (F.TC_REP_VALID, 1) (by simp [contactWrites, b2n]), h.holds (F.TC_REP_X, e.x) (by simp [contactWrites]),
    h.holds (F.TC_REP_Y, e.y) (by simp [contactWrites]), h.holds (F.TC_REP_ID, e.id) (by simp [contactWrites]),
    h.holds (F.TC_REP_SIZE, e.size) (by simp [contactWrites]), h.holds (F.TC_REP_SIGNAL, e.signal) (by simp [contactWrites]),
    b2n_flag (by decide) (h.holds (F.TC_REP_GLOVED, b2n e.gloved) (by simp [contactWrites])),
    b2n_flag (by decide) (h.holds (F.TC_REP_NEW, b2n e.fresh) (by simp [contactWrites])),
    b2n_flag (by decide) (h.holds (F.TC_REP_LIFT, b2n e.lift) (by simp [contactWrites]))⟩

theorem touchReport_gives {n : Fin 2} {now : List Touched} (hon : s.fb F.TC_CFG_EN n.val = true)
    (h : (touchOf s n.val).found = some now) (m : Fin 10) : Gives (.touchReport n) s fun t =>
      let x := touchOf s n.val
      let report := (reportOf x.tracks now).1
      t.fl F.TC_STAT_SEQ n.val = (s.fl F.TC_STAT_SEQ n.val + 1) % 2 ^ 32 ∧
      t.fb F.TC_STAT_OVERFLOW n.val = (reportOf x.tracks now).2 ∧ t.fb F.TC_STAT_WETFLAG n.val = x.wet ∧
      EntryIs t (10 * n.val + m.val) report[m.val]? ∧ (touchOf t n.val).tracks = report.filter (fun c => !c.lift) ∧
      signalled s t (312 + 4 * n.val) ∧ (t.mem = s.mem ∧ t.cpus = s.cpus) := by
  refine ⟨_, touchReport_run hon h, ?_⟩
  dsimp only
  generalize reportOf (touchOf s n.val).tracks now = r
  let y := putTouch s n.val { touchOf s n.val with found := none, tracks := r.1.filter fun c => !c.lift }
  have only := reportPut_only y n.val r.1
  have kept := reportPut_kept y n.val r.1
  have entries : EntryIs (reportPut y n.val r.1) (10 * n.val + m.val) r.1[m.val]? := ⟨fun w hw => reportPut_entry m.isLt hw y⟩
  have tracks : touchOf (reportPut y n.val r.1) n.val = { touchOf s n.val with found := none, tracks := r.1.filter fun c => !c.lift } := by
    have e := congrArg (fun u : State => touchOf u n.val) only
    exact e.trans (touchOf_putTouch s n.val _)
  show _ ∧ _
  rw [show putTouch s n.val { touchOf s n.val with found := none, tracks := r.1.filter fun c => !c.lift } = y from rfl]
  generalize reportPut y n.val r.1 = p at only kept entries tracks ⊢
  have side := reportTold_side p n.val r.2 (touchOf s n.val).wet
  obtain ⟨seq, beyond, wet⟩ := reportTold_sets p n.val r.2 (touchOf s n.val).wet
  have told : signalled p (reportTold p n.val r.2 (touchOf s n.val).wet) (312 + 4 * n.val) := by
    have byId := noteField_byId [F.TC_STAT_SEQ, F.TC_STAT_OVERFLOW, F.TC_STAT_WETFLAG]
    exact signalled_raiseSource (.setF (.setF (.setF (.of_flds rfl) byId (f := F.TC_STAT_SEQ) _ _ rfl) byId
      (f := F.TC_STAT_OVERFLOW) _ (b2n r.2) rfl) byId (f := F.TC_STAT_WETFLAG) _ (b2n (touchOf s n.val).wet) rfl) _ rfl rfl
  refine ⟨seq.trans (by rw [kept _ _ rfl]; rfl), beyond, wet, ⟨fun w hw => ?_⟩, ?_, signalled_since kept rfl rfl told,
    side.mem.trans only.mem, side.cpus.trans only.cpus⟩
  · have hf : w.1 ∈ contactFields := contactWrites_fields _ ▸ List.mem_map_of_mem hw
    have apart : ∀ f ∈ contactFields, noteField [F.TC_STAT_SEQ, F.TC_STAT_OVERFLOW, F.TC_STAT_WETFLAG] f = false := by decide
    exact (side.fl _ _ (apart _ hf)).trans (entries.holds w hw)
  · have e := congrArg (fun u : State => touchOf u n.val) side.rest
    have touch : touchOf (reportTold p n.val r.2 (touchOf s n.val).wet) n.val = touchOf p n.val := e
    rw [touch, tracks]

/-! #### The IDs of contacts (21 R446) -/

/-- A list of fewer than 16 contacts leaves an ID free. -/
theorem freeId_unused {used : List Touched} (h : used.length < 16) : freeId used ∉ used.map (·.id) := by
  have some : ((List.range 16).find? fun n => !used.any fun c => c.id == n).isSome := by
    rw [List.find?_isSome]
    by_contra none
    have all : List.range 16 ⊆ used.map (·.id) := fun n hn => by
      by_contra out
      exact none ⟨n, hn, by simpa using fun c hc e => out (List.mem_map.mpr ⟨c, hc, e⟩)⟩
    have few := (List.nodup_range (n := 16)).subperm all |>.length_le
    rw [List.length_range, List.length_map] at few
    omega
  obtain ⟨n, found⟩ := Option.isSome_iff_exists.mp some
  have free := List.find?_some found
  rw [freeId, found]
  simpa using free

/-- New entries keep those there, and give each an ID of its own. -/
theorem newEntries_keeps {n : Nat} {entries : List Touched} (new : List Touched) (room : entries.length + n ≤ 10)
    (hn : (entries.map (·.id)).Nodup) : (newEntries n entries new).length ≤ 10 ∧ ((newEntries n entries new).map (·.id)).Nodup ∧
      entries ⊆ newEntries n entries new := by
  induction n generalizing entries new with
  | zero => exact ⟨by simpa [newEntries] using room, by simpa [newEntries] using hn, by simp [newEntries]⟩
  | succ n ih =>
    cases new with
    | nil => exact ⟨by simp only [newEntries]; omega, hn, List.Subset.refl _⟩
    | cons c cs =>
      have fresh : ((entries ++ [({ c with id := freeId entries, fresh := true } : Touched)]).map Touched.id).Nodup := by
        rw [List.map_append]
        exact List.nodup_append.mpr ⟨hn, List.nodup_singleton _, fun a ha b hb e =>
          freeId_unused (used := entries) (by omega) (by
            have own : a = freeId entries := e.trans (List.mem_singleton.mp hb)
            exact own ▸ ha)⟩
      obtain ⟨len, nodup, sub⟩ := ih (entries := entries ++ [{ c with id := freeId entries, fresh := true }]) cs
        (by rw [List.length_append, List.length_singleton]; omega) fresh
      exact ⟨len, nodup, fun e he => sub (List.mem_append_left _ he)⟩

theorem goesOn_id (found : List Touched) (old : Touched) : (goesOn found old).id = old.id := by
  unfold goesOn
  split <;> rfl

theorem goesOn_lift {found : List Touched} {old : Touched} (h : ∀ b ∈ found, b.mark ≠ old.mark) : (goesOn found old).lift = true := by
  have none : (found.find? fun c => c.mark == old.mark) = none := List.find?_eq_none.mpr fun b hb => by simpa using h b hb
  rw [goesOn, none]

/-- A report of at most ten contacts, each with an ID of its own; one that is no longer there has lifted. -/
theorem reportOf_ids {tracks now : List Touched} (hl : tracks.length ≤ 10) (hn : (tracks.map (·.id)).Nodup) :
    (reportOf tracks now).1.length ≤ 10 ∧ ((reportOf tracks now).1.map (·.id)).Nodup ∧
      ∀ a ∈ tracks, (∀ b ∈ now, b.mark ≠ a.mark) → ∃ b ∈ (reportOf tracks now).1, b.id = a.id ∧ b.lift = true := by
  have ids : (tracks.map (goesOn now)).map (·.id) = tracks.map (·.id) := by
    rw [List.map_map]
    exact List.map_congr_left fun a _ => goesOn_id now a
  obtain ⟨len, nodup, sub⟩ := newEntries_keeps (n := 10 - tracks.length) (entries := tracks.map (goesOn now))
    (now.filter fun c => !tracks.any fun k => k.mark == c.mark) (by rw [List.length_map]; omega) (by rw [ids]; exact hn)
  exact ⟨len, nodup, fun a ha gone => ⟨_, sub (List.mem_map_of_mem ha), goesOn_id now a, goesOn_lift gone⟩⟩

/-- Settles O52: the start of a scan and its pour, what a scan's end judges, and the report. -/
theorem touchFrontEnds : Obligations.TouchFrontEnds := by
  intro s q u v noises contacts n c e tracks now i x on cfg en poured noise hop loud kept k entry glove thr selfThr found films report ids
  refine ⟨fun h he hon => tcCfgEnable_starts h.1 h.2 he hon, fun h he hon => tcCfgEnable_waits h.1 h.2 he hon,
    fun h he hon => tcCfgEnable_stops h.1 h.2 he hon, fun hon idle => ?_, isFound_iff s i c, touchScanEnd_gives, fun hon found => ?_,
    fun _ none => ⟨s, touchReport_none none, rfl⟩, reportOf_ids⟩
  · have started := scanStart_started s i
    exact gives_of (u := scanStart s i) rfl (if_pos (Bool.and_eq_true_iff.mpr ⟨hon, by rw [idle]; rfl⟩))
      ⟨by rw [started.touch], started.poured, started.candidate, started.err, started.mem, started.cpus⟩
  · obtain ⟨t, run, seq, beyond, wet, entry, tracks, told, same⟩ := touchReport_gives hon found n
    refine ⟨t, run, seq, beyond, wet, fun out => ?_, fun within => ?_, tracks, told, same⟩
    · exact (show EntryIs t k none from out ▸ entry).empty
    · exact (show EntryIs t k (some e) from within ▸ entry).contact

end Sys2Proof.Machine
end

section
/-! ### Display outputs (O51) -/

namespace Sys2Proof.Machine

/-- Output 0 shows frames of one pixel from one layer of 16 by 16 pixels, whose lines lie in the scratch SRAM, in a SAFETY region
that display engines may not read; every domain is on and the safe outputs are released. -/
def forbiddenLayer : State :=
  { flds := [(fkey F.KT_READY_READY 0, 2 ^ 28), (fkey F.ST_SRCTL_VALID 0, 1), (fkey F.ST_SRCTL_SAFETY 0, 1),
      (fkey F.ST_SRRANGE_BASE 0, 0xC00000), (fkey F.ST_SRRANGE_LIMIT 0, 0xC003FF), (fkey F.DP_OSTAT_STATE 0, 2),
      (fkey F.DP_LADDR_ADDR 0, 0xC00000000), (fkey F.DP_LGEOM_SRC 0, 257), (fkey F.DP_LGEOM_DST 0, 16 * 2 ^ 24 + 16 * 2 ^ 36),
      (fkey F.DP_LCTL_LEN 0, 1), (fkey F.KT_SAFECTL_HELD 0, 0), (fkey F.PW_DOM_STATE 0, 0)],
    disp := [(0, { hact := 1, vact := 1 })] }

/-- The fetch of its frame trips the safe outputs, which is a supervisory event at every core whose domain is on (17 R370). -/
theorem forbiddenLayer_trips : ((frameFetched forbiddenLayer (0 : Fin 6).val).2.cpu (.core 0)).supPend = 16 := by decide +kernel

/-! #### The rest of a frame boundary changes no processor -/

variable (s : State) (o : Nat)

theorem sentCrc_cpus (ps : List Rgb) : (sentCrc s o ps).2.cpus = s.cpus := by
  unfold sentCrc
  split
  · rfl
  · rfl

theorem displayPour_eq : displayPour s o =
    (List.range 8).foldl (fun s l => pourAll s layerFields (8 * o + l)) (pourAll s frameFields o) := rfl

theorem displayPour_cpus : (displayPour s o).cpus = s.cpus := by
  rw [displayPour_eq, foldl_keeps State.cpus (fun t l => (pourAll_only t layerFields (8 * o + l)).cpus)]
  exact (pourAll_only s frameFields o).cpus

theorem sunStrength_cpus : (sunStrength s o).2.cpus = s.cpus := by
  unfold sunStrength
  dsimp only [State.takeFree]
  split
  · rfl
  · rfl

theorem sunCurves_cpus (ps : List Rgb) : (sunCurves s o ps).2.cpus = s.cpus := by
  unfold sunCurves
  split
  · rfl
  · exact sunStrength_cpus s o

theorem backlight_cpus : (backlight s o).2.cpus = s.cpus := by
  unfold backlight
  dsimp only
  split
  · rfl
  · split
    · rfl
    · rfl

theorem displayFrameBoundary_cpus {s : State} {o : Fin 6} (h : shows s o.val = true) :
    Gives (.displayFrameBoundary o) s fun t => t.cpus = (frameFetched s o.val).2.cpus := by
  refine ⟨_, rfl, ?_⟩
  rw [if_pos h]
  dsimp only
  rw [raiseSource_cpus]
  have stale (t : State) (c : Prop) [Decidable c] :
      (if c then t.setB F.DP_OSTAT_AMBSTALE o.val true else t).cpus = t.cpus := by split <;> rfl
  rw [stale]
  simp only [putDisp, State.setF_cpus, State.setB_cpus, backlight_cpus, sunCurves_cpus, displayPour_cpus, sentCrc_cpus]

/-- Refutes O51 at its clause on DISPLAY_FRAME_BOUNDARY: the clause says that no processor changes. A line that the frame fetches
may lie in a SAFETY region whose Strainer refuses it; the violation trips the safe outputs (16 R358, 17 R364, R370), and the
trip's supervisory event reaches the cores. -/
theorem not_displayOutputs : ¬ Obligations.DisplayOutputs := by
  intro h
  obtain ⟨-, -, -, -, -, -, -, frame, -⟩ := h forbiddenLayer .caddy 0 0 0 0 true true []
  obtain ⟨t, ht, -, -, -, -, -, -, -, -, -, -, -, -, -, -, same⟩ := frame (by decide +kernel)
  obtain ⟨u, hu, fetched⟩ := displayFrameBoundary_cpus (s := forbiddenLayer) (o := 0) (by decide +kernel)
  have e : t = u := Host.Outcome.next.inj (ht.symm.trans hu)
  rw [e] at same
  have cpus := fetched.symm.trans same
  have pend := forbiddenLayer_trips
  rw [State.cpu, cpus] at pend
  exact absurd pend (by decide +kernel)

end Sys2Proof.Machine
end

section
/-! ### What a request to memory may change (16 R356, R358; 19 R405, R406) -/

namespace Sys2Proof.Machine

/-- The fields that a request to memory may change: those of a trip, of the counters, of a Strainer's violation, of a channel's
errors and of the trace buffer. -/
def memField (f : Fld) : Bool :=
  trigField f || [F.PC_CNT_COUNT, F.PC_CNT_OVF, F.ST_VSTAT_COUNT, F.ST_VSTAT_CLASS, F.ST_VSTAT_PART, F.ST_VSTAT_KIND, F.ST_VSTAT_SAFETY,
    F.ST_VSTAT_NOMATCH, F.ST_VSTAT_REGION, F.ST_VADDR_ADDR, F.MC_ECCSTAT_CE, F.MC_ECCSTAT_UE, F.MC_ECCADDR_ADDR,
    F.MC_ECCADDR_VALID, F.TR_STAT_LOST].any fun g => g.id == f.id

/-- Those of them that a request to memory writes itself: what is pending it only raises. -/
def memOwn (f : Fld) : Bool := memField f && f.id != F.IC_SRC_PENDING.id

theorem memField_byId : ById memField := fun f g h => by simp only [memField, trigField_byId f g h, h]

theorem trigField_of_memField (f : Fld) (h : memField f = false) : trigField f = false := (Bool.or_eq_false_iff.mp h).1

theorem icField_of_memField (f : Fld) (h : memField f = false) : icField f = false :=
  icField_of_dregsField f (dregsField_of_holdField f (holdField_of_trigField f (trigField_of_memField f h)))

theorem countField_of_memField (f : Fld) (h : memField f = false) : countField f = false := by
  have ic := icField_of_memField f h
  simp only [memField, Bool.or_eq_false_iff, List.any_eq_false] at h
  have count := h.2 F.PC_CNT_COUNT (by simp)
  have ovf := h.2 F.PC_CNT_OVF (by simp)
  simp only [beq_iff_eq] at count ovf
  simp only [countField, ic, Bool.false_or, Bool.or_eq_false_iff, beq_eq_false_iff_ne]
  exact ⟨fun e => count e.symm, fun e => ovf e.symm⟩

theorem countOne_pendingStays (s : State) (n : Nat) : PendingStays s (countOne s n) := by
  have counted := (PendingStays.refl s).setF F.PC_CNT_COUNT n (s.fl F.PC_CNT_COUNT n + 1) (by decide)
  have passed := counted.setF F.PC_CNT_OVF n (b2n true) (by decide)
  exact .ite (.ite (passed.raise 280) passed) counted

theorem countEvent_pendingStays (s : State) (ev unit : Nat) (part : Option Nat) : PendingStays s (countEvent s ev unit part) := by
  have all (l : List Nat) : ∀ t, PendingStays t (l.foldl (fun s n =>
      if s.fl F.PC_EVT_EVENT n == ev && s.fl F.PC_EVT_UNIT n == unit
          && (s.fb F.PC_EVT_PANY n || part == some (s.fl F.PC_EVT_PART n)) then countOne s n else s) t) := by
    induction l with
    | nil => exact .refl
    | cons n l ih => exact fun t => .trans (.ite (countOne_pendingStays t n) (.refl t)) (ih _)
  exact .ite (.refl s) (all _ s)

/-- `t` is `s` but for memory, the caches, the channels, what waits for domains, and what a violation or an error does. -/
structure MemFrame (s t : State) : Prop where
  rest : { t with flds := s.flds, mem := s.mem, caches := s.caches, dram := s.dram, pwr := s.pwr, trace := s.trace,
                  icCommit := s.icCommit, icPulse := s.icPulse, dregs := s.dregs, cpus := s.cpus, steep := s.steep, free := s.free } = s
  fl : FieldsKept memField s t
  stays : PendingStays s t
  awake : ∀ d, s.dom d = 0 → mget false s.pwr.waking d = false → mget false t.pwr.waking d = false

namespace MemFrame
variable {s t u : State}

theorem refl (s : State) : MemFrame s s := ⟨rfl, fun _ _ _ => rfl, fun _ h => h, fun _ _ h => h⟩

theorem trans (h : MemFrame s t) (h' : MemFrame t u) : MemFrame s u :=
  ⟨by have h1 := h.rest; rw [← h'.rest] at h1; exact h1, h.fl.trans h'.fl, h.stays.trans h'.stays,
    fun d on rest => h'.awake d ((h.fl _ _ rfl).trans on) (h.awake d on rest)⟩

theorem setF (h : MemFrame s t) {f : Fld} (i v : Nat) (hf : memOwn f = true) : MemFrame s (t.setF f i v) :=
  have ⟨field, apart⟩ := Bool.and_eq_true_iff.mp hf
  ⟨h.rest, h.fl.setF memField_byId i v field, h.stays.setF f i v (by simpa using apart), h.awake⟩

theorem ite {c : Prop} [Decidable c] (ht : MemFrame s t) (hu : MemFrame s u) : MemFrame s (if c then t else u) := by
  split
  · exact ht
  · exact hu

theorem bumpF (h : MemFrame s t) {f : Fld} (i : Nat) (hf : memOwn f = true) : MemFrame s (t.bumpF f i) := by
  unfold State.bumpF
  exact .ite (h.setF i _ hf) h

theorem of_trip (h : TripFrame trigField s t) (stays : PendingStays s t) : MemFrame s t :=
  ⟨congrArg (fun u : State => { u with mem := s.mem, caches := s.caches, dram := s.dram, pwr := s.pwr, trace := s.trace }) h.rest,
    h.fl.weaken trigField_of_memField, stays, fun d _ rest => by
      have e := congrArg State.pwr h.rest
      have e : t.pwr = s.pwr := e
      rwa [e]⟩

theorem of_ic {k : Fld → Bool} (h : IcFrame k s t) (hk : ∀ f, memField f = false → k f = false)
    (stays : PendingStays s t) : MemFrame s t :=
  ⟨congrArg (fun u : State =>
    { u with mem := s.mem, caches := s.caches, dram := s.dram, pwr := s.pwr, trace := s.trace, dregs := s.dregs, cpus := s.cpus,
             steep := s.steep, free := s.free }) h.rest, fun f i hf => h.fl f i (hk f hf), stays, fun d _ rest => by
      have e := congrArg State.pwr h.rest
      have e : t.pwr = s.pwr := e
      rwa [e]⟩

theorem raise (h : MemFrame s t) (n : Nat) : MemFrame s (raiseSource t n) :=
  h.trans (.of_ic (raiseSource_frame t n) icField_of_memField (.raise (.refl t) n))

theorem count (h : MemFrame s t) (ev unit : Nat) (part : Option Nat) : MemFrame s (countEvent t ev unit part) :=
  h.trans (.of_ic (countEvent_frame t ev unit part) countField_of_memField (countEvent_pendingStays t ev unit part))

theorem dregs (h : MemFrame s t) (source cls code detail : Nat) : MemFrame s (dregs t source cls code detail) :=
  h.trans (.of_trip (dregs_trip_trig t source cls code detail) (dregs_pendingStays t source cls code detail))

theorem trigger (h : MemFrame s t) (b : Nat) (level : Bool) : MemFrame s (raiseTrigger t b level) :=
  h.trans (.of_trip (raiseTrigger_trip t b level) (raiseTrigger_pendingStays t b level))

theorem ok {α : Type} {r : Res α} {a : α} (h : MemFrame s r.state) (e : r = .ok a t) : MemFrame s t := by rwa [e] at h
theorem fail {α : Type} {r : Res α} {c : Nat} (h : MemFrame s r.state) (e : r = .fail c t) : MemFrame s t := by rwa [e] at h
theorem stall {α : Type} {r : Res α} (h : MemFrame s r.state) (e : r = .stall t) : MemFrame s t := by rwa [e] at h

/-! #### Gates -/

theorem waking_other {w : FMap Bool} {d e : Nat} (on : s.dom e = 0) (off : s.dom d ≠ 0) (rest : mget false w e = false) :
    mget false (mset false w d true) e = false :=
  (mget_mset_ne false w true fun (same : d = e) => off (same ▸ on)).trans rest

theorem askDom (h : MemFrame s t) (d : Nat) : MemFrame s (askDom t d) := by
  refine h.trans ?_
  unfold Machine.askDom
  dsimp only
  split
  · exact ⟨rfl, fun _ _ _ => rfl, fun _ h => h, fun _ _ h => h⟩
  next off => exact ⟨rfl, fun _ _ _ => rfl, fun _ h => h, fun _ on rest => waking_other (s := t) on off rest⟩

theorem gateDom (h : MemFrame s t) (d : Nat) : MemFrame s (gateDom t d).state := by
  refine h.trans ?_
  unfold Machine.gateDom
  dsimp only
  split
  · exact ⟨rfl, fun _ _ _ => rfl, fun _ h => h, fun _ _ h => h⟩
  next off =>
    split
    · exact ⟨rfl, fun _ _ _ => rfl, fun _ h => h, fun _ _ h => h⟩
    · exact ⟨rfl, fun _ _ _ => rfl, fun _ h => h, fun _ on rest => waking_other (s := t) on off rest⟩

theorem gateUnit (h : MemFrame s t) (u : Nat) : MemFrame s (gateUnit t u).state := by
  unfold Machine.gateUnit
  split
  · exact h
  · split
    · exact h
    · exact h

theorem gate (h : MemFrame s t) (u d : Option Nat) : MemFrame s (gate t u d).state := by
  have unit {t : State} (h : MemFrame s t) : MemFrame s (match u with | none => Res.ok () t | some u => Machine.gateUnit t u).state := by
    cases u with
    | none => exact h
    | some u => exact h.gateUnit u
  cases d with
  | none => exact unit h
  | some d =>
    unfold Machine.gate
    dsimp only
    cases e : Machine.gateDom t d with
    | ok _ t => exact unit ((h.gateDom d).ok e)
    | fail _ t => exact (h.gateDom d).fail e
    | stall t => exact (h.gateDom d).stall e

theorem gateOff (h : MemFrame s t) (off : Nat) : MemFrame s (gateOff t off).state := by
  unfold Machine.gateOff
  split
  · split
    · exact h
    · exact h.gate _ _
  · split
    · exact h
    · exact h.gateUnit _
  · split
    · exact h
    · exact h
  · split
    · exact h
    · exact h.gate _ _
  · exact h

theorem sliceGate (h : MemFrame s t) (line : Nat) : MemFrame s (sliceGate t line).state := by
  unfold Machine.sliceGate
  split
  · exact h.gate _ _
  · exact h

/-! #### The Strainers and the channels -/

theorem latchViolation (h : MemFrame s t) (x cls part kind : Nat) (safety : Bool) (region : Option Nat) (off : Nat) :
    MemFrame s (latchViolation t x cls part kind safety region off) := by
  have counted := (h.bumpF (f := F.ST_VSTAT_COUNT) x rfl).count 0x50 x (if cls ≤ 1 then some part else none)
  unfold Machine.latchViolation
  exact .ite (.setF (.setF (.setF (.setF (.setF (.setF (.setF counted x _ rfl) x _ rfl) x _ rfl) x (b2n safety) rfl) x (b2n region.isNone)
    rfl) x _ rfl) x _ rfl) counted

theorem violation (h : MemFrame s t) (x cls part kind : Nat) (region : Option Nat) (off size : Nat) (force : Bool) :
    MemFrame s (violation t x cls part kind region off size force) := by
  unfold Machine.violation
  exact .ite (.trigger (.dregs (h.latchViolation ..) ..) _ _) (.dregs (h.latchViolation ..) ..)

theorem strain (h : MemFrame s t) (x cls : Nat) (part : Option Nat) (kind : ReqKind) (off size : Nat) :
    MemFrame s (strain t x cls part kind off size).2 := by
  unfold Machine.strain
  dsimp only
  split
  · exact h
  · split
    · split
      · exact h
      · exact h.violation ..
    · exact h.violation ..

theorem tracePut (h : MemFrame s t) (typ b1 b45 b67 rest : Nat) (zero : Bool) : MemFrame s (tracePut t typ b1 b45 b67 rest zero) := by
  have taken : MemFrame s { t with free := t.free + 1 } := h.trans ⟨rfl, fun _ _ _ => rfl, fun _ h => h, fun _ _ h => h⟩
  have lost := taken.bumpF (f := F.TR_STAT_LOST) 0 rfl
  have counted : MemFrame s { ({ t with free := t.free + 1 } : State).bumpF F.TR_STAT_LOST 0 with
      trace := { (({ t with free := t.free + 1 } : State).bumpF F.TR_STAT_LOST 0).trace with
        lost := (({ t with free := t.free + 1 } : State).bumpF F.TR_STAT_LOST 0).trace.lost + 1 } } := lost.trans ⟨rfl, fun _ _ _ => rfl, fun _ h => h, fun _ _ h => h⟩
  unfold Machine.tracePut
  exact .ite (taken.trans ⟨rfl, fun _ _ _ => rfl, fun _ h => h, fun _ _ h => h⟩) (.ite (counted.raise 274) counted)

theorem traceRaw (h : MemFrame s t) (typ b1 b45 b67 rest : Nat) (zero : Bool) : MemFrame s (traceRaw t typ b1 b45 b67 rest zero) :=
  .tracePut (.ite (h.tracePut ..) h) ..

theorem traceDram (h : MemFrame s t) (ch : Nat) (part : Option Nat) (write budgeted : Bool) (size off : Nat) :
    MemFrame s (traceDram t ch part write budgeted size off) := by
  unfold Machine.traceDram
  split
  · exact .ite (h.traceRaw ..) h
  · exact h

theorem dram (h : MemFrame s t) (d : Dram) : MemFrame s { t with dram := d } := h.trans ⟨rfl, fun _ _ _ => rfl, fun _ h => h, fun _ _ h => h⟩

theorem channelTakes (h : MemFrame s t) (ch : Nat) (kind : ReqKind) (line : Nat) (budgeted : Bool) :
    MemFrame s (channelTakes t ch kind line budgeted) :=
  have served : MemFrame s (if kind == 1 then t else serveBudgeted t ch) := .ite h (h.dram _)
  .ite (served.dram _) served

theorem charge (h : MemFrame s t) (ch cls : Nat) (part : Option Nat) (kind : ReqKind) (off size : Nat) :
    MemFrame s (charge t ch cls part kind off size) := by
  unfold Machine.charge
  exact .traceDram (.count (.channelTakes (.ite ((h.dram _).dram _) (h.dram _)) ..) ..) ..

theorem memAdmit (h : MemFrame s t) (cls : Nat) (part : Option Nat) (kind : ReqKind) (off size : Nat) :
    MemFrame s (memAdmit t cls part kind off size).state := by
  have gated := h.gateOff off
  unfold Machine.memAdmit memAdmitAs
  cases e : Machine.gateOff t off with
  | fail _ u => exact gated.fail e
  | stall u => exact gated.stall e
  | ok _ u =>
    have gated := gated.ok e
    dsimp only
    split
    · rename_i x _
      have strained := gated.strain x cls part kind off size
      split
      · rename_i v hv
        rw [hv] at strained
        exact .ite (strained.charge ..) strained
      · rename_i v hv
        rw [hv] at strained
        exact strained
    · exact gated

theorem admitPieces (cls : Nat) (part : Option Nat) (kind : ReqKind) :
    ∀ (l : List (Nat × Nat)) {s t u : State}, MemFrame s t → admitPieces t cls part kind l = some u → MemFrame s u
  | [], _, _, _, _, e => nomatch e
  | (off, n) :: rest, s, t, u, h, e => by
    unfold Machine.admitPieces at e
    split at e
    · rename_i x _
      have strained := h.strain x cls part kind off n
      split at e
      · rename_i v hv
        rw [hv] at strained
        exact admitPieces cls part kind rest strained e
      · rename_i v hv
        rw [hv] at strained
        exact Option.some.inj e ▸ strained
    · exact admitPieces cls part kind rest h e

/-! #### Lines of memory and of the caches -/

theorem caches (h : MemFrame s t) (c : Caches) : MemFrame s { t with caches := c } := h.trans ⟨rfl, fun _ _ _ => rfl, fun _ h => h, fun _ _ h => h⟩

theorem lineKnown (h : MemFrame s t) (off : Nat) : MemFrame s (lineKnown t off) := by
  have known (u : State) (h : MemFrame s u) :
      MemFrame s (if lineFlips u off = 0 then u else { u with dram := { u.dram with flips := mset 0 u.dram.flips (off / 64) 0 } }) :=
    .ite h (h.dram _)
  unfold Machine.lineKnown
  split
  · exact known _ (.ite (h.dram _) h)
  · exact h

theorem writeBytes (h : MemFrame s t) (a n v : Nat) : MemFrame s (writeBytes t a n v) := by
  obtain ⟨m, e⟩ := writeBytes_only n t a v
  rw [e]
  exact h.trans ⟨rfl, fun _ _ _ => rfl, fun _ h => h, fun _ _ h => h⟩

theorem eccCorrected (h : MemFrame s t) (part : Option Nat) (c : Nat) : MemFrame s (eccCorrected t part c) := by
  have counted := (h.bumpF (f := F.MC_ECCSTAT_CE) c rfl).count 0x32 c part
  unfold Machine.eccCorrected
  exact .ite (.dregs (counted.raise _) ..) counted

theorem eccUncorrectable (h : MemFrame s t) (c off : Nat) : MemFrame s (eccUncorrectable t c off) := by
  have counted := h.bumpF (f := F.MC_ECCSTAT_UE) c rfl
  unfold Machine.eccUncorrectable
  exact .dregs (.raise (.ite counted (.setF (counted.setF c _ rfl) c (b2n true) rfl)) _) ..

theorem readLine (h : MemFrame s t) (part : Option Nat) (off : Nat) : MemFrame s (readLine t part off).state := by
  have taken : MemFrame s { t with free := t.free + 1 + 1 } := h.trans ⟨rfl, fun _ _ _ => rfl, fun _ h => h, fun _ _ h => h⟩
  unfold Machine.readLine
  dsimp only [State.takeFree]
  split
  · split
    · split
      · exact .lineKnown (taken.writeBytes ..) _
      · exact .eccCorrected (.lineKnown (taken.writeBytes ..) _) ..
      · exact taken.eccUncorrectable ..
    · split
      · exact h
      · exact .eccCorrected (h.lineKnown _) ..
      · exact h.eccUncorrectable ..
  · exact h

theorem writeMem (h : MemFrame s t) (part : Option Nat) (off n v : Nat) : MemFrame s (writeMem t part off n v).state := by
  unfold Machine.writeMem
  split
  · have read := h.readLine part off
    cases e : Machine.readLine t part off with
    | ok d u => exact .lineKnown ((read.ok e).writeBytes ..) _
    | fail c u => exact read.fail e
    | stall u => exact read.stall e
  · exact .lineKnown (h.writeBytes ..) _

theorem dropLine (h : MemFrame s t) (id : CacheId) (line : Nat) : MemFrame s (dropLine t id line) := by
  unfold Machine.dropLine
  dsimp only
  split
  · exact h.caches _
  · exact h

theorem dropOn (h : MemFrame s t) (id : CacheId) (line : Nat) : MemFrame s (dropOn t id line) := .ite (h.dropLine ..) h

theorem foldl {α : Type} {step : State → α → State} (hs : ∀ {u : State}, MemFrame s u → ∀ a, MemFrame s (step u a)) (l : List α)
    (h : MemFrame s t) : MemFrame s (l.foldl step t) := by
  induction l generalizing t with
  | nil => exact h
  | cons a l ih => exact ih (hs h a)

theorem leaveL1 (h : MemFrame s t) (line : Nat) (c : Fin 16) : MemFrame s (leaveL1 t line c) := (h.dropOn ..).dropOn ..

theorem leaveL2 (h : MemFrame s t) (line : Nat) (n : Fin 4) : MemFrame s (leaveL2 t line n) :=
  foldl (step := fun u c => Machine.dropOn u (.l1i c) line) (fun hu _ => hu.dropOn ..) _ (h.dropOn ..)

theorem memWriteBack (h : MemFrame s t) (x : CLine) : MemFrame s (memWriteBack t x) := by
  unfold Machine.memWriteBack
  split
  · dsimp only
    refine .lineKnown (.writeBytes ?_ ..) _
    split
    · exact (h.askDom _).dram _
    · exact h
  · exact h

theorem l3Put (h : MemFrame s t) (part : Option Nat) (line data : Nat) (dirty : Bool) : MemFrame s (l3Put t part line data dirty) := by
  have out {u : State} (h : MemFrame s u) (v : CLine) (b : Bool) : MemFrame s (if b then Machine.memWriteBack u v else u) :=
    .ite (h.memWriteBack v) h
  unfold Machine.l3Put
  dsimp only
  split
  · exact out h _ _
  · split
    · exact out (h.askDom _) _ _
    · split
      · exact h.caches _
      · split
        · exact .count (h.caches _) ..
        · split
          · exact .count (.caches (out (h.dropLine ..) _ _) _) ..
          · exact out h _ _

theorem l3Lookup (h : MemFrame s t) (part : Option Nat) (line : Nat) : MemFrame s (l3Lookup t part line) := .ite (h.count ..) h

theorem newestUsed {d line : Nat} (h : MemFrame s t) (e : newestUsed t line = some (d, u)) : MemFrame s u := by
  unfold Machine.newestUsed at e
  split at e
  · cases e
    exact h
  · split at e
    · cases e
      exact h
    · obtain ⟨x, -, e⟩ := Option.map_eq_some_iff.mp e
      cases e
      exact h.caches _

/-! #### Requests of engines -/

theorem snoopRead (h : MemFrame s t) (cls : Nat) (part : Option Nat) (kind : ReqKind) (off n : Nat) :
    MemFrame s (snoopRead t cls part kind off n).state := by
  have sliced := h.sliceGate (off / 64)
  unfold Machine.snoopRead
  dsimp only
  cases e : Machine.sliceGate t (off / 64) with
  | fail _ u => exact sliced.fail e
  | stall u => exact sliced.stall e
  | ok _ u =>
    have looked := (sliced.ok e).l3Lookup (shownPart cls part) (off / 64)
    dsimp only
    generalize Machine.l3Lookup u (shownPart cls part) (off / 64) = u at looked
    split
    · rename_i d v hv
      split at hv
      · exact looked.newestUsed hv
      · cases hv
    · have admitted := looked.memAdmit cls part kind off n
      cases ha : Machine.memAdmit u cls part kind off n with
      | fail _ v => exact admitted.fail ha
      | stall v => exact admitted.stall ha
      | ok _ v =>
        have admitted := admitted.ok ha
        dsimp only
        split
        · rename_i d w hw
          exact admitted.newestUsed hw
        · split
          · have read := admitted.readLine (shownPart cls part) off
            cases hr : Machine.readLine v (shownPart cls part) off with
            | ok d w => exact (read.ok hr).l3Put ..
            | fail _ w => exact read.fail hr
            | stall w => exact read.stall hr
          · exact admitted

theorem snoopPut (h : MemFrame s t) (part : Option Nat) (off n v : Nat) : MemFrame s (snoopPut t part off n v).state := by
  have left : MemFrame s (allClusters.foldl (fun s k => Machine.leaveL2 s (off / 64) k)
      (allCores.foldl (fun s k => Machine.leaveL1 s (off / 64) k) t)) :=
    foldl (step := fun u k => Machine.leaveL2 u (off / 64) k) (fun hu _ => hu.leaveL2 ..) _
      (foldl (step := fun u k => Machine.leaveL1 u (off / 64) k) (fun hu _ => hu.leaveL1 ..) _ h)
  unfold Machine.snoopPut
  dsimp only
  generalize allClusters.foldl (fun s k => Machine.leaveL2 s (off / 64) k)
    (allCores.foldl (fun s k => Machine.leaveL1 s (off / 64) k) t) = u at left ⊢
  split
  · exact (left.caches _).writeMem ..
  · split
    · exact left.writeMem ..
    · exact left.writeMem ..

theorem snoopWrite (h : MemFrame s t) (cls : Nat) (part : Option Nat) (kind : ReqKind) (off n v : Nat) :
    MemFrame s (snoopWrite t cls part kind off n v).state := by
  have admitted : MemFrame s ((Machine.sliceGate t (off / 64)).bind fun _ s => Machine.memAdmit s cls part kind off n).state := by
    have sliced := h.sliceGate (off / 64)
    cases e : Machine.sliceGate t (off / 64) with
    | ok _ u => exact (sliced.ok e).memAdmit ..
    | fail _ u => exact sliced.fail e
    | stall u => exact sliced.stall e
  unfold Machine.snoopWrite
  cases e : (Machine.sliceGate t (off / 64)).bind fun _ s => Machine.memAdmit s cls part kind off n with
  | ok _ u => exact ((admitted.ok e).l3Lookup ..).snoopPut ..
  | fail _ u => exact admitted.fail e
  | stall u => exact admitted.stall e

theorem engineRead (cls : Nat) (part : Option Nat) :
    ∀ (l : List (Nat × Nat)) {s t : State}, MemFrame s t → MemFrame s (engineRead t cls part l).2.2
  | [], _, _, h => h
  | (off, n) :: rest, s, t, h => by
    have read := h.snoopRead cls part 0 off n
    unfold Machine.engineRead
    refine engineRead cls part rest ?_
    split
    · cases e : Machine.snoopRead t cls part 0 off n with
      | ok v u => exact read.ok e
      | fail _ u => exact read.fail e
      | stall u => exact read.stall e
    · exact h

theorem engineWrite (cls : Nat) (part : Option Nat) :
    ∀ (l : List (Nat × Nat)) {s t : State} (bs : List Byte), MemFrame s t → MemFrame s (engineWrite t cls part bs l).2
  | [], _, _, _, h => h
  | (off, n) :: rest, s, t, bs, h => by
    have write := h.snoopWrite cls part 1 off n (bytesNat (bs.take n))
    unfold Machine.engineWrite
    refine engineWrite cls part rest _ ?_
    split
    · cases e : Machine.snoopWrite t cls part 1 off n (bytesNat (bs.take n)) with
      | ok v u => exact write.ok e
      | fail _ u => exact write.fail e
      | stall u => exact write.stall e
    · exact h

theorem dmaRead (h : MemFrame s t) (cls : Nat) (part : Option Nat) (off n : Nat) : MemFrame s (dmaRead t cls part off n).2 := by
  unfold Machine.dmaRead rangeRead
  split
  · rename_i u hu
    exact admitPieces cls part 0 _ h hu
  · exact engineRead cls part _ h

theorem dmaWrite (h : MemFrame s t) (cls : Nat) (part : Option Nat) (off : Nat) (bs : List Byte) :
    MemFrame s (dmaWrite t cls part off bs) := by
  unfold Machine.dmaWrite
  split
  · rename_i u hu
    exact admitPieces cls part 1 _ h hu
  · exact engineWrite cls part _ bs h

theorem cams (h : MemFrame s t) : t.cams = s.cams := by
  have e := congrArg State.cams h.rest
  exact e

theorem mir (h : MemFrame s t) : t.mir = s.mir := by
  have e := congrArg State.mir h.rest
  exact e

theorem router (h : MemFrame s t) : t.router = s.router := by
  have e := congrArg State.router h.rest
  exact e

theorem links (h : MemFrame s t) : t.links = s.links := by
  have e := congrArg State.links h.rest
  exact e

end MemFrame

end Sys2Proof.Machine
end

section
/-! ### Cameras, the codec engine and inbound PCIe requests (O50) -/

namespace Sys2Proof.Machine

variable {s t u : State}

/-! #### Events of an Infuser, and the frames of a port group -/

/-- Only an Infuser's events differ, and what the return of its EVT.WAIT does. -/
def OnlyEvents (s t : State) : Prop :=
  { t with flds := s.flds, icCommit := s.icCommit, icPulse := s.icPulse, cpus := s.cpus, inf := s.inf } = s

namespace OnlyEvents

theorem trans (h : OnlyEvents s t) (h' : OnlyEvents t u) : OnlyEvents s u := by
  rw [OnlyEvents, ← h'] at h
  exact h

theorem mem (h : OnlyEvents s t) : t.mem = s.mem := by
  have e := congrArg State.mem h
  exact e

theorem cams (h : OnlyEvents s t) : t.cams = s.cams := by
  have e := congrArg State.cams h
  exact e

theorem ports (h : OnlyEvents s t) : t.ports = s.ports := by
  have e := congrArg State.ports h
  exact e

end OnlyEvents

theorem OnlyEvents.of_ic {k : Fld → Bool} (h : IcFrame k s t) : OnlyEvents s t := by
  have e := congrArg (fun u : State => { u with cpus := s.cpus, inf := s.inf }) h.rest
  exact e

theorem OnlyEvents.setCpu (s : State) (p : Proc) (k : Cpu) : OnlyEvents s (s.setCpu p k) := rfl

theorem retire_onlyEvents (s : State) (i : Fin 32) (pc npc : Word) : OnlyEvents s (retire s (.infuser i) pc npc false) := by
  have counted (k : Cpu) : OnlyEvents s (countDone (s.setCpu (.infuser i) k) (.infuser i)) :=
    (OnlyEvents.setCpu s (.infuser i) k).trans (.of_ic (countDone_frame (s.setCpu (.infuser i) k) (.infuser i)))
  exact counted _

theorem evtTaken_onlyEvents (s : State) (i : Fin 32) (m : Word) : OnlyEvents s (evtTaken s i m) := rfl

theorem evtReturn_onlyEvents (s : State) (i : Fin 32) : OnlyEvents s (evtReturn s i) := by
  cases hw : (s.cpu (.infuser i)).wait with
  | evt d m =>
    by_cases hg : evtGot s i m = 0
    · rw [evtReturn, hw]
      exact (congrArg (OnlyEvents s) (if_pos hg)).mpr rfl
    · rw [evtReturn_eq hw hg]
      exact (evtTaken_onlyEvents s i m).trans ((OnlyEvents.setCpu _ _ _).trans (retire_onlyEvents _ i _ _))
  | _ =>
    rw [evtReturn, hw]
    rfl

theorem infEvent_onlyEvents (s : State) (i : Fin 32) (e : Nat) : OnlyEvents s (infEvent s i e) :=
  OnlyEvents.trans (t := putInf s i.val { infOf s i.val with events := (infOf s i.val).events ||| (1#16 <<< e) }) rfl
    (evtReturn_onlyEvents _ i)

theorem portEvent_onlyEvents (s : State) (g bit : Nat) : OnlyEvents s (portEvent s g bit) := by
  unfold portEvent
  split
  · exact infEvent_onlyEvents s _ _
  · rfl

theorem portOf_putPort (s : State) (g : Nat) (p : Port) : portOf (putPort s g p) g = p := mget_mset_same _ _ _ _

/-- A group that has met an error. -/
def erred (p : Port) (err : Bool) : Port := if err then { p with err := true, errs := min 0xFFFF (p.errs + 1) } else p

theorem erred_keeps (p : Port) (err : Bool) : (erred p err).rx = p.rx ∧ rxUsed (erred p err) = rxUsed p := by
  cases err with
  | true => exact ⟨rfl, rfl⟩
  | false => exact ⟨rfl, rfl⟩

/-- A group with a frame more in its receive FIFO, or RXOVF. -/
def framed (p : Port) (g tag time : Nat) (err : Bool) (bytes : List Byte) : Port :=
  if 64 ≤ (erred p err).rx.length || rxCap g < rxUsed (erred p err) + bytes.length then { erred p err with rxovf := true }
  else { erred p err with rx := (erred p err).rx ++ [⟨tag % 256, err, time % 2 ^ 32, bytes⟩] }

theorem frameIn_framed (s : State) (g tag time : Nat) (err : Bool) (bytes : List Byte) :
    OnlyEvents (putPort s g (framed (portOf s g) g tag time err bytes)) (frameIn s g tag time err bytes) := by
  have unfolded : frameIn s g tag time err bytes = (let p := erred (portOf s g) err
    if 64 ≤ p.rx.length || rxCap g < rxUsed p + bytes.length then putPort s g { p with rxovf := true }
    else portEvent (putPort s g { p with rx := p.rx ++ [⟨tag % 256, err, time % 2 ^ 32, bytes⟩] }) g 0) := rfl
  rw [unfolded, framed]
  dsimp only
  split
  · rfl
  · exact portEvent_onlyEvents _ g 0

theorem framed_err (p : Port) (g tag time : Nat) (bytes : List Byte) : (framed p g tag time true bytes).err = true := by
  unfold framed
  split
  · rfl
  · rfl

theorem framed_fits {p : Port} {g tag time : Nat} {err : Bool} {bytes : List Byte} (hl : p.rx.length < 64)
    (hu : rxUsed p + bytes.length ≤ rxCap g) :
    (framed p g tag time err bytes).rx = p.rx ++ [⟨tag % 256, err, time % 2 ^ 32, bytes⟩] := by
  obtain ⟨rx, used⟩ := erred_keeps p err
  rw [framed, rx, used, if_neg (by simp; omega)]

/-! #### Camera inputs (22 R452 to R454) -/

section
variable {k : Fin 32} {start : BitVec 32} {vc : BitVec 2} {dt : BitVec 6} {crcOk : Bool} {bytes : List Byte}

theorem camOf_putCam (s : State) (k : Nat) (x : Cam) : camOf (putCam s k x) k = x := mget_mset_same _ _ _ _

/-- A line that the input takes. -/
def lineWanted (s : State) (k : Fin 32) (vc : BitVec 2) (dt : BitVec 6) : Prop :=
  inputOn s k.val = true ∧ (camOf s k.val).inFrame = true ∧ vc.toNat = s.fl F.CM_INCFG_VC k.val ∧
    dt.toNat = s.fl F.CM_INCFG_DT k.val ∧ dt.toNat ∈ csiTypes

/-- A CRC error counted, and the input at the next line. -/
def lineTaken (s : State) (k : Nat) (crcOk : Bool) (c : Cam) : State :=
  putCam (if crcOk then s else s.bumpF F.CM_INSTAT_CRCERR k) k { c with line := c.line + 1 }

/-- A line that the tap takes. -/
def lineTapped (s : State) (k : Fin 32) (start : BitVec 32) (vc : BitVec 2) (crcOk : Bool) (bytes : List Byte) : State :=
  if s.fb F.CM_INCFG_TAP k.val then
    frameIn s (40 + k.val / 2) (k.val % 2 + vc.toNat * 2) (frameStart s start) (!crcOk) bytes
  else s

theorem csiPacket_wanted (h : lineWanted s k vc dt) : exec (.csiPacket k start vc dt .line true crcOk bytes) s = .next (
    let off := camLineAt s k.val (camOf s k.val).line
    if s.fb F.CM_INCFG_WRITE k.val && mustWait s off bytes.length then askWake s off bytes.length
    else lineTapped (lineTaken (if s.fb F.CM_INCFG_WRITE k.val then dmaWrite s 5 none off bytes else s) k.val crcOk (camOf s k.val))
      k start vc crcOk bytes) := by
  obtain ⟨on, frame, hvc, hdt, type⟩ := h
  have run : exec (.csiPacket k start vc dt .line true crcOk bytes) s = execCsiPacket k start vc dt .line true crcOk bytes s := rfl
  rw [run, execCsiPacket]
  dsimp only
  rw [if_pos (by simp [on, frame, hvc, hdt] at type ⊢; exact type)]
  rfl

theorem csiPacket_unwanted {kind : CsiKind} {headerOk : Bool} (h : ¬ lineWanted s k vc dt ∨ headerOk = false ∨ kind = .other) :
    exec (.csiPacket k start vc dt kind headerOk crcOk bytes) s = .next s := by
  have run : exec (.csiPacket k start vc dt kind headerOk crcOk bytes) s = execCsiPacket k start vc dt kind headerOk crcOk bytes s := rfl
  rw [run, execCsiPacket]
  dsimp only
  rw [if_neg]
  intro all
  simp only [Bool.and_eq_true, beq_iff_eq, List.contains_iff_mem] at all
  obtain ⟨⟨⟨⟨⟨⟨on, header⟩, line⟩, frame⟩, hvc⟩, hdt⟩, type⟩ := all
  rcases h with h | h | h
  · exact h ⟨on, frame, hvc, hdt, type⟩
  · rw [h] at header
    cases header
  · rw [h] at line
    cases line

theorem lineTaken_kept (s : State) (k : Nat) (crcOk : Bool) (c : Cam) {g : Fld} (hg : F.CM_INSTAT_CRCERR.id ≠ g.id) (j : Nat) :
    (lineTaken s k crcOk c).fl g j = s.fl g j := by
  unfold lineTaken
  cases crcOk with
  | true => rfl
  | false => exact fl_bumpF_id hg

theorem lineTaken_cam (s : State) (k : Nat) (crcOk : Bool) (c : Cam) :
    camOf (lineTaken s k crcOk c) k = { c with line := c.line + 1 } := mget_mset_same _ _ _ _

theorem lineTaken_mem (s : State) (k : Nat) (crcOk : Bool) (c : Cam) : (lineTaken s k crcOk c).mem = s.mem := by
  unfold lineTaken
  cases crcOk with
  | true => rfl
  | false => exact (bumpF_sides s _ _).2.1

theorem fl_bumpF_below {f : Fld} {i : Nat} (h : s.fl f i + 1 < 2 ^ f.width) : (s.bumpF f i).fl f i = s.fl f i + 1 := by
  unfold State.bumpF
  dsimp only
  rw [if_pos h, State.fl_setF_same, Nat.mod_eq_of_lt h]

theorem lineTaken_counts (s : State) (k : Nat) (c : Cam) (h : s.fl F.CM_INSTAT_CRCERR k < 255) :
    (lineTaken s k crcOk c).fl F.CM_INSTAT_CRCERR k = s.fl F.CM_INSTAT_CRCERR k + if crcOk then 0 else 1 := by
  unfold lineTaken
  cases crcOk with
  | true => rfl
  | false =>
    have small : s.fl F.CM_INSTAT_CRCERR k + 1 < 2 ^ F.CM_INSTAT_CRCERR.width := by
      show _ < 256
      omega
    exact fl_bumpF_below small

theorem csiLine_stored (h : lineWanted s k vc dt) (hw : s.fb F.CM_INCFG_WRITE k.val = true) (ht : s.fb F.CM_INCFG_TAP k.val = false)
    (hm : mustWait s (camLineAt s k.val (camOf s k.val).line) bytes.length = false) :
    Gives (.csiPacket k start vc dt .line true crcOk bytes) s fun t =>
      t.mem = (dmaWrite s 5 none (camLineAt s k.val (camOf s k.val).line) bytes).mem ∧
      camOf t k.val = { camOf s k.val with line := (camOf s k.val).line + 1 } ∧
      (s.fl F.CM_INSTAT_CRCERR k.val < 255 →
        t.fl F.CM_INSTAT_CRCERR k.val = s.fl F.CM_INSTAT_CRCERR k.val + if crcOk then 0 else 1) := by
  have frame := (MemFrame.refl s).dmaWrite 5 none (camLineAt s k.val (camOf s k.val).line) bytes
  let u := dmaWrite s 5 none (camLineAt s k.val (camOf s k.val).line) bytes
  have tap : (lineTaken u k.val crcOk (camOf s k.val)).fb F.CM_INCFG_TAP k.val = false := by
    rw [State.fb, lineTaken_kept u k.val crcOk _ (by decide), frame.fl _ _ rfl]
    exact ht
  refine gives_of (csiPacket_wanted h) (u := lineTaken u k.val crcOk (camOf s k.val)) ?_
    ⟨lineTaken_mem _ _ _ _, lineTaken_cam _ _ _ _, fun few => ?_⟩
  · dsimp only
    rw [hw, hm, if_neg (by decide), if_pos rfl, lineTapped, tap]
    rfl
  · rw [lineTaken_counts u k.val _ ((frame.fl _ _ rfl).trans_lt few), frame.fl _ _ rfl]

theorem csiLine_tapped (h : lineWanted s k vc dt) (hw : s.fb F.CM_INCFG_WRITE k.val = false) (ht : s.fb F.CM_INCFG_TAP k.val = true) :
    Gives (.csiPacket k start vc dt .line true crcOk bytes) s fun t =>
      let p := portOf s (40 + k.val / 2)
      camOf t k.val = { camOf s k.val with line := (camOf s k.val).line + 1 } ∧ t.mem = s.mem ∧
      (p.rx.length < 64 → rxUsed p + bytes.length ≤ rxCap (40 + k.val / 2) →
        ∃ f, (portOf t (40 + k.val / 2)).rx = p.rx ++ [f] ∧ f.bytes = bytes ∧ f.err = !crcOk ∧
          f.tag = k.val % 2 + vc.toNat * 2 ∧ f.time = frameStart s start % 2 ^ 32) ∧
      (crcOk = false → (portOf t (40 + k.val / 2)).err = true) := by
  let u := lineTaken s k.val crcOk (camOf s k.val)
  have ports : portOf u (40 + k.val / 2) = portOf s (40 + k.val / 2) := by
    show portOf (lineTaken s k.val crcOk (camOf s k.val)) _ = _
    unfold lineTaken
    cases crcOk with
    | true => rfl
    | false =>
      have same : (s.bumpF F.CM_INSTAT_CRCERR k.val).ports = s.ports := by
        unfold State.bumpF
        dsimp only
        split <;> rfl
      exact congrArg (fun p => mget {} p (40 + k.val / 2)) same
  have start_ : frameStart u start = frameStart s start := by rw [frameStart, lineTaken_kept _ _ _ _ (by decide), frameStart]
  have only := frameIn_framed u (40 + k.val / 2) (k.val % 2 + vc.toNat * 2) (frameStart u start) (!crcOk) bytes
  rw [ports] at only
  have tap : u.fb F.CM_INCFG_TAP k.val = true := by
    rw [State.fb, lineTaken_kept _ _ _ _ (by decide)]
    exact ht
  have run : exec (.csiPacket k start vc dt .line true crcOk bytes) s =
      .next (frameIn u (40 + k.val / 2) (k.val % 2 + vc.toNat * 2) (frameStart u start) (!crcOk) bytes) := by
    refine (csiPacket_wanted h).trans ?_
    dsimp only
    rw [hw, if_neg (by simp), if_neg (by decide), lineTapped, if_pos tap]
  rw [start_] at run only
  generalize frameIn u (40 + k.val / 2) (k.val % 2 + vc.toNat * 2) (frameStart s start) (!crcOk) bytes = t at run only
  have cam : camOf t k.val = camOf u k.val := by
    rw [camOf, only.cams]
    rfl
  have port : portOf t (40 + k.val / 2) =
      framed (portOf s (40 + k.val / 2)) (40 + k.val / 2) (k.val % 2 + vc.toNat * 2) (frameStart s start) (!crcOk) bytes := by
    rw [portOf, only.ports]
    exact portOf_putPort u _ _
  refine ⟨t, run, cam.trans (lineTaken_cam _ _ _ _), only.mem.trans (lineTaken_mem s k.val crcOk (camOf s k.val)), fun hl hu => ?_, fun bad => ?_⟩
  · refine ⟨⟨(k.val % 2 + vc.toNat * 2) % 256, !crcOk, frameStart s start % 2 ^ 32, bytes⟩, ?_, rfl, rfl, ?_, rfl⟩
    · rw [port, framed_fits hl hu]
    · have := vc.isLt
      exact Nat.mod_eq_of_lt (by omega)
  · rw [port, bad]
    exact framed_err _ _ _ _ _

/-- A frame has ended: CUR, FRAMES, and source 320 + k. -/
def FrameEnded (s : State) (k : Nat) (t : State) : Prop :=
  (t.fl F.CM_INSTAT_CUR k = (if s.fl F.CM_INCFG_NBUF k ≤ s.fl F.CM_INSTAT_CUR k then 0 else s.fl F.CM_INSTAT_CUR k + 1) % 8 ∧
    t.fl F.CM_INSTAT_FRAMES k = (s.fl F.CM_INSTAT_FRAMES k + 1) % 2 ^ 32) ∧ signalled s t (320 + k)

def advanceFields : List Fld := [F.CM_INSTAT_CUR, F.CM_INSTAT_FRAMES]

/-- CUR and FRAMES as the frame's end leaves them. -/
def camCounted (s : State) (k : Nat) : State :=
  let u := s.setF F.CM_INSTAT_CUR k (if s.fl F.CM_INCFG_NBUF k ≤ s.fl F.CM_INSTAT_CUR k then 0 else s.fl F.CM_INSTAT_CUR k + 1)
  u.setF F.CM_INSTAT_FRAMES k (u.fl F.CM_INSTAT_FRAMES k + 1)

theorem camCounted_kept (s : State) (k : Nat) : FieldsKept (noteField advanceFields) s (camCounted s k) :=
  .setF (.setF (.of_flds rfl) (noteField_byId _) (f := F.CM_INSTAT_CUR) _ _ rfl) (noteField_byId _) (f := F.CM_INSTAT_FRAMES) _ _ rfl

theorem camAdvance_side (s : State) (k : Nat) : SideFrame (noteField advanceFields) s (camAdvance s k) :=
  .trans (.setF (.setF (.refl _ s) (noteField_byId _) (f := F.CM_INSTAT_CUR) _ _ rfl) (noteField_byId _) (f := F.CM_INSTAT_FRAMES) _ _
    rfl) (raiseSource_side _ (camCounted s k) _)

theorem camAdvance_ends (s : State) (k : Nat) : FrameEnded s k (camAdvance s k) := by
  have side := raiseSource_side [] (camCounted s k) (320 + k)
  refine ⟨⟨(side.fl _ _ rfl).trans ?_, (side.fl _ _ rfl).trans ?_⟩, signalled_raiseSource (camCounted_kept s k) _ rfl rfl⟩
  · exact (State.fl_setF_id _ _ _ _ (by decide)).trans (State.fl_setF_same s _ k _)
  · refine (State.fl_setF_same _ _ k _).trans ?_
    rw [State.fl_setF_id _ _ _ _ (by decide)]
    rfl

theorem cams_side {l : List Fld} (h : SideFrame (noteField l) s t) : t.cams = s.cams := by
  have e := congrArg State.cams h.rest
  exact e

theorem cameraFrameEnd_gives (on : inputOn s k.val = true) (frame : (camOf s k.val).inFrame = true) :
    Gives (.cameraFrameEnd k) s fun t => (camOf t k.val).inFrame = false ∧
      (t.fl F.CM_INSTAT_CUR k.val = (if s.fl F.CM_INCFG_NBUF k.val ≤ s.fl F.CM_INSTAT_CUR k.val then 0 else s.fl F.CM_INSTAT_CUR k.val + 1) % 8 ∧
        t.fl F.CM_INSTAT_FRAMES k.val = (s.fl F.CM_INSTAT_FRAMES k.val + 1) % 2 ^ 32) ∧ signalled s t (320 + k.val) ∧ t.mem = s.mem := by
  let u := putCam s k.val { inFrame := false, line := 0 }
  have side := camAdvance_side u k.val
  obtain ⟨advances, told⟩ := camAdvance_ends u k.val
  have cam : camOf (camAdvance u k.val) k.val = { inFrame := false, line := 0 } := by
    rw [camOf, cams_side side]
    exact camOf_putCam s k.val _
  exact gives_of (u := camAdvance u k.val) rfl (if_pos (Bool.and_eq_true_iff.mpr ⟨on, frame⟩))
    ⟨congrArg Cam.inFrame cam, advances, told, side.mem⟩

/-- The fields that a frame's start pours. -/
def framePoured : List Fld := [F.CM_INCFG_WRITE, F.CM_INCFG_TAP, F.CM_INCFG_VC, F.CM_INCFG_DT, F.CM_INCFG_NBUF, F.CM_INBUF_BASE,
  F.CM_INBUF_STRIDE, F.CM_INBUF_BUFSZ]

/-- A frame without its end is ended and counted in DROPPED. -/
def frameDropped (s : State) (k : Nat) : State :=
  if (camOf s k).inFrame then (camAdvance s k).bumpF F.CM_INSTAT_DROPPED k else s

theorem bumpF_side' (l : List Fld) (s : State) {f : Fld} (i : Nat) (hf : noteField l f = true) :
    SideFrame (noteField l) s (s.bumpF f i) := by
  unfold State.bumpF
  exact .ite (.setF (.refl _ s) (noteField_byId l) i _ hf) (.refl _ s)

theorem frameDropped_side (s : State) (k : Nat) :
    SideFrame (noteField [F.CM_INSTAT_CUR, F.CM_INSTAT_FRAMES, F.CM_INSTAT_DROPPED]) s (frameDropped s k) :=
  .ite (((camAdvance_side s k).weaken (noteField_of_subset (by simp [advanceFields]))).trans (bumpF_side' _ _ k rfl)) (.refl _ s)

theorem pourAll_sh_congr {f : Fld} {i : Nat} (hs : t.sh = s.sh) (hf : t.fl f i = s.fl f i) : t.shv f i % 2 ^ f.width = s.shv f i % 2 ^ f.width := by
  rw [shv_congr hs hf]

theorem frameDropped_sh (s : State) (k : Nat) : (frameDropped s k).sh = s.sh := by
  have bump (t : State) : (t.bumpF F.CM_INSTAT_DROPPED k).sh = t.sh := by
    unfold State.bumpF
    dsimp only
    split <;> rfl
  unfold frameDropped
  split
  · exact (bump _).trans (raiseSource_sh (camCounted s k) _)
  · rfl

theorem cameraFrameStart_gives (on : inputOn s k.val = true) : Gives (.cameraFrameStart k) s fun t =>
    camOf t k.val = { inFrame := true, line := 0 } ∧ t.mem = s.mem ∧
    (∀ f ∈ framePoured, t.fl f k.val = s.shv f k.val % 2 ^ f.width) ∧
    ((camOf s k.val).inFrame = true → (t.fl F.CM_INSTAT_CUR k.val =
        (if s.fl F.CM_INCFG_NBUF k.val ≤ s.fl F.CM_INSTAT_CUR k.val then 0 else s.fl F.CM_INSTAT_CUR k.val + 1) % 8 ∧
      t.fl F.CM_INSTAT_FRAMES k.val = (s.fl F.CM_INSTAT_FRAMES k.val + 1) % 2 ^ 32) ∧ signalled s t (320 + k.val) ∧
      (s.fl F.CM_INSTAT_DROPPED k.val < 255 → t.fl F.CM_INSTAT_DROPPED k.val = s.fl F.CM_INSTAT_DROPPED k.val + 1)) ∧
    ((camOf s k.val).inFrame = false → t.fl F.CM_INSTAT_FRAMES k.val = s.fl F.CM_INSTAT_FRAMES k.val) := by
  have side := frameDropped_side s k.val
  have sh := frameDropped_sh s k.val
  have ended (frame : (camOf s k.val).inFrame = true) : (camAdvance s k.val).bumpF F.CM_INSTAT_DROPPED k.val = frameDropped s k.val := by
    rw [frameDropped, frame]
    rfl
  have idle (frame : (camOf s k.val).inFrame = false) : frameDropped s k.val = s := by
    rw [frameDropped, frame]
    rfl
  refine gives_of (u := putCam (pourAll (frameDropped s k.val) framePoured k.val) k.val { inFrame := true, line := 0 }) rfl (if_pos on) ?_
  generalize frameDropped s k.val = d at side sh ended idle
  have only := pourAll_only d framePoured k.val
  have own (f : Fld) (hf : f ∈ framePoured) := pourAll_own (by decide) hf d k.val
  have other (g : Fld) (hg : ∀ f ∈ framePoured, f.id ≠ g.id) : (pourAll d framePoured k.val).fl g k.val = d.fl g k.val :=
    pourAll_other hg d _ _
  have pending : PendingStays d (pourAll d framePoured k.val) :=
    .of_kept (k := fun f => framePoured.any fun g => g.id == f.id) (pourAll_kept (fun g hg f hf e => by
      simp only [List.any_eq_false] at hg
      exact hg f hf (by simp [e])) d _) rfl
  generalize pourAll d framePoured k.val = p at only own other pending
  refine ⟨camOf_putCam _ _ _, only.mem.trans side.mem, fun f hf => (own f hf).trans ?_, fun frame => ⟨?_, ?_, fun few => ?_⟩, fun frame => ?_⟩
  · have apart : ∀ f ∈ framePoured, noteField [F.CM_INSTAT_CUR, F.CM_INSTAT_FRAMES, F.CM_INSTAT_DROPPED] f = false := by decide
    exact pourAll_sh_congr sh (side.fl _ _ (apart f hf))
  · obtain ⟨⟨cur, frames⟩, -⟩ := camAdvance_ends s k.val
    refine ⟨(other _ (by decide)).trans ?_, (other _ (by decide)).trans ?_⟩
    · rw [← ended frame, fl_bumpF_id (by decide)]
      exact cur
    · rw [← ended frame, fl_bumpF_id (by decide)]
      exact frames
  · obtain ⟨-, told⟩ := camAdvance_ends s k.val
    refine signalled_stays (signalled_stays told ?_) (pending.trans (.of_flds rfl))
    rw [← ended frame]
    exact (PendingStays.refl _).bumpF _ _ (by decide)
  · have same : (camAdvance s k.val).fl F.CM_INSTAT_DROPPED k.val = s.fl F.CM_INSTAT_DROPPED k.val :=
      (camAdvance_side s k.val).fl _ _ rfl
    have small : (camAdvance s k.val).fl F.CM_INSTAT_DROPPED k.val + 1 < 2 ^ F.CM_INSTAT_DROPPED.width := by
      show _ < 256
      omega
    refine (other _ (by decide)).trans ?_
    rw [← ended frame, fl_bumpF_below small, same]
  · exact (other _ (by decide)).trans (congrArg (fun t : State => t.fl F.CM_INSTAT_FRAMES k.val) (idle frame))

end

/-! #### The codec engine (22 R455 to R457) -/

section
variable {q : Requester} {v : Word} {n : Nat} {ok : Bool} {status : BitVec 32}

theorem codecTake_idle (hj : s.cams.job = none) (h : s.fl F.CM_CQTAIL_HEAD 0 % 64 ≠ s.fl F.CM_CQTAIL_TAIL 0) :
    (codecTake s).cams.job = some (s.fl F.CM_CQTAIL_HEAD 0) ∧
    (codecTake s).fl F.CM_CQTAIL_HEAD 0 = (s.fl F.CM_CQTAIL_HEAD 0 + 1) % 64 := by
  have run : codecTake s = { s.setF F.CM_CQTAIL_HEAD 0 ((s.fl F.CM_CQTAIL_HEAD 0 + 1) % 64) with
      cams := { inputs := s.cams.inputs, job := some (s.fl F.CM_CQTAIL_HEAD 0) } } := if_neg (by simp [hj, h])
  rw [run]
  exact ⟨rfl, (State.fl_setF_same s F.CM_CQTAIL_HEAD 0 _).trans (Nat.mod_mod _ _)⟩

theorem codecTake_none (h : s.cams.job ≠ none ∨ s.fl F.CM_CQTAIL_HEAD 0 % 64 = s.fl F.CM_CQTAIL_TAIL 0) : codecTake s = s := by
  refine if_pos ?_
  rcases h with h | h
  · simp [Option.isSome_iff_ne_none.mpr h]
  · simp [h]

theorem codecTake_kept (s : State) : FieldsKept (fun f => f.id == F.CM_CQTAIL_HEAD.id) s (codecTake s) ∧ (codecTake s).mem = s.mem := by
  have byId : ById fun f => f.id == F.CM_CQTAIL_HEAD.id := fun f g h => by simp only [h]
  unfold codecTake
  dsimp only
  split
  · exact ⟨.of_flds rfl, rfl⟩
  · exact ⟨.trans (.setF (.of_flds rfl) byId (f := F.CM_CQTAIL_HEAD) 0 _ rfl) (.of_flds rfl), rfl⟩

theorem cmCqtailWrite_gives (ho : openAt s 0xE03200008) (hr : isRing0 s q = true) : Gives (.cmCqtailWrite q v) s fun t =>
    let head := s.fl F.CM_CQTAIL_HEAD 0 % 64
    let tail := bitsOf v F.CM_CQTAIL_TAIL
    t.fl F.CM_CQTAIL_TAIL 0 = tail ∧
      (s.cams.job = none → head ≠ tail → t.cams.job = some (s.fl F.CM_CQTAIL_HEAD 0) ∧ t.fl F.CM_CQTAIL_HEAD 0 = (head + 1) % 64) ∧
      (s.cams.job ≠ none ∨ head = tail → t.cams.job = s.cams.job ∧ t.fl F.CM_CQTAIL_HEAD 0 = s.fl F.CM_CQTAIL_HEAD 0) := by
  obtain ⟨t, power, run⟩ := rowWrite_open (target_reg s (0xE03000000, 0xE032FFFFF) (by decide) ⟨by decide, by decide⟩) ho q v cqtailWrite
  have tail : (putField t (.full q 0xE03200008 v) F.CM_CQTAIL_TAIL 0 0).fl F.CM_CQTAIL_TAIL 0 = bitsOf v F.CM_CQTAIL_TAIL :=
    putField_replaces (unit := 0) (by decide)
  have head : (putField t (.full q 0xE03200008 v) F.CM_CQTAIL_TAIL 0 0).fl F.CM_CQTAIL_HEAD 0 = s.fl F.CM_CQTAIL_HEAD 0 :=
    (putField_other t _ _ 0 0 (by decide) 0).trans (power.fl _ _)
  have cams : (putField t (.full q 0xE03200008 v) F.CM_CQTAIL_TAIL 0 0).cams = s.cams := by
    have e := congrArg State.cams (putField_only t (.full q 0xE03200008 v) F.CM_CQTAIL_TAIL 0 0)
    have e' := congrArg State.cams power
    exact e.trans e'
  refine gives_of run (atRing0_of ((isRing0_congr power.cpus q).trans hr) _) ?_
  generalize putField t (.full q 0xE03200008 v) F.CM_CQTAIL_TAIL 0 0 = u at tail head cams
  refine ⟨((codecTake_kept u).1 _ _ (by decide)).trans tail, fun idle more => ?_, fun none => ?_⟩
  · obtain ⟨job, next⟩ := codecTake_idle (s := u) (by rw [cams, idle]) (by rw [head, tail]; exact more)
    exact ⟨job.trans (congrArg some head), next.trans (by rw [head, Nat.mod_add_mod])⟩
  · rw [codecTake_none (none.imp (by rw [cams]; exact id) (by rw [head, tail]; exact id)), cams, head]
    exact ⟨rfl, rfl⟩

/-- A job that runs, with all its memory on, acts. -/
theorem onJob_acts (hj : s.cams.job = some n) (hm : mustWait s (jobAt s n) 32 = false)
    (hw : codecWaits (dmaRead s 5 none (jobAt s n) 32).2 (dmaRead s 5 none (jobAt s n) 32).1 = false)
    (f : Nat → List Byte → State → State) :
    onJob s f = f (jobAt s n) (dmaRead s 5 none (jobAt s n) 32).1 (dmaRead s 5 none (jobAt s n) 32).2 := by
  rw [onJob, hj]
  dsimp only
  rw [hm, if_neg (by decide), hw, if_neg (by decide)]

/-- The engine's place in its output ring after some data. -/
def ringMoved (s : State) (job : List Byte) (n : Nat) : Cams :=
  { s.cams with out := if (jobOutput job).2 = 0 then 0 else (s.cams.out + n) % (jobOutput job).2 }

/-- The engine's data moves its place in the ring, and does what requests to memory do. -/
theorem codecData_moves (s : State) (job : List Byte) : FieldsKept memField s (codecData s job) ∧
    ∃ n, (codecData s job).cams = ringMoved s job n := by
  have taken : MemFrame s { s with free := s.free + 1 + 1 + 1 } := ⟨rfl, fun _ _ _ => rfl, fun _ h => h, fun _ _ h => h⟩
  unfold codecData ringWrite
  dsimp only [State.takeFree]
  generalize Config.freeNat (s.free + 1 + 1) % _ = n
  have moved := ((taken.dmaRead 5 none (jobInput { s with free := s.free + 1 + 1 + 1 } job).1
    (Config.freeNat s.free % ((jobInput { s with free := s.free + 1 + 1 + 1 } job).2 + 1))).dmaWrite 5 none
    ((jobOutput job).1 + s.cams.out) ((natBytes (Config.freeNat (s.free + 1)) n).take
      (min (natBytes (Config.freeNat (s.free + 1)) n).length ((jobOutput job).2 - s.cams.out)))).dmaWrite 5 none (jobOutput job).1
    ((natBytes (Config.freeNat (s.free + 1)) n).drop
      (min (natBytes (Config.freeNat (s.free + 1)) n).length ((jobOutput job).2 - s.cams.out)))
  exact ⟨moved.fl, n, by rw [moved.cams]; rfl⟩

/-- The data of a job that is not LOWLAT. -/
def codecDone (s : State) (job : List Byte) : State := if jobLowlat job then s else codecData s job

theorem codecDone_kept (s : State) (job : List Byte) : FieldsKept memField s (codecDone s job) := by
  unfold codecDone
  split
  · exact .of_flds rfl
  · exact (codecData_moves s job).1

/-- A job's status written, and what is told. -/
def codecTold (s : State) (off : Nat) (ok : Bool) (status : BitVec 32) : State :=
  let u := dmaWrite s 5 none (off + 28) (natBytes status.toNat 4)
  raiseSource { u with cams := { u.cams with job := none } } (if ok then 352 else 354)

theorem codecTold_side (s : State) (off : Nat) (ok : Bool) (status : BitVec 32) :
    (codecTold s off ok status).mem = (dmaWrite s 5 none (off + 28) (natBytes status.toNat 4)).mem ∧
    FieldsKept memField s (codecTold s off ok status) ∧ (codecTold s off ok status).cams.job = none ∧
    signalled s (codecTold s off ok status) (if ok then 352 else 354) := by
  have frame := (MemFrame.refl s).dmaWrite 5 none (off + 28) (natBytes status.toNat 4)
  unfold codecTold
  generalize dmaWrite s 5 none (off + 28) (natBytes status.toNat 4) = u at frame
  let y : State := { u with cams := { u.cams with job := none } }
  have same : FieldsKept memField s y := frame.fl.trans (.of_flds rfl)
  have told := raiseSource_frame y (if ok then 352 else 354)
  have cams : (raiseSource y (if ok then 352 else 354)).cams = y.cams := by
    have e := congrArg State.cams told.rest
    exact e
  exact ⟨told.mem, same.trans fun f i hf => told.fl f i (icField_of_memField f hf), congrArg Cams.job cams, signalled_raiseSource same _ rfl rfl⟩

section
variable (hj : s.cams.job = some n) (hm : mustWait s (jobAt s n) 32 = false)
  (hw : codecWaits (dmaRead s 5 none (jobAt s n) 32).2 (dmaRead s 5 none (jobAt s n) 32).1 = false)
include hj hm hw

theorem codecJobComplete_gives
    (fin : ok = false ∨ jobLowlat (dmaRead s 5 none (jobAt s n) 32).1 = false ∨
      jobSlices (dmaRead s 5 none (jobAt s n) 32).1 ≤ s.cams.slices) : Gives (.codecJobComplete ok status) s fun t =>
      let read := dmaRead s 5 none (jobAt s n) 32
      let done := if jobLowlat read.1 = true then read.2 else codecData read.2 read.1
      t.mem = (dmaWrite done 5 none (jobAt s n + 28) (natBytes status.toNat 4)).mem ∧
      signalled s t (if ok then 352 else 354) ∧
      t.cams.job = (if s.fl F.CM_CQTAIL_HEAD 0 % 64 = s.fl F.CM_CQTAIL_TAIL 0 then none else some (s.fl F.CM_CQTAIL_HEAD 0)) := by
  have frame := (MemFrame.refl s).dmaRead 5 none (jobAt s n) 32
  have acts := onJob_acts hj hm hw fun off job s =>
    if ok && jobLowlat job && s.cams.slices < jobSlices job then s
    else codecTake (codecTold (codecDone s job) off ok status)
  have run : exec (.codecJobComplete ok status) s = .next (onJob s fun off job s =>
    if ok && jobLowlat job && s.cams.slices < jobSlices job then s
    else codecTake (codecTold (codecDone s job) off ok status)) := rfl
  rw [acts] at run
  dsimp only
  generalize dmaRead s 5 none (jobAt s n) 32 = read at frame run fin ⊢
  have whole : ¬ (ok && jobLowlat read.1 && decide (read.2.cams.slices < jobSlices read.1)) = true := by
    rw [frame.cams]
    simp only [Bool.and_eq_true, decide_eq_true_eq]
    rintro ⟨⟨hok, low⟩, few⟩
    rcases fin with h | h | h
    · rw [h] at hok
      cases hok
    · rw [h] at low
      cases low
    · omega
  rw [if_neg whole] at run
  obtain ⟨mem, kept, job, told⟩ := codecTold_side (codecDone read.2 read.1) (jobAt s n) ok status
  have before : FieldsKept memField s (codecDone read.2 read.1) := frame.fl.trans (codecDone_kept _ _)
  have same := before.trans kept
  obtain ⟨took, tookMem⟩ := codecTake_kept (codecTold (codecDone read.2 read.1) (jobAt s n) ok status)
  refine ⟨_, run, tookMem.trans mem, ?_, ?_⟩
  · exact signalled_stays (signalled_since before rfl rfl told) (.of_kept took rfl)
  · split
    · rename_i none
      rw [codecTake_none (.inr (by rw [same _ _ rfl, same _ _ rfl]; exact none)), job]
    · rename_i more
      rw [(codecTake_idle job (by rw [same _ _ rfl, same _ _ rfl]; exact more)).1, same _ _ rfl]

theorem codecSliceReady_gives : Gives .codecSliceReady s fun t =>
    let read := dmaRead s 5 none (jobAt s n) 32
    let slice := jobLowlat read.1 = true ∧ s.cams.slices < jobSlices read.1 ∧ sliceStored read.2 read.1 = true
    t.cams.job = s.cams.job ∧
      (slice → t.mem = (codecData read.2 read.1).mem ∧ t.cams.slices = s.cams.slices + 1 ∧ signalled s t 353) ∧ (¬ slice → t = read.2) := by
  have frame := (MemFrame.refl s).dmaRead 5 none (jobAt s n) 32
  have acts := onJob_acts hj hm hw fun _ job s =>
    if jobLowlat job && s.cams.slices < jobSlices job && sliceStored s job then
      let source := jobSource s job
      let s := codecData s job
      raiseSource { s with cams := { s.cams with slices := s.cams.slices + 1, source := some source } } 353
    else s
  have run : exec .codecSliceReady s = .next (onJob s fun _ job s =>
    if jobLowlat job && s.cams.slices < jobSlices job && sliceStored s job then
      let source := jobSource s job
      let s := codecData s job
      raiseSource { s with cams := { s.cams with slices := s.cams.slices + 1, source := some source } } 353
    else s) := rfl
  rw [acts] at run
  dsimp only at run ⊢
  generalize dmaRead s 5 none (jobAt s n) 32 = read at frame run ⊢
  have ready : (jobLowlat read.1 && decide (read.2.cams.slices < jobSlices read.1) && sliceStored read.2 read.1) = true ↔
      jobLowlat read.1 = true ∧ s.cams.slices < jobSlices read.1 ∧ sliceStored read.2 read.1 = true := by
    rw [frame.cams]
    simp [and_assoc]
  by_cases h : jobLowlat read.1 = true ∧ s.cams.slices < jobSlices read.1 ∧ sliceStored read.2 read.1 = true
  · rw [if_pos (ready.mpr h)] at run
    obtain ⟨kept, out, moved⟩ := codecData_moves read.2 read.1
    generalize codecData read.2 read.1 = d at run kept moved ⊢
    let y : State := { d with cams := { d.cams with slices := d.cams.slices + 1, source := some (jobSource read.2 read.1) } }
    have told := raiseSource_frame y 353
    have cams : (raiseSource y 353).cams = y.cams := by
      have e := congrArg State.cams told.rest
      exact e
    have job : y.cams.job = s.cams.job := by
      show d.cams.job = _
      rw [moved, ringMoved, frame.cams]
    have slices : y.cams.slices = s.cams.slices + 1 := by
      show d.cams.slices + 1 = _
      rw [moved, ringMoved, frame.cams]
    have same : FieldsKept memField s y := (frame.fl.trans kept).trans (.of_flds rfl)
    exact ⟨_, run, (congrArg Cams.job cams).trans job, fun _ => ⟨told.mem, (congrArg Cams.slices cams).trans slices,
      signalled_raiseSource same _ rfl rfl⟩, fun no => absurd h no⟩
  · rw [if_neg (mt ready.mp h)] at run
    exact ⟨_, run, congrArg Cams.job frame.cams, fun yes => absurd yes h, fun _ => rfl⟩

end

end

/-! #### Inbound PCIe requests (22 R464) -/

/-- Settles O50: a line's write and its tap, the end of a frame, the codec engine's ring (`onJob_acts`), and inbound requests. -/
theorem camerasAndEngines : Obligations.CamerasAndEngines := by
  intro s q v k start vc dt headerOk crcOk isWrite ok bytes n status link addr
  intro i cam on wanted line off cur next advances tail head write tap job jobOff read finished done slice served
  refine ⟨csiLine_stored, csiLine_tapped, fun h => ?_, ⟨s, csiPacket_unwanted (.inr (.inr rfl)), rfl⟩, cameraFrameStart_gives,
    cameraFrameEnd_gives, cmCqtailWrite_gives, codecJobComplete_gives, codecSliceReady_gives, fun h hm => ⟨fun hl => ?_, fun hl => ?_⟩,
    fun h => ?_⟩
  · exact ⟨s, csiPacket_unwanted (h.imp id .inl), rfl⟩
  · obtain ⟨ready, low, ram⟩ := h
    refine ⟨_, rfl, ?_⟩
    rw [if_pos (by simp only [ready, ram, low, hl, decide_true, Bool.and_self, if_true]), if_neg (by rw [hm]; decide)]
    rfl
  · obtain ⟨ready, low, ram⟩ := h
    refine ⟨_, rfl, ?_⟩
    rw [if_pos (by simp only [ready, ram, low, hl, decide_true, Bool.and_self, Bool.false_eq_true, if_false]), if_neg (by rw [hm]; decide)]
    rfl
  · refine ⟨_, rfl, if_neg ?_⟩
    intro all
    simp only [Bool.and_eq_true, decide_eq_true_eq] at all
    obtain ⟨⟨⟨ready, len⟩, low⟩, ram⟩ := all
    rcases h with h | h
    · exact h ⟨ready, low, ram⟩
    · omega

end Sys2Proof.Machine
end

section
/-! ### The mirrored stream (15 R319 to R328, R334, R340) -/

namespace Sys2Proof.Machine
section
variable {s t u : State}

/-! #### What asks for a domain changes only what waits for it -/

theorem OnlyPower.trans (h : OnlyPower s t) (h' : OnlyPower t u) : OnlyPower s u := by
  have e := congrArg (fun x : State => { x with pwr := s.pwr }) h'
  exact Eq.trans e h

theorem OnlyPower.mir (h : OnlyPower s t) : t.mir = s.mir := by
  have e := congrArg State.mir h
  exact e

theorem gateUnit_power (s : State) (n : Nat) : OnlyPower s (gateUnit s n).state := by
  unfold gateUnit
  split
  · rfl
  · split
    · rfl
    · rfl

theorem gateDom_power (s : State) (d : Nat) : OnlyPower s (gateDom s d).state := by
  unfold gateDom
  dsimp only
  split
  · rfl
  · split
    · rfl
    · rfl

theorem gate_power (s : State) (n d : Option Nat) : OnlyPower s (gate s n d).state := by
  have unit (t : State) : OnlyPower t (match n with | none => Res.ok () t | some n => gateUnit t n).state := by
    cases n with
    | none => rfl
    | some n => exact gateUnit_power t n
  cases d with
  | none => exact unit s
  | some d =>
    have asked := gateDom_power s d
    unfold gate
    dsimp only
    cases e : gateDom s d with
    | ok _ t => rw [e] at asked; exact asked.trans (unit t)
    | fail _ t => rwa [e] at asked
    | stall t => rwa [e] at asked

theorem gateOff_power (s : State) (off : Nat) : OnlyPower s (gateOff s off).state := by
  unfold gateOff
  split
  · split
    · rfl
    · exact gate_power ..
  · split
    · rfl
    · exact gateUnit_power ..
  · split
    · rfl
    · rfl
  · split
    · rfl
    · exact gate_power ..
  · rfl

theorem sliceGate_power (s : State) (line : Nat) : OnlyPower s (sliceGate s line).state := by
  unfold sliceGate
  split
  · exact gate_power ..
  · rfl

theorem dmaGate_power (s : State) (off : Nat) : OnlyPower s (dmaGate s off).state := by
  have gated := gateOff_power s off
  unfold dmaGate
  cases e : gateOff s off with
  | ok _ t => rw [e] at gated; exact gated.trans (sliceGate_power t _)
  | fail _ t => rwa [e] at gated
  | stall t => rwa [e] at gated

theorem foldl_power {α : Type} {step : State → α → State} (hs : ∀ t a, OnlyPower t (step t a)) :
    ∀ (l : List α) (t : State), OnlyPower t (l.foldl step t)
  | [], _ => rfl
  | a :: l, t => (hs t a).trans (foldl_power hs l (step t a))

theorem askWake_power (s : State) (off len : Nat) : OnlyPower s (askWake s off len) := by
  refine foldl_power (fun t e => ?_) _ s
  have gated := dmaGate_power t e.1
  cases h : dmaGate t e.1 with
  | ok _ u => rwa [h] at gated
  | fail _ u => rwa [h] at gated
  | stall u => rwa [h] at gated

/-! #### Packets of the stream -/

/-- A packet of the stream waits at the mirror ports, with the SUB `sub` and for the partner of `s`. -/
def sendsTo (s t : State) (sub : Nat) : Prop :=
  ∃ x ∈ outQ t 40, x.k.cmd = 11 ∧ x.k.sub.toNat = sub ∧ x.k.dst.toNat = s.fl F.MR_CFG_PARTNER 0 % 2 ^ 18

theorem outQ_sendMirror (s : State) (sub : Nat) (p : List Byte) :
    outQ (sendMirror s sub p) 40 = outQ s 40 ++ [⟨mirrorPacket s sub p, 0, fabNow s, false, none⟩] :=
  mget_mset_same _ _ _ _

theorem sendMirror_sends {sub : Nat} (h : sub < 16) (p : List Byte) (partner : t.fl F.MR_CFG_PARTNER 0 = s.fl F.MR_CFG_PARTNER 0) :
    sendsTo s (sendMirror t sub p) sub := by
  refine ⟨_, by rw [outQ_sendMirror]; exact List.mem_append_right _ (List.mem_singleton_self _), rfl, ?_, ?_⟩
  · show (BitVec.ofNat 4 sub).toNat = sub
    rw [BitVec.toNat_ofNat, Nat.mod_eq_of_lt h]
  · show (BitVec.ofNat 18 (t.fl F.MR_CFG_PARTNER 0)).toNat = _
    rw [BitVec.toNat_ofNat, partner]

theorem sendsTo.router {sub : Nat} (h : sendsTo s t sub) (e : u.router = t.router) : sendsTo s u sub := by
  rw [sendsTo, outQ_congr e]
  exact h

theorem sendsTo.sendMirror {sub : Nat} (h : sendsTo s t sub) (sub' : Nat) (p : List Byte) : sendsTo s (sendMirror t sub' p) sub := by
  obtain ⟨x, mem, rest⟩ := h
  exact ⟨x, by rw [outQ_sendMirror]; exact List.mem_append_left _ mem, rest⟩

theorem mrEvent_router (s : State) (src code cls : Nat) : (mrEvent s src code cls).router = s.router := by
  unfold mrEvent dregsFree
  simp [State.takeFree]

theorem bumpF_mirror (s : State) (f : Fld) (i : Nat) : (s.bumpF f i).mir = s.mir ∧ (s.bumpF f i).router = s.router := by
  unfold State.bumpF
  dsimp only
  split <;> exact ⟨rfl, rfl⟩

/-! #### Roles -/

/-- `t` is `s` but for the unit's own state, fields of a list, records, links and the router. -/
structure MirSide (l : List Fld) (s t : State) : Prop where
  rest : { t with flds := s.flds, sh := s.sh, icCommit := s.icCommit, icPulse := s.icPulse, dregs := s.dregs, dram := s.dram,
                  links := s.links, router := s.router, free := s.free, mir := s.mir } = s
  fl : FieldsKept (noteField l) s t

namespace MirSide
variable {l : List Fld}

theorem refl (l : List Fld) (s : State) : MirSide l s s := ⟨rfl, fun _ _ _ => rfl⟩

theorem trans (h : MirSide l s t) (h' : MirSide l t u) : MirSide l s u :=
  ⟨by have h1 := h.rest; rw [← h'.rest] at h1; exact h1, h.fl.trans h'.fl⟩

theorem of_side (h : SideFrame (noteField l) s t) : MirSide l s t :=
  ⟨congrArg (fun x : State => { x with mir := s.mir }) h.rest, h.fl⟩

theorem widen {l' : List Fld} (h : MirSide l s t) (hl : l ⊆ l') : MirSide l' s t :=
  ⟨h.rest, h.fl.weaken (noteField_of_subset hl)⟩

theorem setF (h : MirSide l s t) {f : Fld} (i v : Nat) (hf : noteField l f = true) : MirSide l s (t.setF f i v) :=
  ⟨h.rest, h.fl.setF (noteField_byId l) i v hf⟩

theorem setB (h : MirSide l s t) {f : Fld} (i : Nat) (b : Bool) (hf : noteField l f = true) : MirSide l s (t.setB f i b) :=
  h.setF i _ hf

theorem onMir (h : MirSide l s t) (f : Mirror → Mirror) : MirSide l s (onMir t f) := ⟨h.rest, h.fl⟩

theorem event (h : MirSide l s t) (src code cls : Nat) : MirSide l s (mrEvent t src code cls) :=
  h.trans (.of_side ((mrEvent_side t src code cls).weaken (noteField_of_subset (List.nil_subset l))))

theorem sendMirror (h : MirSide l s t) (sub : Nat) (p : List Byte) : MirSide l s (sendMirror t sub p) := ⟨h.rest, h.fl⟩

theorem ite {c : Prop} [Decidable c] (ht : MirSide l s t) (hu : MirSide l s u) : MirSide l s (if c then t else u) := by
  split
  · exact ht
  · exact hu

theorem mem (h : MirSide l s t) : t.mem = s.mem := by
  have e := congrArg State.mem h.rest
  exact e

theorem cpus (h : MirSide l s t) : t.cpus = s.cpus := by
  have e := congrArg State.cpus h.rest
  exact e

/-- What is signalled while the registers of the sources are still those of `s`. -/
theorem signalled (h : MirSide l s t) (src code cls : Nat) (he : noteField l F.IC_SRC_EDGE = false)
    (hp : noteField l F.IC_SRC_PRIO = false) : signalled s (mrEvent t src code cls) src :=
  signalled_stays (signalled_raiseSource h.fl src he hp) (dregsFree_pendingStays _ _ _ _)

end MirSide

/-- The fields of a role change. -/
def roleFields : List Fld := [F.MR_STAT_ROLE, F.MR_STAT_ALONE, F.MR_STAT_ISOLATED, F.MR_STAT_PENDING]

theorem roleTo_side (s : State) (r : Nat) : MirSide roleFields s (roleTo s r) := by
  unfold roleTo
  split
  · exact .refl _ s
  · exact .onMir (.setF (.onMir (.setB (.setB (.setF (.refl _ s) 0 r rfl) 0 false rfl) 0 false rfl) _) 0 _ rfl) _

theorem mrRole_shown (s : State) : mrRole (kettleCopy (showPending s)) = mrRole s :=
  State.fl_setF_id s _ _ _ (f := F.MR_STAT_PENDING) (by decide)

theorem mrRole_roleTo {r : Nat} (s : State) (h : r < 8) : mrRole (roleTo s r) = r := by
  unfold roleTo
  split
  · assumption
  · have e := mrRole_shown (onMir (((s.setF F.MR_STAT_ROLE 0 r).setB F.MR_STAT_ALONE 0 false).setB F.MR_STAT_ISOLATED 0 false) fun m =>
      { m with fresh := [], frozen := [], sent := 0, closing := none, toTake := 0, handover := 0 })
    refine Eq.trans e ?_
    show (((s.setF F.MR_STAT_ROLE 0 r).setB F.MR_STAT_ALONE 0 false).setB F.MR_STAT_ISOLATED 0 false).fl F.MR_STAT_ROLE 0 = r
    rw [State.setB, State.fl_setF_id _ _ _ _ (by decide), State.setB, State.fl_setF_id _ _ _ _ (by decide), State.fl_setF_same]
    exact Nat.mod_eq_of_lt h

/-- What a role change resets of the unit's state, and what the Kettle copies, apart. -/
def apartRole (m : Mirror) : Mirror :=
  { m with fresh := [], frozen := [], sent := 0, closing := none, toTake := 0, handover := 0, kRole := 0, kGen := 0 }

theorem roleTo_mir (s : State) (r : Nat) : apartRole (roleTo s r).mir = apartRole s.mir := by
  unfold roleTo
  split <;> rfl

theorem roleTo_router (s : State) (r : Nat) : (roleTo s r).router = s.router := by
  unfold roleTo
  split <;> rfl

/-- The fields of a fall to STALE. -/
def staleFields : List Fld := roleFields ++ [F.MR_STAT_COPYING, F.MR_JFILL_RECORDS]

theorem copyStop_side (s : State) : MirSide [F.MR_STAT_COPYING] s (copyStop s) := .onMir (.setB (.refl _ s) 0 false rfl) _

theorem mrRole_copyStop (s : State) : mrRole (copyStop s) = mrRole s := (copyStop_side s).fl F.MR_STAT_ROLE 0 rfl

theorem copyStop_stops (s : State) : (copyStop s).fb F.MR_STAT_COPYING 0 = false :=
  State.fb_setB_same s F.MR_STAT_COPYING 0 false (by decide)

/-- The role of a device that falls to STALE, its journal and its copy, before the record. -/
def fallen (s : State) : State := (roleTo (copyStop s) rStale).setF F.MR_JFILL_RECORDS 0 0

theorem fallStale_eq (s : State) :
    fallStale s = if mrRole s = rInSync ∨ mrRole s = rStandby then mrEvent (fallen s) 203 0x405 clsError else fallen s := rfl

theorem fallen_side (s : State) : MirSide staleFields s (fallen s) :=
  .setF (.trans ((copyStop_side s).widen (by simp [staleFields])) ((roleTo_side _ _).widen (by simp [staleFields]))) 0 0 rfl

theorem mrRole_fallen (s : State) : mrRole (fallen s) = 0 :=
  (State.fl_setF_id _ _ _ _ (f := F.MR_JFILL_RECORDS) (by decide)).trans (mrRole_roleTo _ (by decide))

theorem fallStale_side (s : State) : MirSide staleFields s (fallStale s) := by
  rw [fallStale_eq]
  exact .ite ((fallen_side s).event ..) (fallen_side s)

theorem fallStale_after (s : State) : MirSide [] (fallen s) (fallStale s) := by
  rw [fallStale_eq]
  exact .ite (.event (.refl _ _) ..) (.refl _ _)

theorem mrRole_fallStale (s : State) : mrRole (fallStale s) = 0 :=
  ((fallStale_after s).fl F.MR_STAT_ROLE 0 rfl).trans (mrRole_fallen s)

theorem fallStale_journal (s : State) : (fallStale s).fl F.MR_JFILL_RECORDS 0 = 0 :=
  ((fallStale_after s).fl F.MR_JFILL_RECORDS 0 rfl).trans (State.fl_setF_same ..)

theorem fallStale_copying (s : State) : (fallStale s).fb F.MR_STAT_COPYING 0 = false := by
  have ended : (fallen s).fl F.MR_STAT_COPYING 0 = (copyStop s).fl F.MR_STAT_COPYING 0 :=
    (State.fl_setF_id _ _ _ _ (f := F.MR_JFILL_RECORDS) (by decide)).trans ((roleTo_side _ _).fl F.MR_STAT_COPYING 0 rfl)
  rw [State.fb, (fallStale_after s).fl F.MR_STAT_COPYING 0 rfl, ended]
  exact copyStop_stops s

theorem mrEvent_mir (s : State) (src code cls : Nat) : (mrEvent s src code cls).mir = s.mir := by
  unfold mrEvent dregsFree
  simp [State.takeFree]

theorem fallStale_mir (s : State) :
    apartRole (fallStale s).mir = apartRole { s.mir with copyNext := none, copyLast := false } := by
  have e := roleTo_mir (copyStop s) rStale
  rw [fallStale_eq]
  split
  · rw [mrEvent_mir]
    exact e
  · exact e

theorem fallStale_signals {s : State} (h : mrRole s = 1 ∨ mrRole s = 2) : signalled s (fallStale s) 203 := by
  rw [fallStale_eq, if_pos (show mrRole s = rInSync ∨ mrRole s = rStandby from h.symm)]
  exact (fallen_side s).signalled _ _ _ rfl rfl

theorem roleInfo_side (s : State) (r : Nat) : MirSide roleFields s (roleInfo s r) := (roleTo_side s r).event ..

theorem mrRole_event (s : State) (src code cls : Nat) : mrRole (mrEvent s src code cls) = mrRole s :=
  (mrEvent_side s src code cls).fl F.MR_STAT_ROLE 0 rfl

theorem mrRole_roleInfo {r : Nat} (s : State) (h : r < 8) : mrRole (roleInfo s r) = r :=
  (mrRole_event _ 200 0x400 clsInfo).trans (mrRole_roleTo s h)

theorem roleInfo_mir (s : State) (r : Nat) : apartRole (roleInfo s r).mir = apartRole s.mir :=
  (congrArg apartRole (mrEvent_mir ..)).trans (roleTo_mir s r)

theorem roleInfo_router (s : State) (r : Nat) : (roleInfo s r).router = s.router :=
  (mrEvent_router ..).trans (roleTo_router s r)

/-! #### Lines sent (15 R321, R323, R324) -/

/-- The unit and its registers are those of `s`, after requests to memory and packets sent. -/
structure Streamed (s t : State) : Prop where
  mir : t.mir = s.mir
  fl : FieldsKept memField s t

namespace Streamed

theorem refl (s : State) : Streamed s s := ⟨rfl, fun _ _ _ => rfl⟩

theorem of_mem (h : Streamed s t) (h' : MemFrame t u) : Streamed s u := ⟨h'.mir.trans h.mir, h.fl.trans h'.fl⟩

theorem record (h : Streamed s t) (line : Nat) : Streamed s (mirrorRecord t line).2 := h.of_mem ((MemFrame.refl t).dmaRead ..)

theorem sendMirror (h : Streamed s t) (sub : Nat) (p : List Byte) : Streamed s (sendMirror t sub p) := ⟨h.mir, h.fl⟩

theorem partner (h : Streamed s t) : t.fl F.MR_CFG_PARTNER 0 = s.fl F.MR_CFG_PARTNER 0 := h.fl _ _ rfl

end Streamed

theorem sendLine_sends (line : Nat) (partner : t.fl F.MR_CFG_PARTNER 0 = s.fl F.MR_CFG_PARTNER 0) :
    (sendLine t line).mir = { t.mir with sent := t.mir.sent + 1 } ∧ sendsTo s (sendLine t line) 0 := by
  have read := (Streamed.refl t).record line
  refine ⟨?_, ?_⟩
  · have e : (sendLine t line).mir = { (mirrorRecord t line).2.mir with sent := (mirrorRecord t line).2.mir.sent + 1 } := rfl
    rw [e, read.mir]
  · have sent := sendMirror_sends (s := s) (t := (mirrorRecord t line).2) (sub := 0) (by decide) (mirrorRecord t line).1
      (read.partner.trans partner)
    exact sent.router rfl

theorem primary_streams (on : mrOn s = true) (role : mrRole s = 3) : ¬ ((!mrOn s || mrRole s != rPrimary) = true) := by
  simp [on, role, rPrimary]

theorem mirrorLineRead_frozen {l : Nat} {rest : List Nat} (on : mrOn s = true) (role : mrRole s = 3) (frozen : s.mir.frozen = l :: rest)
    (ready : mustWait s (l * 64) 64 = false) :
    exec .mirrorLineRead s = .next (sendLine (onMir s fun m => { m with frozen := rest }) l) := by
  refine congrArg Host.Outcome.next ?_
  rw [if_neg (primary_streams on role), frozen]
  exact if_neg (by rw [ready]; decide)

theorem mirrorLineRead_fresh {l : Nat} {rest : List Nat} (on : mrOn s = true) (role : mrRole s = 3) (frozen : s.mir.frozen = [])
    (closing : s.mir.closing = none) (fresh : s.mir.fresh = l :: rest) (ready : mustWait s (l * 64) 64 = false) :
    exec .mirrorLineRead s = .next (sendLine (onMir s fun m => { m with fresh := rest }) l) := by
  refine congrArg Host.Outcome.next ?_
  rw [if_neg (primary_streams on role), frozen]
  dsimp only
  rw [if_neg (by rw [closing]; decide), fresh]
  exact if_neg (by rw [ready]; decide)

/-! #### The configuration error makes no gate -/

/-- The configuration error is shown. -/
def flagged (s : State) : State := s.setB F.MR_STAT_CFGERR 0 true

/-- An outcome with its state changed. -/
def onRes (f : State → State) : Res Unit → Res Unit
  | .ok _ s => .ok () (f s)
  | .fail e s => .fail e (f s)
  | .stall s => .stall (f s)

theorem fl_flagged (s : State) (f : Fld) (i : Nat) (h : F.MR_STAT_CFGERR.id ≠ f.id) : (flagged s).fl f i = s.fl f i :=
  State.fl_setF_id _ _ _ _ h

theorem fb_flagged (s : State) (f : Fld) (i : Nat) (h : F.MR_STAT_CFGERR.id ≠ f.id) : (flagged s).fb f i = s.fb f i :=
  State.fb_setB_id _ _ _ _ h

theorem gateUnit_flagged (s : State) (n : Nat) : gateUnit (flagged s) n = onRes flagged (gateUnit s n) := by
  have ready : (flagged s).ready n = s.ready n := ready_congr (fun i => fl_flagged s _ i (by decide)) n
  have timed : (flagged s).pwr = s.pwr := rfl
  unfold gateUnit
  rw [ready, timed]
  split
  · rfl
  · split
    · rfl
    · rfl

theorem gateDom_flagged (s : State) (d : Nat) : gateDom (flagged s) d = onRes flagged (gateDom s d) := by
  have dom : (flagged s).dom d = s.dom d := fl_flagged s F.PW_DOM_STATE d (by decide)
  by_cases on : s.dom d = 0
  · have here : gateDom s d = _ := if_pos on
    rw [here]
    exact if_pos (dom.trans on)
  have away : ¬ (flagged s).dom d = 0 := by rwa [dom]
  by_cases failed : mget false s.pwr.wakeFailed d = true
  · have here : gateDom s d = _ := (if_neg on).trans (if_pos failed)
    rw [here]
    exact (if_neg away).trans (if_pos failed)
  · have here : gateDom s d = _ := (if_neg on).trans (if_neg failed)
    rw [here]
    exact (if_neg away).trans (if_neg failed)

theorem gate_flagged (s : State) (n d : Option Nat) : gate (flagged s) n d = onRes flagged (gate s n d) := by
  have unit (t : State) : (match n with | none => Res.ok () (flagged t) | some n => gateUnit (flagged t) n)
      = onRes flagged (match n with | none => Res.ok () t | some n => gateUnit t n) := by
    cases n with
    | none => rfl
    | some n => exact gateUnit_flagged t n
  cases d with
  | none => exact unit s
  | some d =>
    unfold gate
    dsimp only
    rw [gateDom_flagged]
    cases gateDom s d with
    | ok _ t => exact unit t
    | fail _ t => rfl
    | stall t => rfl

theorem gateOff_flagged (s : State) (off : Nat) : gateOff (flagged s) off = onRes flagged (gateOff s off) := by
  have place : target (flagged s) off = target s off := rfl
  have sclk : sclkStopped (flagged s) = sclkStopped s := rfl
  have dclk : dclkStopped (flagged s) = dclkStopped s := rfl
  unfold gateOff
  rw [place, sclk, dclk]
  split
  · split
    · rfl
    · exact gate_flagged ..
  · split
    · rfl
    · exact gateUnit_flagged ..
  · split
    · rfl
    · rfl
  · split
    · rfl
    · exact gate_flagged ..
  · rfl

theorem sliceGate_flagged (s : State) (line : Nat) : sliceGate (flagged s) line = onRes flagged (sliceGate s line) := by
  have on : cacheOn (flagged s) (sliceOf line) = cacheOn s (sliceOf line) := fb_flagged s F.L3_SLCTL_EN _ (by decide)
  unfold sliceGate
  rw [on]
  split
  · exact gate_flagged ..
  · rfl

theorem dmaGate_flagged (s : State) (off : Nat) : dmaGate (flagged s) off = onRes flagged (dmaGate s off) := by
  unfold dmaGate
  rw [gateOff_flagged]
  cases gateOff s off with
  | ok _ t => exact sliceGate_flagged t _
  | fail _ t => rfl
  | stall t => rfl

theorem mustWait_flagged (s : State) (off len : Nat) : mustWait (flagged s) off len = mustWait s off len := by
  have gates : gateWaits (flagged s) off len = gateWaits s off len := by
    refine congrArg (List.any (pieces off len)) (funext fun e => ?_)
    rw [dmaGate_flagged]
    cases dmaGate s e.1 <;> rfl
  have regions : mrRegions (flagged s) = mrRegions s := by
    have valid (r : Nat) : (flagged s).fb F.MR_REGION_VALID r = s.fb F.MR_REGION_VALID r := fb_flagged s _ r (by decide)
    have base (r : Nat) : (flagged s).fl F.MR_REGION_BASE r = s.fl F.MR_REGION_BASE r := fl_flagged s _ r (by decide)
    have size (r : Nat) : (flagged s).fl F.MR_REGION_SIZE r = s.fl F.MR_REGION_SIZE r := fl_flagged s _ r (by decide)
    unfold mrRegions
    simp only [valid, base, size]
  have stalls (line : Nat) : mirrorStalls (flagged s) line = mirrorStalls s line := by
    rw [mirrorStalls, mirrorStalls, inMirror, inMirror, regions, fb_flagged s _ 0 (by decide)]
  rw [mustWait, mustWait, gates]
  simp only [stalls]

/-! #### A commit sent (15 R324, R325) -/

/-- The checkpoint lines of a commit, sent. -/
def ckptSent (s : State) (ck : List Nat) : State := ck.foldl (fun s l => sendMirror (mirrorRecord s l).2 2 (mirrorRecord s l).1) s

theorem ckptSent_streamed (ck : List Nat) : Streamed s t → Streamed s (ckptSent t ck) := by
  induction ck generalizing t with
  | nil => exact id
  | cons l ck ih => exact fun h => ih ((h.record l).sendMirror ..)

/-- What more checkpoint lines than a commit takes leave behind. -/
def tooMany (s : State) : State := if 128 < (ckptLines s).length then flagged s else s

/-- A commit of the epoch `e` with `n` checkpoint lines, sent and noted, before a late one's record. -/
def commitNoted (s : State) (e n : Nat) : State :=
  let ho := s.mir.handover == 1 && mrVer s == 0x12
  let u := sendMirror s 3 (natBytes e 8 ++ natBytes (s.mir.sent + n) 8 ++ natBytes n 8 ++ natBytes (b2n ho) 8)
  kettleCopy (onMir (u.setF F.MR_COMMIT_SENT 0 e) fun m =>
    { m with sent := 0, closing := none, kCommit := e, handover := if ho then 2 else m.handover, hoTicks := 0 })

/-- The record of a late commit. -/
def lateNoted (s : State) (late : Bool) : State := if late then mrEvent (s.bumpF F.MR_STAT_LATECNT 0) 204 0x407 clsWarn else s

theorem mirrorCommitSend_eq {e : Nat} (late : Bool) (on : mrOn s = true) (role : mrRole s = 3) (frozen : s.mir.frozen = [])
    (closing : s.mir.closing = some e) (ready : ((ckptLines s).take 128).any (fun l => mustWait (tooMany s) (l * 64) 64) = false) :
    exec (.mirrorCommitSend late) s = .next (lateNoted (commitNoted (ckptSent (tooMany s) ((ckptLines s).take 128)) e
      ((ckptLines s).take 128).length) late) := by
  have go : (mrOn s && mrRole s == rPrimary && s.mir.frozen.isEmpty) = true := by simp [on, role, rPrimary, frozen]
  refine congrArg Host.Outcome.next ?_
  rw [go, closing]
  have waits : ¬ (((ckptLines s).take 128).any (fun l => mustWait (tooMany s) (l * 64) 64) = true) := by rw [ready]; decide
  exact if_neg waits

theorem tooMany_side (s : State) : MirSide [F.MR_STAT_CFGERR] s (tooMany s) := .ite (.setB (.refl _ s) 0 true rfl) (.refl _ s)

theorem mustWait_tooMany (s : State) (off len : Nat) : mustWait (tooMany s) off len = mustWait s off len := by
  unfold tooMany
  split
  · exact mustWait_flagged s off len
  · rfl

theorem tooMany_mir (s : State) : (tooMany s).mir = s.mir := by
  unfold tooMany
  split <;> rfl

theorem commitNoted_notes (s : State) (e n : Nat) : (commitNoted s e n).fl F.MR_COMMIT_SENT 0 = e % 2 ^ 32 ∧
    (commitNoted s e n).mir.closing = none ∧ (commitNoted s e n).mir.sent = 0 ∧ (commitNoted s e n).mir.kCommit = e ∧
    MirSide [F.MR_COMMIT_SENT] s (commitNoted s e n) ∧ sendsTo s (commitNoted s e n) 3 :=
  ⟨State.fl_setF_same .., rfl, rfl, rfl, by unfold commitNoted; exact .onMir (.onMir (.setF (.sendMirror (.refl _ s) ..) 0 e rfl) _) _,
    (sendMirror_sends (s := s) (t := s) (sub := 3) (by decide) _ rfl).router rfl⟩

theorem lateNoted_side (s : State) (late : Bool) : MirSide [F.MR_STAT_LATECNT] s (lateNoted s late) :=
  .ite (.event (.of_side (bumpF_side s 0 rfl)) ..) (.refl _ s)

theorem lateNoted_mir (s : State) (late : Bool) : (lateNoted s late).mir = s.mir := by
  unfold lateNoted
  split
  · rw [mrEvent_mir]
    exact (bumpF_mirror s _ 0).1
  · rfl

theorem lateNoted_router (s : State) (late : Bool) : (lateNoted s late).router = s.router := by
  unfold lateNoted
  split
  · rw [mrEvent_router, bumpF_router]
  · rfl

theorem lateNoted_counts (s : State) : signalled s (lateNoted s true) 204 ∧
    (s.fl F.MR_STAT_LATECNT 0 < 255 → (lateNoted s true).fl F.MR_STAT_LATECNT 0 = s.fl F.MR_STAT_LATECNT 0 + 1) := by
  have counted : MirSide [F.MR_STAT_LATECNT] s (s.bumpF F.MR_STAT_LATECNT 0) := .of_side (bumpF_side s 0 rfl)
  refine ⟨counted.signalled 204 0x407 clsWarn rfl rfl, fun low => ?_⟩
  exact ((mrEvent_side _ 204 0x407 clsWarn).fl F.MR_STAT_LATECNT 0 rfl).trans
    (fl_bumpF_below (Nat.lt_of_lt_of_eq (Nat.succ_lt_succ low) (by decide)))

/-! #### Packets taken -/

/-- A packet of the stream that is whole leaves the receive buffer and is taken. -/
theorem mirrorIn_taken {k : Packet} {m sub : Nat} (on : mrOn s = true) (hears : hearingPort s = some m) (cmd : k.cmd.toNat = 11)
    (hs : k.sub.toNat = sub) (low : sub < 8) (whole : corrupt k = false) (f : State → State) :
    mirrorIn s k sub f = f (leaveBuffer s m k) := by
  have wanted : ¬ ((!mrOn s || decide (k.cmd.toNat ≠ pMirror) || (k.sub.toNat < 8 && decide (k.sub.toNat ≠ sub))) = true) := by
    simp [on, cmd, hs, pMirror]
  have kept : ¬ ((decide (8 ≤ k.sub.toNat) || corrupt k) = true) := by simp [hs, whole, low]
  unfold mirrorIn
  rw [hears]
  exact (if_neg wanted).trans (if_neg kept)

theorem records_one {p : List Byte} (h : p.length = 72) : records 56 p = [(word8 p 0, (p.take 72).drop 8)] := by
  have whole : ¬ p.length < 72 := by omega
  have done : (p.drop 72).length < 72 := by rw [List.length_drop]; omega
  show (if p.length < 72 then [] else (bytesNat (p.take 8), (p.take 72).drop 8) :: records 55 (p.drop 72)) = _
  rw [if_neg whole]
  show _ :: (if (p.drop 72).length < 72 then [] else _) = _
  rw [if_pos done]
  rfl

/-! #### Records taken (15 R327, R328) -/

/-- The count of a record of the packet. -/
def recordCounted (s : State) (sub : Nat) : State :=
  onMir s fun m => { m with got := m.got + b2n (sub != 1), gotCkpt := m.gotCkpt + b2n (sub == 2) }

/-- The journal's record of a line that an IN_SYNC standby is about to write. -/
def lineJournalled (s : State) (sub off : Nat) : State := if sub != 1 && mrRole s == rInSync then journal s off else s

/-- The last line of a copy is noted. -/
def copyNoted (s : State) (sub off : Nat) : State :=
  if sub == 1 && lastLine s == some (off / 64) then onMir s fun m => { m with copyLast := true } else s

theorem takeRecord_eq (s : State) (sub : Nat) (r : Nat × List Byte) : takeRecord s sub r =
    copyNoted (dmaWrite (lineJournalled (recordCounted s sub) sub (r.1 / 64 * 64)) 4 none (r.1 / 64 * 64) r.2) sub (r.1 / 64 * 64) :=
  rfl

theorem copyNoted_line {sub : Nat} (s : State) (off : Nat) (hs : sub ≠ 1) : copyNoted s sub off = s := if_neg (by simp [hs])

theorem takeRecord_plain {sub : Nat} (s : State) (r : Nat × List Byte) (hs : sub ≠ 1) (role : mrRole s ≠ 2) :
    takeRecord s sub r = dmaWrite (recordCounted s sub) 4 none (r.1 / 64 * 64) r.2 := by
  have plain : lineJournalled (recordCounted s sub) sub (r.1 / 64 * 64) = recordCounted s sub := by
    have e : mrRole (recordCounted s sub) = mrRole s := rfl
    exact if_neg (by simp [e, rInSync, role])
  rw [takeRecord_eq, copyNoted_line _ _ hs, plain]

theorem takeRecord_journals {sub : Nat} (s : State) (r : Nat × List Byte) (hs : sub ≠ 1) (role : mrRole s = 2) :
    takeRecord s sub r = dmaWrite (journal (recordCounted s sub) (r.1 / 64 * 64)) 4 none (r.1 / 64 * 64) r.2 := by
  have journals : lineJournalled (recordCounted s sub) sub (r.1 / 64 * 64) = journal (recordCounted s sub) (r.1 / 64 * 64) := by
    have e : mrRole (recordCounted s sub) = mrRole s := rfl
    exact if_pos (by simp [e, rInSync, role, hs])
  rw [takeRecord_eq, copyNoted_line _ _ hs, journals]

theorem takeRecord_copies (s : State) (r : Nat × List Byte) :
    takeRecord s 1 r = copyNoted (dmaWrite s 4 none (r.1 / 64 * 64) r.2) 1 (r.1 / 64 * 64) := by
  have counted : recordCounted s 1 = s := rfl
  have plain : lineJournalled s 1 (r.1 / 64 * 64) = s := if_neg (by simp)
  rw [takeRecord_eq, counted, plain]

theorem journal_full {s : State} (h : journalCap s ≤ s.fl F.MR_JFILL_RECORDS 0) (off : Nat) : journal s off = fallStale s := if_pos h

/-- The state that has written a record of the line at `off` in the journal. -/
def journalled (s : State) (off : Nat) : State :=
  let u := (dmaRead s 4 none off 64).2
  dmaWrite u 4 none (journalAt u (s.fl F.MR_JFILL_RECORDS 0))
    (natBytes off 8 ++ natBytes (u.fl F.EP_EPOCH_VALUE 0) 8 ++ (dmaRead s 4 none off 64).1)

/-- The fill of the journal grows by a record. -/
def grown (s : State) (n : Nat) : State := s.setF F.MR_JFILL_RECORDS 0 (n + 1)

/-- The warning of a journal that is three quarters full. -/
def fillWarned (s : State) (n cap : Nat) : State :=
  if 4 * n ≤ 3 * cap ∧ 3 * cap < 4 * (n + 1) then mrEvent s 203 0x406 clsWarn else s

theorem journal_eq (s : State) (off : Nat) : journal s off =
    if journalCap s ≤ s.fl F.MR_JFILL_RECORDS 0 then fallStale s
    else fillWarned (grown (journalled s off) (s.fl F.MR_JFILL_RECORDS 0)) (s.fl F.MR_JFILL_RECORDS 0) (journalCap s) := by
  unfold journal fillWarned grown journalled
  dsimp only

theorem journalled_frame (s : State) (off : Nat) : MemFrame s (journalled s off) := ((MemFrame.refl s).dmaRead ..).dmaWrite ..

theorem fillWarned_side (s : State) (n cap : Nat) : MirSide [] s (fillWarned s n cap) := .ite (.event (.refl _ s) ..) (.refl _ s)

theorem fillWarned_mir (s : State) (n cap : Nat) : (fillWarned s n cap).mir = s.mir := by
  unfold fillWarned
  split
  · exact mrEvent_mir ..
  · rfl

theorem grown_side (s : State) (n : Nat) : MirSide [F.MR_JFILL_RECORDS] s (grown s n) := .setF (.refl _ s) 0 _ rfl

theorem grown_mir (s : State) (n : Nat) : (grown s n).mir = s.mir := rfl

theorem grown_fill (s : State) (n : Nat) : (grown s n).fl F.MR_JFILL_RECORDS 0 = (n + 1) % 2 ^ 22 := State.fl_setF_same ..

theorem fillWarned_grown (u : State) (n cap : Nat) : (fillWarned (grown u n) n cap).fl F.MR_JFILL_RECORDS 0 = (n + 1) % 2 ^ 22 ∧
    mrRole (fillWarned (grown u n) n cap) = mrRole u :=
  ⟨((fillWarned_side (grown u n) n cap).fl _ _ rfl).trans (grown_fill u n),
    ((fillWarned_side (grown u n) n cap).fl F.MR_STAT_ROLE 0 rfl).trans ((grown_side u n).fl _ _ rfl)⟩

theorem journal_role {s : State} (h : s.fl F.MR_JFILL_RECORDS 0 < journalCap s) (off : Nat) : mrRole (journal s off) = mrRole s := by
  rw [journal_eq, if_neg (Nat.not_le.mpr h), (fillWarned_grown ..).2]
  exact (journalled_frame s off).fl F.MR_STAT_ROLE 0 rfl

theorem journal_mir {s : State} (h : s.fl F.MR_JFILL_RECORDS 0 < journalCap s) (off : Nat) : (journal s off).mir = s.mir := by
  rw [journal_eq, if_neg (Nat.not_le.mpr h), fillWarned_mir, grown_mir]
  exact (journalled_frame s off).mir

theorem journal_fill {s : State} (h : s.fl F.MR_JFILL_RECORDS 0 < journalCap s) (off : Nat) :
    (journal s off).fl F.MR_JFILL_RECORDS 0 = (s.fl F.MR_JFILL_RECORDS 0 + 1) % 2 ^ 22 := by
  rw [journal_eq, if_neg (Nat.not_le.mpr h), (fillWarned_grown ..).1]

/-- What the packet of one record does once it is taken: COPYING shows a copy to a STALE device. -/
def recordTaken (s : State) (sub : Nat) (r : Nat × List Byte) : State :=
  takeRecord (if sub = 1 ∧ mrRole s = rStale then s.setB F.MR_STAT_COPYING 0 true else s) sub r

theorem recordTaken_line {sub : Nat} (s : State) (r : Nat × List Byte) (hs : sub ≠ 1) : recordTaken s sub r = takeRecord s sub r := by
  unfold recordTaken
  rw [if_neg fun no => hs no.1]

theorem recordsIn_one {k : Packet} {m sub : Nat} (on : mrOn s = true) (hears : hearingPort s = some m) (cmd : k.cmd.toNat = 11)
    (hs : k.sub.toNat = sub) (low : sub < 8) (whole : corrupt k = false) (role : mrRole s < 3) (one : k.payload.length = 72)
    (ready : recordsWait s (records 56 k.payload) = false) :
    recordsIn s sub k = recordTaken (leaveBuffer s m k) sub (word8 k.payload 0, (k.payload.take 72).drop 8) := by
  have waits : ¬ ((decide (mrRole s < 3) && recordsWait s (records 56 k.payload)) = true) := by rw [ready]; simp
  unfold recordsIn
  dsimp only
  rw [if_neg waits, mirrorIn_taken on hears cmd hs low whole, records_one one]
  exact if_neg (Nat.not_le.mpr role)

/-- A packet of the stream with the SUB `sub` has come whole by link `m`. -/
def CameIn (s : State) (k : Packet) (m sub : Nat) : Prop :=
  mrOn s = true ∧ hearingPort s = some m ∧ k.cmd.toNat = 11 ∧ k.sub.toNat = sub ∧ corrupt k = false

/-- The first record of a packet. -/
def firstRecord (k : Packet) : Nat × List Byte := (word8 k.payload 0, (k.payload.take 72).drop 8)

theorem CameIn.taken {k : Packet} {m sub : Nat} (h : CameIn s k m sub) (low : sub < 8) (role : mrRole s < 3)
    (one : k.payload.length = 72) (ready : recordsWait s (records 56 k.payload) = false) :
    recordsIn s sub k = recordTaken (leaveBuffer s m k) sub (firstRecord k) := by
  obtain ⟨on, hears, cmd, hs, whole⟩ := h
  exact recordsIn_one on hears cmd hs low whole role one ready

theorem CameIn.passes {k : Packet} {m sub : Nat} (h : CameIn s k m sub) (low : sub < 8) (f : State → State) :
    mirrorIn s k sub f = f (leaveBuffer s m k) := by
  obtain ⟨on, hears, cmd, hs, whole⟩ := h
  exact mirrorIn_taken on hears cmd hs low whole f

/-- A record of an IN_SYNC standby is counted, and its line's old contents are journalled. -/
theorem recordTaken_journals {sub : Nat} (s : State) (r : Nat × List Byte) (hs : sub ≠ 1) (role : mrRole s = 2)
    (room : s.fl F.MR_JFILL_RECORDS 0 < journalCap s) :
    (recordTaken s sub r).mir.got = s.mir.got + 1 ∧
      (recordTaken s sub r).fl F.MR_JFILL_RECORDS 0 = (s.fl F.MR_JFILL_RECORDS 0 + 1) % 2 ^ 22 ∧
      mrRole (recordTaken s sub r) = 2 := by
  rw [recordTaken_line s r hs, takeRecord_journals s r hs role]
  have count : (recordCounted s sub).mir.got = s.mir.got + 1 := by
    have one : b2n (sub != 1) = 1 := by simp [b2n, hs]
    show s.mir.got + b2n (sub != 1) = _
    rw [one]
  have fill := journal_fill (s := recordCounted s sub) room (r.1 / 64 * 64)
  have same := journal_role (s := recordCounted s sub) room (r.1 / 64 * 64)
  have mir := journal_mir (s := recordCounted s sub) room (r.1 / 64 * 64)
  have before : mrRole (recordCounted s sub) = 2 := role
  have filled : (recordCounted s sub).fl F.MR_JFILL_RECORDS 0 = s.fl F.MR_JFILL_RECORDS 0 := rfl
  generalize journal (recordCounted s sub) (r.1 / 64 * 64) = x at fill same mir ⊢
  have frame := (MemFrame.refl x).dmaWrite 4 none (r.1 / 64 * 64) r.2
  generalize dmaWrite x 4 none (r.1 / 64 * 64) r.2 = y at frame ⊢
  refine ⟨by rw [frame.mir, mir, count], by rw [frame.fl _ _ rfl, fill, filled], ?_⟩
  rw [mrRole, frame.fl F.MR_STAT_ROLE 0 rfl, ← mrRole, same, before]

/-- A record that finds the journal full puts the standby in STALE. -/
theorem recordTaken_full {sub : Nat} (s : State) (r : Nat × List Byte) (hs : sub ≠ 1) (role : mrRole s = 2)
    (full : journalCap s ≤ s.fl F.MR_JFILL_RECORDS 0) :
    mrRole (recordTaken s sub r) = 0 ∧ signalled s (recordTaken s sub r) 203 := by
  rw [recordTaken_line s r hs, takeRecord_journals s r hs role, journal_full (s := recordCounted s sub) full]
  have fell := mrRole_fallStale (recordCounted s sub)
  have told : signalled s (fallStale (recordCounted s sub)) 203 := fallStale_signals (s := recordCounted s sub) (.inr role)
  generalize fallStale (recordCounted s sub) = x at fell told ⊢
  have frame := (MemFrame.refl x).dmaWrite 4 none (r.1 / 64 * 64) r.2
  exact ⟨(frame.fl F.MR_STAT_ROLE 0 rfl).trans fell, signalled_stays told frame.stays⟩

theorem recordTaken_plain {sub : Nat} (s : State) (r : Nat × List Byte) (hs : sub ≠ 1) (role : mrRole s ≠ 2) :
    recordTaken s sub r = dmaWrite (recordCounted s sub) 4 none (r.1 / 64 * 64) r.2 :=
  (recordTaken_line s r hs).trans (takeRecord_plain s r hs role)

/-- A record of a copy is written, and the last one noted. -/
theorem recordTaken_copies (s : State) (r : Nat × List Byte) (role : mrRole s = 0) :
    recordTaken s 1 r = copyNoted (dmaWrite (s.setB F.MR_STAT_COPYING 0 true) 4 none (r.1 / 64 * 64) r.2) 1 (r.1 / 64 * 64) := by
  have shown : recordTaken s 1 r = takeRecord (s.setB F.MR_STAT_COPYING 0 true) 1 r := by
    unfold recordTaken
    rw [if_pos ⟨rfl, role⟩]
  rw [shown, takeRecord_copies]

theorem copyNoted_eq (s : State) (off : Nat) :
    copyNoted s 1 off = if lastLine s = some (off / 64) then { s with mir := { s.mir with copyLast := true } } else s := by
  unfold copyNoted
  split
  · next h => exact (if_pos (by simpa using h)).symm
  · next h => exact (if_neg (by simpa using h)).symm

theorem leaveBuffer_bondOk (s : State) (n : Nat) (k : Packet) (m : Nat) : (lk (leaveBuffer s n k) m).bondOk = (lk s m).bondOk := by
  have put (t : State) (b : Nat) (x : Link) (hx : x.bondOk = (lk t b).bondOk) : (lk (putLk t b x) m).bondOk = (lk t m).bondOk := by
    by_cases hb : b = m
    · rw [← hb, lk_putLk_same, hx]
    · rw [lk_putLk_ne _ _ (Ne.symm hb)]
  let u := putLk s (sessHome s n) { lk s (sessHome s n) with rxCount := (lk s (sessHome s n)).rxCount + 1 }
  have first : (lk u m).bondOk = (lk s m).bondOk := put s _ _ rfl
  have left (b : Nat) (x : Link) (hx : x.bondOk = (lk u b).bondOk) : (lk (putLk u b x) m).bondOk = (lk s m).bondOk :=
    (put u b x hx).trans first
  exact left (homeOf u n) _ rfl

theorem recordsIn_waits {k : Packet} (sub : Nat) (role : mrRole s < 3) (waits : recordsWait s (records 56 k.payload) = true) :
    OnlyPower s (recordsIn s sub k) := by
  have e : recordsIn s sub k = (records 56 k.payload).foldl (fun s r => askWake s (r.1 / 64 * 64) 64) s :=
    if_pos (by rw [waits, decide_eq_true role]; rfl)
  rw [e]
  exact foldl_power (fun t r => askWake_power t ..) _ s

theorem sendsTo.partner {sub : Nat} (h : sendsTo t u sub) (e : t.fl F.MR_CFG_PARTNER 0 = s.fl F.MR_CFG_PARTNER 0) :
    sendsTo s u sub := by
  obtain ⟨x, mem, cmd, hs, dst⟩ := h
  exact ⟨x, mem, cmd, hs, dst.trans (by rw [e])⟩

/-- A commit of the epoch `e` is sent: the registers and the unit note it, and a late one is told. -/
theorem mirrorCommitSend_gives {e : Nat} (late : Bool) (on : mrOn s = true) (role : mrRole s = 3) (frozen : s.mir.frozen = [])
    (closing : s.mir.closing = some e) (ready : ∀ x ∈ (ckptLines s).take 128, mustWait s (x * 64) 64 = false) :
    Gives (.mirrorCommitSend late) s fun t => t.fl F.MR_COMMIT_SENT 0 = e % 2 ^ 32 ∧ t.mir.closing = none ∧ t.mir.sent = 0 ∧
      t.mir.kCommit = e ∧ sendsTo s t 3 ∧ (late = true → signalled s t 204 ∧
        (s.fl F.MR_STAT_LATECNT 0 < 255 → t.fl F.MR_STAT_LATECNT 0 = s.fl F.MR_STAT_LATECNT 0 + 1)) := by
  have waits : ((ckptLines s).take 128).any (fun l => mustWait (tooMany s) (l * 64) 64) = false := by
    rw [List.any_eq_false]
    intro x hx
    rw [mustWait_tooMany, ready x hx]
    decide
  have run := mirrorCommitSend_eq late on role frozen closing waits
  have flagged := tooMany_side s
  have sent := ckptSent_streamed ((ckptLines s).take 128) (.refl (tooMany s))
  generalize ckptSent (tooMany s) ((ckptLines s).take 128) = x at run sent
  obtain ⟨shown, closed, none, noted, side, sends⟩ := commitNoted_notes x e ((ckptLines s).take 128).length
  generalize commitNoted x e ((ckptLines s).take 128).length = y at run shown closed none noted side sends
  have told := lateNoted_side y late
  have mir := lateNoted_mir y late
  refine ⟨_, run, (told.fl _ _ rfl).trans shown, by rw [mir, closed], by rw [mir, none], by rw [mir, noted], ?_, ?_⟩
  · exact (sends.partner (sent.partner.trans (flagged.fl _ _ rfl))).router (lateNoted_router y late)
  · rintro rfl
    obtain ⟨signal, counts⟩ := lateNoted_counts y
    have count : y.fl F.MR_STAT_LATECNT 0 = s.fl F.MR_STAT_LATECNT 0 :=
      (side.fl _ _ rfl).trans ((sent.fl _ _ rfl).trans (flagged.fl _ _ rfl))
    rw [count] at counts
    exact ⟨signalled_since flagged.fl rfl rfl (signalled_since sent.fl rfl rfl (signalled_since side.fl rfl rfl signal)), counts⟩

/-! #### Commits taken (15 R327, R334, R338) -/

/-- The answer to a commit, before what it changes of the role. -/
def commitAnswered (s : State) (e : Nat) : State :=
  sendMirror (onMir ((s.setF F.MR_JFILL_RECORDS 0 0).setF F.MR_COMMIT_ACKED 0 e) fun m => { m with kCommit := e }) 4 (natBytes e 8)

/-- A standby that holds a journal is in sync once a commit has come. -/
def inSync (s : State) : State :=
  if mrRole s = rStandby ∧ s.fl F.MR_JOURNAL_SIZE 0 ≠ 0 then roleInfo s rInSync else s

/-- The acknowledgement of a handover that the commit carries. -/
def handoverAnswered (s : State) (e : Nat) (ho : Bool) : State :=
  if ho && mrRole s == rInSync && mrVer s == 0x12 then onMir (sendMirror s 7 (natBytes e 8)) fun m => { m with toTake := 2 } else s

theorem commitGood_eq (s : State) (e : Nat) (ho : Bool) : commitGood s e ho = handoverAnswered (inSync (commitAnswered s e)) e ho := rfl

/-- The fields of a commit's answer. -/
def answerFields : List Fld := roleFields ++ [F.MR_JFILL_RECORDS, F.MR_COMMIT_ACKED]

theorem commitAnswered_side (s : State) (e : Nat) : MirSide answerFields s (commitAnswered s e) :=
  .sendMirror (.onMir (.setF (.setF (.refl _ s) 0 0 rfl) 0 e rfl) _) ..

theorem inSync_side (s : State) : MirSide roleFields s (inSync s) := .ite (roleInfo_side s rInSync) (.refl _ s)

theorem inSync_mir (s : State) : apartRole (inSync s).mir = apartRole s.mir := by
  unfold inSync
  split
  · exact roleInfo_mir ..
  · rfl

theorem inSync_router (s : State) : (inSync s).router = s.router := by
  unfold inSync
  split
  · exact roleInfo_router ..
  · rfl

theorem mrRole_inSync {s : State} (h : mrRole s = 1 ∨ mrRole s = 2) :
    mrRole (inSync s) = if s.fl F.MR_JOURNAL_SIZE 0 = 0 then mrRole s else 2 := by
  unfold inSync
  by_cases size : s.fl F.MR_JOURNAL_SIZE 0 = 0
  · rw [if_neg (fun no => no.2 size), if_pos size]
  · rw [if_neg size]
    rcases h with h | h
    · rw [if_pos ⟨h, size⟩]
      exact mrRole_roleInfo s (by decide)
    · rw [if_neg (fun yes => absurd (h.symm.trans yes.1) (by decide)), h]

theorem handoverAnswered_side (s : State) (e : Nat) (ho : Bool) : MirSide [] s (handoverAnswered s e ho) :=
  .ite (.onMir (.sendMirror (.refl _ s) ..) _) (.refl _ s)

theorem handoverAnswered_mir (s : State) (e : Nat) (ho : Bool) : apartRole (handoverAnswered s e ho).mir = apartRole s.mir := by
  unfold handoverAnswered
  split <;> rfl

theorem handoverAnswered_sends {sub : Nat} (h : sendsTo s t sub) (e : Nat) (ho : Bool) : sendsTo s (handoverAnswered t e ho) sub := by
  unfold handoverAnswered
  split
  · exact (h.sendMirror 7 (natBytes e 8)).router rfl
  · exact h

theorem commitGood_side (s : State) (e : Nat) (ho : Bool) : MirSide answerFields s (commitGood s e ho) := by
  rw [commitGood_eq]
  exact .trans (commitAnswered_side s e) (.trans ((inSync_side _).widen (by simp [answerFields]))
    ((handoverAnswered_side ..).widen (List.nil_subset _)))

theorem commitGood_mir (s : State) (e : Nat) (ho : Bool) : apartRole (commitGood s e ho).mir = apartRole { s.mir with kCommit := e } := by
  rw [commitGood_eq, handoverAnswered_mir, inSync_mir]
  rfl

theorem commitGood_sends (s : State) (e : Nat) (ho : Bool) : sendsTo s (commitGood s e ho) 4 := by
  rw [commitGood_eq]
  refine handoverAnswered_sends (sendsTo.router ?_ (inSync_router _)) e ho
  exact sendMirror_sends (by decide) _ (MirSide.fl (.onMir (.setF (.setF (.refl answerFields s) 0 0 rfl) 0 e rfl) _) _ _ rfl)

theorem mrRole_commitGood {s : State} (h : mrRole s = 1 ∨ mrRole s = 2) (e : Nat) (ho : Bool) :
    mrRole (commitGood s e ho) = if s.fl F.MR_JOURNAL_SIZE 0 = 0 then mrRole s else 2 := by
  have kept (f : Fld) (hf : noteField [F.MR_JFILL_RECORDS, F.MR_COMMIT_ACKED] f = false) :
      (commitAnswered s e).fl f 0 = s.fl f 0 :=
    MirSide.fl (.sendMirror (.onMir (.setF (.setF (.refl _ s) 0 0 rfl) 0 e rfl) _) 4 (natBytes e 8)) f 0 hf
  have role : mrRole (commitAnswered s e) = mrRole s := kept _ rfl
  have size : (commitAnswered s e).fl F.MR_JOURNAL_SIZE 0 = s.fl F.MR_JOURNAL_SIZE 0 := kept _ rfl
  rw [commitGood_eq, mrRole, (handoverAnswered_side ..).fl F.MR_STAT_ROLE 0 rfl, ← mrRole, mrRole_inSync (by rwa [role]), role, size]

theorem commitGood_answers (s : State) (e : Nat) (ho : Bool) : (commitGood s e ho).fl F.MR_JFILL_RECORDS 0 = 0 ∧
    (commitGood s e ho).fl F.MR_COMMIT_ACKED 0 = e % 2 ^ 32 := by
  have kept (f : Fld) (hf : noteField roleFields f = false) : (commitGood s e ho).fl f 0 = (commitAnswered s e).fl f 0 := by
    rw [commitGood_eq]
    exact MirSide.fl (.trans (inSync_side _) ((handoverAnswered_side ..).widen (List.nil_subset _))) f 0 hf
  refine ⟨(kept _ rfl).trans ?_, (kept _ rfl).trans (State.fl_setF_same ..)⟩
  exact (State.fl_setF_id _ _ _ _ (f := F.MR_COMMIT_ACKED) (by decide)).trans (State.fl_setF_same ..)

/-- The counts of a standby, begun anew at a commit. -/
def countsAnew (s : State) : State := onMir s fun m => { m with got := 0, gotCkpt := 0, commitAge := 0 }

/-- What a commit does once it is taken. -/
def commitTaken (s : State) (k : Packet) : State :=
  let good := s.mir.got == word8 k.payload 1 && s.mir.gotCkpt == word8 k.payload 2
  let s := countsAnew s
  if mrRole s ≠ rStandby ∧ mrRole s ≠ rInSync then s
  else if good then commitGood s (word8 k.payload 0) (word8 k.payload 3 % 2 == 1)
  else fallStale s

theorem commitTaken_standby {s : State} (k : Packet) (h : mrRole s = 1 ∨ mrRole s = 2) : commitTaken s k =
    if s.mir.got = word8 k.payload 1 ∧ s.mir.gotCkpt = word8 k.payload 2
    then commitGood (countsAnew s) (word8 k.payload 0) (word8 k.payload 3 % 2 == 1) else fallStale (countsAnew s) := by
  have standby : ¬ (mrRole (countsAnew s) ≠ rStandby ∧ mrRole (countsAnew s) ≠ rInSync) := fun no => h.elim no.1 no.2
  refine (if_neg standby).trans ?_
  split
  · next good => rw [if_pos (by simpa using good)]
  · next bad => rw [if_neg (by simpa using bad)]

/-- A commit whose counts match is answered. -/
theorem commitTaken_good {s : State} {k : Packet} (h : mrRole s = 1 ∨ mrRole s = 2)
    (good : s.mir.got = word8 k.payload 1 ∧ s.mir.gotCkpt = word8 k.payload 2) :
    (commitTaken s k).fl F.MR_JFILL_RECORDS 0 = 0 ∧ (commitTaken s k).fl F.MR_COMMIT_ACKED 0 = word8 k.payload 0 % 2 ^ 32 ∧
      (commitTaken s k).mir.got = 0 ∧ (commitTaken s k).mir.gotCkpt = 0 ∧ sendsTo s (commitTaken s k) 4 ∧
      ((commitTaken s k).mem = s.mem ∧ (commitTaken s k).cpus = s.cpus) ∧
      mrRole (commitTaken s k) = if s.fl F.MR_JOURNAL_SIZE 0 = 0 then mrRole s else 2 := by
  rw [(commitTaken_standby k h).trans (if_pos good)]
  generalize word8 k.payload 0 = e
  generalize (word8 k.payload 3 % 2 == 1) = ho
  obtain ⟨fill, acked⟩ := commitGood_answers (countsAnew s) e ho
  have side := commitGood_side (countsAnew s) e ho
  have mir := commitGood_mir (countsAnew s) e ho
  exact ⟨fill, acked, congrArg Mirror.got mir, congrArg Mirror.gotCkpt mir, commitGood_sends (countsAnew s) e ho,
    ⟨side.mem, side.cpus⟩, mrRole_commitGood (s := countsAnew s) h e ho⟩

/-- A commit whose counts differ puts the standby in STALE. -/
theorem commitTaken_bad {s : State} {k : Packet} (h : mrRole s = 1 ∨ mrRole s = 2)
    (bad : ¬ (s.mir.got = word8 k.payload 1 ∧ s.mir.gotCkpt = word8 k.payload 2)) :
    (mrRole (commitTaken s k) = 0 ∧ (commitTaken s k).fl F.MR_JFILL_RECORDS 0 = 0 ∧
      (commitTaken s k).fb F.MR_STAT_COPYING 0 = false ∧ signalled s (commitTaken s k) 203 ∧ (commitTaken s k).mem = s.mem) ∧
      (commitTaken s k).mir.got = 0 ∧ (commitTaken s k).mir.gotCkpt = 0 := by
  rw [(commitTaken_standby k h).trans (if_neg bad)]
  have mir := fallStale_mir (countsAnew s)
  have told : signalled s (fallStale (countsAnew s)) 203 := fallStale_signals (s := countsAnew s) h
  exact ⟨⟨mrRole_fallStale _, fallStale_journal _, fallStale_copying _, told, (fallStale_side (countsAnew s)).mem⟩,
    congrArg Mirror.got mir, congrArg Mirror.gotCkpt mir⟩

/-- The copy of a STALE device that has written its last record. -/
theorem copyComplete_standby (copying : s.fb F.MR_STAT_COPYING 0 = true) (role : mrRole s = 0) (last : s.mir.copyLast = true) :
    Gives .copyComplete s fun t => mrRole t = 1 ∧ t.fb F.MR_STAT_COPYING 0 = false ∧ signalled s t 205 ∧ t.mem = s.mem ∧
      t.cpus = s.cpus := by
  have stale : mrRole s = rStale := role
  have goes : exec .copyComplete s = .next (mrEvent (roleTo (copyStop s) rStandby) 205 0x408 clsInfo) := by
    refine congrArg Host.Outcome.next ?_
    rw [if_neg (by rw [copying]; decide), if_pos stale, if_neg (by rw [last]; decide)]
  have changed := roleTo_side (copyStop s) rStandby
  have side : MirSide staleFields s (roleTo (copyStop s) rStandby) :=
    .trans ((copyStop_side s).widen (by simp [staleFields])) (changed.widen (by simp [staleFields]))
  have told := side.event 205 0x408 clsInfo
  refine ⟨_, goes, (mrRole_event ..).trans (mrRole_roleTo _ (by decide)), ?_, side.signalled _ _ _ rfl rfl, told.mem, told.cpus⟩
  rw [(mrEvent_side _ 205 0x408 clsInfo).fb _ _ rfl, changed.fl.fb _ _ rfl]
  exact copyStop_stops s

/-- The copy of a primary that has sent its last line. -/
theorem copyComplete_primary {n : Nat} (copying : s.fb F.MR_STAT_COPYING 0 = true) (role : mrRole s = 3)
    (next : s.mir.copyNext = some n) (last : copyLine (regionsSorted s) n = none) :
    Gives .copyComplete s fun t => mrRole t = 3 ∧ t.fb F.MR_STAT_COPYING 0 = false ∧ t.mir.copyNext = none ∧ signalled s t 205 ∧
      t.mem = s.mem ∧ t.cpus = s.cpus := by
  have goes : exec .copyComplete s = .next (mrEvent (copyStop s) 205 0x408 clsInfo) := by
    refine congrArg Host.Outcome.next ?_
    rw [if_neg (by rw [copying]; decide), if_neg (fun e => absurd (role.symm.trans e) (by decide)), next]
    exact if_pos (by rw [last]; rfl)
  have side := (copyStop_side s).event 205 0x408 clsInfo
  refine ⟨_, goes, (side.fl _ _ rfl).trans role, ?_, congrArg Mirror.copyNext (mrEvent_mir ..),
    (copyStop_side s).signalled _ _ _ rfl rfl, side.mem, side.cpus⟩
  rw [(mrEvent_side _ 205 0x408 clsInfo).fb _ _ rfl]
  exact copyStop_stops s

end

/-! #### Settling -/

/-- Settles O44: lines sent (`sendLine_sends`), commits (`mirrorCommitSend_gives`), records (`recordTaken_journals`,
`recordTaken_full`, `recordTaken_copies`), and the answers of the standby (`commitTaken_standby`). -/
theorem mirrorStream : Obligations.MirrorStream := by
  intro s k late l e n m rest on role keep came s0 sends stale off data one took counts copied j free answer
  refine ⟨?_, ?_, ?_, ?_, ?_, ?_, ?_, ?_, ?_, ?_, ?_, ?_, ?_, ?_, ?_⟩
  · intro on hr frozen ready
    obtain ⟨mir, sent⟩ := sendLine_sends (s := s) (t := onMir s fun m => { m with frozen := rest }) l rfl
    exact ⟨_, mirrorLineRead_frozen on hr frozen ready, by rw [mir]; rfl, by rw [mir]; rfl, sent⟩
  · intro on hr frozen closing fresh ready
    obtain ⟨mir, sent⟩ := sendLine_sends (s := s) (t := onMir s fun m => { m with fresh := rest }) l rfl
    exact ⟨_, mirrorLineRead_fresh on hr frozen closing fresh ready, by rw [mir]; rfl, by rw [mir]; rfl, sent⟩
  · intro on hr frozen closing ready
    exact mirrorCommitSend_gives late on hr frozen closing ready
  · intro h1 hr hf
    have low : mrRole s < 3 := by omega
    have apart : mrRole s0 ≠ 2 := by show mrRole s ≠ 2; omega
    exact ⟨fun h => gives_of rfl ((CameIn.taken h (by decide) low h1 hf).trans (recordTaken_plain s0 _ (by decide) apart)) rfl,
      fun h => gives_of rfl ((CameIn.taken h (by decide) low h1 hf).trans (recordTaken_plain s0 _ (by decide) apart)) rfl⟩
  · intro h1 hr hf room
    have low : mrRole s < 3 := by omega
    have adds (sub : Nat) (hs : sub ≠ 1) := recordTaken_journals s0 (firstRecord k) hs hr room
    exact ⟨fun h => gives_of rfl (CameIn.taken h (by decide) low h1 hf) (adds 0 (by decide)),
      fun h => gives_of rfl (CameIn.taken h (by decide) low h1 hf) (adds 2 (by decide))⟩
  · intro h1 hr hf full h
    have low : mrRole s < 3 := by omega
    exact gives_of rfl (CameIn.taken h (by decide) low h1 hf) (recordTaken_full s0 (firstRecord k) (by decide) hr full)
  · intro h1 hr hf h
    have low : mrRole s < 3 := by omega
    exact gives_of rfl (CameIn.taken h (by decide) low h1 hf) ((recordTaken_copies s0 (firstRecord k) hr).trans (copyNoted_eq ..))
  · intro low waits cmd hcmd
    have asks (sub : Nat) (he : exec cmd s = .next (recordsIn s sub k)) : Gives cmd s fun t => t.mir = s.mir ∧ keep t := by
      have power := recordsIn_waits sub low waits
      exact ⟨_, he, power.mir, power.mem, power.cpus⟩
    simp only [List.mem_cons, List.not_mem_nil, or_false] at hcmd
    rcases hcmd with rfl | rfl | rfl
    · exact asks 0 rfl
    · exact asks 1 rfl
    · exact asks 2 rfl
  · intro h hr good
    exact gives_of rfl (CameIn.passes h (by decide) (commitTaken · k)) (commitTaken_good (s := s0) hr good)
  · intro h hr bad
    exact gives_of rfl (CameIn.passes h (by decide) (commitTaken · k)) (commitTaken_bad (s := s0) hr bad)
  · intro h hr
    refine gives_of rfl ((CameIn.passes h (by decide) _).trans (if_pos hr)) ⟨State.fl_setF_same .., rfl, rfl⟩
  · intro h hr accepts ports
    have begins : copyBegin s0 = onMir (s0.setB F.MR_STAT_COPYING 0 true) fun m => { m with copyNext := some 0, offerWaiting := false } :=
      if_pos (by simpa only [s0, leaveBuffer_bondOk, Bool.or_eq_true] using ports)
    refine gives_of rfl ((CameIn.passes h (by decide) _).trans ((if_pos hr).trans ((if_pos accepts).trans begins))) ⟨?_, rfl, rfl, rfl⟩
    exact State.fb_setB_same s0 F.MR_STAT_COPYING 0 true (by decide)
  · intro h hr
    have notPrimary : ¬ mrRole s0 = rPrimary := fun e => absurd (hr.symm.trans e) (by decide)
    exact gives_of rfl ((CameIn.passes h (by decide) _).trans ((if_neg notPrimary).trans (if_pos hr))) ⟨rfl, rfl⟩
  · intro copying hr last
    exact copyComplete_standby copying hr last
  · intro copying hr next last
    exact copyComplete_primary copying hr next last

end Sys2Proof.Machine
end

section
/-! ### The roles of the mirrored pair (15 R320, R330 to R338, R340) -/

namespace Sys2Proof.Machine
section
variable {s t u : State}

/-! #### Triggers beside the unit -/

theorem TripFrame.mir {k : Fld → Bool} (h : TripFrame k s t) : t.mir = s.mir := by
  have e := congrArg State.mir h.rest
  exact e

/-- A safety event of the unit with its record, and its trigger. -/
def mrTrips (s : State) (src code b : Nat) : State := raiseTrigger (mrEvent s src code clsSafety) b true

theorem mrTrips_trip (s : State) (src code b : Nat) : TripFrame trigField (mrEvent s src code clsSafety) (mrTrips s src code b) :=
  raiseTrigger_trip _ b true

theorem mrTrips_mir (s : State) (src code b : Nat) : (mrTrips s src code b).mir = s.mir :=
  (mrTrips_trip s src code b).mir.trans (mrEvent_mir ..)

theorem mrTrips_router (s : State) (src code b : Nat) : (mrTrips s src code b).router = s.router :=
  (mrTrips_trip s src code b).router.trans (mrEvent_router ..)

theorem mrTrips_mem (s : State) (src code b : Nat) : (mrTrips s src code b).mem = s.mem :=
  (mrTrips_trip s src code b).mem.trans (mrEvent_side s src code clsSafety).mem

theorem mrTrips_kept (s : State) (src code b : Nat) : FieldsKept trigField s (mrTrips s src code b) :=
  .trans ((mrEvent_side s src code clsSafety).fl.weaken fun f hf => by
    have note : dregsField f = false := dregsField_of_holdField f (holdField_of_trigField f hf)
    simp [noteField, note]) (mrTrips_trip s src code b).fl

theorem mrTrips_raised (s : State) (src code : Nat) {b : Nat} (hb : b < 11) :
    bitAt ((mrTrips s src code b).fl F.KT_TRIGSTAT_RAISED 0) b = true := raiseTrigger_raised _ b hb

theorem mrTrips_signals {k : Fld → Bool} (h : FieldsKept k s t) (he : k F.IC_SRC_EDGE = false) (hp : k F.IC_SRC_PRIO = false)
    (src code b : Nat) : signalled s (mrTrips t src code b) src :=
  signalled_stays (signalled_stays (signalled_raiseSource h src he hp) (dregsFree_pendingStays _ _ _ _)) (raiseTrigger_pendingStays _ b true)

theorem mrTrips_held (s : State) (src code : Nat) {b : Nat} (h : bitAt (s.fl F.KT_TRIGSTAT_RAISED 0) b = false) :
    (mrTrips s src code b).fb F.KT_SAFECTL_HELD 0 = true := by
  refine raiseTrigger_held ?_
  rw [(mrEvent_side s src code clsSafety).fl _ _ rfl, h]
  rfl

/-! #### Heartbeats received (15 R333, R334, R336, R337) -/

/-- The role and the generation of a heartbeat that came by a port. -/
def beatSeen (s : State) (role gen : Nat) : State :=
  onMir (s.setF F.MR_STAT_PROLE 0 role) fun m =>
    let m := { m with sincePrimary := if role = rPrimary then 0 else m.sincePrimary }
    { m with genHeard := max m.genHeard gen, partnerGen := gen, serialOnly := false, portAge := 0 }

/-- An IN_SYNC standby is due to take over from a partner that is carried. -/
def carriedSeen (s : State) (carried : Bool) : State :=
  if carried && mrRole s == rInSync && mrVer s != 0x10 && s.mir.toTake == 0 then onMir s fun m => { m with toTake := 1 } else s

/-- A heartbeat that came by a port. -/
def beatNoted (s : State) (role gen : Nat) (carried : Bool) : State := carriedSeen (beatSeen s role gen) carried

/-- What a heartbeat that is not DEGRADED counts as heard. -/
def beatHeard (s : State) (role : Nat) : State := onMir (s.setF F.MR_STAT_MISSES 0 0) fun m => { m with heard := true, lastRole := role }

/-- What a primary does at its partner's heartbeat. -/
def primaryHears (s : State) (role : Nat) : State :=
  if mrRole s ≠ rPrimary then s
  else if role = rPrimary then mrTrips (roleTo (copyStop s) rConflict) 206 0x403 9
  else if role = rInSync && s.fb F.MR_STAT_ISOLATED 0 && !s.fb F.MR_STAT_ALONE 0 then
    clearTrigger (s.setB F.MR_STAT_ISOLATED 0 false) 10
  else s

theorem heartbeat_eq (s : State) (role gen : Nat) (degraded carried : Bool) : heartbeat s role gen degraded carried false =
    if degraded then beatNoted s role gen carried else primaryHears (beatHeard (beatNoted s role gen carried) role) role := rfl

theorem carriedSeen_side (s : State) (carried : Bool) : MirSide [] s (carriedSeen s carried) := .ite (.onMir (.refl _ s) _) (.refl _ s)

theorem beatNoted_side (s : State) (role gen : Nat) (carried : Bool) : MirSide [F.MR_STAT_PROLE] s (beatNoted s role gen carried) :=
  .trans (.onMir (.setF (.refl _ s) 0 role rfl) _) ((carriedSeen_side _ carried).widen (List.nil_subset _))

theorem beatNoted_prole (s : State) (role gen : Nat) (carried : Bool) :
    (beatNoted s role gen carried).fl F.MR_STAT_PROLE 0 = role % 8 :=
  ((carriedSeen_side _ carried).fl _ _ rfl).trans (State.fl_setF_same ..)

theorem beatNoted_heard (s : State) (role gen : Nat) (carried : Bool) : (beatNoted s role gen carried).mir.heard = s.mir.heard := by
  unfold beatNoted carriedSeen
  split <;> rfl

theorem beatHeard_side (s : State) (role : Nat) : MirSide [F.MR_STAT_MISSES] s (beatHeard s role) := .onMir (.setF (.refl _ s) 0 0 rfl) _

theorem mrRole_beatHeard (s : State) (role : Nat) : mrRole (beatHeard s role) = mrRole s := (beatHeard_side s role).fl F.MR_STAT_ROLE 0 rfl

/-- The fields that a primary changes at its partner's heartbeat. -/
def hearField (f : Fld) : Bool := trigField f || noteField staleFields f

theorem hearField_noted (f : Fld) (h : hearField f = false) : noteField staleFields f = false := (Bool.or_eq_false_iff.mp h).2
theorem hearField_trig (f : Fld) (h : hearField f = false) : trigField f = false := (Bool.or_eq_false_iff.mp h).1

/-- CONFLICT: the copy is abandoned, the role is told, and trigger 9 is raised. -/
theorem conflicted_side (s : State) : MirSide staleFields s (roleTo (copyStop s) rConflict) :=
  .trans ((copyStop_side s).widen (by simp [staleFields])) ((roleTo_side _ _).widen (by simp [staleFields]))

theorem primaryHears_kept (s : State) (role : Nat) : FieldsKept hearField s (primaryHears s role) := by
  unfold primaryHears
  split
  · exact fun _ _ _ => rfl
  · split
    · exact .trans ((conflicted_side s).fl.weaken hearField_noted) ((mrTrips_kept _ _ _ _).weaken hearField_trig)
    · split
      · have lifted : MirSide staleFields s (s.setB F.MR_STAT_ISOLATED 0 false) := .setB (.refl _ s) 0 false rfl
        exact .trans (lifted.fl.weaken hearField_noted) ((clearTrigger_trip _ 10).fl.weaken hearField_trig)
      · exact fun _ _ _ => rfl

theorem primaryHears_mem (s : State) (role : Nat) : (primaryHears s role).mem = s.mem := by
  unfold primaryHears
  split
  · rfl
  · split
    · exact (mrTrips_mem ..).trans (conflicted_side s).mem
    · split <;> rfl

theorem primaryHears_heard (s : State) (role : Nat) : (primaryHears s role).mir.heard = s.mir.heard := by
  unfold primaryHears
  split
  · rfl
  · split
    · rw [mrTrips_mir]
      have e := congrArg Mirror.heard (roleTo_mir (copyStop s) rConflict)
      exact e
    · split <;> rfl

theorem primaryHears_role {role : Nat} (h : mrRole s ≠ 3 ∨ role ≠ 3) : mrRole (primaryHears s role) = mrRole s := by
  unfold primaryHears
  split
  · rfl
  · next primary =>
    have other : ¬ role = rPrimary := h.resolve_left primary
    rw [if_neg other]
    split
    · exact ((clearTrigger_trip _ 10).fl F.MR_STAT_ROLE 0 rfl).trans (State.fl_setB_id _ _ _ _ (by decide))
    · rfl

/-- Two primaries are in CONFLICT. -/
theorem primaryHears_conflict (h : mrRole s = 3) : mrRole (primaryHears s 3) = 4 ∧
    bitAt ((primaryHears s 3).fl F.KT_TRIGSTAT_RAISED 0) 9 = true ∧ signalled s (primaryHears s 3) 206 ∧
    (bitAt (s.fl F.KT_TRIGSTAT_RAISED 0) 9 = false → (primaryHears s 3).fb F.KT_SAFECTL_HELD 0 = true) := by
  have e : primaryHears s 3 = mrTrips (roleTo (copyStop s) rConflict) 206 0x403 9 :=
    (if_neg (not_not_intro h)).trans (if_pos rfl)
  have side := conflicted_side s
  rw [e]
  refine ⟨(mrTrips_kept _ _ _ _ F.MR_STAT_ROLE 0 rfl).trans (mrRole_roleTo _ (by decide)), mrTrips_raised _ _ _ (by decide),
    mrTrips_signals side.fl rfl rfl _ _ _, fun low => mrTrips_held _ _ _ ?_⟩
  rw [side.fl _ _ rfl]
  exact low

/-! #### Heartbeats sent (15 R331, R332) -/

/-- What waits at the mirror ports of `s` waits there in `t`. -/
structure Waits (s t : State) : Prop where
  queue : ∀ x ∈ outQ s 40, x ∈ outQ t 40

theorem Waits.of_router (h : t.router = s.router) : Waits s t := ⟨fun _ hx => by rwa [outQ_congr h]⟩

theorem Waits.trans (h : Waits s t) (h' : Waits t u) : Waits s u := ⟨fun x hx => h'.queue x (h.queue x hx)⟩

theorem Waits.enqueue (s : State) (p : Nat) (k : Packet) (remain : Nat) (viaLink : Bool) : Waits s (enqueue s p k remain viaLink) := by
  refine ⟨fun x hx => ?_⟩
  by_cases hp : p = 40
  · subst hp
    rw [outQ_enqueue_same]
    exact List.mem_append_left _ hx
  · rwa [Machine.enqueue, outQ_putOut_ne _ _ (Ne.symm hp)]

theorem tracePacket_keeps (s : State) (out : Bool) (k : Packet) : (tracePacket s out k).router = s.router := by
  unfold tracePacket traceRaw
  split
  · rw [tracePut_router]
    split
    · exact tracePut_router ..
    · rfl
  · rfl

theorem tryRoute_waits {k : Packet} {viaLink : Bool} (h : tryRoute s k viaLink = .ok t) : Waits s t := by
  have goes {p remain : Nat} {a : Packet} {lead : Nat} (hg : (match lacks s p a with
      | some c => .error (c, p)
      | none => if tooLate s p a remain lead then .error (rLate, p)
        else .ok (enqueue s p (leaveHeader s p viaLink a) remain viaLink) : Except (Nat × Nat) State) = .ok t) : Waits s t := by
    split at hg
    · cases hg
    · split at hg
      · cases hg
      · cases hg
        exact .enqueue ..
  unfold tryRoute at h
  dsimp only at h
  split at h
  · split at h
    · split at h
      · exact goes h
      · cases h
    · cases h
      exact .enqueue ..
  · split at h
    · cases h
      exact .enqueue ..
    · exact goes h
    · cases h

theorem droppedFor_router (s : State) (code : Nat) : (countDrop (if code = rNoRoute then raiseSource s 160 else s)).router = s.router := by
  rw [countDrop_router]
  split
  · exact raiseSource_router ..
  · rfl

theorem sendAnswer_waits (s : State) (k : Packet) : Waits s (sendAnswer s k) := by
  unfold sendAnswer
  split
  · next t ht => exact (tryRoute_waits ht).trans (.of_router (tracePacket_keeps ..))
  · exact .of_router (droppedFor_router ..)

theorem refuse_waits (s : State) (k : Packet) (code port : Nat) : Waits s (refuse s k code port) := by
  have counted : (countRefusal s code).router = s.router := by
    unfold countRefusal
    dsimp only
    split
    · rw [raiseSource_router, bumpF_router]
    · exact bumpF_router ..
  unfold refuse
  split
  · exact (Waits.of_router counted).trans (sendAnswer_waits ..)
  · exact .of_router (droppedFor_router ..)

theorem sendOwn_waits (s : State) (k : Packet) : Waits s (sendOwn s k) := by
  have traced (k : Packet) : Waits s (tracePacket s true k) := .of_router (tracePacket_keeps ..)
  unfold sendOwn routePacket
  dsimp only
  split
  · next t ht => exact (traced _).trans (tryRoute_waits ht)
  · exact (traced _).trans (refuse_waits ..)

/-- A heartbeat waits at the mirror ports for port `n`. -/
def Beats (t : State) (n : Nat) : Prop := ∃ x ∈ outQ t 40, x.lane = some n ∧ x.k.cmd = 11 ∧ x.k.sub.toNat = 5

theorem Waits.beats {n : Nat} (h : Waits s t) (hb : Beats s n) : Beats t n := by
  obtain ⟨x, mem, rest⟩ := hb
  exact ⟨x, h.queue x mem, rest⟩

/-- A heartbeat for one port. -/
def beatPort (payload : List Byte) (s : State) (n : Nat) : State :=
  putOut s portMirror (outQ s portMirror ++ [⟨mirrorPacket s 5 payload, 0, fabNow s, false, some n⟩])

theorem outQ_beatPort (payload : List Byte) (s : State) (n : Nat) :
    outQ (beatPort payload s n) 40 = outQ s 40 ++ [⟨mirrorPacket s 5 payload, 0, fabNow s, false, some n⟩] := outQ_putOut_same _ _ _

theorem beatPort_waits (payload : List Byte) (s : State) (n : Nat) : Waits s (beatPort payload s n) :=
  ⟨fun x hx => by rw [outQ_beatPort]; exact List.mem_append_left _ hx⟩

theorem sendPorts_beats {n : Nat} (h : n = 32 ∨ n = 33) (up : lstate s n = 5) (payload : List Byte) : Beats (sendPorts s payload) n := by
  have lane : n ∈ sendLanes s 32 := by
    refine List.mem_filter.mpr ⟨?_, by simp [up]⟩
    show n ∈ [32, 33]
    simpa using h
  refine foldl_settles (P := Beats) (step := beatPort payload) (fun t a => ?_) (fun t a b hb => (beatPort_waits payload t a).beats hb) lane s
  exact ⟨_, by rw [outQ_beatPort]; exact List.mem_append_right _ (List.mem_singleton_self _), rfl, rfl, rfl⟩

theorem OnlyRouting.foldl {α : Type} {step : State → α → State} (hs : ∀ t a, OnlyRouting t (step t a)) :
    ∀ (l : List α) (t : State), OnlyRouting t (l.foldl step t)
  | [], t => .refl t
  | a :: l, t => (hs t a).trans (OnlyRouting.foldl hs l (step t a))

theorem sendPorts_only (s : State) (payload : List Byte) : OnlyRouting s (sendPorts s payload) :=
  OnlyRouting.foldl (step := beatPort payload) (fun t _ => (OnlyRouting.refl t).putOut ..) _ s

theorem OnlyRouting.mir (h : OnlyRouting s t) : t.mir = s.mir := by
  have e := congrArg State.mir h.rest
  exact e

/-- What a boundary's heartbeat says. -/
def beatPayload (s : State) : List Byte := hbPayload s (mrRole s) (s.fl F.MR_STAT_GEN 0) (lastCommit s) false false false

/-- The heartbeat of a boundary on the ports. -/
def portBeat (s : State) : State :=
  onMir (sendPorts s (beatPayload s)) fun m =>
    { m with hbSeq := m.hbSeq + 1 }

/-- The heartbeat's event to the partner. -/
def beatEvent (s : State) (b : Nat) : Packet :=
  { blankPacket with cmd := 8, sub := 1, dst := BitVec.ofNat 18 (s.fl F.MR_CFG_PARTNER 0),
                     tag := BitVec.ofNat 16 (3 * 2 ^ 14 + mrRole s * 2 ^ 11 + (if mrVer s = 0x11 then 0 else s.fl F.MR_STAT_GEN 0 % 1024)),
                     deadline := BitVec.ofNat 64 (b + periodNs s / 16) }

theorem sendHeartbeat_eq (s : State) (b : Nat) : sendHeartbeat s b =
    if (portBeat s).fb F.MR_CFG_FABHB 0 && mrVer (portBeat s) != 0x10 then sendOwn (portBeat s) (beatEvent (portBeat s) b) else portBeat s := rfl

theorem sendHeartbeat_only (s : State) (b : Nat) : OnlyRouting (portBeat s) (sendHeartbeat s b) := by
  rw [sendHeartbeat_eq]
  exact .ite ((OnlyRouting.refl _).sendOwn _) (.refl _)

theorem sendHeartbeat_waits (s : State) (b : Nat) : Waits (portBeat s) (sendHeartbeat s b) := by
  rw [sendHeartbeat_eq]
  split
  · exact sendOwn_waits ..
  · exact .of_router rfl

theorem sendHeartbeat_mir (s : State) (b : Nat) : (sendHeartbeat s b).mir = { s.mir with hbSeq := s.mir.hbSeq + 1 } := by
  have e : (portBeat s).mir = { (sendPorts s (beatPayload s)).mir with hbSeq := (sendPorts s (beatPayload s)).mir.hbSeq + 1 } := rfl
  rw [(sendHeartbeat_only s b).mir, e, (sendPorts_only s (beatPayload s)).mir]

theorem sendHeartbeat_kept (s : State) (b : Nat) : FieldsKept (noteField routeFields) s (sendHeartbeat s b) :=
  .trans (sendPorts_only s (beatPayload s)).fl (sendHeartbeat_only s b).fl

theorem sendHeartbeat_beats {n : Nat} (h : n = 32 ∨ n = 33) (up : lstate s n = 5) (b : Nat) : Beats (sendHeartbeat s b) n :=
  (sendHeartbeat_waits s b).beats (sendPorts_beats h up _)

/-! #### The partner lost (15 R333, R334, R336) -/

/-- What a fall to STALE and a lost partner change of the unit's state, apart. -/
def apartCopy (m : Mirror) : Mirror := apartRole { m with copyNext := none, copyLast := false }

/-- An IN_SYNC standby that lost its partner takes over at the next tick. -/
def takesOver (s : State) : State :=
  onMir (if s.mir.toTake = 2 then mrEvent s 202 0x404 clsSafety else s) fun m => { m with toTake := 1 }

/-- A primary that lost an IN_SYNC partner is ISOLATED. -/
def isolates (s : State) : State := mrTrips (s.setB F.MR_STAT_ISOLATED 0 true) 202 0x402 10

theorem partnerLost_primary {s : State} (h : mrRole s = 3) :
    partnerLost s = if (copyStop s).mir.lastRole = rInSync then isolates (copyStop s) else copyStop s := by
  unfold partnerLost
  rw [h]
  rfl

theorem partnerLost_inSync {s : State} (h : mrRole s = 2) : partnerLost s = takesOver s := by
  unfold partnerLost
  rw [h]
  rfl

theorem partnerLost_standby {s : State} (h : mrRole s = 1) : partnerLost s = fallStale s := by
  unfold partnerLost
  rw [h]
  rfl

theorem partnerLost_stale {s : State} (h : mrRole s = 0) : partnerLost s = mrEvent (copyStop s) 200 0x400 clsInfo := by
  unfold partnerLost
  rw [h]
  rfl

theorem partnerLost_conflict {s : State} (h : 4 ≤ mrRole s) : partnerLost s = s := by
  unfold partnerLost
  obtain ⟨n, hn⟩ := Nat.exists_eq_add_of_le' h
  rw [hn]
  rfl

/-- The roles of which R334 speaks, and CONFLICT with the values that name none. -/
theorem mrRole_cases (s : State) : mrRole s = 0 ∨ mrRole s = 1 ∨ mrRole s = 2 ∨ mrRole s = 3 ∨ 4 ≤ mrRole s := by omega

theorem takesOver_side (s : State) : MirSide [] s (takesOver s) := .onMir (.ite (.event (.refl _ s) ..) (.refl _ s)) _

theorem isolates_kept (s : State) : FieldsKept hearField s (isolates s) := by
  have shown : MirSide staleFields s (s.setB F.MR_STAT_ISOLATED 0 true) := .setB (.refl _ s) 0 true rfl
  exact .trans (shown.fl.weaken hearField_noted) ((mrTrips_kept _ _ _ _).weaken hearField_trig)

theorem partnerLost_kept (s : State) : FieldsKept hearField s (partnerLost s) := by
  have stop := (copyStop_side s).widen (l' := staleFields) (by simp [staleFields])
  have stopped := stop.fl.weaken hearField_noted
  rcases mrRole_cases s with h | h | h | h | h
  · rw [partnerLost_stale h]
    exact (stop.event ..).fl.weaken hearField_noted
  · rw [partnerLost_standby h]
    exact (fallStale_side s).fl.weaken hearField_noted
  · rw [partnerLost_inSync h]
    exact ((takesOver_side s).widen (l' := staleFields) (List.nil_subset _)).fl.weaken hearField_noted
  · rw [partnerLost_primary h]
    exact .ite (stopped.trans (isolates_kept _)) stopped
  · rw [partnerLost_conflict h]
    exact fun _ _ _ => rfl

theorem partnerLost_mir (s : State) : apartCopy (partnerLost s).mir = apartCopy s.mir := by
  rcases mrRole_cases s with h | h | h | h | h
  · rw [partnerLost_stale h, mrEvent_mir]
    rfl
  · rw [partnerLost_standby h]
    have e := fallStale_mir s
    exact congrArg (fun m : Mirror => { m with copyNext := none, copyLast := false }) e
  · rw [partnerLost_inSync h]
    unfold takesOver
    split
    · exact congrArg (fun m : Mirror => apartCopy { m with toTake := 1 }) (mrEvent_mir s 202 0x404 clsSafety)
    · rfl
  · rw [partnerLost_primary h]
    split
    · rw [isolates, mrTrips_mir]
      rfl
    · rfl
  · rw [partnerLost_conflict h]

theorem fallStale_router (s : State) : (fallStale s).router = s.router := by
  have fell : (fallen s).router = s.router := roleTo_router (copyStop s) rStale
  rw [fallStale_eq]
  split
  · rw [mrEvent_router, fell]
  · exact fell

theorem partnerLost_router (s : State) : (partnerLost s).router = s.router := by
  rcases mrRole_cases s with h | h | h | h | h
  · rw [partnerLost_stale h, mrEvent_router]
    rfl
  · rw [partnerLost_standby h, fallStale_router]
  · rw [partnerLost_inSync h]
    unfold takesOver
    split
    · exact mrEvent_router s 202 0x404 clsSafety
    · rfl
  · rw [partnerLost_primary h]
    split
    · rw [isolates, mrTrips_router]
      rfl
    · rfl
  · rw [partnerLost_conflict h]

/-! #### The boundary (15 R331, R333) -/

/-- The heartbeat of the boundary is sent. -/
def boundaryBeat (s : State) : State :=
  sendHeartbeat (onMir (atLeast s (nextBoundary s)) fun x => { x with hbM := x.hbM + 1 }) (nextBoundary s)

/-- The boundary begins to listen anew. -/
def boundaryPassed (s : State) : State :=
  onMir (boundaryBeat s) fun x => { x with heard := false, sincePrimary := x.sincePrimary + 1, portAge := min 3 (x.portAge + 1) }

/-- A miss is counted, and the third in a row is a partner lost. -/
def missCounted (s : State) : State :=
  let n := s.fl F.MR_STAT_MISSES 0
  if n = 3 then s
  else
    let s := s.setF F.MR_STAT_MISSES 0 (n + 1)
    if n = 2 then partnerLost s else s

theorem heartbeatBoundary_eq {s : State} (on : mrOn s = true) (epoch : s.epochOn = true) (left : s.mir.hbM < 8) :
    exec .heartbeatBoundary s = .next (if (boundaryBeat s).mir.heard then boundaryPassed s else missCounted (boundaryPassed s)) := by
  have goes : ¬ ((!mrOn s || !s.epochOn || decide (8 ≤ s.mir.hbM)) = true) := by simp [on, epoch, left]
  refine congrArg Host.Outcome.next ((if_neg goes).trans ?_)
  rfl

/-- The fields of a boundary. -/
def boundaryFields : List Fld := F.EP_NOW_VALUE :: routeFields

theorem onMir_mir (s : State) (f : Mirror → Mirror) : (onMir s f).mir = f s.mir := rfl

theorem onMir_router (s : State) (f : Mirror → Mirror) : (onMir s f).router = s.router := rfl

theorem boundaryBeat_kept (s : State) : FieldsKept (noteField boundaryFields) s (boundaryBeat s) := by
  have ahead : FieldsKept (noteField boundaryFields) s (atLeast s (nextBoundary s)) :=
    .setF (fun _ _ _ => rfl) (noteField_byId _) 0 _ rfl
  exact .trans ahead ((sendHeartbeat_kept _ _).weaken (noteField_of_subset (List.subset_cons_self _ _)))

theorem boundaryBeat_mir (s : State) : (boundaryBeat s).mir = { s.mir with hbM := s.mir.hbM + 1, hbSeq := s.mir.hbSeq + 1 } :=
  sendHeartbeat_mir ..

theorem boundaryBeat_beats {s : State} {n : Nat} (h : n = 32 ∨ n = 33) (up : lstate s n = 5) : Beats (boundaryBeat s) n := by
  refine sendHeartbeat_beats h ?_ _
  have ahead : FieldsKept (noteField boundaryFields) s (atLeast s (nextBoundary s)) :=
    .setF (fun _ _ _ => rfl) (noteField_byId _) 0 _ rfl
  exact (ahead.lstate rfl rfl n).trans up

theorem boundaryPassed_kept (s : State) : FieldsKept (noteField boundaryFields) s (boundaryPassed s) := boundaryBeat_kept s

theorem boundaryPassed_mir (s : State) : (boundaryPassed s).mir =
    { s.mir with hbM := s.mir.hbM + 1, hbSeq := s.mir.hbSeq + 1, heard := false, sincePrimary := s.mir.sincePrimary + 1,
                 portAge := min 3 (s.mir.portAge + 1) } := by
  rw [boundaryPassed, onMir_mir, boundaryBeat_mir]

theorem boundaryPassed_beats {s : State} {n : Nat} (h : n = 32 ∨ n = 33) (up : lstate s n = 5) : Beats (boundaryPassed s) n :=
  (Waits.of_router (onMir_router ..)).beats (boundaryBeat_beats h up)

/-- The state in which the third miss in a row is counted. -/
def missed (s : State) : State := s.setF F.MR_STAT_MISSES 0 (s.fl F.MR_STAT_MISSES 0 + 1)

theorem missed_side (s : State) : MirSide [F.MR_STAT_MISSES] s (missed s) := .setF (.refl _ s) 0 _ rfl

theorem missCounted_kept (s : State) : FieldsKept (fun f => hearField f || noteField [F.MR_STAT_MISSES] f) s (missCounted s) := by
  have count : FieldsKept (fun f => hearField f || noteField [F.MR_STAT_MISSES] f) s (missed s) :=
    (missed_side s).fl.weaken fun f hf => (Bool.or_eq_false_iff.mp hf).2
  have lost : FieldsKept (fun f => hearField f || noteField [F.MR_STAT_MISSES] f) s (partnerLost (missed s)) :=
    count.trans ((partnerLost_kept _).weaken fun f hf => (Bool.or_eq_false_iff.mp hf).1)
  exact .ite (fun _ _ _ => rfl) (.ite lost count)

theorem missCounted_mir (s : State) : apartCopy (missCounted s).mir = apartCopy s.mir := by
  unfold missCounted
  dsimp only
  split
  · rfl
  · split
    · exact partnerLost_mir (missed s)
    · rfl

theorem missCounted_router (s : State) : (missCounted s).router = s.router := by
  unfold missCounted
  dsimp only
  split
  · rfl
  · split
    · exact partnerLost_router (missed s)
    · rfl

theorem missCounted_counts (h : s.fl F.MR_STAT_MISSES 0 < 3) :
    (missCounted s).fl F.MR_STAT_MISSES 0 = s.fl F.MR_STAT_MISSES 0 + 1 := by
  have counted : (missed s).fl F.MR_STAT_MISSES 0 = s.fl F.MR_STAT_MISSES 0 + 1 :=
    (State.fl_setF_same ..).trans (Nat.mod_eq_of_lt (Nat.lt_of_lt_of_eq (Nat.succ_lt_succ h) (by decide)))
  refine Eq.trans (congrArg (fun t : State => t.fl F.MR_STAT_MISSES 0) (if_neg (Nat.ne_of_lt h))) ?_
  split
  · exact (partnerLost_kept (missed s) F.MR_STAT_MISSES 0 rfl).trans counted
  · exact counted

theorem missCounted_third (h : s.fl F.MR_STAT_MISSES 0 = 2) : missCounted s = partnerLost (missed s) :=
  (if_neg (by rw [h]; decide)).trans (if_pos h)

theorem mrRole_missed (s : State) : mrRole (missed s) = mrRole s := (missed_side s).fl F.MR_STAT_ROLE 0 rfl

theorem missCounted_inSync (h : s.fl F.MR_STAT_MISSES 0 = 2) (role : mrRole s = 2) : (missCounted s).mir.toTake = 1 := by
  rw [missCounted_third h, partnerLost_inSync ((mrRole_missed s).trans role)]
  rfl

theorem missCounted_standby (h : s.fl F.MR_STAT_MISSES 0 = 2) (role : mrRole s = 1) :
    mrRole (missCounted s) = 0 ∧ signalled s (missCounted s) 203 := by
  have role := (mrRole_missed s).trans role
  rw [missCounted_third h, partnerLost_standby role]
  exact ⟨mrRole_fallStale _, signalled_since (missed_side s).fl rfl rfl (fallStale_signals (.inl role))⟩

theorem missCounted_primary (h : s.fl F.MR_STAT_MISSES 0 = 2) (role : mrRole s = 3) (last : s.mir.lastRole = 2) :
    (missCounted s).fb F.MR_STAT_ISOLATED 0 = true ∧ bitAt ((missCounted s).fl F.KT_TRIGSTAT_RAISED 0) 10 = true ∧
      signalled s (missCounted s) 202 := by
  have here : (copyStop (missed s)).mir.lastRole = rInSync := last
  rw [missCounted_third h, partnerLost_primary ((mrRole_missed s).trans role), if_pos here]
  have shown : MirSide [F.MR_STAT_MISSES, F.MR_STAT_COPYING, F.MR_STAT_ISOLATED] s ((copyStop (missed s)).setB F.MR_STAT_ISOLATED 0 true) :=
    .setB (.trans ((missed_side s).widen (by simp)) ((copyStop_side _).widen (by simp))) 0 true rfl
  refine ⟨?_, mrTrips_raised _ _ _ (by decide), mrTrips_signals shown.fl rfl rfl _ _ _⟩
  rw [isolates, (mrTrips_kept _ _ _ _).fb _ _ rfl]
  exact State.fb_setB_same _ F.MR_STAT_ISOLATED 0 true (by decide)

/-! #### The Kettle's heartbeat (15 R332) -/

theorem degradedHeartbeat_sends (up : portUp s 40 = true) (ver : mrVer s = 0x12)
    (due : computeDown s = true ∨ boundaryMissed s = true ∨ s.fb F.KT_SUPPLY_CARRIED 0 = true) :
    (∃ x ∈ outQ (degradedHeartbeat s) 40, x.k.cmd = 11 ∧ x.k.sub.toNat = 5) ∧
      (degradedHeartbeat s).mir = { s.mir with hbSeq := s.mir.hbSeq + 1 } ∧ (degradedHeartbeat s).mem = s.mem := by
  have goes : ((s.fb F.KT_SUPPLY_CARRIED 0 || computeDown s || boundaryMissed s) &&
      (mrVer s == 0x12 || (s.fb F.KT_SUPPLY_CARRIED 0 && mrVer s == 0x11))) = true := by
    rcases due with due | due | due <;> simp [due, ver]
  have e : degradedHeartbeat s = _ := if_pos goes
  rw [e]
  generalize hbPayload s _ _ _ _ _ _ = payload
  have only := sendPorts_only s payload
  have lane : (∃ n, (n = 32 ∨ n = 33) ∧ lstate s n = 5) := by
    have either : lstate s 32 = 5 ∨ lstate s 33 = 5 := by simpa [portUp, portMirror] using up
    exact either.elim (fun h => ⟨32, .inl rfl, h⟩) fun h => ⟨33, .inr rfl, h⟩
  obtain ⟨n, hn, hup⟩ := lane
  obtain ⟨x, mem, -, rest⟩ := sendPorts_beats hn hup payload
  exact ⟨⟨x, mem, rest⟩, congrArg (fun m : Mirror => { m with hbSeq := m.hbSeq + 1 }) only.mir, only.mem⟩

/-! #### Rollback and handover (15 R334, R335, R338) -/

theorem undo_zero (s : State) : undo s 0 =
    raiseSource (onMir ((s.setF F.MR_JFILL_RECORDS 0 0).setB F.MR_STAT_ROLLBACK 0 false) fun m => { m with selfDue := 1 }) 201 := rfl

/-- The end of a rollback. -/
theorem undo_ends (s : State) : (undo s 0).fb F.MR_STAT_ROLLBACK 0 = false ∧ (undo s 0).fl F.MR_JFILL_RECORDS 0 = 0 ∧
    (undo s 0).mir.selfDue = 1 ∧ signalled s (undo s 0) 201 ∧ (undo s 0).mem = s.mem := by
  let x := onMir ((s.setF F.MR_JFILL_RECORDS 0 0).setB F.MR_STAT_ROLLBACK 0 false) fun m => { m with selfDue := 1 }
  have side : MirSide [F.MR_JFILL_RECORDS, F.MR_STAT_ROLLBACK] s x := .onMir (.setB (.setF (.refl _ s) 0 0 rfl) 0 false rfl) _
  have told := raiseSource_side [] x 201
  rw [undo_zero]
  refine ⟨?_, ?_, ?_, signalled_raiseSource side.fl 201 rfl rfl, told.mem.trans side.mem⟩
  · rw [told.fb _ _ rfl]
    exact State.fb_setB_same _ F.MR_STAT_ROLLBACK 0 false (by decide)
  · rw [told.fl _ _ rfl]
    show ((s.setF F.MR_JFILL_RECORDS 0 0).setB F.MR_STAT_ROLLBACK 0 false).fl F.MR_JFILL_RECORDS 0 = 0
    rw [State.fl_setB_id _ _ _ _ (by decide), State.fl_setF_same]
    rfl
  · exact congrArg Mirror.selfDue (raiseSource_mir x 201)

/-! `undoStep` with the reading of memory made opaque, which the kernel would evaluate. -/

theorem undoStep_waits {n : Nat} (waits : gateWaits s (journalAt s n) 80 = true) (rest : State → State) :
    undoStep s n rest = askWake s (journalAt s n) 80 := by
  obtain ⟨reads, same⟩ : ∃ reads, reads = dmaRead := ⟨_, rfl⟩
  delta undoStep
  rw [← same]
  exact if_pos waits

theorem undoStep_held {n : Nat} {r : List Byte} (ready : gateWaits s (journalAt s n) 80 = false)
    (read : dmaRead s 4 none (journalAt s n) 80 = (r, u)) (free : gateWaits u (bytesNat (r.take 8)) 64 = false) (rest : State → State) :
    undoStep s n rest = rest ((dmaWrite u 4 none (bytesNat (r.take 8)) (r.drop 16)).setF F.MR_JFILL_RECORDS 0 n) := by
  have busy : ¬ gateWaits s (journalAt s n) 80 = true := by rw [ready]; decide
  have held : ¬ gateWaits u (bytesNat (r.take 8)) 64 = true := by rw [free]; decide
  obtain ⟨reads, same⟩ : ∃ reads, reads = dmaRead := ⟨_, rfl⟩
  delta undoStep
  rw [← same] at read ⊢
  dsimp only
  rw [if_neg busy, read]
  exact if_neg held

theorem rollback_begins (h : s.fb F.MR_STAT_ROLLBACK 0 = true) :
    exec .rollbackComplete s = .next (undo s (s.fl F.MR_JFILL_RECORDS 0)) := by
  have e : exec .rollbackComplete s = execRollbackComplete s := rfl
  rw [e, execRollbackComplete, if_pos h]

theorem rollback_waits {n : Nat} (h : s.fb F.MR_STAT_ROLLBACK 0 = true) (more : s.fl F.MR_JFILL_RECORDS 0 = n + 1)
    (waits : gateWaits s (journalAt s n) 80 = true) : exec .rollbackComplete s = .next (askWake s (journalAt s n) 80) := by
  rw [rollback_begins h, more, undo_succ, undoStep_waits waits]

theorem rollback_undoes {n : Nat} {r : List Byte} (h : s.fb F.MR_STAT_ROLLBACK 0 = true) (more : s.fl F.MR_JFILL_RECORDS 0 = n + 1)
    (ready : gateWaits s (journalAt s n) 80 = false) (read : dmaRead s 4 none (journalAt s n) 80 = (r, u))
    (free : gateWaits u (bytesNat (r.take 8)) 64 = false) : exec .rollbackComplete s =
      .next (undo ((dmaWrite u 4 none (bytesNat (r.take 8)) (r.drop 16)).setF F.MR_JFILL_RECORDS 0 n) n) := by
  rw [rollback_begins h, more, undo_succ, undoStep_held ready read free]

theorem rollback_ends (h : s.fb F.MR_STAT_ROLLBACK 0 = true) (none : s.fl F.MR_JFILL_RECORDS 0 = 0) :
    exec .rollbackComplete s = .next (undo s 0) := by
  rw [rollback_begins h, none]

theorem roleInfo_signals (s : State) (r : Nat) : signalled s (roleInfo s r) 200 := (roleTo_side s r).signalled _ _ _ rfl rfl

/-- The primary that has handed over is STALE, and still writes its regions until the tick. -/
def handedOver (s : State) : State := onMir (roleInfo (copyStop s) rStale) fun m => { m with handover := 3 }

theorem handedOver_gives (s : State) : mrRole (handedOver s) = 0 ∧ (handedOver s).mir.handover = 3 ∧ signalled s (handedOver s) 200 ∧
    (handedOver s).mem = s.mem := by
  have role := mrRole_roleInfo (copyStop s) (r := rStale) (by decide)
  have told : signalled s (roleInfo (copyStop s) rStale) 200 := signalled_since (copyStop_side s).fl rfl rfl
    (roleInfo_signals (copyStop s) rStale)
  have mem := (roleInfo_side (copyStop s) rStale).mem.trans (copyStop_side s).mem
  unfold handedOver
  generalize roleInfo (copyStop s) rStale = y at role told mem ⊢
  exact ⟨role, rfl, told, mem⟩

theorem handoverAckTimeout_gives (role : mrRole s = 3) (asked : s.mir.handover = 2) (late : 2 ≤ s.mir.hoTicks) :
    Gives .handoverAckTimeout s fun t => t.mir.handover = 0 ∧ t.fb F.MR_STAT_ISOLATED 0 = true ∧
      bitAt (t.fl F.KT_TRIGSTAT_RAISED 0) 10 = true ∧ signalled s t 202 ∧ t.mem = s.mem := by
  let x := (onMir s fun m => { m with handover := 0 }).setB F.MR_STAT_ISOLATED 0 true
  have side : MirSide [F.MR_STAT_ISOLATED] s x := .setB (.onMir (.refl _ s) _) 0 true rfl
  have run : exec .handoverAckTimeout s = .next (mrTrips x 202 0x404 10) := congrArg Host.Outcome.next (if_pos ⟨role, asked, late⟩)
  refine ⟨_, run, by rw [mrTrips_mir]; rfl, ?_, mrTrips_raised _ _ _ (by decide), mrTrips_signals side.fl rfl rfl _ _ _,
    (mrTrips_mem ..).trans side.mem⟩
  rw [(mrTrips_kept _ _ _ _).fb _ _ rfl]
  exact State.fb_setB_same _ F.MR_STAT_ISOLATED 0 true (by decide)

/-! #### MR_CFG (15 R320) -/

theorem OnlyPower.eq (h : OnlyPower s t) : t = { s with pwr := t.pwr } := by
  have e := congrArg (fun x : State => { x with pwr := t.pwr }) h
  exact e

theorem OnlyPower.regions (h : OnlyPower s t) : regionsGood t = regionsGood s := by
  rw [h.eq]
  rfl

/-- The fields of MR_CFG. -/
def mrCfg : List Fld :=
  [F.MR_CFG_EN, F.MR_CFG_ACCEPT, F.MR_CFG_FABHB, F.MR_CFG_PARTNER, F.MR_CFG_PART, F.MR_CFG_VERLIM]

/-- MR_CFG as it is written. -/
def mrConfigured (s : State) (w : Wr) : State := verlimLow (putFields s w mrCfg 0 0)

theorem mrConfigured_shows {q : Requester} {v : Word} {f : Fld} (hf : f ∈ mrCfg) (hr : replaced f = true) :
    (mrConfigured s (.full q 0xE00600000 v)).fl f 0 = bitsOf v f := by
  have apart : F.MR_VER_LOW.id ≠ f.id := by revert f; decide
  exact (State.fl_setF_id _ _ _ _ apart).trans (putFields_replaces (by decide) hf hr)

theorem mrOn_configured (s : State) (q : Requester) (v : Word) :
    mrOn (mrConfigured s (.full q 0xE00600000 v)) = (bitsOf v F.MR_CFG_EN % 2 == 1) := by
  rw [mrOn, State.fb, mrConfigured_shows (by decide) (by decide)]

/-- A mirror port begins to train, from an empty record. -/
def portTrains (s : State) (n : Nat) : State := linkTrain (putLk s n {}) n 1 true

/-- A mirror port stops. -/
def portStops (s : State) (n : Nat) : State := putLk (setLink (leaveAll s n) n 0 0) n {}

theorem portTrains_own (s : State) (n : Nat) : lstate (portTrains s n) n = 1 := linkTrain_lstate (by decide)

theorem portTrains_other (s : State) {n m : Nat} (hn : n < 34) (hm : m < 34) (h : m ≠ n) : lstate (portTrains s n) m = lstate s m := by
  unfold portTrains linkTrain
  exact (lstate_setLink_ne hn hm h).trans ((lstate_putLk ..).trans ((lstate_unqueue ..).trans ((lstate_leaveAll ..).trans (lstate_putLk ..))))

theorem portTrains_kept (s : State) (n : Nat) : FieldsKept linkField s (portTrains s n) :=
  .trans (.of_flds (putLk_flds s n {})) (linkTrain_linkKept _ n 1 true)

theorem portStops_own (s : State) (n : Nat) : lstate (portStops s n) n = 0 :=
  (lstate_putLk ..).trans (lstate_setLink_same (by decide))

theorem portStops_other (s : State) {n m : Nat} (hn : n < 34) (hm : m < 34) (h : m ≠ n) : lstate (portStops s n) m = lstate s m :=
  (lstate_putLk ..).trans ((lstate_setLink_ne hn hm h).trans (lstate_leaveAll ..))

theorem portStops_kept (s : State) (n : Nat) : FieldsKept linkField s (portStops s n) := by
  have left : FieldsKept linkField s (leaveAll s n) := .trans (.of_flds (leaveStream_flds s n)) (leaveBond_linkKept _ n)
  exact (left.trans (setLink_linkKept _ n 0 0)).trans (.of_flds (putLk_flds _ n {}))

/-- Both mirror ports begin to train. -/
def portsTrain (s : State) : State := [32, 33].foldl portTrains s

theorem portsTrain_eq (s : State) : portsTrain s = portTrains (portTrains s 32) 33 := rfl

/-- Both mirror ports stop. -/
def portsStop (s : State) : State := [32, 33].foldl portStops s

theorem portsStop_eq (s : State) : portsStop s = portStops (portStops s 32) 33 := rfl

theorem portsTrain_states (s : State) : lstate (portsTrain s) 32 = 1 ∧ lstate (portsTrain s) 33 = 1 := by
  rw [portsTrain_eq]
  exact ⟨by rw [portTrains_other _ (by decide) (by decide) (by decide), portTrains_own], portTrains_own ..⟩

theorem portsTrain_kept (s : State) : FieldsKept linkField s (portsTrain s) := .foldl portTrains_kept _ s

theorem portsStop_states (s : State) : lstate (portsStop s) 32 = 0 ∧ lstate (portsStop s) 33 = 0 := by
  rw [portsStop_eq]
  exact ⟨by rw [portStops_other _ (by decide) (by decide) (by decide), portStops_own], portStops_own ..⟩

theorem portsStop_kept (s : State) : FieldsKept linkField s (portsStop s) := .foldl portStops_kept _ s

/-- An enabled unit begins anew, and its ports train. -/
def mrBegins (s : State) : State :=
  portsTrain (onMir s fun m => { m with sincePrimary := 0, heard := false, handover := 0, portAge := 3 })

theorem mrBegins_states (s : State) : lstate (mrBegins s) 32 = 1 ∧ lstate (mrBegins s) 33 = 1 := portsTrain_states _

theorem mrBegins_kept (s : State) : FieldsKept linkField s (mrBegins s) := portsTrain_kept _

/-- What MR_CFG does once its fields are written. -/
def mrSwitched (s : State) (was : Bool) : State :=
  if mrOn s && !was then mrBegins s
  else if was && !mrOn s then portsStop s
  else s

theorem mrcfgWrite_eq (s : State) (w : Wr) : mrcfgWrite s w = atMachine s w fun s =>
    if w.touches F.MR_CFG_EN && w.on F.MR_CFG_EN && !regionsGood s then ignoreWarn (s.setB F.MR_STAT_CFGERR 0 true) w
    else mrSwitched (mrConfigured s w) (mrOn s) := by
  unfold mrcfgWrite
  refine congrArg (atMachine s w) (funext fun s => ?_)
  dsimp only
  unfold mrSwitched mrBegins portsTrain portsStop
  rfl

section
variable {q : Requester} {v : Word}

/-- A write of MR_CFG by the machine level, where the unit answers. -/
theorem mrCfgWrite_runs (ho : openAt s 0xE00600000) (hm : isMachine s q = true) : ∃ t, OnlyPower s t ∧
    exec (.mrCfgWrite q v) s = .next (if (bitsOf v F.MR_CFG_EN % 2 == 1) && !regionsGood t
      then ignoreWarn (t.setB F.MR_STAT_CFGERR 0 true) (.full q 0xE00600000 v)
      else mrSwitched (mrConfigured t (.full q 0xE00600000 v)) (mrOn t)) := by
  have hg := target_reg s (off := 0xE00600000) (0xE00000000, 0xE008FFFFF) (by decide) (by decide)
  obtain ⟨t, power, run⟩ := rowWrite_open hg ho q v mrcfgWrite
  have machine : isMachine t q = true := (isMachine_congr power.cpus q).trans hm
  refine ⟨t, power, ?_⟩
  have e : exec (.mrCfgWrite q v) s = .next (mrcfgWrite t (.full q 0xE00600000 v)) := run
  rw [e, mrcfgWrite_eq, atMachine_of machine, Wr.touches_full _ _ _ _ (by decide), Wr.on, Wr.bits_full, Bool.true_and]

theorem mrCfgWrite_refused (ho : openAt s 0xE00600000) (hm : isMachine s q = true) (hen : bitsOf v F.MR_CFG_EN = 1)
    (bad : regionsGood s = false) : Gives (.mrCfgWrite q v) s fun t => t.fb F.MR_STAT_CFGERR 0 = true ∧ mrOn t = mrOn s ∧
      t.links = s.links := by
  obtain ⟨t, power, run⟩ := mrCfgWrite_runs (v := v) ho hm
  rw [if_pos (by rw [hen, power.regions, bad]; rfl)] at run
  have warned := ignoreWarn_side (s := t.setB F.MR_STAT_CFGERR 0 true) [] (.full q 0xE00600000 v)
  refine ⟨_, run, ?_, ?_, (dregs_links ..).trans power.links⟩
  · rw [warned.fb _ _ rfl]
    exact State.fb_setB_same t F.MR_STAT_CFGERR 0 true (by decide)
  · rw [mrOn, warned.fb _ _ rfl, State.fb_setB_id _ _ _ _ (by decide), power.fb]
    rfl

theorem mrCfgWrite_enables (ho : openAt s 0xE00600000) (hm : isMachine s q = true) (hen : bitsOf v F.MR_CFG_EN = 1)
    (good : regionsGood s = true) (was : ¬ mrOn s = true) : Gives (.mrCfgWrite q v) s fun t => mrOn t = true ∧
      t.fl F.MR_CFG_PARTNER 0 = bitsOf v F.MR_CFG_PARTNER ∧ lstate t 32 = 1 ∧ lstate t 33 = 1 := by
  obtain ⟨t, power, run⟩ := mrCfgWrite_runs (v := v) ho hm
  rw [if_neg (by rw [power.regions, good]; simp)] at run
  have before : mrOn t = false := (power.fb _ _).trans (Bool.eq_false_iff.mpr was)
  have on := mrOn_configured t q v
  have partner := mrConfigured_shows (s := t) (q := q) (v := v) (f := F.MR_CFG_PARTNER) (by decide) (by decide)
  rw [hen] at on
  generalize mrConfigured t (.full q 0xE00600000 v) = u at run on partner
  have trains : mrSwitched u (mrOn t) = mrBegins u := if_pos (by rw [on, before]; rfl)
  rw [trains] at run
  have kept := mrBegins_kept u
  obtain ⟨first, second⟩ := mrBegins_states u
  generalize mrBegins u = x at run kept first second
  exact ⟨_, run, (kept.fb _ _ rfl).trans on, (kept _ _ rfl).trans partner, first, second⟩

theorem mrCfgWrite_disables (ho : openAt s 0xE00600000) (hm : isMachine s q = true) (hen : ¬ bitsOf v F.MR_CFG_EN = 1)
    (was : mrOn s = true) : Gives (.mrCfgWrite q v) s fun t => mrOn t = false ∧ lstate t 32 = 0 ∧ lstate t 33 = 0 := by
  obtain ⟨t, power, run⟩ := mrCfgWrite_runs (v := v) ho hm
  have clear : bitsOf v F.MR_CFG_EN = 0 := by
    have bit : bitsOf v F.MR_CFG_EN < 2 := bitsOf_lt ..
    omega
  rw [if_neg (by rw [clear]; simp)] at run
  have before : mrOn t = true := (power.fb _ _).trans was
  have on := mrOn_configured t q v
  rw [clear] at on
  generalize mrConfigured t (.full q 0xE00600000 v) = u at run on
  have stops : mrSwitched u (mrOn t) = portsStop u := (if_neg (by rw [on]; simp)).trans (if_pos (by rw [on, before]; rfl))
  rw [stops] at run
  obtain ⟨first, second⟩ := portsStop_states u
  exact ⟨_, run, ((portsStop_kept u).fb _ _ rfl).trans on, first, second⟩

/-! #### MR_CTL (15 R334, R336, R338) -/

/-- The four commands of MR_CTL. -/
def mrCommands : List Fld := [F.MR_CTL_CLAIM, F.MR_CTL_OFFER, F.MR_CTL_HANDOVER, F.MR_CTL_ALONE]

/-- A write of MR_CTL with the command `f` alone. -/
def OnlyCommand (v : Word) (f : Fld) : Prop := ∀ g ∈ mrCommands, bitsOf v g = if g = f then 1 else 0

/-- What a copy is offered. -/
def mrOffer (s : State) : State := if mrRole s == rStale && mrOn s then sendMirror (copyStop s) 6 [] else s

/-- The commands of MR_CTL, in order. -/
def mrControlled (s : State) (w : Wr) : State :=
  let s := if w.on F.MR_CTL_CLAIM then mrClaim s w else s
  let s := if w.on F.MR_CTL_OFFER && mrRole s == rStale && mrOn s then sendMirror (copyStop s) 6 [] else s
  let s := if w.on F.MR_CTL_HANDOVER then mrHandover s else s
  if w.on F.MR_CTL_ALONE then mrAlone s w else s

theorem mrctlWrite_eq (s : State) (w : Wr) : mrctlWrite s w =
    atRing0 s w fun s => if w.bits F.MR_CTL_KEY ≠ 0x4D52 then ignoreWarn s w else mrControlled s w := rfl

/-- A write of MR_CTL at ring 0, where the unit answers. -/
theorem mrCtl_runs (ho : openAt s 0xE00600008) (hr : isRing0 s q = true) : ∃ t, OnlyPower s t ∧
    rowWrite q 0xE00600008 v mrctlWrite s = .next (if bitsOf v F.MR_CTL_KEY ≠ 0x4D52
      then ignoreWarn t (.full q 0xE00600008 v) else mrControlled t (.full q 0xE00600008 v)) := by
  have hg := target_reg s (off := 0xE00600008) (0xE00000000, 0xE008FFFFF) (by decide) (by decide)
  obtain ⟨t, power, run⟩ := rowWrite_open hg ho q v mrctlWrite
  have ring : isRing0 t q = true := (isRing0_congr power.cpus q).trans hr
  refine ⟨t, power, run.trans ?_⟩
  rw [mrctlWrite_eq, atRing0_of ring, Wr.bits_full]

theorem mrCtl_keyed (ho : openAt s 0xE00600008) (hr : isRing0 s q = true) (key : bitsOf v F.MR_CTL_KEY = 0x4D52) : ∃ t,
    OnlyPower s t ∧ rowWrite q 0xE00600008 v mrctlWrite s = .next (mrControlled t (.full q 0xE00600008 v)) := by
  obtain ⟨t, power, run⟩ := mrCtl_runs (v := v) ho hr
  exact ⟨t, power, run.trans (congrArg _ (if_neg (not_not_intro key)))⟩

theorem OnlyCommand.on {f : Fld} (h : OnlyCommand v f) (off : Nat) {g : Fld} (hg : g ∈ mrCommands) :
    (Wr.full q off v).on g = decide (g = f) := by
  rw [Wr.on, Wr.bits_full, h g hg]
  split
  · next e => rw [decide_eq_true e]; rfl
  · next e => rw [decide_eq_false e]; rfl

theorem mrControlled_claim (h : OnlyCommand v F.MR_CTL_CLAIM) (s : State) :
    mrControlled s (.full q 0xE00600008 v) = mrClaim s (.full q 0xE00600008 v) := by
  unfold mrControlled
  rw [h.on _ (by decide), h.on _ (by decide), h.on _ (by decide), h.on _ (by decide)]
  rfl

theorem mrControlled_offer (h : OnlyCommand v F.MR_CTL_OFFER) (s : State) : mrControlled s (.full q 0xE00600008 v) = mrOffer s := by
  unfold mrControlled
  rw [h.on _ (by decide), h.on _ (by decide), h.on _ (by decide), h.on _ (by decide)]
  rfl

theorem mrControlled_handover (h : OnlyCommand v F.MR_CTL_HANDOVER) (s : State) :
    mrControlled s (.full q 0xE00600008 v) = mrHandover s := by
  unfold mrControlled
  rw [h.on _ (by decide), h.on _ (by decide), h.on _ (by decide), h.on _ (by decide)]
  rfl

theorem mrControlled_alone (h : OnlyCommand v F.MR_CTL_ALONE) (s : State) :
    mrControlled s (.full q 0xE00600008 v) = mrAlone s (.full q 0xE00600008 v) := by
  unfold mrControlled
  rw [h.on _ (by decide), h.on _ (by decide), h.on _ (by decide), h.on _ (by decide)]
  rfl

/-- A STALE device that claims the role of primary, with the generation after the highest heard. -/
def claimed (s : State) : State := roleInfo ((copyStop s).setF F.MR_STAT_GEN 0 (s.mir.genHeard + 1)) rPrimary

/-- A claim answers an offer that waits. -/
def offerAnswered (s : State) : State := if s.mir.offerWaiting && s.fb F.MR_CFG_ACCEPT 0 then copyBegin s else s

theorem mrClaim_claims (w : Wr) (role : mrRole s = 0) (on : mrOn s = true) (alone : 3 ≤ s.mir.sincePrimary) :
    mrClaim s w = offerAnswered (claimed s) := by
  have goes : (mrRole s == rStale && mrOn s) = true := by rw [role, on]; rfl
  exact (if_pos goes).trans (if_pos alone)

theorem mrClaim_early (w : Wr) (role : mrRole s = 0) (on : mrOn s = true) (heard : s.mir.sincePrimary < 3) :
    mrClaim s w = ignoreWarn s w := by
  have goes : (mrRole s == rStale && mrOn s) = true := by rw [role, on]; rfl
  exact (if_pos goes).trans (if_neg (Nat.not_le.mpr heard))

theorem copyBegin_side (s : State) : MirSide [F.MR_STAT_COPYING] s (copyBegin s) := .ite (.onMir (.setB (.refl _ s) 0 true rfl) _) (.refl _ s)

theorem offerAnswered_side (s : State) : MirSide [F.MR_STAT_COPYING] s (offerAnswered s) := .ite (copyBegin_side s) (.refl _ s)

theorem offerAnswered_stays (s : State) : PendingStays s (offerAnswered s) := by
  have shown : PendingStays s (s.setB F.MR_STAT_COPYING 0 true) := .setF (.refl s) F.MR_STAT_COPYING 0 _ (by decide)
  exact .ite (.ite (shown.trans (.of_flds rfl)) (.refl s)) (.refl s)

theorem claimed_gives (s : State) : mrRole (claimed s) = 3 ∧ (claimed s).fl F.MR_STAT_GEN 0 = (s.mir.genHeard + 1) % 2 ^ 16 ∧
    signalled s (claimed s) 200 ∧ (claimed s).mem = s.mem := by
  let x := (copyStop s).setF F.MR_STAT_GEN 0 (s.mir.genHeard + 1)
  have side : MirSide [F.MR_STAT_COPYING, F.MR_STAT_GEN] s x := .setF ((copyStop_side s).widen (by simp)) 0 _ rfl
  have info := roleInfo_side x rPrimary
  exact ⟨mrRole_roleInfo x (by decide), (info.fl _ _ rfl).trans (State.fl_setF_same ..),
    signalled_since side.fl rfl rfl (roleInfo_signals x rPrimary), info.mem.trans side.mem⟩

theorem ignoreWarn_mir (s : State) (w : Wr) : (ignoreWarn s w).mir = s.mir := dregs_mir ..

theorem ignoreWarn_router (s : State) (w : Wr) : (ignoreWarn s w).router = s.router := dregs_router ..

/-- A heartbeat that came by a port. -/
def beatIn (s : State) (k : Packet) : State :=
  heartbeat s (word8 k.payload 0 % 8) (word8 k.payload 0 / 2 ^ 16 % 2 ^ 16) (bitAt (word8 k.payload 0) 8 && mrVer s == 0x12)
    (bitAt (word8 k.payload 0) 9) false

theorem beatIn_degraded {k : Packet} (h : bitAt (word8 k.payload 0) 8 = true ∧ mrVer s = 0x12) :
    beatIn s k = beatNoted s (word8 k.payload 0 % 8) (word8 k.payload 0 / 2 ^ 16 % 2 ^ 16) (bitAt (word8 k.payload 0) 9) :=
  (heartbeat_eq ..).trans (if_pos (by simp [h]))

theorem beatIn_plain {k : Packet} (h : ¬ (bitAt (word8 k.payload 0) 8 = true ∧ mrVer s = 0x12)) :
    beatIn s k = primaryHears (beatHeard (beatNoted s (word8 k.payload 0 % 8) (word8 k.payload 0 / 2 ^ 16 % 2 ^ 16)
      (bitAt (word8 k.payload 0) 9)) (word8 k.payload 0 % 8)) (word8 k.payload 0 % 8) :=
  (heartbeat_eq ..).trans (if_neg (by simpa using h))

theorem beatIn_shows (s : State) (k : Packet) : (beatIn s k).fl F.MR_STAT_PROLE 0 = word8 k.payload 0 % 8 ∧ (beatIn s k).mem = s.mem := by
  have noted := beatNoted_side s (word8 k.payload 0 % 8) (word8 k.payload 0 / 2 ^ 16 % 2 ^ 16) (bitAt (word8 k.payload 0) 9)
  have prole := beatNoted_prole s (word8 k.payload 0 % 8) (word8 k.payload 0 / 2 ^ 16 % 2 ^ 16) (bitAt (word8 k.payload 0) 9)
  rw [Nat.mod_mod] at prole
  by_cases h : bitAt (word8 k.payload 0) 8 = true ∧ mrVer s = 0x12
  · rw [beatIn_degraded h]
    exact ⟨prole, noted.mem⟩
  · rw [beatIn_plain h]
    generalize beatNoted s _ _ _ = x at noted prole ⊢
    have heard := beatHeard_side x (word8 k.payload 0 % 8)
    exact ⟨(primaryHears_kept _ _ F.MR_STAT_PROLE 0 rfl).trans ((heard.fl _ _ rfl).trans prole),
      (primaryHears_mem ..).trans (heard.mem.trans noted.mem)⟩

theorem beatIn_kept {k : Packet} (h : bitAt (word8 k.payload 0) 8 = true ∧ mrVer s = 0x12) :
    (beatIn s k).fl F.MR_STAT_MISSES 0 = s.fl F.MR_STAT_MISSES 0 ∧ (beatIn s k).mir.heard = s.mir.heard ∧
      mrRole (beatIn s k) = mrRole s := by
  rw [beatIn_degraded h]
  have noted := beatNoted_side s (word8 k.payload 0 % 8) (word8 k.payload 0 / 2 ^ 16 % 2 ^ 16) (bitAt (word8 k.payload 0) 9)
  exact ⟨noted.fl _ _ rfl, beatNoted_heard .., noted.fl F.MR_STAT_ROLE 0 rfl⟩

/-- A heartbeat that is not DEGRADED is heard, and two primaries are in CONFLICT. -/
theorem beatIn_heard {k : Packet} (h : ¬ (bitAt (word8 k.payload 0) 8 = true ∧ mrVer s = 0x12)) :
    (beatIn s k).fl F.MR_STAT_MISSES 0 = 0 ∧ (beatIn s k).mir.heard = true ∧
      (mrRole s ≠ 3 ∨ word8 k.payload 0 % 8 ≠ 3 → mrRole (beatIn s k) = mrRole s) ∧
      (mrRole s = 3 → word8 k.payload 0 % 8 = 3 → mrRole (beatIn s k) = 4 ∧
        bitAt ((beatIn s k).fl F.KT_TRIGSTAT_RAISED 0) 9 = true ∧ signalled s (beatIn s k) 206 ∧
        (bitAt (s.fl F.KT_TRIGSTAT_RAISED 0) 9 = false → (beatIn s k).fb F.KT_SAFECTL_HELD 0 = true)) := by
  rw [beatIn_plain h]
  have noted := beatNoted_side s (word8 k.payload 0 % 8) (word8 k.payload 0 / 2 ^ 16 % 2 ^ 16) (bitAt (word8 k.payload 0) 9)
  generalize beatNoted s _ _ _ = x at noted ⊢
  generalize word8 k.payload 0 % 8 = r
  have side : MirSide [F.MR_STAT_PROLE, F.MR_STAT_MISSES] s (beatHeard x r) :=
    .trans (noted.widen (by simp)) ((beatHeard_side x r).widen (by simp))
  have misses : (beatHeard x r).fl F.MR_STAT_MISSES 0 = 0 := Eq.trans (State.fl_setF_same x F.MR_STAT_MISSES 0 0) (Nat.zero_mod _)
  have heard : (beatHeard x r).mir.heard = true := rfl
  generalize beatHeard x r = y at side misses heard ⊢
  have role : mrRole y = mrRole s := side.fl F.MR_STAT_ROLE 0 rfl
  refine ⟨(primaryHears_kept y r F.MR_STAT_MISSES 0 rfl).trans misses, (primaryHears_heard y r).trans heard, fun apart => ?_, ?_⟩
  · exact (primaryHears_role (by rwa [role])).trans role
  · rintro primary rfl
    obtain ⟨conflict, trigger, told, held⟩ := primaryHears_conflict (role.trans primary)
    rw [side.fl _ _ rfl] at held
    exact ⟨conflict, trigger, signalled_since side.fl rfl rfl told, held⟩

/-- A boundary, with what it sends and what a miss does. -/
theorem heartbeatBoundary_gives (on : mrOn s = true) (epoch : s.epochOn = true) (left : s.mir.hbM < 8) :
    Gives .heartbeatBoundary s fun t => (∀ n ∈ [32, 33], lstate s n = 5 → Beats t n) ∧ t.mir.heard = false ∧
      t.mir.hbM = s.mir.hbM + 1 ∧ t.mir.hbSeq = s.mir.hbSeq + 1 ∧
      (s.mir.heard = true → t.fl F.MR_STAT_MISSES 0 = s.fl F.MR_STAT_MISSES 0) ∧
      (s.mir.heard = false → s.fl F.MR_STAT_MISSES 0 < 3 → t.fl F.MR_STAT_MISSES 0 = s.fl F.MR_STAT_MISSES 0 + 1) ∧
      (s.mir.heard = false → s.fl F.MR_STAT_MISSES 0 = 2 → mrRole s = 2 → t.mir.toTake = 1) ∧
      (s.mir.heard = false → s.fl F.MR_STAT_MISSES 0 = 2 → mrRole s = 1 → mrRole t = 0 ∧ signalled s t 203) ∧
      (s.mir.heard = false → s.fl F.MR_STAT_MISSES 0 = 2 → mrRole s = 3 → s.mir.lastRole = 2 →
        t.fb F.MR_STAT_ISOLATED 0 = true ∧ bitAt (t.fl F.KT_TRIGSTAT_RAISED 0) 10 = true ∧ signalled s t 202) := by
  have run := heartbeatBoundary_eq on epoch left
  have heard : (boundaryBeat s).mir.heard = s.mir.heard := by rw [boundaryBeat_mir]
  have kept := boundaryPassed_kept s
  have mir := boundaryPassed_mir s
  have beats {n : Nat} (hn : n ∈ [32, 33]) (up : lstate s n = 5) : Beats (boundaryPassed s) n :=
    boundaryPassed_beats (by simpa using hn) up
  rw [heard] at run
  generalize boundaryPassed s = x at run kept mir beats
  have misses : x.fl F.MR_STAT_MISSES 0 = s.fl F.MR_STAT_MISSES 0 := kept _ _ rfl
  have role : mrRole x = mrRole s := kept F.MR_STAT_ROLE 0 rfl
  have last : x.mir.lastRole = s.mir.lastRole := by rw [mir]
  cases hh : s.mir.heard with
  | true =>
    rw [if_pos hh] at run
    exact ⟨_, run, fun _ hn up => beats hn up, by rw [mir], by rw [mir], by rw [mir], fun _ => misses, nofun, nofun, nofun, nofun⟩
  | false =>
    rw [if_neg (by rw [hh]; decide)] at run
    have same := (missCounted_mir x).trans (congrArg apartCopy mir)
    have waits : Waits x (missCounted x) := .of_router (missCounted_router x)
    refine ⟨_, run, fun _ hn up => waits.beats (beats hn up), congrArg Mirror.heard same, congrArg Mirror.hbM same,
      congrArg Mirror.hbSeq same, nofun, fun _ low => ?_, fun _ two hr => ?_, fun _ two hr => ?_, fun _ two hr was => ?_⟩
    · rw [missCounted_counts (by rwa [misses]), misses]
    · exact missCounted_inSync (misses.trans two) (role.trans hr)
    · obtain ⟨stale, told⟩ := missCounted_standby (misses.trans two) (role.trans hr)
      exact ⟨stale, signalled_since kept rfl rfl told⟩
    · obtain ⟨isolated, trigger, told⟩ := missCounted_primary (misses.trans two) (role.trans hr) (last.trans was)
      exact ⟨isolated, trigger, signalled_since kept rfl rfl told⟩

end

end

/-- Settles O45: heartbeats (`primaryHears_conflict`, `boundaryPassed_beats`, `missCounted_third`), the Kettle's
(`degradedHeartbeat_sends`), rollback (`undo_ends`), handover, MR_CFG (`mrSwitched`) and MR_CTL (`mrControlled`). -/
theorem mirrorRoles : Obligations.MirrorRoles := by
  intro s q v k m n on role misses came w degraded sends boundary trigger undone bit ctl only turnedAway cfg
  refine ⟨?_, ?_, ?_, ?_, ?_, ?_, ?_, ?_, ?_, ?_, ?_, ?_, ?_, ?_, ?_, ?_, ?_, ?_⟩
  · intro h
    exact gives_of rfl (CameIn.passes h (by decide) (beatIn · k)) (beatIn_shows (leaveBuffer s m k) k)
  · intro h hd
    exact gives_of rfl (CameIn.passes h (by decide) (beatIn · k)) (beatIn_kept (s := leaveBuffer s m k) hd)
  · intro h hd
    exact gives_of rfl (CameIn.passes h (by decide) (beatIn · k)) (beatIn_heard (s := leaveBuffer s m k) hd)
  · rintro ⟨on, epoch, left⟩
    exact heartbeatBoundary_gives on epoch left
  · intro up ver due
    exact ⟨_, rfl, degradedHeartbeat_sends up ver due⟩
  · intro hr old low
    have run : exec .commitMissing s = .next (fallStale s) := congrArg Host.Outcome.next (if_pos ⟨hr, old, low⟩)
    exact ⟨_, run, mrRole_fallStale s, fallStale_signals hr, (fallStale_side s).mem⟩
  · intro rollback
    exact ⟨fun none => ⟨_, rollback_ends rollback none, undo_ends s⟩, fun more waits => rollback_waits rollback more waits,
      fun more ready r u read free => rollback_undoes rollback more ready read free⟩
  · intro h hr asked
    have goes : mrRole (leaveBuffer s m k) = rPrimary ∧ (leaveBuffer s m k).mir.handover = 2 := ⟨hr, asked⟩
    exact gives_of rfl ((CameIn.passes h (by decide) _).trans (if_pos goes)) (handedOver_gives (leaveBuffer s m k))
  · intro hr asked late
    exact handoverAckTimeout_gives hr asked late
  · rintro ⟨ho, hm⟩ hen bad
    exact mrCfgWrite_refused ho hm hen bad
  · rintro ⟨ho, hm⟩ hen good was
    exact mrCfgWrite_enables ho hm hen good was
  · rintro ⟨ho, hm⟩ hen was
    exact mrCfgWrite_disables ho hm hen was
  · rintro ⟨ho, hr, key⟩ one stale on alone
    obtain ⟨t, power, run⟩ := mrCtl_keyed ho hr key
    have mir : t.mir = s.mir := power.mir
    rw [mrControlled_claim one, mrClaim_claims _ ((power.fl _ _).trans stale) ((power.fb _ _).trans on) (by rwa [mir])] at run
    obtain ⟨primary, gen, told, mem⟩ := claimed_gives t
    rw [mir] at gen
    generalize claimed t = x at run primary gen told mem
    have side := offerAnswered_side x
    refine ⟨_, run, (side.fl F.MR_STAT_ROLE 0 rfl).trans primary, (side.fl _ _ rfl).trans gen, ?_, side.mem.trans (mem.trans power.mem)⟩
    exact signalled_stays (signalled_since (FieldsKept.of_flds (k := fun _ => false) power.flds) rfl rfl told) (offerAnswered_stays x)
  · rintro ⟨ho, hr, key⟩ one stale on heard
    obtain ⟨t, power, run⟩ := mrCtl_keyed ho hr key
    have mir : t.mir = s.mir := power.mir
    rw [mrControlled_claim one, mrClaim_early _ ((power.fl _ _).trans stale) ((power.fb _ _).trans on) (by rwa [mir])] at run
    have warned := ignoreWarn_side (s := t) [] (.full q 0xE00600008 v)
    exact ⟨_, run, (warned.fl F.MR_STAT_ROLE 0 rfl).trans ((power.fl _ _).trans stale), (ignoreWarn_mir ..).trans mir⟩
  · rintro ⟨ho, hr, key⟩ one stale on
    obtain ⟨t, power, run⟩ := mrCtl_keyed ho hr key
    have goes : (mrRole t == rStale && mrOn t) = true := by
      have role : mrRole t = 0 := (power.fl _ _).trans stale
      have on : mrOn t = true := (power.fb _ _).trans on
      rw [role, on]
      rfl
    have offers : mrOffer t = sendMirror (copyStop t) 6 [] := if_pos goes
    rw [mrControlled_offer one, offers] at run
    obtain ⟨x, mem, cmd, hs, -⟩ := sendMirror_sends (s := copyStop t) (t := copyStop t) (sub := 6) (by decide) [] rfl
    refine ⟨_, run, ⟨x, mem, cmd, hs⟩, copyStop_stops t, ?_, power.mem⟩
    have stopped : (sendMirror (copyStop t) 6 []).mir = { t.mir with copyNext := none, copyLast := false } := rfl
    rw [stopped, power.mir]
  · rintro ⟨ho, hr, key⟩ one primary partner ver
    obtain ⟨t, power, run⟩ := mrCtl_keyed ho hr key
    have goes : mrRole t = rPrimary ∧ t.fl F.MR_STAT_PROLE 0 = rInSync ∧ mrVer t = 0x12 :=
      ⟨(power.fl _ _).trans primary, (power.fl _ _).trans partner, (power.fl _ _).trans ver⟩
    have asks : mrHandover t = onMir t fun m => { m with handover := 1 } := if_pos goes
    rw [mrControlled_handover one, asks] at run
    exact ⟨_, run, rfl, goes.1, power.flds⟩
  · rintro ⟨ho, hr, key⟩ hm one primary isolated
    obtain ⟨t, power, run⟩ := mrCtl_keyed ho hr key
    have machine : isMachine t q = true := (isMachine_congr power.cpus q).trans hm
    have goes : mrRole t = rPrimary ∧ t.fb F.MR_STAT_ISOLATED 0 = true := ⟨(power.fl _ _).trans primary, (power.fb _ _).trans isolated⟩
    have lifts : mrAlone t (.full q 0xE00600008 v) = clearTrigger (t.setB F.MR_STAT_ALONE 0 true) 10 :=
      (atMachine_of machine _).trans (if_pos goes)
    rw [mrControlled_alone one, lifts] at run
    refine ⟨_, run, ?_, bitAt_setBit _ _ 0 false (by decide), power.mir⟩
    rw [(clearTrigger_trip _ 10).fl.fb _ _ rfl]
    exact State.fb_setB_same t F.MR_STAT_ALONE 0 true (by decide)
  · intro cmd hcmd ho hr key
    have turned (he : exec cmd s = rowWrite q 0xE00600008 v mrctlWrite s) : Gives cmd s fun t => t.mir = s.mir ∧ mrRole t = role ∧
        t.router = s.router ∧ t.fl F.MR_STAT_ALONE 0 = s.fl F.MR_STAT_ALONE 0 := by
      obtain ⟨t, power, run⟩ := mrCtl_runs (v := v) ho hr
      rw [if_pos key] at run
      have warned := ignoreWarn_side (s := t) [] (.full q 0xE00600008 v)
      exact ⟨_, he.trans run, (ignoreWarn_mir ..).trans power.mir, (warned.fl F.MR_STAT_ROLE 0 rfl).trans (power.fl _ _),
        (ignoreWarn_router ..).trans power.router, (warned.fl _ _ rfl).trans (power.fl _ _)⟩
    simp only [List.mem_cons, List.not_mem_nil, or_false] at hcmd
    rcases hcmd with rfl | rfl | rfl | rfl <;> exact turned rfl

end Sys2Proof.Machine
end

section
/-! ### What the requests of a core may change (09 R144 to R146; 08 R171, R177) -/

namespace Sys2Proof.Machine

namespace MemFrame
variable {s t u : State}

theorem setCpu (h : MemFrame s t) (p : Proc) (k : Cpu) : MemFrame s (t.setCpu p k) :=
  h.trans ⟨rfl, fun _ _ _ => rfl, fun _ h => h, fun _ _ h => h⟩

theorem countCore (h : MemFrame s t) (ev : Nat) (c : Fin 16) : MemFrame s (countCore t ev c) := h.count ..

/-- What waits for a domain may be that of a later state. -/
theorem asking (h : MemFrame s t) (h' : MemFrame s u) (held : Bool) :
    MemFrame s { t with pwr := u.pwr, trace := { t.trace with held := held } } :=
  ⟨congrArg (fun x : State => { x with pwr := s.pwr, trace := s.trace }) h.rest, h.fl, h.stays, h'.awake⟩

/-! #### Lines that a core takes -/

theorem touchLine (h : MemFrame s t) (id : CacheId) (x : CLine) : MemFrame s (touchLine t id x) := h.caches _

theorem pullL1s (h : MemFrame s t) (line : Nat) (cs : List (Fin 16)) : MemFrame s (pullL1s t line cs).2 :=
  foldl (step := fun u c => Machine.leaveL1 u line c) (fun hu _ => hu.leaveL1 ..) cs h

theorem evictL2 (h : MemFrame s t) (n : Fin 4) (part : Option Nat) (x : CLine) : MemFrame s (evictL2 t n part x) := by
  have left := ((h.pullL1s x.line (clusterCores n)).leaveL2 x.line n).dropLine (.l2 n) x.line
  unfold Machine.evictL2
  dsimp only
  exact .ite (left.l3Put ..) left

theorem fillL2 (h : MemFrame s t) (n : Fin 4) (part : Option Nat) (line data : Nat) (dirty : Bool) :
    MemFrame s (fillL2 t n part line data dirty) := by
  unfold Machine.fillL2
  dsimp only
  split
  · exact .ite (h.l3Put ..) h
  · split
    · exact h.touchLine ..
    · split
      · exact h.touchLine ..
      · split
        · exact (h.evictL2 ..).touchLine ..
        · exact h

theorem missGate (h : MemFrame s t) (c : Fin 16) (line : Nat) : MemFrame s (missGate t c line).state := by
  have gated : MemFrame s (if cacheOn t (.l2 (clusterOf c)) then Machine.gate t (some (16 + (clusterOf c).val)) (some (16 + (clusterOf c).val))
      else .ok () t).state := by
    split
    · exact h.gate ..
    · exact h
  unfold Machine.missGate
  dsimp only
  generalize (if cacheOn t (.l2 (clusterOf c)) then Machine.gate t (some (16 + (clusterOf c).val)) (some (16 + (clusterOf c).val))
    else .ok () t) = r at gated
  cases r with
  | ok a u => exact MemFrame.sliceGate gated line
  | fail e u => exact gated
  | stall u => exact gated

theorem traceCore (h : MemFrame s t) (c : Fin 16) (part kind size place : Nat) : MemFrame s (traceCore t c part kind size place) :=
  .ite (h.traceRaw ..) h

theorem orWait {α : Type} {r : Res α} (h : MemFrame s t) (hr : MemFrame s r.state) : MemFrame s (Res.orWait t r).state := by
  cases r with
  | ok a u => exact hr
  | fail e u => exact hr
  | stall u => exact h.asking hr _

theorem coreRequest {α : Type} (h : MemFrame s t) (c : Fin 16) (part kind size place : Nat) {f : State → Res α}
    (hf : ∀ u, MemFrame s u → MemFrame s (f u).state) : MemFrame s (coreRequest t c part kind size place f).state := by
  unfold Machine.coreRequest
  split
  · exact h.trans ⟨rfl, fun _ _ _ => rfl, fun _ h => h, fun _ _ h => h⟩
  · exact h.orWait (hf _ (h.traceCore ..))

/-! #### Translation -/

theorem walkRead (h : MemFrame s t) (c : Fin 16) (part off : Nat) : MemFrame s (walkRead t c part off).state := by
  unfold Machine.walkRead
  split
  · exact h
  · exact h
  · dsimp only
    split
    · exact h
    · refine h.coreRequest _ _ _ _ _ fun u hu => ?_
      split
      · exact hu.fillL2 ..
      · have gated := hu.missGate c (off / 64)
        cases e : Machine.missGate u c (off / 64) with
        | fail _ w => exact gated.fail e
        | stall w => exact gated.stall e
        | ok _ w =>
          have looked : MemFrame s (Machine.l3Lookup (if cacheOn w (.l2 (clusterOf c)) then Machine.countCore w 0x05 c else w) (some part)
              (off / 64)) := .l3Lookup (.ite ((gated.ok e).countCore ..) (gated.ok e)) ..
          dsimp only
          generalize Machine.l3Lookup _ (some part) (off / 64) = w at looked
          split
          · rename_i d v hv
            exact (looked.newestUsed hv).fillL2 ..
          · have admitted := looked.memAdmit 0 (some part) 0 (off / 64 * 64) 64
            cases ha : Machine.memAdmit w 0 (some part) 0 (off / 64 * 64) 64 with
            | fail _ v => exact admitted.fail ha
            | stall v => exact admitted.stall ha
            | ok _ v =>
              have read := (admitted.ok ha).readLine (some part) (off / 64 * 64)
              dsimp only
              cases hr : Machine.readLine v (some part) (off / 64 * 64) with
              | ok d w => exact ((read.ok hr).l3Put ..).fillL2 ..
              | fail _ w => exact read.fail hr
              | stall w => exact read.stall hr

theorem walk (c : Fin 16) (part : BitVec 6) (asid : BitVec 16) (va : Word) (access : Nat) :
    ∀ (n level a : Nat) {s t : State}, MemFrame s t → MemFrame s (walk t c part asid va access n level a).state
  | 0, _, _, _, _, h => h
  | n + 1, level, a, s, t, h => by
    have read := h.walkRead c part.toNat (a + 8 * slice va.toNat (47 - 9 * level) (47 - 9 * level - 8))
    unfold Machine.walk
    dsimp only
    cases e : Machine.walkRead t c part.toNat (a + 8 * slice va.toNat (47 - 9 * level) (47 - 9 * level - 8)) with
    | fail _ u => exact read.fail e
    | stall u => exact read.stall e
    | ok x u =>
      have read := read.ok e
      dsimp only
      split
      · exact read
      · split
        · exact read
        · split
          · exact walk c part asid va access n _ _ read
          · exact read

theorem xok {α : Type} {r : XRes α} {a : α} (h : MemFrame s r.state) (e : r = .ok a t) : MemFrame s t := by rwa [e] at h
theorem xexc {α : Type} {r : XRes α} {x : Exc} (h : MemFrame s r.state) (e : r = .exc x t) : MemFrame s t := by rwa [e] at h
theorem xstall {α : Type} {r : XRes α} (h : MemFrame s r.state) (e : r = .stall t) : MemFrame s t := by rwa [e] at h

theorem keepWake (h : MemFrame s t) (h' : MemFrame s u) : MemFrame s (keepWake t u) := h.asking h' _

theorem lookup (h : MemFrame s t) (c : Fin 16) (va : Word) (access : Nat) : MemFrame s (lookup t c va access).state := by
  unfold Machine.lookup
  dsimp only
  split
  · exact h
  · split
    · exact h
    · split
      · exact h.setCpu ..
      · have walked := MemFrame.walk c (BitVec.ofNat 6 (t.cpu (.core c)).partition.toNat) (BitVec.ofNat 16 (t.cpu (.core c)).asid.toNat) va
          access 4 0 (slice (t.cpu (.core c)).ptroot.toNat 35 12 * 4096) (h.countCore 0x06 c)
        split
        · rename_i x v hv
          exact ((walked.xok hv).setCpu ..).setCpu ..
        · rename_i v hv
          exact h.keepWake (walked.xstall hv)
        · exact walked

theorem resolveAs (h : MemFrame s t) (c : Fin 16) (va : Word) (chk access : Nat) : MemFrame s (resolveAs t c va chk access).state := by
  unfold Machine.resolveAs
  dsimp only
  split
  · split
    · exact h
    · exact h
  · unfold translateAs
    have looked := h.lookup c va access
    cases e : Machine.lookup t c va access with
    | exc x u => exact looked.xexc e
    | stall u => exact looked.xstall e
    | ok x u =>
      have looked := looked.xok e
      unfold XRes.bind
      dsimp only
      split
      · exact looked
      · split
        · exact looked
        · split
          · exact looked
          · exact looked

/-! #### The frame that an entry writes (08 R177) -/

theorem sbPush {p : Proc} {line : Nat} {rtype : RType} {st : SbStore} (h : MemFrame s t) (e : sbPush t p line rtype st = some u) :
    MemFrame s u := by
  unfold Machine.sbPush at e
  dsimp only at e
  split at e
  · split at e
    · cases e
      exact h.setCpu ..
    · split at e
      · cases e
        exact h.setCpu ..
      · cases e
  · split at e
    · cases e
      exact h.setCpu ..
    · cases e

theorem pushFrame (c : Fin 16) (a : Word) : ∀ (l : List (Nat × Nat)) {s t : State}, MemFrame s t → MemFrame s (pushFrame t c a l).state
  | [], _, _, h => h
  | (o, v) :: rest, s, t, h => by
    have resolved := h.resolveAs c (a + BitVec.ofNat 64 o) aStore aStore
    unfold Machine.pushFrame
    dsimp only
    cases e : Machine.resolveAs t c (a + BitVec.ofNat 64 o) aStore aStore with
    | exc x u => exact resolved.xexc e
    | stall u => exact resolved.xstall e
    | ok x u =>
      have resolved := resolved.xok e
      unfold XRes.bind
      dsimp only
      split
      · exact resolved
      · split
        · exact resolved
        · split
          · exact resolved
          · split
            · rename_i w hw
              exact pushFrame c a rest (resolved.sbPush hw)
            · exact resolved

theorem writeFrame (h : MemFrame s t) (c : Fin 16) : MemFrame s (writeFrame t c).state := by
  unfold Machine.writeFrame
  dsimp only
  split
  · have pushed := MemFrame.pushFrame c ((t.cpu (.core c)).bank (t.cpu (.core c)).st.bank.toNat).frameAt
      (frameStores (t.cpu (.core c)) (t.cpu (.core c)).st.bank.toNat) h
    split
    · rename_i v hv
      exact (pushed.xok hv).setCpu ..
    · rename_i x v hv
      exact pushed.xexc hv
    · rename_i v hv
      exact h.keepWake (pushed.xstall hv)
  · exact h

theorem enterMachine (h : MemFrame s t) (c : Fin 16) (offset : Word) (cause sub : Nat) (mepc : Word) (eaddr : Option Word) :
    MemFrame s (enterMachine t c offset cause sub mepc eaddr) := (h.setCpu ..).countCore ..

theorem dregsFree (h : MemFrame s t) (source cls code : Nat) : MemFrame s (dregsFree t source cls code) :=
  have taken : MemFrame s { t with free := t.free + 1 } := h.trans ⟨rfl, fun _ _ _ => rfl, fun _ h => h, fun _ _ h => h⟩
  taken.dregs source cls code (Config.freeNat t.free)

theorem doubleFault (h : MemFrame s t) (c : Fin 16) (e : Exc) (mepc : Word) (frame : Bool) :
    MemFrame s (doubleFault t c e mepc frame) := ((h.dregsFree ..).enterMachine ..).trigger ..

theorem reserveFrame (h : MemFrame s t) (c : Fin 16) (b : Nat) (mepc : Word) : MemFrame s (reserveFrame t c b mepc) := by
  unfold Machine.reserveFrame
  exact .ite (.ite (h.doubleFault ..) (h.setCpu ..)) (h.setCpu ..)

theorem enterBank (h : MemFrame s t) (c : Fin 16) (cause sub : Nat) (epc : Word) (eaddr : Option Word) (ring : BitVec 2)
    (maskIe reserve : Bool) (vec : Word) : MemFrame s (enterBank t c cause sub epc eaddr ring maskIe reserve vec) := by
  unfold Machine.enterBank
  dsimp only
  exact .ite (((h.setCpu ..).countCore ..).reserveFrame ..) ((h.setCpu ..).countCore ..)

end MemFrame

end Sys2Proof.Machine
end

section
/-! ### Power domains and voltages (18 R385 to R397) -/

namespace Sys2Proof.Machine
section
variable {s t u : State} {d : Nat}

/-! #### A domain that is ON and asked for by nobody -/

/-- Domain `d` is ON, and no wake of it is asked for. -/
structure Awake (d : Nat) (s : State) : Prop where
  on : s.dom d = 0
  rest : mget false s.pwr.waking d = false

namespace Awake

theorem frame (h : Awake d s) (h' : MemFrame s t) : Awake d t := ⟨(h'.fl _ _ rfl).trans h.on, h'.awake d h.on h.rest⟩

theorem setF (h : Awake d s) {f : Fld} (i v : Nat) (hf : f.id ≠ F.PW_DOM_STATE.id) : Awake d (s.setF f i v) :=
  ⟨(State.fl_setF_id _ _ _ _ hf).trans h.on, h.rest⟩

theorem setB (h : Awake d s) {f : Fld} (i : Nat) (b : Bool) (hf : f.id ≠ F.PW_DOM_STATE.id) : Awake d (s.setB f i b) := h.setF i _ hf

theorem setCpu (h : Awake d s) (p : Proc) (k : Cpu) : Awake d (s.setCpu p k) := ⟨h.on, h.rest⟩

theorem ite {c : Prop} [Decidable c] (ht : Awake d t) (hu : Awake d u) : Awake d (if c then t else u) := by
  split
  · exact ht
  · exact hu

theorem raised (h : Awake d s) (c : Fin 16) (e : Exc) : Awake d (raised s c e) := by
  unfold Machine.raised
  exact .ite (h.setCpu ..) (.ite ((h.setB (f := F.DB_CORECTL_STEP) c.val false (by decide)).setCpu ..) h)

/-- The exception of a step, which debug takes below the machine level alone. -/
theorem coreExc (h : Awake d s) (c : Fin 16) (e : Exc) (epc : Word) (low : (s.cpu (.core c)).st.ml = false)
    (plain : (s.cpu (.core c)).st.exl = false) : Awake d (coreExc s c e epc) := by
  unfold Machine.coreExc
  dsimp only
  rw [if_neg (by rw [low]; decide), if_neg (by rw [plain]; decide)]
  refine .ite (.frame (h.raised c e) (.enterMachine (.refl _) ..)) ?_
  have written := MemFrame.writeFrame (.refl s) c
  split
  · rename_i x v hv
    exact (h.frame (written.xexc hv)).frame (.doubleFault (.refl _) ..)
  · rename_i v hv
    exact (h.frame (written.xstall hv)).setCpu ..
  · rename_i v hv
    exact ((h.frame (written.xok hv)).raised c e).frame (.enterBank (.refl _) ..)

theorem debugStep (h : Awake d s) (c : Fin 16) (bank : Nat) : Awake d (debugStep s (.core c) bank) := by
  have skipped := h.setB (f := F.DB_CORECTL_SKIP) c.val false (by decide)
  unfold Machine.debugStep
  dsimp only
  split
  · split
    · rename_i acts
      have below : debugActs (s.setB F.DB_CORECTL_SKIP c.val false) c = true := (Bool.and_eq_true_iff.mp acts).2
      simp only [debugActs, Bool.and_eq_true, Bool.not_eq_true'] at below
      obtain ⟨⟨⟨-, exl⟩, ml⟩, -⟩ := below
      exact skipped.coreExc c _ _ ml exl
    · exact .ite skipped (skipped.setCpu ..)
  · exact h

theorem retire (h : Awake d s) (c : Fin 16) (pc npc : Word) (keep : Bool) : Awake d (retire s (.core c) pc npc keep) := by
  unfold Machine.retire
  dsimp only
  exact ((h.setCpu _ _).frame (.countCore (.refl _) 0x02 c)).debugStep c _

theorem waitDone (h : Awake d s) (c : Fin 16) (v : Word) : Awake d (waitDone s c v) := by
  unfold Machine.waitDone
  dsimp only
  split
  · exact Awake.retire (h.setCpu _ _) c _ _ false
  · exact h

end Awake

theorem dom_wakeOver_setF (s : State) (d v : Nat) : (wakeOver (s.setF F.PW_DOM_STATE d v) d).dom d = v % 4 :=
  State.fl_setF_same s F.PW_DOM_STATE d v

theorem waking_wakeOver (s : State) (d : Nat) : mget false (wakeOver s d).pwr.waking d = false :=
  mget_mset_same false s.pwr.waking d false

theorem domBack_awake (s : State) (d : Nat) : Awake d (domBack s d) := by
  unfold domBack
  dsimp only
  exact ⟨dom_wakeOver_setF _ d 0, waking_wakeOver _ d⟩

/-- A domain that returns is ON. -/
theorem domainReturn_awake (asked : mget false s.pwr.waking d = true) (up : powered s d = true) (off : s.dom d ≠ 0) :
    Awake d (domainReturn s d) := by
  have goes : (mget false s.pwr.waking d && powered s d && decide (s.dom d ≠ 0)) = true := by simp [asked, up, off]
  have back := domBack_awake s d
  have e : domainReturn s d = _ := if_pos goes
  rw [e]
  dsimp only
  refine .ite ?_ (.ite (back.waitDone ..) back)
  exact (back.setF (f := F.PW_CORECLK_SEL) 0 _ (by decide)).setCpu ..

/-! #### What a domain that enters RET keeps (18 R385) -/

/-- What domain `d`, no core's, does as it enters RET, beside its registers. -/
def retEntered (s : State) (d : Nat) : State :=
  if d < 20 then clusterEmpty s (Fin.ofNat 4 d)
  else if 28 ≤ d && d < 32 then
    if bitAt (s.fl F.MC_STAT_TRAINED 0) (d - 28) && !s.dram.inInit.getLsbD (d - 28) then
      let s := drainWrites s (d - 28)
      { s with dram := { s.dram with selfRef := s.dram.selfRef ||| (1#4 <<< (d - 28)) } }
    else s
  else if 32 ≤ d && d < 36 then { s with links := mdrop s.links (8 * (d - 32)) (8 * (d - 32) + 8) }
  else if d = 36 then { s with links := mdrop s.links 32 34 }
  else if d = 43 then portsStatus s 40 56
  else if d = 44 then { portsStatus s 0 40 with usb := [], pcie := [] }
  else s

theorem powerView_retEntered (s : State) (d : Nat) : powerView (retEntered s d) = powerView s := by
  have emptied (n : Fin 4) : powerView (clusterEmpty s n) = powerView s :=
    foldl_keeps powerView (step := fun s c => emptyCache (emptyCache (emptyCache s (.l1d c)) (.victim c)) (.l1i c)) (fun _ _ => rfl) _ s
  unfold retEntered
  exact ite_keeps (emptied _) <| ite_keeps (ite_keeps rfl rfl) <| ite_keeps rfl <| ite_keeps rfl <| ite_keeps rfl <| ite_keeps rfl rfl

theorem domRet_eq (h : 16 ≤ d) (s : State) :
    domRet s d = wakeOver ((retEntered (domainRegs s colRet d) d).setF F.PW_DOM_STATE d 1) d := by
  unfold domRet
  dsimp only
  rw [if_neg (Nat.not_lt.mpr h)]
  rfl

theorem powerView_domRet (h : 16 ≤ d) (s : State) : powerView (domRet s d) = powerView s := by
  rw [domRet_eq h]
  exact (powerView_setF (f := F.PW_DOM_STATE) _ d 1 (by decide)).trans ((powerView_retEntered ..).trans (powerView_domainRegs ..))

theorem domRet_ret (h : 16 ≤ d) (s : State) : (domRet s d).dom d = 1 ∧ mget false (domRet s d).pwr.waking d = false := by
  rw [domRet_eq h]
  exact ⟨dom_wakeOver_setF _ d 1, waking_wakeOver _ d⟩

theorem domOff_off (s : State) (d : Nat) : (domOff s d).dom d = 2 := dom_wakeOver_setF _ d 2

/-! #### The end of a handshake (18 R387, R388) -/

/-- The fields of PW_LASTREQ. -/
def lastFields : List Fld :=
  [F.PW_LASTREQ_RESULT, F.PW_LASTREQ_CORE, F.PW_LASTREQ_STEEP, F.PW_LASTREQ_REFDOM, F.PW_LASTREQ_REASON]

/-- PW_LASTREQ says how the handshake `h` ended, and none runs. -/
structure LastReq (h : Sleep) (result refdom reason : Nat) (t : State) : Prop where
  result : t.fl F.PW_LASTREQ_RESULT 0 = result
  core : t.fl F.PW_LASTREQ_CORE 0 = h.core % 16
  refdom : t.fl F.PW_LASTREQ_REFDOM 0 = refdom
  reason : t.fl F.PW_LASTREQ_REASON 0 = reason
  current : t.pwr.current = none

theorem SideFrame.pwr {k : Fld → Bool} (h : SideFrame k s t) : t.pwr = s.pwr := by
  have e := congrArg State.pwr h.rest
  exact e

theorem setLastReq_side (s : State) (h : Sleep) (result refdom reason : Nat) :
    SideFrame (noteField lastFields) s (setLastReq s h result refdom reason) := by
  have byId := noteField_byId lastFields
  exact .setF (.setF (.setF (.setF (.setF (.refl _ s) byId 0 _ rfl) byId 0 _ rfl) byId 0 _ rfl) byId 0 _ rfl) byId 0 _ rfl

theorem setLastReq_says {h : Sleep} {result refdom reason : Nat} (hr : result < 4) (hd : refdom < 64) (hw : reason < 8)
    (idle : s.pwr.current = none) : LastReq h result refdom reason (setLastReq s h result refdom reason) := by
  unfold setLastReq
  dsimp only
  refine ⟨?_, ?_, ?_, ?_, idle⟩
  · rw [State.fl_setF_id _ _ _ _ (by decide), State.fl_setF_id _ _ _ _ (by decide), State.fl_setB_id _ _ _ _ (by decide),
      State.fl_setF_id _ _ _ _ (by decide), State.fl_setF_same]
    exact Nat.mod_eq_of_lt hr
  · rw [State.fl_setF_id _ _ _ _ (by decide), State.fl_setF_id _ _ _ _ (by decide), State.fl_setB_id _ _ _ _ (by decide),
      State.fl_setF_same]
    rfl
  · rw [State.fl_setF_id _ _ _ _ (by decide), State.fl_setF_same]
    exact Nat.mod_eq_of_lt hd
  · rw [State.fl_setF_same]
    exact Nat.mod_eq_of_lt hw

theorem LastReq.after {h : Sleep} {result refdom reason : Nat} (hl : LastReq h result refdom reason s) (side : SideFrame (noteField []) s t) :
    LastReq h result refdom reason t :=
  ⟨(side.fl _ _ rfl).trans hl.result, (side.fl _ _ rfl).trans hl.core, (side.fl _ _ rfl).trans hl.refdom,
    (side.fl _ _ rfl).trans hl.reason, (congrArg Power.current side.pwr).trans hl.current⟩

/-- With no handshake in the queue, none follows. -/
theorem nextHandshake_none (idle : s.pwr.current = none) (empty : s.pwr.queue = []) (n : Nat) : nextHandshake s (n + 1) = s := by
  unfold nextHandshake
  rw [idle, empty]

/-- A handshake of no WAIT that is refused. -/
theorem refuseHandshake_says {h : Sleep} {reason : Nat} (sleeps : h.wasWait = false) (hd : d < 64) (hw : reason < 8)
    (idle : s.pwr.current = none) : LastReq h 1 d reason (refuseHandshake s h d reason) ∧
      SideFrame (noteField lastFields) s (refuseHandshake s h d reason) := by
  let x := raiseSource (setLastReq s h 1 d reason) 244
  have e : refuseHandshake s h d reason = dregs x 6 clsInfo 0x80 (lastReqWord x) := if_neg (by rw [sleeps]; decide)
  have told : SideFrame (noteField []) (setLastReq s h 1 d reason) (dregs x 6 clsInfo 0x80 (lastReqWord x)) :=
    (raiseSource_side [] _ 244).trans (dregs_side [] ..)
  rw [e]
  exact ⟨(setLastReq_says (by decide) hd hw idle).after told,
    (setLastReq_side ..).trans (told.weaken (noteField_of_subset (List.nil_subset _)))⟩

/-- A handshake of no WAIT whose one domain `d` has accepted ends, and the next begins. -/
theorem handshakeEnds {h : Sleep} (sleeps : h.wasWait = false) (accepted : h.done = [d]) (idle : s.pwr.current = none)
    (empty : s.pwr.queue = []) (ret : s.dom d = 1) (rest : h.other = 2 → mget false s.pwr.waking d = false) :
    LastReq h 0 0 0 (nextHandshake (finishHandshake s h) 32) ∧
      (nextHandshake (finishHandshake s h) 32).dom d = if h.other = 2 then 2 else 1 := by
  obtain ⟨x, hx, view, dom⟩ : ∃ x, finishHandshake s h = raiseSource (setLastReq x h 0 0 0) 244 ∧ powerView x = powerView s ∧
      x.dom d = if h.other = 2 then 2 else 1 := by
    unfold finishHandshake
    dsimp only
    rw [if_neg (show ¬ h.wasWait = true by rw [sleeps]; decide)]
    refine ⟨_, rfl, ?_⟩
    by_cases two : h.other = 2
    · have all : (h.done.filter fun e => s.dom e == 1 && !mget false s.pwr.waking e) = [d] := by simp [accepted, ret, rest two]
      rw [if_pos two, if_pos two, all]
      exact ⟨powerView_domOff s d, domOff_off s d⟩
    · rw [if_neg two, if_neg two]
      exact ⟨rfl, ret⟩
  have current : x.pwr.current = none := (congrArg (fun v => v.2.1) view).trans idle
  have queue : x.pwr.queue = [] := (congrArg (fun v => v.2.2.1) view).trans empty
  have said := setLastReq_says (s := x) (h := h) (result := 0) (refdom := 0) (reason := 0) (by decide) (by decide) (by decide) current
  have side := setLastReq_side x h 0 0 0
  have told := raiseSource_side [] (setLastReq x h 0 0 0) 244
  have idle := (said.after told).current
  have empty : (raiseSource (setLastReq x h 0 0 0) 244).pwr.queue = [] := by rw [told.pwr, side.pwr, queue]
  rw [hx, nextHandshake_none idle empty]
  exact ⟨said.after told, (told.fl _ _ rfl).trans ((side.fl _ _ rfl).trans dom)⟩

end

end Sys2Proof.Machine
end

section
/-! ### O23: offers, timeouts, PW_DOMREQ, wakes and returns; voltage commands (18 R385 to R397) -/

namespace Sys2Proof.Machine

variable {s t : State} {h : Sleep} {d : Nat}

/-! #### The answer to an offer -/

/-- The handshake `h` offers sleep to domain `d` alone, and no other waits. -/
structure Offers (s : State) (h : Sleep) (d : Nat) : Prop where
  current : s.pwr.current = some h
  empty : s.pwr.queue = []
  todo : h.todo = [d]
  done : h.done = []
  sleeps : h.wasWait = false
  domain : d < 47

/-- No handshake runs. -/
def unoffered (s : State) : State := { s with pwr := { s.pwr with current := none } }

/-- The only offer of a handshake that is refused, or that no answer meets. -/
theorem offerRefused {reason : Nat} (o : Offers s h d) (hw : reason < 8) :
    LastReq h 1 d reason (nextHandshake (refuseHandshake (unoffered s) h d reason) 32) ∧
      (nextHandshake (refuseHandshake (unoffered s) h d reason) 32).dom d = s.dom d := by
  have idle : (unoffered s).pwr.current = none := rfl
  obtain ⟨said, side⟩ := refuseHandshake_says (h := h) o.sleeps (Nat.lt_trans o.domain (by decide)) hw idle
  have empty : (refuseHandshake (unoffered s) h d reason).pwr.queue = [] := (congrArg Power.queue side.pwr).trans o.empty
  rw [nextHandshake_none said.current empty]
  exact ⟨said, side.fl _ _ rfl⟩

theorem domainOfferAnswer_refused {r : Nat} (o : Offers s h d) (on : s.dom d = 0) (hr : r < 8)
    (refuse : refuses s (if h.steep then 16 else h.core) d = some r) :
    Gives .domainOfferAnswer s fun t => LastReq h 1 d r t ∧ t.dom d = s.dom d := by
  have shallow : deepEnough s d h.other = false := by simp [deepEnough, on]
  refine gives_of (t := nextHandshake (refuseHandshake (unoffered s) h d r) 32) ?_ rfl (offerRefused o hr)
  show execDomainOfferAnswer s = _
  unfold execDomainOfferAnswer
  simp only [o.current, o.todo, shallow, on, refuse, Bool.false_eq_true, if_false, if_true]
  rfl

theorem domainAnswerTimeout_refused (o : Offers s h d) :
    Gives .domainAnswerTimeout s fun t => LastReq h 1 d 4 t ∧ t.dom d = s.dom d := by
  refine gives_of (t := nextHandshake (refuseHandshake (unoffered s) h d 4) 32) ?_ rfl (offerRefused o (by decide))
  show execDomainAnswerTimeout s = _
  unfold execDomainAnswerTimeout
  simp only [o.current, o.todo]
  rfl

/-- The state of domain `d` as it accepts: it enters RET unless it is there. -/
def inRet (s : State) (d : Nat) : State := if s.dom d = 1 then s else domRet s d

/-- A core's domain is offered nothing (18 R386). -/
theorem refuses_none {c : Nat} (h : refuses s c d = none) : 16 ≤ d := by
  by_contra low
  rw [refuses, if_pos (Nat.lt_of_not_le low)] at h
  cases h

theorem inRet_ret (accepts : s.dom d = 1 ∨ 16 ≤ d) :
    (inRet s d).dom d = 1 ∧ powerView (inRet s d) = powerView s ∧
      (s.dom d ≠ 1 ∨ mget false s.pwr.waking d = false → mget false (inRet s d).pwr.waking d = false) := by
  unfold inRet
  by_cases ret : s.dom d = 1
  · rw [if_pos ret]
    exact ⟨ret, rfl, fun hw => hw.resolve_left (fun hn => hn ret)⟩
  · rw [if_neg ret]
    have high := accepts.resolve_left ret
    obtain ⟨on, rest⟩ := domRet_ret high s
    exact ⟨on, powerView_domRet high s, fun _ => rest⟩

theorem domainOfferAnswer_accepts (o : Offers s h d) (shallow : deepEnough s d h.other = false)
    (accepts : s.dom d = 1 ∨ refuses s (if h.steep then 16 else h.core) d = none) :
    exec .domainOfferAnswer s =
      .next (nextHandshake (finishHandshake (unoffered (inRet s d)) { h with todo := [], done := h.done ++ [d] }) 32) := by
  have verdict : (if s.dom d = 0 then refuses s (if h.steep then 16 else h.core) d else none) = none := by
    rcases accepts with ret | none_
    · rw [if_neg (by omega)]
    · rw [none_, ite_self]
  show execDomainOfferAnswer s = _
  unfold execDomainOfferAnswer acceptDomain
  simp only [o.current, o.todo, shallow, verdict, o.sleeps, Bool.false_eq_true, if_false, Bool.false_or, Bool.false_and, decide_eq_true_eq]
  rfl

theorem domainOfferAnswer_accepted (o : Offers s h d) (shallow : deepEnough s d h.other = false)
    (accepts : s.dom d = 1 ∨ refuses s (if h.steep then 16 else h.core) d = none)
    (rest : h.other = 2 → s.dom d ≠ 1 ∨ mget false s.pwr.waking d = false) :
    Gives .domainOfferAnswer s fun t => LastReq h 0 0 0 t ∧ t.dom d = if h.other = 2 then 2 else 1 := by
  obtain ⟨ret, view, woken⟩ := inRet_ret (accepts.imp_right refuses_none)
  have empty : (unoffered (inRet s d)).pwr.queue = [] := (congrArg (fun v => v.2.2.1) view).trans o.empty
  obtain ⟨said, dom⟩ := handshakeEnds (s := unoffered (inRet s d)) (h := { h with todo := [], done := h.done ++ [d] })
    o.sleeps (by rw [o.done]; rfl) rfl empty ret fun two => woken (rest two)
  obtain ⟨result, core, refdom, reason, current⟩ := said
  exact gives_of (domainOfferAnswer_accepts o shallow accepts) rfl ⟨⟨result, core, refdom, reason, current⟩, dom⟩

/-! #### PW_DOMREQ, wakes and returns -/

section
variable {c : Fin 16} {v : Word}

theorem domreqWrite_asks (hr : isRing0 s (.core c) = true) {n : Nat} (hs : bitsOf v F.PW_DOMREQ_STATE = n) (h1 : 1 ≤ n)
    (h2 : n ≤ 2) (low : 16 ≤ bitsOf v F.PW_DOMREQ_DOMAIN) (high : bitsOf v F.PW_DOMREQ_DOMAIN < 45)
    (idle : s.pwr.current = none) (empty : s.pwr.queue = []) :
    domreqWrite s (.full (.core c) 0xE00002010 v) =
      { s with pwr := { s.pwr with current := some ⟨c.val, false, n, 0, [bitsOf v F.PW_DOMREQ_DOMAIN], [], false⟩, queue := [] } } := by
  have touched : (Wr.full (.core c) 0xE00002010 v).touches F.PW_DOMREQ_DOMAIN = true := Wr.touches_full _ _ _ _ (by decide)
  have asked : ¬ (46 < bitsOf v F.PW_DOMREQ_DOMAIN ∨ n = 3) := by omega
  have off : ¬ n = 0 := by omega
  have offered : ¬ (bitsOf v F.PW_DOMREQ_DOMAIN < 16 ∨ 45 ≤ bitsOf v F.PW_DOMREQ_DOMAIN) := by omega
  rw [domreqWrite, atRing0_of (by exact hr)]
  simp only [Wr.bits_full, hs, touched, Bool.or_eq_true, decide_eq_true_eq, Bool.not_true, Bool.false_eq_true, or_false, if_neg asked,
    if_neg off, queueHandshake, empty, List.any_nil, List.nil_append, if_false]
  rw [nextHandshake]
  simp only [idle, Bool.false_and, Bool.false_eq_true, if_false, Bool.or_eq_true, decide_eq_true_eq, if_neg offered]
  rfl

theorem domreqWrite_wakes (hr : isRing0 s (.core c) = true) (hs : bitsOf v F.PW_DOMREQ_STATE = 0)
    (hd : bitsOf v F.PW_DOMREQ_DOMAIN ≤ 46) :
    domreqWrite s (.full (.core c) 0xE00002010 v) = wakeDom s (bitsOf v F.PW_DOMREQ_DOMAIN) := by
  have touched : (Wr.full (.core c) 0xE00002010 v).touches F.PW_DOMREQ_DOMAIN = true := Wr.touches_full _ _ _ _ (by decide)
  rw [domreqWrite, atRing0_of (by exact hr)]
  simp only [Wr.bits_full, hs, touched]
  rw [if_neg (by simp [hd])]
  exact if_pos trivial

theorem wakeDom_mem (s : State) (d : Nat) : (wakeDom s d).mem = s.mem := by
  unfold wakeDom
  split <;> rfl

theorem pwDomreqWake_gives (hr : isRing0 s (.core c) = true) (hs : bitsOf v F.PW_DOMREQ_STATE = 0)
    (hd : bitsOf v F.PW_DOMREQ_DOMAIN ≤ 46) (off : s.dom (bitsOf v F.PW_DOMREQ_DOMAIN) ≠ 0) :
    Gives (.pwDomreqWake (.core c) v) s fun t => mget false t.pwr.waking (bitsOf v F.PW_DOMREQ_DOMAIN) = true ∧
      t.dom (bitsOf v F.PW_DOMREQ_DOMAIN) = s.dom (bitsOf v F.PW_DOMREQ_DOMAIN) ∧ t.mem = s.mem :=
  gives_of rfl (domreqWrite_wakes hr hs hd) ⟨wakeDom_waking off hd, State.fl_congr (wakeDom_flds s _) _ _, wakeDom_mem s _⟩

end

theorem domainWakeTimeout_gives {dom : Fin 47} (waking : mget false s.pwr.waking dom.val = true) :
    Gives (.domainWakeTimeout dom) s fun t => mget false t.pwr.waking dom.val = false ∧
      mget false t.pwr.wakeFailed dom.val = mget false s.pwr.asked dom.val ∧ t.dom dom.val = s.dom dom.val := by
  let x := wakeOver s dom.val
  let y : State := { x with
    pwr := { x.pwr with wakeFailed := mset false x.pwr.wakeFailed dom.val (mget false s.pwr.asked dom.val) },
    steep := { x.steep with failed := x.steep.failed || x.steep.wakeDom == some dom.val } }
  have told : SideFrame (noteField []) y (dregs y 3 clsError 0x58 (256 + dom.val)) := dregs_side [] ..
  refine gives_of (t := dregs y 3 clsError 0x58 (256 + dom.val)) ?_ rfl ⟨?_, ?_, told.fl _ _ rfl⟩
  · exact congrArg Host.Outcome.next (if_pos waking)
  · exact (congrArg (fun p : Power => mget false p.waking dom.val) told.pwr).trans (waking_wakeOver s dom.val)
  · exact (congrArg (fun p : Power => mget false p.wakeFailed dom.val) told.pwr).trans
      (mget_mset_same false x.pwr.wakeFailed dom.val (mget false s.pwr.asked dom.val))

theorem waitDone_sleep {c : Fin 16} {rd : RegNo} {x : Word} (hw : (s.cpu (.core c)).wait = .sleep rd) :
    waitDone s c x = retire (s.setG (.core c) rd x) (.core c) (s.cpu (.core c)).pc ((s.cpu (.core c)).pc + 4) false := by
  unfold waitDone
  dsimp only
  rw [hw]

/-- The state in which no handshake of core `c`'s WAIT waits. -/
def unqueuedWaits (s : State) (c : Fin 16) : State :=
  { s with pwr := { s.pwr with queue := s.pwr.queue.filter fun h => !(h.wasWait && h.core == c.val) } }

theorem coreWake_gives {c : Fin 16} {rd : RegNo} (plain : plainWake (.core c) s) (wake : wakeCond s c = true) (on : s.dom c.val = 0)
    (runs : (s.cpu (.core c)).run = .running) (free : inHandshake s c = false) (hw : (s.cpu (.core c)).wait = .sleep rd) :
    Gives (.coreWake c) s fun t => (rd ≠ 31 → t.g (.core c) rd = 0) ∧ (t.cpu (.core c)).pc = (s.cpu (.core c)).pc + 4 ∧
      (t.cpu (.core c)).wait = .none ∧ t.mem = s.mem ∧ t.flds = s.flds := by
  have goes : (wakeCond s c && decide (s.dom c.val ≤ 1) && ((s.cpu (.core c)).run == .running) && !inHandshake s c) = true := by
    rw [wake, on, runs, free]
    rfl
  have run : exec (.coreWake c) s = .next (waitDone (unqueuedWaits s c) c 0) := by
    refine congrArg Host.Outcome.next ((if_pos goes).trans ?_)
    rw [hw]
    exact congrArg (fun x => waitDone x c 0) (if_neg (show ¬ s.dom c.val = 1 by omega))
  have woken := retire_awakes (s := unqueuedWaits s c) rd 0 (plainWake_same plain rfl rfl)
  rw [waitDone_sleep (s := unqueuedWaits s c) hw] at run
  exact gives_of run rfl ⟨woken.reg, woken.pc, woken.wait, woken.mem, woken.flds⟩

/-! #### Voltages and clocks (18 R396, R397; 02 R44, R45) -/

section
variable {q : Requester} {n : Fin 4} {v : Word}

/-- A voltage command, its FAIL written. -/
def vcmdTaken (s : State) (n : Nat) (v : Word) : State :=
  ((s.setF F.PW_VCMD_TARGET n (bitsOf v F.PW_VCMD_TARGET)).setF F.PW_VCMD_SEQ n (s.fl F.PW_VCMD_SEQ n + 1)).setB F.PW_VCMD_BUSY n true

theorem vcmdWrite_taken (hr : isRing0 s q = true) (off : Nat) :
    vcmdWrite s (.full q off v) n.val = vcmdTaken (putField s (.full q off v) F.PW_VCMD_FAIL n.val 0) n.val v := by
  have touched : (Wr.full q off v).touches F.PW_VCMD_TARGET = true := Wr.touches_full _ _ _ _ (by decide)
  rw [vcmdWrite, atRing0_of (by exact hr)]
  simp only [touched, if_true]
  rw [Wr.new_full _ _ _ _ _ _ (by decide)]
  rfl

theorem pwVcmdWrite_taken (hr : isRing0 s q = true) : Gives (.pwVcmdWrite q n v) s fun t =>
    t.fl F.PW_VCMD_TARGET n.val = bitsOf v F.PW_VCMD_TARGET ∧ t.fl F.PW_VCMD_SEQ n.val = (s.fl F.PW_VCMD_SEQ n.val + 1) % 256 ∧
      t.fb F.PW_VCMD_BUSY n.val = true ∧ t.mem = s.mem := by
  have seq := putField_other s (.full q (0xE00002040 + 8 * n.val) v) F.PW_VCMD_FAIL n.val 0 (g := F.PW_VCMD_SEQ) (by decide) n.val
  have mem := (putField_only s (.full q (0xE00002040 + 8 * n.val) v) F.PW_VCMD_FAIL n.val 0).mem
  refine gives_of rfl (vcmdWrite_taken hr _) ?_
  generalize putField s (.full q (0xE00002040 + 8 * n.val) v) F.PW_VCMD_FAIL n.val 0 = x at seq mem ⊢
  unfold vcmdTaken
  refine ⟨?_, ?_, State.fb_setB_same _ _ _ _ (by decide), mem⟩
  · rw [State.fl_setB_id _ _ _ _ (by decide), State.fl_setF_id _ _ _ _ (by decide), State.fl_setF_same, bitsOf_mod]
  · rw [State.fl_setB_id _ _ _ _ (by decide), State.fl_setF_same, seq]
    rfl

theorem pwVcmdWrite_ignored (hr : isRing0 s q = false) : Gives (.pwVcmdWrite q n v) s fun t =>
    ∀ f ∈ [F.PW_VCMD_TARGET, F.PW_VCMD_SEQ, F.PW_VCMD_BUSY], t.fl f n.val = s.fl f n.val := by
  have side := ignoreWarn_side (s := s) [] (.full q (0xE00002040 + 8 * n.val) v)
  refine gives_of rfl (atRing0_ignored (by exact hr) _) fun f hf => side.fl f n.val ?_
  have untouched : ∀ f ∈ [F.PW_VCMD_TARGET, F.PW_VCMD_SEQ, F.PW_VCMD_BUSY], noteField [] f = false := by decide
  exact untouched f hf

/-- What the voltage monitor reads, and the cap it sets on the cluster's clock. -/
theorem monitorReads_says (s : State) (n mv : Nat) :
    (monitorReads s n mv).fl F.PW_VCMD_MV n = mv % 4096 ∧ mget 600 (monitorReads s n mv).pwr.capMhz n = capMhz mv :=
  ⟨State.fl_setF_same s F.PW_VCMD_MV n mv, mget_mset_same 600 s.pwr.capMhz n (capMhz mv)⟩

/-- A voltage command at its end. -/
def vcmdDone (s : State) (n : Nat) : State := (s.setF F.PW_VCMD_DONESEQ n (s.fl F.PW_VCMD_SEQ n)).setB F.PW_VCMD_BUSY n false

theorem voltageCommandComplete_gives (busy : s.fb F.PW_VCMD_BUSY n.val = true) : Gives (.voltageCommandComplete n) s fun t =>
    t.fl F.PW_VCMD_DONESEQ n.val = s.fl F.PW_VCMD_SEQ n.val % 256 ∧ t.fb F.PW_VCMD_BUSY n.val = false ∧
      t.fl F.PW_VCMD_MV n.val = (550 + 20 * s.fl F.PW_VCMD_TARGET n.val) % 4096 ∧
      mget 600 t.pwr.capMhz n.val = capMhz (550 + 20 * s.fl F.PW_VCMD_TARGET n.val) := by
  let x := monitorReads s n.val (vidMv (s.fl F.PW_VCMD_TARGET n.val))
  obtain ⟨mv, cap⟩ := monitorReads_says s n.val (vidMv (s.fl F.PW_VCMD_TARGET n.val))
  have seq : x.fl F.PW_VCMD_SEQ n.val = s.fl F.PW_VCMD_SEQ n.val := State.fl_setF_id s n.val n.val _ (by decide)
  have told := raiseSource_side [] (vcmdDone x n.val) (240 + n.val)
  refine gives_of rfl (if_pos busy : _ = raiseSource (vcmdDone x n.val) (240 + n.val)) ⟨?_, ?_, ?_, ?_⟩
  · refine (told.fl _ _ rfl).trans ((State.fl_setB_id _ _ _ _ (by decide)).trans ((State.fl_setF_same _ _ _ _).trans ?_))
    rw [seq]
    rfl
  · exact (told.fb _ _ rfl).trans (State.fb_setB_same _ _ _ _ (by decide))
  · exact (told.fl _ _ rfl).trans ((State.fl_setB_id _ _ _ _ (by decide)).trans ((State.fl_setF_id _ _ _ _ (by decide)).trans mv))
  · exact (congrArg (fun p : Power => mget 600 p.capMhz n.val) told.pwr).trans cap

theorem voltageCommandFail_gives (busy : s.fb F.PW_VCMD_BUSY n.val = true) : Gives (.voltageCommandFail n) s fun t =>
    t.fb F.PW_VCMD_FAIL n.val = true ∧ t.fb F.PW_VCMD_BUSY n.val = true ∧ t.mem = s.mem := by
  have told := dregsFree_side (s := s.setB F.PW_VCMD_FAIL n.val true) [] 6 clsError 0x82
  exact gives_of rfl (if_pos busy) ⟨(told.fb _ _ rfl).trans (State.fb_setB_same _ _ _ _ (by decide)),
    (told.fb _ _ rfl).trans ((State.fb_setB_id _ _ _ _ (by decide)).trans busy), told.mem⟩

theorem pwCoreclkWrite_gives (hr : isRing0 s q = true) : Gives (.pwCoreclkWrite q v) s fun t =>
    t.fl F.PW_CORECLK_SEL 0 = v.toNat % 65536 ∧ t.mem = s.mem ∧ t.cpus = s.cpus := by
  have only := putField_only s (.full q 0xE00002020 v) F.PW_CORECLK_SEL 0 0
  have whole : bitsOf v F.PW_CORECLK_SEL = v.toNat % 65536 := by simp [bitsOf, F.PW_CORECLK_SEL, Fld.width]
  exact gives_of rfl (atRing0_of (by exact hr) _) ⟨(putField_replaces (by decide)).trans whole, only.mem, only.cpus⟩

end

/-- Settles O23: a handshake ends with its one domain's answer, PW_DOMREQ begins one or asks for a wake, and a voltage command
keeps its sequence number until the monitor has read the voltage it asks for. -/
theorem powerAndVoltage : Obligations.PowerAndVoltage := by
  unfold Obligations.PowerAndVoltage
  refine ⟨?_, ?_⟩
  · intro s h d c v dom rd answers last q ring0 target asks
    have offers (a : answers) : Offers s h d := by
      obtain ⟨current, empty, todo, done, sleeps, domain⟩ := a
      exact ⟨current, empty, todo, done, sleeps, domain⟩
    have lasts {result refdom reason : Nat} {t : State} (l : LastReq h result refdom reason t) : last t result refdom reason :=
      ⟨l.result, l.core, l.refdom, l.reason, l.current⟩
    have taken {x : State} {n : Nat} (hx : domreqWrite s (.full q 0xE00002010 v) = x) (h1 : 1 ≤ n) (h2 : n ≤ 2) (hr : ring0)
        (hs : bitsOf v F.PW_DOMREQ_STATE = n) (low : 16 ≤ target) (high : target < 45) (idle : s.pwr.current = none)
        (empty : s.pwr.queue = []) :
        x.pwr.current = some ⟨c.val, false, n, 0, [target], [], false⟩ ∧ x.flds = s.flds ∧ x.mem = s.mem := by
      rw [← hx, domreqWrite_asks hr hs h1 h2 low high idle empty]
      exact ⟨rfl, rfl, rfl⟩
    refine ⟨fun a on _ r hr refuse => ?_, fun a shallow accepts => ⟨fun one => ?_, fun two rest => ?_⟩, fun a => ?_,
      fun hr hs hd off => pwDomreqWake_gives hr hs hd off, ?_, ?_, domainWakeTimeout_gives, fun asked up off => ?_,
      coreWake_gives⟩
    · obtain ⟨t, run, said, dom⟩ := domainOfferAnswer_refused (offers a) on hr refuse
      exact ⟨t, run, lasts said, dom⟩
    · obtain ⟨t, run, said, dom⟩ := domainOfferAnswer_accepted (offers a) shallow accepts (by omega)
      exact ⟨t, run, lasts said, by rw [dom, if_neg (by omega)]⟩
    · obtain ⟨t, run, said, dom⟩ := domainOfferAnswer_accepted (offers a) shallow accepts fun _ => rest
      exact ⟨t, run, lasts said, by rw [dom, if_pos two]⟩
    · obtain ⟨t, run, said, dom⟩ := domainAnswerTimeout_refused (offers a)
      exact ⟨t, run, lasts said, dom⟩
    · exact fun hr hs low high idle empty => ⟨_, rfl, taken rfl (by decide) (by decide) hr hs low high idle empty⟩
    · exact fun hr hs low high idle empty => ⟨_, rfl, taken rfl (by decide) (by decide) hr hs low high idle empty⟩
    · have back := domainReturn_awake asked up off
      exact ⟨_, rfl, back.on, back.rest⟩
  · intro s c v n mv q at_ cap
    obtain ⟨reads, capped⟩ := monitorReads_says s n.val mv.toNat
    exact ⟨pwVcmdWrite_taken, pwVcmdWrite_ignored, voltageCommandComplete_gives, voltageCommandFail_gives,
      ⟨_, rfl, reads.trans (Nat.mod_eq_of_lt mv.isLt), capped⟩, pwCoreclkWrite_gives⟩

end Sys2Proof.Machine
end
